-- ==== Sys2Proof/Word.lean ====
section
/-! DEFINITION. Word.lean: the words of the part, R1 and R3 of spec/00_scope.md.
A register and a memory word are 32 bits, a byte 8 bits, an accumulator 80 bits (R73 of
spec/03_stake_programming_model.md); counts, indexes and times are natural numbers. -/
namespace Sys2Proof

/-- A 32-bit register or memory word. -/
abbrev Word := BitVec 32

/-- One byte. -/
abbrev Byte := BitVec 8

/-- One 80-bit stake accumulator. -/
abbrev Acc := BitVec 80

/-- Sparse data: pairs of key and value, keys strictly rising, no entry equal to what an unlisted
key reads as. -/
abbrev SMap (α : Type) := List (Nat × α)

/-- An agent number of the bus matrix (R2 of spec/00_scope.md). -/
abbrev Agent := Fin 32

end Sys2Proof
end

