-- ==== Sys2Proof/Syntax/Link.lean ====
section
/-! DEFINITION. Syntax/Link.lean: Lysle link messages as commands carry them (R382, R383, R401, R402 of
spec/13_manager_and_workers.md). -/
namespace Sys2Proof

/-- A received message of the TYPE that the command names: the port and the source address of its frame, whether it crossed a
routed segment, and its bytes: header and body after EtherType 0x88B5, or the sealed UDP payload of R387. -/
structure LinkFrame where
  port : Fin 6
  mac : BitVec 48
  routed : Bool
  bytes : List Byte
deriving DecidableEq, Repr

/-- A zone command (R402). -/
structure ZoneCmd where
  due : BitVec 48
  zone : BitVec 16
  op : BitVec 8
  arg : BitVec 8
  tag : BitVec 16
  term : Word
  res : Word
deriving DecidableEq, Repr

/-- Where zone commands come from: a message, or at the manager its Warden or its host (R401). -/
inductive ZoneFrom where
  | msg (f : LinkFrame)
  | warden (l : List ZoneCmd)
  | host (qspi : Bool) (l : List ZoneCmd)
deriving DecidableEq, Repr

end Sys2Proof
end

