-- ==== Sys2Proof/Syntax/Net.lean ====
section
/-! DEFINITION. Syntax/Net.lean: frames as the network commands carry them (R256, R275, R295 to R298 of
spec/09_network_ports.md and spec/10_streams_and_pairing.md). -/
namespace Sys2Proof

/-- The MACsec state of a received frame (R275): unprotected, a malformed SecTAG, or a SecTAG that names a
secure channel, an association and a packet number, with the verdict on the ICV. -/
inductive SecTag where
  | clear
  | malformed
  | tag (sci : Nat) (an : Fin 4) (pn : Nat) (icvOk : Bool)
deriving DecidableEq, Repr

/-- The R-TAG of a stream frame (R300). -/
inductive RTag where
  | none
  | malformed
  | seq (n : BitVec 16)
deriving DecidableEq, Repr

/-- An AAF or RTP frame (R295 to R298): its stream_id, or destination address with the UDP port above bit
32; VLAN ID; SSRC; the format, coded as CTX_CFG.BITS (3 for any other); payload type and version of RTP;
channel count, bit depth and nsr of AAF; whether the stated length agrees with the frame; tv; stamp;
sequence number; R-TAG; and the bytes of its samples. -/
structure StreamFrame where
  rtp : Bool
  id : BitVec 64
  vid : Option (BitVec 12)
  ssrc : Word
  fmt : Fin 4
  pt : BitVec 7
  ver : BitVec 2
  chans : Nat
  depth : Nat
  nsr : BitVec 4
  lenOk : Bool
  tv : Bool
  stamp : Word
  seq : BitVec 16
  rtag : RTag
  data : List Byte
deriving DecidableEq, Repr

/-- A received frame: whether its FCS and symbols are good, its MACsec state, and its bytes from the destination address to
before the FCS, without SecTAG and ICV and in the clear. -/
structure NetFrame where
  good : Bool
  sec : SecTag
  bytes : List Byte
deriving DecidableEq, Repr

/-- Line modes of a link that comes up, as NET_STAT.SPEED codes them (R286). -/
inductive LineMode where
  | m25G | m10G | sgmii | t1000 | tx100 | sgmii100
deriving DecidableEq, Repr

end Sys2Proof
end

