-- ==== Sys2Proof/Machine/State/Weave.lean ====
section
/-! DEFINITION. Machine/State/Weave.lean: the state of the rounds, the Weave and the Border
(spec/01_rounds_and_levels.md, spec/02_weave_and_border.md) that lies outside their registers. -/
namespace Sys2Proof.Machine

/-- A ramp of R49 in progress: the working gain (Q4.40), its step, the target (Q4.20) and the ramp
samples still to come. -/
structure Ramp where
  big : Int
  step : Int
  target : Nat
  left : Nat
deriving DecidableEq, Repr

/-- A route entry image as software stages it: W0, W1 and W2 of R42. -/
structure Image where
  w0 : Word
  w1 : Word
  w2 : Word
deriving DecidableEq, Repr

/-- One route entry (R42) with what R49 to R55 and R538 keep beside its words: the gain of the last
ramp sample, the gain last shown in CUR_GAIN, a ramp in progress, the hold factor with its own ramp,
the two kinds of hold, a removal or a fade-out in progress with its waiting image, and whether an
uncorrectable error forces the contribution to 0 (R70). -/
structure Entry where
  img : Image
  gain : Nat
  cur : Nat
  ramp : Option Ramp
  hf : Nat
  hfRamp : Option Ramp
  holdAlarm : Bool
  holdPage : Bool
  removing : Bool
  fading : Bool
  waiting : Option Image
  ecc : Bool
deriving DecidableEq, Repr

/-- Operations of a Weave command (R44). -/
inductive RouteOp where
  | nop | set | change | remove | mute | unmute | cut
  | reserved (code : Nat)
deriving DecidableEq, Repr

/-- A route command: operation, entry index, staged image and SUCC_EN. -/
structure RouteCmd where
  op : RouteOp
  idx : Nat
  img : Image
  succEn : Bool
deriving DecidableEq, Repr

/-- A change accepted for a boundary: the round whose step 3 applies it, and the command. -/
structure RouteDue where
  due : Nat
  cmd : RouteCmd
deriving DecidableEq, Repr

/-- One biquad section's coefficients, Q5.27 (R62). -/
structure Coef where
  b0 : Word
  b1 : Word
  b2 : Word
  a1 : Word
  a2 : Word
deriving DecidableEq, Repr

/-- One biquad section's state, Q17.31 (R62). -/
structure BqState where
  x1 : Int
  x2 : Int
  y1 : Int
  y2 : Int
deriving DecidableEq, Repr

/-- The source filter of one outer slot (R56, R57): the code in effect and the state of its sections. -/
structure Hpf where
  code : Nat
  s1 : BqState
  s2 : BqState
deriving DecidableEq, Repr

/-- An internal generator (R60): phase accumulator and noise state. -/
structure Gen where
  phase : Nat
  lfsr : Nat
deriving DecidableEq, Repr

/-- A meter (R61): whether a window runs, its sum of squares so far, and the mean square of a window
that has ended and waits to be shown. -/
structure Meter where
  open_ : Bool
  acc : Nat
  ready : Option Nat
deriving DecidableEq, Repr

/-- The Weave beside its registers: whether passes run, the route table, the two command queues and
the changes accepted from each path, group writes waiting for step 4, source filters, generators and
their staged blocks, meters, and the wide sums of the passes whose Border pass is still to come, each with the
sample index of its pass. -/
structure Weave where
  running : Bool
  routes : SMap Entry
  queueC : List RouteCmd
  queueH : List RouteCmd
  dueC : List RouteDue
  dueH : List RouteDue
  agrpPend : List (Bool × Nat)
  hpf : SMap Hpf
  gens : SMap Gen
  genBlk : SMap Int
  meters : SMap Meter
  sums : List (Nat × SMap Int)
deriving DecidableEq, Repr

/-- Operations on one item of a Border channel (R67). -/
structure BorderCmd where
  ch : Nat
  item : Nat
  d : Coef
  clr : Bool
deriving DecidableEq, Repr

/-- A Border change accepted for a boundary. -/
structure BorderDue where
  due : Nat
  cmd : BorderCmd
deriving DecidableEq, Repr

/-- A Border channel record (R66): CTL and CEIL, limiter gain, counters, eight sections, the delay
line with the limiter's need of each waiting sample (newest first, R64), and the items not yet
rewritten while R539 mutes the channel. -/
structure Chan where
  ctl : Word
  ceil : Word
  limG : Nat
  clampCnt : Nat
  satCnt : Nat
  coef : List Coef
  st : List BqState
  delay : List Int
  need : List Nat
  muted : Bool
  left : List Nat
  rsv : SMap Word
deriving DecidableEq, Repr

/-- The Border beside its registers. -/
structure Border where
  running : Bool
  chans : SMap Chan
  queue : List BorderCmd
  due : List BorderDue
deriving DecidableEq, Repr

/-- Rounds (R15 to R27): sample rate, round size, round number, the instant of the last boundary and
the passes made since, and the samples deposited at and finished for outer
slots, by slot and sample position. -/
structure Sys where
  rate96 : Bool
  n : Nat
  roundNo : Nat
  roundStart : Nat
  pass : Nat
  dep : SMap Int
  out : SMap Int
deriving DecidableEq, Repr

def Weave.init : Weave :=
  { running := false, routes := [], queueC := [], queueH := [], dueC := [], dueH := [], agrpPend := [], hpf := [],
    gens := [], genBlk := [], meters := [], sums := [] }

def Border.init : Border := { running := false, chans := [], queue := [], due := [] }

/-- Rounds before a Skein has set them (R15): 48 kHz and 8 samples, DESIGN CHOICE. -/
def Sys.init : Sys := { rate96 := false, n := 8, roundNo := 0, roundStart := 0, pass := 0, dep := [], out := [] }

end Sys2Proof.Machine
end

