-- ==== Sys2Proof/Machine/State/Alarm.lean ====
section
/-! DEFINITION. Machine/State/Alarm.lean: the alarm path beside its registers (spec/07_alarm_path.md). -/
namespace Sys2Proof.Machine

/-- A latched alarm command (R195, R198, R541): starts, stops and resets, a contact input that leaves its
starting state, and a trigger whose message has played REPEAT times. -/
inductive AlarmCmd where
  | start (t : Nat)
  | stop (t : Nat)
  | reset
  | leave (i t : Nat)
  | played (t : Nat)
deriving DecidableEq, Repr

/-- Where a message's frame came from (R200): the admitted manager or standby manager over a MACsec link,
the pair partner over the pairing lanes, or any other source. -/
inductive AlarmFrom where
  | manager
  | partner
  | other
deriving DecidableEq, Repr

/-- A latched command with the fabric cycle in which it latched, and its place among those of one cycle (R541): inputs by
their number, then ALARM_CMD, then messages, then what else latches a command. -/
structure Latched where
  cycle : Nat
  rank : Nat
  cmd : AlarmCmd
deriving DecidableEq, Repr

/-- An alarm message: its body of 96 bytes (R199), its origin, and the source identity and port that the violation log
names. -/
structure AlarmMsg where
  body : List Byte
  origin : AlarmFrom
  src : Nat
  port : Nat
deriving DecidableEq, Repr

/-- The loop of a contact input: its raw band and since when it has held. -/
structure Loop where
  raw : Nat
  since : Nat
  counting : Bool
deriving DecidableEq, Repr

/-- A message being played (R204, R205): its number, the next output sample of the play, its gain ramp,
the chunks in the two buffers, the chunks to fetch, and whether it is the player's present message
rather than one fading out. -/
structure Voice where
  msg : Nat
  k : Nat
  gain : Nat
  ramp : Option Ramp
  ready : List Nat
  fetch : List Nat
  main : Bool
deriving DecidableEq, Repr

/-- A player: the trigger that holds it, the message and trigger it last started, its voices, complete
plays, the sample indexes whose emission ends a play, and what its status shows at each sample index staged:
STATE and POS. -/
structure Player where
  holder : Option Nat
  trig : Nat
  msg : Nat
  voices : List Voice
  plays : Nat
  ends : List Nat
  shown : List (Nat × Nat × Nat)
deriving DecidableEq, Repr

/-- A scene (R207, R208): its trigger, its number and start round, the groups it keeps engaged,
the fault bits it is still to set, each with its round, and whether its trigger has ended and only the release of its
groups is still to come. -/
structure SceneRun where
  trig : Nat
  scene : Nat
  start : Nat
  groups : List Nat
  bits : List (Nat × Nat)
  ended : Bool
deriving DecidableEq, Repr

/-- The alarm path: contact loops, latched commands, starts latched here that the partner has still to be told, the receive
queue, players, plays of each active trigger since its start, scenes, replay counters by key slot and by sender, and
whether XO_IN has stopped. -/
structure Alarm where
  loops : SMap Loop
  cmds : List Latched
  starts : List Nat
  rx : List AlarmMsg
  players : SMap Player
  plays : SMap Nat
  scenes : List SceneRun
  keyCtr : SMap Nat
  senderCtr : SMap Nat
  xoLost : Bool
deriving DecidableEq, Repr

def Alarm.init : Alarm :=
  { loops := [], cmds := [], starts := [], rx := [], players := [], plays := [], scenes := [], keyCtr := [], senderCtr := [],
    xoLost := false }

end Sys2Proof.Machine
end

