-- ==== Sys2Proof/Machine/State/Skein.lean ====
section
/-! DEFINITION. Machine/State/Skein.lean: what the Skein in force gives that no register holds (R435 of
spec/14_trust_and_startup.md and the chapters that use it). -/
namespace Sys2Proof.Machine

/-- A supervised line (R167, R168, R174): KV / KI times 1,000 as a fraction, so that it scales V / I to
mΩ, the cluster of its pilot program, the fabric addresses of its pilot and broadband report records,
and its baselines by band in mΩ. -/
structure SkLine where
  num : Nat
  den : Nat
  cluster : Nat
  pilot : Nat
  broad : Nat
  bands : List Nat
deriving DecidableEq, Repr

/-- A message record of the alarm section (R202). -/
structure SkMsg where
  present : Bool
  chunks : Nat
  start : Nat
  len : Nat
  digIdx : Nat
deriving DecidableEq, Repr

/-- The record of a message that is not present. -/
def SkMsg.none : SkMsg := { present := false, chunks := 0, start := 0, len := 0, digIdx := 0 }

/-- A scene step (R207). -/
structure SceneStep where
  offset : Nat
  op : Nat
  arg : Word
deriving DecidableEq, Repr

/-- What a parameter record is written for (R161): a zone preset, an alarm scene, or a change of a noise zone's boost. -/
inductive ParamOn where
  | preset (zone p : Nat)
  | scene (n : Nat)
  | boost (zone : Nat)
deriving DecidableEq, Repr

/-- A parameter record as the Skein gives it (R160): its cluster and position, KIND, TARGET and DATA. -/
structure SkParam where
  cluster : Nat
  pos : Nat
  kind : Nat
  target : Nat
  data : List Word
deriving DecidableEq, Repr

/-- What the fault policy maps to a bit of ALARM_FAULT_SW (R214, and R361 for disagreeing references). -/
inductive FaultSrc where
  | line (state : Nat)
  | mic (state : Nat)
  | point
  | health (bit : Nat)
  | ladder (step : Nat)
  | refs
deriving DecidableEq, Repr

/-- A node of the system (R382, R386, R390): its number, identity hash and station address; and where messages to it cross a
routed segment the Ethernet, IPv4 and UDP headers before the sealed payload, else nothing. -/
structure SkNode where
  num : Nat
  idh : Nat
  mac : Nat
  path : List Byte
deriving DecidableEq, Repr

/-- An endpoint of the system (R396). -/
structure SkEp where
  index : Nat
  kind : Nat
  node : Nat
  local_ : Nat
  zones : List Nat
deriving DecidableEq, Repr

/-- The binding of a zone (R401): its crosspoints and the presets, each a list of entries with their images. -/
structure SkZone where
  xps : List Nat
  presets : SMap (List (Nat × Image))
deriving DecidableEq, Repr

/-- The SYSTEM and POLICY sections (R380, R382, R386, R390, R391, R394, R397, R401 to R405, R409, R434, R445, R447): SYSID, this
node's number and role, its partner's number, the site multicast address, nodes, the managers' public keys, accepted
measurements and Skeins, the SSCI of each SCI, lifecycle states admitted, endpoints, zone bindings, zones that the manager's
host may command, LEAD, RESEND and REATTEST, mailboxes reached from outside, talkers of alarm contexts, ports that
carry Lysle link, capsule kinds open to the hosts, the thermal policy and ENDURANCE. -/
structure SkSystem where
  sysid : Nat
  node : Nat
  role : Nat
  peer : Nat
  mcast : Nat
  nodes : List SkNode
  mgrKeys : SMap (Nat × Nat)
  accepted : List Nat
  sscis : SMap Nat
  skds : List Nat
  lcs : List Nat
  eps : List SkEp
  zones : SMap SkZone
  hostZones : List Nat
  lead : Nat
  resend : Nat
  reattest : Nat
  boxes : List Nat
  talkers : SMap Nat
  ports : List Nat
  hostCaps : List Nat
  thermal : Nat
  endurance : Nat
deriving DecidableEq, Repr

/-- The system section of an Unconfigured part: a standalone node without anything. -/
def SkSystem.init : SkSystem :=
  { sysid := 0, node := 0xFFFF, role := 3, peer := 0xFFFF, mcast := 0, nodes := [], mgrKeys := [], accepted := [], sscis := [], skds := [], lcs := [], eps := [], zones := [], hostZones := [],
    lead := 24, resend := 4, reattest := 3600, boxes := [], talkers := [], ports := [], hostCaps := [], thermal := 0,
    endurance := 100000 }

/-- Skein content in force: lines, report records of monitor points and noise zones, crosspoints of noise
zones, the fabric addresses of the clusters' parameter areas and the parameter records, the GAIN that it gives each route entry, messages with the chunk digest table, the public keys of the key slots, scenes, the fault policy, the endpoint index of each
endpoint that this node hosts, by kind and local index (R400), the first 16 bytes of the signed digest, and of the pairing
section whether it is enabled, the digest mask and the sinks muted while not serving (R307, R308); and the system. -/
structure Skein where
  lines : SMap SkLine
  points : SMap Nat
  zones : SMap Nat
  zoneXp : SMap (List Nat)
  areas : SMap Nat
  params : List (ParamOn × SkParam)
  gains : SMap Nat
  msgs : SMap SkMsg
  chunkDigs : List Nat
  keys : SMap (Nat × Nat)
  scenes : SMap (List SceneStep)
  policy : List (FaultSrc × Nat)
  endpoints : List (Nat × Nat × Nat)
  digest16 : Nat
  pairOn : Bool
  pairMask : List Nat
  pairSinks : List Nat
  system : SkSystem
deriving DecidableEq, Repr

def Skein.init : Skein :=
  { lines := [], points := [], zones := [], zoneXp := [], areas := [], params := [], gains := [], msgs := [], chunkDigs := [], keys := [], scenes := [], policy := [],
    endpoints := [], digest16 := 0, pairOn := false, pairMask := [], pairSinks := [], system := SkSystem.init }

end Sys2Proof.Machine
end

