-- ==== Sys2Proof/Machine/State/Supv.lean ====
section
/-! DEFINITION. Machine/State/Supv.lean: supervision beside its registers
(spec/06_arrays_and_supervision.md). -/
namespace Sys2Proof.Machine

/-- Sums of a pilot measurement (R169): V and I, real and imaginary, and the samples summed. -/
structure Dem where
  vr : Int
  vi : Int
  ir : Int
  ii : Int
  n : Nat
deriving DecidableEq, Repr

/-- A line beside its registers: the source its estimate in progress comes from, the demodulator's sums
and a finished estimate, the SEQ of the last stake report and the instant it advanced, whether that
report is stale, the round since which its source is in use, consecutive estimates of CAND, consecutive deviations of
each band, the bands (as a mask) whose last measured ratio does not clear the thresholds by 5 points, and the sums and
count of estimates gathered for LEARN. -/
structure Line where
  hub : Bool
  dem : Dem
  ready : Option Dem
  seq : Word
  last : Nat
  stale : Bool
  turn : Nat
  run : Nat
  bands : List Nat
  near : Nat
  learn : Option Dem
deriving DecidableEq, Repr

/-- A microphone checker beside its registers: sums of the period in progress, a finished period, and the
consecutive periods of each check (STUCK in periods of 10 ms), whether STUCK held in the period in progress, periods of
OK, and those of the present candidate. -/
structure Mic where
  sq : Nat
  re : Int
  im : Int
  n : Nat
  ready : Option (Nat × Int × Int)
  stuck : Nat
  hit : Bool
  dead : Nat
  deaf : Nat
  loud : Nat
  fine : Nat
  cand : Nat
  held : Nat
deriving DecidableEq, Repr

/-- A monitor point: consecutive VALID estimates below TI_LOW, and estimates that were not VALID. -/
structure Point where
  low : Nat
  invalid : Nat
  seq : Word
deriving DecidableEq, Repr

/-- A noise zone: the boost before the actions still queued, the SEQ of its last report, and whether a base gain has been
replaced since its last actions. -/
structure Zone where
  prior : Nat
  seq : Word
  again : Bool
deriving DecidableEq, Repr

/-- A Rim sweep in progress (R188): when its estimates began and whether a state has changed. -/
structure Sweep where
  since : Nat
  changed : Bool
deriving DecidableEq, Repr

/-- A parameter record that waits to be written, and the round from which it applies (R161). -/
structure ParamJob where
  param : SkParam
  apply : Nat
deriving DecidableEq, Repr

/-- Supervision: lines, microphone checkers, monitor points, noise zones, base gains of the crosspoints
of noise zones, SEQ of broadband reports by line, a sweep, and parameter records still to be written. -/
structure Supv where
  lines : SMap Line
  mics : SMap Mic
  points : SMap Point
  zones : SMap Zone
  base : SMap Nat
  bbSeq : SMap Word
  sweep : Option Sweep
  params : List ParamJob
deriving DecidableEq, Repr

def Supv.init : Supv :=
  { lines := [], mics := [], points := [], zones := [], base := [], bbSeq := [], sweep := none, params := [] }

end Sys2Proof.Machine
end

