-- ==== Sys2Proof/Machine/State/Streams.lean ====
section
/-! DEFINITION. Machine/State/Streams.lean: the stream engine and pairing beside their registers
(spec/10_streams_and_pairing.md). -/
namespace Sys2Proof.Machine

/-- The stream channel slots that an active context binds (R290). -/
structure Binding where
  ctx : Nat
  rx : Bool
  slot : Nat
  chans : Nat
deriving DecidableEq, Repr

/-- A stream context beside its registers: whether its EN is in force; the samples deposited, by absolute
index; the stamp index and length of the last frame; the port gain, its ramp, and a fade or ramp-in in
progress; complete rounds in a row; the sequence numbers accepted within the recovery window, newest first, with
the instant of the last acceptance (R300); the source round last sent; and for R505 the instant of the last frame that matched,
the LATE count at the last boundary, and since when the context has been starved, or late in every round. -/
structure Ctx where
  on : Bool
  buf : SMap (List Int)
  last : Option (Int × Nat)
  gain : Nat
  ramp : Option Ramp
  fading : Bool
  ramping : Bool
  good : Nat
  recov : List Nat
  recovAt : Nat
  sent : Option Nat
  seen : Nat
  lateN : Nat
  badAt : Option Nat
deriving DecidableEq, Repr

/-- The stream engine: whether it runs, the slots bound, contexts, and the header templates by context, leg and
word (R301, R322). -/
structure Streams where
  running : Bool
  bound : List Binding
  ctxs : SMap Ctx
  tpl : SMap Word
  tplLen : SMap Nat
deriving DecidableEq, Repr

/-- What a CONTROL frame of the pair link says (R304, R313 to R319, R337, R339): a state, a request to rejoin, the end
of the bulk phase, a commit round, a transition for a step by an amount, a switchover round, or the stamps of
the last DIGEST frames on lane 0. -/
inductive PairCtl where
  | state (st : Nat)
  | rejoin
  | bulkEnd
  | commit (c0 : Nat)
  | step (a : Nat) (ofs : Int)
  | switch (r : Nat)
  | stamps (tx rx : Int)
deriving DecidableEq, Repr

/-- A record of Weave or Border dynamic state (R316). -/
inductive HubRec where
  | entry (i : Nat) (e : Entry)
  | hpf (slot : Nat) (h : Hpf)
  | gen (g : Nat) (x : Gen)
  | chan (b : Nat) (c : Chan)
deriving DecidableEq, Repr

/-- A memory record of the donor (R304, R316, R317): its fabric address and words, and whether it is a register image, sent by
REGS and not by MIRROR. -/
structure MemRec where
  addr : Nat
  words : List Word
  regs : Bool
deriving DecidableEq, Repr

/-- A frame for the partner (R304): a DIGEST, an alarm start with its positions, scheduled actions, a parameter change, a
CONTROL frame, memory records, or a record of hub state with its position. -/
inductive PairMsg where
  | digest (round pkg state health side skein : Nat) (cl : List Nat) (sink : Nat)
  | alarmStart (trig k ramp : Nat)
  | action (acts : List (List Word))
  | param (j : ParamJob)
  | control (c : PairCtl)
  | records (l : List MemRec)
  | hub (pos : Nat) (r : HubRec)
deriving DecidableEq, Repr

/-- A reliable frame of a lane that waits for its acknowledgement (R304), and how often it has been sent; not yet, while the
window before it is full. -/
structure LaneFrame where
  seq : Nat
  body : PairMsg
  sent : Nat
deriving DecidableEq, Repr

/-- One lane: whether it is up, the next LSEQ, frames not acknowledged, the highest LSEQ received in order, and the
last ACK received. -/
structure Lane where
  up : Bool
  next : Nat
  win : List LaneFrame
  got : Nat
  acked : Nat
deriving DecidableEq, Repr

/-- The digests of one round (R308): clusters, sinks and package, with the HEALTH sent or received with them. -/
structure DigRec where
  round : Nat
  cl : List Nat
  sink : Nat
  pkg : Nat
  health : Nat
deriving DecidableEq, Repr

/-- A rejoin in progress (R313 to R318): the role, boundary W, the commit round, the clusters committed with the
instant of the last commit, matching rounds in a row, the instant of the last acknowledgement, whether a joiner's
clusters are still to be held, at the next boundary (R130), and whether a donor has sent its hub state. -/
structure Rejoin where
  donor : Bool
  w : Option Nat
  c0 : Option Nat
  done : List Nat
  lastCommit : Nat
  matched : Nat
  ackAt : Nat
  hold : Bool
  hubSent : Bool
deriving DecidableEq, Repr

/-- An alarm start of the partner to be joined at the next step 4 (R37): trigger, player and ramp position, and
the sender's round. -/
structure Join where
  trig : Nat
  k : Nat
  ramp : Nat
  round : Nat
deriving DecidableEq, Repr

/-- Pairing beside its registers: lanes, frames sent other than the reliable ones, whether outputs are live, the
round last heard and since which the node listens, the last digests of each side, the partner's side and Skein,
a withdrawal or another change of state at the next boundary, the instant of withdrawal, a rejoin, the instants of failed
rejoins, alarm starts to join, error events seen at the last boundary, a switchover round, whether the partner
has been reported lost, data bytes mirrored in this round, the stamps of the last DIGEST frames on lane 0, the partner's, hub records
that wait for their pass, by position, and memory records that the donor is about to send. -/
structure Pair where
  lanes : List Lane
  out : List PairMsg
  serving : Bool
  heard : Option Nat
  listen : Option Nat
  own : List DigRec
  peer : List DigRec
  pside : Nat
  pskein : Nat
  withdraw : Bool
  goto : Option Nat
  outAt : Nat
  rejoin : Option Rejoin
  fails : List Nat
  joins : List Join
  errs : List Nat
  switch : Option Nat
  lost : Bool
  mirrored : Nat
  digTx : Int
  digRx : Int
  peerStamps : Option (Int × Int)
  hub : List (Nat × HubRec)
  mirror : List MemRec
deriving DecidableEq, Repr

/-- A lane. -/
def Lane.init : Lane := { up := false, next := 1, win := [], got := 0, acked := 0 }

def Streams.init : Streams := { running := false, bound := [], ctxs := [], tpl := [], tplLen := [] }

def Pair.init : Pair :=
  { lanes := [Lane.init, Lane.init], out := [], serving := true, heard := none, listen := none, own := [], peer := [],
    pside := 0, pskein := 0, withdraw := false, goto := none, outAt := 0, rejoin := none, fails := [], joins := [],
    errs := [], switch := none, lost := false, mirrored := 0, digTx := 0, digRx := 0, peerStamps := none, hub := [],
    mirror := [] }

end Sys2Proof.Machine
end

