-- ==== Sys2Proof/Syntax/Pair.lean ====
section
/-! DEFINITION. Syntax/Pair.lean: frames of the pair link as commands carry them (R303, R304, R309 of
spec/10_streams_and_pairing.md). -/
namespace Sys2Proof

/-- A pairing frame: the lane that it came on and the Ethernet frame, EtherType 0x88B6, with the header of R303 and a body. -/
structure PairFrame where
  lane : Fin 2
  frame : NetFrame
deriving DecidableEq, Repr

end Sys2Proof
end

