-- ==== Sys2Proof/Syntax/Ports.lean ====
section
/-! DEFINITION. Syntax/Ports.lean: operands of the port commands (spec/08_audio_ports.md). -/
namespace Sys2Proof

/-- An input with a port gain of its own (R221): a TDM port, an AES3 input, one of its subframes under
VMODE 1, or a converter channel. -/
inductive InputId where
  | tdm (n : Fin 32)
  | aes (i : Fin 4)
  | sub (i : Fin 4) (c : Fin 2)
  | asrc (ch : Fin 32)
deriving DecidableEq, Repr

/-- Causes of a loss (R221). -/
inductive LossCause where
  | clock | format | lock | validity | slip
deriving DecidableEq, Repr

/-- One subframe of an AES3 frame: its 24-bit word, its validity bit, and whether it has a parity error, or a
preamble or biphase violation. -/
structure SubFrame where
  word : BitVec 24
  v : Bool
  par : Bool
  viol : Bool
deriving DecidableEq, Repr

/-- One bit clock of a TDM port as its lines stand: frame sync and data at the rising and at the falling edge. -/
structure TdmClk where
  fsRise : Bool
  fsFall : Bool
  rise : Bool
  fall : Bool
deriving DecidableEq, Repr

end Sys2Proof
end

