-- ==== Sys2Proof/Syntax/Power.lean ====
section
/-! DEFINITION. Syntax/Power.lean: what the recovery commands carry (R505 of spec/16_power_health_recovery.md and the ladder tables R150, R247, R284, R375, R449, R475). -/
namespace Sys2Proof

/-- A function found wedged past its limit. -/
inductive Wedge where
  | cluster (c : Fin 16)
  | tdm (n : Fin 32)
  | aesIn (i : Fin 4)
  | converter (ch : Fin 32)
  | netTx (p : Fin 6)
  | netRx (p : Fin 6)
  | rxRing (r : Fin 4)
  | macsec (p : Fin 7)
  | netCtl
  | stream (i : Fin 511)
  | routePort (host : Bool)
  | borderPort
  | saQueue
  | player (p : Fin 16)
  | lpddr
  | refSwitch
  | refPhase
  | capsule
  | bootCtl
  | flash
  | masterPort (p : Fin 35)
  | pcie
  | qspi
  | targetPath
deriving DecidableEq, Repr

end Sys2Proof
end

