-- ==== Sys2Proof/Syntax/Ptp.lean ====
section
/-! DEFINITION. Syntax/Ptp.lean: PTP messages as commands carry them (R325, R326, R333 of
spec/11_network_time.md). Times are in units of 2^-16 ns. -/
namespace Sys2Proof

/-- The header of a PTP message: the port it came in on, the sender's port identity, domain, sequenceId, the source
address of its frame, and whether the message is well formed. -/
structure PtpHdr where
  port : Fin 6
  src : BitVec 80
  domain : BitVec 8
  seq : BitVec 16
  mac : BitVec 48
  ok : Bool
deriving DecidableEq, Repr

/-- The data set of an Announce message. -/
structure PtpAnnounce where
  prio1 : BitVec 8
  cls : BitVec 8
  acc : BitVec 8
  var_ : BitVec 16
  prio2 : BitVec 8
  gm : BitVec 64
  steps : BitVec 16
deriving DecidableEq, Repr

/-- The eight words of a scheduled action as staged (R343). -/
structure SaWords where
  w0 : Word
  w1 : Word
  w2 : Word
  w3 : Word
  w4 : Word
  w5 : Word
  w6 : Word
  w7 : Word
deriving DecidableEq, Repr

/-- The words in order. -/
def SaWords.list (x : SaWords) : List Word := [x.w0, x.w1, x.w2, x.w3, x.w4, x.w5, x.w6, x.w7]

end Sys2Proof
end

