-- ==== Sys2Proof/Syntax/Stake.lean ====
section
/-! DEFINITION. Syntax/Stake.lean: the operands of stake instructions (R111, R112, R117 to R125 of
spec/04_stake_instruction_set.md). -/
namespace Sys2Proof

/-- First load slot L1: space C or X, destination, address register and mode (R112). -/
structure Load1 where
  coil : Bool
  dst : Fin 32
  preg : Fin 8
  mode : Fin 8
deriving DecidableEq, Repr

/-- Second load slot L2: always from Y (R112). -/
structure Load2 where
  dst : Fin 32
  preg : Fin 8
  mode : Fin 8
deriving DecidableEq, Repr

/-- Part of an accumulator: l, h or g (R73). -/
inductive Part where
  | l | h | g
deriving DecidableEq, Repr

/-- Data space of a store. -/
inductive Space where
  | x | y | c
deriving DecidableEq, Repr

/-- What a store slot writes: a d register, a rounded accumulator with its shift, or a raw part (R113). -/
inductive StoreSrc where
  | reg (i : Fin 32)
  | rnd (a : Fin 8) (k : Fin 16)
  | raw (a : Fin 8) (part : Part)
deriving DecidableEq, Repr

/-- Store slot S (R112). -/
structure Store where
  sp : Space
  preg : Fin 8
  mode : Fin 8
  src : StoreSrc
deriving DecidableEq, Repr

/-- Memory slots of a format P instruction. -/
structure PSlots where
  l1 : Option Load1
  l2 : Option Load2
  st : Option Store
deriving DecidableEq, Repr

/-- Memory slots of a format R instruction. -/
structure RSlots where
  l2 : Option Load2
  st : Option Store
deriving DecidableEq, Repr

/-- Signedness of a product (R124). -/
inductive Sg where
  | ss | su | uu
deriving DecidableEq, Repr

/-- Special registers of MOVFR, MOVTO and LDIA (R123). -/
inductive SReg where
  | p (n : Fin 8) | m (n : Fin 8) | b (n : Fin 8) | l (n : Fin 8)
  | lc (n : Fin 4) | st | rcnt
deriving DecidableEq, Repr

/-- Conditions of BRC (R125). -/
inductive Cond where
  | zf | nzf | nf | nnf | gt | le
  | ac (n : Fin 8) | nac (n : Fin 8)
deriving DecidableEq, Repr

end Sys2Proof
end

