-- ==== Sys2Proof/Machine/State/Trust.lean ====
section
/-! DEFINITION. Machine/State/Trust.lean: trust, start-up and the log (spec/14_trust_and_startup.md). -/
namespace Sys2Proof.Machine

/-- A record of the log area (R423): type, sequence number, round number and payload. -/
structure LogRec where
  ty : Nat
  seq : Nat
  round : Nat
  data : List Nat
deriving DecidableEq, Repr

/-- A component of a firmware bundle: version, SVN, SKEIN interface generation, the ABI levels that microcode accepts,
its place in the slot and length, and digest. -/
structure Comp where
  ver : Nat
  svn : Nat
  ig : Nat
  abiLo : Nat
  abiHi : Nat
  off : Nat
  len : Nat
  digest : Nat
deriving DecidableEq, Repr

/-- The header of a firmware bundle: its version, the digest that its signature covers and the 96 bytes of that, its components
(stage-2, Warden, Net controller, microcode), and its compatibility list of TREL and versions (R424). -/
structure Bundle where
  ver : Nat
  signed : Nat
  sig : List Byte
  comps : List Comp
  list : List (Nat × List Nat)
deriving DecidableEq, Repr

/-- A stake of a schedule record (R144): its program and ABI level, wale, entry address, output channels that the digest
covers, proved cycle count at each operating point, and whether it is enabled. -/
structure SkStake where
  prog : Nat
  abi : Nat
  wale : Nat
  entry : Nat
  digCnt : Nat
  wcc : List Nat
  en : Bool
deriving DecidableEq, Repr

/-- A cluster schedule record (R144), with the digest of its latency proof record. -/
structure SkRecord where
  cluster : Fin 16
  nomOp : Nat
  minOp : Nat
  wales : Nat
  dmaAddr : Nat
  dmaCount : Nat
  stakes : List SkStake
  proof_ : Nat
deriving DecidableEq, Repr

/-- A node record of the SYSTEM section (R435). -/
structure NodeRec where
  idh : Nat
  node : Nat
  role : Nat
  side : Nat
deriving DecidableEq, Repr

/-- What the sections of a stored Skein spell beyond their bytes in flash (R434 to R437): node records, the bytes of its
schedule records, message records, chunk digest table and scenes, round configuration, whether its
sections pass the checks that chapters place on them beside those of R83, R145, R202 and R207, and what they make of the part:
registers in the order they are written, words of the route table and Border records by offset in retention SRAM, words of
the cluster images by fabric address, clusters that run, header templates, and the rest. -/
structure SkImage where
  nodes : List NodeRec
  schedule : List Byte
  messages : List Byte
  chunkTable : List Byte
  scenes : SMap (List Byte)
  rate96 : Bool
  n : Nat
  fits : Bool
  regs : List (Nat × Word)
  table : List (Nat × Word)
  images : List (Nat × Word)
  clusters : List Nat
  tpl : List (Nat × Word)
  tplLen : List (Nat × Nat)
  conf : Skein
deriving DecidableEq, Repr

/-- A flash program or erase in progress (R422): erase or program, byte address, and the bytes to program. -/
structure FlashOp where
  erase : Bool
  addr : Nat
  bytes : List Byte
deriving DecidableEq, Repr

/-- Trust beside its registers: the log and its next SEQ; the owner key hash of each slot and the revoked firmware keys (R416);
the secret store as it is sealed; the site secret with its key number, and those that come into effect next (R416, R418); the
AN whose receive associations stay until the receive channels given, by port and number, have changed over (R386); the last
accepted capsule counter; bundles of slots A and B and the golden area; Skeins of slots A and B; the retained mark (digest,
slot and TREL); the components of the running tuple; the slot of the running Skein; since when a TRIAL Skein runs audio; the
flash operation; whether a debug nonce is fresh; whether the debug port has been opened since power-on; and the agent of an in-place
activation that waits for a round boundary, with the messages whose read will fail (R440). -/
structure Trust where
  log : List LogRec
  logSeq : Nat
  owners : SMap Nat
  revoked : List Nat
  store : Option (List Byte)
  site : Option (List Byte × Nat)
  siteNext : Option (List Byte × Nat)
  anOld : Option (Nat × List (Nat × Nat))
  capCtr : Nat
  fwA : Option Bundle
  fwB : Option Bundle
  gold : Option Bundle
  skA : Option SkImage
  skB : Option SkImage
  mark : Option (Nat × Nat × Nat)
  comps : List Comp
  run : Option Nat
  trialAt : Option Nat
  flOp : Option FlashOp
  nonceNew : Bool
  debugged : Bool
  inPlace : Option (Nat × List Nat)
deriving DecidableEq, Repr

def Trust.init : Trust :=
  { log := [], logSeq := 0, owners := [], revoked := [], store := none, site := none, siteNext := none, anOld := none, capCtr := 0,
    fwA := none, fwB := none, gold := none, skA := none, skB := none, mark := none, comps := [], run := none, trialAt := none,
    flOp := none, nonceNew := false, debugged := false, inPlace := none }

end Sys2Proof.Machine
end

