-- ==== Sys2Proof/Syntax/Trust.lean ====
section
/-! DEFINITION. Syntax/Trust.lean: what a start finds (R203, R419, R426 of spec/14_trust_and_startup.md). -/
namespace Sys2Proof

/-- What a start finds outside the machine's state: whether the SFDP check passes, whether the retained copies hash to their
digests, and the messages whose chunk 0 cannot be read. -/
structure BootIn where
  sfdpOk : Bool
  copiesOk : Bool
  badMsgs : List Nat
deriving DecidableEq, Repr

end Sys2Proof
end

