-- ==== Sys2Proof/Syntax.lean ====
section
/-! DEFINITION. Syntax.lean: the commands, one constructor per row of the opcode table: those of
the stakes first, then the others in the table's order. Each
docstring names the rule the row rests on. -/
namespace Sys2Proof
open Machine

/-- A command to the part. -/
inductive Instr where
  /-- PNOP (R117). -/
  | pnop (k : Fin 128) (m : PSlots)
  /-- QMAC (R124). -/
  | qmac (k : Fin 128) (g : Fin 2) (x y : Fin 8) (m : PSlots)
  /-- QMSU (R124). -/
  | qmsu (k : Fin 128) (g : Fin 2) (x y : Fin 8) (m : PSlots)
  /-- QMUL (R124). -/
  | qmul (k : Fin 128) (g : Fin 2) (x y : Fin 8) (m : PSlots)
  /-- QDOT (R124). -/
  | qdot (k : Fin 128) (a x y : Fin 8) (m : PSlots)
  /-- QDOTZ (R124). -/
  | qdotz (k : Fin 128) (a x y : Fin 8) (m : PSlots)
  /-- BMAC (R117). -/
  | bmac (k : Fin 128) (g : Fin 2) (c : Fin 32) (w : Fin 8) (m : PSlots)
  /-- FTAPZ (R127). -/
  | ftapz (k : Fin 128) (g : Fin 2) (c : Fin 32) (w : Fin 8) (m : PSlots)
  /-- FTAP (R127). -/
  | ftap (k : Fin 128) (g : Fin 2) (c : Fin 32) (w : Fin 8) (m : PSlots)
  /-- PMAC (R117). -/
  | pmac (k : Fin 128) (a : Fin 8) (x : Fin 32) (y : Fin 16) (m : PSlots)
  /-- PMSU (R117). -/
  | pmsu (k : Fin 128) (a : Fin 8) (x : Fin 32) (y : Fin 16) (m : PSlots)
  /-- PMUL (R117). -/
  | pmul (k : Fin 128) (a : Fin 8) (x : Fin 32) (y : Fin 16) (m : PSlots)
  /-- FDLY (R128). -/
  | fdly (k : Fin 128) (a w : Fin 8) (f : Fin 32) (sh : Bool) (m : PSlots)
  /-- ADD (R121). -/
  | add (k : Fin 128) (d s1 s2 : Fin 32) (m : RSlots)
  /-- SUB (R121). -/
  | sub (k : Fin 128) (d s1 s2 : Fin 32) (m : RSlots)
  /-- ADDS (R121). -/
  | adds (k : Fin 128) (d s1 s2 : Fin 32) (m : RSlots)
  /-- SUBS (R121). -/
  | subs (k : Fin 128) (d s1 s2 : Fin 32) (m : RSlots)
  /-- AND (R121). -/
  | and (k : Fin 128) (d s1 s2 : Fin 32) (m : RSlots)
  /-- OR (R121). -/
  | or (k : Fin 128) (d s1 s2 : Fin 32) (m : RSlots)
  /-- XOR (R121). -/
  | xor (k : Fin 128) (d s1 s2 : Fin 32) (m : RSlots)
  /-- MIN (R121). -/
  | min (k : Fin 128) (d s1 s2 : Fin 32) (m : RSlots)
  /-- MAX (R121). -/
  | max (k : Fin 128) (d s1 s2 : Fin 32) (m : RSlots)
  /-- SHL (R121). -/
  | shl (k : Fin 128) (d s1 s2 : Fin 32) (m : RSlots)
  /-- SHR (R121). -/
  | shr (k : Fin 128) (d s1 s2 : Fin 32) (m : RSlots)
  /-- SHRA (R121). -/
  | shra (k : Fin 128) (d s1 s2 : Fin 32) (m : RSlots)
  /-- MOV (R118). -/
  | mov (k : Fin 128) (d s1 : Fin 32) (m : RSlots)
  /-- NEG (R121). -/
  | neg (k : Fin 128) (d s1 : Fin 32) (m : RSlots)
  /-- ABS (R121). -/
  | abs (k : Fin 128) (d s1 : Fin 32) (m : RSlots)
  /-- NOT (R121). -/
  | not (k : Fin 128) (d s1 : Fin 32) (m : RSlots)
  /-- SLIDE (R122). -/
  | slide (k : Fin 128) (d src : Fin 32) (len : Fin 3) (m : RSlots)
  /-- ADDI (R121). -/
  | addi (k : Fin 128) (d s1 : Fin 32) (imm : BitVec 12) (m : RSlots)
  /-- ANDI (R121). -/
  | andi (k : Fin 128) (d s1 : Fin 32) (imm : BitVec 12) (m : RSlots)
  /-- SHLI (R121). -/
  | shli (k : Fin 128) (d s1 sh : Fin 32) (m : RSlots)
  /-- SHRI (R121). -/
  | shri (k : Fin 128) (d s1 sh : Fin 32) (m : RSlots)
  /-- SHRAI (R121). -/
  | shrai (k : Fin 128) (d s1 sh : Fin 32) (m : RSlots)
  /-- CMP (R121). -/
  | cmp (k : Fin 128) (s1 s2 : Fin 32) (m : RSlots)
  /-- CMPI (R121). -/
  | cmpi (k : Fin 128) (s1 : Fin 32) (imm : BitVec 12) (m : RSlots)
  /-- MOVFR (R123). -/
  | movfr (k : Fin 128) (d : Fin 32) (x : SReg) (m : RSlots)
  /-- MOVTO (R123). -/
  | movto (k : Fin 128) (d : Fin 32) (x : SReg) (m : RSlots)
  /-- MAC (R124). -/
  | mac (k : Fin 128) (a : Fin 8) (x y : Fin 32) (sg : Sg) (m : RSlots)
  /-- MSU (R124). -/
  | msu (k : Fin 128) (a : Fin 8) (x y : Fin 32) (sg : Sg) (m : RSlots)
  /-- MUL (R124). -/
  | mul (k : Fin 128) (a : Fin 8) (x y : Fin 32) (sg : Sg) (m : RSlots)
  /-- MULN (R124). -/
  | muln (k : Fin 128) (a : Fin 8) (x y : Fin 32) (sg : Sg) (m : RSlots)
  /-- ACLR (R86). -/
  | aclr (k : Fin 128) (a : Fin 8) (m : RSlots)
  /-- AADD (R124). -/
  | aadd (k : Fin 128) (a b : Fin 8) (m : RSlots)
  /-- ASUB (R124). -/
  | asub (k : Fin 128) (a b : Fin 8) (m : RSlots)
  /-- MOVA (R86). -/
  | mova (k : Fin 128) (a : Fin 8) (x : Fin 32) (m : RSlots)
  /-- MOVAP (R124). -/
  | movap (k : Fin 128) (a : Fin 8) (part : Part) (x : Fin 32) (m : RSlots)
  /-- RND (R90). -/
  | rnd (k : Fin 128) (d : Fin 32) (a : Fin 8) (sh : Fin 16) (m : RSlots)
  /-- RAW (R91). -/
  | raw (k : Fin 128) (d : Fin 32) (a : Fin 8) (part : Part) (m : RSlots)
  /-- LDA (R118). -/
  | lda (k : Fin 128) (a : Fin 8) (coil : Bool) (p mode : Fin 8) (m : RSlots)
  /-- BR (R97). -/
  | br (k : Fin 128) (t : Fin 8192)
  /-- BRC (R125). -/
  | brc (k : Fin 128) (c : Cond) (t : Fin 8192)
  /-- CALL (R101). -/
  | call (k : Fin 128) (t : Fin 8192)
  /-- RET (R101). -/
  | ret (k : Fin 128)
  /-- REP (R96). -/
  | rep (k : Fin 128) (stop : Fin 8192) (count : BitVec 16)
  /-- REPD (R96). -/
  | repd (k : Fin 128) (stop : Fin 8192) (d : Fin 32)
  /-- DONE (R102). -/
  | done (k : Fin 128)
  /-- LDI (R119). -/
  | ldi (k : Fin 128) (d : Fin 32) (imm : Word)
  /-- LDIA (R123). -/
  | ldia (k : Fin 128) (x : SReg) (imm : BitVec 20)
  /-- RESERVED_INSTRUCTION (R110). -/
  | reservedInstruction (k : Fin 128)
  /-- ROUND_BOUNDARY (R27). -/
  | roundBoundary (late : List (Fin 16 × Nat))
  /-- WEAVE_PASS (R20). -/
  | weavePass
  /-- BORDER_PASS (R62). -/
  | borderPass
  /-- WEAVE_NOP (R44). -/
  | weaveNop (host : Bool) (a : Agent) (idx : Fin 32768) (w0 w1 w2 : Word) (succEn : Bool)
  /-- WEAVE_SET (R44). -/
  | weaveSet (host : Bool) (a : Agent) (idx : Fin 32768) (w0 w1 w2 : Word) (succEn : Bool)
  /-- WEAVE_CHANGE (R50). -/
  | weaveChange (host : Bool) (a : Agent) (idx : Fin 32768) (w0 w1 w2 : Word) (succEn : Bool)
  /-- WEAVE_REMOVE (R44). -/
  | weaveRemove (host : Bool) (a : Agent) (idx : Fin 32768) (w0 w1 w2 : Word) (succEn : Bool)
  /-- WEAVE_MUTE (R44). -/
  | weaveMute (host : Bool) (a : Agent) (idx : Fin 32768) (w0 w1 w2 : Word) (succEn : Bool)
  /-- WEAVE_UNMUTE (R44). -/
  | weaveUnmute (host : Bool) (a : Agent) (idx : Fin 32768) (w0 w1 w2 : Word) (succEn : Bool)
  /-- WEAVE_CUT (R44). -/
  | weaveCut (host : Bool) (a : Agent) (idx : Fin 32768) (w0 w1 w2 : Word) (succEn : Bool)
  /-- WEAVE_CMD_VALIDATE (R45). -/
  | weaveCmdValidate (host : Bool)
  /-- WEAVE_AGRP_SET (R53). -/
  | weaveAgrpSet (a : Agent) (grp : Fin 4096)
  /-- WEAVE_AGRP_CLR (R53). -/
  | weaveAgrpClr (a : Agent) (grp : Fin 4096)
  /-- WEAVE_HPF_WRITE (R57). -/
  | weaveHpfWrite (a : Agent) (n : Fin 512) (v : Word)
  /-- WEAVE_GEN_CFG_WRITE (R60). -/
  | weaveGenCfgWrite (a : Agent) (g : Fin 64) (v : Word)
  /-- WEAVE_MTR_CLR (R61). -/
  | weaveMtrClr (a : Agent) (m : Fin 64) (v : Word)
  /-- METER_WINDOW_END (R61). -/
  | meterWindowEnd (m : Fin 64)
  /-- WEAVE_RUN_WRITE (R68). -/
  | weaveRunWrite (a : Agent) (v : Word)
  /-- ROUTE_TABLE_WRITE (R41). -/
  | routeTableWrite (a : Agent) (w : Fin 196608) (v : Word)
  /-- BORDER_RUN_WRITE (R68). -/
  | borderRunWrite (a : Agent) (v : Word)
  /-- BORDER_SECTION_WRITE (R67). -/
  | borderSectionWrite (a : Agent) (ch : Fin 512) (k : Fin 8) (b0 b1 b2 a1 a2 : Word) (clr : Bool)
  /-- BORDER_CTL_WORD_WRITE (R65). -/
  | borderCtlWordWrite (a : Agent) (ch : Fin 512) (d0 d1 d2 d3 d4 : Word) (clr : Bool)
  /-- BORDER_CEIL_WRITE (R67). -/
  | borderCeilWrite (a : Agent) (ch : Fin 512) (d0 d1 d2 d3 d4 : Word) (clr : Bool)
  /-- BORDER_CMD_VALIDATE (R67). -/
  | borderCmdValidate
  /-- ROUTE_ENTRY_ECC_UE (R70). -/
  | routeEntryEccUe (i : Fin 32768)
  /-- BORDER_RECORD_ECC_UE (R539). -/
  | borderRecordEccUe (ch : Fin 512)
  /-- COIL_GRANT (R135). -/
  | coilGrant (k : Fin 128) (wait : Fin 41)
  /-- STAKE_DONE_SIGNAL (R102). -/
  | stakeDoneSignal (k : Fin 128)
  /-- WALE_START (R131). -/
  | waleStart (c : Fin 16)
  /-- BUDGET_POINT (R147). -/
  | budgetPoint (c : Fin 16)
  /-- DIGEST_WRITE (R153). -/
  | digestWrite (c : Fin 16)
  /-- CL_CTL_START (R158). -/
  | clCtlStart (a : Agent) (c : Fin 16)
  /-- CL_CTL_REINIT (R150). -/
  | clCtlReinit (a : Agent) (c : Fin 16)
  /-- CL_CTL_ISOLATE (R151). -/
  | clCtlIsolate (a : Agent) (c : Fin 16) (on : Bool)
  /-- LOADING_DONE (R150). -/
  | loadingDone (c : Fin 16)
  /-- THROTTLE_DOWN (R154). -/
  | throttleDown (r : Fin 4)
  /-- THROTTLE_UP (R154). -/
  | throttleUp (r : Fin 4)
  /-- TEMP_SENSOR_UPDATE (R494). -/
  | tempSensorUpdate (i : Fin 20) (t : BitVec 8)
  /-- CD_TRIP (R495). -/
  | cdTrip (i : Fin 16)
  /-- THERMAL_UNGATE (R495). -/
  | thermalUngate (r : Fin 4)
  /-- PILOT_ESTIMATE (R169). -/
  | pilotEstimate (l : Fin 512)
  /-- REPORT_STALE (R170). -/
  | reportStale (l : Fin 512)
  /-- BROADBAND_ESTIMATE (R174). -/
  | broadbandEstimate (l : Fin 512)
  /-- SUPV_LEARN (R175). -/
  | supvLearn (a : Agent)
  /-- LEARN_DONE (R175). -/
  | learnDone
  /-- LINE_STATE_WRITE (R190). -/
  | lineStateWrite (a : Agent) (l : Fin 512) (v : Word)
  /-- MIC_CHECK_PERIOD (R176). -/
  | micCheckPeriod (m : Fin 128)
  /-- PDM_DENSITY_PERIOD (R233). -/
  | pdmDensityPeriod (m : Fin 32) (ones : BitVec 16) (steady : Bool)
  /-- TI_ESTIMATE (R181). -/
  | tiEstimate (i : Fin 64)
  /-- AMBIENT_REPORT (R183). -/
  | ambientReport (z : Fin 64)
  /-- SWEEP_END (R188). -/
  | sweepEnd
  /-- CONTACT_BAND_CHANGE (R192). -/
  | contactBandChange (i : Fin 16) (v : Fin 10001)
  /-- CONTACT_FILTER_ACCEPT (R193). -/
  | contactFilterAccept (i : Fin 16)
  /-- ALARM_MSG_ARRIVAL (R200). -/
  | alarmMsgArrival (p : Fin 7) (src : BitVec 48) (prot : Bool) (body : List Byte)
  /-- ALARM_MSG_START (R200). -/
  | alarmMsgStart
  /-- ALARM_MSG_STOP (R200). -/
  | alarmMsgStop
  /-- ALARM_MSG_RESET (R200). -/
  | alarmMsgReset
  /-- ALARM_CMD_START (R217). -/
  | alarmCmdStart (a : Agent) (t : Fin 64)
  /-- ALARM_CMD_STOP (R217). -/
  | alarmCmdStop (a : Agent) (t : Fin 64)
  /-- ALARM_CMD_RESET (R217). -/
  | alarmCmdReset (a : Agent)
  /-- ALARM_RUN_WRITE (R540). -/
  | alarmRunWrite (a : Agent) (v : Word)
  /-- MESSAGE_PLAY_END (R542). -/
  | messagePlayEnd (p : Fin 16)
  /-- CHUNK_FETCH_DONE (R205). -/
  | chunkFetchDone (p : Fin 16) (read : Bool)
  /-- TAIL_FAIL (R206). -/
  | tailFail (p : Fin 16)
  /-- XO_LOSS (R373). -/
  | xoLoss
  /-- TDM_RX_FRAME (R218). -/
  | tdmRxFrame (n : Fin 32) (line : List TdmClk) (rate : BitVec 18) (delay : Nat)
  /-- TDM_TX_FRAME (R218). -/
  | tdmTxFrame (n : Fin 32) (late : Nat)
  /-- INPUT_LOSS (R221). -/
  | inputLoss (i : InputId) (c : LossCause)
  /-- INPUT_FADE_END (R222). -/
  | inputFadeEnd (i : InputId)
  /-- INPUT_RETURN (R222). -/
  | inputReturn (i : InputId)
  /-- INPUT_RAMP_END (R222). -/
  | inputRampEnd (i : InputId)
  /-- TDM_MASK_WRITE (R229). -/
  | tdmMaskWrite (a : Agent) (n : Fin 32) (tx : Bool) (v : Word)
  /-- TDM_MASK_COMMIT (R229). -/
  | tdmMaskCommit (n : Fin 32)
  /-- TDM_RUN_WRITE (R228). -/
  | tdmRunWrite (a : Agent) (n : Fin 32) (v : Word)
  /-- PDM_MIC_ENABLE (R233). -/
  | pdmMicEnable (a : Agent) (v : Word)
  /-- PDM_WAKE_END (R233). -/
  | pdmWakeEnd (j : Fin 8)
  /-- AES_LOCK (R234). -/
  | aesLock (i : Fin 4)
  /-- AES_LOCK_LOSS (R234). -/
  | aesLockLoss (i : Fin 4)
  /-- AES_CS_BLOCK (R234). -/
  | aesCsBlock (i : Fin 4) (c : Fin 2) (bytes : List Byte)
  /-- ASRC_LOCK (R238). -/
  | asrcLock (ch : Fin 32) (ratio : Word) (dev : Fin 513)
  /-- ASRC_LOCK_LOSS (R238). -/
  | asrcLockLoss (ch : Fin 32)
  /-- TRIG_IN_EDGE (R240). -/
  | trigInEdge (a b : Bool)
  /-- NET_FRAME_RECEIVE (R256). -/
  | netFrameReceive (p : Fin 7) (f : NetFrame)
  /-- PAUSE_FRAME_RECEIVE (R267). -/
  | pauseFrameReceive (p : Fin 7) (f : NetFrame) (quanta : BitVec 16)
  /-- PAUSE_END (R267). -/
  | pauseEnd (p : Fin 7)
  /-- PAUSE_WATCHDOG (R268). -/
  | pauseWatchdog (p : Fin 7)
  /-- TX_FRAME_START (R259). -/
  | txFrameStart (p : Fin 7)
  /-- GATE_ENTRY_CHANGE (R261). -/
  | gateEntryChange (p : Fin 6)
  /-- GCL_COMMIT (R262). -/
  | gclCommit (a : Agent) (p : Fin 7) (v : Word)
  /-- NET_RESTART (R286). -/
  | netRestart (a : Agent) (p : Fin 7) (en : Bool)
  /-- LINK_UP (R254). -/
  | linkUp (l : Fin 8) (m : LineMode)
  /-- LINK_DOWN (R254). -/
  | linkDown (l : Fin 8)
  /-- SPEED_LOWER_TRY (R254). -/
  | speedLowerTry (p : Fin 6)
  /-- LPI_ENTRY (R269). -/
  | lpiEntry (p : Fin 2)
  /-- TX_RING_TAIL_WRITE (R271). -/
  | txRingTailWrite (a : Agent) (p : Fin 7) (v : Word)
  /-- RX_RING_TAIL_WRITE (R271). -/
  | rxRingTailWrite (a : Agent) (r : Fin 4) (v : Word)
  /-- NET_VLOG_GO (R279). -/
  | netVlogGo (a : Agent)
  /-- VIOLATION_WINDOW_END (R280). -/
  | violationWindowEnd (e : Fin 64) (c : Fin 256)
  /-- QUARANTINE_END (R280). -/
  | quarantineEnd (e : Fin 64)
  /-- NET_QCLR (R287). -/
  | netQclr (a : Agent) (e : Fin 64)
  /-- STREAM_FRAME_SEND (R292). -/
  | streamFrameSend (i : Fin 511)
  /-- CTX_ENABLE (R291). -/
  | ctxEnable (a : Agent) (i : Fin 511) (v : Word)
  /-- FRER_RESET_TIMEOUT (R300). -/
  | frerResetTimeout (i : Fin 511)
  /-- DIGEST_FRAME_SEND (R309). -/
  | digestFrameSend
  /-- PAIR_DIGEST_RECEIVE (R309). -/
  | pairDigestReceive (p : PairFrame)
  /-- PARTNER_LOST (R312). -/
  | partnerLost
  /-- PAIR_ALARM_START_RECEIVE (R37). -/
  | pairAlarmStartReceive (p : PairFrame) (t : Fin 64) (k ramp : Nat)
  /-- PAIR_ACTION_RECEIVE (R348). -/
  | pairActionReceive (p : PairFrame) (acts : List (List Word)) (params : List Machine.ParamJob)
  /-- PAIR_COPY_RECEIVE (R316). -/
  | pairCopyReceive (p : PairFrame)
  /-- PAIR_MIRROR_RECEIVE (R316). -/
  | pairMirrorReceive (p : PairFrame)
  /-- PAIR_REGS_RECEIVE (R317). -/
  | pairRegsReceive (p : PairFrame)
  /-- PAIR_HUB_RECEIVE (R316). -/
  | pairHubReceive (p : PairFrame) (pos : Fin 16) (r : HubRec)
  /-- PAIR_CONTROL_RECEIVE (R316). -/
  | pairControlReceive (p : PairFrame) (c : PairCtl)
  /-- PAIR_LANE_RESEND (R304). -/
  | pairLaneResend (l : Fin 2)
  /-- PAIR_WITHDRAW (R311). -/
  | pairWithdraw (a : Agent)
  /-- PAIR_REJOIN (R314). -/
  | pairRejoin (a : Agent)
  /-- AUTO_REJOIN (R314). -/
  | autoRejoin
  /-- PAIR_LISTEN_TIMEOUT (R306). -/
  | pairListenTimeout
  /-- BULK_PHASE_END (R316). -/
  | bulkPhaseEnd
  /-- REJOIN_TIMEOUT (R318). -/
  | rejoinTimeout
  /-- REJOIN_ACK_TIMEOUT (R313). -/
  | rejoinAckTimeout
  /-- PTP_SYNC (R333). -/
  | ptpSync (h : PtpHdr) (origin rx freq : Int)
  /-- PTP_ANNOUNCE (R326). -/
  | ptpAnnounce (h : PtpHdr) (d : PtpAnnounce)
  /-- PTP_DELAY_RESP (R333). -/
  | ptpDelayResp (h : PtpHdr) (t3 t4 : Int)
  /-- PTP_DELAY_REQ (R325). -/
  | ptpDelayReq (h : PtpHdr) (rx : Int)
  /-- PTP_PDELAY_REQ (R330). -/
  | ptpPdelayReq (h : PtpHdr) (rx : Int)
  /-- PTP_PDELAY_RESP (R333). -/
  | ptpPdelayResp (h : PtpHdr) (t1 t2 t3 t4 : Int)
  /-- PTP_SIGNALING (R325). -/
  | ptpSignaling (h : PtpHdr) (link sync ann : BitVec 8)
  /-- PTP_MANAGEMENT (R325). -/
  | ptpManagement (h : PtpHdr)
  /-- MASTER_LOST (R326). -/
  | masterLost
  /-- STEP_CONFIRM (R336). -/
  | stepConfirm
  /-- TIME_STEP (R337). -/
  | timeStep
  /-- TIME_SNAP (R352). -/
  | timeSnap (a : Agent)
  /-- TIME_TSQ_POP (R332). -/
  | timeTsqPop (a : Agent) (p : Fin 6)
  /-- RTC_PERIOD_MEASURE (R340). -/
  | rtcPeriodMeasure (per : BitVec 48)
  /-- PAIR_SKEW_REPORT (R339). -/
  | pairSkewReport
  /-- SA_ROUTE (R343). -/
  | saRoute (a : Agent) (setH : Bool) (w : SaWords)
  /-- SA_BORDER (R343). -/
  | saBorder (a : Agent) (setH : Bool) (w : SaWords)
  /-- SA_ALARM_START (R343). -/
  | saAlarmStart (a : Agent) (setH : Bool) (w : SaWords)
  /-- SA_ALARM_STOP (R343). -/
  | saAlarmStop (a : Agent) (setH : Bool) (w : SaWords)
  /-- SA_ALARM_RESET (R343). -/
  | saAlarmReset (a : Agent) (setH : Bool) (w : SaWords)
  /-- SA_ALARM_ENGAGE (R343). -/
  | saAlarmEngage (a : Agent) (setH : Bool) (w : SaWords)
  /-- SA_ALARM_RELEASE (R343). -/
  | saAlarmRelease (a : Agent) (setH : Bool) (w : SaWords)
  /-- TIME_SA_CANCEL (R347). -/
  | timeSaCancel (a : Agent) (setH : Bool) (tag : BitVec 16)
  /-- SELECTOR_EVALUATE (R358). -/
  | selectorEvaluate
  /-- REF_LOS (R355). -/
  | refLos (r : Fin 8)
  /-- REF_QUALIFY (R355). -/
  | refQualify (r : Fin 8)
  /-- REF_FREQ_DISQUALIFY (R356). -/
  | refFreqDisqualify (r : Fin 8)
  /-- WTR_EXPIRE (R357). -/
  | wtrExpire (r : Fin 8)
  /-- SWITCH_DONE (R363). -/
  | switchDone
  /-- DISTRUST_END (R361). -/
  | distrustEnd (r : Fin 8)
  /-- OUT_CFG_WRITE (R372). -/
  | outCfgWrite (a : Agent) (o : Fin 4) (ofs : Bool) (v : Word)
  /-- HELLO (R390). -/
  | hello (f : LinkFrame)
  /-- HELLO_SEND (R389). -/
  | helloSend
  /-- ATTEST_REQ (R384). -/
  | attestReq (f : LinkFrame)
  /-- ATTEST_RESP (R390). -/
  | attestResp (f : LinkFrame)
  /-- ADMIT (R391). -/
  | linkAdmit (f : LinkFrame)
  /-- REFUSE (R390). -/
  | refuse (f : LinkFrame)
  /-- INVENTORY (R398). -/
  | inventory (f : LinkFrame)
  /-- BYE (R392). -/
  | bye (f : LinkFrame)
  /-- ZONE_CMD (R403). -/
  | zoneCmd (o : ZoneFrom)
  /-- ZONE_ACK (R404). -/
  | zoneAck (f : LinkFrame)
  /-- EVENT (R398). -/
  | event (f : LinkFrame)
  /-- ANNOUNCE (R299). -/
  | linkAnnounce (f : Option LinkFrame) (sap : List Byte)
  /-- MGR_BEAT (R407). -/
  | mgrBeat (f : LinkFrame)
  /-- MGR_BEAT_SEND (R406). -/
  | mgrBeatSend
  /-- DIR_SYNC (R408). -/
  | dirSync (f : LinkFrame)
  /-- WAKE (R384). -/
  | linkWake (f : LinkFrame)
  /-- MBOX (R409). -/
  | mboxRemote (f : LinkFrame)
  /-- MBOX_ACK (R410). -/
  | mboxRemoteAck (f : LinkFrame)
  /-- ACK (R385). -/
  | linkAck (f : LinkFrame)
  /-- NAK (R385). -/
  | linkNak (f : LinkFrame)
  /-- LINK_RESEND_TIMEOUT (R385). -/
  | linkResendTimeout
  /-- NODE_LOST_TIMEOUT (R392). -/
  | nodeLostTimeout (n : Fin 257)
  /-- REATTEST_TIMER (R392). -/
  | reattestTimer (n : Fin 257)
  /-- LEASE_EXPIRE (R393). -/
  | leaseExpire (n : Option (Fin 257))
  /-- ZONE_CMD_RESEND (R405). -/
  | zoneCmdResend (tag : BitVec 16)
  /-- MANAGER_START_LISTEN_END (R407). -/
  | managerStartListenEnd
  /-- MANAGER_TAKEOVER (R407). -/
  | managerTakeover
  /-- MBOX_REMOTE_TIMEOUT (R410). -/
  | mboxRemoteTimeout (k : Fin 32)
  /-- CAP_SKEIN_IMAGE (R438). -/
  | capSkeinImage (a : Agent) (slot : Fin 2) (k : SkImage) (flashOk : Bool)
  /-- CAP_FW_BUNDLE (R442). -/
  | capFwBundle (a : Agent) (b : Bundle) (flashOk : Bool)
  /-- CAP_ALARM_STORE (R444). -/
  | capAlarmStore (a : Agent) (flashOk : Bool)
  /-- ACTIVATE_PENDING (R440). -/
  | activatePending (a : Agent)
  /-- ACTIVATE_RESET (R440). -/
  | activateReset (a : Agent)
  /-- ACTIVATE_IN_PLACE (R440). -/
  | activateInPlace (a : Agent) (badMsgs : List Nat)
  /-- CAP_STK (R442). -/
  | capStk (a : Agent) (flashOk : Bool)
  /-- CAP_SVN_FLOOR (R442). -/
  | capSvnFloor (a : Agent)
  /-- CAP_LIFECYCLE (R415). -/
  | capLifecycle (a : Agent)
  /-- CAP_STREAM_SET (R442). -/
  | capStreamSet (a : Agent) (l : List (Fin 511 × List (Nat × Word)))
  /-- FLASH_PROGRAM (R422). -/
  | flashProgram (a : Agent)
  /-- FLASH_ERASE (R422). -/
  | flashErase (a : Agent)
  /-- FLASH_OP_DONE (R422). -/
  | flashOpDone (good : Bool)
  /-- ATTEST_EVIDENCE_GO (R447). -/
  | attestEvidenceGo (a : Option Agent)
  /-- DEBUG_NONCE_REQUEST (R446). -/
  | debugNonceRequest
  /-- DEBUG_TOKEN_SUBMIT (R446). -/
  | debugTokenSubmit (token : List Byte)
  /-- UPSETT_START (R425). -/
  | upsettStart (b : BootIn)
  /-- TRIAL_CONFIRM (R439). -/
  | trialConfirm
  /-- LOCK_READ (R460). -/
  | lockRead (a : Agent) (n : Fin 64)
  /-- LOCK_RELEASE (R461). -/
  | lockRelease (a : Agent) (n : Fin 64) (v : Word)
  /-- MBOX_SEND (R464). -/
  | mboxSend (a : Agent) (k : Fin 32)
  /-- MBOX_RELEASE (R466). -/
  | mboxRelease (a : Agent) (k : Fin 32)
  /-- MBOX_ACK_TIMEOUT (R469). -/
  | mboxAckTimeout (a : Fin 3) (k : Fin 32)
  /-- MASTER_PORT_RESET (R459). -/
  | masterPortReset (p : Fin 35)
  /-- PORT_RECONNECT (R459). -/
  | portReconnect (p : Fin 35)
  /-- STALL_LIMIT (R491). -/
  | stallLimit
  /-- PCIE_RESET (R471). -/
  | pcieReset
  /-- QSPI_READ (R473). -/
  | qspiRead (addr : Word) (len : BitVec 12)
  /-- QSPI_QUAD_READ (R473). -/
  | qspiQuadRead (addr : Word) (len : BitVec 12)
  /-- QSPI_WRITE (R473). -/
  | qspiWrite (addr : Word) (bytes : List Byte)
  /-- QSPI_QUAD_WRITE (R473). -/
  | qspiQuadWrite (addr : Word) (bytes : List Byte)
  /-- QSPI_STATUS (R472). -/
  | qspiStatus
  /-- PWR_GO_RUN (R480). -/
  | pwrGoRun (a : Agent)
  /-- PWR_GO_TRIM (R480). -/
  | pwrGoTrim (a : Agent)
  /-- PWR_GO_WATCH (R480). -/
  | pwrGoWatch (a : Agent)
  /-- PWR_GO_RIM (R480). -/
  | pwrGoRim (a : Agent)
  /-- PARTICIPANT_ANSWER (R485). -/
  | participantAnswer (busy : Bool)
  /-- PARTICIPANT_TIMEOUT (R484). -/
  | participantTimeout
  /-- HANDSHAKE_BACKOFF_END (R485). -/
  | handshakeBackoffEnd
  /-- RTC_ALARM (R489). -/
  | rtcAlarm
  /-- WAKE_N_ASSERT (R489). -/
  | wakeNAssert
  /-- WAKE_FILTER_FRAME (R493). -/
  | wakeFilterFrame (f : NetFrame)
  /-- HUB_READY (R490). -/
  | hubReady
  /-- DEMAND_WAKE_DONE (R492). -/
  | demandWakeDone (d : Fin 19)
  /-- DEMAND_IDLE_GATE (R492). -/
  | demandIdleGate (d : Fin 19)
  /-- SUPPLY_MONITOR_UPDATE (R516). -/
  | supplyMonitorUpdate (i : Fin 8) (mv : BitVec 16)
  /-- RO_MONITOR_UPDATE (R494). -/
  | roMonitorUpdate (j : Fin 24) (count : BitVec 20)
  /-- EM_CANARY_UPDATE (R499). -/
  | emCanaryUpdate (open_ : Word)
  /-- EOL_UPDATE (R500). -/
  | eolUpdate
  /-- HEALTH_SCORE_UPDATE (R501). -/
  | healthScoreUpdate
  /-- WARDEN_WATCHDOG_EXPIRE (R504). -/
  | wardenWatchdogExpire
  /-- WDG_CLEAR (R504). -/
  | wdgClear
  /-- RECOV_RETRY (R506). -/
  | recovRetry (a : Agent) (f : BitVec 8) (u : BitVec 9)
  /-- RECOV_REINIT (R506). -/
  | recovReinit (a : Agent) (f : BitVec 8) (u : BitVec 9)
  /-- RECOV_DEVICE_RESET (R506). -/
  | recovDeviceReset (a : Agent) (f : BitVec 8) (u : BitVec 9)
  /-- RECOV_POWER_CYCLE (R506). -/
  | recovPowerCycle (a : Agent) (f : BitVec 8) (u : BitVec 9)
  /-- WEDGE_DETECT (R505). -/
  | wedgeDetect (w : Wedge)
  /-- PWR_RESET (R511). -/
  | pwrReset (a : Agent) (key : BitVec 8)
  /-- PWR_CYCLE (R507). -/
  | pwrCycle (a : Agent) (key : BitVec 8)
  /-- POWER_CYCLE_FAIL (R507). -/
  | powerCycleFail
  /-- RST_N_ASSERT (R519). -/
  | rstNAssert
  /-- RST_N_RELEASE (R517). -/
  | rstNRelease (role : Fin 4) (testEn : Bool)
  /-- VDD_RIM_LOW (R519). -/
  | vddRimLow
  /-- RIM_RTC_READ (R508). -/
  | rimRtcRead (a : Agent)
  /-- REGISTER_WRITE (R4). -/
  | registerWrite (a : Agent) (reg : BitVec 25) (size : Fin 3) (v : Word)
  /-- MARKING_EDGE (R354). -/
  | markingEdge (k : Fin 7) (phase freq : Int)
  /-- XO_RETURN (R373). -/
  | xoReturn
  /-- RTC_CRYSTAL_FAIL (R341). -/
  | rtcCrystalFail
  /-- PCIE_LINK_DOWN (R459). -/
  | pcieLinkDown
  /-- AES3_FRAME_RECEIVE (R234). -/
  | aes3FrameReceive (i : Fin 4) (a b : SubFrame) (z : Bool) (rate : BitVec 18) (delay : Nat)
  /-- AES3_FRAME_SEND (R237). -/
  | aes3FrameSend (o : Fin 4)
  /-- DEMAND_ACCESS (R458). -/
  | demandAccess (p : Fin 35) (addr : BitVec 40) (write : Bool) (v : Word)
  /-- ACCESS_ERROR (R454). -/
  | accessError (p : Fin 35) (addr : BitVec 40) (size : Fin 3)
  /-- POWER_UP_DONE (R156). -/
  | powerUpDone (d : Fin 18)
  /-- WEAVE_RESERVED_OP (R44). -/
  | weaveReservedOp (host : Bool) (a : Agent) (op : Fin 9) (idx : Fin 32768) (w0 w1 w2 : Word) (succEn : Bool)
  /-- BORDER_RESERVED_ITEM (R72). -/
  | borderReservedItem (a : Agent) (ch : Fin 512) (item : Fin 6) (d0 d1 d2 d3 d4 : Word) (clr : Bool)
  /-- SA_BADKIND (R342). -/
  | saBadkind (a : Agent) (setH : Bool) (kind : Fin 13) (w : SaWords)
  /-- CAP_RESERVED_KIND (R443). -/
  | capReservedKind (a : Agent)
  /-- ALARM_MSG_RESERVED_KIND (R200). -/
  | alarmMsgReservedKind
  /-- LINK_RESERVED_TYPE (R412). -/
  | linkReservedType (f : LinkFrame)
deriving DecidableEq, Repr

end Sys2Proof
end

