-- ==== Sys2Proof/Decode.lean ====
section
/-! DEFINITION. Decode.lean: the words of stake instructions (R110 to R112, R117 to R119, R122, R123, R125 of
spec/04_stake_instruction_set.md), and the reader of table words. -/
namespace Sys2Proof

/-- The table gives its rows no bits, so no word spells a command. -/
def decodeTableWord (_nbits _w : Nat) : Option Instr := none

/-! ### Bit fields -/

/-- Fields put together, the lowest first, each a width and a value. -/
def pack : List (Nat × Nat) → Nat
  | [] => 0
  | (n, v) :: rest => v % 2 ^ n + 2 ^ n * pack rest

/-- The fields of a word by their widths, the lowest first. -/
def unpack : List Nat → Nat → List Nat
  | [], _ => []
  | n :: ns, x => x % 2 ^ n :: unpack ns (x / 2 ^ n)

def regOf (x : Nat) : Fin 32 := Fin.ofNat 32 x
def oct (x : Nat) : Fin 8 := Fin.ofNat 8 x
def lineOf (x : Nat) : Fin 8192 := Fin.ofNat 8192 x
def bitOf (b : Bool) : Nat := if b then 1 else 0

/-! ### Memory slots (R112) -/

def encLoad1 : Option Load1 → Nat
  | none => 0
  | some l => pack [(3, l.mode.val), (3, l.preg.val), (5, l.dst.val), (1, bitOf l.coil), (1, 1)]

def decLoad1 (x : Nat) : Option Load1 :=
  match unpack [3, 3, 5, 1, 1] x with
  | [mode, preg, dst, sp, en] => if en = 1 then some ⟨sp == 1, regOf dst, oct preg, oct mode⟩ else none
  | _ => none

def encLoad2 : Option Load2 → Nat
  | none => 0
  | some l => pack [(3, l.mode.val), (3, l.preg.val), (5, l.dst.val), (1, 1)]

def decLoad2 (x : Nat) : Option Load2 :=
  match unpack [3, 3, 5, 1] x with
  | [mode, preg, dst, en] => if en = 1 then some ⟨regOf dst, oct preg, oct mode⟩ else none
  | _ => none

def partCode : Part → Nat
  | .l => 0 | .h => 1 | .g => 2

def partOf : Nat → Option Part
  | 0 => some .l | 1 => some .h | 2 => some .g | _ => none

def spaceCode : Space → Nat
  | .x => 0 | .y => 1 | .c => 2

def storeSpace : Nat → Option Space
  | 0 => some .x | 1 => some .y | 2 => some .c | _ => none

/-- KIND, SRC and SHIFT of a store, SHIFT lowest. -/
def encSrc : StoreSrc → Nat
  | .reg i => pack [(4, 0), (5, i.val), (2, 0)]
  | .rnd a k => pack [(4, k.val), (3, a.val), (2, 0), (2, 1)]
  | .raw a p => pack [(4, 0), (3, a.val), (2, partCode p), (2, 2)]

/-- KIND, SRC and SHIFT read; none where reserved. -/
def decSrc (x : Nat) : Option StoreSrc :=
  match unpack [4, 3, 2, 2] x with
  | [sh, lo, hi, kind] =>
    if kind = 0 then if sh = 0 then some (.reg (regOf (lo + 8 * hi))) else none
    else if kind = 1 then if hi = 0 then some (.rnd (oct lo) (Fin.ofNat 16 sh)) else none
    else if kind = 2 then if sh = 0 then (partOf hi).map fun p => .raw (oct lo) p else none
    else none
  | _ => none

def encStore : Option Store → Nat
  | none => 0
  | some t => pack [(11, encSrc t.src), (3, t.mode.val), (3, t.preg.val), (2, spaceCode t.sp), (1, 1)]

/-- The store slot read; none where its encoding is reserved. -/
def decStore (x : Nat) : Option (Option Store) :=
  match unpack [11, 3, 3, 2, 1] x with
  | [src, mode, preg, sp, en] =>
    if en = 1 then
      match storeSpace sp, decSrc src with
      | some sp, some src => some (some ⟨sp, oct preg, oct mode, src⟩)
      | _, _ => none
    else some none
  | _ => none

/-! ### Operand codes (R123 to R125) -/

def sregCode : SReg → Nat × Nat
  | .p n => (0, n.val) | .m n => (1, n.val) | .b n => (2, n.val) | .l n => (3, n.val)
  | .lc n => (4, n.val) | .st => (5, 0) | .rcnt => (6, 0)

def sregOf (k i : Nat) : Option SReg :=
  if k = 0 then some (.p (oct i)) else if k = 1 then some (.m (oct i))
  else if k = 2 then some (.b (oct i)) else if k = 3 then some (.l (oct i))
  else if k = 4 then if i < 4 then some (.lc (Fin.ofNat 4 i)) else none
  else if k = 5 then if i = 0 then some .st else none
  else if k = 6 then if i = 0 then some .rcnt else none
  else none

def sgCode : Sg → Nat
  | .ss => 0 | .su => 1 | .uu => 2

def sgOf : Nat → Option Sg
  | 0 => some .ss | 1 => some .su | 2 => some .uu | _ => none

def condCode : Cond → Nat
  | .zf => 0 | .nzf => 1 | .nf => 2 | .nnf => 3 | .gt => 4 | .le => 5
  | .ac n => 8 + n.val | .nac n => 16 + n.val

def condOf (x : Nat) : Option Cond :=
  if x = 0 then some .zf else if x = 1 then some .nzf else if x = 2 then some .nf else if x = 3 then some .nnf
  else if x = 4 then some .gt else if x = 5 then some .le
  else if x / 8 = 1 then some (.ac (oct x)) else if x / 8 = 2 then some (.nac (oct x))
  else none

/-! ### Decoding -/

/-- A format P instruction (R117): its operation code, its twelve operand bits and its slots. -/
def decodeP (k : Fin 128) (o : Nat) (m : PSlots) : Nat → Option Instr
  | 0x00 =>
    match unpack [12] o with | [z0] => if z0 = 0 then some (.pnop k m) else none | _ => none
  | 0x01 =>
    match unpack [5, 3, 3, 1] o with
    | [z0, y, x, g] =>
      if z0 = 0 then some (.qmac k (Fin.ofNat 2 g) (oct x) (oct y) m) else none
    | _ => none
  | 0x02 =>
    match unpack [5, 3, 3, 1] o with
    | [z0, y, x, g] =>
      if z0 = 0 then some (.qmsu k (Fin.ofNat 2 g) (oct x) (oct y) m) else none
    | _ => none
  | 0x03 =>
    match unpack [5, 3, 3, 1] o with
    | [z0, y, x, g] =>
      if z0 = 0 then some (.qmul k (Fin.ofNat 2 g) (oct x) (oct y) m) else none
    | _ => none
  | 0x04 =>
    match unpack [3, 3, 3, 3] o with
    | [z0, y, x, a] =>
      if z0 = 0 then some (.qdot k (oct a) (oct x) (oct y) m) else none
    | _ => none
  | 0x05 =>
    match unpack [3, 3, 3, 3] o with
    | [z0, y, x, a] =>
      if z0 = 0 then some (.qdotz k (oct a) (oct x) (oct y) m) else none
    | _ => none
  | 0x06 =>
    match unpack [3, 3, 5, 1] o with
    | [z0, w, c, g] =>
      if z0 = 0 then some (.bmac k (Fin.ofNat 2 g) (regOf c) (oct w) m) else none
    | _ => none
  | 0x07 =>
    match unpack [3, 3, 5, 1] o with
    | [z0, w, c, g] =>
      if z0 = 0 ∧ w ≠ 7 then some (.ftapz k (Fin.ofNat 2 g) (regOf c) (oct w) m) else none
    | _ => none
  | 0x08 =>
    match unpack [3, 3, 5, 1] o with
    | [z0, w, c, g] =>
      if z0 = 0 ∧ w ≠ 7 then some (.ftap k (Fin.ofNat 2 g) (regOf c) (oct w) m) else none
    | _ => none
  | 0x09 =>
    match unpack [4, 5, 3] o with | [y, x, a] => some (.pmac k (oct a) (regOf x) (Fin.ofNat 16 y) m) | _ => none
  | 0x0A =>
    match unpack [4, 5, 3] o with | [y, x, a] => some (.pmsu k (oct a) (regOf x) (Fin.ofNat 16 y) m) | _ => none
  | 0x0B =>
    match unpack [4, 5, 3] o with | [y, x, a] => some (.pmul k (oct a) (regOf x) (Fin.ofNat 16 y) m) | _ => none
  | 0x0C =>
    match unpack [1, 5, 3, 3] o with
    | [sh, f, w, a] =>
      if w ≠ 7 then some (.fdly k (oct a) (oct w) (regOf f) (sh == 1) m) else none
    | _ => none
  | _ => none

/-- A format R instruction (R118): its operation code, its 22 operand bits and its slots. -/
def decodeR (k : Fin 128) (o : Nat) (m : RSlots) : Nat → Option Instr
  | 0x01 =>
    match unpack [7, 5, 5, 5] o with
    | [z0, s2, s1, d] =>
      if z0 = 0 then some (.add k (regOf d) (regOf s1) (regOf s2) m) else none
    | _ => none
  | 0x02 =>
    match unpack [7, 5, 5, 5] o with
    | [z0, s2, s1, d] =>
      if z0 = 0 then some (.sub k (regOf d) (regOf s1) (regOf s2) m) else none
    | _ => none
  | 0x03 =>
    match unpack [7, 5, 5, 5] o with
    | [z0, s2, s1, d] =>
      if z0 = 0 then some (.adds k (regOf d) (regOf s1) (regOf s2) m) else none
    | _ => none
  | 0x04 =>
    match unpack [7, 5, 5, 5] o with
    | [z0, s2, s1, d] =>
      if z0 = 0 then some (.subs k (regOf d) (regOf s1) (regOf s2) m) else none
    | _ => none
  | 0x05 =>
    match unpack [7, 5, 5, 5] o with
    | [z0, s2, s1, d] =>
      if z0 = 0 then some (.and k (regOf d) (regOf s1) (regOf s2) m) else none
    | _ => none
  | 0x06 =>
    match unpack [7, 5, 5, 5] o with
    | [z0, s2, s1, d] =>
      if z0 = 0 then some (.or k (regOf d) (regOf s1) (regOf s2) m) else none
    | _ => none
  | 0x07 =>
    match unpack [7, 5, 5, 5] o with
    | [z0, s2, s1, d] =>
      if z0 = 0 then some (.xor k (regOf d) (regOf s1) (regOf s2) m) else none
    | _ => none
  | 0x08 =>
    match unpack [7, 5, 5, 5] o with
    | [z0, s2, s1, d] =>
      if z0 = 0 then some (.min k (regOf d) (regOf s1) (regOf s2) m) else none
    | _ => none
  | 0x09 =>
    match unpack [7, 5, 5, 5] o with
    | [z0, s2, s1, d] =>
      if z0 = 0 then some (.max k (regOf d) (regOf s1) (regOf s2) m) else none
    | _ => none
  | 0x0A =>
    match unpack [7, 5, 5, 5] o with
    | [z0, s2, s1, d] =>
      if z0 = 0 then some (.shl k (regOf d) (regOf s1) (regOf s2) m) else none
    | _ => none
  | 0x0B =>
    match unpack [7, 5, 5, 5] o with
    | [z0, s2, s1, d] =>
      if z0 = 0 then some (.shr k (regOf d) (regOf s1) (regOf s2) m) else none
    | _ => none
  | 0x0C =>
    match unpack [7, 5, 5, 5] o with
    | [z0, s2, s1, d] =>
      if z0 = 0 then some (.shra k (regOf d) (regOf s1) (regOf s2) m) else none
    | _ => none
  | 0x10 =>
    match unpack [12, 5, 5] o with
    | [z0, s1, d] =>
      if z0 = 0 then some (.mov k (regOf d) (regOf s1) m) else none
    | _ => none
  | 0x11 =>
    match unpack [12, 5, 5] o with
    | [z0, s1, d] =>
      if z0 = 0 then some (.neg k (regOf d) (regOf s1) m) else none
    | _ => none
  | 0x12 =>
    match unpack [12, 5, 5] o with
    | [z0, s1, d] =>
      if z0 = 0 then some (.abs k (regOf d) (regOf s1) m) else none
    | _ => none
  | 0x13 =>
    match unpack [12, 5, 5] o with
    | [z0, s1, d] =>
      if z0 = 0 then some (.not k (regOf d) (regOf s1) m) else none
    | _ => none
  | 0x14 =>
    match unpack [10, 2, 5, 5] o with
    | [z0, len, src, d] =>
      if z0 = 0 ∧ len < 3 ∧ d + len < 31 then some (.slide k (regOf d) (regOf src) (Fin.ofNat 3 len) m) else none
    | _ => none
  | 0x18 =>
    match unpack [12, 5, 5] o with
    | [imm, s1, d] =>
      some (.addi k (regOf d) (regOf s1) (BitVec.ofNat 12 imm) m)
    | _ => none
  | 0x19 =>
    match unpack [12, 5, 5] o with
    | [imm, s1, d] =>
      some (.andi k (regOf d) (regOf s1) (BitVec.ofNat 12 imm) m)
    | _ => none
  | 0x1A =>
    match unpack [5, 7, 5, 5] o with
    | [sh, z0, s1, d] =>
      if z0 = 0 then some (.shli k (regOf d) (regOf s1) (regOf sh) m) else none
    | _ => none
  | 0x1B =>
    match unpack [5, 7, 5, 5] o with
    | [sh, z0, s1, d] =>
      if z0 = 0 then some (.shri k (regOf d) (regOf s1) (regOf sh) m) else none
    | _ => none
  | 0x1C =>
    match unpack [5, 7, 5, 5] o with
    | [sh, z0, s1, d] =>
      if z0 = 0 then some (.shrai k (regOf d) (regOf s1) (regOf sh) m) else none
    | _ => none
  | 0x20 =>
    match unpack [7, 5, 5, 5] o with
    | [z0, s2, s1, z1] =>
      if z0 = 0 ∧ z1 = 0 then some (.cmp k (regOf s1) (regOf s2) m) else none
    | _ => none
  | 0x21 =>
    match unpack [12, 5, 5] o with
    | [imm, s1, z0] =>
      if z0 = 0 then some (.cmpi k (regOf s1) (BitVec.ofNat 12 imm) m) else none
    | _ => none
  | 0x28 =>
    match unpack [11, 3, 3, 5] o with
    | [z0, i, q, d] =>
      if z0 = 0 then (sregOf q i).map fun x => .movfr k (regOf d) x m else none
    | _ => none
  | 0x29 =>
    match unpack [11, 3, 3, 5] o with
    | [z0, i, q, d] =>
      if z0 = 0 ∧ q < 6 then (sregOf q i).map fun x => .movto k (regOf d) x m else none
    | _ => none
  | 0x30 =>
    match unpack [7, 2, 5, 5, 3] o with
    | [z0, sg, y, x, a] =>
      if z0 = 0 then (sgOf sg).map fun sg => .mac k (oct a) (regOf x) (regOf y) sg m else none
    | _ => none
  | 0x31 =>
    match unpack [7, 2, 5, 5, 3] o with
    | [z0, sg, y, x, a] =>
      if z0 = 0 then (sgOf sg).map fun sg => .msu k (oct a) (regOf x) (regOf y) sg m else none
    | _ => none
  | 0x32 =>
    match unpack [7, 2, 5, 5, 3] o with
    | [z0, sg, y, x, a] =>
      if z0 = 0 then (sgOf sg).map fun sg => .mul k (oct a) (regOf x) (regOf y) sg m else none
    | _ => none
  | 0x33 =>
    match unpack [7, 2, 5, 5, 3] o with
    | [z0, sg, y, x, a] =>
      if z0 = 0 then (sgOf sg).map fun sg => .muln k (oct a) (regOf x) (regOf y) sg m else none
    | _ => none
  | 0x34 =>
    match unpack [19, 3] o with | [z0, a] => if z0 = 0 then some (.aclr k (oct a) m) else none | _ => none
  | 0x35 =>
    match unpack [16, 3, 3] o with
    | [z0, b, a] =>
      if z0 = 0 then some (.aadd k (oct a) (oct b) m) else none
    | _ => none
  | 0x36 =>
    match unpack [16, 3, 3] o with
    | [z0, b, a] =>
      if z0 = 0 then some (.asub k (oct a) (oct b) m) else none
    | _ => none
  | 0x38 =>
    match unpack [14, 5, 3] o with
    | [z0, x, a] =>
      if z0 = 0 then some (.mova k (oct a) (regOf x) m) else none
    | _ => none
  | 0x39 =>
    match unpack [12, 5, 2, 3] o with
    | [z0, x, part, a] =>
      if z0 = 0 then (partOf part).map fun part => .movap k (oct a) part (regOf x) m else none
    | _ => none
  | 0x3A =>
    match unpack [10, 4, 3, 5] o with
    | [z0, sh, a, d] =>
      if z0 = 0 then some (.rnd k (regOf d) (oct a) (Fin.ofNat 16 sh) m) else none
    | _ => none
  | 0x3B =>
    match unpack [12, 2, 3, 5] o with
    | [z0, part, a, d] =>
      if z0 = 0 then (partOf part).map fun part => .raw k (regOf d) (oct a) part m else none
    | _ => none
  | 0x3C =>
    match unpack [12, 3, 3, 1, 3] o with
    | [z0, mode, p, coil, a] =>
      if z0 = 0 then some (.lda k (oct a) (coil == 1) (oct p) (oct mode) m) else none
    | _ => none
  | _ => none

/-- A format C instruction (R119): its operation code and its 56 operand bits. -/
def decodeC (k : Fin 128) (o : Nat) : Nat → Option Instr
  | 0x01 =>
    match unpack [13, 43] o with | [t, z0] => if z0 = 0 then some (.br k (lineOf t)) else none | _ => none
  | 0x02 =>
    match unpack [13, 3, 5, 35] o with
    | [t, z0, c, z1] =>
      if z0 = 0 ∧ z1 = 0 then (condOf c).map fun c => .brc k c (lineOf t) else none
    | _ => none
  | 0x03 =>
    match unpack [13, 43] o with | [t, z0] => if z0 = 0 then some (.call k (lineOf t)) else none | _ => none
  | 0x04 =>
    match unpack [56] o with | [z0] => if z0 = 0 then some (.ret k) else none | _ => none
  | 0x05 =>
    match unpack [16, 27, 13] o with
    | [count, z0, stop] =>
      if z0 = 0 then some (.rep k (lineOf stop) (BitVec.ofNat 16 count)) else none
    | _ => none
  | 0x06 =>
    match unpack [5, 38, 13] o with
    | [d, z0, stop] =>
      if z0 = 0 then some (.repd k (lineOf stop) (regOf d)) else none
    | _ => none
  | 0x07 =>
    match unpack [56] o with | [z0] => if z0 = 0 then some (.done k) else none | _ => none
  | 0x08 =>
    match unpack [32, 19, 5] o with
    | [imm, z0, d] =>
      if z0 = 0 then some (.ldi k (regOf d) (BitVec.ofNat 32 imm)) else none
    | _ => none
  | 0x09 =>
    match unpack [20, 30, 3, 3] o with
    | [imm, z0, i, q] =>
      if z0 = 0 ∧ q < 5 ∧ (q = 4 → imm < 65536) then (sregOf q i).map fun x => .ldia k x (BitVec.ofNat 20 imm) else none
    | _ => none
  | _ => none

/-- A 64-bit stake instruction read for stake `k` (R110, R111): none where its encoding is reserved. -/
def decodeFormat (k : Fin 128) (w : Nat) : Option Instr :=
  match unpack [20, 12, 13, 12, 5, 2] w, unpack [20, 12, 22, 8, 2] w, unpack [56, 6, 2] w with
  | [st, l2, l1, po, sub, fmt], [_, _, ro, rop, _], [co, cop, _] =>
    if fmt = 0 then (decStore st).bind fun st => decodeP k po ⟨decLoad1 l1, decLoad2 l2, st⟩ sub
    else if fmt = 1 then (decStore st).bind fun st => decodeR k ro ⟨decLoad2 l2, st⟩ rop
    else if fmt = 2 then decodeC k co cop
    else none
  | _, _, _ => none

/-- The command that a 64-bit stake instruction stands for: every reserved encoding is the command of that name,
which stops the stake with ILLEGAL (R110). -/
def decodeStake (k : Fin 128) (w : Nat) : Instr := (decodeFormat k w).getD (.reservedInstruction k)

/-! ### Encoding -/

def encodeP (sub o : Nat) (m : PSlots) : Nat :=
  pack [(20, encStore m.st), (12, encLoad2 m.l2), (13, encLoad1 m.l1), (12, o), (5, sub), (2, 0)]

def encodeR (op o : Nat) (m : RSlots) : Nat :=
  pack [(20, encStore m.st), (12, encLoad2 m.l2), (22, o), (8, op), (2, 1)]

def encodeC (op o : Nat) : Nat := pack [(56, o), (6, op), (2, 2)]

/-- The word of a stake instruction and its stake; none for the other commands. -/
def encodeStake : Instr → Option (Fin 128 × Nat)
  | .pnop k m => some (k, encodeP 0x00 (pack [(12, 0)]) m)
  | .qmac k g x y m => some (k, encodeP 0x01 (pack [(5, 0), (3, y.val), (3, x.val), (1, g.val)]) m)
  | .qmsu k g x y m => some (k, encodeP 0x02 (pack [(5, 0), (3, y.val), (3, x.val), (1, g.val)]) m)
  | .qmul k g x y m => some (k, encodeP 0x03 (pack [(5, 0), (3, y.val), (3, x.val), (1, g.val)]) m)
  | .qdot k a x y m => some (k, encodeP 0x04 (pack [(3, 0), (3, y.val), (3, x.val), (3, a.val)]) m)
  | .qdotz k a x y m => some (k, encodeP 0x05 (pack [(3, 0), (3, y.val), (3, x.val), (3, a.val)]) m)
  | .bmac k g c w m => some (k, encodeP 0x06 (pack [(3, 0), (3, w.val), (5, c.val), (1, g.val)]) m)
  | .ftapz k g c w m => some (k, encodeP 0x07 (pack [(3, 0), (3, w.val), (5, c.val), (1, g.val)]) m)
  | .ftap k g c w m => some (k, encodeP 0x08 (pack [(3, 0), (3, w.val), (5, c.val), (1, g.val)]) m)
  | .pmac k a x y m => some (k, encodeP 0x09 (pack [(4, y.val), (5, x.val), (3, a.val)]) m)
  | .pmsu k a x y m => some (k, encodeP 0x0A (pack [(4, y.val), (5, x.val), (3, a.val)]) m)
  | .pmul k a x y m => some (k, encodeP 0x0B (pack [(4, y.val), (5, x.val), (3, a.val)]) m)
  | .fdly k a w f sh m => some (k, encodeP 0x0C (pack [(1, bitOf sh), (5, f.val), (3, w.val), (3, a.val)]) m)
  | .add k d s1 s2 m => some (k, encodeR 0x01 (pack [(7, 0), (5, s2.val), (5, s1.val), (5, d.val)]) m)
  | .sub k d s1 s2 m => some (k, encodeR 0x02 (pack [(7, 0), (5, s2.val), (5, s1.val), (5, d.val)]) m)
  | .adds k d s1 s2 m => some (k, encodeR 0x03 (pack [(7, 0), (5, s2.val), (5, s1.val), (5, d.val)]) m)
  | .subs k d s1 s2 m => some (k, encodeR 0x04 (pack [(7, 0), (5, s2.val), (5, s1.val), (5, d.val)]) m)
  | .and k d s1 s2 m => some (k, encodeR 0x05 (pack [(7, 0), (5, s2.val), (5, s1.val), (5, d.val)]) m)
  | .or k d s1 s2 m => some (k, encodeR 0x06 (pack [(7, 0), (5, s2.val), (5, s1.val), (5, d.val)]) m)
  | .xor k d s1 s2 m => some (k, encodeR 0x07 (pack [(7, 0), (5, s2.val), (5, s1.val), (5, d.val)]) m)
  | .min k d s1 s2 m => some (k, encodeR 0x08 (pack [(7, 0), (5, s2.val), (5, s1.val), (5, d.val)]) m)
  | .max k d s1 s2 m => some (k, encodeR 0x09 (pack [(7, 0), (5, s2.val), (5, s1.val), (5, d.val)]) m)
  | .shl k d s1 s2 m => some (k, encodeR 0x0A (pack [(7, 0), (5, s2.val), (5, s1.val), (5, d.val)]) m)
  | .shr k d s1 s2 m => some (k, encodeR 0x0B (pack [(7, 0), (5, s2.val), (5, s1.val), (5, d.val)]) m)
  | .shra k d s1 s2 m => some (k, encodeR 0x0C (pack [(7, 0), (5, s2.val), (5, s1.val), (5, d.val)]) m)
  | .mov k d s1 m => some (k, encodeR 0x10 (pack [(12, 0), (5, s1.val), (5, d.val)]) m)
  | .neg k d s1 m => some (k, encodeR 0x11 (pack [(12, 0), (5, s1.val), (5, d.val)]) m)
  | .abs k d s1 m => some (k, encodeR 0x12 (pack [(12, 0), (5, s1.val), (5, d.val)]) m)
  | .not k d s1 m => some (k, encodeR 0x13 (pack [(12, 0), (5, s1.val), (5, d.val)]) m)
  | .slide k d src len m => some (k, encodeR 0x14 (pack [(10, 0), (2, len.val), (5, src.val), (5, d.val)]) m)
  | .addi k d s1 imm m => some (k, encodeR 0x18 (pack [(12, imm.toNat), (5, s1.val), (5, d.val)]) m)
  | .andi k d s1 imm m => some (k, encodeR 0x19 (pack [(12, imm.toNat), (5, s1.val), (5, d.val)]) m)
  | .shli k d s1 sh m => some (k, encodeR 0x1A (pack [(5, sh.val), (7, 0), (5, s1.val), (5, d.val)]) m)
  | .shri k d s1 sh m => some (k, encodeR 0x1B (pack [(5, sh.val), (7, 0), (5, s1.val), (5, d.val)]) m)
  | .shrai k d s1 sh m => some (k, encodeR 0x1C (pack [(5, sh.val), (7, 0), (5, s1.val), (5, d.val)]) m)
  | .cmp k s1 s2 m => some (k, encodeR 0x20 (pack [(7, 0), (5, s2.val), (5, s1.val), (5, 0)]) m)
  | .cmpi k s1 imm m => some (k, encodeR 0x21 (pack [(12, imm.toNat), (5, s1.val), (5, 0)]) m)
  | .movfr k d x m => some (k, encodeR 0x28 (pack [(11, 0), (3, (sregCode x).2), (3, (sregCode x).1), (5, d.val)]) m)
  | .movto k d x m => some (k, encodeR 0x29 (pack [(11, 0), (3, (sregCode x).2), (3, (sregCode x).1), (5, d.val)]) m)
  | .mac k a x y sg m => some (k, encodeR 0x30 (pack [(7, 0), (2, sgCode sg), (5, y.val), (5, x.val), (3, a.val)]) m)
  | .msu k a x y sg m => some (k, encodeR 0x31 (pack [(7, 0), (2, sgCode sg), (5, y.val), (5, x.val), (3, a.val)]) m)
  | .mul k a x y sg m => some (k, encodeR 0x32 (pack [(7, 0), (2, sgCode sg), (5, y.val), (5, x.val), (3, a.val)]) m)
  | .muln k a x y sg m => some (k, encodeR 0x33 (pack [(7, 0), (2, sgCode sg), (5, y.val), (5, x.val), (3, a.val)]) m)
  | .aclr k a m => some (k, encodeR 0x34 (pack [(19, 0), (3, a.val)]) m)
  | .aadd k a b m => some (k, encodeR 0x35 (pack [(16, 0), (3, b.val), (3, a.val)]) m)
  | .asub k a b m => some (k, encodeR 0x36 (pack [(16, 0), (3, b.val), (3, a.val)]) m)
  | .mova k a x m => some (k, encodeR 0x38 (pack [(14, 0), (5, x.val), (3, a.val)]) m)
  | .movap k a part x m => some (k, encodeR 0x39 (pack [(12, 0), (5, x.val), (2, partCode part), (3, a.val)]) m)
  | .rnd k d a sh m => some (k, encodeR 0x3A (pack [(10, 0), (4, sh.val), (3, a.val), (5, d.val)]) m)
  | .raw k d a part m => some (k, encodeR 0x3B (pack [(12, 0), (2, partCode part), (3, a.val), (5, d.val)]) m)
  | .lda k a coil p mode m => some (k, encodeR 0x3C (pack [(12, 0), (3, mode.val), (3, p.val), (1, bitOf coil), (3, a.val)]) m)
  | .br k t => some (k, encodeC 0x01 (pack [(13, t.val), (43, 0)]))
  | .brc k c t => some (k, encodeC 0x02 (pack [(13, t.val), (3, 0), (5, condCode c), (35, 0)]))
  | .call k t => some (k, encodeC 0x03 (pack [(13, t.val), (43, 0)]))
  | .ret k => some (k, encodeC 0x04 (pack [(56, 0)]))
  | .rep k stop count => some (k, encodeC 0x05 (pack [(16, count.toNat), (27, 0), (13, stop.val)]))
  | .repd k stop d => some (k, encodeC 0x06 (pack [(5, d.val), (38, 0), (13, stop.val)]))
  | .done k => some (k, encodeC 0x07 (pack [(56, 0)]))
  | .ldi k d imm => some (k, encodeC 0x08 (pack [(32, imm.toNat), (19, 0), (5, d.val)]))
  | .ldia k x imm => some (k, encodeC 0x09 (pack [(20, imm.toNat), (30, 0), (3, (sregCode x).2), (3, (sregCode x).1)]))
  | _ => none

end Sys2Proof
end

