-- ==== Sys2Proof/Config.lean ====
section
/-! DEFINITION. Config.lean: the free values, the values that the spec leaves open while the part
goes on. Each is an opaque constant, so that nothing can be proved of its value. -/
namespace Sys2Proof.Config

/-- A fresh value the spec leaves open, by the count of those taken before. -/
opaque freeValue : Nat → Nat

/-- Whether the flash fitted is of 2 Gbit rather than 1 Gbit (R419, R420). -/
opaque flash2G : Bool

/-- Bytes of LPDDR5X fitted. -/
opaque lpddrBytes : Nat

/-- The 32 bytes of the PUF root after error correction (R416, R417). -/
opaque pufRoot : List Byte

/-- The measurement of the ROM, and the hashes in ROM: of Torvok's firmware keys 0 to 2 and of its factory key (R416, R430). -/
opaque romDigest : Nat
opaque firmwareKey : Nat → Nat
opaque factoryKey : Nat

/-- How a ring-oscillator count is corrected to the reference voltage and temperature: monitor, count, °C, supply readings in mV;
how σ is taken from the residual of a fit: samples and the sums of d², d·v and v², in units of 2^-48; and the sensor at a
canary's place (R498, R499). -/
opaque roCorrected : Nat → Nat → Int → List Nat → Nat
opaque fitSigma : Nat → Int → Int → Int → Nat
opaque canarySensor : Nat → Nat

/-- How the servo filters offset samples (R333): the filtered offset and a sample, in 2^-16 ns, to the new
filtered offset. -/
opaque offsetFilter : Int → Int → Int

end Sys2Proof.Config
end

