-- ==== Sys2Proof/Machine/Map.lean ====
section
/-! DEFINITION. Machine/Map.lean: reading and writing sparse data, and the bit-field helpers that
every register operation uses. -/
namespace Sys2Proof.Machine

/-- What a key of a sparse map reads as: its first entry, or the default of the key. -/
def mget {α : Type} (d : Nat → α) : SMap α → Nat → α
  | [], k => d k
  | (k', v) :: t, k => if k' = k then v else mget d t k

/-- A sparse map without any entry of the key. -/
def mdrop {α : Type} (k : Nat) : SMap α → SMap α
  | [] => []
  | (k', v) :: t => if k' = k then mdrop k t else (k', v) :: mdrop k t

/-- An entry put in its place by rising key. -/
def mput {α : Type} (k : Nat) (v : α) : SMap α → SMap α
  | [] => [(k, v)]
  | (k', v') :: t => if k < k' then (k, v) :: (k', v') :: t else (k', v') :: mput k v t

/-- A write of a sparse map; writing what the key reads as by default removes the entry. -/
def mset {α : Type} [DecidableEq α] (d : Nat → α) (m : SMap α) (k : Nat) (v : α) : SMap α :=
  if v = d k then mdrop k m else mput k v (mdrop k m)

/-- A change of one entry. -/
def mupd {α : Type} [DecidableEq α] (d : Nat → α) (m : SMap α) (k : Nat) (f : α → α) : SMap α :=
  mset d m k (f (mget d m k))

/-- The canonical form: keys strictly rising and no entry at its default. -/
def mwf {α : Type} [DecidableEq α] (d : Nat → α) : SMap α → Bool
  | [] => true
  | [(k, v)] => decide (v ≠ d k)
  | (k, v) :: (k', v') :: t => decide (v ≠ d k) && decide (k < k') && mwf d ((k', v') :: t)

/-- Bits `hi` down to `lo` of a word, as a number. -/
def bitsOf (w : Word) (hi lo : Nat) : Nat := (w.toNat >>> lo) % 2 ^ (hi + 1 - lo)

/-- The word with bits `hi` down to `lo` replaced by the low bits of `v`. -/
def setBits (w : Word) (hi lo v : Nat) : Word :=
  BitVec.ofNat 32 ((w.toNat >>> (hi + 1)) <<< (hi + 1) + (v % 2 ^ (hi + 1 - lo)) <<< lo + w.toNat % 2 ^ lo)

/-- One bit of a word. -/
def bitAt (w : Word) (i : Nat) : Bool := w.toNat.testBit i

/-- The low `n` bits of a number as a signed integer. -/
def sext (n v : Nat) : Int :=
  if v % 2 ^ n < 2 ^ (n - 1) then (v % 2 ^ n : Nat) else (v % 2 ^ n : Nat) - (2 ^ n : Nat)

/-- A word as a signed integer. -/
def sWord (w : Word) : Int := w.toInt

/-- An integer narrowed to a word, modulo 2^32. -/
def wordOfInt (x : Int) : Word := BitVec.ofInt 32 x

/-- An integer limited to a closed range. -/
def clampInt (lo hi x : Int) : Int := if x < lo then lo else if hi < x then hi else x

/-- Whether a number lies between two, both included. -/
def within (lo hi a : Nat) : Bool := Nat.ble lo a && Nat.ble a hi

/-- A 16-bit counter that stops at 0xFFFF. -/
def sat16 (n : Nat) : Nat := if n < 65535 then n + 1 else 65535

/-- A 32-bit counter that stops at 0xFFFF_FFFF. -/
def sat32 (w : Word) : Word := if w = 0xFFFFFFFF#32 then w else w + 1#32

/-- The first list element with a property, and its place. -/
def findIdxOpt {α : Type} (p : α → Bool) : List α → Nat → Option (Nat × α)
  | [], _ => none
  | x :: t, i => if p x then some (i, x) else findIdxOpt p t (i + 1)

/-- A list with element `i` replaced. -/
def putAt {α : Type} (l : List α) (i : Nat) (v : α) : List α := l.set i v

end Sys2Proof.Machine
end

