-- ==== Sys2Proof/Machine/RegMap.lean ====
section
/-! DEFINITION. Machine/RegMap.lean: the register map, one row per register of the spec's register
tables: address, copies, reset value and the bits of each access type (R4 of spec/00_scope.md).
Addresses are offsets from 0x08_0000_0000, the base of the register space (R10, R11). -/
namespace Sys2Proof.Machine

/-- One row of the register map: `dims` are the counts and strides of a repeated register, outermost
first; `rw`, `w1c` and `wo` the bits that software writes, clears by writing 1, or only writes. -/
structure RegRow where
  base : Nat
  dims : List (Nat × Nat)
  reset : Nat
  rw : Nat
  w1c : Nat
  wo : Nat
deriving DecidableEq, Repr

/-- One field of one register: the register's offset and its bits. -/
structure RegField where
  reg : Nat
  hi : Nat
  lo : Nat
deriving DecidableEq, Repr

/-- Whether a distance from a row's base is one of its copies. -/
def dimsHit : List (Nat × Nat) → Nat → Bool
  | [], d => d == 0
  | (n, st) :: t, d => Nat.blt (d / st) n && dimsHit t (d % st)

/-- Whether a register offset is a copy of the row. -/
def RegRow.hit (r : RegRow) (a : Nat) : Bool := Nat.ble r.base a && dimsHit r.dims (a - r.base)

/-- The first row that holds an offset. -/
def findRow (a : Nat) : List RegRow → Option RegRow
  | [] => none
  | r :: t => if r.hit a then some r else findRow a t

/-- Registers of block SYS. -/
def rowsSys0 : List RegRow := [
  ⟨0x0, [], 0xc4081000, 0x0, 0x0, 0x0⟩]  -- SYS_ID R12

/-- Registers of block RIM. -/
def rowsRim0 : List RegRow := [
  ⟨0x10000, [], 0x0, 0x0, 0x0, 0x0⟩,  -- RIM_RTC_LO R509
  ⟨0x10004, [], 0x0, 0x0, 0x0, 0x0⟩,  -- RIM_RTC_HI R509
  ⟨0x10008, [], 0x0, 0xffffffff, 0x0, 0x0⟩,  -- RIM_RTC_ALM_LO R509
  ⟨0x1000c, [], 0x0, 0x8000ffff, 0x0, 0x0⟩,  -- RIM_RTC_ALM_HI R509
  ⟨0x10010, [], 0x0, 0x0, 0x0, 0x0⟩,  -- RIM_STAT R509
  ⟨0x10014, [], 0x1f, 0x1f, 0x0, 0x0⟩,  -- RIM_WAKE_EN R509
  ⟨0x10018, [], 0x0, 0x0, 0x1f, 0x0⟩,  -- RIM_WAKE_LATCH R509
  ⟨0x1001c, [], 0x0, 0xe0000000, 0x0, 0x0⟩,  -- RIM_WF_CFG R509
  ⟨0x10040, [(4, 8)], 0x0, 0xffffffff, 0x0, 0x0⟩,  -- RIM_WF_SCI_LO R509
  ⟨0x10044, [(4, 8)], 0x0, 0xffffffff, 0x0, 0x0⟩,  -- RIM_WF_SCI_HI R509
  ⟨0x10060, [], 0x0, 0x0, 0x0, 0x0⟩,  -- RIM_WF_STAT R509
  ⟨0x10064, [], 0x0, 0x0, 0x0, 0x0⟩]  -- RIM_WAKE_CNT R509

/-- Registers of block PWR. -/
def rowsPwr0 : List RegRow := [
  ⟨0x20000, [], 0x0, 0x6, 0x0, 0x1⟩,  -- PWR_CTL R511
  ⟨0x20004, [], 0x0, 0x0, 0x0, 0x0⟩,  -- PWR_STAT R511
  ⟨0x20008, [], 0x0, 0xffff, 0x0, 0x0⟩,  -- PWR_TRIM_MASK R511
  ⟨0x2000c, [], 0x0, 0x0, 0x80000000, 0x0⟩,  -- PWR_REFUSE R511
  ⟨0x20010, [], 0x0, 0x0, 0x7f, 0x0⟩,  -- PWR_EVT R511
  ⟨0x20014, [], 0x0, 0x7f, 0x0, 0x0⟩,  -- PWR_IRQ_EN R511
  ⟨0x20018, [], 0x0, 0x0, 0x0, 0x0⟩,  -- PWR_BACKOFF R511
  ⟨0x2001c, [], 0xa, 0xffff, 0x0, 0x0⟩,  -- PWR_IDLE R511
  ⟨0x20030, [], 0x0, 0x0, 0x0, 0xff⟩,  -- PWR_RESET R511
  ⟨0x20034, [], 0x0, 0x0, 0x0, 0xff⟩,  -- PWR_CYCLE R511
  ⟨0x20038, [], 0x64, 0xffff, 0x0, 0x0⟩,  -- PWR_PCYC R511
  ⟨0x20040, [], 0x0, 0x3ff01ff, 0x0, 0x80000000⟩,  -- PWR_RECOV R511
  ⟨0x20048, [], 0x0, 0x0, 0x0, 0x0⟩]  -- PWR_LADDER R511

/-- Registers of block MATRIX. -/
def rowsMatrix0 : List RegRow := [
  ⟨0x30000, [], 0x0, 0x0, 0x1f, 0x0⟩,  -- MATRIX_EVT R476
  ⟨0x30004, [], 0x0, 0x1f, 0x0, 0x0⟩,  -- MATRIX_IRQ_EN R476
  ⟨0x30008, [], 0x0, 0x0, 0x0, 0x0⟩,  -- MATRIX_ERR_ADDR_LO R476
  ⟨0x3000c, [], 0x0, 0x0, 0x0, 0x0⟩,  -- MATRIX_ERR_ADDR_HI R476
  ⟨0x30010, [], 0x0, 0x0, 0x0, 0x0⟩,  -- MATRIX_ERR_INFO R476
  ⟨0x30014, [], 0x0, 0x0, 0x0, 0x0⟩,  -- MATRIX_ERR_CNT R476
  ⟨0x30100, [(26, 4)], 0x80000000, 0x0, 0x0, 0x0⟩,  -- MATRIX_PORT_STAT R476
  ⟨0x30168, [(6, 4)], 0x0, 0x0, 0x0, 0x0⟩,  -- MATRIX_PORT_STAT_RSV R476
  ⟨0x30180, [(3, 4)], 0x80000000, 0x0, 0x0, 0x0⟩,  -- MATRIX_PORT_STAT_HI R476
  ⟨0x30200, [], 0x0, 0x3, 0x0, 0x0⟩,  -- MATRIX_HOST_CFG R476
  ⟨0x30204, [], 0x0, 0xffffffff, 0x0, 0x0⟩,  -- MATRIX_HMBOX R476
  ⟨0x30240, [(16, 4)], 0x0, 0xfffffffc, 0x0, 0x0⟩]  -- MATRIX_HTEL R476

/-- Registers of block MBOX. -/
def rowsMbox0 : List RegRow := [
  ⟨0x40000, [(32, 64), (16, 4)], 0x0, 0x0, 0x0, 0x0⟩,  -- MBOX_DATA R477
  ⟨0x40800, [(32, 4)], 0x0, 0x0, 0x60000000, 0x0⟩,  -- MBOX_STAT R477
  ⟨0x40880, [], 0x0, 0x0, 0x0, 0x1f⟩,  -- MBOX_RELEASE R477
  ⟨0x41004, [(15, 4)], 0x0, 0xffffffff, 0x0, 0x0⟩,  -- MBOX_STG R477
  ⟨0x41040, [], 0x0, 0x0, 0x0, 0x1f⟩,  -- MBOX_SEND R477
  ⟨0x41044, [], 0x0, 0x0, 0x0, 0x0⟩,  -- MBOX_SEND_STAT R477
  ⟨0x41100, [(6, 4)], 0x0, 0x0, 0x0, 0x0⟩,  -- MBOX_DB R477
  ⟨0x41120, [(6, 4)], 0xffffffff, 0xffffffff, 0x0, 0x0⟩,  -- MBOX_MASK R477
  ⟨0x41200, [(22, 4)], 0x0, 0x0, 0xffffffff, 0x0⟩,  -- MBOX_ACK R477
  ⟨0x41280, [(6, 4)], 0xffffffff, 0xffffffff, 0x0, 0x0⟩,  -- MBOX_ACK_MASK R477
  ⟨0x41300, [], 0x0, 0x0, 0x3, 0x0⟩,  -- MBOX_EVT R477
  ⟨0x41304, [], 0x0, 0x3, 0x0, 0x0⟩]  -- MBOX_IRQ_EN R477

/-- Registers of block LOCK. -/
def rowsLock0 : List RegRow := [
  ⟨0x50000, [(64, 4)], 0x0, 0x0, 0x0, 0x0⟩,  -- LOCK R478
  ⟨0x50100, [(64, 4)], 0x0, 0x0, 0x0, 0x0⟩,  -- LOCK_PEEK R478
  ⟨0x50200, [], 0x0, 0x0, 0xffffffff, 0x0⟩,  -- LOCK_BROKEN_LO R478
  ⟨0x50204, [], 0x0, 0x0, 0xffffffff, 0x0⟩,  -- LOCK_BROKEN_HI R478
  ⟨0x50208, [], 0x0, 0x0, 0x3, 0x0⟩,  -- LOCK_EVT R478
  ⟨0x5020c, [], 0x0, 0x3, 0x0, 0x0⟩,  -- LOCK_IRQ_EN R478
  ⟨0x50210, [], 0x0, 0x0, 0x0, 0x0⟩]  -- LOCK_BAD R478

/-- Registers of block WEAVE. -/
def rowsWeave0 : List RegRow := [
  ⟨0x100000, [], 0x0, 0x1, 0x0, 0x0⟩,  -- WEAVE_CTL R71
  ⟨0x100004, [], 0x1302, 0x1f0f, 0x0, 0x0⟩,  -- WEAVE_CLASS_CTL R71
  ⟨0x100008, [], 0x0, 0x7fff7fff, 0x0, 0x0⟩,  -- WEAVE_SPARE R71
  ⟨0x10000c, [], 0x0, 0x0, 0x7fe, 0x0⟩,  -- WEAVE_EVT R71
  ⟨0x100010, [], 0x0, 0x7fe, 0x0, 0x0⟩,  -- WEAVE_IRQ_EN R71
  ⟨0x100014, [], 0x0, 0x0, 0x0, 0x0⟩,  -- WEAVE_ECC_IDX R71
  ⟨0x100018, [], 0x0, 0x0, 0x0, 0xfff⟩,  -- WEAVE_AGRP_SET R71
  ⟨0x10001c, [], 0x0, 0x0, 0x0, 0xfff⟩,  -- WEAVE_AGRP_CLR R71
  ⟨0x100100, [(2, 128)], 0x0, 0x7fff, 0x0, 0x0⟩,  -- WEAVE_XP_IDX R71
  ⟨0x100104, [(2, 128)], 0x0, 0xffffffff, 0x0, 0x0⟩,  -- WEAVE_XP_W0 R71
  ⟨0x100108, [(2, 128)], 0x0, 0xffffffff, 0x0, 0x0⟩,  -- WEAVE_XP_W1 R71
  ⟨0x10010c, [(2, 128)], 0x0, 0xffffffff, 0x0, 0x0⟩,  -- WEAVE_XP_W2 R71
  ⟨0x100110, [(2, 128)], 0x2, 0xf2, 0x0, 0x1⟩,  -- WEAVE_XP_CTL R71
  ⟨0x100114, [(2, 128)], 0x0, 0x0, 0x0, 0x0⟩,  -- WEAVE_XP_STAT R71
  ⟨0x101000, [(512, 4)], 0x0, 0xffffffff, 0x0, 0x0⟩,  -- WEAVE_HPF R71
  ⟨0x101800, [(256, 4)], 0x0, 0xffffffff, 0x0, 0x0⟩,  -- WEAVE_HSRC R71
  ⟨0x102000, [(48, 16)], 0x0, 0xf0000000, 0x0, 0x0⟩,  -- WEAVE_GEN_CFG R71
  ⟨0x102004, [(64, 16)], 0x0, 0xffffffff, 0x0, 0x0⟩,  -- WEAVE_GEN_FREQ R71
  ⟨0x102008, [(64, 16)], 0x0, 0xffffffff, 0x0, 0x0⟩,  -- WEAVE_GEN_AMP R71
  ⟨0x10200c, [(64, 16)], 0x1, 0xffffffff, 0x0, 0x0⟩,  -- WEAVE_GEN_SEED R71
  ⟨0x102300, [(16, 16)], 0x40000000, 0x80000000, 0x0, 0x0⟩,  -- WEAVE_GEN_CFG_PLAYER R71
  ⟨0x103000, [(64, 16)], 0x0, 0xf, 0x0, 0x80000000⟩,  -- WEAVE_MTR_CFG R71
  ⟨0x103004, [(64, 16)], 0x0, 0x0, 0x0, 0x0⟩,  -- WEAVE_MTR_PEAK R71
  ⟨0x103008, [(64, 16)], 0x0, 0x0, 0x0, 0x0⟩,  -- WEAVE_MTR_MS R71
  ⟨0x104000, [(128, 4)], 0x0, 0x0, 0x0, 0x0⟩,  -- WEAVE_AGRP_STATE R71
  ⟨0x105000, [(128, 4)], 0x0, 0xfff0fff, 0x0, 0x0⟩]  -- WEAVE_STK_MAP R71

/-- Registers of block BORDER. -/
def rowsBorder0 : List RegRow := [
  ⟨0x140000, [], 0x0, 0x1, 0x0, 0x0⟩,  -- BORDER_CTL R72
  ⟨0x140004, [], 0x0, 0x0, 0x3f, 0x0⟩,  -- BORDER_EVT R72
  ⟨0x140008, [], 0x0, 0x3f, 0x0, 0x0⟩,  -- BORDER_IRQ_EN R72
  ⟨0x14000c, [], 0x0, 0x0, 0x0, 0x0⟩,  -- BORDER_ECC_CH R72
  ⟨0x140010, [], 0x0, 0xf01ff, 0x0, 0x0⟩,  -- BORDER_CMD_CH R72
  ⟨0x140014, [(5, 4)], 0x0, 0xffffffff, 0x0, 0x0⟩,  -- BORDER_CMD_D R72
  ⟨0x140028, [], 0x0, 0x2, 0x0, 0x1⟩,  -- BORDER_CMD_CTL R72
  ⟨0x14002c, [], 0x0, 0x0, 0x0, 0x0⟩,  -- BORDER_CMD_STAT R72
  ⟨0x140100, [(16, 4)], 0x0, 0x0, 0xffffffff, 0x0⟩,  -- BORDER_SAT_MAP R72
  ⟨0x140180, [(16, 4)], 0x0, 0x0, 0x0, 0x0⟩]  -- BORDER_LIM_MAP R72

/-- Registers of block TDM. -/
def rowsTdm0 : List RegRow := [
  ⟨0x200000, [(32, 4096)], 0x0, 0x3, 0x0, 0x0⟩,  -- TDM_CTL R248
  ⟨0x200004, [(32, 4096)], 0x2230ca14, 0xfe7ffeff, 0x0, 0x0⟩,  -- TDM_CFG R248
  ⟨0x200008, [(32, 4096)], 0x0, 0xffffffff, 0x0, 0x0⟩,  -- TDM_RXMASK R248
  ⟨0x20000c, [(32, 4096)], 0x0, 0xffffffff, 0x0, 0x0⟩,  -- TDM_TXMASK R248
  ⟨0x200010, [(32, 4096)], 0x0, 0x0, 0x0, 0x0⟩,  -- TDM_RXMASK_ACT R248
  ⟨0x200014, [(32, 4096)], 0x0, 0x0, 0x0, 0x0⟩,  -- TDM_TXMASK_ACT R248
  ⟨0x200018, [(32, 4096)], 0x0, 0x0, 0x0, 0x0⟩,  -- TDM_STAT R248
  ⟨0x20001c, [(32, 4096)], 0x0, 0x0, 0x0, 0x0⟩,  -- TDM_PHASE R248
  ⟨0x200020, [(32, 4096)], 0x0, 0x0, 0x7f, 0x0⟩,  -- TDM_EVT R248
  ⟨0x200024, [(32, 4096)], 0x0, 0x7f, 0x0, 0x0⟩,  -- TDM_IRQ_EN R248
  ⟨0x200028, [(32, 4096)], 0x0, 0x0, 0x0, 0x0⟩]  -- TDM_CNT R248

/-- Registers of block PDM. -/
def rowsPdm0 : List RegRow := [
  ⟨0x240000, [(8, 4)], 0x14, 0xc00000ff, 0x0, 0x0⟩,  -- PDM_CLK_CFG R249
  ⟨0x240020, [], 0x0, 0x3, 0x0, 0x0⟩,  -- PDM_CTL R249
  ⟨0x240024, [], 0x0, 0xffffffff, 0x0, 0x0⟩,  -- PDM_MIC_EN R249
  ⟨0x240028, [], 0x0, 0x0, 0x0, 0x0⟩,  -- PDM_READY R249
  ⟨0x24002c, [], 0x0, 0x0, 0x3, 0x0⟩,  -- PDM_EVT R249
  ⟨0x240030, [], 0x0, 0x3, 0x0, 0x0⟩,  -- PDM_IRQ_EN R249
  ⟨0x240100, [(32, 4)], 0x0, 0x0, 0x0, 0x0⟩]  -- PDM_DENS R249

/-- Registers of block AES3. -/
def rowsAes30 : List RegRow := [
  ⟨0x260000, [(4, 64)], 0x14, 0xe00000ff, 0x0, 0x0⟩,  -- AES_IN_CFG R250
  ⟨0x260004, [(4, 64)], 0x0, 0x0, 0x0, 0x0⟩,  -- AES_IN_STAT R250
  ⟨0x260008, [(4, 64)], 0x0, 0x0, 0x0, 0x0⟩,  -- AES_IN_CNT R250
  ⟨0x26000c, [(4, 64)], 0x0, 0x0, 0x0, 0x0⟩,  -- AES_IN_PHASE R250
  ⟨0x260010, [(4, 64), (2, 24), (6, 4)], 0x0, 0x0, 0x0, 0x0⟩,  -- AES_IN_CS R250
  ⟨0x260200, [(4, 64)], 0x0, 0xf0000000, 0x0, 0x0⟩,  -- AES_OUT_CFG R250
  ⟨0x260210, [(4, 64), (2, 24), (6, 4)], 0x0, 0xffffffff, 0x0, 0x0⟩,  -- AES_OUT_CS R250
  ⟨0x260400, [], 0x0, 0x0, 0xffff, 0x0⟩,  -- AES_EVT R250
  ⟨0x260404, [], 0x0, 0xffff, 0x0, 0x0⟩,  -- AES_IRQ_EN R250
  ⟨0x268000, [(32, 16)], 0x0, 0x80001fff, 0x0, 0x0⟩,  -- ASRC_CFG R250
  ⟨0x268004, [(32, 16)], 0x0, 0x0, 0x0, 0x0⟩,  -- ASRC_STAT R250
  ⟨0x268008, [(32, 16)], 0x0, 0x0, 0x0, 0x0⟩,  -- ASRC_RATIO R250
  ⟨0x268200, [], 0x0, 0x0, 0xffffffff, 0x0⟩,  -- ASRC_EVT R250
  ⟨0x268204, [], 0x0, 0xffffffff, 0x0, 0x0⟩,  -- ASRC_IRQ_EN R250
  ⟨0x26c000, [], 0x0, 0xf7, 0x0, 0x0⟩,  -- TRIG_CTL R250
  ⟨0x26c004, [], 0x0, 0xffffffff, 0x0, 0x0⟩,  -- TRIG_ROUND R250
  ⟨0x26c008, [], 0x0, 0x0, 0x0, 0x0⟩,  -- TRIG_IN_RND R250
  ⟨0x26c00c, [], 0x0, 0x0, 0x80000000, 0x0⟩,  -- TRIG_IN_OFS R250
  ⟨0x26c010, [], 0x0, 0x0, 0x7, 0x0⟩,  -- TRIG_EVT R250
  ⟨0x26c014, [], 0x0, 0x7, 0x0, 0x0⟩]  -- TRIG_IRQ_EN R250

/-- Registers of block NET, part 1. -/
def rowsNet0 : List RegRow := [
  ⟨0x300000, [(7, 65536)], 0x0, 0x1, 0x0, 0x2⟩,  -- NET_CTL R286
  ⟨0x300004, [(4, 65536)], 0x100001f4, 0xffc0ffff, 0x0, 0x0⟩,  -- NET_CFG R286
  ⟨0x300008, [(7, 65536)], 0x0, 0x0, 0x0, 0x0⟩,  -- NET_STAT R286
  ⟨0x30000c, [(7, 65536)], 0x0, 0x0, 0x1ff, 0x0⟩,  -- NET_EVT R286
  ⟨0x300010, [(7, 65536)], 0x0, 0x1ff, 0x0, 0x0⟩,  -- NET_IRQ_EN R286
  ⟨0x300014, [(7, 65536)], 0x0, 0xffffffff, 0x0, 0x0⟩,  -- NET_MAC_LO R286
  ⟨0x300018, [(7, 65536)], 0x0, 0xffff, 0x0, 0x0⟩,  -- NET_MAC_HI R286
  ⟨0x300020, [(7, 65536)], 0x0, 0x800000ff, 0x0, 0x40000000⟩,  -- NET_GCL_CTL R286
  ⟨0x300024, [(7, 65536)], 0x0, 0x0, 0x0, 0x0⟩,  -- NET_GCL_STAT R286
  ⟨0x300040, [(7, 65536)], 0x0, 0xfffff000, 0x0, 0x0⟩,  -- NET_TXR_BASE_LO R286
  ⟨0x300044, [(7, 65536)], 0x0, 0xff, 0x0, 0x0⟩,  -- NET_TXR_BASE_HI R286
  ⟨0x300048, [(7, 65536)], 0x0, 0x0, 0x0, 0x0⟩,  -- NET_TXR_HEAD R286
  ⟨0x30004c, [(7, 65536)], 0x0, 0xff, 0x0, 0x0⟩,  -- NET_TXR_TAIL R286
  ⟨0x300100, [(7, 65536), (16, 4)], 0x0, 0x0, 0x0, 0x0⟩,  -- NET_COUNTERS R286
  ⟨0x300200, [(7, 65536), (32, 8)], 0x0, 0xffffffff, 0x0, 0x0⟩,  -- NET_MCAST_LO R286
  ⟨0x300204, [(7, 65536), (32, 8)], 0x0, 0x8000ffff, 0x0, 0x0⟩,  -- NET_MCAST_HI R286
  ⟨0x301000, [(7, 65536), (256, 4)], 0x0, 0xffffffff, 0x0, 0x0⟩,  -- NET_GCL_ADMIN R286
  ⟨0x301400, [(7, 65536), (256, 4)], 0x0, 0x0, 0x0, 0x0⟩,  -- NET_GCL_OPER R286
  ⟨0x303000, [(7, 65536)], 0x0, 0xe30000ff, 0x0, 0x0⟩,  -- NET_SEC_CFG R286
  ⟨0x303004, [(7, 65536), (4, 4)], 0x0, 0x8000ffff, 0x0, 0x0⟩,  -- NET_SEC_BYPASS R286
  ⟨0x303020, [(7, 65536)], 0x0, 0xffffffff, 0x0, 0x0⟩,  -- NET_SEC_TXSCI_LO R286
  ⟨0x303024, [(7, 65536)], 0x0, 0xffffffff, 0x0, 0x0⟩,  -- NET_SEC_TXSCI_HI R286
  ⟨0x303100, [(7, 65536), (32, 16)], 0x0, 0xffffffff, 0x0, 0x0⟩,  -- NET_SEC_RXSCI_LO R286
  ⟨0x303104, [(7, 65536), (32, 16)], 0x0, 0xffffffff, 0x0, 0x0⟩,  -- NET_SEC_RXSCI_HI R286
  ⟨0x303108, [(7, 65536), (32, 16)], 0x0, 0x8000000f, 0x0, 0x0⟩,  -- NET_SEC_RXSC_CTL R286
  ⟨0x304000, [(7, 65536), (132, 64), (8, 4)], 0x0, 0x0, 0x0, 0xffffffff⟩,  -- NET_SEC_SA_KEY R286
  ⟨0x304020, [(7, 65536), (132, 64), (3, 4)], 0x0, 0x0, 0x0, 0xffffffff⟩,  -- NET_SEC_SA_SALT R286
  ⟨0x30402c, [(7, 65536), (132, 64)], 0x0, 0x0, 0x0, 0xffffffff⟩,  -- NET_SEC_SA_SSCI R286
  ⟨0x304030, [(7, 65536), (132, 64)], 0x0, 0xffffffff, 0x0, 0x0⟩,  -- NET_SEC_SA_PN_LO R286
  ⟨0x304034, [(7, 65536), (132, 64)], 0x0, 0xffffffff, 0x0, 0x0⟩,  -- NET_SEC_SA_PN_HI R286
  ⟨0x304038, [(7, 65536), (132, 64), (2, 4)], 0x0, 0x0, 0x0, 0x0⟩,  -- NET_SEC_SA_RZ R286
  ⟨0x308000, [(4, 32)], 0x0, 0xffffc000, 0x0, 0x0⟩,  -- NET_RXR_BASE_LO R287
  ⟨0x308004, [(4, 32)], 0x0, 0xff, 0x0, 0x0⟩,  -- NET_RXR_BASE_HI R287
  ⟨0x308008, [(4, 32)], 0x0, 0x0, 0x0, 0x0⟩,  -- NET_RXR_HEAD R287
  ⟨0x30800c, [(4, 32)], 0x0, 0x3ff, 0x0, 0x0⟩,  -- NET_RXR_TAIL R287
  ⟨0x308010, [(4, 32)], 0x0, 0x0, 0x0, 0x0⟩,  -- NET_RXR_NOBUF R287
  ⟨0x308100, [], 0x0, 0x0, 0x80000000, 0x0⟩,  -- NET_VLOG_CTL R287
  ⟨0x308104, [(3, 4)], 0x0, 0xffffffff, 0x0, 0x0⟩,  -- NET_VLOG_ADD R287
  ⟨0x308110, [], 0x0, 0x0, 0x0, 0x1⟩,  -- NET_VLOG_GO R287
  ⟨0x308114, [], 0x0, 0x0, 0x7, 0x0⟩]  -- NET_CEVT R287

/-- Registers of block NET, part 2. -/
def rowsNet1 : List RegRow := [
  ⟨0x308118, [], 0x0, 0x7, 0x0, 0x0⟩,  -- NET_CIRQ_EN R287
  ⟨0x30811c, [], 0x0, 0x0, 0x0, 0x7f⟩,  -- NET_QCLR R287
  ⟨0x308144, [], 0x10, 0xff, 0x0, 0x0⟩,  -- NET_VTHR1 R287
  ⟨0x308148, [], 0x10, 0xff, 0x0, 0x0⟩,  -- NET_VTHR2 R287
  ⟨0x30814c, [], 0x8, 0xff, 0x0, 0x0⟩,  -- NET_VTHR3 R287
  ⟨0x308150, [], 0x4, 0xff, 0x0, 0x0⟩,  -- NET_VTHR4 R287
  ⟨0x308154, [], 0x10, 0xff, 0x0, 0x0⟩,  -- NET_VTHR5 R287
  ⟨0x308158, [], 0x20, 0xff, 0x0, 0x0⟩,  -- NET_VTHR6 R287
  ⟨0x30815c, [], 0x10, 0xff, 0x0, 0x0⟩,  -- NET_VTHR7 R287
  ⟨0x308400, [(64, 16)], 0x0, 0x0, 0x0, 0x0⟩,  -- NET_QTAB_LO R287
  ⟨0x308404, [(64, 16)], 0x0, 0x0, 0x0, 0x0⟩,  -- NET_QTAB_HI R287
  ⟨0x308408, [(64, 16)], 0x0, 0x0, 0x0, 0x0⟩,  -- NET_QTAB_REM R287
  ⟨0x30c000, [(1024, 16), (4, 4)], 0x0, 0x0, 0x0, 0x0⟩,  -- NET_VLOG R287
  ⟨0x340004, [(2, 65536)], 0x920001f4, 0xffc0ffff, 0x0, 0x0⟩,  -- NET_CFG_MGMT R286
  ⟨0x360004, [], 0x100001f4, 0xffc0ffff, 0x0, 0x0⟩]  -- NET_CFG_PAIR R286

/-- Registers of block STREAM. -/
def rowsStream0 : List RegRow := [
  ⟨0x400000, [], 0x0, 0x1, 0x0, 0x0⟩,  -- STREAM_CTL R322
  ⟨0x400004, [], 0x0, 0x0, 0x3f, 0x0⟩,  -- STREAM_EVT R322
  ⟨0x400008, [], 0x0, 0x3f, 0x0, 0x0⟩,  -- STREAM_IRQ_EN R322
  ⟨0x40000c, [], 0x0, 0x0, 0x80000000, 0x0⟩,  -- STREAM_REFUSE R322
  ⟨0x400010, [], 0x0, 0xff11ff, 0x0, 0x0⟩,  -- STREAM_TPL_SEL R322
  ⟨0x400100, [(32, 4)], 0x0, 0xffffffff, 0x0, 0x0⟩,  -- STREAM_TPL R322
  ⟨0x404040, [(511, 64)], 0x4018014, 0xffffffff, 0x0, 0x0⟩,  -- CTX_CFG R322
  ⟨0x404044, [(511, 64)], 0x0, 0xff1fff, 0x0, 0x0⟩,  -- CTX_SLOT R322
  ⟨0x404048, [(511, 64)], 0x0, 0xffffffff, 0x0, 0x0⟩,  -- CTX_ID_LO R322
  ⟨0x40404c, [(511, 64)], 0x0, 0xffffffff, 0x0, 0x0⟩,  -- CTX_ID_HI R322
  ⟨0x404050, [(511, 64)], 0x0, 0xffffffff, 0x0, 0x0⟩,  -- CTX_ID2_LO R322
  ⟨0x404054, [(511, 64)], 0x0, 0xffff, 0x0, 0x0⟩,  -- CTX_ID2_HI R322
  ⟨0x404058, [(511, 64)], 0x0, 0xffffffff, 0x0, 0x0⟩,  -- CTX_SSRC R322
  ⟨0x40405c, [(511, 64)], 0x0, 0xc07f0fff, 0x0, 0x0⟩,  -- CTX_MATCH R322
  ⟨0x404060, [(511, 64)], 0x0, 0xffffffff, 0x0, 0x0⟩,  -- CTX_MCLK R322
  ⟨0x40c010, [(511, 16)], 0x0, 0x0, 0x0, 0x0⟩,  -- CTX_STAT R322
  ⟨0x40c014, [(511, 16)], 0x0, 0x0, 0x0, 0x0⟩,  -- CTX_CNT0 R322
  ⟨0x40c018, [(511, 16)], 0x0, 0x0, 0x0, 0x0⟩,  -- CTX_CNT1 R322
  ⟨0x40c01c, [(511, 16)], 0x0, 0x0, 0x0, 0x0⟩,  -- CTX_CNT2 R322
  ⟨0x40e000, [], 0x20008010, 0xe000ffff, 0x0, 0x0⟩,  -- PAIR_CFG R322
  ⟨0x40e004, [], 0x0, 0x0, 0x0, 0x3⟩,  -- PAIR_CTL R322
  ⟨0x40e008, [], 0x0, 0x0, 0x0, 0x0⟩,  -- PAIR_STAT R322
  ⟨0x40e00c, [], 0x80, 0xff, 0x0, 0x0⟩,  -- PAIR_HEALTH R322
  ⟨0x40e010, [], 0x0, 0x0, 0xff, 0x0⟩,  -- PAIR_EVT R322
  ⟨0x40e014, [], 0x0, 0xff, 0x0, 0x0⟩,  -- PAIR_IRQ_EN R322
  ⟨0x40e018, [], 0x0, 0x0, 0x0, 0x0⟩,  -- PAIR_DIFF R322
  ⟨0x40e01c, [], 0x0, 0x0, 0x0, 0x0⟩,  -- PAIR_DIG_LO R322
  ⟨0x40e020, [], 0x0, 0x0, 0x0, 0x0⟩,  -- PAIR_DIG_HI R322
  ⟨0x40e024, [], 0x0, 0x0, 0x0, 0x0⟩,  -- PAIR_PDIG_LO R322
  ⟨0x40e028, [], 0x0, 0x0, 0x0, 0x0⟩,  -- PAIR_PDIG_HI R322
  ⟨0x40e02c, [], 0x0, 0x0, 0x0, 0x0⟩,  -- PAIR_DIG_RND R322
  ⟨0x40e030, [], 0x0, 0x0, 0x0, 0x0⟩,  -- PAIR_COPY R322
  ⟨0x40e034, [], 0x0, 0x0, 0x0, 0x0⟩,  -- PAIR_CNT R322
  ⟨0x40e038, [], 0x0, 0x0, 0x0, 0x0⟩]  -- PAIR_MIRROR R322

/-- Registers of block TIME. -/
def rowsTime0 : List RegRow := [
  ⟨0x500000, [], 0x0, 0x3, 0x0, 0x0⟩,  -- TIME_CTL R352
  ⟨0x500004, [], 0xa000032, 0xfeffffff, 0x0, 0x0⟩,  -- TIME_CFG R352
  ⟨0x500008, [], 0xa320a44, 0xffffffff, 0x0, 0x0⟩,  -- TIME_CFG2 R352
  ⟨0x50000c, [], 0x0, 0x0, 0x0, 0x0⟩,  -- TIME_STAT R352
  ⟨0x500010, [], 0x0, 0x0, 0xfff, 0x0⟩,  -- TIME_EVT R352
  ⟨0x500014, [], 0x0, 0xfff, 0x0, 0x0⟩,  -- TIME_IRQ_EN R352
  ⟨0x500020, [], 0x0, 0x0, 0x0, 0x1⟩,  -- TIME_SNAP R352
  ⟨0x500024, [], 0x0, 0x0, 0x0, 0x0⟩,  -- TIME_SNAP_SHI R352
  ⟨0x500028, [], 0x0, 0x0, 0x0, 0x0⟩,  -- TIME_SNAP_SLO R352
  ⟨0x50002c, [], 0x0, 0x0, 0x0, 0x0⟩,  -- TIME_SNAP_NS R352
  ⟨0x500030, [], 0x0, 0x0, 0x0, 0x0⟩,  -- TIME_SNAP_FRAC R352
  ⟨0x500034, [], 0x0, 0x0, 0x0, 0x0⟩,  -- TIME_SNAP_RLO R352
  ⟨0x500038, [], 0x0, 0x0, 0x0, 0x0⟩,  -- TIME_SNAP_RHI R352
  ⟨0x500040, [], 0x0, 0x0, 0x0, 0x0⟩,  -- TIME_OFS R352
  ⟨0x500044, [], 0x0, 0x0, 0x0, 0x0⟩,  -- TIME_MPD R352
  ⟨0x500048, [], 0xffffffff, 0x0, 0x0, 0x0⟩,  -- TIME_ERR R352
  ⟨0x50004c, [], 0x0, 0x0, 0x0, 0x0⟩,  -- TIME_PAIR_OFS R352
  ⟨0x500050, [], 0x94000000, 0xffffffff, 0x0, 0x0⟩,  -- TIME_RTC_PER_LO R352
  ⟨0x500054, [], 0x7735, 0xffff, 0x0, 0x0⟩,  -- TIME_RTC_PER_HI R352
  ⟨0x500058, [], 0x4e20, 0xffffffff, 0x0, 0x0⟩,  -- TIME_RTC_UNC R352
  ⟨0x50005c, [], 0x1f4, 0xffffffff, 0x0, 0x0⟩,  -- TIME_HOLD_PPB R352
  ⟨0x500060, [], 0x8080f8fe, 0xffffffff, 0x0, 0x0⟩,  -- TIME_PTP_DS R352
  ⟨0x500064, [], 0xfd000000, 0xffffff00, 0x0, 0x0⟩,  -- TIME_PTP_INT R352
  ⟨0x500070, [(7, 4)], 0x0, 0xffffffff, 0x0, 0x0⟩,  -- TIME_ASYM R352
  ⟨0x500090, [(7, 4)], 0x0, 0xffffffff, 0x0, 0x0⟩,  -- TIME_TRIM R352
  ⟨0x500100, [(6, 16)], 0x0, 0x0, 0x80000000, 0x0⟩,  -- TIME_TSQ_STAT R352
  ⟨0x500104, [(6, 16)], 0x0, 0x0, 0x0, 0x0⟩,  -- TIME_TSQ_POP R352
  ⟨0x500108, [(6, 16)], 0x0, 0x0, 0x0, 0x0⟩,  -- TIME_TSQ_NS R352
  ⟨0x50010c, [(6, 16)], 0x0, 0x0, 0x0, 0x0⟩,  -- TIME_TSQ_S R352
  ⟨0x500160, [(6, 4)], 0x0, 0x0, 0x0, 0x0⟩,  -- TIME_TSQ_OVFCNT R352
  ⟨0x500200, [(2, 128), (8, 4)], 0x0, 0xffffffff, 0x0, 0x0⟩,  -- TIME_SA_W R352
  ⟨0x500220, [(2, 128)], 0x0, 0x0, 0x0, 0x1⟩,  -- TIME_SA_GO R352
  ⟨0x500224, [(2, 128)], 0x0, 0x0, 0x0, 0x0⟩,  -- TIME_SA_STAT R352
  ⟨0x500228, [(2, 128)], 0x0, 0x0, 0x0, 0x8000ffff⟩,  -- TIME_SA_CANCEL R352
  ⟨0x500300, [], 0x0, 0x0, 0x0, 0x0⟩,  -- TIME_SA_LVL R352
  ⟨0x500304, [], 0x0, 0x0, 0x80000000, 0x0⟩,  -- TIME_SA_DONE_HEAD R352
  ⟨0x504000, [(256, 8), (2, 4)], 0x0, 0x0, 0x0, 0x0⟩,  -- TIME_SA_DONE R352
  ⟨0x508000, [(1024, 16), (4, 4)], 0x0, 0x0, 0x0, 0x0⟩,  -- TIME_RXTS R352
  ⟨0x50c000, [(6, 1024), (64, 16), (4, 4)], 0x0, 0x0, 0x0, 0x0⟩]  -- TIME_TXTS R352

/-- Registers of block REFSEL. -/
def rowsRefsel0 : List RegRow := [
  ⟨0x510000, [], 0x2, 0xf33, 0x0, 0x0⟩,  -- REFSEL_CTL R378
  ⟨0x510004, [], 0x1e05032, 0xfffff0ff, 0x0, 0x0⟩,  -- REFSEL_CFG R378
  ⟨0x510008, [], 0x3e8, 0xfffff, 0x0, 0x0⟩,  -- REFSEL_SLOPE R378
  ⟨0x51000c, [], 0x7d0, 0xfffff, 0x0, 0x0⟩,  -- REFSEL_AGREE R378
  ⟨0x510010, [], 0x40, 0x7ff, 0x0, 0x0⟩,  -- REFSEL_HOLD_AVG R378
  ⟨0x510018, [], 0xf000000, 0x0, 0x0, 0x0⟩,  -- REFSEL_STAT R378
  ⟨0x51001c, [], 0x0, 0x0, 0x7ff, 0x0⟩,  -- REFSEL_EVT R378
  ⟨0x510020, [], 0x0, 0x0, 0x0, 0x0⟩,  -- REFSEL_NCO_LO R378
  ⟨0x510024, [], 0x0, 0x0, 0x0, 0x0⟩,  -- REFSEL_NCO_HI R378
  ⟨0x510028, [], 0x0, 0xffffffff, 0x0, 0x0⟩,  -- REFSEL_FORCE_LO R378
  ⟨0x51002c, [], 0x0, 0xffffffff, 0x0, 0x0⟩,  -- REFSEL_FORCE_HI R378
  ⟨0x510030, [], 0x0, 0x0, 0x0, 0x0⟩,  -- REFSEL_HOLD_LO R378
  ⟨0x510034, [], 0x0, 0x0, 0x0, 0x0⟩,  -- REFSEL_HOLD_HI R378
  ⟨0x510038, [], 0x0, 0x0, 0x0, 0x0⟩,  -- REFSEL_LAST R378
  ⟨0x51003c, [], 0x0, 0x7ff, 0x0, 0x0⟩,  -- REFSEL_IRQ_EN R378
  ⟨0x510100, [], 0x4f046100, 0xcf0ff300, 0x0, 0x0⟩,  -- REF_CFG_PTP R378
  ⟨0x510104, [(8, 32)], 0x0, 0xffffffff, 0x0, 0x0⟩,  -- REF_OFS R378
  ⟨0x510108, [(8, 32)], 0x0, 0x0, 0x0, 0x0⟩,  -- REF_STAT R378
  ⟨0x51010c, [(8, 32)], 0x0, 0x0, 0x0, 0x0⟩,  -- REF_FREQ R378
  ⟨0x510110, [(8, 32)], 0x0, 0x0, 0x0, 0x0⟩,  -- REF_PHASE R378
  ⟨0x510114, [(8, 32)], 0x0, 0x0, 0x1f, 0x0⟩,  -- REF_HIST R378
  ⟨0x510120, [], 0xf08a100, 0xcf0ff300, 0x0, 0x0⟩,  -- REF_CFG_WCLK R378
  ⟨0x510140, [], 0x4f023100, 0xcf0ff300, 0x0, 0x0⟩,  -- REF_CFG_PPS R378
  ⟨0x510160, [], 0xf068100, 0xcf0ff300, 0x0, 0x0⟩,  -- REF_CFG_F10M R378
  ⟨0x510180, [(4, 32)], 0xf08a100, 0xcf0ff300, 0x0, 0x0⟩,  -- REF_CFG_AES R378
  ⟨0x510200, [(4, 16)], 0x2000064, 0xf78003ff, 0x0, 0x0⟩,  -- OUT_CFG R378
  ⟨0x510204, [(4, 16)], 0x0, 0xffffffff, 0x0, 0x0⟩]  -- OUT_OFS R378

/-- Registers of block ALARM. -/
def rowsAlarm0 : List RegRow := [
  ⟨0x600000, [], 0x0, 0x1, 0x0, 0x0⟩,  -- ALARM_CTL R217
  ⟨0x600004, [], 0x0, 0x0, 0x3ff, 0x0⟩,  -- ALARM_EVT R217
  ⟨0x600008, [], 0x0, 0x3ff, 0x0, 0x0⟩,  -- ALARM_IRQ_EN R217
  ⟨0x60000c, [], 0x0, 0x0, 0x60, 0x0⟩,  -- ALARM_FAULT R217
  ⟨0x600010, [], 0x0, 0xffff, 0x0, 0x0⟩,  -- ALARM_FAULT_SW R217
  ⟨0x600014, [], 0x0, 0x0, 0x0, 0x33f⟩,  -- ALARM_CMD R217
  ⟨0x600018, [], 0x0, 0x0, 0x0, 0x0⟩,  -- ALARM_IN_STAT R217
  ⟨0x60001c, [], 0x0, 0x0, 0x0, 0x0⟩,  -- ALARM_TRIG_ACT0 R217
  ⟨0x600020, [], 0x0, 0x0, 0x0, 0x0⟩,  -- ALARM_TRIG_ACT1 R217
  ⟨0x600024, [], 0x0, 0x0, 0x0, 0x0⟩,  -- ALARM_MSG_CNT R217
  ⟨0x600028, [], 0x0, 0x0, 0x80000000, 0x0⟩,  -- ALARM_REJ R217
  ⟨0x60002c, [], 0x0, 0xffffffff, 0x0, 0x0⟩,  -- ALARM_BARE_PORTS R217
  ⟨0x600030, [], 0x0, 0x0, 0x0, 0x0⟩,  -- ALARM_MSG_OK0 R217
  ⟨0x600034, [], 0x0, 0x0, 0x0, 0x0⟩,  -- ALARM_MSG_OK1 R217
  ⟨0x600100, [(16, 4)], 0x300000c8, 0xf83f7fff, 0x0, 0x0⟩,  -- ALARM_IN_CFG R217
  ⟨0x600200, [(64, 8)], 0x40000000, 0xfc0f3fff, 0x0, 0x0⟩,  -- ALARM_TRIG_CFG R217
  ⟨0x600204, [(64, 8)], 0xff000000, 0xff000fff, 0x0, 0x0⟩,  -- ALARM_TRIG_GRP R217
  ⟨0x600400, [(16, 8)], 0x0, 0x0, 0x0, 0x0⟩,  -- ALARM_PLY_STAT R217
  ⟨0x600404, [(16, 8)], 0x0, 0x0, 0x0, 0x0⟩]  -- ALARM_PLY_POS R217

/-- Registers of block SUPV. -/
def rowsSupv0 : List RegRow := [
  ⟨0x610000, [], 0x0, 0x5, 0x0, 0x2⟩,  -- SUPV_CTL R191
  ⟨0x610004, [], 0x0, 0x0, 0x3ff, 0x0⟩,  -- SUPV_EVT R191
  ⟨0x610008, [], 0x0, 0x3ff, 0x0, 0x0⟩,  -- SUPV_IRQ_EN R191
  ⟨0x61000c, [], 0x19141408, 0xffffffff, 0x0, 0x0⟩,  -- SUPV_THR R191
  ⟨0x610010, [], 0x5a030a, 0xffff07ff, 0x0, 0x0⟩,  -- SUPV_TIME R191
  ⟨0x610014, [], 0x1e506432, 0xffffff7f, 0x0, 0x0⟩,  -- SUPV_LIM R191
  ⟨0x610018, [], 0x0, 0x0, 0x0, 0x0⟩,  -- SUPV_DEM_SEQ R191
  ⟨0x610100, [(16, 4)], 0x0, 0x0, 0x0, 0x0⟩,  -- SUPV_LINE_MAP R191
  ⟨0x610140, [(4, 4)], 0x0, 0x0, 0x0, 0x0⟩,  -- SUPV_MIC_MAP R191
  ⟨0x610150, [(2, 4)], 0x0, 0x0, 0x0, 0x0⟩,  -- SUPV_TI_MAP R191
  ⟨0x611000, [(512, 16)], 0x0, 0xc3ffffff, 0x0, 0x0⟩,  -- SUPV_LINE_CFG R191
  ⟨0x611004, [(512, 16)], 0x0, 0xffffffff, 0x0, 0x0⟩,  -- SUPV_LINE_Z0 R191
  ⟨0x611008, [(512, 16)], 0x0, 0xffffffff, 0x0, 0x0⟩,  -- SUPV_LINE_Z R191
  ⟨0x61100c, [(512, 16)], 0x880000ff, 0xfff0ffff, 0x0, 0x0⟩,  -- SUPV_LINE_STAT R191
  ⟨0x613000, [(128, 16)], 0x0, 0xf9ff1fff, 0x0, 0x0⟩,  -- SUPV_MIC_CFG R191
  ⟨0x613004, [(128, 16)], 0x6e5affff, 0xffff0000, 0x0, 0x0⟩,  -- SUPV_MIC_LVL R191
  ⟨0x613008, [(128, 16)], 0x0, 0x0, 0x0, 0x0⟩,  -- SUPV_MIC_STAT R191
  ⟨0x614000, [(64, 16)], 0x0, 0x83ffffff, 0x0, 0x0⟩,  -- SUPV_TI_CFG R191
  ⟨0x614004, [(64, 16)], 0x0, 0xf0fffc7f, 0x0, 0x0⟩,  -- SUPV_TI_VAL R191
  ⟨0x615000, [(64, 16)], 0x18083c, 0xc0ffffff, 0x0, 0x0⟩,  -- SUPV_NC_CFG R191
  ⟨0x615004, [(64, 16)], 0xff000000, 0x0, 0x0, 0x0⟩,  -- SUPV_NC_STAT R191
  ⟨0x618000, [(512, 32), (8, 4)], 0x0, 0x0, 0x0, 0x0⟩]  -- SUPV_DEM R191

/-- Registers of block TRUST. -/
def rowsTrust0 : List RegRow := [
  ⟨0x700000, [], 0x0, 0x0, 0x0, 0x0⟩,  -- TRUST_LC R451
  ⟨0x700004, [], 0x0, 0x0, 0x0, 0x0⟩,  -- TRUST_BOOT R451
  ⟨0x700008, [], 0x0, 0x0, 0x0, 0x0⟩,  -- TRUST_TREL R451
  ⟨0x70000c, [], 0x0, 0x0, 0x0, 0x0⟩,  -- TRUST_SLOTS R451
  ⟨0x700010, [], 0x0, 0x0, 0x7f, 0x0⟩,  -- TRUST_EVT R451
  ⟨0x700014, [], 0x0, 0x7f, 0x0, 0x0⟩,  -- TRUST_IRQ_EN R451
  ⟨0x700018, [], 0x0, 0x0, 0x0, 0x1⟩,  -- TRUST_CAP_CTL R451
  ⟨0x70001c, [], 0x0, 0x0, 0x0, 0x0⟩,  -- TRUST_CAP_STAT R451
  ⟨0x700040, [(12, 4)], 0x0, 0x0, 0x0, 0x0⟩,  -- TRUST_SKN_DIG R451
  ⟨0x700080, [(24, 4)], 0x0, 0x0, 0x0, 0x0⟩,  -- TRUST_IDPUB R451
  ⟨0x700100, [(6, 48), (12, 4)], 0x0, 0x0, 0x0, 0x0⟩,  -- TRUST_MEAS R451
  ⟨0x700300, [(8, 4)], 0x0, 0xffffffff, 0x0, 0x0⟩,  -- TRUST_ATT_NONCE R451
  ⟨0x700320, [], 0x0, 0x0, 0x0, 0x1⟩,  -- TRUST_ATT_CTL R451
  ⟨0x700400, [(128, 4)], 0x0, 0x0, 0x0, 0x0⟩,  -- TRUST_ATT_EV R451
  ⟨0x700600, [(8, 4)], 0x0, 0x0, 0x0, 0x0⟩,  -- TRUST_DBG_NONCE R451
  ⟨0x700640, [], 0x0, 0x0, 0x0, 0x0⟩,  -- TRUST_SVN R451
  ⟨0x700700, [], 0x0, 0xfffffff, 0x0, 0x0⟩,  -- TRUST_FL_ADDR R451
  ⟨0x700704, [], 0x0, 0x0, 0x0, 0x3⟩,  -- TRUST_FL_CMD R451
  ⟨0x700708, [], 0x0, 0x0, 0x0, 0x0⟩,  -- TRUST_FL_STAT R451
  ⟨0x700800, [(64, 4)], 0x0, 0xffffffff, 0x0, 0x0⟩,  -- TRUST_FL_BUF R451
  ⟨0x700900, [], 0x0, 0x0, 0x0, 0x0⟩]  -- TRUST_LOG_STAT R451

/-- Registers of block HEALTH. -/
def rowsHealth0 : List RegRow := [
  ⟨0x800000, [], 0x0, 0x0, 0x7f, 0x0⟩,  -- HEALTH_EVT R513
  ⟨0x800004, [], 0x0, 0x7f, 0x0, 0x0⟩,  -- HEALTH_IRQ_EN R513
  ⟨0x800100, [(20, 4)], 0x0, 0x0, 0x0, 0x0⟩,  -- HEALTH_TEMP R513
  ⟨0x800180, [(8, 4)], 0x0, 0x0, 0x0, 0x0⟩,  -- HEALTH_SUPPLY R513
  ⟨0x800200, [(24, 8)], 0x0, 0x0, 0x0, 0x0⟩,  -- HEALTH_RO R513
  ⟨0x800204, [(24, 8)], 0x0, 0x0, 0x0, 0x0⟩,  -- HEALTH_RO_BASE R513
  ⟨0x800300, [], 0x0, 0x0, 0x0, 0x0⟩,  -- HEALTH_EM R513
  ⟨0x800400, [(34, 4)], 0x0, 0x0, 0x0, 0x0⟩,  -- HEALTH_ECC R513
  ⟨0x800500, [], 0xffffffff, 0xffffffff, 0x0, 0x0⟩,  -- HEALTH_EOL_NOW R513
  ⟨0x800504, [], 0xffffffff, 0xffffffff, 0x0, 0x0⟩,  -- HEALTH_EOL_105 R513
  ⟨0x800508, [], 0xffffffff, 0xffffffff, 0x0, 0x0⟩,  -- HEALTH_EOL_LO R513
  ⟨0x80050c, [], 0xffffffff, 0xffffffff, 0x0, 0x0⟩,  -- HEALTH_EOL_HI R513
  ⟨0x800510, [], 0x0, 0x3ff, 0x0, 0x0⟩,  -- HEALTH_EOL_SRC R513
  ⟨0x800514, [], 0x0, 0xffffffff, 0x0, 0x0⟩]  -- HEALTH_TEQ R513

/-- Registers of block CLUSTER. -/
def rowsCluster0 : List RegRow := [
  ⟨0x1000000, [(16, 1048576)], 0x0, 0x4, 0x0, 0x3⟩,  -- CL_CTL R158
  ⟨0x1000004, [(16, 1048576)], 0x0, 0x0, 0x0, 0x0⟩,  -- CL_STAT R158
  ⟨0x1000008, [(16, 1048576)], 0x0, 0x0, 0x7f, 0x0⟩,  -- CL_EVT R158
  ⟨0x100000c, [(16, 1048576)], 0x0, 0x7f, 0x0, 0x0⟩,  -- CL_IRQ_EN R158
  ⟨0x1000010, [(16, 1048576)], 0x0, 0x0, 0x0, 0x0⟩,  -- CL_OVF R158
  ⟨0x1000014, [(16, 1048576)], 0x0, 0x0, 0xffff, 0x0⟩,  -- CL_OVF_STK R158
  ⟨0x1000018, [(16, 1048576)], 0x0, 0x0, 0x0, 0x0⟩,  -- CL_ABI R158
  ⟨0x100001c, [(16, 1048576)], 0x0, 0x0, 0x80000000, 0x0⟩,  -- CL_ABI_REJ R158
  ⟨0x1000020, [(16, 1048576)], 0x0, 0x0, 0x0, 0x0⟩,  -- CL_DIG_LO R158
  ⟨0x1000024, [(16, 1048576)], 0x0, 0x0, 0x0, 0x0⟩,  -- CL_DIG_HI R158
  ⟨0x1000028, [(16, 1048576)], 0x0, 0x0, 0x0, 0x0⟩,  -- CL_DIG_RND R158
  ⟨0x100002c, [(16, 1048576)], 0x0, 0x0, 0x0, 0x0⟩,  -- CL_START_RND R158
  ⟨0x1000030, [(16, 1048576)], 0x0, 0x1fffffff, 0x0, 0x0⟩,  -- CL_DMA R158
  ⟨0x1000034, [(16, 1048576)], 0x0, 0x0, 0x0, 0x0⟩,  -- CL_DMA_STAT R158
  ⟨0x1000040, [(16, 1048576), (8, 4)], 0x0, 0xe0ffdfff, 0x0, 0x0⟩,  -- CL_SCHED R158
  ⟨0x1000080, [(16, 1048576), (8, 16), (4, 4)], 0x0, 0x7ffff, 0x0, 0x0⟩,  -- CL_WCC R158
  ⟨0x1001000, [(4, 4194304)], 0x0, 0x0, 0x0, 0x0⟩,  -- REG_OP R159
  ⟨0x1001004, [(4, 4194304)], 0x69625c, 0xffffff, 0x0, 0x0⟩,  -- REG_THR R159
  ⟨0x1001008, [(4, 4194304)], 0x0, 0x0, 0x0, 0x0⟩,  -- REG_TEMP R159
  ⟨0x100100c, [(4, 4194304)], 0x0, 0x0, 0x0, 0x0⟩,  -- REG_LINK R159
  ⟨0x1001010, [(4, 4194304)], 0x0, 0x0, 0xf, 0x0⟩,  -- REG_EVT R159
  ⟨0x1001014, [(4, 4194304)], 0x0, 0xf, 0x0, 0x0⟩,  -- REG_IRQ_EN R159
  ⟨0x1008000, [(16, 1048576), (8, 64)], 0x0, 0x0, 0x0, 0x0⟩,  -- STK_STAT R105
  ⟨0x1008004, [(16, 1048576), (8, 64)], 0x0, 0x0, 0x0, 0x0⟩,  -- STK_PC R105
  ⟨0x1008008, [(16, 1048576), (8, 64)], 0x0, 0x0, 0x0, 0x0⟩,  -- STK_CYC R105
  ⟨0x100800c, [(16, 1048576), (8, 64)], 0x0, 0x0, 0x0, 0x80000000⟩,  -- STK_CYC_MAX R105
  ⟨0x1008010, [(16, 1048576), (8, 64)], 0x0, 0x0, 0x0, 0x0⟩]  -- STK_ST R105

/-- The rows of the block that an offset lies in. -/
def rowsAt (a : Nat) : List RegRow :=
  if Nat.blt a 0x10000 then rowsSys0
  else if Nat.blt a 0x20000 then rowsRim0
  else if Nat.blt a 0x30000 then rowsPwr0
  else if Nat.blt a 0x40000 then rowsMatrix0
  else if Nat.blt a 0x50000 then rowsMbox0
  else if Nat.blt a 0x100000 then rowsLock0
  else if Nat.blt a 0x140000 then rowsWeave0
  else if Nat.blt a 0x200000 then rowsBorder0
  else if Nat.blt a 0x240000 then rowsTdm0
  else if Nat.blt a 0x260000 then rowsPdm0
  else if Nat.blt a 0x300000 then rowsAes30
  else if Nat.blt a 0x400000 then rowsNet0 ++ rowsNet1
  else if Nat.blt a 0x500000 then rowsStream0
  else if Nat.blt a 0x510000 then rowsTime0
  else if Nat.blt a 0x600000 then rowsRefsel0
  else if Nat.blt a 0x610000 then rowsAlarm0
  else if Nat.blt a 0x700000 then rowsSupv0
  else if Nat.blt a 0x800000 then rowsTrust0
  else if Nat.blt a 0x1000000 then rowsHealth0
  else rowsCluster0

/-- The row of a register offset, none where the spec lists no register. -/
def regRow (a : Nat) : Option RegRow := findRow a (rowsAt a)

/-- What a register holds after a device reset (R9), zero where no register is listed. -/
def regReset (a : Nat) : Word :=
  match regRow a with
  | some r => BitVec.ofNat 32 r.reset
  | none => 0#32

namespace Reg

/-- SYS_ID, R12. -/
@[reducible] def SYS_ID : Nat := 0x0
/-- RIM_RTC_LO, R509. -/
@[reducible] def RIM_RTC_LO : Nat := 0x10000
/-- RIM_RTC_HI, R509. -/
@[reducible] def RIM_RTC_HI : Nat := 0x10004
/-- RIM_RTC_ALM_LO, R509. -/
@[reducible] def RIM_RTC_ALM_LO : Nat := 0x10008
/-- RIM_RTC_ALM_HI, R509. -/
@[reducible] def RIM_RTC_ALM_HI : Nat := 0x1000c
/-- RIM_STAT, R509. -/
@[reducible] def RIM_STAT : Nat := 0x10010
/-- RIM_WAKE_EN, R509. -/
@[reducible] def RIM_WAKE_EN : Nat := 0x10014
/-- RIM_WAKE_LATCH, R509. -/
@[reducible] def RIM_WAKE_LATCH : Nat := 0x10018
/-- RIM_WF_CFG, R509. -/
@[reducible] def RIM_WF_CFG : Nat := 0x1001c
/-- RIM_WF_SCI_LO, R509. -/
@[reducible] def RIM_WF_SCI_LO (i : Nat) : Nat := 0x10040 + 0x8 * i
/-- RIM_WF_SCI_HI, R509. -/
@[reducible] def RIM_WF_SCI_HI (i : Nat) : Nat := 0x10044 + 0x8 * i
/-- RIM_WF_STAT, R509. -/
@[reducible] def RIM_WF_STAT : Nat := 0x10060
/-- RIM_WAKE_CNT, R509. -/
@[reducible] def RIM_WAKE_CNT : Nat := 0x10064
/-- PWR_CTL, R511. -/
@[reducible] def PWR_CTL : Nat := 0x20000
/-- PWR_STAT, R511. -/
@[reducible] def PWR_STAT : Nat := 0x20004
/-- PWR_TRIM_MASK, R511. -/
@[reducible] def PWR_TRIM_MASK : Nat := 0x20008
/-- PWR_REFUSE, R511. -/
@[reducible] def PWR_REFUSE : Nat := 0x2000c
/-- PWR_EVT, R511. -/
@[reducible] def PWR_EVT : Nat := 0x20010
/-- PWR_IRQ_EN, R511. -/
@[reducible] def PWR_IRQ_EN : Nat := 0x20014
/-- PWR_BACKOFF, R511. -/
@[reducible] def PWR_BACKOFF : Nat := 0x20018
/-- PWR_IDLE, R511. -/
@[reducible] def PWR_IDLE : Nat := 0x2001c
/-- PWR_RESET, R511. -/
@[reducible] def PWR_RESET : Nat := 0x20030
/-- PWR_CYCLE, R511. -/
@[reducible] def PWR_CYCLE : Nat := 0x20034
/-- PWR_PCYC, R511. -/
@[reducible] def PWR_PCYC : Nat := 0x20038
/-- PWR_RECOV, R511. -/
@[reducible] def PWR_RECOV : Nat := 0x20040
/-- PWR_LADDER, R511. -/
@[reducible] def PWR_LADDER : Nat := 0x20048
/-- MATRIX_EVT, R476. -/
@[reducible] def MATRIX_EVT : Nat := 0x30000
/-- MATRIX_IRQ_EN, R476. -/
@[reducible] def MATRIX_IRQ_EN : Nat := 0x30004
/-- MATRIX_ERR_ADDR_LO, R476. -/
@[reducible] def MATRIX_ERR_ADDR_LO : Nat := 0x30008
/-- MATRIX_ERR_ADDR_HI, R476. -/
@[reducible] def MATRIX_ERR_ADDR_HI : Nat := 0x3000c
/-- MATRIX_ERR_INFO, R476. -/
@[reducible] def MATRIX_ERR_INFO : Nat := 0x30010
/-- MATRIX_ERR_CNT, R476. -/
@[reducible] def MATRIX_ERR_CNT : Nat := 0x30014
/-- MATRIX_PORT_STAT, R476. -/
@[reducible] def MATRIX_PORT_STAT (i : Nat) : Nat := 0x30100 + 0x4 * i
/-- MATRIX_PORT_STAT_RSV, R476. -/
@[reducible] def MATRIX_PORT_STAT_RSV (i : Nat) : Nat := 0x30168 + 0x4 * i
/-- MATRIX_PORT_STAT_HI, R476. -/
@[reducible] def MATRIX_PORT_STAT_HI (i : Nat) : Nat := 0x30180 + 0x4 * i
/-- MATRIX_HOST_CFG, R476. -/
@[reducible] def MATRIX_HOST_CFG : Nat := 0x30200
/-- MATRIX_HMBOX, R476. -/
@[reducible] def MATRIX_HMBOX : Nat := 0x30204
/-- MATRIX_HTEL, R476. -/
@[reducible] def MATRIX_HTEL (i : Nat) : Nat := 0x30240 + 0x4 * i
/-- MBOX_DATA, R477. -/
@[reducible] def MBOX_DATA (i : Nat) (j : Nat) : Nat := 0x40000 + 0x40 * i + 0x4 * j
/-- MBOX_STAT, R477. -/
@[reducible] def MBOX_STAT (i : Nat) : Nat := 0x40800 + 0x4 * i
/-- MBOX_RELEASE, R477. -/
@[reducible] def MBOX_RELEASE : Nat := 0x40880
/-- MBOX_STG, R477. -/
@[reducible] def MBOX_STG (i : Nat) : Nat := 0x41004 + 0x4 * i
/-- MBOX_SEND, R477. -/
@[reducible] def MBOX_SEND : Nat := 0x41040
/-- MBOX_SEND_STAT, R477. -/
@[reducible] def MBOX_SEND_STAT : Nat := 0x41044
/-- MBOX_DB, R477. -/
@[reducible] def MBOX_DB (i : Nat) : Nat := 0x41100 + 0x4 * i
/-- MBOX_MASK, R477. -/
@[reducible] def MBOX_MASK (i : Nat) : Nat := 0x41120 + 0x4 * i
/-- MBOX_ACK, R477. -/
@[reducible] def MBOX_ACK (i : Nat) : Nat := 0x41200 + 0x4 * i
/-- MBOX_ACK_MASK, R477. -/
@[reducible] def MBOX_ACK_MASK (i : Nat) : Nat := 0x41280 + 0x4 * i
/-- MBOX_EVT, R477. -/
@[reducible] def MBOX_EVT : Nat := 0x41300
/-- MBOX_IRQ_EN, R477. -/
@[reducible] def MBOX_IRQ_EN : Nat := 0x41304
/-- LOCK, R478. -/
@[reducible] def LOCK (i : Nat) : Nat := 0x50000 + 0x4 * i
/-- LOCK_PEEK, R478. -/
@[reducible] def LOCK_PEEK (i : Nat) : Nat := 0x50100 + 0x4 * i
/-- LOCK_BROKEN_LO, R478. -/
@[reducible] def LOCK_BROKEN_LO : Nat := 0x50200
/-- LOCK_BROKEN_HI, R478. -/
@[reducible] def LOCK_BROKEN_HI : Nat := 0x50204
/-- LOCK_EVT, R478. -/
@[reducible] def LOCK_EVT : Nat := 0x50208
/-- LOCK_IRQ_EN, R478. -/
@[reducible] def LOCK_IRQ_EN : Nat := 0x5020c
/-- LOCK_BAD, R478. -/
@[reducible] def LOCK_BAD : Nat := 0x50210
/-- WEAVE_CTL, R71. -/
@[reducible] def WEAVE_CTL : Nat := 0x100000
/-- WEAVE_CLASS_CTL, R71. -/
@[reducible] def WEAVE_CLASS_CTL : Nat := 0x100004
/-- WEAVE_SPARE, R71. -/
@[reducible] def WEAVE_SPARE : Nat := 0x100008
/-- WEAVE_EVT, R71. -/
@[reducible] def WEAVE_EVT : Nat := 0x10000c
/-- WEAVE_IRQ_EN, R71. -/
@[reducible] def WEAVE_IRQ_EN : Nat := 0x100010
/-- WEAVE_ECC_IDX, R71. -/
@[reducible] def WEAVE_ECC_IDX : Nat := 0x100014
/-- WEAVE_AGRP_SET, R71. -/
@[reducible] def WEAVE_AGRP_SET : Nat := 0x100018
/-- WEAVE_AGRP_CLR, R71. -/
@[reducible] def WEAVE_AGRP_CLR : Nat := 0x10001c
/-- WEAVE_XP_IDX, R71. -/
@[reducible] def WEAVE_XP_IDX (i : Nat) : Nat := 0x100100 + 0x80 * i
/-- WEAVE_XP_W0, R71. -/
@[reducible] def WEAVE_XP_W0 (i : Nat) : Nat := 0x100104 + 0x80 * i
/-- WEAVE_XP_W1, R71. -/
@[reducible] def WEAVE_XP_W1 (i : Nat) : Nat := 0x100108 + 0x80 * i
/-- WEAVE_XP_W2, R71. -/
@[reducible] def WEAVE_XP_W2 (i : Nat) : Nat := 0x10010c + 0x80 * i
/-- WEAVE_XP_CTL, R71. -/
@[reducible] def WEAVE_XP_CTL (i : Nat) : Nat := 0x100110 + 0x80 * i
/-- WEAVE_XP_STAT, R71. -/
@[reducible] def WEAVE_XP_STAT (i : Nat) : Nat := 0x100114 + 0x80 * i
/-- WEAVE_HPF, R71. -/
@[reducible] def WEAVE_HPF (i : Nat) : Nat := 0x101000 + 0x4 * i
/-- WEAVE_HSRC, R71. -/
@[reducible] def WEAVE_HSRC (i : Nat) : Nat := 0x101800 + 0x4 * i
/-- WEAVE_GEN_CFG, R71. -/
@[reducible] def WEAVE_GEN_CFG (i : Nat) : Nat := 0x102000 + 0x10 * i
/-- WEAVE_GEN_FREQ, R71. -/
@[reducible] def WEAVE_GEN_FREQ (i : Nat) : Nat := 0x102004 + 0x10 * i
/-- WEAVE_GEN_AMP, R71. -/
@[reducible] def WEAVE_GEN_AMP (i : Nat) : Nat := 0x102008 + 0x10 * i
/-- WEAVE_GEN_SEED, R71. -/
@[reducible] def WEAVE_GEN_SEED (i : Nat) : Nat := 0x10200c + 0x10 * i
/-- WEAVE_GEN_CFG_PLAYER, R71. -/
@[reducible] def WEAVE_GEN_CFG_PLAYER (i : Nat) : Nat := 0x102300 + 0x10 * i
/-- WEAVE_MTR_CFG, R71. -/
@[reducible] def WEAVE_MTR_CFG (i : Nat) : Nat := 0x103000 + 0x10 * i
/-- WEAVE_MTR_PEAK, R71. -/
@[reducible] def WEAVE_MTR_PEAK (i : Nat) : Nat := 0x103004 + 0x10 * i
/-- WEAVE_MTR_MS, R71. -/
@[reducible] def WEAVE_MTR_MS (i : Nat) : Nat := 0x103008 + 0x10 * i
/-- WEAVE_AGRP_STATE, R71. -/
@[reducible] def WEAVE_AGRP_STATE (i : Nat) : Nat := 0x104000 + 0x4 * i
/-- WEAVE_STK_MAP, R71. -/
@[reducible] def WEAVE_STK_MAP (i : Nat) : Nat := 0x105000 + 0x4 * i
/-- BORDER_CTL, R72. -/
@[reducible] def BORDER_CTL : Nat := 0x140000
/-- BORDER_EVT, R72. -/
@[reducible] def BORDER_EVT : Nat := 0x140004
/-- BORDER_IRQ_EN, R72. -/
@[reducible] def BORDER_IRQ_EN : Nat := 0x140008
/-- BORDER_ECC_CH, R72. -/
@[reducible] def BORDER_ECC_CH : Nat := 0x14000c
/-- BORDER_CMD_CH, R72. -/
@[reducible] def BORDER_CMD_CH : Nat := 0x140010
/-- BORDER_CMD_D, R72. -/
@[reducible] def BORDER_CMD_D (i : Nat) : Nat := 0x140014 + 0x4 * i
/-- BORDER_CMD_CTL, R72. -/
@[reducible] def BORDER_CMD_CTL : Nat := 0x140028
/-- BORDER_CMD_STAT, R72. -/
@[reducible] def BORDER_CMD_STAT : Nat := 0x14002c
/-- BORDER_SAT_MAP, R72. -/
@[reducible] def BORDER_SAT_MAP (i : Nat) : Nat := 0x140100 + 0x4 * i
/-- BORDER_LIM_MAP, R72. -/
@[reducible] def BORDER_LIM_MAP (i : Nat) : Nat := 0x140180 + 0x4 * i
/-- TDM_CTL, R248. -/
@[reducible] def TDM_CTL (i : Nat) : Nat := 0x200000 + 0x1000 * i
/-- TDM_CFG, R248. -/
@[reducible] def TDM_CFG (i : Nat) : Nat := 0x200004 + 0x1000 * i
/-- TDM_RXMASK, R248. -/
@[reducible] def TDM_RXMASK (i : Nat) : Nat := 0x200008 + 0x1000 * i
/-- TDM_TXMASK, R248. -/
@[reducible] def TDM_TXMASK (i : Nat) : Nat := 0x20000c + 0x1000 * i
/-- TDM_RXMASK_ACT, R248. -/
@[reducible] def TDM_RXMASK_ACT (i : Nat) : Nat := 0x200010 + 0x1000 * i
/-- TDM_TXMASK_ACT, R248. -/
@[reducible] def TDM_TXMASK_ACT (i : Nat) : Nat := 0x200014 + 0x1000 * i
/-- TDM_STAT, R248. -/
@[reducible] def TDM_STAT (i : Nat) : Nat := 0x200018 + 0x1000 * i
/-- TDM_PHASE, R248. -/
@[reducible] def TDM_PHASE (i : Nat) : Nat := 0x20001c + 0x1000 * i
/-- TDM_EVT, R248. -/
@[reducible] def TDM_EVT (i : Nat) : Nat := 0x200020 + 0x1000 * i
/-- TDM_IRQ_EN, R248. -/
@[reducible] def TDM_IRQ_EN (i : Nat) : Nat := 0x200024 + 0x1000 * i
/-- TDM_CNT, R248. -/
@[reducible] def TDM_CNT (i : Nat) : Nat := 0x200028 + 0x1000 * i
/-- PDM_CLK_CFG, R249. -/
@[reducible] def PDM_CLK_CFG (i : Nat) : Nat := 0x240000 + 0x4 * i
/-- PDM_CTL, R249. -/
@[reducible] def PDM_CTL : Nat := 0x240020
/-- PDM_MIC_EN, R249. -/
@[reducible] def PDM_MIC_EN : Nat := 0x240024
/-- PDM_READY, R249. -/
@[reducible] def PDM_READY : Nat := 0x240028
/-- PDM_EVT, R249. -/
@[reducible] def PDM_EVT : Nat := 0x24002c
/-- PDM_IRQ_EN, R249. -/
@[reducible] def PDM_IRQ_EN : Nat := 0x240030
/-- PDM_DENS, R249. -/
@[reducible] def PDM_DENS (i : Nat) : Nat := 0x240100 + 0x4 * i
/-- AES_IN_CFG, R250. -/
@[reducible] def AES_IN_CFG (i : Nat) : Nat := 0x260000 + 0x40 * i
/-- AES_IN_STAT, R250. -/
@[reducible] def AES_IN_STAT (i : Nat) : Nat := 0x260004 + 0x40 * i
/-- AES_IN_CNT, R250. -/
@[reducible] def AES_IN_CNT (i : Nat) : Nat := 0x260008 + 0x40 * i
/-- AES_IN_PHASE, R250. -/
@[reducible] def AES_IN_PHASE (i : Nat) : Nat := 0x26000c + 0x40 * i
/-- AES_IN_CS, R250. -/
@[reducible] def AES_IN_CS (i : Nat) (j : Nat) (k : Nat) : Nat := 0x260010 + 0x40 * i + 0x18 * j + 0x4 * k
/-- AES_OUT_CFG, R250. -/
@[reducible] def AES_OUT_CFG (i : Nat) : Nat := 0x260200 + 0x40 * i
/-- AES_OUT_CS, R250. -/
@[reducible] def AES_OUT_CS (i : Nat) (j : Nat) (k : Nat) : Nat := 0x260210 + 0x40 * i + 0x18 * j + 0x4 * k
/-- AES_EVT, R250. -/
@[reducible] def AES_EVT : Nat := 0x260400
/-- AES_IRQ_EN, R250. -/
@[reducible] def AES_IRQ_EN : Nat := 0x260404
/-- ASRC_CFG, R250. -/
@[reducible] def ASRC_CFG (i : Nat) : Nat := 0x268000 + 0x10 * i
/-- ASRC_STAT, R250. -/
@[reducible] def ASRC_STAT (i : Nat) : Nat := 0x268004 + 0x10 * i
/-- ASRC_RATIO, R250. -/
@[reducible] def ASRC_RATIO (i : Nat) : Nat := 0x268008 + 0x10 * i
/-- ASRC_EVT, R250. -/
@[reducible] def ASRC_EVT : Nat := 0x268200
/-- ASRC_IRQ_EN, R250. -/
@[reducible] def ASRC_IRQ_EN : Nat := 0x268204
/-- TRIG_CTL, R250. -/
@[reducible] def TRIG_CTL : Nat := 0x26c000
/-- TRIG_ROUND, R250. -/
@[reducible] def TRIG_ROUND : Nat := 0x26c004
/-- TRIG_IN_RND, R250. -/
@[reducible] def TRIG_IN_RND : Nat := 0x26c008
/-- TRIG_IN_OFS, R250. -/
@[reducible] def TRIG_IN_OFS : Nat := 0x26c00c
/-- TRIG_EVT, R250. -/
@[reducible] def TRIG_EVT : Nat := 0x26c010
/-- TRIG_IRQ_EN, R250. -/
@[reducible] def TRIG_IRQ_EN : Nat := 0x26c014
/-- NET_CTL, R286. -/
@[reducible] def NET_CTL (i : Nat) : Nat := 0x300000 + 0x10000 * i
/-- NET_CFG, R286. -/
@[reducible] def NET_CFG (i : Nat) : Nat := 0x300004 + 0x10000 * i
/-- NET_STAT, R286. -/
@[reducible] def NET_STAT (i : Nat) : Nat := 0x300008 + 0x10000 * i
/-- NET_EVT, R286. -/
@[reducible] def NET_EVT (i : Nat) : Nat := 0x30000c + 0x10000 * i
/-- NET_IRQ_EN, R286. -/
@[reducible] def NET_IRQ_EN (i : Nat) : Nat := 0x300010 + 0x10000 * i
/-- NET_MAC_LO, R286. -/
@[reducible] def NET_MAC_LO (i : Nat) : Nat := 0x300014 + 0x10000 * i
/-- NET_MAC_HI, R286. -/
@[reducible] def NET_MAC_HI (i : Nat) : Nat := 0x300018 + 0x10000 * i
/-- NET_GCL_CTL, R286. -/
@[reducible] def NET_GCL_CTL (i : Nat) : Nat := 0x300020 + 0x10000 * i
/-- NET_GCL_STAT, R286. -/
@[reducible] def NET_GCL_STAT (i : Nat) : Nat := 0x300024 + 0x10000 * i
/-- NET_TXR_BASE_LO, R286. -/
@[reducible] def NET_TXR_BASE_LO (i : Nat) : Nat := 0x300040 + 0x10000 * i
/-- NET_TXR_BASE_HI, R286. -/
@[reducible] def NET_TXR_BASE_HI (i : Nat) : Nat := 0x300044 + 0x10000 * i
/-- NET_TXR_HEAD, R286. -/
@[reducible] def NET_TXR_HEAD (i : Nat) : Nat := 0x300048 + 0x10000 * i
/-- NET_TXR_TAIL, R286. -/
@[reducible] def NET_TXR_TAIL (i : Nat) : Nat := 0x30004c + 0x10000 * i
/-- NET_COUNTERS, R286. -/
@[reducible] def NET_COUNTERS (i : Nat) (j : Nat) : Nat := 0x300100 + 0x10000 * i + 0x4 * j
/-- NET_MCAST_LO, R286. -/
@[reducible] def NET_MCAST_LO (i : Nat) (j : Nat) : Nat := 0x300200 + 0x10000 * i + 0x8 * j
/-- NET_MCAST_HI, R286. -/
@[reducible] def NET_MCAST_HI (i : Nat) (j : Nat) : Nat := 0x300204 + 0x10000 * i + 0x8 * j
/-- NET_GCL_ADMIN, R286. -/
@[reducible] def NET_GCL_ADMIN (i : Nat) (j : Nat) : Nat := 0x301000 + 0x10000 * i + 0x4 * j
/-- NET_GCL_OPER, R286. -/
@[reducible] def NET_GCL_OPER (i : Nat) (j : Nat) : Nat := 0x301400 + 0x10000 * i + 0x4 * j
/-- NET_SEC_CFG, R286. -/
@[reducible] def NET_SEC_CFG (i : Nat) : Nat := 0x303000 + 0x10000 * i
/-- NET_SEC_BYPASS, R286. -/
@[reducible] def NET_SEC_BYPASS (i : Nat) (j : Nat) : Nat := 0x303004 + 0x10000 * i + 0x4 * j
/-- NET_SEC_TXSCI_LO, R286. -/
@[reducible] def NET_SEC_TXSCI_LO (i : Nat) : Nat := 0x303020 + 0x10000 * i
/-- NET_SEC_TXSCI_HI, R286. -/
@[reducible] def NET_SEC_TXSCI_HI (i : Nat) : Nat := 0x303024 + 0x10000 * i
/-- NET_SEC_RXSCI_LO, R286. -/
@[reducible] def NET_SEC_RXSCI_LO (i : Nat) (j : Nat) : Nat := 0x303100 + 0x10000 * i + 0x10 * j
/-- NET_SEC_RXSCI_HI, R286. -/
@[reducible] def NET_SEC_RXSCI_HI (i : Nat) (j : Nat) : Nat := 0x303104 + 0x10000 * i + 0x10 * j
/-- NET_SEC_RXSC_CTL, R286. -/
@[reducible] def NET_SEC_RXSC_CTL (i : Nat) (j : Nat) : Nat := 0x303108 + 0x10000 * i + 0x10 * j
/-- NET_SEC_SA_KEY, R286. -/
@[reducible] def NET_SEC_SA_KEY (i : Nat) (j : Nat) (k : Nat) : Nat := 0x304000 + 0x10000 * i + 0x40 * j + 0x4 * k
/-- NET_SEC_SA_SALT, R286. -/
@[reducible] def NET_SEC_SA_SALT (i : Nat) (j : Nat) (k : Nat) : Nat := 0x304020 + 0x10000 * i + 0x40 * j + 0x4 * k
/-- NET_SEC_SA_SSCI, R286. -/
@[reducible] def NET_SEC_SA_SSCI (i : Nat) (j : Nat) : Nat := 0x30402c + 0x10000 * i + 0x40 * j
/-- NET_SEC_SA_PN_LO, R286. -/
@[reducible] def NET_SEC_SA_PN_LO (i : Nat) (j : Nat) : Nat := 0x304030 + 0x10000 * i + 0x40 * j
/-- NET_SEC_SA_PN_HI, R286. -/
@[reducible] def NET_SEC_SA_PN_HI (i : Nat) (j : Nat) : Nat := 0x304034 + 0x10000 * i + 0x40 * j
/-- NET_SEC_SA_RZ, R286. -/
@[reducible] def NET_SEC_SA_RZ (i : Nat) (j : Nat) (k : Nat) : Nat := 0x304038 + 0x10000 * i + 0x40 * j + 0x4 * k
/-- NET_RXR_BASE_LO, R287. -/
@[reducible] def NET_RXR_BASE_LO (i : Nat) : Nat := 0x308000 + 0x20 * i
/-- NET_RXR_BASE_HI, R287. -/
@[reducible] def NET_RXR_BASE_HI (i : Nat) : Nat := 0x308004 + 0x20 * i
/-- NET_RXR_HEAD, R287. -/
@[reducible] def NET_RXR_HEAD (i : Nat) : Nat := 0x308008 + 0x20 * i
/-- NET_RXR_TAIL, R287. -/
@[reducible] def NET_RXR_TAIL (i : Nat) : Nat := 0x30800c + 0x20 * i
/-- NET_RXR_NOBUF, R287. -/
@[reducible] def NET_RXR_NOBUF (i : Nat) : Nat := 0x308010 + 0x20 * i
/-- NET_VLOG_CTL, R287. -/
@[reducible] def NET_VLOG_CTL : Nat := 0x308100
/-- NET_VLOG_ADD, R287. -/
@[reducible] def NET_VLOG_ADD (i : Nat) : Nat := 0x308104 + 0x4 * i
/-- NET_VLOG_GO, R287. -/
@[reducible] def NET_VLOG_GO : Nat := 0x308110
/-- NET_CEVT, R287. -/
@[reducible] def NET_CEVT : Nat := 0x308114
/-- NET_CIRQ_EN, R287. -/
@[reducible] def NET_CIRQ_EN : Nat := 0x308118
/-- NET_QCLR, R287. -/
@[reducible] def NET_QCLR : Nat := 0x30811c
/-- NET_VTHR1, R287. -/
@[reducible] def NET_VTHR1 : Nat := 0x308144
/-- NET_VTHR2, R287. -/
@[reducible] def NET_VTHR2 : Nat := 0x308148
/-- NET_VTHR3, R287. -/
@[reducible] def NET_VTHR3 : Nat := 0x30814c
/-- NET_VTHR4, R287. -/
@[reducible] def NET_VTHR4 : Nat := 0x308150
/-- NET_VTHR5, R287. -/
@[reducible] def NET_VTHR5 : Nat := 0x308154
/-- NET_VTHR6, R287. -/
@[reducible] def NET_VTHR6 : Nat := 0x308158
/-- NET_VTHR7, R287. -/
@[reducible] def NET_VTHR7 : Nat := 0x30815c
/-- NET_QTAB_LO, R287. -/
@[reducible] def NET_QTAB_LO (i : Nat) : Nat := 0x308400 + 0x10 * i
/-- NET_QTAB_HI, R287. -/
@[reducible] def NET_QTAB_HI (i : Nat) : Nat := 0x308404 + 0x10 * i
/-- NET_QTAB_REM, R287. -/
@[reducible] def NET_QTAB_REM (i : Nat) : Nat := 0x308408 + 0x10 * i
/-- NET_VLOG, R287. -/
@[reducible] def NET_VLOG (i : Nat) (j : Nat) : Nat := 0x30c000 + 0x10 * i + 0x4 * j
/-- NET_CFG_MGMT, R286. -/
@[reducible] def NET_CFG_MGMT (i : Nat) : Nat := 0x340004 + 0x10000 * i
/-- NET_CFG_PAIR, R286. -/
@[reducible] def NET_CFG_PAIR : Nat := 0x360004
/-- STREAM_CTL, R322. -/
@[reducible] def STREAM_CTL : Nat := 0x400000
/-- STREAM_EVT, R322. -/
@[reducible] def STREAM_EVT : Nat := 0x400004
/-- STREAM_IRQ_EN, R322. -/
@[reducible] def STREAM_IRQ_EN : Nat := 0x400008
/-- STREAM_REFUSE, R322. -/
@[reducible] def STREAM_REFUSE : Nat := 0x40000c
/-- STREAM_TPL_SEL, R322. -/
@[reducible] def STREAM_TPL_SEL : Nat := 0x400010
/-- STREAM_TPL, R322. -/
@[reducible] def STREAM_TPL (i : Nat) : Nat := 0x400100 + 0x4 * i
/-- CTX_CFG, R322. -/
@[reducible] def CTX_CFG (i : Nat) : Nat := 0x404040 + 0x40 * i
/-- CTX_SLOT, R322. -/
@[reducible] def CTX_SLOT (i : Nat) : Nat := 0x404044 + 0x40 * i
/-- CTX_ID_LO, R322. -/
@[reducible] def CTX_ID_LO (i : Nat) : Nat := 0x404048 + 0x40 * i
/-- CTX_ID_HI, R322. -/
@[reducible] def CTX_ID_HI (i : Nat) : Nat := 0x40404c + 0x40 * i
/-- CTX_ID2_LO, R322. -/
@[reducible] def CTX_ID2_LO (i : Nat) : Nat := 0x404050 + 0x40 * i
/-- CTX_ID2_HI, R322. -/
@[reducible] def CTX_ID2_HI (i : Nat) : Nat := 0x404054 + 0x40 * i
/-- CTX_SSRC, R322. -/
@[reducible] def CTX_SSRC (i : Nat) : Nat := 0x404058 + 0x40 * i
/-- CTX_MATCH, R322. -/
@[reducible] def CTX_MATCH (i : Nat) : Nat := 0x40405c + 0x40 * i
/-- CTX_MCLK, R322. -/
@[reducible] def CTX_MCLK (i : Nat) : Nat := 0x404060 + 0x40 * i
/-- CTX_STAT, R322. -/
@[reducible] def CTX_STAT (i : Nat) : Nat := 0x40c010 + 0x10 * i
/-- CTX_CNT0, R322. -/
@[reducible] def CTX_CNT0 (i : Nat) : Nat := 0x40c014 + 0x10 * i
/-- CTX_CNT1, R322. -/
@[reducible] def CTX_CNT1 (i : Nat) : Nat := 0x40c018 + 0x10 * i
/-- CTX_CNT2, R322. -/
@[reducible] def CTX_CNT2 (i : Nat) : Nat := 0x40c01c + 0x10 * i
/-- PAIR_CFG, R322. -/
@[reducible] def PAIR_CFG : Nat := 0x40e000
/-- PAIR_CTL, R322. -/
@[reducible] def PAIR_CTL : Nat := 0x40e004
/-- PAIR_STAT, R322. -/
@[reducible] def PAIR_STAT : Nat := 0x40e008
/-- PAIR_HEALTH, R322. -/
@[reducible] def PAIR_HEALTH : Nat := 0x40e00c
/-- PAIR_EVT, R322. -/
@[reducible] def PAIR_EVT : Nat := 0x40e010
/-- PAIR_IRQ_EN, R322. -/
@[reducible] def PAIR_IRQ_EN : Nat := 0x40e014
/-- PAIR_DIFF, R322. -/
@[reducible] def PAIR_DIFF : Nat := 0x40e018
/-- PAIR_DIG_LO, R322. -/
@[reducible] def PAIR_DIG_LO : Nat := 0x40e01c
/-- PAIR_DIG_HI, R322. -/
@[reducible] def PAIR_DIG_HI : Nat := 0x40e020
/-- PAIR_PDIG_LO, R322. -/
@[reducible] def PAIR_PDIG_LO : Nat := 0x40e024
/-- PAIR_PDIG_HI, R322. -/
@[reducible] def PAIR_PDIG_HI : Nat := 0x40e028
/-- PAIR_DIG_RND, R322. -/
@[reducible] def PAIR_DIG_RND : Nat := 0x40e02c
/-- PAIR_COPY, R322. -/
@[reducible] def PAIR_COPY : Nat := 0x40e030
/-- PAIR_CNT, R322. -/
@[reducible] def PAIR_CNT : Nat := 0x40e034
/-- PAIR_MIRROR, R322. -/
@[reducible] def PAIR_MIRROR : Nat := 0x40e038
/-- TIME_CTL, R352. -/
@[reducible] def TIME_CTL : Nat := 0x500000
/-- TIME_CFG, R352. -/
@[reducible] def TIME_CFG : Nat := 0x500004
/-- TIME_CFG2, R352. -/
@[reducible] def TIME_CFG2 : Nat := 0x500008
/-- TIME_STAT, R352. -/
@[reducible] def TIME_STAT : Nat := 0x50000c
/-- TIME_EVT, R352. -/
@[reducible] def TIME_EVT : Nat := 0x500010
/-- TIME_IRQ_EN, R352. -/
@[reducible] def TIME_IRQ_EN : Nat := 0x500014
/-- TIME_SNAP, R352. -/
@[reducible] def TIME_SNAP : Nat := 0x500020
/-- TIME_SNAP_SHI, R352. -/
@[reducible] def TIME_SNAP_SHI : Nat := 0x500024
/-- TIME_SNAP_SLO, R352. -/
@[reducible] def TIME_SNAP_SLO : Nat := 0x500028
/-- TIME_SNAP_NS, R352. -/
@[reducible] def TIME_SNAP_NS : Nat := 0x50002c
/-- TIME_SNAP_FRAC, R352. -/
@[reducible] def TIME_SNAP_FRAC : Nat := 0x500030
/-- TIME_SNAP_RLO, R352. -/
@[reducible] def TIME_SNAP_RLO : Nat := 0x500034
/-- TIME_SNAP_RHI, R352. -/
@[reducible] def TIME_SNAP_RHI : Nat := 0x500038
/-- TIME_OFS, R352. -/
@[reducible] def TIME_OFS : Nat := 0x500040
/-- TIME_MPD, R352. -/
@[reducible] def TIME_MPD : Nat := 0x500044
/-- TIME_ERR, R352. -/
@[reducible] def TIME_ERR : Nat := 0x500048
/-- TIME_PAIR_OFS, R352. -/
@[reducible] def TIME_PAIR_OFS : Nat := 0x50004c
/-- TIME_RTC_PER_LO, R352. -/
@[reducible] def TIME_RTC_PER_LO : Nat := 0x500050
/-- TIME_RTC_PER_HI, R352. -/
@[reducible] def TIME_RTC_PER_HI : Nat := 0x500054
/-- TIME_RTC_UNC, R352. -/
@[reducible] def TIME_RTC_UNC : Nat := 0x500058
/-- TIME_HOLD_PPB, R352. -/
@[reducible] def TIME_HOLD_PPB : Nat := 0x50005c
/-- TIME_PTP_DS, R352. -/
@[reducible] def TIME_PTP_DS : Nat := 0x500060
/-- TIME_PTP_INT, R352. -/
@[reducible] def TIME_PTP_INT : Nat := 0x500064
/-- TIME_ASYM, R352. -/
@[reducible] def TIME_ASYM (i : Nat) : Nat := 0x500070 + 0x4 * i
/-- TIME_TRIM, R352. -/
@[reducible] def TIME_TRIM (i : Nat) : Nat := 0x500090 + 0x4 * i
/-- TIME_TSQ_STAT, R352. -/
@[reducible] def TIME_TSQ_STAT (i : Nat) : Nat := 0x500100 + 0x10 * i
/-- TIME_TSQ_POP, R352. -/
@[reducible] def TIME_TSQ_POP (i : Nat) : Nat := 0x500104 + 0x10 * i
/-- TIME_TSQ_NS, R352. -/
@[reducible] def TIME_TSQ_NS (i : Nat) : Nat := 0x500108 + 0x10 * i
/-- TIME_TSQ_S, R352. -/
@[reducible] def TIME_TSQ_S (i : Nat) : Nat := 0x50010c + 0x10 * i
/-- TIME_TSQ_OVFCNT, R352. -/
@[reducible] def TIME_TSQ_OVFCNT (i : Nat) : Nat := 0x500160 + 0x4 * i
/-- TIME_SA_W, R352. -/
@[reducible] def TIME_SA_W (i : Nat) (j : Nat) : Nat := 0x500200 + 0x80 * i + 0x4 * j
/-- TIME_SA_GO, R352. -/
@[reducible] def TIME_SA_GO (i : Nat) : Nat := 0x500220 + 0x80 * i
/-- TIME_SA_STAT, R352. -/
@[reducible] def TIME_SA_STAT (i : Nat) : Nat := 0x500224 + 0x80 * i
/-- TIME_SA_CANCEL, R352. -/
@[reducible] def TIME_SA_CANCEL (i : Nat) : Nat := 0x500228 + 0x80 * i
/-- TIME_SA_LVL, R352. -/
@[reducible] def TIME_SA_LVL : Nat := 0x500300
/-- TIME_SA_DONE_HEAD, R352. -/
@[reducible] def TIME_SA_DONE_HEAD : Nat := 0x500304
/-- TIME_SA_DONE, R352. -/
@[reducible] def TIME_SA_DONE (i : Nat) (j : Nat) : Nat := 0x504000 + 0x8 * i + 0x4 * j
/-- TIME_RXTS, R352. -/
@[reducible] def TIME_RXTS (i : Nat) (j : Nat) : Nat := 0x508000 + 0x10 * i + 0x4 * j
/-- TIME_TXTS, R352. -/
@[reducible] def TIME_TXTS (i : Nat) (j : Nat) (k : Nat) : Nat := 0x50c000 + 0x400 * i + 0x10 * j + 0x4 * k
/-- REFSEL_CTL, R378. -/
@[reducible] def REFSEL_CTL : Nat := 0x510000
/-- REFSEL_CFG, R378. -/
@[reducible] def REFSEL_CFG : Nat := 0x510004
/-- REFSEL_SLOPE, R378. -/
@[reducible] def REFSEL_SLOPE : Nat := 0x510008
/-- REFSEL_AGREE, R378. -/
@[reducible] def REFSEL_AGREE : Nat := 0x51000c
/-- REFSEL_HOLD_AVG, R378. -/
@[reducible] def REFSEL_HOLD_AVG : Nat := 0x510010
/-- REFSEL_STAT, R378. -/
@[reducible] def REFSEL_STAT : Nat := 0x510018
/-- REFSEL_EVT, R378. -/
@[reducible] def REFSEL_EVT : Nat := 0x51001c
/-- REFSEL_NCO_LO, R378. -/
@[reducible] def REFSEL_NCO_LO : Nat := 0x510020
/-- REFSEL_NCO_HI, R378. -/
@[reducible] def REFSEL_NCO_HI : Nat := 0x510024
/-- REFSEL_FORCE_LO, R378. -/
@[reducible] def REFSEL_FORCE_LO : Nat := 0x510028
/-- REFSEL_FORCE_HI, R378. -/
@[reducible] def REFSEL_FORCE_HI : Nat := 0x51002c
/-- REFSEL_HOLD_LO, R378. -/
@[reducible] def REFSEL_HOLD_LO : Nat := 0x510030
/-- REFSEL_HOLD_HI, R378. -/
@[reducible] def REFSEL_HOLD_HI : Nat := 0x510034
/-- REFSEL_LAST, R378. -/
@[reducible] def REFSEL_LAST : Nat := 0x510038
/-- REFSEL_IRQ_EN, R378. -/
@[reducible] def REFSEL_IRQ_EN : Nat := 0x51003c
/-- REF_CFG_PTP, R378. -/
@[reducible] def REF_CFG_PTP : Nat := 0x510100
/-- REF_OFS, R378. -/
@[reducible] def REF_OFS (i : Nat) : Nat := 0x510104 + 0x20 * i
/-- REF_STAT, R378. -/
@[reducible] def REF_STAT (i : Nat) : Nat := 0x510108 + 0x20 * i
/-- REF_FREQ, R378. -/
@[reducible] def REF_FREQ (i : Nat) : Nat := 0x51010c + 0x20 * i
/-- REF_PHASE, R378. -/
@[reducible] def REF_PHASE (i : Nat) : Nat := 0x510110 + 0x20 * i
/-- REF_HIST, R378. -/
@[reducible] def REF_HIST (i : Nat) : Nat := 0x510114 + 0x20 * i
/-- REF_CFG_WCLK, R378. -/
@[reducible] def REF_CFG_WCLK : Nat := 0x510120
/-- REF_CFG_PPS, R378. -/
@[reducible] def REF_CFG_PPS : Nat := 0x510140
/-- REF_CFG_F10M, R378. -/
@[reducible] def REF_CFG_F10M : Nat := 0x510160
/-- REF_CFG_AES, R378. -/
@[reducible] def REF_CFG_AES (i : Nat) : Nat := 0x510180 + 0x20 * i
/-- OUT_CFG, R378. -/
@[reducible] def OUT_CFG (i : Nat) : Nat := 0x510200 + 0x10 * i
/-- OUT_OFS, R378. -/
@[reducible] def OUT_OFS (i : Nat) : Nat := 0x510204 + 0x10 * i
/-- ALARM_CTL, R217. -/
@[reducible] def ALARM_CTL : Nat := 0x600000
/-- ALARM_EVT, R217. -/
@[reducible] def ALARM_EVT : Nat := 0x600004
/-- ALARM_IRQ_EN, R217. -/
@[reducible] def ALARM_IRQ_EN : Nat := 0x600008
/-- ALARM_FAULT, R217. -/
@[reducible] def ALARM_FAULT : Nat := 0x60000c
/-- ALARM_FAULT_SW, R217. -/
@[reducible] def ALARM_FAULT_SW : Nat := 0x600010
/-- ALARM_CMD, R217. -/
@[reducible] def ALARM_CMD : Nat := 0x600014
/-- ALARM_IN_STAT, R217. -/
@[reducible] def ALARM_IN_STAT : Nat := 0x600018
/-- ALARM_TRIG_ACT0, R217. -/
@[reducible] def ALARM_TRIG_ACT0 : Nat := 0x60001c
/-- ALARM_TRIG_ACT1, R217. -/
@[reducible] def ALARM_TRIG_ACT1 : Nat := 0x600020
/-- ALARM_MSG_CNT, R217. -/
@[reducible] def ALARM_MSG_CNT : Nat := 0x600024
/-- ALARM_REJ, R217. -/
@[reducible] def ALARM_REJ : Nat := 0x600028
/-- ALARM_BARE_PORTS, R217. -/
@[reducible] def ALARM_BARE_PORTS : Nat := 0x60002c
/-- ALARM_MSG_OK0, R217. -/
@[reducible] def ALARM_MSG_OK0 : Nat := 0x600030
/-- ALARM_MSG_OK1, R217. -/
@[reducible] def ALARM_MSG_OK1 : Nat := 0x600034
/-- ALARM_IN_CFG, R217. -/
@[reducible] def ALARM_IN_CFG (i : Nat) : Nat := 0x600100 + 0x4 * i
/-- ALARM_TRIG_CFG, R217. -/
@[reducible] def ALARM_TRIG_CFG (i : Nat) : Nat := 0x600200 + 0x8 * i
/-- ALARM_TRIG_GRP, R217. -/
@[reducible] def ALARM_TRIG_GRP (i : Nat) : Nat := 0x600204 + 0x8 * i
/-- ALARM_PLY_STAT, R217. -/
@[reducible] def ALARM_PLY_STAT (i : Nat) : Nat := 0x600400 + 0x8 * i
/-- ALARM_PLY_POS, R217. -/
@[reducible] def ALARM_PLY_POS (i : Nat) : Nat := 0x600404 + 0x8 * i
/-- SUPV_CTL, R191. -/
@[reducible] def SUPV_CTL : Nat := 0x610000
/-- SUPV_EVT, R191. -/
@[reducible] def SUPV_EVT : Nat := 0x610004
/-- SUPV_IRQ_EN, R191. -/
@[reducible] def SUPV_IRQ_EN : Nat := 0x610008
/-- SUPV_THR, R191. -/
@[reducible] def SUPV_THR : Nat := 0x61000c
/-- SUPV_TIME, R191. -/
@[reducible] def SUPV_TIME : Nat := 0x610010
/-- SUPV_LIM, R191. -/
@[reducible] def SUPV_LIM : Nat := 0x610014
/-- SUPV_DEM_SEQ, R191. -/
@[reducible] def SUPV_DEM_SEQ : Nat := 0x610018
/-- SUPV_LINE_MAP, R191. -/
@[reducible] def SUPV_LINE_MAP (i : Nat) : Nat := 0x610100 + 0x4 * i
/-- SUPV_MIC_MAP, R191. -/
@[reducible] def SUPV_MIC_MAP (i : Nat) : Nat := 0x610140 + 0x4 * i
/-- SUPV_TI_MAP, R191. -/
@[reducible] def SUPV_TI_MAP (i : Nat) : Nat := 0x610150 + 0x4 * i
/-- SUPV_LINE_CFG, R191. -/
@[reducible] def SUPV_LINE_CFG (i : Nat) : Nat := 0x611000 + 0x10 * i
/-- SUPV_LINE_Z0, R191. -/
@[reducible] def SUPV_LINE_Z0 (i : Nat) : Nat := 0x611004 + 0x10 * i
/-- SUPV_LINE_Z, R191. -/
@[reducible] def SUPV_LINE_Z (i : Nat) : Nat := 0x611008 + 0x10 * i
/-- SUPV_LINE_STAT, R191. -/
@[reducible] def SUPV_LINE_STAT (i : Nat) : Nat := 0x61100c + 0x10 * i
/-- SUPV_MIC_CFG, R191. -/
@[reducible] def SUPV_MIC_CFG (i : Nat) : Nat := 0x613000 + 0x10 * i
/-- SUPV_MIC_LVL, R191. -/
@[reducible] def SUPV_MIC_LVL (i : Nat) : Nat := 0x613004 + 0x10 * i
/-- SUPV_MIC_STAT, R191. -/
@[reducible] def SUPV_MIC_STAT (i : Nat) : Nat := 0x613008 + 0x10 * i
/-- SUPV_TI_CFG, R191. -/
@[reducible] def SUPV_TI_CFG (i : Nat) : Nat := 0x614000 + 0x10 * i
/-- SUPV_TI_VAL, R191. -/
@[reducible] def SUPV_TI_VAL (i : Nat) : Nat := 0x614004 + 0x10 * i
/-- SUPV_NC_CFG, R191. -/
@[reducible] def SUPV_NC_CFG (i : Nat) : Nat := 0x615000 + 0x10 * i
/-- SUPV_NC_STAT, R191. -/
@[reducible] def SUPV_NC_STAT (i : Nat) : Nat := 0x615004 + 0x10 * i
/-- SUPV_DEM, R191. -/
@[reducible] def SUPV_DEM (i : Nat) (j : Nat) : Nat := 0x618000 + 0x20 * i + 0x4 * j
/-- TRUST_LC, R451. -/
@[reducible] def TRUST_LC : Nat := 0x700000
/-- TRUST_BOOT, R451. -/
@[reducible] def TRUST_BOOT : Nat := 0x700004
/-- TRUST_TREL, R451. -/
@[reducible] def TRUST_TREL : Nat := 0x700008
/-- TRUST_SLOTS, R451. -/
@[reducible] def TRUST_SLOTS : Nat := 0x70000c
/-- TRUST_EVT, R451. -/
@[reducible] def TRUST_EVT : Nat := 0x700010
/-- TRUST_IRQ_EN, R451. -/
@[reducible] def TRUST_IRQ_EN : Nat := 0x700014
/-- TRUST_CAP_CTL, R451. -/
@[reducible] def TRUST_CAP_CTL : Nat := 0x700018
/-- TRUST_CAP_STAT, R451. -/
@[reducible] def TRUST_CAP_STAT : Nat := 0x70001c
/-- TRUST_SKN_DIG, R451. -/
@[reducible] def TRUST_SKN_DIG (i : Nat) : Nat := 0x700040 + 0x4 * i
/-- TRUST_IDPUB, R451. -/
@[reducible] def TRUST_IDPUB (i : Nat) : Nat := 0x700080 + 0x4 * i
/-- TRUST_MEAS, R451. -/
@[reducible] def TRUST_MEAS (i : Nat) (j : Nat) : Nat := 0x700100 + 0x30 * i + 0x4 * j
/-- TRUST_ATT_NONCE, R451. -/
@[reducible] def TRUST_ATT_NONCE (i : Nat) : Nat := 0x700300 + 0x4 * i
/-- TRUST_ATT_CTL, R451. -/
@[reducible] def TRUST_ATT_CTL : Nat := 0x700320
/-- TRUST_ATT_EV, R451. -/
@[reducible] def TRUST_ATT_EV (i : Nat) : Nat := 0x700400 + 0x4 * i
/-- TRUST_DBG_NONCE, R451. -/
@[reducible] def TRUST_DBG_NONCE (i : Nat) : Nat := 0x700600 + 0x4 * i
/-- TRUST_SVN, R451. -/
@[reducible] def TRUST_SVN : Nat := 0x700640
/-- TRUST_FL_ADDR, R451. -/
@[reducible] def TRUST_FL_ADDR : Nat := 0x700700
/-- TRUST_FL_CMD, R451. -/
@[reducible] def TRUST_FL_CMD : Nat := 0x700704
/-- TRUST_FL_STAT, R451. -/
@[reducible] def TRUST_FL_STAT : Nat := 0x700708
/-- TRUST_FL_BUF, R451. -/
@[reducible] def TRUST_FL_BUF (i : Nat) : Nat := 0x700800 + 0x4 * i
/-- TRUST_LOG_STAT, R451. -/
@[reducible] def TRUST_LOG_STAT : Nat := 0x700900
/-- HEALTH_EVT, R513. -/
@[reducible] def HEALTH_EVT : Nat := 0x800000
/-- HEALTH_IRQ_EN, R513. -/
@[reducible] def HEALTH_IRQ_EN : Nat := 0x800004
/-- HEALTH_TEMP, R513. -/
@[reducible] def HEALTH_TEMP (i : Nat) : Nat := 0x800100 + 0x4 * i
/-- HEALTH_SUPPLY, R513. -/
@[reducible] def HEALTH_SUPPLY (i : Nat) : Nat := 0x800180 + 0x4 * i
/-- HEALTH_RO, R513. -/
@[reducible] def HEALTH_RO (i : Nat) : Nat := 0x800200 + 0x8 * i
/-- HEALTH_RO_BASE, R513. -/
@[reducible] def HEALTH_RO_BASE (i : Nat) : Nat := 0x800204 + 0x8 * i
/-- HEALTH_EM, R513. -/
@[reducible] def HEALTH_EM : Nat := 0x800300
/-- HEALTH_ECC, R513. -/
@[reducible] def HEALTH_ECC (i : Nat) : Nat := 0x800400 + 0x4 * i
/-- HEALTH_EOL_NOW, R513. -/
@[reducible] def HEALTH_EOL_NOW : Nat := 0x800500
/-- HEALTH_EOL_105, R513. -/
@[reducible] def HEALTH_EOL_105 : Nat := 0x800504
/-- HEALTH_EOL_LO, R513. -/
@[reducible] def HEALTH_EOL_LO : Nat := 0x800508
/-- HEALTH_EOL_HI, R513. -/
@[reducible] def HEALTH_EOL_HI : Nat := 0x80050c
/-- HEALTH_EOL_SRC, R513. -/
@[reducible] def HEALTH_EOL_SRC : Nat := 0x800510
/-- HEALTH_TEQ, R513. -/
@[reducible] def HEALTH_TEQ : Nat := 0x800514
/-- CL_CTL, R158. -/
@[reducible] def CL_CTL (i : Nat) : Nat := 0x1000000 + 0x100000 * i
/-- CL_STAT, R158. -/
@[reducible] def CL_STAT (i : Nat) : Nat := 0x1000004 + 0x100000 * i
/-- CL_EVT, R158. -/
@[reducible] def CL_EVT (i : Nat) : Nat := 0x1000008 + 0x100000 * i
/-- CL_IRQ_EN, R158. -/
@[reducible] def CL_IRQ_EN (i : Nat) : Nat := 0x100000c + 0x100000 * i
/-- CL_OVF, R158. -/
@[reducible] def CL_OVF (i : Nat) : Nat := 0x1000010 + 0x100000 * i
/-- CL_OVF_STK, R158. -/
@[reducible] def CL_OVF_STK (i : Nat) : Nat := 0x1000014 + 0x100000 * i
/-- CL_ABI, R158. -/
@[reducible] def CL_ABI (i : Nat) : Nat := 0x1000018 + 0x100000 * i
/-- CL_ABI_REJ, R158. -/
@[reducible] def CL_ABI_REJ (i : Nat) : Nat := 0x100001c + 0x100000 * i
/-- CL_DIG_LO, R158. -/
@[reducible] def CL_DIG_LO (i : Nat) : Nat := 0x1000020 + 0x100000 * i
/-- CL_DIG_HI, R158. -/
@[reducible] def CL_DIG_HI (i : Nat) : Nat := 0x1000024 + 0x100000 * i
/-- CL_DIG_RND, R158. -/
@[reducible] def CL_DIG_RND (i : Nat) : Nat := 0x1000028 + 0x100000 * i
/-- CL_START_RND, R158. -/
@[reducible] def CL_START_RND (i : Nat) : Nat := 0x100002c + 0x100000 * i
/-- CL_DMA, R158. -/
@[reducible] def CL_DMA (i : Nat) : Nat := 0x1000030 + 0x100000 * i
/-- CL_DMA_STAT, R158. -/
@[reducible] def CL_DMA_STAT (i : Nat) : Nat := 0x1000034 + 0x100000 * i
/-- CL_SCHED, R158. -/
@[reducible] def CL_SCHED (i : Nat) (j : Nat) : Nat := 0x1000040 + 0x100000 * i + 0x4 * j
/-- CL_WCC, R158. -/
@[reducible] def CL_WCC (i : Nat) (j : Nat) (k : Nat) : Nat := 0x1000080 + 0x100000 * i + 0x10 * j + 0x4 * k
/-- REG_OP, R159. -/
@[reducible] def REG_OP (i : Nat) : Nat := 0x1001000 + 0x400000 * i
/-- REG_THR, R159. -/
@[reducible] def REG_THR (i : Nat) : Nat := 0x1001004 + 0x400000 * i
/-- REG_TEMP, R159. -/
@[reducible] def REG_TEMP (i : Nat) : Nat := 0x1001008 + 0x400000 * i
/-- REG_LINK, R159. -/
@[reducible] def REG_LINK (i : Nat) : Nat := 0x100100c + 0x400000 * i
/-- REG_EVT, R159. -/
@[reducible] def REG_EVT (i : Nat) : Nat := 0x1001010 + 0x400000 * i
/-- REG_IRQ_EN, R159. -/
@[reducible] def REG_IRQ_EN (i : Nat) : Nat := 0x1001014 + 0x400000 * i
/-- STK_STAT, R105. -/
@[reducible] def STK_STAT (i : Nat) (j : Nat) : Nat := 0x1008000 + 0x100000 * i + 0x40 * j
/-- STK_PC, R105. -/
@[reducible] def STK_PC (i : Nat) (j : Nat) : Nat := 0x1008004 + 0x100000 * i + 0x40 * j
/-- STK_CYC, R105. -/
@[reducible] def STK_CYC (i : Nat) (j : Nat) : Nat := 0x1008008 + 0x100000 * i + 0x40 * j
/-- STK_CYC_MAX, R105. -/
@[reducible] def STK_CYC_MAX (i : Nat) (j : Nat) : Nat := 0x100800c + 0x100000 * i + 0x40 * j
/-- STK_ST, R105. -/
@[reducible] def STK_ST (i : Nat) (j : Nat) : Nat := 0x1008010 + 0x100000 * i + 0x40 * j

@[reducible] def SYS_ID_FAMILY : RegField := ⟨SYS_ID, 31, 24⟩
@[reducible] def SYS_ID_MEMBER : RegField := ⟨SYS_ID, 23, 16⟩
@[reducible] def SYS_ID_STEPPING : RegField := ⟨SYS_ID, 15, 8⟩
@[reducible] def RIM_RTC_ALM_HI_EN : RegField := ⟨RIM_RTC_ALM_HI, 31, 31⟩
@[reducible] def RIM_RTC_ALM_HI_ALM : RegField := ⟨RIM_RTC_ALM_HI, 15, 0⟩
@[reducible] def RIM_STAT_XO_OK : RegField := ⟨RIM_STAT, 31, 31⟩
@[reducible] def RIM_STAT_XTAL_OK : RegField := ⟨RIM_STAT, 30, 30⟩
@[reducible] def RIM_STAT_RC_ACTIVE : RegField := ⟨RIM_STAT, 29, 29⟩
@[reducible] def RIM_STAT_WF_LINK : RegField := ⟨RIM_STAT, 28, 28⟩
@[reducible] def RIM_WF_CFG_EN : RegField := ⟨RIM_WF_CFG, 31, 31⟩
@[reducible] def RIM_WF_CFG_PORT : RegField := ⟨RIM_WF_CFG, 30, 30⟩
@[reducible] def RIM_WF_CFG_UDP_EN : RegField := ⟨RIM_WF_CFG, 29, 29⟩
@[reducible] def RIM_WF_STAT_DROPPED : RegField := ⟨RIM_WF_STAT, 15, 8⟩
@[reducible] def RIM_WF_STAT_HELD : RegField := ⟨RIM_WF_STAT, 2, 0⟩
@[reducible] def RIM_WAKE_CNT_WAKES : RegField := ⟨RIM_WAKE_CNT, 31, 16⟩
@[reducible] def RIM_WAKE_CNT_FALSE : RegField := ⟨RIM_WAKE_CNT, 15, 0⟩
@[reducible] def PWR_CTL_TARGET : RegField := ⟨PWR_CTL, 2, 1⟩
@[reducible] def PWR_CTL_GO : RegField := ⟨PWR_CTL, 0, 0⟩
@[reducible] def PWR_STAT_STATE : RegField := ⟨PWR_STAT, 31, 30⟩
@[reducible] def PWR_STAT_BUSY : RegField := ⟨PWR_STAT, 29, 29⟩
@[reducible] def PWR_STAT_RETRY : RegField := ⟨PWR_STAT, 28, 28⟩
@[reducible] def PWR_STAT_ASKED : RegField := ⟨PWR_STAT, 27, 24⟩
@[reducible] def PWR_STAT_DDR_SR : RegField := ⟨PWR_STAT, 19, 19⟩
@[reducible] def PWR_STAT_CD1 : RegField := ⟨PWR_STAT, 18, 18⟩
@[reducible] def PWR_STAT_CD0 : RegField := ⟨PWR_STAT, 17, 17⟩
@[reducible] def PWR_STAT_DEMAND : RegField := ⟨PWR_STAT, 16, 16⟩
@[reducible] def PWR_STAT_CL : RegField := ⟨PWR_STAT, 15, 0⟩
@[reducible] def PWR_REFUSE_VALID : RegField := ⟨PWR_REFUSE, 31, 31⟩
@[reducible] def PWR_REFUSE_BLOCK : RegField := ⟨PWR_REFUSE, 23, 20⟩
@[reducible] def PWR_REFUSE_REASON : RegField := ⟨PWR_REFUSE, 19, 16⟩
@[reducible] def PWR_REFUSE_COUNT : RegField := ⟨PWR_REFUSE, 15, 0⟩
@[reducible] def PWR_EVT_LADDER : RegField := ⟨PWR_EVT, 6, 6⟩
@[reducible] def PWR_EVT_THERM : RegField := ⟨PWR_EVT, 5, 5⟩
@[reducible] def PWR_EVT_STALL_ERR : RegField := ⟨PWR_EVT, 4, 4⟩
@[reducible] def PWR_EVT_DEMAND : RegField := ⟨PWR_EVT, 3, 3⟩
@[reducible] def PWR_EVT_WAKE : RegField := ⟨PWR_EVT, 2, 2⟩
@[reducible] def PWR_EVT_REFUSED : RegField := ⟨PWR_EVT, 1, 1⟩
@[reducible] def PWR_EVT_ENTERED : RegField := ⟨PWR_EVT, 0, 0⟩
@[reducible] def PWR_IRQ_EN_LADDER : RegField := ⟨PWR_IRQ_EN, 6, 6⟩
@[reducible] def PWR_IRQ_EN_THERM : RegField := ⟨PWR_IRQ_EN, 5, 5⟩
@[reducible] def PWR_IRQ_EN_STALL_ERR : RegField := ⟨PWR_IRQ_EN, 4, 4⟩
@[reducible] def PWR_IRQ_EN_DEMAND : RegField := ⟨PWR_IRQ_EN, 3, 3⟩
@[reducible] def PWR_IRQ_EN_WAKE : RegField := ⟨PWR_IRQ_EN, 2, 2⟩
@[reducible] def PWR_IRQ_EN_REFUSED : RegField := ⟨PWR_IRQ_EN, 1, 1⟩
@[reducible] def PWR_IRQ_EN_ENTERED : RegField := ⟨PWR_IRQ_EN, 0, 0⟩
@[reducible] def PWR_RECOV_GO : RegField := ⟨PWR_RECOV, 31, 31⟩
@[reducible] def PWR_RECOV_BUSY : RegField := ⟨PWR_RECOV, 30, 30⟩
@[reducible] def PWR_RECOV_RESULT : RegField := ⟨PWR_RECOV, 29, 26⟩
@[reducible] def PWR_RECOV_STEP : RegField := ⟨PWR_RECOV, 25, 24⟩
@[reducible] def PWR_RECOV_FUNC : RegField := ⟨PWR_RECOV, 23, 16⟩
@[reducible] def PWR_RECOV_UNIT : RegField := ⟨PWR_RECOV, 8, 0⟩
@[reducible] def PWR_LADDER_STEP2_CNT : RegField := ⟨PWR_LADDER, 31, 16⟩
@[reducible] def PWR_LADDER_STEP3_CNT : RegField := ⟨PWR_LADDER, 15, 0⟩
@[reducible] def MATRIX_EVT_HOST_DENIED : RegField := ⟨MATRIX_EVT, 4, 4⟩
@[reducible] def MATRIX_EVT_BURST_DONE_FOR : RegField := ⟨MATRIX_EVT, 3, 3⟩
@[reducible] def MATRIX_EVT_PORT_RESET : RegField := ⟨MATRIX_EVT, 2, 2⟩
@[reducible] def MATRIX_EVT_STALL : RegField := ⟨MATRIX_EVT, 1, 1⟩
@[reducible] def MATRIX_EVT_ERR : RegField := ⟨MATRIX_EVT, 0, 0⟩
@[reducible] def MATRIX_IRQ_EN_HOST_DENIED : RegField := ⟨MATRIX_IRQ_EN, 4, 4⟩
@[reducible] def MATRIX_IRQ_EN_BURST_DONE_FOR : RegField := ⟨MATRIX_IRQ_EN, 3, 3⟩
@[reducible] def MATRIX_IRQ_EN_PORT_RESET : RegField := ⟨MATRIX_IRQ_EN, 2, 2⟩
@[reducible] def MATRIX_IRQ_EN_STALL : RegField := ⟨MATRIX_IRQ_EN, 1, 1⟩
@[reducible] def MATRIX_IRQ_EN_ERR : RegField := ⟨MATRIX_IRQ_EN, 0, 0⟩
@[reducible] def MATRIX_ERR_INFO_KIND : RegField := ⟨MATRIX_ERR_INFO, 31, 28⟩
@[reducible] def MATRIX_ERR_INFO_WRITE : RegField := ⟨MATRIX_ERR_INFO, 27, 27⟩
@[reducible] def MATRIX_ERR_INFO_PORT : RegField := ⟨MATRIX_ERR_INFO, 13, 8⟩
@[reducible] def MATRIX_ERR_INFO_AGENT : RegField := ⟨MATRIX_ERR_INFO, 4, 0⟩
@[reducible] def MATRIX_PORT_STAT_CONN (i : Nat) : RegField := ⟨MATRIX_PORT_STAT i, 31, 31⟩
@[reducible] def MATRIX_PORT_STAT_RESET (i : Nat) : RegField := ⟨MATRIX_PORT_STAT i, 30, 30⟩
@[reducible] def MATRIX_PORT_STAT_OUTST (i : Nat) : RegField := ⟨MATRIX_PORT_STAT i, 4, 0⟩
@[reducible] def MATRIX_HOST_CFG_PCIE_EN : RegField := ⟨MATRIX_HOST_CFG, 1, 1⟩
@[reducible] def MATRIX_HOST_CFG_QSPI_EN : RegField := ⟨MATRIX_HOST_CFG, 0, 0⟩
@[reducible] def MATRIX_HTEL_EN (i : Nat) : RegField := ⟨MATRIX_HTEL i, 31, 31⟩
@[reducible] def MATRIX_HTEL_WORDS (i : Nat) : RegField := ⟨MATRIX_HTEL i, 30, 25⟩
@[reducible] def MATRIX_HTEL_OFS (i : Nat) : RegField := ⟨MATRIX_HTEL i, 24, 0⟩
@[reducible] def MBOX_STAT_FULL (i : Nat) : RegField := ⟨MBOX_STAT i, 31, 31⟩
@[reducible] def MBOX_STAT_COLLISION (i : Nat) : RegField := ⟨MBOX_STAT i, 30, 30⟩
@[reducible] def MBOX_STAT_CROSS (i : Nat) : RegField := ⟨MBOX_STAT i, 29, 29⟩
@[reducible] def MBOX_STAT_SENDER (i : Nat) : RegField := ⟨MBOX_STAT i, 20, 16⟩
@[reducible] def MBOX_STAT_AGE (i : Nat) : RegField := ⟨MBOX_STAT i, 15, 0⟩
@[reducible] def MBOX_EVT_CROSS : RegField := ⟨MBOX_EVT, 1, 1⟩
@[reducible] def MBOX_EVT_COLLISION : RegField := ⟨MBOX_EVT, 0, 0⟩
@[reducible] def MBOX_IRQ_EN_CROSS : RegField := ⟨MBOX_IRQ_EN, 1, 1⟩
@[reducible] def MBOX_IRQ_EN_COLLISION : RegField := ⟨MBOX_IRQ_EN, 0, 0⟩
@[reducible] def LOCK_TAKEN (i : Nat) : RegField := ⟨LOCK i, 31, 31⟩
@[reducible] def LOCK_OWNER (i : Nat) : RegField := ⟨LOCK i, 4, 0⟩
@[reducible] def LOCK_PEEK_HELD (i : Nat) : RegField := ⟨LOCK_PEEK i, 31, 31⟩
@[reducible] def LOCK_PEEK_OWNER (i : Nat) : RegField := ⟨LOCK_PEEK i, 4, 0⟩
@[reducible] def LOCK_EVT_BAD_RELEASE : RegField := ⟨LOCK_EVT, 1, 1⟩
@[reducible] def LOCK_EVT_BROKEN : RegField := ⟨LOCK_EVT, 0, 0⟩
@[reducible] def LOCK_IRQ_EN_BAD_RELEASE : RegField := ⟨LOCK_IRQ_EN, 1, 1⟩
@[reducible] def LOCK_IRQ_EN_BROKEN : RegField := ⟨LOCK_IRQ_EN, 0, 0⟩
@[reducible] def LOCK_BAD_AGENT : RegField := ⟨LOCK_BAD, 12, 8⟩
@[reducible] def LOCK_BAD_LOCK : RegField := ⟨LOCK_BAD, 5, 0⟩
@[reducible] def WEAVE_CTL_RUN : RegField := ⟨WEAVE_CTL, 0, 0⟩
@[reducible] def WEAVE_CLASS_CTL_PAGE_PRE : RegField := ⟨WEAVE_CLASS_CTL, 12, 12⟩
@[reducible] def WEAVE_CLASS_CTL_PAGE_RAMP : RegField := ⟨WEAVE_CLASS_CTL, 11, 8⟩
@[reducible] def WEAVE_CLASS_CTL_ALM_RAMP : RegField := ⟨WEAVE_CLASS_CTL, 3, 0⟩
@[reducible] def WEAVE_SPARE_COUNT : RegField := ⟨WEAVE_SPARE, 30, 16⟩
@[reducible] def WEAVE_SPARE_BASE : RegField := ⟨WEAVE_SPARE, 14, 0⟩
@[reducible] def WEAVE_EVT_NARROW_SAT : RegField := ⟨WEAVE_EVT, 10, 10⟩
@[reducible] def WEAVE_EVT_ECC_UE : RegField := ⟨WEAVE_EVT, 9, 9⟩
@[reducible] def WEAVE_EVT_HPF_REFUSED : RegField := ⟨WEAVE_EVT, 8, 8⟩
@[reducible] def WEAVE_EVT_AGRP_DENIED : RegField := ⟨WEAVE_EVT, 7, 7⟩
@[reducible] def WEAVE_EVT_NOSPARE : RegField := ⟨WEAVE_EVT, 6, 6⟩
@[reducible] def WEAVE_EVT_DENIED_H : RegField := ⟨WEAVE_EVT, 5, 5⟩
@[reducible] def WEAVE_EVT_OVF_H : RegField := ⟨WEAVE_EVT, 4, 4⟩
@[reducible] def WEAVE_EVT_OVF_C : RegField := ⟨WEAVE_EVT, 3, 3⟩
@[reducible] def WEAVE_EVT_REFUSED_H : RegField := ⟨WEAVE_EVT, 2, 2⟩
@[reducible] def WEAVE_EVT_REFUSED_C : RegField := ⟨WEAVE_EVT, 1, 1⟩
@[reducible] def WEAVE_IRQ_EN_NARROW_SAT : RegField := ⟨WEAVE_IRQ_EN, 10, 10⟩
@[reducible] def WEAVE_IRQ_EN_ECC_UE : RegField := ⟨WEAVE_IRQ_EN, 9, 9⟩
@[reducible] def WEAVE_IRQ_EN_HPF_REFUSED : RegField := ⟨WEAVE_IRQ_EN, 8, 8⟩
@[reducible] def WEAVE_IRQ_EN_AGRP_DENIED : RegField := ⟨WEAVE_IRQ_EN, 7, 7⟩
@[reducible] def WEAVE_IRQ_EN_NOSPARE : RegField := ⟨WEAVE_IRQ_EN, 6, 6⟩
@[reducible] def WEAVE_IRQ_EN_DENIED_H : RegField := ⟨WEAVE_IRQ_EN, 5, 5⟩
@[reducible] def WEAVE_IRQ_EN_OVF_H : RegField := ⟨WEAVE_IRQ_EN, 4, 4⟩
@[reducible] def WEAVE_IRQ_EN_OVF_C : RegField := ⟨WEAVE_IRQ_EN, 3, 3⟩
@[reducible] def WEAVE_IRQ_EN_REFUSED_H : RegField := ⟨WEAVE_IRQ_EN, 2, 2⟩
@[reducible] def WEAVE_IRQ_EN_REFUSED_C : RegField := ⟨WEAVE_IRQ_EN, 1, 1⟩
@[reducible] def WEAVE_ECC_IDX_IDX : RegField := ⟨WEAVE_ECC_IDX, 14, 0⟩
@[reducible] def WEAVE_AGRP_SET_GRP : RegField := ⟨WEAVE_AGRP_SET, 11, 0⟩
@[reducible] def WEAVE_AGRP_CLR_GRP : RegField := ⟨WEAVE_AGRP_CLR, 11, 0⟩
@[reducible] def WEAVE_XP_IDX_INDEX (i : Nat) : RegField := ⟨WEAVE_XP_IDX i, 14, 0⟩
@[reducible] def WEAVE_XP_CTL_OP (i : Nat) : RegField := ⟨WEAVE_XP_CTL i, 7, 4⟩
@[reducible] def WEAVE_XP_CTL_SUCC_EN (i : Nat) : RegField := ⟨WEAVE_XP_CTL i, 1, 1⟩
@[reducible] def WEAVE_XP_CTL_GO (i : Nat) : RegField := ⟨WEAVE_XP_CTL i, 0, 0⟩
@[reducible] def WEAVE_XP_STAT_SEQ (i : Nat) : RegField := ⟨WEAVE_XP_STAT i, 31, 16⟩
@[reducible] def WEAVE_XP_STAT_DEPTH (i : Nat) : RegField := ⟨WEAVE_XP_STAT i, 14, 8⟩
@[reducible] def WEAVE_XP_STAT_RESULT (i : Nat) : RegField := ⟨WEAVE_XP_STAT i, 3, 0⟩
@[reducible] def WEAVE_GEN_CFG_EN (i : Nat) : RegField := ⟨WEAVE_GEN_CFG i, 31, 31⟩
@[reducible] def WEAVE_GEN_CFG_TYPE (i : Nat) : RegField := ⟨WEAVE_GEN_CFG i, 30, 28⟩
@[reducible] def WEAVE_MTR_CFG_CLR (i : Nat) : RegField := ⟨WEAVE_MTR_CFG i, 31, 31⟩
@[reducible] def WEAVE_MTR_CFG_WIN (i : Nat) : RegField := ⟨WEAVE_MTR_CFG i, 3, 0⟩
@[reducible] def WEAVE_STK_MAP_COUNT (i : Nat) : RegField := ⟨WEAVE_STK_MAP i, 27, 16⟩
@[reducible] def WEAVE_STK_MAP_BASE (i : Nat) : RegField := ⟨WEAVE_STK_MAP i, 11, 0⟩
@[reducible] def BORDER_CTL_RUN : RegField := ⟨BORDER_CTL, 0, 0⟩
@[reducible] def BORDER_EVT_ECC_UE : RegField := ⟨BORDER_EVT, 5, 5⟩
@[reducible] def BORDER_EVT_DENIED : RegField := ⟨BORDER_EVT, 4, 4⟩
@[reducible] def BORDER_EVT_CMD_OVF : RegField := ⟨BORDER_EVT, 3, 3⟩
@[reducible] def BORDER_EVT_CMD_REFUSED : RegField := ⟨BORDER_EVT, 2, 2⟩
@[reducible] def BORDER_EVT_CLAMP : RegField := ⟨BORDER_EVT, 1, 1⟩
@[reducible] def BORDER_EVT_SAT : RegField := ⟨BORDER_EVT, 0, 0⟩
@[reducible] def BORDER_IRQ_EN_ECC_UE : RegField := ⟨BORDER_IRQ_EN, 5, 5⟩
@[reducible] def BORDER_IRQ_EN_DENIED : RegField := ⟨BORDER_IRQ_EN, 4, 4⟩
@[reducible] def BORDER_IRQ_EN_CMD_OVF : RegField := ⟨BORDER_IRQ_EN, 3, 3⟩
@[reducible] def BORDER_IRQ_EN_CMD_REFUSED : RegField := ⟨BORDER_IRQ_EN, 2, 2⟩
@[reducible] def BORDER_IRQ_EN_CLAMP : RegField := ⟨BORDER_IRQ_EN, 1, 1⟩
@[reducible] def BORDER_IRQ_EN_SAT : RegField := ⟨BORDER_IRQ_EN, 0, 0⟩
@[reducible] def BORDER_ECC_CH_CH : RegField := ⟨BORDER_ECC_CH, 8, 0⟩
@[reducible] def BORDER_CMD_CH_ITEM : RegField := ⟨BORDER_CMD_CH, 19, 16⟩
@[reducible] def BORDER_CMD_CH_CH : RegField := ⟨BORDER_CMD_CH, 8, 0⟩
@[reducible] def BORDER_CMD_CTL_CLR_STATE : RegField := ⟨BORDER_CMD_CTL, 1, 1⟩
@[reducible] def BORDER_CMD_CTL_GO : RegField := ⟨BORDER_CMD_CTL, 0, 0⟩
@[reducible] def BORDER_CMD_STAT_SEQ : RegField := ⟨BORDER_CMD_STAT, 31, 16⟩
@[reducible] def BORDER_CMD_STAT_DEPTH : RegField := ⟨BORDER_CMD_STAT, 14, 8⟩
@[reducible] def BORDER_CMD_STAT_RESULT : RegField := ⟨BORDER_CMD_STAT, 3, 0⟩
@[reducible] def TDM_CTL_ARM (i : Nat) : RegField := ⟨TDM_CTL i, 1, 1⟩
@[reducible] def TDM_CTL_RUN (i : Nat) : RegField := ⟨TDM_CTL i, 0, 0⟩
@[reducible] def TDM_CFG_ROLE (i : Nat) : RegField := ⟨TDM_CFG i, 31, 30⟩
@[reducible] def TDM_CFG_FMT (i : Nat) : RegField := ⟨TDM_CFG i, 29, 28⟩
@[reducible] def TDM_CFG_FS_POL (i : Nat) : RegField := ⟨TDM_CFG i, 27, 27⟩
@[reducible] def TDM_CFG_BCLK_EDGE (i : Nat) : RegField := ⟨TDM_CFG i, 26, 26⟩
@[reducible] def TDM_CFG_DELAY (i : Nat) : RegField := ⟨TDM_CFG i, 25, 25⟩
@[reducible] def TDM_CFG_DIV (i : Nat) : RegField := ⟨TDM_CFG i, 22, 20⟩
@[reducible] def TDM_CFG_SLOTS (i : Nat) : RegField := ⟨TDM_CFG i, 19, 15⟩
@[reducible] def TDM_CFG_SLOT_BITS (i : Nat) : RegField := ⟨TDM_CFG i, 14, 13⟩
@[reducible] def TDM_CFG_WORD_BITS (i : Nat) : RegField := ⟨TDM_CFG i, 12, 11⟩
@[reducible] def TDM_CFG_TX_HIZ (i : Nat) : RegField := ⟨TDM_CFG i, 10, 10⟩
@[reducible] def TDM_CFG_TX_ROUND (i : Nat) : RegField := ⟨TDM_CFG i, 9, 9⟩
@[reducible] def TDM_CFG_FADE (i : Nat) : RegField := ⟨TDM_CFG i, 7, 4⟩
@[reducible] def TDM_CFG_RAMPIN (i : Nat) : RegField := ⟨TDM_CFG i, 3, 0⟩
@[reducible] def TDM_RXMASK_MASK (i : Nat) : RegField := ⟨TDM_RXMASK i, 31, 0⟩
@[reducible] def TDM_TXMASK_MASK (i : Nat) : RegField := ⟨TDM_TXMASK i, 31, 0⟩
@[reducible] def TDM_RXMASK_ACT_MASK (i : Nat) : RegField := ⟨TDM_RXMASK_ACT i, 31, 0⟩
@[reducible] def TDM_TXMASK_ACT_MASK (i : Nat) : RegField := ⟨TDM_TXMASK_ACT i, 31, 0⟩
@[reducible] def TDM_STAT_STATE (i : Nat) : RegField := ⟨TDM_STAT i, 31, 30⟩
@[reducible] def TDM_STAT_CLK_OK (i : Nat) : RegField := ⟨TDM_STAT i, 29, 29⟩
@[reducible] def TDM_STAT_FADING (i : Nat) : RegField := ⟨TDM_STAT i, 28, 28⟩
@[reducible] def TDM_STAT_RAMPING (i : Nat) : RegField := ⟨TDM_STAT i, 27, 27⟩
@[reducible] def TDM_STAT_MASK_PEND (i : Nat) : RegField := ⟨TDM_STAT i, 26, 26⟩
@[reducible] def TDM_PHASE_RX_DLY (i : Nat) : RegField := ⟨TDM_PHASE i, 31, 16⟩
@[reducible] def TDM_PHASE_TX_LEAD (i : Nat) : RegField := ⟨TDM_PHASE i, 15, 0⟩
@[reducible] def TDM_EVT_CFG_ERR (i : Nat) : RegField := ⟨TDM_EVT i, 6, 6⟩
@[reducible] def TDM_EVT_MASK_COMMIT (i : Nat) : RegField := ⟨TDM_EVT i, 5, 5⟩
@[reducible] def TDM_EVT_RETURN (i : Nat) : RegField := ⟨TDM_EVT i, 4, 4⟩
@[reducible] def TDM_EVT_SLIP (i : Nat) : RegField := ⟨TDM_EVT i, 3, 3⟩
@[reducible] def TDM_EVT_FMT_ERR (i : Nat) : RegField := ⟨TDM_EVT i, 2, 2⟩
@[reducible] def TDM_EVT_CLK_LOSS (i : Nat) : RegField := ⟨TDM_EVT i, 1, 1⟩
@[reducible] def TDM_EVT_STARTED (i : Nat) : RegField := ⟨TDM_EVT i, 0, 0⟩
@[reducible] def TDM_IRQ_EN_CFG_ERR (i : Nat) : RegField := ⟨TDM_IRQ_EN i, 6, 6⟩
@[reducible] def TDM_IRQ_EN_MASK_COMMIT (i : Nat) : RegField := ⟨TDM_IRQ_EN i, 5, 5⟩
@[reducible] def TDM_IRQ_EN_RETURN (i : Nat) : RegField := ⟨TDM_IRQ_EN i, 4, 4⟩
@[reducible] def TDM_IRQ_EN_SLIP (i : Nat) : RegField := ⟨TDM_IRQ_EN i, 3, 3⟩
@[reducible] def TDM_IRQ_EN_FMT_ERR (i : Nat) : RegField := ⟨TDM_IRQ_EN i, 2, 2⟩
@[reducible] def TDM_IRQ_EN_CLK_LOSS (i : Nat) : RegField := ⟨TDM_IRQ_EN i, 1, 1⟩
@[reducible] def TDM_IRQ_EN_STARTED (i : Nat) : RegField := ⟨TDM_IRQ_EN i, 0, 0⟩
@[reducible] def TDM_CNT_SLIP_CNT (i : Nat) : RegField := ⟨TDM_CNT i, 31, 16⟩
@[reducible] def TDM_CNT_LOSS_CNT (i : Nat) : RegField := ⟨TDM_CNT i, 15, 0⟩
@[reducible] def PDM_CLK_CFG_EN (i : Nat) : RegField := ⟨PDM_CLK_CFG i, 31, 31⟩
@[reducible] def PDM_CLK_CFG_RATE (i : Nat) : RegField := ⟨PDM_CLK_CFG i, 30, 30⟩
@[reducible] def PDM_CLK_CFG_WAKE (i : Nat) : RegField := ⟨PDM_CLK_CFG i, 7, 0⟩
@[reducible] def PDM_CTL_ARM : RegField := ⟨PDM_CTL, 1, 1⟩
@[reducible] def PDM_CTL_RUN : RegField := ⟨PDM_CTL, 0, 0⟩
@[reducible] def PDM_MIC_EN_EN : RegField := ⟨PDM_MIC_EN, 31, 0⟩
@[reducible] def PDM_READY_READY : RegField := ⟨PDM_READY, 31, 0⟩
@[reducible] def PDM_EVT_READY : RegField := ⟨PDM_EVT, 1, 1⟩
@[reducible] def PDM_EVT_CFG_ERR : RegField := ⟨PDM_EVT, 0, 0⟩
@[reducible] def PDM_IRQ_EN_READY : RegField := ⟨PDM_IRQ_EN, 1, 1⟩
@[reducible] def PDM_IRQ_EN_CFG_ERR : RegField := ⟨PDM_IRQ_EN, 0, 0⟩
@[reducible] def PDM_DENS_DENS (i : Nat) : RegField := ⟨PDM_DENS i, 31, 16⟩
@[reducible] def AES_IN_CFG_EN (i : Nat) : RegField := ⟨AES_IN_CFG i, 31, 31⟩
@[reducible] def AES_IN_CFG_MODE (i : Nat) : RegField := ⟨AES_IN_CFG i, 30, 30⟩
@[reducible] def AES_IN_CFG_VMODE (i : Nat) : RegField := ⟨AES_IN_CFG i, 29, 29⟩
@[reducible] def AES_IN_CFG_FADE (i : Nat) : RegField := ⟨AES_IN_CFG i, 7, 4⟩
@[reducible] def AES_IN_CFG_RAMPIN (i : Nat) : RegField := ⟨AES_IN_CFG i, 3, 0⟩
@[reducible] def AES_IN_STAT_LOCK (i : Nat) : RegField := ⟨AES_IN_STAT i, 31, 31⟩
@[reducible] def AES_IN_STAT_PRO (i : Nat) : RegField := ⟨AES_IN_STAT i, 30, 30⟩
@[reducible] def AES_IN_STAT_FADING (i : Nat) : RegField := ⟨AES_IN_STAT i, 29, 29⟩
@[reducible] def AES_IN_STAT_RATE (i : Nat) : RegField := ⟨AES_IN_STAT i, 17, 0⟩
@[reducible] def AES_IN_CNT_PAR_CNT (i : Nat) : RegField := ⟨AES_IN_CNT i, 31, 16⟩
@[reducible] def AES_IN_CNT_CRC_CNT (i : Nat) : RegField := ⟨AES_IN_CNT i, 15, 0⟩
@[reducible] def AES_IN_PHASE_RX_DLY (i : Nat) : RegField := ⟨AES_IN_PHASE i, 15, 0⟩
@[reducible] def AES_OUT_CFG_EN (i : Nat) : RegField := ⟨AES_OUT_CFG i, 31, 31⟩
@[reducible] def AES_OUT_CFG_CS_SPLIT (i : Nat) : RegField := ⟨AES_OUT_CFG i, 30, 30⟩
@[reducible] def AES_OUT_CFG_AUTO_CRC (i : Nat) : RegField := ⟨AES_OUT_CFG i, 29, 29⟩
@[reducible] def AES_OUT_CFG_ARM (i : Nat) : RegField := ⟨AES_OUT_CFG i, 28, 28⟩
@[reducible] def AES_EVT_CS_NEW : RegField := ⟨AES_EVT, 15, 12⟩
@[reducible] def AES_EVT_RETURN : RegField := ⟨AES_EVT, 11, 8⟩
@[reducible] def AES_EVT_LOSS : RegField := ⟨AES_EVT, 7, 4⟩
@[reducible] def AES_EVT_ERR : RegField := ⟨AES_EVT, 3, 0⟩
@[reducible] def AES_IRQ_EN_CS_NEW : RegField := ⟨AES_IRQ_EN, 15, 12⟩
@[reducible] def AES_IRQ_EN_RETURN : RegField := ⟨AES_IRQ_EN, 11, 8⟩
@[reducible] def AES_IRQ_EN_LOSS : RegField := ⟨AES_IRQ_EN, 7, 4⟩
@[reducible] def AES_IRQ_EN_ERR : RegField := ⟨AES_IRQ_EN, 3, 0⟩
@[reducible] def ASRC_CFG_EN (i : Nat) : RegField := ⟨ASRC_CFG i, 31, 31⟩
@[reducible] def ASRC_CFG_SLOT (i : Nat) : RegField := ⟨ASRC_CFG i, 12, 0⟩
@[reducible] def ASRC_STAT_LOCK (i : Nat) : RegField := ⟨ASRC_STAT i, 31, 31⟩
@[reducible] def ASRC_STAT_DELAY (i : Nat) : RegField := ⟨ASRC_STAT i, 15, 0⟩
@[reducible] def TRIG_CTL_P : RegField := ⟨TRIG_CTL, 7, 4⟩
@[reducible] def TRIG_CTL_LOOP : RegField := ⟨TRIG_CTL, 2, 2⟩
@[reducible] def TRIG_CTL_OUT_MODE : RegField := ⟨TRIG_CTL, 1, 0⟩
@[reducible] def TRIG_IN_OFS_VALID : RegField := ⟨TRIG_IN_OFS, 31, 31⟩
@[reducible] def TRIG_IN_OFS_OFS : RegField := ⟨TRIG_IN_OFS, 15, 0⟩
@[reducible] def TRIG_EVT_LATE : RegField := ⟨TRIG_EVT, 2, 2⟩
@[reducible] def TRIG_EVT_START : RegField := ⟨TRIG_EVT, 1, 1⟩
@[reducible] def TRIG_EVT_EDGE : RegField := ⟨TRIG_EVT, 0, 0⟩
@[reducible] def NET_CTL_RESTART (i : Nat) : RegField := ⟨NET_CTL i, 1, 1⟩
@[reducible] def NET_CTL_EN (i : Nat) : RegField := ⟨NET_CTL i, 0, 0⟩
@[reducible] def NET_CFG_MODE (i : Nat) : RegField := ⟨NET_CFG i, 31, 29⟩
@[reducible] def NET_CFG_FEC (i : Nat) : RegField := ⟨NET_CFG i, 28, 27⟩
@[reducible] def NET_CFG_SPD_LOWER (i : Nat) : RegField := ⟨NET_CFG i, 26, 26⟩
@[reducible] def NET_CFG_PAUSE_EN (i : Nat) : RegField := ⟨NET_CFG i, 25, 25⟩
@[reducible] def NET_CFG_EEE_EN (i : Nat) : RegField := ⟨NET_CFG i, 24, 24⟩
@[reducible] def NET_CFG_JUMBO (i : Nat) : RegField := ⟨NET_CFG i, 23, 23⟩
@[reducible] def NET_CFG_RX_OTHER (i : Nat) : RegField := ⟨NET_CFG i, 22, 22⟩
@[reducible] def NET_CFG_PAUSE_LIM (i : Nat) : RegField := ⟨NET_CFG i, 15, 0⟩
@[reducible] def NET_STAT_LINK (i : Nat) : RegField := ⟨NET_STAT i, 31, 31⟩
@[reducible] def NET_STAT_SPEED (i : Nat) : RegField := ⟨NET_STAT i, 30, 28⟩
@[reducible] def NET_STAT_LOWERED (i : Nat) : RegField := ⟨NET_STAT i, 27, 27⟩
@[reducible] def NET_STAT_PAUSED (i : Nat) : RegField := ⟨NET_STAT i, 26, 26⟩
@[reducible] def NET_STAT_LPI_TX (i : Nat) : RegField := ⟨NET_STAT i, 25, 25⟩
@[reducible] def NET_STAT_LPI_RX (i : Nat) : RegField := ⟨NET_STAT i, 24, 24⟩
@[reducible] def NET_STAT_STREAMS (i : Nat) : RegField := ⟨NET_STAT i, 8, 0⟩
@[reducible] def NET_EVT_TX_WEDGE (i : Nat) : RegField := ⟨NET_EVT i, 8, 8⟩
@[reducible] def NET_EVT_SEC_PN (i : Nat) : RegField := ⟨NET_EVT i, 7, 7⟩
@[reducible] def NET_EVT_NO_GCL (i : Nat) : RegField := ⟨NET_EVT i, 6, 6⟩
@[reducible] def NET_EVT_GCL_REFUSED (i : Nat) : RegField := ⟨NET_EVT i, 5, 5⟩
@[reducible] def NET_EVT_GCL_SWAP (i : Nat) : RegField := ⟨NET_EVT i, 4, 4⟩
@[reducible] def NET_EVT_PAUSE_WDG (i : Nat) : RegField := ⟨NET_EVT i, 3, 3⟩
@[reducible] def NET_EVT_LOWERED (i : Nat) : RegField := ⟨NET_EVT i, 2, 2⟩
@[reducible] def NET_EVT_LINK_DOWN (i : Nat) : RegField := ⟨NET_EVT i, 1, 1⟩
@[reducible] def NET_EVT_LINK_UP (i : Nat) : RegField := ⟨NET_EVT i, 0, 0⟩
@[reducible] def NET_IRQ_EN_TX_WEDGE (i : Nat) : RegField := ⟨NET_IRQ_EN i, 8, 8⟩
@[reducible] def NET_IRQ_EN_SEC_PN (i : Nat) : RegField := ⟨NET_IRQ_EN i, 7, 7⟩
@[reducible] def NET_IRQ_EN_NO_GCL (i : Nat) : RegField := ⟨NET_IRQ_EN i, 6, 6⟩
@[reducible] def NET_IRQ_EN_GCL_REFUSED (i : Nat) : RegField := ⟨NET_IRQ_EN i, 5, 5⟩
@[reducible] def NET_IRQ_EN_GCL_SWAP (i : Nat) : RegField := ⟨NET_IRQ_EN i, 4, 4⟩
@[reducible] def NET_IRQ_EN_PAUSE_WDG (i : Nat) : RegField := ⟨NET_IRQ_EN i, 3, 3⟩
@[reducible] def NET_IRQ_EN_LOWERED (i : Nat) : RegField := ⟨NET_IRQ_EN i, 2, 2⟩
@[reducible] def NET_IRQ_EN_LINK_DOWN (i : Nat) : RegField := ⟨NET_IRQ_EN i, 1, 1⟩
@[reducible] def NET_IRQ_EN_LINK_UP (i : Nat) : RegField := ⟨NET_IRQ_EN i, 0, 0⟩
@[reducible] def NET_GCL_CTL_EN (i : Nat) : RegField := ⟨NET_GCL_CTL i, 31, 31⟩
@[reducible] def NET_GCL_CTL_COMMIT (i : Nat) : RegField := ⟨NET_GCL_CTL i, 30, 30⟩
@[reducible] def NET_GCL_CTL_PEND (i : Nat) : RegField := ⟨NET_GCL_CTL i, 29, 29⟩
@[reducible] def NET_GCL_CTL_LEN (i : Nat) : RegField := ⟨NET_GCL_CTL i, 7, 0⟩
@[reducible] def NET_GCL_STAT_OPER_LEN (i : Nat) : RegField := ⟨NET_GCL_STAT i, 15, 8⟩
@[reducible] def NET_GCL_STAT_ENTRY (i : Nat) : RegField := ⟨NET_GCL_STAT i, 7, 0⟩
@[reducible] def NET_SEC_CFG_EN (i : Nat) : RegField := ⟨NET_SEC_CFG i, 31, 31⟩
@[reducible] def NET_SEC_CFG_CIPHER (i : Nat) : RegField := ⟨NET_SEC_CFG i, 30, 30⟩
@[reducible] def NET_SEC_CFG_CONF (i : Nat) : RegField := ⟨NET_SEC_CFG i, 29, 29⟩
@[reducible] def NET_SEC_CFG_TX_AN (i : Nat) : RegField := ⟨NET_SEC_CFG i, 25, 24⟩
@[reducible] def NET_SEC_CFG_REPLAY_WIN (i : Nat) : RegField := ⟨NET_SEC_CFG i, 7, 0⟩
@[reducible] def NET_SEC_BYPASS_EN (i : Nat) (j : Nat) : RegField := ⟨NET_SEC_BYPASS i j, 31, 31⟩
@[reducible] def NET_SEC_BYPASS_ETYPE (i : Nat) (j : Nat) : RegField := ⟨NET_SEC_BYPASS i j, 15, 0⟩
@[reducible] def NET_SEC_RXSC_CTL_EN (i : Nat) (j : Nat) : RegField := ⟨NET_SEC_RXSC_CTL i j, 31, 31⟩
@[reducible] def NET_SEC_RXSC_CTL_SA_V (i : Nat) (j : Nat) : RegField := ⟨NET_SEC_RXSC_CTL i j, 3, 0⟩
@[reducible] def NET_VLOG_CTL_WRAP : RegField := ⟨NET_VLOG_CTL, 31, 31⟩
@[reducible] def NET_VLOG_CTL_HEAD : RegField := ⟨NET_VLOG_CTL, 9, 0⟩
@[reducible] def NET_CEVT_QTAB_FULL : RegField := ⟨NET_CEVT, 2, 2⟩
@[reducible] def NET_CEVT_QUAR : RegField := ⟨NET_CEVT, 1, 1⟩
@[reducible] def NET_CEVT_VIOL : RegField := ⟨NET_CEVT, 0, 0⟩
@[reducible] def NET_QTAB_HI_VALID (i : Nat) : RegField := ⟨NET_QTAB_HI i, 31, 31⟩
@[reducible] def NET_QTAB_HI_QUAR (i : Nat) : RegField := ⟨NET_QTAB_HI i, 30, 30⟩
@[reducible] def NET_QTAB_HI_PORT (i : Nat) : RegField := ⟨NET_QTAB_HI i, 18, 16⟩
@[reducible] def STREAM_CTL_RUN : RegField := ⟨STREAM_CTL, 0, 0⟩
@[reducible] def STREAM_EVT_BIND_REFUSED : RegField := ⟨STREAM_EVT, 5, 5⟩
@[reducible] def STREAM_EVT_VIOL : RegField := ⟨STREAM_EVT, 4, 4⟩
@[reducible] def STREAM_EVT_EARLY : RegField := ⟨STREAM_EVT, 3, 3⟩
@[reducible] def STREAM_EVT_LATE : RegField := ⟨STREAM_EVT, 2, 2⟩
@[reducible] def STREAM_EVT_RETURN : RegField := ⟨STREAM_EVT, 1, 1⟩
@[reducible] def STREAM_EVT_LOSS : RegField := ⟨STREAM_EVT, 0, 0⟩
@[reducible] def STREAM_IRQ_EN_BIND_REFUSED : RegField := ⟨STREAM_IRQ_EN, 5, 5⟩
@[reducible] def STREAM_IRQ_EN_VIOL : RegField := ⟨STREAM_IRQ_EN, 4, 4⟩
@[reducible] def STREAM_IRQ_EN_EARLY : RegField := ⟨STREAM_IRQ_EN, 3, 3⟩
@[reducible] def STREAM_IRQ_EN_LATE : RegField := ⟨STREAM_IRQ_EN, 2, 2⟩
@[reducible] def STREAM_IRQ_EN_RETURN : RegField := ⟨STREAM_IRQ_EN, 1, 1⟩
@[reducible] def STREAM_IRQ_EN_LOSS : RegField := ⟨STREAM_IRQ_EN, 0, 0⟩
@[reducible] def STREAM_REFUSE_VALID : RegField := ⟨STREAM_REFUSE, 31, 31⟩
@[reducible] def STREAM_REFUSE_CTX : RegField := ⟨STREAM_REFUSE, 24, 16⟩
@[reducible] def STREAM_REFUSE_REASON : RegField := ⟨STREAM_REFUSE, 3, 0⟩
@[reducible] def STREAM_TPL_SEL_LEN : RegField := ⟨STREAM_TPL_SEL, 23, 16⟩
@[reducible] def STREAM_TPL_SEL_LEG : RegField := ⟨STREAM_TPL_SEL, 12, 12⟩
@[reducible] def STREAM_TPL_SEL_CTX : RegField := ⟨STREAM_TPL_SEL, 8, 0⟩
@[reducible] def CTX_CFG_EN (i : Nat) : RegField := ⟨CTX_CFG i, 31, 31⟩
@[reducible] def CTX_CFG_DIR (i : Nat) : RegField := ⟨CTX_CFG i, 30, 30⟩
@[reducible] def CTX_CFG_FMT (i : Nat) : RegField := ⟨CTX_CFG i, 29, 28⟩
@[reducible] def CTX_CFG_BITS (i : Nat) : RegField := ⟨CTX_CFG i, 27, 26⟩
@[reducible] def CTX_CFG_PAIRED (i : Nat) : RegField := ⟨CTX_CFG i, 25, 25⟩
@[reducible] def CTX_CFG_FRER (i : Nat) : RegField := ⟨CTX_CFG i, 24, 24⟩
@[reducible] def CTX_CFG_MERGE (i : Nat) : RegField := ⟨CTX_CFG i, 23, 23⟩
@[reducible] def CTX_CFG_PORT (i : Nat) : RegField := ⟨CTX_CFG i, 22, 20⟩
@[reducible] def CTX_CFG_PORT2 (i : Nat) : RegField := ⟨CTX_CFG i, 19, 17⟩
@[reducible] def CTX_CFG_QUEUE (i : Nat) : RegField := ⟨CTX_CFG i, 16, 14⟩
@[reducible] def CTX_CFG_CHANS (i : Nat) : RegField := ⟨CTX_CFG i, 13, 8⟩
@[reducible] def CTX_CFG_FADE (i : Nat) : RegField := ⟨CTX_CFG i, 7, 4⟩
@[reducible] def CTX_CFG_RAMPIN (i : Nat) : RegField := ⟨CTX_CFG i, 3, 0⟩
@[reducible] def CTX_SLOT_OFFSET (i : Nat) : RegField := ⟨CTX_SLOT i, 23, 16⟩
@[reducible] def CTX_SLOT_SLOT (i : Nat) : RegField := ⟨CTX_SLOT i, 12, 0⟩
@[reducible] def CTX_MATCH_VLAN_EN (i : Nat) : RegField := ⟨CTX_MATCH i, 31, 31⟩
@[reducible] def CTX_MATCH_SSRC_EN (i : Nat) : RegField := ⟨CTX_MATCH i, 30, 30⟩
@[reducible] def CTX_MATCH_PT (i : Nat) : RegField := ⟨CTX_MATCH i, 22, 16⟩
@[reducible] def CTX_MATCH_VID (i : Nat) : RegField := ⟨CTX_MATCH i, 11, 0⟩
@[reducible] def CTX_STAT_STATE (i : Nat) : RegField := ⟨CTX_STAT i, 31, 30⟩
@[reducible] def CTX_STAT_FADING (i : Nat) : RegField := ⟨CTX_STAT i, 29, 29⟩
@[reducible] def CTX_STAT_RAMPING (i : Nat) : RegField := ⟨CTX_STAT i, 28, 28⟩
@[reducible] def CTX_STAT_LAST_SEQ (i : Nat) : RegField := ⟨CTX_STAT i, 15, 0⟩
@[reducible] def CTX_CNT0_LATE (i : Nat) : RegField := ⟨CTX_CNT0 i, 31, 16⟩
@[reducible] def CTX_CNT0_EARLY (i : Nat) : RegField := ⟨CTX_CNT0 i, 15, 0⟩
@[reducible] def CTX_CNT1_DUP (i : Nat) : RegField := ⟨CTX_CNT1 i, 31, 16⟩
@[reducible] def CTX_CNT1_VIOL (i : Nat) : RegField := ⟨CTX_CNT1 i, 15, 0⟩
@[reducible] def PAIR_CFG_EN : RegField := ⟨PAIR_CFG, 31, 31⟩
@[reducible] def PAIR_CFG_SIDE : RegField := ⟨PAIR_CFG, 30, 30⟩
@[reducible] def PAIR_CFG_AUTO : RegField := ⟨PAIR_CFG, 29, 29⟩
@[reducible] def PAIR_CFG_MIN_HEALTH : RegField := ⟨PAIR_CFG, 15, 8⟩
@[reducible] def PAIR_CFG_MATCH : RegField := ⟨PAIR_CFG, 7, 0⟩
@[reducible] def PAIR_CTL_WITHDRAW : RegField := ⟨PAIR_CTL, 1, 1⟩
@[reducible] def PAIR_CTL_REJOIN : RegField := ⟨PAIR_CTL, 0, 0⟩
@[reducible] def PAIR_STAT_STATE : RegField := ⟨PAIR_STAT, 31, 29⟩
@[reducible] def PAIR_STAT_PSTATE : RegField := ⟨PAIR_STAT, 28, 26⟩
@[reducible] def PAIR_STAT_LANE0 : RegField := ⟨PAIR_STAT, 25, 25⟩
@[reducible] def PAIR_STAT_LANE1 : RegField := ⟨PAIR_STAT, 24, 24⟩
@[reducible] def PAIR_STAT_MISRUN : RegField := ⟨PAIR_STAT, 23, 16⟩
@[reducible] def PAIR_STAT_PHASE : RegField := ⟨PAIR_STAT, 15, 8⟩
@[reducible] def PAIR_STAT_PHEALTH : RegField := ⟨PAIR_STAT, 7, 0⟩
@[reducible] def PAIR_HEALTH_SCORE : RegField := ⟨PAIR_HEALTH, 7, 0⟩
@[reducible] def PAIR_EVT_REJOIN_FAIL : RegField := ⟨PAIR_EVT, 7, 7⟩
@[reducible] def PAIR_EVT_PAIRED : RegField := ⟨PAIR_EVT, 6, 6⟩
@[reducible] def PAIR_EVT_COMMIT : RegField := ⟨PAIR_EVT, 5, 5⟩
@[reducible] def PAIR_EVT_COPY_DONE : RegField := ⟨PAIR_EVT, 4, 4⟩
@[reducible] def PAIR_EVT_WITHDRAWN : RegField := ⟨PAIR_EVT, 3, 3⟩
@[reducible] def PAIR_EVT_PARTNER_LOST : RegField := ⟨PAIR_EVT, 2, 2⟩
@[reducible] def PAIR_EVT_MISMATCH : RegField := ⟨PAIR_EVT, 1, 1⟩
@[reducible] def PAIR_EVT_LANE : RegField := ⟨PAIR_EVT, 0, 0⟩
@[reducible] def PAIR_IRQ_EN_REJOIN_FAIL : RegField := ⟨PAIR_IRQ_EN, 7, 7⟩
@[reducible] def PAIR_IRQ_EN_PAIRED : RegField := ⟨PAIR_IRQ_EN, 6, 6⟩
@[reducible] def PAIR_IRQ_EN_COMMIT : RegField := ⟨PAIR_IRQ_EN, 5, 5⟩
@[reducible] def PAIR_IRQ_EN_COPY_DONE : RegField := ⟨PAIR_IRQ_EN, 4, 4⟩
@[reducible] def PAIR_IRQ_EN_WITHDRAWN : RegField := ⟨PAIR_IRQ_EN, 3, 3⟩
@[reducible] def PAIR_IRQ_EN_PARTNER_LOST : RegField := ⟨PAIR_IRQ_EN, 2, 2⟩
@[reducible] def PAIR_IRQ_EN_MISMATCH : RegField := ⟨PAIR_IRQ_EN, 1, 1⟩
@[reducible] def PAIR_IRQ_EN_LANE : RegField := ⟨PAIR_IRQ_EN, 0, 0⟩
@[reducible] def PAIR_DIFF_SINKS : RegField := ⟨PAIR_DIFF, 16, 16⟩
@[reducible] def PAIR_DIFF_CL : RegField := ⟨PAIR_DIFF, 15, 0⟩
@[reducible] def PAIR_CNT_WITHDRAW_CNT : RegField := ⟨PAIR_CNT, 31, 16⟩
@[reducible] def PAIR_CNT_REJOIN_CNT : RegField := ⟨PAIR_CNT, 15, 0⟩
@[reducible] def TIME_CTL_SA_RUN : RegField := ⟨TIME_CTL, 1, 1⟩
@[reducible] def TIME_CTL_PTP_EN : RegField := ⟨TIME_CTL, 0, 0⟩
@[reducible] def TIME_CFG_PROFILE : RegField := ⟨TIME_CFG, 31, 30⟩
@[reducible] def TIME_CFG_UDP : RegField := ⟨TIME_CFG, 29, 29⟩
@[reducible] def TIME_CFG_TS_MODE : RegField := ⟨TIME_CFG, 28, 28⟩
@[reducible] def TIME_CFG_ONE_STEP : RegField := ⟨TIME_CFG, 27, 27⟩
@[reducible] def TIME_CFG_STEP_OK : RegField := ⟨TIME_CFG, 26, 26⟩
@[reducible] def TIME_CFG_ACQ_STEP : RegField := ⟨TIME_CFG, 25, 25⟩
@[reducible] def TIME_CFG_DOMAIN : RegField := ⟨TIME_CFG, 23, 16⟩
@[reducible] def TIME_CFG_STEP_THR : RegField := ⟨TIME_CFG, 15, 0⟩
@[reducible] def TIME_CFG2_CONFIRM : RegField := ⟨TIME_CFG2, 31, 24⟩
@[reducible] def TIME_CFG2_LOCK_NS : RegField := ⟨TIME_CFG2, 23, 16⟩
@[reducible] def TIME_CFG2_OUTLIER : RegField := ⟨TIME_CFG2, 15, 8⟩
@[reducible] def TIME_CFG2_MUTE : RegField := ⟨TIME_CFG2, 7, 4⟩
@[reducible] def TIME_CFG2_RAMP : RegField := ⟨TIME_CFG2, 3, 0⟩
@[reducible] def TIME_STAT_QUAL : RegField := ⟨TIME_STAT, 31, 29⟩
@[reducible] def TIME_STAT_SERVO : RegField := ⟨TIME_STAT, 28, 27⟩
@[reducible] def TIME_STAT_SUSPECT : RegField := ⟨TIME_STAT, 26, 26⟩
@[reducible] def TIME_STAT_STEP_PEND : RegField := ⟨TIME_STAT, 25, 25⟩
@[reducible] def TIME_STAT_RTC_RC : RegField := ⟨TIME_STAT, 24, 24⟩
@[reducible] def TIME_STAT_PTP_PORT : RegField := ⟨TIME_STAT, 22, 20⟩
@[reducible] def TIME_EVT_RTC_FAIL : RegField := ⟨TIME_EVT, 11, 11⟩
@[reducible] def TIME_EVT_PAIR_SKEW : RegField := ⟨TIME_EVT, 10, 10⟩
@[reducible] def TIME_EVT_SA_FULL : RegField := ⟨TIME_EVT, 9, 9⟩
@[reducible] def TIME_EVT_SA_STALE : RegField := ⟨TIME_EVT, 8, 8⟩
@[reducible] def TIME_EVT_SA_LATE : RegField := ⟨TIME_EVT, 7, 7⟩
@[reducible] def TIME_EVT_TSQ_OVF : RegField := ⟨TIME_EVT, 6, 6⟩
@[reducible] def TIME_EVT_MASTER_LOST : RegField := ⟨TIME_EVT, 5, 5⟩
@[reducible] def TIME_EVT_MASTER_CHG : RegField := ⟨TIME_EVT, 4, 4⟩
@[reducible] def TIME_EVT_QUAL_CHG : RegField := ⟨TIME_EVT, 3, 3⟩
@[reducible] def TIME_EVT_STEPPED : RegField := ⟨TIME_EVT, 2, 2⟩
@[reducible] def TIME_EVT_STEP_ABANDONED : RegField := ⟨TIME_EVT, 1, 1⟩
@[reducible] def TIME_EVT_JUMP_REFUSED : RegField := ⟨TIME_EVT, 0, 0⟩
@[reducible] def TIME_IRQ_EN_RTC_FAIL : RegField := ⟨TIME_IRQ_EN, 11, 11⟩
@[reducible] def TIME_IRQ_EN_PAIR_SKEW : RegField := ⟨TIME_IRQ_EN, 10, 10⟩
@[reducible] def TIME_IRQ_EN_SA_FULL : RegField := ⟨TIME_IRQ_EN, 9, 9⟩
@[reducible] def TIME_IRQ_EN_SA_STALE : RegField := ⟨TIME_IRQ_EN, 8, 8⟩
@[reducible] def TIME_IRQ_EN_SA_LATE : RegField := ⟨TIME_IRQ_EN, 7, 7⟩
@[reducible] def TIME_IRQ_EN_TSQ_OVF : RegField := ⟨TIME_IRQ_EN, 6, 6⟩
@[reducible] def TIME_IRQ_EN_MASTER_LOST : RegField := ⟨TIME_IRQ_EN, 5, 5⟩
@[reducible] def TIME_IRQ_EN_MASTER_CHG : RegField := ⟨TIME_IRQ_EN, 4, 4⟩
@[reducible] def TIME_IRQ_EN_QUAL_CHG : RegField := ⟨TIME_IRQ_EN, 3, 3⟩
@[reducible] def TIME_IRQ_EN_STEPPED : RegField := ⟨TIME_IRQ_EN, 2, 2⟩
@[reducible] def TIME_IRQ_EN_STEP_ABANDONED : RegField := ⟨TIME_IRQ_EN, 1, 1⟩
@[reducible] def TIME_IRQ_EN_JUMP_REFUSED : RegField := ⟨TIME_IRQ_EN, 0, 0⟩
@[reducible] def TIME_PTP_DS_PRIO1 : RegField := ⟨TIME_PTP_DS, 31, 24⟩
@[reducible] def TIME_PTP_DS_PRIO2 : RegField := ⟨TIME_PTP_DS, 23, 16⟩
@[reducible] def TIME_PTP_DS_CLASS : RegField := ⟨TIME_PTP_DS, 15, 8⟩
@[reducible] def TIME_PTP_DS_ACCURACY : RegField := ⟨TIME_PTP_DS, 7, 0⟩
@[reducible] def TIME_PTP_INT_SYNC : RegField := ⟨TIME_PTP_INT, 31, 24⟩
@[reducible] def TIME_PTP_INT_ANNOUNCE : RegField := ⟨TIME_PTP_INT, 23, 16⟩
@[reducible] def TIME_PTP_INT_DELAY_REQ : RegField := ⟨TIME_PTP_INT, 15, 8⟩
@[reducible] def TIME_TSQ_STAT_OVF (i : Nat) : RegField := ⟨TIME_TSQ_STAT i, 31, 31⟩
@[reducible] def TIME_TSQ_STAT_COUNT (i : Nat) : RegField := ⟨TIME_TSQ_STAT i, 20, 16⟩
@[reducible] def TIME_TSQ_STAT_LOST_SEQ (i : Nat) : RegField := ⟨TIME_TSQ_STAT i, 15, 0⟩
@[reducible] def TIME_SA_LVL_HELD : RegField := ⟨TIME_SA_LVL, 26, 16⟩
@[reducible] def TIME_SA_LVL_USED : RegField := ⟨TIME_SA_LVL, 10, 0⟩
@[reducible] def TIME_SA_DONE_HEAD_WRAP : RegField := ⟨TIME_SA_DONE_HEAD, 31, 31⟩
@[reducible] def TIME_SA_DONE_HEAD_HEAD : RegField := ⟨TIME_SA_DONE_HEAD, 7, 0⟩
@[reducible] def REFSEL_CTL_SEL_REF : RegField := ⟨REFSEL_CTL, 11, 8⟩
@[reducible] def REFSEL_CTL_SEL_MODE : RegField := ⟨REFSEL_CTL, 5, 4⟩
@[reducible] def REFSEL_CTL_REVERT : RegField := ⟨REFSEL_CTL, 1, 1⟩
@[reducible] def REFSEL_CTL_RUN : RegField := ⟨REFSEL_CTL, 0, 0⟩
@[reducible] def REFSEL_CFG_WTR : RegField := ⟨REFSEL_CFG, 31, 20⟩
@[reducible] def REFSEL_CFG_QUAL_S : RegField := ⟨REFSEL_CFG, 19, 12⟩
@[reducible] def REFSEL_CFG_QUAL_PPM : RegField := ⟨REFSEL_CFG, 7, 0⟩
@[reducible] def REFSEL_STAT_STATE : RegField := ⟨REFSEL_STAT, 31, 29⟩
@[reducible] def REFSEL_STAT_SEL : RegField := ⟨REFSEL_STAT, 27, 24⟩
@[reducible] def REFSEL_STAT_XO_OK : RegField := ⟨REFSEL_STAT, 23, 23⟩
@[reducible] def REFSEL_STAT_RANK_DISAGREE : RegField := ⟨REFSEL_STAT, 22, 22⟩
@[reducible] def REFSEL_EVT_XO_FAIL : RegField := ⟨REFSEL_EVT, 10, 10⟩
@[reducible] def REFSEL_EVT_NCO_LIMIT : RegField := ⟨REFSEL_EVT, 9, 9⟩
@[reducible] def REFSEL_EVT_HOLD_SHORT : RegField := ⟨REFSEL_EVT, 8, 8⟩
@[reducible] def REFSEL_EVT_DISAGREE_ALM : RegField := ⟨REFSEL_EVT, 7, 7⟩
@[reducible] def REFSEL_EVT_RANK_DISAGREE : RegField := ⟨REFSEL_EVT, 6, 6⟩
@[reducible] def REFSEL_EVT_DISQUALIFIED : RegField := ⟨REFSEL_EVT, 5, 5⟩
@[reducible] def REFSEL_EVT_QUALIFIED : RegField := ⟨REFSEL_EVT, 4, 4⟩
@[reducible] def REFSEL_EVT_HOLDOVER : RegField := ⟨REFSEL_EVT, 3, 3⟩
@[reducible] def REFSEL_EVT_LOCKED : RegField := ⟨REFSEL_EVT, 2, 2⟩
@[reducible] def REFSEL_EVT_SWITCH_DONE : RegField := ⟨REFSEL_EVT, 1, 1⟩
@[reducible] def REFSEL_EVT_SEL_CHG : RegField := ⟨REFSEL_EVT, 0, 0⟩
@[reducible] def REFSEL_IRQ_EN_XO_FAIL : RegField := ⟨REFSEL_IRQ_EN, 10, 10⟩
@[reducible] def REFSEL_IRQ_EN_NCO_LIMIT : RegField := ⟨REFSEL_IRQ_EN, 9, 9⟩
@[reducible] def REFSEL_IRQ_EN_HOLD_SHORT : RegField := ⟨REFSEL_IRQ_EN, 8, 8⟩
@[reducible] def REFSEL_IRQ_EN_DISAGREE_ALM : RegField := ⟨REFSEL_IRQ_EN, 7, 7⟩
@[reducible] def REFSEL_IRQ_EN_RANK_DISAGREE : RegField := ⟨REFSEL_IRQ_EN, 6, 6⟩
@[reducible] def REFSEL_IRQ_EN_DISQUALIFIED : RegField := ⟨REFSEL_IRQ_EN, 5, 5⟩
@[reducible] def REFSEL_IRQ_EN_QUALIFIED : RegField := ⟨REFSEL_IRQ_EN, 4, 4⟩
@[reducible] def REFSEL_IRQ_EN_HOLDOVER : RegField := ⟨REFSEL_IRQ_EN, 3, 3⟩
@[reducible] def REFSEL_IRQ_EN_LOCKED : RegField := ⟨REFSEL_IRQ_EN, 2, 2⟩
@[reducible] def REFSEL_IRQ_EN_SWITCH_DONE : RegField := ⟨REFSEL_IRQ_EN, 1, 1⟩
@[reducible] def REFSEL_IRQ_EN_SEL_CHG : RegField := ⟨REFSEL_IRQ_EN, 0, 0⟩
@[reducible] def REF_STAT_QUAL (i : Nat) : RegField := ⟨REF_STAT i, 31, 31⟩
@[reducible] def REF_STAT_PRESENT (i : Nat) : RegField := ⟨REF_STAT i, 30, 30⟩
@[reducible] def REF_STAT_ELIGIBLE (i : Nat) : RegField := ⟨REF_STAT i, 29, 29⟩
@[reducible] def REF_STAT_IN_WTR (i : Nat) : RegField := ⟨REF_STAT i, 28, 28⟩
@[reducible] def REF_STAT_DISTRUST (i : Nat) : RegField := ⟨REF_STAT i, 27, 27⟩
@[reducible] def REF_STAT_BW_LIM (i : Nat) : RegField := ⟨REF_STAT i, 26, 26⟩
@[reducible] def REF_STAT_RANK_DISAGREE (i : Nat) : RegField := ⟨REF_STAT i, 25, 25⟩
@[reducible] def REF_STAT_WTR_REM (i : Nat) : RegField := ⟨REF_STAT i, 11, 0⟩
@[reducible] def REF_HIST_LOS (i : Nat) : RegField := ⟨REF_HIST i, 4, 4⟩
@[reducible] def REF_HIST_FREQ (i : Nat) : RegField := ⟨REF_HIST i, 3, 3⟩
@[reducible] def REF_HIST_PHIT (i : Nat) : RegField := ⟨REF_HIST i, 2, 2⟩
@[reducible] def REF_HIST_DISQ (i : Nat) : RegField := ⟨REF_HIST i, 1, 1⟩
@[reducible] def REF_HIST_DISAGREE (i : Nat) : RegField := ⟨REF_HIST i, 0, 0⟩
@[reducible] def OUT_CFG_EN (i : Nat) : RegField := ⟨OUT_CFG i, 31, 31⟩
@[reducible] def OUT_CFG_MODE (i : Nat) : RegField := ⟨OUT_CFG i, 30, 28⟩
@[reducible] def OUT_CFG_K (i : Nat) : RegField := ⟨OUT_CFG i, 26, 24⟩
@[reducible] def OUT_CFG_GATE (i : Nat) : RegField := ⟨OUT_CFG i, 23, 23⟩
@[reducible] def OUT_CFG_WIDTH (i : Nat) : RegField := ⟨OUT_CFG i, 9, 0⟩
@[reducible] def ALARM_CTL_BARE : RegField := ⟨ALARM_CTL, 1, 1⟩
@[reducible] def ALARM_CTL_RUN : RegField := ⟨ALARM_CTL, 0, 0⟩
@[reducible] def ALARM_EVT_STORE_BAD : RegField := ⟨ALARM_EVT, 9, 9⟩
@[reducible] def ALARM_EVT_XO_LOSS : RegField := ⟨ALARM_EVT, 8, 8⟩
@[reducible] def ALARM_EVT_QUEUE_OVF : RegField := ⟨ALARM_EVT, 7, 7⟩
@[reducible] def ALARM_EVT_TAIL_FAIL : RegField := ⟨ALARM_EVT, 6, 6⟩
@[reducible] def ALARM_EVT_PREEMPT : RegField := ⟨ALARM_EVT, 5, 5⟩
@[reducible] def ALARM_EVT_MSG_REJECT : RegField := ⟨ALARM_EVT, 4, 4⟩
@[reducible] def ALARM_EVT_MSG_ACCEPT : RegField := ⟨ALARM_EVT, 3, 3⟩
@[reducible] def ALARM_EVT_TRIG_END : RegField := ⟨ALARM_EVT, 2, 2⟩
@[reducible] def ALARM_EVT_TRIG_START : RegField := ⟨ALARM_EVT, 1, 1⟩
@[reducible] def ALARM_EVT_IN_CHANGE : RegField := ⟨ALARM_EVT, 0, 0⟩
@[reducible] def ALARM_IRQ_EN_STORE_BAD : RegField := ⟨ALARM_IRQ_EN, 9, 9⟩
@[reducible] def ALARM_IRQ_EN_XO_LOSS : RegField := ⟨ALARM_IRQ_EN, 8, 8⟩
@[reducible] def ALARM_IRQ_EN_QUEUE_OVF : RegField := ⟨ALARM_IRQ_EN, 7, 7⟩
@[reducible] def ALARM_IRQ_EN_TAIL_FAIL : RegField := ⟨ALARM_IRQ_EN, 6, 6⟩
@[reducible] def ALARM_IRQ_EN_PREEMPT : RegField := ⟨ALARM_IRQ_EN, 5, 5⟩
@[reducible] def ALARM_IRQ_EN_MSG_REJECT : RegField := ⟨ALARM_IRQ_EN, 4, 4⟩
@[reducible] def ALARM_IRQ_EN_MSG_ACCEPT : RegField := ⟨ALARM_IRQ_EN, 3, 3⟩
@[reducible] def ALARM_IRQ_EN_TRIG_END : RegField := ⟨ALARM_IRQ_EN, 2, 2⟩
@[reducible] def ALARM_IRQ_EN_TRIG_START : RegField := ⟨ALARM_IRQ_EN, 1, 1⟩
@[reducible] def ALARM_IRQ_EN_IN_CHANGE : RegField := ⟨ALARM_IRQ_EN, 0, 0⟩
@[reducible] def ALARM_FAULT_BARE : RegField := ⟨ALARM_FAULT, 7, 7⟩
@[reducible] def ALARM_FAULT_STORE : RegField := ⟨ALARM_FAULT, 6, 6⟩
@[reducible] def ALARM_FAULT_TAIL : RegField := ⟨ALARM_FAULT, 5, 5⟩
@[reducible] def ALARM_FAULT_XO : RegField := ⟨ALARM_FAULT, 4, 4⟩
@[reducible] def ALARM_FAULT_IN_WIRING : RegField := ⟨ALARM_FAULT, 3, 3⟩
@[reducible] def ALARM_FAULT_WDG : RegField := ⟨ALARM_FAULT, 2, 2⟩
@[reducible] def ALARM_FAULT_SW_F : RegField := ⟨ALARM_FAULT, 1, 1⟩
@[reducible] def ALARM_FAULT_ANY : RegField := ⟨ALARM_FAULT, 0, 0⟩
@[reducible] def ALARM_FAULT_SW_SRC : RegField := ⟨ALARM_FAULT_SW, 15, 0⟩
@[reducible] def ALARM_CMD_OP : RegField := ⟨ALARM_CMD, 9, 8⟩
@[reducible] def ALARM_CMD_TRIG : RegField := ⟨ALARM_CMD, 5, 0⟩
@[reducible] def ALARM_IN_STAT_STATE : RegField := ⟨ALARM_IN_STAT, 31, 0⟩
@[reducible] def ALARM_TRIG_ACT0_ACT : RegField := ⟨ALARM_TRIG_ACT0, 31, 0⟩
@[reducible] def ALARM_TRIG_ACT1_ACT : RegField := ⟨ALARM_TRIG_ACT1, 31, 0⟩
@[reducible] def ALARM_MSG_CNT_ACCEPT : RegField := ⟨ALARM_MSG_CNT, 31, 16⟩
@[reducible] def ALARM_MSG_CNT_REJECT : RegField := ⟨ALARM_MSG_CNT, 15, 0⟩
@[reducible] def ALARM_REJ_VALID : RegField := ⟨ALARM_REJ, 31, 31⟩
@[reducible] def ALARM_REJ_KEY : RegField := ⟨ALARM_REJ, 11, 4⟩
@[reducible] def ALARM_REJ_REASON : RegField := ⟨ALARM_REJ, 3, 0⟩
@[reducible] def ALARM_BARE_PORTS_PORTS : RegField := ⟨ALARM_BARE_PORTS, 31, 0⟩
@[reducible] def ALARM_MSG_OK0_OK : RegField := ⟨ALARM_MSG_OK0, 31, 0⟩
@[reducible] def ALARM_MSG_OK1_OK : RegField := ⟨ALARM_MSG_OK1, 31, 0⟩
@[reducible] def ALARM_IN_CFG_EN (i : Nat) : RegField := ⟨ALARM_IN_CFG i, 31, 31⟩
@[reducible] def ALARM_IN_CFG_SHORT_ACT (i : Nat) : RegField := ⟨ALARM_IN_CFG i, 30, 30⟩
@[reducible] def ALARM_IN_CFG_FAULT_EN (i : Nat) : RegField := ⟨ALARM_IN_CFG i, 29, 29⟩
@[reducible] def ALARM_IN_CFG_WAKE_FLT (i : Nat) : RegField := ⟨ALARM_IN_CFG i, 28, 28⟩
@[reducible] def ALARM_IN_CFG_ROLE (i : Nat) : RegField := ⟨ALARM_IN_CFG i, 27, 27⟩
@[reducible] def ALARM_IN_CFG_TRIG (i : Nat) : RegField := ⟨ALARM_IN_CFG i, 21, 16⟩
@[reducible] def ALARM_IN_CFG_FILT (i : Nat) : RegField := ⟨ALARM_IN_CFG i, 14, 0⟩
@[reducible] def ALARM_TRIG_CFG_EN (i : Nat) : RegField := ⟨ALARM_TRIG_CFG i, 31, 31⟩
@[reducible] def ALARM_TRIG_CFG_LATCH (i : Nat) : RegField := ⟨ALARM_TRIG_CFG i, 30, 30⟩
@[reducible] def ALARM_TRIG_CFG_NET_OK (i : Nat) : RegField := ⟨ALARM_TRIG_CFG i, 29, 29⟩
@[reducible] def ALARM_TRIG_CFG_PRIO (i : Nat) : RegField := ⟨ALARM_TRIG_CFG i, 28, 26⟩
@[reducible] def ALARM_TRIG_CFG_PLAYER (i : Nat) : RegField := ⟨ALARM_TRIG_CFG i, 19, 16⟩
@[reducible] def ALARM_TRIG_CFG_MSG (i : Nat) : RegField := ⟨ALARM_TRIG_CFG i, 13, 8⟩
@[reducible] def ALARM_TRIG_CFG_REPEAT (i : Nat) : RegField := ⟨ALARM_TRIG_CFG i, 7, 0⟩
@[reducible] def ALARM_TRIG_GRP_SCENE (i : Nat) : RegField := ⟨ALARM_TRIG_GRP i, 31, 24⟩
@[reducible] def ALARM_TRIG_GRP_AGRP (i : Nat) : RegField := ⟨ALARM_TRIG_GRP i, 11, 0⟩
@[reducible] def ALARM_PLY_STAT_STATE (i : Nat) : RegField := ⟨ALARM_PLY_STAT i, 31, 30⟩
@[reducible] def ALARM_PLY_STAT_TRIG (i : Nat) : RegField := ⟨ALARM_PLY_STAT i, 27, 22⟩
@[reducible] def ALARM_PLY_STAT_MSG (i : Nat) : RegField := ⟨ALARM_PLY_STAT i, 13, 8⟩
@[reducible] def ALARM_PLY_STAT_PLAYS (i : Nat) : RegField := ⟨ALARM_PLY_STAT i, 7, 0⟩
@[reducible] def ALARM_PLY_POS_POS (i : Nat) : RegField := ⟨ALARM_PLY_POS i, 24, 0⟩
@[reducible] def SUPV_CTL_NC_EN : RegField := ⟨SUPV_CTL, 2, 2⟩
@[reducible] def SUPV_CTL_LEARN : RegField := ⟨SUPV_CTL, 1, 1⟩
@[reducible] def SUPV_CTL_RUN : RegField := ⟨SUPV_CTL, 0, 0⟩
@[reducible] def SUPV_EVT_REPORT_STALE : RegField := ⟨SUPV_EVT, 9, 9⟩
@[reducible] def SUPV_EVT_NC_REFUSED : RegField := ⟨SUPV_EVT, 8, 8⟩
@[reducible] def SUPV_EVT_TI_INVALID : RegField := ⟨SUPV_EVT, 7, 7⟩
@[reducible] def SUPV_EVT_TI_LOW : RegField := ⟨SUPV_EVT, 6, 6⟩
@[reducible] def SUPV_EVT_MIC_CLEAR : RegField := ⟨SUPV_EVT, 5, 5⟩
@[reducible] def SUPV_EVT_MIC_FAULT : RegField := ⟨SUPV_EVT, 4, 4⟩
@[reducible] def SUPV_EVT_LINE_CLEAR : RegField := ⟨SUPV_EVT, 3, 3⟩
@[reducible] def SUPV_EVT_LINE_FAULT : RegField := ⟨SUPV_EVT, 2, 2⟩
@[reducible] def SUPV_EVT_LEARN_DONE : RegField := ⟨SUPV_EVT, 1, 1⟩
@[reducible] def SUPV_EVT_SWEEP_DONE : RegField := ⟨SUPV_EVT, 0, 0⟩
@[reducible] def SUPV_IRQ_EN_REPORT_STALE : RegField := ⟨SUPV_IRQ_EN, 9, 9⟩
@[reducible] def SUPV_IRQ_EN_NC_REFUSED : RegField := ⟨SUPV_IRQ_EN, 8, 8⟩
@[reducible] def SUPV_IRQ_EN_TI_INVALID : RegField := ⟨SUPV_IRQ_EN, 7, 7⟩
@[reducible] def SUPV_IRQ_EN_TI_LOW : RegField := ⟨SUPV_IRQ_EN, 6, 6⟩
@[reducible] def SUPV_IRQ_EN_MIC_CLEAR : RegField := ⟨SUPV_IRQ_EN, 5, 5⟩
@[reducible] def SUPV_IRQ_EN_MIC_FAULT : RegField := ⟨SUPV_IRQ_EN, 4, 4⟩
@[reducible] def SUPV_IRQ_EN_LINE_CLEAR : RegField := ⟨SUPV_IRQ_EN, 3, 3⟩
@[reducible] def SUPV_IRQ_EN_LINE_FAULT : RegField := ⟨SUPV_IRQ_EN, 2, 2⟩
@[reducible] def SUPV_IRQ_EN_LEARN_DONE : RegField := ⟨SUPV_IRQ_EN, 1, 1⟩
@[reducible] def SUPV_IRQ_EN_SWEEP_DONE : RegField := ⟨SUPV_IRQ_EN, 0, 0⟩
@[reducible] def SUPV_THR_SHORT_PCT : RegField := ⟨SUPV_THR, 31, 24⟩
@[reducible] def SUPV_THR_LO_PCT : RegField := ⟨SUPV_THR, 23, 16⟩
@[reducible] def SUPV_THR_HI_PCT : RegField := ⟨SUPV_THR, 15, 8⟩
@[reducible] def SUPV_THR_OPEN_X : RegField := ⟨SUPV_THR, 7, 0⟩
@[reducible] def SUPV_TIME_SWEEP_S : RegField := ⟨SUPV_TIME, 31, 16⟩
@[reducible] def SUPV_TIME_CONFIRM : RegField := ⟨SUPV_TIME, 10, 8⟩
@[reducible] def SUPV_TIME_CLEAR : RegField := ⟨SUPV_TIME, 7, 0⟩
@[reducible] def SUPV_LIM_PH_DEG : RegField := ⟨SUPV_LIM, 31, 24⟩
@[reducible] def SUPV_LIM_V_FLOOR : RegField := ⟨SUPV_LIM, 23, 16⟩
@[reducible] def SUPV_LIM_I_FLOOR : RegField := ⟨SUPV_LIM, 15, 8⟩
@[reducible] def SUPV_LIM_TI_LOW : RegField := ⟨SUPV_LIM, 6, 0⟩
@[reducible] def SUPV_DEM_SEQ_SEQ : RegField := ⟨SUPV_DEM_SEQ, 31, 0⟩
@[reducible] def SUPV_LINE_CFG_EN (i : Nat) : RegField := ⟨SUPV_LINE_CFG i, 31, 31⟩
@[reducible] def SUPV_LINE_CFG_BB_EN (i : Nat) : RegField := ⟨SUPV_LINE_CFG i, 30, 30⟩
@[reducible] def SUPV_LINE_CFG_V_SLOT (i : Nat) : RegField := ⟨SUPV_LINE_CFG i, 25, 13⟩
@[reducible] def SUPV_LINE_CFG_I_SLOT (i : Nat) : RegField := ⟨SUPV_LINE_CFG i, 12, 0⟩
@[reducible] def SUPV_LINE_Z0_PH0 (i : Nat) : RegField := ⟨SUPV_LINE_Z0 i, 31, 24⟩
@[reducible] def SUPV_LINE_Z0_Z0 (i : Nat) : RegField := ⟨SUPV_LINE_Z0 i, 23, 0⟩
@[reducible] def SUPV_LINE_Z_PHASE (i : Nat) : RegField := ⟨SUPV_LINE_Z i, 31, 24⟩
@[reducible] def SUPV_LINE_Z_Z (i : Nat) : RegField := ⟨SUPV_LINE_Z i, 23, 0⟩
@[reducible] def SUPV_LINE_STAT_STATE (i : Nat) : RegField := ⟨SUPV_LINE_STAT i, 31, 28⟩
@[reducible] def SUPV_LINE_STAT_CAND (i : Nat) : RegField := ⟨SUPV_LINE_STAT i, 27, 24⟩
@[reducible] def SUPV_LINE_STAT_RUN (i : Nat) : RegField := ⟨SUPV_LINE_STAT i, 23, 20⟩
@[reducible] def SUPV_LINE_STAT_SRC (i : Nat) : RegField := ⟨SUPV_LINE_STAT i, 16, 16⟩
@[reducible] def SUPV_LINE_STAT_BAND_MAP (i : Nat) : RegField := ⟨SUPV_LINE_STAT i, 15, 8⟩
@[reducible] def SUPV_LINE_STAT_VLVL (i : Nat) : RegField := ⟨SUPV_LINE_STAT i, 7, 0⟩
@[reducible] def SUPV_MIC_CFG_EN (i : Nat) : RegField := ⟨SUPV_MIC_CFG i, 31, 31⟩
@[reducible] def SUPV_MIC_CFG_CHECKS (i : Nat) : RegField := ⟨SUPV_MIC_CFG i, 30, 27⟩
@[reducible] def SUPV_MIC_CFG_LINE (i : Nat) : RegField := ⟨SUPV_MIC_CFG i, 24, 16⟩
@[reducible] def SUPV_MIC_CFG_SLOT (i : Nat) : RegField := ⟨SUPV_MIC_CFG i, 12, 0⟩
@[reducible] def SUPV_MIC_LVL_FLOOR (i : Nat) : RegField := ⟨SUPV_MIC_LVL i, 31, 24⟩
@[reducible] def SUPV_MIC_LVL_PFLOOR (i : Nat) : RegField := ⟨SUPV_MIC_LVL i, 23, 16⟩
@[reducible] def SUPV_MIC_LVL_MS_DB (i : Nat) : RegField := ⟨SUPV_MIC_LVL i, 15, 8⟩
@[reducible] def SUPV_MIC_LVL_PILOT_DB (i : Nat) : RegField := ⟨SUPV_MIC_LVL i, 7, 0⟩
@[reducible] def SUPV_MIC_STAT_STATE (i : Nat) : RegField := ⟨SUPV_MIC_STAT i, 31, 28⟩
@[reducible] def SUPV_MIC_STAT_PERIODS (i : Nat) : RegField := ⟨SUPV_MIC_STAT i, 15, 0⟩
@[reducible] def SUPV_TI_CFG_EN (i : Nat) : RegField := ⟨SUPV_TI_CFG i, 31, 31⟩
@[reducible] def SUPV_TI_CFG_MIC_SLOT (i : Nat) : RegField := ⟨SUPV_TI_CFG i, 25, 13⟩
@[reducible] def SUPV_TI_CFG_REF_SLOT (i : Nat) : RegField := ⟨SUPV_TI_CFG i, 12, 0⟩
@[reducible] def SUPV_TI_VAL_VALID (i : Nat) : RegField := ⟨SUPV_TI_VAL i, 31, 31⟩
@[reducible] def SUPV_TI_VAL_LOWMOD (i : Nat) : RegField := ⟨SUPV_TI_VAL i, 30, 30⟩
@[reducible] def SUPV_TI_VAL_NOREF (i : Nat) : RegField := ⟨SUPV_TI_VAL i, 29, 29⟩
@[reducible] def SUPV_TI_VAL_NOMIC (i : Nat) : RegField := ⟨SUPV_TI_VAL i, 28, 28⟩
@[reducible] def SUPV_TI_VAL_CELLS (i : Nat) : RegField := ⟨SUPV_TI_VAL i, 23, 16⟩
@[reducible] def SUPV_TI_VAL_LAG (i : Nat) : RegField := ⟨SUPV_TI_VAL i, 15, 10⟩
@[reducible] def SUPV_TI_VAL_TI (i : Nat) : RegField := ⟨SUPV_TI_VAL i, 6, 0⟩
@[reducible] def SUPV_NC_CFG_EN (i : Nat) : RegField := ⟨SUPV_NC_CFG i, 31, 31⟩
@[reducible] def SUPV_NC_CFG_MODE (i : Nat) : RegField := ⟨SUPV_NC_CFG i, 30, 30⟩
@[reducible] def SUPV_NC_CFG_MAXB (i : Nat) : RegField := ⟨SUPV_NC_CFG i, 23, 16⟩
@[reducible] def SUPV_NC_CFG_SLOPE (i : Nat) : RegField := ⟨SUPV_NC_CFG i, 15, 8⟩
@[reducible] def SUPV_NC_CFG_THR (i : Nat) : RegField := ⟨SUPV_NC_CFG i, 7, 0⟩
@[reducible] def SUPV_NC_STAT_AMB (i : Nat) : RegField := ⟨SUPV_NC_STAT i, 31, 24⟩
@[reducible] def SUPV_NC_STAT_BOOST (i : Nat) : RegField := ⟨SUPV_NC_STAT i, 15, 8⟩
@[reducible] def TRUST_LC_LC : RegField := ⟨TRUST_LC, 31, 30⟩
@[reducible] def TRUST_LC_EPOCH : RegField := ⟨TRUST_LC, 29, 28⟩
@[reducible] def TRUST_LC_STK_OK : RegField := ⟨TRUST_LC, 27, 27⟩
@[reducible] def TRUST_LC_SECRETS_ERASED : RegField := ⟨TRUST_LC, 26, 26⟩
@[reducible] def TRUST_LC_DEBUG_OPEN : RegField := ⟨TRUST_LC, 25, 25⟩
@[reducible] def TRUST_LC_KEYS_OK : RegField := ⟨TRUST_LC, 24, 24⟩
@[reducible] def TRUST_BOOT_PATH : RegField := ⟨TRUST_BOOT, 31, 30⟩
@[reducible] def TRUST_BOOT_GOLDEN : RegField := ⟨TRUST_BOOT, 29, 29⟩
@[reducible] def TRUST_BOOT_UNCONF : RegField := ⟨TRUST_BOOT, 28, 28⟩
@[reducible] def TRUST_BOOT_SLOT : RegField := ⟨TRUST_BOOT, 27, 27⟩
@[reducible] def TRUST_BOOT_TRIAL : RegField := ⟨TRUST_BOOT, 26, 26⟩
@[reducible] def TRUST_BOOT_BOOT_CNT : RegField := ⟨TRUST_BOOT, 15, 0⟩
@[reducible] def TRUST_SLOTS_SKN_A : RegField := ⟨TRUST_SLOTS, 31, 29⟩
@[reducible] def TRUST_SLOTS_SKN_B : RegField := ⟨TRUST_SLOTS, 28, 26⟩
@[reducible] def TRUST_SLOTS_FW_A : RegField := ⟨TRUST_SLOTS, 25, 24⟩
@[reducible] def TRUST_SLOTS_FW_B : RegField := ⟨TRUST_SLOTS, 23, 22⟩
@[reducible] def TRUST_SLOTS_GOLD : RegField := ⟨TRUST_SLOTS, 21, 20⟩
@[reducible] def TRUST_SLOTS_REASON : RegField := ⟨TRUST_SLOTS, 3, 0⟩
@[reducible] def TRUST_EVT_PRIV_VIOL : RegField := ⟨TRUST_EVT, 6, 6⟩
@[reducible] def TRUST_EVT_LOG_WEAR : RegField := ⟨TRUST_EVT, 5, 5⟩
@[reducible] def TRUST_EVT_KEYS_FAIL : RegField := ⟨TRUST_EVT, 4, 4⟩
@[reducible] def TRUST_EVT_TRIAL_FAIL : RegField := ⟨TRUST_EVT, 3, 3⟩
@[reducible] def TRUST_EVT_ACTIVATED : RegField := ⟨TRUST_EVT, 2, 2⟩
@[reducible] def TRUST_EVT_SKN_REFUSED : RegField := ⟨TRUST_EVT, 1, 1⟩
@[reducible] def TRUST_EVT_CAP_DONE : RegField := ⟨TRUST_EVT, 0, 0⟩
@[reducible] def TRUST_IRQ_EN_PRIV_VIOL : RegField := ⟨TRUST_IRQ_EN, 6, 6⟩
@[reducible] def TRUST_IRQ_EN_LOG_WEAR : RegField := ⟨TRUST_IRQ_EN, 5, 5⟩
@[reducible] def TRUST_IRQ_EN_KEYS_FAIL : RegField := ⟨TRUST_IRQ_EN, 4, 4⟩
@[reducible] def TRUST_IRQ_EN_TRIAL_FAIL : RegField := ⟨TRUST_IRQ_EN, 3, 3⟩
@[reducible] def TRUST_IRQ_EN_ACTIVATED : RegField := ⟨TRUST_IRQ_EN, 2, 2⟩
@[reducible] def TRUST_IRQ_EN_SKN_REFUSED : RegField := ⟨TRUST_IRQ_EN, 1, 1⟩
@[reducible] def TRUST_IRQ_EN_CAP_DONE : RegField := ⟨TRUST_IRQ_EN, 0, 0⟩
@[reducible] def TRUST_CAP_CTL_GO : RegField := ⟨TRUST_CAP_CTL, 0, 0⟩
@[reducible] def TRUST_CAP_STAT_BUSY : RegField := ⟨TRUST_CAP_STAT, 31, 31⟩
@[reducible] def TRUST_CAP_STAT_AGENT : RegField := ⟨TRUST_CAP_STAT, 28, 24⟩
@[reducible] def TRUST_CAP_STAT_KIND : RegField := ⟨TRUST_CAP_STAT, 23, 16⟩
@[reducible] def TRUST_CAP_STAT_RESULT : RegField := ⟨TRUST_CAP_STAT, 3, 0⟩
@[reducible] def TRUST_ATT_CTL_DONE : RegField := ⟨TRUST_ATT_CTL, 31, 31⟩
@[reducible] def TRUST_ATT_CTL_GO : RegField := ⟨TRUST_ATT_CTL, 0, 0⟩
@[reducible] def TRUST_SVN_SKN : RegField := ⟨TRUST_SVN, 31, 24⟩
@[reducible] def TRUST_SVN_S2 : RegField := ⟨TRUST_SVN, 15, 12⟩
@[reducible] def TRUST_SVN_WDN : RegField := ⟨TRUST_SVN, 11, 8⟩
@[reducible] def TRUST_SVN_NET : RegField := ⟨TRUST_SVN, 7, 4⟩
@[reducible] def TRUST_SVN_SEQ : RegField := ⟨TRUST_SVN, 3, 0⟩
@[reducible] def TRUST_FL_STAT_BUSY : RegField := ⟨TRUST_FL_STAT, 31, 31⟩
@[reducible] def TRUST_FL_STAT_ERR : RegField := ⟨TRUST_FL_STAT, 30, 30⟩
@[reducible] def TRUST_FL_STAT_SUSP : RegField := ⟨TRUST_FL_STAT, 29, 29⟩
@[reducible] def TRUST_FL_STAT_AGENT : RegField := ⟨TRUST_FL_STAT, 4, 0⟩
@[reducible] def TRUST_LOG_STAT_HEAD : RegField := ⟨TRUST_LOG_STAT, 29, 24⟩
@[reducible] def TRUST_LOG_STAT_ERASE_MAX : RegField := ⟨TRUST_LOG_STAT, 23, 0⟩
@[reducible] def HEALTH_EVT_EOL_1Y : RegField := ⟨HEALTH_EVT, 6, 6⟩
@[reducible] def HEALTH_EVT_EOL_5Y : RegField := ⟨HEALTH_EVT, 5, 5⟩
@[reducible] def HEALTH_EVT_EM_OPEN : RegField := ⟨HEALTH_EVT, 4, 4⟩
@[reducible] def HEALTH_EVT_SUPPLY : RegField := ⟨HEALTH_EVT, 3, 3⟩
@[reducible] def HEALTH_EVT_ECC_RATE : RegField := ⟨HEALTH_EVT, 2, 2⟩
@[reducible] def HEALTH_EVT_HUB_TRIP : RegField := ⟨HEALTH_EVT, 1, 1⟩
@[reducible] def HEALTH_EVT_CD_TRIP : RegField := ⟨HEALTH_EVT, 0, 0⟩
@[reducible] def HEALTH_IRQ_EN_EOL_1Y : RegField := ⟨HEALTH_IRQ_EN, 6, 6⟩
@[reducible] def HEALTH_IRQ_EN_EOL_5Y : RegField := ⟨HEALTH_IRQ_EN, 5, 5⟩
@[reducible] def HEALTH_IRQ_EN_EM_OPEN : RegField := ⟨HEALTH_IRQ_EN, 4, 4⟩
@[reducible] def HEALTH_IRQ_EN_SUPPLY : RegField := ⟨HEALTH_IRQ_EN, 3, 3⟩
@[reducible] def HEALTH_IRQ_EN_ECC_RATE : RegField := ⟨HEALTH_IRQ_EN, 2, 2⟩
@[reducible] def HEALTH_IRQ_EN_HUB_TRIP : RegField := ⟨HEALTH_IRQ_EN, 1, 1⟩
@[reducible] def HEALTH_IRQ_EN_CD_TRIP : RegField := ⟨HEALTH_IRQ_EN, 0, 0⟩
@[reducible] def HEALTH_TEMP_VALID (i : Nat) : RegField := ⟨HEALTH_TEMP i, 31, 31⟩
@[reducible] def HEALTH_TEMP_MAX (i : Nat) : RegField := ⟨HEALTH_TEMP i, 15, 8⟩
@[reducible] def HEALTH_TEMP_NOW (i : Nat) : RegField := ⟨HEALTH_TEMP i, 7, 0⟩
@[reducible] def HEALTH_EOL_SRC_KIND : RegField := ⟨HEALTH_EOL_SRC, 9, 8⟩
@[reducible] def HEALTH_EOL_SRC_INDEX : RegField := ⟨HEALTH_EOL_SRC, 7, 0⟩
@[reducible] def CL_CTL_ISOLATE (i : Nat) : RegField := ⟨CL_CTL i, 2, 2⟩
@[reducible] def CL_CTL_REINIT (i : Nat) : RegField := ⟨CL_CTL i, 1, 1⟩
@[reducible] def CL_CTL_START (i : Nat) : RegField := ⟨CL_CTL i, 0, 0⟩
@[reducible] def CL_STAT_STATE (i : Nat) : RegField := ⟨CL_STAT i, 31, 29⟩
@[reducible] def CL_STAT_OP (i : Nat) : RegField := ⟨CL_STAT i, 25, 24⟩
@[reducible] def CL_STAT_MIN_OP (i : Nat) : RegField := ⟨CL_STAT i, 23, 22⟩
@[reducible] def CL_STAT_NOM_OP (i : Nat) : RegField := ⟨CL_STAT i, 21, 20⟩
@[reducible] def CL_STAT_WALES (i : Nat) : RegField := ⟨CL_STAT i, 19, 18⟩
@[reducible] def CL_STAT_REINIT_CNT (i : Nat) : RegField := ⟨CL_STAT i, 15, 8⟩
@[reducible] def CL_STAT_FAULT_MAP (i : Nat) : RegField := ⟨CL_STAT i, 7, 0⟩
@[reducible] def CL_EVT_ABI_REJ (i : Nat) : RegField := ⟨CL_EVT i, 6, 6⟩
@[reducible] def CL_EVT_LC_UE (i : Nat) : RegField := ⟨CL_EVT i, 5, 5⟩
@[reducible] def CL_EVT_DMA_LATE (i : Nat) : RegField := ⟨CL_EVT i, 4, 4⟩
@[reducible] def CL_EVT_WCC_EXCEED (i : Nat) : RegField := ⟨CL_EVT i, 3, 3⟩
@[reducible] def CL_EVT_BUDGET (i : Nat) : RegField := ⟨CL_EVT i, 2, 2⟩
@[reducible] def CL_EVT_FAULT (i : Nat) : RegField := ⟨CL_EVT i, 1, 1⟩
@[reducible] def CL_EVT_OVF (i : Nat) : RegField := ⟨CL_EVT i, 0, 0⟩
@[reducible] def CL_IRQ_EN_ABI_REJ (i : Nat) : RegField := ⟨CL_IRQ_EN i, 6, 6⟩
@[reducible] def CL_IRQ_EN_LC_UE (i : Nat) : RegField := ⟨CL_IRQ_EN i, 5, 5⟩
@[reducible] def CL_IRQ_EN_DMA_LATE (i : Nat) : RegField := ⟨CL_IRQ_EN i, 4, 4⟩
@[reducible] def CL_IRQ_EN_WCC_EXCEED (i : Nat) : RegField := ⟨CL_IRQ_EN i, 3, 3⟩
@[reducible] def CL_IRQ_EN_BUDGET (i : Nat) : RegField := ⟨CL_IRQ_EN i, 2, 2⟩
@[reducible] def CL_IRQ_EN_FAULT (i : Nat) : RegField := ⟨CL_IRQ_EN i, 1, 1⟩
@[reducible] def CL_IRQ_EN_OVF (i : Nat) : RegField := ⟨CL_IRQ_EN i, 0, 0⟩
@[reducible] def CL_OVF_OVG (i : Nat) : RegField := ⟨CL_OVF i, 15, 8⟩
@[reducible] def CL_OVF_SAT (i : Nat) : RegField := ⟨CL_OVF i, 7, 0⟩
@[reducible] def CL_OVF_STK_OVG (i : Nat) : RegField := ⟨CL_OVF_STK i, 15, 8⟩
@[reducible] def CL_OVF_STK_SAT (i : Nat) : RegField := ⟨CL_OVF_STK i, 7, 0⟩
@[reducible] def CL_ABI_MAX (i : Nat) : RegField := ⟨CL_ABI i, 15, 8⟩
@[reducible] def CL_ABI_MIN (i : Nat) : RegField := ⟨CL_ABI i, 7, 0⟩
@[reducible] def CL_ABI_REJ_VALID (i : Nat) : RegField := ⟨CL_ABI_REJ i, 31, 31⟩
@[reducible] def CL_ABI_REJ_STAKE (i : Nat) : RegField := ⟨CL_ABI_REJ i, 26, 24⟩
@[reducible] def CL_ABI_REJ_LEVEL (i : Nat) : RegField := ⟨CL_ABI_REJ i, 23, 16⟩
@[reducible] def CL_ABI_REJ_PROG_ID (i : Nat) : RegField := ⟨CL_ABI_REJ i, 15, 0⟩
@[reducible] def CL_DIG_LO_VALUE (i : Nat) : RegField := ⟨CL_DIG_LO i, 31, 0⟩
@[reducible] def CL_DIG_HI_VALUE (i : Nat) : RegField := ⟨CL_DIG_HI i, 31, 0⟩
@[reducible] def CL_DIG_RND_VALUE (i : Nat) : RegField := ⟨CL_DIG_RND i, 31, 0⟩
@[reducible] def CL_START_RND_VALUE (i : Nat) : RegField := ⟨CL_START_RND i, 31, 0⟩
@[reducible] def CL_DMA_COUNT (i : Nat) : RegField := ⟨CL_DMA i, 28, 19⟩
@[reducible] def CL_DMA_ADDR (i : Nat) : RegField := ⟨CL_DMA i, 18, 0⟩
@[reducible] def CL_DMA_STAT_LATE_CNT (i : Nat) : RegField := ⟨CL_DMA_STAT i, 31, 16⟩
@[reducible] def CL_DMA_STAT_UE_CNT (i : Nat) : RegField := ⟨CL_DMA_STAT i, 15, 0⟩
@[reducible] def CL_SCHED_EN (i : Nat) (j : Nat) : RegField := ⟨CL_SCHED i j, 31, 31⟩
@[reducible] def CL_SCHED_WALE (i : Nat) (j : Nat) : RegField := ⟨CL_SCHED i j, 30, 29⟩
@[reducible] def CL_SCHED_DIG_CNT (i : Nat) (j : Nat) : RegField := ⟨CL_SCHED i j, 23, 14⟩
@[reducible] def CL_SCHED_ENTRY (i : Nat) (j : Nat) : RegField := ⟨CL_SCHED i j, 12, 0⟩
@[reducible] def CL_WCC_WCC (i : Nat) (j : Nat) (k : Nat) : RegField := ⟨CL_WCC i j k, 18, 0⟩
@[reducible] def REG_OP_NOM_OP (i : Nat) : RegField := ⟨REG_OP i, 5, 4⟩
@[reducible] def REG_OP_MIN_OP (i : Nat) : RegField := ⟨REG_OP i, 3, 2⟩
@[reducible] def REG_OP_OP (i : Nat) : RegField := ⟨REG_OP i, 1, 0⟩
@[reducible] def REG_THR_TH_CRIT (i : Nat) : RegField := ⟨REG_THR i, 23, 16⟩
@[reducible] def REG_THR_TH_HI (i : Nat) : RegField := ⟨REG_THR i, 15, 8⟩
@[reducible] def REG_THR_TH_LO (i : Nat) : RegField := ⟨REG_THR i, 7, 0⟩
@[reducible] def REG_TEMP_TMAX (i : Nat) : RegField := ⟨REG_TEMP i, 7, 0⟩
@[reducible] def REG_LINK_BYTES (i : Nat) : RegField := ⟨REG_LINK i, 31, 0⟩
@[reducible] def REG_EVT_CRIT (i : Nat) : RegField := ⟨REG_EVT i, 3, 3⟩
@[reducible] def REG_EVT_AT_MIN (i : Nat) : RegField := ⟨REG_EVT i, 2, 2⟩
@[reducible] def REG_EVT_UP (i : Nat) : RegField := ⟨REG_EVT i, 1, 1⟩
@[reducible] def REG_EVT_DOWN (i : Nat) : RegField := ⟨REG_EVT i, 0, 0⟩
@[reducible] def REG_IRQ_EN_CRIT (i : Nat) : RegField := ⟨REG_IRQ_EN i, 3, 3⟩
@[reducible] def REG_IRQ_EN_AT_MIN (i : Nat) : RegField := ⟨REG_IRQ_EN i, 2, 2⟩
@[reducible] def REG_IRQ_EN_UP (i : Nat) : RegField := ⟨REG_IRQ_EN i, 1, 1⟩
@[reducible] def REG_IRQ_EN_DOWN (i : Nat) : RegField := ⟨REG_IRQ_EN i, 0, 0⟩
@[reducible] def STK_STAT_FAULT (i : Nat) (j : Nat) : RegField := ⟨STK_STAT i j, 31, 28⟩
@[reducible] def STK_STAT_RUNST (i : Nat) (j : Nat) : RegField := ⟨STK_STAT i j, 23, 22⟩
@[reducible] def STK_STAT_ROVG (i : Nat) (j : Nat) : RegField := ⟨STK_STAT i j, 21, 21⟩
@[reducible] def STK_STAT_RSAT (i : Nat) (j : Nat) : RegField := ⟨STK_STAT i j, 20, 20⟩
@[reducible] def STK_STAT_RACCV (i : Nat) (j : Nat) : RegField := ⟨STK_STAT i j, 19, 19⟩
@[reducible] def STK_STAT_ENTRY (i : Nat) (j : Nat) : RegField := ⟨STK_STAT i j, 12, 0⟩
@[reducible] def STK_PC_PC (i : Nat) (j : Nat) : RegField := ⟨STK_PC i j, 12, 0⟩
@[reducible] def STK_CYC_CYC (i : Nat) (j : Nat) : RegField := ⟨STK_CYC i j, 18, 0⟩
@[reducible] def STK_CYC_MAX_CLR (i : Nat) (j : Nat) : RegField := ⟨STK_CYC_MAX i j, 31, 31⟩
@[reducible] def STK_CYC_MAX_MAX (i : Nat) (j : Nat) : RegField := ⟨STK_CYC_MAX i j, 18, 0⟩
@[reducible] def STK_ST_ST (i : Nat) (j : Nat) : RegField := ⟨STK_ST i j, 31, 0⟩

end Reg

end Sys2Proof.Machine
end

