-- ==== Sys2Proof/Machine/State/Link.lean ====
section
/-! DEFINITION. Machine/State/Link.lean: the Lysle link (spec/13_manager_and_workers.md). -/
namespace Sys2Proof.Machine

/-- A Lysle link message sent, and where it asks for one kept until it is acknowledged (R385): type, destination node,
SEQ, body, the instant it was last sent and how often it has been sent again. -/
structure OutMsg where
  ty : Nat
  dst : Nat
  seq : Nat
  body : List Nat
  since : Nat
  tries : Nat
deriving DecidableEq, Repr

/-- An admission held by the manager (R391, R393): node, source address, ADM, since when, LEASE in seconds, and the
node's last HELLO nonce. -/
structure Adm where
  node : Nat
  mac : Nat
  adm : Nat
  since : Nat
  lease : Nat
  hello : Nat
deriving DecidableEq, Repr

/-- An admission in progress (R390): node, address, nonce and instant of ATTEST_REQ, HELLO nonce. -/
structure Trying where
  node : Nat
  mac : Nat
  nonce : Nat
  since : Nat
  hello : Nat
deriving DecidableEq, Repr

/-- This node's own admission: ADM, LEASE and since when. -/
structure OwnAdm where
  adm : Nat
  lease : Nat
  since : Nat
deriving DecidableEq, Repr

/-- A zone command that this node has queued (R404): TAG, DUE, its actions, and those with each outcome. -/
structure ZoneDone where
  tag : Nat
  due : Nat
  total : Nat
  done : Nat
  late : Nat
  refused : Nat
  discarded : Nat
deriving DecidableEq, Repr

/-- A zone command that the manager follows (R405): the command, the round it was last sent in, and the nodes that have
sent QUEUED and DONE. -/
structure ZoneOut where
  cmd : ZoneCmd
  sent : Nat
  queued : List Nat
  done : List Nat
deriving DecidableEq, Repr

/-- A message that agent 5 holds for a mailbox (R410): its source, RSEQ, payload, instant, and whether it stands in the
mailbox. -/
structure BoxMsg where
  src : Nat
  rseq : Nat
  words : List Word
  since : Nat
  posted : Bool
deriving DecidableEq, Repr

/-- The link: messages waiting for acknowledgement, the last 32 sent, the next SEQ; the active manager as this node
knows it, the highest TERM, the admitted map; the own admission and the last four HELLO nonces; SEQ values and COUNTERs
seen of each source, the next sealing COUNTER and the top of its reserved block; and of a manager: whether it is active,
whether it still listens, when it started, when it last heard ROLE 1 and last sent a beat, GEN, whether a full copy is
wanted, admissions, those in progress, HELLOs waiting, instants of refusals, when and where each node was last heard,
recent HELLOs, the next ADM and TAG, zone commands as a worker and as the manager; messages of agent 5 by mailbox, those
it has sent, its next RSEQ, and the node and nonce that evidence is being signed for. -/
structure Link where
  out : List OutMsg
  sent : List OutMsg
  seq : Nat
  mgr : Option Nat
  term : Nat
  map : Nat
  own : Option OwnAdm
  nonces : List Nat
  seen : SMap (List Nat)
  windows : SMap (List Nat)
  sealNext : Nat
  sealTop : Nat
  active : Bool
  listening : Bool
  started : Nat
  beatAt : Nat
  beatSent : Nat
  gen : Nat
  wantFull : Bool
  adms : List Adm
  tries : List Trying
  waiting : List LinkFrame
  refused : SMap Nat
  heard : List (Nat × Nat × Nat)
  hellos : List (Nat × Nat)
  nextAdm : Nat
  nextTag : Nat
  zones : List ZoneDone
  zout : List ZoneOut
  boxes : SMap (List BoxMsg)
  boxOut : List (Nat × Nat × Nat)
  rseq : Nat
  attest : Option (Nat × Nat)
deriving DecidableEq, Repr

def Link.init : Link :=
  { out := [], sent := [], seq := 0, mgr := none, term := 0, map := 0, own := none, nonces := [], seen := [],
    windows := [], sealNext := 0, sealTop := 0, active := false, listening := false, started := 0, beatAt := 0,
    beatSent := 0, gen := 0, wantFull := false, adms := [], tries := [], waiting := [], refused := [], heard := [],
    hellos := [], nextAdm := 0, nextTag := 0, zones := [], zout := [], boxes := [], boxOut := [], rseq := 0,
    attest := none }

end Sys2Proof.Machine
end

