-- ==== Sys2Proof/Machine/State/Matrix.lean ====
section
/-! DEFINITION. Machine/State/Matrix.lean: mailboxes and host interfaces beside their registers
(spec/15_matrix_mailboxes_host.md). -/
namespace Sys2Proof.Machine

/-- Staging words by 16 times the agent plus the word, the result of each agent's last send, the instant at which each
mailbox's message was posted, sends to each mailbox, timeouts of the wait for each mailbox's acknowledgement (R469), and
the QSPI target's ERR and what it last drove. -/
structure Matrix where
  stg : SMap Word
  sendStat : SMap Nat
  posted : SMap Nat
  sends : SMap Nat
  waits : SMap Nat
  qspiErr : Bool
  qspiOut : List Byte
deriving DecidableEq, Repr

def Matrix.init : Matrix :=
  { stg := [], sendStat := [], posted := [], sends := [], waits := [], qspiErr := false, qspiOut := [] }

end Sys2Proof.Machine
end

