-- ==== Sys2Proof/Machine/State/Net.lean ====
section
/-! DEFINITION. Machine/State/Net.lean: the network ports beside their registers
(spec/09_network_ports.md). -/
namespace Sys2Proof.Machine

/-- What a frame to be sent is: a stream frame with its context, leg, source round, sequence number, stamp,
R-TAG and samples; a ring frame with its first descriptor, number of descriptors, stamp and checksum
requests and bytes; a PTP frame that firmware makes, by its kind and fields; or a frame given by its bytes. -/
inductive TxBody where
  | stream (ctx leg round seq stamp : Nat) (rtag : Option Nat) (words : List (List Word))
  | ring (first count : Nat) (stamp csum : Bool) (bytes : List Byte)
  | firmware (kind : Nat) (fields : List Int)
  | plain (bytes : List Byte)
deriving DecidableEq, Repr

/-- A frame in a transmit queue (R260): its length, EtherType, content, and whether it has been counted in
TX_HELD. -/
structure TxFrame where
  len : Nat
  etype : Nat
  body : TxBody
  held : Bool
deriving DecidableEq, Repr

/-- A frame on its way to a receive ring (R258): ring, descriptor fields, bytes, and when its last byte arrived. -/
structure RxFrame where
  ring : Nat
  port : Nat
  csum : Nat
  seq : Nat
  stamp : Int
  round : Nat
  bytes : List Byte
  at_ : Nat
deriving DecidableEq, Repr

/-- One port: its eight queues, the frame last started and when the line is free, the start and end of a pause
with the address it came from and the instant until which PAUSE frames are ignored, the start of the gate entry in force, whether the gates
are in force, the boundary at which a commit swaps, receive frames waiting for memory, the stream contexts that are
blocked, failed attempts at the configured speed with the instant of the present one, and
since when every queue is empty. -/
structure NetPort where
  queues : SMap (List TxFrame)
  wire : Option TxFrame
  free : Nat
  pause : Option (Nat × Nat)
  pauseSrc : Nat
  deaf : Nat
  entryAt : Nat
  gates : Bool
  swapDue : Option Nat
  fifo : List RxFrame
  blocked : List Nat
  tries : Nat
  tryAt : Nat
  idle : Nat
deriving DecidableEq, Repr

/-- An entry of the quarantine table (R280): the source, its port, for each class the start of its window and
its count, and the end of its quarantine. -/
structure Source where
  addr : Nat
  port : Nat
  wins : List (Nat × Nat × Nat)
  quar : Option Nat
deriving DecidableEq, Repr

/-- The network: ports, the quarantine table, the entries written to the violation log up to its size, the
top of the block of packet numbers reserved for each transmit association, by port and AN (R388), and the port that entered
each receive ring last (R273). -/
structure Net where
  ports : SMap NetPort
  table : SMap (Option Source)
  logged : Nat
  pnTop : SMap Nat
  won : SMap Nat
deriving DecidableEq, Repr

def Net.init : Net := { ports := [], table := [], logged := 0, pnTop := [], won := [] }

end Sys2Proof.Machine
end

