-- ==== Sys2Proof/Machine/State/Ports.lean ====
section
/-! DEFINITION. Machine/State/Ports.lean: the audio ports beside their registers
(spec/08_audio_ports.md). -/
namespace Sys2Proof.Machine

/-- An input (R219, R221, R222): its port gain and ramp, whether it is lost, fading or ramping in, whether
frames arrive, since when clock and format have been correct, a return that waits, the retiming delay d0,
a slip whose new choice waits, whether the next return chooses a new delay, whether the delay has left its range, the last
frame, and the bit clocks of a TDM frame. -/
structure Input where
  gain : Nat
  ramp : Option Ramp
  lost : Bool
  fading : Bool
  ramping : Bool
  clk : Bool
  good : Option Nat
  ret : Bool
  d0 : Option Nat
  slip : Bool
  renew : Bool
  dead : Bool
  last : List Int
  len : Nat
deriving DecidableEq, Repr

/-- The gain of a receive slot after a mask change (R230): a frame of zero still to come, and the ramp. -/
structure SlotGain where
  zero : Bool
  gain : Nat
  ramp : Option Ramp
deriving DecidableEq, Repr

/-- The transmit side of a TDM port: its lead e0, its gain and ramp, whether its clock has been lost since it last sent
(R224), a slip whose new choice waits and whether the lead has left its range (R219), the frame last shifted out, a word a
slot, none for a slot at high impedance, the level of SD1 by bit clock from the frame start with the bit that runs on into
the next frame (R225), whether the bits change at rising edges, and the frame sync that a MASTER drives. -/
structure TxSide where
  e0 : Option Nat
  gain : Nat
  ramp : Option Ramp
  off : Bool
  slip : Bool
  dead : Bool
  wire : List (Option Word)
  line : List (Option Bool)
  carry : Option Bool
  rise : Bool
  fs : List Bool
deriving DecidableEq, Repr

/-- A PDM microphone (R233): samples of zero still to deliver, none while it delivers nothing, and its ramp. -/
structure PdmMic where
  on : Bool
  wait : Nat
  gain : Nat
  ramp : Option Ramp
deriving DecidableEq, Repr

/-- What an AES3 input counts (R234): good frames in a row, subframes with a violation in the present block, and the instant
of its last frame. -/
structure AesRx where
  run : Nat
  viol : Nat
  at_ : Nat
deriving DecidableEq, Repr

/-- The frame an AES3 output last sent (R237): two 24-bit words, the channel status bit of each subframe, and
whether it began with a Z preamble. -/
structure AesFrame where
  a : BitVec 24
  b : BitVec 24
  ca : Bool
  cb : Bool
  z : Bool
deriving DecidableEq, Repr

/-- The ports: inputs, receive slot gains, those of the samples deposited, the receive masks of TDM frames in progress where
a commit has replaced them, transmit sides, a start pending from the trigger with the ports it
starts (0 to 31 TDM, 32 PDM, 33 + o AES3 outputs), TDM ports that start at the next boundary after Rim, a reset or step 2,
inputs that step 2 stops there (R246, R247), running PDM clocks with the instants they started and those
past WAKE, microphones, lines of steady density (ones, bits, the first sample that shows it), what AES3 inputs count,
validity runs of AES3 subframes (V = 1, V = 0), running AES3 outputs with their
frames, the TRIG_OUT pulse in progress, whether the pulse of OUT_MODE 0b01 is still to come, and the slips of TDM ports within the last 10 s (R247), each
with its instant. -/
structure Ports where
  inputs : SMap Input
  slots : SMap SlotGain
  gains : SMap Nat
  masks : SMap Word
  tx : SMap TxSide
  startPend : Option (Nat × List Nat)
  back : List Nat
  halt : List Nat
  pdmRun : Bool
  clocks : List (Nat × Nat)
  awake : List Nat
  mics : SMap PdmMic
  dens : SMap (Nat × Nat × Nat)
  aesRx : SMap AesRx
  valid : SMap (Nat × Nat)
  aesRun : List Nat
  aesOut : SMap AesFrame
  trigOut : Bool
  trigOnce : Bool
  slips : List (Nat × Nat)
deriving DecidableEq, Repr

/-- The ports with nothing running. -/
def Ports.init : Ports :=
  { inputs := [], slots := [], gains := [], masks := [], tx := [], startPend := none, back := [], halt := [], pdmRun := false,
    clocks := [], awake := [], mics := [], dens := [], aesRx := [], valid := [], aesRun := [], aesOut := [], trigOut := false, trigOnce := false, slips := [] }


end Sys2Proof.Machine
end

