-- ==== Sys2Proof/Machine/State/Power.lean ====
section
/-! DEFINITION. Machine/State/Power.lean: power states, wake and recovery
(spec/16_power_health_recovery.md). -/
namespace Sys2Proof.Machine

/-- An access that waits for its sleeping domain (R458, R491): master port, fabric address, direction,
size in bytes, word, and the instant it began. -/
structure Stall where
  agent : Nat
  addr : Nat
  write : Bool
  size : Nat
  data : Word
  since : Nat
deriving DecidableEq, Repr

/-- A handshake (R483 to R485): its target and prior state, the clusters it gates, the participants that
have accepted, the one being asked and since when (or since when a backoff runs; none is asked before the boundary at which gating starts), the participants that an access makes refuse
(R488), and whether a wake event was latched meanwhile (R487). -/
structure Hand where
  target : Nat
  prior : Nat
  gate : Nat
  accepted : List Nat
  asked : Option Nat
  at_ : Nat
  demand : List Nat
  woken : Bool
deriving DecidableEq, Repr

/-- One step-2 action of the ladder (R503): function, unit and instant. -/
structure Step2 where
  func : Nat
  unit : Nat
  at_ : Nat
deriving DecidableEq, Repr

/-- A frame latched by the Rim wake filter (R493): the port and the frame. -/
structure WakeFrame where
  port : Nat
  frame : NetFrame
deriving DecidableEq, Repr

/-- A monitor or canary as it ages (R498, R499): equivalent hours in units of 2^-48, since when they run on, the readings of the
last 24 h, the samples and sums of the fit, and the equivalent hours at which a canary opened. -/
structure AgeCell where
  teq : Nat
  last : Option Nat
  temps : List Int
  n : Nat
  dd : Int
  dx : Int
  xx : Int
  opened : Option Nat
deriving DecidableEq, Repr

def AgeCell.init : AgeCell := { teq := 0, last := none, temps := [], n := 0, dd := 0, dx := 0, xx := 0, opened := none }

/-- What the Warden keeps for its predictions: the monitors and canaries, when Rim was entered and the last hub reading, the
count of log records at the updates of the last 30 days, and of the NCO word the sum and number of the day's samples, the
days, and the sums of their means. -/
structure Life where
  cells : SMap AgeCell
  rimAt : Option (Nat × Int)
  logHours : List Nat
  daySum : Int
  dayN : Nat
  days : Nat
  sy : Int
  sxy : Int
deriving DecidableEq, Repr

def Life.init : Life := { cells := [], rimAt := none, logHours := [], daySum := 0, dayN := 0, days := 0, sy := 0, sxy := 0 }

/-- Power beside its registers: stalled accesses, domains woken on demand with the instant of the last
access to them, domains that a wake is in progress for with its start (0 to 15 clusters, 16 and 17 compute dies, 18
LPDDR5X), the handshake, the target that a backoff retries, whether the Warden has taken its steps before Rim (R482),
frames of the wake filter, a hub wake in progress, instants of the Warden's resets and of ladder steps,
step 3 and 4 requests accepted from hosts, a reset or cycle that waits for a handshake, the end of a
PWRCYC_N pulse, the regions gated for temperature, whether RST_N is low, the role that the straps gave when reset was last released (R379), whether the Warden runs, the start that Upsett is to make (0 from Off, 1 device reset, 2 from Rim), the instant at which the RTC
counted 0, since when each cluster sensor reads 115 °C, the instants of the last AT_MIN (0), of the last ECC_RATE (1) and of each cluster's last fault (10 + c), the corrected errors of the last hour by counter, whether TEST_EN
read 1 at the last release of RST_N (R521), the instants of power losses that a power cycle asked for (kept by the log), whether the
Warden climbs no higher than step 2 (R503), the clusters that start together after a return from Watch (R156), what the predictions rest on,
what looks wedged, by key, since when and with what it shows (R505), the region whose REG_EVT.CRIT put the machine into Watch and since
when every hub sensor has been below its TH_LO (R496), and the agent of a PWR_RECOV request that waits for the Warden (R506). -/
structure Power where
  stalls : List Stall
  demand : List (Nat × Nat)
  waking : List (Nat × Nat)
  hand : Option Hand
  retry : Option Hand
  prep : Bool
  frames : List WakeFrame
  hubWake : Option Nat
  wdgResets : List Nat
  served : Option Nat
  steps2 : List Step2
  steps3 : List Nat
  hostSteps : List Nat
  waiting : Option Nat
  pcycEnd : Option Nat
  hotRegions : List Nat
  rstLow : Bool
  role : Nat
  wardenUp : Bool
  boot : Option Nat
  rtcAt : Nat
  hotAt : SMap Nat
  marks : SMap Nat
  eccAt : List (Nat × Nat)
  testHold : Bool
  cycleBoots : List Nat
  capped : Bool
  together : List Nat
  life : Life
  watch : List (Nat × Nat × Nat)
  hubHot : Option Nat
  hubCool : Option Nat
  recovBy : Option Nat
deriving DecidableEq, Repr

def Power.init : Power :=
  { stalls := [], demand := [], waking := [], hand := none, retry := none, prep := false, frames := [], hubWake := none,
    wdgResets := [], served := none, steps2 := [], steps3 := [], hostSteps := [], waiting := none, pcycEnd := none,
    hotRegions := [], rstLow := false, role := 3, wardenUp := false, boot := some 0, rtcAt := 0, hotAt := [], marks := [],
    eccAt := [], testHold := false, cycleBoots := [], capped := false, together := [], life := Life.init, watch := [],
    hubHot := none, hubCool := none, recovBy := none }

end Sys2Proof.Machine
end

