-- ==== Sys2Proof/Machine/State/Stake.lean ====
section
/-! DEFINITION. Machine/State/Stake.lean: stakes and clusters (spec/03_stake_programming_model.md,
spec/05_clusters_and_regions.md). -/
namespace Sys2Proof.Machine

/-- An active repeat level (R95): its number, and the first and last address of its block. -/
structure Level where
  n : Nat
  start : Nat
  stop : Nat
deriving DecidableEq, Repr

/-- A store to X or Y that loads do not see yet (R100): its issue cycle, fabric address and word. -/
structure PStore where
  cycle : Nat
  addr : Nat
  data : Word
deriving DecidableEq, Repr

/-- Where a coil load puts its word. -/
inductive CoilDst where
  | reg (i : Nat)
  | acc (n : Nat)
deriving DecidableEq, Repr

/-- What a program can see of a stake (R73), the round copies of R104, the stores of R100, the coil loads whose words
are still to come, each by the issue cycle of its instruction, with nothing younger written to their destinations
(R98), and one more than the issue cycle at which a move into ST meets the last clamp and the last store to a place
that takes none (R104). -/
structure Arch where
  d : SMap Word
  a : SMap Acc
  p : SMap (BitVec 20)
  m : SMap (BitVec 20)
  b : SMap (BitVec 20)
  l : SMap (BitVec 20)
  lc : SMap (BitVec 16)
  st : Word
  pc : Nat
  ret : List Nat
  levels : List Level
  rovg : Bool
  rsat : Bool
  raccv : Bool
  stores : List PStore
  due : List (Nat × CoilDst)
  ovgAt : Nat
  accvAt : Nat
deriving DecidableEq, Repr

/-- A coil access that waits for port A (R133 to R135): the issue cycle of its instruction, the cycle of its request,
its address, a load's destination or a store's word, whether it is the store of an instruction whose load goes before it, and the stake as it stood before the instruction, for COIL_UE. -/
structure CoilReq where
  cycle : Nat
  req : Nat
  addr : Nat
  load : Option CoilDst
  data : Word
  second : Bool
  undo : Arch
deriving DecidableEq, Repr

/-- Run states of a stake (R105). -/
inductive RunSt where
  | held | running | done | stopped
deriving DecidableEq, Repr

/-- A stake: its program-visible state, its run state and status window (R105), the cycle of its next
issue, the cycles from which results may be used (R99), its waiting coil accesses, freezes not yet
passed on to an issue, and the issue cycle of DONE. -/
structure Stake where
  arch : Arch
  run : RunSt
  fault : Nat
  entry : Nat
  lastPc : Nat
  cyc : Nat
  cycLast : Nat
  cycMax : Nat
  stCopy : Word
  hz : SMap Nat
  reqs : List CoilReq
  frz : List (Nat × Nat)
  doneAt : Option Nat
deriving DecidableEq, Repr

/-- A cluster beside its registers: a START waiting for round entry, the wale in progress and the stake cycles from round
entry to its start, 64 of them at most left out for every hand-over (R131), whether the
budget point of the round has passed, the instants of faults within 1 s of RUNNING (R151), the instant
and round at which it last entered RUNNING, whether it faulted in this round, whether a handshake keeps
its stakes from being started (R483) and did so, whether descriptors of its list were left undone in
this round (R142), whether its image is being copied (R150), and whether it has left ISOLATED and waits for REINIT (R151). -/
structure Cluster where
  start : Bool
  wale : Nat
  base : Nat
  budget : Bool
  faults : List Nat
  since : Nat
  round : Nat
  faulted : Bool
  gated : Bool
  missed : Bool
  dmaLate : Bool
  loading : Bool
  parked : Bool
deriving DecidableEq, Repr

/-- A region beside its registers: an operating point change waiting for the next round entry, since
when TMAX has been at or above TH_HI, and at or below TH_LO, and the bytes on its link in this round, to and from
it, beside the Weave's (R159). -/
structure Region where
  pend : Option Nat
  hot : Option Nat
  cool : Option Nat
  linkIn : Nat
  linkOut : Nat
deriving DecidableEq, Repr

/-- Stakes, clusters and regions. -/
structure Compute where
  stakes : SMap Stake
  clusters : SMap Cluster
  regions : SMap Region
deriving DecidableEq, Repr

def Compute.init : Compute := { stakes := [], clusters := [], regions := [] }

end Sys2Proof.Machine
end

