-- ==== Sys2Proof/Machine/State/Time.lean ====
section
/-! DEFINITION. Machine/State/Time.lean: Hoop beside its registers (spec/11_network_time.md). -/
namespace Sys2Proof.Machine

/-- A scheduled action (R343): its eight words with ORIGIN written, whether it came through set H, and
the instant at which it entered the queue. -/
structure Action where
  w : List Word
  setH : Bool
  since : Nat
deriving DecidableEq, Repr

/-- An offset being removed by slewing (R335): since when, at how many ppm, and its amount in 2^-16 ns. -/
structure Slew where
  since : Nat
  ppm : Nat
  amount : Int
deriving DecidableEq, Repr

/-- A muted transition (R337): boundary A, MUTE and RAMP, the offset to remove (2^-16 ns), and the round after which the
outputs are back once the step is made. -/
structure Trans where
  start : Nat
  mute : Nat
  ramp : Nat
  ofs : Int
  stepped : Option Nat
deriving DecidableEq, Repr

/-- A PTP master heard of (R326): its identity and address, port, data set, steps removed, announcements heard and
the instant of the last one. -/
structure Master where
  src : Nat
  mac : Nat
  port : Nat
  prio1 : Nat
  cls : Nat
  acc : Nat
  var_ : Nat
  prio2 : Nat
  gm : Nat
  steps : Nat
  heard : Nat
  last : Nat
deriving DecidableEq, Repr

/-- A stamp in the LYS2 queue of a port (R332): time in 2^-16 ns and sequenceId. -/
structure TsqRec where
  port : Nat
  time : Nat
  seq : Nat
deriving DecidableEq, Repr

/-- A reference beside its registers (R355 to R361): the instant of its last edge and its phase error (0.25 ns),
the start of its unbroken presence, whether it has been disqualified since the last start, the start of its
wait-to-restore, since when its frequency is out of range and since when, distrusted, it has agreed with the
selected one, and when REF_FREQ was last updated. -/
structure RefIn where
  last : Nat
  phase : Option Int
  since : Nat
  again : Bool
  wtr : Nat
  off : Option Nat
  agree : Option Nat
  freqAt : Option Nat
deriving DecidableEq, Repr

/-- A clock output (R371, R372): the configuration and offset in force, and those that take effect at an instant. -/
structure OutPort where
  cfg : Word
  ofs : Word
  next : Option (Word × Word × Nat)
deriving DecidableEq, Repr

/-- The selector beside its registers (R358 to R369, R375): references, outputs, the instants of the last evaluation and the
last change, words of the history by second, whether the loop has locked since the selection, the instant by which the
switch in progress should have ended (R364), and since when the phase error of the reference it is locked to has been above
4 LOCK_NS. -/
structure RefSel where
  refs : SMap RefIn
  outs : SMap OutPort
  evalAt : Nat
  changeAt : Option Nat
  hist : List (Nat × Int)
  locked : Bool
  switchBy : Nat
  farAt : Option Nat
deriving DecidableEq, Repr

/-- Hoop: the offset of time from the clock of the model (2^-16 ns in sixths), a slew in progress, the
servo's filtered offset and mean path delay (2^-16 ns), the samples discarded in a row and the last
samples, runs of samples within LOCK_NS and above 4 LOCK_NS, whether the servo has locked since
power-on, wake or reset, entry to HOLDOVER with its offset, how long a suspect master's samples have
agreed and between which values, the selected master and those heard, the stamps of the last Sync, a transition,
the gain of the outputs, the action queue, records in the completion log up to its size, the LYS2 queues, the RTC period last measured, consecutive
pair skews above 100 ns, and the time and RTC count kept for the way back from Rim or reset. -/
structure Hoop where
  ofs : Int
  slew : Option Slew
  filt : Int
  mpd : Int
  discards : List Int
  recent : List Int
  good : Nat
  bad : Nat
  locked : Bool
  holdAt : Option (Nat × Nat)
  suspect : Option (Nat × Int × Int)
  master : Option Nat
  masters : List Master
  lastSync : Option (Int × Int)
  trans : Option Trans
  outGain : Nat
  outRamp : Option Ramp
  queue : List Action
  doneN : Nat
  tsq : List TsqRec
  rtcPer : Nat
  skews : Nat
  entryTime : Nat
  entryTicks : Nat
deriving DecidableEq, Repr

def RefSel.init : RefSel :=
  { refs := [], outs := [], evalAt := 0, changeAt := none, hist := [], locked := false, switchBy := 0, farAt := none }

/-- Hoop at power-on (R341, R349): time from 0, unity output gain. -/
def Hoop.init : Hoop :=
  { ofs := 0, slew := none, filt := 0, mpd := 0, discards := [], recent := [], good := 0, bad := 0, locked := false,
    holdAt := none, suspect := none, master := none, masters := [], lastSync := none, trans := none,
    outGain := 0x100000, outRamp := none, queue := [], doneN := 0, tsq := [], rtcPer := 0, skews := 0, entryTime := 0,
    entryTicks := 0 }

end Sys2Proof.Machine
end

