-- ==== Sys2Proof/Machine/State.lean ====
section
/-! DEFINITION. Machine/State.lean: everything the spec gives the part. -/
namespace Sys2Proof.Machine

/-- Reasons a step can stop with a fault: none, for every command of the table completes. -/
inductive Fault where
deriving DecidableEq, Repr

/-- Reasons a step can answer without a next state. -/
inductive Refusal where
  /-- Raised by the dispatcher for a command that has no meaning yet: safe. -/
  | notModelled (mnemonic : String)
deriving DecidableEq, Repr

/-- How the last access completed: its error response and the word a read returned (R7, R8). -/
structure Bus where
  err : Bool
  data : Word
deriving DecidableEq, Repr

/-- The event bits set in the fabric cycle of the last one, by register (R5): the cycle, and the bits. -/
structure Events where
  cycle : Nat
  bits : SMap Word
deriving DecidableEq, Repr

/-- The part. `ecc` lists the ECC words of memory that hold an error, each by its first address: uncorrectable, or else of
a single bit (R70, R78, R137). -/
structure State where
  pending : List Instr
  now : Nat
  fv : Nat
  bus : Bus
  events : Events
  regs : SMap Word
  mem : SMap Byte
  ecc : List (Nat × Bool)
  sys : Sys
  weave : Weave
  border : Border
  compute : Compute
  net : Net
  streams : Streams
  pair : Pair
  trust : Trust
  power : Power
  hoop : Hoop
  refsel : RefSel
  alarm : Alarm
  supv : Supv
  skein : Skein
  link : Link
  matrix : Matrix
  ports : Ports
deriving DecidableEq, Repr

/-- The part at power-on from Off with RST_N released: every register at its reset value, memory with nothing listed,
every buffer and queue empty, Upsett about to start (R9, R68, R349, R374, R425). -/
def State.reset : State :=
  { pending := [], now := 0, fv := 0, bus := { err := false, data := 0#32 }, events := { cycle := 0, bits := [] }, regs := [], mem := [], ecc := [],
    sys := Sys.init, weave := Weave.init, border := Border.init, compute := Compute.init, net := Net.init,
    streams := Streams.init, pair := Pair.init, trust := Trust.init, power := Power.init, hoop := Hoop.init,
    refsel := RefSel.init, alarm := Alarm.init, supv := Supv.init, skein := Skein.init, link := Link.init,
    matrix := Matrix.init, ports := Ports.init }

/-- What every command answers. -/
abbrev Out := Host.Outcome State Fault Refusal

end Sys2Proof.Machine
end

