-- ==== Sys2Proof/Machine/Ops.lean ====
section
/-! DEFINITION. Machine/Ops.lean: the named operations over registers, memory and time that every
meaning is written with. -/
namespace Sys2Proof.Machine

/-! ### Registers -/

/-- What a register offset holds (R4: RW, RO and W1C registers read their value). -/
def State.reg (s : State) (a : Nat) : Word := mget regReset s.regs a

/-- A register given a value by hardware. -/
def State.setReg (s : State) (a : Nat) (v : Word) : State := { s with regs := mset regReset s.regs a v }

/-- A register given a number, modulo 2^32. -/
def State.setRegN (s : State) (a : Nat) (v : Nat) : State := s.setReg a (BitVec.ofNat 32 v)

/-- The value of a register field. -/
def State.rf (s : State) (f : RegField) : Nat := bitsOf (s.reg f.reg) f.hi f.lo

/-- A register field given a value. -/
def State.sf (s : State) (f : RegField) (v : Nat) : State := s.setReg f.reg (setBits (s.reg f.reg) f.hi f.lo v)

/-- Whether a one-bit field is 1. -/
def State.flag (s : State) (f : RegField) : Bool := s.rf f == 1

/-- The fabric cycle of an instant: 400 MHz. -/
def cycleAt (now : Nat) : Nat := now / 15

/-- The bits of a register that events set in the present fabric cycle (R5). -/
def State.freshBits (s : State) (a : Nat) : Word :=
  if s.events.cycle = cycleAt s.now then mget (fun _ => 0#32) s.events.bits a else 0#32

/-- Bits of a register noted as set by an event in the present fabric cycle (R5). -/
def State.noteEvent (s : State) (a : Nat) (bits : Word) : State :=
  let l := if s.events.cycle = cycleAt s.now then s.events.bits else []
  { s with events := { cycle := cycleAt s.now, bits := mset (fun _ => 0#32) l a (s.freshBits a ||| bits) } }

/-- A one-bit field set to 1: an event bit, which only software clears (R5). -/
def State.raise (s : State) (f : RegField) : State := (s.sf f 1).noteEvent f.reg (setBits 0#32 f.hi f.lo 1)

/-- A one-bit field given a truth value. -/
def State.setFlag (s : State) (f : RegField) (b : Bool) : State := s.sf f (if b then 1 else 0)

/-- One bit of a register set, an event bit among them. -/
def State.setBit (s : State) (a i : Nat) : State := (s.setReg a (setBits (s.reg a) i i 1)).noteEvent a (setBits 0#32 i i 1)

/-- One bit of a register cleared. -/
def State.clrBit (s : State) (a i : Nat) : State := s.setReg a (setBits (s.reg a) i i 0)

/-- One bit of a register. -/
def State.bit (s : State) (a i : Nat) : Bool := bitAt (s.reg a) i

/-- A field counted up, stopping at its largest value. -/
def State.countUp (s : State) (f : RegField) : State :=
  if s.rf f < 2 ^ (f.hi + 1 - f.lo) - 1 then s.sf f (s.rf f + 1) else s

/-- A field counted up modulo its width. -/
def State.countMod (s : State) (f : RegField) : State := s.sf f (s.rf f + 1)

/-- Every register of a range back at its reset value. -/
def State.clearRegs (s : State) (lo hi : Nat) : State :=
  { s with regs := s.regs.filter fun e => !(Nat.ble lo e.1 && Nat.ble e.1 hi) }

/-! ### The last access -/

/-- The access in progress completes without error and returns a word. -/
def State.ok (s : State) (v : Word) : State := { s with bus := { err := false, data := v } }

/-- The access in progress completes with an error response, reading 0 (R8). -/
def State.err (s : State) : State := { s with bus := { err := true, data := 0#32 } }

/-! ### Memory -/

/-- What a byte of memory that nothing has written reads as: erased flash 0xFF, else 0. -/
def memReset (a : Nat) : Byte := if Nat.ble 0x0400000000 a && Nat.ble a 0x040FFFFFFF then 0xFF#8 else 0#8

/-- One byte of memory. -/
def State.byte (s : State) (a : Nat) : Byte := mget memReset s.mem a

/-- One byte of memory written. -/
def State.setByte (s : State) (a : Nat) (v : Byte) : State := { s with mem := mset memReset s.mem a v }

/-- Bytes written from an address up. -/
def State.setBytes (s : State) (a : Nat) : List Byte → State
  | [] => s
  | b :: t => (s.setByte a b).setBytes (a + 1) t

/-- `n` bytes read from an address up. -/
def State.bytes (s : State) (a : Nat) : Nat → List Byte
  | 0 => []
  | n + 1 => s.byte a :: s.bytes (a + 1) n

/-- A little-endian number of bytes (R3). -/
def leNat : List Byte → Nat
  | [] => 0
  | b :: t => b.toNat + 256 * leNat t

/-- The `n` little-endian bytes of a number (R3). -/
def leBytes (v : Nat) : Nat → List Byte
  | 0 => []
  | n + 1 => BitVec.ofNat 8 v :: leBytes (v / 256) n

/-- A little-endian 32-bit word of memory (R3). -/
def State.word (s : State) (a : Nat) : Word := BitVec.ofNat 32 (leNat (s.bytes a 4))

/-- A little-endian 32-bit word of memory written (R3). -/
def State.setWord (s : State) (a : Nat) (v : Word) : State := s.setBytes a (leBytes v.toNat 4)

/-- A little-endian 64-bit word of memory. -/
def State.dword (s : State) (a : Nat) : Nat := leNat (s.bytes a 8)

/-- Words written from an address up. -/
def State.setWords (s : State) (a : Nat) : List Word → State
  | [] => s
  | w :: t => (s.setWord a w).setWords (a + 4) t

/-- Every byte of a range back at what unwritten memory reads as. -/
def State.clearMem (s : State) (lo hi : Nat) : State :=
  { s with mem := s.mem.filter fun e => !(Nat.ble lo e.1 && Nat.ble e.1 hi) }

/-! ### Time -/

/-- Length of a sample period in units of 1/6 ns (R15). -/
def Sys.period (y : Sys) : Nat := if y.rate96 then 62500 else 125000

/-- Length of a round in units of 1/6 ns. -/
def Sys.roundLen (y : Sys) : Nat := y.n * y.period

/-- Sample rate in Hz (R15). -/
def Sys.rate (y : Sys) : Nat := if y.rate96 then 96000 else 48000

/-- Round parity (R26). -/
def Sys.parity (y : Sys) : Nat := y.roundNo % 2

/-- The round whose boundary is the first at least `lead` after now (R46, R67, R241, R262, R344). -/
def State.boundaryAfter (s : State) (lead : Nat) : Nat :=
  if s.now + lead ≤ s.sys.roundStart + s.sys.roundLen then s.sys.roundNo + 1
  else s.sys.roundNo + 1 + (s.now + lead - s.sys.roundStart - 1) / s.sys.roundLen

/-- The clock moved on to an instant, never back. -/
def State.moveTo (s : State) (t : Nat) : State := { s with now := max s.now t }

/-- 1.0 µs in units of 1/6 ns. -/
def us1 : Nat := 6000

/-- 1 ms in units of 1/6 ns. -/
def ms1 : Nat := 6000000

/-- 1 s in units of 1/6 ns. -/
def sec1 : Nat := 6000000000

/-- Ramp times of R48 in tenths of a millisecond. -/
def rampTenthMs : Nat → Nat
  | 0 => 5 | 1 => 10 | 2 => 20 | 3 => 50 | 4 => 100 | 5 => 200 | 6 => 500 | 7 => 1000
  | 8 => 2000 | 9 => 3000 | 10 => 5000 | 11 => 7000 | 12 => 10000 | 13 => 12000 | 14 => 15000
  | _ => 20000

/-- Ramp length S of R48 in sample periods. -/
def rampLen (rate96 : Bool) (code : Nat) : Nat :=
  rampTenthMs code * (if rate96 then 96 else 48) / 10

/-! ### Free values -/

/-- The next free value, and the state after it has been taken. -/
def State.free (s : State) : Nat × State := (Config.freeValue s.fv, { s with fv := s.fv + 1 })

/-! ### The log -/

/-- Records that a log sector holds after its header, sectors of the log, and the records of one erase of all (R423). -/
def logPerSector : Nat := 1023
def logSectors : Nat := 48

/-- The sector in use, and the highest erase count of a sector: how often the log has come round to it. -/
def State.logHead (s : State) : Nat := s.trust.logSeq / logPerSector % logSectors
def State.logErases (s : State) : Nat := s.trust.logSeq / (logPerSector * logSectors)

/-- A record appended to the log area (R423). The log comes round to its oldest sector once the others are full, which
erases it; past 100,000 erases LOG_WEAR is set. -/
def State.logRec (s : State) (ty : Nat) (data : List Nat) : State :=
  let s := { s with trust := { s.trust with
      log := s.trust.log ++ [⟨ty, s.trust.logSeq, s.sys.roundNo, data⟩], logSeq := s.trust.logSeq + 1 } }
  if 100000 < s.logErases ∧ s.trust.logSeq % logPerSector = 0 then s.raise Reg.TRUST_EVT_LOG_WEAR else s

/-- A privilege violation logged (R445): a record of type 9 with the agent and the address or
operation, and TRUST_EVT.PRIV_VIOL. -/
def State.privViol (s : State) (agent what : Nat) : State :=
  (s.logRec 9 [agent, what]).raise Reg.TRUST_EVT_PRIV_VIOL

/-- A Warden event logged (R423): a record of type 1 with an event code and its data. -/
def State.wardenEvent (s : State) (code : Nat) (data : List Nat) : State := s.logRec 1 (code :: data)

/-! ### Q1.31 -/

/-- An integer saturated to Q1.31. -/
def satQ31 (x : Int) : Int := clampInt (-2147483648) 2147483647 x

/-! ### Lists of changes -/

/-- A fold of a state over a list of numbers below a count. -/
def State.forN (n : Nat) (f : State → Nat → State) (s : State) : State := (List.range n).foldl f s

end Sys2Proof.Machine
end

