-- ==== Sys2Proof/Machine/Crypto.lean ====
section
/-! DEFINITION. Machine/Crypto.lean: SHA-384 and the check of an ECDSA signature, which R200 to R205, R391, R415, R424, R433
and R441 name by FIPS 180-4 and FIPS 186-5. -/
namespace Sys2Proof.Machine

/-! ### SHA-384 (FIPS 180-4) -/

/-- The round constants 0 to 39: the first 64 bits of the fractional parts of the cube roots of the primes from 2. -/
def shaK0 : List Nat :=
  [0x428A2F98D728AE22, 0x7137449123EF65CD, 0xB5C0FBCFEC4D3B2F, 0xE9B5DBA58189DBBC,
   0x3956C25BF348B538, 0x59F111F1B605D019, 0x923F82A4AF194F9B, 0xAB1C5ED5DA6D8118,
   0xD807AA98A3030242, 0x12835B0145706FBE, 0x243185BE4EE4B28C, 0x550C7DC3D5FFB4E2,
   0x72BE5D74F27B896F, 0x80DEB1FE3B1696B1, 0x9BDC06A725C71235, 0xC19BF174CF692694,
   0xE49B69C19EF14AD2, 0xEFBE4786384F25E3, 0x0FC19DC68B8CD5B5, 0x240CA1CC77AC9C65,
   0x2DE92C6F592B0275, 0x4A7484AA6EA6E483, 0x5CB0A9DCBD41FBD4, 0x76F988DA831153B5,
   0x983E5152EE66DFAB, 0xA831C66D2DB43210, 0xB00327C898FB213F, 0xBF597FC7BEEF0EE4,
   0xC6E00BF33DA88FC2, 0xD5A79147930AA725, 0x06CA6351E003826F, 0x142929670A0E6E70,
   0x27B70A8546D22FFC, 0x2E1B21385C26C926, 0x4D2C6DFC5AC42AED, 0x53380D139D95B3DF,
   0x650A73548BAF63DE, 0x766A0ABB3C77B2A8, 0x81C2C92E47EDAEE6, 0x92722C851482353B]

/-- The round constants 40 to 79. -/
def shaK1 : List Nat :=
  [0xA2BFE8A14CF10364, 0xA81A664BBC423001, 0xC24B8B70D0F89791, 0xC76C51A30654BE30,
   0xD192E819D6EF5218, 0xD69906245565A910, 0xF40E35855771202A, 0x106AA07032BBD1B8,
   0x19A4C116B8D2D0C8, 0x1E376C085141AB53, 0x2748774CDF8EEB99, 0x34B0BCB5E19B48A8,
   0x391C0CB3C5C95A63, 0x4ED8AA4AE3418ACB, 0x5B9CCA4F7763E373, 0x682E6FF3D6B2B8A3,
   0x748F82EE5DEFB2FC, 0x78A5636F43172F60, 0x84C87814A1F0AB72, 0x8CC702081A6439EC,
   0x90BEFFFA23631E28, 0xA4506CEBDE82BDE9, 0xBEF9A3F7B2C67915, 0xC67178F2E372532B,
   0xCA273ECEEA26619C, 0xD186B8C721C0C207, 0xEADA7DD6CDE0EB1E, 0xF57D4F7FEE6ED178,
   0x06F067AA72176FBA, 0x0A637DC5A2C898A6, 0x113F9804BEF90DAE, 0x1B710B35131C471B,
   0x28DB77F523047D84, 0x32CAAB7B40C72493, 0x3C9EBE0A15C9BEBC, 0x431D67C49C100D4C,
   0x4CC5D4BECB3E42B6, 0x597F299CFC657E2A, 0x5FCB6FAB3AD6FAEC, 0x6C44198C4A475817]

/-- The initial hash value: the first 64 bits of the fractional parts of the square roots of the ninth to sixteenth primes. -/
def shaInit : List Nat :=
  [0xCBBB9D5DC1059ED8, 0x629A292A367CD507, 0x9159015A3070DD17, 0x152FECD8F70E5939,
   0x67332667FFC00B31, 0x8EB44A8768581511, 0xDB0C2E0D64F98FA7, 0x47B5481DBEFA4FA4]

/-- A sum of 64-bit words. -/
def add64 (a b : Nat) : Nat := (a + b) % 2 ^ 64

/-- A 64-bit word turned right. -/
def ror64 (x n : Nat) : Nat := x >>> n ^^^ (x <<< (64 - n)) % 2 ^ 64

/-- The schedule of a block, newest word first: `n` words beyond those given. -/
def shaSched : Nat → List Nat → List Nat
  | 0, r => r
  | n + 1, r =>
    let a := r.getD 14 0
    let b := r.getD 1 0
    let s0 := ror64 a 1 ^^^ ror64 a 8 ^^^ a >>> 7
    let s1 := ror64 b 19 ^^^ ror64 b 61 ^^^ b >>> 6
    shaSched n ((r.getD 15 0 + s0 + r.getD 6 0 + s1) % 2 ^ 64 :: r)

/-- One round, with the sum of its constant and its word: the eight working variables, a to h. -/
def shaRound (v : List Nat) (kw : Nat) : List Nat :=
  match v with
  | [a, b, c, d, e, f, g, h] =>
    let s1 := ror64 e 14 ^^^ ror64 e 18 ^^^ ror64 e 41
    let ch := (e &&& f) ^^^ ((2 ^ 64 - 1 - e) &&& g)
    let t1 := h + s1 + ch + kw
    let s0 := ror64 a 28 ^^^ ror64 a 34 ^^^ ror64 a 39
    let maj := (a &&& b) ^^^ (a &&& c) ^^^ (b &&& c)
    [(t1 + s0 + maj) % 2 ^ 64, a, b, c, add64 d t1, e, f, g]
  | _ => v

/-- A big-endian number of bytes. -/
def beNat (l : List Byte) : Nat := l.foldl (fun v b => v * 256 + b.toNat) 0

/-- `n` big-endian 64-bit words of bytes. -/
def words64 : Nat → List Byte → List Nat
  | 0, _ => []
  | n + 1, l => beNat (l.take 8) :: words64 n (l.drop 8)

/-- One block of 128 bytes. -/
def shaBlock (h : List Nat) (l : List Byte) : List Nat :=
  let w := (shaSched 64 (words64 16 l).reverse).reverse
  let v := (List.zipWith (· + ·) (shaK0 ++ shaK1) w).foldl shaRound h
  List.zipWith add64 h v

/-- Blocks in turn. -/
def shaBlocks : Nat → List Nat → List Byte → List Nat
  | 0, h, _ => h
  | n + 1, h, l => shaBlocks n (shaBlock h (l.take 128)) (l.drop 128)

/-- The `n` big-endian bytes of a number. -/
def beBytes (v n : Nat) : List Byte := (leBytes v n).reverse

/-- SHA-384 as a number of 384 bits, the first byte highest. -/
def sha384 (l : List Byte) : Nat :=
  let pad := 127 - (l.length + 16) % 128
  let m := l ++ 0x80#8 :: List.replicate pad 0#8 ++ beBytes (8 * l.length) 16
  ((shaBlocks (m.length / 128) shaInit m).take 6).foldl (fun v w => v * 2 ^ 64 + w) 0

/-! ### ECDSA (FIPS 186-5) -/

/-- A curve y² = x³ − 3x + b over a prime field: the prime, b, the base point, its order, and the length of that in bits. -/
structure Curve where
  p : Nat
  b : Nat
  gx : Nat
  gy : Nat
  n : Nat
  bits : Nat

def p256 : Curve :=
  { p := 0xFFFFFFFF00000001000000000000000000000000FFFFFFFFFFFFFFFFFFFFFFFF
    b := 0x5AC635D8AA3A93E7B3EBBD55769886BC651D06B0CC53B0F63BCE3C3E27D2604B
    gx := 0x6B17D1F2E12C4247F8BCE6E563A440F277037D812DEB33A0F4A13945D898C296
    gy := 0x4FE342E2FE1A7F9B8EE7EB4A7C0F9E162BCE33576B315ECECBB6406837BF51F5
    n := 0xFFFFFFFF00000000FFFFFFFFFFFFFFFFBCE6FAADA7179E84F3B9CAC2FC632551
    bits := 256 }

def p384 : Curve :=
  { p := 0xFFFFFFFFFFFFFFFFFFFFFFFFFFFFFFFFFFFFFFFFFFFFFFFFFFFFFFFFFFFFFFFEFFFFFFFF0000000000000000FFFFFFFF
    b := 0xB3312FA7E23EE7E4988E056BE3F82D19181D9C6EFE8141120314088F5013875AC656398D8A2ED19D2A85C8EDD3EC2AEF
    gx := 0xAA87CA22BE8B05378EB1C71EF320AD746E1D3B628BA79B9859F741E082542A385502F25DBF55296C3A545E3872760AB7
    gy := 0x3617DE4A96262C6F5D9E98BF9292DC29F8F41DBD289A147CE9DA3113B5F0B8C00A60B1CE1D7E819D7A431D7C90EA0E5F
    n := 0xFFFFFFFFFFFFFFFFFFFFFFFFFFFFFFFFFFFFFFFFFFFFFFFFC7634D81F4372DDF581A0DB248B0A77AECEC196ACCC52973
    bits := 384 }

/-- A power modulo `m`, by the bits of the exponent from the lowest. -/
def powMod (m : Nat) : Nat → Nat → Nat → Nat → Nat
  | 0, _, _, acc => acc
  | k + 1, x, e, acc => powMod m k (x * x % m) (e / 2) (if e % 2 = 1 then acc * x % m else acc)

/-- The inverse modulo a prime. -/
def Curve.inv (c : Curve) (m x : Nat) : Nat := powMod m c.bits (x % m) (m - 2) 1

/-- A point in projective coordinates (X, Y, Z), which stands for (X / Z, Y / Z); Z = 0 is the point at infinity. -/
abbrev EcPoint := Nat × Nat × Nat

/-- The sum of two points, by the complete addition law for curves with a = −3: with u = 3 (xz − b zz), v = 3 (b xz − 3 zz − xx)
and w = 3 (xx − zz) it is (xy (yy + u) − yz v, (yy + u) (yy − u) + w v, yz (yy − u) + xy w). -/
def Curve.add (c : Curve) (q r : EcPoint) : EcPoint :=
  let m := c.p
  let xx := q.1 * r.1 % m
  let yy := q.2.1 * r.2.1 % m
  let zz := q.2.2 * r.2.2 % m
  let xy := (q.1 * r.2.1 + q.2.1 * r.1) % m
  let yz := (q.2.1 * r.2.2 + q.2.2 * r.2.1) % m
  let xz := (q.1 * r.2.2 + q.2.2 * r.1) % m
  let u := 3 * (xz + (m - c.b * zz % m)) % m
  let v := 3 * (c.b * xz + (m - xx) + 3 * (m - zz)) % m
  let w := 3 * (xx + (m - zz)) % m
  ((xy * (yy + u) + (m - yz) * v) % m, ((yy + u) * (yy + (m - u)) + w * v) % m, (yz * (yy + (m - u)) + xy * w) % m)

/-- A multiple of a point added to another, by the bits of the factor from the lowest. -/
def Curve.mul (c : Curve) : Nat → Nat → EcPoint → EcPoint → EcPoint
  | 0, _, _, acc => acc
  | k + 1, e, q, acc => c.mul k (e / 2) (c.add q q) (if e % 2 = 1 then c.add acc q else acc)

/-- e·G + f·Q for a point Q. -/
def Curve.comb (c : Curve) (e f : Nat) (q : Nat × Nat) : EcPoint :=
  c.mul c.bits f (q.1, q.2, 1) (c.mul c.bits e (c.gx, c.gy, 1) (0, 1, 0))

/-- The coordinates of a point that is not at infinity. -/
def Curve.affine (c : Curve) (q : EcPoint) : Option (Nat × Nat) :=
  if q.2.2 = 0 then none
  else
    let i := c.inv c.p q.2.2
    some (q.1 * i % c.p, q.2.1 * i % c.p)

/-- Whether a point lies on the curve. -/
def Curve.on (c : Curve) (q : Nat × Nat) : Bool :=
  Nat.blt q.1 c.p && Nat.blt q.2 c.p && q.2 * q.2 % c.p == (q.1 * q.1 * q.1 + 3 * (c.p - 1) * q.1 + c.b) % c.p

/-- Whether the two numbers of a signature lie in range. -/
def Curve.sigRange (c : Curve) (r s : Nat) : Bool := r != 0 && s != 0 && Nat.blt r c.n && Nat.blt s c.n

/-- Whether (r, s) signs a SHA-384 digest, of which the leftmost bits of the curve's length count, under a public key. -/
def Curve.verify (c : Curve) (key : Nat × Nat) (digest r s : Nat) : Bool :=
  if !c.on key || !c.sigRange r s then false
  else
    let e := digest / 2 ^ (384 - c.bits)
    let w := c.inv c.n s
    match c.affine (c.comb (e * w % c.n) (r * w % c.n) key) with
    | some (x, _) => x % c.n == r
    | none => false

end Sys2Proof.Machine
end

