-- ==== Sys2Proof/Machine/Layouts.lean ====
section
/-! DEFINITION. Machine/Layouts.lean: the fields of the byte layouts that the spec gives: alarm messages (R199), message
records and scene steps (R202, R207), cluster schedule records (R144), the header and manifest of a Skein (R432). -/
namespace Sys2Proof.Machine

/-! ### Fields -/

/-- A byte of a layout. -/
def byteAt (l : List Byte) (off : Nat) : Nat := (l.getD off 0#8).toNat

/-- A little-endian and a big-endian field of `n` bytes (R3). -/
def leAt (l : List Byte) (off n : Nat) : Nat := leNat ((l.drop off).take n)
def beAt (l : List Byte) (off n : Nat) : Nat := beNat ((l.drop off).take n)

/-- Whether reserved bytes are 0. -/
def zeroAt (l : List Byte) (off n : Nat) : Bool := ((l.drop off).take n).all (· == 0#8)

/-- `k` pieces of `n` bytes. -/
def pieces (n : Nat) : Nat → List Byte → List (List Byte)
  | 0, _ => []
  | k + 1, l => l.take n :: pieces n k (l.drop n)

/-- The records of `n` bytes that bytes hold. -/
def recordsOf (n : Nat) (l : List Byte) : List (List Byte) := pieces n (l.length / n) l

/-! ### Alarm messages (R199) -/

def AlarmMsg.ver (m : AlarmMsg) : Nat := byteAt m.body 0
def AlarmMsg.kind (m : AlarmMsg) : Nat := byteAt m.body 1
def AlarmMsg.trig (m : AlarmMsg) : Nat := byteAt m.body 2
def AlarmMsg.key (m : AlarmMsg) : Nat := byteAt m.body 3
def AlarmMsg.sender (m : AlarmMsg) : Nat := beAt m.body 4 4
def AlarmMsg.counter (m : AlarmMsg) : Nat := beAt m.body 8 8
def AlarmMsg.sigR (m : AlarmMsg) : Nat := beAt m.body 0x20 32
def AlarmMsg.sigS (m : AlarmMsg) : Nat := beAt m.body 0x40 32

/-- The digest that SIG covers: of bytes 0x00 to 0x1F. -/
def AlarmMsg.digest (m : AlarmMsg) : Nat := sha384 (m.body.take 0x20)

/-! ### Message records and chunks (R202) -/

def SkMsg.ofBytes (l : List Byte) : SkMsg :=
  { present := bitAt (BitVec.ofNat 32 (byteAt l 1)) 0, chunks := leAt l 2 2, start := leAt l 4 4, len := leAt l 8 4,
    digIdx := leAt l 0xC 2 }

/-- Whether a message record meets R202, in a digest table of `n` entries: reserved bits 0, and for a present message the
range of LEN, CHUNKS, the store's end and the table's end. -/
def msgRecordOk (n : Nat) (l : List Byte) : Bool :=
  let m := SkMsg.ofBytes l
  Nat.blt (byteAt l 0) 64 && Nat.ble (byteAt l 1) 1 && zeroAt l 0xE 2
    && (!m.present || (Nat.ble 1 m.len && Nat.ble m.len 22369621 && m.chunks == (m.len + 8191) / 8192
      && Nat.ble (m.start + 3 * m.len) 0x4000000 && Nat.ble (m.digIdx + m.chunks) n))

/-- Whether two message records claim a byte of the store, or the same message. -/
def msgsMeet (a b : List Byte) : Bool :=
  let x := SkMsg.ofBytes a
  let y := SkMsg.ofBytes b
  byteAt a 0 == byteAt b 0
    || (x.present && y.present && Nat.blt x.start (y.start + 3 * y.len) && Nat.blt y.start (x.start + 3 * x.len))

/-- Whether no two records of a list meet. -/
def apart (meet : List Byte → List Byte → Bool) : List (List Byte) → Bool
  | [] => true
  | a :: t => !t.any (meet a) && apart meet t

/-! ### Scenes (R207) -/

def SceneStep.ofBytes (l : List Byte) : SceneStep :=
  { offset := leAt l 0 2, op := byteAt l 2, arg := BitVec.ofNat 32 (leAt l 4 4) }

/-- Whether a scene's bytes are at most 32 whole steps with known operations and reserved bytes of 0. -/
def sceneOk (l : List Byte) : Bool :=
  l.length % 8 == 0 && Nat.ble l.length 256
    && (recordsOf 8 l).all fun s => byteAt s 3 == 0 && Nat.ble 1 (byteAt s 2) && Nat.ble (byteAt s 2) 6

/-! ### Cluster schedule records (R144) -/

def SkStake.ofBytes (l : List Byte) : SkStake :=
  { prog := leAt l 0 2, abi := byteAt l 2, wale := byteAt l 3, entry := leAt l 4 2, digCnt := leAt l 6 2,
    wcc := (List.range 4).map fun i => leAt l (8 + 4 * i) 4, en := byteAt l 0x18 % 2 == 1 }

def SkRecord.ofBytes (l : List Byte) : SkRecord :=
  { cluster := Fin.ofNat 16 (byteAt l 0), nomOp := byteAt l 1, minOp := byteAt l 2, wales := byteAt l 3,
    dmaAddr := leAt l 4 4, dmaCount := leAt l 8 2, stakes := (pieces 0x20 8 (l.drop 0x10)).map SkStake.ofBytes,
    proof_ := beAt l 0x110 48 }

/-- Whether a record's CLUSTER is one, and its reserved bits are 0. -/
def schedRecordOk (l : List Byte) : Bool :=
  Nat.blt (byteAt l 0) 16 && zeroAt l 0xA 6
    && (pieces 0x20 8 (l.drop 0x10)).all fun s => Nat.ble (byteAt s 0x18) 1 && zeroAt s 0x19 7

/-! ### The header and manifest of a Skein (R432 to R434) -/

/-- An entry of the manifest. -/
structure SkEntry where
  ty : Nat
  flags : Nat
  off : Nat
  len : Nat
  digest : Nat

def SkEntry.ofBytes (l : List Byte) : SkEntry :=
  { ty := leAt l 0 2, flags := leAt l 2 2, off := leAt l 4 4, len := leAt l 8 4, digest := beAt l 0x10 48 }

/-- Fields of a header. -/
def skSects (l : List Byte) : Nat := leAt l 6 2
def skTotal (l : List Byte) : Nat := leAt l 8 4
def skSvn (l : List Byte) : Nat := leAt l 0xC 4
def skSysid (l : List Byte) : Nat := leAt l 0x14 4
def skIgMin (l : List Byte) : Nat := leAt l 0x18 2
def skIgMax (l : List Byte) : Nat := leAt l 0x1A 2
def skSigner (l : List Byte) : Nat := byteAt l 0x1C
def skEpoch (l : List Byte) : Nat := byteAt l 0x1D
def skPairing (l : List Byte) : Bool := byteAt l 0x1E % 2 == 1

/-- Whether sections lie in ascending order without overlap from an offset to an end. -/
def sectsLie : Nat → Nat → List SkEntry → Bool
  | lo, hi, [] => Nat.ble lo hi
  | lo, hi, e :: t => Nat.ble lo e.off && sectsLie (e.off + e.len) hi t

/-- Whether a header and the entries of its manifest are well formed (R434, reason FORMAT of R436). -/
def skFormOk (l : List Byte) (es : List SkEntry) : Bool :=
  l.take 4 == [0x53#8, 0x4B#8, 0x4E#8, 0x31#8] && leAt l 4 2 == 1 && Nat.ble 1 (skSects l) && Nat.ble (skSects l) 64
    && Nat.ble (256 + 64 * skSects l + 96) (skTotal l) && sectsLie (256 + 64 * skSects l) (skTotal l - 96) es
    && (es.all fun e => Nat.ble 1 e.ty && Nat.ble e.ty 0xE) && decide (es.map (·.ty)).Nodup
    && [1, 2, 3, 6, 0xA, 0xE].all fun t => es.any fun e => e.ty == t

/-! ### What the records of a Skein make -/

def SkImage.sched (k : SkImage) : List SkRecord := (recordsOf 320 k.schedule).map SkRecord.ofBytes

/-- The digests of the chunk digest table. -/
def SkImage.digests (k : SkImage) : List Nat := (recordsOf 48 k.chunkTable).map beNat

/-- The Skein content in force, with what the message records, the chunk digest table and the scenes spell. -/
def SkImage.content (k : SkImage) : Skein :=
  { k.conf with
    msgs := (recordsOf 16 k.messages).foldl (fun m l => mset (fun _ => SkMsg.none) m (byteAt l 0 % 64) (SkMsg.ofBytes l)) []
    chunkDigs := k.digests
    scenes := k.scenes.map fun e => (e.1, (recordsOf 8 e.2).map SceneStep.ofBytes) }

/-- What R202 and R207 ask of the alarm section. -/
def SkImage.alarmContent (k : SkImage) : Bool :=
  let l := recordsOf 16 k.messages
  k.messages.length % 16 == 0 && k.chunkTable.length % 48 == 0 && Nat.ble k.digests.length 2795
    && (l.all fun x => msgRecordOk k.digests.length x) && apart msgsMeet l
    && Nat.ble k.scenes.length 256 && k.scenes.all fun e => Nat.blt e.1 256 && sceneOk e.2

end Sys2Proof.Machine
end

