-- ==== Sys2Proof/Machine/Ecc.lean ====
section
/-! DEFINITION. Machine/Ecc.lean: errors in memory protected by ECC, their counters, and the health events and fault
policy that they reach (R70, R78, R137, R214, R497). -/
namespace Sys2Proof.Machine

open Reg

/-- The bits of ALARM_FAULT_SW that the fault policy maps from a source set (R214). -/
def State.policyBits (s : State) (src : FaultSrc) : State :=
  s.skein.policy.foldl (fun s e => if e.1 = src then s.setBit ALARM_FAULT_SW (e.2 % 16) else s) s

/-- A health event set: the fault policy maps it when it was clear (R214). -/
def State.healthEvt (s : State) (f : RegField) : State :=
  if s.flag f then s else (s.raise f).policyBits (.health f.lo)

/-- The first address of the ECC word that holds an address: 64 bits in program memory and retention SRAM, 32 bits in
the other memories (R70, R78, R137). -/
def eccUnit (a : Nat) : Nat :=
  let program := Nat.ble 0x0700000000 a && Nat.blt a 0x0704000000 && Nat.ble 0x40000 ((a - 0x0700000000) % 0x80000)
  let retention := Nat.ble 0x0500000000 a && Nat.blt a 0x0500200000
  if program || retention then a - a % 8 else a - a % 4

/-- The counter of HEALTH_ECC of the memory that holds an address (R513). -/
def eccCounter (a : Nat) : Option Nat :=
  if Nat.ble 0x0700000000 a && Nat.blt a 0x0704000000 then some ((a - 0x0700000000) / 0x400000)
  else if Nat.ble 0x0600000000 a && Nat.blt a 0x0602000000 then some (16 + (a - 0x0600000000) / 0x200000)
  else if Nat.ble 0x0500000000 a && Nat.blt a 0x0500200000 then some 32
  else if Nat.blt a 0x0400000000 then some 33 else none

/-- Whether the ECC word at an address holds an uncorrectable error. -/
def State.ue (s : State) (a : Nat) : Bool := s.ecc.contains (eccUnit a, true)

/-- Fresh ECC for the ECC word at an address: a write repairs it. -/
def State.freshEcc (s : State) (a : Nat) : State := { s with ecc := s.ecc.filter fun e => e.1 != eccUnit a }

/-- A corrected error counted in its memory's counter, which saturates, and kept with its instant for an hour (R497). -/
def State.eccNote (s : State) (i : Nat) : State :=
  let r := s.reg (HEALTH_ECC i)
  let s := s.setReg (HEALTH_ECC i) (if r = 0xFFFFFFFF#32 then r else r + 1#32)
  { s with power := { s.power with
    eccAt := (i, s.now) :: s.power.eccAt.filter fun e => Nat.blt s.now (e.2 + 3600 * sec1) } }

/-- ECC_RATE set (R497), and its instant kept for the score (R501). -/
def State.eccRate (s : State) : State :=
  let s := s.healthEvt HEALTH_EVT_ECC_RATE
  { s with power := { s.power with marks := mput 1 s.now (mdrop 1 s.power.marks) } }

/-- A corrected error: more than 10 of one counter in an hour set ECC_RATE (R497). -/
def State.eccCount (s : State) (i : Nat) : State :=
  let s := s.eccNote i
  if 10 < (s.power.eccAt.filter fun e => e.1 == i).length then s.eccRate else s

/-- A read of the ECC word at an address: an error of a single bit is corrected, written back and counted. -/
def State.corrected (s : State) (a : Nat) : State :=
  if s.ecc.contains (eccUnit a, false) then
    let s := { s with ecc := s.ecc.filter (· != (eccUnit a, false)) }
    match eccCounter a with
    | some i => s.eccCount i
    | none => s
  else s

/-- Reads of ECC words in turn. -/
def State.readEcc (s : State) (l : List Nat) : State := l.foldl State.corrected s

/-- Every ECC word of a range read. -/
def State.readRange (s : State) (lo hi : Nat) : State :=
  s.readEcc ((s.ecc.filter fun e => !e.2 && Nat.ble lo e.1 && Nat.ble e.1 hi).map (·.1))

end Sys2Proof.Machine
end

