-- ==== Sys2Proof/Machine/Flags.lean ====
section
/-! DEFINITION. Machine/Flags.lean: stake registers, the status word ST, accumulator clamping, rounding
and raw parts (R73, R86 to R91, R103, R104, R121 of spec/03 and spec/04). -/
namespace Sys2Proof.Machine

/-- A stake's registers as R75 leaves them. -/
def Arch.reset : Arch :=
  { d := [], a := [], p := [], m := [], b := [], l := [], lc := [], st := 0#32, pc := 0, ret := [],
    levels := [], rovg := false, rsat := false, raccv := false, stores := [], due := [], ovgAt := 0, accvAt := 0 }

def Arch.rd (r : Arch) (i : Nat) : Word := mget (fun _ => 0#32) r.d i
def Arch.setD (r : Arch) (i : Nat) (v : Word) : Arch := { r with d := mset (fun _ => 0#32) r.d i v }
def Arch.acc (r : Arch) (n : Nat) : Acc := mget (fun _ => 0#80) r.a n
def Arch.putA (r : Arch) (n : Nat) (v : Acc) : Arch := { r with a := mset (fun _ => 0#80) r.a n v }
def Arch.rp (r : Arch) (n : Nat) : BitVec 20 := mget (fun _ => 0#20) r.p n
def Arch.rm (r : Arch) (n : Nat) : BitVec 20 := mget (fun _ => 0#20) r.m n
def Arch.rb (r : Arch) (n : Nat) : BitVec 20 := mget (fun _ => 0#20) r.b n
def Arch.rl (r : Arch) (n : Nat) : BitVec 20 := mget (fun _ => 0#20) r.l n
def Arch.rlc (r : Arch) (n : Nat) : BitVec 16 := mget (fun _ => 0#16) r.lc n
def Arch.setP (r : Arch) (n : Nat) (v : BitVec 20) : Arch := { r with p := mset (fun _ => 0#20) r.p n v }
def Arch.setM (r : Arch) (n : Nat) (v : BitVec 20) : Arch := { r with m := mset (fun _ => 0#20) r.m n v }
def Arch.setB (r : Arch) (n : Nat) (v : BitVec 20) : Arch := { r with b := mset (fun _ => 0#20) r.b n v }
def Arch.setL (r : Arch) (n : Nat) (v : BitVec 20) : Arch := { r with l := mset (fun _ => 0#20) r.l n v }
def Arch.setLc (r : Arch) (n : Nat) (v : BitVec 16) : Arch := { r with lc := mset (fun _ => 0#16) r.lc n v }

/-! ### ST (R103) -/

def Arch.nf (r : Arch) : Bool := bitAt r.st 9
def Arch.zf (r : Arch) : Bool := bitAt r.st 8
def Arch.rnd (r : Arch) : Nat := bitsOf r.st 17 16
def Arch.ac (r : Arch) (n : Nat) : Bool := bitAt r.st (24 + n)

def Arch.setSt (r : Arch) (i : Nat) (b : Bool) : Arch := { r with st := setBits r.st i i (if b then 1 else 0) }

/-- NF and ZF set together. -/
def Arch.setNZ (r : Arch) (n z : Bool) : Arch := (r.setSt 9 n).setSt 8 z

/-- NF and ZF from a result (R121). -/
def Arch.flagsOf (r : Arch) (v : Word) : Arch := r.setNZ (bitAt v 31) (v == 0#32)

/-- The events of R104: a sticky bit and its round copy. -/
def Arch.evOvg (r : Arch) : Arch := { r.setSt 0 true with rovg := true }
def Arch.evSat (r : Arch) : Arch := { r.setSt 1 true with rsat := true }
def Arch.evAccv (r : Arch) : Arch := { r.setSt 2 true with raccv := true }

/-- A move into ST (R103): RND, NF and ZF are written, OVG, SAT and ACCV cleared where the value has a 1,
AC kept. -/
def moveSt (st v : Word) : Word :=
  let keep := st &&& 0xFF000000#32
  let rw := v &&& 0x00030300#32
  let sticky := st &&& (v ^^^ 7#32) &&& 7#32
  keep ||| rw ||| sticky

/-! ### Accumulators (R86, R87) -/

/-- A replacing operation: the value set, the clamp flag cleared. -/
def Arch.replace (r : Arch) (n : Nat) (v : Int) : Arch := (r.putA n (BitVec.ofInt 80 v)).setSt (24 + n) false

/-- A replacing operation with the bits themselves. -/
def Arch.replaceRaw (r : Arch) (n : Nat) (v : Acc) : Arch := (r.putA n v).setSt (24 + n) false

/-- An accumulating operation adding an exact value: clamped outside the range, and without effect while
the clamp flag is 1. -/
def Arch.accumulate (r : Arch) (n : Nat) (x : Int) : Arch :=
  if r.ac n then r
  else
    let v := (r.acc n).toInt + x
    if 604462909807314587353087 < v then ((r.putA n (BitVec.ofInt 80 604462909807314587353087)).setSt (24 + n) true).evOvg
    else if v < -604462909807314587353088 then
      ((r.putA n (BitVec.ofInt 80 (-604462909807314587353088))).setSt (24 + n) true).evOvg
    else r.putA n (BitVec.ofInt 80 v)

/-! ### Rounding (R88, R90) and raw parts (R91) -/

/-- `v / 2^31` rounded by a mode of ST.RND. -/
def roundQ (mode : Nat) (v : Int) : Int :=
  match mode with
  | 0 => (v + 1073741824) / 2147483648
  | 1 =>
    let q := v / 2147483648
    let f := v % 2147483648
    if f < 1073741824 then q else if 1073741824 < f then q + 1 else if q % 2 = 0 then q else q + 1
  | 2 => v / 2147483648
  | _ => Int.tdiv v 2147483648

/-- The rounded, saturated value of an accumulator with a shift, and whether it saturated. -/
def roundAcc (mode : Nat) (a : Acc) (k : Nat) : Word × Bool :=
  let q := roundQ mode (a.toInt * 2 ^ k)
  let c := satQ31 q
  (wordOfInt c, c != q)

/-- A raw part of an accumulator. -/
def rawPart (a : Acc) : Part → Word
  | .l => a.extractLsb' 0 32
  | .h => a.extractLsb' 32 32
  | .g => (a.extractLsb' 64 16).signExtend 32

/-- An accumulator with one part replaced (R124). -/
def setPart (a : Acc) (v : Word) : Part → Acc
  | .l => BitVec.ofNat 80 (a.toNat / 2 ^ 32 * 2 ^ 32 + v.toNat)
  | .h => BitVec.ofNat 80 (a.toNat / 2 ^ 64 * 2 ^ 64 + v.toNat * 2 ^ 32 + a.toNat % 2 ^ 32)
  | .g => BitVec.ofNat 80 (v.toNat % 2 ^ 16 * 2 ^ 64 + a.toNat % 2 ^ 64)

/-! ### Conditions (R125) -/

/-- Whether a condition of BRC holds. -/
def Arch.holds (r : Arch) : Cond → Bool
  | .zf => r.zf
  | .nzf => !r.zf
  | .nf => r.nf
  | .nnf => !r.nf
  | .gt => !r.nf && !r.zf
  | .le => r.nf || r.zf
  | .ac n => r.ac n.val
  | .nac n => !r.ac n.val

end Sys2Proof.Machine
end

