-- ==== Sys2Proof/Machine/Operands.lean ====
section
/-! DEFINITION. Machine/Operands.lean: the operand forms of stake instructions: addressing modes (R92 to
R94) and the places that X, Y and C addresses name (R76, R79, R82). -/
namespace Sys2Proof.Machine

/-- The low `k` bits of a number reversed. -/
def revBits : Nat → Nat → Nat
  | 0, _ => 0
  | k + 1, x => x % 2 * 2 ^ k + revBits k (x / 2)

/-- Circular post-modification (R93). -/
def circ (p : BitVec 20) (m : Int) (b l : BitVec 20) : BitVec 20 :=
  if l = 0#20 then BitVec.ofInt 20 ((p.toNat : Int) + m)
  else BitVec.ofInt 20 ((b.toNat : Int) + ((p.toNat : Int) - b.toNat + m) % (l.toNat : Int))

/-- Bit-reversed post-modification (R94). -/
def brev (p : BitVec 20) (m : Int) (b l : BitVec 20) : BitVec 20 :=
  let len := if l = 0#20 then 32768 else l.toNat
  let kb := if len < 2 then 0 else Nat.log2 len
  let w : Nat := 2 ^ kb
  let o := (((p.toNat : Int) - b.toNat) % (w : Int)).toNat
  let mm := (m % (w : Int)).toNat
  BitVec.ofNat 20 (b.toNat + revBits kb ((revBits kb o + revBits kb mm) % w))

/-- Effective address of an access (R92). -/
def Arch.ea (r : Arch) (n mode : Nat) : BitVec 20 :=
  if mode = 4 then r.rp n + r.rm n else r.rp n

/-- The address register after an access, none where the mode keeps it (R92). -/
def Arch.post (r : Arch) (n mode : Nat) : Option (BitVec 20) :=
  let p := r.rp n
  let m := (r.rm n).toInt
  match mode with
  | 1 => some (p + 1#20)
  | 2 => some (p - 1#20)
  | 3 => some (p + r.rm n)
  | 5 => some (circ p 1 (r.rb n) (r.rl n))
  | 6 => some (circ p m (r.rb n) (r.rl n))
  | 7 => some (brev p m (r.rb n) (r.rl n))
  | _ => none

/-- Whether a mode reads the offset register, and whether it reads base and length. -/
def modeM (mode : Nat) : Bool := mode == 3 || mode == 4 || mode == 6 || mode == 7
def modeBL (mode : Nat) : Bool := mode == 5 || mode == 6 || mode == 7

/-- Base of a stake's window (R10, R79). -/
def stakeBase (k : Nat) : Nat := 0x0700000000 + k * 0x80000

/-- Base of a cluster's coil (R10). -/
def coilBase (c : Nat) : Nat := 0x0600000000 + c * 0x200000

/-- The fabric address of an X word that a stake addresses in a round of parity `q` (R26, R79, R82); the
Boolean says whether a store may reach it. -/
def xPlace (k q : Nat) (ea : BitVec 20) : Option Nat × Bool :=
  let w := ea.toNat % 32768
  if w < 0x7000 then (some (stakeBase k + 4 * w), true)
  else if w < 0x7800 then (some (stakeBase k + 0x1C000 + (1 - q) * 0x2000 + 4 * (w - 0x7000)), false)
  else (none, false)

/-- The fabric address of a Y word that a stake addresses in a round of parity `q`. -/
def yPlace (k q : Nat) (ea : BitVec 20) : Option Nat :=
  let w := ea.toNat % 32768
  if w < 0x7000 then some (stakeBase k + 0x20000 + 4 * w)
  else if w < 0x7800 then some (stakeBase k + 0x3C000 + q * 0x2000 + 4 * (w - 0x7000))
  else none

/-- The fabric address of a coil word that a stake addresses (R76). -/
def coilPlace (k : Nat) (ea : BitVec 20) : Nat := coilBase (k / 8) + 4 * (ea.toNat % 524288)

/-- The fabric address of an instruction (R79). -/
def pmemPlace (k pc : Nat) : Nat := stakeBase k + 0x40000 + 8 * pc

end Sys2Proof.Machine
end

