-- ==== Sys2Proof/Machine/Slots.lean ====
section
/-! DEFINITION. Machine/Slots.lean: the slot space (R38 to R40, R65 of spec/02_weave_and_border.md). -/
namespace Sys2Proof.Machine

/-- The stake whose slot run covers an inner slot, and the channel within the run (R39). -/
def State.stakeOf (s : State) (slot : Nat) : Option (Nat × Nat) :=
  (List.range 128).findSome? fun k =>
    let base := 4096 + s.rf (Reg.WEAVE_STK_MAP_BASE k)
    let count := s.rf (Reg.WEAVE_STK_MAP_COUNT k)
    if base ≤ slot && slot < base + count then some (k, slot - base) else none

/-- The stream binding of a stream channel slot on one side (R38). -/
def State.bindingOf (s : State) (rx : Bool) (slot : Nat) : Option Binding :=
  s.streams.bound.find? fun b => b.rx == rx && b.slot ≤ slot && slot < b.slot + b.chans

/-- Whether a slot has a source side (R38, R39). -/
def State.hasSource (s : State) (slot : Nat) : Bool :=
  if slot < 1064 then true
  else if slot < 1088 then false
  else if slot < 4096 then (s.bindingOf true slot).isSome
  else if slot < 8128 then (s.stakeOf slot).isSome
  else slot < 8192

/-- Whether a slot has a sink side (R38, R39). -/
def State.hasSink (s : State) (slot : Nat) : Bool :=
  if slot < 1024 then true
  else if slot < 1056 then false
  else if slot < 1064 then true
  else if slot < 1088 then false
  else if slot < 4096 then (s.bindingOf false slot).isSome
  else if slot < 8128 then (s.stakeOf slot).isSome
  else slot < 8192

/-- An empty Border channel record (R65, R66): it binds nothing, and its limiter is at unity. -/
def Chan.empty : Chan :=
  { ctl := 0#32, ceil := 0#32, limG := 2147483648, clampCnt := 0, satCnt := 0,
    coef := List.replicate 8 ⟨0#32, 0#32, 0#32, 0#32, 0#32⟩,
    st := List.replicate 8 ⟨0, 0, 0, 0⟩, delay := List.replicate 16 0,
    need := List.replicate 16 2147483648, muted := false, left := [], rsv := [] }

/-- A Border channel record. -/
def State.chan (s : State) (b : Nat) : Chan := mget (fun _ => Chan.empty) s.border.chans b

/-- A Border channel record written. -/
def State.setChan (s : State) (b : Nat) (c : Chan) : State :=
  { s with border := { s.border with chans := mset (fun _ => Chan.empty) s.border.chans b c } }

/-- The slot a record names (R66). -/
def Chan.slot (c : Chan) : Nat := bitsOf c.ctl 12 0

/-- Whether a record binds its slot (R65): its CTL word is not zero. -/
def Chan.binds (c : Chan) : Bool := c.ctl != 0#32

/-- Whether a record's EN bit is set. -/
def Chan.en (c : Chan) : Bool := bitAt c.ctl 31

/-- The channel that a slot is bound to (R65): the lowest-numbered one whose record names it, for an
outer slot with a sink side. -/
def State.boundTo (s : State) (slot : Nat) : Option Nat :=
  if slot < 4096 && s.hasSink slot then
    (s.border.chans.find? fun e => e.2.binds && e.2.slot == slot).map (·.1)
  else none

/-- Whether a sink narrows its sum to Q1.31 (R58): neither bound to a Border channel nor a meter. -/
def State.narrowing (s : State) (slot : Nat) : Bool :=
  if 8128 ≤ slot then false else (s.boundTo slot).isNone

/-- The filter code written for a slot (R56, R71). -/
def State.hpfCode (s : State) (slot : Nat) : Nat :=
  bitsOf (s.reg (Reg.WEAVE_HPF (slot / 8))) (4 * (slot % 8) + 3) (4 * (slot % 8))

/-- Four times the output bound K of a filter code (R56). -/
def k4OfCode (code : Nat) : Nat :=
  if code = 0 then 4 else if code = 1 then 8 else if code ≤ 6 then 9 else 10

/-- Four times the bound K of a source slot (R56, R59): filters stand on outer slots only. -/
def State.k4 (s : State) (slot : Nat) : Nat := if slot < 4096 then k4OfCode (s.hpfCode slot) else 4

end Sys2Proof.Machine
end

