-- ==== Sys2Proof/Machine/Stake.lean ====
section
/-! DEFINITION. Machine/Stake.lean: the issue of one stake instruction: fetch and load errors, hazards,
coil accesses, repeat levels and faults (R76 to R107, R113 to R116, R120, R126 of spec/03 and spec/04). -/
namespace Sys2Proof.Machine

open Reg

/-- A stake after power-up (R75). -/
def Stake.reset : Stake :=
  { arch := Arch.reset, run := .held, fault := 0, entry := 0, lastPc := 0, cyc := 1, cycLast := 0, cycMax := 0,
    stCopy := 0#32, hz := [], reqs := [], frz := [], doneAt := none }

/-- A cluster after power-on. -/
def Cluster.reset : Cluster :=
  { start := false, wale := 0, base := 0, budget := false, faults := [], since := 0, round := 0,
    faulted := false, gated := false, missed := false, dmaLate := false, loading := false, parked := false }

def State.stake (s : State) (k : Nat) : Stake := mget (fun _ => Stake.reset) s.compute.stakes k
def State.setStake (s : State) (k : Nat) (t : Stake) : State :=
  { s with compute := { s.compute with stakes := mset (fun _ => Stake.reset) s.compute.stakes k t } }
def State.cluster (s : State) (c : Nat) : Cluster := mget (fun _ => Cluster.reset) s.compute.clusters c
def State.setCluster (s : State) (c : Nat) (x : Cluster) : State :=
  { s with compute := { s.compute with clusters := mset (fun _ => Cluster.reset) s.compute.clusters c x } }

/-- Cluster states (R130). -/
def clOff : Nat := 0
def clLoading : Nat := 1
def clHeld : Nat := 2
def clRunning : Nat := 3
def clFaulted : Nat := 4
def clIsolated : Nat := 5

def State.clState (s : State) (c : Nat) : Nat := s.rf (CL_STAT_STATE c)
def State.setClState (s : State) (c st : Nat) : State := s.sf (CL_STAT_STATE c) st

/-- Whether a stake issues: its run state is RUNNING. -/
def State.issues (s : State) (k : Nat) : Bool := (s.stake k).run == .running

/-! ### Hazards (R98, R99) -/

/-- Keys of the table of R99's consumers: the cycle from which each may issue. -/
def kUse (i : Nat) : Nat := i
def kRep (i : Nat) : Nat := 64 + i
def kP (n : Nat) : Nat := 128 + n
def kM (n : Nat) : Nat := 192 + n
def kB (n : Nat) : Nat := 256 + n
def kL (n : Nat) : Nat := 320 + n
def kAcc (n : Nat) : Nat := 384 + n
def kMov (n : Nat) : Nat := 448 + n
def kBr (n : Nat) : Nat := 512 + n
def kPart (n : Nat) : Nat := 576 + n
def kFlag : Nat := 640
def kRnd : Nat := 641
def kLc (n : Nat) : Nat := 642 + n

/-- The earliest cycle from which every key of a list may be used. -/
def hzAll (hz : SMap Nat) (ks : List Nat) : Nat := (ks.map fun k => mget (fun _ => 0) hz k).foldl max 0

/-- A cycle noted for keys by the instruction that now produces what they stand for (R98: a reader waits for the
youngest producer before it). -/
def hzSet (hz : SMap Nat) (ks : List Nat) (c : Nat) : SMap Nat :=
  ks.foldl (fun h k => mset (fun _ => 0) h k c) hz

/-! ### One instruction -/

/-- Control transfers (R97, R101). -/
inductive Ctl where
  | seq
  | branch (t : Nat)
  | branchIf (c : Cond) (t : Nat)
  | call (t : Nat)
  | ret
  | rep (stop : Nat) (count : Nat)
  | repD (stop : Nat) (i : Nat)
  | done

/-- A load into an accumulator (LDA, R118): accumulator, space, address register and mode. -/
structure AccLoad where
  acc : Nat
  coil : Bool
  preg : Nat
  mode : Nat

/-- What the issue of an instruction needs to know of it: whether its encoding is legal, its memory
slots, the registers it uses and produces in the terms of R99, its compute part (from the registers as
they stood to the registers as they are), and its control transfer. -/
structure Op where
  legal : Bool := true
  l1 : Option Load1 := none
  l2 : Option Load2 := none
  st : Option Store := none
  lda : Option AccLoad := none
  dUse : List Nat := []
  aAcc : List Nat := []
  aMov : List Nat := []
  aPart : List Nat := []
  rnd : Bool := false
  dAlu : List Nat := []
  dMov : List Nat := []
  aOut : List Nat := []
  nz : Bool := false
  sreg : Option SReg := none
  run : Arch → Arch → Arch := fun _ r => r
  ctl : Ctl := .seq

/-- The keys that an access's address generation reads. -/
def agKeys (n mode : Nat) : List Nat :=
  [kP n] ++ (if modeM mode then [kM n] else []) ++ (if modeBL mode then [kB n, kL n] else [])

/-- Address registers and modes of the active slots, in slot order (R92). -/
def Op.accesses (o : Op) : List (Nat × Nat) :=
  (match o.l1 with | some x => [(x.preg.val, x.mode.val)] | none => [])
    ++ (match o.lda with | some x => [(x.preg, x.mode)] | none => [])
    ++ (match o.l2 with | some x => [(x.preg.val, x.mode.val)] | none => [])
    ++ (match o.st with | some x => [(x.preg.val, x.mode.val)] | none => [])

/-- The keys of R99 that an instruction's issue waits for. -/
def Op.needs (o : Op) : List Nat :=
  o.dUse.map kUse ++ o.aAcc.map kAcc ++ o.aMov.map kMov ++ o.aPart.map kPart
    ++ (if o.rnd then [kRnd] else [])
    ++ o.accesses.flatMap (fun x => agKeys x.1 x.2)
    ++ (match o.st with
        | some x => match x.src with
          | .reg i => [kUse i.val]
          | .rnd a _ => [kMov a.val, kRnd]
          | .raw a _ => [kMov a.val]
        | none => [])
    ++ (match o.ctl with
        | .branchIf c _ => match c with
          | .ac n | .nac n => [kBr n.val]
          | _ => [kFlag]
        | .repD _ i => [kRep i, kUse i]
        | _ => [])

/-- Whether the issue of an instruction makes the end-of-block tests of its address: not where it is a taken branch, a
call or a return, and DONE closes every level (R97). A conditional branch is tested where it is not taken, and the
stall before it does not depend on that (R98, R120). -/
def Op.tests (o : Op) : Bool :=
  match o.ctl with | .branch _ | .call _ | .ret | .done => false | _ => true

/-- The levels whose end-of-block test an issue at an address makes, those still to be tested first. -/
def levelsAt (pc : Nat) (ls : List Level) : List Level := ls.filter fun v => v.stop == pc

/-- End-of-block tests (R96, R97, R126): innermost first; a level that loops ends them. -/
def endTests (pc : Nat) : List Level → Arch → Arch × Option Nat
  | [], r => (r, none)
  | v :: t, r =>
    if v.stop = pc then
      let c := r.rlc v.n
      if 1 < c.toNat then (r.setLc v.n (c - 1#16), some v.start)
      else endTests pc t { r.setLc v.n 0#16 with levels := r.levels.filter (fun w => w.n != v.n) }
    else endTests pc t r

/-- The fault codes of R106. -/
def fIllegal : Nat := 1
def fPcEnd : Nat := 2
def fRepDepth : Nat := 3
def fRepEnd : Nat := 4
def fCallDepth : Nat := 5
def fRetEmpty : Nat := 6
def fXmem : Nat := 7
def fYmem : Nat := 8
def fPmem : Nat := 9
def fBudget : Nat := 10
def fCoil : Nat := 11

/-- A word written by a stake or a DMA engine mirrored (R316, R317): a donor mirrors every such
write to a stake's or a coil's memory, output windows only from boundary W, and a committed cluster's no more
but for the fills of long coil reads. -/
def State.mirrorNote (s : State) (addr : Nat) (v : Word) (fill : Bool) : State :=
  match s.pair.rejoin with
  | none => s
  | some r =>
    let stake := Nat.ble 0x0700000000 addr
    let c := if stake then (addr - 0x0700000000) / 0x400000 else (addr - 0x0600000000) / 0x200000
    let window := stake && Nat.ble 0x3C000 ((addr - 0x0700000000) % 0x80000)
    let open_ := match r.w with | some w => Nat.ble w s.sys.roundNo | none => false
    if r.donor && (!window || open_) && (fill || !r.done.contains c) then
      { s with pair := { s.pair with mirrored := s.pair.mirrored + 4, mirror := s.pair.mirror ++ [⟨addr, [v], false⟩] } }
    else s

/-- One store of a stake carried out to memory, with fresh ECC. -/
def State.storeWord (s : State) (addr : Nat) (v : Word) : State :=
  ((s.setWord addr v).freshEcc addr).mirrorNote addr v false

/-- Stores to X and Y carried out to memory (R100): those up to an issue cycle, or all. -/
def State.commit (s : State) (ps : List PStore) : State :=
  ps.foldl (fun s p => s.storeWord p.addr p.data) s

/-- The X and Y stores of a stopped stake carried out once no coil access of it waits. -/
def State.drainStores (s : State) (k : Nat) : State :=
  let t := s.stake k
  if t.reqs = [] then (s.commit t.arch.stores).setStake k { t with arch := { t.arch with stores := [] } } else s

/-- A stake stopped by a fault (R106, R149): earlier instructions complete, RUNST, FAULT, STK_PC and STK_ST
record it, and the cluster's map and event are set. -/
def State.stopStake (s : State) (k code pc : Nat) : State :=
  let t := s.stake k
  let s := s.setStake k { t with run := .stopped, fault := code, lastPc := pc, stCopy := t.arch.st, frz := [] }
  let s := s.drainStores k
  let c := k / 8
  let s := (s.setBit (CL_STAT c) (k % 8)).raise (CL_EVT_FAULT c)
  s.setCluster c { s.cluster c with faulted := true }

/-- A word that a load reads, none for an uncorrectable error (R78). -/
def State.loadWord (s : State) (a : Nat) : Option Word := if s.ue a then none else some (s.word a)

/-- One slot's load: the fault it meets, or the word and whether the access is one that ACCV marks. -/
def State.slotLoad (s : State) (place : Option Nat) (code : Nat) : Sum Nat (Word × Bool) :=
  match place with
  | none => .inr (0#32, true)
  | some a => match s.loadWord a with
    | none => .inl code
    | some w => .inr (w, false)

/-- The word a store slot writes, from the registers before the instruction, and whether it saturated. -/
def Arch.storeData (r : Arch) : StoreSrc → Word × Bool
  | .reg i => (r.rd i.val, false)
  | .rnd a k => roundAcc r.rnd (r.acc a.val) k.val
  | .raw a p => (rawPart (r.acc a.val) p, false)

/-- Results of the loads of an instruction that do not go to coil. -/
structure Loaded where
  regs : List (Nat × Word)
  accs : List (Nat × Word)
  accv : Bool

/-- The loads from X and Y, or the fault of the first that meets an uncorrectable error. -/
def State.loads (s : State) (k : Nat) (r : Arch) (o : Op) : Sum Nat Loaded :=
  let q := s.sys.parity
  let fromX (n mode : Nat) := s.slotLoad (xPlace k q (r.ea n mode)).1 fXmem
  let x1 := match o.l1 with
    | some x => if x.coil then .inr none else (fromX x.preg.val x.mode.val).map id some
    | none => .inr none
  let xa := match o.lda with
    | some x => if x.coil then .inr none else (fromX x.preg x.mode).map id some
    | none => .inr none
  let x2 := match o.l2 with
    | some x => (s.slotLoad (yPlace k q (r.ea x.preg.val x.mode.val)) fYmem).map id some
    | none => .inr none
  match (x1 : Sum Nat (Option (Word × Bool))), (xa : Sum Nat (Option (Word × Bool))),
      (x2 : Sum Nat (Option (Word × Bool))) with
  | .inl f, _, _ | .inr _, .inl f, _ | .inr _, .inr _, .inl f => .inl f
  | .inr w1, .inr wa, .inr w2 =>
    let reg (d : Option Nat) (w : Option (Word × Bool)) : List (Nat × Word) :=
      match d, w with | some i, some v => [(i, v.1)] | _, _ => []
    let bad (w : Option (Word × Bool)) : Bool := match w with | some v => v.2 | none => false
    .inr { regs := reg (o.l1.map (·.dst.val)) w1 ++ reg (o.l2.map (·.dst.val)) w2,
           accs := reg (o.lda.map (·.acc)) wa, accv := bad w1 || bad wa || bad w2 }

/-- The words of X and Y that the loads of an instruction read. -/
def Op.reads (o : Op) (k q : Nat) (r : Arch) : List Nat :=
  ((match o.l1 with | some x => if x.coil then [] else (xPlace k q (r.ea x.preg.val x.mode.val)).1.toList | none => [])
    ++ (match o.lda with | some x => if x.coil then [] else (xPlace k q (r.ea x.preg x.mode)).1.toList | none => []))
    ++ (match o.l2 with | some x => (yPlace k q (r.ea x.preg.val x.mode.val)).toList | none => [])

/-- The registers after an instruction's own effects: post-modifications in slot order, the compute part,
the words loaded, and the events of R104 last. -/
def Op.apply (o : Op) (r : Arch) (ld : Loaded) (sat accv : Bool) : Arch :=
  let r1 := o.accesses.foldl (fun q x => match r.post x.1 x.2 with | some v => q.setP x.1 v | none => q) r
  let last (n : Nat) : Bool := (o.accesses.filter fun x => x.1 == n).getLast?.elim true fun x => (r.post x.1 x.2).isSome
  let r1 := (List.range 8).foldl (fun q n => if last n then q else q.setP n (r.rp n)) r1
  let r2 := o.run r r1
  let r3 := ld.regs.foldl (fun q w => q.setD w.1 w.2) r2
  let r4 := ld.accs.foldl (fun q w => q.replace w.1 (sWord w.2 * 2147483648)) r3
  let r5 := if sat then r4.evSat else r4
  if ld.accv || accv then r5.evAccv else r5

/-- The end-of-block tests of an issue (R96, R97, R99): they read the counters in DE, so an instruction's own move into
one comes after its test and stands. -/
def Op.endOfBlock (o : Op) (old r : Arch) (pc : Nat) : Arch × Option Nat :=
  match o.sreg with
  | some (.lc n) =>
    let (r', loop) := endTests pc r.levels { r with lc := old.lc }
    (r'.setLc n.val (r.rlc n.val), loop)
  | _ => endTests pc r.levels r

/-- The levels after a taken branch (R97): one within the innermost block leaves every level active, and any other
closes the levels whose block does not hold its target. -/
def Arch.branchTo (r : Arch) (t : Nat) : Arch :=
  let inside (v : Level) : Bool := Nat.ble v.start t && Nat.ble t v.stop
  if (r.levels.head?.any inside) then r else { r with levels := r.levels.filter inside }

/-- The loop counter of the next level: the lowest that no active level uses, which in nested blocks is their number
(R95). Where overlapping blocks left a gap the spec names none (DESIGN CHOICE, assumption log). -/
def Arch.nextLevel (r : Arch) : Nat := ((List.range 4).find? fun n => r.levels.all fun v => v.n != n).getD 0

/-- Where a control transfer goes: the fault it meets, or the registers, the next address and the cycles
it takes (R96, R97, R101, R126). -/
def Op.transfer (o : Op) (old r : Arch) (pc : Nat) : Sum Nat (Arch × Nat × Nat) :=
  let go (r : Arch) (t : Nat) : Arch := r.branchTo t
  let seq (r : Arch) (cost : Nat) : Arch × Nat × Nat :=
    let (r', loop) := o.endOfBlock old r pc
    (r', loop.getD (pc + 1), cost)
  let open_ (stop c : Nat) : Sum Nat (Arch × Nat × Nat) :=
    if 4 ≤ r.levels.length then .inl fRepDepth
    else if stop < pc + 1 then .inl fRepEnd
    else if c = 0 then
      let (r', loop) := endTests pc r.levels r
      .inr (r', loop.getD (stop + 1), 2)
    else
      let n := r.nextLevel
      let (r', loop) := endTests pc r.levels r
      .inr ({ r'.setLc n (BitVec.ofNat 16 c) with levels := ⟨n, pc + 1, stop⟩ :: r'.levels }, loop.getD (pc + 1), 1)
  match o.ctl with
  | .seq => .inr (seq r 1)
  | .branch t => .inr (go r t, t, 2)
  | .branchIf c t => if old.holds c then .inr (go r t, t, 3) else .inr (seq r 1)
  | .call t => if 8 ≤ r.ret.length then .inl fCallDepth else .inr ({ r with ret := (pc + 1) :: r.ret }, t, 2)
  | .ret => match r.ret with
    | [] => .inl fRetEmpty
    | t :: rest => .inr ({ r with ret := rest }, t, 2)
  | .rep stop c => open_ stop c
  | .repD stop i => open_ stop (bitsOf (old.rd i) 15 0)
  | .done => .inr ({ r with levels := [], ret := [] }, pc + 1, 1)

/-- The keys of an accumulator that a coil load fills: R99 names accumulation, rounded and raw reads and branches, and R98
interlocks AADD, ASUB and MOVAP that read it the same way. -/
def accKeys (n : Nat) : List Nat := [kAcc n, kMov n, kBr n, kPart n]

/-- The cycles noted for later consumers (R99). -/
def Op.produces (o : Op) (t : Nat) (hz : SMap Nat) : SMap Nat :=
  let loadRegs := (match o.l1 with | some x => if x.coil then [] else [x.dst.val] | none => [])
    ++ (match o.l2 with | some x => [x.dst.val] | none => [])
  let coilReg := match o.l1 with | some x => if x.coil then [x.dst.val] else [] | none => []
  let aOut := o.aOut ++ (match o.lda with | some x => [x.acc] | none => [])
  let coilAcc := match o.lda with | some x => if x.coil then [x.acc] else [] | none => []
  let hz := hzSet hz ((loadRegs ++ o.dAlu).map kUse) (t + 1)
  let hz := hzSet hz ((loadRegs ++ o.dAlu).map kRep) (t + 4)
  let hz := hzSet hz (o.dMov.flatMap fun i => [kUse i, kRep i]) (t + 2)
  let hz := hzSet hz (coilReg.flatMap fun i => [kUse i, kRep i]) (t + 7)
  let hz := hzSet hz (o.accesses.filterMap fun x => if x.2 = 0 ∨ x.2 = 4 then none else some (kP x.1)) (t + 1)
  let hz := hzSet hz (aOut.flatMap fun n => [kAcc n, kPart n]) (t + 1)
  let hz := hzSet hz (aOut.map kMov) (t + 2)
  let hz := hzSet hz (aOut.map kBr) (t + 4)
  let hz := hzSet hz (coilAcc.flatMap accKeys) (t + 7)
  let hz := if o.nz then hzSet hz [kFlag] (t + 3) else hz
  match o.sreg with
  | some (.p n) => hzSet hz [kP n.val] (t + 3)
  | some (.m n) => hzSet hz [kM n.val] (t + 3)
  | some (.b n) => hzSet hz [kB n.val] (t + 3)
  | some (.l n) => hzSet hz [kL n.val] (t + 3)
  | some (.lc n) => hzSet hz [kLc n.val] (t + 4)
  | some .st => hzSet (hzSet hz [kRnd] (t + 1)) [kFlag] (t + 3)
  | _ => hz

/-- The issue cycle of an instruction (R98 to R101): after the instruction before it, after the freezes
of its coil waits, and after every distance of R99. -/
def Stake.issueCycle (t : Stake) (needs : List Nat) : Nat :=
  let base := t.frz.foldl (fun b f => if f.1 ≤ b then b + f.2 else b) t.cyc
  let c := max base (hzAll t.hz needs)
  t.frz.foldl (fun c f => if f.1 ≤ c && Nat.blt c (f.1 + f.2) then f.1 + f.2 else c) c

/-- The loop counters whose tests an issue makes. -/
def Arch.testKeys (r : Arch) : List Nat := (levelsAt r.pc r.levels).map fun v => kLc v.n

/-- The destination of an instruction's coil load. -/
def Op.coilDst (o : Op) : List CoilDst :=
  (match o.l1 with | some x => if x.coil then [.reg x.dst.val] else [] | none => [])
    ++ (match o.lda with | some x => if x.coil then [.acc x.acc] else [] | none => [])

/-- Whether an instruction writes a coil load's destination: the younger result stands (R98). -/
def Op.writes (o : Op) : CoilDst → Bool
  | .reg i => (o.dAlu ++ o.dMov).contains i || o.l1.any (fun x => x.dst.val == i) || o.l2.any fun x => x.dst.val == i
  | .acc n => o.aOut.contains n || o.lda.any fun x => x.acc == n

/-- The coil loads still to come after an issue: those before whose destination it does not write, and its own. -/
def Op.dueAfter (o : Op) (cycle : Nat) (due : List (Nat × CoilDst)) : List (Nat × CoilDst) :=
  due.filter (fun e => !o.writes e.2) ++ o.coilDst.map fun d => (cycle, d)

/-- Events that fall in the cycle in which a move into ST clears their bits end set (R104): a clamp, in AC, and a store
to a place that takes none, written in AC, of the instruction issued one cycle before. `ovgAt` and `accvAt` hold
one more than the issue cycle of such a move, and 0 without one. -/
def Arch.keepEvents (o r : Arch) (cycle : Nat) : Arch :=
  let r := if o.ovgAt = cycle + 1 then r.setSt 0 true else r
  if o.accvAt = cycle + 1 then r.setSt 2 true else r

/-- Whether an instruction clamped an accumulator (R87). -/
def Arch.clamped (o r : Arch) : Bool := (List.range 8).any fun n => !o.ac n && r.ac n

/-- The coil accesses of an instruction, the load before the store (R116, R134); the request is made in MA, three cycles
after the issue (R100). -/
def Op.coilReqs (o : Op) (k cycle : Nat) (r : Arch) : List CoilReq :=
  (match o.l1 with
    | some x => if x.coil then [⟨cycle, cycle + 3, coilPlace k (r.ea x.preg.val x.mode.val), some (.reg x.dst.val), 0#32, false, r⟩] else []
    | none => [])
  ++ (match o.lda with
    | some x => if x.coil then [⟨cycle, cycle + 3, coilPlace k (r.ea x.preg x.mode), some (.acc x.acc), 0#32, false, r⟩] else []
    | none => [])
  ++ (match o.st with
    | some x => if x.sp = .c then
        [⟨cycle, cycle + 3, coilPlace k (r.ea x.preg.val x.mode.val), none, (r.storeData x.src).1, !o.coilDst.isEmpty, r⟩] else []
    | none => [])

/-- Where an X or Y store of an instruction goes: nothing for coil or no slot, `some none` for a place
that takes no store (R82). -/
def Op.storePlace (o : Op) (k q : Nat) (r : Arch) : Option (Option Nat) :=
  match o.st with
  | none => none
  | some x =>
    let ea := r.ea x.preg.val x.mode.val
    match x.sp with
    | .c => none
    | .x => let (a, w) := xPlace k q ea; some (if w then a else none)
    | .y => some (yPlace k q ea)

/-- Whether an instruction's rounded store saturates (R90). -/
def Op.storeSat (o : Op) (r : Arch) : Bool := match o.st with | some x => (r.storeData x.src).2 | none => false

/-- Whether an instruction's store names a place that takes none (R82). -/
def Op.storeVoid (o : Op) (k q : Nat) (r : Arch) : Bool :=
  match o.storePlace k q r with | some none => true | _ => false

/-- The issue of one instruction by a stake. A stake that is not RUNNING, or that is frozen by a coil wait,
issues nothing. -/
def State.issue (s : State) (k : Nat) (o : Op) : State :=
  let t := s.stake k
  let r := t.arch
  let pc := r.pc
  let c := t.issueCycle (o.needs ++ if o.tests then r.testKeys else [])
  let frozen := t.reqs.any fun q => Nat.ble q.req c
  if !s.issues k || t.doneAt.isSome || frozen then s
  else if s.ue (pmemPlace k pc) then s.stopStake k fPmem pc
  else
    let s := s.corrected (pmemPlace k pc)
    if !o.legal then s.stopStake k fIllegal pc else
    let due := r.stores.filter fun p => Nat.ble (p.cycle + 3) c
    let s1 := s.commit due
    let r := { r with stores := r.stores.filter fun p => !Nat.ble (p.cycle + 3) c }
    let s1 := (s1.setStake k { t with arch := r }).readEcc (o.reads k s.sys.parity r)
    match s1.loads k r o with
    | .inl f => s1.stopStake k f pc
    | .inr ld =>
      let place := o.storePlace k s.sys.parity r
      let void := o.storeVoid k s.sys.parity r
      let r2 := o.apply r ld (o.storeSat r) void
      let r2 := if o.sreg = some .st then r.keepEvents r2 c else r2
      match o.transfer r r2 pc with
      | .inl f => s1.stopStake k f pc
      | .inr (r3, next, cost) =>
        let stores := match place, o.st with
          | some (some a), some x => r3.stores ++ [⟨c, a, (r.storeData x.src).1⟩]
          | _, _ => r3.stores
        let isDone := match o.ctl with | .done => true | _ => false
        let t' := { t with
          arch := { r3 with
            pc := next % 8192, stores := stores, due := o.dueAfter c r3.due,
            ovgAt := if r.clamped r2 then c + 2 else r.ovgAt, accvAt := if void then c + 2 else r.accvAt },
          lastPc := pc, cyc := c + cost,
          hz := o.produces c t.hz, reqs := t.reqs ++ o.coilReqs k c { r with stores := r.stores },
          frz := t.frz.filter fun f => !Nat.ble f.1 c,
          doneAt := if isDone then some c else none }
        let s2 := s1.setStake k t'
        if 8192 ≤ next && !isDone then s2.stopStake k fPcEnd pc else s2

/-- A coil word put where its load asks for it, unless a younger instruction has written there (R98). -/
def Arch.deliver (r : Arch) (id : Nat) (d : CoilDst) (w : Word) : Arch :=
  if r.due.contains (id, d) then
    let r := { r with due := r.due.filter fun e => e != (id, d) }
    match d with
    | .reg i => r.setD i w
    | .acc n => r.replace n (sWord w * 2147483648)
  else r

/-- The waiting requests after a freeze of their stages (R100): each is made that much later. -/
def laterReqs (l : List CoilReq) (w : Nat) : List CoilReq := l.map fun q => { q with req := q.req + w }

/-- A stake whose oldest coil access is granted `wait` cycles after its request: the instruction's last grant ends the
freeze, which holds every request behind it (R100). -/
def Stake.granted (t : Stake) (wait : Nat) : Stake :=
  match t.reqs with
  | [] => t
  | q :: rest =>
    if (rest.all fun x => x.cycle != q.cycle) && wait != 0 then
      { t with reqs := laterReqs rest wait, frz := t.frz ++ [(q.req, wait)] }
    else { t with reqs := rest }

/-- A granted load's word in a stake and in what its waiting loads go back to; readers count 4 cycles from the grant
(R99, R106). -/
def Stake.deliver (t : Stake) (id : Nat) (d : CoilDst) (w : Word) (g : Nat) : Stake :=
  let ks := match d with
    | .reg i => [kUse i, kRep i]
    | .acc n => accKeys n
  { t with
    arch := t.arch.deliver id d w,
    hz := if t.arch.due.contains (id, d) then hzSet t.hz ks (g + 4) else t.hz,
    reqs := t.reqs.map fun q => { q with undo := q.undo.deliver id d w } }

/-- A grant of port A to a stake's oldest coil access, `wait` stake cycles after its request (R100, R116,
R134, R137). -/
def State.grant (s : State) (k wait : Nat) : State :=
  let t := s.stake k
  match t.reqs with
  | [] => s
  | q :: _ =>
    match q.load with
    | some d =>
      let s := s.corrected q.addr
      match s.loadWord q.addr with
      | none =>
        let s := s.setStake k { t with arch := q.undo, lastPc := q.undo.pc, reqs := [], doneAt := none }
        s.stopStake k fCoil q.undo.pc
      | some w =>
        let s := s.setStake k ((t.granted wait).deliver q.cycle d w (q.req + wait))
        if t.run = .running then s else s.drainStores k
    | none =>
      let s := (s.storeWord q.addr q.data).setStake k (t.granted wait)
      if t.run = .running then s else s.drainStores k

end Sys2Proof.Machine
end

