-- ==== Sys2Proof/Machine/Bus.lean ====
section
/-! DEFINITION. Machine/Bus.lean: the paths of the bus matrix, the host window and the recording of
error responses (R7, R8 of spec/00_scope.md; R452 to R454, R470, R476, R543 of
spec/15_matrix_mailboxes_host.md). -/
namespace Sys2Proof.Machine

open Reg

/-- Base of the register space (R10). -/
def regBase : Nat := 0x0800000000

/-- What a fabric address lies in (R10). -/
inductive Space where
  | lpddr
  | flash
  | retention
  | directory
  | coil (c : Nat)
  | stake (k off : Nat)
  | register (off : Nat)
  | nothing
deriving DecidableEq, Repr

def spaceOf (addr : Nat) : Space :=
  if addr < 0x0200000000 then .lpddr
  else if within 0x0400000000 0x040FFFFFFF addr then .flash
  else if within 0x0500000000 0x05001FFFFF addr then .retention
  else if within 0x0510000000 0x05103FFFFF addr then .directory
  else if within 0x0600000000 0x0601FFFFFF addr then .coil ((addr - 0x0600000000) / 0x200000)
  else if within 0x0700000000 0x0703FFFFFF addr then .stake ((addr - 0x0700000000) / 0x80000) ((addr - 0x0700000000) % 0x80000)
  else if within 0x0800000000 0x0801FFFFFF addr then .register (addr - 0x0800000000)
  else .nothing

/-- Whether a memory address is populated (R8): of LPDDR5X the first 256 MiB, whose layout R431 gives, and what is installed beyond. -/
def populated (addr : Nat) : Bool :=
  match spaceOf addr with
  | .lpddr => Nat.blt addr 0x10000000 || Nat.blt addr Config.lpddrBytes
  | .stake _ off => Nat.blt off 0x50200
  | .nothing => false
  | _ => true

/-- KIND codes of MATRIX_ERR_INFO (R476). -/
inductive ErrKind where
  | nopath | align | unpop | block | stall | host
deriving DecidableEq, Repr

def ErrKind.code : ErrKind → Nat
  | .nopath => 1 | .align => 2 | .unpop => 3 | .block => 4 | .stall => 5 | .host => 6

/-- What an error response records (R454, R476); a denied host access also sets HOST_DENIED and is logged
(R470), a stall limit sets STALL. -/
def State.errLog (s : State) (port : Nat) (k : ErrKind) (write : Bool) (addr : Nat) : State :=
  let s := s.setRegN MATRIX_ERR_INFO
    (k.code * 2 ^ 28 + (if write then 2 ^ 27 else 0) + port * 256 + (if port < 32 then port else 31))
  let s := s.setRegN MATRIX_ERR_ADDR_LO addr
  let s := s.setRegN MATRIX_ERR_ADDR_HI (if k = .host then 0 else addr / 2 ^ 32)
  let s := s.setReg MATRIX_ERR_CNT (sat32 (s.reg MATRIX_ERR_CNT))
  let s := s.raise MATRIX_EVT_ERR
  match k with
  | .stall => s.raise MATRIX_EVT_STALL
  | .host => (s.raise MATRIX_EVT_HOST_DENIED).privViol port addr
  | _ => s

/-- The access in progress completes with an error response, which is recorded. -/
def State.errRec (s : State) (port : Nat) (k : ErrKind) (write : Bool) (addr : Nat) : State :=
  (s.errLog port k write addr).err

/-- A word that an engine of the part reads through its port: 0 with a recorded error where nothing is populated (R8). -/
def State.engineRead (s : State) (port addr : Nat) : State × Word :=
  if populated addr then (s, s.word addr) else (s.errLog port .unpop false addr, 0#32)

/-- A write of such an engine lets memory be and is recorded where nothing is populated (R8). -/
def State.engineWrite (s : State) (port addr : Nat) (f : State → State) : State :=
  if populated addr then f s else s.errLog port .unpop true addr

/-- The host window offset at which a host reaches a register for a write or a read (R470), none where
the window does not show it. -/
def hostWindow (a : Nat) (reg : Nat) (write : Bool) : Option Nat :=
  let mb := if a = 3 then 20 else 24
  if 0x100180 ≤ reg ∧ reg ≤ 0x100197 then some (0x3000 + (reg - 0x100180))
  else if 0x500280 ≤ reg ∧ reg ≤ 0x5002AB then some (0x3100 + (reg - 0x500280))
  else if reg = TRUST_CAP_CTL ∧ write then some 0x3200
  else if reg = TRUST_CAP_STAT ∧ !write then some 0x3204
  else if reg = PWR_RECOV then some 0x3300
  else if 0x41000 ≤ reg ∧ reg ≤ 0x4103F then some (0x2000 + (reg - 0x41000))
  else if reg = MBOX_SEND ∧ write then some 0x2040
  else if reg = MBOX_SEND_STAT ∧ !write then some 0x2044
  else if 0x40000 + 64 * mb ≤ reg ∧ reg < 0x40000 + 64 * (mb + 4) ∧ !write then some (0x2100 + (reg - (0x40000 + 64 * mb)))
  else if 0x40800 + 4 * mb ≤ reg ∧ reg < 0x40800 + 4 * (mb + 4) then some (0x2200 + (reg - (0x40800 + 4 * mb)))
  else if reg = MBOX_RELEASE ∧ write then some 0x2210
  else if reg = MBOX_DB a then some 0x2220
  else if reg = MBOX_MASK a then some 0x2224
  else if reg = MBOX_ACK a then some 0x2228
  else if reg = MBOX_ACK_MASK a then some 0x222C
  else if LOCK 56 ≤ reg ∧ reg ≤ LOCK 63 then some (0x2400 + (reg - LOCK 56))
  else if LOCK_PEEK 56 ≤ reg ∧ reg ≤ LOCK_PEEK 63 ∧ !write then some (0x2420 + (reg - LOCK_PEEK 56))
  else none

/-- The register a writable or readable window offset reaches for a host: the inverse of `hostWindow`. -/
def windowReg (a : Nat) (w : Nat) : Option Nat :=
  let mb := if a = 3 then 20 else 24
  if 0x3000 ≤ w ∧ w ≤ 0x3017 then some (0x100180 + (w - 0x3000))
  else if 0x3100 ≤ w ∧ w ≤ 0x312B then some (0x500280 + (w - 0x3100))
  else if w = 0x3200 then some TRUST_CAP_CTL
  else if w = 0x3204 then some TRUST_CAP_STAT
  else if w = 0x3300 then some PWR_RECOV
  else if 0x2004 ≤ w ∧ w ≤ 0x203F then some (0x41000 + (w - 0x2000))
  else if w = 0x2040 then some MBOX_SEND
  else if w = 0x2044 then some MBOX_SEND_STAT
  else if 0x2100 ≤ w ∧ w ≤ 0x21FF then some (0x40000 + 64 * mb + (w - 0x2100))
  else if 0x2200 ≤ w ∧ w ≤ 0x220F then some (0x40800 + 4 * mb + (w - 0x2200))
  else if w = 0x2210 then some MBOX_RELEASE
  else if w = 0x2220 then some (MBOX_DB a)
  else if w = 0x2224 then some (MBOX_MASK a)
  else if w = 0x2228 then some (MBOX_ACK a)
  else if w = 0x222C then some (MBOX_ACK_MASK a)
  else if 0x2400 ≤ w ∧ w ≤ 0x241F then some (LOCK 56 + (w - 0x2400))
  else if 0x2420 ≤ w ∧ w ≤ 0x243F then some (LOCK_PEEK 56 + (w - 0x2420))
  else none

/-- Whether R453 gives an agent a path to a register for a read or a write. -/
def regPath (a : Nat) (reg : Nat) (write : Bool) : Bool :=
  if 0x1000000 ≤ reg then a < 2 || (a == 2 && !write)
  else if 0x40000 ≤ reg && reg < 0x50000 then a < 22
  else if 0x50000 ≤ reg && reg < 0x60000 then a < 22 && a != 5
  else a < 3 || a == 3 || a == 4

/-- Whether Bare mode closes a port's paths (R474): only ports 0 and 32 keep theirs. -/
def State.bareClosed (s : State) (a : Nat) : Bool := s.flag ALARM_CTL_BARE && a != 0 && a != 32

/-- Whether a master port's requests are accepted (R459, R474): it is connected, and a host's interface
is enabled and not in Bare mode; in Rim and under RST_N there is no fabric. -/
def State.accepted (s : State) (a : Nat) : Bool :=
  bitAt (s.reg (MATRIX_PORT_STAT a)) 31 && s.rf PWR_STAT_STATE != 3 && !s.power.rstLow
    && (a != 3 || s.flag MATRIX_HOST_CFG_PCIE_EN) && (a != 4 || s.flag MATRIX_HOST_CFG_QSPI_EN)
    && (!s.flag ALARM_CTL_BARE || (a != 3 && a != 4))

/-- The first rule of R454 before the block's own that an aligned 32-bit register access breaks. -/
def State.pathErr (s : State) (a : Nat) (reg : Nat) (write : Bool) : Option ErrKind :=
  if (a = 3 ∨ a = 4) ∧ (hostWindow a reg write).isNone then some .host
  else if (regRow reg).isNone then some .unpop
  else if s.bareClosed a || !regPath a reg write then some .nopath
  else none

/-- The address recorded for a register access that fails: the fabric address, or for a host the
window offset it used (R543). -/
def errAddr (a reg : Nat) (write : Bool) : Nat :=
  if a = 3 ∨ a = 4 then (hostWindow a reg write).getD reg else regBase + reg

/-- The participant that stops a domain in the handshake in progress, none where it is not being gated (R483). Domains 0
to 15 are the clusters, 16 and 17 the compute dies, 18 is LPDDR5X. -/
def State.gating (s : State) (d : Nat) : Option Nat :=
  match s.power.hand with
  | none => none
  | some h =>
    if d < 16 then (if h.gate.testBit d then some 6 else none)
    else if Nat.ble d 18 && Nat.ble 2 h.target && Nat.ble h.prior 1 then (if d < 18 then some 8 else some 9)
    else none

/-- Whether a domain has already been stopped for a handshake. -/
def State.stopped (s : State) (d : Nat) : Bool :=
  match s.power.hand, s.gating d with
  | some h, some p => h.accepted.contains p
  | _, _ => false

/-- An access to a domain that a handshake is gating, before its participant has accepted: the participant will refuse with
DEMAND (R488). -/
def State.demandOn (s : State) (d : Nat) : State :=
  match s.power.hand, s.gating d with
  | some h, some p =>
    if h.demand.contains p then s else { s with power := { s.power with hand := some { h with demand := h.demand ++ [p] } } }
  | _, _ => s

/-- The compute die of a CLUSTER register. -/
def regDie (reg : Nat) : Nat := if reg < 0x1800000 then 16 else 17

/-- Whether a register's domain sleeps (R157): the compute die of a CLUSTER register is off. -/
def State.regAsleep (s : State) (reg : Nat) : Bool :=
  Nat.ble 0x1000000 reg
    && (!(if regDie reg = 16 then s.flag PWR_STAT_CD0 else s.flag PWR_STAT_CD1) || s.stopped (regDie reg))

/-- The wake of a domain begun, unless it is in progress (R491). -/
def State.wakeDomain (s : State) (d : Nat) : State :=
  if s.power.waking.any fun x => x.1 == d then s
  else { s with power := { s.power with waking := s.power.waking ++ [(d, s.now)] } }

/-- The domain that a register lies in when it sleeps: its cluster, woken with the die. -/
def regDomain (reg : Nat) : Nat := (reg - 0x1000000) / 0x100000 % 16

/-- The domain that an address lies in: LPDDR5X, or the cluster of a coil, a stake window or a CLUSTER register; 31 for an
address that no domain gates. -/
def stallDomain (addr : Nat) : Nat :=
  if addr < 0x0200000000 then 18
  else if Nat.ble 0x0600000000 addr && Nat.blt addr 0x0602000000 then (addr - 0x0600000000) / 0x200000
  else if Nat.ble 0x0700000000 addr && Nat.blt addr 0x0704000000 then (addr - 0x0700000000) / 0x400000
  else if Nat.ble (regBase + 0x1000000) addr then regDomain (addr - regBase)
  else 31

/-- Whether a port has as many transactions outstanding as it may have (R455): 16 a DMA engine, 8 any other port. -/
def State.portFull (s : State) (a : Nat) : Bool :=
  Nat.ble (if within 22 25 a then 16 else 8) (s.power.stalls.filter fun x => x.agent == a).length

/-- An access stalled on a sleeping domain, which it wakes unless a handshake is gating it (R458, R488, R491); one of a port
that may have no more outstanding is not taken. -/
def State.stallOn (s : State) (d a addr : Nat) (write : Bool) (size : Nat) (v : Word) : State :=
  if s.portFull a then s
  else
    let s := { s with power := { s.power with stalls := s.power.stalls ++ [⟨a, addr, write, size, v, s.now⟩] } }
    if s.power.hand.isSome then s else s.wakeDomain d

def State.stall (s : State) (a addr : Nat) (write : Bool) (size : Nat) (v : Word) : State :=
  s.stallOn (stallDomain addr) a addr write size v

/-- Whether a register holds part of the key, salt or SSCI of a secure association (R277). -/
def secKeyReg (reg : Nat) : Bool :=
  within 0x300000 0x36FFFF reg && !within 0x308000 0x30FFFF reg && within 0x4000 0x60FF (reg % 0x10000)
    && Nat.blt (reg % 64) 0x30

/-- What a refused register access does beside its error response (R53, R67, R277); a host's is logged with the error
(R470). -/
def State.deniedHook (s : State) (p reg : Nat) (write : Bool) : State :=
  if write ∧ (reg = WEAVE_AGRP_SET ∨ reg = WEAVE_AGRP_CLR) then s.raise WEAVE_EVT_AGRP_DENIED
  else if (p = 3 ∨ p = 4) ∧ within 0x140000 0x17FFFF reg = true then s.raise BORDER_EVT_DENIED
  else if write ∧ secKeyReg reg = true ∧ p ≠ 0 ∧ p ≠ 3 ∧ p ≠ 4 then s.privViol p (regBase + reg)
  else s

/-- A register access by an agent: refused by the paths, with what the block's own rule does beside the error, stalled on a
sleeping domain, or carried out, an error response of the block being recorded. -/
def State.access (s : State) (a : Nat) (reg : Nat) (write : Bool) (v : Word) (f : State → State) : State :=
  if s.accepted a then
    match s.pathErr a reg write with
    | some k => (s.deniedHook a reg write).errRec a k write (errAddr a reg write)
    | none =>
      if s.regAsleep reg then s.stall a (regBase + reg) write 4 v else
      let s' := f ((if 0x1000000 ≤ reg then s.demandOn (regDie reg) else s).ok 0#32)
      if s'.bus.err then s'.errRec a .block write (errAddr a reg write) else s'
  else s

/-- A register write by an agent. -/
def State.regWrite (s : State) (a : Agent) (reg : Nat) (v : Word) (f : State → State) : State :=
  s.access a.val reg true v f

end Sys2Proof.Machine
end

