-- ==== Sys2Proof/Machine/Frames.lean ====
section
/-! DEFINITION. Machine/Frames.lean: what the bytes of an Ethernet frame say: EtherTypes and ports (R256), checksums (R257,
R266), stream frames (R295 to R300). The places of the fields of IPv4, IPv6, UDP, TCP, RTP and AAF are those of the standards
that the spec names. -/
namespace Sys2Proof.Machine

/-! ### EtherTypes -/

/-- Two bytes of a frame, most significant first. -/
def be16 (l : List Byte) (i : Nat) : Nat := beAt l i 2

/-- Where the EtherType of a frame stands, after a VLAN tag. -/
def etherAt (l : List Byte) : Nat := if be16 l 12 = 0x8100 then 16 else 12

/-- Where the EtherType of the content stands, after an R-TAG too (R300). -/
def innerAt (l : List Byte) : Nat := if be16 l (etherAt l) = 0xF1C1 then etherAt l + 6 else etherAt l

/-! ### IP (R257, R266) -/

/-- The segment that an IP packet carries whole: its protocol, where it stands, its length, and the addresses of its
pseudo-header. -/
structure Seg where
  proto : Nat
  at_ : Nat
  len : Nat
  addrs : List Byte

/-- The upper-layer header of an IPv6 packet from a next header on: extension headers are passed over, and a fragment has
none. -/
def ip6Seg (l addrs : List Byte) (stop : Nat) : Nat → Nat → Nat → Option Seg
  | 0, _, _ => none
  | n + 1, next, o =>
    if next = 0 ∨ next = 43 ∨ next = 60 then ip6Seg l addrs stop n (byteAt l o) (o + 8 * (byteAt l (o + 1) + 1))
    else if next = 44 then none
    else some { proto := next, at_ := o, len := stop - o, addrs := addrs }

/-- The offset of an IPv4 header, none where the frame holds no IPv4 packet. -/
def ip4At (l : List Byte) : Option Nat := if be16 l (innerAt l) = 0x0800 then some (innerAt l + 2) else none

/-- Length of the IPv4 header at an offset. -/
def ip4Len (l : List Byte) (o : Nat) : Nat := 4 * (byteAt l o % 16)

/-- Whether the IPv4 packet at an offset is a fragment. -/
def ip4Part (l : List Byte) (o : Nat) : Bool := be16 l (o + 6) % 16384 != 0

/-- The segment that a frame carries. -/
def segOf (l : List Byte) : Option Seg :=
  match ip4At l with
  | some o =>
    if ip4Part l o then none
    else some { proto := byteAt l (o + 9), at_ := o + ip4Len l o, len := be16 l (o + 2) - ip4Len l o, addrs := (l.drop (o + 12)).take 8 }
  | none =>
    let o := innerAt l + 2
    if be16 l (innerAt l) = 0x86DD then ip6Seg l ((l.drop (o + 8)).take 32) (o + 40 + be16 l (o + 4)) 8 (byteAt l (o + 6)) (o + 40)
    else none

/-- Where the payload of an IPv4 UDP datagram to a port stands. -/
def udp4At (l : List Byte) (port : Nat) : Option Nat :=
  match ip4At l, segOf l with
  | some _, some g => if g.proto = 17 ∧ be16 l (g.at_ + 2) = port then some (g.at_ + 8) else none
  | _, _ => none

/-- Bytes replaced from an offset on. -/
def patch (l : List Byte) (i : Nat) (b : List Byte) : List Byte := l.take i ++ b ++ l.drop (i + b.length)

/-- Ones' complement sum of 16-bit words. -/
def onesSum (l : List Byte) : Nat :=
  let t := (List.range ((l.length + 1) / 2)).foldl (fun n i => n + byteAt l (2 * i) * 256 + byteAt l (2 * i + 1)) 0
  let f (x : Nat) : Nat := x % 65536 + x / 65536
  f (f (f t))

/-- The bytes of a segment with its pseudo-header, over which its checksum is taken. -/
def Seg.cover (g : Seg) (l : List Byte) : List Byte :=
  g.addrs ++ beBytes g.proto 2 ++ beBytes g.len 2 ++ (l.drop g.at_).take g.len

/-- Where the checksum of a UDP or TCP segment stands. -/
def Seg.csumAt (g : Seg) : Nat := g.at_ + if g.proto = 17 then 6 else 16

/-- Whether a segment has a checksum that is verified and inserted. -/
def Seg.summed (g : Seg) : Bool := g.proto == 17 || g.proto == 6

/-- The checksums of R266 inserted: the IPv4 header's, and UDP's or TCP's over IPv4 or IPv6; fragments keep theirs. -/
def insertCsum (l : List Byte) : List Byte :=
  let l := match ip4At l with
    | some o =>
      let z := patch l (o + 10) [0#8, 0#8]
      patch l (o + 10) (beBytes (65535 - onesSum ((z.drop o).take (ip4Len l o))) 2)
    | none => l
  match segOf l with
  | some g =>
    if g.summed then
      let z := patch l g.csumAt [0#8, 0#8]
      let c := 65535 - onesSum (g.cover z)
      patch l g.csumAt (beBytes (if g.proto = 17 ∧ c = 0 then 65535 else c) 2)
    else l
  | none => l

/-- Whether the checksum of a segment is good: a UDP checksum of 0 is over IPv4 and bad over IPv6. -/
def Seg.good (g : Seg) (l : List Byte) : Bool :=
  if g.proto = 17 ∧ be16 l g.csumAt = 0 then g.addrs.length == 8 else onesSum (g.cover l) == 65535

/-- The verdict on a frame's checksums (R257): 0 not checked, 1 good, 2 bad. Fragments are not checked. -/
def csumOf (l : List Byte) : Nat :=
  let seg : Option Bool := match segOf l with | some g => if g.summed then some (g.good l) else none | none => none
  match ip4At l with
  | some o =>
    if ip4Part l o then 0
    else if onesSum ((l.drop o).take (ip4Len l o)) = 65535 ∧ seg ≠ some false then 1 else 2
  | none => match seg with | some b => if b then 1 else 2 | none => 0

/-! ### What a frame is (R256) -/

/-- Length from the destination address to the FCS (R253). -/
def frameLen (l : List Byte) : Nat := l.length + 4

/-- A PTP message in a frame: its offset. -/
def ptpAt (l : List Byte) : Option Nat :=
  if be16 l (etherAt l) = 0x88F7 then some (etherAt l + 2)
  else match udp4At l 319 with
    | some o => some o
    | none => udp4At l 320

/-- Where the header of a Lysle link message in the clear stands: after EtherType 0x88B5, or after the 12-byte prefix of a
UDP payload with SEALED 0 (R382, R387). -/
def linkAt (l : List Byte) : Option Nat :=
  if be16 l (etherAt l) = 0x88B5 then some (etherAt l + 2)
  else match udp4At l 48070 with
    | some o => if byteAt l (o + 1) = 0 then some (o + 12) else none
    | none => none

/-- Whether a frame is Lysle link: EtherType 0x88B5, or UDP destination port 48,070. -/
def isLink (l : List Byte) : Bool := be16 l (etherAt l) == 0x88B5 || (udp4At l 48070).isSome

/-- The TYPE of a Lysle link message in the clear (R383). -/
def linkType (l : List Byte) : Option Nat := (linkAt l).map fun o => byteAt l (o + 1)

/-- The body of a Lysle link ALARM message (R199). -/
def alarmBody (l : List Byte) : Option (List Byte) :=
  match linkAt l with
  | some o => if byteAt l (o + 1) = 0x40 then some ((l.drop (o + 24)).take (be16 l (o + 2))) else none
  | none => none

/-- Whether a frame is IPv4, IPv6 or ARP. -/
def isIp (l : List Byte) : Bool := be16 l (innerAt l) == 0x0800 || be16 l (innerAt l) == 0x86DD || be16 l (innerAt l) == 0x0806

/-! ### Stream frames (R295, R296, R300) -/

def vidOf (l : List Byte) : Option (BitVec 12) :=
  if be16 l 12 = 0x8100 then some (BitVec.ofNat 12 (be16 l 14)) else none

/-- The R-TAG of a frame: two reserved bytes of 0 and the sequence number. -/
def rtagOf (l : List Byte) : RTag :=
  let e := etherAt l
  if be16 l e ≠ 0xF1C1 then .none
  else if be16 l (e + 2) = 0 ∧ e + 6 ≤ l.length then .seq (BitVec.ofNat 16 (be16 l (e + 4)))
  else .malformed

/-- Formats of AAF as CTX_CFG.BITS codes them: INT_16BIT, INT_24BIT and INT_32BIT; 3 for any other. -/
def aafFormat (code : Nat) : Fin 4 := if code = 4 then 0 else if code = 3 then 1 else if code = 2 then 2 else 3

/-- The AAF frame at an offset. Beyond its data only the padding of a minimal frame may stand. -/
def aafFrame (l : List Byte) (o : Nat) : StreamFrame :=
  let n := be16 l (o + 20)
  let room := l.length - (o + 24)
  { rtp := false, id := BitVec.ofNat 64 (beAt l (o + 4) 8), vid := vidOf l, ssrc := 0#32, fmt := aafFormat (byteAt l (o + 16)),
    pt := 0#7, ver := 0#2, chans := byteAt l (o + 17) % 4 * 256 + byteAt l (o + 18), depth := byteAt l (o + 19),
    nsr := BitVec.ofNat 4 (byteAt l (o + 17) / 16),
    lenOk := n == room || (Nat.blt n room && Nat.ble l.length 60), tv := byteAt l (o + 1) % 2 == 1,
    stamp := BitVec.ofNat 32 (beAt l (o + 12) 4), seq := BitVec.ofNat 16 (byteAt l (o + 2)), rtag := rtagOf l,
    data := (l.drop (o + 24)).take n }

/-- The RTP frame whose UDP segment a frame carries: CSRC entries, a header extension and padding are passed over. -/
def rtpFrame (l : List Byte) (ip : Nat) (g : Seg) : StreamFrame :=
  let o := g.at_ + 8
  let b := byteAt l o
  let h := 12 + 4 * (b % 16)
  let x := if b / 16 % 2 = 1 then 4 + 4 * be16 l (o + h + 2) else 0
  let n := be16 l (g.at_ + 4)
  let pad := if b / 32 % 2 = 1 then byteAt l (g.at_ + n - 1) else 0
  { rtp := true, id := BitVec.ofNat 64 (be16 l (g.at_ + 2) * 2 ^ 32 + beAt l (ip + 16) 4), vid := vidOf l,
    ssrc := BitVec.ofNat 32 (beAt l (o + 8) 4), fmt := 3, pt := BitVec.ofNat 7 (byteAt l (o + 1)),
    ver := BitVec.ofNat 2 (b / 64), chans := 0, depth := 0, nsr := 0#4,
    lenOk := n == g.len && Nat.ble (g.at_ + n) l.length && Nat.ble (8 + h + x + pad) n, tv := true,
    stamp := BitVec.ofNat 32 (beAt l (o + 4) 4), seq := BitVec.ofNat 16 (be16 l (o + 2)), rtag := rtagOf l,
    data := (l.drop (o + h + x)).take (n - (8 + h + x + pad)) }

/-- The stream frame that a frame may be: AAF of IEEE 1722 version 0, or RTP over UDP over IPv4. -/
def streamOf (l : List Byte) : Option StreamFrame :=
  let o := innerAt l + 2
  if be16 l (innerAt l) = 0x22F0 then
    if byteAt l o = 0x02 ∧ byteAt l (o + 1) / 16 % 8 = 0 then some (aafFrame l o) else none
  else match ip4At l, segOf l with
    | some ip, some g => if g.proto = 17 then some (rtpFrame l ip g) else none
    | _, _ => none

end Sys2Proof.Machine

namespace Sys2Proof

/-! ### Fields of a received frame -/

def NetFrame.len (f : NetFrame) : Nat := Machine.frameLen f.bytes
def NetFrame.dst (f : NetFrame) : Nat := Machine.leAt f.bytes 0 6
def NetFrame.src (f : NetFrame) : Nat := Machine.leAt f.bytes 6 6
def NetFrame.etype (f : NetFrame) : Nat := Machine.be16 f.bytes (Machine.etherAt f.bytes)

end Sys2Proof
end

