-- ==== Sys2Proof/Machine/Cipher.lean ====
section
/-! DEFINITION. Machine/Cipher.lean: HKDF with SHA-384 (RFC 5869, RFC 2104), AES-256-GCM (FIPS 197, SP 800-38D), and the making of
ECDSA key pairs and signatures (FIPS 186-5), which R386, R387, R417, R418 and R447 name. -/
namespace Sys2Proof.Machine

/-! ### HKDF -/

/-- Two strings of bytes combined by exclusive or. -/
def xorBytes (a b : List Byte) : List Byte := List.zipWith (· ^^^ ·) a b

/-- HMAC with SHA-384, whose block is 128 bytes. -/
def hmac384 (key msg : List Byte) : List Byte :=
  let k := if key.length ≤ 128 then key else beBytes (sha384 key) 48
  let k := k ++ List.replicate (128 - k.length) 0#8
  let inner := sha384 (k.map (· ^^^ 0x36#8) ++ msg)
  beBytes (sha384 (k.map (· ^^^ 0x5C#8) ++ beBytes inner 48)) 48

def hkdfExtract (salt ikm : List Byte) : List Byte := hmac384 salt ikm

/-- `n` further blocks of the output of HKDF, after the block `last` with number `i`. -/
def hkdfBlocks (prk info last : List Byte) : Nat → Nat → List Byte
  | 0, _ => []
  | n + 1, i =>
    let t := hmac384 prk (last ++ info ++ [BitVec.ofNat 8 i])
    t ++ hkdfBlocks prk info t n (i + 1)

def hkdfExpand (prk info : List Byte) (len : Nat) : List Byte :=
  (hkdfBlocks prk info [] ((len + 47) / 48) 1).take len

/-- The bytes of a text. -/
def textBytes (s : String) : List Byte := s.toList.map fun c => BitVec.ofNat 8 c.toNat

/-! ### AES-256 -/

/-- A product in the field of AES, by the bits of the second factor from the lowest. -/
def gf8 : Nat → Nat → Nat → Nat
  | 0, _, _ => 0
  | k + 1, a, b =>
    (if b % 2 = 1 then a else 0) ^^^ gf8 k (if 128 ≤ a then (2 * a) ^^^ 0x11B else 2 * a) (b / 2)

/-- The power 254, which inverts: the product of the powers 2, 4, … 128. -/
def gfInv : Nat → Nat → Nat
  | 0, _ => 1
  | k + 1, x => gf8 8 (gf8 8 x x) (gfInv k (gf8 8 x x))

/-- A byte turned left. -/
def rol8 (x n : Nat) : Nat := (x * 2 ^ n) % 256 + x / 2 ^ (8 - n)

/-- The S-box. -/
def aesSub (x : Nat) : Nat :=
  let b := gfInv 7 x
  b ^^^ rol8 b 1 ^^^ rol8 b 2 ^^^ rol8 b 3 ^^^ rol8 b 4 ^^^ 0x63

/-- Numbers combined by exclusive or. -/
def xorNats (a b : List Nat) : List Nat := List.zipWith (· ^^^ ·) a b

/-- The round constant of a step of the key schedule. -/
def aesRcon : Nat → Nat
  | 0 => 0x8D
  | n + 1 => gf8 8 2 (aesRcon n)

/-- The key schedule, newest word first: `n` words beyond those given, the next having number `i`. -/
def aesSched : Nat → Nat → List (List Nat) → List (List Nat)
  | 0, _, r => r
  | n + 1, i, r =>
    let t := r.getD 0 []
    let t :=
      if i % 8 = 0 then xorNats ((t.drop 1 ++ t.take 1).map aesSub) [aesRcon (i / 8), 0, 0, 0]
      else if i % 8 = 4 then t.map aesSub
      else t
    aesSched n (i + 1) (xorNats (r.getD 7 []) t :: r)

/-- Pieces of `n` elements. -/
def splitAll (n : Nat) : Nat → List Nat → List (List Nat)
  | 0, _ => []
  | k + 1, l => l.take n :: splitAll n k (l.drop n)

/-- The fifteen round keys of a key of 32 bytes. -/
def aesKeys (key : List Byte) : List (List Nat) :=
  splitAll 16 15 (aesSched 52 8 (splitAll 4 8 (key.map (·.toNat))).reverse).reverse.flatten

/-- Rows shifted: column c takes row r from column c + r. -/
def aesShift (l : List Nat) : List Nat :=
  (List.range 16).map fun i => l.getD ((i + 4 * (i % 4)) % 16) 0

/-- One column mixed. -/
def aesMix (l : List Nat) : List Nat :=
  (List.range 4).map fun i =>
    gf8 8 (l.getD i 0) 2 ^^^ gf8 8 (l.getD ((i + 1) % 4) 0) 3 ^^^ l.getD ((i + 2) % 4) 0 ^^^ l.getD ((i + 3) % 4) 0

/-- The rounds after the first key, the last without mixing. -/
def aesRounds : List (List Nat) → List Nat → List Nat
  | [], x => x
  | [k], x => xorNats (aesShift (x.map aesSub)) k
  | k :: t, x => aesRounds t (xorNats ((splitAll 4 4 (aesShift (x.map aesSub))).map aesMix).flatten k)

/-- One block of 16 bytes encrypted under round keys. -/
def aesBlock (keys : List (List Nat)) (x : List Byte) : List Byte :=
  match keys with
  | [] => x
  | k :: t => (aesRounds t (xorNats (x.map (·.toNat)) k)).map (BitVec.ofNat 8)

/-! ### GCM -/

/-- A product in the field of GCM, by the bits of the first factor from the highest: `n` bits left, the product so far and
the second factor's multiple. -/
def gcmMul : Nat → Nat → Nat → Nat → Nat
  | 0, _, _, z => z
  | n + 1, x, v, z =>
    gcmMul n x (if v % 2 = 1 then (v / 2) ^^^ (0xE1 * 2 ^ 120) else v / 2) (if x.testBit n then z ^^^ v else z)

/-- Bytes filled with zeros to whole blocks. -/
def padBlock (l : List Byte) : List Byte := l ++ List.replicate ((16 - l.length % 16) % 16) 0#8

/-- GHASH over blocks. -/
def ghash (h : Nat) : Nat → Nat → List Byte → Nat
  | 0, y, _ => y
  | n + 1, y, l => ghash h n (gcmMul 128 (y ^^^ beNat (l.take 16)) h 0) (l.drop 16)

/-- The key stream of counter blocks from number `i` on, over bytes. -/
def gcmStream (keys : List (List Nat)) (nonce : List Byte) : Nat → Nat → List Byte → List Byte
  | 0, _, _ => []
  | n + 1, i, l => xorBytes (l.take 16) (aesBlock keys (nonce ++ beBytes i 4)) ++ gcmStream keys nonce n (i + 1) (l.drop 16)

/-- The tag over additional data and ciphertext. -/
def gcmTag (keys : List (List Nat)) (nonce aad c : List Byte) : List Byte :=
  let h := beNat (aesBlock keys (List.replicate 16 0#8))
  let m := padBlock aad ++ padBlock c ++ beBytes (8 * aad.length) 8 ++ beBytes (8 * c.length) 8
  xorBytes (beBytes (ghash h (m.length / 16) 0 m) 16) (aesBlock keys (nonce ++ beBytes 1 4))

/-- AES-256-GCM with a nonce of 12 bytes: the plaintext of ciphertext and tag, none where the tag fails. -/
def gcmOpen (key nonce aad c tag : List Byte) : Option (List Byte) :=
  let keys := aesKeys key
  if gcmTag keys nonce aad c = tag then some (gcmStream keys nonce ((c.length + 15) / 16) 2 c) else none

/-- The ciphertext and the tag of a plaintext. -/
def gcmSeal (key nonce aad p : List Byte) : List Byte × List Byte :=
  let keys := aesKeys key
  let c := gcmStream keys nonce ((p.length + 15) / 16) 2 p
  (c, gcmTag keys nonce aad c)

/-! ### ECDSA -/

/-- The private key of extra random bits (FIPS 186-5 A.2.1), and the public key of a private key. -/
def Curve.privOf (c : Curve) (bits : Nat) : Nat := bits % (c.n - 1) + 1
def Curve.pubOf (c : Curve) (d : Nat) : Nat × Nat := (c.affine (c.mul c.bits d (c.gx, c.gy, 1) (0, 1, 0))).getD (0, 0)

/-- The signature (r, s) of a SHA-384 digest by a private key with the per-message number `k`. -/
def Curve.sign (c : Curve) (d digest k : Nat) : Nat × Nat :=
  let r := (c.pubOf k).1 % c.n
  let e := digest / 2 ^ (384 - c.bits)
  (r, c.inv c.n k * ((e + r * d) % c.n) % c.n)

end Sys2Proof.Machine
end

