-- ==== Sys2Proof/Machine/Keys.lean ====
section
/-! DEFINITION. Machine/Keys.lean: the keys of the device and the public keys that it holds by their hashes (R416, R417 of
spec/14_trust_and_startup.md). -/
namespace Sys2Proof.Machine

/-- The 96 bytes of a P-384 public key, X then Y, and its hash (R417). -/
def keyBytes (q : Nat × Nat) : List Byte := beBytes q.1 48 ++ beBytes q.2 48
def keyHash (q : Nat × Nat) : Nat := sha384 (keyBytes q)

/-- The device identity key, its public key, and IDH (R417). -/
def dikPriv : Nat :=
  p384.privOf (beNat (hkdfExpand (hkdfExtract (textBytes "LYSLE DIK") Config.pufRoot) (textBytes "DIK") 72))
def dikPub : Nat × Nat := p384.pubOf dikPriv
def deviceIdh : Nat := keyHash dikPub

/-- The key that wraps the secret store in an epoch (R417). -/
def kwrap (epoch : Nat) : List Byte :=
  hkdfExpand (hkdfExtract (textBytes "LYSLE WRAP") Config.pufRoot) (textBytes "WRAP" ++ beBytes epoch 1) 32

/-- A square root modulo the prime of a curve, where there is one: both primes leave 3 modulo 4. -/
def Curve.root (c : Curve) (v : Nat) : Nat := powMod c.p c.bits v ((c.p + 1) / 4) 1

/-- The points whose first coordinate is `x`. -/
def Curve.points (c : Curve) (x : Nat) : List (Nat × Nat) :=
  let y := c.root ((x * x * x + 3 * (c.p - 1) * x + c.b) % c.p)
  [(x, y), (x, c.p - y)].filter fun q => c.on q

/-- The public keys under which (r, s) signs a digest: (s·R − e·G) / r for every point R of first coordinate r. -/
def Curve.keysOf (c : Curve) (digest r s : Nat) : List (Nat × Nat) :=
  let e := digest / 2 ^ (384 - c.bits)
  let i := c.inv c.n r
  if c.sigRange r s then
    (c.points r ++ c.points (r + c.n)).filterMap fun q =>
      c.affine (c.comb ((c.n - e % c.n) * i % c.n) (s * i % c.n) q)
  else []

/-- Whether 96 bytes sign a digest under the P-384 key of a hash: the device holds the owner keys and Torvok's keys by their
hashes only, and a signature determines the few keys under which it verifies. -/
def signedBy (hash digest : Nat) (sig : List Byte) : Bool :=
  (p384.keysOf digest (beNat (sig.take 48)) (beNat (sig.drop 48))).any fun k => keyHash k == hash

end Sys2Proof.Machine
end

