-- ==== Sys2Proof/Machine/LinkMsg.lean ====
section
/-! DEFINITION. Machine/LinkMsg.lean: the byte layouts of Lysle link messages, sent and received (R3, R383, R384, R386, R387, R389,
R391, R400, R402, R404, R406, R408 to R410 of spec/13_manager_and_workers.md). -/
namespace Sys2Proof.Machine

/-! ### Keys (R386, R387) -/

/-- The pseudorandom key of the site secret. -/
def linkPrk (sysid : Nat) (secret : List Byte) : List Byte := hkdfExtract (textBytes "LYSLE LINK" ++ beBytes sysid 4) secret

/-- The key, and the salt, of the secure association of a transmitter under a key number. -/
def linkSak (prk : List Byte) (sci kn : Nat) : List Byte := hkdfExpand prk (textBytes "SAK" ++ beBytes sci 8 ++ beBytes kn 4) 32
def linkSalt (prk : List Byte) (sci kn : Nat) : List Byte := hkdfExpand prk (textBytes "SALT" ++ beBytes sci 8 ++ beBytes kn 4) 12

/-- The key that seals UDP payloads of a node. -/
def linkKu (prk : List Byte) (src kn : Nat) : List Byte := hkdfExpand prk (textBytes "UDP" ++ beBytes src 2 ++ beBytes kn 4) 32

/-- The nonce of a sealed payload. -/
def linkNonce (src ctr : Nat) : List Byte := beBytes src 2 ++ beBytes 0 2 ++ beBytes ctr 8

/-- A sealed payload (R387): the prefix, header and body encrypted under it, and the tag. -/
def linkSeal (prk : List Byte) (kn ty src ctr : Nat) (l : List Byte) : List Byte :=
  let pre := beBytes ty 1 ++ beBytes 1 1 ++ beBytes src 2 ++ beBytes ctr 8
  let r := gcmSeal (linkKu prk src kn) (linkNonce src ctr) pre l
  pre ++ r.1 ++ r.2

/-- What a sealed payload opens to under a key number. -/
def linkUnseal (prk : List Byte) (kn : Nat) (l : List Byte) : Option (List Byte) :=
  let src := beAt l 2 2
  let n := l.length - 28
  if byteAt l 1 = 1 ∧ 28 ≤ l.length then
    gcmOpen (linkKu prk src kn) (linkNonce src (beAt l 4 8)) (l.take 12) ((l.drop 12).take n) (l.drop (12 + n))
  else none

/-! ### Headers (R383) -/

/-- The header of a message, the port and source address of its frame, and for a sealed one its COUNTER. -/
structure LinkHdr where
  port : Nat
  mac : Nat
  ctr : Option Nat
  ver : Nat
  len : Nat
  sysid : Nat
  src : Nat
  dst : Nat
  seq : Nat
  flags : Nat
  res : Nat
  rnd : Nat
deriving DecidableEq, Repr

/-- The header of a message whose bytes in the clear are given. -/
def linkHdrOf (f : LinkFrame) (l : List Byte) : LinkHdr :=
  { port := f.port.val, mac := f.mac.toNat, ctr := if f.routed then some (beAt f.bytes 4 8) else none, ver := byteAt l 0,
    len := beAt l 2 2, sysid := beAt l 4 4, src := beAt l 8 2, dst := beAt l 0xA 2, seq := beAt l 0xC 4,
    flags := byteAt l 0x10, res := beAt l 0x11 3, rnd := beAt l 0x14 4 }

/-- The bytes of a header. -/
def linkHead (ty len sysid src dst seq flags rnd : Nat) : List Byte :=
  beBytes 1 1 ++ beBytes ty 1 ++ beBytes len 2 ++ beBytes sysid 4 ++ beBytes src 2 ++ beBytes dst 2 ++ beBytes seq 4
    ++ beBytes flags 1 ++ beBytes 0 3 ++ beBytes rnd 4

/-- The body of a message in the clear: LEN bytes after the header. -/
def linkBodyOf (l : List Byte) : List Byte := (l.drop 24).take (beAt l 2 2)

/-- Whether LEN agrees with the bytes and is at most 1,476: beyond the body only the padding of a minimal Ethernet frame may
stand. -/
def linkLenOk (routed : Bool) (l : List Byte) : Bool :=
  let n := beAt l 2 2
  Nat.ble n 1476 && (l.length == 24 + n || (!routed && Nat.ble l.length 46 && Nat.ble (24 + n) l.length))

/-- The TYPE of a frame: of the header, or across a routed segment of the prefix. -/
def linkTy (f : LinkFrame) : Nat := byteAt f.bytes (if f.routed then 0 else 1)

/-- Whether the body of a TYPE has the length of its layout. -/
def linkSizeOk (ty n : Nat) (body : List Byte) : Bool :=
  match ty with
  | 0x01 => n == 106 | 0x02 => n == 32 | 0x03 => n == 544 | 0x04 => n == 108 | 0x05 => n == 1 | 0x07 => n == 1
  | 0x06 => n == 2 + 16 * beAt body 0 2
  | 0x12 => n == 2 + 16 * beAt body 0 2
  | 0x10 => n == 4 + 20 * byteAt body 0
  | 0x11 => n == 18 | 0x20 => n == 48 | 0x21 => Nat.ble 4 n && (n - 4) % 36 == 0 | 0x23 => n == 0
  | 0x30 => n == 60 | 0x31 => n == 3 | 0x3E => n == 4 | 0x3F => n == 6
  | _ => true

/-! ### Bodies received -/

/-- The body of a HELLO (R389). -/
structure Hello where
  role : Nat
  state : Nat
  rate : Nat
  round : Nat
  term : Nat
  nonce : Nat
  idh : Nat
  skd : Nat
  pair : Nat
deriving DecidableEq, Repr

def Hello.ofBytes (l : List Byte) : Hello :=
  { role := byteAt l 0, state := byteAt l 1, rate := byteAt l 2, round := byteAt l 3, term := beAt l 4 4, nonce := beAt l 8 32,
    idh := beAt l 0x28 48, skd := beAt l 0x58 16, pair := beAt l 0x68 2 }

/-- The body of an ADMIT (R391). -/
structure AdmitBody where
  term : Nat
  adm : Nat
  lease : Nat
  res : Nat
  sigR : Nat
  sigS : Nat

def AdmitBody.ofBytes (l : List Byte) : AdmitBody :=
  { term := beAt l 0 4, adm := beAt l 4 4, lease := beAt l 8 2, res := beAt l 10 2, sigR := beAt l 12 48, sigS := beAt l 60 48 }

/-- Whether the fields of a HELLO lie in their ranges. -/
def Hello.ok (b : Hello) : Bool :=
  Nat.ble b.role 1 && Nat.ble b.state 1 && Nat.ble b.rate 1 && (b.round == 4 || b.round == 8 || b.round == 16)
    && (Nat.ble b.pair 256 || b.pair == 0xFFFF)

/-- The digest that SIG of an ADMIT covers: HELLO nonce, manager's number, node's number, TERM and ADM. -/
def admitDigest (nonce mgr node term adm : Nat) : Nat :=
  sha384 (beBytes nonce 32 ++ beBytes mgr 2 ++ beBytes node 2 ++ beBytes term 4 ++ beBytes adm 4)

/-- A record of an INVENTORY or EVENT (R400). -/
structure EpRec where
  index : Nat
  kind : Nat
  state : Nat
  cond : Nat
  res : Nat
  rnd : Nat
  time : Nat

def EpRec.ofBytes (l : List Byte) : EpRec :=
  { index := beAt l 0 4, kind := byteAt l 4, state := byteAt l 5, cond := byteAt l 6, res := byteAt l 7, rnd := beAt l 8 4,
    time := beAt l 12 4 }

/-- The records of a body. -/
def epRecs (l : List Byte) : List EpRec := (pieces 16 (beAt l 0 2) (l.drop 2)).map EpRec.ofBytes

def zoneCmdOf (l : List Byte) : ZoneCmd :=
  { due := BitVec.ofNat 48 (beAt l 0 6), zone := BitVec.ofNat 16 (beAt l 6 2), op := BitVec.ofNat 8 (byteAt l 8),
    arg := BitVec.ofNat 8 (byteAt l 9), tag := BitVec.ofNat 16 (beAt l 10 2), term := BitVec.ofNat 32 (beAt l 12 4),
    res := BitVec.ofNat 32 (beAt l 16 4) }

/-- The commands of a ZONE_CMD body, and whether its COUNT and reserved bytes keep to R402. -/
def zoneCmdsOf (l : List Byte) : List ZoneCmd := (pieces 20 (byteAt l 0) (l.drop 4)).map zoneCmdOf
def zoneHeadOk (l : List Byte) : Bool := Nat.ble 1 (byteAt l 0) && Nat.ble (byteAt l 0) 73 && zeroAt l 1 3

/-- The body of a ZONE_ACK (R404). -/
structure ZoneAck where
  tag : Nat
  stage : Nat
  res : Nat
  due : Nat
  done : Nat
  late : Nat
  refused : Nat
  discarded : Nat

def ZoneAck.ofBytes (l : List Byte) : ZoneAck :=
  { tag := beAt l 0 2, stage := byteAt l 2, res := byteAt l 3, due := beAt l 4 6, done := beAt l 10 2, late := beAt l 12 2,
    refused := beAt l 14 2, discarded := beAt l 16 2 }

/-- The body of a MGR_BEAT (R406): bit n of byte floor(n / 8) of the map is node n. -/
structure Beat where
  term : Nat
  gen : Nat
  role : Nat
  res : Nat
  map : Nat

def Beat.ofBytes (l : List Byte) : Beat :=
  { term := beAt l 0 4, gen := beAt l 4 4, role := byteAt l 8, res := beAt l 9 3, map := leAt l 12 36 }

/-- An item of a DIR_SYNC (R408). -/
inductive SyncItem where
  | entry (index : Nat) (words : List Word)
  | zone (c : ZoneCmd)
  | reserved
deriving DecidableEq, Repr

def SyncItem.ofBytes (l : List Byte) : SyncItem :=
  if byteAt l 0 = 1 then .entry (beAt l 1 3) ((pieces 4 8 (l.drop 4)).map fun b => BitVec.ofNat 32 (beNat b))
  else if byteAt l 0 = 2 ∧ zeroAt l 1 3 = true ∧ zeroAt l 24 12 = true then .zone (zoneCmdOf (l.drop 4))
  else .reserved

def syncItems (l : List Byte) : List SyncItem := (recordsOf 36 (l.drop 4)).map SyncItem.ofBytes

/-! ### Bodies sent -/

/-- Numbers as big-endian fields of given widths. -/
def fields : List Nat → List Nat → List Byte
  | w :: ws, v :: vs => beBytes v w ++ fields ws vs
  | _, _ => []

/-- The records of an INVENTORY or EVENT: six numbers each, with the reserved byte. -/
def epBytes : Nat → List Nat → List Byte
  | 0, _ => []
  | n + 1, l => fields [4, 1, 1, 1] (l.take 4) ++ beBytes 0 1 ++ fields [4, 4] ((l.drop 4).take 2) ++ epBytes n (l.drop 6)

/-- The twenty bytes of a zone command from its numbers. -/
def zoneBytes (l : List Nat) : List Byte := fields [6, 2, 1, 1, 2, 4] l ++ beBytes 0 4

/-- The body of a message of a TYPE from its numbers, as the model keeps them. -/
def linkBody (ty : Nat) (l : List Nat) : List Byte :=
  match ty with
  | 0x01 => fields [1, 1, 1, 1, 4, 32, 48, 16, 2] l
  | 0x02 => fields [32] l
  | 0x03 => fields [32] l ++ (l.drop 1).flatMap fun w => leBytes w 4
  | 0x04 => fields [4, 4, 2, 2, 48, 48] l
  | 0x05 => fields [1] l
  | 0x07 => fields [1] l
  | 0x06 => fields [2] l ++ epBytes (l.headD 0) (l.drop 1)
  | 0x12 => fields [2] l ++ epBytes (l.headD 0) (l.drop 1)
  | 0x10 => beBytes (l.headD 0) 1 ++ beBytes 0 3 ++ zoneBytes (l.drop 1)
  | 0x11 => fields [2, 1] l ++ beBytes 0 1 ++ fields [6, 2, 2, 2, 2] (l.drop 2)
  | 0x20 => fields [4, 4, 1] l ++ beBytes 0 3 ++ leBytes (l.getD 3 0) 36
  | 0x21 =>
    fields [4, 1] l ++ (if l.getD 1 0 = 1 then beBytes (l.getD 2 0) 3 ++ (l.drop 3).flatMap fun w => beBytes w 4
      else beBytes 0 3 ++ zoneBytes (l.drop 3) ++ List.replicate 12 0#8)
  | 0x30 => fields [1] l ++ beBytes 0 1 ++ fields [2] (l.drop 1) ++ (l.drop 2).flatMap fun w => beBytes w 4
  | 0x31 => fields [2, 1] l
  | 0x3E => fields [4] l
  | 0x3F => fields [4, 1, 1] l
  | _ => l.map (BitVec.ofNat 8)

end Sys2Proof.Machine
end

