-- ==== Sys2Proof/Machine/Wake.lean ====
section
/-! DEFINITION. Machine/Wake.lean: power states and the wake latches of the Rim domain (R479, R487, R489
of spec/16_power_health_recovery.md). -/
namespace Sys2Proof.Machine

open Reg

/-- Power state codes, as PWR_STAT.STATE and PWR_CTL.TARGET give them. -/
def pRun : Nat := 0
def pTrim : Nat := 1
def pWatch : Nat := 2
def pRim : Nat := 3

def State.pstate (s : State) : Nat := s.rf PWR_STAT_STATE

/-- Whether the hub die runs. -/
def State.hubUp (s : State) : Bool := s.pstate != pRim && !s.power.rstLow

/-- Run or Trim: the compute dies are on. -/
def State.full (s : State) : Bool := Nat.ble s.pstate pTrim && !s.power.rstLow

/-- The start of a wake of the hub (R490). -/
def State.startWake (s : State) : State :=
  if s.power.hubWake.isSome then s
  else (({ s with power := { s.power with hubWake := some s.now } }).countUp
    ⟨RIM_WAKE_CNT, 31, 16⟩)

/-- A wake event (R489): latched in Rim, or during a handshake towards it, while RIM_WAKE_EN enables it. -/
def State.wakeEvent (s : State) (src : Nat) : State :=
  let entering := match s.power.hand with | some h => h.target == pRim | none => false
  if s.bit RIM_WAKE_EN src && (s.pstate == pRim || entering) then
    let s := s.setBit RIM_WAKE_LATCH src
    if s.pstate = pRim then s.startWake
    else match s.power.hand with
      | some h => { s with power := { s.power with hand := some { h with woken := true } } }
      | none => s
  else s

end Sys2Proof.Machine
end

