-- ==== Sys2Proof/Machine/NetBase.lean ====
section
/-! DEFINITION. Machine/NetBase.lean: the ports and their transmit queues, packet numbers and lanes (R253, R260, R274, R276 of
spec/09_network_ports.md; R303, R304 of spec/10_streams_and_pairing.md; R388 of spec/13_manager_and_workers.md). -/
namespace Sys2Proof.Machine

open Reg

def NetPort.init : NetPort :=
  { queues := [], wire := none, free := 0, pause := none, pauseSrc := 0, deaf := 0, entryAt := 0, gates := false,
    swapDue := none, fifo := [], blocked := [], tries := 0, tryAt := 0, idle := 0 }

def State.np (s : State) (p : Nat) : NetPort := mget (fun _ => NetPort.init) s.net.ports p
def State.setNp (s : State) (p : Nat) (x : NetPort) : State :=
  { s with net := { s.net with ports := mset (fun _ => NetPort.init) s.net.ports p x } }

/-- The frames waiting in a queue of a port. -/
def NetPort.queue (x : NetPort) (q : Nat) : List TxFrame := mget (fun _ => []) x.queues q
def NetPort.setQueue (x : NetPort) (q : Nat) (l : List TxFrame) : NetPort :=
  { x with queues := mset (fun _ => []) x.queues q l }

/-- Whether a port is enabled with its link up. -/
def State.netUp (s : State) (p : Nat) : Bool := s.hubUp && s.flag (NET_CTL_EN p) && s.flag (NET_STAT_LINK p)

/-- A frame put at the tail of a queue; false where 32 wait (R260). -/
def State.enqueue (s : State) (p q : Nat) (f : TxFrame) : State × Bool :=
  let x := s.np p
  if 32 ≤ (x.queue q).length then (s, false) else (s.setNp p (x.setQueue q (x.queue q ++ [f])), true)

/-- Counters of a port, in the order of R286. -/
def cRxFrames : Nat := 0
def cRxFcs : Nat := 1
def cRxLen : Nat := 2
def cRxFiltered : Nat := 3
def cRxQuar : Nat := 4
def cRxSec : Nat := 5
def cRxPause : Nat := 6
def cRxPfc : Nat := 7
def cRxCsum : Nat := 8
def cRxOvf : Nat := 9
def cTxFrames : Nat := 10
def cTxHeld : Nat := 11
def cTxNofit : Nat := 12
def cTxQfull : Nat := 13
def cTxExh : Nat := 14
def cPauseWdg : Nat := 15

/-- A counter of a port counted up, saturating. -/
def State.cnt (s : State) (p k : Nat) : State := s.setReg (NET_COUNTERS p k) (sat32 (s.reg (NET_COUNTERS p k)))

/-- Least index of a free value's reading: a fresh number below a bound. -/
def State.pick (s : State) (n : Nat) : Nat × State :=
  let (v, s) := s.free
  (v % n, s)

/-! ### MACsec on transmit (R274, R276, R388) -/

/-- Whether a frame leaves protected: MACsec runs, always on the pair link, and its EtherType is not bypassed. -/
def State.secured (s : State) (p etype : Nat) : Bool :=
  (p == 6 || s.flag (NET_SEC_CFG_EN p))
    && !((List.range 4).any fun k => s.flag (NET_SEC_BYPASS_EN p k) && s.rf (NET_SEC_BYPASS_ETYPE p k) == etype)

def State.pn (s : State) (p k : Nat) : Nat :=
  (s.reg (NET_SEC_SA_PN_LO p k)).toNat + (s.reg (NET_SEC_SA_PN_HI p k)).toNat * 2 ^ 32

def State.setPn (s : State) (p k v : Nat) : State :=
  (s.setRegN (NET_SEC_SA_PN_LO p k) v).setRegN (NET_SEC_SA_PN_HI p k) (v / 2 ^ 32)

/-- Whether a port's suite has extended packet numbers. -/
def State.xpn (s : State) (p : Nat) : Bool := p == 6 || s.flag (NET_SEC_CFG_CIPHER p)

/-- The last packet number of a port's suite. -/
def State.pnEnd (s : State) (p : Nat) : Nat := if s.xpn p then 2 ^ 64 - 1 else 2 ^ 32 - 1

/-- A packet number used by the transmit association: the reservation of R388, and SEC_PN at the threshold. -/
def State.usePn (s : State) (p : Nat) : State :=
  let an := s.rf (NET_SEC_CFG_TX_AN p)
  let pn := s.pn p an
  let key := 4 * p + an
  let top := mget (fun _ => 0) s.net.pnTop key
  let s := if pn < top then s
    else
      let t := pn + (if s.xpn p then 2 ^ 40 else 2 ^ 24)
      ({ s with net := { s.net with pnTop := mset (fun _ => 0) s.net.pnTop key t } }).logRec 3 [p, an, t]
  let s := s.setPn p an (pn + 1)
  if pn + 1 = (if s.xpn p then 2 ^ 62 else 0xC0000000) then s.raise (NET_EVT_SEC_PN p) else s

/-- Whether a key is installed in an association, which the model takes to be any key but 0. -/
def State.saKeyed (s : State) (p k : Nat) : Bool := (List.range 8).any fun w => s.reg (NET_SEC_SA_KEY p k w) != 0#32

/-- Whether the transmit association that TX_AN names is live (R276): its key is installed, and its packet numbers are not
exhausted. -/
def State.txLive (s : State) (p : Nat) : Bool :=
  let an := s.rf (NET_SEC_CFG_TX_AN p)
  s.saKeyed p an && Nat.blt (s.pn p an) (s.pnEnd p)

/-- The exact next number of every association that has sent, and of the sealing counter, written in place of the tops of their
blocks (R388): before an orderly entry to Rim, and before a device reset that the Warden requests. -/
def State.pnSave (s : State) : State :=
  let s := s.net.pnTop.foldl (fun (s : State) (e : Nat × Nat) =>
    let v := s.pn (e.1 / 4) (e.1 % 4)
    if s.saKeyed (e.1 / 4) (e.1 % 4) && Nat.blt v e.2 then
      ({ s with net := { s.net with pnTop := mset (fun _ => 0) s.net.pnTop e.1 v } }).logRec 3 [e.1 / 4, e.1 % 4, v]
    else s) s
  if s.link.sealNext < s.link.sealTop then
    ({ s with link := { s.link with sealTop := s.link.sealNext } }).logRec 3 [255, 0, s.link.sealNext]
  else s

/-- A secured frame about to leave (R276): false where no live association carries it and it is dropped and counted. -/
def State.txSecure (s : State) (p : Nat) : State × Bool :=
  if s.txLive p then (s.usePn p, true) else (s.cnt p cTxExh, false)

/-! ### The lanes of the pair link (R303, R304) -/

def State.lane (s : State) (l : Nat) : Lane := s.pair.lanes.getD l Lane.init
def State.setLane (s : State) (l : Nat) (x : Lane) : State :=
  { s with pair := { s.pair with lanes := s.pair.lanes.set l x } }

/-- A lane's state shown (R322). -/
def State.laneShow (s : State) (l : Nat) (up : Bool) : State :=
  let x := s.lane l
  let s := s.setLane l { x with up := up }
  let s := s.setFlag (if l = 0 then PAIR_STAT_LANE0 else PAIR_STAT_LANE1) up
  if x.up = up then s else s.raise PAIR_EVT_LANE

/-- EtherType of pairing frames (R303). -/
def etPair : Nat := 0x88B6

/-- One frame on a lane, under MACsec of port 6 (R274, R276): false where it cannot leave. -/
def State.laneTx (s : State) (l : Nat) : State × Bool :=
  if !(s.lane l).up then (s, false)
  else if s.secured 6 etPair then s.txSecure 6
  else (s, true)

/-- A rejoin ended without success on this side. -/
def State.rejoinDrop (s : State) : State :=
  match s.pair.rejoin with
  | none => s
  | some _ => ({ s with pair := { s.pair with rejoin := none, hub := [], mirror := [] } }).sf PAIR_STAT_PHASE 0

/-- The pair link stops carrying records: a donor abandons the rejoin (R313). -/
def State.pairLinkGone (s : State) : State :=
  match s.pair.rejoin with
  | some r => if r.donor && !(s.lane 0).up && !(s.lane 1).up then s.rejoinDrop.raise PAIR_EVT_REJOIN_FAIL else s
  | none => s

end Sys2Proof.Machine
end

