-- ==== Sys2Proof/Machine/Notify.lean ====
section
/-! DEFINITION. Machine/Notify.lean: what the Warden reports: log records, EVENT messages and the bits of
the fault policy (R185, R214, R399, R400, R423). -/
namespace Sys2Proof.Machine

open Reg

/-- Time of day in units of 2^-16 ns (R323): the clock of the model, the offset, and the part of a slew
that has been removed so far. -/
def State.slewDone (s : State) : Int :=
  match s.hoop.slew with
  | none => 0
  | some w =>
    let m : Nat := (s.now - w.since) * 65536 * w.ppm / 6000000
    if w.amount < 0 then -(min m w.amount.natAbs : Nat) else (min m w.amount.natAbs : Nat)

def State.tod (s : State) : Int := ((s.now : Int) * 65536 + s.hoop.ofs) / 6 - s.slewDone

/-- Whole seconds of the time of day. -/
def State.seconds (s : State) : Nat := (s.tod / 65536000000000).toNat

/-! ### Lysle link messages sent (R379 to R388, R399) -/

/-- Role of the straps (R379). -/
def roleWorker : Nat := 0
def roleM0 : Nat := 1
def roleM1 : Nat := 2
def roleAlone : Nat := 3

/-- Whether this part is a manager. -/
def State.isMgr (s : State) : Bool := s.power.role == roleM0 || s.power.role == roleM1

/-- This node's number (R379, R381). -/
def State.nodeNo (s : State) : Nat :=
  if s.power.role = roleM0 then 0 else if s.power.role = roleM1 then 1 else s.skein.system.node

/-- Whether the node's number and role in the system section agree with the straps (R379, R380). -/
def State.roleFits (s : State) : Bool :=
  let y := s.skein.system
  y.role == s.power.role
    && (if s.isMgr then y.node == s.nodeNo else s.power.role == roleAlone || (Nat.ble 2 y.node && Nat.ble y.node 256))

/-- Whether Lysle link runs beside ALARM frames (R379, R380, R413): a Skein runs, not standalone, and its system section
agrees with the straps. -/
def State.linkOn (s : State) : Bool :=
  s.hubUp && !s.flag ALARM_CTL_BARE && !s.flag TRUST_BOOT_UNCONF && s.power.role != roleAlone && s.roleFits

/-- The health event of a Skein that disagrees with the straps (R380). -/
def State.roleCheck (s : State) : State :=
  if s.trust.run.isSome && !s.roleFits then s.wardenEvent 16 [s.skein.system.node, s.skein.system.role, s.power.role] else s

/-- Types that ask for an acknowledgement (R384). -/
def ackTypes : List Nat := [0x02, 0x03, 0x04, 0x05, 0x06, 0x07, 0x12, 0x13, 0x21]

/-- The ports that a message leaves by: the one on which its node was last heard, else every port that carries Lysle
link. -/
def State.linkPorts (s : State) (dst : Nat) : List Nat :=
  let node := if dst = 0xFFFE then s.link.mgr.getD 0xFFFF else dst
  match s.link.heard.find? fun e => e.1 == node with
  | some e => [e.2.1]
  | none => s.skein.system.ports

/-- The headers of the routed segment before a node, nothing within the site. -/
def State.linkPath (s : State) (dst : Nat) : List Byte :=
  match s.skein.system.nodes.find? fun n => n.num == (if dst = 0xFFFE then s.link.mgr.getD 0xFFFF else dst) with
  | some n => n.path
  | none => []

/-- A sealing COUNTER used: reserved in blocks (R387, R388). -/
def State.useCounter (s : State) : State × Nat :=
  let c := s.link.sealNext
  let s := if c < s.link.sealTop then s
    else
      let t := c + 2 ^ 40
      ({ s with link := { s.link with sealTop := t } }).logRec 3 [255, 0, t]
  ({ s with link := { s.link with sealNext := c + 1 } }, c)

/-- Header and body of a message (R383, R385). -/
def State.linkBytes (s : State) (m : OutMsg) : List Byte :=
  let body := linkBody m.ty m.body
  let flags := (if ackTypes.contains m.ty then 1 else 0) + (if m.tries = 0 then 0 else 2)
  linkHead m.ty body.length s.skein.system.sysid s.nodeNo m.dst m.seq flags s.sys.roundNo ++ body

/-- The station address that a message goes to within the site: its node's, or the site multicast address. -/
def State.linkMac (s : State) (dst : Nat) : Nat :=
  match s.skein.system.nodes.find? fun n => n.num == (if dst = 0xFFFE then s.link.mgr.getD 0xFFFF else dst) with
  | some n => n.mac
  | none => s.skein.system.mcast

/-- The bytes of a port's station address. -/
def State.portMac (s : State) (p : Nat) : List Byte :=
  leBytes ((s.reg (NET_MAC_LO p)).toNat + bitsOf (s.reg (NET_MAC_HI p)) 15 0 * 2 ^ 32) 6

/-- A frame filled up to the shortest one. -/
def padFrame (l : List Byte) : List Byte := l ++ List.replicate (60 - l.length) 0#8

/-- The lengths in the IPv4 and UDP headers of a frame whose payload is there, and its checksums. -/
def closeUdp (l : List Byte) : List Byte :=
  match ip4At l with
  | some o =>
    let u := o + ip4Len l o
    insertCsum (patch (patch l (o + 2) (beBytes (l.length - o) 2)) (u + 4) (beBytes (l.length - u) 2))
  | none => l

/-- The frame of a message at a port (R382): EtherType 0x88B5 within the site; a sealed UDP payload, under the next COUNTER,
across a routed segment, none without a site secret. -/
def State.linkFrame (s : State) (m : OutMsg) (p : Nat) : State × Option (List Byte) :=
  let l := s.linkBytes m
  match s.linkPath m.dst with
  | [] => (s, some (padFrame (leBytes (s.linkMac m.dst) 6 ++ s.portMac p ++ beBytes 0x88B5 2 ++ l)))
  | path =>
    match s.trust.site with
    | none => (s, none)
    | some (secret, kn) =>
      let (s, c) := s.useCounter
      (s, some (closeUdp (path ++ linkSeal (linkPrk s.skein.system.sysid secret) kn m.ty s.nodeNo c l)))

/-- A message put into queue 5 of its ports (R258, R382). -/
def State.linkFrames (s : State) (m : OutMsg) : State :=
  (s.linkPorts m.dst).foldl (fun s p =>
    if s.netUp p then
      match s.linkFrame m p with
      | (s, some l) =>
        let f : TxFrame := { len := frameLen l, etype := be16 l (etherAt l), body := .plain l, held := false }
        (s.enqueue p 5 f).1
      | (s, none) => s
    else s) s

/-- A message of the Lysle link sent (R383, R385): kept for its acknowledgement where it asks for one. -/
def State.linkSend (s : State) (ty dst : Nat) (body : List Nat) : State :=
  if !s.linkOn then s
  else
    let m : OutMsg := { ty := ty, dst := dst, seq := s.link.seq, body := body, since := s.now, tries := 0 }
    let sent := s.link.sent ++ [m]
    let s := { s with link := { s.link with
      out := if ackTypes.contains ty then s.link.out ++ [m] else s.link.out,
      sent := sent.drop (sent.length - 32), seq := (s.link.seq + 1) % 2 ^ 32 } }
    s.linkFrames m

/-- An EVENT to the active manager for one endpoint of this node (R399, R400): nothing for an endpoint that
the Skein does not list. -/
def State.notify (s : State) (kind local_ state cond : Nat) : State :=
  match s.skein.endpoints.find? fun e => e.1 == kind && e.2.1 == local_ with
  | some e =>
    s.linkSend 0x12 0xFFFE [1, e.2.2, kind, state, cond, s.sys.roundNo % 2 ^ 32, s.seconds % 2 ^ 32]
  | none => s

end Sys2Proof.Machine
end

