-- ==== Sys2Proof/Machine/Routes.lean ====
section
/-! DEFINITION. Machine/Routes.lean: route entries, ramps, chains, holds, and the checks of a change
(R42 to R59, R536 to R538 of spec/02_weave_and_border.md). -/
namespace Sys2Proof.Machine

/-! ### Entry images (R42) -/

def Image.valid (m : Image) : Bool := bitAt m.w0 31
def Image.mute (m : Image) : Bool := bitAt m.w0 30
def Image.cls (m : Image) : Nat := bitsOf m.w0 29 28
def Image.sink (m : Image) : Nat := bitsOf m.w0 25 13
def Image.src (m : Image) : Nat := bitsOf m.w0 12 0
def Image.rampCode (m : Image) : Nat := bitsOf m.w1 31 28
def Image.gain (m : Image) : Nat := bitsOf m.w1 23 0
def Image.inv (m : Image) : Bool := bitAt m.w2 31
def Image.hostOk (m : Image) : Bool := bitAt m.w2 30
def Image.agrp (m : Image) : Nat := bitsOf m.w2 27 16
def Image.succV (m : Image) : Bool := bitAt m.w2 15
def Image.succ (m : Image) : Nat := bitsOf m.w2 14 0

/-- A staged image with its reserved bits and its SUCC fields stored as 0 (R42). -/
def Image.staged (m : Image) : Image :=
  ⟨m.w0 &&& 0xF3FFFFFF#32, m.w1 &&& 0xF0FFFFFF#32, m.w2 &&& 0xCFFF0000#32⟩

def Image.setValid (m : Image) (b : Bool) : Image := { m with w0 := setBits m.w0 31 31 (if b then 1 else 0) }
def Image.setMute (m : Image) (b : Bool) : Image := { m with w0 := setBits m.w0 30 30 (if b then 1 else 0) }
def Image.setRamp (m : Image) (code : Nat) : Image := { m with w1 := setBits m.w1 31 28 code }

/-- The image with its successor link set or removed. -/
def Image.link (m : Image) : Option Nat → Image
  | some j => { m with w2 := setBits m.w2 15 0 (0x8000 + j) }
  | none => { m with w2 := setBits m.w2 15 0 0 }

/-- Unity, Q4.20. -/
def unity20 : Nat := 0x100000

/-- An entry that nothing has made valid. -/
def Entry.empty : Entry :=
  { img := ⟨0#32, 0#32, 0#32⟩, gain := 0, cur := 0, ramp := none, hf := unity20, hfRamp := none,
    holdAlarm := false, holdPage := false, removing := false, fading := false, waiting := none, ecc := false }

/-- A route entry. -/
def State.entry (s : State) (i : Nat) : Entry := mget (fun _ => Entry.empty) s.weave.routes i

/-- A route entry written. -/
def State.setEntry (s : State) (i : Nat) (e : Entry) : State :=
  { s with weave := { s.weave with routes := mset (fun _ => Entry.empty) s.weave.routes i e } }

/-- The indexes of the listed entries. -/
def State.entries (s : State) : List Nat := s.weave.routes.map (·.1)

/-! ### Ramps (R48, R49) -/

/-- The start of a ramp from one gain to another over `len` samples. -/
def Ramp.start (g t len : Nat) : Ramp :=
  { big := (g : Int) * 1048576, step := Int.tdiv (((t : Int) - g) * 1048576) len, target := t, left := len }

/-- The working gain's integer part: the gain used. -/
def Ramp.gain (r : Ramp) : Nat := (r.big / 1048576).toNat

/-- A ramp after `k` more samples: the gain of the last of them, and the ramp while it goes on. -/
def Ramp.adv (r : Ramp) (k : Nat) : Nat × Option Ramp :=
  if r.left ≤ k then (r.target, none)
  else
    let r' := { r with big := r.big + r.step * k, left := r.left - k }
    (r'.gain, some r')

/-- An entry after `k` samples of its gain ramp and its hold ramp. -/
def Entry.adv (e : Entry) (k : Nat) : Entry :=
  let (g, r) := match e.ramp with | some r => r.adv k | none => (e.gain, none)
  let (h, hr) := match e.hfRamp with | some r => r.adv k | none => (e.hf, none)
  { e with gain := g, ramp := r, hf := h, hfRamp := hr }

/-- An entry after `k` samples of its hold ramp alone. -/
def Entry.advHold (e : Entry) (k : Nat) : Entry :=
  let (h, hr) := match e.hfRamp with | some r => r.adv k | none => (e.hf, none)
  { e with hf := h, hfRamp := hr }

/-- Every entry after `k` samples of ramps. -/
def State.advRoutes (s : State) (k : Nat) : State :=
  s.entries.foldl (fun s i => s.setEntry i ((s.entry i).adv k)) s

/-! ### Targets and engagement (R53, R54) -/

/-- Whether an alarm group is engaged. -/
def State.group (s : State) (g : Nat) : Bool := s.bit (Reg.WEAVE_AGRP_STATE (g / 32)) (g % 32)

/-- Whether a class 3 image is engaged: valid, not muted, its group set in the vector. -/
def State.engaged (s : State) (m : Image) : Bool := m.valid && m.cls == 3 && !m.mute && s.group m.agrp

/-- The target gain of an image: 0 when muted, and 0 for a class 3 image that is not engaged. -/
def State.targetOf (s : State) (m : Image) : Nat :=
  if m.mute then 0 else if m.cls == 3 && !s.group m.agrp then 0 else m.gain

/-! ### Chains (R50 to R52, R538) -/

/-- The members of a chain from an entry on, oldest first. -/
def State.chain (s : State) : Nat → Nat → List Nat
  | 0, _ => []
  | fuel + 1, i =>
    if (s.entry i).img.succV then i :: s.chain fuel (s.entry i).img.succ else [i]

/-- The chain of an entry: at most four members. -/
def State.chainOf (s : State) (i : Nat) : List Nat := s.chain 4 i

/-- The newest member of an entry's chain. -/
def State.newest (s : State) (i : Nat) : Nat := (s.chainOf i).getLastD i

/-- Whether an index lies in the spare range (WEAVE_SPARE). -/
def State.spare (s : State) (i : Nat) : Bool :=
  let b := s.rf Reg.WEAVE_SPARE_BASE
  b ≤ i && i < b + s.rf Reg.WEAVE_SPARE_COUNT

/-- The lowest-numbered free spare entry. -/
def State.freeSpare (s : State) : Option Nat :=
  let b := s.rf Reg.WEAVE_SPARE_BASE
  (List.range (s.rf Reg.WEAVE_SPARE_COUNT)).findSome? fun k =>
    if (s.entry (b + k)).img.valid then none else some (b + k)

/-- An entry starting a ramp from its instantaneous gain. -/
def State.rampEntry (s : State) (i t code : Nat) : State :=
  let e := s.entry i
  s.setEntry i { e with ramp := some (Ramp.start e.gain t (rampLen s.sys.rate96 code)) }

/-- Every member of a chain starting a ramp together: the newest to a target, each older one to 0. -/
def State.rampChain (s : State) (i t code : Nat) : State :=
  let n := s.newest i
  (s.chainOf i).foldl (fun s j => s.rampEntry j (if j = n then t else 0) code) s

/-- The spare members of a chain made free. -/
def State.freeMembers (s : State) (i : Nat) : State :=
  (s.chainOf i).foldl (fun s j => if j = i then s else s.setEntry j { Entry.empty with cur := (s.entry j).cur }) s

/-- Whether two images differ in SOURCE, SINK or INV: a crossfade change. -/
def crossfade (a b : Image) : Bool := a.src != b.src || a.sink != b.sink || a.inv != b.inv

/-- The start of a fade-out that waits with an image (R50, R538). -/
def State.fadeOut (s : State) (i : Nat) (m : Image) : State :=
  let s := s.rampChain i 0 m.rampCode
  s.setEntry i { s.entry i with fading := true, removing := false, waiting := some m }

/-- A change of a valid entry to a staged image (R50, R51, R537, R538); a new member stays under the hold of its entry
(R54). That it cancels a removal in progress is a choice of the model (notes/assumptions/22). -/
def State.changeTo (s : State) (i : Nat) (m : Image) (succEn : Bool) : State :=
  let e := s.entry i
  if e.fading then s.setEntry i { e with waiting := some m }
  else
    let n := s.newest i
    let en := s.entry n
    if crossfade en.img m then
      if succEn then
        match s.freeSpare with
        | some k =>
          let s := s.rampChain i 0 m.rampCode
          let s := s.setEntry n { s.entry n with img := (s.entry n).img.link (some k), removing := false }
          let s := s.setEntry i { s.entry i with removing := false }
          let s := s.setEntry k { Entry.empty with
            img := m, hf := e.hf, hfRamp := e.hfRamp, holdAlarm := e.holdAlarm, holdPage := e.holdPage }
          s.rampEntry k (s.targetOf m) m.rampCode
        | none => s.fadeOut i m
      else s.fadeOut i m
    else
      let s := s.setEntry n { en with img := m.link none, ecc := false }
      let s := s.setEntry i { s.entry i with removing := false }
      s.rampChain i (s.targetOf m) m.rampCode

/-- The RAMP of every member of a chain set. -/
def State.codeChain (s : State) (i code : Nat) : State :=
  (s.chainOf i).foldl (fun s j => s.setEntry j { s.entry j with img := (s.entry j).img.setRamp code }) s

/-- MUTE or UNMUTE of a valid entry: a gain-only change whose RAMP every member takes, or a change of the
waiting image. One that a REMOVE takes to 0 still goes there. -/
def State.muteTo (s : State) (i : Nat) (b : Bool) (code : Nat) : State :=
  let e := s.entry i
  if e.fading then
    match e.waiting with
    | some w => s.setEntry i { e with waiting := some ((w.setMute b).setRamp code) }
    | none => s
  else
    let n := s.newest i
    let m := (s.entry n).img.setMute b
    let s := s.setEntry n { s.entry n with img := m }
    (s.codeChain i code).rampChain i (if e.removing then 0 else s.targetOf m) code

/-- A route command taking effect (R44, R50, R51, R538). -/
def State.applyRoute (s : State) (c : RouteCmd) : State :=
  let m := c.img.staged
  match c.op with
  | .nop | .reserved _ => s
  | .set =>
    let m := m.setValid true
    let s := s.setEntry c.idx { Entry.empty with img := m }
    s.rampEntry c.idx (s.targetOf m) m.rampCode
  | .change => s.changeTo c.idx (m.setValid true) c.succEn
  | .remove =>
    let e := s.entry c.idx
    if e.fading then s.setEntry c.idx { e with waiting := none }
    else
      let s := s.rampChain c.idx 0 m.rampCode
      s.setEntry c.idx { s.entry c.idx with removing := true }
  | .mute => s.muteTo c.idx true m.rampCode
  | .unmute => s.muteTo c.idx false m.rampCode
  | .cut =>
    let e := s.entry (s.newest c.idx)
    let cur := (s.entry c.idx).cur
    let s := s.freeMembers c.idx
    s.setEntry c.idx { Entry.empty with
      img := m, gain := s.targetOf m, cur := cur, hf := e.hf, hfRamp := e.hfRamp,
      holdAlarm := e.holdAlarm, holdPage := e.holdPage }

/-- The changes of one boundary, the last one to each crosspoint alone (R46); a NOP is no change. -/
def lastOnly : List RouteCmd → List RouteCmd
  | [] => []
  | c :: t =>
    if c.op == .nop || t.any (fun d => d.idx == c.idx && d.op != .nop) then lastOnly t else c :: lastOnly t

/-- Retirement of one entry whose ramps have ended, or, when `force`, as though they had (R52, R538). -/
def State.retireEntry (s : State) (force : Bool) (i : Nat) : State :=
  let e := s.entry i
  let n := s.newest i
  let ended := force || (s.chainOf i).all fun j => (s.entry j).ramp.isNone
  if s.spare i || !e.img.valid || !ended then s
  else
    let en := s.entry n
    let s' := s.freeMembers i
    if e.removing then s'.setEntry i Entry.empty
    else if e.fading then
      match e.waiting with
      | some w =>
        let s' := s'.setEntry i { e with img := w, gain := 0, ramp := none, fading := false, waiting := none, ecc := false }
        if force then s'.setEntry i { s'.entry i with gain := s'.targetOf w }
        else s'.rampEntry i (s'.targetOf w) w.rampCode
      | none => s'.setEntry i Entry.empty
    else
      s'.setEntry i { en with
        img := en.img.link none, gain := s'.targetOf en.img, ramp := none, cur := e.cur,
        removing := false, fading := false, waiting := none }

/-- Retirement of every chain whose ramp has ended (R52). -/
def State.retireAll (s : State) (force : Bool) : State :=
  s.entries.foldl (fun s i => s.retireEntry force i) s

/-! ### Holds (R54, R55) -/

/-- Whether a source slot is a pilot generator, whose routes are exempt from holds. -/
def State.pilot (s : State) (src : Nat) : Bool :=
  8128 ≤ src && src < 8176 && s.rf (Reg.WEAVE_GEN_CFG_TYPE (src - 8128)) == 1

/-- The hold factor of an entry ramping to a value over a ramp code. -/
def Entry.holdTo (rate96 : Bool) (e : Entry) (t code : Nat) : Entry :=
  { e with hfRamp := some (Ramp.start e.hf t (rampLen rate96 code)) }

/-- One kind of hold of an entry evaluated: it starts with a ramp to 0, and the last hold's end
ramps the factor back over the entry's own RAMP. -/
def Entry.evalHold (rate96 : Bool) (alarm want : Bool) (code : Nat) (e : Entry) : Entry :=
  let had := if alarm then e.holdAlarm else e.holdPage
  let other := if alarm then e.holdPage else e.holdAlarm
  let e' := if alarm then { e with holdAlarm := want } else { e with holdPage := want }
  if want && !had then Entry.holdTo rate96 e' 0 code
  else if !want && had && !other then Entry.holdTo rate96 e' unity20 e.img.rampCode
  else e'

/-- The sinks that an engaged class 3 entry targets. -/
def State.alarmSinks (s : State) : List Nat :=
  s.weave.routes.filterMap fun e => if s.engaged e.2.img then some e.2.img.sink else none

/-- The sinks that an active class 2 entry targets (R55). -/
def State.pageSinks (s : State) : List Nat :=
  s.weave.routes.filterMap fun e =>
    if e.2.img.valid && e.2.img.cls == 2 && !e.2.img.mute && !e.2.holdAlarm && e.2.img.gain != 0
    then some e.2.img.sink else none

/-- The alarm holds of every sink evaluated (R54, step 4). -/
def State.evalAlarmHolds (s : State) : State :=
  let sinks := s.alarmSinks
  let code := s.rf Reg.WEAVE_CLASS_CTL_ALM_RAMP
  s.entries.foldl (fun s i =>
    let e := s.entry i
    let want := e.img.valid && Nat.blt e.img.cls 3 && !s.pilot e.img.src && sinks.contains e.img.sink
    s.setEntry i (Entry.evalHold s.sys.rate96 true want code e)) s

/-- The page holds of every sink evaluated (R55, step 3). -/
def State.evalPageHolds (s : State) : State :=
  let on := s.flag Reg.WEAVE_CLASS_CTL_PAGE_PRE
  let sinks := s.pageSinks
  let code := s.rf Reg.WEAVE_CLASS_CTL_PAGE_RAMP
  s.entries.foldl (fun s i =>
    let e := s.entry i
    let want := on && e.img.valid && Nat.blt e.img.cls 2 && !s.pilot e.img.src && sinks.contains e.img.sink
    s.setEntry i (Entry.evalHold s.sys.rate96 false want code e)) s

/-- Whether an entry ramps to 0 whatever its image says: an older member of a chain, or a member of one whose head meets
a test (a REMOVE, a fade-out). -/
def State.leaving (s : State) (test : Entry → Bool) (i : Nat) : Bool :=
  (s.entry i).img.succV || s.weave.routes.any fun e => test e.2 && (s.chainOf e.1).contains i

/-- The alarm group vector changed by the writes and alarm actions waiting for step 4 (R53): each class 3
entry whose engagement changes ramps over ALM_RAMP, from its gain. -/
def State.applyGroups (s : State) : State :=
  let before := s.weave.routes.map fun e => (e.1, s.engaged e.2.img)
  let s := s.weave.agrpPend.foldl (fun s w =>
    if w.1 then s.setBit (Reg.WEAVE_AGRP_STATE (w.2 / 32)) (w.2 % 32)
    else s.clrBit (Reg.WEAVE_AGRP_STATE (w.2 / 32)) (w.2 % 32)) s
  let s := { s with weave := { s.weave with agrpPend := [] } }
  let code := s.rf Reg.WEAVE_CLASS_CTL_ALM_RAMP
  before.foldl (fun s b =>
    let e := s.entry b.1
    if s.engaged e.img == b.2 || s.leaving (fun h => h.fading || h.removing) b.1 then s
    else s.setEntry b.1 { e with ramp := some (Ramp.start e.gain (s.targetOf e.img) (rampLen s.sys.rate96 code)) }) s

/-! ### Checks (R45, R47, R59, R536) -/

/-- What a chain contributes to the load of a sink, times 4 (R59). That the waiting image of a fade-out counts is a DESIGN CHOICE
(notes/assumptions/127). -/
def State.chainLoad (s : State) (sink i : Nat) : Nat :=
  let e := s.entry i
  let ms := s.chainOf i
  let n := s.newest i
  let feeds (m : Image) := m.sink == sink
  let ramping := ms.any fun j => (s.entry j).ramp.isSome
  let newestEnd :=
    if e.removing then 0
    else if e.fading then
      match e.waiting with
      | some w => if feeds w then s.k4 w.src * w.gain else 0
      | none => 0
    else
      let m := (s.entry n).img
      if feeds m then s.k4 m.src * m.gain else 0
  if ramping || e.fading then
    let starts := (ms.map fun j =>
      let m := (s.entry j).img
      if feeds m then s.k4 m.src * (s.entry j).gain else 0).sum
    max starts newestEnd
  else newestEnd

/-- The load of a sink, times 4 and in Q4.20 (R59). -/
def State.load4 (s : State) (sink : Nat) : Nat :=
  (s.entries.map fun i => if s.spare i || !(s.entry i).img.valid then 0 else s.chainLoad sink i).sum

/-- Whether a narrowing sink's load exceeds 1.0. -/
def State.overload (s : State) (sink : Nat) : Bool := s.narrowing sink && Nat.blt (4 * unity20) (s.load4 sink)

/-- Valid entries into a sink, chain members and waiting images counted (R45). -/
def State.fanIn (s : State) (sink : Nat) : Nat :=
  (s.weave.routes.filter fun e =>
    (e.2.img.valid && e.2.img.sink == sink)
      || (e.2.fading && match e.2.waiting with | some w => w.sink == sink | none => false)).length

/-- One boundary of the projected table: retirements, then the accepted changes in the order of R46,
those to the crosspoint under check left out when `skip` names it. -/
def State.projectStep (s : State) (r : Nat) (mid : List RouteCmd) (skip : Option Nat) : State :=
  let s := s.retireAll false
  let pick (l : List RouteDue) := (l.filter fun d => d.due == r).map (·.cmd)
  let all := pick s.weave.dueH ++ mid ++ pick s.weave.dueC
  let all := match skip with | some i => all.filter (fun c => c.idx != i) | none => all
  (lastOnly all).foldl (fun s c => s.applyRoute c) s

/-- The projected table of a later boundary, for a check made now (R536): `k` is how many boundaries
lie before it. -/
def State.projectTo (s : State) (skip : Nat) : Nat → Nat → State
  | 0, r => s.projectStep r [] (some skip)
  | k + 1, r => ((s.projectStep r [] none).advRoutes s.sys.n).projectTo skip k (r + 1)

/-- Privileges of a host command (R47). -/
def State.hostDenied (s : State) (c : RouteCmd) : Bool :=
  let e := s.entry c.idx
  let m := c.img.staged
  let p := match e.waiting with
    | some w => w
    | none => (s.entry (s.newest c.idx)).img
  match c.op with
  | .nop => false
  | .mute | .unmute => !p.hostOk
  | .change =>
    !p.hostOk || m.cls != p.cls || m.sink != p.sink || m.inv != p.inv || m.hostOk != p.hostOk || m.agrp != p.agrp
      || (m.src != p.src && !s.bit (Reg.WEAVE_HSRC (m.src / 32)) (m.src % 32))
  | _ => true

/-- The result of the checks of R45 against a projected table. A fifth member is counted as the fade-out would count its
image, which weighs the same. -/
def State.checkRoute (s : State) (host : Bool) (c : RouteCmd) : Nat :=
  let m := c.img.staged
  let e := s.entry c.idx
  let stages := match c.op with
    | .set | .change | .cut => true
    | _ => false
  let adds := match c.op with
    | .set | .change => true
    | .cut => m.valid
    | _ => false
  let badOp := match c.op with
    | .reserved _ => true
    | .cut => host
    | _ => false
  let badState := match c.op with
    | .set => e.img.valid
    | .change | .remove | .mute | .unmute => !e.img.valid
    | _ => false
  let xfade := match c.op with
    | .change => !e.fading && crossfade (s.entry (s.newest c.idx)).img m && c.succEn
    | _ => false
  let after := if xfade && Nat.ble 4 (s.chainOf c.idx).length then s.fadeOut c.idx (m.setValid true) else s.applyRoute c
  let sink := match c.op with
    | .unmute => (s.entry (s.newest c.idx)).img.sink
    | _ => m.sink
  let loads := adds || c.op == .unmute
  if c.op = .nop then 0
  else if badOp then 1
  else if s.spare c.idx then 2
  else if badState then 3
  else if stages && (!s.hasSource m.src || !s.hasSink m.sink) then 4
  else if stages && Nat.blt 0xFD953A m.gain then 5
  else if (host && s.hostDenied c) || (!host && stages && m.hostOk && Nat.ble 2 m.cls) then 6
  else if adds && Nat.blt 512 (after.fanIn sink) then 7
  else if loads && after.overload sink then 8
  else if xfade && Nat.ble 4 (s.chainOf c.idx).length then 9
  else if xfade && s.freeSpare.isNone then 10
  else 0

end Sys2Proof.Machine
end

