-- ==== Sys2Proof/Machine/Time.lean ====
section
/-! DEFINITION. Machine/Time.lean: Hoop's time, the servo's state and the queue of scheduled actions (R323
to R352 of spec/11_network_time.md). -/
namespace Sys2Proof.Machine

open Reg

/-! ### Time of day (R323, R324) -/

/-- One nanosecond in units of 2^-16 ns, and one second. -/
def ns16 : Int := 65536
def s16 : Int := 65536000000000

/-- The time of day set (2^-16 ns); a slew in progress ends. -/
def State.setTod (s : State) (t : Int) : State :=
  { s with hoop := { s.hoop with ofs := 6 * t - (s.now : Int) * 65536, slew := none } }

/-- The round that the time of day lies in: floor(time × fs / N) (R341). -/
def State.gridRound (s : State) (t : Int) : Nat :=
  (t * s.sys.rate / (s16 * s.sys.n)).toNat % 2 ^ 48

/-- Bits of the time of day: seconds, nanoseconds and their fraction. -/
def todSec (t : Int) : Nat := (t / s16).toNat
def todNs (t : Int) : Nat := (t % s16 / ns16).toNat
def todFrac (t : Int) : Nat := (t % ns16).toNat

/-- Whether an alarm trigger is active or an alarm group engaged (R337). -/
def State.alarmActive (s : State) : Bool :=
  s.reg ALARM_TRIG_ACT0 != 0#32 || s.reg ALARM_TRIG_ACT1 != 0#32
    || (List.range 128).any fun j => s.reg (WEAVE_AGRP_STATE j) != 0#32

/-! ### Quality and servo (R334) -/

/-- QUAL codes. -/
def qFree : Nat := 0
def qCoarse : Nat := 1
def qEstimated : Nat := 2
def qHoldover : Nat := 3
def qLocked : Nat := 4

def State.qual (s : State) : Nat := s.rf TIME_STAT_QUAL

def State.setQual (s : State) (q : Nat) : State :=
  if s.qual = q then s else (s.sf TIME_STAT_QUAL q).raise TIME_EVT_QUAL_CHG

/-- SERVO codes. -/
def svFree : Nat := 0
def svAcquiring : Nat := 1
def svLocked : Nat := 2
def svHoldover : Nat := 3

def State.servo (s : State) : Nat := s.rf TIME_STAT_SERVO

/-- Accuracy of a stamp of a port in ns by its line mode, coded as NET_STAT.SPEED codes it (R327): 25G and 10G, SGMII,
1000BASE-T, 100BASE-TX. -/
def stampNs (mode : Nat) : Nat :=
  if mode ≤ 1 then 2 else if mode = 2 then 4 else if mode = 4 then 8 else 40

/-- TIME_ERR as it reads (R334): what QUAL gives. -/
def State.timeErr (s : State) : Word :=
  let sat (n : Nat) : Word := if n < 0xFFFFFFFF then BitVec.ofNat 32 n else 0xFFFFFFFF#32
  if s.qual = qFree then 0xFFFFFFFF#32
  else if s.qual = qHoldover then
    match s.hoop.holdAt with
    | some (t, e) => sat (e + (s.now - t) * (s.reg TIME_HOLD_PPB).toNat / 6000000000)
    | none => s.reg TIME_ERR
  else s.reg TIME_ERR

/-- Entry of the servo into HOLDOVER (R334, R336): time runs on the last frequency. QUAL shows it where lock is lost; before
the first lock, and after a step, it stays (R338). -/
def State.holdover (s : State) : State :=
  let e := (s.hoop.filt / ns16).natAbs
  let s := { s with hoop := { s.hoop with holdAt := some (s.now, e), good := 0, bad := 0 } }
  let s := s.sf TIME_STAT_SERVO svHoldover
  if s.qual = qLocked then s.setQual qHoldover else s

/-! ### Output gain of a muted transition (R337) -/

/-- The gain of the outputs at a position of the present round. -/
def State.outGainAt (s : State) (p : Nat) : Nat :=
  match s.hoop.outRamp with
  | some r => (r.adv (p + 1)).1
  | none => s.hoop.outGain

/-! ### The action queue (R342, R343, R347) -/

def Action.kind (x : Action) : Nat := bitsOf (x.w.getD 0 0#32) 31 28
def Action.dropLate (x : Action) : Bool := bitAt (x.w.getD 0 0#32) 27
def Action.origin (x : Action) : Nat := bitsOf (x.w.getD 0 0#32) 20 16
def Action.due (x : Action) : Nat := bitsOf (x.w.getD 0 0#32) 15 0 * 2 ^ 32 + (x.w.getD 1 0#32).toNat
def Action.tag (x : Action) : Nat := bitsOf (x.w.getD 2 0#32) 31 16
def Action.args (x : Action) : Nat := bitsOf (x.w.getD 2 0#32) 15 0
def Action.data (x : Action) (i : Nat) : Word := x.w.getD (3 + i) 0#32

/-- KIND codes of an action. -/
def kRoute : Nat := 1
def kBorder : Nat := 2
def kAlarm : Nat := 3

/-- BADARG of R343: the fields of an action that its KIND tests at GO. -/
def badArg (w : List Word) : Bool :=
  let g (i : Nat) : Word := w.getD i 0#32
  let kind := bitsOf (g 0) 31 28
  let args := bitsOf (g 2) 15 0
  let op := args / 256 % 8
  bitsOf (g 0) 26 21 != 0 ||
    (if kind = kRoute then (args / 256 != 0 || args % 16 / 4 != 0 || args % 2 != 0)
        || bitsOf (g 3) 31 15 != 0 || g 7 != 0#32
      else if kind = kBorder then args / 16384 != 0
      else
        (args / 2048 != 0 || args % 256 != 0) || op == 0 || Nat.ble 6 op
          || (if op ≤ 2 then bitsOf (g 3) 31 6 != 0 else if op = 3 then g 3 != 0#32 else bitsOf (g 3) 31 12 != 0)
          || g 4 != 0#32 || g 5 != 0#32 || g 6 != 0#32 || g 7 != 0#32)

/-- The result of the checks of a GO, in their order (R342). -/
def State.saResult (s : State) (a : Nat) (setH : Bool) (w : List Word) : Nat :=
  let kind := bitsOf (w.getD 0 0#32) 31 28
  if kind = 0 ∨ 3 < kind then 2
  else if (setH ∧ kind ≠ kRoute) ∨ (kind = kAlarm ∧ a ≠ 1) then 3
  else if badArg w then 4
  else if 1024 ≤ s.hoop.queue.length then 1
  else 0

/-- An action placed at the tail of the queue with its writer's identity. -/
def State.saPush (s : State) (origin : Nat) (setH : Bool) (w : List Word) : State :=
  let w := w.set 0 (setBits (w.getD 0 0#32) 20 16 origin)
  { s with hoop := { s.hoop with queue := s.hoop.queue ++ [⟨w, setH, s.now⟩] } }

/-- Words of an action as the Warden writes them for itself: kind, due round, tag, arguments and data. -/
def actionWords (kind due tag args : Nat) (data : List Word) : List Word :=
  ([BitVec.ofNat 32 (kind * 2 ^ 28 + due / 2 ^ 32 % 2 ^ 16), BitVec.ofNat 32 due,
    BitVec.ofNat 32 (tag * 65536 + args)] ++ data ++ List.replicate 5 0#32).take 8

/-- A frame sent on both pairing lanes (R304), those that are down or have no live association left out (R276): the last 32
that left are kept. -/
def State.pairSend (s : State) (m : PairMsg) : State :=
  let (s, a) := s.laneTx 0
  let (s, b) := s.laneTx 1
  if a || b then
    let out := s.pair.out ++ [m]
    { s with pair := { s.pair with out := out.drop (out.length - 32) } }
  else s

/-- Whether a partner shares this node's actions (R36, R348): the node is PAIRED, or a rejoin runs. -/
def State.sharing (s : State) : Bool := s.rf PAIR_STAT_STATE == 2 || s.pair.rejoin.isSome

/-- An action queued by the Warden through set C and sent to the partner (R348): dropped when the queue is full. -/
def State.wardenAction (s : State) (w : List Word) : State :=
  if 1024 ≤ s.hoop.queue.length then s.raise TIME_EVT_SA_FULL
  else
    let s := if s.sharing then s.pairSend (.action [setBits (w.getD 0 0#32) 20 16 1 :: w.drop 1]) else s
    s.saPush 1 false w

/-- Which of the two staging sets. -/
def setIx (setH : Bool) : Nat := if setH then 1 else 0

/-- Whether an agent may write a staging set (R342, R351). -/
def saAgent (setH : Bool) (a : Nat) : Bool := if setH then a == 3 || a == 4 else Nat.ble a 2

/-- A completion record counted towards the zone command that its action came from, which sends DONE with its last
(R404). -/
def State.zoneRecord (s : State) (x : Action) (status : Nat) : State :=
  match s.link.zones.find? fun (z : ZoneDone) => z.tag == x.tag && z.due == x.due with
  | none => s
  | some z =>
    let one (b : Bool) : Nat := if b then 1 else 0
    let z' : ZoneDone := { z with
      done := z.done + one (status == 0), late := z.late + one (status == 1), refused := z.refused + one (status == 2),
      discarded := z.discarded + one (Nat.ble 3 status) }
    let s := { s with link := { s.link with zones := s.link.zones.map fun (y : ZoneDone) => if y = z then z' else y } }
    if z'.done + z'.late + z'.refused + z'.discarded = z.total then
      s.linkSend 0x11 0xFFFE [z.tag, 2, z.due, z'.done, z'.late, z'.refused, z'.discarded]
    else s

/-- A completion record (R347): its two words, HEAD and WRAP. -/
def State.saRecord (s : State) (x : Action) (status result late : Nat) : State :=
  let h := s.rf TIME_SA_DONE_HEAD_HEAD
  let w0 := x.tag * 65536 + x.origin * 2048 + status * 256 + x.kind * 16 + result % 16
  let w1 := min late 65535 * 65536 + s.sys.roundNo % 65536
  let s := (s.setRegN (TIME_SA_DONE h 0) w0).setRegN (TIME_SA_DONE h 1) w1
  let s := s.countMod TIME_SA_DONE_HEAD_HEAD
  let s := if x.setH then s else s.zoneRecord x status
  let n := s.hoop.doneN
  let s := { s with hoop := { s.hoop with doneN := min 256 (n + 1) } }
  if Nat.ble 256 n then s.raise TIME_SA_DONE_HEAD_WRAP else s

/-- Every pending action of a set with a TAG cancelled (R347). -/
def State.saCancel (s : State) (setH : Bool) (tag : Nat) : State :=
  let hit (x : Action) : Bool := x.setH == setH && x.tag == tag
  let gone := s.hoop.queue.filter hit
  let s := { s with hoop := { s.hoop with queue := s.hoop.queue.filter fun x => !hit x } }
  gone.foldl (fun s x => s.saRecord x 5 0 0) s

/-- Whether an action is held at a boundary: kinds ROUTE and BORDER while QUAL is COARSE (R346). -/
def State.saHeld (s : State) (x : Action) : Bool := s.qual == qCoarse && x.kind != kAlarm

/-- TIME_SA_LVL as it reads. -/
def State.saLevel (s : State) : Word :=
  BitVec.ofNat 32 ((s.hoop.queue.filter s.saHeld).length * 65536 + s.hoop.queue.length)

/-- Whether an action reaches execution at the boundary of the present round (R344, R346): due, in the queue
at least 1.0 µs before, and not held. -/
def State.saReady (s : State) (x : Action) : Bool :=
  Nat.ble (x.since + us1) s.sys.roundStart && !s.saHeld x
    && (Nat.ble x.due s.sys.roundNo || (x.kind == kAlarm && s.qual == qCoarse))

/-- Lateness of an action in rounds: none for an ALARM action while QUAL is COARSE (R345, R346). -/
def State.saLateness (s : State) (x : Action) : Nat :=
  if x.kind = kAlarm ∧ s.qual = qCoarse then 0 else s.sys.roundNo - x.due

/-- What R345 does with an action that reaches execution: nothing, or a discard with its status. -/
def State.saDiscard (s : State) (x : Action) : Option Nat :=
  let late := s.saLateness x
  if late = 0 then none
  else if s.sys.rate < late * s.sys.n then some 4
  else if x.dropLate then some 3 else none

/-- An action that has reached execution taken out of the queue, unless the boundary's 64 of its group are
spent: the actions carried out (in queue order) come back with the state. `alarm` selects the group. -/
def State.saTake (s : State) (alarm : Bool) : State × List Action :=
  if !s.flag TIME_CTL_SA_RUN || s.flag ALARM_CTL_BARE then (s, [])
  else
    s.hoop.queue.foldl (fun (p : State × List Action) x =>
      let (s, got) := p
      if (x.kind == kAlarm) != alarm || !s.saReady x then p
      else
        let out (s : State) : State := { s with hoop := { s.hoop with queue := s.hoop.queue.erase x } }
        match s.saDiscard x with
        | some 4 => (((out s).saRecord x 4 0 (s.saLateness x)).raise TIME_EVT_SA_STALE, got)
        | some st => (((out s).saRecord x st 0 (s.saLateness x)).raise TIME_EVT_SA_LATE, got)
        | none =>
          if 64 ≤ got.length then p
          else
            let s := if s.saLateness x = 0 then s else s.raise TIME_EVT_SA_LATE
            (out s, got ++ [x])) (s, [])

/-- The completion record of an action carried out: done, done late, or refused with a result. -/
def State.saDone (s : State) (x : Action) (result : Nat) : State :=
  let late := s.saLateness x
  s.saRecord x (if result ≠ 0 then 2 else if late = 0 then 0 else 1) result late

/-- The route command that a ROUTE action holds (R343). -/
def Action.route (x : Action) : RouteCmd :=
  let op := match x.args / 16 with
    | 0 => .nop | 1 => .set | 2 => .change | 3 => .remove | 4 => .mute | 5 => .unmute | 6 => .cut
    | k => .reserved (k % 16)
  { op := op, idx := bitsOf (x.data 0) 14 0, img := ⟨x.data 1, x.data 2, x.data 3⟩,
    succEn := (x.args / 2) % 2 == 1 }

/-- The Border command that a BORDER action holds (R343). -/
def Action.border (x : Action) : BorderCmd :=
  { ch := x.args % 512, item := x.args / 512 % 16,
    d := ⟨x.data 0, x.data 1, x.data 2, x.data 3, x.data 4⟩, clr := (x.args / 8192) % 2 == 1 }

end Sys2Proof.Machine
end

