-- ==== Sys2Proof/Machine/Params.lean ====
section
/-! DEFINITION. Machine/Params.lean: the parameter records that the Warden writes into the coils (R160, R161 of
spec/06_arrays_and_supervision.md). -/
namespace Sys2Proof.Machine

open Reg

/-- The words W0 to W7 of a record in force from a round (R160). -/
def SkParam.words (p : SkParam) (apply : Nat) : List Word :=
  [BitVec.ofNat 32 (2 ^ 31 + p.kind % 128 * 2 ^ 24 + p.target % 65536), BitVec.ofNat 32 apply]
    ++ (p.data ++ List.replicate 6 0#32).take 6

/-- Whether a record in the coil is to be left unchanged: VALID, and round APPLY + 1 has not begun (R161). -/
def State.paramStands (s : State) (a : Nat) : Bool :=
  bitAt (s.word a) 31 && Nat.blt (((s.word (a + 4)).toNat + 2 ^ 32 - s.sys.roundNo % 2 ^ 32) % 2 ^ 32) (2 ^ 31)

/-- A record written, W1 to W7 first and W0 last. -/
def State.paramWrite (s : State) (a : Nat) (w : List Word) : State :=
  [1, 2, 3, 4, 5, 6, 7, 0].foldl (fun (s : State) i => (s.setWord (a + 4 * i) (w.getD i 0#32)).freshEcc (a + 4 * i)) s

/-- A change tried (R161): written while the round is at least 4 below APPLY, into a coil that can be written and over a
record that need not stand; else it waits, with a new APPLY once the lead is gone. A cluster without a parameter area
takes no record. -/
def State.paramTry (s : State) (j : ParamJob) : State :=
  match s.skein.areas.find? fun e => e.1 == j.param.cluster with
  | none => s
  | some (c, base) =>
    let a := base + 32 * (j.param.pos % 256)
    let j := if Nat.ble (s.sys.roundNo + 4) j.apply then j else { j with apply := s.sys.roundNo + 4 }
    if s.bit PWR_STAT c && s.clState c != clLoading && !s.paramStands a then s.paramWrite a (j.param.words j.apply)
    else { s with supv := { s.supv with params := s.supv.params ++ [j] } }

/-- The changes that wait, tried in their order. -/
def State.paramStep (s : State) : State :=
  s.supv.params.foldl State.paramTry { s with supv := { s.supv with params := [] } }

/-- A change of a parameter issued for a round and sent to the partner (R36, R161). -/
def State.paramIssue (s : State) (p : SkParam) (apply : Nat) : State :=
  let j : ParamJob := { param := p, apply := max apply (s.sys.roundNo + 4) }
  (if s.sharing then s.pairSend (.param j) else s).paramTry j

/-- The records that the Skein gives for a reason, issued for a round. -/
def State.paramsFor (s : State) (r : ParamOn) (apply : Nat) : State :=
  s.skein.params.foldl (fun (s : State) e => if e.1 = r then s.paramIssue e.2 apply else s) s

/-- A change of the partner (R36): taken unless the same one waits or stands in the coil already. -/
def State.paramTake (s : State) (j : ParamJob) : State :=
  let here := match s.skein.areas.find? fun e => e.1 == j.param.cluster with
    | some (_, base) => s.word (base + 32 * (j.param.pos % 256) + 4) == BitVec.ofNat 32 j.apply
    | none => true
  if here || s.supv.params.contains j then s else s.paramTry j

end Sys2Proof.Machine
end

