-- ==== Sys2Proof/Machine/Weave.lean ====
section
/-! DEFINITION. Machine/Weave.lean: the Weave's commands (R41 to R61, R68 to R71 of
spec/02_weave_and_border.md). -/
namespace Sys2Proof.Machine

open Reg

/-! ### Command ports -/

/-- Whether an agent may reach the registers of port C, or of port H (R43). -/
def portAgent (host : Bool) (a : Agent) : Bool := if host then a.val == 3 || a.val == 4 else Nat.ble a.val 2

/-- Which of the two register sets a port has. -/
def portIx (host : Bool) : Nat := if host then 1 else 0

def State.routeQueue (s : State) (host : Bool) : List RouteCmd :=
  if host then s.weave.queueH else s.weave.queueC

def State.setRouteQueue (s : State) (host : Bool) (q : List RouteCmd) : State :=
  let s := if host then { s with weave := { s.weave with queueH := q } }
    else { s with weave := { s.weave with queueC := q } }
  s.sf (WEAVE_XP_STAT_DEPTH (portIx host)) q.length

/-- The operation a code of WEAVE_XP_CTL.OP names (R44). -/
def routeOpOf : Nat → RouteOp
  | 0 => .nop | 1 => .set | 2 => .change | 3 => .remove | 4 => .mute | 5 => .unmute | 6 => .cut
  | k => .reserved k

/-- The code of an operation (R44). -/
def RouteOp.code : RouteOp → Nat
  | .nop => 0 | .set => 1 | .change => 2 | .remove => 3 | .mute => 4 | .unmute => 5 | .cut => 6
  | .reserved k => k

/-- GO on a port: the staged command joins the queue, or is dropped when 64 wait (R44, R71). -/
def State.routeGo (s : State) (host : Bool) : State :=
  let p := portIx host
  let c : RouteCmd :=
    { op := routeOpOf (s.rf (WEAVE_XP_CTL_OP p)), idx := s.rf (WEAVE_XP_IDX_INDEX p),
      img := ⟨s.reg (WEAVE_XP_W0 p), s.reg (WEAVE_XP_W1 p), s.reg (WEAVE_XP_W2 p)⟩,
      succEn := s.flag (WEAVE_XP_CTL_SUCC_EN p) }
  let q := s.routeQueue host
  if Nat.ble 64 q.length then s.raise (if host then WEAVE_EVT_OVF_H else WEAVE_EVT_OVF_C)
  else s.setRouteQueue host (q ++ [c])

/-- A command staged and queued through a port by an agent (R43, R44). -/
def State.routeCmd (s : State) (host : Bool) (a : Agent) (op : RouteOp) (idx : Nat) (w0 w1 w2 : Word)
    (succEn : Bool) : State :=
  s.regWrite a (WEAVE_XP_IDX (portIx host)) (BitVec.ofNat 32 idx) fun s =>
  if portAgent host a then
    let p := portIx host
    let s := s.sf (WEAVE_XP_IDX_INDEX p) idx
    let s := ((s.setReg (WEAVE_XP_W0 p) w0).setReg (WEAVE_XP_W1 p) w1).setReg (WEAVE_XP_W2 p) w2
    let s := (s.sf (WEAVE_XP_CTL_OP p) op.code).setFlag (WEAVE_XP_CTL_SUCC_EN p) succEn
    (s.routeGo host).ok 0#32
  else s.err

def execWeaveNop (host : Bool) (a : Agent) (idx : Fin 32768) (w0 w1 w2 : Word) (succEn : Bool) (s : State) : Out :=
  .next (s.routeCmd host a .nop idx.val w0 w1 w2 succEn)

def execWeaveSet (host : Bool) (a : Agent) (idx : Fin 32768) (w0 w1 w2 : Word) (succEn : Bool) (s : State) : Out :=
  .next (s.routeCmd host a .set idx.val w0 w1 w2 succEn)

def execWeaveChange (host : Bool) (a : Agent) (idx : Fin 32768) (w0 w1 w2 : Word) (succEn : Bool) (s : State) : Out :=
  .next (s.routeCmd host a .change idx.val w0 w1 w2 succEn)

def execWeaveRemove (host : Bool) (a : Agent) (idx : Fin 32768) (w0 w1 w2 : Word) (succEn : Bool) (s : State) : Out :=
  .next (s.routeCmd host a .remove idx.val w0 w1 w2 succEn)

def execWeaveMute (host : Bool) (a : Agent) (idx : Fin 32768) (w0 w1 w2 : Word) (succEn : Bool) (s : State) : Out :=
  .next (s.routeCmd host a .mute idx.val w0 w1 w2 succEn)

def execWeaveUnmute (host : Bool) (a : Agent) (idx : Fin 32768) (w0 w1 w2 : Word) (succEn : Bool) (s : State) : Out :=
  .next (s.routeCmd host a .unmute idx.val w0 w1 w2 succEn)

def execWeaveCut (host : Bool) (a : Agent) (idx : Fin 32768) (w0 w1 w2 : Word) (succEn : Bool) (s : State) : Out :=
  .next (s.routeCmd host a .cut idx.val w0 w1 w2 succEn)

/-- A GO with OP 0x7 to 0xF: queued like any other command, and refused with BADOP when validated. -/
def execWeaveReservedOp (host : Bool) (a : Agent) (op : Fin 9) (idx : Fin 32768) (w0 w1 w2 : Word) (succEn : Bool)
    (s : State) : Out :=
  .next (s.routeCmd host a (.reserved (7 + op.val)) idx.val w0 w1 w2 succEn)

/-- The result of a port's command: the projected table of the boundary it would take effect at decides
(R45, R536); while the Weave does not run, every command is refused with STATE (R68). -/
def State.routeResult (s : State) (host : Bool) (c : RouteCmd) : Nat :=
  if !s.weave.running then 3
  else
    let due := s.boundaryAfter us1
    let proj := (s.advRoutes (s.sys.n - s.sys.pass)).projectTo c.idx (due - (s.sys.roundNo + 1)) (s.sys.roundNo + 1)
    proj.checkRoute host c

/-- A port command completed with a result: SEQ and RESULT, the events of a refusal, or the change
accepted for its boundary (R45, R46). -/
def State.routeDone (s : State) (host : Bool) (c : RouteCmd) (res : Nat) : State :=
  let p := portIx host
  let s := (s.countMod (WEAVE_XP_STAT_SEQ p)).sf (WEAVE_XP_STAT_RESULT p) res
  if res = 0 then
    let d : RouteDue := { due := s.boundaryAfter us1, cmd := c }
    if host then { s with weave := { s.weave with dueH := s.weave.dueH ++ [d] } }
    else { s with weave := { s.weave with dueC := s.weave.dueC ++ [d] } }
  else
    let s := s.raise (if host then WEAVE_EVT_REFUSED_H else WEAVE_EVT_REFUSED_C)
    let s := if res = 10 then s.raise WEAVE_EVT_NOSPARE else s
    if host && res = 6 then (s.raise WEAVE_EVT_DENIED_H).privViol 3 c.idx else s

/-- One command of a port validated (R45). -/
def execWeaveCmdValidate (host : Bool) (s : State) : Out :=
  .next (match s.routeQueue host with
    | [] => s
    | c :: q => (s.setRouteQueue host q).routeDone host c (s.routeResult host c))

/-! ### Alarm groups -/

/-- A group write kept for step 4 (R53). -/
def State.groupWrite (s : State) (engage : Bool) (grp : Nat) : State :=
  { s with weave := { s.weave with agrpPend := s.weave.agrpPend ++ [(engage, grp)] } }

/-- A group engaged or released by a write (R53): from the Warden alone. -/
def State.agrpWrite (s : State) (set : Bool) (a grp : Nat) : State :=
  if a = 1 then (s.groupWrite set grp).ok 0#32 else (s.raise WEAVE_EVT_AGRP_DENIED).err

/-- A write of WEAVE_AGRP_SET (R53). -/
def State.agrpSet (s : State) (a : Agent) (grp : Nat) : State :=
  s.access a.val Reg.WEAVE_AGRP_SET true (BitVec.ofNat 32 grp)
    fun s => s.agrpWrite true a.val grp

/-- A write of WEAVE_AGRP_CLR (R53). Whether an active trigger holds the group is
decided at step 4 (R197). -/
def State.agrpClr (s : State) (a : Agent) (grp : Nat) : State :=
  s.access a.val Reg.WEAVE_AGRP_CLR true (BitVec.ofNat 32 grp)
    fun s => s.agrpWrite false a.val grp

def execWeaveAgrpSet (a : Agent) (grp : Fin 4096) (s : State) : Out := .next (s.agrpSet a grp.val)

def execWeaveAgrpClr (a : Agent) (grp : Fin 4096) (s : State) : Out := .next (s.agrpClr a grp.val)

/-! ### Source filters -/

/-- Whether a WEAVE_HPF value holds a reserved code (R56). -/
def hpfReserved (v : Word) : Bool := (List.range 8).any fun j => Nat.blt 8 (bitsOf v (4 * j + 3) (4 * j))

/-- Whether a new WEAVE_HPF value would raise K for a slot that feeds a narrowing sink and overload that
sink (R57), in the table projected to the next boundary: which routes count is a DESIGN CHOICE (notes/assumptions/128). -/
def State.hpfOverloads (s : State) (i : Nat) (v : Word) : Bool :=
  let s' := ((s.advRoutes (s.sys.n - s.sys.pass)).projectStep (s.sys.roundNo + 1) [] none).setReg (WEAVE_HPF i) v
  (List.range 8).any fun j =>
    let slot := 8 * i + j
    Nat.blt (k4OfCode (s.hpfCode slot)) (k4OfCode (bitsOf v (4 * j + 3) (4 * j)))
      && s'.weave.routes.any fun e => e.2.img.valid && e.2.img.src == slot && s'.overload e.2.img.sink

/-- A write of WEAVE_HPF (R57, R71): agents 0 to 2 alone; a refused write sets HPF_REFUSED. -/
def State.hpfWrite (s : State) (a i : Nat) (v : Word) : State :=
  if Nat.blt 2 a then s.err
  else if hpfReserved v || s.hpfOverloads i v then (s.raise WEAVE_EVT_HPF_REFUSED).err
  else (s.setReg (WEAVE_HPF i) v).ok 0#32

def execWeaveHpfWrite (a : Agent) (i : Fin 512) (v : Word) (s : State) : Out :=
  .next (s.regWrite a (WEAVE_HPF i.val) v fun s => s.hpfWrite a.val i.val v)

/-! ### Generators and meters -/

/-- A generator. -/
def State.gen (s : State) (g : Nat) : Gen := mget (fun _ => ⟨0, 0⟩) s.weave.gens g

def State.setGen (s : State) (g : Nat) (x : Gen) : State :=
  { s with weave := { s.weave with gens := mset (fun _ => ⟨0, 0⟩) s.weave.gens g x } }

/-- A write of WEAVE_GEN_CFG (R60): a reserved TYPE errors, a player's TYPE reads 4, and a noise
generator restarts from SEED when it is enabled or becomes one. -/
def State.genCfgWrite (s : State) (g : Nat) (v : Word) : State :=
  let en := bitAt v 31
  let ty := bitsOf v 30 28
  if 48 ≤ g then (s.setReg (WEAVE_GEN_CFG g) (setBits (s.reg (WEAVE_GEN_CFG g)) 31 31 (if en then 1 else 0))).ok 0#32
  else if 2 < ty then s.err
  else
    let was := s.flag (WEAVE_GEN_CFG_EN g)
    let wasTy := s.rf (WEAVE_GEN_CFG_TYPE g)
    let s := (s.sf (WEAVE_GEN_CFG_EN g) (if en then 1 else 0)).sf (WEAVE_GEN_CFG_TYPE g) ty
    let s := if en && (!was || wasTy != ty) && ty == 2 then
      s.setGen g { s.gen g with lfsr := (s.reg (WEAVE_GEN_SEED g)).toNat } else s
    s.ok 0#32

def execWeaveGenCfgWrite (a : Agent) (g : Fin 64) (v : Word) (s : State) : Out :=
  .next (s.regWrite a (WEAVE_GEN_CFG g.val) v fun s => s.genCfgWrite g.val v)

/-- A meter beside its registers. -/
def Meter.empty : Meter := { open_ := false, acc := 0, ready := none }

def State.meter (s : State) (m : Nat) : Meter := mget (fun _ => Meter.empty) s.weave.meters m

def State.setMeter (s : State) (m : Nat) (x : Meter) : State :=
  { s with weave := { s.weave with meters := mset (fun _ => Meter.empty) s.weave.meters m x } }

/-- A write of WEAVE_MTR_CFG (R61): CLR zeroes PEAK and MS; CLR or a new WIN discards the window. -/
def State.mtrCfgWrite (s : State) (m : Nat) (v : Word) : State :=
  let win := bitsOf v 3 0
  let clr := bitAt v 31
  let drop := clr || win != s.rf (WEAVE_MTR_CFG_WIN m)
  let s := s.sf (WEAVE_MTR_CFG_WIN m) win
  let s := if clr then (s.setReg (WEAVE_MTR_PEAK m) 0#32).setReg (WEAVE_MTR_MS m) 0#32 else s
  let s := if drop then s.setMeter m Meter.empty else s
  s.ok 0#32

def execWeaveMtrClr (a : Agent) (m : Fin 64) (v : Word) (s : State) : Out :=
  .next (s.regWrite a (WEAVE_MTR_CFG m.val) v fun s => s.mtrCfgWrite m.val v)

/-- The end of a meter's window (R61): MS shows the mean square that the boundary closed. -/
def execMeterWindowEnd (m : Fin 64) (s : State) : Out :=
  let x := s.meter m.val
  .next (match x.ready with
    | some ms => (s.setRegN (WEAVE_MTR_MS m.val) ms).setMeter m.val { x with ready := none }
    | none => s)

/-- A boundary's share of the meters (R61): a window that ends leaves its mean square ready, and one
whose start the round number marks begins. -/
def State.meterBoundary (s : State) : State :=
  (List.range 64).foldl (fun s m =>
    let x := s.meter m
    let w := 2 ^ s.rf (WEAVE_MTR_CFG_WIN m)
    if s.sys.roundNo % w = 0 then
      let ready := if x.open_ then some (min 0xFFFFFFFF (x.acc / (w * s.sys.n * 2 ^ 46))) else x.ready
      s.setMeter m { open_ := true, acc := 0, ready := ready }
    else s) s

/-! ### RUN and the tables -/

/-- Whether two stake runs overlap or one passes slot 8,127 (R39, R68). -/
def State.runsBad (s : State) : Bool :=
  let runs := ((List.range 128).map fun k =>
    (s.rf (WEAVE_STK_MAP_BASE k), s.rf (WEAVE_STK_MAP_COUNT k))).filter fun r => r.2 != 0
  runs.any (fun r => Nat.blt 4032 (r.1 + r.2))
    || (List.range runs.length).any fun i => (List.range i).any fun j =>
      let a := runs.getD i (0, 0)
      let b := runs.getD j (0, 0)
      Nat.blt a.1 (b.1 + b.2) && Nat.blt b.1 (a.1 + a.2)

/-- A write of WEAVE_CTL (R68): RUN takes effect at a round boundary; a set refused when runs are bad. -/
def State.weaveRunWrite (s : State) (v : Word) : State :=
  if bitAt v 0 && s.runsBad then s.err else (s.sf WEAVE_CTL_RUN (bitsOf v 0 0)).ok 0#32

def execWeaveRunWrite (a : Agent) (v : Word) (s : State) : Out :=
  .next (s.regWrite a WEAVE_CTL v fun s => s.weaveRunWrite v)

/-- An entry as it stands before any pass: its target gain, no ramp, its holds complete (R68, R69). That a waiting image and a
removal in progress are dropped is a choice of the model (notes/assumptions/27). -/
def State.settleEntry (s : State) (i : Nat) : State :=
  let e := s.entry i
  s.setEntry i { e with
    gain := if e.img.valid then s.targetOf e.img else 0, ramp := none, removing := false, fading := false,
    waiting := none, hfRamp := none, hf := unity20, holdAlarm := false, holdPage := false }

/-- Holds taken as complete (R69). -/
def State.settleHolds (s : State) : State :=
  let s := (s.evalAlarmHolds).evalPageHolds
  s.entries.foldl (fun s i =>
    let e := s.entry i
    s.setEntry i { e with hfRamp := none, hf := if e.holdAlarm || e.holdPage then 0 else unity20 }) s

/-- The start of Weave passes: every valid entry at its target gain (R68). -/
def State.settleRoutes (s : State) : State :=
  (s.entries.foldl (fun s i => s.settleEntry i) s).settleHolds

/-- Every generator restarted from phase 0, a noise generator from SEED (R60, R69). -/
def State.genRestart (s : State) : State :=
  (List.range 48).foldl (fun s g =>
    if s.flag (WEAVE_GEN_CFG_EN g) && s.rf (WEAVE_GEN_CFG_TYPE g) == 2 then
      s.setGen g ⟨0, (s.reg (WEAVE_GEN_SEED g)).toNat⟩ else s) { s with weave := { s.weave with gens := [] } }

/-- The restart of the Weave after Rim or a device reset (R68, R69): every chain retired, entries at
their targets, filters and meters cleared, generators from phase 0 or SEED. -/
def State.weaveRestart (s : State) : State :=
  let s := (s.retireAll true).settleRoutes
  let s := (List.range 64).foldl (fun s m =>
    (s.setReg (WEAVE_MTR_PEAK m) 0#32).setReg (WEAVE_MTR_MS m) 0#32) s
  { s with weave := { s.weave with hpf := [], genBlk := [], meters := [], sums := [] } }.genRestart

/-- A boundary's share of the filter codes (R57): a new code takes effect with its state cleared. -/
def State.hpfBoundary (s : State) : State :=
  let slots := (s.regs.filter fun e => Nat.ble (WEAVE_HPF 0) e.1 && Nat.ble e.1 (WEAVE_HPF 511)).flatMap fun e =>
    (List.range 8).map fun j => 8 * ((e.1 - WEAVE_HPF 0) / 4) + j
  let z : Hpf := ⟨0, ⟨0, 0, 0, 0⟩, ⟨0, 0, 0, 0⟩⟩
  let old := s.weave.hpf.map (·.1)
  (slots ++ old).foldl (fun s slot =>
    let h := mget (fun _ => z) s.weave.hpf slot
    if h.code = s.hpfCode slot then s
    else { s with weave := { s.weave with hpf := mset (fun _ => z) s.weave.hpf slot { z with code := s.hpfCode slot } } }) s

/-- One word of a route entry written by the Boot controller (R41, R42): what the Weave alone writes stays. -/
def State.entryWord (s : State) (i k : Nat) (v : Word) : State :=
  let e := s.entry i
  let m := e.img
  match k with
  | 0 => s.setEntry i { e with img := { m with w0 := v &&& 0xF3FFFFFF#32 }, ecc := false }
  | 1 => s.setEntry i { e with img := { m with w1 := v &&& 0xF0FFFFFF#32 }, ecc := false }
  | 2 => s.setEntry i { e with img := { m with w2 := (v &&& 0xCFFF0000#32) ||| (m.w2 &&& 0xFFFF#32) }, ecc := false }
  | _ => s

/-- W3 of an entry as it reads (R42): PHASE and CUR_GAIN. -/
def State.entryW3 (s : State) (i : Nat) : Word :=
  let e := s.entry i
  let phase :=
    if !e.img.valid then 0
    else if e.holdAlarm || e.holdPage then 3
    else if s.leaving (·.removing) i then 2
    else if e.ramp.isSome then 1 else 0
  BitVec.ofNat 32 (phase * 2 ^ 30 + e.cur)

/-- A word of a route entry as the fabric reads it. -/
def State.entryRead (s : State) (i k : Nat) : Word :=
  match k with
  | 0 => (s.entry i).img.w0
  | 1 => (s.entry i).img.w1
  | 2 => (s.entry i).img.w2
  | _ => s.entryW3 i

/-- The fabric address of route entry 0 and of Border record 0 (R41). -/
def routeBase : Nat := 0x0500100000
def recordBase : Nat := 0x0500180000

end Sys2Proof.Machine
end

