-- ==== Sys2Proof/Machine/Alarm.lean ====
section
/-! DEFINITION. Machine/Alarm.lean: contact inputs, triggers, players, scenes and fault outputs (R192 to
R217, R540 to R542 of spec/07_alarm_path.md). -/
namespace Sys2Proof.Machine

open Reg

/-! ### Contact inputs (R192 to R194) -/

def Loop.empty : Loop := { raw := 0, since := 0, counting := false }
def State.loop (s : State) (i : Nat) : Loop := mget (fun _ => Loop.empty) s.alarm.loops i
def State.setLoop (s : State) (i : Nat) (x : Loop) : State :=
  { s with alarm := { s.alarm with loops := mset (fun _ => Loop.empty) s.alarm.loops i x } }

/-- State codes of a contact input (R192). -/
def inNormal : Nat := 0
def inActive : Nat := 1
def inOpen : Nat := 2
def inShort : Nat := 3

/-- The filtered state of an input. -/
def State.inState (s : State) (i : Nat) : Nat := bitsOf (s.reg ALARM_IN_STAT) (2 * i + 1) (2 * i)

def State.setInState (s : State) (i v : Nat) : State :=
  s.setReg ALARM_IN_STAT (setBits (s.reg ALARM_IN_STAT) (2 * i + 1) (2 * i) v)

/-- The boundaries of the bands of R192, from SHORT up to OPEN, in ten-thousandths of the reference, and the half of the
hysteresis at each. -/
def bandEdges : List Nat := [1500, 4500, 8000]
def bandHalf : Nat := 100

/-- The bands by rising voltage, and the place of a band among them. -/
def bandAt (k : Nat) : Nat := [inShort, inActive, inNormal, inOpen].getD k inNormal
def bandRank (b : Nat) : Nat := if b = inShort then 0 else if b = inActive then 1 else if b = inNormal then 2 else 3

/-- The band of a loop voltage, in ten-thousandths of the reference, from the band before it: each boundary lies 0.01
further away in the direction of the change (R192). -/
def bandOf (before v : Nat) : Nat :=
  let r := bandRank before
  bandAt ((bandEdges.zipIdx.filter fun e =>
    if e.2 < r then Nat.ble (e.1 - bandHalf) v else Nat.blt (e.1 + bandHalf) v).length)

/-- The loop voltage of an input, as a part of its reference, has changed; where it crosses into another band, the input's
filter starts counting (R192, R193). -/
def execContactBandChange (i : Fin 16) (v : Fin 10001) (s : State) : Out :=
  let band := bandOf (s.loop i.val).raw v.val
  .next (if (s.loop i.val).raw = band then s
    else s.setLoop i.val
      { raw := band, since := s.now,
        counting := s.flag (ALARM_IN_CFG_EN i.val) && band != s.inState i.val })

/-- How long a raw band must hold (R193): ceil(FILT × 1.024) ticks of the TCXO divided by 48, or FILT
rounded up to whole Rim clock cycles when the TCXO has stopped. -/
def State.filterTime (s : State) (i : Nat) : Nat :=
  let filt := s.rf (ALARM_IN_CFG_FILT i)
  if s.alarm.xoLost then ((filt * 32768 + 999999) / 1000000 * 6000000000 + 32767) / 32768
  else ((filt * 1024 + 999) / 1000 * 46875 + 7) / 8

/-- Whether a state of an input starts its trigger (R194). -/
def State.starting (s : State) (i code : Nat) : Bool :=
  code == inActive || (code == inShort && s.flag (ALARM_IN_CFG_SHORT_ACT i))

/-- Places of sources among the commands of one cycle (R541); inputs stand at their number. -/
def rkCmd : Nat := 16
def rkMsg : Nat := 17
def rkOwn : Nat := 18
def rkPartner : Nat := 19

/-- A latched command put behind those of earlier cycles, and of its own cycle those of no higher place. -/
def putLatched (x : Latched) : List Latched → List Latched
  | [] => [x]
  | y :: l => if x.cycle < y.cycle ∨ (x.cycle = y.cycle ∧ x.rank < y.rank) then x :: y :: l else y :: putLatched x l

/-- A command latched (R195, R541); a start that the partner did not send goes to it (R37). -/
def State.latch (s : State) (rank : Nat) (c : AlarmCmd) : State :=
  let starts := match c with
    | .start t => if rank = rkPartner then s.alarm.starts else s.alarm.starts ++ [t]
    | _ => s.alarm.starts
  { s with alarm := { s.alarm with cmds := putLatched ⟨cycleAt s.now, rank, c⟩ s.alarm.cmds, starts := starts } }

/-- An input's state taken on: IN_CHANGE, and what R194 and R198 do with it. -/
def State.inputTo (s : State) (i new : Nat) : State :=
  let old := s.inState i
  let s := (s.setInState i new).raise ALARM_EVT_IN_CHANGE
  let t := s.rf (ALARM_IN_CFG_TRIG i)
  let s :=
    if s.flag (ALARM_IN_CFG_ROLE i) then if new = inActive then s.latch i .reset else s
    else if s.starting i new then (s.latch i (.start t)).wakeEvent 0
    else if s.starting i old then s.latch i (.leave i t)
    else s
  if (new = inOpen ∨ new = inShort) ∧ s.flag (ALARM_IN_CFG_WAKE_FLT i) then s.wakeEvent 1 else s

/-- A raw band that has held for FILT becomes the input's state (R193). -/
def execContactFilterAccept (i : Fin 16) (s : State) : Out :=
  let x := s.loop i.val
  .next (if s.flag (ALARM_IN_CFG_EN i.val) = true ∧ x.counting = true ∧ x.raw ≠ s.inState i.val then
      ((s.moveTo (x.since + s.filterTime i.val)).setLoop i.val { x with counting := false }).inputTo i.val x.raw
    else s)

/-- Sensing under a new ALARM_IN_CFG (R193, R194): sensing that starts counts the band it finds, and an input that is no
longer sensed becomes NORMAL, a change of state like any other. -/
def State.sense (s : State) (i : Nat) (v : Word) : State :=
  let was := s.flag (ALARM_IN_CFG_EN i)
  let s := if !bitAt v 31 && s.inState i != inNormal then s.inputTo i inNormal else s
  let s := s.setReg (ALARM_IN_CFG i) (v &&& 0xF83F7FFF#32)
  let x := s.loop i
  if !bitAt v 31 then s.setLoop i { x with counting := false }
  else if was then s
  else s.setLoop i { x with since := s.now, counting := x.raw != s.inState i }

/-- A write of ALARM_IN_CFG (R193, R216). -/
def State.inCfgWrite (s : State) (i : Nat) (v : Word) : State :=
  let filt := bitsOf v 14 0
  if s.flag ALARM_CTL_RUN || Nat.blt filt 20 || Nat.blt 20000 filt then s.err else (s.sense i v).ok 0#32

/-! ### Fault outputs (R194, R213, R214) -/

/-- Whether the hardware alarm layer runs on its retained configuration, as in Bare mode and while Unconfigured (R211, R425). -/
def State.bareLayer (s : State) : Bool := s.flag ALARM_CTL_BARE || s.flag TRUST_BOOT_UNCONF

/-- ALARM_FAULT as it reads: its two event bits beside what the source bits show. -/
def State.faultBits (s : State) : Word :=
  let wiring := (List.range 16).any fun i =>
    s.flag (ALARM_IN_CFG_EN i) && s.flag (ALARM_IN_CFG_FAULT_EN i) && Nat.ble inOpen (s.inState i)
  let b (x : Bool) (n : Nat) : Nat := if x then 2 ^ n else 0
  let v := b (s.flag ALARM_CTL_BARE) 7 + b (s.flag ALARM_FAULT_STORE) 6 + b (s.flag ALARM_FAULT_TAIL) 5
    + b s.alarm.xoLost 4 + b wiring 3 + b (s.flag ALARM_FAULT_WDG) 2 + b (s.reg ALARM_FAULT_SW != 0#32) 1
  BitVec.ofNat 32 (v + b (v != 0) 0)

/-- Whether FAULT_N is asserted, and whether FRLY_DRV is driven high (R213, R215): in Off neither is, and FRLY_DRV waits for
the start that a power-on begins. -/
def State.faultN (s : State) : Bool := bitAt s.faultBits 0 && !s.power.rstLow
def State.frlyDrv (s : State) : Bool :=
  !s.faultN && !s.power.rstLow && s.power.boot != some 0 && !s.flag ALARM_CTL_BARE

/-! ### Messages and players (R202 to R206, R542) -/

/-- Base of the alarm message store (R420). -/
def storeBase : Nat := 0x0400000000 + if Config.flash2G then 0x09000000 else 0x04000000

/-- A message record of the Skein's alarm section. -/
def State.skMsg (s : State) (m : Nat) : SkMsg := mget (fun _ => SkMsg.none) s.skein.msgs m

/-- Whether a message is present with its chunk 0 verified. -/
def State.msgOk (s : State) (m : Nat) : Bool :=
  s.bit (if m < 32 then ALARM_MSG_OK0 else ALARM_MSG_OK1) (m % 32)

/-- Whether a chunk of a message, as flash holds it, matches its digest (R202, R205). -/
def State.chunkOk (s : State) (m c : Nat) : Bool :=
  let g := s.skMsg m
  let l := s.bytes (storeBase + g.start + 24576 * c) (3 * min 8192 (g.len - 8192 * c))
  s.skein.chunkDigs[g.digIdx + c]? == some (sha384 l)

/-- Stored sample `i` of a message in Q1.31 (R204): 0 outside the message, samples 0 to 5,460 from the
head in retention SRAM, the rest from flash. -/
def State.msgSample (s : State) (m : Nat) (i : Int) : Int :=
  let g := s.skMsg m
  if i < 0 ∨ (g.len : Int) ≤ i then 0
  else
    let n := i.toNat
    let a := if n ≤ 5460 then 0x0500000000 + m * 0x4000 + 3 * n else storeBase + g.start + 3 * n
    sext 24 (leNat (s.bytes a 3)) * 256

def Player.empty : Player := { holder := none, trig := 0, msg := 0, voices := [], plays := 0, ends := [], shown := [] }
def State.player (s : State) (p : Nat) : Player := mget (fun _ => Player.empty) s.alarm.players p
def State.setPlayer (s : State) (p : Nat) (x : Player) : State :=
  { s with alarm := { s.alarm with players := mset (fun _ => Player.empty) s.alarm.players p x } }

/-- The chunks fetched at the start of a play (R205): chunk 0 again, then the next. -/
def State.firstChunks (s : State) (m : Nat) : List Nat :=
  if s.msgOk m then List.range (min (s.skMsg m).chunks 2) else []

/-- A message starting from sample 0, at unity or ramping in over `ramp` samples. -/
def State.newVoice (s : State) (m : Nat) (ramp : Option Nat) : Voice :=
  { msg := m, k := 0, gain := if ramp.isSome then 0 else unity20,
    ramp := ramp.map fun n => Ramp.start 0 unity20 n, ready := [], fetch := s.firstChunks m, main := true }

/-- Every voice of a player fading out over ALM_RAMP (R196, R198). -/
def State.fadeVoices (s : State) (x : Player) : List Voice :=
  let n := rampLen s.sys.rate96 (s.rf WEAVE_CLASS_CTL_ALM_RAMP)
  x.voices.map fun (v : Voice) => if v.main then { v with main := false, ramp := some (Ramp.start v.gain 0 n) } else v

/-- A player claimed for a trigger (R195, R196): a message that still sounds is crossfaded inside the player. -/
def State.claim (s : State) (p t : Nat) : State :=
  let x := s.player p
  let m := s.rf (ALARM_TRIG_CFG_MSG t)
  let n := rampLen s.sys.rate96 (s.rf WEAVE_CLASS_CTL_ALM_RAMP)
  let s := if x.holder.isSome && x.holder != some t then s.raise ALARM_EVT_PREEMPT else s
  let vs := s.fadeVoices x ++ [s.newVoice m (if x.voices = [] then none else some n)]
  s.setPlayer p { x with holder := some t, trig := t, msg := m, plays := 0, ends := [], voices := vs }

/-- A player released: it fades out over ALM_RAMP and becomes idle (R198). -/
def State.release (s : State) (p : Nat) : State :=
  let x := s.player p
  s.setPlayer p { x with holder := none, voices := s.fadeVoices x }

/-- A player's restart from the head (R206). -/
def State.tailRestart (s : State) (v : Voice) : State × Voice :=
  ((s.raise ALARM_EVT_TAIL_FAIL).raise ALARM_FAULT_TAIL, { v with k := 0, ready := [], fetch := s.firstChunks v.msg })

/-- The highest stored sample that a play has needed by its output sample `k` (R204): at 96 kHz y(2n + 1) takes x(n + 1) in,
and y(2n + 2) a sample that the player has taken in before. -/
def State.needs (s : State) (v : Voice) : Nat :=
  let len := (s.skMsg v.msg).len
  min (if s.sys.rate96 then (v.k + 1) / 2 else v.k) (len - 1)

/-- Whether the chunk that a voice needs next is missing (R206). -/
def State.starved (s : State) (v : Voice) : Bool :=
  s.msgOk v.msg && Nat.blt 5460 (s.needs v) && !v.ready.contains (s.needs v / 8192)

/-- Output samples in one play (R542). -/
def State.playLen (s : State) (m : Nat) : Nat :=
  if s.sys.rate96 then 2 * (s.skMsg m).len + 2 else (s.skMsg m).len

/-- Output sample `k` of a play (R204). -/
def State.playSample (s : State) (m k : Nat) : Int :=
  let x (i : Int) := s.msgSample m i
  if s.sys.rate96 then
    let n : Int := (k / 2 : Nat)
    if k % 2 = 0 then x (n - 1)
    else satQ31 ((9 * (x (n - 1) + x n) - x (n - 2) - x (n + 1) + 8) / 16)
  else x k

/-- A voice past the chunk boundaries of its next sample: from the moment a chunk begins to play, the one
after it is fetched into the other buffer (R205). -/
def State.enterChunk (s : State) (v : Voice) : Voice :=
  let c := s.needs v / 8192
  let next := c + 1
  if Nat.blt 5460 (s.needs v) && 0 < c && next < (s.skMsg v.msg).chunks && !v.ready.contains next
      && !v.fetch.contains next then
    { v with ready := v.ready.filter (Nat.ble c), fetch := v.fetch ++ [next] }
  else v

/-- One sample of a voice: the state (for the events of a restart), the sample, the voice after it (none
once it has faded out), and whether the sample was the last of a play. -/
def State.voiceStep (s : State) (v : Voice) : State × Int × Option Voice × Bool :=
  let (s, v) := if s.starved v then s.tailRestart v else (s, v)
  let v := s.enterChunk v
  let raw := if s.msgOk v.msg then s.playSample v.msg v.k else 0
  let (g, r) := match v.ramp with | some r => r.adv 1 | none => (v.gain, none)
  let y := raw * g / 1048576
  let last := s.msgOk v.msg && Nat.ble (s.playLen v.msg) (v.k + 1)
  let v := { v with gain := g, ramp := r, k := if s.msgOk v.msg then v.k + 1 else 0 }
  let v := if last then { v with k := 0, ready := [], fetch := s.firstChunks v.msg } else v
  (s, y, if r.isNone && g == 0 then none else some v, last)

/-- What a player's status shows of a voice (R217, R542): STATE, and the play position of its next sample. -/
def State.voiceShown (s : State) (v : Voice) : Nat × Nat :=
  (if !v.main then 3 else if Nat.blt 5460 (s.needs v) then 2 else 1, if s.sys.rate96 then v.k / 2 else v.k)

/-- The voice that a player's status shows: its present message, or else what fades out. -/
def shownVoice (l : List Voice) : Option Voice :=
  match l.find? (·.main) with
  | some v => some v
  | none => l.head?

/-- One sample of a player, for emission at sample index `idx`. -/
def State.playerStep (s : State) (p idx : Nat) : State × Int :=
  let x := s.player p
  let fading := !x.voices.any (·.main)
  let cue (v : Voice) : Voice := if s.starved v then { v with k := 0 } else v
  let show_ := match shownVoice x.voices with
    | some v => (x.shown ++ [(idx, s.voiceShown (cue v))])
    | none => x.shown
  let (s, sum, vs, ended) := x.voices.foldl (fun (acc : State × Int × List Voice × Bool) v =>
    let (s, sum, vs, ended) := acc
    let (s, y, v', last) := s.voiceStep v
    (s, sum + y, match v' with | some w => vs ++ [w] | none => vs, ended || (last && (v.main || fading)))) (s, 0, [], false)
  (s.setPlayer p { s.player p with
    voices := vs, ends := if ended then x.ends ++ [idx] else x.ends, shown := show_.drop (show_.length - 32) }, satQ31 sum)

/-- A play ended (R198, R542): counted in PLAYS and, by its trigger, towards REPEAT. -/
def State.playEnd (s : State) (p : Nat) : State :=
  let x := s.player p
  let s := s.setPlayer p { x with plays := min 255 (x.plays + 1), ends := x.ends.tail }
  match x.holder with
  | none => s
  | some t =>
    let n := mget (fun _ => 0) s.alarm.plays t + 1
    let s := { s with alarm := { s.alarm with plays := mset (fun _ => 0) s.alarm.plays t n } }
    let rep := s.rf (ALARM_TRIG_CFG_REPEAT t)
    if !s.flag (ALARM_TRIG_CFG_LATCH t) && rep != 0 && Nat.ble rep n then s.latch rkOwn (.played t) else s

/-- The end of a play once its last sample has been emitted (R542). -/
def execMessagePlayEnd (p : Fin 16) (s : State) : Out :=
  .next (match (s.player p.val).ends with
    | [] => s
    | e :: _ => if e < s.sys.roundNo * s.sys.n + s.sys.pass then s.playEnd p.val else s)

/-- Plays of every player that have ended by a sample index. -/
def State.settlePlays (s : State) (idx : Nat) : State :=
  (List.range 16).foldl (fun s p =>
    ((s.player p).ends.filter fun e => Nat.blt e idx).foldl (fun s _ => s.playEnd p) s) s

/-- A player's fetch completes, and its digest is checked (R205): the chunk is ready, or, where the read failed or the
digest differs, stays missing. -/
def execChunkFetchDone (p : Fin 16) (read : Bool) (s : State) : Out :=
  let x := s.player p.val
  let pick (main : Bool) := findIdxOpt (fun (v : Voice) => v.main == main && v.fetch != []) x.voices 0
  .next (match (match pick true with | some r => some r | none => pick false) with
    | none => s
    | some (i, v) =>
      let c := v.fetch.headD 0
      let v' := { v with fetch := v.fetch.tail, ready := if read && s.chunkOk v.msg c then v.ready ++ [c] else v.ready }
      s.setPlayer p.val { x with voices := x.voices.set i v' })

/-- A chunk not ready when its first sample is due (R206). -/
def execTailFail (p : Fin 16) (s : State) : Out :=
  let x := s.player p.val
  .next (match findIdxOpt (fun v => s.starved v) x.voices 0 with
    | none => s
    | some (i, v) =>
      let (s', v') := s.tailRestart v
      s'.setPlayer p.val { x with voices := x.voices.set i v' })

/-- The sample index being emitted. -/
def State.emitted (s : State) : Nat :=
  s.sys.roundNo * s.sys.n + min (s.sys.n - 1) ((s.now - s.sys.roundStart) / s.sys.period)

/-- What a player's status shows of the sample being emitted: IDLE where none was staged. -/
def State.plyShown (s : State) (p : Nat) : Nat × Nat :=
  match (s.player p).shown.find? fun e => e.1 == s.emitted with
  | some e => e.2
  | none => (0, 0)

/-- ALARM_PLY_STAT and ALARM_PLY_POS as they read (R217, R542). -/
def State.plyStat (s : State) (p : Nat) : Word :=
  let x := s.player p
  let plays := min 255 (x.plays + (x.ends.filter fun e => Nat.blt e s.emitted).length)
  BitVec.ofNat 32 ((s.plyShown p).1 * 2 ^ 30 + x.trig * 2 ^ 22 + x.msg * 256 + plays)

def State.plyPos (s : State) (p : Nat) : Word := BitVec.ofNat 32 (s.plyShown p).2

/-- Every held player back at sample 0 of its message, after Rim or a device reset (R69, R215). -/
def State.restartPlayers (s : State) : State :=
  (List.range 16).foldl (fun s p =>
    let x := s.player p
    s.setPlayer p { x with ends := [], shown := [], voices := if x.holder.isSome then [s.newVoice x.msg none] else [] }) s

/-! ### Scenes (R207, R208) -/

/-- A gain changed by `b` half decibels, up or down: floor(base × 10^(b / 40)) (R183, R208). -/
def gainDb (base : Nat) (b : Int) : Nat :=
  let ok (g : Nat) : Bool :=
    if 0 ≤ b then Nat.ble (g ^ 40) (base ^ 40 * 10 ^ b.toNat) else Nat.ble (g ^ 40 * 10 ^ (-b).toNat) (base ^ 40)
  (List.range 32).foldl (fun g i => if ok (g + 2 ^ (31 - i)) then g + 2 ^ (31 - i) else g) 0

/-- The tag of the actions that the Warden issues for a trigger's scene. -/
def sceneTag (t : Nat) : Nat := 0x8000 + t

/-- The words of a gain-only CHANGE of an entry for a round. -/
def State.gainAction (s : State) (due tag idx gain : Nat) (ramp : Option Nat) : List Word :=
  let m := (s.entry (s.newest idx)).img
  let m := match ramp with | some c => m.setRamp c | none => m
  actionWords kRoute due tag (2 * 16) [BitVec.ofNat 32 idx, m.w0, setBits m.w1 23 0 gain, m.w2 &&& 0xCFFF0000#32]

/-- Rounds in a number of tenths of a second, rounded up. -/
def State.tenths (s : State) (n : Nat) : Nat := (n * s.sys.rate + 10 * s.sys.n - 1) / (10 * s.sys.n)

/-- One scene step issued as a scheduled action at least 4 rounds ahead (R208). -/
def State.sceneStep (s : State) (t start : Nat) (e : SceneStep) : State :=
  let due := max (s.sys.roundNo + 4) (start + s.tenths e.offset)
  let alarm (op : Nat) (w : Word) := s.wardenAction (actionWords kAlarm due (sceneTag t) (op * 256) [w])
  match e.op with
  | 1 => alarm 1 (BitVec.ofNat 32 (bitsOf e.arg 5 0))
  | 2 => alarm 2 (BitVec.ofNat 32 (bitsOf e.arg 5 0))
  | 3 => alarm 4 (BitVec.ofNat 32 (bitsOf e.arg 11 0))
  | 4 => alarm 5 (BitVec.ofNat 32 (bitsOf e.arg 11 0))
  | 5 =>
    let idx := bitsOf e.arg 30 16
    let base := mget (fun _ => 0) s.skein.gains idx
    s.wardenAction (s.gainAction due (sceneTag t) idx (gainDb base (-(bitsOf e.arg 7 0 : Int))) none)
  | 6 =>
    let add (r : SceneRun) : SceneRun := if r.trig = t ∧ r.ended = false then { r with bits := r.bits ++ [(due, bitsOf e.arg 3 0)] } else r
    { s with alarm := { s.alarm with scenes := s.alarm.scenes.map add } }
  | _ => s

/-- The scene of a trigger started with it. -/
def State.sceneStart (s : State) (t : Nat) : State :=
  let n := s.rf (ALARM_TRIG_GRP_SCENE t)
  if n = 0xFF ∨ s.bareLayer = true then s
  else
    let r : SceneRun := ⟨t, n, s.sys.roundNo, [], [], false⟩
    let s := { s with alarm := { s.alarm with scenes := s.alarm.scenes ++ [r] } }
    let s := (mget (fun _ => []) s.skein.scenes n).foldl (fun s e => s.sceneStep t s.sys.roundNo e) s
    s.paramsFor (.scene n) 0

/-- Whether a scene keeps a group engaged. -/
def State.sceneHolds (s : State) (g : Nat) : Bool := s.alarm.scenes.any fun r => r.groups.contains g

/-- The scene of a trigger ended: its steps not yet due are withdrawn, and its groups released by actions (R36, R208). -/
def State.sceneEnd (s : State) (t : Nat) : State :=
  let gs := ((s.alarm.scenes.filter fun r => r.trig == t).flatMap (·.groups)).eraseDups
  let s := s.saCancel false (sceneTag t)
  let keep (r : SceneRun) : Option SceneRun :=
    if r.trig != t then some r else if r.groups.isEmpty then none else some { r with bits := [], ended := true }
  let s := { s with alarm := { s.alarm with scenes := s.alarm.scenes.filterMap keep } }
  gs.foldl (fun s g =>
    s.wardenAction (actionWords kAlarm (s.sys.roundNo + 4) (sceneTag t) (5 * 256) [BitVec.ofNat 32 g])) s

/-- A group engaged or released by an ALARM action, for the scene whose tag it carries if any (R208): a release is that of
the scene that has ended, if one still holds the group, and a group engaged when its scene has ended is released in turn. -/
def State.groupAction (s : State) (tag : Nat) (engage : Bool) (g : Nat) : State :=
  let mine (r : SceneRun) : Bool := sceneTag r.trig == tag
  let gone := s.alarm.scenes.any fun r => mine r && r.ended && r.groups.contains g
  let mark (r : SceneRun) : Option SceneRun :=
    if engage then (if mine r && !r.ended then some { r with groups := r.groups.filter (· != g) ++ [g] } else some r)
    else if mine r && r.ended == gone then
      let gs := r.groups.filter (· != g)
      if r.ended && gs.isEmpty then none else some { r with groups := gs }
    else some r
  let late := engage && Nat.ble 0x8000 tag && Nat.blt tag 0x8040 && !s.alarm.scenes.any fun r => mine r && !r.ended
  let s := { s with alarm := { s.alarm with scenes := s.alarm.scenes.filterMap mark } }
  if late then
    let r : SceneRun := ⟨tag - 0x8000, 0xFF, s.sys.roundNo, [g], [], true⟩
    let s := { s with alarm := { s.alarm with scenes := s.alarm.scenes ++ [r] } }
    (s.groupWrite true g).wardenAction (actionWords kAlarm (s.sys.roundNo + 4) tag (5 * 256) [BitVec.ofNat 32 g])
  else if engage then s.groupWrite true g
  else if s.sceneHolds g then s else s.groupWrite false g

/-- The fault bits of running scenes that are due. -/
def State.sceneBits (s : State) : State :=
  let due := s.alarm.scenes.flatMap fun r => (r.bits.filter fun b => Nat.ble b.1 s.sys.roundNo).map (·.2)
  let rest (r : SceneRun) : SceneRun := { r with bits := r.bits.filter fun b => Nat.blt s.sys.roundNo b.1 }
  let s := { s with alarm := { s.alarm with scenes := s.alarm.scenes.map rest } }
  due.foldl (fun s b => s.setBit ALARM_FAULT_SW b) s

/-! ### Triggers (R195 to R198, R541) -/

/-- Whether a trigger is active. -/
def State.active (s : State) (t : Nat) : Bool :=
  s.bit (if t < 32 then ALARM_TRIG_ACT0 else ALARM_TRIG_ACT1) (t % 32)

def State.setActive (s : State) (t : Nat) (b : Bool) : State :=
  let r := if t < 32 then ALARM_TRIG_ACT0 else ALARM_TRIG_ACT1
  if b then s.setBit r (t % 32) else s.clrBit r (t % 32)

/-- Whether a contact input other than `but` holds a trigger in its starting state. -/
def State.heldByInput (s : State) (t : Nat) (but : Option Nat) : Bool :=
  (List.range 16).any fun i =>
    some i != but && s.flag (ALARM_IN_CFG_EN i) && !s.flag (ALARM_IN_CFG_ROLE i) && s.rf (ALARM_IN_CFG_TRIG i) == t
      && s.starting i (s.inState i)

/-- The triggers started and ended so far at a step 4, beside the state. -/
structure Step4 where
  s : State
  started : List Nat
  ended : List Nat

/-- A trigger started (R195). -/
def Step4.start (x : Step4) (t : Nat) : Step4 :=
  if !x.s.flag (ALARM_TRIG_CFG_EN t) || x.s.active t then x
  else
    let s := (x.s.setActive t true).raise ALARM_EVT_TRIG_START
    let s := { s with alarm := { s.alarm with plays := mset (fun _ => 0) s.alarm.plays t 0 } }
    { x with s := s.sceneStart t, started := x.started ++ [t] }

/-- A trigger ended (R198). -/
def Step4.finish (x : Step4) (t : Nat) : Step4 :=
  if x.s.active t then
    { x with s := ((x.s.setActive t false).raise ALARM_EVT_TRIG_END).sceneEnd t, ended := x.ended ++ [t] }
  else x

/-- A latched command taken. -/
def Step4.take (x : Step4) (c : AlarmCmd) : Step4 :=
  match c with
  | .start t => x.start t
  | .stop t => if x.s.flag (ALARM_TRIG_CFG_EN t) then x.finish t else x
  | .reset => (List.range 64).foldl (fun x t => if x.s.heldByInput t none then x else x.finish t) x
  | .leave i t => if x.s.flag (ALARM_TRIG_CFG_LATCH t) || x.s.heldByInput t (some i) then x else x.finish t
  | .played t =>
    let rep := x.s.rf (ALARM_TRIG_CFG_REPEAT t)
    if !x.s.flag (ALARM_TRIG_CFG_LATCH t) && rep != 0 && Nat.ble rep (mget (fun _ => 0) x.s.alarm.plays t) then x.finish t
    else x

/-- An ALARM action carried out (R343), with its completion record. -/
def Step4.action (x : Step4) (a : Action) : Step4 :=
  let t := bitsOf (a.data 0) 5 0
  let g := bitsOf (a.data 0) 11 0
  let x := match a.args / 256 with
    | 1 => x.take (.start t)
    | 2 => x.take (.stop t)
    | 3 => x.take .reset
    | 4 => { x with s := x.s.groupAction a.tag true g }
    | _ => { x with s := x.s.groupAction a.tag false g }
  { x with s := x.s.saDone a 0 }

/-- Whether a trigger goes before another on their player (R196): by PRIO, then the holder, then those that
were active before this boundary, then the lower index. -/
def Step4.before (x : Step4) (p t u : Nat) : Bool :=
  let holder := match (x.s.player p).holder with
    | some h => if x.ended.contains h then none else some h
    | none => none
  let rank (v : Nat) : Nat := x.s.rf (ALARM_TRIG_CFG_PRIO v) * 4 + (if holder == some v then 2 else 0)
    + (if x.started.contains v then 0 else 1)
  Nat.blt (rank u) (rank t) || (rank t == rank u && Nat.blt t u)

/-- One player given to the trigger it belongs to (R196). -/
def Step4.arbitrate (x : Step4) (p : Nat) : State :=
  let s := x.s
  let cands := (List.range 64).filter fun t => s.active t && s.rf (ALARM_TRIG_CFG_PLAYER t) == p
  match cands with
  | [] => if (s.player p).holder.isSome then s.release p else s
  | c :: cs =>
    let win := cs.foldl (fun b t => if x.before p t b then t else b) c
    if (s.player p).holder = some win ∧ ¬ x.ended.contains win then s else s.claim p win

/-- Step 4 of R27 (R197, R540, R541): latched commands in latch order, then ALARM actions in queue order,
then the players, then the alarm group vector: what ended is released, the writes of the boundary are
applied, and the groups of every active trigger are engaged. Commands and actions wait while RUN is 0. -/
def State.alarmStep4 (s : State) : State :=
  let run := s.flag ALARM_CTL_RUN || s.bareLayer
  let writes := s.weave.agrpPend
  let s := { s with weave := { s.weave with agrpPend := [] } }
  let cmds := if run then s.alarm.cmds else []
  let s := if run then { s with alarm := { s.alarm with cmds := [] } } else s
  let (s, acts) := if run then s.saTake true else (s, [])
  let x := acts.foldl Step4.action (cmds.foldl (fun x c => x.take c.cmd) ⟨s, [], []⟩)
  let s := (List.range 16).foldl (fun s p => ({ x with s := s } : Step4).arbitrate p) x.s
  let grp (t : Nat) := s.rf (ALARM_TRIG_GRP_AGRP t)
  let active := (List.range 64).filter s.active
  let pend := x.ended.map (fun t => (false, grp t)) ++ writes ++ s.weave.agrpPend
    ++ (s.alarm.scenes.flatMap fun r => r.groups.map fun g => (true, g)) ++ active.map fun t => (true, grp t)
  let s := { s with weave := { s.weave with agrpPend := pend } }
  (s.applyGroups).evalAlarmHolds

/-! ### Commands of the Warden (R216, R217) -/

/-- A write of ALARM_CMD: taken at the next step 4, from agent 1 only. -/
def State.alarmCmdWrite (s : State) (a : Nat) (v : Word) : State :=
  if a ≠ 1 then s.err
  else
    let t := bitsOf v 5 0
    let s := match bitsOf v 9 8 with
      | 1 => s.latch rkCmd (.start t)
      | 2 => s.latch rkCmd (.stop t)
      | 3 => s.latch rkCmd .reset
      | _ => s
    s.ok 0#32

def alarmCmdWord (op t : Nat) : Word := BitVec.ofNat 32 (op * 256 + t)

def execAlarmCmdStart (a : Agent) (t : Fin 64) (s : State) : Out :=
  .next (s.regWrite a ALARM_CMD (alarmCmdWord 1 t.val) fun s => s.alarmCmdWrite a.val (alarmCmdWord 1 t.val))

def execAlarmCmdStop (a : Agent) (t : Fin 64) (s : State) : Out :=
  .next (s.regWrite a ALARM_CMD (alarmCmdWord 2 t.val) fun s => s.alarmCmdWrite a.val (alarmCmdWord 2 t.val))

def execAlarmCmdReset (a : Agent) (s : State) : Out :=
  .next (s.regWrite a ALARM_CMD (alarmCmdWord 3 0) fun s => s.alarmCmdWrite a.val (alarmCmdWord 3 0))

/-- A write of ALARM_CTL (R216): agents 0 and 1. -/
def State.alarmCtlWrite (s : State) (a : Nat) (v : Word) : State :=
  if Nat.ble a 1 then (s.sf ALARM_CTL_RUN (bitsOf v 0 0)).ok 0#32 else s.err

def execAlarmRunWrite (a : Agent) (v : Word) (s : State) : Out :=
  .next (s.regWrite a ALARM_CTL v fun s => s.alarmCtlWrite a.val v)

end Sys2Proof.Machine
end

