-- ==== Sys2Proof/Machine/Net.lean ====
section
/-! DEFINITION. Machine/Net.lean: violations, rings, stamps and the transmit side of the network ports (R253
to R273, R276 to R287 of spec/09_network_ports.md; R327 to R332 of spec/11_network_time.md). -/
namespace Sys2Proof.Machine

open Reg

/-! ### Ports -/

/-- Time on the line of a number of bytes in units of 1/6 ns, rounded up, by the mode in NET_STAT (R263). -/
def State.wireTime (s : State) (p bytes : Nat) : Nat :=
  match s.rf (NET_STAT_SPEED p) with
  | 0 => (bytes * 48 + 24) / 25
  | 1 => (bytes * 48 + 9) / 10
  | 2 => if s.flag (NET_STAT_LOWERED p) then bytes * 480 else bytes * 48
  | 5 => bytes * 480
  | _ => bytes * 48

/-! ### Sleeping memory (R258, R491) -/

/-- Domain number of LPDDR5X. -/
def dDdr : Nat := 18

/-- Whether LPDDR5X answers. -/
def State.ddrUp (s : State) : Bool := !s.flag PWR_STAT_DDR_SR

/-! ### Violations (R278 to R281) -/

def State.source (s : State) (e : Nat) : Option Source := mget (fun _ => none) s.net.table e

/-- An entry of the table written, with the registers that show it. -/
def State.setSource (s : State) (e : Nat) (x : Option Source) : State :=
  let s := { s with net := { s.net with table := mset (fun _ => none) s.net.table e x } }
  match x with
  | none => (s.setReg (NET_QTAB_LO e) 0#32).setReg (NET_QTAB_HI e) 0#32
  | some q =>
    (s.setRegN (NET_QTAB_LO e) q.addr).setRegN (NET_QTAB_HI e)
      (2 ^ 31 + (if q.quar.isSome then 2 ^ 30 else 0) + q.port * 65536 + q.addr / 2 ^ 32 % 65536)

/-- NET_QTAB_REM as it reads: seconds of quarantine that remain, a part of a second counting as one. -/
def State.qtabRem (s : State) (e : Nat) : Word :=
  match s.source e with
  | some { quar := some t, .. } => BitVec.ofNat 32 ((t - s.now + sec1 - 1) / sec1)
  | _ => 0#32

/-- The threshold of a class. -/
def State.vthr (s : State) (c : Nat) : Nat := if 1 ≤ c ∧ c ≤ 7 then bitsOf (s.reg (0x308140 + 4 * c)) 7 0 else 0

/-- Whether a source is quarantined on a port. -/
def State.quarantined (s : State) (p addr : Nat) : Bool :=
  s.net.table.any fun e => match e.2 with | some q => q.addr == addr && q.port == p && q.quar.isSome | none => false

/-- The place for a source (R280): its own entry, a free one, or the unquarantined one whose window began
earliest. -/
def State.sourceSlot (s : State) (p addr : Nat) : Option Nat :=
  let own := s.net.table.find? fun e => match e.2 with | some q => q.addr == addr && q.port == p | none => false
  match own with
  | some e => some e.1
  | none =>
    match (List.range 64).find? fun e => (s.source e).isNone with
    | some e => some e
    | none =>
      let began (q : Source) : Nat := q.wins.foldl (fun m w => min m w.2.1) s.now
      let cand := s.net.table.filterMap fun e => match e.2 with
        | some q => if q.quar.isNone then some (e.1, began q) else none
        | none => none
      match cand with
      | [] => none
      | x :: t => some (t.foldl (fun m y => if y.2 < m.2 then y else m) x).1

/-- A violation counted for its source (R280): COUNT, and whether the source is now quarantined. -/
def State.countSource (s : State) (cls p addr : Nat) : State × Nat × Bool :=
  match s.sourceSlot p addr with
  | none => (s.raise NET_CEVT_QTAB_FULL, 1, false)
  | some e =>
    let fresh : Source := { addr := addr, port := p, wins := [], quar := none }
    let q := match s.source e with | some q => (if q.addr = addr ∧ q.port = p then q else fresh) | none => fresh
    let old := q.wins.find? fun w => w.1 == cls && Nat.blt s.now (w.2.1 + 10 * sec1)
    let (start, n) := match old with | some w => (w.2.1, w.2.2 + 1) | none => (s.now, 1)
    let thr := s.vthr cls
    let hit := p != 6 && (q.quar.isSome || (thr != 0 && Nat.ble thr n))
    let wins := (q.wins.filter fun w => w.1 != cls) ++ [(cls, start, n)]
    let s := if hit && q.quar.isNone then s.raise NET_CEVT_QUAR else s
    (s.setSource e (some { q with wins := wins, quar := if hit then some (s.now + 60 * sec1) else q.quar }), n, hit)

/-- Violations of a class by a source within its window, without counting another. -/
def State.sourceCount (s : State) (cls p addr : Nat) : Nat :=
  (s.net.table.findSome? fun e => match e.2 with
    | some q => if q.addr = addr ∧ q.port = p then (q.wins.find? fun w => w.1 == cls).map fun w => w.2.2 else none
    | none => none).getD 0

/-- An entry written to the violation log (R279), which the Warden copies to the log area. -/
def State.vlogPut (s : State) (w1 w2 w3 : Word) : State :=
  let h := s.rf NET_VLOG_CTL_HEAD
  let w0 := BitVec.ofNat 32 s.sys.roundNo
  let s := (((s.setReg (NET_VLOG h 0) w0).setReg (NET_VLOG h 1) w1).setReg (NET_VLOG h 2) w2).setReg (NET_VLOG h 3) w3
  let s := (s.countMod NET_VLOG_CTL_HEAD).raise NET_CEVT_VIOL
  let n := s.net.logged
  let s := { s with net := { s.net with logged := min 1024 (n + 1) } }
  let s := if Nat.ble 1024 n then s.raise NET_VLOG_CTL_WRAP else s
  s.logRec 2 [w0.toNat, w1.toNat, w2.toNat, w3.toNat]

/-- A violation that hardware logs: class, port, DETAIL, source, and whether it counts towards quarantine. -/
def State.violation (s : State) (cls p detail addr : Nat) (counts : Bool) : State :=
  let (s, n, hit) := if counts then s.countSource cls p addr else (s, s.sourceCount cls p addr, false)
  let w1 := BitVec.ofNat 32 (cls * 2 ^ 24 + p * 2 ^ 20 + (if hit then 2 else 0) * 65536 + detail % 65536)
  s.vlogPut w1 (BitVec.ofNat 32 addr) (BitVec.ofNat 32 (min n 65535 * 65536 + addr / 2 ^ 32 % 65536))

/-- A violation that firmware logs for itself, with the action it took. -/
def State.fwViolation (s : State) (cls p detail addr : Nat) (nak : Bool) : State :=
  let (s, n, hit) := s.countSource cls p addr
  let act := if hit then 2 else if nak then 1 else 0
  let w1 := BitVec.ofNat 32 (cls * 2 ^ 24 + p * 2 ^ 20 + act * 65536 + detail % 65536)
  s.vlogPut w1 (BitVec.ofNat 32 addr) (BitVec.ofNat 32 (min n 65535 * 65536 + addr / 2 ^ 32 % 65536))

/-- A firmware entry staged in NET_VLOG_ADD0 to 2 and entered (R279, R287): from agents 1 and 2. -/
def State.vlogGo (s : State) (a : Nat) (go : Bool) : State :=
  if a != 1 && a != 2 then s.err
  else if !go then s.ok 0#32
  else
    let w1 := s.reg (NET_VLOG_ADD 0)
    let w2 := s.reg (NET_VLOG_ADD 1)
    let w3 := s.reg (NET_VLOG_ADD 2)
    let addr := w2.toNat + bitsOf w3 15 0 * 2 ^ 32
    let p := bitsOf w1 23 20
    let s := if p ≤ 6 then (s.countSource (bitsOf w1 31 24) p addr).1 else s
    (s.vlogPut w1 w2 w3).ok 0#32

def execNetVlogGo (a : Agent) (s : State) : Out :=
  .next (s.regWrite a NET_VLOG_GO 1#32 fun s => s.vlogGo a.val true)

/-- An entry with neither a window nor a quarantine is free. -/
def Source.keep (q : Source) : Option Source := if q.wins = [] ∧ q.quar = none then none else some q

/-- 10 s after a source's first violation of a class, its count resets (R280). -/
def execViolationWindowEnd (e : Fin 64) (c : Fin 256) (s : State) : Out :=
  .next (match s.source e.val with
    | none => s
    | some q =>
      match q.wins.find? fun w => w.1 == c.val with
      | none => s
      | some w =>
        (s.moveTo (w.2.1 + 10 * sec1)).setSource e.val { q with wins := q.wins.filter fun w => w.1 != c.val }.keep)

/-- The end of a source's 60 s of quarantine (R280). -/
def execQuarantineEnd (e : Fin 64) (s : State) : Out :=
  .next (match s.source e.val with
    | some { addr := ad, port := p, wins := ws, quar := some t } =>
      let s := s.moveTo t
      let q : Source := { addr := ad, port := p, wins := ws.filter fun w => Nat.blt s.now (w.2.1 + 10 * sec1), quar := none }
      s.setSource e.val q.keep
    | _ => s)

/-- Agents that may write the NET block (R285). -/
def netAgent (a : Nat) : Bool := a == 0 || a == 2

/-- A write of NET_QCLR (R287). -/
def State.qclrWrite (s : State) (a : Nat) (v : Word) : State :=
  if !netAgent a then s.err
  else (if bitAt v 6 then s.setSource (bitsOf v 5 0) none else s).ok 0#32

def execNetQclr (a : Agent) (e : Fin 64) (s : State) : Out :=
  let v := BitVec.ofNat 32 (64 + e.val)
  .next (s.regWrite a NET_QCLR v fun s => s.qclrWrite a.val v)

/-! ### Stamps (R327 to R332) -/

/-- A stamp of a frame at a port (2^-16 ns): the time of day with the port's trim (in ps), within the accuracy of
its line mode, on the 0.25 ns grid. -/
def State.stamp (s : State) (p : Nat) (egress : Bool) : Int × State :=
  let t := s.reg (TIME_TRIM p)
  let ps := if egress then sext 16 (bitsOf t 15 0) else sext 16 (bitsOf t 31 16)
  let acc := 4 * stampNs (s.rf (NET_STAT_SPEED p))
  let (e, s) := s.pick (2 * acc + 1)
  let x := s.tod + ps * 65536 / 1000
  ((x / 16384 + ((e : Int) - acc)) * 16384, s)

/-- Four words of a stamp record: seconds, VALID with PORT, nanoseconds, fraction with SEQ (R352). -/
def stampWords (t : Int) (p seq : Nat) : List Nat :=
  [todSec t, 2 ^ 31 + p * 2 ^ 28 + todSec t / 2 ^ 32 % 65536, todNs t, todFrac t * 65536 + seq]

def State.putStamp (s : State) (reg : Nat → Nat) (t : Int) (p seq : Nat) : State :=
  (stampWords t p seq).zipIdx.foldl (fun s w => s.setRegN (reg w.2) w.1) s

/-- A stamp for the LYS2 queue of a port (R332). -/
def State.tsqPush (s : State) (p : Nat) (t : Int) (seq : Nat) : State :=
  let n := (s.hoop.tsq.filter fun (r : TsqRec) => r.port == p).length
  if n < 16 then
    let x : TsqRec := { port := p, time := t.toNat, seq := seq }
    let s := { s with hoop := { s.hoop with tsq := s.hoop.tsq ++ [x] } }
    s.sf (TIME_TSQ_STAT_COUNT p) (n + 1)
  else
    let s := s.setReg (TIME_TSQ_OVFCNT p) (sat32 (s.reg (TIME_TSQ_OVFCNT p)))
    ((s.raise (TIME_TSQ_STAT_OVF p)).sf (TIME_TSQ_STAT_LOST_SEQ p) seq).raise TIME_EVT_TSQ_OVF

/-! ### Receive rings (R270 to R273) -/

/-- Port of the ring engine. -/
def portRing : Nat := 33

/-- A word that the ring engine reads (R8, R270). -/
def State.ringRead (s : State) (a : Nat) : State × Word := s.engineRead portRing a

/-- Words that the ring engine writes (R8, R270). -/
def State.ringWrite (s : State) (a : Nat) (ws : List Word) : State :=
  ws.zipIdx.foldl (fun s w => s.engineWrite portRing (a + 4 * w.2) fun s => s.setWord (a + 4 * w.2) w.1) s

/-- A buffer that the ring engine fills: bytes where nothing is populated are lost, with one recorded error. -/
def State.ringFill (s : State) (a : Nat) (l : List Byte) : State :=
  if populated a && populated (a + l.length - 1) then s.setBytes a l else s.errLog portRing .unpop true a

/-- Address of a descriptor of a receive ring. -/
def State.rxDesc (s : State) (r i : Nat) : Nat :=
  (s.reg (NET_RXR_BASE_LO r)).toNat + (s.reg (NET_RXR_BASE_HI r)).toNat * 2 ^ 32 + 16 * (i % 1024)

/-- A frame cut into buffers of 2 KiB. -/
def chunks2k (fuel : Nat) (l : List Byte) : List (List Byte) :=
  match fuel with
  | 0 => []
  | n + 1 => if l.length ≤ 2048 then [l] else l.take 2048 :: chunks2k n (l.drop 2048)

/-- Descriptors already filled, given back with DISCARD, the last with EOF (R272). -/
def State.rxDiscard (s : State) (r : Nat) (filled : List Nat) : State :=
  filled.zipIdx.foldl (fun s x =>
    let a := s.rxDesc r x.1 + 4
    let w := setBits (s.word a) 28 28 1
    s.ringWrite a [if x.2 + 1 = filled.length then setBits w 29 29 1 else w]) s

/-- The buffers of a frame filled from HEAD on. -/
def State.rxFill (s : State) (f : RxFrame) (w3 len : Nat) : List (List Byte) → List Nat → State
  | [], _ => s
  | b :: t, filled =>
    let r := f.ring
    let h := bitsOf (s.reg (NET_RXR_HEAD r)) 9 0
    let d := s.rxDesc r h
    let (s, w1) := s.ringRead (d + 4)
    if bitAt w1 31 then
      let buf := (s.word d).toNat + bitsOf w1 7 0 * 2 ^ 32
      let s := s.ringFill buf b
      let v := (if filled = [] then 2 ^ 30 else 0) + (if t = [] then 2 ^ 29 else 0) + f.port * 2 ^ 25
        + f.csum * 2 ^ 23 + bitsOf w1 7 0
      let s := s.ringWrite (d + 4) [BitVec.ofNat 32 v,
        BitVec.ofNat 32 ((if t = [] then len * 65536 else 0) + b.length), BitVec.ofNat 32 w3]
      (s.setRegN (NET_RXR_HEAD r) ((h + 1) % 1024)).rxFill f w3 len t (filled ++ [h])
    else
      let s := s.setReg (NET_RXR_NOBUF r) (sat32 (s.reg (NET_RXR_NOBUF r)))
      s.rxDiscard r filled

/-- A frame entered into its receive ring (R271 to R273, R331). -/
def State.rxEnter (s : State) (f : RxFrame) : State :=
  let s := { s with net := { s.net with won := mset (fun _ => 0) s.net.won f.ring f.port } }
  let h := bitsOf (s.reg (NET_RXR_HEAD f.ring)) 9 0
  let owned := bitAt (s.ringRead (s.rxDesc f.ring h + 4)).2 31
  let s := if f.ring = 0 ∧ owned = true then s.putStamp (TIME_RXTS h) f.stamp f.port f.seq else s
  s.rxFill f (if f.ring = 0 then h else f.round % 2 ^ 32) f.bytes.length (chunks2k 8 f.bytes) []

/-- A frame handed from the receive buffer to its ring, or kept there while LPDDR5X sleeps (R258). -/
def State.rxQueue (s : State) (p : Nat) (f : RxFrame) : State :=
  if s.ddrUp then s.rxEnter f
  else (s.setNp p { s.np p with fifo := (s.np p).fifo ++ [f] }).wakeDomain dDdr

/-- Bytes in a port's receive buffer. -/
def NetPort.buffered (x : NetPort) : Nat := x.fifo.foldl (fun n f => n + f.bytes.length) 0

/-! ### Transmit rings (R266, R270, R271) -/

/-- Address of a descriptor of a port's transmit ring. -/
def State.txDesc (s : State) (p i : Nat) : Nat :=
  (s.reg (NET_TXR_BASE_LO p)).toNat + (s.reg (NET_TXR_BASE_HI p)).toNat * 2 ^ 32 + 16 * (i % 256)

/-- How many descriptors from `i` on form a whole frame that hardware owns, of at most `n`. -/
def State.txSpan (s : State) (p i : Nat) : Nat → Option Nat
  | 0 => none
  | n + 1 =>
    let w1 := (s.ringRead (s.txDesc p i + 4)).2
    if !bitAt w1 31 then none
    else if bitAt w1 29 then some 1
    else (s.txSpan p (i + 1) n).map (· + 1)

/-- Address of the buffer of a transmit descriptor. -/
def State.txBuf (s : State) (p i : Nat) : Nat :=
  (s.word (s.txDesc p i)).toNat + bitsOf (s.word (s.txDesc p i + 4)) 7 0 * 2 ^ 32

/-- The errors that reading the buffers of `n` descriptors from `i` on records (R8). -/
def State.txReads (s : State) (p i n : Nat) : State :=
  (List.range n).foldl (fun s k => (s.ringRead (s.txBuf p (i + k))).1) s

/-- The bytes of a frame of `n` descriptors from `i` on; a buffer where nothing is populated reads as 0. -/
def State.txBytes (s : State) (p i : Nat) : Nat → List Byte
  | 0 => []
  | n + 1 =>
    let d := s.txDesc p i
    let b := s.txBuf p i
    (if populated b then s.bytes b (bitsOf (s.word (d + 8)) 15 0) else List.replicate (bitsOf (s.word (d + 8)) 15 0) 0#8)
      ++ s.txBytes p (i + 1) n

/-- Descriptors of a frame completed with a status (R270). -/
def State.txComplete (s : State) (p i n status : Nat) : State :=
  (List.range n).foldl (fun s k =>
    let d := s.txDesc p (i + k)
    (s.ringWrite (d + 12) [BitVec.ofNat 32 status]).ringWrite (d + 4) [setBits (s.word (d + 4)) 31 31 0]) s

/-- Longest frame of a port (R253). -/
def State.maxLen (s : State) (p : Nat) : Nat := if s.flag (NET_CFG_JUMBO p) then 9022 else 1522

/-- The descriptors that software has given back: from HEAD up to TAIL. -/
def State.txGiven (s : State) (p : Nat) : Nat :=
  (bitsOf (s.reg (NET_TXR_TAIL p)) 7 0 + 256 - bitsOf (s.reg (NET_TXR_HEAD p)) 7 0) % 256 + 1

/-- A port's transmit ring taken up: whole frames go to their queues until one waits for room (R260, R271). -/
def State.txPoll (s : State) (p : Nat) : Nat → State
  | 0 => s
  | fuel + 1 =>
    let h := bitsOf (s.reg (NET_TXR_HEAD p)) 7 0
    match s.txSpan p h (s.txGiven p) with
    | none => (s.ringRead (s.txDesc p h + 4)).1
    | some n =>
      let w1 := s.word (s.txDesc p h + 4)
      let bytes := s.txBytes p h n
      let s := s.txReads p h n
      let past (s : State) : State := s.setRegN (NET_TXR_HEAD p) ((h + n) % 256)
      let len := bytes.length + 4
      let last := Nat.ble (s.txGiven p) n
      let go (s : State) : State := if last then s else s.txPoll p fuel
      if s.maxLen p < len then go (past (s.txComplete p h n 1))
      else if !s.netUp p then go (past (s.txComplete p h n 3))
      else
        let body : TxBody := .ring h n (bitAt w1 23) (bitAt w1 24) bytes
        let f : TxFrame := { len := len, etype := be16 bytes (etherAt bytes), body := body, held := false }
        match s.enqueue p (bitsOf w1 27 25) f with
        | (s, true) => go (past s)
        | (s, false) => s

/-- A transmit ring looked at, waking LPDDR5X where it sleeps. -/
def State.txRing (s : State) (p : Nat) : State :=
  if p = 6 then s else if s.ddrUp then s.txPoll p 256 else s.wakeDomain dDdr

/-- Which of two frames enters its ring first (R273): the one that arrived in the earlier fabric cycle, of one cycle the
one that a pointer past the port that won last reaches first. -/
def State.rxFirst (s : State) (a b : RxFrame) : RxFrame :=
  let turn (f : RxFrame) : Nat := (f.port + 6 - mget (fun _ => 0) s.net.won f.ring) % 7
  if b.at_ / 15 < a.at_ / 15 ∨ (b.at_ / 15 = a.at_ / 15 ∧ turn b < turn a) then b else a

/-- The next of the frames that wait in the ports' buffers. -/
def State.rxNext (s : State) : Option RxFrame :=
  (List.range 6).foldl (fun m p =>
    match m, (s.np p).fifo with
    | some a, b :: _ => some (s.rxFirst a b)
    | none, b :: _ => some b
    | m, [] => m) none

/-- Frames that wait entered into their rings. -/
def State.rxDrain (s : State) : Nat → State
  | 0 => s
  | n + 1 =>
    match s.rxNext with
    | some f => ((s.setNp f.port { s.np f.port with fifo := (s.np f.port).fifo.drop 1 }).rxEnter f).rxDrain n
    | none => s

/-- LPDDR5X ready again: waiting frames enter their rings and transmit rings are looked at (R258). -/
def State.netDrain (s : State) : State :=
  let n := (List.range 6).foldl (fun n p => n + (s.np p).fifo.length) 0
  (List.range 6).foldl (fun s p => s.txRing p) (s.rxDrain n)

def State.txTailWrite (s : State) (a p : Nat) (v : Word) : State :=
  if !netAgent a then s.err
  else if p = 6 then s.ok 0#32
  else ((s.setRegN (NET_TXR_TAIL p) (bitsOf v 7 0)).txRing p).ok 0#32

/-- Transmit descriptors given to hardware (R271); the pair link ignores the write (R286). -/
def execTxRingTailWrite (a : Agent) (p : Fin 7) (v : Word) (s : State) : Out :=
  .next (s.regWrite a (NET_TXR_TAIL p.val) v fun s => s.txTailWrite a.val p.val v)

def State.rxTailWrite (s : State) (a r : Nat) (v : Word) : State :=
  if !netAgent a then s.err else (s.setRegN (NET_RXR_TAIL r) (bitsOf v 9 0)).ok 0#32

/-- Receive descriptors given back to hardware (R271). -/
def execRxRingTailWrite (a : Agent) (r : Fin 4) (v : Word) (s : State) : Out :=
  .next (s.regWrite a (NET_RXR_TAIL r.val) v fun s => s.rxTailWrite a.val r.val v)

/-! ### Gates (R261 to R264) -/

/-- The operating list: for each entry its gates and its length in units of 1/6 ns, the last to the boundary. -/
def State.gateList (s : State) (p : Nat) : List (Nat × Nat) :=
  let n := s.rf (NET_GCL_STAT_OPER_LEN p)
  let e (i : Nat) : Word := s.reg (NET_GCL_OPER p i)
  let sum := (List.range n).foldl (fun t i => t + 15 * bitsOf (e i) 17 0) 0
  (List.range (n + 1)).map fun i =>
    (bitsOf (e i) 31 24, if i = n then s.sys.roundLen - sum else 15 * bitsOf (e i) 17 0)

/-- Whether an entry opens a queue's gate. -/
def opens (q : Nat) (e : Nat × Nat) : Bool := e.1.testBit q

/-- Length of the open period that a rotated list begins with. -/
def openRun (q : Nat) : List (Nat × Nat) → Nat
  | [] => 0
  | e :: t => if opens q e then e.2 + openRun q t else 0

/-- The time for which a queue's gate stays open, none where it never closes. -/
def State.openLeft (s : State) (p q : Nat) : Option Nat :=
  let l := s.gateList p
  if l.all (opens q) then none
  else
    let i := s.rf (NET_GCL_STAT_ENTRY p)
    let cur := l.getD i (0, 0)
    if opens q cur then
      some ((s.np p).entryAt + cur.2 - s.now + openRun q (l.drop (i + 1) ++ l.take i))
    else some 0

/-- The longest open period of a queue's gate, none where it never closes. -/
def State.openMax (s : State) (p q : Nat) : Option Nat :=
  let l := s.gateList p
  if l.all (opens q) then none
  else some ((List.range l.length).foldl (fun m i => max m (openRun q (l.drop i ++ l.take i))) 0)

/-- The time that a frame takes on the line: preamble and SFD, the frame, and MACsec (R263). -/
def State.frameTime (s : State) (p : Nat) (f : TxFrame) : Nat :=
  s.wireTime p (8 + f.len + (if s.secured p f.etype then 32 else 0))

/-- The end of an entry's interval (R261): the next entry's gates take effect. -/
def execGateEntryChange (p : Fin 6) (s : State) : Out :=
  let i := s.rf (NET_GCL_STAT_ENTRY p.val)
  let x := s.np p.val
  let stop := x.entryAt + 15 * bitsOf (s.reg (NET_GCL_OPER p.val i)) 17 0
  .next (if i < s.rf (NET_GCL_STAT_OPER_LEN p.val) then
      ((s.moveTo stop).sf (NET_GCL_STAT_ENTRY p.val) (i + 1)).setNp p.val { x with entryAt := stop }
    else s)

/-- A write of NET_GCL_CTL (R262, R285): LEN is closed while a commit waits; COMMIT checks the admin list. -/
def State.gclCtlWrite (s : State) (a p : Nat) (v : Word) : State :=
  if !netAgent a then s.err
  else if p = 6 then s.ok 0#32
  else if s.flag (NET_GCL_CTL_PEND p) && bitsOf v 7 0 != s.rf (NET_GCL_CTL_LEN p) then s.err
  else
    let s := (s.sf (NET_GCL_CTL_EN p) (bitsOf v 31 31)).sf (NET_GCL_CTL_LEN p) (bitsOf v 7 0)
    let sum := (List.range (bitsOf v 7 0)).foldl (fun t i => t + bitsOf (s.reg (NET_GCL_ADMIN p i)) 17 0) 0
    let s :=
      if !bitAt v 30 || s.flag (NET_GCL_CTL_PEND p) then s
      else if s.sys.roundLen / 15 ≤ sum then s.raise (NET_EVT_GCL_REFUSED p)
      else (s.raise (NET_GCL_CTL_PEND p)).setNp p { s.np p with swapDue := some (s.boundaryAfter us1) }
    s.ok 0#32

def execGclCommit (a : Agent) (p : Fin 7) (v : Word) (s : State) : Out :=
  let v := setBits v 30 30 1
  .next (s.regWrite a (NET_GCL_CTL p.val) v fun s => s.gclCtlWrite a.val p.val v)

/-- A boundary's share of a port (R261, R262, R264, R292): an accepted list swaps, the list restarts, EN takes
effect, and stream frames of rounds past their window are dropped as late. -/
def State.netBoundary (s : State) (p : Nat) : State :=
  let x := s.np p
  let swap := match x.swapDue with | some r => Nat.ble r s.sys.roundNo | none => false
  let s := if swap then
      let s := (List.range 256).foldl (fun s i => s.setReg (NET_GCL_OPER p i) (s.reg (NET_GCL_ADMIN p i))) s
      ((s.sf (NET_GCL_STAT_OPER_LEN p) (s.rf (NET_GCL_CTL_LEN p))).sf (NET_GCL_CTL_PEND p) 0).raise (NET_EVT_GCL_SWAP p)
    else s
  let s := if s.rf (NET_GCL_STAT_ENTRY p) = 0 then s else s.sf (NET_GCL_STAT_ENTRY p) 0
  let late (f : TxFrame) : Option Nat := match f.body with
    | .stream c _ r _ _ _ _ => if r + 1 < s.sys.roundNo then some c else none
    | _ => none
  let gone := x.queues.flatMap fun e => e.2.filterMap late
  let s := gone.foldl (fun s c => s.countUp (CTX_CNT0_LATE c)) s
  let queues := (x.queues.map fun e => (e.1, e.2.filter fun f => (late f).isNone)).filter fun e => e.2 != []
  s.setNp p { x with
    swapDue := if swap then none else x.swapDue, entryAt := s.sys.roundStart, gates := s.flag (NET_GCL_CTL_EN p),
    queues := queues }

/-! ### Sending (R259, R263, R276, R330 to R332) -/

/-- A frame that can never fit discarded at the head of a queue (R263). -/
def State.noFit (s : State) (p q : Nat) : Nat → State
  | 0 => s
  | fuel + 1 =>
    let x := s.np p
    match x.queue q, s.openMax p q with
    | f :: t, some m =>
      if m < s.frameTime p f then
        let s := (s.setNp p (x.setQueue q t)).cnt p cTxNofit
        let s := match f.body with | .ring h n _ _ _ => s.txComplete p h n 2 | _ => s
        s.noFit p q fuel
      else s
    | _, _ => s

/-- One queue tried (R259): whether its first frame may start; one held by R263 is counted once. -/
def State.tryQueue (s : State) (p q : Nat) : State × Bool :=
  let gates := (s.np p).gates && p != 6
  let s := if gates then s.noFit p q 33 else s
  let x := s.np p
  match x.queue q with
  | [] => (s, false)
  | f :: t =>
    if x.pause.isSome && q != 7 then (s, false)
    else if !gates then (s, true)
    else match s.openLeft p q with
      | none => (s, true)
      | some 0 => (s, false)
      | some m =>
        if s.frameTime p f ≤ m then (s, true)
        else if f.held then (s, false)
        else ((s.setNp p (x.setQueue q ({ f with held := true } :: t))).cnt p cTxHeld, false)

/-- The highest eligible queue. -/
def State.pickQueue (s : State) (p : Nat) : Nat → State × Option Nat
  | 0 => (s, none)
  | q + 1 =>
    match s.tryQueue p q with
    | (s, true) => (s, some q)
    | (s, false) => s.pickQueue p q

/-- The queue number of firmware frames other than alarms. -/
def qFirmware : Nat := 0

/-- What a PTP event frame takes with it as it leaves (R330 to R332): the bytes with one-step insertion, and the
records of its stamp. -/
def State.ptpLeave (s : State) (p h : Nat) (req : Bool) (l : List Byte) (o : Nat) (t : Int) : State × List Byte :=
  let ty := (l.getD o 0#8).toNat % 16
  let seq := be16 l (o + 30)
  let one := s.flag TIME_CFG_ONE_STEP
  if one && ty == 0 then (s, patch l (o + 34) (beBytes (todSec t) 6 ++ beBytes (todNs t) 4))
  else if one && ty == 3 then
    let (c, s) := s.pick (2 ^ 64)
    (s, patch l (o + 8) (beBytes c 8))
  else if Nat.blt ty 4 && req && s.flag TIME_CFG_TS_MODE then (s.tsqPush p t seq, l)
  else if req then (s.putStamp (TIME_TXTS p (h % 64)) t p seq, l)
  else (s, l)

/-- A template byte (R301). -/
def State.tplByte (s : State) (i leg k : Nat) : Nat :=
  let w := mget (fun _ => 0#32) s.streams.tpl ((2 * i + leg) * 32 + k / 4)
  bitsOf w (8 * (k % 4) + 7) (8 * (k % 4))

/-- Bytes of a sample for a BITS code. -/
def widthBytes (code : Nat) : Nat := if code = 0 then 2 else if code = 1 then 3 else 4

/-- The fields of the format header that the stream engine fills (R292, R301): sequence number, stamp and length, for RTP
the lengths of IPv4 and UDP and the SSRC too. -/
def State.streamFields (s : State) (i seq stamp n : Nat) (l : List Byte) : List Byte :=
  let o := innerAt l + 2
  if s.rf (CTX_CFG_FMT i) = 1 then
    let u := o + ip4Len l o
    let l := patch (patch l (o + 2) (beBytes (l.length - o) 2)) (u + 4) (beBytes (l.length - u) 2)
    patch l (u + 10) (beBytes seq 2 ++ beBytes stamp 4 ++ beBytes (s.reg (CTX_SSRC i)).toNat 4)
  else patch (patch (patch l (o + 2) (beBytes seq 1)) (o + 12) (beBytes stamp 4)) (o + 20) (beBytes n 2)

/-- The bytes of a stream frame: its template with the R-TAG after the VLAN tag, the fields, the samples, padding to the
shortest frame, and the checksums (R266, R292, R300, R301). -/
def State.streamBytes (s : State) (i leg seq stamp : Nat) (rtag : Option Nat) (words : List (List Word)) : List Byte :=
  let tpl := (List.range (mget (fun _ => 0) s.streams.tplLen (2 * i + leg))).map fun k => BitVec.ofNat 8 (s.tplByte i leg k)
  let e := etherAt tpl
  let head := match rtag with
    | some n => tpl.take e ++ beBytes 0xF1C1 2 ++ beBytes 0 2 ++ beBytes n 2 ++ tpl.drop e
    | none => tpl
  let data := words.flatten.flatMap fun w => beBytes w.toNat (widthBytes (s.rf (CTX_CFG_BITS i)))
  let l := s.streamFields i seq stamp data.length (head ++ data)
  insertCsum (l ++ List.replicate (60 - l.length) 0#8)

/-- The frame as it goes on the line: stamps taken and inserted, then checksums (R266, R328). -/
def State.leave (s : State) (p : Nat) (f : TxFrame) : State × TxFrame :=
  match f.body with
  | .stream c leg _ seq stamp rtag words => (s, { f with body := .plain (s.streamBytes c leg seq stamp rtag words) })
  | .plain _ => (s, f)
  | .ring h n req cs l =>
    let (t, s) := s.stamp p true
    let (s, l) := match ptpAt l with
      | some o => s.ptpLeave p h req l o t
      | none => if req then (s.putStamp (TIME_TXTS p (h % 64)) t p 0, l) else (s, l)
    let l := if cs then insertCsum l else l
    (s, { f with body := .ring h n req cs l })
  | .firmware k fs =>
    if k = 3 then
      let (t, s) := s.stamp p true
      let seq := (fs.getD 0 0).toNat
      let t2 := fs.getD 1 0
      if s.flag TIME_CFG_ONE_STEP then (s, { f with body := .firmware k [fs.getD 0 0, t2, t - t2] })
      else
        let s := if s.flag TIME_CFG_TS_MODE then s.tsqPush p t seq else s
        let fu : TxFrame := { len := 68, etype := f.etype, body := .firmware 10 [fs.getD 0 0, t], held := false }
        ((s.enqueue p qFirmware fu).1, f)
    else (s, f)

/-- The first frame of a queue started: packet number, stamps, completion of its descriptors, and the line busy
for its time and the gap after it. -/
def State.startFrame (s : State) (p q : Nat) : State :=
  let x := s.np p
  match x.queue q with
  | [] => s
  | f :: t =>
    let s := s.setNp p (x.setQueue q t)
    let sec := s.secured p f.etype
    match if sec then s.txSecure p else (s, true) with
    | (s, false) =>
      let (st, s) := s.pick 16
      match f.body with | .ring h n _ _ _ => s.txComplete p h n st | _ => s
    | (s, true) =>
      let body := f.body
      let (s, f) := s.leave p f
      let s := match body with
        | .ring h n _ _ _ => s.txComplete p h n 0
        | .stream c _ _ seq _ _ _ =>
          (s.setReg (CTX_CNT2 c) (sat32 (s.reg (CTX_CNT2 c)))).sf (CTX_STAT_LAST_SEQ c) seq
        | _ => s
      let stop := s.now + s.wireTime p (8 + f.len + (if sec then 32 else 0) + 12)
      let x := s.np p
      let idle := if x.queues = [] then stop else x.idle
      (s.setNp p { x with wire := some f, free := stop, idle := idle }).cnt p cTxFrames

/-- With the line free, a port starts a frame (R259); in low-power idle the line wakes first (R269). -/
def execTxFrameStart (p : Fin 7) (s : State) : Out :=
  .next (if !s.netUp p.val || (s.np p.val).queues == [] then s
    else if s.flag (NET_STAT_LPI_TX p.val) then
      let wake := if s.rf (NET_STAT_SPEED p.val) = 5 then 180000 else 99000
      (s.sf (NET_STAT_LPI_TX p.val) 0).setNp p.val { s.np p.val with free := s.now + wake }
    else
      let s := s.moveTo (s.np p.val).free
      match s.pickQueue p.val 8 with
      | (s, some q) => (s.startFrame p.val q).txRing p.val
      | (s, none) => s)

/-! ### PAUSE (R267, R268) -/

/-- A PAUSE frame at a port: the frame in progress ends, then the pause runs; one during a pause restarts its timer. -/
def State.pauseFrame (s : State) (p quanta src : Nat) : State :=
  let s := s.cnt p cRxPause
  let x := s.np p
  if !s.flag (NET_CFG_PAUSE_EN p) || s.rf (NET_STAT_STREAMS p) != 0 || p == 6 || Nat.blt s.now x.deaf then s
  else if quanta = 0 then (s.setNp p { x with pause := none }).sf (NET_STAT_PAUSED p) 0
  else
    let start := match x.pause with | some q => q.1 | none => max s.now x.free
    let stop := max s.now start + s.wireTime p (64 * quanta)
    (s.setNp p { x with pause := some (start, stop), pauseSrc := src }).sf (NET_STAT_PAUSED p) 1

/-- The limit of the pause watchdog in units of 1/6 ns. -/
def State.pauseLim (s : State) (p : Nat) : Nat := s.rf (NET_CFG_PAUSE_LIM p) * us1

/-- A pause that runs out before the watchdog's limit ends. -/
def execPauseEnd (p : Fin 7) (s : State) : Out :=
  let x := s.np p.val
  .next (match x.pause with
    | some (start, stop) =>
      if stop ≤ start + s.pauseLim p.val then
        ((s.moveTo stop).setNp p.val { x with pause := none }).sf (NET_STAT_PAUSED p.val) 0
      else s
    | none => s)

/-- The watchdog ends a pause that has lasted its limit (R268); the DETAIL of the violation is open. -/
def execPauseWatchdog (p : Fin 7) (s : State) : Out :=
  let x := s.np p.val
  .next (match x.pause with
    | some (start, stop) =>
      if start + s.pauseLim p.val < stop then
        let lim := start + s.pauseLim p.val
        let s := (s.moveTo lim).setNp p.val { x with pause := none, deaf := lim + s.pauseLim p.val }
        let s := ((s.sf (NET_STAT_PAUSED p.val) 0).cnt p.val cPauseWdg).raise (NET_EVT_PAUSE_WDG p.val)
        let (d, s) := s.pick 65536
        s.violation 4 p.val d x.pauseSrc true
      else s
    | none => s)

/-! ### Links (R254, R255, R269) -/

/-- The mode that a port is configured for, as NET_STAT.SPEED codes it. -/
def State.ownSpeed (s : State) (p : Nat) : Nat := if p = 6 then 0 else s.rf (NET_CFG_MODE p)

/-- A link lost: what waits in its queues is dropped, ring frames being completed as port down, and the configured speed is
tried again (R254). -/
def State.linkDrop (s : State) (p : Nat) : State :=
  let x := s.np p
  let fs := x.queues.flatMap fun e => e.2
  let s := fs.foldl (fun s f => match f.body with | .ring h n _ _ _ => s.txComplete p h n 3 | _ => s) s
  let s := s.setNp p { x with
    queues := [], wire := none, free := s.now, pause := none, tries := 0, tryAt := s.now, idle := s.now }
  let s := if s.flag (NET_STAT_LINK p) then s.raise (NET_EVT_LINK_DOWN p) else s
  let s := ((s.sf (NET_STAT_LINK p) 0).sf (NET_STAT_LOWERED p) 0).sf (NET_STAT_SPEED p) (s.ownSpeed p)
  ((s.sf (NET_STAT_PAUSED p) 0).sf (NET_STAT_LPI_TX p) 0).sf (NET_STAT_LPI_RX p) 0

/-- Whether a port may lower its speed (R254, R255). -/
def State.mayLower (s : State) (p : Nat) : Bool :=
  p != 6 && s.flag (NET_CFG_SPD_LOWER p) && s.rf (NET_STAT_STREAMS p) == 0

/-- A port re-initialised: its link drops and returns at the configured speed (R286); on the pair link both lanes go. -/
def State.netRestart (s : State) (p : Nat) : State :=
  let s := s.linkDrop p
  if p = 6 then ((s.laneShow 0 false).laneShow 1 false).pairLinkGone else s

/-- A write of NET_CTL (R282, R285, R286). -/
def State.netCtlWrite (s : State) (a p : Nat) (v : Word) : State :=
  if Nat.blt 2 a then s.err
  else
    let was := s.flag (NET_CTL_EN p)
    let s := s.sf (NET_CTL_EN p) (bitsOf v 0 0)
    let s := if was != bitAt v 0 then s.netRestart p else s
    (if bitAt v 1 then s.netRestart p else s).ok 0#32

def execNetRestart (a : Agent) (p : Fin 7) (en : Bool) (s : State) : Out :=
  let v := if en then 3#32 else 2#32
  .next (s.regWrite a (NET_CTL p.val) v fun s => s.netCtlWrite a.val p.val v)

/-- 500 ms without block lock at a 25GBASE-R port: it tries the other speed; a failed attempt at 1000BASE-T
counts towards the three of R254. -/
def execSpeedLowerTry (p : Fin 6) (s : State) : Out :=
  let x := s.np p.val
  .next (if !s.flag (NET_CTL_EN p.val) || s.flag (NET_STAT_LINK p.val) || !s.mayLower p.val then s
    else if p.val < 4 then
      if s.rf (NET_CFG_MODE p.val) = 0 then
        let s := s.moveTo (x.tryAt + 500 * ms1)
        let tries := x.tries + 1
        (s.sf (NET_STAT_SPEED p.val) (tries % 2)).setNp p.val { x with tries := tries, tryAt := s.now }
      else s
    else
      let tries := min 3 (x.tries + 1)
      (if tries = 3 then s.sf (NET_STAT_SPEED p.val) 5 else s).setNp p.val { x with tries := tries, tryAt := s.now })

/-- Whether a 25GBASE-R port that may lower its speed tries 10GBASE-R at present (R254). -/
def State.tries10 (s : State) (p : Nat) : Bool := s.mayLower p && s.rf (NET_STAT_SPEED p) == 1

/-- SPEED code of a mode, and whether a port in its present state can come up in it, and lowered (R251, R254). -/
def State.modeFits (s : State) (p : Nat) : LineMode → Option (Nat × Bool)
  | .m25G => if p = 6 ∨ (p < 4 ∧ s.rf (NET_CFG_MODE p) = 0 ∧ s.tries10 p = false) then some (0, false) else none
  | .m10G =>
    if p < 4 ∧ s.rf (NET_CFG_MODE p) = 1 then some (1, false)
    else if p < 4 ∧ s.rf (NET_CFG_MODE p) = 0 ∧ s.tries10 p = true then some (1, true) else none
  | .sgmii => if p < 4 ∧ s.rf (NET_CFG_MODE p) = 2 then some (2, false) else none
  | .sgmii100 => if p < 4 ∧ s.rf (NET_CFG_MODE p) = 2 ∧ s.mayLower p = true then some (2, true) else none
  | .t1000 => if p = 4 ∨ p = 5 then some (4, false) else none
  | .tx100 => if (p = 4 ∨ p = 5) ∧ s.mayLower p = true ∧ (s.np p).tries = 3 then some (5, true) else none

/-- A port's link up (R254). -/
def State.linkRaise (s : State) (p : Nat) (m : LineMode) : State :=
  if !s.hubUp || !s.flag (NET_CTL_EN p) || s.flag (NET_STAT_LINK p) then s
  else match s.modeFits p m with
    | none => s
    | some (code, low) =>
      let s := ((s.sf (NET_STAT_SPEED p) code).sf (NET_STAT_LINK p) 1).raise (NET_EVT_LINK_UP p)
      let s := s.setNp p { s.np p with free := s.now, idle := s.now }
      if low then (s.sf (NET_STAT_LOWERED p) 1).raise (NET_EVT_LOWERED p) else s

/-- 100 µs with every queue empty: a MGMT port enters low-power idle (R269). -/
def execLpiEntry (p : Fin 2) (s : State) : Out :=
  let n := 4 + p.val
  .next (if s.netUp n && s.flag (NET_CFG_EEE_EN n) && (s.np n).queues == [] && !s.flag (NET_STAT_LPI_TX n) then
      (s.moveTo ((s.np n).idle + 100 * us1)).sf (NET_STAT_LPI_TX n) 1
    else s)

end Sys2Proof.Machine
end

