-- ==== Sys2Proof/Machine/RefIn.lean ====
section
/-! DEFINITION. Machine/RefIn.lean: the reference inputs, their qualification and the selector's forced changes
(R353 to R369 of spec/12_references_and_clocks.md). -/
namespace Sys2Proof.Machine

open Reg

/-! ### References (R353 to R357) -/

def RefIn.empty : RefIn :=
  { last := 0, phase := none, since := 0, again := false, wtr := 0, off := none, agree := none, freqAt := none }

def State.ref (s : State) (r : Nat) : RefIn := mget (fun _ => RefIn.empty) s.refsel.refs r

def State.setRef (s : State) (r : Nat) (x : RefIn) : State :=
  { s with refsel := { s.refsel with refs := mset (fun _ => RefIn.empty) s.refsel.refs r x } }

/-- The configuration word of a reference. -/
def REF_CFG (r : Nat) : Nat := 0x510100 + 0x20 * r

def State.refEn (s : State) (r : Nat) : Bool := bitAt (s.reg (REF_CFG r)) 31
def State.refRank (s : State) (r : Nat) : Nat := bitsOf (s.reg (REF_CFG r)) 27 24
def State.refQual (s : State) (r : Nat) : Bool := s.flag (REF_STAT_QUAL r)

/-- Whether a reference fixes the phase (R353): PTP and PPS_IN always, the 10 MHz input never. -/
def State.refPhase (s : State) (r : Nat) : Bool := r == 0 || r == 2 || (r != 3 && bitAt (s.reg (REF_CFG r)) 30)

/-- Frequency of a reference against the TCXO, in ppt. -/
def State.refFreq (s : State) (r : Nat) : Int := sWord (s.reg (REF_FREQ r))

/-- Expected period of the edges of a reference in units of 1/12 ns: the Sync interval; fs/2, fs or 2fs; 1 s; 100 ns; fs. -/
def State.refPeriod12 (s : State) (r : Nat) : Nat :=
  let p := 2 * s.sys.period
  if r = 0 then
    let l := sext 8 (s.rf TIME_PTP_INT_SYNC)
    if l < 0 then 2 * sec1 / 2 ^ l.natAbs else 2 * sec1 * 2 ^ l.natAbs
  else if r = 1 then
    match bitsOf (s.reg REF_CFG_WCLK) 9 8 with
    | 0 => 2 * p
    | 2 => p / 2
    | _ => p
  else if r = 2 then 2 * sec1
  else if r = 3 then 1200
  else p

/-- A phase error in [−P/2, P/2) (R354). -/
def wrapPhase (p x : Int) : Int := (x + p / 2) % p - p / 2

/-- Seconds and limits of REFSEL_CFG in their units. -/
def State.wtrTime (s : State) : Nat := s.rf REFSEL_CFG_WTR * sec1
def State.qualTime (s : State) : Nat := max 1 (s.rf REFSEL_CFG_QUAL_S) * sec1
def State.freqOk (s : State) (r : Nat) : Bool := decide ((s.refFreq r).natAbs ≤ s.rf REFSEL_CFG_QUAL_PPM * 1000000)

/-- Whether a reference can be selected (R358). -/
def State.refEligible (s : State) (r : Nat) : Bool :=
  s.refEn r && s.refQual r && !s.flag (REF_STAT_IN_WTR r) && !s.flag (REF_STAT_DISTRUST r)

/-! ### The NCO (R362, R368) -/

/-- A signed 48-bit word of two registers. -/
def State.word48 (s : State) (lo hi : Nat) : Int := sext 48 (bitsOf (s.reg hi) 15 0 * 2 ^ 32 + (s.reg lo).toNat)

def State.setWord48 (s : State) (lo hi : Nat) (x : Int) : State :=
  let u := (x % 2 ^ 64).toNat
  (s.setRegN lo u).setRegN hi (u / 2 ^ 32)

def State.nco (s : State) : Int := s.word48 REFSEL_NCO_LO REFSEL_NCO_HI
def State.holdWord (s : State) : Int := s.word48 REFSEL_HOLD_LO REFSEL_HOLD_HI
def State.forceWord (s : State) : Int := s.word48 REFSEL_FORCE_LO REFSEL_FORCE_HI

/-- Limit of the NCO word, and its clamp (R362). -/
def ncoMax : Int := 400000000

def State.setNco (s : State) (x : Int) : State :=
  let y := clampInt (-ncoMax) ncoMax x
  let s := s.setWord48 REFSEL_NCO_LO REFSEL_NCO_HI y
  if y = x then s else s.raise REFSEL_EVT_NCO_LIMIT

/-- The mean of a list; which way a part of a ppt goes is open. -/
def State.meanOf (s : State) (l : List Int) : Int × State :=
  let (b, s) := s.pick 2
  let n : Int := l.length
  ((l.foldl (· + ·) 0 + (n - 1) * (b : Int)) / n, s)

/-- Words of the history at an instant: the last HOLD_AVG seconds but for the last 2. -/
def State.histWords (s : State) : List Int :=
  let avg := bitsOf (s.reg REFSEL_HOLD_AVG) 10 0 * sec1
  (s.refsel.hist.filter fun e => Nat.ble (e.1 + 2 * sec1) s.now && Nat.ble s.now (e.1 + avg + 2 * sec1)).map (·.2)

/-! ### Changes of the selection (R358 to R360, R363, R368) -/

/-- STATE codes of the selector. -/
def rsFree : Nat := 0
def rsAcquiring : Nat := 1
def rsLocked : Nat := 2
def rsSwitching : Nat := 3
def rsHoldover : Nat := 4
def rsForced : Nat := 5

def State.selState (s : State) : Nat := s.rf REFSEL_STAT_STATE

/-- The selected reference (REFSEL_STAT.SEL), 15 for none. -/
def State.selRef (s : State) : Nat := s.rf REFSEL_STAT_SEL

/-- A change of the selection. -/
def State.selChange (s : State) (sel state : Nat) : State :=
  let s := (s.sf REFSEL_STAT_SEL sel).sf REFSEL_STAT_STATE state
  ({ s with refsel := { s.refsel with changeAt := some s.now, locked := false, farAt := none } }).raise REFSEL_EVT_SEL_CHG

/-- SLOPE in ppb/s, which is as many ppt in each ms; at least 1. -/
def State.slope (s : State) : Nat := max 1 (bitsOf (s.reg REFSEL_SLOPE) 19 0)

/-- The integer square root of a number below 2^96, rounded down. -/
def isqrt (x : Nat) : Nat :=
  (List.range 48).foldr (fun i r => if Nat.ble ((r + 2 ^ i) * (r + 2 ^ i)) x then r + 2 ^ i else r) 0

/-- The phase error now of a phase reference, in units of 10^-12 ms: that of its last edge carried on at the present
difference of frequency; 0 of a frequency reference. -/
def State.phaseNow (s : State) (r : Nat) : Int :=
  let x := s.ref r
  if s.refPhase r then
    x.phase.getD 0 * 1000000 / 12 + (s.nco - s.refFreq r) * ((s.now - x.last : Nat) : Int) / ms1
  else 0

/-- The time within which a switch to a reference ends (R364), rounded up. With differences in ppt, SLOPE in ppt a ms and
the phase error in ppt ms, every term comes out in ms. -/
def State.switchTime (s : State) (r : Nat) : Nat :=
  let k := s.slope
  let f := (s.nco - s.refFreq r).natAbs
  (f * ms1 + k - 1) / k + 2 * (isqrt (((s.phaseNow r).natAbs * (2 * k) + f * f) * 1000000 / (2 * k * k)) + 1) * (ms1 / 1000) + 100 * ms1

/-- A switch to a reference begins. -/
def State.switchTo (s : State) (r : Nat) : State :=
  let by_ := s.now + s.switchTime r
  let s := s.selChange r rsSwitching
  { s with refsel := { s.refsel with switchBy := by_ } }

/-- Entry into holdover: the history value, or the present word where less than 2 s of history exists. -/
def State.refHoldover (s : State) : State :=
  if s.selState = rsHoldover then s
  else
    let l := s.histWords
    let s := if l.isEmpty then (s.setWord48 REFSEL_HOLD_LO REFSEL_HOLD_HI s.nco).raise REFSEL_EVT_HOLD_SHORT
      else
        let (m, s) := s.meanOf l
        s.setWord48 REFSEL_HOLD_LO REFSEL_HOLD_HI m
    let s := if s.selRef = 15 then s.sf REFSEL_STAT_STATE rsHoldover else s.selChange 15 rsHoldover
    s.raise REFSEL_EVT_HOLDOVER

/-- The best eligible reference: the lowest rank; among equals the selected one, else the lowest index. -/
def State.bestRef (s : State) : Option Nat :=
  ((List.range 8).filter s.refEligible).foldl (fun b r => match b with
    | none => some r
    | some x =>
      if s.refRank r < s.refRank x ∨ (s.refRank r = s.refRank x ∧ r = s.selRef) then some r else some x) none

/-- A forced change (R358). -/
def State.forceChange (s : State) : State :=
  match s.bestRef with
  | some r => s.switchTo r
  | none => s.refHoldover

/-- A reference disqualified (R356), a switch in progress towards it changing at once (R360). -/
def State.refDisq (s : State) (r : Nat) : State :=
  if !s.refQual r then s
  else
    let s := ((s.sf (REF_STAT_QUAL r) 0).raise (REF_HIST_DISQ r)).raise REFSEL_EVT_DISQUALIFIED
    let s := (s.sf (REF_STAT_IN_WTR r) 0).setRef r { s.ref r with again := true, off := none }
    if s.selState = rsSwitching ∧ s.selRef = r ∧ s.rf REFSEL_CTL_SEL_MODE = 0 ∧ s.flag REFSEL_CTL_RUN = true then s.forceChange
    else s

/-- A reference no longer present (R355): LOS, or PTP without a selected master that is not suspect. -/
def State.refLost (s : State) (r : Nat) : State :=
  if s.flag (REF_STAT_PRESENT r) then
    (((s.sf (REF_STAT_PRESENT r) 0).raise (REF_HIST_LOS r)).refDisq r).setRef r { (s.refDisq r).ref r with phase := none }
  else s

/-! ### Marks (R354, R355) -/

/-- Whether two successive phase errors of a reference (1/12 ns) are a phase hit: P/8 of a word clock or AES3
reference, 1 µs of PPS_IN. -/
def State.phaseHit (s : State) (r : Nat) (a b : Int) : Bool :=
  let p : Int := s.refPeriod12 r
  if r = 2 then decide (12000 < (wrapPhase p (b - a)).natAbs)
  else if r = 1 ∨ 4 ≤ r then decide (p < 8 * (wrapPhase p (b - a)).natAbs)
  else false

/-- Bandwidth of a code of R366 in mHz. -/
def bwMHz (c : Nat) : Nat :=
  match c with
  | 0 => 1 | 1 => 3 | 2 => 10 | 3 => 30 | 4 => 100 | 5 => 300 | 6 => 1000 | 7 => 3000 | 8 => 10000
  | 9 => 30000 | 10 => 100000 | 11 => 300000 | _ => 1000000

/-- The loop bandwidth in use (R366): ACQ_BW until the first lock after selection. -/
def State.bwInUse (s : State) (r : Nat) : Nat :=
  let w := s.reg (REF_CFG r)
  bwMHz (if s.selRef = r ∧ s.refsel.locked then bitsOf w 19 16 else bitsOf w 15 12)

/-- The frequency shown each second (R355, R356): out of QUAL_PPM it stops a qualification and starts the second after
which it disqualifies. -/
def State.refMeasure (s : State) (r : Nat) (freq : Int) : State :=
  let x := s.ref r
  let due := match x.freqAt with
    | some t => Nat.ble (t + sec1) s.now
    | none => true
  if !due then s
  else
    let s := s.setReg (REF_FREQ r) (wordOfInt (clampInt (-2147483648) 2147483647 freq))
    if s.freqOk r then s.setRef r { x with freqAt := some s.now, off := none }
    else
      (s.raise (REF_HIST_FREQ r)).setRef r { x with
        freqAt := some s.now, since := if s.refQual r then x.since else s.now,
        off := some (x.off.getD s.now) }

/-- Since when the phase error (1/12 ns) of the reference that the loop is locked to has been above 4 LOCK_NS (R375). -/
def State.phaseWatch (s : State) (phase : Option Int) : State :=
  let far := match phase with
    | some e => s.selState == rsLocked && Nat.blt (48 * s.rf TIME_CFG2_LOCK_NS) e.natAbs
    | none => false
  { s with refsel := { s.refsel with farAt := if far then some (s.refsel.farAt.getD s.now) else none } }

/-- A marking edge with its phase error in 1/12 ns, where the reference has one, and its frequency. -/
def State.refEdge (s : State) (r : Nat) (phase : Option Int) (freq : Int) : State :=
  let x := s.ref r
  let was := s.flag (REF_STAT_PRESENT r)
  let hit := match x.phase, phase with
    | some a, some b => s.phaseHit r a b
    | _, _ => false
  let (b, s) := if phase.isSome then s.pick 2 else (0, s)
  let s := match phase with
    | some e => s.setReg (REF_PHASE r) (wordOfInt (clampInt (-2147483648) 2147483647 ((e + 2 * (b : Int)) / 3)))
    | none => s
  let slow := r == 0 && was && Nat.blt (1000 * sec1) (16 * s.bwInUse 0 * (s.now - x.last))
  let s := (s.sf (REF_STAT_PRESENT r) 1).setFlag (REF_STAT_BW_LIM r) slow
  let s := s.setRef r { x with
    last := s.now, phase := phase, since := if was && !hit then x.since else s.now }
  let s := if hit then (s.raise (REF_HIST_PHIT r)).refDisq r else s
  let s := if s.selRef = r then s.phaseWatch phase else s
  s.refMeasure r freq

end Sys2Proof.Machine
end

