-- ==== Sys2Proof/Machine/Life.lean ====
section
/-! DEFINITION. Machine/Life.lean: the prediction of the end of life (R498 to R500 of spec/16_power_health_recovery.md). Real
numbers are kept in units of 2^-48, rounded down. -/
namespace Sys2Proof.Machine

open Reg

/-! ### Arithmetic -/

/-- The unit of the fixed-point numbers. -/
def fxOne : Int := 2 ^ 48

/-- The sum of the powers of `y` over factorials from the term `k` on, `n` terms. -/
def expSum (y : Int) : Nat → Nat → Int
  | 0, _ => fxOne
  | n + 1, k => fxOne + y * expSum y n (k + 1) / (fxOne * (k : Int))

/-- A number squared `n` times. -/
def squares : Nat → Int → Int
  | 0, v => v
  | n + 1, v => squares n (v * v / fxOne)

/-- e to the power `x`: the series at x / 32, squared five times. -/
def fxExp (x : Int) : Int := squares 5 (expSum (x / 32) 18 1)

/-- The fifth root of a number, by its bits from the one given down. -/
def root5 (v : Nat) : Nat → Nat → Nat
  | 0, r => if (r + 1) ^ 5 ≤ v then r + 1 else r
  | b + 1, r => root5 v b (if (r + 2 ^ (b + 1)) ^ 5 ≤ v then r + 2 ^ (b + 1) else r)

/-- teq to the power 0.2. -/
def fifth (teq : Nat) : Int := (root5 (teq * 2 ^ 192) 64 0 : Nat)

/-- The acceleration at a temperature of `sum / n` °C relative to Tj 85 °C, for an activation energy of `ea` tenths of an eV:
8,123.2 K goes with 0.7 eV. -/
def accel (ea : Int) (sum : Int) (n : Nat) : Int :=
  let c := 812320 * ea * fxOne / 7
  fxExp (c / 35815 - c * (n : Int) / (100 * sum + 27315 * (n : Int)))

/-! ### Cells -/

/-- A temperature reading in °C. -/
def State.temp (s : State) (i : Nat) : Int := sext 8 (s.rf (HEALTH_TEMP_NOW i))

def State.age (s : State) (x : Nat) : AgeCell := mget (fun _ => AgeCell.init) s.power.life.cells x
def State.setAge (s : State) (x : Nat) (c : AgeCell) : State :=
  { s with power := { s.power with life := { s.power.life with cells := mset (fun _ => AgeCell.init) s.power.life.cells x c } } }

/-- Cell of a canary; monitor j has cell j. -/
def canary (c : Nat) : Nat := 32 + c

/-- The sensor that gives the temperature of a cell: of its cluster, of the hub by pairs of monitors, or of a canary's place. -/
def ageSensor (x : Nat) : Nat :=
  if x < 16 then x else if x < 24 then 16 + (x - 16) / 2 else Config.canarySensor (x - 32) % 20

/-- Tenths of an eV that govern a cell. -/
def ageEa (x : Nat) : Int := if x < 32 then 7 else 9

/-- Equivalent hours added for a time at a temperature. -/
def AgeCell.add (c : AgeCell) (x : Nat) (t : Int) (dt : Nat) : AgeCell :=
  { c with teq := c.teq + (accel (ageEa x) t 1 * (dt : Int) / (3600 * (sec1 : Int))).toNat }

/-- A cell brought up to now at its sensor's reading; time without power does not count. -/
def State.ageStep (s : State) (x : Nat) (on : Bool) : State :=
  let c := s.age x
  let c' := match c.last with
    | some t => if s.flag (HEALTH_TEMP_VALID (ageSensor x)) then c.add x (s.temp (ageSensor x)) (s.now - t) else c
    | none => c
  s.setAge x { c' with last := if on then some s.now else none }

/-- The hottest valid sensor of the hub. -/
def State.hubTemp (s : State) : Option Int :=
  ((List.range 4).filter fun i => s.flag (HEALTH_TEMP_VALID (16 + i))).foldl (fun m i => match m with
    | some t => some (max t (s.temp (16 + i)))
    | none => some (s.temp (16 + i))) none

/-- Rim entered: the last hub reading is kept. -/
def State.lifeRim (s : State) : Life := { s.power.life with rimAt := s.hubTemp.map fun t => (s.now, t) }

/-- Back from Rim: every cell has aged at the rate of that reading. -/
def State.lifeWake (s : State) : State :=
  match s.power.life.rimAt with
  | some (at_, t) =>
    let l := s.power.life
    { s with power := { s.power with life := { l with
      rimAt := none, cells := l.cells.map fun e => (e.1, { e.2.add e.1 t (s.now - at_) with last := none }) } } }
  | none => s

/-- Off: time does not count. -/
def Life.off (l : Life) : Life :=
  { l with rimAt := none, cells := (l.cells.map fun e => (e.1, { e.2 with last := none })).filter fun e => e.2 != AgeCell.init }

/-! ### The hourly samples -/

/-- The slowing of a monitor in percent, from its count corrected to the reference voltage and temperature. -/
def State.slowing (s : State) (j : Nat) : Option Int :=
  let base := bitsOf (s.reg (HEALTH_RO_BASE j)) 19 0
  let supplies := (List.range 8).map fun i => bitsOf (s.reg (HEALTH_SUPPLY i)) 15 0
  let count := Config.roCorrected j (bitsOf (s.reg (HEALTH_RO j)) 19 0) (s.temp (ageSensor j)) supplies
  if base = 0 ∨ bitAt (s.reg (HEALTH_RO j)) 31 = false then none
  else some (100 * ((base : Int) - (count : Int)) * fxOne / (base : Int))

/-- An hour's sample of a cell: its temperature among those of the last 24 h, and of a monitor its slowing in the fit. -/
def State.ageSample (s : State) (x : Nat) : State :=
  let c := s.age x
  let c := if s.flag (HEALTH_TEMP_VALID (ageSensor x)) then { c with temps := (s.temp (ageSensor x) :: c.temps).take 24 } else c
  let c := if x < 24 then
      match s.slowing x with
      | some d =>
        let v := fifth c.teq
        { c with n := c.n + 1, dd := c.dd + d * d / fxOne, dx := c.dx + d * v / fxOne, xx := c.xx + v * v / fxOne }
      | none => c
    else c
  s.setAge x c

/-- The sums over the days of the linear trend of the NCO word. -/
def Life.tcxoSample (l : Life) (w : Int) : Life :=
  let sum := l.daySum + w
  if l.dayN < 23 then { l with daySum := sum, dayN := l.dayN + 1 }
  else
    let y := sum / 24
    { l with daySum := 0, dayN := 0, days := l.days + 1, sy := l.sy + y, sxy := l.sxy + (l.days : Int) * y }

/-- The samples of an hour. -/
def State.lifeSample (s : State) : State :=
  let s := (List.range 24 ++ (List.range 32).map canary).foldl State.ageSample s
  let l := s.power.life.tcxoSample s.nco
  { s with power := { s.power with life := { l with logHours := (s.trust.logSeq :: l.logHours).take 721 } } }

/-! ### The predictions -/

/-- A valid source of a prediction (R500): KIND, INDEX, and its hours at the present temperature, at Tj 105 °C, and at the lower
and the upper band. -/
structure EolSource where
  kind : Nat
  index : Nat
  now : Nat
  at105 : Nat
  lo : Nat
  hi : Nat

/-- Hours as a register holds them. -/
def hours (v : Int) : Nat := min v.toNat 0xFFFFFFFF

/-- Equivalent hours left in hours at an acceleration. -/
def hoursAt (rem : Int) (a : Int) : Nat := hours (rem / a)

/-- The acceleration at the mean temperature of the last 24 h. -/
def AgeCell.meanAccel (c : AgeCell) (x : Nat) : Int :=
  accel (ageEa x) (c.temps.foldl (· + ·) 0) (max 1 c.temps.length)

/-- Equivalent hours left under a slope: life ends at 5 % slowing; there is no end where nothing slows. -/
def leftAt (k : Int) (teq : Nat) : Option Int :=
  if k ≤ 0 then none
  else
    let q := 5 * fxOne * fxOne / k
    some (q * q * q * q * q / fxOne ^ 4 - (teq : Int))

def leftHours (l : Option Int) (a : Int) : Nat := match l with | some v => hoursAt v a | none => 0xFFFFFFFF

/-- The prediction of a monitor (R498), valid from 1,000 equivalent hours on. -/
def State.roSource (s : State) (j : Nat) : Option EolSource :=
  let c := s.age j
  if (c.teq : Int) < 1000 * fxOne ∨ c.xx ≤ 0 then none
  else
    let k := c.dx * fxOne / c.xx
    let sigma : Int := (Config.fitSigma c.n c.dd c.dx c.xx : Nat)
    let a := c.meanAccel j
    some { kind := 0, index := j, now := leftHours (leftAt k c.teq) a, at105 := leftHours (leftAt k c.teq) (accel 7 105 1),
           lo := leftHours (leftAt (k + 2 * sigma) c.teq) a, hi := leftHours (leftAt (k - 2 * sigma) c.teq) a }

/-- The prediction of an open canary (R499). -/
def State.canarySource (s : State) (i : Nat) : Option EolSource :=
  let c := s.age (canary i)
  match c.opened with
  | some t =>
    let rem := 2 * (t : Int) - (c.teq : Int)
    let now := hoursAt rem (c.meanAccel (canary i))
    some { kind := 1, index := i, now := now, at105 := hoursAt rem (accel 9 105 1), lo := now, hi := now }
  | none => none

/-- Erases of the busiest log sector between two counts of records: the ring's first round erases nothing. -/
def busyErases (a b : Nat) : Nat :=
  (b / logPerSector - max (a / logPerSector) (logSectors - 1) + logSectors - 1) / logSectors

/-- The prediction of the flash (R499). -/
def State.flashSource (s : State) : Option EolSource :=
  let l := s.power.life.logHours
  let n := busyErases (l.getLastD 0) (l.headD 0)
  if n = 0 then none
  else
    let h := min ((s.skein.system.endurance - s.logErases) * (l.length - 1) / n) 0xFFFFFFFF
    some { kind := 2, index := 0, now := h, at105 := h, lo := h, hi := h }

/-- The prediction of the TCXO (R499): when the line through the daily means reaches 300 ppm. -/
def State.tcxoSource (s : State) : Option EolSource :=
  let l := s.power.life
  let n : Int := (l.days : Int)
  let sx := n * (n - 1) / 2
  let den := n * ((n - 1) * n * (2 * n - 1) / 6) - sx * sx
  let num := n * l.sxy - sx * l.sy
  if l.days < 2 ∨ num = 0 then none
  else
    let y := (l.sy * den + num * ((n - 1) * n - sx)) / (n * den)
    let lim : Int := if 0 < num then 300000000 else -300000000
    let h := hours ((lim - y) * 24 * den / num)
    some { kind := 3, index := 0, now := h, at105 := h, lo := h, hi := h }

/-- The valid sources. -/
def State.eolSources (s : State) : List EolSource :=
  (List.range 24).filterMap s.roSource ++ (List.range 32).filterMap s.canarySource
    ++ ([s.flashSource, s.tcxoSource].filterMap id)

/-- The largest equivalent hours of any monitor. -/
def State.teqMax (s : State) : Nat := (List.range 24).foldl (fun m j => max m ((s.age j).teq / 2 ^ 48)) 0

end Sys2Proof.Machine
end

