-- ==== Sys2Proof/Machine/AlarmMsg.lean ====
section
/-! DEFINITION. Machine/AlarmMsg.lean: alarm messages (R199 to R201, R540 of spec/07_alarm_path.md). -/
namespace Sys2Proof.Machine

open Reg

/-- A rejection (R200): recorded, counted and logged; reasons 7 and 8 do not count towards quarantine. -/
def State.msgReject (s : State) (m : AlarmMsg) (reason : Nat) : State :=
  let s := ((s.raise ALARM_REJ_VALID).sf ALARM_REJ_KEY m.key).sf ALARM_REJ_REASON reason
  let s := (s.raise ALARM_EVT_MSG_REJECT).countUp ALARM_MSG_CNT_REJECT
  s.violation 3 m.port reason m.src (Nat.ble reason 6)

/-- The receive queue written. -/
def State.setAlarmRx (s : State) (q : List AlarmMsg) : State := { s with alarm := { s.alarm with rx := q } }

/-- An ALARM frame at the ALARM block (R199, R200): dropped for reason 7 where 16 messages wait. -/
def State.alarmArrive (s : State) (m : AlarmMsg) : State :=
  if 16 ≤ s.alarm.rx.length then (s.msgReject m 7).raise ALARM_EVT_QUEUE_OVF
  else s.setAlarmRx (s.alarm.rx ++ [m])

/-- Where an ALARM frame came from (R200): port 6 is the pair link; a manager is an admitted node of number 0 or 1, known by
its source address, and heard over a MACsec-protected link. -/
def State.alarmFrom (s : State) (p src : Nat) (prot : Bool) : AlarmFrom :=
  let admitted (n : Nat) : Bool := s.link.mgr == some n || s.link.map.testBit n || s.link.adms.any fun a => a.node == n
  if p = 6 then .partner
  else if prot && s.skein.system.nodes.any fun n => Nat.ble n.num 1 && n.mac == src && admitted n.num then .manager
  else .other

/-- The message that a frame from a port and a source address holds. -/
def State.alarmOf (s : State) (p src : Nat) (prot : Bool) (body : List Byte) : AlarmMsg :=
  { body := body, origin := s.alarmFrom p src prot, src := src, port := p }

/-- An ALARM frame at the ALARM block; there is none in Bare mode (R211). -/
def execAlarmMsgArrival (p : Fin 7) (src : BitVec 48) (prot : Bool) (body : List Byte) (s : State) : Out :=
  .next (if s.hubUp && !s.flag ALARM_CTL_BARE then s.alarmArrive (s.alarmOf p.val src.toNat prot body) else s)

/-- The last accepted COUNTER that a message is measured against: by KEY, or by SENDER for an unsigned one. -/
def State.lastCounter (s : State) (m : AlarmMsg) : Option Nat :=
  let l := if m.key = 0xFF then s.alarm.senderCtr else s.alarm.keyCtr
  (l.find? fun e => e.1 == (if m.key = 0xFF then m.sender else m.key)).map fun e => e.2

/-- Whether the key or the origin of a message is in order (reason 4). -/
def State.keyOk (s : State) (m : AlarmMsg) : Bool :=
  if m.key = 0xFF then m.origin != .other else Nat.blt m.key 8 && s.skein.keys.any fun e => e.1 == m.key

/-- Whether the signature of a message verifies under the key in its slot (reason 5). -/
def State.sigOk (s : State) (m : AlarmMsg) : Bool :=
  match s.skein.keys.find? fun e => e.1 == m.key with
  | some e => p256.verify e.2 m.digest m.sigR m.sigS
  | none => false

/-- The first reason for which a message is rejected, 0 for none (R200, R540). -/
def State.msgReason (s : State) (m : AlarmMsg) : Nat :=
  if !s.flag ALARM_CTL_RUN then 8
  else if m.ver ≠ 1 then 1
  else if m.kind = 0 ∨ 3 < m.kind then 2
  else if m.kind ≠ 3 ∧ (63 < m.trig ∨ s.flag (ALARM_TRIG_CFG_EN m.trig) = false ∨ s.flag (ALARM_TRIG_CFG_NET_OK m.trig) = false) then 3
  else if !s.keyOk m then 4
  else if m.key ≠ 0xFF ∧ s.sigOk m = false then 5
  else match s.lastCounter m with
    | some c => if m.counter ≤ c then 6 else 0
    | none => 0

/-- A COUNTER recorded, in retention SRAM and in the log area (R200, R201, R423). -/
def State.recordCounter (s : State) (m : AlarmMsg) : State :=
  let put (l : SMap Nat) (k : Nat) : SMap Nat := mput k m.counter (mdrop k l)
  let s := if m.key = 0xFF then { s with alarm := { s.alarm with senderCtr := put s.alarm.senderCtr m.sender } }
    else { s with alarm := { s.alarm with keyCtr := put s.alarm.keyCtr m.key } }
  s.logRec 4 [if m.key = 0xFF then 1 else 0, if m.key = 0xFF then m.sender else m.key, m.counter]

/-- The message at the front of the queue taken, where its KIND is one that a command stands for: rejected, or
accepted with what it latches. -/
def State.msgTake (s : State) (kind : Nat → Bool) (cmd : AlarmMsg → AlarmCmd) : State :=
  match s.alarm.rx with
  | [] => s
  | m :: t =>
    if !kind m.kind || s.flag ALARM_CTL_BARE then s
    else
      let s := s.setAlarmRx t
      let r := s.msgReason m
      if r ≠ 0 then s.msgReject m r
      else (((s.raise ALARM_EVT_MSG_ACCEPT).countUp ALARM_MSG_CNT_ACCEPT).recordCounter m).latch rkMsg (cmd m)

def execAlarmMsgStart (s : State) : Out := .next (s.msgTake (fun k => k == 1) fun m => .start m.trig)

def execAlarmMsgStop (s : State) : Out := .next (s.msgTake (fun k => k == 2) fun m => .stop m.trig)

def execAlarmMsgReset (s : State) : Out := .next (s.msgTake (fun k => k == 3) fun _ => .reset)

/-- A message with a reserved KIND is always rejected (R200). -/
def execAlarmMsgReservedKind (s : State) : Out :=
  .next (s.msgTake (fun k => k == 0 || Nat.blt 3 k) fun _ => .reset)

end Sys2Proof.Machine
end

