-- ==== Sys2Proof/Machine/Border.lean ====
section
/-! DEFINITION. Machine/Border.lean: the Border stage (R62 to R72, R539 of
spec/02_weave_and_border.md). -/
namespace Sys2Proof.Machine

open Reg

/-! ### Biquad sections (R62) -/

/-- One sample through a section: the output, the new state and whether it saturated. A disabled section
passes the sample and keeps it as history. -/
def biquad (en : Bool) (c : Coef) (st : BqState) (x : Int) : Int × BqState × Bool :=
  if en then
    let acc := sWord c.b0 * x + sWord c.b1 * st.x1 + sWord c.b2 * st.x2 - sWord c.a1 * st.y1 - sWord c.a2 * st.y2
    let y0 := (acc + 67108864) / 134217728
    let y := clampInt (-140737488355328) 140737488355327 y0
    (y, ⟨x, st.x1, y, st.y1⟩, y != y0)
  else (x, ⟨x, st.x1, x, st.y1⟩, false)

/-- One sample through sections in series. -/
def biquads (mask : Nat) : Nat → List Coef → List BqState → Int → Int × List BqState × Bool
  | k, c :: cs, st :: sts, x =>
    let (y, st', sat) := biquad (mask.testBit k) c st x
    let (z, sts', sat') := biquads mask (k + 1) cs sts y
    (z, st' :: sts', sat || sat')
  | _, _, _, x => (x, [], false)

/-! ### The limiter (R63, R64) -/

/-- Unity of the limiter gain. -/
def limUnity : Nat := 2147483648

/-- Fields of a record's CTL word (R66). -/
def Chan.limEn (c : Chan) : Bool := bitAt c.ctl 30
def Chan.bqEn (c : Chan) : Nat := bitsOf c.ctl 29 22
def Chan.delayD (c : Chan) : Nat := bitsOf c.ctl 21 17
def Chan.rel (c : Chan) : Nat := bitsOf c.ctl 16 13

/-- The need of a sample under a ceiling. -/
def limNeed (c : Int) (x : Int) : Nat :=
  if (x.natAbs : Int) ≤ c then limUnity else (c * 2147483648 / (x.natAbs : Int)).toNat

/-- The rate of reduction that a waiting sample asks for. -/
def limRate (g need j : Nat) : Nat := ((g - need) + j) / (j + 1)

/-- The limiter gain after a sample, from the needs of the waiting samples, `need[0]` first. -/
def limGain (g : Nat) (rel : Nat) (needs : List Nat) : Nat :=
  let a := (needs.zipIdx.map fun n => limRate g n.1 n.2).foldl max 0
  if 0 < a then g - a else min (g + rel) (needs.foldl min limUnity)

/-- One sample through a channel's sections, delay tap and limiter: its output, its new record, and
whether a section saturated and the output clamped. -/
def Chan.run (rate96 : Bool) (n : Nat) (c : Chan) (x : Int) : Int × Chan × Bool × Bool :=
  let (v, st, sat) := biquads c.bqEn 0 c.coef c.st x
  let d := min c.delayD n
  let ceil := sWord c.ceil
  let need := (limNeed ceil v :: c.need).take 16
  let line := v :: c.delay
  let leaving := line.getD d 0
  let waiting := ((limNeed ceil v :: c.need).take (d + 1)).reverse
  let s := rampLen rate96 c.rel
  let g := if c.limEn then limGain c.limG ((limUnity + s - 1) / s) waiting else limUnity
  let y0 := if c.limEn then leaving * g / 2147483648 else leaving
  let y := if c.limEn then clampInt (-ceil) ceil y0 else satQ31 y0
  let clamp := y != y0
  (y, { c with
      st := st, delay := line.take 16, need := need, limG := g,
      satCnt := if sat then sat16 c.satCnt else c.satCnt,
      clampCnt := if clamp then sat16 c.clampCnt else c.clampCnt }, sat, clamp)

/-- The key of a slot's sample in the buffers of samples: 64 sample positions a slot. -/
def sampleKey (slot idx : Nat) : Nat := slot * 64 + idx % 64

/-- A finished sample for an outer slot. -/
def State.setOut (s : State) (slot idx : Nat) (v : Int) : State :=
  { s with sys := { s.sys with out := mset (fun _ => 0) s.sys.out (sampleKey slot idx) v } }

/-- One channel's part of a Border pass (R62 to R65, R539): an enabled channel's output, and zero from one
that is disabled or muted. -/
def State.chanPass (s : State) (b : Nat) (idx : Nat) (sums : SMap Int) : State :=
  let c := s.chan b
  if s.boundTo c.slot != some b then s
  else if c.en && !c.muted then
    let (y, c', sat, clamp) := c.run s.sys.rate96 s.sys.n (mget (fun _ => 0) sums c.slot)
    let s := (s.setChan b c').setOut c.slot idx y
    let s := if sat then (s.raise BORDER_EVT_SAT).setBit (BORDER_SAT_MAP (b / 32)) (b % 32) else s
    if clamp then s.raise BORDER_EVT_CLAMP else s
  else s.setOut c.slot idx 0

/-- A Border pass (R21, R62): the oldest Weave pass that waits for it, in the sample period after that
pass. -/
def State.borderPass (s : State) : State :=
  match s.weave.sums with
  | [] => s
  | (idx, sums) :: rest =>
    let s := { s with weave := { s.weave with sums := rest } }
    if s.border.running then
      ((s.border.chans.map (·.1)).foldl (fun s b => s.chanPass b idx sums) s).readRange 0x0500180000 0x05001BFFFF
    else s

def execBorderPass (s : State) : Out := .next s.borderPass

/-! ### Commands (R67) -/

/-- One item of a record replaced at step 3; a muted channel resumes once every item has been rewritten
(R67, R539). -/
def Chan.apply (c : Chan) (k : BorderCmd) : Chan :=
  let c := if k.item < 8 then
      { c with coef := c.coef.set k.item k.d,
               st := if k.clr then c.st.set k.item ⟨0, 0, 0, 0⟩ else c.st }
    else if k.item = 8 then
      { c with ctl := k.d.b0, limG := if bitAt k.d.b0 30 then c.limG else limUnity }
    else if k.item = 9 then { c with ceil := k.d.b0 }
    else c
  if c.muted then
    let left := c.left.filter (· != k.item)
    if left = [] then
      { c with left := [], muted := false, st := List.replicate 8 ⟨0, 0, 0, 0⟩,
               delay := List.replicate 16 0, need := List.replicate 16 limUnity, limG := limUnity }
    else { c with left := left }
  else c

def State.applyBorder (s : State) (k : BorderCmd) : State := s.setChan k.ch ((s.chan k.ch).apply k)

/-- The result of a Border command's checks (R67, R72), against the records with every accepted change. -/
def State.borderResult (s : State) (k : BorderCmd) : Nat :=
  let p := s.border.due.foldl (fun s d => s.applyBorder d.cmd) s
  let slot := bitsOf k.d.b0 12 0
  let other := p.border.chans.any fun e => e.1 != k.ch && e.2.binds && e.2.slot == slot
  if 9 < k.item then 1
  else if k.item = 8 ∧ k.d.b0 ≠ 0#32 ∧ (!(slot < 4096 && s.hasSink slot) || other) then 2
  else if k.item = 8 ∧ s.sys.n < bitsOf k.d.b0 21 17 then 3
  else if k.item = 9 ∧ ¬ 0 < sWord k.d.b0 then 4
  else 0

def State.setBorderQueue (s : State) (q : List BorderCmd) : State :=
  ({ s with border := { s.border with queue := q } }).sf BORDER_CMD_STAT_DEPTH q.length

/-- GO of BORDER_CMD_CTL: the staged command joins the queue, or is dropped when 64 wait. -/
def State.borderGo (s : State) : State :=
  let k : BorderCmd :=
    { ch := s.rf BORDER_CMD_CH_CH, item := s.rf BORDER_CMD_CH_ITEM,
      d := ⟨s.reg (BORDER_CMD_D 0), s.reg (BORDER_CMD_D 1), s.reg (BORDER_CMD_D 2), s.reg (BORDER_CMD_D 3),
        s.reg (BORDER_CMD_D 4)⟩, clr := s.flag BORDER_CMD_CTL_CLR_STATE }
  if Nat.ble 64 s.border.queue.length then s.raise BORDER_EVT_CMD_OVF
  else s.setBorderQueue (s.border.queue ++ [k])

/-- A Border command staged and queued by an agent; a host's is denied (R67). -/
def State.borderCmd (s : State) (a : Agent) (k : BorderCmd) : State :=
  s.access a.val BORDER_CMD_CH true (BitVec.ofNat 32 (k.item * 65536 + k.ch)) fun s =>
    let s := (s.sf BORDER_CMD_CH_CH k.ch).sf BORDER_CMD_CH_ITEM k.item
    let s := ((((s.setReg (BORDER_CMD_D 0) k.d.b0).setReg (BORDER_CMD_D 1) k.d.b1).setReg (BORDER_CMD_D 2) k.d.b2).setReg
      (BORDER_CMD_D 3) k.d.a1).setReg (BORDER_CMD_D 4) k.d.a2
    ((s.setFlag BORDER_CMD_CTL_CLR_STATE k.clr).borderGo).ok 0#32

def execBorderSectionWrite (a : Agent) (ch : Fin 512) (k : Fin 8) (b0 b1 b2 a1 a2 : Word) (clr : Bool) (s : State) : Out :=
  .next (s.borderCmd a ⟨ch.val, k.val, ⟨b0, b1, b2, a1, a2⟩, clr⟩)

def execBorderCtlWordWrite (a : Agent) (ch : Fin 512) (d0 d1 d2 d3 d4 : Word) (clr : Bool) (s : State) : Out :=
  .next (s.borderCmd a ⟨ch.val, 8, ⟨d0, d1, d2, d3, d4⟩, clr⟩)

def execBorderCeilWrite (a : Agent) (ch : Fin 512) (d0 d1 d2 d3 d4 : Word) (clr : Bool) (s : State) : Out :=
  .next (s.borderCmd a ⟨ch.val, 9, ⟨d0, d1, d2, d3, d4⟩, clr⟩)

def execBorderReservedItem (a : Agent) (ch : Fin 512) (item : Fin 6) (d0 d1 d2 d3 d4 : Word) (clr : Bool) (s : State) : Out :=
  .next (s.borderCmd a ⟨ch.val, 10 + item.val, ⟨d0, d1, d2, d3, d4⟩, clr⟩)

/-- A Border command completed with a result. -/
def State.borderDone (s : State) (k : BorderCmd) (res : Nat) : State :=
  let s := (s.countMod BORDER_CMD_STAT_SEQ).sf BORDER_CMD_STAT_RESULT res
  if res = 0 then
    { s with border := { s.border with due := s.border.due ++ [⟨s.boundaryAfter us1, k⟩] } }
  else s.raise BORDER_EVT_CMD_REFUSED

def execBorderCmdValidate (s : State) : Out :=
  .next (match s.border.queue with
    | [] => s
    | k :: q => (s.setBorderQueue q).borderDone k (s.borderResult k))

/-- A write of BORDER_CTL (R68): RUN takes effect at a round boundary. -/
def State.borderRunWrite (s : State) (v : Word) : State := (s.sf BORDER_CTL_RUN (bitsOf v 0 0)).ok 0#32

def execBorderRunWrite (a : Agent) (v : Word) (s : State) : Out :=
  .next (s.regWrite a BORDER_CTL v fun s => s.borderRunWrite v)

/-- The restart of the Border after Rim or a device reset (R68, R69). -/
def State.borderRestart (s : State) : State :=
  (s.border.chans.map (·.1)).foldl (fun s b =>
    s.setChan b { s.chan b with
      st := List.replicate 8 ⟨0, 0, 0, 0⟩, delay := List.replicate 16 0,
      need := List.replicate 16 limUnity, limG := limUnity }) s

/-- BORDER_LIM_MAP at a boundary (R72). -/
def State.limMap (s : State) : State :=
  let s := (List.range 16).foldl (fun s j => s.setReg (BORDER_LIM_MAP j) 0#32) s
  s.border.chans.foldl (fun s e =>
    if e.2.limG < limUnity then s.setBit (BORDER_LIM_MAP (e.1 / 32)) (e.1 % 32) else s) s

/-! ### Records as memory (R66) -/

/-- The six little-endian bytes of a 48-bit value. -/
def bytes48 (x : Int) : List Byte := leBytes (x % 281474976710656).toNat 6

def int48 (l : List Byte) : Int := sext 48 (leNat l)

/-- The bytes of a record's section state and of its delay line. -/
def Chan.stBytes (c : Chan) : List Byte :=
  c.st.flatMap fun t => bytes48 t.x1 ++ bytes48 t.x2 ++ bytes48 t.y1 ++ bytes48 t.y2

def Chan.delayBytes (c : Chan) : List Byte := c.delay.flatMap bytes48

/-- Section states from bytes, 24 a section. -/
def stOfBytes : Nat → List Byte → List BqState
  | 0, _ => []
  | n + 1, l =>
    ⟨int48 (l.take 6), int48 ((l.drop 6).take 6), int48 ((l.drop 12).take 6), int48 ((l.drop 18).take 6)⟩
      :: stOfBytes n (l.drop 24)

/-- Delay samples from bytes, 6 a sample. -/
def delayOfBytes : Nat → List Byte → List Int
  | 0, _ => []
  | n + 1, l => int48 (l.take 6) :: delayOfBytes n (l.drop 6)

/-- Four bytes of a list replaced. -/
def patch4 (l : List Byte) (i : Nat) (v : Word) : List Byte := l.take i ++ leBytes v.toNat 4 ++ l.drop (i + 4)

/-- A coefficient of a section, by its place. -/
def Coef.word (c : Coef) : Nat → Word
  | 0 => c.b0 | 1 => c.b1 | 2 => c.b2 | 3 => c.a1 | _ => c.a2

def Coef.setWord (c : Coef) (k : Nat) (v : Word) : Coef :=
  match k with
  | 0 => { c with b0 := v } | 1 => { c with b1 := v } | 2 => { c with b2 := v }
  | 3 => { c with a1 := v } | _ => { c with a2 := v }

/-- A word of a record as it reads. -/
def Chan.read (c : Chan) (off : Nat) : Word :=
  if off = 0 then c.ctl
  else if off = 4 then c.ceil
  else if off = 8 then BitVec.ofNat 32 c.limG
  else if off = 12 then BitVec.ofNat 32 (c.clampCnt * 65536 + c.satCnt)
  else if off < 0x40 then mget (fun _ => 0#32) c.rsv off
  else if off < 0xE0 then (c.coef.getD ((off - 0x40) / 20) ⟨0#32, 0#32, 0#32, 0#32, 0#32⟩).word ((off - 0x40) % 20 / 4)
  else if off < 0x1A0 then BitVec.ofNat 32 (leNat ((c.stBytes.drop (off - 0xE0)).take 4))
  else BitVec.ofNat 32 (leNat ((c.delayBytes.drop (off - 0x1A0)).take 4))

/-- A word of a record written by the Boot controller. -/
def Chan.write (c : Chan) (off : Nat) (v : Word) : Chan :=
  if off = 0 then { c with ctl := v, limG := if bitAt v 30 then c.limG else limUnity }
  else if off = 4 then { c with ceil := v, need := c.delay.map (limNeed (sWord v)) }
  else if off = 8 then { c with limG := v.toNat }
  else if off = 12 then { c with clampCnt := bitsOf v 31 16, satCnt := bitsOf v 15 0 }
  else if off < 0x40 then { c with rsv := mset (fun _ => 0#32) c.rsv off v }
  else if off < 0xE0 then
    let k := (off - 0x40) / 20
    { c with coef := c.coef.set k ((c.coef.getD k ⟨0#32, 0#32, 0#32, 0#32, 0#32⟩).setWord ((off - 0x40) % 20 / 4) v) }
  else if off < 0x1A0 then { c with st := stOfBytes 8 (patch4 c.stBytes (off - 0xE0) v) }
  else
    let d := delayOfBytes 16 (patch4 c.delayBytes (off - 0x1A0) v)
    { c with delay := d, need := d.map (limNeed (sWord c.ceil)) }

/-- A write of the route table or a Border record (R41): the Boot controller alone, and only while the
owner's RUN is 0. -/
def State.tableWrite (s : State) (a : Agent) (off : Nat) (v : Word) : State :=
  let addr := routeBase + off
  if !s.accepted a.val then s
  else if a.val = 3 ∨ a.val = 4 then s.errRec a.val .host true addr
  else if a.val ≠ 0 then s.errRec a.val .nopath true addr
  else if off < 0x80000 then
    if s.flag WEAVE_CTL_RUN then s.errRec 0 .block true addr
    else (s.entryWord (off / 16) (off % 16 / 4) v).ok 0#32
  else if s.flag BORDER_CTL_RUN then s.errRec 0 .block true addr
  else
    let b := (off - 0x80000) / 512
    (s.setChan b ((s.chan b).write ((off - 0x80000) % 512) v)).ok 0#32

def execRouteTableWrite (a : Agent) (w : Fin 196608) (v : Word) (s : State) : Out :=
  .next (s.tableWrite a (4 * w.val) v)

end Sys2Proof.Machine
end

