-- ==== Sys2Proof/Machine/Supv.lean ====
section
/-! DEFINITION. Machine/Supv.lean: supervision of lines, microphones and monitor points, and noise
compensation (R160 to R191 of spec/06_arrays_and_supervision.md). -/
namespace Sys2Proof.Machine

open Reg

/-! ### Levels -/

/-- Whether a level of 10 log10(num / den) dB lies below −f dB. -/
def levelBelow (num den f : Nat) : Bool := Nat.blt (num ^ 10 * 10 ^ f) (den ^ 10)

/-- How many whole dB below full scale a level lies, at most 255, and whether it lies on a whole dB. -/
def dbFloor (num den : Nat) : Nat :=
  (List.range 8).foldl (fun f i =>
    let g := f + 2 ^ (7 - i)
    if Nat.ble (num ^ 10 * 10 ^ g) (den ^ 10) then g else f) 0

/-- A level as a register shows it, dB below full scale: the spec gives no rounding, so it is one of the
two whole numbers that enclose it. -/
def State.dbField (s : State) (num den : Nat) : Nat × State :=
  let f := dbFloor num den
  if num = 0 then (255, s)
  else if num ^ 10 * 10 ^ f = den ^ 10 then (f, s)
  else
    let (v, s) := s.free
    (min 255 (f + v % 2), s)

/-- The largest number below 2^24 − 1 whose square times `b` is at most `a`; 2^24 − 1 above range. -/
def root24 (a b : Nat) : Nat :=
  (List.range 24).foldl (fun z i =>
    let g := z + 2 ^ (23 - i)
    if Nat.ble (g * g * b) a then g else z) 0

/-! ### Lines (R167 to R175) -/

def Dem.zero : Dem := ⟨0, 0, 0, 0, 0⟩

def Dem.add (x y : Dem) : Dem := ⟨x.vr + y.vr, x.vi + y.vi, x.ir + y.ir, x.ii + y.ii, x.n + 1⟩

def Line.empty : Line :=
  { hub := false, dem := Dem.zero, ready := none, seq := 0#32, last := 0, stale := false, turn := 0, run := 0,
    bands := List.replicate 8 0, near := 0, learn := none }

def State.line (s : State) (l : Nat) : Line := mget (fun _ => Line.empty) s.supv.lines l
def State.setLine (s : State) (l : Nat) (x : Line) : State :=
  { s with supv := { s.supv with lines := mset (fun _ => Line.empty) s.supv.lines l x } }

def SkLine.empty : SkLine := { num := 0, den := 1, cluster := 0, pilot := 0, broad := 0, bands := [] }
def State.skLine (s : State) (l : Nat) : SkLine := mget (fun _ => SkLine.empty) s.skein.lines l

/-- State codes of a line (R171). -/
def lnOk : Nat := 0
def lnShort : Nat := 1
def lnLow : Nat := 2
def lnHigh : Nat := 3
def lnOpen : Nat := 4
def lnPhase : Nat := 5
def lnBand : Nat := 6
def lnNosense : Nat := 7
def lnPending : Nat := 8

/-- Whether supervision runs for a line. -/
def State.lineOn (s : State) (l : Nat) : Bool :=
  s.flag SUPV_CTL_RUN && s.flag (SUPV_LINE_CFG_EN l) && s.hubUp

/-- Whether a line's estimate comes from its hub demodulator (R170): outside Run and Trim, while its cluster
does not run, or once its report is stale. -/
def State.lineHub (s : State) (l : Nat) : Bool :=
  !(s.full && s.clState (s.skLine l).cluster == clRunning) || (s.line l).stale

/-- A line's STATE written (R190): the line event bits in the same cycle, and the map. -/
def State.lineEvents (s : State) (l old new : Nat) : State :=
  let fault := new != lnOk && new != lnPending
  let s := if new = old then s
    else if fault then s.raise SUPV_EVT_LINE_FAULT
    else if new = lnOk then s.raise SUPV_EVT_LINE_CLEAR else s
  if fault then s.setBit (SUPV_LINE_MAP (l / 32)) (l % 32) else s.clrBit (SUPV_LINE_MAP (l / 32)) (l % 32)

/-- A state change reported: logged, sent to the manager, and mapped to the fault outputs (R185). -/
def State.report (s : State) (kind idx new : Nat) (fault : Bool) (src : FaultSrc) : State :=
  let s := s.wardenEvent kind [idx, new, s.seconds]
  let s := s.notify kind idx (if fault then 2 else 1) new
  let s := if fault then s.policyBits src else s
  match s.supv.sweep with
  | some w => { s with supv := { s.supv with sweep := some { w with changed := true } } }
  | none => s

def State.setLineState (s : State) (l new : Nat) : State :=
  let old := s.rf (SUPV_LINE_STAT_STATE l)
  if new = old then s
  else
    let s := (s.sf (SUPV_LINE_STAT_STATE l) new).lineEvents l old new
    s.report 1 l new (new != lnOk && new != lnPending) (.line new)

/-- A write of SUPV_LINE_STAT by an agent (R190): agents 0 and 1; the RW fields. A change of STATE is reported (R185). -/
def State.lineStatWrite (s : State) (a l : Nat) (v : Word) : State :=
  if Nat.blt 1 a then s.err
  else
    let old := s.rf (SUPV_LINE_STAT_STATE l)
    let r := s.reg (SUPV_LINE_STAT l)
    let s := s.setReg (SUPV_LINE_STAT l) ((v &&& 0xFFF0FFFF#32) ||| (r &&& 0x00010000#32))
    let new := bitsOf v 31 28
    let s := s.lineEvents l old new
    (if new = old then s else s.report 1 l new (new != lnOk && new != lnPending) (.line new)).ok 0#32

def execLineStateWrite (a : Agent) (l : Fin 512) (v : Word) (s : State) : Out :=
  .next (s.regWrite a (SUPV_LINE_STAT l.val) v fun s => s.lineStatWrite a.val l.val v)

/-- Window length W of the pilot estimate (R169). -/
def Sys.pilotW (y : Sys) : Nat := if y.rate96 then 192 else 96

/-- The weights c(n) and s(n) of R169. -/
def Sys.pilotC (y : Sys) (n : Nat) : Int := cosQ ((if y.rate96 then 41 else 82) * n)
def Sys.pilotS (y : Sys) (n : Nat) : Int := -cosQ ((if y.rate96 then 41 else 82) * n + 144)

/-- A line with the source that it now has (R170): a change of source discards the estimate in progress. -/
def State.lineSource (s : State) (l : Nat) : State :=
  let x := s.line l
  let hub := s.lineHub l
  if hub = x.hub then s else s.setLine l { x with hub := hub, dem := Dem.zero, ready := none, turn := s.sys.roundNo }

/-- One sample of a line's hub demodulator (R169, R170): estimates start at window boundaries and cover 500
windows. -/
def State.demStep (s : State) (l idx : Nat) (v i : Int) : State :=
  if !s.lineOn l then s else
  let s := s.lineSource l
  let x := s.line l
  let w := s.sys.pilotW
  if !x.hub then s
  else if x.dem.n = 0 ∧ idx % w ≠ 0 then s
  else
    let c := s.sys.pilotC (idx % w)
    let sn := s.sys.pilotS (idx % w)
    let d := x.dem
    let d : Dem := ⟨d.vr + v * c, d.vi + v * sn, d.ir + i * c, d.ii + i * sn, d.n + 1⟩
    if d.n = 500 * w then
      s.setLine l { x with dem := Dem.zero, ready := some ⟨d.vr / 65536, d.vi / 65536, d.ir / 65536, d.ii / 65536, d.n⟩ }
    else s.setLine l { x with dem := d }

/-- A signed 64-bit value of two words, least significant first. -/
def s64 (lo hi : Word) : Int := sext 64 (hi.toNat * 2 ^ 32 + lo.toNat)

/-- The word of a report record (R162). -/
def State.rpt (s : State) (addr i : Nat) : Word := s.word (addr + 4 * i)

/-- Whether a report record is of a kind for an index, with a SEQ not yet taken (R162, R163). -/
def State.fresh (s : State) (addr kind idx : Nat) (seen : Word) : Bool :=
  bitsOf (s.rpt addr 1) 31 24 == kind && bitsOf (s.rpt addr 1) 15 0 == idx && s.rpt addr 0 != seen

/-- The sums of a pilot report. -/
def State.rptDem (s : State) (addr : Nat) : Dem :=
  let g (i : Nat) := s64 (s.rpt addr (2 + 2 * i)) (s.rpt addr (3 + 2 * i))
  ⟨g 0, g 1, g 2, g 3, 0⟩

/-- Squared magnitudes of V and I. -/
def Dem.v2 (d : Dem) : Nat := (d.vr * d.vr + d.vi * d.vi).toNat
def Dem.i2 (d : Dem) : Nat := (d.ir * d.ir + d.ii * d.ii).toNat

/-- The square of full scale for a pilot sum of P products, as R169 scales it. -/
def Sys.pilotFs (y : Sys) : Nat := (500 * y.pilotW) ^ 2 * 2 ^ 90

/-- V times the conjugate of I: its angle is that of Z. -/
def Dem.zr (d : Dem) : Int := d.vr * d.ir + d.vi * d.ii
def Dem.zi (d : Dem) : Int := d.vi * d.ir - d.vr * d.ii

/-- Whether |Z| exceeds, and whether it is below, a number of mΩ given as a fraction. -/
def zAbove (k : SkLine) (d : Dem) (a b : Nat) : Bool := Nat.blt (a ^ 2 * k.den ^ 2 * d.i2) (k.num ^ 2 * d.v2 * b ^ 2)
def zBelow (k : SkLine) (d : Dem) (a b : Nat) : Bool := Nat.blt (k.num ^ 2 * d.v2 * b ^ 2) (a ^ 2 * k.den ^ 2 * d.i2)

/-- Whether the angle of a complex number differs from `ph` degrees by more than `lim` degrees. -/
def angleBeyond (re im : Int) (ph : Int) (lim : Nat) : Bool :=
  let t := (ph % 360).toNat
  let re' := re * cosDeg t + im * sinDeg t
  let im' := im * cosDeg t - re * sinDeg t
  let r2 := re' * re' + im' * im'
  let c := cosDeg lim
  if 180 ≤ lim then false
  else if 0 ≤ c then decide (re' < 0) || decide (re' * re' * 2 ^ 128 < c * c * r2)
  else decide (re' < 0) && decide (c * c * r2 < re' * re' * 2 ^ 128)

/-- The whole degrees at or below the angle of a complex number, from −180 to 179. -/
def angleFloor (re im : Int) : Int :=
  let at_ (d : Int) : Int := let t := (d % 360).toNat; cosDeg t * im - sinDeg t * re
  match (List.range 360).find? fun i =>
    let d : Int := (i : Int) - 180
    decide (0 ≤ at_ d) && decide (at_ (d + 1) < 0) with
  | some i => (i : Int) - 180
  | none => 0

/-- A signed angle field of 8 bits: the spec gives no rounding, and no code for an angle outside −128 to
127, so the rest is a free value. -/
def State.angleField (s : State) (re im : Int) : Nat × State :=
  let d := angleFloor re im
  let (v, s) := s.free
  let a := d + (v % 2 : Nat)
  if -128 ≤ a ∧ a ≤ 127 then ((a % 256).toNat, s) else (v % 256, s)

/-- |Z| in mΩ as a register shows it: 0xFF_FFFF above range or with no current. -/
def State.zField (s : State) (k : SkLine) (d : Dem) : Nat × State :=
  let z := root24 (k.num ^ 2 * d.v2) (k.den ^ 2 * d.i2)
  if d.i2 = 0 ∨ z = 0xFFFFFF then (0xFFFFFF, s)
  else
    let (v, s) := s.free
    (if z * z * (k.den ^ 2 * d.i2) = k.num ^ 2 * d.v2 then z else z + v % 2, s)

/-- The threshold of a line state not cleared by the margin of R172 while that state stands: 5 points of a percentage, for
NOSENSE of the floor's amplitude, and for BAND in a band's last measured ratio. -/
def State.marginMissed (s : State) (l st : Nat) (d : Dem) : Bool :=
  let k := s.skLine l
  let z0 := s.rf (SUPV_LINE_Z0_Z0 l)
  let ph := sext 8 (s.rf (SUPV_LINE_Z0_PH0 l))
  if st = lnOpen then zAbove k d (95 * s.rf SUPV_THR_OPEN_X * z0) 100
  else if st = lnShort then zBelow k d (z0 * (s.rf SUPV_THR_SHORT_PCT + 5)) 100
  else if st = lnHigh then zAbove k d (z0 * (95 + s.rf SUPV_THR_HI_PCT)) 100
  else if st = lnLow then zBelow k d (z0 * (105 - s.rf SUPV_THR_LO_PCT)) 100
  else if st = lnPhase then angleBeyond d.zr d.zi ph (s.rf SUPV_LIM_PH_DEG - 5)
  else if st = lnBand then (s.line l).near != 0
  else st == lnNosense && levelBelow (d.v2 * 10000) (s.sys.pilotFs * 11025) (s.rf SUPV_LIM_V_FLOOR)

/-- The candidate state of an estimate (R171, R172). -/
def State.candidate (s : State) (l : Nat) (d : Dem) : Nat :=
  let k := s.skLine l
  let fs := s.sys.pilotFs
  let z0 := s.rf (SUPV_LINE_Z0_Z0 l)
  let ph := sext 8 (s.rf (SUPV_LINE_Z0_PH0 l))
  let st := s.rf (SUPV_LINE_STAT_STATE l)
  if levelBelow d.v2 fs (s.rf SUPV_LIM_V_FLOOR) then lnNosense
  else if levelBelow d.i2 fs (s.rf SUPV_LIM_I_FLOOR) || zAbove k d (s.rf SUPV_THR_OPEN_X * z0) 1 then lnOpen
  else if zBelow k d (z0 * s.rf SUPV_THR_SHORT_PCT) 100 then lnShort
  else if zAbove k d (z0 * (100 + s.rf SUPV_THR_HI_PCT)) 100 then lnHigh
  else if zBelow k d (z0 * (100 - s.rf SUPV_THR_LO_PCT)) 100 then lnLow
  else if angleBeyond d.zr d.zi ph (s.rf SUPV_LIM_PH_DEG) then lnPhase
  else if s.rf (SUPV_LINE_STAT_BAND_MAP l) != 0 then lnBand
  else if st != lnOk && st != lnPending && s.marginMissed l st d then st
  else lnOk

/-- An estimate judged (R171 to R173): the line record, the debounce and STATE. -/
def State.judgeLine (s : State) (l : Nat) (d : Dem) : State :=
  let k := s.skLine l
  let (z, s) := s.zField k d
  let (ph, s) := s.angleField d.zr d.zi
  let (lv, s) := s.dbField d.v2 s.sys.pilotFs
  let s := (s.sf (SUPV_LINE_Z_Z l) z).sf (SUPV_LINE_Z_PHASE l) ph
  let s := s.sf (SUPV_LINE_STAT_VLVL l) lv
  let cand := s.candidate l d
  let x := s.line l
  let run := if s.rf (SUPV_LINE_STAT_CAND l) = cand then min 255 (x.run + 1) else 1
  let s := s.setLine l { x with run := run, learn := x.learn.map fun g => if g.n < 10 then g.add d else g }
  let s := (s.sf (SUPV_LINE_STAT_CAND l) cand).sf (SUPV_LINE_STAT_RUN l) (min 15 run)
  if cand = lnOk then
    if Nat.ble (max 1 (s.rf SUPV_TIME_CLEAR)) run then s.setLineState l lnOk else s
  else if Nat.ble (s.rf SUPV_TIME_CONFIRM) run then s.setLineState l cand else s

/-- Whether a report's second began with its source in use (R170): the round that its SEQ names, less the rounds of 500
windows. -/
def State.reportWhole (s : State) (l : Nat) (seq : Word) : Bool :=
  let back := (s.sys.roundNo + 2 ^ 32 - seq.toNat) % 2 ^ 32
  Nat.ble ((s.line l).turn + 500 * s.sys.pilotW / s.sys.n + back) (s.sys.roundNo + 1)

/-- A pilot estimate completes (R169 to R173): from the stake's report or the hub demodulator; an estimate in
progress across a change of source is discarded. -/
def execPilotEstimate (l : Fin 512) (s : State) : Out :=
  let n := l.val
  .next (if s.lineOn n then
      let a := (s.skLine n).pilot
      let new := s.full && s.fresh a 1 n (s.line n).seq
      let x := s.line n
      let s := if new then s.setLine n { x with seq := s.rpt a 0, last := s.now, stale := false } else s
      let s := s.lineSource n
      let x := s.line n
      if x.hub then
        match x.ready with
        | some d =>
          let w (i : Nat) (v : Int) (s : State) : State :=
            (s.setReg (SUPV_DEM n (2 * i)) (wordOfInt v)).setReg (SUPV_DEM n (2 * i + 1)) (wordOfInt (v / 2 ^ 32))
          let s := w 3 d.ii (w 2 d.ir (w 1 d.vi (w 0 d.vr s)))
          let s := s.setRegN SUPV_DEM_SEQ s.sys.roundNo
          (s.setLine n { x with ready := none }).judgeLine n d
        | none => s
      else if new && s.reportWhole n (s.rpt a 0) then s.judgeLine n (s.rptDem a)
      else s
    else s)

/-- A report whose SEQ has not advanced for 3 s (R170): the line moves to its hub demodulator. -/
def execReportStale (l : Fin 512) (s : State) : Out :=
  let n := l.val
  let x := s.line n
  .next (if s.lineOn n = true ∧ s.lineHub n = false ∧ s.fresh (s.skLine n).pilot 1 n x.seq = false then
      let from_ := max x.last (s.cluster (s.skLine n).cluster).since
      let s := ((s.moveTo (from_ + 3 * sec1)).setLine n { x with stale := true }).lineSource n
      s.raise SUPV_EVT_REPORT_STALE
    else s)

/-- SUPV_LINE_STAT as it reads: SRC shows the source in use. -/
def State.lineStat (s : State) (l : Nat) : Word := setBits (s.reg (SUPV_LINE_STAT l)) 16 16 (if s.lineHub l then 1 else 0)

/-- Whether a band's ratio (Q16.16, scaled to mΩ) lies outside the limits about its baseline, drawn in by a margin in
points (R172, R174). -/
def State.bandOut (s : State) (l b ratio margin : Nat) : Bool :=
  let k := s.skLine l
  let z := ratio * k.num * 100
  let base := k.bands.getD b 0 * k.den * 65536
  Nat.blt (base * (100 + s.rf SUPV_THR_HI_PCT - margin)) z || Nat.blt z (base * (100 + margin - s.rf SUPV_THR_LO_PCT))

/-- A broadband estimate completes (R174). -/
def execBroadbandEstimate (l : Fin 512) (s : State) : Out :=
  let n := l.val
  let a := (s.skLine n).broad
  .next (if s.lineOn n = true ∧ s.flag (SUPV_LINE_CFG_BB_EN n) = true ∧ s.full = true
        ∧ s.clState (s.skLine n).cluster = clRunning ∧ s.fresh a 2 n (mget (fun _ => 0#32) s.supv.bbSeq n) = true then
      let s := { s with supv := { s.supv with bbSeq := mset (fun _ => 0#32) s.supv.bbSeq n (s.rpt a 0) } }
      (List.range 8).foldl (fun s b =>
        if bitAt (s.rpt a 10) b then
          let x := s.line n
          let out := s.bandOut n b (s.rpt a (2 + b)).toNat 0
          let c := if out then min 255 (x.bands.getD b 0 + 1) else 0
          let near := if s.bandOut n b (s.rpt a (2 + b)).toNat 5 then x.near ||| 2 ^ b else x.near &&& (255 - 2 ^ b)
          let s := s.setLine n { x with bands := x.bands.set b c, near := near }
          if Nat.ble (s.rf SUPV_TIME_CONFIRM) c && out then s.setBit (SUPV_LINE_STAT n) (8 + b)
          else if out then s else s.clrBit (SUPV_LINE_STAT n) (8 + b)
        else s) s
    else s)

/-- The lines that supervision is enabled for. -/
def State.linesOn (s : State) : List Nat := (List.range 512).filter fun l => s.flag (SUPV_LINE_CFG_EN l)

/-- The lifecycle state (R414). -/
def State.lifecycle (s : State) : Nat := s.rf TRUST_LC_LC

/-- Learning started for every enabled line (R175). -/
def State.learnStart (s : State) : State :=
  s.linesOn.foldl (fun s l => s.setLine l { s.line l with learn := some Dem.zero }) s

/-- A write of SUPV_CTL (R175, R190, R191): in Sealed and Retired a write of LEARN is ignored and logged. -/
def State.supvCtlWrite (s : State) (a : Nat) (v : Word) : State :=
  if Nat.blt 1 a then s.err
  else if bitAt v 1 && Nat.ble 2 s.lifecycle then (s.privViol a SUPV_CTL).ok 0#32
  else
    let s := (s.sf SUPV_CTL_RUN (bitsOf v 0 0)).sf SUPV_CTL_NC_EN (bitsOf v 2 2)
    (if bitAt v 1 then s.learnStart else s).ok 0#32

/-- A write of 1 to LEARN, the fields beside it as they stand. -/
def execSupvLearn (a : Agent) (s : State) : Out :=
  let v := s.reg SUPV_CTL ||| 2#32
  .next (s.regWrite a SUPV_CTL v fun s => s.supvCtlWrite a.val v)

/-- Baselines learned (R175): Z0 and PH0 from the averages of 10 estimates, and STATE back to PENDING. -/
def execLearnDone (s : State) : Out :=
  let ls := s.linesOn.filter fun l => (s.line l).learn.isSome
  .next (if ls ≠ [] ∧ (ls.all fun l => match (s.line l).learn with | some g => Nat.ble 10 g.n | none => false) = true then
      let s := ls.foldl (fun s l =>
        match (s.line l).learn with
        | some g =>
          let (z, s) := s.zField (s.skLine l) g
          let (ph, s) := s.angleField g.zr g.zi
          let s := (s.sf (SUPV_LINE_Z0_Z0 l) z).sf (SUPV_LINE_Z0_PH0 l) ph
          let s := s.setLine l { s.line l with learn := none, run := 0 }
          s.setLineState l lnPending
        | none => s) s
      s.raise SUPV_EVT_LEARN_DONE
    else s)

/-! ### Microphones (R176, R177) -/

def Mic.empty : Mic :=
  { sq := 0, re := 0, im := 0, n := 0, ready := none, stuck := 0, hit := false, dead := 0, deaf := 0, loud := 0, fine := 0,
    cand := 0, held := 0 }

def State.mic (s : State) (m : Nat) : Mic := mget (fun _ => Mic.empty) s.supv.mics m
def State.setMic (s : State) (m : Nat) (x : Mic) : State :=
  { s with supv := { s.supv with mics := mset (fun _ => Mic.empty) s.supv.mics m x } }

/-- State codes of a microphone (R176). -/
def mcOk : Nat := 0
def mcDead : Nat := 1
def mcStuck : Nat := 2
def mcDeaf : Nat := 3
def mcOverload : Nat := 4

/-- Whether a checker runs. -/
def State.micOn (s : State) (m : Nat) : Bool :=
  s.flag SUPV_CTL_RUN && s.flag (SUPV_MIC_CFG_EN m) && s.hubUp

/-- One sample of a checker's period of 1 s (R176). -/
def State.micStep (s : State) (m idx : Nat) (x : Int) : State :=
  let y := s.mic m
  if s.micOn m then
    let n := idx % s.sys.pilotW
    let sq := y.sq + x.natAbs * x.natAbs
    let re := y.re + x * s.sys.pilotC n
    let im := y.im + x * s.sys.pilotS n
    if y.n + 1 = s.sys.rate then s.setMic m { y with sq := 0, re := 0, im := 0, n := 0, ready := some (sq, re, im) }
    else s.setMic m { y with sq := sq, re := re, im := im, n := y.n + 1 }
  else s

/-- A microphone's STATE changed: its event bit, its map bit, and the report of R185. -/
def State.setMicState (s : State) (m new : Nat) : State :=
  let old := s.rf (SUPV_MIC_STAT_STATE m)
  if new = old then s
  else
    let s := s.sf (SUPV_MIC_STAT_STATE m) new
    let s := if new = mcOk then (s.raise SUPV_EVT_MIC_CLEAR).clrBit (SUPV_MIC_MAP (m / 32)) (m % 32)
      else (s.raise SUPV_EVT_MIC_FAULT).setBit (SUPV_MIC_MAP (m / 32)) (m % 32)
    s.report 2 m new (new != mcOk && new != mcOverload) (.mic new)

/-- Whether the STUCK check of a checker holds. -/
def State.micStuckNow (s : State) (m : Nat) : Bool :=
  (s.rf (SUPV_MIC_CFG_CHECKS m)).testBit 2 && Nat.ble 3 (s.mic m).stuck

/-- STATE from the counts of a checker (R176). -/
def State.micVerdict (s : State) (m : Nat) : State :=
  let y := s.mic m
  if s.micStuckNow m = true then s.setMicState m mcStuck
  else if 30 ≤ y.dead then s.setMicState m mcDead
  else if 30 ≤ y.deaf then s.setMicState m mcDeaf
  else if 10 ≤ y.loud then s.setMicState m mcOverload
  else if 10 ≤ y.fine then s.setMicState m mcOk
  else s

/-- The end of a checker's period of 1 s (R176). -/
def execMicCheckPeriod (m : Fin 128) (s : State) : Out :=
  let k := m.val
  .next (match (s.mic k).ready with
    | none => s
    | some (sq, re, im) =>
      let n := s.sys.rate
      let checks := s.rf (SUPV_MIC_CFG_CHECKS k)
      let pil := (re * re + im * im).toNat
      let pilFs := (n * 2 ^ 61) ^ 2
      let msFs := n * 2 ^ 61
      let (msDb, s) := s.dbField sq msFs
      let (plDb, s) := s.dbField pil pilFs
      let s := (s.sf (SUPV_MIC_LVL_MS_DB k) msDb).sf (SUPV_MIC_LVL_PILOT_DB k) plDb
      let y := s.mic k
      let stuck := s.micStuckNow k
      let dead := checks.testBit 0 && levelBelow sq msFs (s.rf (SUPV_MIC_LVL_FLOOR k))
      let deaf := checks.testBit 3 && levelBelow pil pilFs (s.rf (SUPV_MIC_LVL_PFLOOR k))
        && s.rf (SUPV_LINE_STAT_STATE (s.rf (SUPV_MIC_CFG_LINE k))) == lnOk
      let loud := checks.testBit 1 && Nat.blt (msFs ^ 10) (sq ^ 10 * 10 ^ 3)
      let c (b : Bool) (n : Nat) : Nat := if b then min 65535 (n + 1) else 0
      let cand := if stuck then mcStuck else if dead then mcDead else if deaf then mcDeaf else if loud then mcOverload
        else mcOk
      let held := if cand = y.cand then min 65535 (y.held + 1) else 1
      let s := s.setMic k { y with ready := none, hit := stuck, dead := c dead y.dead, deaf := c deaf y.deaf,
                                   loud := c loud y.loud, fine := c (cand == mcOk && !y.hit) y.fine, cand := cand, held := held }
      (s.sf (SUPV_MIC_STAT_PERIODS k) held).micVerdict k)

/-- A period of 10 ms of a PDM microphone's data line (R176): `bad` when its density was out of range. A period of 1 s in
which STUCK held is none of the 10 that lead back to OK. -/
def State.micStuck (s : State) (slot : Nat) (bad : Bool) : State :=
  (List.range 128).foldl (fun s m =>
    if s.micOn m && s.rf (SUPV_MIC_CFG_SLOT m) == slot then
      let y := s.mic m
      let stuck := if bad && (s.rf (SUPV_MIC_CFG_CHECKS m)).testBit 2 then min 255 (y.stuck + 1) else 0
      let holds := Nat.ble 3 stuck
      (s.setMic m { y with stuck := stuck, hit := y.hit || holds, fine := if holds then 0 else y.fine }).micVerdict m
    else s) s

/-! ### Monitor points (R178 to R181) -/

def State.point (s : State) (i : Nat) : Point := mget (fun _ => ⟨0, 0, 0#32⟩) s.supv.points i
def State.setPoint (s : State) (i : Nat) (x : Point) : State :=
  { s with supv := { s.supv with points := mset (fun _ => ⟨0, 0, 0#32⟩) s.supv.points i x } }

/-- The bit of a monitor point in the map, reported when it changes (R185): the EVENT for the endpoint that the Skein lists
for the point under KIND 7. -/
def State.setPointBit (s : State) (i : Nat) (b : Bool) : State :=
  let was := s.bit (SUPV_TI_MAP (i / 32)) (i % 32)
  if was = b then s
  else
    let s := if b then s.setBit (SUPV_TI_MAP (i / 32)) (i % 32) else s.clrBit (SUPV_TI_MAP (i / 32)) (i % 32)
    let s := (s.wardenEvent 3 [i, if b then 1 else 0, s.seconds]).notify 7 i (if b then 2 else 1) 0xFF
    if b then s.policyBits .point else s

/-- An intelligibility estimate completes (R163, R181). -/
def execTiEstimate (i : Fin 64) (s : State) : Out :=
  let n := i.val
  let a := mget (fun _ => 0) s.skein.points n
  .next (if s.flag SUPV_CTL_RUN = true ∧ s.flag (SUPV_TI_CFG_EN n) = true ∧ s.full = true
        ∧ s.fresh a 3 n (s.point n).seq = true then
      let ti := bitsOf (s.rpt a 2) 6 0
      let flags := bitsOf (s.rpt a 5) 3 0
      let valid := flags.testBit 0
      let s := (s.sf (SUPV_TI_VAL_TI n) ti).sf (SUPV_TI_VAL_CELLS n) (bitsOf (s.rpt a 3) 7 0)
      let s := (s.sf (SUPV_TI_VAL_LAG n) (bitsOf (s.rpt a 4) 5 0)).setFlag (SUPV_TI_VAL_VALID n) valid
      let s := (s.setFlag (SUPV_TI_VAL_LOWMOD n) (flags.testBit 1)).setFlag (SUPV_TI_VAL_NOREF n) (flags.testBit 2)
      let s := s.setFlag (SUPV_TI_VAL_NOMIC n) (flags.testBit 3)
      let isLow := valid && Nat.blt ti (s.rf SUPV_LIM_TI_LOW)
      let x := s.point n
      let x : Point := ⟨if isLow then min 3 (x.low + 1) else 0, if valid then 0 else min 3 (x.invalid + 1), s.rpt a 0⟩
      let s := s.setPoint n x
      let s := if x.low = 3 then (s.raise SUPV_EVT_TI_LOW).setPointBit n true else s
      let s := if x.invalid = 3 then (s.raise SUPV_EVT_TI_INVALID).setPointBit n true else s
      if valid && !isLow then s.setPointBit n false else s
    else s)

/-! ### Noise compensation (R182 to R184) -/

def State.zone (s : State) (z : Nat) : Zone := mget (fun _ => ⟨0, 0#32, false⟩) s.supv.zones z
def State.setZone (s : State) (z : Nat) (x : Zone) : State :=
  { s with supv := { s.supv with zones := mset (fun _ => ⟨0, 0#32, false⟩) s.supv.zones z x } }

/-- The tag of the actions that the Warden issues for a noise zone. -/
def zoneTag (z : Nat) : Nat := 0xC000 + z

/-- The gain of a crosspoint in the present scene (R183): the Skein's until a scene has changed it. -/
def State.baseGain (s : State) (idx : Nat) : Nat :=
  mget (fun i => mget (fun _ => 0) s.skein.gains i) s.supv.base idx

/-- A base gain replaced: the boosts of its zones are applied again at their next update (R184). -/
def State.setBaseGain (s : State) (idx g : Nat) : State :=
  let s := { s with supv := { s.supv with base := mset (fun i => mget (fun _ => 0) s.skein.gains i) s.supv.base idx g } }
  (s.skein.zoneXp.filter fun e => e.2.contains idx).foldl (fun (s : State) e => s.setZone e.1 { s.zone e.1 with again := true }) s

/-- The boost that a report asks for, in half decibels (R183): the spec gives no rounding to a step. -/
def State.boostFor (s : State) (z amb16 : Nat) : Nat × State :=
  let x : Int := s.rf (SUPV_NC_CFG_SLOPE z) * (16 * (s.rf (SUPV_NC_CFG_THR z) : Int) - amb16)
  let (v, s) := s.free
  let b := x / 128 + (if x % 128 = 0 then 0 else (v % 2 : Nat))
  ((clampInt 0 (s.rf (SUPV_NC_CFG_MAXB z)) b).toNat, s)

/-- A boost issued for a round on every crosspoint of its zone (R36, R183), with the parameter records for it (R161). -/
def State.boostIssue (s : State) (n due new : Nat) : State :=
  let due := max due (s.sys.roundNo + 4)
  let cur := s.rf (SUPV_NC_STAT_BOOST n)
  let s := (s.sf (SUPV_NC_STAT_BOOST n) new).setZone n { s.zone n with prior := cur, again := false }
  let s := (mget (fun _ => []) s.skein.zoneXp n).foldl (fun s idx =>
    let g := min 0xFD953A (gainDb (s.baseGain idx) new)
    s.wardenAction (s.gainAction due (zoneTag n) idx g (some 10))) s
  s.paramsFor (.boost n) due

/-- An ambient report (R182 to R184): a boost far enough from the present one, or the present one over base gains that have
been replaced, is issued for round k + 16. -/
def execAmbientReport (z : Fin 64) (s : State) : Out :=
  let n := z.val
  let a := mget (fun _ => 0) s.skein.zones n
  .next (if s.flag SUPV_CTL_RUN = true ∧ s.flag SUPV_CTL_NC_EN = true ∧ s.flag (SUPV_NC_CFG_EN n) = true
        ∧ s.full = true ∧ s.fresh a 4 n (s.zone n).seq = true then
      let s := s.setZone n { s.zone n with seq := s.rpt a 0 }
      if bitAt (s.rpt a 3) 0 then
        let amb16 := bitsOf (s.rpt a 2) 15 0
        let (v, s) := s.free
        let amb := min 255 (amb16 / 16 + (if amb16 % 16 = 0 then 0 else v % 2))
        let s := s.sf (SUPV_NC_STAT_AMB n) amb
        let (want, s) := s.boostFor n amb16
        let cur := s.rf (SUPV_NC_STAT_BOOST n)
        let far := Nat.ble (cur + 2) want || Nat.ble (want + 2) cur || want == 0 || want == s.rf (SUPV_NC_CFG_MAXB n)
        let new := max (cur - 6) (min (cur + 6) want)
        let k := s.sys.roundNo - (s.sys.roundNo + 2 ^ 32 - (s.rpt a 0).toNat) % 2 ^ 32
        if far && new != cur then s.boostIssue n (k + 16) new
        else if (s.zone n).again then s.boostIssue n (k + 16) cur
        else s
      else s
    else s)

/-- An action of a noise zone refused by the Weave (R184): the boost stays at its last accepted value. -/
def State.zoneRefused (s : State) (tag : Nat) : State :=
  if 0xC000 ≤ tag ∧ tag < 0xC040 then
    (s.sf (SUPV_NC_STAT_BOOST (tag - 0xC000)) (s.zone (tag - 0xC000)).prior).raise SUPV_EVT_NC_REFUSED
  else s

end Sys2Proof.Machine
end

