-- ==== Sys2Proof/Machine/Audio.lean ====
section
/-! DEFINITION. Machine/Audio.lean: TDM, PDM and AES3 ports, converters and the start trigger (R218 to R250
of spec/08_audio_ports.md). -/
namespace Sys2Proof.Machine

open Reg

/-! ### Inputs (R219 to R223) -/

/-- Keys of the inputs: TDM ports, AES3 inputs, their subframes, converter channels. -/
def inKey : InputId → Nat
  | .tdm n => n.val
  | .aes i => 32 + i.val
  | .sub i c => 36 + 2 * i.val + c.val
  | .asrc ch => 44 + ch.val

/-- An input at start: a TDM port or a subframe is healthy, an AES3 input or converter channel must lock. -/
def Input.init (k : Nat) : Input :=
  let locks := (Nat.ble 32 k && Nat.blt k 36) || Nat.ble 44 k
  { gain := if locks then 0 else unity20, ramp := none, lost := locks, fading := false, ramping := false,
    clk := false, good := none, ret := false, d0 := none, slip := false, renew := false, dead := false, last := [], len := 0 }

def State.input (s : State) (k : Nat) : Input := mget Input.init s.ports.inputs k
def State.setInput (s : State) (k : Nat) (x : Input) : State :=
  { s with ports := { s.ports with inputs := mset Input.init s.ports.inputs k x } }

/-- The input that a slot behind a converter channel belongs to: a TDM port or an AES3 input. -/
def slotPort (slot : Nat) : Nat := if slot < 1024 then slot / 32 else 32 + (slot - 1056) / 2 % 4

/-- Whether some enabled channel takes a slot. -/
def State.asrcOf (s : State) (slot : Nat) : Option Nat :=
  (List.range 32).find? fun ch => s.flag (ASRC_CFG_EN ch) && s.rf (ASRC_CFG_SLOT ch) == slot

/-- The enabled converter channels of a port: they share one rate estimator (R238). -/
def State.asrcsOf (s : State) (port : Nat) : List Nat :=
  (List.range 32).filter fun ch => s.flag (ASRC_CFG_EN ch) && slotPort (s.rf (ASRC_CFG_SLOT ch)) == port

/-- FADE and RAMPIN of an input in rounds, 0 taken as 1: a converter channel takes those of the port that
its slot belongs to. -/
def State.inRounds (s : State) (k : Nat) (fade : Bool) : Nat :=
  let f (port : Nat) : Nat :=
    if port < 32 then s.rf (if fade then TDM_CFG_FADE port else TDM_CFG_RAMPIN port)
    else s.rf (if fade then AES_IN_CFG_FADE (port - 32) else AES_IN_CFG_RAMPIN (port - 32))
  let port :=
    if k < 36 then k
    else if k < 44 then 32 + (k - 36) / 2
    else slotPort (s.rf (ASRC_CFG_SLOT (k - 44)))
  max 1 (f port)

/-- Length of a port ramp in samples (R221, R222). -/
def State.inSpan (s : State) (k : Nat) (fade : Bool) : Nat := s.inRounds k fade * s.sys.n

/-- The status bits of an input after a change of it (R248, R250). -/
def State.inStatus (s : State) (k : Nat) : State :=
  let x := s.input k
  if k < 32 then
    let s := (s.setFlag (TDM_STAT_FADING k) x.fading).setFlag (TDM_STAT_RAMPING k) x.ramping
    let s := s.setFlag (TDM_STAT_CLK_OK k) x.good.isSome
    if s.rf (TDM_STAT_STATE k) < 2 then s else s.sf (TDM_STAT_STATE k) (if x.lost then 3 else 2)
  else if k < 36 then s.setFlag (AES_IN_STAT_FADING (k - 32)) x.fading
  else s

/-- A slip of a TDM port: its event, its count and its instant (R219, R247, R248). -/
def State.slip (s : State) (n : Nat) : State :=
  let t := s.now
  let l := s.ports.slips.filter fun e => Nat.blt t (e.2 + 10 * sec1)
  (({ s with ports := { s.ports with slips := l ++ [(n, t)] } }).raise (TDM_EVT_SLIP n)).countUp (TDM_CNT_SLIP_CNT n)

/-- The events of a loss (R221, R248, R250). -/
def State.lossEvents (s : State) (k : Nat) (c : LossCause) : State :=
  if k < 32 then
    let s := s.countUp (TDM_CNT_LOSS_CNT k)
    match c with
    | .clock => s.raise (TDM_EVT_CLK_LOSS k)
    | .format => s.raise (TDM_EVT_FMT_ERR k)
    | .slip => s.slip k
    | _ => s
  else if k < 36 then s.setBit AES_EVT (4 + (k - 32))
  else if k < 44 then s.setBit AES_EVT (4 + (k - 36) / 2)
  else s

/-- The transmit side of a TDM port. -/
def TxSide.init : TxSide :=
  { e0 := none, gain := unity20, ramp := none, off := false, slip := false, dead := false, wire := [], line := [],
    carry := none, rise := false, fs := [] }
def State.txSide (s : State) (n : Nat) : TxSide := mget (fun _ => TxSide.init) s.ports.tx n
def State.setTxSide (s : State) (n : Nat) (x : TxSide) : State :=
  { s with ports := { s.ports with tx := mset (fun _ => TxSide.init) s.ports.tx n x } }

/-- One input lost (R221, R222): its gain fades from where it stands; a fade already in progress runs on, and
a return that waits is cancelled, a slip's with it. A port without its clock sends nothing (R224). -/
def State.loseOne (s : State) (k : Nat) (c : LossCause) : State :=
  let x := s.input k
  let x := { x with
    good := none, ret := false, clk := x.clk && c != LossCause.clock && c != LossCause.lock,
    slip := c == LossCause.slip, renew := x.renew || c == LossCause.slip }
  let s := if x.lost then s else s.lossEvents k c
  let s := if k < 32 ∧ c = LossCause.clock then s.setTxSide k { s.txSide k with off := true } else s
  let x :=
    if x.fading || (x.lost && x.gain = 0) then { x with lost := true }
    else { x with lost := true, fading := true, ramping := false,
                  ramp := some (Ramp.start x.gain 0 (s.inSpan k true)) }
  (s.setInput k x).inStatus k

/-- A converter channel loses lock (R221, R238). -/
def State.asrcLose (s : State) (ch : Nat) : State :=
  if s.flag (ASRC_STAT_LOCK ch) then ((s.setFlag (ASRC_STAT_LOCK ch) false).setBit ASRC_EVT ch).loseOne (44 + ch) .lock
  else s

/-- An input lost, and with it the lock of the converter channels that it feeds (R221, R238). -/
def State.lose (s : State) (k : Nat) (c : LossCause) : State :=
  if k < 36 then (s.asrcsOf k).foldl State.asrcLose (s.loseOne k c)
  else if k < 44 then
    match s.asrcOf (1056 + (k - 36)) with
    | some ch => (s.loseOne k c).asrcLose ch
    | none => s.loseOne k c
  else if s.flag (ASRC_STAT_LOCK (k - 44)) then s.asrcLose (k - 44)
  else s.loseOne k c

/-- Whether an input runs: in Bare mode no AES3 input and no converter does (R245). -/
def State.inRuns (s : State) (k : Nat) : Bool :=
  if k < 32 then Nat.ble 2 (s.rf (TDM_STAT_STATE k))
  else if s.bareLayer then false
  else if k < 36 then s.flag (AES_IN_CFG_EN (k - 32))
  else if k < 44 then s.flag (AES_IN_CFG_EN ((k - 36) / 2)) && s.flag (AES_IN_CFG_VMODE ((k - 36) / 2))
  else s.flag (ASRC_CFG_EN (k - 44))

/-- An input is lost (R221). -/
def execInputLoss (i : InputId) (c : LossCause) (s : State) : Out :=
  .next (if s.inRuns (inKey i) then s.lose (inKey i) c else s)

/-- The end of a fade (R221, R222): the input delivers zero. -/
def execInputFadeEnd (i : InputId) (s : State) : Out :=
  let x := s.input (inKey i)
  .next (if x.fading = true ∧ x.ramp = none then
      (s.setInput (inKey i) { x with fading := false, gain := 0 }).inStatus (inKey i)
    else s)

/-- Clock and format correct for 2 whole rounds (R222): the input returns at the next boundary, or, during a
fade, once the fade has ended. -/
def execInputReturn (i : InputId) (s : State) : Out :=
  let x := s.input (inKey i)
  .next (match x.good with
    | some t =>
      if x.lost then (s.moveTo (t + 2 * s.sys.roundLen)).setInput (inKey i) { x with ret := true } else s
    | none => s)

/-- The end of a ramp-in (R222). -/
def execInputRampEnd (i : InputId) (s : State) : Out :=
  let x := s.input (inKey i)
  .next (if x.ramping = true ∧ x.ramp = none then
      (s.setInput (inKey i) { x with ramping := false, gain := unity20 }).inStatus (inKey i)
    else s)

/-- A boundary's share of one input (R219, R222): a return that no fade holds up takes effect, an input that has slipped
choosing a new delay. -/
def State.inReturn (s : State) (k : Nat) : State :=
  let x := s.input k
  let slipped := x.slip && x.lost && !x.fading
  if (x.ret || slipped) && x.lost && !x.fading then
    let x := { x with
      lost := false, ret := false, ramping := true, dead := x.dead && !x.renew, slip := false, renew := false, clk := true,
      d0 := if x.renew then none else x.d0, ramp := some (Ramp.start 0 unity20 (s.inSpan k false)) }
    let s := (s.setInput k x).inStatus k
    if k < 32 then s.raise (TDM_EVT_RETURN k)
    else if k < 36 then s.setBit AES_EVT (8 + (k - 32))
    else if k < 44 then s.setBit AES_EVT (8 + (k - 36) / 2)
    else s
  else s

/-- A boundary's share of a transmit side (R219): after the fade of a slip it chooses a new lead and ramps in. -/
def State.txReturn (s : State) (n : Nat) : State :=
  let x := s.txSide n
  if x.slip && x.ramp.isNone then
    s.setTxSide n { x with
      e0 := none, slip := false, dead := false, gain := 0, ramp := some (Ramp.start 0 unity20 (s.inSpan n false)) }
  else s

/-- One sample of every input's ramp. -/
def State.rampsStep (s : State) : State :=
  s.ports.inputs.foldl (fun s e =>
    match e.2.ramp with
    | some r =>
      let (g, r') := r.adv 1
      s.setInput e.1 { e.2 with gain := g, ramp := r' }
    | none => s) s

/-! ### Frames from outside (R218, R219) -/

/-- A sample period and 2 µs in units of 1/6 ns, and a fabric cycle. -/
def us2 : Nat := 12000
def fab : Nat := 15

/-- The pass that takes a frame of an input clocked from outside, `delay` fabric cycles before the start of
the next pass: how many passes after the next, and the measured delay. The first frame chooses d0. -/
def State.place (s : State) (d0 : Option Nat) (delay : Nat) : Nat × Nat :=
  let t := s.sys.period
  let d := delay * fab
  match d0 with
  | none => if t / 4 + us2 ≤ d then (0, d) else (1, d + t)
  | some d0 =>
    let m := (d0 + t / 2 - min d (d0 + t / 2)) / t
    (m, d + m * t)

/-- A sample deposited at an outer slot for a pass. -/
def State.deposit (s : State) (slot idx : Nat) (v : Int) : State :=
  { s with sys := { s.sys with dep := mset (fun _ => 0) s.sys.dep (sampleKey slot idx) v } }

/-- The slot gain of a deposited sample (R230). -/
def State.depositGain (s : State) (slot idx g : Nat) : State :=
  { s with ports := { s.ports with gains := mset (fun _ => unity20) s.ports.gains (sampleKey slot idx) g } }

/-- The index of the next Weave pass. -/
def Sys.nextPass (y : Sys) : Nat := y.roundNo * y.n + y.pass

/-- A frame of an outside clock placed: its delay is checked against d0, a slip or a delay out of range being
acted on; the pass it goes to, none when the path carries zero. -/
def State.placeFrame (s : State) (k delay : Nat) : State × Option Nat :=
  let x := s.input k
  let t := s.sys.period
  let (m, d) := s.place x.d0 delay
  let d0 := x.d0.getD d
  let s := s.setInput k { x with
    d0 := some d0, clk := true, dead := x.dead || (x.d0.isSome && (Nat.blt d us2 || Nat.blt (2 * t) d)) }
  let s := if x.d0.isNone then
      (if k < 32 then s.sf (TDM_PHASE_RX_DLY k) (d0 / fab) else s.sf (AES_IN_PHASE_RX_DLY (k - 32)) (d0 / fab))
    else s
  let s := if Nat.blt (t / 4) (d - d0) || Nat.blt (t / 4) (d0 - d) then
      (if x.lost then s else s.lose k .slip) else s
  (s, if (s.input k).dead then none else some (s.sys.nextPass + m))

/-- Clock and format seen correct, or not. -/
def State.seen (s : State) (k : Nat) (ok : Bool) : State :=
  if ok then
    let x := s.input k
    (s.setInput k { x with good := some (x.good.getD s.now), clk := true }).inStatus k
  else (if k < 32 then s.raise (TDM_EVT_FMT_ERR k) else s).lose k .format

/-! ### TDM ports (R225 to R230) -/

/-- Widths that the SLOT_BITS and WORD_BITS codes name. -/
def tdmBits (code : Nat) : Nat := if code = 0 then 16 else if code = 1 then 24 else if code = 2 then 32 else 0

/-- A received word at the top of a Q1.31 sample (R226). -/
def tdmSample (bits : Nat) (w : Word) : Int :=
  sext 32 ((w.toNat % 2 ^ bits) * 2 ^ (32 - bits))

/-- A sample as a transmitted word (R226). -/
def tdmWord (bits : Nat) (round : Bool) (v : Int) : Word :=
  let sh : Int := 2 ^ (32 - bits)
  let q := if round then min ((v + sh / 2) / sh) (2 ^ (bits - 1) - 1) else v / sh
  BitVec.ofNat 32 (q % 2 ^ bits).toNat

def SlotGain.init : SlotGain := { zero := false, gain := unity20, ramp := none }
def State.slotGain (s : State) (slot : Nat) : SlotGain := mget (fun _ => SlotGain.init) s.ports.slots slot
def State.setSlotGain (s : State) (slot : Nat) (x : SlotGain) : State :=
  { s with ports := { s.ports with slots := mset (fun _ => SlotGain.init) s.ports.slots slot x } }

/-- One frame of a receive slot's own gain (R230): the gain of this frame, and the slot after it. -/
def SlotGain.frame (n : Nat) (x : SlotGain) : Nat × SlotGain :=
  if x.zero then (0, { zero := false, gain := 0, ramp := some (Ramp.start 0 unity20 n) })
  else
    match x.ramp with
    | some r => let (g, r') := r.adv 1; (g, { x with gain := g, ramp := r' })
    | none => (x.gain, x)

/-- Slots of a frame, and their and their words' widths. -/
def State.tdmSlots (s : State) (n : Nat) : Nat := s.rf (TDM_CFG_SLOTS n) + 1
def State.tdmSlotBits (s : State) (n : Nat) : Nat := tdmBits (s.rf (TDM_CFG_SLOT_BITS n))
def State.tdmWordBits (s : State) (n : Nat) : Nat := tdmBits (s.rf (TDM_CFG_WORD_BITS n))

/-- Bit clocks of a MASTER port's frame (R227). -/
def State.tdmOwnLen (s : State) (n : Nat) : Nat := 49152000 / (2 ^ s.rf (TDM_CFG_DIV n) * s.sys.rate)

/-- The frame sync of a frame by bit clock, in each format (R225). -/
def State.tdmFs (s : State) (n len : Nat) : List Bool :=
  (List.range len).map fun i =>
    (match s.rf (TDM_CFG_FMT n) with
      | 0 => i == 0
      | 1 => Nat.blt i (s.tdmSlotBits n)
      | 2 => Nat.ble (len / 2) i
      | _ => Nat.blt i (len / 2)) != s.flag (TDM_CFG_FS_POL n)

/-- Frame sync and data as a port samples them, on the edge that BCLK_EDGE selects. -/
def State.tdmSampled (s : State) (n : Nat) (line : List TdmClk) : List (Bool × Bool) :=
  line.map fun c => if s.flag (TDM_CFG_BCLK_EDGE n) then (c.fsFall, c.fall) else (c.fsRise, c.rise)

/-- A number from its bits, the most significant first. -/
def msbNat (l : List Bool) : Nat := l.foldl (fun v b => 2 * v + (if b then 1 else 0)) 0

/-- The words of a frame from its data bits: slot 0 begins DELAY bit clocks after the frame start (R225). -/
def State.tdmWords (s : State) (n : Nat) (data : List Bool) : List Word :=
  (List.range (s.tdmSlots n)).map fun k =>
    BitVec.ofNat 32 (msbNat ((data.drop (s.rf (TDM_CFG_DELAY n) + k * s.tdmSlotBits n)).take (s.tdmWordBits n)))

/-- Whether a frame from outside has the format of the port: its frame sync, room for the slots, and the bit clock and frame
rate that its role allows (R225, R227). `line` holds the bit clocks of the frame and the first of the next. -/
def State.tdmFmtOk (s : State) (n : Nat) (line : List TdmClk) (rate : Nat) : Bool :=
  let len := line.length - 1
  let async := s.rf (TDM_CFG_ROLE n) == 2
  let hz := if async then rate else s.sys.rate
  Nat.ble (s.tdmSlots n * s.tdmSlotBits n) len && Nat.ble (len * hz) 49152000
    && (!async || (Nat.ble 30000 rate && Nat.ble rate 200000))
    && ((s.tdmSampled n line).take len).map (·.1) == s.tdmFs n len

/-- The receive mask of the frame in progress: the one before a commit made during it (R229). -/
def State.frameMask (s : State) (n : Nat) : Word :=
  match s.ports.masks.find? fun e => e.1 == n with | some (_, m) => m | none => s.reg (TDM_RXMASK_ACT n)

/-- A TDM frame shifted in (R218, R219, R226, R230): its enabled slots deposited for the pass that takes it. A port
through converters deposits nothing: its channels take the frames. -/
def State.tdmRx (s : State) (n : Nat) (words : List Word) (len delay : Nat) : State :=
  let role := s.rf (TDM_CFG_ROLE n)
  let mask := s.frameMask n
  let on (k : Nat) : Bool := bitAt mask k && Nat.ble k (s.rf (TDM_CFG_SLOTS n))
  let vals := words.zipIdx.map fun w => if on w.2 then tdmSample (s.tdmWordBits n) w.1 else 0
  let s := { s with ports := { s.ports with masks := mdrop n s.ports.masks } }
  let (s, at_) := if role = 0 then (s, some (s.sys.nextPass + 1)) else s.placeFrame n delay
  let s := s.setInput n { s.input n with last := vals, len := len }
  (List.range 32).foldl (fun s k =>
    if on k then
      let (g, x) := (s.slotGain (32 * n + k)).frame s.sys.n
      let s := s.setSlotGain (32 * n + k) x
      match at_ with
      | some idx => if role = 2 then s else (s.deposit (32 * n + k) idx (vals.getD k 0)).depositGain (32 * n + k) idx g
      | none => s
    else s) s

/-- A frame of a running port, good or not: the fade of a lost input applies to the frames that still arrive (R221). -/
def execTdmRxFrame (n : Fin 32) (line : List TdmClk) (rate : BitVec 18) (delay : Nat) (s : State) : Out :=
  .next (if 2 ≤ s.rf (TDM_STAT_STATE n.val) ∧ s.hubUp = true then
      let data := (s.tdmSampled n.val line).map (·.2)
      let ok := s.rf (TDM_CFG_ROLE n.val) == 0 || s.tdmFmtOk n.val line rate.toNat
      (s.seen n.val ok).tdmRx n.val (s.tdmWords n.val data) (line.length - 1) delay
    else s)

/-- The sample index that a transmitted frame carries (R218): for a frame of the Lysle's own clock, the one
whose pass began 3 sample periods before; for an outside clock, by the lead e0, `late` fabric cycles after
the last Border pass that has ended. -/
def State.txIndex (s : State) (own : Bool) (e0 : Option Nat) (late : Nat) : Int × Nat :=
  let (m, d) := s.place e0 late
  let nxt : Int := s.sys.nextPass
  if own then (nxt - 4, 0) else (nxt - 3 - m, d)

/-- Whether a sink slot is silent because this node of a pair does not serve (R307). -/
def State.pairMuted (s : State) (slot : Nat) : Bool := !s.pair.serving && s.skein.pairSinks.contains slot

/-- A finished sample for a slot at an index, under the gain of a muted transition (R337), and zero while R307
mutes the slot. -/
def State.outSample (s : State) (slot : Nat) (idx : Int) : Int :=
  if idx < 0 || s.pairMuted slot then 0
  else mget (fun _ => 0) s.sys.out (sampleKey slot idx.toNat) * s.outGainAt s.sys.pass / 1048576

/-- The bits of a slot on SD1: the word, the most significant bit first, and zeros to the end of the slot (R225, R226). -/
def slotBits (sb wb : Nat) : Option Word → List (Option Bool)
  | none => List.replicate sb none
  | some w => ((List.range wb).map fun j => some (bitAt w (wb - 1 - j))) ++ List.replicate (sb - wb) (some false)

/-- Bit clocks of a port's frames: its own, or those last seen from outside. -/
def State.frameLen (s : State) (n : Nat) : Nat :=
  if s.rf (TDM_CFG_ROLE n) = 0 then s.tdmOwnLen n else max (s.input n).len (s.tdmSlots n * s.tdmSlotBits n)

/-- A frame of words laid out on SD1 (R225): with DELAY its first bit clock shows what ran on from the frame before. Bit
clocks after the last slot are as a disabled slot's. -/
def State.txLaid (s : State) (n : Nat) (x : TxSide) (wire : List (Option Word)) : TxSide :=
  let idle : Option Bool := if s.flag (TDM_CFG_TX_HIZ n) then none else some false
  let len := s.frameLen n
  let d := s.rf (TDM_CFG_DELAY n)
  let data := (if d = 1 then [x.carry] else []) ++ wire.flatMap (slotBits (s.tdmSlotBits n) (s.tdmWordBits n))
  let full := data ++ List.replicate (len + d - data.length) idle
  { x with
    wire := wire, line := full.take len, carry := full.getD len idle, rise := s.flag (TDM_CFG_BCLK_EDGE n),
    fs := if s.rf (TDM_CFG_ROLE n) = 0 then s.tdmFs n len else [] }

/-- The transmit side at a frame `d` units after its choice (R219, R224): a new lead after a loss of clock, a slip when the
lead leaves its window, zero once it has left its range; then the gain of this frame. -/
def State.txFrame (s : State) (n late : Nat) : State × Int × TxSide :=
  let own := s.rf (TDM_CFG_ROLE n) == 0
  let x := s.txSide n
  let x := if x.off then
      { x with off := false, e0 := none, slip := false, dead := false, gain := 0, ramp := some (Ramp.start 0 unity20 (s.inSpan n false)) }
    else x
  let (idx, d) := s.txIndex own x.e0 late
  let e := x.e0.getD d
  let t := s.sys.period
  let slips := !own && !x.slip && (Nat.blt (t / 4) (d - e) || Nat.blt (t / 4) (e - d))
  let s := if !own && x.e0.isNone then s.sf (TDM_PHASE_TX_LEAD n) (d / fab) else s
  let s := if slips then s.slip n else s
  let x := if slips then { x with slip := true, ramp := some (Ramp.start x.gain 0 (s.inSpan n true)) } else x
  let dead := x.dead || (!own && (Nat.blt d us2 || Nat.blt (2 * t) d))
  let (g, r) := match x.ramp with | some r => r.adv 1 | none => (x.gain, none)
  (s, idx, { x with e0 := if own then none else some e, dead := dead, gain := g, ramp := r })

/-- A TDM frame shifted out (R218, R219, R226, R230): the samples that the Border finished for its position. -/
def State.tdmTx (s : State) (n late : Nat) : State :=
  let (s, idx, x) := s.txFrame n late
  let hiz := s.flag (TDM_CFG_TX_HIZ n)
  let word (k : Nat) : Option Word :=
    if bitAt (s.reg (TDM_TXMASK_ACT n)) k then
      if s.pairMuted (32 * n + k) && hiz then none
      else
        let v := if x.dead then 0 else s.outSample (32 * n + k) idx * x.gain / 1048576
        some (tdmWord (s.tdmWordBits n) (s.flag (TDM_CFG_TX_ROUND n)) v)
    else if hiz then none else some 0#32
  s.setTxSide n (s.txLaid n x ((List.range (s.tdmSlots n)).map word))

/-- A TDM frame sent: none by a converter port, and none while an outside clock is lost (R224, R227). -/
def execTdmTxFrame (n : Fin 32) (late : Nat) (s : State) : Out :=
  let x := s.input n.val
  .next (if 2 ≤ s.rf (TDM_STAT_STATE n.val) ∧ s.hubUp = true ∧ s.rf (TDM_CFG_ROLE n.val) ≠ 2
        ∧ (s.rf (TDM_CFG_ROLE n.val) = 0 ∨ x.clk = true ∨ x.lost = false) then s.tdmTx n.val late
    else s)

/-- MASK_PEND of a port. -/
def State.maskPend (s : State) (n : Nat) : State :=
  s.setFlag (TDM_STAT_MASK_PEND n)
    (s.reg (TDM_RXMASK n) != s.reg (TDM_RXMASK_ACT n) || s.reg (TDM_TXMASK n) != s.reg (TDM_TXMASK_ACT n))

/-- A write of a shadow mask (R229, R244). -/
def State.tdmMaskWrite (s : State) (a n : Nat) (tx : Bool) (v : Word) : State :=
  if Nat.blt 1 a then s.err
  else ((s.setReg (if tx then TDM_TXMASK n else TDM_RXMASK n) v).maskPend n).ok 0#32

def execTdmMaskWrite (a : Agent) (n : Fin 32) (tx : Bool) (v : Word) (s : State) : Out :=
  .next (s.regWrite a (if tx then TDM_TXMASK n.val else TDM_RXMASK n.val) v fun s => s.tdmMaskWrite a.val n.val tx v)

/-- The shadow masks become the active masks for the frame that follows (R229, R230): the frame in progress keeps its
receive mask. -/
def State.maskCommit (s : State) (n : Nat) : State :=
  let rx := s.reg (TDM_RXMASK n)
  let old := s.reg (TDM_RXMASK_ACT n)
  let tx := s.reg (TDM_TXMASK n)
  let s := if rx = old ∧ tx = s.reg (TDM_TXMASK_ACT n) then s else s.raise (TDM_EVT_MASK_COMMIT n)
  let s := if rx = old ∨ s.ports.masks.any (fun e => e.1 == n) = true then s
    else { s with ports := { s.ports with masks := mput n old s.ports.masks } }
  let s := (List.range 32).foldl (fun s k =>
    if bitAt rx k && !bitAt old k then s.setSlotGain (32 * n + k) { zero := true, gain := 0, ramp := none } else s) s
  ((s.setReg (TDM_RXMASK_ACT n) rx).setReg (TDM_TXMASK_ACT n) tx).maskPend n

/-- A commit point of a port's frames. -/
def execTdmMaskCommit (n : Fin 32) (s : State) : Out :=
  .next (if 2 ≤ s.rf (TDM_STAT_STATE n.val) ∧ s.hubUp = true then s.maskCommit n.val else s)

/-- The configurations that RUN is refused for (R228), with the reserved codes of ROLE, SLOT_BITS and WORD_BITS (R227,
R248). -/
def State.tdmBad (s : State) (n : Nat) : Bool :=
  let slots := s.tdmSlots n
  let sb := s.tdmSlotBits n
  let wb := s.tdmWordBits n
  let role := s.rf (TDM_CFG_ROLE n)
  let div := s.rf (TDM_CFG_DIV n)
  (role == 0 && Nat.blt (s.tdmOwnLen n) (slots * sb))
    || role == 3 || sb == 0 || wb == 0
    || Nat.blt sb wb
    || (Nat.ble 2 (s.rf (TDM_CFG_FMT n)) && slots != 2)
    || (role == 2 && (s.reg (TDM_TXMASK n) != 0#32
        || (List.range 32).any fun k => bitAt (s.reg (TDM_RXMASK n)) k && (s.asrcOf (32 * n + k)).isNone))
    || Nat.ble 6 div

/-- A write of TDM_CTL (R228, R241, R244). -/
def State.tdmCtlWrite (s : State) (a n : Nat) (v : Word) : State :=
  if Nat.blt 1 a then s.err
  else if bitAt v 0 && s.tdmBad n then
    (s.sf (TDM_CTL_RUN n) 0 |>.raise (TDM_EVT_CFG_ERR n)).err
  else
    let s := s.setReg (TDM_CTL n) (v &&& 3#32)
    let s := if bitAt v 0 && s.rf (TDM_STAT_STATE n) == 0 then s.sf (TDM_STAT_STATE n) 1 else s
    s.ok 0#32

def execTdmRunWrite (a : Agent) (n : Fin 32) (v : Word) (s : State) : Out :=
  .next (s.regWrite a (TDM_CTL n.val) v fun s => s.tdmCtlWrite a.val n.val v)

/-- A port started at a boundary (R241, R246): `ramp` when its inputs ramp in, after Rim or a reset. -/
def State.tdmStart (s : State) (n : Nat) (ramp : Bool) : State :=
  let s := (s.sf (TDM_STAT_STATE n) 2).raise (TDM_EVT_STARTED n)
  let s := s.sf (TDM_CTL_ARM n) 0
  let x := Input.init n
  let x := if ramp then { x with gain := 0, ramping := true, ramp := some (Ramp.start 0 unity20 (s.inSpan n false)) } else x
  let s := (s.setInput n x).setTxSide n { TxSide.init with line := (s.txSide n).line }
  let s := { s with ports := { s.ports with masks := mdrop n s.ports.masks } }
  let t := s.sys.period / fab
  if s.rf (TDM_CFG_ROLE n) = 0 then
    let s := s.setInput n { s.input n with clk := true, good := some s.now }
    let s := (s.sf (TDM_PHASE_RX_DLY n) t).sf (TDM_PHASE_TX_LEAD n) t
    let s := s.maskCommit n
    ({ s with ports := { s.ports with masks := mdrop n s.ports.masks } }).inStatus n
  else s.inStatus n

/-- A port stopped: its active masks are empty. -/
def State.tdmStop (s : State) (n : Nat) : State :=
  let s := (s.setReg (TDM_STAT n) 0#32).setInput n (Input.init n)
  let s := ((s.setReg (TDM_RXMASK_ACT n) 0#32).setReg (TDM_TXMASK_ACT n) 0#32).setTxSide n TxSide.init
  ({ s with ports := { s.ports with masks := mdrop n s.ports.masks } }).maskPend n

/-! ### PDM microphones (R231 to R233) -/

def PdmMic.init : PdmMic := { on := false, wait := 0, gain := 0, ramp := none }
def State.pdmMic (s : State) (m : Nat) : PdmMic := mget (fun _ => PdmMic.init) s.ports.mics m
def State.setPdmMic (s : State) (m : Nat) (x : PdmMic) : State :=
  { s with ports := { s.ports with mics := mset (fun _ => PdmMic.init) s.ports.mics m x } }

/-- A microphone that begins to deliver, after some samples of zero: it ramps in over one round. -/
def State.micBegin (s : State) (m wait : Nat) : State :=
  s.setPdmMic m { on := true, wait := wait, gain := 0, ramp := some (Ramp.start 0 unity20 s.sys.n) }

/-- A write of PDM_MIC_EN (R233). -/
def State.micEnWrite (s : State) (a : Nat) (v : Word) : State :=
  if Nat.blt 1 a then s.err
  else
    let old := s.reg PDM_MIC_EN
    let s := s.setReg PDM_MIC_EN v
    let s := (List.range 32).foldl (fun s m =>
      let j := m / 4
      if bitAt v m && !bitAt old m then
        if !s.flag (PDM_CLK_CFG_EN j) then s.raise PDM_EVT_CFG_ERR
        else if s.ports.awake.contains j then s.micBegin m s.sys.n else s
      else if !bitAt v m then (s.setPdmMic m PdmMic.init).clrBit PDM_READY m
      else s) s
    s.ok 0#32

def execPdmMicEnable (a : Agent) (v : Word) (s : State) : Out :=
  .next (s.regWrite a PDM_MIC_EN v fun s => s.micEnWrite a.val v)

/-- WAKE milliseconds after a clock started (R233): its enabled microphones begin delivering. -/
def execPdmWakeEnd (j : Fin 8) (s : State) : Out :=
  .next (match s.ports.clocks.find? fun c => c.1 == j.val with
    | some c =>
      if s.ports.awake.contains j.val then s
      else
        let s := s.moveTo (c.2 + s.rf (PDM_CLK_CFG_WAKE j.val) * ms1)
        let s := { s with ports := { s.ports with awake := s.ports.awake ++ [j.val] } }
        (List.range 4).foldl (fun s i =>
          let m := 4 * j.val + i
          if s.bit PDM_MIC_EN m then ((s.micBegin m 0).setBit PDM_READY m).raise PDM_EVT_READY else s) s
    | none => s)

/-- One sample of a microphone: its gain, 0 while it delivers zero. -/
def State.micGain (s : State) (m : Nat) : State :=
  let x := s.pdmMic m
  if !x.on then s
  else if 0 < x.wait then s.setPdmMic m { x with wait := x.wait - 1, gain := 0 }
  else
    let (g, r) := match x.ramp with | some r => r.adv 1 | none => (x.gain, none)
    let s := s.setPdmMic m { x with gain := g, ramp := r }
    if s.bit PDM_READY m then s else (s.setBit PDM_READY m).raise PDM_EVT_READY

/-- One sample of every port gain and every microphone. -/
def State.inputsStep (s : State) : State :=
  (s.ports.mics.map (·.1)).foldl (fun s m => s.micGain m) s.rampsStep

/-- The division of the media clock that gives PDM_CLKj, its bits in a sample period, and those in 10 ms (R231). -/
def State.pdmDiv (s : State) (j : Nat) : Nat := if s.flag (PDM_CLK_CFG_RATE j) then 8 else 16
def State.pdmRatio (s : State) (j : Nat) : Nat := 49152000 / s.pdmDiv j / s.sys.rate
def State.pdmBits (s : State) (j : Nat) : Nat := s.pdmRatio j * s.sys.rate / 100

/-- A 10 ms period of a microphone's line, with the ones in it (R176, R233). A density that holds steadily shows in the
samples from 12 periods on (R232). -/
def execPdmDensityPeriod (m : Fin 32) (ones : BitVec 16) (steady : Bool) (s : State) : Out :=
  .next (if (s.ports.clocks.any fun c => c.1 == m.val / 4) = true ∧ s.hubUp = true then
      let bits := s.pdmBits (m.val / 4)
      let n := min ones.toNat bits
      let d := mdrop m.val s.ports.dens
      let old := s.ports.dens.find? fun e => e.1 == m.val && e.2.1 == n && e.2.2.1 == bits
      let d := if steady then mput m.val (match old with | some e => e.2 | none => (n, bits, s.sys.nextPass + 12)) d else d
      let s := { s.sf (PDM_DENS_DENS m.val) (min 65535 (n * 65536 / bits)) with ports := { s.ports with dens := d } }
      s.micStuck (1024 + m.val) (Nat.blt (n * 1024) bits || Nat.blt (1023 * bits) (n * 1024))
    else s)

/-! ### AES3 (R234 to R237) -/

def AesRx.init : AesRx := { run := 0, viol := 0, at_ := 0 }
def State.aesRx (s : State) (i : Nat) : AesRx := mget (fun _ => AesRx.init) s.ports.aesRx i
def State.setAesRx (s : State) (i : Nat) (x : AesRx) : State :=
  { s with ports := { s.ports with aesRx := mset (fun _ => AesRx.init) s.ports.aesRx i x } }

/-- Whether an AES3 input takes frames: enabled, and not in Bare mode (R245). -/
def State.aesOn (s : State) (i : Nat) : Bool := s.flag (AES_IN_CFG_EN i) && s.hubUp && !s.bareLayer

/-- An input locks after 384 good frames in a row (R234). -/
def execAesLock (i : Fin 4) (s : State) : Out :=
  let k := 32 + i.val
  .next (if s.aesOn i.val = true ∧ (s.aesRx i.val).run = 384 ∧ s.flag (AES_IN_STAT_LOCK i.val) = false then
      (s.setFlag (AES_IN_STAT_LOCK i.val) true).setInput k { s.input k with good := some s.now, clk := true }
    else s)

/-- An input loses lock (R221, R234), and counts afresh; the converter channels of its slots lose theirs with it (R238). -/
def State.aesUnlock (s : State) (i : Nat) : State :=
  ((s.setFlag (AES_IN_STAT_LOCK i) false).setAesRx i AesRx.init).lose (32 + i) .lock

/-- Loss of lock after 3 violations in one block, or when no transition has come for 2T (R234). -/
def execAesLockLoss (i : Fin 4) (s : State) : Out :=
  let x := s.aesRx i.val
  .next (if s.flag (AES_IN_STAT_LOCK i.val) then
      (if 3 ≤ x.viol then s else s.moveTo (x.at_ + 2 * s.sys.period)).aesUnlock i.val
    else s)

/-- The CRCC of the professional format over bytes 0 to 22 of a channel status block. -/
def aesCrc (bytes : List Byte) : Nat :=
  bytes.foldl (fun c b =>
    (List.range 8).foldl (fun c i =>
      let f := (c % 2) ^^^ (b.toNat / 2 ^ i % 2)
      if f = 1 then (c / 2) ^^^ 0xB8 else c / 2) c) 0xFF

/-- A channel status block captured (R234, R250). -/
def execAesCsBlock (i : Fin 4) (c : Fin 2) (bytes : List Byte) (s : State) : Out :=
  let b := bytes.take 24
  let pro := (b.getD 0 0#8).getLsbD 0
  .next (if s.flag (AES_IN_STAT_LOCK i.val) = true ∧ b.length = 24 then
      if pro && aesCrc (b.take 23) != (b.getD 23 0#8).toNat then
        (s.countUp (AES_IN_CNT_CRC_CNT i.val)).setBit AES_EVT i.val
      else
        let words := (List.range 6).map fun w => BitVec.ofNat 32 (leNat ((b.drop (4 * w)).take 4))
        let old := (List.range 6).map fun w => s.reg (AES_IN_CS i.val c.val w)
        let s := words.zipIdx.foldl (fun s w => s.setReg (AES_IN_CS i.val c.val w.2) w.1) s
        let s := if words = old then s else s.setBit AES_EVT (12 + i.val)
        if c.val = 0 then s.setFlag (AES_IN_STAT_PRO i.val) pro else s
    else s)

/-- The validity bits of a subframe (R236). -/
def State.validity (s : State) (i c : Nat) (v : Bool) : State :=
  let (b, g) := mget (fun _ => (0, 0)) s.ports.valid (2 * i + c)
  let p := if v then (min 8 (b + 1), 0) else (0, min 8 (g + 1))
  let s := { s with ports := { s.ports with valid := mset (fun _ => (0, 0)) s.ports.valid (2 * i + c) p } }
  let k := 36 + 2 * i + c
  if !s.flag (AES_IN_CFG_VMODE i) then s
  else if p.1 = 8 ∧ ¬ (s.input k).lost then s.lose k .validity
  else if p.2 = 8 ∧ (s.input k).lost ∧ (s.input k).good = none then s.setInput k { s.input k with good := some s.now }
  else s

/-- A subframe that is replaced by the last good sample (R234). -/
def subBad (f : SubFrame) : Bool := f.par || f.viol

/-- Whether a frame rate is the one that an input's MODE allows (R235). -/
def State.aesRateOk (s : State) (i rate : Nat) : Bool :=
  if s.flag (AES_IN_CFG_MODE i) then Nat.ble 30000 rate && Nat.ble rate 200000
  else Nat.ble (99 * s.sys.rate) (100 * rate) && Nat.ble (100 * rate) (101 * s.sys.rate)

/-- What an input counts of a frame (R234); `z` when the frame begins a block. -/
def AesRx.frame (x : AesRx) (now : Nat) (a b : SubFrame) (z : Bool) : AesRx :=
  let one (c : Bool) : Nat := if c then 1 else 0
  { run := if a.viol || b.viol then 0 else min 384 (x.run + 1), viol := (if z then 0 else x.viol) + one a.viol + one b.viol,
    at_ := now }

/-- A frame of a locked input (R234 to R236): errors are replaced by the last good sample of the subframe, and
in synchronous mode the samples are retimed onto the grid. -/
def State.aesFrame (s : State) (n : Nat) (a b : SubFrame) (rate delay : Nat) : State :=
  let last := (s.input (32 + n)).last
  let val (c : Nat) (f : SubFrame) : Int := if subBad f then last.getD c 0 else sext 24 f.word.toNat * 256
  let hit (f : SubFrame) (s : State) : State :=
    if subBad f then (s.countUp (AES_IN_CNT_PAR_CNT n)).setBit AES_EVT n else s
  let s := (hit b (hit a s)).seen (32 + n) (s.aesRateOk n rate)
  let s := (s.validity n 0 a.v).validity n 1 b.v
  let vals := [val 0 a, val 1 b]
  let s := s.setInput (32 + n) { s.input (32 + n) with last := vals, clk := true }
  if s.flag (AES_IN_CFG_MODE n) then s
  else
    let (s, at_) := s.placeFrame (32 + n) delay
    match at_ with
    | none => s
    | some idx => (s.deposit (1056 + 2 * n) idx (vals.getD 0 0)).deposit (1057 + 2 * n) idx (vals.getD 1 0)

/-- A frame at an enabled input: it counts towards lock and loss of lock, and a locked input takes its samples. -/
def execAes3FrameReceive (i : Fin 4) (a b : SubFrame) (z : Bool) (rate : BitVec 18) (delay : Nat) (s : State) : Out :=
  let n := i.val
  .next (if s.aesOn n = true then
      let s := (s.setAesRx n ((s.aesRx n).frame s.now a b z)).sf (AES_IN_STAT_RATE n) rate.toNat
      if s.flag (AES_IN_STAT_LOCK n) then s.aesFrame n a b rate.toNat delay else s
    else s)

/-- A bit of the channel status that an output sends (R237). -/
def State.csBit (s : State) (o c frame : Nat) : Bool :=
  let c := if s.flag (AES_OUT_CFG_CS_SPLIT o) then c else 0
  let bytes := (List.range 24).map fun b => BitVec.ofNat 8 (bitsOf (s.reg (AES_OUT_CS o c (b / 4))) (8 * (b % 4) + 7) (8 * (b % 4)))
  let bytes := if s.flag (AES_OUT_CFG_AUTO_CRC o) then bytes.take 23 ++ [BitVec.ofNat 8 (aesCrc (bytes.take 23))] else bytes
  (bytes.getD (frame / 8) 0#8).getLsbD (frame % 8)

/-- A frame sent by an enabled output on the grid (R218, R237). -/
def execAes3FrameSend (o : Fin 4) (s : State) : Out :=
  let n := o.val
  .next (if s.ports.aesRun.contains n = true ∧ s.hubUp = true then
      let idx : Int := (s.sys.nextPass : Int) - 4
      let w (c : Nat) : BitVec 24 := (tdmWord 24 true (s.outSample (1056 + 2 * n + c) idx)).setWidth 24
      let f := (idx % 192).toNat
      let x : AesFrame := { a := w 0, b := w 1, ca := s.csBit n 0 f, cb := s.csBit n 1 f, z := f == 0 }
      { s with ports := { s.ports with aesOut := mset (fun _ => ⟨0#24, 0#24, false, false, false⟩) s.ports.aesOut n x } }
    else s)

/-! ### Converters (R238, R239) -/

/-- Whether a ratio in Q4.28 is of an input rate from 30 kHz to 200 kHz (R238). -/
def State.asrcRatioOk (s : State) (ratio : Nat) : Bool :=
  Nat.ble (30000 * 2 ^ 28) (ratio * s.sys.rate) && Nat.ble (ratio * s.sys.rate) (200000 * 2 ^ 28)

/-- The delay of a channel in output sample periods, Q8.8: 32 periods of the input and 16 of the output, and what it is off
by, at most one (R239). -/
def asrcDelay (ratio dev : Nat) : Nat := min 65535 (16 * 256 + 32 * 2 ^ 36 / ratio + dev - 256)

/-- A converter channel locks to the steady input of its port, or tracks it (R238, R239): the channels of a port share the
estimated ratio, and with it the delay; a channel that locks ramps in under R222. -/
def execAsrcLock (ch : Fin 32) (ratio : Word) (dev : Fin 513) (s : State) : Out :=
  let n := ch.val
  let port := slotPort (s.rf (ASRC_CFG_SLOT n))
  .next (if s.flag (ASRC_CFG_EN n) = true ∧ s.hubUp = true ∧ s.bareLayer = false ∧ s.asrcRatioOk ratio.toNat = true
        ∧ (s.input port).lost = false ∧ s.inRuns port = true then
      let s := (s.asrcsOf port).foldl (fun s c =>
        (s.sf (ASRC_STAT_DELAY c) (asrcDelay ratio.toNat dev.val)).setReg (ASRC_RATIO c) ratio) s
      if s.flag (ASRC_STAT_LOCK n) then s
      else
        let s := (s.setFlag (ASRC_STAT_LOCK n) true).setBit ASRC_EVT n
        s.setInput (44 + n) { s.input (44 + n) with good := some s.now, clk := true }
    else s)

def execAsrcLockLoss (ch : Fin 32) (s : State) : Out := .next (s.asrcLose ch.val)

/-- Whether a converter channel may name a slot (R227, R235, R250). -/
def State.asrcSlotOk (s : State) (ch slot : Nat) : Bool :=
  let kind := if slot < 1024 then s.rf (TDM_CFG_ROLE (slot / 32)) == 2
    else Nat.ble 1056 slot && Nat.blt slot 1064 && s.flag (AES_IN_CFG_MODE ((slot - 1056) / 2))
  kind && !(List.range 32).any fun c => c != ch && s.flag (ASRC_CFG_EN c) && s.rf (ASRC_CFG_SLOT c) == slot

/-! ### The start trigger (R240 to R242) -/

/-- The ports that wait for the trigger. -/
def State.waiting (s : State) : List Nat :=
  ((List.range 32).filter fun n => s.flag (TDM_CTL_RUN n) && s.flag (TDM_CTL_ARM n) && s.rf (TDM_STAT_STATE n) == 1)
  ++ (if s.flag PDM_CTL_RUN && s.flag PDM_CTL_ARM && !s.ports.pdmRun then [32] else [])
  ++ ((List.range 4).filter fun o => s.flag (AES_OUT_CFG_EN o) && s.flag (AES_OUT_CFG_ARM o)
      && !s.ports.aesRun.contains o).map (33 + ·)

/-- An edge latched (R240, R241), at the first sample of the media clock that shows it: a start is armed for the ports that
wait, unless one is pending. -/
def State.edge (s : State) : State :=
  let ofs := ((s.now - s.sys.roundStart) * 49152 + 5999999) / 6000000
  let s := (s.setRegN TRIG_IN_RND s.sys.roundNo).sf TRIG_IN_OFS_OFS ofs
  let s := (s.raise TRIG_IN_OFS_VALID).raise TRIG_EVT_EDGE
  match s.ports.startPend with
  | some _ => s
  | none =>
    if s.waiting = [] then s
    else { s with ports := { s.ports with startPend := some (s.boundaryAfter us1, s.waiting) } }

/-- A rising edge of TRIG_IN with the two samples after it: it counts when both are high (R240). -/
def execTrigInEdge (a b : Bool) (s : State) : Out := .next (if s.hubUp && a && b then s.edge else s)

/-- PDM clocks and AES3 outputs started. -/
def State.pdmStart (s : State) : State :=
  let on := (List.range 8).filter fun j => s.flag (PDM_CLK_CFG_EN j)
  let s := s.sf PDM_CTL_ARM 0
  { s with ports := { s.ports with pdmRun := true, clocks := on.map fun j => (j, s.now), awake := [] } }

def State.pdmStop (s : State) : State :=
  let s := { s with ports := { s.ports with pdmRun := false, clocks := [], awake := [], mics := [], dens := [] } }
  s.setReg PDM_READY 0#32

def State.aesStart (s : State) (o : Nat) : State :=
  let s := s.sf (AES_OUT_CFG_ARM o) 0
  { s with ports := { s.ports with aesRun := s.ports.aesRun.filter (· != o) ++ [o] } }

/-- Whether a TDM port may run: in Bare mode only those of ALARM_BARE_PORTS (R211). -/
def State.tdmAllowed (s : State) (n : Nat) : Bool := !s.bareLayer || s.bit ALARM_BARE_PORTS n

/-- A write of TRIG_ROUND, or of OUT_MODE 0b01 (R242): LATE when that round has already begun. -/
def State.trigRound (s : State) : State :=
  if s.rf TRIG_CTL_OUT_MODE = 1 then
    let behind := (s.sys.roundNo + 2 ^ 32 - (s.reg TRIG_ROUND).toNat) % 2 ^ 32
    let late := Nat.blt behind (2 ^ 31)
    let s := if late then s.raise TRIG_EVT_LATE else s
    { s with ports := { s.ports with trigOnce := !late } }
  else s

/-- TRIG_OUT at a boundary (R240, R242). -/
def State.trigBoundary (s : State) : State :=
  let once := s.rf TRIG_CTL_OUT_MODE == 1 && s.ports.trigOnce && (s.reg TRIG_ROUND).toNat == s.sys.roundNo % 2 ^ 32
  let every := s.rf TRIG_CTL_OUT_MODE == 2 && s.sys.roundNo % 2 ^ s.rf TRIG_CTL_P == 0
  let s := { s with ports := { s.ports with trigOut := once || every, trigOnce := s.ports.trigOnce && !once } }
  if (once || every) && s.flag TRIG_CTL_LOOP then s.edge else s

/-- TRIG_OUT a sample period after its boundary (R242). -/
def State.trigFall (s : State) : State :=
  if Nat.blt 0 s.sys.pass then { s with ports := { s.ports with trigOut := false } } else s

/-- A function that step 2 stops at a boundary (R247): a TDM port starts again at the next, an AES3 input or a converter
channel must lock again. -/
def State.haltOne (s : State) (k : Nat) : State :=
  if k < 32 then
    let s := s.tdmStop k
    if s.flag (TDM_CTL_RUN k) && s.tdmAllowed k then
      { s.sf (TDM_STAT_STATE k) 1 with ports := { s.ports with back := s.ports.back ++ [k] } }
    else s
  else if k < 36 then s.aesUnlock (k - 32)
  else s.asrcLose (k - 44)

/-- A function to be stopped and started again at boundaries. -/
def State.haltAt (s : State) (k : Nat) : State :=
  { s with ports := { s.ports with halt := s.ports.halt.filter (· != k) ++ [k] } }

/-- A boundary's share of the ports (R222, R241, R242, R246, R247): the armed ports of a due edge start, unarmed ports
whose RUN is set start, with a ramp after Rim, a reset or step 2, stopped ones stop, inputs return. -/
def State.portsBoundary (s : State) : State :=
  let go := match s.ports.startPend with | some (r, l) => if r ≤ s.sys.roundNo then l else [] | none => []
  let s := match s.ports.startPend with
    | some (r, _) => if r ≤ s.sys.roundNo then { s with ports := { s.ports with startPend := none } } else s
    | none => s
  let s := if go = [] then s else s.raise TRIG_EVT_START
  let back := s.ports.back
  let halt := s.ports.halt
  let s := { s with ports := { s.ports with back := [], halt := [] } }
  let s := (List.range 32).foldl (fun s n =>
    let st := s.rf (TDM_STAT_STATE n)
    let run := s.flag (TDM_CTL_RUN n) && s.tdmAllowed n
    let b := back.contains n
    if run && st == 1 && (b || !s.flag (TDM_CTL_ARM n) || go.contains n) then s.tdmStart n b
    else if !run && st != 0 then s.tdmStop n else s) s
  let s := halt.foldl State.haltOne s
  let bare := s.bareLayer
  let s := if s.flag PDM_CTL_RUN && !bare then
      (if !s.ports.pdmRun && (!s.flag PDM_CTL_ARM || go.contains 32) then s.pdmStart else s)
    else if s.ports.pdmRun then s.pdmStop else s
  let s := (List.range 4).foldl (fun s o =>
    let runs := s.ports.aesRun.contains o
    if s.flag (AES_OUT_CFG_EN o) && !bare then
      (if !runs && (!s.flag (AES_OUT_CFG_ARM o) || go.contains (33 + o)) then s.aesStart o else s)
    else if runs then { s with ports := { s.ports with aesRun := s.ports.aesRun.filter (· != o) } } else s) s
  let s := (s.ports.inputs.map (·.1)).foldl (fun s k => s.inReturn k) s
  ((s.ports.tx.map (·.1)).foldl (fun s n => s.txReturn n) s).trigBoundary

/-- Ports after Rim or a device reset (R246): every port whose retained RUN is 1 starts at the next round boundary, without
waiting for a trigger, its inputs ramping in. -/
def State.portsRestart (s : State) : State :=
  let s := { s with ports := { Ports.init with tx := s.ports.tx } }
  let s := (List.range 32).foldl (fun s n =>
    let s := (((s.setReg (TDM_STAT n) 0#32).setReg (TDM_RXMASK_ACT n) 0#32).setReg (TDM_TXMASK_ACT n) 0#32).sf (TDM_CTL_ARM n) 0
    if s.flag (TDM_CTL_RUN n) && s.tdmAllowed n then
      { s.sf (TDM_STAT_STATE n) 1 with ports := { s.ports with back := s.ports.back ++ [n] } }
    else s) s
  let s := (s.setReg PDM_READY 0#32).sf PDM_CTL_ARM 0
  (List.range 4).foldl (fun s o => s.sf (AES_OUT_CFG_ARM o) 0) s

/-! ### What a pass reads from an outer slot (R40, R221) -/

/-- The sample of a line of steady density (R232): 2d − 1 of full scale, saturated; where that is no whole number the spec
gives no rounding. -/
def State.steadySample (s : State) (ones bits : Nat) : State × Int :=
  let num : Int := (2 * (ones : Int) - bits) * 2 ^ 31
  let (v, s) := s.free
  (s, clampInt (-(2 ^ 31)) (2 ^ 31 - 1) (num / bits + (if num % bits = 0 then 0 else (v % 2 : Nat))))

/-- The source side of a TDM, PDM or AES3 slot at a pass. The output of a converter, and the sample of a
microphone whose density is not steady, come from arithmetic that the spec does not give: they are free values. -/
def State.portSource (s : State) (slot idx : Nat) : State × Int :=
  let dep := mget (fun _ => 0) s.sys.dep (sampleKey slot idx)
  let mul (a b : Nat) : Nat := a * b / 1048576
  let conv (s : State) (g : Nat) : State × Int :=
    match s.asrcOf slot with
    | none => (s, 0)
    | some ch =>
      let g := mul (s.input (44 + ch)).gain g
      if g = 0 then (s, 0)
      else
        let (v, s) := s.free
        (s, sext 32 v * g / 1048576)
  if slot < 1024 then
    let n := slot / 32
    let x := s.input n
    if s.rf (TDM_STAT_STATE n) < 2 then (s, 0)
    else if s.rf (TDM_CFG_ROLE n) = 2 then
      if bitAt (s.frameMask n) (slot % 32) then
        let y := s.slotGain slot
        conv s (mul x.gain (if y.zero then 0 else y.gain))
      else (s, 0)
    else
      let (raw, g) := if x.clk then (dep, mget (fun _ => unity20) s.ports.gains (sampleKey slot idx))
        else (x.last.getD (slot % 32) 0, (s.slotGain slot).gain)
      (s, (if x.dead then 0 else raw) * mul x.gain g / 1048576)
  else if slot < 1056 then
    let m := slot - 1024
    let g := (s.pdmMic m).gain
    if g = 0 then (s, 0)
    else
      match s.ports.dens.find? fun e => e.1 == m && Nat.ble e.2.2.2 idx with
      | some (_, ones, bits, _) =>
        let (s, v) := s.steadySample ones bits
        (s, v * g / 1048576)
      | none =>
        let (v, s) := s.free
        (s, sext 32 v * g / 1048576)
  else if slot < 1064 then
    let i := (slot - 1056) / 2
    let c := (slot - 1056) % 2
    let x := s.input (32 + i)
    let y := s.input (36 + 2 * i + c)
    if !s.aesOn i then (s, 0)
    else if s.flag (AES_IN_CFG_MODE i) then conv s (mul x.gain y.gain)
    else
      let raw := if x.dead then 0 else if x.clk then dep else x.last.getD c 0
      (s, raw * mul x.gain y.gain / 1048576)
  else (s, 0)

end Sys2Proof.Machine
end

