-- ==== Sys2Proof/Machine/Streams.lean ====
section
/-! DEFINITION. Machine/Streams.lean: stream contexts (R288 to R301, R320 to R322 of
spec/10_streams_and_pairing.md). A context's registers carry index `i` for context `i + 1`. -/
namespace Sys2Proof.Machine

open Reg

/-! ### Contexts -/

def Ctx.init : Ctx :=
  { on := false, buf := [], last := none, gain := 0, ramp := none, fading := false, ramping := false, good := 0,
    recov := [], recovAt := 0, sent := none, seen := 0, lateN := 0, badAt := none }

def State.ctx (s : State) (i : Nat) : Ctx := mget (fun _ => Ctx.init) s.streams.ctxs i
def State.setCtx (s : State) (i : Nat) (x : Ctx) : State :=
  { s with streams := { s.streams with ctxs := mset (fun _ => Ctx.init) s.streams.ctxs i x } }

/-- Fields of a context. -/
def State.ctxTx (s : State) (i : Nat) : Bool := s.flag (CTX_CFG_DIR i)
def State.ctxChans (s : State) (i : Nat) : Nat := s.rf (CTX_CFG_CHANS i) + 1
def State.ctxSlot (s : State) (i : Nat) : Nat := s.rf (CTX_SLOT_SLOT i)
def State.ctxRtp (s : State) (i : Nat) : Bool := s.rf (CTX_CFG_FMT i) == 1

/-- Whether a context uses its second port (R288, R297). -/
def twoPorts (cfg : Word) : Bool := bitAt cfg 24 || bitAt cfg 23

/-- The ports that a context uses. -/
def ctxPorts (cfg : Word) : List Nat :=
  if twoPorts cfg && bitsOf cfg 22 20 != bitsOf cfg 19 17 then [bitsOf cfg 22 20, bitsOf cfg 19 17]
  else [bitsOf cfg 22 20]

/-- STATE codes of CTX_STAT. -/
def cxStopped : Nat := 0
def cxWaiting : Nat := 1
def cxRunning : Nat := 2
def cxLost : Nat := 3

/-! ### Binding (R289, R291) -/

/-- Whether a channel count breaks R289. -/
def State.chansBad (s : State) (cfg : Word) : Bool :=
  let c := bitsOf cfg 13 8 + 1
  let jumbo := (ctxPorts cfg).all fun p => s.flag (NET_CFG_JUMBO p)
  let room := (if jumbo then 9000 else 1500) - (if bitsOf cfg 29 28 = 1 then 40 else 24) - (if bitAt cfg 24 then 6 else 0)
  !(Nat.ble c 32 || c == 48 || c == 64) || Nat.blt room (c * s.sys.n * widthBytes (bitsOf cfg 27 26))

/-- The reason for which EN of context `i` with a configuration is refused, 0 for none (R291). -/
def State.bindReason (s : State) (i : Nat) (cfg : Word) : Nat :=
  let ports := ctxPorts cfg
  let c := bitsOf cfg 13 8 + 1
  let lo := s.ctxSlot i
  let clash := (List.range 511).any fun j =>
    j != i && s.flag (CTX_CFG_EN j) && Nat.blt lo (s.ctxSlot j + s.ctxChans j) && Nat.blt (s.ctxSlot j) (lo + c)
  let fmt := bitsOf cfg 29 28
  let bits := bitsOf cfg 27 26
  if ports.any fun p => Nat.blt p 4 && s.flag (NET_STAT_LOWERED p) then 1
  else if lo < 1088 ∨ 4096 < lo + c ∨ clash = true then 2
  else if s.chansBad cfg then 3
  else if 1 < fmt ∨ bits = 3 ∨ (fmt = 1 ∧ bits = 2) ∨ (bitAt cfg 23 = true ∧ fmt = 0)
      ∨ (bitAt cfg 24 = true ∧ bitAt cfg 23 = true) then 4
  else if 3 < bitsOf cfg 22 20 ∨ 3 < bitsOf cfg 19 17 ∨ (bitAt cfg 24 = true ∧ bitsOf cfg 22 20 = bitsOf cfg 19 17) then 5
  else if 192 < s.rf (CTX_SLOT_OFFSET i) then 6
  else 0

/-- Agents that may write the STREAM block (R321). -/
def streamAgent (a : Nat) : Bool := a == 0 || a == 2

/-- A write of CTX_CFG (R291, R321): EN is refused with a reason, and no other field changes while it is 1. -/
def State.ctxCfgWrite (s : State) (a i : Nat) (v : Word) : State :=
  if !streamAgent a then s.err
  else if s.flag (CTX_CFG_EN i) then
    if bitsOf v 30 0 = bitsOf (s.reg (CTX_CFG i)) 30 0 then (s.sf (CTX_CFG_EN i) (bitsOf v 31 31)).ok 0#32
    else if bitAt v 31 then s.err
    else (s.sf (CTX_CFG_EN i) 0).ok 0#32
  else
    let r := if bitAt v 31 then s.bindReason i v else 0
    if r ≠ 0 then
      (((s.setRegN STREAM_REFUSE (2 ^ 31 + (i + 1) * 65536 + r))).raise STREAM_EVT_BIND_REFUSED).err
    else (s.setReg (CTX_CFG i) v).ok 0#32

def execCtxEnable (a : Agent) (i : Fin 511) (v : Word) (s : State) : Out :=
  .next (s.regWrite a (CTX_CFG i.val) v fun s => s.ctxCfgWrite a.val i.val v)

/-- The slots bound and the streams counted by the contexts in force. -/
def State.rebind (s : State) : State :=
  let on := (List.range 511).filter fun i => (s.ctx i).on
  let b (i : Nat) : Binding := { ctx := i, rx := !s.ctxTx i, slot := s.ctxSlot i, chans := s.ctxChans i }
  let s := { s with streams := { s.streams with bound := on.map b } }
  (List.range 4).foldl (fun s p =>
    let n := (on.filter fun i => (ctxPorts (s.reg (CTX_CFG i))).contains p).length
    if s.rf (NET_STAT_STREAMS p) = n then s else s.sf (NET_STAT_STREAMS p) n) s

/-- A context taken into force, or out of it, at a boundary (R291). -/
def State.ctxTurn (s : State) (i : Nat) : State :=
  let en := s.flag (CTX_CFG_EN i)
  let on := (s.ctx i).on
  if en = on then s
  else
    let s := s.setCtx i (if en then { Ctx.init with on := true } else Ctx.init)
    s.setReg (CTX_STAT i) (if en then BitVec.ofNat 32 (cxWaiting * 2 ^ 30) else 0#32)

/-! ### Receiving (R292, R293, R297, R298, R300, R301) -/

/-- The address, port and index on which a frame matches a context (R297). -/
def State.ctxMatch (s : State) (i p : Nat) (f : StreamFrame) : Bool :=
  let cfg := s.reg (CTX_CFG i)
  let m := s.reg (CTX_MATCH i)
  let id (lo hi : Nat) : Bool := f.id.toNat == (s.reg lo).toNat + (s.reg hi).toNat * 2 ^ 32
  let leg1 := bitsOf cfg 22 20 == p && id (CTX_ID_LO i) (CTX_ID_HI i)
  let leg2 := bitsOf cfg 19 17 == p &&
    ((bitAt cfg 24 && id (CTX_ID_LO i) (CTX_ID_HI i)) || (bitAt cfg 23 && id (CTX_ID2_LO i) (CTX_ID2_HI i)))
  (s.ctx i).on && !bitAt cfg 30 && (leg1 || leg2) && f.rtp == s.ctxRtp i
    && (!bitAt m 30 || !f.rtp || f.ssrc == s.reg (CTX_SSRC i))
    && (!bitAt m 31 || f.vid == some (m.extractLsb' 0 12))

/-- The context that takes a stream frame: the lowest that matches. -/
def State.ctxOf (s : State) (p : Nat) (f : StreamFrame) : Option Nat :=
  if s.streams.running then
    (s.streams.bound.filter fun b => b.rx && s.ctxMatch b.ctx p f).foldl (fun m b =>
      match m with | some k => some (min k b.ctx) | none => some b.ctx) none
  else none

/-- Bytes of one sample of every channel of a context. -/
def State.frameBytes (s : State) (i : Nat) : Nat := s.ctxChans i * widthBytes (s.rf (CTX_CFG_BITS i))

/-- The samples of a frame as its context cuts them: position by position, channel by channel, each most significant byte
first, of which the top `bit_depth` bits are the word (R226, R295). -/
def State.ctxSamples (s : State) (i : Nat) (f : StreamFrame) : List (List Int) :=
  let w := widthBytes (s.rf (CTX_CFG_BITS i))
  let depth := if f.rtp then 8 * w else min f.depth (8 * w)
  (recordsOf (s.frameBytes i) f.data).map fun r =>
    (recordsOf w r).map fun b => tdmSample depth (BitVec.ofNat 32 (beNat b / 2 ^ (8 * w - depth)))

/-- The first disagreement of a frame with its context, 0 for none (R298): for RTP, of which only the length of the payload
shows channels and width, DETAIL 3 stands for a payload that is not a whole number of samples of every channel. -/
def State.ctxViol (s : State) (i : Nat) (f : StreamFrame) : Nat :=
  let bits := s.rf (CTX_CFG_BITS i)
  let c := s.ctxChans i
  if (f.rtp = false ∧ f.fmt.val ≠ bits) ∨ (f.rtp = true ∧ f.pt.toNat ≠ s.rf (CTX_MATCH_PT i)) then 1
  else if f.rtp = false ∧ f.chans ≠ c then 2
  else if (f.rtp = false ∧ 8 * widthBytes bits < f.depth) ∨ (f.rtp = true ∧ f.data.length % s.frameBytes i ≠ 0) then 3
  else if f.rtp = false ∧ f.nsr.toNat ≠ (if s.sys.rate96 then 7 else 5) then 4
  else if f.lenOk = false ∨ f.data.length % s.frameBytes i ≠ 0 then 5
  else if f.data = [] ∨ 64 < f.data.length / s.frameBytes i then 6
  else if f.rtp = true ∧ f.ver ≠ 2#2 then 7
  else if s.flag (CTX_CFG_FRER i) = true ∧ (match f.rtag with | .seq _ => false | _ => true) = true then 8
  else 0

/-- Vector recovery of a sequence number (R300): whether it is accepted, and the window after it. The newest
number comes first; with an empty window any number is accepted. -/
def recover (w : List Nat) (n : Nat) : Bool × List Nat :=
  match w with
  | [] => (true, [n])
  | top :: _ =>
    let d := (n + 65536 - top) % 65536
    if d = 0 then (false, w)
    else if d < 32 then (true, n :: w.filter fun x => Nat.blt ((n + 65536 - x) % 65536) 32)
    else if 65536 - d < 32 then
      if w.contains n then (false, w) else (true, w ++ [n])
    else (false, w)

/-- The nearest to a number of those congruent to a stamp modulo 2^32. -/
def unwrap32 (near : Int) (v : Nat) : Int :=
  let d := ((v : Int) - near) % 4294967296
  near + (if d < 2147483648 then d else d - 4294967296)

/-- The grid index nearest to an instant in ns (R292, R324). -/
def State.nearestIndex (s : State) (ns : Int) : Int := (2 * ns * s.sys.rate + 1000000000) / 2000000000

/-- The stamp index of a frame (R292, R293), none where tv = 0 finds no frame before it. -/
def State.stampIndex (s : State) (i : Nat) (f : StreamFrame) : Option Int :=
  if f.rtp then
    let m := (s.reg (CTX_MCLK i)).toNat
    some (unwrap32 s.sys.nextPass ((f.stamp.toNat + 2 ^ 32 - m) % 2 ^ 32))
  else if f.tv then some (s.nearestIndex (unwrap32 (s.tod / ns16) f.stamp.toNat))
  else (s.ctx i).last.map fun l => l.1 + l.2

/-- A counter of a context counted up: LATE, EARLY, DUP or VIOL. -/
def State.ctxDrop (s : State) (f : RegField) (e : Option RegField) : State :=
  let s := s.countUp f
  match e with | some e => s.raise e | none => s

/-- A frame deposited at its due indexes, or dropped as late, early or a duplicate (R293). -/
def State.ctxPlace (s : State) (i : Nat) (f : StreamFrame) (e : Int) : State :=
  let x := s.ctx i
  let new := s.ctxSamples i f
  let len := new.length
  let due := e + s.rf (CTX_SLOT_OFFSET i)
  let n : Int := s.sys.n
  let bound : Int := (s.sys.roundStart : Int) + (due / n - s.sys.roundNo) * s.sys.roundLen
  let s := s.setCtx i { x with last := some (e, len) }
  let x := s.ctx i
  if bound < (s.now : Int) + 12000 then s.ctxDrop (CTX_CNT0_LATE i) (some STREAM_EVT_LATE)
  else if s.sys.roundNo * n + 256 ≤ due + len - 1 then s.ctxDrop (CTX_CNT0_EARLY i) (some STREAM_EVT_EARLY)
  else if x.buf.any fun b => (b.1 : Int) == due then s.ctxDrop (CTX_CNT1_DUP i) none
  else
    let buf := new.zipIdx.foldl (fun (b : SMap (List Int)) p =>
      let k := (due + p.2).toNat
      mput k p.1 (mdrop k b)) x.buf
    s.setCtx i { x with buf := buf }

/-- A stream frame at the context that takes it (R293, R297, R298, R300). -/
def State.ctxReceive (s : State) (i p src : Nat) (f : StreamFrame) : State :=
  let v := s.ctxViol i f
  let t := s.now
  let s := s.setCtx i { s.ctx i with seen := t }
  if v ≠ 0 then
    ((s.countUp (CTX_CNT1_VIOL i)).raise STREAM_EVT_VIOL).violation 2 p v src true
  else
    let seq := match f.rtag with | .seq n => n.toNat | _ => f.seq.toNat
    let s := s.setReg (CTX_CNT2 i) (sat32 (s.reg (CTX_CNT2 i)))
    let s := s.sf (CTX_STAT_LAST_SEQ i) f.seq.toNat
    let (ok, w) := if s.flag (CTX_CFG_FRER i) then recover (s.ctx i).recov seq else (true, (s.ctx i).recov)
    if !ok then s.ctxDrop (CTX_CNT1_DUP i) none
    else
      let s := s.setCtx i { s.ctx i with recov := w, recovAt := s.now }
      match s.stampIndex i f with
      | some e => s.ctxPlace i f e
      | none => s.ctxDrop (CTX_CNT0_LATE i) (some STREAM_EVT_LATE)

/-- 10 ms without an accepted frame: sequence recovery accepts any number again (R300). -/
def execFrerResetTimeout (i : Fin 511) (s : State) : Out :=
  let x := s.ctx i.val
  .next (if x.on = true ∧ x.recov ≠ [] then
      (s.moveTo (x.recovAt + 10 * ms1)).setCtx i.val { x with recov := [] }
    else s)

/-! ### Starvation (R294) -/

/-- FADE and RAMPIN of a context in samples. -/
def State.ctxSpan (s : State) (i : Nat) (fade : Bool) : Nat :=
  max 1 (s.rf (if fade then CTX_CFG_FADE i else CTX_CFG_RAMPIN i)) * s.sys.n

/-- Whether every position of the present round has been deposited. -/
def State.ctxWhole (s : State) (i : Nat) : Bool :=
  (List.range s.sys.n).all fun p => (s.ctx i).buf.any fun b => b.1 == s.sys.roundNo * s.sys.n + p

/-- The status bits of a receive context. -/
def State.ctxStatus (s : State) (i st : Nat) : State :=
  let x := s.ctx i
  ((s.sf (CTX_STAT_STATE i) st).setFlag (CTX_STAT_FADING i) x.fading).setFlag (CTX_STAT_RAMPING i) x.ramping

/-- A boundary's share of a receive context: starvation, the repeats of a fade, and the return after two whole
rounds. -/
def State.ctxRound (s : State) (i : Nat) : State :=
  let n := s.sys.n
  let base := s.sys.roundNo * n
  let whole := s.ctxWhole i
  let x := s.ctx i
  let st := s.rf (CTX_STAT_STATE i)
  let x := { x with
    buf := x.buf.filter fun b => Nat.ble base (b.1 + n)
    fading := x.fading && x.ramp.isSome, ramping := x.ramping && x.ramp.isSome }
  let fill (y : Ctx) : Ctx :=
    if y.fading then
      { y with buf := (List.range n).foldl (fun (b : SMap (List Int)) p =>
          if b.any fun e => e.1 == base + p then b
          else match b.find? fun e => e.1 + n == base + p with
            | some e => mput (base + p) e.2 b
            | none => b) y.buf }
    else y
  if st = cxRunning ∧ whole = false then
    let x := { x with good := 0, fading := true, ramping := false, ramp := some (Ramp.start x.gain 0 (s.ctxSpan i true)) }
    (((s.setCtx i (fill x)).raise STREAM_EVT_LOSS)).ctxStatus i cxLost
  else if st ≠ cxRunning ∧ whole = true ∧ 2 ≤ x.good ∧ x.fading = false then
    let x := { x with good := x.good + 1, ramping := true, ramp := some (Ramp.start 0 unity20 (s.ctxSpan i false)) }
    let s := if st = cxLost then s.raise STREAM_EVT_RETURN else s
    (s.setCtx i x).ctxStatus i cxRunning
  else
    (s.setCtx i (fill { x with good := if whole then x.good + 1 else 0 })).ctxStatus i st

/-- One sample of every context's ramp. -/
def State.ctxStep (s : State) : State :=
  s.streams.ctxs.foldl (fun s e =>
    match e.2.ramp with
    | some r =>
      let (g, r') := r.adv 1
      s.setCtx e.1 { e.2 with gain := g, ramp := r' }
    | none => s) s

/-- The sample that a stream channel slot delivers at an index, under its context's gain. -/
def State.streamSource (s : State) (slot idx : Nat) : Int :=
  match s.bindingOf true slot with
  | none => 0
  | some b =>
    let x := s.ctx b.ctx
    let st := s.rf (CTX_STAT_STATE b.ctx)
    if (st = cxRunning ∨ x.fading = true) ∧ s.streams.running = true then
      match x.buf.find? fun e => e.1 == idx with
      | some e => e.2.getD (slot - b.slot) 0 * x.gain / 1048576
      | none => 0
    else 0

/-! ### Sending (R264, R292, R300, R301, R307) -/

/-- The sequence number and stamp of the frame of source round `r` (R292). -/
def State.txSeq (s : State) (i r : Nat) : Nat := if s.ctxRtp i then r % 65536 else r % 256
def State.txStamp (s : State) (i r : Nat) : Nat :=
  if s.ctxRtp i then (r * s.sys.n + (s.reg (CTX_MCLK i)).toNat) % 2 ^ 32
  else (r * s.sys.n + 2 * s.sys.n) * 1000000000 / s.sys.rate % 2 ^ 32

/-- Length of a context's frame from the destination address to the FCS (R289): Ethernet header, VLAN tag and
R-TAG where used, format header, samples. -/
def State.txLen (s : State) (i leg : Nat) : Nat :=
  let tpl := mget (fun _ => 0) s.streams.tplLen (2 * i + leg)
  tpl + (if s.flag (CTX_CFG_FRER i) then 6 else 0) + s.ctxChans i * s.sys.n * widthBytes (s.rf (CTX_CFG_BITS i)) + 4

/-- The words of a frame: positions in order, channels in slot order, under the gain of a muted transition;
which of the two roundings of R226 is used is open. -/
def State.txWords (s : State) (i r : Nat) (round : Bool) : List (List Word) :=
  let bits := 8 * widthBytes (s.rf (CTX_CFG_BITS i))
  (List.range s.sys.n).map fun p =>
    (List.range (s.ctxChans i)).map fun c =>
      tdmWord bits round
        (mget (fun _ => 0) s.sys.out (sampleKey (s.ctxSlot i + c) (r * s.sys.n + p)) * s.outGainAt p / 1048576)

/-- Whether a context is kept from sending by pairing (R307). -/
def State.ctxMuted (s : State) (i : Nat) : Bool := s.flag (CTX_CFG_PAIRED i) && !s.pair.serving

/-- One leg of a frame placed in its port's queue; a full queue drops it (R260). -/
def State.txLeg (s : State) (i leg p r : Nat) (words : List (List Word)) : State :=
  if !s.netUp p || !(s.np p).gates then s
  else
    let rtag := if s.flag (CTX_CFG_FRER i) then some (r % 65536) else none
    let et := s.tplByte i leg 12 * 256 + s.tplByte i leg 13
    let et := if et = 0x8100 then s.tplByte i leg 16 * 256 + s.tplByte i leg 17 else et
    let et := if rtag.isSome then 0xF1C1 else et
    let f : TxFrame :=
      { len := max 64 (s.txLen i leg), etype := et, held := false,
        body := .stream i leg r (s.txSeq i r) (s.txStamp i r) rtag words }
    match s.enqueue p (s.rf (CTX_CFG_QUEUE i)) f with
    | (s, true) => s
    | (s, false) => s.cnt p cTxQfull

/-- A transmit context hands over the frame of the round just ended (R292). -/
def execStreamFrameSend (i : Fin 511) (s : State) : Out :=
  let i := i.val
  let x := s.ctx i
  let r := s.sys.roundNo - 1
  .next (if x.on && s.ctxTx i && s.streams.running && s.hubUp && s.sys.roundNo != 0 && x.sent != some r
        && !s.ctxMuted i && !s.flag ALARM_CTL_BARE then
      let s := s.setCtx i { x with sent := some r }
      let (v, s) := s.pick 2
      let words := s.txWords i r (v == 1)
      let cfg := s.reg (CTX_CFG i)
      let s := s.txLeg i 0 (bitsOf cfg 22 20) r words
      if twoPorts cfg then s.txLeg i (if bitAt cfg 23 then 1 else 0) (bitsOf cfg 19 17) r words else s
    else s)

/-! ### The stream engine at a boundary -/

/-- Transmit contexts bound to a port without gates (R264): the first round in which one is blocked sets NO_GCL. -/
def State.noGcl (s : State) (p : Nat) : State :=
  let mine := (s.streams.bound.filter fun b => !b.rx && (ctxPorts (s.reg (CTX_CFG b.ctx))).contains p).map (·.ctx)
  let now := if s.streams.running && !(s.np p).gates then mine else []
  let was := (s.np p).blocked
  let s := if now = was then s else s.setNp p { s.np p with blocked := now }
  if now.all was.contains then s else s.raise (NET_EVT_NO_GCL p)

/-- Since when a context has been starved, or, sending, late in every round (R505). -/
def State.ctxWatch (s : State) (b : Binding) : State :=
  let x := s.ctx b.ctx
  let late := s.rf (CTX_CNT0_LATE b.ctx)
  let bad := if b.rx then s.rf (CTX_STAT_STATE b.ctx) != cxRunning else late != x.lateN
  let t := s.now
  s.setCtx b.ctx { x with lateN := late, badAt := if bad then some (x.badAt.getD t) else none }

/-- A boundary's share of the stream engine (R264, R291, R294). -/
def State.streamsBoundary (s : State) : State :=
  let s := { s with streams := { s.streams with running := s.flag STREAM_CTL_RUN } }
  let turn := (List.range 511).filter fun i => s.flag (CTX_CFG_EN i) != (s.ctx i).on
  let s := if turn = [] then s else (turn.foldl (fun s i => s.ctxTurn i) s).rebind
  let s := if s.streams.running then
      s.streams.bound.foldl (fun s b =>
        let s := if b.rx then s.ctxRound b.ctx
          else if s.rf (CTX_STAT_STATE b.ctx) = cxRunning then s else s.sf (CTX_STAT_STATE b.ctx) cxRunning
        s.ctxWatch b) s
    else s
  (List.range 4).foldl (fun s p => s.noGcl p) s

end Sys2Proof.Machine
end

