-- ==== Sys2Proof/Machine/NetRx.lean ====
section
/-! DEFINITION. Machine/NetRx.lean: the receive path of the network ports (R253, R256 to R258, R275, R328 of
spec/09_network_ports.md and spec/11_network_time.md). -/
namespace Sys2Proof.Machine

open Reg

/-- The station's multicast entries that are enabled. -/
def State.mcastHit (s : State) (p dst : Nat) : Bool :=
  (List.range 32).any fun i =>
    bitAt (s.reg (NET_MCAST_HI p i)) 31
      && dst == (s.reg (NET_MCAST_LO p i)).toNat + bitsOf (s.reg (NET_MCAST_HI p i)) 15 0 * 2 ^ 32

/-- Whether a destination address is one that a port receives (R256 step 3): its station address, broadcast, its
multicast table, and the PTP multicast addresses: 01-1B-19-00-00-00 and 01-80-C2-00-00-0E of Ethernet, and
01-00-5E-00-01-81 and 01-00-5E-00-00-6B of UDP over IPv4. -/
def State.dstHit (s : State) (p dst : Nat) : Bool :=
  dst == (s.reg (NET_MAC_LO p)).toNat + bitsOf (s.reg (NET_MAC_HI p)) 15 0 * 2 ^ 32
    || dst == 0xFFFFFFFFFFFF || dst == 0x000000191B01 || dst == 0x0E0000C28001 || dst == 0x8101005E0001
    || dst == 0x6B00005E0001 || s.mcastHit p dst

/-- The receive secure channel that an SCI names. -/
def State.rxSc (s : State) (p sci : Nat) : Option Nat :=
  (List.range 32).find? fun i =>
    s.flag (NET_SEC_RXSC_CTL_EN p i)
      && sci == (s.reg (NET_SEC_RXSCI_LO p i)).toNat + (s.reg (NET_SEC_RXSCI_HI p i)).toNat * 2 ^ 32

/-- The DETAIL of a MACsec failure, 0 for none, whether the frame is protected, and the association whose next
packet number it advances (R275). -/
def State.secCheck (s : State) (p : Nat) (f : NetFrame) : Nat × Bool × Option (Nat × Nat) :=
  if !(p == 6 || s.flag (NET_SEC_CFG_EN p)) then (0, false, none)
  else match f.sec with
    | .malformed => (4, false, none)
    | .clear =>
      if (List.range 4).any fun k => s.flag (NET_SEC_BYPASS_EN p k) && s.rf (NET_SEC_BYPASS_ETYPE p k) == f.etype
      then (0, false, none) else (5, false, none)
    | .tag sci an pn icv =>
      match s.rxSc p sci with
      | none => (1, false, none)
      | some i =>
        let k := 4 + 4 * i + an.val
        if !bitAt (s.reg (NET_SEC_RXSC_CTL p i)) an.val then (1, false, none)
        else if !icv then (2, false, none)
        else if pn + s.rf (NET_SEC_CFG_REPLAY_WIN p) < s.pn p k then (3, false, none)
        else (0, true, some (k, max (s.pn p k) (pn + 1)))

/-- A frame for a ring: the end-of-frame stamp, its content and the verdict on its checksums. -/
def State.toRing (s : State) (p r : Nat) (f : NetFrame) (seq : Nat) : State :=
  let (t, s) := if r = 0 then s.stamp p false else (0, s)
  s.rxQueue p { ring := r, port := p, csum := csumOf f.bytes, seq := seq, stamp := t, round := s.sys.roundNo, bytes := f.bytes,
                at_ := s.now }

/-- The receive context that takes a frame, with what the frame carries (R256 step 8). -/
def State.streamTo (s : State) (p : Nat) (f : NetFrame) : Option (Nat × StreamFrame) :=
  if p < 4 then
    match streamOf f.bytes with
    | some x => (s.ctxOf p x).map fun i => (i, x)
    | none => none
  else none

/-- Steps 9 to 11 of R256. -/
def State.rxRest (s : State) (p : Nat) (f : NetFrame) : State :=
  if isLink f.bytes then s.toRing p 1 f 0
  else if isIp f.bytes then s.toRing p 2 f 0
  else if s.flag (NET_CFG_RX_OTHER p) then s.toRing p 3 f 0
  else s.cnt p cRxFiltered

/-- A MAC control frame (R256 step 6): opcode 1 is PAUSE with its quanta. -/
def State.macControl (s : State) (p : Nat) (f : NetFrame) : State :=
  let o := etherAt f.bytes + 2
  if be16 f.bytes o = 1 then s.pauseFrame p (be16 f.bytes (o + 2)) f.src else s.cnt p cRxPfc

/-- Steps 5 to 11 of R256. -/
def State.rxSort (s : State) (p : Nat) (f : NetFrame) : State :=
  if s.quarantined p f.src then s.cnt p cRxQuar
  else if f.etype = 0x8808 then s.macControl p f
  else match ptpAt f.bytes with
    | some o => s.toRing p 0 f (be16 f.bytes (o + 30))
    | none =>
      match s.streamTo p f with
      | some (i, x) => if csumOf f.bytes = 2 then s.cnt p cRxCsum else s.ctxReceive i p f.src x
      | none => s.rxRest p f

/-- A frame at the ALARM block: one that came in a UDP datagram counts as unprotected (R200, R387). -/
def State.alarmFrame (s : State) (p : Nat) (f : NetFrame) (prot : Bool) (body : List Byte) : State :=
  s.alarmArrive (s.alarmOf p f.src (prot && be16 f.bytes (etherAt f.bytes) == 0x88B5) body)

/-- A frame past steps 1 and 2: its protection bears on the origin that R200 gives an ALARM message. -/
def State.rxPassed (s : State) (p : Nat) (f : NetFrame) (prot : Bool) : State :=
  if p = 6 then
    match alarmBody f.bytes with
    | some body => s.alarmFrame p f prot body
    | none => if f.etype = 0x8808 ∧ be16 f.bytes (etherAt f.bytes + 2) = 1 then s.macControl p f else s
  else if !s.dstHit p f.dst then s.cnt p cRxFiltered
  else match alarmBody f.bytes with
    | some body => s.alarmFrame p f prot body
    | none => s.rxSort p f

/-- A frame under an association heard: once every listed transmitter has changed over from the AN of the old KN, the
associations of that go (R386). -/
def State.changedOver (s : State) (p k : Nat) : State :=
  match s.trust.anOld with
  | some (an, l) =>
    if k % 4 = an then s
    else
      let l := l.filter fun x => x != (p, k / 4 - 1)
      if l.isEmpty then
        let s := (List.range 7).foldl (fun (s : State) p =>
          (List.range 32).foldl (fun (s : State) i => s.clrBit (NET_SEC_RXSC_CTL p i) an) s) s
        { s with trust := { s.trust with anOld := none } }
      else { s with trust := { s.trust with anOld := some (an, l) } }
  | none => s

/-- Steps 1 and 2 of R256, and what follows for a frame that passes, with whether it is protected. -/
def State.rxFrame (s : State) (p : Nat) (f : NetFrame) (go : State → Bool → State) : State :=
  if !f.good then s.cnt p cRxFcs
  else if f.len < 64 ∨ s.maxLen p < f.len then s.cnt p cRxLen
  else
    let s := s.cnt p cRxFrames
    match s.secCheck p f with
    | (0, prot, some (k, pn)) => go ((s.setPn p k pn).changedOver p k) prot
    | (0, prot, none) => go s prot
    | (d, _, _) => (s.cnt p cRxSec).violation 6 p d f.src true

/-- A frame at a port (R256): the first test that decides its fate applies; one that finds the receive buffer full is
dropped (R258). -/
def State.netReceive (s : State) (p : Nat) (f : NetFrame) : State :=
  if !s.netUp p || s.flag ALARM_CTL_BARE then s
  else if Nat.blt 65536 ((s.np p).buffered + f.len) then s.cnt p cRxOvf
  else s.rxFrame p f fun s prot => s.rxPassed p f prot

def execNetFrameReceive (p : Fin 7) (f : NetFrame) (s : State) : Out := .next (s.netReceive p.val f)

/-- A frame as a PAUSE frame with its quanta. -/
def pauseOf (f : NetFrame) (quanta : BitVec 16) : NetFrame :=
  { f with bytes := patch f.bytes (etherAt f.bytes) (beBytes 0x8808 2 ++ beBytes 1 2 ++ beBytes quanta.toNat 2) }

/-- A PAUSE frame received (R256, R267): the frame with the EtherType, the opcode and the quanta of one. -/
def execPauseFrameReceive (p : Fin 7) (f : NetFrame) (quanta : BitVec 16) (s : State) : Out :=
  .next (s.netReceive p.val (pauseOf f quanta))

end Sys2Proof.Machine
end

