-- ==== Sys2Proof/Machine/Directory.lean ====
section
/-! DEFINITION. Machine/Directory.lean: the directory and the zone map of a manager (R394 to R400, R408 of
spec/13_manager_and_workers.md). -/
namespace Sys2Proof.Machine

open Reg

/-- STATE codes of an endpoint (R396). -/
def epAbsent : Nat := 0
def epPresent : Nat := 1
def epFault : Nat := 2
def epLost : Nat := 3
def epSleeping : Nat := 4
def epUnadmitted : Nat := 5

/-- Addresses of an entry, of a zone's record and of its served-node entry (R396, R397). -/
def dirAt (e : Nat) : Nat := 0x0510000000 + 32 * e
def zoneAt (z : Nat) : Nat := 0x06F00000 + 16 * z
def servedAt (z : Nat) : Nat := 0x06F10000 + 33 * z

/-- Words of an entry. -/
def State.dirWord (s : State) (e w : Nat) : Word := s.word (dirAt e + 4 * w)
def State.dirState (s : State) (e : Nat) : Nat := bitsOf (s.dirWord e 0) 27 25
def State.dirValid (s : State) (e : Nat) : Bool := bitAt (s.dirWord e 0) 31
def State.dirNode (s : State) (e : Nat) : Nat := bitsOf (s.dirWord e 0) 24 16

/-- Whether a state counts among a zone's FAULTS (R397). -/
def epBad (st : Nat) : Bool := st == epFault || st == epLost

/-- Seconds since the manager started (W7.SEEN). -/
def State.mgrSeconds (s : State) : Nat := (s.now - s.link.started) / sec1 % 2 ^ 24

/-- The zones of an endpoint, from its memberships. -/
def State.dirZones (s : State) (e : Nat) : List Nat :=
  let w1 := s.dirWord e 1
  let w2 := s.dirWord e 2
  let z := [bitsOf w1 23 12, bitsOf w1 11 0, bitsOf w2 23 12, bitsOf w2 11 0]
  ((List.range 4).filter fun i => bitAt w1 (28 + i)).map fun i => z.getD i 0

/-- The zone's FAULTS counted up or down. -/
def State.zoneFaults (s : State) (z : Nat) (up : Bool) : State :=
  let w := s.word (zoneAt z + 8)
  s.setWord (zoneAt z + 8) (if up then w + 1#32 else w - 1#32)

/-- A change of the directory sent to the standby manager (R399, R408). -/
def State.dirForward (s : State) (e : Nat) : State :=
  let s := { s with link := { s.link with gen := (s.link.gen + 1) % 2 ^ 32 } }
  let other := 1 - s.nodeNo
  if s.link.active && s.link.adms.any (fun a => a.node == other) then
    s.linkSend 0x21 other ([s.link.gen, 1, e] ++ (List.range 8).map fun w => (s.dirWord e w).toNat)
  else s

/-- STATE, COND and SEEN of an entry written (R398). -/
def State.dirSet (s : State) (e st cond : Nat) : State :=
  let old := s.dirState e
  let s' := s.setWord (dirAt e) (setBits (s.dirWord e 0) 27 25 st)
  let s' := s'.setWord (dirAt e + 28) (BitVec.ofNat 32 (cond % 256 * 2 ^ 24 + s.mgrSeconds))
  let s' := if epBad old = epBad st then s' else (s.dirZones e).foldl (fun s z => s.zoneFaults z (epBad st)) s'
  if old = st ∧ bitsOf (s.dirWord e 7) 31 24 = cond % 256 then s' else s'.dirForward e

/-- The endpoints that the system section gives a node. -/
def State.epsOf (s : State) (n : Nat) : List Nat := (s.skein.system.eps.filter fun x => x.node == n).map (·.index)

/-- Every endpoint of a node in one state. -/
def State.nodeEps (s : State) (n st : Nat) : State :=
  (s.epsOf n).foldl (fun s e => s.dirSet e st (bitsOf (s.dirWord e 7) 31 24)) s

/-- The endpoints of a zone in ascending order. -/
def SkSystem.zoneEps (y : SkSystem) (z : Nat) : List Nat :=
  ((y.eps.filter fun e => e.zones.contains z).map (·.index)).mergeSort (fun a b => Nat.ble a b)

/-- The nodes that serve a zone (R397, R405). -/
def SkSystem.served (y : SkSystem) (z : Nat) : List Nat :=
  ((y.eps.filter fun e => e.zones.contains z).map (·.node)).dedup

/-- The words of an entry as a Skein load writes them: STATE ABSENT (R396, R397). -/
def SkSystem.entryWords (y : SkSystem) (e : SkEp) : List Word :=
  let zones := e.zones.take 4
  let z (i : Nat) : Nat := zones.getD i 0
  let link (i : Nat) : Nat :=
    match zones[i]? with
    | none => 0
    | some k =>
      match (y.zoneEps k).find? fun x => Nat.blt e.index x with
      | some x => x
      | none => 2 ^ 17
  ([2 ^ 31 + e.kind * 2 ^ 28 + e.node * 2 ^ 16 + e.local_,
    (2 ^ zones.length - 1) * 2 ^ 28 + z 0 * 4096 + z 1, z 2 * 4096 + z 3,
    link 0, link 1, link 2, link 3, 0xFF000000]).map (BitVec.ofNat 32)

/-- The directory and the zone map written at a Skein load (R397). -/
def State.dirLoad (s : State) : State :=
  if !s.isMgr then s
  else
    let y := s.skein.system
    let s := s.clearMem 0x0510000000 0x05103FFFFF
    let s := y.eps.foldl (fun (s : State) (e : SkEp) => s.setWords (dirAt e.index) (y.entryWords e)) s
    let zones := (y.eps.map (·.zones)).flatten.dedup
    let s := (List.range 4096).foldl (fun s k => s.setWords (zoneAt k) ([2 ^ 31, 0, 0, 33 * k].map (BitVec.ofNat 32))) s
    let s := s.setBytes (servedAt 0) (List.replicate 135168 0#8)
    zones.foldl (fun s k =>
      let l := y.zoneEps k
      let s := s.setWords (zoneAt k) ([l.headD 0, l.length].map (BitVec.ofNat 32))
      let map := (y.served k).foldl (fun m n => m + 2 ^ n) 0
      s.setBytes (servedAt k) (leBytes map 33)) s

/-- A whole entry mirrored by the standby (R408). -/
def State.dirMirror (s : State) (e : Nat) (ws : List Word) : State :=
  let old := s.dirState e
  let new := bitsOf (ws.headD 0#32) 27 25
  let zones := s.dirZones e
  let s := s.setWords (dirAt e) (ws.take 8)
  if epBad old = epBad new then s else zones.foldl (fun s z => s.zoneFaults z (epBad new)) s

end Sys2Proof.Machine
end

