-- ==== Sys2Proof/Machine/Link.lean ====
section
/-! DEFINITION. Machine/Link.lean: admission, managers and zone commands over Lysle link (R379 to R413 of
spec/13_manager_and_workers.md). -/
namespace Sys2Proof.Machine

open Reg

/-! ### Checks of a message (R383 to R385, R411, R412) -/

/-- What processing a message ends in: done, refused with a reason, or a violation of a class with its DETAIL and the
reason of its NAK. -/
inductive LinkRes where
  | done
  | nak (reason : Nat)
  | bad (cls detail reason : Nat)
deriving DecidableEq, Repr

/-- Reasons of a NAK (R385). -/
def nkMalformed : Nat := 1
def nkUnknown : Nat := 2
def nkNotAdmitted : Nat := 3
def nkOrder : Nat := 4
def nkBusy : Nat := 5
def nkDenied : Nat := 6
def nkRole : Nat := 7

/-- Distance of two 32-bit round numbers. -/
def rndDist (a b : Nat) : Nat := min ((a + 2 ^ 32 - b) % 2 ^ 32) ((b + 2 ^ 32 - a) % 2 ^ 32)

/-- Whether a COUNTER lies in the replay window of 64 and is new (R387). -/
def counterOk (l : List Nat) (c : Nat) : Bool := Nat.blt (l.foldl max 0) (c + 64) && !l.contains c

/-- The bytes of a message in the clear: as they stand within the site; across a routed segment opened under KN, or under
the number that comes next (R387). -/
def State.linkClear (s : State) (f : LinkFrame) : Option (List Byte) :=
  if f.routed then
    ([s.trust.site, s.trust.siteNext].filterMap id).findSome? fun e =>
      linkUnseal (linkPrk s.skein.system.sysid e.1) e.2 f.bytes
  else some f.bytes

/-- The first DETAIL of class LINK that the header of a message of a TYPE breaks, or the length of its body (R412). The source
address is compared within the site only. -/
def State.linkDetail (s : State) (ty : Nat) (f : LinkFrame) (h : LinkHdr) (l : List Byte) : Option Nat :=
  let y := s.skein.system
  if h.ver ≠ 1 then some 1
  else if !linkLenOk f.routed l || !linkSizeOk ty h.len (linkBodyOf l) then some 2
  else if h.sysid ≠ y.sysid then some 4
  else if !(y.nodes.any fun n => n.num == h.src && (f.routed || n.mac == h.mac)) || (f.routed && beAt f.bytes 2 2 != h.src) then some 5
  else if 3 < h.flags ∨ h.res ≠ 0 then some 6
  else if h.ctr.any fun c => !counterOk (mget (fun _ => []) s.link.windows h.src) c then some 7
  else if qEstimated ≤ s.qual ∧ 12000 < rndDist h.rnd (s.sys.roundNo % 2 ^ 32) then some 9
  else none

/-- Whether a message is for this node (R381). -/
def State.linkMine (s : State) (dst : Nat) : Bool :=
  dst == 0xFFFF || dst == s.nodeNo || (dst == 0xFFFE && s.link.active)

/-- The source heard: when and on which port, and its COUNTER. -/
def State.linkHeard (s : State) (h : LinkHdr) : State :=
  let n := h.src
  let k := s.link
  let w := match h.ctr with
    | some c => mset (fun _ => []) k.windows n ((c :: mget (fun _ => []) k.windows n).take 64)
    | none => k.windows
  { s with link := { k with
    heard := (k.heard.filter fun e => e.1 != n) ++ [(n, h.port, s.now)], windows := w } }

/-- SEQ kept among the last 64 of its source. -/
def State.seqKeep (s : State) (n q : Nat) : State :=
  { s with link := { s.link with
    seen := mset (fun _ => []) s.link.seen n ((q :: mget (fun _ => []) s.link.seen n).take 64) } }

/-- A NAK sent. -/
def State.nak (s : State) (h : LinkHdr) (reason detail : Nat) : State :=
  s.linkSend 0x3F h.src [h.seq, reason, detail]

/-- A message in the clear: checked, told from a repetition, processed and answered. -/
def State.linkTake (s : State) (ty : Nat) (f : LinkFrame) (l : List Byte) (always : Bool)
    (go : LinkHdr → List Byte → State → State × LinkRes) : State :=
  let h := linkHdrOf f l
  let ack := h.flags % 2 == 1
  if !s.linkMine h.dst then s
  else
    match s.linkDetail ty f h l with
    | some d =>
      let s := s.fwViolation 7 h.port d h.mac ack
      if ack then s.nak h nkMalformed d else s
    | none =>
      let s := s.linkHeard h
      if (mget (fun _ => []) s.link.seen h.src).contains h.seq then
        if ack then s.linkSend 0x3E h.src [h.seq] else s
      else
        match go h (linkBodyOf l) (s.seqKeep h.src h.seq) with
        | (s, .done) => if ack then s.linkSend 0x3E h.src [h.seq] else s
        | (s, .nak r) => if ack || always then s.nak h r 0 else s
        | (s, .bad c d r) =>
          let s := s.fwViolation c h.port d h.mac (ack || always)
          if ack || always then s.nak h r d else s

/-- A received message of the TYPE that a command names: dropped from a quarantined source (R280), opened where it is sealed,
and taken. `always` answers a refusal with NAK even without ACK_REQ (R391, R407). A frame of another TYPE is not what the
command stands for, and changes nothing. -/
def State.linkMsg (s : State) (ty : Nat) (f : LinkFrame) (always : Bool)
    (go : LinkHdr → List Byte → State → State × LinkRes) : State :=
  if linkTy f ≠ ty ∨ s.linkOn = false ∨ s.netUp f.port.val = false then s
  else if s.quarantined f.port.val f.mac.toNat then s.cnt f.port.val cRxQuar
  else
    match s.linkClear f with
    | none => s.fwViolation 7 f.port.val 7 f.mac.toNat false
    | some l => if byteAt l 1 = ty then s.linkTake ty f l always go else s.fwViolation 7 f.port.val 7 f.mac.toNat false

/-- A message that only the active manager takes (R385 WRONG_ROLE). -/
def State.forManager (s : State) (f : State → State × LinkRes) : State × LinkRes :=
  if s.link.active then f s else (s, .nak nkRole)

/-- A message that only a manager's word carries: from the active manager as this node knows it. -/
def State.fromManager (s : State) (h : LinkHdr) (f : State → State × LinkRes) : State × LinkRes :=
  let n := h.src
  if (match s.link.mgr with | some m => n == m | none => Nat.ble n 1) then f s else (s, .nak nkRole)

/-! ### Admission at the manager (R389 to R394) -/

def State.admOf (s : State) (n : Nat) : Option Adm := s.link.adms.find? fun a => a.node == n

/-- The admitted map of a manager (R406). -/
def State.admMap (s : State) : Nat := s.link.adms.foldl (fun m a => if m.testBit a.node then m else m + 2 ^ a.node) 0

/-- An admission ended at the manager: its bit clear, and its endpoints in a state. -/
def State.admDrop (s : State) (n st : Nat) : State :=
  let s := { s with link := { s.link with adms := s.link.adms.filter fun a => a.node != n } }
  s.nodeEps n st

/-- A node refused (R390). -/
def State.refuse (s : State) (n reason : Nat) : State :=
  let s := { s with link := { s.link with
    refused := mset (fun _ => 0) s.link.refused n s.now, tries := s.link.tries.filter fun (t : Trying) => t.node != n } }
  (s.linkSend 0x05 n [reason]).admDrop n epUnadmitted

/-- The first of reasons 1 to 4 and 7 that applies to a HELLO. -/
def State.helloReason (s : State) (h : LinkHdr) (b : Hello) : Nat :=
  let n := h.src
  let y := s.skein.system
  if !(y.nodes.any fun x => x.num == n && x.idh == b.idh) then 1
  else if b.rate ≠ (if s.sys.rate96 then 1 else 0) ∨ b.round ≠ s.sys.n then 2
  else if !y.skds.contains b.skd then 3
  else if (b.role == 1) != Nat.ble n 1 then 4
  else if s.link.adms.any fun a => a.node == n && a.mac != h.mac then 7
  else 0

/-- Admissions in progress whose answer is not overdue (R390). -/
def State.inProgress (s : State) : Nat := (s.link.tries.filter fun t => Nat.blt s.now (t.since + 500 * ms1)).length

/-- ATTEST_REQ sent with a fresh nonce. -/
def State.attestReq (s : State) (n mac hello : Nat) : State :=
  let (v, s) := s.pick (2 ^ 256)
  let t : Trying := { node := n, mac := mac, nonce := v, since := s.now, hello := hello }
  let s := { s with link := { s.link with tries := (s.link.tries.filter fun (t : Trying) => t.node != n) ++ [t] } }
  s.linkSend 0x02 n [v]

/-- A HELLO taken up. -/
def State.startAdmission (s : State) (h : LinkHdr) (b : Hello) : State :=
  match s.helloReason h b with
  | 0 => s.attestReq h.src h.mac b.nonce
  | r => s.refuse h.src r

/-- HELLOs waiting taken up in arrival order while fewer than 8 admissions are in progress. -/
def State.nextHello (s : State) : State :=
  match s.link.waiting with
  | f :: t =>
    if s.inProgress < 8 then
      let s := { s with link := { s.link with waiting := t } }
      match s.linkClear f with
      | some l => s.startAdmission (linkHdrOf f l) (Hello.ofBytes (linkBodyOf l))
      | none => s
    else s
  | [] => s

/-- Whether a manager answers HELLOs of a node: the active one all, a standby that of the other manager (R408). -/
def State.admits (s : State) (n : Nat) : Bool :=
  s.link.active || (s.isMgr && !s.link.listening && n == 1 - s.nodeNo)

/-- Evidence on the nonce of an admission in progress (R447): the key's hash is the one listed for the node, and the signature
over the nonce and bytes 0x000 to 0x19F verifies under it. -/
def State.evidenceOk (s : State) (n nonce : Nat) (ev : List Byte) : Bool :=
  let key := (beAt ev 0x140 48, beAt ev 0x170 48)
  (s.skein.system.nodes.any fun x => x.num == n && x.idh == keyHash key)
    && p384.verify key (sha384 (beBytes nonce 32 ++ ev.take 0x1A0)) (beAt ev 0x1A0 48) (beAt ev 0x1D0 48)
    && byteAt ev 0 == 1 && zeroAt ev 0x1C 4

/-- Whether every measurement of evidence is in the accepted lists. -/
def State.measuresOk (s : State) (ev : List Byte) : Bool :=
  ((pieces 48 6 (ev.drop 0x20)).all fun m => s.skein.system.accepted.contains (beNat m))

def execHello (f : LinkFrame) (s : State) : Out :=
  .next (s.linkMsg 0x01 f false fun h body s =>
    let n := h.src
    let b := Hello.ofBytes body
    if !b.ok then (s, .bad 7 6 nkMalformed)
    else if !s.admits n then (s, .done)
    else
      let recent := (s.link.hellos.filter fun e => Nat.blt s.now (e.2 + sec1)) ++ [(n, s.now)]
      let s := { s with link := { s.link with hellos := recent } }
      if 10 < (recent.filter fun e => e.1 == n).length then (s, .bad 5 6 nkMalformed)
      else
        let adms := s.link.adms.map fun (a : Adm) => if a.node = n then { a with hello := b.nonce } else a
        let s := { s with link := { s.link with adms := adms } }
        let at_ := mget (fun _ => 0) s.link.refused n
        if at_ ≠ 0 ∧ s.now < at_ + 10 * sec1 then (s, .done)
        else if b.state = 1 ∧ (s.admOf n).isSome then (s, .done)
        else if s.link.tries.any fun t => t.node == n && Nat.blt s.now (t.since + 500 * ms1) then (s, .done)
        else
          let s := if (s.admOf n).any (fun a => a.mac == h.mac) then s.admDrop n epUnadmitted else s
          if s.inProgress < 8 then (s.startAdmission h b, .done)
          else
            let same (g : LinkFrame) : Bool := match s.linkClear g with | some l => (linkHdrOf g l).src == n | none => false
            let w := (s.link.waiting.filter fun g => !same g) ++ [f]
            ({ s with link := { s.link with waiting := w } }, .done))

/-- An ADMIT sent: SIG by this manager's identity key over one of the node's HELLO nonces (R391). -/
def State.admitSend (s : State) (a : Adm) : State :=
  let (k, s) := s.pick (p384.n - 1)
  let sig := p384.sign dikPriv (admitDigest a.hello s.nodeNo a.node s.link.term a.adm) (k + 1)
  s.linkSend 0x04 a.node [s.link.term, a.adm, a.lease, 0, sig.1, sig.2]

def execAttestResp (f : LinkFrame) (s : State) : Out :=
  .next (s.linkMsg 0x03 f false fun h body s =>
    let n := h.src
    let ev := body.drop 32
    match s.link.tries.find? fun (t : Trying) => t.node == n with
    | none => (s, .bad 5 1 nkOrder)
    | some t =>
      if !s.evidenceOk n (beAt body 0 32) ev || !s.measuresOk ev then ((s.refuse n 5).nextHello, .done)
      else if t.since + 500 * ms1 < s.now ∨ t.nonce ≠ beAt body 0 32 then ((s.refuse n 6).nextHello, .done)
      else if !s.skein.system.lcs.contains (byteAt ev 1) then ((s.refuse n 8).nextHello, .done)
      else
        let lease := s.skein.system.reattest + 60
        let a : Adm := { node := n, mac := t.mac, adm := s.link.nextAdm, since := s.now, lease := lease, hello := t.hello }
        let s := { s with link := { s.link with
          adms := (s.link.adms.filter fun (x : Adm) => x.node != n) ++ [a], nextAdm := (s.link.nextAdm + 1) % 2 ^ 32,
          tries := s.link.tries.filter fun (x : Trying) => x.node != n } }
        ((s.admitSend a).nextHello, .done))

/-- Records of an INVENTORY or EVENT taken into the directory (R398, R400). -/
def State.takeReports (s : State) (n : Nat) (l : List EpRec) : State × LinkRes :=
  let bad (r : EpRec) : Bool :=
    Nat.ble (2 ^ 17) r.index || r.res != 0 || !(r.state == 1 || r.state == 2) || Nat.ble 7 r.kind
  if 92 < l.length ∨ l.any bad = true then (s, .bad 7 6 nkMalformed)
  else if l.any fun r => s.dirValid r.index && s.dirNode r.index != n then (s, .bad 7 8 nkMalformed)
  else
    (l.foldl (fun (s : State) (r : EpRec) =>
      if s.dirValid r.index then s.dirSet r.index r.state r.cond
      else s.wardenEvent 6 [n, r.index, r.state, r.cond]) s, .done)

/-- A report of a node, which needs its admission (R412 DISCOVERY 0x02). -/
def State.fromAdmitted (s : State) (h : LinkHdr) (f : State → State × LinkRes) : State × LinkRes :=
  s.forManager fun s => if (s.admOf h.src).isSome then f s else (s, .bad 5 2 nkNotAdmitted)

def execInventory (f : LinkFrame) (s : State) : Out :=
  .next (s.linkMsg 0x06 f false fun h body s => s.fromAdmitted h fun s => s.takeReports h.src (epRecs body))

def execEvent (f : LinkFrame) (s : State) : Out :=
  .next (s.linkMsg 0x12 f false fun h body s => s.fromAdmitted h fun s => s.takeReports h.src (epRecs body))

def execBye (f : LinkFrame) (s : State) : Out :=
  .next (s.linkMsg 0x07 f false fun h body s => s.forManager fun s =>
    if 2 < byteAt body 0 then (s, .bad 7 6 nkMalformed)
    else (s.admDrop h.src (if byteAt body 0 = 1 then epSleeping else epAbsent), .done))

/-- No frame of a node for 3 s (R392). -/
def execNodeLostTimeout (n : Fin 257) (s : State) : Out :=
  .next (match s.link.heard.find? fun e => e.1 == n.val with
    | some e =>
      if s.link.active ∧ (s.admOf n.val).isSome = true then (s.moveTo (e.2.2 + 3 * sec1)).admDrop n.val epLost else s
    | none => s)

/-- The REATTEST interval of an admitted node (R392). -/
def execReattestTimer (n : Fin 257) (s : State) : Out :=
  .next (match s.admOf n.val with
    | some a =>
      if s.link.active then
        (s.moveTo (a.since + s.skein.system.reattest * sec1)).attestReq n.val a.mac a.hello
      else s
    | none => s)

/-! ### Admission at a node (R389, R391, R393) -/

/-- A HELLO sent, with a fresh nonce (R389). -/
def execHelloSend (s : State) : Out :=
  .next (if !s.linkOn then s
    else
      let (v, s) := s.pick (2 ^ 256)
      let s := { s with link := { s.link with nonces := (v :: s.link.nonces).take 4 } }
      let one (b : Bool) : Nat := if b then 1 else 0
      s.linkSend 0x01 0xFFFF [one s.isMgr, one s.link.own.isSome, one s.sys.rate96, s.sys.n, s.link.term, v, deviceIdh,
        s.skein.digest16, s.skein.system.peer])

/-- An ATTEST_REQ: the Net controller asks the Boot controller for evidence on the nonce (R384, R447). -/
def execAttestReq (f : LinkFrame) (s : State) : Out :=
  .next (s.linkMsg 0x02 f false fun h body s => s.fromManager h fun s =>
    ({ s with link := { s.link with attest := some (h.src, beAt body 0 32) } }, .done))

/-- STATE and COND of an endpoint that this node hosts (R398, R400). -/
def State.ownRecord (s : State) (kind local_ : Nat) : Nat × Nat :=
  if kind = 1 then
    let st := s.rf (SUPV_LINE_STAT_STATE local_)
    (if s.bit (SUPV_LINE_MAP (local_ / 32)) (local_ % 32) then epFault else epPresent, st)
  else if kind = 2 then
    let st := s.rf (SUPV_MIC_STAT_STATE local_)
    (if st = 0 then epPresent else epFault, st)
  else (epPresent, 0xFF)

/-- The INVENTORY of this node. -/
def State.inventory (s : State) : List Nat :=
  s.skein.endpoints.length :: (s.skein.endpoints.map fun e =>
    let r := s.ownRecord e.1 e.2.1
    [e.2.2, e.1, r.1, r.2, s.sys.roundNo % 2 ^ 32, s.seconds % 2 ^ 32]).flatten

/-- A message of the manager with a TERM below the active one (R407, R412 DISCOVERY 0x05). -/
def State.termOk (s : State) (term : Nat) : Bool := Nat.ble s.link.term term

/-- Whether SIG of an ADMIT from a manager verifies over one of the nonces of the last four HELLOs (R391). -/
def State.admitSigOk (s : State) (mgr : Nat) (b : AdmitBody) : Bool :=
  match s.skein.system.mgrKeys.find? fun e => e.1 == mgr with
  | some e => s.link.nonces.any fun v => p384.verify e.2 (admitDigest v mgr s.nodeNo b.term b.adm) b.sigR b.sigS
  | none => false

/-- An ADMIT, of which DETAIL 3 says that this node has sent no HELLO nonce and DETAIL 4 that SIG fails for all of them. -/
def execLinkAdmit (f : LinkFrame) (s : State) : Out :=
  .next (s.linkMsg 0x04 f true fun h body s =>
    let b := AdmitBody.ofBytes body
    if !s.termOk b.term then (s, .bad 5 5 nkRole)
    else s.fromManager h fun s =>
      if b.res ≠ 0 then (s, .bad 7 6 nkMalformed)
      else if s.link.nonces.isEmpty then (s, .bad 5 3 nkOrder)
      else if !s.admitSigOk h.src b then (s, .bad 5 4 nkMalformed)
      else
        let own : OwnAdm := { adm := b.adm, lease := b.lease, since := s.now }
        let s := { s with link := { s.link with own := some own, term := b.term, mgr := some h.src } }
        (s.linkSend 0x06 h.src s.inventory, .done))

def execRefuse (f : LinkFrame) (s : State) : Out :=
  .next (s.linkMsg 0x05 f false fun h body s => s.fromManager h fun s =>
    if byteAt body 0 = 0 ∨ 8 < byteAt body 0 then (s, .bad 7 6 nkMalformed)
    else ({ s with link := { s.link with own := none } }, .done))

/-- A lease that runs out (R393): this node's own, or at the manager that of a node. -/
def execLeaseExpire (n : Option (Fin 257)) (s : State) : Out :=
  .next (match n with
    | none =>
      match s.link.own with
      | some o =>
        let s := s.moveTo (o.since + o.lease * sec1)
        { s with link := { s.link with own := none } }
      | none => s
    | some n =>
      match s.admOf n.val with
      | some a => if s.link.active then (s.moveTo (a.since + a.lease * sec1)).admDrop n.val epUnadmitted else s
      | none => s)

/-- A message that needs this node's admission (R391, R393). -/
def State.asAdmitted (s : State) (h : LinkHdr) (f : State → State × LinkRes) : State × LinkRes :=
  if s.link.own.isSome || s.link.active then s.fromManager h f else (s, .nak nkNotAdmitted)

/-- A WAKE while the node is awake: it changes nothing beyond its answer. -/
def execLinkWake (f : LinkFrame) (s : State) : Out :=
  .next (s.linkMsg 0x23 f true fun h _ s => s.asAdmitted h fun s => (s, .done))

/-- An announcement: received as SAP and forwarded to the manager, or its message at the manager (R299, R384). -/
def execLinkAnnounce (f : Option LinkFrame) (sap : List Byte) (s : State) : Out :=
  .next (match f with
    | none => if s.link.active then s else s.linkSend 0x13 0xFFFE (sap.map (·.toNat))
    | some f => s.linkMsg 0x13 f false fun h _ s => s.fromAdmitted h fun s => (s, .done))

/-! ### Zone commands (R401 to R405) -/

/-- The words of an action on a crosspoint with its own RAMP. -/
def State.zoneAction (s : State) (c : ZoneCmd) (op idx : Nat) (m : Image) : List Word :=
  let own := (s.entry (s.newest idx)).img
  let m := m.setRamp own.rampCode
  actionWords kRoute c.due.toNat c.tag.toNat (op * 16) [BitVec.ofNat 32 idx, m.w0, m.w1, m.w2 &&& 0xCFFF0000#32]

/-- Whether a command keeps to R402: operation, argument, zone and reserved fields. -/
def zoneOk (c : ZoneCmd) : Bool :=
  Nat.blt c.zone.toNat 4096 && c.res == 0#32 &&
    (match c.op.toNat with
      | 1 => Nat.blt c.arg.toNat 16
      | 2 => Nat.ble c.arg.toNat 240
      | 3 => true
      | 4 => true
      | _ => false)

/-- The actions of a command for a zone that this node serves, and the parameter records of its preset (R161): the GAIN
result becomes the base gain (R403). -/
def State.zoneQueue (s : State) (c : ZoneCmd) (b : SkZone) : State × Nat :=
  let img (s : State) (i : Nat) : Image := (s.entry (s.newest i)).img
  let l := if c.op = 1#8 then mget (fun _ => []) b.presets c.arg.toNat
    else b.xps.map fun i => (i, img s i)
  (l.foldl (fun s e =>
    match c.op.toNat with
    | 1 => s.wardenAction (s.zoneAction c 2 e.1 e.2)
    | 2 =>
      let g := gainDb (s.baseGain e.1) (-(c.arg.toNat : Int))
      let m : Image := { e.2 with w1 := setBits e.2.w1 23 0 g }
      (s.setBaseGain e.1 g).wardenAction (s.zoneAction c 2 e.1 m)
    | 3 => s.wardenAction (s.zoneAction c 4 e.1 e.2)
    | _ => s.wardenAction (s.zoneAction c 5 e.1 e.2))
    (if c.op = 1#8 then s.paramsFor (.preset c.zone.toNat c.arg.toNat) c.due.toNat else s), l.length)

/-- One command at a node (R403, R404): nothing for another zone, QUEUED again for a repetition. -/
def State.zoneTake (s : State) (c : ZoneCmd) : State :=
  match s.skein.system.zones.find? fun e => e.1 == c.zone.toNat with
  | none => s
  | some e =>
    let ack (s : State) : State := s.linkSend 0x11 0xFFFE [c.tag.toNat, 1, c.due.toNat, 0, 0, 0, 0]
    if s.link.zones.any fun z => z.tag == c.tag.toNat && z.due == c.due.toNat then ack s
    else
      let (s, n) := s.zoneQueue c e.2
      let z : ZoneDone := { tag := c.tag.toNat, due := c.due.toNat, total := n, done := 0, late := 0, refused := 0, discarded := 0 }
      let l := s.link.zones ++ [z]
      ack { s with link := { s.link with zones := l.drop (l.length - 1024) } }

/-- The numbers of a ZONE_CMD body. -/
def zoneNums (c : ZoneCmd) : List Nat := [1, c.due.toNat, c.zone.toNat, c.op.toNat, c.arg.toNat, c.tag.toNat, c.term.toNat]

/-- A command that the manager issues: due LEAD rounds ahead, with its TERM and the next TAG (R402, R408). -/
def State.zoneIssue (s : State) (c : ZoneCmd) : State :=
  let c := { c with
    due := BitVec.ofNat 48 (s.sys.roundNo + s.skein.system.lead), tag := BitVec.ofNat 16 s.link.nextTag,
    term := BitVec.ofNat 32 s.link.term }
  let z : ZoneOut := { cmd := c, sent := s.sys.roundNo, queued := [], done := [] }
  let s := { s with link := { s.link with nextTag := (s.link.nextTag + 1) % 65536, zout := s.link.zout ++ [z] } }
  let s := s.linkSend 0x10 0xFFFF (zoneNums c)
  let other := 1 - s.nodeNo
  let s := if (s.admOf other).isSome then s.linkSend 0x21 other (s.link.gen :: 2 :: zoneNums c) else s
  s.zoneTake c

def execZoneCmd (o : ZoneFrom) (s : State) : Out :=
  .next (match o with
    | .msg f => s.linkMsg 0x10 f true fun h body s => s.asAdmitted h fun s =>
        let l := zoneCmdsOf body
        if !zoneHeadOk body || l.any fun c => !zoneOk c then (s, .bad 7 6 nkMalformed)
        else if l.any fun c => !s.termOk c.term.toNat then (s, .bad 5 5 nkRole)
        else (l.foldl State.zoneTake s, .done)
    | .warden l => if s.linkOn && s.link.active then (l.filter zoneOk).foldl State.zoneIssue s else s
    | .host q l =>
      if s.linkOn && s.link.active then
        (l.filter zoneOk).foldl (fun (s : State) (c : ZoneCmd) =>
          if s.skein.system.hostZones.contains c.zone.toNat then s.zoneIssue c
          else s.privViol (if q then 4 else 3) c.zone.toNat) s
      else s)

def execZoneAck (f : LinkFrame) (s : State) : Out :=
  .next (s.linkMsg 0x11 f false fun h body s => s.fromAdmitted h fun s =>
    let b := ZoneAck.ofBytes body
    if b.stage = 0 ∨ 2 < b.stage ∨ b.res ≠ 0 then (s, .bad 7 6 nkMalformed)
    else
      let n := h.src
      let l := s.link.zout.map fun (z : ZoneOut) =>
        if z.cmd.tag.toNat = b.tag ∧ z.cmd.due.toNat = b.due then
          if b.stage = 1 then { z with queued := n :: z.queued } else { z with queued := n :: z.queued, done := n :: z.done }
        else z
      ({ s with link := { s.link with zout := l } }, .done))

/-- RESEND rounds after a zone command was last sent (R405): sent again to those without QUEUED until DUE − 1; after DUE
those without DONE are logged as a zone miss. -/
def execZoneCmdResend (tag : BitVec 16) (s : State) : Out :=
  .next (match s.link.zout.find? fun (z : ZoneOut) => z.cmd.tag == tag with
    | none => s
    | some z =>
      let served := s.skein.system.served z.cmd.zone.toNat
      if !s.link.active || Nat.blt s.sys.roundNo (z.sent + s.skein.system.resend) then s
      else if s.sys.roundNo < z.cmd.due.toNat then
        let l := served.filter fun n => !z.queued.contains n && n != s.nodeNo
        let s := { s with link := { s.link with
          zout := s.link.zout.map fun (y : ZoneOut) => if y = z then { z with sent := s.sys.roundNo } else y } }
        l.foldl (fun s n => s.linkSend 0x10 n (zoneNums z.cmd)) s
      else if s.sys.roundNo = z.cmd.due.toNat then s
      else
        let miss := served.filter fun n => !z.done.contains n && n != s.nodeNo
        let s := { s with link := { s.link with zout := s.link.zout.filter fun (y : ZoneOut) => y != z } }
        miss.foldl (fun s n => s.wardenEvent 7 [z.cmd.zone.toNat, tag.toNat, n]) s)

/-! ### Managers (R406 to R408) -/

/-- The manager becomes active with a TERM, which is kept (R407). -/
def State.becomeActive (s : State) (term : Nat) : State :=
  let s := { s with link := { s.link with
    active := true, listening := false, term := term % 2 ^ 32, mgr := some s.nodeNo, map := s.admMap } }
  s.logRec 5 [term]

/-- The manager becomes standby. -/
def State.becomeStandby (s : State) (n : Nat) : State :=
  { s with link := { s.link with active := false, mgr := some n } }

/-- A MGR_BEAT with ROLE 1 obeyed: TERM, sender and admitted map kept; an own bit clear ends the admission. -/
def State.obeyBeat (s : State) (n term map : Nat) : State :=
  let s := { s with link := { s.link with mgr := some n, term := term, map := map, beatAt := s.now } }
  if s.link.own.isSome && !map.testBit s.nodeNo then { s with link := { s.link with own := none } } else s

def execMgrBeat (f : LinkFrame) (s : State) : Out :=
  .next (s.linkMsg 0x20 f false fun h body s =>
    let n := h.src
    let b := Beat.ofBytes body
    if 1 < n then (s, .nak nkRole)
    else if b.res ≠ 0 ∨ b.role = 0 ∨ 2 < b.role ∨ 2 ^ 257 ≤ b.map then (s, .bad 7 6 nkMalformed)
    else if b.role = 2 then (s, .done)
    else if s.link.active then
      if s.link.term < b.term ∨ (s.link.term = b.term ∧ s.nodeNo = 1) then
        ((s.becomeStandby n).obeyBeat n b.term b.map, .done)
      else (s, .done)
    else if b.term < s.link.term then (s, .bad 5 5 nkRole)
    else
      let s := s.obeyBeat n b.term b.map
      ({ s with link := { s.link with listening := false, wantFull := s.link.wantFull || b.gen != s.link.gen } }, .done))

/-- A beat of a manager, every 10 ms (R406). -/
def execMgrBeatSend (s : State) : Out :=
  .next (if s.linkOn && s.isMgr && !s.link.listening then
      let s := s.moveTo (s.link.beatSent + 10 * ms1)
      let s := { s with link := { s.link with beatSent := s.now } }
      let s := if s.link.active then { s with link := { s.link with map := s.admMap } } else s
      s.linkSend 0x20 0xFFFF [s.link.term, s.link.gen, if s.link.active then 1 else 2, s.admMap]
    else s)

/-- The end of the listening at start (R407): 500 ms for M0, 750 ms for M1. -/
def execManagerStartListenEnd (s : State) : Out :=
  .next (if s.linkOn && s.isMgr && s.link.listening then
      (s.moveTo (s.link.started + (if s.nodeNo = 0 then 500 else 750) * ms1)).becomeActive (s.link.term + 1)
    else s)

/-- No beat of the active manager for 30 ms at a standby that has admitted it (R407, R408): mirrored commands not yet due
are sent to those without QUEUED. -/
def execManagerTakeover (s : State) : Out :=
  .next (if s.linkOn && s.isMgr && !s.link.listening && !s.link.active && (s.admOf (1 - s.nodeNo)).isSome then
      let s := (s.moveTo (s.link.beatAt + 30 * ms1)).becomeActive (s.link.term + 1)
      s.link.zout.foldl (fun (s : State) (z : ZoneOut) =>
        if s.sys.roundNo < z.cmd.due.toNat then
          let c := { z.cmd with term := BitVec.ofNat 32 s.link.term }
          ((s.skein.system.served c.zone.toNat).filter fun n => !z.queued.contains n && n != s.nodeNo).foldl
            (fun s n => s.linkSend 0x10 n (zoneNums c)) s
        else s) s
    else s)

/-- A mirrored item (R408). -/
def State.syncItem (s : State) (i : SyncItem) : State :=
  match i with
  | .entry ix ws => s.dirMirror ix ws
  | .zone c =>
    let z : ZoneOut := { cmd := c, sent := s.sys.roundNo, queued := [], done := [] }
    if s.link.zout.any fun y => y.cmd.tag == c.tag && y.cmd.due == c.due then s
    else { s with link := { s.link with zout := s.link.zout ++ [z] } }
  | .reserved => s

/-- Whether an item keeps to R408. -/
def syncOk : SyncItem → Bool
  | .entry ix _ => Nat.blt ix (2 ^ 17)
  | .zone c => zoneOk c
  | .reserved => false

def execDirSync (f : LinkFrame) (s : State) : Out :=
  .next (s.linkMsg 0x21 f false fun h body s =>
    let g := beAt body 0 4
    let l := syncItems body
    if s.link.active || !s.isMgr then (s, .nak nkRole)
    else if (s.admOf h.src).isNone then (s, .nak nkNotAdmitted)
    else if Nat.blt 40 l.length || l.any fun i => !syncOk i then (s, .bad 7 6 nkMalformed)
    else if g = s.link.gen ∨ g = (s.link.gen + 1) % 2 ^ 32 ∨ s.link.wantFull = true then
      (l.foldl State.syncItem { s with link := { s.link with gen := g, wantFull := false } }, .done)
    else ({ s with link := { s.link with wantFull := true } }, .nak nkOrder))

/-- The whole directory and the zone commands in progress sent to the standby. -/
def State.fullCopy (s : State) (n : Nat) : State :=
  let s := s.skein.system.eps.foldl (fun (s : State) (e : SkEp) =>
    s.linkSend 0x21 n ([s.link.gen, 1, e.index] ++ (List.range 8).map fun w => (s.dirWord e.index w).toNat)) s
  s.link.zout.foldl (fun (s : State) (z : ZoneOut) => s.linkSend 0x21 n (s.link.gen :: 2 :: zoneNums z.cmd)) s

/-! ### Acknowledgements (R385) -/

/-- A message acknowledged by the node that it went to. -/
def State.linkAcked (s : State) (n q : Nat) : State :=
  { s with link := { s.link with out := s.link.out.filter fun (m : OutMsg) =>
    !(m.seq == q && (m.dst == n || m.dst == 0xFFFE || m.dst == 0xFFFF)) } }

def execLinkAck (f : LinkFrame) (s : State) : Out :=
  .next (s.linkMsg 0x3E f false fun h body s => (s.linkAcked h.src (beAt body 0 4), .done))

/-- A NAK: the message is not sent again; OUT_OF_ORDER for a DIR_SYNC asks for a full copy (R408). -/
def execLinkNak (f : LinkFrame) (s : State) : Out :=
  .next (s.linkMsg 0x3F f false fun h body s =>
    let q := beAt body 0 4
    let reason := byteAt body 4
    if reason = 0 ∨ 7 < reason then (s, .bad 7 6 nkMalformed)
    else
      let sync := s.link.out.any fun m => m.seq == q && m.ty == 0x21
      let s := s.linkAcked h.src q
      (if reason = 4 ∧ sync = true ∧ s.link.active = true ∧ byteAt body 5 = 0 then s.fullCopy h.src else s, .done))

/-- 2 ms without an acknowledgement of the oldest message waiting: sent again, up to three times. -/
def execLinkResendTimeout (s : State) : Out :=
  .next (match s.link.out with
    | [] => s
    | m :: t =>
      let s := s.moveTo (m.since + 2 * ms1)
      if m.tries < 3 then
        let m' : OutMsg := { m with since := s.now, tries := m.tries + 1 }
        (({ s with link := { s.link with out := t ++ [m'] } }).linkFrames m')
      else { s with link := { s.link with out := t } })

/-- The TYPEs of R384. -/
def linkTypes : List Nat :=
  [0x01, 0x02, 0x03, 0x04, 0x05, 0x06, 0x07, 0x10, 0x11, 0x12, 0x13, 0x20, 0x21, 0x23, 0x30, 0x31, 0x3E, 0x3F, 0x40]

/-- A reserved TYPE (R384, R412). -/
def execLinkReservedType (f : LinkFrame) (s : State) : Out :=
  .next (if linkTypes.contains (linkTy f) then s else s.linkMsg (linkTy f) f false fun _ _ s => (s, .bad 7 3 nkUnknown))

/-! ### Talkers and starts (R394, R413) -/

/-- A boundary's share of R394: a context of an alarm talker runs only while the talker's bit is set in the map. -/
def State.talkerBoundary (s : State) : State :=
  s.skein.system.talkers.foldl (fun (s : State) e =>
    let want := s.link.map.testBit e.2
    if s.flag (CTX_CFG_EN e.1) = want then s
    else
      let s' := s.ctxCfgWrite 2 e.1 (setBits (s.reg (CTX_CFG e.1)) 31 31 (if want then 1 else 0))
      { s' with bus := s.bus }) s

/-- Lysle link after power-on, device reset or wake: TERM kept, a manager listening with a fresh directory. -/
def State.linkStart (s : State) : State :=
  let k := { Link.init with
    term := s.link.term, sealNext := max s.link.sealNext s.link.sealTop, sealTop := s.link.sealTop, listening := s.isMgr,
    started := s.now, beatSent := s.now, beatAt := s.now }
  ({ s with link := k }).dirLoad

end Sys2Proof.Machine
end

