-- ==== Sys2Proof/Machine/Ports.lean ====
section
/-! DEFINITION. Machine/Ports.lean: the reset of a master port (R459 of
spec/15_matrix_mailboxes_host.md). -/
namespace Sys2Proof.Machine

open Reg

/-- The owner of a lock, none when it is free (R460). -/
def State.lockOwner (s : State) (n : Nat) : Option Nat :=
  if s.flag (LOCK_PEEK_HELD n) then some (s.rf (LOCK_PEEK_OWNER n)) else none

/-- Every lock that a port holds released as broken. -/
def State.breakLocks (s : State) (p : Nat) : State :=
  (List.range 64).foldl (fun s n =>
    if s.lockOwner n = some p then
      let s := s.setReg (LOCK_PEEK n) 0#32
      let s := s.setBit (if n < 32 then LOCK_BROKEN_LO else LOCK_BROKEN_HI) (n % 32)
      s.raise LOCK_EVT_BROKEN
    else s) s

/-- The stall limit of a stalled access: of its cluster, 1 ms with the die off; of LPDDR5X. -/
def State.stallLimit (s : State) (x : Stall) : Nat :=
  let d := stallDomain x.addr
  if d = 18 then 100 * us1
  else if s.flag (if d < 8 then PWR_STAT_CD0 else PWR_STAT_CD1) then 100 * us1 else ms1

/-- Transactions of a port still outstanding: its stalled accesses. -/
def State.outstanding (s : State) (p : Nat) : Nat := (s.power.stalls.filter fun x => x.agent == p).length

/-- A reset of a master port (R459): its outstanding accesses are completed for it without effect, its
locks are broken, and it is disconnected until they have retired. -/
def State.portReset (s : State) (p : Nat) : State :=
  let had := s.power.stalls.any fun x => x.agent == p
  let s := { s with power := { s.power with stalls := s.power.stalls.map fun (x : Stall) =>
    if x.agent = p then { x with write := false, size := 0 } else x } }
  let s := s.breakLocks p
  let s := s.setReg (MATRIX_PORT_STAT p) (BitVec.ofNat 32 (2 ^ 30 + s.outstanding p))
  let s := s.raise MATRIX_EVT_PORT_RESET
  if had then s.raise MATRIX_EVT_BURST_DONE_FOR else s

/-- A reset port reconnected once every transaction of it has retired. -/
def State.portReconnect (s : State) (p : Nat) : State :=
  if bitAt (s.reg (MATRIX_PORT_STAT p)) 30 && s.outstanding p == 0 then s.setReg (MATRIX_PORT_STAT p) 0x80000000#32
  else s

end Sys2Proof.Machine
end

