-- ==== Sys2Proof/Machine/Mbox.lean ====
section
/-! DEFINITION. Machine/Mbox.lean: locks, mailboxes and the remote mailbox (R459 to R469, R477, R478 of
spec/15_matrix_mailboxes_host.md; R409, R410 of spec/13_manager_and_workers.md). -/
namespace Sys2Proof.Machine

open Reg

/-! ### Locks (R460, R461) -/

/-- A read of LOCK[n]: the test and set. -/
def State.lockRead (s : State) (a n : Nat) : State :=
  match s.lockOwner n with
  | none => (s.setRegN (LOCK_PEEK n) (2 ^ 31 + a)).ok 0#32
  | some o => s.ok (BitVec.ofNat 32 (2 ^ 31 + o))

def execLockRead (a : Agent) (n : Fin 64) (s : State) : Out :=
  .next (s.access a.val (LOCK n.val) false 0#32 fun s => s.lockRead a.val n.val)

/-- A write of LOCK[n]: a release by the owner; any other is ignored, recorded and logged. -/
def State.lockWrite (s : State) (a n : Nat) (v : Word) : State :=
  if s.lockOwner n = some a ∧ v.toNat = a then (s.setReg (LOCK_PEEK n) 0#32).ok 0#32
  else
    let s := (s.setRegN LOCK_BAD (a * 256 + n)).raise LOCK_EVT_BAD_RELEASE
    (s.privViol a (regBase + LOCK n)).ok 0#32

def execLockRelease (a : Agent) (n : Fin 64) (v : Word) (s : State) : Out :=
  .next (s.regWrite a (LOCK n.val) v fun s => s.lockWrite a.val n.val v)

/-! ### Mailboxes (R463 to R469) -/

/-- The receiver of a mailbox (R463). -/
def mboxOwner (k : Nat) : Nat :=
  if k < 4 then 0 else if k < 12 then 1 else if k < 20 then 2 else if k < 24 then 3 else if k < 28 then 4 else 5

def State.mboxFull (s : State) (k : Nat) : Bool := s.flag (MBOX_STAT_FULL k)
def State.mboxSender (s : State) (k : Nat) : Nat := s.rf (MBOX_STAT_SENDER k)

/-- Fabric cycles for which a mailbox's message has been unread. -/
def State.mboxAge (s : State) (k : Nat) : Nat := (s.now - mget (fun _ => 0) s.matrix.posted k) / 15

/-- MBOX_STAT as it reads: AGE follows the clock. -/
def State.mboxStat (s : State) (k : Nat) : Word :=
  setBits (s.reg (MBOX_STAT k)) 15 0 (if s.mboxFull k then min (s.mboxAge k) 65535 else 0)

/-- CROSS on both mailboxes (R468). -/
def State.crossing (s : State) (a k : Nat) : State :=
  let y := mboxOwner k
  (List.range 32).foldl (fun s j =>
    if mboxOwner j = a ∧ s.mboxFull j = true ∧ s.mboxSender j = y ∧ 64 < s.mboxAge j then
      ((s.raise (MBOX_STAT_CROSS j)).raise (MBOX_STAT_CROSS k)).raise MBOX_EVT_CROSS
    else s) s

/-- Words 1 to 15 posted into a mailbox by an agent (R464, R465). -/
def State.mboxPost (s : State) (a k : Nat) (ws : List Word) : State :=
  let s := s.crossing a k
  let hit := s.mboxFull k
  let prev := s.mboxSender k
  let n := mget (fun _ => 0) s.matrix.sends k % 256
  let w0 := n * 2 ^ 24 + (if hit then 2 ^ 23 + prev * 2 ^ 16 else 0) + a
  let s := s.setRegN (MBOX_DATA k 0) w0
  let s := (List.range 15).foldl (fun s i => s.setReg (MBOX_DATA k (i + 1)) (ws.getD i 0#32)) s
  let s := (s.sf (MBOX_STAT_FULL k) 1).sf (MBOX_STAT_SENDER k) a
  let s := if hit then (s.raise (MBOX_STAT_COLLISION k)).raise MBOX_EVT_COLLISION else s
  let s := s.setBit (MBOX_DB (mboxOwner k)) k
  { s with matrix := { s.matrix with
    posted := mset (fun _ => 0) s.matrix.posted k s.now, sends := mset (fun _ => 0) s.matrix.sends k ((n + 1) % 256),
    waits := mset (fun _ => 0) s.matrix.waits k 0 } }

/-! ### The remote mailbox (R409, R410) -/

def State.box (s : State) (k : Nat) : List BoxMsg := mget (fun _ => []) s.link.boxes k
def State.setBox (s : State) (k : Nat) (l : List BoxMsg) : State :=
  { s with link := { s.link with boxes := mset (fun _ => []) s.link.boxes k l } }

/-- The first message that agent 5 holds for a mailbox put into it while no message stands there unread. -/
def State.boxPost (s : State) (k : Nat) : State :=
  match s.box k with
  | m :: t =>
    if m.posted || s.mboxFull k then s
    else
      let s := s.mboxPost 5 k (BitVec.ofNat 32 (m.src * 65536 + m.rseq) :: m.words)
      s.setBox k ({ m with posted := true, since := s.now } :: t)
  | [] => s

/-- The outcome of the first message sent to its source, and the next taken up. -/
def State.boxEnd (s : State) (k status : Nat) : State :=
  match s.box k with
  | m :: t =>
    let s := (s.linkSend 0x31 m.src [m.rseq, status]).setBox k t
    let s := match t with
      | x :: u => s.setBox k ({ x with since := s.now } :: u)
      | [] => s
    s.boxPost k
  | [] => s

/-- A mailbox released while agent 5 holds messages for it: its own message has been read, or a place is free. -/
def State.boxReleased (s : State) (k sender : Nat) : State :=
  match s.box k with
  | m :: _ =>
    if sender = 5 ∧ m.posted = true then (s.clrBit (MBOX_ACK 5) k).boxEnd k 0
    else s.boxPost k
  | [] => s

/-- A release of a mailbox by its receiver (R466). -/
def State.mboxRelease (s : State) (k : Nat) : State :=
  let o := s.mboxSender k
  let s := (s.sf (MBOX_STAT_FULL k) 0).clrBit (MBOX_DB (mboxOwner k)) k
  let s := if o < 22 then s.setBit (MBOX_ACK o) k else s
  s.boxReleased k o

/-- A write of MBOX_RELEASE. -/
def State.mboxReleaseWrite (s : State) (a k : Nat) : State :=
  if mboxOwner k = a ∧ s.mboxFull k = true then (s.mboxRelease k).ok 0#32 else s.err

def execMboxRelease (a : Agent) (k : Fin 32) (s : State) : Out :=
  .next (s.regWrite a MBOX_RELEASE (BitVec.ofNat 32 k.val) fun s => s.mboxReleaseWrite a.val k.val)

/-- Agent 5's own mailbox served (R409): a message of the Warden or the Net controller goes out as MBOX to the node and
mailbox that its word 1 names. -/
def State.boxServe (s : State) (a k : Nat) : State :=
  let w1 := s.reg (MBOX_DATA k 1)
  let dst := bitsOf w1 31 16
  let q := s.link.rseq
  let body := [bitsOf w1 4 0, q] ++ (List.range 14).map fun i => (s.reg (MBOX_DATA k (i + 2))).toNat
  let s := s.mboxRelease k
  if (a = 1 ∨ a = 2) ∧ s.linkOn = true then
    let s := { s with link := { s.link with
      rseq := (q + 1) % 65536, boxOut := (s.link.boxOut ++ [(q, dst, bitsOf w1 4 0)]).drop (s.link.boxOut.length - 63) } }
    s.linkSend 0x30 dst body
  else s

/-- A write of MBOX_SEND (R464): posted, posted with a collision, or DENIED. -/
def State.mboxSendWrite (s : State) (a k : Nat) : State :=
  let stat (s : State) (r : Nat) : State :=
    ({ s with matrix := { s.matrix with sendStat := mset (fun _ => 0) s.matrix.sendStat a r } }).ok 0#32
  if mboxOwner k = a ∨ ((a = 3 ∨ a = 4) ∧ s.bit MATRIX_HMBOX k = false) then stat s 2
  else
    let hit := s.mboxFull k
    let s := s.mboxPost a k ((List.range 15).map fun i => mget (fun _ => 0#32) s.matrix.stg (16 * a + i + 1))
    let s := if 28 ≤ k then s.boxServe a k else s
    stat s (if hit then 1 else 0)

def execMboxSend (a : Agent) (k : Fin 32) (s : State) : Out :=
  .next (s.regWrite a MBOX_SEND (BitVec.ofNat 32 k.val) fun s => s.mboxSendWrite a.val k.val)

/-- Every inbound mailbox of an agent drained (R469). -/
def State.mboxDrain (s : State) (a : Nat) : State :=
  (List.range 32).foldl (fun s k => if mboxOwner k = a ∧ s.mboxFull k = true then s.mboxRelease k else s) s

/-- 10 ms of a device agent's wait for the acknowledgement of the message that it left in a mailbox (R469): its inbound
mailboxes drained, the event logged with the CROSS bits, and after three the message lost. -/
def execMboxAckTimeout (a : Fin 3) (k : Fin 32) (s : State) : Out :=
  let n := mget (fun _ => 0) s.matrix.waits k.val
  .next (if s.mboxFull k.val && s.mboxSender k.val == a.val && Nat.blt n 3 then
      let s := (s.moveTo (mget (fun _ => 0) s.matrix.posted k.val + (n + 1) * 10 * ms1)).mboxDrain a.val
      let cross := (List.range 32).foldl (fun m j => if s.flag (MBOX_STAT_CROSS j) then m + 2 ^ j else m) 0
      let s := s.wardenEvent 8 [a.val, k.val, n + 1, cross]
      { s with matrix := { s.matrix with waits := mset (fun _ => 0) s.matrix.waits k.val (n + 1) } }
    else s)

/-- A remote message for a local mailbox (R409, R410). -/
def execMboxRemote (f : LinkFrame) (s : State) : Out :=
  .next (s.linkMsg 0x30 f true fun h body s =>
    let n := h.src
    let k := byteAt body 0
    let rseq := beAt body 2 2
    let ws := (pieces 4 14 (body.drop 4)).map fun b => BitVec.ofNat 32 (beNat b)
    let answer (s : State) (st : Nat) : State := s.linkSend 0x31 n [rseq, st]
    let take (s : State) : State × LinkRes :=
      if 31 < k ∨ byteAt body 1 ≠ 0 then (s, .bad 7 6 nkMalformed)
      else if !s.skein.system.boxes.contains k then (answer s 2, .done)
      else if 17 ≤ (s.box k).length then (answer s 1, .done)
      else
        let m : BoxMsg := { src := n, rseq := rseq, words := ws, since := s.now, posted := false }
        ((s.setBox k (s.box k ++ [m])).boxPost k, .done)
    if s.link.active then (if (s.admOf n).isSome then take s else (answer s 4, .done))
    else s.asAdmitted h take)

/-- The outcome of a message that this node sent (R410): one that failed is logged. -/
def execMboxRemoteAck (f : LinkFrame) (s : State) : Out :=
  .next (s.linkMsg 0x31 f false fun h body s =>
    let rseq := beAt body 0 2
    let status := byteAt body 2
    if 4 < status then (s, .bad 7 6 nkMalformed)
    else
      let hit (e : Nat × Nat × Nat) : Bool := e.1 == rseq && e.2.1 == h.src
      if s.link.boxOut.any hit then
        let s := { s with link := { s.link with boxOut := s.link.boxOut.filter fun e => !hit e } }
        (if status = 0 then s else s.wardenEvent 9 [rseq, h.src, status], .done)
      else (s, .done))

/-- 10 ms of the first message that agent 5 holds for a mailbox (R410): TIMEOUT, or BUSY behind another's message. -/
def execMboxRemoteTimeout (k : Fin 32) (s : State) : Out :=
  .next (match s.box k.val with
    | m :: _ => (s.moveTo (m.since + 10 * ms1)).boxEnd k.val (if m.posted then 3 else 1)
    | [] => s)

end Sys2Proof.Machine
end

