-- ==== Sys2Proof/Machine/StakeP.lean ====
section
/-! DEFINITION. Machine/StakeP.lean: the format P instructions (R115, R117, R124, R127 to R129 of
spec/04_stake_instruction_set.md). -/
namespace Sys2Proof.Machine

/-- Whether the loads of an instruction clash: with each other, or with a d register that its compute part
writes (R115). -/
def loadsClash (l1 : Option Load1) (l2 : Option Load2) (writes : List Nat) : Bool :=
  let d1 := match l1 with | some x => [x.dst.val] | none => []
  let d2 := match l2 with | some x => [x.dst.val] | none => []
  d1.any (d2.contains ·) || (d1 ++ d2).any (writes.contains ·)

/-- A format P operation with its slots. -/
def pOp (m : PSlots) (writes : List Nat) (o : Op) : Op :=
  { o with l1 := m.l1, l2 := m.l2, st := m.st, legal := o.legal && !loadsClash m.l1 m.l2 writes }

/-- The four indexes of a group. -/
def four (base : Nat) : List Nat := [base, base + 1, base + 2, base + 3]

/-- Product of two d registers, both signed. -/
def Arch.prod (r : Arch) (i j : Nat) : Int := sWord (r.rd i) * sWord (r.rd j)

/-- A change of the four accumulators of a group. -/
def quad (g : Nat) (f : Arch → Nat → Nat → Arch) (r : Arch) : Arch :=
  (List.range 4).foldl (fun q i => f q (4 * g + i) i) r

def execPnop (k : Fin 128) (m : PSlots) (s : State) : Out :=
  .next (s.issue k.val (pOp m [] {}))

def execQmac (k : Fin 128) (g : Fin 2) (x y : Fin 8) (m : PSlots) (s : State) : Out :=
  .next (s.issue k.val (pOp m []
    { dUse := four (4 * x.val) ++ four (4 * y.val), aAcc := four (4 * g.val), aOut := four (4 * g.val),
      run := fun o r => quad g.val (fun q n i => q.accumulate n (o.prod (4 * x.val + i) (4 * y.val + i))) r }))

def execQmsu (k : Fin 128) (g : Fin 2) (x y : Fin 8) (m : PSlots) (s : State) : Out :=
  .next (s.issue k.val (pOp m []
    { dUse := four (4 * x.val) ++ four (4 * y.val), aAcc := four (4 * g.val), aOut := four (4 * g.val),
      run := fun o r => quad g.val (fun q n i => q.accumulate n (-o.prod (4 * x.val + i) (4 * y.val + i))) r }))

def execQmul (k : Fin 128) (g : Fin 2) (x y : Fin 8) (m : PSlots) (s : State) : Out :=
  .next (s.issue k.val (pOp m []
    { dUse := four (4 * x.val) ++ four (4 * y.val), aOut := four (4 * g.val),
      run := fun o r => quad g.val (fun q n i => q.replace n (o.prod (4 * x.val + i) (4 * y.val + i))) r }))

/-- The exact sum of four products. -/
def Arch.dot4 (r : Arch) (x y : Nat) : Int :=
  r.prod (4 * x) (4 * y) + r.prod (4 * x + 1) (4 * y + 1) + r.prod (4 * x + 2) (4 * y + 2) + r.prod (4 * x + 3) (4 * y + 3)

def execQdot (k : Fin 128) (a x y : Fin 8) (m : PSlots) (s : State) : Out :=
  .next (s.issue k.val (pOp m []
    { dUse := four (4 * x.val) ++ four (4 * y.val), aAcc := [a.val], aOut := [a.val],
      run := fun o r => r.accumulate a.val (o.dot4 x.val y.val) }))

def execQdotz (k : Fin 128) (a x y : Fin 8) (m : PSlots) (s : State) : Out :=
  .next (s.issue k.val (pOp m []
    { dUse := four (4 * x.val) ++ four (4 * y.val), aOut := [a.val],
      run := fun o r => r.replace a.val (o.dot4 x.val y.val) }))

def execBmac (k : Fin 128) (g : Fin 2) (c : Fin 32) (w : Fin 8) (m : PSlots) (s : State) : Out :=
  .next (s.issue k.val (pOp m []
    { dUse := c.val :: four (4 * w.val), aAcc := four (4 * g.val), aOut := four (4 * g.val),
      run := fun o r => quad g.val (fun q n i => q.accumulate n (o.prod c.val (4 * w.val + i))) r }))

/-- The window of a filter tap slid one sample into the past (R127). -/
def slidePast (o : Arch) (w : Nat) (r : Arch) : Arch :=
  (((r.setD (w + 3) (o.rd (w + 2))).setD (w + 2) (o.rd (w + 1))).setD (w + 1) (o.rd w)).setD w (o.rd (w + 4))

def execFtapz (k : Fin 128) (g : Fin 2) (c : Fin 32) (w : Fin 8) (m : PSlots) (s : State) : Out :=
  .next (s.issue k.val (pOp m (four (4 * w.val))
    { legal := w.val != 7, dUse := [c.val, 4 * w.val + 4] ++ four (4 * w.val), aOut := four (4 * g.val),
      dAlu := four (4 * w.val),
      run := fun o r => slidePast o (4 * w.val) (quad g.val (fun q n i => q.replace n (o.prod c.val (4 * w.val + i))) r) }))

def execFtap (k : Fin 128) (g : Fin 2) (c : Fin 32) (w : Fin 8) (m : PSlots) (s : State) : Out :=
  .next (s.issue k.val (pOp m (four (4 * w.val))
    { legal := w.val != 7, dUse := [c.val, 4 * w.val + 4] ++ four (4 * w.val), aAcc := four (4 * g.val),
      aOut := four (4 * g.val), dAlu := four (4 * w.val),
      run := fun o r => slidePast o (4 * w.val) (quad g.val (fun q n i => q.accumulate n (o.prod c.val (4 * w.val + i))) r) }))

def execPmac (k : Fin 128) (a : Fin 8) (x : Fin 32) (y : Fin 16) (m : PSlots) (s : State) : Out :=
  let i := x.val
  .next (s.issue k.val (pOp m []
    { dUse := [i, 16 + y.val], aAcc := [a.val], aOut := [a.val],
      run := fun o r => r.accumulate a.val (o.prod i (16 + y.val)) }))

def execPmsu (k : Fin 128) (a : Fin 8) (x : Fin 32) (y : Fin 16) (m : PSlots) (s : State) : Out :=
  let i := x.val
  .next (s.issue k.val (pOp m []
    { dUse := [i, 16 + y.val], aAcc := [a.val], aOut := [a.val],
      run := fun o r => r.accumulate a.val (-o.prod i (16 + y.val)) }))

def execPmul (k : Fin 128) (a : Fin 8) (x : Fin 32) (y : Fin 16) (m : PSlots) (s : State) : Out :=
  let i := x.val
  .next (s.issue k.val (pOp m []
    { dUse := [i, 16 + y.val], aOut := [a.val],
      run := fun o r => r.replace a.val (o.prod i (16 + y.val)) }))

/-- The interpolation ROM (R129): `floor(L_j(f) * 2^30 + 1/2)` with `f = phi / 64`, exactly. -/
def fdlyRom (phi : Int) (j : Nat) : Int :=
  let (n, d) := match j with
    | 0 => (-(phi * (64 - phi) * (64 + phi)), (6 : Int))
    | 1 => (phi * (64 + phi) * (128 - phi), 2)
    | 2 => ((64 - phi) * (64 + phi) * (128 - phi), 2)
    | _ => (-(phi * (64 - phi) * (128 - phi)), 6)
  (n * 8192 + d) / (2 * d)

/-- The window of FDLY slid one sample forward in time (R128). -/
def slideOn (o : Arch) (w : Nat) (r : Arch) : Arch :=
  (((r.setD w (o.rd (w + 1))).setD (w + 1) (o.rd (w + 2))).setD (w + 2) (o.rd (w + 3))).setD (w + 3) (o.rd (w + 4))

def execFdly (k : Fin 128) (a : Fin 8) (w : Fin 8) (f : Fin 32) (sh : Bool) (m : PSlots) (s : State) : Out :=
  let b := 4 * w.val
  .next (s.issue k.val (pOp m (if sh then four b else [])
    { legal := w.val != 7, dUse := f.val :: (four b ++ if sh then [b + 4] else []), aOut := [a.val],
      dAlu := if sh then four b else [],
      run := fun o r =>
        let phi : Int := ((o.rd f.val).toNat % 64 : Nat)
        let v := fdlyRom phi 0 * sWord (o.rd b) + fdlyRom phi 1 * sWord (o.rd (b + 1))
          + fdlyRom phi 2 * sWord (o.rd (b + 2)) + fdlyRom phi 3 * sWord (o.rd (b + 3))
        let r := r.replace a.val v
        if sh then slideOn o b r else r }))

end Sys2Proof.Machine
end

