-- ==== Sys2Proof/Machine/StakeR.lean ====
section
/-! DEFINITION. Machine/StakeR.lean: the format R instructions (R115, R118, R121 to R124 of
spec/04_stake_instruction_set.md). -/
namespace Sys2Proof.Machine

/-- A format R operation with its slots; `writes` are the d registers that the operation writes. -/
def rOp (m : RSlots) (writes : List Nat) (o : Op) : Op :=
  { o with l2 := m.l2, st := m.st, legal := o.legal && !loadsClash none m.l2 writes, dAlu := o.dAlu ++ writes }

/-- A number limited to a signed word (R121). -/
def clampWord (x : Int) : Word := wordOfInt (satQ31 x)

/-- An ALU operation of two d registers into a third, with NF and ZF (R118, R121). -/
def aluOp (m : RSlots) (d s1 s2 : Fin 32) (f : Word → Word → Word) : Op :=
  rOp m [d.val]
    { dUse := [s1.val, s2.val], nz := true,
      run := fun o r =>
        let v := f (o.rd s1.val) (o.rd s2.val)
        (r.setD d.val v).flagsOf v }

/-- An ALU operation of one d register into another, with NF and ZF. -/
def alu1Op (m : RSlots) (d s1 : Fin 32) (f : Word → Word) : Op :=
  rOp m [d.val]
    { dUse := [s1.val], nz := true,
      run := fun o r =>
        let v := f (o.rd s1.val)
        (r.setD d.val v).flagsOf v }

/-- Arithmetic right shift of a word. -/
def sraWord (x : Word) (k : Nat) : Word := wordOfInt (sWord x / 2 ^ k)

/-- A comparison's flags (R121): NF for less, ZF for equal. -/
def cmpOp (m : RSlots) (use : List Nat) (f : Arch → Int × Int) : Op :=
  rOp m [] { dUse := use, nz := true, run := fun o r => let (x, y) := f o; r.setNZ (decide (x < y)) (x == y) }

def execAdd (k : Fin 128) (d s1 s2 : Fin 32) (m : RSlots) (s : State) : Out :=
  .next (s.issue k.val (aluOp m d s1 s2 (fun x y => x + y)))

def execSub (k : Fin 128) (d s1 s2 : Fin 32) (m : RSlots) (s : State) : Out :=
  .next (s.issue k.val (aluOp m d s1 s2 (fun x y => x - y)))

def execAdds (k : Fin 128) (d s1 s2 : Fin 32) (m : RSlots) (s : State) : Out :=
  .next (s.issue k.val (aluOp m d s1 s2 (fun x y => clampWord (sWord x + sWord y))))

def execSubs (k : Fin 128) (d s1 s2 : Fin 32) (m : RSlots) (s : State) : Out :=
  .next (s.issue k.val (aluOp m d s1 s2 (fun x y => clampWord (sWord x - sWord y))))

def execAnd (k : Fin 128) (d s1 s2 : Fin 32) (m : RSlots) (s : State) : Out :=
  .next (s.issue k.val (aluOp m d s1 s2 (fun x y => x &&& y)))

def execOr (k : Fin 128) (d s1 s2 : Fin 32) (m : RSlots) (s : State) : Out :=
  .next (s.issue k.val (aluOp m d s1 s2 (fun x y => x ||| y)))

def execXor (k : Fin 128) (d s1 s2 : Fin 32) (m : RSlots) (s : State) : Out :=
  .next (s.issue k.val (aluOp m d s1 s2 (fun x y => x ^^^ y)))

def execMin (k : Fin 128) (d s1 s2 : Fin 32) (m : RSlots) (s : State) : Out :=
  .next (s.issue k.val (aluOp m d s1 s2 (fun x y => if sWord x ≤ sWord y then x else y)))

def execMax (k : Fin 128) (d s1 s2 : Fin 32) (m : RSlots) (s : State) : Out :=
  .next (s.issue k.val (aluOp m d s1 s2 (fun x y => if sWord x ≤ sWord y then y else x)))

def execShl (k : Fin 128) (d s1 s2 : Fin 32) (m : RSlots) (s : State) : Out :=
  .next (s.issue k.val (aluOp m d s1 s2 (fun x y => x <<< (y.toNat % 32))))

def execShr (k : Fin 128) (d s1 s2 : Fin 32) (m : RSlots) (s : State) : Out :=
  .next (s.issue k.val (aluOp m d s1 s2 (fun x y => x >>> (y.toNat % 32))))

def execShra (k : Fin 128) (d s1 s2 : Fin 32) (m : RSlots) (s : State) : Out :=
  .next (s.issue k.val (aluOp m d s1 s2 (fun x y => sraWord x (y.toNat % 32))))

def execMov (k : Fin 128) (d s1 : Fin 32) (m : RSlots) (s : State) : Out :=
  .next (s.issue k.val (rOp m [d.val] { dUse := [s1.val], run := fun o r => r.setD d.val (o.rd s1.val) }))

def execNeg (k : Fin 128) (d s1 : Fin 32) (m : RSlots) (s : State) : Out :=
  .next (s.issue k.val (alu1Op m d s1 (fun x => clampWord (-sWord x))))

def execAbs (k : Fin 128) (d s1 : Fin 32) (m : RSlots) (s : State) : Out :=
  .next (s.issue k.val (alu1Op m d s1 (fun x => clampWord ((sWord x).natAbs : Int))))

def execNot (k : Fin 128) (d s1 : Fin 32) (m : RSlots) (s : State) : Out :=
  .next (s.issue k.val (alu1Op m d s1 (fun x => ~~~x)))

/-- SLIDE (R122): a run of `len + 2` registers up by one, the bottom one from `src`. -/
def execSlide (k : Fin 128) (d src : Fin 32) (len : Fin 3) (m : RSlots) (s : State) : Out :=
  let n := len.val + 2
  let run := (List.range n).map fun j => d.val + j
  .next (s.issue k.val (rOp m run
    { legal := Nat.ble (d.val + n - 1) 31, dUse := src.val :: run,
      run := fun o r =>
        ((List.range (n - 1)).foldl (fun q j => q.setD (d.val + j + 1) (o.rd (d.val + j))) r).setD d.val (o.rd src.val) }))

/-- A 12-bit immediate, sign-extended. -/
def imm12 (x : BitVec 12) : Word := x.signExtend 32

def execAddi (k : Fin 128) (d s1 : Fin 32) (imm : BitVec 12) (m : RSlots) (s : State) : Out :=
  .next (s.issue k.val (alu1Op m d s1 (fun x => x + imm12 imm)))

def execAndi (k : Fin 128) (d s1 : Fin 32) (imm : BitVec 12) (m : RSlots) (s : State) : Out :=
  .next (s.issue k.val (alu1Op m d s1 (fun x => x &&& imm12 imm)))

def execShli (k : Fin 128) (d s1 : Fin 32) (sh : Fin 32) (m : RSlots) (s : State) : Out :=
  .next (s.issue k.val (alu1Op m d s1 (fun x => x <<< sh.val)))

def execShri (k : Fin 128) (d s1 : Fin 32) (sh : Fin 32) (m : RSlots) (s : State) : Out :=
  .next (s.issue k.val (alu1Op m d s1 (fun x => x >>> sh.val)))

def execShrai (k : Fin 128) (d s1 : Fin 32) (sh : Fin 32) (m : RSlots) (s : State) : Out :=
  .next (s.issue k.val (alu1Op m d s1 (fun x => sraWord x sh.val)))

def execCmp (k : Fin 128) (s1 s2 : Fin 32) (m : RSlots) (s : State) : Out :=
  .next (s.issue k.val (cmpOp m [s1.val, s2.val] fun o => (sWord (o.rd s1.val), sWord (o.rd s2.val))))

def execCmpi (k : Fin 128) (s1 : Fin 32) (imm : BitVec 12) (m : RSlots) (s : State) : Out :=
  .next (s.issue k.val (cmpOp m [s1.val] fun o => (sWord (o.rd s1.val), imm.toInt)))

/-- What MOVFR reads (R123). -/
def Arch.sregRead (r : Arch) (rcnt : Word) : SReg → Word
  | .p n => (r.rp n.val).setWidth 32
  | .m n => (r.rm n.val).signExtend 32
  | .b n => (r.rb n.val).setWidth 32
  | .l n => (r.rl n.val).setWidth 32
  | .lc n => (r.rlc n.val).setWidth 32
  | .st => r.st
  | .rcnt => rcnt

/-- What a move writes into a special register (R103, R123). -/
def Arch.sregWrite (r : Arch) (v : Word) : SReg → Arch
  | .p n => r.setP n.val (v.setWidth 20)
  | .m n => r.setM n.val (v.setWidth 20)
  | .b n => r.setB n.val (v.setWidth 20)
  | .l n => r.setL n.val (v.setWidth 20)
  | .lc n => r.setLc n.val (v.setWidth 16)
  | .st => { r with st := moveSt r.st v }
  | .rcnt => r

/-- The low 32 bits of the round number, which RCNT reads (R73). -/
def State.rcnt (s : State) : Word := BitVec.ofNat 32 s.sys.roundNo

def execMovfr (k : Fin 128) (d : Fin 32) (x : SReg) (m : RSlots) (s : State) : Out :=
  let n := s.rcnt
  .next (s.issue k.val (rOp m [d.val] { run := fun o r => r.setD d.val (o.sregRead n x) }))

def execMovto (k : Fin 128) (d : Fin 32) (x : SReg) (m : RSlots) (s : State) : Out :=
  .next (s.issue k.val (rOp m []
    { legal := x != .rcnt, dUse := [d.val], sreg := some x, run := fun o r => r.sregWrite (o.rd d.val) x }))

/-- A product under a signedness (R124). -/
def prodSg (x y : Word) : Sg → Int
  | .ss => sWord x * sWord y
  | .su => sWord x * (y.toNat : Int)
  | .uu => (x.toNat : Int) * (y.toNat : Int)

def execMac (k : Fin 128) (a : Fin 8) (x y : Fin 32) (sg : Sg) (m : RSlots) (s : State) : Out :=
  .next (s.issue k.val (rOp m []
    { dUse := [x.val, y.val], aAcc := [a.val], aOut := [a.val],
      run := fun o r => r.accumulate a.val (prodSg (o.rd x.val) (o.rd y.val) sg) }))

def execMsu (k : Fin 128) (a : Fin 8) (x y : Fin 32) (sg : Sg) (m : RSlots) (s : State) : Out :=
  .next (s.issue k.val (rOp m []
    { dUse := [x.val, y.val], aAcc := [a.val], aOut := [a.val],
      run := fun o r => r.accumulate a.val (-prodSg (o.rd x.val) (o.rd y.val) sg) }))

def execMul (k : Fin 128) (a : Fin 8) (x y : Fin 32) (sg : Sg) (m : RSlots) (s : State) : Out :=
  .next (s.issue k.val (rOp m []
    { dUse := [x.val, y.val], aOut := [a.val],
      run := fun o r => r.replace a.val (prodSg (o.rd x.val) (o.rd y.val) sg) }))

def execMuln (k : Fin 128) (a : Fin 8) (x y : Fin 32) (sg : Sg) (m : RSlots) (s : State) : Out :=
  .next (s.issue k.val (rOp m []
    { dUse := [x.val, y.val], aOut := [a.val],
      run := fun o r => r.replace a.val (-prodSg (o.rd x.val) (o.rd y.val) sg) }))

def execAclr (k : Fin 128) (a : Fin 8) (m : RSlots) (s : State) : Out :=
  .next (s.issue k.val (rOp m [] { aOut := [a.val], run := fun _ r => r.replace a.val 0 }))

def execAadd (k : Fin 128) (a b : Fin 8) (m : RSlots) (s : State) : Out :=
  .next (s.issue k.val (rOp m []
    { aAcc := [a.val], aPart := [b.val], aOut := [a.val],
      run := fun o r => r.accumulate a.val (o.acc b.val).toInt }))

def execAsub (k : Fin 128) (a b : Fin 8) (m : RSlots) (s : State) : Out :=
  .next (s.issue k.val (rOp m []
    { aAcc := [a.val], aPart := [b.val], aOut := [a.val],
      run := fun o r => r.accumulate a.val (-(o.acc b.val).toInt) }))

def execMova (k : Fin 128) (a : Fin 8) (x : Fin 32) (m : RSlots) (s : State) : Out :=
  .next (s.issue k.val (rOp m []
    { dUse := [x.val], aOut := [a.val], run := fun o r => r.replace a.val (sWord (o.rd x.val) * 2147483648) }))

def execMovap (k : Fin 128) (a : Fin 8) (part : Part) (x : Fin 32) (m : RSlots) (s : State) : Out :=
  .next (s.issue k.val (rOp m []
    { dUse := [x.val], aPart := [a.val], aOut := [a.val],
      run := fun o r => r.replaceRaw a.val (setPart (o.acc a.val) (o.rd x.val) part) }))

def execRnd (k : Fin 128) (d : Fin 32) (a : Fin 8) (sh : Fin 16) (m : RSlots) (s : State) : Out :=
  .next (s.issue k.val { rOp m [d.val]
    { aMov := [a.val], rnd := true,
      run := fun o r =>
        let (v, sat) := roundAcc o.rnd (o.acc a.val) sh.val
        let r := r.setD d.val v
        if sat then r.evSat else r } with dAlu := [], dMov := [d.val] })

def execRaw (k : Fin 128) (d : Fin 32) (a : Fin 8) (part : Part) (m : RSlots) (s : State) : Out :=
  .next (s.issue k.val { rOp m [d.val]
    { aMov := [a.val], run := fun o r => r.setD d.val (rawPart (o.acc a.val) part) } with dAlu := [], dMov := [d.val] })

def execLda (k : Fin 128) (a : Fin 8) (coil : Bool) (p mode : Fin 8) (m : RSlots) (s : State) : Out :=
  .next (s.issue k.val (rOp m [] { lda := some ⟨a.val, coil, p.val, mode.val⟩ }))

end Sys2Proof.Machine
end

