-- ==== Sys2Proof/Machine/StakeC.lean ====
section
/-! DEFINITION. Machine/StakeC.lean: the format C instructions and the reserved encodings (R95 to R102,
R110, R119, R120, R123, R125, R126 of spec/03 and spec/04). -/
namespace Sys2Proof.Machine

def execBr (k : Fin 128) (t : Fin 8192) (s : State) : Out :=
  .next (s.issue k.val { ctl := .branch t.val })

def execBrc (k : Fin 128) (c : Cond) (t : Fin 8192) (s : State) : Out :=
  .next (s.issue k.val { ctl := .branchIf c t.val })

def execCall (k : Fin 128) (t : Fin 8192) (s : State) : Out :=
  .next (s.issue k.val { ctl := .call t.val })

def execRet (k : Fin 128) (s : State) : Out :=
  .next (s.issue k.val { ctl := .ret })

def execRep (k : Fin 128) (stop : Fin 8192) (count : BitVec 16) (s : State) : Out :=
  .next (s.issue k.val { ctl := .rep stop.val count.toNat })

def execRepd (k : Fin 128) (stop : Fin 8192) (d : Fin 32) (s : State) : Out :=
  .next (s.issue k.val { ctl := .repD stop.val d.val })

def execDone (k : Fin 128) (s : State) : Out :=
  .next (s.issue k.val { ctl := .done })

def execLdi (k : Fin 128) (d : Fin 32) (imm : Word) (s : State) : Out :=
  .next (s.issue k.val { dAlu := [d.val], run := fun _ r => r.setD d.val imm })

/-- LDIA (R119, R123): ST and RCNT are no destinations of it, and an immediate above 16 bits is none for a
loop counter. -/
def execLdia (k : Fin 128) (x : SReg) (imm : BitVec 20) (s : State) : Out :=
  let ok := match x with
    | .st | .rcnt => false
    | .lc _ => Nat.blt imm.toNat 65536
    | _ => true
  .next (s.issue k.val { legal := ok, sreg := some x, run := fun _ r => r.sregWrite (imm.setWidth 32) x })

/-- A reserved format, operation code or field, or a 1 in a bit that must be 0 (R110). -/
def execReservedInstruction (k : Fin 128) (s : State) : Out :=
  .next (s.issue k.val { legal := false })

end Sys2Proof.Machine
end

