-- ==== Sys2Proof/Machine/Clusters.lean ====
section
/-! DEFINITION. Machine/Clusters.lean: cluster sequencers, the long coil, digests and regions (R130 to
R159 of spec/05_clusters_and_regions.md). -/
namespace Sys2Proof.Machine

open Reg

/-- The stake numbers of a cluster (R28). -/
def stakesOf (c : Nat) : List Nat := (List.range 8).map fun j => 8 * c + j

/-- Schedule fields of a stake (R158). -/
def State.schedEn (s : State) (k : Nat) : Bool := s.flag (CL_SCHED_EN (k / 8) (k % 8))
def State.schedWale (s : State) (k : Nat) : Nat := s.rf (CL_SCHED_WALE (k / 8) (k % 8))
def State.schedEntry (s : State) (k : Nat) : Nat := s.rf (CL_SCHED_ENTRY (k / 8) (k % 8))
def State.schedDig (s : State) (k : Nat) : Nat := s.rf (CL_SCHED_DIG_CNT (k / 8) (k % 8))

/-! ### Starting stakes (R107, R131) -/

/-- The start of one stake: at its entry address, levels and return stack empty, round copies clear. -/
def State.startStake (s : State) (k : Nat) : State :=
  let t := s.stake k
  if s.schedEn k && (t.run == .held || t.run == .done) then
    s.setStake k { t with
      run := .running, entry := s.schedEntry k, cyc := 1, hz := [], reqs := [], frz := [], doneAt := none,
      arch := { t.arch with
        pc := s.schedEntry k, levels := [], ret := [], rovg := false, rsat := false, raccv := false, stores := [],
        due := [], ovgAt := 0, accvAt := 0 } }
  else s

/-- The start of every enabled stake of a wale. -/
def State.startWale (s : State) (c w : Nat) : State :=
  (stakesOf c).foldl (fun s k => if s.schedWale k = w then s.startStake k else s) s

/-- A cluster's round entry, step 5 of R27: a fault of the last round makes it FAULTED, a waiting START
makes a HELD cluster RUNNING, and a RUNNING one starts its wale 0. -/
def State.clusterEntry (s : State) (c : Nat) : State :=
  let x := s.cluster c
  let faulted := x.faulted && s.clState c == clRunning
  let s := if faulted then
      let s := s.setClState c clFaulted
      { s with power := { s.power with marks := mput (10 + c) s.now (mdrop (10 + c) s.power.marks) } }
    else s
  let x := if faulted && Nat.blt (s.now - x.since) sec1 then { x with faults := x.faults ++ [s.now] } else x
  let x := { x with faulted := false, budget := false, wale := 0, base := 0, dmaLate := false }
  let starts := x.start && s.clState c == clHeld && !x.gated && !s.power.together.contains c
  let s := if starts then (s.setClState c clRunning).setRegN (CL_START_RND c) s.sys.roundNo else s
  let x := if starts then { x with start := false, since := s.now, round := s.sys.roundNo } else x
  if s.clState c = clRunning then
    if x.gated then s.setCluster c { x with missed := true }
    else
      let s := if x.missed then s.setRegN (CL_START_RND c) s.sys.roundNo else s
      let x := if x.missed then { x with missed := false, round := s.sys.roundNo } else x
      (s.setCluster c x).startWale c 0
  else s.setCluster c x

/-- The last wale of a cluster's schedule. -/
def State.lastWale (s : State) (c : Nat) : Nat := s.rf (CL_STAT_WALES c)

/-- The clusters brought up together by a start, a return from Watch or an in-place activation enter RUNNING at one common round
entry, once none of them still loads (R156, R427, R440); one that has gone off or to ISOLATED meanwhile is not waited for. -/
def State.togetherStart (s : State) : State :=
  if s.power.together.any fun c => s.clState c == clLoading then s
  else
    let l := s.power.together
    l.foldl (fun (s : State) c => if s.clState c = clHeld then s.setCluster c { s.cluster c with start := true } else s)
      { s with power := { s.power with together := [] } }

/-- The enabled stakes of a wale. -/
def State.waleStakes (s : State) (c w : Nat) : List Nat := (stakesOf c).filter fun k => s.schedEn k && s.schedWale k == w

/-- The next wale started once every enabled stake of the present one has signalled done (R131). -/
def execWaleStart (c : Fin 16) (s : State) : Out :=
  let x := s.cluster c.val
  let l := s.waleStakes c.val x.wale
  let done := l.all fun k => (s.stake k).run == .done
  .next (if s.clState c.val = clRunning ∧ done = true ∧ x.budget = false ∧ x.faulted = false ∧ x.wale < s.lastWale c.val then
      let last := l.foldl (fun m k => max m (s.stake k).cycLast) 0
      (s.setCluster c.val { x with wale := x.wale + 1, base := x.base + last }).startWale c.val (x.wale + 1)
    else s)

/-! ### Port A (R133 to R135) -/

/-- The operating point of a cluster. -/
def State.clOp (s : State) (c : Nat) : Nat := s.rf (CL_STAT_OP c)

/-- The fabric cycle at whose edge a request of a stake cycle is presented, both counted from the edges that a round entry
aligns: the first at or after the stake clock edge (R134). -/
def fabricCycle (op c : Nat) : Nat := (8 * c + 5 * op + 4) / (5 * (op + 1))

/-- A stake's place in the order of port A in round `r`: stake r mod 8 of the cluster first (R134). -/
def portARank (r k : Nat) : Nat := (k % 8 + 8 - r % 8) % 8

/-- Whether port A may grant a stake's oldest access `wait` cycles after its request: no stake of the cluster waits for
the second grant of its instruction, and none ahead of it in the order of the round has a request presented by then
(R134). -/
def State.portATurn (s : State) (k wait : Nat) : Bool :=
  let op := s.clOp (k / 8)
  let r := s.sys.roundNo
  match (s.stake k).reqs with
  | [] => true
  | q :: _ => q.second || (stakesOf (k / 8)).all fun j => j == k ||
      match (s.stake j).reqs with
      | [] => true
      | p :: _ => !p.second
          && !(Nat.blt (portARank r j) (portARank r k) && Nat.ble (fabricCycle op p.req) (fabricCycle op (q.req + wait)))

/-- The longest coil wait at an operating point, in stake cycles (R135). -/
def coilWait (op : Nat) : Nat := 10 * (op + 1)

/-- A grant of port A to a stake's oldest waiting coil access, `wait` stake cycles after the request, and by its bound at
the latest; none while another access goes first (R133 to R135). -/
def execCoilGrant (k : Fin 128) (wait : Fin 41) (s : State) : Out :=
  let w := min wait.val (coilWait (s.clOp (k.val / 8)))
  .next (if s.portATurn k.val w then s.grant k.val w else s)

/-! ### The done signal and the budget point -/

/-- The cycle of a stake's done signal, counted from its start: six cycles after DONE, and later by the coil waits that
hold DONE in its stage (R100, R102, R105). -/
def Stake.doneCyc (t : Stake) : Option Nat := t.doneAt.map fun d => t.frz.foldl (fun c f => c + f.2) (d + 6)

/-- The budget of a round at a cluster's operating point (R18), less 2.0 µs where the Skein's pairing section is enabled
(R132, R315). -/
def State.budgetCycles (s : State) (c : Nat) : Nat :=
  s.sys.n * ((s.clOp c + 1) * 250000000) * 49 / (50 * s.sys.rate) - (if s.skein.pairOn then (s.clOp c + 1) * 500 else 0)

/-- A word of a register image as it reads (R80). -/
def Arch.readImage (r : Arch) (off : Nat) : Word :=
  if off < 0x80 then r.rd (off / 4)
  else if off < 0x100 then
    let a := r.acc ((off - 0x80) / 16)
    match (off - 0x80) % 16 / 4 with
    | 0 => rawPart a .l
    | 1 => rawPart a .h
    | 2 => rawPart a .g
    | _ => 0#32
  else if off < 0x120 then (r.rp ((off - 0x100) / 4)).setWidth 32
  else if off < 0x140 then (r.rm ((off - 0x120) / 4)).signExtend 32
  else if off < 0x160 then (r.rb ((off - 0x140) / 4)).setWidth 32
  else if off < 0x180 then (r.rl ((off - 0x160) / 4)).setWidth 32
  else if off < 0x190 then (r.rlc ((off - 0x180) / 4)).setWidth 32
  else if off = 0x190 then r.st
  else 0#32

/-- The register image of a stake that a donor sends at its done signal in the round before the commit of its cluster (R317). -/
def State.regsNote (s : State) (k : Nat) : State :=
  let due := match s.pair.rejoin with
    | some r => r.donor && r.c0 == some (s.sys.roundNo + 1 - k / 8) && Nat.ble (k / 8) (s.sys.roundNo + 1)
    | none => false
  if due then
    let ws := (List.range 101).map fun i => (s.stake k).arch.readImage (4 * i)
    { s with pair := { s.pair with mirror := s.pair.mirror ++ [⟨stakeBase k + 0x50000, ws, true⟩] } }
  else s

/-- A stake's done signal (R102, R105, R148), its cycles compared with the proof; the Warden logs a figure above it. -/
def State.signalDone (s : State) (k cyc : Nat) : State :=
  let t := s.stake k
  let s := s.commit t.arch.stores
  let s := s.setStake k { t with
    run := .done, cycLast := cyc, cycMax := max t.cycMax cyc, stCopy := t.arch.st, doneAt := none,
    arch := { t.arch with stores := [] } }
  let s := s.regsNote k
  let c := k / 8
  if s.rf (CL_WCC_WCC c (k % 8) (s.clOp c)) < cyc then (s.raise (CL_EVT_WCC_EXCEED c)).wardenEvent 15 [k, cyc] else s

/-- Whether a stake's done signal comes by the budget point: certainly, or, with `slack` 0, possibly (R131, R132). -/
def State.inTime (s : State) (k slack : Nat) : Bool :=
  let x := s.cluster (k / 8)
  match (s.stake k).doneCyc with
  | some cyc => (s.stake k).run == .running && (s.stake k).reqs.isEmpty
      && Nat.ble (x.base + x.wale * slack + cyc) (s.budgetCycles (k / 8))
  | none => false

/-- The done signal of a stake that has issued DONE and waits for no coil access; none after the budget point. -/
def execStakeDoneSignal (k : Fin 128) (s : State) : Out :=
  .next (match (s.stake k.val).doneCyc with
    | some cyc => if s.inTime k.val 0 then s.signalDone k.val cyc else s
    | none => s)

/-- The done signals that come before a cluster's budget point, those that the commands of the round have not made. -/
def State.lateSignals (s : State) (c : Nat) : State :=
  (stakesOf c).foldl (fun (s : State) k =>
    match (s.stake k).doneCyc with
    | some cyc => if s.inTime k 64 then s.signalDone k cyc else s
    | none => s) s

/-- The budget point of a cluster (R132, R142, R147): its instant, stakes still RUNNING are stopped, later wales stay
unstarted, and the round's overflow summary is latched. -/
def State.budgetPoint (s : State) (c : Nat) : State :=
  let x := s.cluster c
  if s.clState c = clRunning ∧ x.budget = false ∧ x.missed = false then
    let s := s.moveTo (s.sys.roundStart + 240 + s.budgetCycles c * 24 / (s.clOp c + 1))
    let s := s.lateSignals c
    let late := (stakesOf c).filter fun k => (s.stake k).run == .running
    let unstarted := (stakesOf c).any fun k => s.schedEn k && Nat.blt x.wale (s.schedWale k)
    let s := late.foldl (fun s k => s.stopStake k fBudget (s.stake k).lastPc) s
    let s := if late != [] || unstarted then s.raise (CL_EVT_BUDGET c) else s
    let ovf := (stakesOf c).foldl (fun v k =>
      let t := s.stake k
      if s.schedEn k then
        v + (if t.arch.rovg then 2 ^ (8 + k % 8) else 0) + (if t.arch.rsat then 2 ^ (k % 8) else 0)
      else v) 0
    let s := s.setRegN (CL_OVF c) ovf
    let s := s.setReg (CL_OVF_STK c) (s.reg (CL_OVF_STK c) ||| BitVec.ofNat 32 ovf)
    let s := if ovf != 0 then s.raise (CL_EVT_OVF c) else s
    let s := if x.dmaLate then (s.raise (CL_EVT_DMA_LATE c)).countUp (CL_DMA_STAT_LATE_CNT c) else s
    s.setCluster c { s.cluster c with budget := true }
  else s

def execBudgetPoint (c : Fin 16) (s : State) : Out := .next (s.budgetPoint c.val)

/-! ### The long coil (R138 to R142) -/

/-- One descriptor (R138). -/
structure Desc where
  valid : Bool
  read : Bool
  last : Bool
  coil : Nat
  count : Nat
  chans : Nat
  ring : Nat
  len : Nat
  stride : Nat
  delay : Nat
deriving DecidableEq, Repr

/-- The descriptor that eight words spell. -/
def Desc.ofWords (w : Nat → Word) : Desc :=
  { valid := bitAt (w 0) 31, read := bitAt (w 0) 30, last := bitAt (w 0) 29, coil := bitsOf (w 0) 18 0,
    count := bitsOf (w 1) 31 20, chans := bitsOf (w 1) 19 10 + 1, ring := bitsOf (w 2) 30 0,
    len := bitsOf (w 3) 17 0, stride := bitsOf (w 4) 30 0, delay := bitsOf (w 5) 17 0 }

/-- A word of a cluster's list as its engine reads it; the spec gives an uncorrectable one no value but that of the long
coil's words, 0 (DESIGN CHOICE, assumption log). -/
def State.descWord (s : State) (a : Nat) : Word := (s.loadWord a).getD 0#32

/-- Byte address of descriptor `i` of a cluster's list. -/
def State.descAddr (s : State) (c i : Nat) : Nat := coilBase c + 4 * ((s.rf (CL_DMA_ADDR c) + 8 * i) % 524288)

/-- Descriptor `i` of a cluster's list. -/
def State.desc (s : State) (c i : Nat) : Desc := Desc.ofWords fun n => s.descWord (s.descAddr c i + 4 * n)

/-- Byte address of ring index `x` of channel `i` (R139). -/
def Desc.ringAt (d : Desc) (i x : Nat) : Nat := 4 * (d.ring + i * d.stride + x % d.len)

/-- Fabric address of word `t` of channel `i` in a half of the coil area. -/
def Desc.coilAt (d : Desc) (c half i t : Nat) : Nat :=
  coilBase c + 4 * ((d.coil + half * (d.chans * d.count) + i * d.count + t) % 524288)

/-- A word written with fresh ECC. -/
def State.setWordEcc (s : State) (a : Nat) (v : Word) : State :=
  (s.setWord a v).freshEcc a

/-- A word of a long coil read delivered to its coil. -/
def State.fillWord (s : State) (a : Nat) (v : Word) : State := (s.setWordEcc a v).mirrorNote a v true

/-- Whether words before a cluster's start are left to mirroring (R318): this node is a joiner. -/
def State.coilLeft (s : State) : Bool := s.pair.rejoin.any fun r => !r.donor

/-- One word of a descriptor: channel and place. -/
structure DmaWord where
  d : Desc
  i : Nat
  t : Nat

/-- The words of a descriptor, channel by channel. -/
def Desc.words (d : Desc) : List DmaWord :=
  (List.range d.chans).flatMap fun i => (List.range d.count).map fun t => ⟨d, i, t⟩

/-- A word of a write descriptor: of the half of the last round to its ring (R8, R137, R139). -/
def State.dmaWrite (s : State) (c : Nat) (w : DmaWord) : State :=
  let k := s.sys.roundNo
  if k = 0 then s else
  let src := w.d.coilAt c ((k - 1) % 2) w.i w.t
  let dst := w.d.ringAt w.i ((k - 1) * s.sys.n + w.t)
  let s := s.corrected src
  match s.loadWord src with
  | some v => s.engineWrite (22 + c / 4) dst fun s => s.setWordEcc dst v
  | none => (s.engineWrite (22 + c / 4) dst fun s => s.setWordEcc dst 0#32).raise (CL_EVT_LC_UE c)

/-- A word of a read descriptor: of the half of the next round from its ring; indexes before the cluster's
start deliver 0 (R8, R139, R141, R142). -/
def State.dmaRead (s : State) (c : Nat) (w : DmaWord) : State :=
  let k := s.sys.roundNo
  let start := (s.cluster c).round * s.sys.n
  let dst := w.d.coilAt c ((k + 1) % 2) w.i w.t
  let pos := (k + 1) * s.sys.n + w.t
  if pos < w.d.delay + start then (if s.coilLeft then s else s.fillWord dst 0#32)
  else
    let src := w.d.ringAt w.i (pos - w.d.delay)
    let s := s.corrected src
    if s.ue src then ((s.fillWord dst 0#32).raise (CL_EVT_LC_UE c)).countUp (CL_DMA_STAT_UE_CNT c)
    else
      let (s, v) := s.engineRead (22 + c / 4) src
      s.fillWord dst v

/-- The descriptors of a list from one on, up to its end. -/
def State.descs (s : State) (c : Nat) : Nat → Nat → List Desc
  | 0, _ => []
  | n + 1, i =>
    let d := s.desc c i
    if d.last then [d] else d :: s.descs c n (i + 1)

/-- A cluster's list. -/
def State.descList (s : State) (c : Nat) : List Desc :=
  if s.rf (CL_DMA_COUNT c) = 0 then [] else s.descs c (min 512 (s.rf (CL_DMA_COUNT c))) 0

/-- The reading of a cluster's list: its words corrected and counted, and an uncorrectable one noted (R137). -/
def State.readList (s : State) (c n : Nat) : State :=
  let l := (List.range n).flatMap fun i => (List.range 8).map fun x => s.descAddr c i + 4 * x
  let s := s.readEcc l
  if l.any s.ue then s.raise (CL_EVT_LC_UE c) else s

def Region.reset : Region := { pend := none, hot := none, cool := none, linkIn := 0, linkOut := 0 }
def State.region (s : State) (r : Nat) : Region := mget (fun _ => Region.reset) s.compute.regions r
def State.setRegion (s : State) (r : Nat) (x : Region) : State :=
  { s with compute := { s.compute with regions := mset (fun _ => Region.reset) s.compute.regions r x } }

/-- Bytes that pass a region's link in this round (R159). -/
def State.linkUse (s : State) (r to_ from_ : Nat) : State :=
  let x := s.region r
  s.setRegion r { x with linkIn := x.linkIn + to_, linkOut := x.linkOut + from_ }

/-- A cluster's long coil transfers of a round: the words of every write, then of every read, of which the first `lim` are
complete at the budget point where not all are (R139, R142). -/
def State.dmaRound (s : State) (c : Nat) (lim : Option Nat) : State :=
  if s.clState c = clRunning then
    let all := s.descList c
    let s := s.readList c all.length
    let ds := all.filter fun d => d.valid
    let jobs := (ds.filter fun d => !d.read).flatMap Desc.words ++ (ds.filter fun d => d.read).flatMap Desc.words
    let now := match lim with | some n => jobs.take n | none => jobs
    let s := now.foldl (fun (s : State) w => if w.d.read then s.dmaRead c w else s.dmaWrite c w) s
    let reads := (now.filter fun w => w.d.read).length
    let s := s.linkUse (c / 4) (4 * reads) (4 * (now.length - reads))
    if now.length < jobs.length then s.setCluster c { s.cluster c with dmaLate := true } else s
  else s

/-! ### Power and loading (R150, R156) -/

/-- Listed errors outside a range. -/
def dropRange (l : List (Nat × Bool)) (lo hi : Nat) : List (Nat × Bool) :=
  l.filter fun e => !(Nat.ble lo e.1 && Nat.ble e.1 hi)

/-- A cluster's stakes and memories lose their state (R75, R108). -/
def State.clusterWipe (s : State) (c : Nat) : State :=
  let lo := stakeBase (8 * c)
  let hi := stakeBase (8 * c + 8) - 1
  let s := (s.clearMem lo hi).clearMem (coilBase c) (coilBase (c + 1) - 1)
  let s := { s with ecc := dropRange (dropRange s.ecc lo hi) (coilBase c) (coilBase (c + 1) - 1) }
  (stakesOf c).foldl (fun s k => s.setStake k { Stake.reset with cycMax := (s.stake k).cycMax }) s

/-- A cluster's power removed. -/
def State.clusterOff (s : State) (c : Nat) (st : Nat) : State :=
  let s := ((s.clusterWipe c).setClState c st).clrBit PWR_STAT c
  let s := { s with power := { s.power with
    waking := s.power.waking.filter fun x => x.1 != c, demand := s.power.demand.filter fun x => x.1 != c } }
  s.setCluster c { s.cluster c with
    start := false, wale := 0, base := 0, budget := false, faulted := false, missed := false, loading := false, dmaLate := false }

/-- Base of a cluster's image in the reserved area (R431). -/
def imageBase (c : Nat) : Nat := 0x01000000 + c * 0x00500000

/-- Places of the parts of a cluster image: offset in the image, length, and fabric address. -/
def imageParts (c : Nat) : List (Nat × Nat × Nat) :=
  (List.range 8).flatMap (fun j =>
    let k := 8 * c + j
    [(0x50000 * j, 0x20000, stakeBase k), (0x50000 * j + 0x20000, 0x20000, stakeBase k + 0x20000),
     (0x50000 * j + 0x40000, 0x10000, stakeBase k + 0x40000)])
  ++ [(0x280000, 0x200000, coilBase c)]

/-- Bytes copied from one range to another. -/
def State.copyMem (s : State) (src dst len : Nat) : State :=
  (s.mem.filter fun e => Nat.ble src e.1 && Nat.blt e.1 (src + len)).foldl
    (fun s e => s.setByte (dst + (e.1 - src)) e.2) s

/-- A stake's registers from the words of a register image (R80). -/
def Arch.writeImage (r : Arch) (off : Nat) (v : Word) : Arch :=
  if off < 0x80 then r.setD (off / 4) v
  else if off < 0x100 then
    let n := (off - 0x80) / 16
    match (off - 0x80) % 16 / 4 with
    | 0 => r.putA n (setPart (r.acc n) v .l)
    | 1 => r.putA n (setPart (r.acc n) v .h)
    | 2 => r.putA n (setPart (r.acc n) v .g)
    | _ => r
  else if off < 0x120 then r.setP ((off - 0x100) / 4) (v.setWidth 20)
  else if off < 0x140 then r.setM ((off - 0x120) / 4) (v.setWidth 20)
  else if off < 0x160 then r.setB ((off - 0x140) / 4) (v.setWidth 20)
  else if off < 0x180 then r.setL ((off - 0x160) / 4) (v.setWidth 20)
  else if off < 0x190 then r.setLc ((off - 0x180) / 4) (v.setWidth 16)
  else if off = 0x190 then { r with st := v &&& 0xFF030307#32 }
  else r

/-- A cluster loaded from its image: program memory, X and Y, register images and coil (R150). -/
def State.loadImage (s : State) (c : Nat) : State :=
  let base := imageBase c
  let s := (imageParts c).foldl (fun s p => s.copyMem (base + p.1) p.2.2 p.2.1) s
  (stakesOf c).foldl (fun s k =>
    let t := s.stake k
    let arch := (List.range 101).foldl (fun r i => r.writeImage (4 * i) (s.word (base + 0x480000 + 0x200 * (k % 8) + 4 * i))) t.arch
    s.setStake k { t with arch := arch }) s

/-- The end of a cluster's loading (R150): HELD, waiting for START. -/
def execLoadingDone (c : Fin 16) (s : State) : Out :=
  let x := s.cluster c.val
  .next (if s.clState c.val = clLoading ∧ x.loading = true ∧ s.bit PWR_STAT c.val = true then
      ((s.loadImage c.val).setClState c.val clHeld).setCluster c.val { x with loading := false }
    else s)

/-- The power-up of a cluster begun, and of its compute die where that is off; its image is loaded once it is up (R150,
R156). -/
def State.bringUp (s : State) (c : Nat) : State :=
  let s := (s.setClState c clLoading).setCluster c { s.cluster c with loading := true, parked := false }
  let s := if s.flag (if c < 8 then PWR_STAT_CD0 else PWR_STAT_CD1) then s else s.wakeDomain (16 + c / 8)
  s.wakeDomain c

/-- A cluster powered down and up again: LOADING, counted, its sequencer's port reset (R150, R459). -/
def State.reinit (s : State) (c : Nat) : State :=
  let s := s.clusterOff c clLoading
  let s := (s.countUp (CL_STAT_REINIT_CNT c)).sf (CL_STAT_FAULT_MAP c) 0
  (s.bringUp c).portReset (6 + c)

/-- The Warden's START once a cluster that it brings up is HELD (R150, R156). -/
def State.autoStart (s : State) (c : Nat) : State := s.setCluster c { s.cluster c with start := true }

/-- A write of CL_CTL (R157, R158): ISOLATE first, then REINIT, then START. -/
def State.clCtlWrite (s : State) (c : Nat) (v : Word) : State :=
  let iso := bitAt v 2
  let was := s.flag (CL_CTL_ISOLATE c)
  if bitAt v 0 && s.clState c != clHeld then s.err
  else
    let s := s.setFlag (CL_CTL_ISOLATE c) iso
    let s :=
      if iso && !was then (s.clusterOff c clIsolated).portReset (6 + c)
      else if !iso && s.clState c == clIsolated then (s.setClState c clOff).setCluster c { s.cluster c with parked := true }
      else s
    let s := if bitAt v 1 && !iso then s.reinit c else s
    let s := if bitAt v 0 && s.clState c == clHeld then s.setCluster c { s.cluster c with start := true } else s
    s.ok 0#32

def execClCtlStart (a : Agent) (c : Fin 16) (s : State) : Out :=
  .next (s.regWrite a (CL_CTL c.val) 1#32 fun s => s.clCtlWrite c.val 1#32)

def execClCtlReinit (a : Agent) (c : Fin 16) (s : State) : Out :=
  .next (s.regWrite a (CL_CTL c.val) 2#32 fun s => s.clCtlWrite c.val 2#32)

def execClCtlIsolate (a : Agent) (c : Fin 16) (on : Bool) (s : State) : Out :=
  let v := if on then 4#32 else 0#32
  .next (s.regWrite a (CL_CTL c.val) v fun s => s.clCtlWrite c.val v)

/-! ### Digests (R152, R153) -/

/-- One byte into the reflected CRC-64. -/
def crc64Byte (crc : Nat) (b : Nat) : Nat :=
  (List.range 8).foldl (fun x _ => if x % 2 = 1 then (x / 2) ^^^ 0xC96C5795D7870F42 else x / 2) (crc ^^^ b)

/-- CRC-64 of R152 over bytes. -/
def crc64 (l : List Nat) : Nat := (l.foldl crc64Byte 0xFFFFFFFFFFFFFFFF) ^^^ 0xFFFFFFFFFFFFFFFF

/-- The four bytes of a word, least significant first. -/
def wordBytes (w : Word) : List Nat := [bitsOf w 7 0, bitsOf w 15 8, bitsOf w 23 16, bitsOf w 31 24]

/-- The digest of a cluster for round `k`. -/
def State.digest (s : State) (c k : Nat) : Nat :=
  let en := (stakesOf c).filter s.schedEn
  let live := s.clState c == clRunning && Nat.ble (s.cluster c).round k
  if en = [] then 0
  else crc64 (en.flatMap fun j =>
    (List.range (s.schedDig j * s.sys.n)).flatMap fun i =>
      if live then wordBytes (s.word (stakeBase j + 0x3C000 + (k % 2) * 0x2000 + 4 * i)) else [0, 0, 0, 0])

/-- The bytes that the digest unit reads for it (R153, R159). -/
def State.digestBytes (s : State) (c k : Nat) : Nat :=
  if s.clState c = clRunning ∧ (s.cluster c).round ≤ k then
    ((stakesOf c).filter s.schedEn).foldl (fun n j => n + 4 * s.schedDig j * s.sys.n) 0
  else 0

/-- The digest unit's result of the last round (R153). -/
def execDigestWrite (c : Fin 16) (s : State) : Out :=
  let k := s.sys.roundNo - 1
  let d := s.digest c.val k
  let s := s.linkUse (c.val / 4) 0 (s.digestBytes c.val k)
  .next (((s.setRegN (CL_DIG_LO c.val) d).setRegN (CL_DIG_HI c.val) (d / 2 ^ 32)).setRegN (CL_DIG_RND c.val) k)

/-! ### Regions (R154) -/

/-- A region one operating point down, 10 ms after TMAX reached TH_HI. -/
def execThrottleDown (r : Fin 4) (s : State) : Out :=
  let x := s.region r.val
  .next (match x.hot with
    | some t =>
      let op := x.pend.getD (s.rf (REG_OP_OP r.val))
      if s.rf (REG_OP_MIN_OP r.val) < op then
        let s := s.moveTo (t + 10 * ms1)
        (s.raise (REG_EVT_DOWN r.val)).setRegion r.val { x with pend := some (op - 1), hot := some s.now }
      else s
    | none => s)

/-- A region one operating point up, 1 s after TMAX fell to TH_LO. -/
def execThrottleUp (r : Fin 4) (s : State) : Out :=
  let x := s.region r.val
  .next (match x.cool with
    | some t =>
      let op := x.pend.getD (s.rf (REG_OP_OP r.val))
      if op < s.rf (REG_OP_NOM_OP r.val) then
        let s := s.moveTo (t + sec1)
        (s.raise (REG_EVT_UP r.val)).setRegion r.val { x with pend := some (op + 1), cool := some s.now }
      else s
    | none => s)

/-- Operating points that take effect at round entry, for all four clusters of a region together. -/
def State.applyOps (s : State) : State :=
  (List.range 4).foldl (fun s r =>
    match (s.region r).pend with
    | none => s
    | some op =>
      let s := (s.sf (REG_OP_OP r) op).setRegion r { s.region r with pend := none }
      (List.range 4).foldl (fun s i => s.sf (CL_STAT_OP (4 * r + i)) op) s) s

/-- Bytes of round buffers that a region's link carries in a round, each way: the blocks of every stake of its RUNNING
clusters (R83, R155). -/
def State.blockBytes (s : State) (r : Nat) : Nat :=
  if s.weave.running then
    ((List.range 4).map fun i => 4 * r + i).foldl (fun n c =>
      if s.clState c = clRunning then
        (stakesOf c).foldl (fun n k => n + 4 * s.rf (WEAVE_STK_MAP_COUNT k) * s.sys.n) n
      else n) 0
  else 0

/-- REG_LINK at a boundary: what the link carried in the last round, in the busier direction (R159). -/
def State.linkBoundary (s : State) : State :=
  (List.range 4).foldl (fun (s : State) r =>
    let x := s.region r
    let b := s.blockBytes r
    (s.setRegN (REG_LINK r) (b + max x.linkIn x.linkOut)).setRegion r { x with linkIn := 0, linkOut := 0 }) s

end Sys2Proof.Machine
end

