-- ==== Sys2Proof/Machine/Pair.lean ====
section
/-! DEFINITION. Machine/Pair.lean: the pairing engine (R302 to R322 of spec/10_streams_and_pairing.md; R37, R339,
R348). -/
namespace Sys2Proof.Machine

open Reg

/-! ### States, lanes and frames -/

/-- Codes of R305. -/
def paOff : Nat := 0
def paAlone : Nat := 1
def paPaired : Nat := 2
def paWithdrawn : Nat := 3
def paCopying : Nat := 4
def paChecking : Nat := 5

def State.pairState (s : State) : Nat := s.rf PAIR_STAT_STATE

/-- Whether a pairing state serves (R305). -/
def paServes (st : Nat) : Bool := st == paAlone || st == paPaired

def State.updPair (s : State) (f : Pair → Pair) : State := { s with pair := f s.pair }

/-- The header of a pairing frame (R303), network byte order, with the lane of the frame. -/
structure PairHdr where
  lane : Fin 2
  len : Nat
  lseq : Nat
  ack : Nat
  rnd : Nat

/-- Where the header of a pairing frame starts. -/
def pairAt (l : List Byte) : Nat := etherAt l + 2

/-- The header and the body of a pairing frame. -/
def pairHdr (p : PairFrame) : PairHdr :=
  let l := p.frame.bytes
  let o := pairAt l
  { lane := p.lane, len := be16 l (o + 2), lseq := beAt l (o + 4) 4, ack := beAt l (o + 8) 4, rnd := beAt l (o + 12) 4 }
def pairBody (p : PairFrame) : List Byte :=
  (p.frame.bytes.drop (pairAt p.frame.bytes + 16)).take (pairHdr p).len

/-- Whether a frame is a pairing frame whose body is all there, at most 1,522 bytes long (R303). -/
def pairFormOk (p : PairFrame) : Bool :=
  p.frame.etype == etPair && Nat.ble p.frame.len 1522 && (pairBody p).length == (pairHdr p).len

/-- A reliable frame on a lane, or on the other while that is down: sent at once while fewer than 64 wait for their
acknowledgement (R304). -/
def State.relSend (s : State) (lane : Nat) (m : PairMsg) : State :=
  let l := if (s.lane lane).up || !(s.lane (1 - lane)).up then lane else 1 - lane
  let x := s.lane l
  let go := Nat.blt x.win.length 64
  let s := s.setLane l { x with next := (x.next + 1) % 2 ^ 32, win := x.win ++ [⟨x.next, m, if go then 1 else 0⟩] }
  if go then (s.laneTx l).1 else s

/-- A CONTROL frame sent on lane 0, or on lane 1 while lane 0 is down. -/
def State.ctlSend (s : State) (c : PairCtl) : State := s.relSend 0 (.control c)

/-- The frames of a lane that the window now has room for, sent. -/
def State.laneFill (s : State) (l : Nat) : State :=
  let x := s.lane l
  let new := (x.win.take 64).filter fun f => f.sent == 0
  if new = [] then s
  else
    let win := (x.win.take 64).map (fun f => { f with sent := max 1 f.sent }) ++ x.win.drop 64
    new.foldl (fun s _ => (s.laneTx l).1) (s.setLane l { x with win := win })

/-- A change of state, announced to the partner. -/
def State.setPair (s : State) (st : Nat) : State :=
  if s.pairState = st then s else (s.sf PAIR_STAT_STATE st).ctlSend (.state st)

/-- What every pairing frame's header does (R303, R304): the frames it acknowledges leave the window. -/
def State.pairAck (s : State) (h : PairHdr) : State :=
  let l := h.lane.val
  let x := s.lane l
  let a := h.ack
  let s := s.setLane l { x with acked := a, win := x.win.filter fun f => Nat.ble (2 ^ 31) ((a + 2 ^ 32 - f.seq) % 2 ^ 32) }
  if a = x.acked then s
  else (s.laneFill l).updPair fun p => { p with rejoin := p.rejoin.map fun r => { r with ackAt := s.now } }

/-- Whether pairing frames are taken on a lane. -/
def State.laneOn (s : State) (l : Nat) : Bool := s.hubUp && s.flag PAIR_CFG_EN && (s.lane l).up && !s.flag ALARM_CTL_BARE

/-- A pairing frame taken (R256 steps 1 and 2, R274, R303): on a lane that carries pairing frames, under an installed
association, and well formed. -/
def State.pairRx (s : State) (p : PairFrame) (f : State → PairHdr → State) : State :=
  if !s.laneOn p.lane.val then s
  else s.rxFrame 6 p.frame fun s _ => if pairFormOk p then f (s.pairAck (pairHdr p)) (pairHdr p) else s

/-- A reliable frame taken in order only (R304). -/
def State.inOrder (s : State) (h : PairHdr) : State × Bool :=
  let l := h.lane.val
  let x := s.lane l
  if h.lseq = (x.got + 1) % 2 ^ 32 then (s.setLane l { x with got := h.lseq }, true) else (s, false)

/-- A reliable frame lost to an error: every frame of the lane not acknowledged is sent again, up to the window
of 64 (R304). -/
def execPairLaneResend (l : Fin 2) (s : State) : Out :=
  let x := s.lane l.val
  let again (e : LaneFrame × Nat) : LaneFrame := if e.2 < 64 then { e.1 with sent := e.1.sent + 1 } else e.1
  .next (if s.laneOn l.val then
      (x.win.take 64).foldl (fun s _ => (s.laneTx l.val).1) (s.setLane l.val { x with win := x.win.zipIdx.map again })
    else s)

/-! ### Digests (R308, R309) -/

/-- The eight bytes of a digest, least significant first. -/
def digBytes (d : Nat) : List Nat := (List.range 8).map fun i => d / 256 ^ i % 256

/-- The sink digest of a round. -/
def State.sinkDigest (s : State) (k : Nat) : Nat :=
  crc64 ((List.range s.sys.n).flatMap fun p =>
    (s.skein.pairMask.filter fun slot => slot < 4096).flatMap fun slot =>
      wordBytes (wordOfInt (mget (fun _ => 0) s.sys.out (sampleKey slot (k * s.sys.n + p)))))

/-- The package digest over the cluster digests and the sink digest. -/
def packageDigest (cl : List Nat) (sink : Nat) : Nat := crc64 ((cl ++ [sink]).flatMap digBytes)

/-- Clusters whose digests differ, as bits. -/
def digDiff (a b : List Nat) : Nat :=
  (List.range 16).foldl (fun v c => if a.getD c 0 = b.getD c 0 then v else v + 2 ^ c) 0

/-- The comparison of a round (R309): recorded while both are PAIRED, or one is CHECKING and the other serves. -/
def State.pairCompare (s : State) (drnd : Nat) : State :=
  let hit (r : DigRec) : Bool := r.round % 2 ^ 32 == drnd
  match s.pair.own.find? hit, s.pair.peer.find? hit with
  | some a, some b =>
    let st := s.pairState
    let ps := s.rf PAIR_STAT_PSTATE
    let counts := (st == paPaired && ps == paPaired) || (st == paChecking && paServes ps) || (paServes st && ps == paChecking)
    let s := s.updPair fun p => { p with own := p.own.filter fun r => !hit r }
    let s := ((s.setRegN PAIR_PDIG_LO b.pkg).setRegN PAIR_PDIG_HI (b.pkg / 2 ^ 32)).setRegN PAIR_DIG_RND a.round
    let s := (s.setRegN PAIR_DIG_LO a.pkg).setRegN PAIR_DIG_HI (a.pkg / 2 ^ 32)
    if !counts then s
    else if a.pkg = b.pkg then
      let s := s.sf PAIR_STAT_MISRUN 0
      s.updPair fun p => { p with rejoin := p.rejoin.map fun r => { r with matched := r.matched + 1 } }
    else
      let s := s.setRegN PAIR_DIFF ((if a.sink = b.sink then 0 else 65536) + digDiff a.cl b.cl)
      let s := (s.raise PAIR_EVT_MISMATCH).countUp PAIR_STAT_MISRUN
      s.updPair fun p => { p with rejoin := p.rejoin.map fun r => { r with matched := 0 } }
  | _, _ => s

/-- The DIGEST frame of the round just ended, sent on both lanes (R309). -/
def execDigestFrameSend (s : State) : Out :=
  let k := s.sys.roundNo - 1
  .next (if !s.hubUp || s.pairState == paOff || s.sys.roundNo == 0 || s.pair.own.any (fun r => r.round == k) then s
    else
      let cl := (List.range 16).map fun c => s.digest c k
      let sink := s.sinkDigest k
      let pkg := packageDigest cl sink
      let score := s.rf PAIR_HEALTH_SCORE
      let s := (s.setRegN PAIR_DIG_LO pkg).setRegN PAIR_DIG_HI (pkg / 2 ^ 32)
      let s := s.setRegN PAIR_DIG_RND k
      let s := s.pairSend (.digest k pkg s.pairState score (s.rf PAIR_CFG_SIDE) s.skein.digest16 cl sink)
      let (t, s) := s.stamp 6 true
      let r : DigRec := { round := k, cl := cl, sink := sink, pkg := pkg, health := score }
      let s := s.updPair fun p => { p with digTx := t, own := (r :: p.own).take 4 }
      s.pairCompare (k % 2 ^ 32))

/-! ### Rejoin (R313 to R318) -/

/-- A RUNNING cluster held at a boundary, for state to be copied into it (R130, R317); one of which a stake has faulted
becomes FAULTED instead (R149). -/
def State.clusterHold (s : State) (c : Nat) : State :=
  if s.clState c = clRunning ∧ (s.cluster c).faulted = false then
    let s := s.setClState c clHeld
    (stakesOf c).foldl (fun s k =>
      let t := s.stake k
      if t.run = .stopped then s else s.setStake k { t with run := .held, reqs := [], doneAt := none }) s
  else s

/-- A joiner's clusters held at the first boundary of the bulk phase. -/
def State.holdClusters (s : State) : State :=
  if s.pair.rejoin.any (·.hold) then
    (List.range 16).foldl (fun (s : State) c => s.clusterHold c)
      { s with pair := { s.pair with rejoin := s.pair.rejoin.map fun r => { r with hold := false } } }
  else s

/-- A new rejoin in one of the two roles. -/
def Rejoin.init (donor : Bool) (now : Nat) : Rejoin :=
  { donor := donor, w := none, c0 := none, done := [], lastCommit := 0, matched := 0, ackAt := now, hold := !donor,
    hubSent := false }

/-- Whether the partner runs this node's Skein (R314). -/
def State.sameSkein (s : State) : Bool := s.pair.pskein == s.skein.digest16

/-- A rejoin started by a WITHDRAWN node, or refused on a difference of Skeins or without a serving partner (R314, R316,
R317). -/
def State.joinStart (s : State) : State :=
  if !s.sameSkein || s.pair.heard.isNone || s.pair.lost || !paServes (s.rf PAIR_STAT_PSTATE) then s.raise PAIR_EVT_REJOIN_FAIL
  else
    let s := (s.setPair paCopying).sf PAIR_STAT_PHASE 1
    let s := (s.countUp PAIR_CNT_REJOIN_CNT).setReg PAIR_COPY 0#32
    let s := s.updPair fun p => { p with listen := none, rejoin := some (Rejoin.init false s.now) }
    s.ctlSend .rejoin

/-- KiB that the bulk phase copies: 4,608 for each powered cluster. -/
def State.bulkKib (s : State) : Nat := 4608 * ((List.range 16).filter fun c => s.bit PWR_STAT c).length

/-- The donor has sent every COPY record (R316). -/
def execBulkPhaseEnd (s : State) : Out :=
  .next (match s.pair.rejoin with
    | some r =>
      if r.donor = true ∧ s.rf PAIR_STAT_PHASE = 1 then
        let s := (s.sf PAIR_STAT_PHASE 2).raise PAIR_EVT_COPY_DONE
        let s := s.setRegN PAIR_COPY s.bulkKib
        (s.updPair fun p => { p with rejoin := some { r with w := some (s.sys.roundNo + 1) } }).ctlSend .bulkEnd
      else s
    | none => s)

/-- The longest DELAY of a cluster's read descriptors, in samples. -/
def State.longestDelay (s : State) (c : Nat) : Nat :=
  (s.descList c).foldl (fun m d => if d.valid && d.read then max m d.delay else m) 0

/-- Instants of failures within the last 10 minutes. -/
def State.recentFails (s : State) : List Nat := s.pair.fails.filter fun t => Nat.blt s.now (t + 600 * sec1)

/-- A rejoin that fails: the joiner is WITHDRAWN again; after three failures within 10 minutes the Warden stops
rejoining and raises a health event (R318). -/
def State.joinFail (s : State) : State :=
  let s := (s.rejoinDrop.setPair paWithdrawn).raise PAIR_EVT_REJOIN_FAIL
  let fs := s.recentFails ++ [s.now]
  let s := s.updPair fun p => { p with fails := fs, outAt := s.now }
  if Nat.ble 3 fs.length then s.wardenEvent 5 [] else s

/-- A rejoin not complete by the longest DELAY plus 1 s after the last commit (R318). -/
def execRejoinTimeout (s : State) : Out :=
  .next (match s.pair.rejoin with
    | some r =>
      if r.donor = false ∧ s.pairState = paChecking then
        let d := (List.range 16).foldl (fun m c => max m (s.longestDelay c)) 0
        (s.moveTo (r.lastCommit + d * s.sys.period + sec1)).joinFail
      else s
    | none => s)

/-- 10 ms without an acknowledgement: the donor abandons the rejoin (R313). -/
def execRejoinAckTimeout (s : State) : Out :=
  .next (match s.pair.rejoin with
    | some r => if r.donor then ((s.moveTo (r.ackAt + 10 * ms1)).rejoinDrop).raise PAIR_EVT_REJOIN_FAIL else s
    | none => s)

/-! ### What a DIGEST frame of the partner brings (R306, R309, R311) -/

/-- The change of state that the partner's state calls for. -/
def State.pairReact (s : State) (ps : Nat) : State :=
  let st := s.pairState
  if st = paWithdrawn then
    if ps = paWithdrawn ∧ s.flag PAIR_CFG_SIDE = false then
      (s.updPair fun p => { p with listen := none, goto := some paAlone })
    else if paServes ps ∧ s.pair.listen.isSome then s.joinStart
    else s
  else if st = paPaired ∧ paServes ps = false then s.setPair paAlone
  else if st = paAlone ∧ ps = paPaired then ((s.rejoinDrop).setPair paPaired).raise PAIR_EVT_PAIRED
  else s

/-- The body of a DIGEST frame (R309): its digests are sent least significant byte first. -/
structure PairDigest where
  drnd : Nat
  pkg : Nat
  state : Nat
  health : Nat
  side : Bool
  skein : Nat
  cl : List Nat
  sink : Nat

def PairDigest.ofBytes (l : List Byte) : PairDigest :=
  { drnd := beAt l 0 4, pkg := leAt l 4 8, state := byteAt l 0xC, health := byteAt l 0xD, side := byteAt l 0xE % 2 == 1,
    skein := beAt l 0x10 16, cl := (pieces 8 16 (l.drop 0x20)).map leNat, sink := leAt l 0xA0 8 }

/-- A DIGEST of the partner. -/
def State.takeDigest (s : State) (lane : Nat) (d : PairDigest) : State :=
  let s := ((s.sf PAIR_STAT_PSTATE d.state).sf PAIR_STAT_PHEALTH d.health)
  let (t, s) := s.stamp 6 false
  let r : DigRec := { round := d.drnd, cl := d.cl, sink := d.sink, pkg := d.pkg, health := d.health }
  let s := s.updPair fun p => { p with
    heard := some s.sys.roundNo, lost := false, pside := if d.side then 1 else 0, pskein := d.skein,
    digRx := if lane = 0 then t else p.digRx, peer := (r :: p.peer).take 4 }
  (s.pairCompare d.drnd).pairReact d.state

/-- A DIGEST frame of the partner: the first copy is used (R304, R309). -/
def execPairDigestReceive (p : PairFrame) (s : State) : Out :=
  .next (s.pairRx p fun s h =>
    let d := PairDigest.ofBytes (pairBody p)
    if s.pair.peer.any fun r => r.round == d.drnd then s else s.takeDigest h.lane.val d)

/-- No DIGEST frame for 4 rounds, or both lanes down (R312). -/
def execPartnerLost (s : State) : Out :=
  let silent := match s.pair.heard with | some r => Nat.ble (r + 5) s.sys.roundNo | none => false
  .next (if s.pairState = paOff ∨ s.pair.lost = true ∨ (s.pair.listen.isSome = true ∧ s.pair.heard = none)
        ∨ (silent = false ∧ ((s.lane 0).up = true ∨ (s.lane 1).up = true)) then s
    else
      let s := (s.raise PAIR_EVT_PARTNER_LOST).rejoinDrop
      s.updPair fun p => { p with lost := true, listen := none, goto := some paAlone })

/-- A withdrawn node that hears nothing for 8 rounds (R306). -/
def execPairListenTimeout (s : State) : Out :=
  .next (match s.pair.listen with
    | some r =>
      if s.pairState = paWithdrawn ∧ s.pair.heard = none ∧ r + 8 ≤ s.sys.roundNo then
        (s.updPair fun p => { p with listen := none }).setPair paAlone
      else s
    | none => s)

/-! ### The Warden's commands (R311, R314, R321) -/

/-- A write of PAIR_CTL: agents 0 and 1. -/
def State.pairCtlWrite (s : State) (a : Nat) (v : Word) : State :=
  if Nat.blt 1 a then s.err
  else
    let s := if bitAt v 1 && paServes s.pairState then s.updPair fun p => { p with withdraw := true } else s
    let s := if bitAt v 0 && s.pairState == paWithdrawn then s.joinStart else s
    s.ok 0#32

def execPairWithdraw (a : Agent) (s : State) : Out :=
  .next (s.regWrite a PAIR_CTL 2#32 fun s => s.pairCtlWrite a.val 2#32)

def execPairRejoin (a : Agent) (s : State) : Out :=
  .next (s.regWrite a PAIR_CTL 1#32 fun s => s.pairCtlWrite a.val 1#32)

/-- 1 s after withdrawal, with AUTO set and enough SCORE (R314), unless the Warden has stopped rejoining (R318). -/
def execAutoRejoin (s : State) : Out :=
  .next (if s.pairState = paWithdrawn ∧ s.pair.listen = none ∧ s.flag PAIR_CFG_AUTO = true
        ∧ s.rf PAIR_CFG_MIN_HEALTH ≤ s.rf PAIR_HEALTH_SCORE ∧ s.recentFails.length < 3 then
      (s.moveTo (s.pair.outAt + sec1)).joinStart
    else s)

/-- What a change of PAIR_CFG.EN does, from what it was (R305, R306): a node that enables pairing listens, one that disables
it is OFF. -/
def State.pairTurn (s : State) (was : Bool) : State :=
  if s.flag PAIR_CFG_EN && !was then
    (s.sf PAIR_STAT_STATE paWithdrawn).updPair fun p => { p with
      listen := some s.sys.roundNo, heard := none, lost := false, withdraw := false, goto := none, outAt := s.now }
  else if !s.flag PAIR_CFG_EN && was then
    ((s.rejoinDrop).sf PAIR_STAT_STATE paOff).updPair fun p => { p with listen := none, goto := none, withdraw := false }
  else s

/-- A write of PAIR_CFG (R306, R321): agent 0. -/
def State.pairCfgWrite (s : State) (a : Nat) (v : Word) : State :=
  if a ≠ 0 then s.err
  else
    let was := s.flag PAIR_CFG_EN
    ((s.setReg PAIR_CFG (v &&& 0xE000FFFF#32)).pairTurn was).ok 0#32

/-! ### Alarms and actions of the partner (R37, R348) -/

/-- The round nearest to the present one whose low 32 bits a frame carries. -/
def State.nearRound (s : State) (r : Nat) : Nat :=
  let d := (s.sys.roundNo + 2 ^ 32 - r % 2 ^ 32) % 2 ^ 32
  if d < 2 ^ 31 then s.sys.roundNo - d else s.sys.roundNo + (2 ^ 32 - d)

/-- An alarm start of the partner: latched here, to be joined at its positions. -/
def execPairAlarmStartReceive (p : PairFrame) (t : Fin 64) (k ramp : Nat) (s : State) : Out :=
  .next (s.pairRx p fun s h =>
    if s.active t.val || s.pair.joins.any (fun j => j.trig == t.val) then s
    else (s.latch rkPartner (.start t.val)).updPair fun p => { p with joins := p.joins ++ [⟨t.val, k, ramp, s.nearRound h.rnd⟩] })

/-- The alarms joined at a step 4: the player, the ramps of the group and those of the holds that it starts stand where the
partner's do. `held` are the entries that an alarm held before. -/
def State.applyJoins (s : State) (held : List Nat) : State :=
  let js := s.pair.joins
  let s := s.updPair fun p => { p with joins := [] }
  js.foldl (fun s j =>
    if s.active j.trig then
      let d := (s.sys.roundNo - j.round) * s.sys.n
      let p := s.rf (ALARM_TRIG_CFG_PLAYER j.trig)
      let x := s.player p
      let move (v : Voice) : Voice :=
        if v.main then
          let (g, r) := match v.ramp with | some r => r.adv (j.ramp + d) | none => (v.gain, none)
          { v with k := j.k + d, gain := g, ramp := r }
        else v
      let s := if x.holder = some j.trig then s.setPlayer p { x with voices := x.voices.map move } else s
      let g := s.rf (ALARM_TRIG_GRP_AGRP j.trig)
      let sinks := s.entries.filterMap fun i =>
        let m := (s.entry i).img
        if m.valid && m.cls == 3 && m.agrp == g then some m.sink else none
      s.entries.foldl (fun s i =>
        let e := s.entry i
        if e.img.valid && e.img.cls == 3 && e.img.agrp == g then s.setEntry i (e.adv (j.ramp + d))
        else if e.holdAlarm && !held.contains i && sinks.contains e.img.sink then s.setEntry i (e.advHold (j.ramp + d))
        else s) s
    else s) s

/-- Scheduled actions of the partner, queued unchanged unless they are queued already (R348), and its parameter records
(R161). -/
def execPairActionReceive (p : PairFrame) (acts : List (List Word)) (params : List ParamJob) (s : State) : Out :=
  .next (s.pairRx p fun s _ => params.foldl State.paramTake (acts.foldl (fun s w =>
      if s.hoop.queue.any fun x => x.w == w then s
      else if 1024 ≤ s.hoop.queue.length then s.raise TIME_EVT_SA_FULL
      else { s with hoop := { s.hoop with queue := s.hoop.queue ++ [⟨w, false, s.now⟩] } }) s))

/-! ### Records of a rejoin (R81, R316, R317) -/

/-- The joiner takes records of its donor. -/
def State.joining (s : State) : Bool :=
  (s.pairState == paCopying || s.pairState == paChecking) && s.pair.rejoin.any fun r => !r.donor

/-- Port number of the pairing engine. -/
def portPair : Nat := 34

/-- A word of a memory record: a stake's memories and registers take it only while the stake is HELD, program
memory, X, Y and coils as memory, register images as registers (R81); one for a cluster without power waits for its wake. -/
def State.recordWord (s : State) (a : Nat) (v : Word) : State :=
  let d := stallDomain a
  if d < 16 ∧ (s.bit PWR_STAT d = false ∨ s.stopped d = true) then s.stallOn d portPair a true 4 v
  else if 0x0700000000 ≤ a ∧ a < 0x0704000000 then
    let k := (a - 0x0700000000) / 0x80000
    let off := (a - 0x0700000000) % 0x80000
    if (s.stake k).run ≠ .held ∨ 0x50200 ≤ off then s.errRec portPair .block true a
    else if off < 0x50000 then s.setWordEcc a v
    else s.setStake k { s.stake k with arch := (s.stake k).arch.writeImage (off - 0x50000) v }
  else if 0x0600000000 ≤ a ∧ a < 0x0602000000 then s.setWordEcc a v
  else s.errRec portPair .nopath true a

/-- A memory record applied. -/
def State.record (s : State) (a : Nat) (ws : List Word) : State :=
  ws.zipIdx.foldl (fun s w => s.recordWord (a + 4 * w.2) w.1) s

/-- The memory records of a body (R304): heads of ADDR, COUNT and POS in network byte order, and COUNT little-endian words. -/
def memRecords : Nat → List Byte → List (Nat × List Word)
  | 0, _ => []
  | n + 1, l =>
    if l.length < 8 then []
    else
      let c := beAt l 5 2
      (beAt l 0 5, (pieces 4 c (l.drop 8)).map fun b => BitVec.ofNat 32 (leNat b)) :: memRecords n (l.drop (8 + 4 * c))

/-- A reliable record of the donor, applied in order. -/
def State.takeRecord (s : State) (p : PairFrame) (f : State → State) : State :=
  s.pairRx p fun s h =>
    match s.inOrder h with
    | (s, true) => if s.joining then f s else s
    | (s, false) => s

/-- The memory records of a frame applied. -/
def State.takeRecords (s : State) (p : PairFrame) : State :=
  s.takeRecord p fun s => (memRecords 190 (pairBody p)).foldl (fun s r => s.record r.1 r.2) s

def execPairCopyReceive (p : PairFrame) (s : State) : Out := .next (s.takeRecords p)

def execPairMirrorReceive (p : PairFrame) (s : State) : Out := .next (s.takeRecords p)

def execPairRegsReceive (p : PairFrame) (s : State) : Out := .next (s.takeRecords p)

/-- One record of Weave or Border state applied. -/
def State.applyHub (s : State) : HubRec → State
  | .entry i e => s.setEntry i e
  | .hpf slot h => { s with weave := { s.weave with hpf := mset (fun _ => ⟨0, ⟨0, 0, 0, 0⟩, ⟨0, 0, 0, 0⟩⟩) s.weave.hpf slot h } }
  | .gen g x => s.setGen g x
  | .chan b c => s.setChan b c

/-- The lane of the records of a memory (R304). -/
def recLane (a : Nat) : Nat :=
  if Nat.ble 0x0700000000 a then (a - 0x0700000000) / 0x80000 % 2 else (a - 0x0600000000) / 0x200000 % 2

/-- The memory records noted since the last flush sent: the words mirrored, at most 123 records of one word to a frame of
1,488 bytes, then each register image in a frame of its own. -/
def State.mirrorFlush (s : State) : State :=
  if s.pair.mirror = [] then s
  else
    let l := s.pair.mirror
    [0, 1].foldl (fun (s : State) lane =>
      let mine := l.filter fun r => recLane r.addr == lane
      let words := mine.filter fun r => !r.regs
      let frames : List (List MemRec) := ((List.range ((words.length + 122) / 123)).map fun i => (words.drop (123 * i)).take 123)
        ++ (mine.filter fun r => r.regs).map fun r => [r]
      frames.foldl (fun (s : State) f => s.relSend lane (.records f)) s) (s.updPair fun p => { p with mirror := [] })

/-- The dynamic state of the Weave and the Border. -/
def State.hubState (s : State) : List HubRec :=
  s.weave.routes.map (fun e => .entry e.1 e.2) ++ s.weave.hpf.map (fun e => .hpf e.1 e.2)
    ++ s.weave.gens.map (fun e => .gen e.1 e.2) ++ s.border.chans.map fun e => .chan e.1 e.2

/-- A donor's hub state, from boundary W + 1, read and sent after a pass (R316). -/
def State.hubSend (s : State) (pos : Nat) : State :=
  match s.pair.rejoin with
  | some r =>
    let due := match r.w with | some w => Nat.blt w s.sys.roundNo | none => false
    if r.donor && due && !r.hubSent then
      s.hubState.zipIdx.foldl (fun (s : State) e => s.relSend (e.2 % 2) (.hub pos e.1))
        (s.updPair fun p => { p with rejoin := some { r with hubSent := true } })
    else s
  | none => s

/-- The hub records that wait for the pass of a position. -/
def State.hubAfter (s : State) (pos : Nat) : State :=
  if s.pair.hub = [] then s
  else
    let now := s.pair.hub.filter fun r => r.1 == pos
    let s := s.updPair fun p => { p with hub := p.hub.filter fun r => r.1 != pos }
    now.foldl (fun s r => s.applyHub r.2) s

/-- A HUB record: applied after this node's own pass of its position and before the next (R316). -/
def execPairHubReceive (p : PairFrame) (pos : Fin 16) (r : HubRec) (s : State) : Out :=
  .next (s.takeRecord p fun s =>
    if s.sys.pass = pos.val + 1 then s.applyHub r
    else s.updPair fun p => { p with hub := p.hub ++ [(pos.val, r)] })

/-! ### CONTROL frames (R316, R319, R337, R339) -/

/-- A transition named by the partner, or for it: STEP_PEND is set at boundary A. -/
def State.nameStep (s : State) (a : Nat) (ofs : Int) : State :=
  if s.hoop.trans.isSome then s
  else
    let t : Trans :=
      { start := a, mute := max 1 (s.rf TIME_CFG2_MUTE), ramp := max 1 (s.rf TIME_CFG2_RAMP), ofs := ofs,
        stepped := none }
    { s with hoop := { s.hoop with trans := some t } }

/-- What a CONTROL frame says, acted on. -/
def State.control (s : State) : PairCtl → State
  | .state st => s.sf PAIR_STAT_PSTATE st
  | .rejoin =>
    if paServes s.pairState && s.sameSkein then
      let s := (s.setPair paAlone).sf PAIR_STAT_PHASE 1
      (s.setReg PAIR_COPY 0#32).updPair fun p => { p with rejoin := some (Rejoin.init true s.now) }
    else s
  | .bulkEnd =>
    if s.joining then (((s.sf PAIR_STAT_PHASE 2).raise PAIR_EVT_COPY_DONE).setRegN PAIR_COPY s.bulkKib) else s
  | .commit c0 =>
    if s.joining then
      (s.sf PAIR_STAT_PHASE 3).updPair fun p => { p with rejoin := p.rejoin.map fun r => { r with c0 := some c0 } }
    else s
  | .step a ofs => s.nameStep a ofs
  | .switch r => s.updPair fun p => { p with switch := some r }
  | .stamps tx rx => s.updPair fun p => { p with peerStamps := some (tx, rx) }

def execPairControlReceive (p : PairFrame) (c : PairCtl) (s : State) : Out :=
  .next (s.pairRx p fun s h =>
    match s.inOrder h with
    | (s, true) => s.control c
    | (s, false) => s)

/-- The pair skew of the last DIGEST frames on lane 0 (R339): ((t2 − t1) − (t4 − t3)) / 2, t1 and t4 this node's
stamps, t2 and t3 the partner's; the last half of the 0.25 ns unit may round either way. -/
def execPairSkewReport (s : State) : Out :=
  .next (if !paServes s.pairState && s.pairState != paChecking then s
    else
      let s := s.ctlSend (.stamps s.pair.digTx s.pair.digRx)
      match s.pair.peerStamps with
      | none => s
      | some (t3, t2) =>
        let two := (t2 - s.pair.digTx) - (s.pair.digRx - t3)
        let (b, s) := s.pick 2
        let q := (two + 16384 * (b : Int)) / 32768
        let s := s.setReg TIME_PAIR_OFS (wordOfInt (clampInt (-2147483648) 2147483647 q))
        let n := if 13107200 < two.natAbs then s.hoop.skews + 1 else 0
        let s := { s with hoop := { s.hoop with skews := n } }
        if n = 4 then (s.raise TIME_EVT_PAIR_SKEW).wardenEvent 4 [two.natAbs] else s)

/-! ### The boundary (R307, R310 to R312, R316 to R319) -/

/-- Error events that withdraw a node (R311): DMA_LATE and LC_UE of the clusters, ECC_UE of the Weave and the
Border. -/
def State.pairErrs (s : State) : List Nat :=
  ((List.range 16).filter fun c => s.flag (CL_EVT_DMA_LATE c))
    ++ ((List.range 16).filter fun c => s.flag (CL_EVT_LC_UE c)).map (· + 16)
    ++ (if s.flag WEAVE_EVT_ECC_UE then [32] else []) ++ (if s.flag BORDER_EVT_ECC_UE then [33] else [])

/-- Whether a PAIRED node withdraws at this boundary (R310, R311). -/
def State.withdraws (s : State) : Bool :=
  let newErr := s.pairErrs.any fun e => !s.pair.errs.contains e
  let fault := (List.range 16).any fun c => (s.cluster c).faulted && s.clState c == clRunning
  let health := s.rf PAIR_HEALTH_SCORE
  let ph := s.rf PAIR_STAT_PHEALTH
  let vote := Nat.ble 3 (s.rf PAIR_STAT_MISRUN) && s.rf PAIR_STAT_PSTATE == paPaired
    && (Nat.blt health ph || (health == ph && s.flag PAIR_CFG_SIDE))
  (s.pair.withdraw && paServes s.pairState) || (s.pairState == paPaired && (newErr || fault || vote))

/-- A node withdrawn. -/
def State.withdrawNow (s : State) : State :=
  let s := (((s.rejoinDrop).setPair paWithdrawn).raise PAIR_EVT_WITHDRAWN).countUp PAIR_CNT_WITHDRAW_CNT
  (s.sf PAIR_STAT_MISRUN 0).updPair fun p => { p with withdraw := false, outAt := s.now, listen := none }

/-- The commit of a cluster at its round (R317), a gated cluster being skipped. -/
def State.pairCommit (s : State) : State :=
  match s.pair.rejoin with
  | some r =>
    match r.c0 with
    | some c0 =>
      let k := s.sys.roundNo
      if c0 ≤ k ∧ k < c0 + 16 then
        let c := k - c0
        let runs := if r.donor then s.clState c == clRunning else s.clState c == clHeld
        let s := if !r.donor && runs then s.setCluster c { s.cluster c with start := true } else s
        let s := if runs then s.raise PAIR_EVT_COMMIT else s
        let s := s.updPair fun p => { p with
          rejoin := some { r with done := r.done ++ [c], lastCommit := s.now, ackAt := if c = 15 then s.now else r.ackAt } }
        if c = 15 then
          let s := s.sf PAIR_STAT_PHASE 4
          if r.donor then s else s.setPair paChecking
        else s
      else s
    | none => s
  | none => s

/-- Whether long coil mirroring has ended for every cluster (R318). -/
def State.coilDone (s : State) : Bool :=
  (List.range 16).all fun c =>
    s.clState c != clRunning
      || Nat.ble ((s.cluster c).round * s.sys.n + s.longestDelay c) ((s.sys.roundNo + 1) * s.sys.n)

/-- A boundary's share of pairing, before round entry. -/
def State.pairBoundary (s : State) : State :=
  if s.pairState = paOff then s.updPair fun p => { p with serving := true, mirrored := 0 }
  else
    let s := s.holdClusters
    let s := match s.pair.switch with
      | some r =>
        if r ≤ s.sys.roundNo then
          let s := s.updPair fun p => { p with switch := none }
          if paServes s.pairState then s.withdrawNow else s.setPair paAlone
        else s
      | none => s
    let s := if s.withdraws then s.withdrawNow
      else match s.pair.goto with
        | some st => (s.setPair st).updPair fun p => { p with goto := none }
        | none => s
    let s := s.updPair fun p => { p with errs := s.pairErrs }
    let s := match s.pair.rejoin with
      | some r =>
        match r.w with
        | some w =>
          if r.donor = true ∧ r.c0 = none ∧ w + 5 ≤ s.sys.roundNo then
            let c0 := s.sys.roundNo + 4
            ((s.sf PAIR_STAT_PHASE 3).updPair fun p => { p with rejoin := some { r with c0 := some c0 } }).ctlSend (.commit c0)
          else s
        | none => s
      | none => s
    let s := s.pairCommit
    let s := match s.pair.rejoin with
      | some r =>
        if r.donor = false ∧ s.pairState = paChecking ∧ max 1 (s.rf PAIR_CFG_MATCH) ≤ r.matched ∧ s.coilDone = true then
          ((s.rejoinDrop).setPair paPaired).raise PAIR_EVT_PAIRED
        else s
      | none => s
    let s := s.setRegN PAIR_MIRROR s.pair.mirrored
    s.updPair fun p => { p with serving := paServes s.pairState, mirrored := 0 }

/-- The alarm starts latched since the last boundary sent to the partner (R37), with the position and the ramp that they have
reached. -/
def State.forwardAlarms (s : State) : State :=
  let l := s.alarm.starts
  let s := { s with alarm := { s.alarm with starts := [] } }
  if s.pairState = paOff then s
  else
    l.foldl (fun s t =>
      let x := s.player (s.rf (ALARM_TRIG_CFG_PLAYER t))
      let k := match x.voices.find? (·.main) with | some v => if x.holder = some t then v.k else 0 | none => 0
      s.pairSend (.alarmStart t k k)) s

end Sys2Proof.Machine
end

