-- ==== Sys2Proof/Machine/NetLink.lean ====
section
/-! DEFINITION. Machine/NetLink.lean: links that come up and go down (R254, R286 of
spec/09_network_ports.md; R312, R313 of spec/10_streams_and_pairing.md). Links 0 to 5 are the ports, 6 and 7 the
two lanes of the pair link. -/
namespace Sys2Proof.Machine

open Reg

def execLinkUp (l : Fin 8) (m : LineMode) (s : State) : Out :=
  .next (if l.val < 6 then s.linkRaise l.val m
    else if m = .m25G ∧ s.hubUp = true ∧ s.flag (NET_CTL_EN 6) = true then
      (s.linkRaise 6 m).laneShow (l.val - 6) true
    else s)

def execLinkDown (l : Fin 8) (s : State) : Out :=
  .next (if l.val < 6 then (if s.flag (NET_STAT_LINK l.val) then s.linkDrop l.val else s)
    else
      let s := s.laneShow (l.val - 6) false
      let s := if (s.lane 0).up || (s.lane 1).up || !s.flag (NET_STAT_LINK 6) then s else s.linkDrop 6
      s.pairLinkGone)

end Sys2Proof.Machine
end

