-- ==== Sys2Proof/Machine/Ptp.lean ====
section
/-! DEFINITION. Machine/Ptp.lean: PTP, the servo, steps of time, snapshots and the staging of scheduled actions (R323
to R352 of spec/11_network_time.md). -/
namespace Sys2Proof.Machine

open Reg

/-! ### Best master (R325, R326) -/

/-- The domain of this instance: 0 under IEEE 802.1AS (R325). -/
def State.ptpDomain (s : State) : Nat := if s.rf TIME_CFG_PROFILE = 2 then 0 else s.rf TIME_CFG_DOMAIN

/-- PTP runs and a message is for this instance: PTP_EN, the port, the domain. -/
def State.ptpTakes (s : State) (h : PtpHdr) : Bool :=
  s.hubUp && s.flag TIME_CTL_PTP_EN && s.netUp h.port.val && h.domain.toNat == s.ptpDomain && !s.flag ALARM_CTL_BARE

/-- A message taken, a malformed one being a violation of class PTP whose DETAIL is open (R278). -/
def State.ptpMsg (s : State) (h : PtpHdr) (f : State → State) : State :=
  if !s.ptpTakes h then s
  else if s.quarantined h.port.val h.mac.toNat then s.cnt h.port.val cRxQuar
  else if h.ok then f s
  else
    let (d, s) := s.pick 65536
    s.fwViolation 1 h.port.val d h.mac.toNat false

/-- An interval of TIME_PTP_INT in units of 1/6 ns: 2 to its signed logarithm, in seconds. -/
def State.ptpInt (s : State) (f : RegField) : Nat :=
  let l := sext 8 (s.rf f)
  if l < 0 then sec1 / 2 ^ l.natAbs else sec1 * 2 ^ l.natAbs

/-- Whether a master's announcements have timed out: three intervals without one. -/
def State.masterStale (s : State) (m : Master) : Bool := Nat.ble (m.last + 3 * s.ptpInt TIME_PTP_INT_ANNOUNCE) s.now

/-- A master that may be selected: heard twice, not timed out, not quarantined. -/
def State.masterOk (s : State) (m : Master) : Bool :=
  Nat.ble 2 m.heard && !s.masterStale m && !s.quarantined m.port m.mac

/-- What two masters are compared by, in order: priority1, class, accuracy, variance, priority2, identity, steps. -/
def Master.rank (m : Master) : List Nat := [m.prio1, m.cls, m.acc, m.var_, m.prio2, m.gm, m.steps, m.src]

/-- Lexicographic order. -/
def lexLt : List Nat → List Nat → Bool
  | a :: t, b :: u => Nat.blt a b || (a == b && lexLt t u)
  | _, _ => false

/-- The best of the masters heard that is better than this clock's own data set. -/
def State.bestMaster (s : State) : Option Master :=
  let own := [s.rf TIME_PTP_DS_PRIO1, s.rf TIME_PTP_DS_CLASS, s.rf TIME_PTP_DS_ACCURACY, 65535, s.rf TIME_PTP_DS_PRIO2]
  let ok := s.hoop.masters.filter fun m => s.masterOk m && lexLt m.rank own
  ok.foldl (fun b m => match b with
    | some x => if lexLt m.rank x.rank then some m else some x
    | none => some m) none

/-- The servo's samples forgotten: it acquires afresh. -/
def State.servoFresh (s : State) : State :=
  let s := { s with hoop := { s.hoop with discards := [], recent := [], good := 0, bad := 0, suspect := none, lastSync := none } }
  s.sf TIME_STAT_SUSPECT 0

/-- The selection of the best master taken over (R326). -/
def State.selectMaster (s : State) : State :=
  match s.bestMaster with
  | none => s
  | some m =>
    if s.hoop.master = some m.src then s
    else
      let s := { s.servoFresh with hoop := { s.servoFresh.hoop with master := some m.src } }
      ((s.raise TIME_EVT_MASTER_CHG).sf TIME_STAT_PTP_PORT m.port).sf TIME_STAT_SERVO svAcquiring

/-- The selected master. -/
def State.curMaster (s : State) : Option Master :=
  match s.hoop.master with
  | some x => s.hoop.masters.find? fun m => m.src == x
  | none => none

def execPtpAnnounce (h : PtpHdr) (d : PtpAnnounce) (s : State) : Out :=
  .next (s.ptpMsg h fun s =>
    let src := h.src.toNat
    let was := match s.hoop.masters.find? fun m => m.src == src with
      | some m => if s.masterStale m then 0 else m.heard
      | none => 0
    let m : Master :=
      { src := src, mac := h.mac.toNat, port := h.port.val, prio1 := d.prio1.toNat, cls := d.cls.toNat, acc := d.acc.toNat,
        var_ := d.var_.toNat, prio2 := d.prio2.toNat, gm := d.gm.toNat, steps := d.steps.toNat, heard := was + 1, last := s.now }
    ({ s with hoop := { s.hoop with masters := (s.hoop.masters.filter fun (m : Master) => m.src != src) ++ [m] } }).selectMaster)

/-- Whether the selected master is lost (R326): timed out, quarantined, or suspect while another qualifies. -/
def State.masterGone (s : State) (m : Master) : Bool :=
  s.masterStale m || s.quarantined m.port m.mac
    || (s.flag TIME_STAT_SUSPECT && s.hoop.masters.any fun x => x.src != m.src && s.masterOk x)

/-- The selected master lost: by a timeout that the clock moves on to unless another reason holds already. -/
def execMasterLost (s : State) : Out :=
  .next (match s.curMaster with
    | none => s
    | some m =>
      let s := if s.masterGone m then s else s.moveTo (m.last + 3 * s.ptpInt TIME_PTP_INT_ANNOUNCE)
      let s := ((s.raise TIME_EVT_MASTER_LOST).refLost 0).holdover
      let s := { s with hoop := { s.hoop with
        master := none, masters := s.hoop.masters.filter fun (x : Master) => x.src != m.src } }
      s.servoFresh.selectMaster)

/-! ### Steps in a muted transition (R337, R338) -/

/-- A step by an offset named for boundary A, 4 rounds ahead; in a pair by SIDE 0, in a CONTROL frame. -/
def State.callStep (s : State) (ofs : Int) : State :=
  let a := s.sys.roundNo + 4
  if s.hoop.trans.isSome then s
  else if s.pairState = paPaired then
    if s.flag PAIR_CFG_SIDE then s else (s.ctlSend (.step a ofs)).nameStep a ofs
  else s.nameStep a ofs

/-- The clusters' S becomes the present round (R141, R337). -/
def State.restartS (s : State) : State :=
  (List.range 16).foldl (fun s c =>
    (s.setRegN (CL_START_RND c) s.sys.roundNo).setCluster c { s.cluster c with round := s.sys.roundNo }) s

/-- A round number moved with the grid. -/
def shiftRound (old new r : Nat) : Nat := r + new - old

/-- What waits for a boundary of the running count waits for the same boundary under the new count; scheduled
actions keep their due rounds. -/
def State.shiftRounds (s : State) (old new : Nat) : State :=
  let f := shiftRound old new
  let route (d : RouteDue) : RouteDue := { d with due := f d.due }
  let border (d : BorderDue) : BorderDue := { d with due := f d.due }
  let port (x : NetPort) : NetPort := { x with swapDue := x.swapDue.map f }
  let rejoin (r : Rejoin) : Rejoin := { r with w := r.w.map f, c0 := r.c0.map f }
  { s with
    weave := { s.weave with dueC := s.weave.dueC.map route, dueH := s.weave.dueH.map route }
    border := { s.border with due := s.border.due.map border }
    net := { s.net with ports := s.net.ports.map fun e => (e.1, port e.2) }
    ports := { s.ports with startPend := s.ports.startPend.map fun e => (f e.1, e.2) }
    pair := { s.pair with
      heard := s.pair.heard.map f, listen := s.pair.listen.map f, switch := s.pair.switch.map f,
      rejoin := s.pair.rejoin.map rejoin } }

/-- The outputs brought back to unity from where they stand, over RAMP rounds. -/
def State.rampBack (s : State) (ramp : Nat) : State :=
  { s with hoop := { s.hoop with outRamp := some (Ramp.start s.hoop.outGain unity20 (ramp * s.sys.n)) } }

/-- A transition abandoned for an alarm (R337). -/
def State.stepDrop (s : State) (t : Trans) : State :=
  let s := { s with hoop := { s.hoop with trans := none } }
  (((s.rampBack t.ramp).raise TIME_EVT_STEP_ABANDONED).sf TIME_STAT_STEP_PEND 0).holdover

/-- A transition at boundary A + MUTE (R337): the step, or its abandonment for an alarm. -/
def execTimeStep (s : State) : Out :=
  .next (match s.hoop.trans with
    | none => s
    | some t =>
      if t.stepped.isSome || Nat.blt s.sys.roundNo t.start then s
      else if s.alarmActive then s.stepDrop t
      else if s.sys.roundNo < t.start + t.mute then s
      else
        let old := s.sys.roundNo
        let s := s.setTod (s.tod - t.ofs)
        let new := s.gridRound s.tod
        let s := { s.shiftRounds old new with sys := { s.sys with roundNo := new } }
        let s := { s.servoFresh with hoop := { s.servoFresh.hoop with
          filt := 0, holdAt := none, trans := some { t with stepped := some new } } }
        let s := ((s.restartS.raise TIME_EVT_STEPPED).setQual qEstimated).sf TIME_STAT_SERVO svAcquiring
        (s.setReg TIME_ERR 1000#32).setReg TIME_OFS 0#32)

/-- A boundary's share of a transition (R337): STEP_PEND and the mute at A, its abandonment for an alarm at any boundary before
the step, the return of the outputs after it, and the end. -/
def State.transBoundary (s : State) : State :=
  let s := match s.hoop.outRamp with
    | some r =>
      let (g, r') := r.adv s.sys.n
      { s with hoop := { s.hoop with outGain := g, outRamp := r' } }
    | none => s
  match s.hoop.trans with
  | none => s
  | some t =>
    let k := s.sys.roundNo
    match t.stepped with
    | none =>
      if t.start ≤ k ∧ s.alarmActive = true then s.stepDrop t
      else if k = t.start then
        let r := Ramp.start s.hoop.outGain 0 (t.mute * s.sys.n)
        ({ s with hoop := { s.hoop with outRamp := some r } }).sf TIME_STAT_STEP_PEND 1
      else s
    | some b =>
      if k = b + 1 then s.rampBack t.ramp
      else if b + 1 + t.ramp ≤ k then
        ({ s with hoop := { s.hoop with trans := none } }).sf TIME_STAT_STEP_PEND 0
      else s

/-! ### The servo (R333 to R338) -/

/-- Limits of TIME_CFG and TIME_CFG2 in units of 2^-16 ns. -/
def State.outlier (s : State) : Int := s.rf TIME_CFG2_OUTLIER * 100 * ns16
def State.lockLim (s : State) : Int := s.rf TIME_CFG2_LOCK_NS * ns16
def State.stepThr (s : State) : Int := s.rf TIME_CFG_STEP_THR * 1000 * ns16

/-- Whether numbers agree within a limit. -/
def agree (lim : Int) (l : List Int) : Bool :=
  l.all fun a => l.all fun b => decide (a - b ≤ lim)

/-- An offset being removed by slewing from now on, at a rate that the servo chooses, at most 200 ppm (R335). -/
def State.startSlew (s : State) (ofs : Int) : State :=
  let s := s.setTod s.tod
  let (v, s) := s.pick 200
  { s with hoop := { s.hoop with slew := some ⟨s.now, v + 1, ofs⟩ } }

/-- Slewing stopped where it stands. -/
def State.stopSlew (s : State) : State := if s.hoop.slew.isSome then s.setTod s.tod else s

/-- The present offset of the servo, removed by slewing while it is not below LOCK_NS. -/
def State.slewOn (s : State) (ofs : Int) : State :=
  if s.lockLim ≤ ofs.natAbs then s.startSlew ofs else s.stopSlew

/-- An offset above STEP_THR (R336, R338): refused after a lock, an acquisition step before it. -/
def State.servoJump (s : State) (ofs : Int) : State :=
  if s.hoop.locked then
    let s := if s.flag TIME_STAT_SUSPECT then s
      else (((s.raise TIME_EVT_JUMP_REFUSED).stopSlew.holdover).sf TIME_STAT_SUSPECT 1)
    let w := match s.hoop.suspect with
      | some (t, lo, hi) => if max hi ofs - min lo ofs ≤ s.outlier then (t, min lo ofs, max hi ofs) else (s.now, ofs, ofs)
      | none => (s.now, ofs, ofs)
    { s with hoop := { s.hoop with suspect := some w } }
  else if s.flag TIME_CFG_ACQ_STEP && !s.alarmActive then
    if s.hoop.recent.length = 8 ∧ agree s.outlier s.hoop.recent = true then s.callStep ofs else s
  else s.slewOn ofs

/-- The lock criteria (R334): 16 samples in a row within LOCK_NS, or above four times it. -/
def State.servoLock (s : State) (ofs : Int) (acc : Nat) : State :=
  let good := if (ofs.natAbs : Int) ≤ s.lockLim then min 16 (s.hoop.good + 1) else 0
  let bad := if 4 * s.lockLim < (ofs.natAbs : Int) then min 16 (s.hoop.bad + 1) else 0
  let s := { s with hoop := { s.hoop with good := good, bad := bad } }
  if s.servo ≠ svLocked ∧ good = 16 then
    let s := { s with hoop := { s.hoop with locked := true, holdAt := none, suspect := none } }
    let s := ((s.sf TIME_STAT_SERVO svLocked).sf TIME_STAT_SUSPECT 0).setQual qLocked
    s.setRegN TIME_ERR (s.rf TIME_CFG2_LOCK_NS + acc)
  else if s.servo = svLocked ∧ bad = 16 then s.holdover
  else s

/-- TIME_OFS from the filtered offset (R352): signed ns, saturated; which way a part of a ns goes is open. -/
def State.showOfs (s : State) : State :=
  let (b, s) := s.pick 2
  let q := (s.hoop.filt + 65535 * (b : Int)) / 65536
  s.setReg TIME_OFS (wordOfInt (clampInt (-2147483648) 2147483647 q))

/-- What the servo does with its filtered offset while its reference is selected. -/
def State.servoAct (s : State) (sample : Int) (acc : Nat) : State :=
  let ofs := s.hoop.filt
  let s := if s.servo = svFree then s.sf TIME_STAT_SERVO svAcquiring else s
  if s.stepThr < (ofs.natAbs : Int) then s.servoJump ofs
  else
    let s := if s.flag TIME_STAT_SUSPECT then
        ({ s with hoop := { s.hoop with suspect := none } }).sf TIME_STAT_SUSPECT 0
      else s
    (s.slewOn ofs).servoLock sample acc

/-- The median of eight numbers: between the two middle ones, where among them is open. -/
def State.median8 (s : State) (l : List Int) : Int × State :=
  let a := l.mergeSort fun x y => decide (x ≤ y)
  let lo := a.getD 3 0
  let hi := a.getD 4 0
  let (v, s) := s.pick ((hi - lo).natAbs + 1)
  (lo + (v : Int), s)

/-- One offset sample (R333): filtered, or discarded as an outlier until eight discarded in a row agree. -/
def State.servoSample (s : State) (sel : Bool) (ofs : Int) (acc : Nat) : State :=
  if s.outlier < ((ofs - s.hoop.filt).natAbs : Int) then
    let d := (s.hoop.discards ++ [ofs])
    let d := d.drop (d.length - 8)
    if d.length = 8 ∧ agree s.outlier d = true then
      let (m, s) := s.median8 d
      let s := { s with hoop := { s.hoop with discards := [], recent := d, filt := m } }
      let s := s.showOfs
      if sel then s.servoAct m acc else s
    else { s with hoop := { s.hoop with discards := d } }
  else
    let r := s.hoop.recent ++ [ofs]
    let s := { s with hoop := { s.hoop with
      discards := [], recent := r.drop (r.length - 8), filt := Config.offsetFilter s.hoop.filt ofs } }
    let s := s.showOfs
    if sel then s.servoAct ofs acc else s

/-- Link asymmetry of a port (R329). -/
def State.asym (s : State) (p : Nat) : Int := sWord (s.reg (TIME_ASYM p))

/-- A Sync, complete with its Follow_Up where one is used (R333): the sender's time, the stamp of its receipt, and the
frequency that reference 0 then shows. -/
def execPtpSync (h : PtpHdr) (origin rx freq : Int) (s : State) : Out :=
  .next (s.ptpMsg h fun s =>
    if s.hoop.master ≠ some h.src.toNat then s
    else
      let o := origin + s.asym h.port.val
      let s := { s with hoop := { s.hoop with lastSync := some (o, rx) } }
      let ofs := rx - o - s.hoop.mpd
      let s := s.servoSample (s.selRef == 0) ofs (stampNs (s.rf (NET_STAT_SPEED h.port.val)))
      if s.flag TIME_STAT_SUSPECT then s.refLost 0 else s.refEdge 0 (some (ofs * 12 / ns16)) freq)

/-- The mean path delay kept and shown in ns (R333, R352). -/
def State.setMpd (s : State) (d : Int) : State :=
  let s := { s with hoop := { s.hoop with mpd := d } }
  let (b, s) := s.pick 2
  s.setReg TIME_MPD (wordOfInt (clampInt 0 4294967295 ((d + 65535 * (b : Int)) / 65536)))

/-- A Delay_Resp (R333): t3 the stamp of the Delay_Req it answers, t4 the master's. -/
def execPtpDelayResp (h : PtpHdr) (t3 t4 : Int) (s : State) : Out :=
  .next (s.ptpMsg h fun s =>
    if s.rf TIME_CFG_PROFILE = 0 ∧ s.hoop.master = some h.src.toNat then
      match s.hoop.lastSync with
      | some (t1, t2) => s.setMpd (((t2 - t1) + (t4 - (t3 - s.asym h.port.val))) / 2)
      | none => s
    else s)

/-- A Pdelay_Resp, complete with its follow-up where one is used (R333). -/
def execPtpPdelayResp (h : PtpHdr) (t1 t2 t3 t4 : Int) (s : State) : Out :=
  .next (s.ptpMsg h fun s =>
    if s.rf TIME_CFG_PROFILE ≠ 0 then s.setMpd (((t4 - t1) - (t3 - t2)) / 2) else s)

/-- A PTP message that the Net controller sends. -/
def State.ptpSend (s : State) (p kind : Nat) (fields : List Int) : State :=
  let f : TxFrame := { len := 68, etype := if s.flag TIME_CFG_UDP then 0x0800 else 0x88F7, body := .firmware kind fields, held := false }
  (s.enqueue p qFirmware f).1

/-- Whether this clock is the master of a port: no master is selected, or another port leads to it (R325: a boundary clock). -/
def State.masterOn (s : State) (p : Nat) : Bool := s.hoop.master.isNone || s.rf TIME_STAT_PTP_PORT != p

/-- A Delay_Req while this clock is master (R325), with the stamp of its receipt. -/
def execPtpDelayReq (h : PtpHdr) (rx : Int) (s : State) : Out :=
  .next (s.ptpMsg h fun s =>
    if s.rf TIME_CFG_PROFILE = 0 ∧ s.masterOn h.port.val = true then s.ptpSend h.port.val 9 [h.seq.toNat, rx, h.src.toNat] else s)

/-- A Pdelay_Req (R325, R330): answered one-step, or with a follow-up when the answer leaves. -/
def execPtpPdelayReq (h : PtpHdr) (rx : Int) (s : State) : Out :=
  .next (s.ptpMsg h fun s =>
    if s.rf TIME_CFG_PROFILE ≠ 0 then s.ptpSend h.port.val 3 [h.seq.toNat, rx, h.src.toNat] else s)

/-- A log interval of a Signaling request: −128 leaves it as it is, and one outside the supported range is ignored. -/
def State.setInterval (s : State) (f : RegField) (v : BitVec 8) (lo hi : Int) : State :=
  let x := v.toInt
  if lo ≤ x ∧ x ≤ hi then s.sf f v.toNat else s

/-- An 802.1AS Signaling interval request (R325). -/
def execPtpSignaling (h : PtpHdr) (link sync ann : BitVec 8) (s : State) : Out :=
  .next (s.ptpMsg h fun s =>
    if s.rf TIME_CFG_PROFILE = 2 then
      ((s.setInterval TIME_PTP_INT_SYNC sync (-7) 1).setInterval TIME_PTP_INT_ANNOUNCE ann (-3) 3).setInterval
        TIME_PTP_INT_DELAY_REQ link (-7) 5
    else s)

/-- A Management message: answered as unsupported (R325). -/
def execPtpManagement (h : PtpHdr) (s : State) : Out :=
  .next (s.ptpMsg h fun s => s.ptpSend h.port.val 13 [h.seq.toNat, h.src.toNat])

/-- CONFIRM seconds of agreeing samples from a suspect master, STEP_OK, and no other that qualifies (R336). -/
def execStepConfirm (s : State) : Out :=
  .next (match s.hoop.suspect, s.curMaster with
    | some (t, _, _), some m =>
      if s.flag TIME_CFG_STEP_OK = true ∧ s.hoop.trans = none
          ∧ (s.hoop.masters.any fun x => x.src != m.src && s.masterOk x) = false then
        (s.moveTo (t + s.rf TIME_CFG2_CONFIRM * sec1)).callStep s.hoop.filt
      else s
    | _, _ => s)

/-! ### Snapshots, stamps and the RTC (R332, R340, R352) -/

/-- A write of TIME_SNAP. -/
def State.snapWrite (s : State) (a : Nat) (v : Word) : State :=
  if a != 0 && a != 2 then s.err
  else
    let t := s.tod
    let s :=
      if bitAt v 0 then
        let s := ((s.setRegN TIME_SNAP_SHI (todSec t / 2 ^ 32)).setRegN TIME_SNAP_SLO (todSec t)).setRegN TIME_SNAP_NS (todNs t)
        let s := s.setRegN TIME_SNAP_FRAC (todFrac t * 65536)
        (s.setRegN TIME_SNAP_RLO s.sys.roundNo).setRegN TIME_SNAP_RHI (s.sys.roundNo / 2 ^ 32 % 65536)
      else s
    s.ok 0#32

def execTimeSnap (a : Agent) (s : State) : Out := .next (s.regWrite a TIME_SNAP 1#32 fun s => s.snapWrite a.val 1#32)

/-- A read of TIME_TSQ_POP: the oldest stamp of the port's queue moves to the read registers. -/
def State.tsqPop (s : State) (a p : Nat) : State :=
  if Nat.blt 2 a then s.err
  else
    match s.hoop.tsq.find? fun (r : TsqRec) => r.port == p with
    | none => s.ok 0#32
    | some r =>
      let s := { s with hoop := { s.hoop with tsq := s.hoop.tsq.erase r } }
      let n := (s.hoop.tsq.filter fun (r : TsqRec) => r.port == p).length
      let s := s.sf (TIME_TSQ_STAT_COUNT p) n
      let s := (s.setRegN (TIME_TSQ_NS p) (todNs r.time)).setRegN (TIME_TSQ_S p) (todSec r.time)
      s.ok (BitVec.ofNat 32 (2 ^ 31 + r.seq))

def execTimeTsqPop (a : Agent) (p : Fin 6) (s : State) : Out :=
  .next (s.access a.val (TIME_TSQ_POP p.val) false 0#32 fun s => s.tsqPop a.val p.val)

/-- A measurement of the RTC period, unsigned Q16.32 ns (R340). -/
def execRtcPeriodMeasure (per : BitVec 48) (s : State) : Out :=
  .next (if s.hubUp then { s with hoop := { s.hoop with rtcPer := per.toNat } } else s)

/-! ### The staging of scheduled actions (R342, R343, R347) -/

/-- GO on a staging set. -/
def State.saGo (s : State) (a : Nat) (setH : Bool) : State :=
  let ix := setIx setH
  let w := (List.range 8).map fun i => s.reg (TIME_SA_W ix i)
  let r := s.saResult a setH w
  let s := s.setRegN (TIME_SA_STAT ix) r
  if r = 1 then s.raise TIME_EVT_SA_FULL
  else if r = 0 then
    let s := s.saPush a setH w
    if a = 1 ∧ s.sharing = true then s.pairSend (.action [setBits (w.getD 0 0#32) 20 16 1 :: w.drop 1]) else s
  else s

/-- The words of an action staged and GO written, by an agent that may use the set. -/
def State.saWrite (s : State) (a : Agent) (setH : Bool) (w : List Word) : State :=
  s.regWrite a (TIME_SA_GO (setIx setH)) 1#32 fun s =>
  if saAgent setH a.val then
    let s := w.zipIdx.foldl (fun s x => s.setReg (TIME_SA_W (setIx setH) x.2) x.1) s
    (s.saGo a.val setH).ok 0#32
  else s.err

/-- Staged words with their KIND, and for an ALARM action their OP, as the command names them. -/
def saKind (w : SaWords) (kind : Nat) : List Word := w.list.set 0 (setBits w.w0 31 28 kind)
def saAlarm (w : SaWords) (op : Nat) : List Word := (saKind w kAlarm).set 2 (setBits w.w2 10 8 op)

def execSaRoute (a : Agent) (setH : Bool) (w : SaWords) (s : State) : Out := .next (s.saWrite a setH (saKind w kRoute))

def execSaBorder (a : Agent) (setH : Bool) (w : SaWords) (s : State) : Out := .next (s.saWrite a setH (saKind w kBorder))

def execSaAlarmStart (a : Agent) (setH : Bool) (w : SaWords) (s : State) : Out := .next (s.saWrite a setH (saAlarm w 1))

def execSaAlarmStop (a : Agent) (setH : Bool) (w : SaWords) (s : State) : Out := .next (s.saWrite a setH (saAlarm w 2))

def execSaAlarmReset (a : Agent) (setH : Bool) (w : SaWords) (s : State) : Out := .next (s.saWrite a setH (saAlarm w 3))

def execSaAlarmEngage (a : Agent) (setH : Bool) (w : SaWords) (s : State) : Out := .next (s.saWrite a setH (saAlarm w 4))

def execSaAlarmRelease (a : Agent) (setH : Bool) (w : SaWords) (s : State) : Out := .next (s.saWrite a setH (saAlarm w 5))

/-- A GO with a reserved KIND: 0, or 4 to 15 (R342). -/
def execSaBadkind (a : Agent) (setH : Bool) (kind : Fin 13) (w : SaWords) (s : State) : Out :=
  .next (s.saWrite a setH (saKind w (if kind.val = 0 then 0 else kind.val + 3)))

/-- A write of TIME_SA_CANCEL. -/
def State.saCancelWrite (s : State) (a : Nat) (setH : Bool) (v : Word) : State :=
  if saAgent setH a then (if bitAt v 31 then s.saCancel setH (bitsOf v 15 0) else s).ok 0#32 else s.err

def execTimeSaCancel (a : Agent) (setH : Bool) (tag : BitVec 16) (s : State) : Out :=
  let v := BitVec.ofNat 32 (2 ^ 31 + tag.toNat)
  .next (s.regWrite a (TIME_SA_CANCEL (setIx setH)) v fun s => s.saCancelWrite a.val setH v)

end Sys2Proof.Machine
end

