-- ==== Sys2Proof/Machine/RefSel.lean ====
section
/-! DEFINITION. Machine/RefSel.lean: qualification, selection, switching, holdover and the clock outputs
(R353 to R378 of spec/12_references_and_clocks.md). -/
namespace Sys2Proof.Machine

open Reg

/-! ### Edges (R354 to R357) -/

/-- Whether the reference inputs are measured: the hub is up, the TCXO runs, not in Bare mode (R374). -/
def State.refRuns (s : State) : Bool := s.hubUp && s.flag REFSEL_STAT_XO_OK && !s.flag ALARM_CTL_BARE

/-- What a pulse of PPS_IN does to the servo while it is selected (R365): after a lock a jump is refused and the
reference disqualified. The accuracy of its stamps is open. -/
def State.ppsSample (s : State) (e : Int) : State :=
  let (acc, s) := s.pick 65536
  let s := s.servoSample true (e * ns16 / 12) acc
  if s.hoop.locked && decide (s.stepThr < (e * ns16 / 12).natAbs) then s.refDisq 2 else s

/-- A marking edge of a reference other than PTP: `phase` is its time after the instant that it marks, in 1/12 ns,
before REF_OFS is taken off; `freq` the fractional frequency measured, in ppt. -/
def execMarkingEdge (k : Fin 7) (phase freq : Int) (s : State) : Out :=
  let r := k.val + 1
  .next (if !s.refRuns || (Nat.ble 4 r && !s.flag (AES_IN_CFG_EN (r - 4))) then s
    else
      let e := wrapPhase (s.refPeriod12 r) (phase - 3 * sWord (s.reg (REF_OFS r)))
      let s := s.refEdge r (if r = 3 then none else some e) freq
      if r = 2 ∧ s.selRef = 2 then s.ppsSample e else s)

/-- Three expected periods without an edge. -/
def execRefLos (r : Fin 8) (s : State) : Out :=
  .next (if s.flag (REF_STAT_PRESENT r.val) then
      (s.moveTo ((s.ref r.val).last + 3 * s.refPeriod12 r.val / 2)).refLost r.val
    else s)

/-- QUAL_S seconds without a break (R355); a wait-to-restore follows a disqualification since the last start (R357). -/
def execRefQualify (r : Fin 8) (s : State) : Out :=
  let x := s.ref r.val
  .next (if s.flag (REF_STAT_PRESENT r.val) && !s.refQual r.val && x.freqAt.isSome && s.freqOk r.val
      && (r.val != 0 || !s.flag TIME_STAT_SUSPECT) then
      let s := s.moveTo (x.since + s.qualTime)
      let s := (s.sf (REF_STAT_QUAL r.val) 1).raise REFSEL_EVT_QUALIFIED
      if x.again && s.wtrTime != 0 then (s.sf (REF_STAT_IN_WTR r.val) 1).setRef r.val { x with wtr := s.now } else s
    else s)

/-- One second with the frequency out of range (R356). -/
def execRefFreqDisqualify (r : Fin 8) (s : State) : Out :=
  .next (match (s.ref r.val).off with
    | some t => if s.refQual r.val then (s.moveTo (t + sec1)).refDisq r.val else s
    | none => s)

def execWtrExpire (r : Fin 8) (s : State) : Out :=
  .next (if s.flag (REF_STAT_IN_WTR r.val) then
      (s.moveTo ((s.ref r.val).wtr + s.wtrTime)).sf (REF_STAT_IN_WTR r.val) 0
    else s)

def execDistrustEnd (r : Fin 8) (s : State) : Out :=
  .next (match (s.ref r.val).agree with
    | some t =>
      if s.flag (REF_STAT_DISTRUST r.val) then
        ((s.moveTo (t + s.wtrTime)).sf (REF_STAT_DISTRUST r.val) 0).setRef r.val { s.ref r.val with agree := none }
      else s
    | none => s)

/-! ### Evaluation (R358 to R361, R369) -/

/-- Whether a voluntary change is allowed now (R359, R360). -/
def State.mayChange (s : State) : Bool :=
  s.flag REFSEL_CTL_REVERT && s.selState != rsSwitching
    && (match s.refsel.changeAt with
      | some t => Nat.ble (t + max s.wtrTime sec1) s.now
      | none => true)

/-- Whether two references agree in frequency (R361). -/
def State.refAgree (s : State) (a b : Nat) : Bool :=
  decide ((s.refFreq a - s.refFreq b).natAbs ≤ (bitsOf (s.reg REFSEL_AGREE) 19 0) * 1000)

/-- A reference distrusted. -/
def State.distrust (s : State) (r : Nat) : State :=
  ((s.sf (REF_STAT_DISTRUST r) 1).raise (REF_HIST_DISAGREE r)).setRef r { s.ref r with agree := none }

/-- The selected reference weighed against another of its rank that differs from it: witnesses of each. -/
def State.weigh (s : State) (sel q : Nat) : State :=
  let wit := (List.range 8).filter fun r => r != sel && r != q && s.refQual r
  let a := (wit.filter (s.refAgree sel)).length
  let b := (wit.filter (s.refAgree q)).length
  if b < a then s.distrust q
  else if a < b then
    if s.mayChange && s.refEligible q then (s.switchTo q).distrust sel else s
  else if a = 0 then (s.raise REFSEL_EVT_DISAGREE_ALM).policyBits .refs
  else s

/-- Equal ranks (R361): the flags of the disagreement and its outcome, then the agreement of distrusted references. -/
def State.equalRanks (s : State) : State :=
  let sel := s.selRef
  let on := Nat.blt sel 8 && s.refQual sel
  let diff (r : Nat) : Bool := on && r != sel && s.refEn r && s.refQual r && s.refRank r == s.refRank sel && !s.refAgree r sel
  let out := (List.range 8).filter diff
  let s := s.setFlag REFSEL_STAT_RANK_DISAGREE (!out.isEmpty)
  let s := (List.range 8).foldl (fun (s : State) r =>
    s.setFlag (REF_STAT_RANK_DISAGREE r) (out.contains r || (r == sel && !out.isEmpty))) s
  let s := if out.isEmpty then s else s.raise REFSEL_EVT_RANK_DISAGREE
  let s := match out.find? fun r => !s.flag (REF_STAT_DISTRUST r) with
    | some q => s.weigh sel q
    | none => s
  (List.range 8).foldl (fun (s : State) r =>
    if s.flag (REF_STAT_DISTRUST r) && Nat.blt s.selRef 8 then
      let x := s.ref r
      s.setRef r { x with agree := if s.refAgree r s.selRef then some (x.agree.getD s.now) else none }
    else s) s

/-- The reference held through a forced mode is tracked again. -/
def State.resume (s : State) : State :=
  let by_ := s.now + s.switchTime s.selRef
  { s.sf REFSEL_STAT_STATE rsSwitching with refsel := { s.refsel with switchBy := by_, locked := false } }

/-- Automatic selection, the pseudocode of R358; on a return from a forced mode the held reference counts as
selected and no change is due before its time (R369). -/
def State.autoSelect (s : State) : State :=
  let sel := s.selRef
  if 8 ≤ sel ∨ s.refQual sel = false then s.forceChange
  else
    match s.bestRef with
    | some r =>
      let held := s.selState == rsForced
      if s.mayChange && (Nat.blt (s.refRank r) (s.refRank sel) || (held && r != sel)) then s.switchTo r
      else if held then s.resume else s
    | none => if s.selState = rsForced then s.resume else s

/-- Manual mode (R369): the reference of SEL_REF while it is qualified, else holdover. -/
def State.manualSelect (s : State) : State :=
  let r := s.rf REFSEL_CTL_SEL_REF
  if r < 8 ∧ s.refEn r = true ∧ s.refQual r = true ∧ s.flag (REF_STAT_IN_WTR r) = false then
    if s.selRef = r ∧ s.selState ≠ rsForced then s else s.switchTo r
  else s.refHoldover

/-- The NCO moved towards a word by at most a step. -/
def State.ncoToward (s : State) (lim : Nat) (x : Int) : State :=
  s.setNco (s.nco + clampInt (-(lim : Int)) lim (x - s.nco))

/-- The NCO moved by the loop: how far within SLOPE is open (R362, R366). -/
def State.ncoLoop (s : State) (lim : Nat) : State :=
  let (v, s) := s.pick (2 * lim + 1)
  s.setNco (s.nco + (v : Int) - lim)

/-- The word that a switch moves towards (R363): for a frequency reference its frequency; for a phase reference the
difference, at most 200 ppm, from which SLOPE brings frequency and phase to 0 together, which is the curve that a movement of
least time runs along. -/
def State.switchAim (s : State) : Int :=
  let r := s.selRef
  let e := s.phaseNow r
  let x : Int := min (isqrt (2 * s.slope * e.natAbs)) 200000000
  s.refFreq r - (if 0 < e then x else -x)

/-- The NCO over the time since the last evaluation: SLOPE in ppb/s is as many ppt in each ms. -/
def State.ncoMove (s : State) (dt : Nat) : State :=
  let lim := s.slope * dt / ms1
  let st := s.selState
  if s.rf REFSEL_CTL_SEL_MODE = 3 then s.ncoToward lim s.forceWord
  else if s.rf REFSEL_CTL_SEL_MODE = 2 ∨ st = rsHoldover then s.ncoToward lim s.holdWord
  else if st = rsSwitching then s.ncoToward lim s.switchAim
  else if Nat.blt s.selRef 8 then s.ncoLoop lim
  else s

/-- The present word put into the history, one a second, over the longest HOLD_AVG and the 2 s left out. -/
def State.histPut (s : State) : State :=
  let due := match s.refsel.hist.getLast? with
    | some e => Nat.ble (e.1 + sec1) s.now
    | none => true
  if due then
    let h := s.refsel.hist ++ [(s.now, s.nco)]
    { s with refsel := { s.refsel with hist := h.drop (h.length - 1030) } }
  else s

/-- The selector's evaluation, once per ms. -/
def execSelectorEvaluate (s : State) : Out :=
  .next (if !s.refRuns || !s.flag REFSEL_CTL_RUN then s
    else
      let s := s.moveTo (s.refsel.evalAt + ms1)
      let dt := s.now - s.refsel.evalAt
      let s := { s with refsel := { s.refsel with evalAt := s.now } }
      let s := (s.ncoMove dt).histPut.equalRanks
      match s.rf REFSEL_CTL_SEL_MODE with
      | 0 => s.autoSelect
      | 1 => s.manualSelect
      | _ => s.sf REFSEL_STAT_STATE rsForced)

/-- The end of a switch (R363): within 10 ppb of the target's frequency and, for a phase reference, its phase error
within LOCK_NS. -/
def State.switchMet (s : State) : Bool :=
  let r := s.selRef
  s.selState == rsSwitching && Nat.blt r 8 && decide ((s.nco - s.refFreq r).natAbs ≤ 10000)
    && (!s.refPhase r || (match (s.ref r).phase with
      | some e => decide (e.natAbs ≤ 12 * s.rf TIME_CFG2_LOCK_NS)
      | none => false))

def execSwitchDone (s : State) : Out :=
  .next (if s.switchMet then
      let s := { s with refsel := { s.refsel with locked := true } }
      ((s.sf REFSEL_STAT_STATE rsLocked).raise REFSEL_EVT_SWITCH_DONE).raise REFSEL_EVT_LOCKED
    else s)

/-! ### Reads -/

/-- REF_STAT as it reads: ELIGIBLE and WTR_REM follow the state. -/
def State.refStat (s : State) (r : Nat) : Word :=
  let w := setBits (s.reg (REF_STAT r)) 29 29 (if s.refEligible r then 1 else 0)
  let rem := if s.flag (REF_STAT_IN_WTR r) then ((s.ref r).wtr + s.wtrTime - s.now + sec1 - 1) / sec1 else 0
  setBits w 11 0 (min rem 4095)

/-- REFSEL_LAST as it reads. -/
def State.refLast (s : State) : Word :=
  match s.refsel.changeAt with
  | some t => BitVec.ofNat 32 (min ((s.now - t) / sec1) 0xFFFFFFFF)
  | none => 0#32

/-! ### Starting afresh (R374, R375) -/

/-- Every reference to qualify afresh; `start` also forgets earlier disqualifications. -/
def State.refsAfresh (s : State) (start : Bool) : State :=
  let s := (List.range 8).foldl (fun (s : State) r =>
    (s.setReg (REF_STAT r) 0#32).setRef r { RefIn.empty with again := !start && (s.ref r).again }) s
  let s := { s with refsel := { s.refsel with changeAt := none, hist := [], locked := false, farAt := none, evalAt := s.now } }
  (s.sf REFSEL_STAT_SEL 15).sf REFSEL_STAT_RANK_DISAGREE 0

/-- After a device reset or a wake from Rim: the NCO at the retained REFSEL_HOLD, STATE HOLDOVER. -/
def State.refWake (s : State) : State :=
  ((s.refsAfresh true).setNco s.holdWord).sf REFSEL_STAT_STATE rsHoldover

/-- Step 2 of the ladder: the word held as REFSEL_HOLD, and selection afresh. -/
def State.refReinit (s : State) : State :=
  ((s.refsAfresh false).setWord48 REFSEL_HOLD_LO REFSEL_HOLD_HI s.nco).sf REFSEL_STAT_STATE rsHoldover

/-! ### Writes (R367, R371, R372, R377, R378) -/

/-- The widest bandwidth code that a reference accepts (R367). -/
def widestBw (r : Nat) : Nat := if r = 0 then 6 else if r = 2 then 3 else if r = 1 ∨ r = 3 then 12 else 10

/-- What a write of a REFSEL register makes of the word, none for one with an error response; bits that are fixed
for a reference stay as they are. -/
def refselValue (reg : Nat) (v : Word) : Option Word :=
  if reg = REFSEL_CFG then
    if 3600 < bitsOf v 31 20 ∨ 200 < bitsOf v 7 0 then none else some v
  else if 0x510100 ≤ reg ∧ reg < 0x510200 ∧ reg % 32 = 0 then
    let r := (reg - 0x510100) / 32
    if bitsOf v 27 24 = 0 ∨ widestBw r < bitsOf v 19 16 ∨ widestBw r < bitsOf v 15 12 then none
    else
      let v := if r = 0 ∨ r = 2 then setBits v 30 30 1 else if r = 3 then setBits v 30 30 0 else v
      some (if r = 1 then v else setBits v 9 8 1)
  else some v

def OutPort.empty : OutPort := { cfg := 0x02000064#32, ofs := 0#32, next := none }

/-- A clock output as it stands now: what was written has taken effect once its instant is there. -/
def State.outNow (s : State) (o : Nat) : OutPort :=
  let x := mget (fun _ => OutPort.empty) s.refsel.outs o
  match x.next with
  | some (c, f, t) => if t ≤ s.now then { cfg := c, ofs := f, next := none } else x
  | none => x

/-- A write of OUT_CFG or OUT_OFS: in effect at the next whole second in mode 3, else at the next round boundary. -/
def State.outCfgWrite (s : State) (a : Nat) (o : Nat) (ofs : Bool) (v : Word) : State :=
  if 1 < a ∨ (ofs = false ∧ 4 < bitsOf v 30 28) then s.err
  else
    let s := s.setReg (if ofs then OUT_OFS o else OUT_CFG o) (if ofs then v else v &&& 0xF78003FF#32)
    let c := s.reg (OUT_CFG o)
    let part := s.tod % s16
    let second := s.now + ((s16 - part) * 6 / ns16).toNat
    let t := if bitsOf c 30 28 = 3 then second else s.sys.roundStart + s.sys.roundLen
    ({ s with refsel := { s.refsel with
      outs := mset (fun _ => OutPort.empty) s.refsel.outs o { s.outNow o with next := some (c, s.reg (OUT_OFS o), t) } } }).ok 0#32

def execOutCfgWrite (a : Agent) (o : Fin 4) (ofs : Bool) (v : Word) (s : State) : Out :=
  .next (s.regWrite a (if ofs then OUT_OFS o.val else OUT_CFG o.val) v fun s => s.outCfgWrite a.val o.val ofs v)

/-- Whether CLKOUT o is high (R371 to R374): driven low while off, without the TCXO, in Rim and in Bare mode. -/
def State.clkOut (s : State) (o : Nat) : Bool :=
  let x := s.outNow o
  let k := bitsOf x.cfg 26 24
  let m := bitsOf x.cfg 30 28
  let ofs := sWord x.ofs
  let t12 : Int := 2 * ((s.now : Int) - s.sys.roundStart) - 3 * ofs
  let p12 : Int := 2 * s.sys.period
  let f512 : Int := if s.sys.rate96 then 512 else 1024
  if !s.refRuns || !bitAt x.cfg 31 then false
  else if m = 1 then decide (t12 * f512 % (p12 * 2 ^ k) * 2 < p12 * 2 ^ k)
  else if m = 2 then decide (t12 % p12 * 2 < p12)
  else if m = 3 then
    (!bitAt x.cfg 23 || s.qual == qLocked || s.qual == qHoldover)
      && decide ((s.tod - ofs * ns16 / 4) % s16 < bitsOf x.cfg 9 0 * (s16 / 1000))
  else if m = 4 then decide (t12 % (s.sys.n * p12) < p12)
  else false

end Sys2Proof.Machine
end

