-- ==== Sys2Proof/Machine/Reset.lean ====
section
/-! DEFINITION. Machine/Reset.lean: what a device reset, Rim and the loss of power leave (R9, R68, R69, R156, R215, R216,
R245, R246, R285, R341, R349, R374, R395, R413, R448, R474, R519). -/
namespace Sys2Proof.Machine

open Reg

/-! ### The RTC (R340, R341) -/

/-- The RTC count: 32,768 Hz since the power of the Rim domain came up. -/
def State.rtc (s : State) : Nat := (s.now - s.power.rtcAt) * 32768 / sec1 % 2 ^ 48

/-- Time restored after Rim or a device reset (R341): the elapsed count times the period kept, with the quality and error
that follow, and the round number of that time, whose round began as far back as the grid says; ticks of a failed crystal are
of nominal length, ±2 %. -/
def State.timeRestore (s : State) : State :=
  let ticks := (s.rtc + 2 ^ 48 - s.hoop.entryTicks) % 2 ^ 48
  let rc := s.flag RIM_STAT_RC_ACTIVE
  let per := if rc then 0x773594000000 else bitsOf (s.reg TIME_RTC_PER_HI) 15 0 * 2 ^ 32 + (s.reg TIME_RTC_PER_LO).toNat
  let dt : Nat := ticks * per / 2 ^ 16
  let unc := if rc then 20000000 else (s.reg TIME_RTC_UNC).toNat
  let s := s.setTod ((s.hoop.entryTime : Int) + (dt : Int))
  let s := s.setQual (if rc then qCoarse else qEstimated)
  let s := s.setRegN TIME_ERR (min (dt / 65536 * unc / 1000000000 + 30500) 0xFFFFFFFF)
  let s := if rc then (s.raise TIME_STAT_RTC_RC).raise TIME_EVT_RTC_FAIL else s
  let begun := (s.tod * s.sys.rate % (s16 * s.sys.n) * 6 / (65536 * s.sys.rate)).toNat
  { s with sys := { s.sys with roundNo := s.gridRound s.tod, roundStart := s.now - begun, pass := 0 } }

/-- Time and the RTC count kept for the way back. -/
def State.timeSave (s : State) : State :=
  { s with hoop := { Hoop.init with entryTime := s.tod.toNat, entryTicks := s.rtc, ofs := s.hoop.ofs } }

/-! ### Registers that are kept (R9) -/

/-- A register that its chapter marks as retained, that lies in the Rim domain or in OTP, or that shows state which its
chapter keeps, such as active triggers. -/
def keptReg (a : Nat) : Bool :=
  let rw := match regRow a with | some r => r.rw != 0 | none => false
  (Nat.ble 0x10000 a && Nat.ble a 0x1FFFF)
    || a == PWR_TRIM_MASK || a == PWR_LADDER
    || (Nat.ble 0x200000 a && Nat.ble a 0x21FFFF && [0, 4, 8, 12].contains (a % 4096))
    || (Nat.ble 0x240000 a && Nat.ble a 0x240027)
    || (Nat.ble 0x260000 a && Nat.ble a 0x2603FF && rw)
    || (Nat.ble 0x268000 a && Nat.ble a 0x2681FF && rw)
    || a == TIME_RTC_PER_LO || a == TIME_RTC_PER_HI || a == TIME_RTC_UNC
    || [REFSEL_CTL, REFSEL_CFG, REFSEL_SLOPE, REFSEL_AGREE, REFSEL_HOLD_AVG, REFSEL_HOLD_LO, REFSEL_HOLD_HI].contains a
    || (Nat.ble 0x510100 a && Nat.ble a 0x5101FF && (a % 32 == 0 || a % 32 == 4))
    || (Nat.ble 0x510200 a && Nat.ble a 0x51023F)
    || a == ALARM_CTL || a == ALARM_BARE_PORTS || (Nat.ble 0x600100 a && Nat.ble a 0x6003FF)
    || [ALARM_TRIG_ACT0, ALARM_TRIG_ACT1, ALARM_MSG_OK0, ALARM_MSG_OK1, ALARM_IN_STAT].contains a
    || (Nat.ble (WEAVE_AGRP_STATE 0) a && Nat.ble a (WEAVE_AGRP_STATE 127))
    || [TRUST_LC, TRUST_SVN, TRUST_SLOTS, TRUST_BOOT, HEALTH_TEQ].contains a
    || (Nat.ble 0x800200 a && Nat.ble a 0x8002FF && a % 8 == 4)

/-- The network port of the Rim wake filter (R493, R509). -/
def State.wfPort (s : State) : Nat := 4 + s.rf RIM_WF_CFG_PORT

/-- What R482 has copied of the wake-filter port: its station address, and its MACsec receive channels and associations. -/
def State.wfReg (s : State) (a : Nat) : Bool :=
  let p := s.wfPort
  s.power.prep && (a == NET_MAC_LO p || a == NET_MAC_HI p || a == NET_SEC_CFG p
    || (Nat.ble (NET_SEC_RXSCI_LO p 0) a && Nat.ble a (NET_SEC_SA_RZ p 131 1)))

/-- Registers back at their reset values, but for those kept; in Rim what it leaves running keeps its RUN as well, the fault
outputs hold (R215) and supervision is suspended (R187). -/
def State.resetRegs (s : State) (rim : Bool) : State :=
  { s with regs := s.regs.filter fun e => keptReg e.1 || (rim && (e.1 == WEAVE_CTL || e.1 == BORDER_CTL || e.1 == ALARM_FAULT || e.1 == ALARM_FAULT_SW
      || (Nat.ble 0x610000 e.1 && Nat.ble e.1 0x61FFFF) || s.wfReg e.1)) }

/-! ### The blocks -/

/-- The clusters without power. -/
def State.computeOff (s : State) : State :=
  (List.range 16).foldl (fun (s : State) c => s.clusterOff c (if s.clState c = clIsolated then clIsolated else clOff))
    { s with compute := { s.compute with regions := [] } }

/-- Supervision suspended in Rim (R187): states and counts stay, estimates in progress and a sweep do not. -/
def Supv.suspend (x : Supv) : Supv :=
  { x with
    lines := (x.lines.map fun e => (e.1, { e.2 with dem := Dem.zero, ready := none })).filter fun e => e.2 != Line.empty
    mics := (x.mics.map fun e => (e.1, { e.2 with sq := 0, re := 0, im := 0, n := 0, ready := none })).filter fun e => e.2 != Mic.empty
    sweep := none, params := [] }

/-- The transmit lines through a device reset (R246): zero, or at high impedance with TX_HIZ; in Rim every ball is at high
impedance (R245). -/
def State.resetLines (s : State) : SMap TxSide :=
  (List.range 32).map fun n =>
    (n, { TxSide.init with line := [if s.flag (TDM_CFG_TX_HIZ n) then none else some false] })

/-- Everything on the hub but retention at its reset, with the route table, Border records and alarm state kept. -/
def State.hubReset (s : State) (rim : Bool) : State :=
  let iso := if rim then (List.range 16).filter fun c => s.clState c == clIsolated else []
  let life := s.lifeRim
  let s := (s.timeSave.computeOff).resetRegs rim
  let s := iso.foldl (fun (s : State) c => (s.sf (CL_CTL_ISOLATE c) 1).setClState c clIsolated) s
  let s := { s with
    bus := { err := false, data := 0#32 },
    sys := { s.sys with dep := [], out := [], pass := 0 },
    weave := { Weave.init with routes := s.weave.routes },
    border := { Border.init with chans := s.border.chans },
    net := { Net.init with pnTop := s.net.pnTop },
    streams := Streams.init, pair := Pair.init, supv := if rim then s.supv.suspend else Supv.init, matrix := Matrix.init,
    ports := { Ports.init with tx := if rim then [] else s.resetLines },
    alarm := { s.alarm with rx := [], scenes := [] },
    refsel := { RefSel.init with outs := s.refsel.outs },
    trust := { s.trust with
      comps := if rim then [] else s.trust.comps, run := none, trialAt := none, flOp := none, nonceNew := false,
      site := none, siteNext := none, anOld := none, inPlace := none },
    power := { s.power with
      stalls := [], demand := [], waking := [], hand := none, retry := none, prep := false, hubWake := none, waiting := none,
      hotRegions := [], wardenUp := false, served := none, hotAt := [], hubHot := none, hubCool := none, recovBy := none, life := if rim then life else s.power.life } }
  let s := { s with mem := s.mem.filter fun e =>
    !(Nat.ble 0x0510000000 e.1 && Nat.ble e.1 0x05103FFFFF) && !(rim && Nat.blt e.1 0x0200000000) }
  let s := s.weaveRestart.borderRestart.restartPlayers
  let s := s.setReg TRUST_LC (s.reg TRUST_LC &&& 0xF0000000#32)
  (s.setReg TRUST_BOOT (s.reg TRUST_BOOT &&& 0xFFFF#32)).refWake

/-- A TRIAL slot rejected, the fallback ACTIVE again (R439). -/
def State.trialFail (s : State) : State :=
  let a := s.rf TRUST_SLOTS_SKN_A
  let b := s.rf TRUST_SLOTS_SKN_B
  if a = 4 then ((s.sf TRUST_SLOTS_SKN_A 6).sf TRUST_SLOTS_SKN_B (if b = 2 then 5 else b)).raise TRUST_EVT_TRIAL_FAIL
  else if b = 4 then ((s.sf TRUST_SLOTS_SKN_B 6).sf TRUST_SLOTS_SKN_A (if a = 2 then 5 else a)).raise TRUST_EVT_TRIAL_FAIL
  else s

/-- A device reset (R9, R246, R426, R474): ports 3 and 4 reset, LPDDR5X in self-refresh, and Upsett to start. -/
def State.deviceReset (s : State) : State :=
  let s := (s.hubReset false).trialFail
  let s := (s.portReset 3).portReset 4
  { s with power := { s.power with boot := some 1 } }

/-- What the log records of a type restore (R201, R388, R423): by the number of a record's subject, the value of its newest
record. -/
def State.logRestore (s : State) (ty : Nat) (key : List Nat → Option Nat) (val : List Nat → Nat) : SMap Nat :=
  s.trust.log.foldl (fun m r => match key r.data with
    | some k => if r.ty = ty then mput k (val r.data) (mdrop k m) else m
    | none => m) []

/-- The alarm counters that the log restores: of key slots, or of senders. -/
def State.logCounters (s : State) (sender : Bool) : SMap Nat :=
  s.logRestore 4 (fun l => if l.getD 0 0 = (if sender then 1 else 0) then some (l.getD 1 0) else none) fun l => l.getD 2 0

/-- The packet number and COUNTER tops and the manager term that the log restores. -/
def State.logTops (s : State) : SMap Nat :=
  s.logRestore 3 (fun l => if l.getD 0 0 = 255 then none else some (4 * l.getD 0 0 + l.getD 1 0)) fun l => l.getD 2 0
def State.logSeal (s : State) : Nat :=
  mget (fun _ => 0) (s.logRestore 3 (fun l => if l.getD 0 0 = 255 then some 0 else none) fun l => l.getD 2 0) 0
def State.logTerm (s : State) : Nat := mget (fun _ => 0) (s.logRestore 5 (fun _ => some 0) fun l => l.getD 0 0) 0

/-- What Off leaves: flash, OTP, the physical inputs and the clock of the model; `low` while RST_N stays low (R519). -/
def State.powerOff (s : State) (low : Bool) : State :=
  let keep (a : Nat) : Bool := a == TRUST_LC || a == TRUST_SVN || a == TRUST_SLOTS || (Nat.ble 0x800200 a && Nat.ble a 0x8002FF && a % 8 == 4)
  let s' := { State.reset with
    pending := s.pending, now := s.now, fv := s.fv, bus := s.bus,
    regs := s.regs.filter fun e => keep e.1,
    mem := s.mem.filter fun e => Nat.ble 0x0400000000 e.1 && Nat.ble e.1 0x040FFFFFFF,
    net := { Net.init with pnTop := s.logTops },
    link := { Link.init with term := s.logTerm, sealNext := s.logSeal, sealTop := s.logSeal },
    trust := { s.trust with
      mark := none, comps := [], run := none, trialAt := none, flOp := none, nonceNew := false, debugged := false,
      site := none, siteNext := none, anOld := none, inPlace := none },
    power := { Power.init with
      life := s.power.life.off, rstLow := low, rtcAt := s.now, role := s.power.role, boot := if low then none else some 0,
      cycleBoots := if s.power.pcycEnd.isSome then s.power.cycleBoots ++ [s.now] else s.power.cycleBoots },
    alarm := { Alarm.init with
      loops := s.alarm.loops, keyCtr := s.logCounters false, senderCtr := s.logCounters true, xoLost := s.alarm.xoLost },
    sys := { Sys.init with roundStart := s.now },
    refsel := { RefSel.init with evalAt := s.now } }
  let s' := s'.setReg TRUST_LC (s.reg TRUST_LC &&& 0xF0000000#32)
  s'.setTod 0

end Sys2Proof.Machine
end

