-- ==== Sys2Proof/Machine/Schedule.lean ====
section
/-! DEFINITION. Machine/Schedule.lean: the checks of a Skein's cluster schedule and what its records make of the part (R83,
R143 to R146, R154 of spec/05_clusters_and_regions.md; R315 of spec/10_streams_and_pairing.md). -/
namespace Sys2Proof.Machine

open Reg

/-! ### What the checks read -/

/-- A word of a Skein's cluster images. -/
def SkImage.imageWord (k : SkImage) (a : Nat) : Word :=
  match k.images.reverse.find? fun e => e.1 == a with
  | some e => e.2
  | none => 0#32

/-- COUNT of the WEAVE_STK_MAP entry that a Skein gives a stake (R83). -/
def SkImage.stkCount (k : SkImage) (stake : Nat) : Nat :=
  match k.regs.reverse.find? fun e => e.1 == WEAVE_STK_MAP stake with
  | some e => bitsOf e.2 27 16
  | none => 0

/-- Sample rate of a Skein. -/
def SkImage.fs (k : SkImage) : Nat := if k.rate96 then 96000 else 48000

/-- The cycle budget of a round at an operating point (R18), less 2.0 µs where the pairing section is enabled (R315). -/
def SkImage.budget (k : SkImage) (op : Nat) : Nat :=
  k.n * ((op + 1) * 250000000) * 49 / (50 * k.fs) - (if k.conf.pairOn then (op + 1) * 500 else 0)

/-- Whether a stake's output block fits its window (R83). -/
def SkImage.windowFits (k : SkImage) (stake : Nat) : Bool := Nat.ble (k.stkCount stake * k.n) 2048

/-- The stakes of a record with their numbers in the cluster. -/
def SkRecord.all (r : SkRecord) : List (Nat × SkStake) := (r.stakes.take 8).zipIdx.map fun e => (e.2, e.1)
def SkRecord.enabled (r : SkRecord) : List (Nat × SkStake) := r.all.filter fun e => e.2.en

/-- The cycles of a schedule at an operating point (R145). -/
def SkRecord.cycles (r : SkRecord) (op : Nat) : Nat :=
  (List.range r.wales).foldl (fun t w =>
    (if w = 0 then t else t + 64)
      + (r.enabled.filter fun e => e.2.wale == w).foldl (fun m e => max m (e.2.wcc.getD op 0)) 0) 0

/-- Whether the schedule fits at every operating point of its range. -/
def SkImage.recordFits (k : SkImage) (r : SkRecord) : Bool :=
  (List.range 4).all fun op => !(Nat.ble r.minOp op && Nat.ble op r.nomOp) || Nat.ble (r.cycles op) (k.budget op)

/-! ### Descriptors -/

/-- The words of a record's descriptors, from one on, up to the end of the list. -/
def SkImage.descWords (k : SkImage) (r : SkRecord) : Nat → Nat → List (Nat → Word)
  | 0, _ => []
  | m + 1, i =>
    let a := imageBase r.cluster.val + 0x280000 + 4 * ((r.dmaAddr + 8 * i) % 524288)
    let w (x : Nat) := k.imageWord (a + 4 * x)
    if (Desc.ofWords w).last then [w] else w :: k.descWords r m (i + 1)

/-- The descriptors of a record that are in use. -/
def SkImage.descList (k : SkImage) (r : SkRecord) : List (Nat → Word) :=
  (k.descWords r (min 512 r.dmaCount) 0).filter fun w => (Desc.ofWords w).valid

/-- Whether a descriptor meets R138 and R140. -/
def descOk (n : Nat) (w : Nat → Word) : Bool :=
  let d := Desc.ofWords w
  bitsOf (w 0) 28 19 == 0 && bitsOf (w 1) 9 0 == 0 && !bitAt (w 2) 31 && bitsOf (w 3) 31 18 == 0 && !bitAt (w 4) 31
    && bitsOf (w 5) 31 18 == 0 && w 6 == 0#32 && w 7 == 0#32
    && Nat.ble (2 * n) d.len && Nat.ble d.len 196608 && Nat.ble d.len d.stride
    && (if d.read then
        Nat.ble n d.count && Nat.ble d.count (n + 63) && Nat.ble (n + d.count) d.delay && Nat.ble d.delay (min (d.len + n) 192000)
      else d.delay == 0)

/-- Bytes that the descriptors of a record move in a round. -/
def SkImage.recordBytes (k : SkImage) (r : SkRecord) : Nat :=
  (k.descList r).foldl (fun t w => t + 4 * ((Desc.ofWords w).chans * (Desc.ofWords w).count)) 0

/-- The records of a region. -/
def SkImage.region (k : SkImage) (g : Nat) : List SkRecord := k.sched.filter fun r => r.cluster.val / 4 == g

/-- Bytes that the descriptors of some records move in a round. -/
def SkImage.bytesOf (k : SkImage) (l : List SkRecord) : Nat := l.foldl (fun t r => t + k.recordBytes r) 0

/-- Whether the transfers fit: 75 % of 12.8 GB/s in a region, 40 % of 25.6 GB/s in all (R143). -/
def SkImage.regionFits (k : SkImage) (g : Nat) : Bool := Nat.ble (k.bytesOf (k.region g) * k.fs) (9600000000 * k.n)
def SkImage.allFit (k : SkImage) : Bool := Nat.ble (k.bytesOf k.sched * k.fs) (10240000000 * k.n)

/-! ### The operating range of a region (R145, R154) -/

/-- The highest MIN_OP and the lowest NOM_OP among the records of a region. -/
def SkImage.regionMin (k : SkImage) (g : Nat) : Nat := (k.region g).foldl (fun m r => max m r.minOp) 0
def SkImage.regionNom (k : SkImage) (g : Nat) : Nat := (k.region g).foldl (fun m r => min m r.nomOp) 3

/-! ### The six checks (R145) -/

/-- A failed check: its number, the record, and the stake where the check is of one stake. -/
structure SchedFail where
  check : Nat
  record : SkRecord
  stake : Option Nat

/-- The first stake of a record with a fault. -/
def SkRecord.find (r : SkRecord) (l : List (Nat × SkStake)) (bad : Nat → SkStake → Bool) (check : Nat) : Option SchedFail :=
  (l.find? fun e => bad e.1 e.2).map fun e => ⟨check, r, some e.1⟩

/-- A fault of a record as a whole. -/
def SkRecord.whole (r : SkRecord) (bad : Bool) (check : Nat) : Option SchedFail := if bad then some ⟨check, r, none⟩ else none

/-- The first failure of a check, in the order of the records. -/
def SkImage.checkFails (k : SkImage) (abi : Nat → Bool) (check : Nat) : Option SchedFail :=
  let first (l : List SkRecord) := l.head?.map fun r => (⟨check, r, none⟩ : SchedFail)
  match check with
  | 1 => k.sched.findSome? fun r => r.find r.enabled (fun _ x => !abi x.abi) 1
  | 2 => k.sched.findSome? fun r =>
      let empty := (List.range r.wales).any fun w => !(r.enabled.any fun e => e.2.wale == w)
      if r.enabled.isEmpty then r.whole (Nat.blt r.nomOp r.minOp) 2
      else (r.find r.all (fun _ x => Nat.ble r.wales x.wale) 2).or (r.whole (empty || Nat.blt r.nomOp r.minOp) 2)
  | 3 => k.sched.findSome? fun r => r.whole (!r.enabled.isEmpty && !k.recordFits r) 3
  | 4 => k.sched.findSome? fun r =>
      r.find r.enabled (fun j x => Nat.blt (k.stkCount (8 * r.cluster.val + j)) x.digCnt || !k.windowFits (8 * r.cluster.val + j)) 4
  | 5 => (k.sched.findSome? fun r => r.whole ((k.descList r).any fun w => !descOk k.n w) 5).or
      (((List.range 4).findSome? fun g => if k.regionFits g then none else first (k.region g)).or
        (if k.allFit then none else first k.sched))
  | 6 => (List.range 4).findSome? fun g => if Nat.ble (k.regionMin g) (k.regionNom g) then none else first (k.region g)
  | _ => none

/-- What other chapters ask of a schedule: the ranges of R144, that a write descriptor moves a round's samples (R139), and
R83 for stakes that are not enabled. -/
def SkImage.schedContent (k : SkImage) : Bool :=
  (k.schedule.length % 320 == 0) && ((recordsOf 320 k.schedule).all schedRecordOk) && (k.sched.all fun r => Nat.ble 1 r.wales && Nat.ble r.wales 4 && Nat.ble r.dmaCount 512 && Nat.ble r.minOp 3 && Nat.ble r.nomOp 3
      && (k.descList r).all fun w => (Desc.ofWords w).read || (Desc.ofWords w).count == k.n)
    && (List.range 128).all k.windowFits

/-- The failed check that a reason of R436 stands for. -/
def SkImage.failFor (k : SkImage) (abi : Nat → Bool) (reason : Nat) : Option SchedFail :=
  match reason with
  | 8 => k.checkFails abi 1
  | 9 => [2, 3, 4, 5].findSome? fun c => k.checkFails abi c
  | 10 => k.checkFails abi 6
  | _ => none

/-! ### The records applied (R144, R154, R158) -/

/-- One record written to its cluster's registers. -/
def State.applyRecord (s : State) (r : SkRecord) : State :=
  let c := r.cluster.val
  let s := r.all.foldl (fun (s : State) e =>
    let x := e.2
    let s := s.setRegN (CL_SCHED c e.1)
      ((if x.en then 2 ^ 31 else 0) + x.wale % 4 * 2 ^ 29 + x.digCnt % 1024 * 2 ^ 14 + x.entry % 8192)
    (List.range 4).foldl (fun (s : State) op => s.setRegN (CL_WCC c e.1 op) (x.wcc.getD op 0 % 2 ^ 19)) s) s
  let s := s.setRegN (CL_DMA c) (r.dmaCount % 1024 * 2 ^ 19 + r.dmaAddr % 2 ^ 19)
  ((s.sf (CL_STAT_MIN_OP c) r.minOp).sf (CL_STAT_NOM_OP c) r.nomOp).sf (CL_STAT_WALES c) (r.wales - 1)

/-- A region at its NOM_OP. -/
def State.applyRegion (s : State) (k : SkImage) (g : Nat) : State :=
  if (k.region g).isEmpty then s
  else
    let nom := k.regionNom g
    let s := ((s.sf (REG_OP_NOM_OP g) nom).sf (REG_OP_MIN_OP g) (k.regionMin g)).sf (REG_OP_OP g) nom
    (List.range 4).foldl (fun (s : State) i => s.sf (CL_STAT_OP (4 * g + i)) nom) s

/-- A Skein's schedule section applied. -/
def State.applySched (s : State) (k : SkImage) : State :=
  let s := k.sched.foldl (fun (s : State) r => s.applyRecord r) s
  (List.range 4).foldl (fun (s : State) g => s.applyRegion k g) s

end Sys2Proof.Machine
end

