-- ==== Sys2Proof/Machine/Trust.lean ====
section
/-! DEFINITION. Machine/Trust.lean: Skeins, capsules, flash, debug unlock and evidence (R414 to R424, R430 to R449 of
spec/14_trust_and_startup.md). -/
namespace Sys2Proof.Machine

open Reg

/-! ### Flash (R419 to R423) -/

def flashBase : Nat := 0x0400000000

/-- Size of the flash, and bases and size of the Skein slots (R420). -/
def flashSize : Nat := if Config.flash2G then 0x10000000 else 0x08000000
def skeinBase (i : Nat) : Nat := if i = 0 then 0x01000000 else if Config.flash2G then 0x05000000 else 0x02800000
def skeinSize : Nat := (if Config.flash2G then 64 else 24) * 2 ^ 20
def storeOffset : Nat := if Config.flash2G then 0x09000000 else 0x04000000

/-- Whether an agent may program or erase at a flash address (R422): the Boot controller anywhere, the Warden and the Net
controller in the log area. -/
def flashRight (a addr : Nat) : Bool := a == 0 || ((a == 1 || a == 2) && Nat.ble 0x00D00000 addr && Nat.blt addr 0x01000000)

/-- The 256 bytes of the buffer. -/
def State.flashBuf (s : State) : List Byte := ((List.range 64).map fun w => leBytes (s.reg (TRUST_FL_BUF w)).toNat 4).flatten

/-- A write of TRUST_FL_CMD: refused while BUSY, for a reserved OP, a misaligned address, or an area that is not the
agent's, which is a privilege violation. -/
def State.flashCmd (s : State) (a : Nat) (v : Word) : State :=
  let op := bitsOf v 1 0
  let addr := bitsOf (s.reg TRUST_FL_ADDR) 27 0
  if 2 < a ∨ s.flag TRUST_FL_STAT_BUSY = true then s.err
  else if op = 0 ∨ op = 3 then (s.privViol a addr).err
  else if !flashRight a addr then (s.privViol a addr).err
  else if addr % (if op = 1 then 256 else 65536) ≠ 0 ∨ flashSize ≤ addr then s.err
  else
    let x : FlashOp := { erase := op == 2, addr := addr, bytes := if op = 1 then s.flashBuf else [] }
    ({ s with trust := { s.trust with flOp := some x } }.setRegN TRUST_FL_STAT (2 ^ 31 + a)).ok 0#32

def execFlashProgram (a : Agent) (s : State) : Out :=
  .next (s.regWrite a TRUST_FL_CMD 1#32 fun s => s.flashCmd a.val 1#32)

def execFlashErase (a : Agent) (s : State) : Out :=
  .next (s.regWrite a TRUST_FL_CMD 2#32 fun s => s.flashCmd a.val 2#32)

/-- Bytes programmed: NOR cells only go from 1 to 0 (R419). -/
def State.flashProg (s : State) (addr : Nat) (l : List Byte) : State :=
  s.setBytes (flashBase + addr) (l.zipIdx.map fun e => e.1 &&& s.byte (flashBase + addr + e.2))

/-- Whether an alarm player's fetch holds the flash: a program or erase in progress is then suspended (R422). -/
def State.flashHeld (s : State) : Bool :=
  s.trust.flOp.isSome && s.alarm.players.any fun e => e.2.voices.any fun (v : Voice) => v.fetch != []

/-- A program or erase completes, unless it is suspended; what a failed one leaves of its bytes is open. -/
def execFlashOpDone (good : Bool) (s : State) : Out :=
  .next (match s.trust.flOp with
    | none => s
    | some x =>
      if s.flashHeld then s else
      let s := { s with trust := { s.trust with flOp := none } }
      let s := if good then
          (if x.erase then s.clearMem (flashBase + x.addr) (flashBase + x.addr + 65535) else s.flashProg x.addr x.bytes)
        else
          (List.range (if x.erase then 65536 else 256)).foldl (fun (s : State) i =>
            let (v, s) := s.pick 256
            s.setByte (flashBase + x.addr + i) (BitVec.ofNat 8 v)) s
      (s.sf TRUST_FL_STAT_BUSY 0).setFlag TRUST_FL_STAT_ERR (!good))

/-- Bytes written over an area that has been erased. -/
def State.flashFill (s : State) (addr : Nat) (l : List Byte) : State := s.setBytes (flashBase + addr) l

/-! ### Skein slots (R432 to R439) -/

def slotField (i : Nat) : RegField := if i = 0 then TRUST_SLOTS_SKN_A else TRUST_SLOTS_SKN_B

/-- States of a Skein slot. -/
def skEmpty : Nat := 0
def skWriting : Nat := 1
def skValid : Nat := 2
def skPending : Nat := 3
def skTrial : Nat := 4
def skActive : Nat := 5
def skRejected : Nat := 6

def State.slotState (s : State) (i : Nat) : Nat := s.rf (slotField i)
def State.setSlot (s : State) (i st : Nat) : State := s.sf (slotField i) st
def State.skeinOf (s : State) (i : Nat) : Option SkImage := if i = 0 then s.trust.skA else s.trust.skB
def State.setSkein (s : State) (i : Nat) (x : Option SkImage) : State :=
  { s with trust := if i = 0 then { s.trust with skA := x } else { s.trust with skB := x } }

/-- A Skein became TRIAL or ACTIVE. -/
def State.slotRuns (s : State) (i st : Nat) : State :=
  if s.slotState i = st then s else (s.setSlot i st).raise TRUST_EVT_ACTIVATED

/-- The secret store opened: the STK, none where there is no store or its tag fails (R418). -/
def State.stkKey (s : State) : Option (List Byte) :=
  s.trust.store.bind fun l => gcmOpen (kwrap (s.rf TRUST_LC_EPOCH)) (l.take 12) [] ((l.drop 12).take (l.length - 28)) (l.drop (l.length - 16))

/-- Lifecycle state and EPOCH (R414). -/
def lcFactory : Nat := 0
def lcOwned : Nat := 1
def lcSealed : Nat := 2
def lcRetired : Nat := 3
def State.lc (s : State) : Nat := s.rf TRUST_LC_LC
def State.epoch (s : State) : Nat := s.rf TRUST_LC_EPOCH

/-- Whether the microcode of a tuple accepts a program's ABI level (R146). -/
def abiOk (comps : List Comp) (abi : Nat) : Bool :=
  match comps.getLast? with
  | some c => Nat.ble c.abiLo abi && Nat.ble abi c.abiHi
  | none => false

/-- Bytes of a Skein slot, its header, the entries of its manifest, and the Skein digest (R432, R433). -/
def State.slotBytes (s : State) (i off n : Nat) : List Byte := s.bytes (flashBase + skeinBase i + off) n
def State.skHead (s : State) (i : Nat) : List Byte := s.slotBytes i 0 256
def State.skManifest (s : State) (i : Nat) : List SkEntry :=
  let n := skSects (s.skHead i)
  (pieces 64 n (s.slotBytes i 256 (64 * n))).map SkEntry.ofBytes
def State.skDigest (s : State) (i : Nat) : Nat := sha384 (s.slotBytes i 0 (256 + 64 * skSects (s.skHead i)))

/-- The hash of an owner slot's key. -/
def State.ownerKey (s : State) (epoch : Nat) : Nat := mget (fun _ => 0) s.trust.owners epoch

/-- Whether the signature of a slot's Skein verifies under the key that its SIGNER and EPOCH name. -/
def State.skSigned (s : State) (i : Nat) : Bool :=
  let h := s.skHead i
  signedBy (if skSigner h = 1 then Config.factoryKey else s.ownerKey (skEpoch h)) (s.skDigest i)
    (s.slotBytes i (skTotal h - 96) 96)

/-- The Skein of a slot as this device reads it: the pairing flag, SYSID and digest of its header, and the node record that
carries this device's IDH (R432, R433, R435). -/
def State.skRead (s : State) (i : Nat) (k : SkImage) : SkImage :=
  let h := s.skHead i
  let me := k.nodes.find? fun r => r.idh == deviceIdh
  let y := { k.conf.system with
    sysid := skSysid h, node := (me.map (·.node)).getD 0xFFFF, role := (me.map (·.role)).getD roleAlone }
  { k with conf := { k.conf with pairOn := skPairing h, digest16 := s.skDigest i / 2 ^ 256, system := y } }

/-- The first reason of R436 for which the Skein of a slot is refused under a tuple of components, 0 for none; `inPlace` adds
those of an in-place activation. -/
def State.skeinReason (s : State) (i : Nat) (k : SkImage) (comps : List Comp) (inPlace : Bool) : Nat :=
  let h := s.skHead i
  let signer := match s.lc with
    | 0 => skSigner h == 1
    | 1 => skSigner h == 0 && skEpoch h == s.epoch
    | 2 => skSigner h == 0 && skEpoch h == s.epoch
    | _ => false
  let hit (r : Nat) : Bool :=
    ((s.skRead i k).failFor (abiOk comps) r).isSome || (match r with
      | 1 => !skFormOk h (s.skManifest i)
      | 2 => Nat.blt skeinSize (skTotal h)
      | 3 => !signer || !s.skSigned i
      | 4 => (s.skManifest i).any fun e => sha384 (s.slotBytes i e.off e.len) != e.digest
      | 5 => Nat.blt 64 (skSvn h) || Nat.blt (skSvn h) (s.rf TRUST_SVN_SKN)
      | 6 => !(comps.all fun c => Nat.ble (skIgMin h) c.ig && Nat.ble c.ig (skIgMax h))
      | 7 => !k.nodes.any fun r => r.idh == deviceIdh
      | 10 => !k.fits || !(s.skRead i k).schedContent || !k.alarmContent
      | 11 => inPlace && (k.rate96 != s.sys.rate96 || k.n != s.sys.n)
      | 12 => inPlace && (s.reg ALARM_TRIG_ACT0 != 0#32 || s.reg ALARM_TRIG_ACT1 != 0#32)
      | _ => false)
  ((List.range 13).find? fun r => r != 0 && hit r).getD 0

/-- A failed check of R145 recorded: the first stake that failed, ABI_REJ for check 1, and the log record. Where a check
fails for a record and not for one stake, the stake named is open. -/
def State.schedRefused (s : State) (slot reason : Nat) (f : SchedFail) : State :=
  let (j, s) := match f.stake with
    | some j => (j, s)
    | none => s.pick 8
  let c := f.record.cluster.val
  let (prog, abi) := match f.record.stakes[j]? with | some x => (x.prog, x.abi) | none => (0, 0)
  let s := if f.check = 1 then s.raise (CL_EVT_ABI_REJ c) else s
  let s := s.setRegN (CL_ABI_REJ c) (2 ^ 31 + j % 8 * 2 ^ 24 + abi % 256 * 2 ^ 16 + prog % 65536)
  s.logRec 6 [slot, reason, 5, c, j, prog, f.check]

/-- A refusal recorded (R436): the reason, the event, the log record, and what R145 records of a failed check. -/
def State.skeinRefused (s : State) (slot reason : Nat) (k : SkImage) (comps : List Comp) : State :=
  let s := (s.sf TRUST_SLOTS_REASON reason).raise TRUST_EVT_SKN_REFUSED
  match k.failFor (abiOk comps) reason with
  | some f => s.schedRefused slot reason f
  | none => s.logRec 6 [slot, reason]

/-! ### Applying a Skein (R428, R437) -/

/-- The head of a message copied to retention SRAM (R203): samples 0 to 5,460, what lies beyond LEN being 0. -/
def State.copyHead (s : State) (m : Nat) : State :=
  let x := s.skMsg m
  let base := 0x0500000000 + m * 0x4000
  if !x.present then s
  else
    let s := s.clearMem base (base + 0x3FFF)
    s.setBytes base (s.bytes (storeBase + x.start) (min (3 * x.len) 16383))

/-- A register that shows what supervision has found and not how it is set: no Skein load writes it. -/
def supvState (a : Nat) : Bool :=
  (Nat.ble 0x611000 a && Nat.blt a 0x613000 && (a % 16 == 8 || a % 16 == 12)) || (Nat.ble 0x614000 a && Nat.blt a 0x614400 && a % 16 == 4)

/-- Supervision as a Skein load starts it (R189): every line PENDING, checkers and monitor points OK, counts cleared. -/
def State.supvFresh (s : State) : State :=
  { (s.clearRegs 0x610100 0x61FFFF).setReg SUPV_DEM_SEQ 0#32 with supv := Supv.init }

/-- Words of a digest written to consecutive registers, byte 4w of it in [7:0] of word w. -/
def State.putDigest (s : State) (reg : Nat → Nat) (v : Nat) : State :=
  (List.range 12).foldl (fun (s : State) w => s.setRegN (reg w) (leAt (beBytes v 48) (4 * w) 4)) s

/-- A Skein applied in the order of R437. `keep` leaves what retention holds: its registers, the route table, the Border
records and the alarm configuration. Else the chunk 0 of every message is checked, `badMsgs` being those whose read fails
(R203). Inputs that it enables are sensed from then on (R193); supervision runs, afresh where `fresh` says so (R189). -/
def State.applySkein (s : State) (i : Nat) (k0 : SkImage) (keep fresh : Bool) (badMsgs : List Nat) : State :=
  let k := s.skRead i k0
  let digest := s.skDigest i
  let side := ((k.nodes.find? fun r => r.idh == deviceIdh).map (·.side)).getD 0
  let s := { s with sys := { s.sys with rate96 := k.rate96, n := k.n }, skein := k.content }
  let inputs := (List.range 16).map fun i => (i, s.reg (ALARM_IN_CFG i))
  let ports := (List.range 7).map fun p => (p, s.flag (NET_CTL_EN p))
  let paired := s.flag PAIR_CFG_EN
  let s := if fresh then s.supvFresh else s
  let s := k.regs.foldl (fun (s : State) e => if (keep && keptReg e.1) || supvState e.1 then s else s.setReg e.1 e.2) s
  let s := ((s.sf SUPV_CTL_RUN 1).sf PAIR_CFG_SIDE side).pairTurn paired
  let s := ports.foldl (fun (s : State) e => if s.flag (NET_CTL_EN e.1) == e.2 then s else s.netRestart e.1) s
  let s := inputs.foldl (fun (s : State) e => (s.setReg (ALARM_IN_CFG e.1) e.2).sense e.1 (s.reg (ALARM_IN_CFG e.1))) s
  let s := s.genRestart.applySched k
  let good (m : Nat) : Bool := (s.skMsg m).present && !badMsgs.contains m && s.chunkOk m 0
  let ok (lo : Nat) : Nat := (List.range 32).foldl (fun m i => if good (lo + i) then m + 2 ^ i else m) 0
  let fail := !keep && (List.range 64).any fun m => (s.skMsg m).present && !good m
  let s := if fail then (s.raise ALARM_FAULT_STORE).raise ALARM_EVT_STORE_BAD else s
  let s := if keep then s
    else (List.range 64).foldl (fun (s : State) m => s.copyHead m) ((s.setRegN ALARM_MSG_OK0 (ok 0)).setRegN ALARM_MSG_OK1 (ok 32))
  let s := if keep then s
    else
      let s := { s with weave := { s.weave with routes := [] }, border := { s.border with chans := [] } }
      k.table.foldl (fun (s : State) e =>
        if e.1 < 0x80000 then s.entryWord (e.1 / 16) (e.1 % 16 / 4) e.2
        else
          let b := (e.1 - 0x80000) / 512
          s.setChan b ((s.chan b).write ((e.1 - 0x80000) % 512) e.2)) s
  let s := k.images.foldl (fun (s : State) e => s.setWord e.1 e.2) s
  let s := { s with streams := { s.streams with tpl := k.tpl, tplLen := k.tplLen } }
  let s := { s with refsel := { s.refsel with outs := [] } }
  let s := (List.range 4).foldl (fun (s : State) o =>
    let x : OutPort := { cfg := s.reg (OUT_CFG o), ofs := s.reg (OUT_OFS o), next := none }
    { s with refsel := { s.refsel with outs := mset (fun _ => OutPort.empty) s.refsel.outs o x } }) s
  s.putDigest TRUST_SKN_DIG digest

/-! ### The KEYS section (R386, R388, R418) -/

/-- The plaintext of the KEYS section of a slot: the site secret, KN, and perhaps those that come next. -/
def State.keysPlain (s : State) (i : Nat) (e : SkEntry) : Option (List Byte) :=
  let h := s.skHead i
  let l := s.slotBytes i e.off e.len
  s.stkKey.bind fun key =>
    gcmOpen key (l.take 12) ((h.drop 0x14).take 4 ++ (h.drop 0xC).take 4) ((l.drop 12).take (l.length - 28)) (l.drop (l.length - 16))

/-- A site secret and its KN from 36 bytes. -/
def siteOf (l : List Byte) : Option (List Byte × Nat) := if l.length < 36 then none else some (l.take 32, leAt l 32 4)

/-- One secure association installed (R386): KEY, SALT and SSCI of a transmitter under a site secret, and the next packet
number. -/
def State.putSa (s : State) (p k sci : Nat) (e : List Byte × Nat) (pn : Nat) : State :=
  let prk := linkPrk s.skein.system.sysid e.1
  let key := linkSak prk sci e.2
  let salt := linkSalt prk sci e.2
  let s := (List.range 8).foldl (fun (s : State) w => s.setRegN (NET_SEC_SA_KEY p k w) (leAt key (4 * w) 4)) s
  let s := (List.range 3).foldl (fun (s : State) w => s.setRegN (NET_SEC_SA_SALT p k w) (leAt salt (4 * w) 4)) s
  (s.setRegN (NET_SEC_SA_SSCI p k) (mget (fun _ => 0) s.skein.system.sscis sci)).setPn p k pn

def State.txSci (s : State) (p : Nat) : Nat := (s.reg (NET_SEC_TXSCI_LO p)).toNat + (s.reg (NET_SEC_TXSCI_HI p)).toNat * 2 ^ 32
def State.rxSci (s : State) (p i : Nat) : Nat :=
  (s.reg (NET_SEC_RXSCI_LO p i)).toNat + (s.reg (NET_SEC_RXSCI_HI p i)).toNat * 2 ^ 32

/-- The receive channels of a port that the Skein lists. -/
def State.rxScs (s : State) (p : Nat) : List Nat := (List.range 32).filter fun i => s.flag (NET_SEC_RXSC_CTL_EN p i)

/-- The receive associations of a port under a site secret. -/
def State.keyRx (s : State) (p : Nat) (e : List Byte × Nat) : State :=
  (s.rxScs p).foldl (fun (s : State) i =>
    (s.putSa p (4 + 4 * i + e.2 % 4) (s.rxSci p i) e 1).setBit (NET_SEC_RXSC_CTL p i) (e.2 % 4)) s

/-- The associations of a port derived from the site secret and installed: packet numbers go on above every number that may
have been used (R388); AN is KN mod 4, and associations of the KN that comes next receive already. -/
def State.keyPort (s : State) (p : Nat) : State :=
  match s.trust.site with
  | some e =>
    if s.txSci p = 0 then s
    else
      let an := e.2 % 4
      let s := (s.putSa p an (s.txSci p) e (max 1 (mget (fun _ => 0) s.net.pnTop (4 * p + an)))).sf (NET_SEC_CFG_TX_AN p) an
      let s := s.keyRx p e
      match s.trust.siteNext with | some x => s.keyRx p x | none => s
  | none => s

/-- Receive associations of the KN before a change kept until every listed transmitter has changed over (R386). -/
def State.keepOld (s : State) (old : Option (List Byte × Nat)) : State :=
  match old, s.trust.site with
  | some o, some e =>
    if o.2 % 4 = e.2 % 4 then s
    else
      let l := (List.range 7).flatMap fun p => (s.rxScs p).map fun i => (p, i)
      let held (x : Nat × Nat) : Bool := s.saKeyed x.1 (4 + 4 * x.2 + o.2 % 4)
      let s := (l.filter held).foldl (fun (s : State) x => s.setBit (NET_SEC_RXSC_CTL x.1 x.2) (o.2 % 4)) s
      { s with trust := { s.trust with anOld := some (o.2 % 4, l.filter held) } }
  | _, _ => s

/-- The KEYS section opened, and every association derived; one that fails leaves no keys, and the ports that carry Lysle link
disabled (R418). -/
def State.openKeys (s : State) (i : Nat) : State :=
  match (s.skManifest i).find? fun e => e.ty == 0xD with
  | none => s
  | some e =>
    match s.keysPlain i e with
    | some l =>
      let old := s.trust.site
      let s := { s with trust := { s.trust with site := siteOf l, siteNext := siteOf (l.drop 36) } }
      (((List.range 7).foldl (fun (s : State) p => s.keyPort p) s).keepOld old).sf TRUST_LC_KEYS_OK 1
    | none =>
      let s := { s with trust := { s.trust with site := none, siteNext := none } }
      let s := s.skein.system.ports.foldl (fun (s : State) p => s.sf (NET_CTL_EN p) 0) s
      (s.sf TRUST_LC_KEYS_OK 0).raise TRUST_EVT_KEYS_FAIL

/-! ### Capsules (R438 to R445) -/

/-- Result codes of R443. -/
def crOk : Nat := 0
def crBusy : Nat := 1
def crFormat : Nat := 2
def crSignature : Nat := 3
def crBinding : Nat := 4
def crReplay : Nat := 5
def crDenied : Nat := 6
def crState : Nat := 7
def crDecrypt : Nat := 8
def crFlash : Nat := 9
def crContent : Nat := 10
/-- Not a code: the capsule goes on at the next round boundary (R440). -/
def crWaits : Nat := 16

/-- Bytes of the capsule inbox (R431), and fields of the header of the capsule in it (R441). -/
def State.inbox (s : State) (off n : Nat) : List Byte := s.bytes (0x07000000 + off) n
def State.capHead (s : State) : List Byte := s.inbox 0 128
def capKind (h : List Byte) : Nat := leAt h 4 2
def capSealed (h : List Byte) : Bool := byteAt h 6 % 2 == 1
def capForce (h : List Byte) : Bool := byteAt h 6 / 2 % 2 == 1
def capGolden (h : List Byte) : Bool := byteAt h 6 / 4 % 2 == 1
def capLen (h : List Byte) : Nat := leAt h 8 4
def capCtr (h : List Byte) : Nat := leAt h 0x10 8
def capTarget (h : List Byte) : Nat := beAt h 0x18 48
def capSysid (h : List Byte) : Nat := leAt h 0x48 4
def capSigner (h : List Byte) : Nat := byteAt h 0x4C

/-- The payload as stored, and the signature. -/
def State.capStored (s : State) : List Byte := s.inbox 128 (capLen s.capHead)
def State.capSig (s : State) : List Byte := s.inbox (128 + capLen s.capHead) 96

/-- Whether MAGIC, FLAGS, LEN, the reserved fields and PDIG are right. -/
def State.capFormOk (s : State) : Bool :=
  let h := s.capHead
  h.take 4 == [0x43#8, 0x50#8, 0x53#8, 0x31#8] && Nat.blt (leAt h 6 2) 8 && Nat.ble (capLen h) (80 * 2 ^ 20 - 224)
    && zeroAt h 0xC 4 && zeroAt h 0x4D 3 && sha384 s.capStored == beAt h 0x50 48

/-- The payload in the clear: opened under the STK where it is sealed, none where its tag fails or no STK is held. -/
def State.capPayload (s : State) : Option (List Byte) :=
  let l := s.capStored
  if capSealed s.capHead then
    s.stkKey.bind fun key => gcmOpen key (l.take 12) [] ((l.drop 12).take (l.length - 28)) (l.drop (l.length - 16))
  else some l

/-- The target state that a LIFECYCLE capsule names, and the new owner key that it carries (R415, R442). -/
def State.lcTarget (s : State) : Nat := match s.capPayload with | some l => byteAt l 0 | none => 0
def State.carriedKey (s : State) : Nat × Nat := match s.capPayload with | some l => (beAt l 1 48, beAt l 49 48) | none => (0, 0)

/-- Whether the signature verifies for the SIGNER that the header names. -/
def State.capSigned (s : State) : Bool :=
  let h := s.capHead
  let d := sha384 h
  if capSigner h = 0 then signedBy (s.ownerKey s.epoch) d s.capSig
  else if capSigner h = 1 then signedBy Config.factoryKey d s.capSig
  else capSigner h == 2 && p384.verify s.carriedKey d (beNat (s.capSig.take 48)) (beNat (s.capSig.drop 48))

/-- The signer that the lifecycle state allows (R414, R415, R416). -/
def State.signerOk (s : State) (kind : Nat) (target : Nat) (signer : Nat) : Bool :=
  if s.lc = lcFactory then (if kind = 7 ∧ target = lcOwned then signer == 2 else signer == 1)
  else if s.lc = lcRetired then false
  else signer == 0

/-- Whether a kind is allowed in the lifecycle state (R415, R442). -/
def State.kindOk (s : State) (kind target : Nat) (golden : Bool) : Bool :=
  let l := s.lc
  if kind ≤ 3 then Nat.ble l lcSealed && Nat.ble 1 kind && (!(kind == 2 && golden) || l == lcFactory)
  else if kind = 7 then
    (l == lcFactory && (target == lcOwned || target == lcRetired))
      || (l == lcOwned && (target == lcSealed || target == lcFactory || target == lcRetired))
      || (l == lcSealed && target == lcRetired)
  else Nat.ble kind 8 && (l == lcOwned || l == lcSealed)

/-- The checks of R443 up to DENIED, in their order: the first that fails. -/
def State.capCheck (s : State) (a : Nat) : Nat :=
  let h := s.capHead
  let kind := capKind h
  if !s.capFormOk then crFormat
  else if !s.signerOk kind s.lcTarget (capSigner h) || !s.capSigned then crSignature
  else if (capTarget h ≠ 0 ∧ capTarget h ≠ deviceIdh)
      ∨ (s.lc ≠ lcFactory ∧ capSysid h ≠ s.skein.system.sysid) then crBinding
  else if capCtr h ≤ s.trust.capCtr then crReplay
  else if !s.kindOk kind s.lcTarget (capGolden h) || ((a = 3 ∨ a = 4) && !s.skein.system.hostCaps.contains kind) then crDenied
  else crOk

/-- A capsule ends with a result: recorded, logged, CAP_DONE. -/
def State.capEnd (s : State) (a kind ctr r : Nat) : State :=
  let s := s.setRegN TRUST_CAP_STAT (a * 2 ^ 24 + kind % 256 * 65536 + r)
  (s.raise TRUST_EVT_CAP_DONE).logRec 7 [kind, a, r, ctr]

/-- What is done with a payload in the clear, or DECRYPT. -/
def State.opened (s : State) (f : List Byte → State × Nat) : State × Nat :=
  match s.capPayload with
  | some l => f l
  | none => (s, crDecrypt)

/-- A GO by an agent for a capsule of the kinds that a command stands for, and the capsule then carried out; the counter is recorded before any effect. While another agent's capsule is in progress a GO only reads BUSY. With another kind in
the inbox the command stands for nothing. -/
def State.capGo (s : State) (a : Agent) (kinds : Nat → Bool) (f : State → State × Nat) : State :=
  let h := s.capHead
  let kind := capKind h
  let busy := s.flag TRUST_CAP_STAT_BUSY
  if !kinds kind then s
  else s.regWrite a TRUST_CAP_CTL 1#32 fun s =>
    if a.val < 2 ∨ 4 < a.val then s.err
    else if s.flag ALARM_CTL_BARE then s.err
    else if busy && (s.rf TRUST_CAP_STAT_AGENT != a.val || s.trust.inPlace.isSome) then (s.sf TRUST_CAP_STAT_RESULT crBusy).ok 0#32
    else
      match s.capCheck a.val with
      | 0 =>
        let (s', r) := f s
        let s' := if r = crState ∨ r = crDecrypt then s' else { s' with trust := { s'.trust with capCtr := capCtr h } }
        (if r = crWaits then s'.setRegN TRUST_CAP_STAT (2 ^ 31 + a.val * 2 ^ 24 + kind * 65536)
          else s'.capEnd a.val kind (capCtr h) r).ok 0#32
      | r =>
        let s := if r = crDenied ∧ (a.val = 3 ∨ a.val = 4) then s.privViol a.val kind else s
        (s.capEnd a.val kind (capCtr h) r).ok 0#32

/-- The bundle component that is found in the slots by kind and version (R424). -/
def Bundle.comp (b : Bundle) (kind ver : Nat) : Option Comp :=
  match b.comps[kind]? with
  | some c => if c.ver = ver then some c else none
  | none => none

/-- The components of the running tuple. -/
def State.running (s : State) : List Comp := s.trust.comps

/-- A SKEIN_IMAGE (R438): the slot it names, and what the sections of the Skein spell. -/
def execCapSkeinImage (a : Agent) (slot : Fin 2) (k : SkImage) (flashOk : Bool) (s : State) : Out :=
  let i := slot.val
  .next (s.capGo a (· == 1) fun s =>
    if s.slotState i = skActive ∨ s.slotState 0 = skTrial ∨ s.slotState 1 = skTrial then (s, crState)
    else s.opened fun l =>
      let s := (s.setSlot i skWriting).setSkein i none
      let s := s.clearMem (flashBase + skeinBase i) (flashBase + skeinBase i + skeinSize - 1)
      if !flashOk then (s.setSlot i skEmpty, crFlash)
      else
        let s := s.flashFill (skeinBase i) (l.take skeinSize)
        match s.skeinReason i k s.running false with
        | 0 => ((s.setSlot i skValid).setSkein i (some k), crOk)
        | r => ((s.setSlot i skEmpty).skeinRefused i r (s.skRead i k) s.running, crContent))

/-- Whether the signature of a bundle header verifies under a Torvok firmware key that is not revoked (R424). -/
def State.bundleSigned (s : State) (b : Bundle) : Bool :=
  (List.range 3).any fun j => !s.trust.revoked.contains j && signedBy (Config.firmwareKey j) b.signed b.sig

/-- Whether a bundle header is valid (R424). -/
def State.bundleOk (s : State) (b : Bundle) : Bool :=
  let floor (i : Nat) : Nat := bitsOf (s.reg TRUST_SVN) (15 - 4 * i) (12 - 4 * i)
  b.comps.length == 4 && (b.comps.zipIdx.all fun e => Nat.ble (floor e.2) e.1.svn && Nat.ble (e.1.off + e.1.len) 0x400000)
    && s.bundleSigned b

/-- A FW_BUNDLE (R442): to the golden area, an empty or invalid slot, or the slot with the lower bundle version. -/
def execCapFwBundle (a : Agent) (b : Bundle) (flashOk : Bool) (s : State) : Out :=
  .next (s.capGo a (· == 2) fun s => s.opened fun l =>
    if !s.bundleOk b || Nat.blt 0x400000 l.length then (s, if s.bundleSigned b then crFormat else crSignature)
    else
      let dest := if capGolden s.capHead then 2
        else match s.trust.fwA, s.trust.fwB with
          | none, _ => 0
          | _, none => 1
          | some x, some y => if y.ver < x.ver then 1 else 0
      let base := 0x00100000 + dest * 0x00400000
      let f := if dest = 0 then TRUST_SLOTS_FW_A else if dest = 1 then TRUST_SLOTS_FW_B else TRUST_SLOTS_GOLD
      let put (s : State) (x : Option Bundle) : State :=
        { s with trust := if dest = 0 then { s.trust with fwA := x } else if dest = 1 then { s.trust with fwB := x }
          else { s.trust with gold := x } }
      let s := (put s none).clearMem (flashBase + base) (flashBase + base + 0x3FFFFF)
      if !flashOk then (s.sf f 0, crFlash)
      else (((put s (some b)).sf f 1).flashFill base l, crOk))

/-- The messages that a range of the store overlaps (R202, R444). -/
def State.storeHits (s : State) (off len : Nat) : List Nat :=
  (List.range 64).filter fun m =>
    let x := s.skMsg m
    x.present && Nat.blt off (x.start + 3 * x.len) && Nat.blt x.start (off + len)

/-- An ALARM_STORE (R444): OFFSET and data. -/
def execCapAlarmStore (a : Agent) (flashOk : Bool) (s : State) : Out :=
  .next (s.capGo a (· == 3) fun s => if s.reg ALARM_TRIG_ACT0 ≠ 0#32 ∨ s.reg ALARM_TRIG_ACT1 ≠ 0#32 then (s, crState) else s.opened fun l =>
    let off := leAt l 0 4
    let bytes := l.drop 4
    let hits := s.storeHits off bytes.length
    let changed := hits.filter fun m => !(bytes.zipIdx.all fun e =>
      let x := s.skMsg m
      let p := off + e.2
      !(Nat.ble x.start p && Nat.blt p (x.start + 3 * x.len)) || s.byte (storeBase + p) == e.1)
    if !hits.isEmpty && !capForce s.capHead then (s, crState)
    else if 64 * 2 ^ 20 < off + bytes.length ∨ l.length < 4 then (s, crFormat)
    else if !flashOk then (s, crFlash)
    else
      let s := s.setBytes (storeBase + off) bytes
      let s := changed.foldl (fun (s : State) m => s.clrBit (if m < 32 then ALARM_MSG_OK0 else ALARM_MSG_OK1) (m % 32)) s
      (if changed.isEmpty then s else (s.raise ALARM_FAULT_STORE).raise ALARM_EVT_STORE_BAD, crOk))

/-- The slot in a state, A before B. -/
def State.slotIn (s : State) (st : Nat) : Option Nat :=
  if s.slotState 0 = st then some 0 else if s.slotState 1 = st then some 1 else none

/-- A VALID slot made PENDING. -/
def State.makePending (s : State) : State × Nat :=
  match s.slotIn skValid with
  | some i => (s.setSlot i skPending, crOk)
  | none => (s, crState)

/-- MODE of an ACTIVATE capsule in the inbox. -/
def State.capMode (s : State) : Nat := match s.capPayload with | some l => byteAt l 0 | none => 0

/-- What is done with the payload of an ACTIVATE: one byte, MODE. -/
def State.modeGo (s : State) (mode : Nat) (f : State × Nat) : State × Nat :=
  s.opened fun l => if l.length = 1 ∧ byteAt l 0 = mode then f else (s, crFormat)

/-- An ACTIVATE with MODE 0; one with a reserved MODE has a wrong format. -/
def execActivatePending (a : Agent) (s : State) : Out :=
  .next (if s.capMode = 1 ∨ s.capMode = 2 then s
    else s.capGo a (· == 4) fun s => s.modeGo 0 s.makePending)

/-- Whether the last capsule of a state ended with OK. -/
def State.capWorked (s : State) (ctr : Nat) : Bool := !s.bus.err && s.trust.capCtr == ctr && s.rf TRUST_CAP_STAT_RESULT == crOk

/-- The device reset that follows a capsule that worked. -/
def State.capReset (s s' : State) : State :=
  if s.trust.capCtr < capCtr s.capHead ∧ s'.capWorked (capCtr s.capHead) = true then s'.deviceReset else s'

/-- An ACTIVATE with MODE 1: PENDING, then a device reset. -/
def execActivateReset (a : Agent) (s : State) : Out :=
  .next (if s.capMode ≠ 1 then s else s.capReset (s.capGo a (· == 4) fun s => s.modeGo 1 s.makePending))

/-- The PENDING slot that an in-place activation on a withdrawn node would run, with its Skein (R440), or the result with which
it ends. -/
def State.inPlaceSlot (s : State) : State × Nat × Option (Nat × SkImage) :=
  match s.slotIn skPending with
  | none => (s, crState, none)
  | some i =>
    if s.pairState ≠ paWithdrawn then (s, crState, none)
    else match s.skeinOf i with
      | none => (s, crState, none)
      | some k =>
        match s.skeinReason i k s.running true with
        | 0 => (s, crOk, some (i, k))
        | r => (s.skeinRefused i r (s.skRead i k) s.running, crContent, none)

/-- The activation itself (R437, R440): every cluster and stream stopped, the Skein applied while rounds and time run on, the
clusters loading to start together. -/
def State.inPlaceApply (s : State) (i : Nat) (k : SkImage) (badMsgs : List Nat) : State :=
  let old := s.slotIn skActive
  let on := k.clusters.filter fun c => s.clState c != clIsolated
  let s := on.foldl (fun (s : State) c => s.reinit c) s.computeOff
  let s := { s with power := { s.power with together := on }, streams := { s.streams with bound := [], ctxs := [] } }
  let s := (s.applySkein i k false true badMsgs).openKeys i
  let s := s.weaveRestart.borderRestart
  let s := match old with | some j => s.setSlot j skValid | none => s
  let s := s.slotRuns i skTrial
  let s := ((s.sf TRUST_BOOT_PATH 3).sf TRUST_BOOT_SLOT i).sf TRUST_BOOT_TRIAL 1
  ({ s with trust := { s.trust with
    run := some i, trialAt := some s.now, mark := some (s.skDigest i, i, (s.reg TRUST_TREL).toNat) } }).roleCheck

/-- An ACTIVATE with MODE 2: verified now, carried out at the next round boundary (R440). -/
def execActivateInPlace (a : Agent) (badMsgs : List Nat) (s : State) : Out :=
  .next (if s.capMode ≠ 2 then s else s.capGo a (· == 4) fun s => s.modeGo 2 (match s.inPlaceSlot with
    | (s, _, some _) => ({ s with trust := { s.trust with inPlace := some (a.val, badMsgs) } }, crWaits)
    | (s, r, none) => (s, r)))

/-- The round boundary of an in-place activation, which verifies once more. -/
def State.inPlaceBoundary (s : State) : State :=
  match s.trust.inPlace with
  | none => s
  | some (a, badMsgs) =>
    match ({ s with trust := { s.trust with inPlace := none } }).inPlaceSlot with
    | (s, _, some (i, k)) => (s.inPlaceApply i k badMsgs).capEnd a 4 s.trust.capCtr crOk
    | (s, r, none) => s.capEnd a 4 s.trust.capCtr r

/-- The secret store written: the STK sealed under KWRAP with a fresh nonce (R418). -/
def State.putStore (s : State) (stk : List Byte) : State :=
  let (v, s) := s.pick (2 ^ 96)
  let nonce := beBytes v 12
  let r := gcmSeal (kwrap s.epoch) nonce [] stk
  { s with trust := { s.trust with store := some (nonce ++ r.1 ++ r.2) } }.sf TRUST_LC_STK_OK 1

/-- An STK (R442): plain only in Owned or after a debug unlock. -/
def execCapStk (a : Agent) (flashOk : Bool) (s : State) : Out :=
  .next (s.capGo a (· == 5) fun s =>
    if !capSealed s.capHead && !(s.lc == lcOwned || s.flag TRUST_LC_SECRETS_ERASED) then (s, crDenied)
    else s.opened fun l => if l.length ≠ 32 then (s, crFormat)
    else if !flashOk then (s, crFlash)
    else (s.putStore l, crOk))

/-- SVN floors (R442): five bytes, and a floor is only raised. -/
def execCapSvnFloor (a : Agent) (s : State) : Out :=
  .next (s.capGo a (· == 6) fun s => s.opened fun l =>
    if l.length ≠ 5 ∨ 64 < byteAt l 0 ∨ (l.drop 1).any (fun b => Nat.blt 15 b.toNat) = true then (s, crFormat)
    else
      let up (s : State) (f : RegField) (i : Nat) : State := s.sf f (max (s.rf f) (byteAt l i))
      let s := up (up (up s TRUST_SVN_SKN 0) TRUST_SVN_S2 1) TRUST_SVN_WDN 2
      (up (up s TRUST_SVN_NET 3) TRUST_SVN_SEQ 4, crOk))

/-- Owner material erased (R415): the secret store, both Skein slots, the message store and the log. -/
def State.eraseOwner (s : State) : State :=
  let s := (s.setSlot 0 skEmpty).setSlot 1 skEmpty
  let s := s.clearMem (flashBase + 0x00D00000) (flashBase + flashSize - 1)
  let s := { s with trust := { s.trust with store := none, skA := none, skB := none, log := [], logSeq := 0, mark := none } }
  s.sf TRUST_LC_STK_OK 0

/-- A LIFECYCLE capsule (R415): the burn, its effects, and a device reset. -/
def execCapLifecycle (a : Agent) (s : State) : Out :=
  .next (s.capReset (s.capGo a (· == 7) fun s => s.opened fun l =>
    let t := byteAt l 0
    if l.length ≠ (if t = lcOwned then 97 else 1) then (s, crFormat)
    else if t = lcSealed ∧ s.stkKey.isNone = true then (s, crState)
    else if t = lcFactory ∧ s.epoch = 3 then (s, crState)
    else if t = lcOwned then
      ({ s with trust := { s.trust with owners := mset (fun _ => 0) s.trust.owners s.epoch (keyHash s.carriedKey) } }.sf TRUST_LC_LC t, crOk)
    else if t = lcFactory then ((s.eraseOwner.sf TRUST_LC_EPOCH (s.epoch + 1)).sf TRUST_LC_LC t, crOk)
    else if t = lcRetired then (s.eraseOwner.sf TRUST_LC_LC t, crOk)
    else (s.sf TRUST_LC_LC t, crOk)))

/-- A STREAM_SET (R442): context records for disabled contexts only, each the words of its registers from CTX_CFG up and of its
templates. -/
def execCapStreamSet (a : Agent) (l : List (Fin 511 × List (Nat × Word))) (s : State) : Out :=
  .next (s.capGo a (· == 8) fun s =>
    if l.any fun e => s.flag (CTX_CFG_EN e.1.val) then (s, crState)
    else s.opened fun _ =>
      (l.foldl (fun (s : State) e =>
        e.2.foldl (fun (s : State) w => s.setReg (CTX_CFG e.1.val + 4 * (w.1 % 16)) (if w.1 % 16 = 0 then setBits w.2 31 31 0 else w.2)) s) s, crOk))

/-- A capsule whose header names a reserved KIND: checked, and refused with DENIED. -/
def execCapReservedKind (a : Agent) (s : State) : Out :=
  .next (s.capGo a (fun k => k == 0 || Nat.ble 9 k) fun s => (s, crDenied))

/-- A TRIAL Skein after 10 minutes of audio without a device reset (R439). -/
def execTrialConfirm (s : State) : Out :=
  .next (match s.trust.trialAt, s.trust.run with
    | some t, some i =>
      if s.slotState i = skTrial then
        let s := s.moveTo (t + 600 * sec1)
        ({ s.slotRuns i skActive with trust := { s.trust with trialAt := none } }).sf TRUST_BOOT_TRIAL 0
      else s
    | _, _ => s)

/-! ### Evidence and debug (R446, R447) -/

/-- The evidence bytes 0x000 to 0x19F. -/
def State.evidence (s : State) : List Byte :=
  let one (b : Bool) (n : Nat) : Nat := if b then n else 0
  let flags := one s.trust.debugged 1 + one (s.flag TRUST_LC_SECRETS_ERASED) 2 + one (s.flag TRUST_BOOT_GOLDEN) 4
    + one (s.flag TRUST_BOOT_TRIAL) 8 + one (s.flag TRUST_BOOT_UNCONF) 16
  let meas := (List.range 6).flatMap fun k => (List.range 12).flatMap fun w => leBytes (s.reg (TRUST_MEAS k w)).toNat 4
  leBytes 1 1 ++ leBytes s.lc 1 ++ leBytes s.epoch 1 ++ leBytes flags 1 ++ leBytes (s.rf TRUST_BOOT_BOOT_CNT) 4
    ++ leBytes s.sys.roundNo 8 ++ leBytes (s.reg TRUST_TREL).toNat 4
    ++ (List.range 4).flatMap (fun i => leBytes ((s.running.map (·.svn)).getD i 0) 2) ++ leBytes 0 4 ++ meas
    ++ (List.range 24).flatMap fun w => leBytes (s.reg (TRUST_IDPUB w)).toNat 4

/-- Evidence on a nonce signed by the device identity key; the per-message number is fresh. -/
def State.signEvidence (s : State) (nonce : List Byte) : State :=
  let l := s.evidence
  let (k, s) := s.pick (p384.n - 1)
  let sig := p384.sign dikPriv (sha384 (nonce ++ l)) (k + 1)
  let l := l ++ beBytes sig.1 48 ++ beBytes sig.2 48
  (List.range 128).foldl (fun (s : State) w => s.setRegN (TRUST_ATT_EV w) (leAt l (4 * w) 4)) s

/-- The nonce in TRUST_ATT_NONCE. -/
def State.attNonce (s : State) : List Byte := (List.range 8).flatMap fun w => leBytes (s.reg (TRUST_ATT_NONCE w)).toNat 4

/-- A request for evidence: GO of TRUST_ATT_CTL, or of the Net controller for the ATTEST_REQ in hand, whose ATTEST_RESP
then goes out. -/
def execAttestEvidenceGo (a : Option Agent) (s : State) : Out :=
  .next (match a with
    | some a => s.regWrite a TRUST_ATT_CTL 1#32 fun s =>
        if a.val = 1 ∨ 2 < a.val ∨ s.flag ALARM_CTL_BARE = true then s.err
        else ((s.signEvidence s.attNonce).setReg TRUST_ATT_CTL 0x80000000#32).ok 0#32
    | none =>
      match s.link.attest with
      | some (n, v) =>
        let s := s.signEvidence (beBytes v 32)
        let s := { s with link := { s.link with attest := none } }
        s.linkSend 0x03 n (v :: (List.range 128).map fun w => (s.reg (TRUST_ATT_EV w)).toNat)
      | none => s)

/-- Whether the debug port answers requests (R414, R446): Sealed and Retired, not in Bare mode. -/
def State.debugAsks (s : State) : Bool := Nat.ble lcSealed s.lc && s.hubUp && !s.flag ALARM_CTL_BARE

def execDebugNonceRequest (s : State) : Out :=
  .next (if s.debugAsks then
      let s := (List.range 8).foldl (fun (s : State) w =>
        let (v, s) := s.pick (2 ^ 32)
        s.setRegN (TRUST_DBG_NONCE w) v) s
      { s with trust := { s.trust with nonceNew := true } }
    else s)

/-- The MACsec associations of a port cleared. -/
def State.dropKeys (s : State) (p : Nat) : State :=
  let s := s.clearRegs (NET_SEC_SA_KEY p 0 0) (NET_SEC_SA_RZ p 131 1)
  (List.range 32).foldl (fun (s : State) j => s.sf (NET_SEC_RXSC_CTL_SA_V p j) 0) s

/-- Every MACsec association and the site secret cleared. -/
def State.clearKeys (s : State) : State :=
  let s := (List.range 7).foldl (fun (s : State) p => s.dropKeys p) s
  { s with trust := { s.trust with site := none, siteNext := none, anOld := none } }.sf TRUST_LC_KEYS_OK 0

/-- The last debug nonce. -/
def State.dbgNonce (s : State) : List Byte := (List.range 8).flatMap fun w => leBytes (s.reg (TRUST_DBG_NONCE w)).toNat 4

/-- Whether a debug token opens the port (R446): 184 bytes, MAGIC, a scope that the lifecycle state takes, reserved bytes of 0,
this device's IDH, the latest nonce, and the signature over the first 88 bytes by the key of the scope. -/
def State.tokenOk (s : State) (t : List Byte) : Bool :=
  let scope := byteAt t 4
  t.length == 184 && t.take 4 == [0x44#8, 0x42#8, 0x47#8, 0x31#8] && zeroAt t 5 3
    && (scope == 2 || (scope == 1 && s.lc == lcSealed)) && beAt t 8 48 == deviceIdh
    && s.trust.nonceNew && (t.drop 56).take 32 == s.dbgNonce
    && signedBy (if scope = 2 then Config.factoryKey else s.ownerKey s.epoch) (sha384 (t.take 88)) (t.drop 88)

def execDebugTokenSubmit (token : List Byte) (s : State) : Out :=
  .next (if s.debugAsks then
      let good := s.tokenOk token
      let s := { s with trust := { s.trust with nonceNew := false } }
      if good then
        let s := { s.clearKeys with trust := { s.clearKeys.trust with store := none, debugged := true } }
        ((s.sf TRUST_LC_STK_OK 0).sf TRUST_LC_SECRETS_ERASED 1).sf TRUST_LC_DEBUG_OPEN 1
      else s
    else s)

end Sys2Proof.Machine
end

