-- ==== Sys2Proof/Machine/Upsett.lean ====
section
/-! DEFINITION. Machine/Upsett.lean: the choice of firmware and Skein, and the start of the machine (R211, R212, R419,
R424 to R430, R439 of spec/14_trust_and_startup.md). -/
namespace Sys2Proof.Machine

open Reg

/-! ### Tuples (R424, R425) -/

/-- A tuple: TREL and the versions of the four components. -/
abbrev Tuple := Nat × List Nat

/-- Whether a component of a version is described by the headers. -/
def described (bs : List (Nat × Bundle)) (kind ver : Nat) : Bool := bs.any fun b => (b.2.comp kind ver).isSome

/-- Whether the bytes of a component in an area of flash (0 slot A, 1 slot B, 2 golden) match its digest. -/
def State.compLoads (s : State) (area : Nat) (c : Comp) : Bool :=
  sha384 (s.bytes (flashBase + 0x00100000 + area * 0x00400000 + c.off) c.len) == c.digest

/-- Where a component of a version loads: the first area whose copy matches its digest. -/
def State.compFrom (s : State) (bs : List (Nat × Bundle)) (kind ver : Nat) : Option (Nat × Comp) :=
  bs.findSome? fun b => match b.2.comp kind ver with
    | some c => if s.compLoads b.1 c then some (b.1, c) else none
    | none => none

/-- The version of a component that a tuple names. -/
def Tuple.ver (t : Tuple) (kind : Nat) : Nat := t.2.getD kind 0

/-- A tuple put into a list by falling TREL. -/
def putTuple (t : Tuple) : List Tuple → List Tuple
  | [] => [t]
  | x :: l => if Nat.blt x.1 t.1 then t :: x :: l else x :: putTuple t l

/-- The candidate tuples, the highest TREL first. -/
def candidates (bs : List (Nat × Bundle)) : List Tuple :=
  ((bs.flatMap (·.2.list)).filter fun t => (List.range 4).all fun k => described bs k (Tuple.ver t k)).foldr putTuple []

/-- The components of a tuple, with the area that supplies each; none where one does not load. -/
def State.parts (s : State) (t : Tuple) (bs : List (Nat × Bundle)) : Option (List (Nat × Comp)) :=
  (List.range 4).foldr (fun k acc =>
    match s.compFrom bs k (Tuple.ver t k), acc with
    | some x, some l => some (x :: l)
    | _, _ => none) (some [])

/-- The tuples that stage-2 may run: those that verify and name the stage-2 which ROM started. ROM passes over a stage-2
that does not load or has no tuple that verifies. -/
def State.runnable (s : State) (bs : List (Nat × Bundle)) : List (Nat × List (Nat × Comp)) :=
  let ts := candidates bs
  let ok := ts.filterMap fun t => (s.parts t bs).map fun p => (Tuple.ver t 0, t.1, p)
  match ts.find? fun t => ok.any fun x => x.1 == Tuple.ver t 0 with
  | some t => (ok.filter fun x => x.1 == Tuple.ver t 0).map (·.2)
  | none => []

/-- The bundles whose headers are valid, by area: slots A and B, or the golden area alone. -/
def State.bundles (s : State) (gold : Bool) : List (Nat × Bundle) :=
  let l := if gold then [(2, s.trust.gold)] else [(0, s.trust.fwA), (1, s.trust.fwB)]
  l.filterMap fun e => match e.2 with | some b => if s.bundleOk b then some (e.1, b) else none | none => none

/-! ### Skein slots (R425, R439) -/

/-- What a start runs: TREL, the components with their areas, and a Skein slot where one loads. -/
structure Choice where
  trel : Nat
  parts : List (Nat × Comp)
  slot : Option (Nat × SkImage)

/-- The first tuple under which a Skein is accepted. -/
def State.tupleFor (s : State) (i : Nat) (k : SkImage) (ts : List (Nat × List (Nat × Comp))) :
    Option (Nat × List (Nat × Comp)) :=
  ts.find? fun t => s.skeinReason i k (t.2.map (·.2)) false == 0

/-- The slots tried in an order; one that fails is rejected, and the next is tried. -/
def State.trySlots (s : State) (ts : List (Nat × List (Nat × Comp))) : List Nat → State × Option Choice
  | [] => (s, none)
  | i :: l =>
    let top := match ts with | t :: _ => t.2.map (·.2) | [] => []
    let st := s.slotState i
    let fail (s : State) : State := if st = skTrial then (s.setSlot i skRejected).raise TRUST_EVT_TRIAL_FAIL else s.setSlot i skRejected
    match s.skeinOf i with
    | none => (fail ((s.sf TRUST_SLOTS_REASON 1).raise TRUST_EVT_SKN_REFUSED)).trySlots ts l
    | some k =>
      match s.tupleFor i k ts with
      | some t => (s, some ⟨t.1, t.2, some (i, k)⟩)
      | none => (fail (s.skeinRefused i (s.skeinReason i k top false) (s.skRead i k) top)).trySlots ts l

/-- Slots in the order PENDING, TRIAL, ACTIVE, VALID. -/
def State.slotOrder (s : State) : List Nat :=
  [skPending, skTrial, skActive, skValid].flatMap fun st => (List.range 2).filter fun i => s.slotState i == st

/-- The choice of R425, none where no bundle verifies. -/
def State.choose (s : State) (b : BootIn) : State × Option Choice :=
  let ab := s.runnable (s.bundles false)
  let ts := if ab.isEmpty then s.runnable (s.bundles true) else ab
  match if b.sfdpOk then ts else [] with
  | [] => (s, none)
  | t :: _ =>
    match s.trySlots ts s.slotOrder with
    | (s, some c) => (s, some c)
    | (s, none) => (s, some ⟨t.1, t.2, none⟩)

/-- The chosen slot as it becomes: PENDING becomes TRIAL with the ACTIVE one kept as fallback, a VALID slot ACTIVE. -/
def State.takeSlot (s : State) (i : Nat) : State :=
  let st := s.slotState i
  if st = skPending then
    let s := if s.slotState (1 - i) = skActive then s.setSlot (1 - i) skValid else s
    s.slotRuns i skTrial
  else if st = skValid then s.slotRuns i skActive
  else s

/-! ### The start (R426 to R430) -/

/-- What runs is recorded: TREL, the areas that supply it, and the measurements. Bare mode ends (R212). -/
def State.setTuple (s : State) (c : Choice) : State :=
  let code (a : Nat) (b : Option Bundle) : Nat :=
    if c.parts.any fun p => p.1 == a then 2 else match b with | some x => if s.bundleOk x then 1 else 0 | none => 0
  let fa := code 0 s.trust.fwA
  let fb := code 1 s.trust.fwB
  let g := code 2 s.trust.gold
  let s := { s with trust := { s.trust with comps := c.parts.map fun (p : Nat × Comp) => p.2 } }
  let s := ((((s.sf TRUST_SLOTS_FW_A fa).sf TRUST_SLOTS_FW_B fb).sf TRUST_SLOTS_GOLD g).setRegN TRUST_TREL c.trel).setFlag
    TRUST_BOOT_GOLDEN (g == 2)
  let s := s.sf ALARM_CTL_BARE 0
  let s := s.putDigest (TRUST_MEAS 0) Config.romDigest
  c.parts.zipIdx.foldl (fun (s : State) (p : (Nat × Comp) × Nat) => s.putDigest (TRUST_MEAS (p.2 + 1)) p.1.2.digest) s

/-- Whether the retained path is taken (R426). -/
def State.markMatches (s : State) (b : BootIn) : Option (Nat × SkImage) :=
  match s.trust.mark with
  | some (dig, i, _) =>
    if (s.slotState i = skActive ∨ s.slotState i = skTrial) ∧ s.slotState 0 ≠ skPending ∧ s.slotState 1 ≠ skPending ∧ b.copiesOk = true then
      match s.skeinOf i with
      | some k => if s.skDigest i = dig then some (i, k) else none
      | none => none
    else none
  | none => none

/-- The clusters of a Skein powered and loaded: all but those that Trim gates. They start together (R427). -/
def State.startClusters (s : State) (l : List Nat) : State :=
  let on := l.filter fun c => !(s.pstate == pTrim && s.bit PWR_TRIM_MASK c)
  let s := on.foldl (fun (s : State) c => s.bringUp c) s
  { s with power := { s.power with together := on } }

/-- A Skein loaded at a start on a path (0 cold, 1 retained, 2 cold from Rim). -/
def State.startSkein (s : State) (b : BootIn) (path : Nat) (i : Nat) (k : SkImage) : State :=
  let same := match s.trust.mark with | some (d, _, _) => d == s.skDigest i | none => false
  let rim := path == 2 && same
  let keep := path == 1 || rim
  let s := if path = 2 ∧ same = false then (s.weaveRestart.borderRestart) else s
  let s := (s.applySkein i k keep (!rim) b.badMsgs).openKeys i
  let s := s.putDigest (TRUST_MEAS 5) (s.skDigest i)
  let s := if s.runsBad then s else s.sf WEAVE_CTL_RUN 1
  let s := (s.sf BORDER_CTL_RUN 1).sf ALARM_CTL_RUN 1
  let s := if rim then s else s.portsRestart
  let only3 := path == 2 && s.reg RIM_WAKE_LATCH &&& 0x1F#32 == 8#32
  let s := if path = 2 ∧ only3 = false then s.sf PWR_STAT_STATE (if s.reg PWR_TRIM_MASK = 0#32 then pRun else pTrim) else s
  let s := if only3 then s else (s.sf PWR_STAT_DDR_SR 0).startClusters k.clusters
  let trial := s.slotState i == skTrial
  let s := (s.sf TRUST_BOOT_SLOT i).setFlag TRUST_BOOT_TRIAL trial
  { s with trust := { s.trust with
      run := some i, trialAt := if trial then some s.now else none, mark := some (s.skDigest i, i, (s.reg TRUST_TREL).toNat) } }

/-- The ports that the bare layer runs, started anew unless a wake from Rim has started them (R211, R246). -/
def State.barePorts (s : State) (path : Nat) : State := if path = 2 then s else s.portsRestart

/-- The part Unconfigured (R425): the hardware alarm layer, the capsule inbox open, FAULT_N by bit 15 of the policy. -/
def State.unconfigured (s : State) : State :=
  let s := (s.sf TRUST_BOOT_UNCONF 1).setReg ALARM_FAULT_SW (s.reg ALARM_FAULT_SW ||| 0x8000#32)
  s.setReg MATRIX_HOST_CFG 3#32

/-- Bare mode (R211). -/
def State.bareMode (s : State) : State :=
  let s := s.sf ALARM_CTL_BARE 1
  { s with trust := { s.trust with comps := [], run := none, trialAt := none } }

/-- Monitors of the oscillators, and the public identity. -/
def State.startCommon (s : State) : State :=
  let s := s.countUp TRUST_BOOT_BOOT_CNT
  let s := if s.alarm.xoLost then s else (s.sf REFSEL_STAT_XO_OK 1).sf RIM_STAT_XO_OK 1
  let s := if s.flag RIM_STAT_RC_ACTIVE then s else s.sf RIM_STAT_XTAL_OK 1
  let s := (List.range 24).foldl (fun (s : State) w => s.setRegN (TRUST_IDPUB w) (leAt (keyBytes dikPub) (4 * w) 4)) s
  s.setFlag TRUST_LC_STK_OK s.stkKey.isSome

/-- The power-cycle boots within 1 h that the log shows at a cold start: three stop the Warden from climbing past step 2
(R503). -/
def State.capSteps (s : State) : State :=
  let l := s.power.cycleBoots.filter fun t => Nat.ble s.now (t + 3600 * sec1)
  let three := Nat.ble 3 l.length
  let s := { s with power := { s.power with cycleBoots := l, capped := three } }
  if three then s.setReg ALARM_FAULT_SW (s.reg ALARM_FAULT_SW ||| 0x4000#32) else s

/-- The end of a start that found firmware: the Warden runs, Lysle link starts, a sweep that the RTC woke the machine for
begins (R188), and the start is logged. -/
def State.startEnd (s : State) (path : Nat) : State :=
  let s := { s with power := { s.power with wardenUp := true, served := none } }.lifeWake
  let s := if path = 0 then s.capSteps else s
  let s := if path = 2 ∧ s.bit RIM_WAKE_LATCH 3 = true then { s with supv := { s.supv with sweep := some ⟨s.now, false⟩ } } else s
  let s := s.linkStart.roleCheck
  let dig := match s.trust.mark, s.trust.run with | some (d, _, _), some _ => d / 2 ^ 256 | _, _ => 0
  s.logRec 8 [path, (s.reg TRUST_TREL).toNat, match s.trust.run with | some i => i | none => 0xFF, dig]

/-- Upsett starts, if a start is due: after power-on, a device reset or a wake from Rim. On the way from Rim a Skein other
than the retained one waits until no trigger is active and no start is latched (R428). -/
def execUpsettStart (b : BootIn) (s : State) : Out :=
  .next (match s.power.boot with
    | none => s
    | some from_ =>
      if s.power.rstLow then s
      else
        let s0 := { s with power := { s.power with boot := none } }
        let s1 := s0.startCommon
        let s1 := if from_ = 1 then s1.timeRestore else s1
        match if from_ = 1 then s1.markMatches b else none with
        | some (i, k) =>
          let trel := match s1.trust.mark with | some (_, _, t) => t | none => 0
          let parts := s1.trust.comps.map fun c => (3, c)
          let fa := s1.rf TRUST_SLOTS_FW_A
          let fb := s1.rf TRUST_SLOTS_FW_B
          let g := s1.rf TRUST_SLOTS_GOLD
          let s2 := s1.setTuple ⟨trel, parts, none⟩
          let s2 := (((s2.sf TRUST_SLOTS_FW_A fa).sf TRUST_SLOTS_FW_B fb).sf TRUST_SLOTS_GOLD g).setFlag TRUST_BOOT_GOLDEN (g == 2)
          ((s2.sf TRUST_BOOT_PATH 1).startSkein b 1 i k).startEnd 1
        | none =>
          let path := if from_ = 2 then 2 else 0
          match s1.choose b with
          | (s2, none) => ((s2.sf TRUST_BOOT_PATH path).bareMode).barePorts path
          | (s2, some c) =>
            let s3 := (s2.setTuple c).sf TRUST_BOOT_PATH path
            match c.slot with
            | none => ((s3.unconfigured).barePorts path).startEnd path
            | some (i, k) =>
              let same := match s.trust.mark with | some (d, _, _) => d == s.skDigest i | none => false
              let busy := s.reg ALARM_TRIG_ACT0 != 0#32 || s.reg ALARM_TRIG_ACT1 != 0#32 || !s.alarm.cmds.isEmpty
              if from_ = 2 ∧ same = false ∧ busy = true then s
              else ((s3.takeSlot i).startSkein b path i k).startEnd path)

end Sys2Proof.Machine
end

