-- ==== Sys2Proof/Machine/Power.lean ====
section
/-! DEFINITION. Machine/Power.lean: power states, the entry handshake and waking, resets and the oscillator (R187, R188, R373,
R459, R471, R479 to R493, R507, R517 to R521). -/
namespace Sys2Proof.Machine

open Reg

def State.updPower (s : State) (f : Power → Power) : State := { s with power := f s.power }

/-! ### Ladder steps 3 and 4 (R502, R503, R507) -/

/-- A ladder step recorded: PWR_EVT.LADDER, the log, and the fault policy. -/
def State.ladderMark (s : State) (step : Nat) : State :=
  ((s.raise PWR_EVT_LADDER).wardenEvent 10 [step]).policyBits (.ladder step)

/-- PWRCYC_N driven low for MS milliseconds (R507). -/
def State.pcyc (s : State) : State := s.updPower fun p => { p with pcycEnd := some (s.now + (s.reg PWR_PCYC).toNat * ms1) }

/-- PWRCYC_N as the ball shows it: low while a request is driven. -/
def State.pwrcycLow (s : State) : Bool := match s.power.pcycEnd with | some t => Nat.blt s.now t | none => false

/-- Step 4, unless the Warden climbs no higher than step 2. -/
def State.step4 (s : State) : State := if s.power.capped then s else (s.ladderMark 4).pcyc

/-- Steps 3 taken within the last 10 minutes. -/
def State.recent3 (s : State) : List Nat := s.power.steps3.filter fun t => Nat.blt s.now (t + 600 * sec1)

/-- A device reset, before which the Net controller saves its packet numbers while the Warden runs (R388). -/
def State.savedReset (s : State) : State := (if s.power.wardenUp then s.pnSave else s).deviceReset

/-- Step 3: a device reset, or step 4 on the fourth occasion within 10 minutes. -/
def State.step3 (s : State) : State :=
  if s.power.capped then s
  else if 3 ≤ s.recent3.length then s.step4
  else
    let t := s.now
    let s := (s.updPower fun p => { p with steps3 := s.recent3 ++ [t] }).countUp PWR_LADDER_STEP3_CNT
    s.savedReset.ladderMark 3

/-- What waits for a handshake to end (R487): 3 and 4 ladder steps, 5 a device reset and 6 a power cycle by register. -/
def State.takeStep (s : State) (k : Nat) : State :=
  if k = 3 then s.step3 else if k = 4 then s.step4 else if k = 5 then s.savedReset else s.pcyc

/-- A step taken now, or once the handshake in progress has ended. -/
def State.reqStep (s : State) (k : Nat) : State :=
  if s.power.hand.isSome then s.updPower fun p => { p with waiting := some k } else s.takeStep k

/-! ### Clusters and dies (R156, R481, R490) -/

/-- The clusters of the Skein in force. -/
def State.skClusters (s : State) : List Nat :=
  match s.trust.run with
  | some i => match s.skeinOf i with | some k => k.clusters | none => []
  | none => []

/-- A cluster gated: its power off, its sequencer's port reset. -/
def State.gateCluster (s : State) (c : Nat) : State :=
  let s := (s.clusterOff c (if s.clState c = clIsolated then clIsolated else clOff)).portReset (6 + c)
  s.setCluster c { s.cluster c with gated := false, missed := false }

/-- The clusters that should run brought up where they are off: those of the Skein, but for the ones masked and those
that wait for REINIT (R151). -/
def State.ungate (s : State) (mask : Word) : State :=
  s.skClusters.foldl (fun (s : State) c =>
    if bitAt mask c || s.bit PWR_STAT c || s.clState c != clOff || (s.cluster c).parked then s else (s.bringUp c).autoStart c) s

/-- Both compute dies and the region links off, LPDDR5X in self-refresh, the DMA ports reset (R474). -/
def State.diesOff (s : State) : State :=
  let s := (List.range 16).foldl (fun (s : State) c => s.gateCluster c) s
  let s := (List.range 4).foldl (fun (s : State) r => s.portReset (22 + r)) s
  let s := s.updPower fun p => { p with waking := [], demand := [] }
  (((s.sf PWR_STAT_CD0 0).sf PWR_STAT_CD1 0).sf PWR_STAT_DDR_SR 1).sf PWR_STAT_DEMAND 0

/-- Accesses held by a handshake wake their domains now (R488). -/
def State.stallsWake (s : State) : State := s.power.stalls.foldl (fun (s : State) (x : Stall) => s.wakeDomain (stallDomain x.addr)) s

/-! ### The handshake (R483 to R488) -/

/-- The participants of an entry, in order. -/
def participants (target prior : Nat) : List Nat :=
  if target = pTrim then [6, 7]
  else if target = pWatch then [6, 7, 8, 9]
  else if target = pRim then (if prior = pWatch then [1, 2, 3, 4, 5, 10, 11, 12, 13, 14] else (List.range 14).map (· + 1))
  else []

/-- Clusters restarted after a handshake that did not gate them. -/
def State.ungateMarks (s : State) (gate : Nat) : State :=
  (List.range 16).foldl (fun (s : State) c => if gate.testBit c then s.setCluster c { s.cluster c with gated := false } else s) s

/-- The end of a handshake, with what waited for it. -/
def State.handEnd (s : State) : State :=
  let w := s.power.waiting
  let s := ((s.updPower fun p => { p with hand := none, waiting := none }).sf PWR_STAT_BUSY 0).sf PWR_STAT_ASKED 0
  let s := s.stallsWake
  match w with
  | some k => ((s.sf PWR_RECOV_BUSY 0).takeStep k)
  | none => s

/-- The target state entered. -/
def State.handEnter (s : State) (h : Hand) : State :=
  let s := (s.setRegN PWR_BACKOFF 0).sf PWR_REFUSE_COUNT 0
  let s :=
    if h.target = pTrim then
      let mask := s.reg PWR_TRIM_MASK
      ((List.range 16).foldl (fun (s : State) c => if h.gate.testBit c then s.gateCluster c else s) s).ungate mask
    else if h.target = pRun then s.ungate 0#32
    else s.diesOff
  let link := s.flag RIM_WF_CFG_EN && s.netUp s.wfPort
  let w := s.power.waiting
  let s := if h.target = pRim then (s.hubReset true).setFlag RIM_STAT_WF_LINK link else s
  let s := (s.sf PWR_STAT_STATE h.target).raise PWR_EVT_ENTERED
  let s := if h.target = pRim ∧ h.woken then s.startWake else s
  (s.updPower fun p => { p with waiting := w }).handEnd

/-- The next participant asked, or the target entered when all have accepted. -/
def State.handAsk (s : State) (h : Hand) : State :=
  match (participants h.target h.prior).find? fun p => !h.accepted.contains p with
  | some p => (s.updPower fun q => { q with hand := some { h with asked := some p, at_ := s.now } }).sf PWR_STAT_ASKED p
  | none => s.handEnter h

/-- The clusters that an entry gates. -/
def State.gateSet (s : State) (target : Nat) : Nat :=
  let on := (s.reg PWR_STAT).toNat % 65536
  if target = pTrim then on &&& (s.reg PWR_TRIM_MASK).toNat else if target = pWatch ∨ target = pRim then on else 0

/-- A handshake started. One that gates clusters starts at the next round boundary, from which their stakes are not
started. -/
def State.handStart (s : State) (target : Nat) : State :=
  let g := s.gateSet target
  let h : Hand := { target := target, prior := s.pstate, gate := g, accepted := [], asked := none, at_ := s.now, demand := [], woken := false }
  let s := (s.sf PWR_STAT_BUSY 1).sf PWR_STAT_RETRY 0
  let s := s.updPower fun p => { p with hand := some h, retry := none }
  if g = 0 ∨ s.alarm.xoLost = true then s.handAsk h
  else (List.range 16).foldl (fun (s : State) c => if g.testBit c then s.setCluster c { s.cluster c with gated := true } else s) s

/-- A boundary's share: participant 1 of a handshake that waited for it is asked. -/
def State.handBoundary (s : State) : State :=
  match s.power.hand with
  | some h => if h.asked.isNone then s.handAsk h else s
  | none => s

/-- A refusal (R485): rolled back, recorded, and a backoff begun. -/
def State.handRefuse (s : State) (h : Hand) (p reason : Nat) : State :=
  let k := min (s.rf PWR_REFUSE_COUNT + 1) 65535
  let s := (((s.sf PWR_REFUSE_VALID 1).sf PWR_REFUSE_BLOCK p).sf PWR_REFUSE_REASON reason).sf PWR_REFUSE_COUNT k
  let s := (s.raise PWR_EVT_REFUSED).setRegN PWR_BACKOFF (min 1000 (2 ^ (min k 11 - 1)))
  let s := s.ungateMarks h.gate
  let s := (s.updPower fun q => { q with retry := some { h with accepted := [], asked := none, at_ := s.now, demand := [] } }).sf PWR_STAT_RETRY 1
  s.handEnd

/-- Why a participant refuses, 0 where it does not (R486): what the state shows; other work in flight is for the command
to say. -/
def State.refusal (s : State) (h : Hand) (p : Nat) : Nat :=
  if p = 1 then
    if s.reg ALARM_TRIG_ACT0 != 0#32 || s.reg ALARM_TRIG_ACT1 != 0#32 || !s.alarm.cmds.isEmpty then 3 else 0
  else if p = 2 then (if !s.hoop.queue.isEmpty then 4 else if s.hoop.trans.isSome then 5 else 0)
  else if p = 3 then (if s.flag TRUST_CAP_STAT_BUSY || s.flag TRUST_FL_STAT_BUSY then 6 else 0)
  else if p = 5 then (if s.link.active then 7 else if !s.power.prep || paServes s.pairState then 8 else 0)
  else if h.demand.contains p then 9
  else if p = 12 then
    if !(s.weave.queueC.isEmpty && s.weave.queueH.isEmpty && s.weave.dueC.isEmpty && s.weave.dueH.isEmpty
      && s.border.queue.isEmpty && s.border.due.isEmpty && s.weave.agrpPend.isEmpty) then 1 else 0
  else if p = 13 then (if s.power.stalls.isEmpty then 0 else 1)
  else 0

/-- The participant being asked answers within its 3 µs; `busy` is other work that it cannot stop. -/
def execParticipantAnswer (busy : Bool) (s : State) : Out :=
  .next (match s.power.hand with
    | some h =>
      match h.asked with
      | some p =>
        if h.at_ + 3 * us1 < s.now then s.handRefuse h p 2
        else
          match s.refusal h p with
          | 0 => if busy then s.handRefuse h p 1 else s.handAsk { h with accepted := h.accepted ++ [p] }
          | r => s.handRefuse h p r
      | none => s
    | none => s)

/-- No answer within 3 µs. -/
def execParticipantTimeout (s : State) : Out :=
  .next (match s.power.hand with
    | some h =>
      match h.asked with
      | some p => (s.moveTo (h.at_ + 3 * us1)).handRefuse h p 2
      | none => s
    | none => s)

/-- The backoff over: participant 1 is asked again. -/
def execHandshakeBackoffEnd (s : State) : Out :=
  .next (match s.power.retry with
    | some h => if s.power.hand.isSome then s else (s.moveTo (h.at_ + (s.reg PWR_BACKOFF).toNat * ms1)).handStart h.target
    | none => s)

/-! ### Requests (R480 to R482) -/

/-- The Warden's steps before Rim (R482): the RTC period and uncertainty stored, the next sweep programmed, BYE sent. The
measurement's own uncertainty is open. -/
def State.prepRim (s : State) : State :=
  let s := (s.setRegN TIME_RTC_PER_LO s.hoop.rtcPer).setRegN TIME_RTC_PER_HI (s.hoop.rtcPer / 2 ^ 32 % 65536)
  let (u, s) := s.free
  let s := s.setRegN TIME_RTC_UNC (min (20000 + u) 0xFFFFFFFF)
  let sweep := s.rf SUPV_TIME_SWEEP_S
  let s := if sweep = 0 then s
    else
      let t := (s.rtc + sweep * 32768) % 2 ^ 48
      (s.setRegN RIM_RTC_ALM_LO t).setRegN RIM_RTC_ALM_HI (2 ^ 31 + t / 2 ^ 32)
  let s := (if s.link.own.isSome then s.linkSend 0x07 0xFFFE [1] else s).pnSave
  s.updPower fun p => { p with prep := true }

/-- A wake from Watch to Run or Trim, which is never refused. -/
def State.wakeTo (s : State) (target : Nat) : State :=
  let s := ((s.sf PWR_STAT_STATE target).raise PWR_EVT_WAKE).sf PWR_STAT_DDR_SR 0
  let s := s.ungate (if target = pTrim then s.reg PWR_TRIM_MASK else 0#32)
  (s.updPower fun p => { p with together := s.skClusters.filter fun c => s.clState c == clLoading }).netDrain

/-- A move to a target state (R480). -/
def State.pwrGo (s : State) (a target : Nat) : State :=
  let cur := s.pstate
  let s := if a = 1 ∧ pWatch ≤ target ∧ paServes s.pairState = true then s.updPair fun p => { p with withdraw := true } else s
  let s := if a = 1 ∧ target = pRim then s.prepRim else s
  if s.power.retry.isSome then s
  else if cur = target then
    if target ≠ pTrim then s
    else if s.gateSet pTrim = 0 then s.ungate (s.reg PWR_TRIM_MASK) else s.handStart pTrim
  else if pWatch ≤ cur ∧ target ≤ pTrim then s.wakeTo target
  else s.handStart target

/-- A write of PWR_CTL: another target ends the retries (R485). -/
def State.pwrCtlWrite (s : State) (a : Nat) (v : Word) : State :=
  if 1 < a ∨ s.flag PWR_STAT_BUSY = true then s.err
  else
    let t := bitsOf v 2 1
    let s := match s.power.retry with
      | some h => if h.target = t then s else (s.updPower fun p => { p with retry := none }).sf PWR_STAT_RETRY 0
      | none => s
    let s := s.sf PWR_CTL_TARGET t
    (if bitAt v 0 then s.pwrGo a t else s).ok 0#32

def execPwrGoRun (a : Agent) (s : State) : Out := .next (s.regWrite a PWR_CTL 1#32 fun s => s.pwrCtlWrite a.val 1#32)
def execPwrGoTrim (a : Agent) (s : State) : Out := .next (s.regWrite a PWR_CTL 3#32 fun s => s.pwrCtlWrite a.val 3#32)
def execPwrGoWatch (a : Agent) (s : State) : Out := .next (s.regWrite a PWR_CTL 5#32 fun s => s.pwrCtlWrite a.val 5#32)
def execPwrGoRim (a : Agent) (s : State) : Out := .next (s.regWrite a PWR_CTL 7#32 fun s => s.pwrCtlWrite a.val 7#32)

/-- A write of PWR_TRIM_MASK (R481): in Trim, a cluster that leaves the mask reloads. -/
def State.trimMaskWrite (s : State) (a : Nat) (v : Word) : State :=
  if 1 < a then s.err
  else
    let s := s.setReg PWR_TRIM_MASK (v &&& 0xFFFF#32)
    (if s.pstate = pTrim then s.ungate (s.reg PWR_TRIM_MASK) else s).ok 0#32

def State.pwrResetWrite (s : State) (a : Nat) (v : Word) : State :=
  if 1 < a then s.err else (if bitsOf v 7 0 = 0xA5 then s.reqStep 5 else s).ok 0#32

def State.pwrCycleWrite (s : State) (a : Nat) (v : Word) : State :=
  if 1 < a then s.err else (if bitsOf v 7 0 = 0xA5 then s.reqStep 6 else s).ok 0#32

def execPwrReset (a : Agent) (key : BitVec 8) (s : State) : Out :=
  .next (s.regWrite a PWR_RESET (key.setWidth 32) fun s => s.pwrResetWrite a.val (key.setWidth 32))

def execPwrCycle (a : Agent) (key : BitVec 8) (s : State) : Out :=
  .next (s.regWrite a PWR_CYCLE (key.setWidth 32) fun s => s.pwrCycleWrite a.val (key.setWidth 32))

/-- Still powered 1 s after PWRCYC_N was released: logged, and step 3. -/
def execPowerCycleFail (s : State) : Out :=
  .next (match s.power.pcycEnd with
    | some t =>
      let s := ((s.moveTo (t + sec1)).updPower fun p => { p with pcycEnd := none }).wardenEvent 11 []
      s.reqStep 3
    | none => s)

/-! ### Waking (R489, R490, R493) -/

/-- RIM_RTC reaches the compare value, in Rim or on the way into it. -/
def execRtcAlarm (s : State) : Out :=
  .next (if s.flag RIM_RTC_ALM_HI_EN then
      let c := bitsOf (s.reg RIM_RTC_ALM_HI) 15 0 * 2 ^ 32 + (s.reg RIM_RTC_ALM_LO).toNat
      (s.moveTo (s.now + (c + 2 ^ 48 - s.rtc) % 2 ^ 48 * sec1 / 32768)).wakeEvent 3
    else s)

/-- WAKE_N held for 2 Rim cycles. -/
def execWakeNAssert (s : State) : Out := .next (s.wakeEvent 4)

/-- Whether a frame is an IPv4 UDP datagram to port 48,070 whose prefix has TYPE 0x40 and SEALED 0 (R493). -/
def udpAlarm (l : List Byte) : Bool :=
  match udp4At l 48070 with
  | some o => byteAt l o == 0x40 && byteAt l (o + 1) == 0
  | none => false

/-- Whether the Rim wake filter takes a frame (R493). -/
def State.wakeFrameOk (s : State) (f : NetFrame) : Bool :=
  let sciOk := match f.sec with
    | .tag sci _ _ _ => (List.range 4).any fun k =>
      let v := (s.reg (RIM_WF_SCI_LO k)).toNat + (s.reg (RIM_WF_SCI_HI k)).toNat * 2 ^ 32
      v != 0 && v == sci
    | _ => false
  let own := f.dst == (s.reg (NET_MAC_LO s.wfPort)).toNat + bitsOf (s.reg (NET_MAC_HI s.wfPort)) 15 0 * 2 ^ 32
  byteAt f.bytes 0 % 2 == 0 && Nat.ble f.len 1522 && ((own && sciOk) || (s.flag RIM_WF_CFG_UDP_EN && udpAlarm f.bytes))

/-- A frame at the wake-filter port in Rim: kept for replay, or dropped and counted once 4 are held. -/
def execWakeFilterFrame (f : NetFrame) (s : State) : Out :=
  .next (if s.pstate = pRim ∧ s.power.rstLow = false ∧ s.flag RIM_WF_CFG_EN = true ∧ s.flag RIM_STAT_WF_LINK = true
      ∧ s.bit RIM_WAKE_EN 2 = true ∧ s.wakeFrameOk f = true then
      if 4 ≤ s.power.frames.length then s.countUp RIM_WF_STAT_DROPPED
      else
        let x : WakeFrame := { port := s.wfPort, frame := f }
        let s := s.updPower fun p => { p with frames := p.frames ++ [x] }
        (s.sf RIM_WF_STAT_HELD s.power.frames.length).wakeEvent 2
    else s)

/-- A frame replayed (R493): steps 2 and 4 of R256; one that holds anything else than ALARM or WAKE is a false wake. -/
def State.replayFrame (s : State) (x : WakeFrame) : State :=
  let go (s : State) (prot : Bool) : State :=
    match alarmBody x.frame.bytes with
    | some body => s.alarmFrame x.port x.frame prot body
    | none => if linkType x.frame.bytes = some 0x23 then s else s.countUp RIM_WAKE_CNT_FALSE
  match s.secCheck x.port x.frame with
  | (0, prot, some (k, pn)) => go (s.setPn x.port k pn) prot
  | (0, prot, none) => go s prot
  | (d, _, _) => (s.cnt x.port cRxSec).violation 6 x.port d x.frame.src true

/-- The hub is up (R490): time restored, ports restarted, latched frames replayed, and Upsett due on the cold path. -/
def execHubReady (s : State) : Out :=
  .next (match s.power.hubWake with
    | some t =>
      let l := s.power.frames
      let s := (s.moveTo (t + 550 * us1)).updPower fun p => { p with hubWake := none, frames := [], boot := some 2 }
      let s := (((s.sf PWR_STAT_STATE pWatch).sf PWR_STAT_DDR_SR 1).raise PWR_EVT_WAKE).sf RIM_WF_STAT_HELD 0
      let s := (s.setFlag REFSEL_STAT_XO_OK (!s.alarm.xoLost)).timeRestore.portsRestart
      l.foldl (fun (s : State) x => s.replayFrame x) s
    | none => s)

/-- Power-up of a cluster or compute die complete (R156): a die within 400 µs, a cluster within 35 µs of its die. -/
def execPowerUpDone (d : Fin 18) (s : State) : Out :=
  let n := d.val
  .next (match s.power.waking.find? fun x => x.1 == n with
    | none => s
    | some (_, t) =>
      let done (s : State) : State := s.updPower fun p => { p with waking := p.waking.filter fun x => x.1 != n }
      if n < 16 then
        if (s.cluster n).loading = true ∧ s.clState n = clLoading ∧ s.flag (if n < 8 then PWR_STAT_CD0 else PWR_STAT_CD1) = true then
          (done (s.moveTo (t + 35 * us1))).setBit PWR_STAT n
        else s
      else (done (s.moveTo (t + 400 * us1))).sf (if n = 16 then PWR_STAT_CD0 else PWR_STAT_CD1) 1)

/-- A Rim sweep ends after (CONFIRM + 1) s of estimates (R188); the Warden goes back to Rim if no state changed. -/
def execSweepEnd (s : State) : Out :=
  .next (match s.supv.sweep with
    | some w =>
      let s := (s.moveTo (w.since + (s.rf SUPV_TIME_CONFIRM + 1) * sec1)).raise SUPV_EVT_SWEEP_DONE
      let s := { s with supv := { s.supv with sweep := none } }
      if w.changed || s.flag PWR_STAT_BUSY || s.pstate != pWatch then s
      else
        let b := s.bus
        let s := s.pwrCtlWrite 1 7#32
        { s with bus := b }
    | none => s)

/-! ### The RTC (R341, R508) -/

/-- A read of RIM_RTC_LO latches bits 47:32 into RIM_RTC_HI. -/
def State.rtcRead (s : State) : State :=
  let r := s.rtc
  (s.setRegN RIM_RTC_HI (r / 2 ^ 32)).ok (BitVec.ofNat 32 r)

def execRimRtcRead (a : Agent) (s : State) : Out :=
  .next (s.access a.val RIM_RTC_LO false 0#32 fun s => if 2 < a.val then s.err else s.rtcRead)

/-- The RTC crystal fails, and the RC backup counts on. -/
def execRtcCrystalFail (s : State) : Out :=
  .next (if s.flag RIM_STAT_RC_ACTIVE || s.power.rstLow then s
    else
      let s := (s.sf RIM_STAT_XTAL_OK 0).sf RIM_STAT_RC_ACTIVE 1
      if s.hubUp then (s.raise TIME_STAT_RTC_RC).raise TIME_EVT_RTC_FAIL else s)

/-! ### Reset balls, supplies and the TCXO (R373, R517 to R521) -/

/-- RST_N low: every domain in reset, whatever was in progress. -/
def execRstNAssert (s : State) : Out := .next ((s.powerOff true).updPower fun p => { p with testHold := false })

/-- VDD_RIM below 1.62 V for 10 µs: as RST_N. -/
def execVddRimLow (s : State) : Out := .next ((s.powerOff true).updPower fun p => { p with testHold := false })

/-- RST_N released: the straps are sampled; with TEST_EN at 1 nothing further happens until RST_N is asserted again. -/
def execRstNRelease (role : Fin 4) (testEn : Bool) (s : State) : Out :=
  .next (if !s.power.rstLow || s.power.testHold then s
    else if testEn then s.updPower fun p => { p with testHold := true }
    else s.updPower fun p => { p with rstLow := false, role := role.val, boot := some 0, rtcAt := s.now })

/-- The enables that the balls drive (R516): HUB_EN, CD0_EN and CD1_EN. -/
def State.hubEn (s : State) : Bool := !s.power.rstLow && (s.pstate != pRim || s.power.hubWake.isSome)
def State.cdEn (s : State) (i : Nat) : Bool :=
  !s.power.rstLow && (s.flag (if i = 0 then PWR_STAT_CD0 else PWR_STAT_CD1) || s.power.waking.any fun x => x.1 == 16 + i)

/-- XO_IN has stopped: the media clock and the clock outputs stop, FAULT_N is asserted, and the contact filters count Rim
clock cycles (R193). -/
def execXoLoss (s : State) : Out :=
  .next (if s.alarm.xoLost || s.power.rstLow then s
    else
      let s := { s with alarm := { s.alarm with xoLost := true } }
      let s := (s.sf RIM_STAT_XO_OK 0).raise ALARM_EVT_XO_LOSS
      if s.hubUp then (s.sf REFSEL_STAT_XO_OK 0).raise REFSEL_EVT_XO_FAIL else s)

/-- The TCXO runs again: the Warden re-initialises the machine under step 3. -/
def execXoReturn (s : State) : Out :=
  .next (if s.alarm.xoLost then
      let s := { s with alarm := { s.alarm with xoLost := false } }
      let s := s.sf RIM_STAT_XO_OK 1
      if s.hubUp then (s.sf REFSEL_STAT_XO_OK 1).reqStep 3 else s
    else s)

/-! ### Master ports (R459, R471) -/

def execMasterPortReset (p : Fin 35) (s : State) : Out :=
  .next (if s.hubUp && (Nat.blt p.val 26 || Nat.ble 32 p.val) then s.portReset p.val else s)

def execPortReconnect (p : Fin 35) (s : State) : Out :=
  .next (if s.hubUp && (Nat.blt p.val 26 || Nat.ble 32 p.val) then s.portReconnect p.val else s)

/-- PCIE_PERST_N, a hot reset or a function-level reset. -/
def execPcieReset (s : State) : Out := .next (if s.hubUp then s.portReset 3 else s)

/-- The PCIe link down. -/
def execPcieLinkDown (s : State) : Out :=
  .next (if s.hubUp then s.portReset 3 else s)

end Sys2Proof.Machine
end

