-- ==== Sys2Proof/Machine/Health.lean ====
section
/-! DEFINITION. Machine/Health.lean: monitors, thermal trips and policy, end of life and the health score (R154, R494 to
R501, R516, R523). -/
namespace Sys2Proof.Machine

open Reg

/-! ### Temperature (R154, R494 to R496) -/

/-- Whether a compute die is powered. -/
def State.dieOn (s : State) (d : Nat) : Bool := s.flag (if d = 0 then PWR_STAT_CD0 else PWR_STAT_CD1)

/-- Whether a temperature sensor is powered: a cluster's with its compute die, the hub's with the hub. -/
def State.sensorOn (s : State) (i : Nat) : Bool := s.hubUp && (Nat.ble 16 i || s.dieOn (i / 8))

/-- The hottest valid sensor of a region. -/
def State.tmax (s : State) (r : Nat) : Int :=
  (List.range 4).foldl (fun m j =>
    if s.flag (HEALTH_TEMP_VALID (4 * r + j)) && s.sensorOn (4 * r + j) then max m (s.temp (4 * r + j)) else m) (-128)

/-- The clusters of a region as bits. -/
def regionMask (r : Nat) : Nat := 0xF * 2 ^ (4 * r)

/-- The clusters of a region gated for temperature: masked, and remembered until it has cooled. -/
def State.heatMask (s : State) (r : Nat) : State :=
  let s := s.setReg PWR_TRIM_MASK (s.reg PWR_TRIM_MASK ||| BitVec.ofNat 32 (regionMask r))
  s.updPower fun p => { p with hotRegions := if p.hotRegions.contains r then p.hotRegions else p.hotRegions ++ [r] }

/-- A request of the Warden for a power state. -/
def State.wardenGo (s : State) (target : Nat) : State :=
  if s.flag PWR_STAT_BUSY then s
  else
    let b := s.bus
    { s.pwrCtlWrite 1 (BitVec.ofNat 32 (2 * target + 1)) with bus := b }

/-- What the Warden does on REG_EVT.CRIT (R496). -/
def State.critical (s : State) (r : Nat) : State :=
  let s := s.wardenEvent 14 [r]
  if s.skein.system.thermal = 1 then (s.heatMask r).wardenGo pTrim
  else if s.skein.system.thermal = 2 then (s.updPower fun p => { p with hubHot := some r, hubCool := none }).wardenGo pWatch
  else s

/-- A region's share of a reading: TMAX, the thresholds that it holds, and the events. -/
def State.regionHeat (s : State) (r : Nat) : State :=
  let t := s.tmax r
  let hi := sext 8 (s.rf (REG_THR_TH_HI r))
  let lo := sext 8 (s.rf (REG_THR_TH_LO r))
  let crit := sext 8 (s.rf (REG_THR_TH_CRIT r))
  let s := s.sf (REG_TEMP_TMAX r) (t % 256).toNat
  let x := s.region r
  let keep (b : Bool) (o : Option Nat) : Option Nat := if b then some (o.getD s.now) else none
  let s := s.setRegion r { x with hot := keep (decide (hi ≤ t)) x.hot, cool := keep (decide (t ≤ lo)) x.cool }
  let s := if hi ≤ t ∧ x.pend.getD (s.rf (REG_OP_OP r)) = s.rf (REG_OP_MIN_OP r) then
      (s.raise (REG_EVT_AT_MIN r)).updPower fun p => { p with marks := mput 0 s.now (mdrop 0 p.marks) }
    else s
  if crit ≤ t ∧ s.flag (REG_EVT_CRIT r) = false then (s.raise (REG_EVT_CRIT r)).critical r else s

/-- Since when every hub sensor has been below TH_LO of the region that put the machine into Watch (R496). -/
def State.hubHeat (s : State) : State :=
  match s.power.hubHot with
  | none => s
  | some r =>
    let lo := sext 8 (s.rf (REG_THR_TH_LO r))
    let cold := (List.range 4).all fun j => s.flag (HEALTH_TEMP_VALID (16 + j)) && decide (s.temp (16 + j) < lo)
    let t := s.now
    s.updPower fun p => { p with hubCool := if cold then some (p.hubCool.getD t) else none }

/-- The Warden leaves the Watch that thermal policy 2 asked for, to Run, or to Trim under the mask. -/
def State.hubCooled (s : State) : State :=
  (s.updPower fun p => { p with hubHot := none, hubCool := none }).wardenGo
    (if s.reg PWR_TRIM_MASK = 0#32 then pRun else pTrim)

/-- A reading of a temperature sensor, in °C; one without power reads as stale. -/
def execTempSensorUpdate (i : Fin 20) (t : BitVec 8) (s : State) : Out :=
  let n := i.val
  .next (if !s.hubUp then s
    else if !s.sensorOn n then s.sf (HEALTH_TEMP_VALID n) 0
    else
      let old := s.reg (HEALTH_TEMP n)
      let m := if old = 0#32 then t.toInt else max t.toInt (sext 8 (bitsOf old 15 8))
      let s := s.setRegN (HEALTH_TEMP n) (2 ^ 31 + (m % 256).toNat * 256 + t.toNat)
      if n < 16 then
        let since := if 115 ≤ t.toInt then
            mput n ((s.power.hotAt.find? fun e => e.1 == n).map (·.2) |>.getD s.now) (mdrop n s.power.hotAt)
          else mdrop n s.power.hotAt
        (s.updPower fun p => { p with hotAt := since }).regionHeat (n / 4)
      else (if 115 ≤ t.toInt then s.healthEvt HEALTH_EVT_HUB_TRIP else s).hubHeat)

/-- A cluster sensor at 115 °C or more for 1 ms: its region's clusters are gated at once (R495). -/
def execCdTrip (i : Fin 16) (s : State) : Out :=
  .next (match s.power.hotAt.find? fun e => e.1 == i.val with
    | some (_, t) =>
      if s.sensorOn i.val then
        let r := i.val / 4
        let s := (s.moveTo (t + ms1)).heatMask r
        let s := (List.range 4).foldl (fun (s : State) j => s.gateCluster (4 * r + j)) s
        (s.healthEvt HEALTH_EVT_CD_TRIP).raise PWR_EVT_THERM
      else s
    | none => s)

/-- TMAX at or below TH_LO for 60 s: the Warden ungates the region's clusters. Every hub sensor below TH_LO for 60 s: it leaves
the Watch of thermal policy 2. -/
def execThermalUngate (r : Fin 4) (s : State) : Out :=
  .next (match if s.power.hubHot = some r.val then s.power.hubCool else none with
  | some t => (s.moveTo (t + 60 * sec1)).hubCooled
  | none => match (s.region r.val).cool with
    | some t =>
      if s.power.hotRegions.contains r.val then
        let s := (s.moveTo (t + 60 * sec1)).updPower fun p => { p with hotRegions := p.hotRegions.filter fun x => x != r.val }
        let m := s.reg PWR_TRIM_MASK &&& ~~~BitVec.ofNat 32 (regionMask r.val)
        let s := s.setReg PWR_TRIM_MASK m
        if s.full then s.ungate m else s
      else s
    | none => s)

/-! ### The other monitors (R494, R499, R516, R523) -/

/-- The recommended range of a rail in mV. -/
def railRange (i : Nat) (mv : Nat) : Bool :=
  let within (lo hi : Nat) : Bool := Nat.ble lo (10 * mv) && Nat.ble (10 * mv) hi
  if i < 3 then within 7275 7725
  else if i = 3 then within 8245 8755
  else if i = 4 then within 10185 10815
  else if i = 5 then within 4750 5250
  else within 17100 18900

/-- A reading of a supply monitor; SUPPLY is set when its rail leaves the range. -/
def execSupplyMonitorUpdate (i : Fin 8) (mv : BitVec 16) (s : State) : Out :=
  let n := i.val
  let a := HEALTH_SUPPLY n
  .next (if !s.hubUp then s
    else if n < 2 ∧ s.dieOn n = false then s.setReg a (setBits (s.reg a) 31 31 0)
    else
      let old := s.reg a
      let was := bitAt old 31 && !railRange n (bitsOf old 15 0)
      let s := s.setRegN a (2 ^ 31 + mv.toNat)
      if railRange n mv.toNat || was then s else s.healthEvt HEALTH_EVT_SUPPLY)

/-- A count of a ring-oscillator monitor. -/
def execRoMonitorUpdate (j : Fin 24) (count : BitVec 20) (s : State) : Out :=
  let n := j.val
  let on := Nat.ble 16 n || (s.dieOn (n / 8) && s.bit PWR_STAT n)
  .next (if !s.hubUp then s
    else
      let s := s.ageStep n on
      if on then s.setRegN (HEALTH_RO n) (2 ^ 31 + count.toNat)
      else s.setReg (HEALTH_RO n) (setBits (s.reg (HEALTH_RO n)) 31 31 0))

/-- The canaries as they read: bit c is 1 where canary c is open. One that opens keeps its equivalent hours. -/
def execEmCanaryUpdate (open_ : Word) (s : State) : Out :=
  .next (if !s.hubUp then s
    else
      let old := s.reg HEALTH_EM
      let s := (List.range 32).foldl (fun (s : State) i => s.ageStep (canary i) true) s
      let s := ((List.range 32).filter fun i => bitAt open_ i && (s.age (canary i)).opened.isNone).foldl
        (fun (s : State) i => s.setAge (canary i) { s.age (canary i) with opened := some (s.age (canary i)).teq }) s
      let s := s.setReg HEALTH_EM open_
      if open_ &&& ~~~old = 0#32 then s else s.healthEvt HEALTH_EVT_EM_OPEN)

/-! ### End of life and score (R498 to R501) -/

/-- The least of a figure over the sources, all ones where there is none. -/
def eolMin (f : EolSource → Nat) (l : List EolSource) : Nat := l.foldl (fun m x => min m (f x)) 0xFFFFFFFF

/-- The registers and events of an update. -/
def State.eolPut (s : State) (l : List EolSource) : State :=
  let old := (s.reg HEALTH_EOL_LO).toNat
  let lo := eolMin (·.lo) l
  let src := match l.find? fun x => x.lo == lo with | some x => x.kind * 256 + x.index | none => 0
  let s := (s.setRegN HEALTH_EOL_NOW (eolMin (·.now) l)).setRegN HEALTH_EOL_105 (eolMin (·.at105) l)
  let s := (s.setRegN HEALTH_EOL_LO lo).setRegN HEALTH_EOL_HI (eolMin (·.hi) l)
  let s := (s.setRegN HEALTH_EOL_SRC src).setRegN HEALTH_TEQ s.teqMax
  let fell (h : Nat) : Bool := Nat.ble h old && Nat.blt lo h
  let s := if fell 43800 then (s.healthEvt HEALTH_EVT_EOL_5Y).wardenEvent 13 [5, lo] else s
  if fell 8760 then (s.healthEvt HEALTH_EVT_EOL_1Y).wardenEvent 13 [1, lo] else s

/-- The hourly update: the samples of the hour, and the predictions of every valid source. -/
def execEolUpdate (s : State) : Out :=
  .next (if s.hubUp && s.power.wardenUp then
      let s := s.lifeSample
      s.eolPut s.eolSources
    else s)

/-- Whether an instant of a kind lies within a time before now. -/
def State.markedWithin (s : State) (k t : Nat) : Bool :=
  match s.power.marks.find? fun e => e.1 == k with | some e => Nat.ble s.now (e.2 + t) | none => false

/-- The sum of the penalties of R501. -/
def State.penalties (s : State) : Nat :=
  let one (b : Bool) (n : Nat) : Nat := if b then n else 0
  let clusters := (List.range 16).foldl (fun m c =>
    m + one (s.clState c == clIsolated) 32 + one (s.clState c == clFaulted || s.markedWithin (10 + c) (60 * sec1)) 8) 0
  let maps := ((List.range 16).any fun w => s.reg (SUPV_LINE_MAP w) != 0#32) || (List.range 4).any fun w => s.reg (SUPV_MIC_MAP w) != 0#32
  let lo := (s.reg HEALTH_EOL_LO).toNat
  clusters + one (bitAt s.faultBits 0) 32 + one maps 16
    + (if lo < 8760 then 64 else if lo < 43800 then 16 else 0)
    + one (s.markedWithin 0 (60 * sec1)) 16 + one (s.markedWithin 1 (3600 * sec1)) 8
    + one (s.flag TRUST_BOOT_GOLDEN || s.flag TRUST_BOOT_TRIAL) 8

/-- The Warden's score of the node. -/
def execHealthScoreUpdate (s : State) : Out :=
  .next (if s.hubUp && s.power.wardenUp then s.sf PAIR_HEALTH_SCORE (255 - s.penalties) else s)

end Sys2Proof.Machine
end

