-- ==== Sys2Proof/Machine/Watch.lean ====
section
/-! DEFINITION. Machine/Watch.lean: since when functions have looked wedged (R247, R449, R505), noted at every boundary. -/
namespace Sys2Proof.Machine

open Reg

/-! ### Keys of what is watched -/

def wkTdm (n : Nat) : Nat := n
def wkAes (i : Nat) : Nat := 32 + i
def wkConv (ch : Nat) : Nat := 36 + ch
def wkRoute (host : Bool) : Nat := if host then 69 else 68
def wkBorder : Nat := 70
def wkPlayer (p : Nat) : Nat := 72 + p
def wkCapsule : Nat := 88

/-- What looks wedged now, each with what would have to change for it to be moving: a TDM port that has its clock and a wrong
format, an AES3 input with transitions and without lock, a converter channel without lock behind a locked input, a command
port with commands and its SEQ, a player with its position, a capsule in progress. -/
def State.looksWedged (s : State) : List (Nat × Nat) :=
  let tdm := (List.range 32).filterMap fun n =>
    if 2 ≤ s.rf (TDM_STAT_STATE n) ∧ (s.input n).clk = true ∧ (s.input n).good = none then some (wkTdm n, 0) else none
  let aes := (List.range 4).filterMap fun i =>
    if s.flag (AES_IN_CFG_EN i) && !s.flag (AES_IN_STAT_LOCK i) && Nat.blt s.now ((mget (fun _ => ⟨0, 0, 0⟩) s.ports.aesRx i).at_ + sec1)
        && (mget (fun _ => ⟨0, 0, 0⟩) s.ports.aesRx i).at_ != 0 then some (wkAes i, 0) else none
  let conv := (List.range 32).filterMap fun ch =>
    if s.flag (ASRC_CFG_EN ch) && !s.flag (ASRC_STAT_LOCK ch) && (s.input (slotPort (s.rf (ASRC_CFG_SLOT ch)))).good.isSome
    then some (wkConv ch, 0) else none
  let cmds := [(wkRoute false, s.rf (WEAVE_XP_STAT_SEQ 0), s.weave.queueC.isEmpty), (wkRoute true, s.rf (WEAVE_XP_STAT_SEQ 1), s.weave.queueH.isEmpty),
    (wkBorder, s.rf BORDER_CMD_STAT_SEQ, s.border.queue.isEmpty)]
  let ports := cmds.filterMap fun e => if e.2.2 then none else some (e.1, e.2.1)
  let plays := s.alarm.players.filterMap fun e =>
    match e.2.voices.find? (·.main) with | some v => some (wkPlayer e.1, v.k) | none => none
  tdm ++ aes ++ conv ++ ports ++ plays ++ if s.flag TRUST_CAP_STAT_BUSY then [(wkCapsule, 0)] else []

/-- A boundary's share of the watch: since when each has looked wedged without moving. -/
def State.watchStep (s : State) : State :=
  let t := s.now
  let old := s.power.watch
  let new := s.looksWedged.map fun e =>
    (e.1, match old.find? fun x => x.1 == e.1 with
      | some x => if x.2.2 = e.2 then x.2 else (t, e.2)
      | none => (t, e.2))
  { s with power := { s.power with watch := new } }

/-- Since when a function has looked wedged, as the last boundary found it and as it still looks. -/
def State.wedgedSince (s : State) (key : Nat) : Option Nat :=
  match s.power.watch.find? fun x => x.1 == key with
  | some x => if s.looksWedged.contains (key, x.2.2) then some x.2.1 else none
  | none => none

end Sys2Proof.Machine
end

