-- ==== Sys2Proof/Machine/Ladder.lean ====
section
/-! DEFINITION. Machine/Ladder.lean: the recovery ladder (R150, R151, R214, R247, R284, R375, R449, R475, R502 to R506). -/
namespace Sys2Proof.Machine

open Reg

/-! ### Step 2 (R502, R503, R506) -/

/-- Units of a function of R506, 0 for an unknown function. -/
def funcUnits (f : Nat) : Nat :=
  match f with
  | 0 => 1 | 1 => 16 | 2 => 32 | 3 => 4 | 4 => 32 | 5 => 6 | 6 => 4 | 7 => 512 | 8 => 1 | 9 => 1 | 10 => 16
  | _ => 0

/-- Whether a unit is one of a function; stream contexts start at 1. -/
def unitOk (f u : Nat) : Bool := Nat.blt u (funcUnits f) && (f != 7 || u != 0)

/-- A receive ring empty again. -/
def State.ringReinit (s : State) (r : Nat) : State := (s.setReg (NET_RXR_HEAD r) 0#32).setReg (NET_RXR_TAIL r) 0#32

/-- A stream context started afresh with its configuration. -/
def State.ctxReinit (s : State) (i : Nat) : State :=
  if s.flag (CTX_CFG_EN i) then s.setCtx i Ctx.init else s

/-- A player restarted from sample 0 of its message (R206). -/
def State.playerReinit (s : State) (p : Nat) : State :=
  let x := s.player p
  match x.voices with
  | [] => s
  | v :: l =>
    let (s, v) := s.tailRestart v
    s.setPlayer p { x with voices := v :: l }

/-- The Net controller restarted: its master port reset, its rings rebuilt, Lysle link afresh; links stay up (R505). -/
def State.netCtlReinit (s : State) : State :=
  ((List.range 4).foldl (fun (s : State) r => s.ringReinit r) (s.portReset 2)).linkStart

/-- One function re-initialised. -/
def State.reinitFunc (s : State) (f u : Nat) : State :=
  match f with
  | 1 => ((s.sf (CL_CTL_ISOLATE u) 0).reinit u).autoStart u
  | 2 => s.haltAt u
  | 3 => s.haltAt (32 + u)
  | 4 => s.haltAt (44 + u)
  | 5 => s.netRestart u
  | 6 => s.ringReinit u
  | 7 => s.ctxReinit (u - 1)
  | 8 => s.refReinit
  | 9 => s.netCtlReinit
  | 10 => s.playerReinit u
  | _ => s

/-- Steps 2 taken for a function within the last 60 s. -/
def State.recent2 (s : State) (f u : Nat) : Nat :=
  (s.power.steps2.filter fun x => x.func == f && x.unit == u && Nat.blt s.now (x.at_ + 60 * sec1)).length

/-- A step 2 recorded. -/
def State.mark2 (s : State) (f u : Nat) : State :=
  let l := s.power.steps2.filter fun x => Nat.blt s.now (x.at_ + 60 * sec1)
  let t := s.now
  ((s.updPower fun p => { p with steps2 := l ++ [⟨f, u, t⟩] }).countUp PWR_LADDER_STEP2_CNT).ladderMark 2

/-- A function left stopped, or isolated: a health event. -/
def State.healthLost (s : State) (f u : Nat) : State := s.wardenEvent 12 [f, u]

/-- Step 2 of the Warden for a function: at most 3 within 60 s. -/
def State.step2 (s : State) (f u : Nat) (act : State → State) : State :=
  if 3 ≤ s.recent2 f u then s.healthLost f u else (act s).mark2 f u

/-! ### Route entries and Border records (R70, R539) -/

/-- A word of the ROUTE and BORDER sections of the Skein in force, by its offset from route entry 0; 0 where it names
none. -/
def State.skTable (s : State) (off : Nat) : Word :=
  match s.trust.run with
  | some i => match s.skeinOf i with
    | some k => ((k.table.find? fun e => e.1 == off).map (·.2)).getD 0#32
    | none => 0#32
  | none => 0#32

/-- The Warden rewrites a route entry from the Skein: a CUT through port C. -/
def State.entryRewrite (s : State) (i : Nat) : State :=
  let q := s.routeQueue false
  let c : RouteCmd :=
    { op := .cut, idx := i, img := ⟨s.skTable (16 * i), s.skTable (16 * i + 4), s.skTable (16 * i + 8)⟩, succEn := false }
  if Nat.ble 64 q.length then s.raise WEAVE_EVT_OVF_C else s.setRouteQueue false (q ++ [c])

/-- The command that rewrites an item of a Border record from the Skein. -/
def State.itemRewrite (s : State) (b item : Nat) : BorderCmd :=
  let w (off : Nat) : Word := s.skTable (0x80000 + 512 * b + off)
  let d : Coef :=
    if item < 8 then
      let o := 0x40 + 20 * item
      ⟨w o, w (o + 4), w (o + 8), w (o + 12), w (o + 16)⟩
    else ⟨w (4 * (item - 8)), 0#32, 0#32, 0#32, 0#32⟩
  { ch := b, item := item, d := d, clr := false }

/-- The Warden rewrites every item of a Border record from the Skein through BORDER_CMD_*. -/
def State.recordRewrite (s : State) (b : Nat) : State :=
  (List.range 10).foldl (fun (s : State) item =>
    if Nat.ble 64 s.border.queue.length then s.raise BORDER_EVT_CMD_OVF
    else s.setBorderQueue (s.border.queue ++ [s.itemRewrite b item])) s

/-- The Warden's part in an error, while it runs. -/
def State.wardenStep2 (s : State) (f u : Nat) (act : State → State) : State :=
  if s.hubUp && s.power.wardenUp then s.step2 f u act else s

/-- An uncorrectable error in a route entry (R70): its contribution is 0 until the Warden has rewritten it. -/
def execRouteEntryEccUe (i : Fin 32768) (s : State) : Out :=
  let s := ((s.setEntry i.val { s.entry i.val with ecc := true }).raise WEAVE_EVT_ECC_UE).sf WEAVE_ECC_IDX_IDX i.val
  .next (s.wardenStep2 14 i.val fun s => s.entryRewrite i.val)

/-- An uncorrectable error in a Border record (R70, R539): the channel is muted and frozen until every
item has been rewritten. -/
def execBorderRecordEccUe (ch : Fin 512) (s : State) : Out :=
  let s := s.setChan ch.val { s.chan ch.val with muted := true, left := List.range 10 }
  let s := (s.raise BORDER_EVT_ECC_UE).sf BORDER_ECC_CH_CH ch.val
  .next (s.wardenStep2 15 ch.val fun s => s.recordRewrite ch.val)

/-! ### Requests (R506) -/

/-- Steps 3 and 4 that hosts were granted within the last 10 minutes. -/
def State.recentHost (s : State) : List Nat := s.power.hostSteps.filter fun t => Nat.blt s.now (t + 600 * sec1)

/-- A request carried out, with its RESULT. -/
def State.recov (s : State) (a step f u : Nat) : State × Nat :=
  let host := a == 3 || a == 4
  if !unitOk f u || (f = 0 && step < 3) || (f != 0 && Nat.ble 3 step) then (s, 1)
  else if step = 1 then (s, 0)
  else if step = 2 then
    if 3 ≤ s.recent2 f u then (s, 3) else ((s.reinitFunc f u).mark2 f u, 0)
  else if host && !s.recentHost.isEmpty then (s, 3)
  else if s.power.capped then (s, 3)
  else
    let t := s.now
    let s := if host then s.updPower fun p => { p with hostSteps := s.recentHost ++ [t] } else s
    if s.power.hand.isSome then ((s.reqStep step).sf PWR_RECOV_BUSY 1, 0) else (s.reqStep step, 0)

/-- A write of PWR_RECOV. A request while another is in progress is answered BUSY. -/
def State.recovWrite (s : State) (a : Nat) (v : Word) : State :=
  if !(Nat.ble a 1 || a == 3 || a == 4) then s.err
  else if bitAt v 31 && s.flag PWR_RECOV_BUSY then (s.sf PWR_RECOV_RESULT 2).ok 0#32
  else
    let s := s.setReg PWR_RECOV ((s.reg PWR_RECOV &&& 0x7C000000#32) ||| (v &&& 0x03FF01FF#32))
    if !bitAt v 31 then s.ok 0#32
    else if s.power.wardenUp = false then ((s.sf PWR_RECOV_BUSY 1).updPower fun p => { p with recovBy := some a }).ok 0#32
    else
      let (s, r) := s.recov a (bitsOf v 25 24 + 1) (bitsOf v 23 16) (bitsOf v 8 0)
      (s.sf PWR_RECOV_RESULT r).ok 0#32

/-- A request that waited for the Warden, carried out once it runs. -/
def State.recovPend (s : State) : State :=
  match s.power.recovBy with
  | none => s
  | some a =>
    if s.hubUp && s.power.wardenUp then
      let v := s.reg PWR_RECOV
      let s := (s.updPower fun p => { p with recovBy := none }).sf PWR_RECOV_BUSY 0
      let (s, r) := s.recov a (bitsOf v 25 24 + 1) (bitsOf v 23 16) (bitsOf v 8 0)
      s.sf PWR_RECOV_RESULT r
    else s

/-- The word that asks for a step of a function and unit. -/
def recovWord (step : Nat) (f : BitVec 8) (u : BitVec 9) : Word :=
  BitVec.ofNat 32 (2 ^ 31 + (step - 1) * 2 ^ 24 + f.toNat * 65536 + u.toNat)

def execRecovRetry (a : Agent) (f : BitVec 8) (u : BitVec 9) (s : State) : Out :=
  .next (s.regWrite a PWR_RECOV (recovWord 1 f u) fun s => s.recovWrite a.val (recovWord 1 f u))
def execRecovReinit (a : Agent) (f : BitVec 8) (u : BitVec 9) (s : State) : Out :=
  .next (s.regWrite a PWR_RECOV (recovWord 2 f u) fun s => s.recovWrite a.val (recovWord 2 f u))
def execRecovDeviceReset (a : Agent) (f : BitVec 8) (u : BitVec 9) (s : State) : Out :=
  .next (s.regWrite a PWR_RECOV (recovWord 3 f u) fun s => s.recovWrite a.val (recovWord 3 f u))
def execRecovPowerCycle (a : Agent) (f : BitVec 8) (u : BitVec 9) (s : State) : Out :=
  .next (s.regWrite a PWR_RECOV (recovWord 4 f u) fun s => s.recovWrite a.val (recovWord 4 f u))

/-! ### The Warden's watchdog (R214, R504) -/

/-- A lockstep miscompare, or the watchdog not served for 100 ms: the power controller resets and restarts the Warden, or
on the fourth occasion within 60 s takes step 3. -/
def execWardenWatchdogExpire (s : State) : Out :=
  .next (if s.hubUp && s.power.wardenUp then
      let s := s.raise ALARM_FAULT_WDG
      let l := s.power.wdgResets.filter fun t => Nat.blt s.now (t + 60 * sec1)
      if 3 ≤ l.length then (s.updPower fun p => { p with wdgResets := [] }).reqStep 3
      else
        let t := s.now
        let s := (s.portReset 1).updPower fun p => { p with wdgResets := l ++ [t], served := some t }
        (s.countUp PWR_LADDER_STEP2_CNT).ladderMark 2
    else s)

/-- A restarted Warden has served its watchdog for 10 s. -/
def execWdgClear (s : State) : Out :=
  .next (match s.power.served with
    | some t => ((s.moveTo (t + 10 * sec1)).sf ALARM_FAULT_WDG 0).updPower fun p => { p with served := none }
    | none => s)

/-! ### Wedged functions (R150, R151, R247, R284, R375, R449, R475, R505) -/

/-- A limit after an instant, where there is one. -/
def after (t : Option Nat) (d : Nat) : Option Nat := t.map fun x => x + d

/-- Since when a frame has waited for a receive ring whose next descriptor the hardware owns. -/
def State.ringWaits (s : State) (r : Nat) : Option Nat :=
  if bitAt (s.ringRead (s.rxDesc r (bitsOf (s.reg (NET_RXR_HEAD r)) 9 0) + 4)).2 31 = false then none
  else ((List.range 6).flatMap fun p => ((s.np p).fifo.filter fun f => f.ring == r).map fun f => f.at_).head?

/-- The instant from which a function counts as wedged, as the state shows it, none where it is not wedged. What happens
outside the state, on the PCIe link, at the QSPI pins, in the path to a target, in the memories behind MACsec, LPDDR5X and the
flash, or in the Net controller, the command says. -/
def State.wedgeDue (s : State) : Wedge → Option Nat
  | .cluster c => if s.clState c.val = clFaulted then some 0 else none
  | .tdm n =>
    if Nat.blt 10 (s.ports.slips.filter fun e => e.1 == n.val && Nat.blt s.now (e.2 + 10 * sec1)).length then some 0
    else after (s.wedgedSince (wkTdm n.val)) sec1
  | .aesIn i => after (s.wedgedSince (wkAes i.val)) (10 * sec1)
  | .converter ch => after (s.wedgedSince (wkConv ch.val)) sec1
  | .netTx p =>
    if s.flag (NET_STAT_LINK p.val) && !s.flag (NET_STAT_PAUSED p.val) && (s.pickQueue p.val 8).2.isSome
    then some ((s.np p.val).free + 10 * ms1) else none
  | .netRx p =>
    if Nat.blt 65472 (s.np p.val).buffered then after ((s.np p.val).fifo.getLast?.map fun f => f.at_) ms1 else none
  | .rxRing r => after (s.ringWaits r.val) (10 * ms1)
  | .stream i =>
    let x := s.ctx i.val
    match x.badAt with
    | some t => if s.ctxTx i.val then some (t + sec1) else if t ≤ x.seen then some (t + 10 * sec1) else none
    | none => none
  | .routePort h => after (s.wedgedSince (wkRoute h)) (10 * ms1)
  | .borderPort => after (s.wedgedSince wkBorder) (10 * ms1)
  | .saQueue => if s.hoop.queue.any fun x => Nat.ble (x.due + 10) s.sys.roundNo then some 0 else none
  | .player p => after (s.wedgedSince (wkPlayer p.val)) (10 * ms1)
  | .lpddr =>
    match s.power.waking.find? fun e => e.1 == 18 with
    | some e => some (e.2 + 100 * us1)
    | none => some 0
  | .refSwitch => if s.selState = rsSwitching then some (s.refsel.switchBy + 10 * sec1) else none
  | .refPhase => after s.refsel.farAt (60 * sec1)
  | .capsule => after (s.wedgedSince wkCapsule) (10 * sec1)
  | .bootCtl => if s.power.boot.isNone then some 0 else none
  | .masterPort p => (s.power.stalls.find? fun x => x.agent == p.val).map fun x => x.since + s.stallLimit x + ms1
  | _ => some 0

/-- A cluster found FAULTED: re-initialised, or isolated once it has faulted again within 1 s of RUNNING three times within
60 s (R150, R151). -/
def State.clusterWedged (s : State) (c : Nat) : State :=
  let x := s.cluster c
  let l := x.faults.filter fun t => Nat.blt s.now (t + 60 * sec1)
  if 3 ≤ l.length then
    ((s.sf (CL_CTL_ISOLATE c) 1).clusterOff c clIsolated |>.portReset (6 + c)).healthLost 1 c
  else (s.setCluster c { x with faults := l }).step2 1 c fun s => (s.reinit c).autoStart c

/-- A capsule abandoned with FLASH, and a slot that it was writing EMPTY (R449). -/
def State.capAbandon (s : State) : State :=
  let s := (List.range 2).foldl (fun (s : State) i => if s.slotState i = skWriting then s.setSlot i skEmpty else s) s
  let s := { s with trust := { s.trust with inPlace := none } }
  ((s.sf TRUST_CAP_STAT_BUSY 0).sf TRUST_CAP_STAT_RESULT crFlash).raise TRUST_EVT_CAP_DONE

/-- A function found wedged past its limit: the Warden takes its step. -/
def execWedgeDetect (w : Wedge) (s : State) : Out :=
  .next (match if s.hubUp && s.power.wardenUp then s.wedgeDue w else none with
    | none => s
    | some t =>
      let s := s.moveTo t
      match w with
      | .cluster c => s.clusterWedged c.val
      | .tdm n => s.step2 2 n.val fun s => s.haltAt n.val
      | .aesIn i => s.step2 3 i.val fun s => s.haltAt (32 + i.val)
      | .converter ch => s.step2 4 ch.val fun s => s.haltAt (44 + ch.val)
      | .netTx p => (s.raise (NET_EVT_TX_WEDGE p.val)).step2 5 p.val fun s => s.netRestart p.val
      | .netRx p => s.step2 5 p.val fun s => s.netRestart p.val
      | .rxRing r => s.step2 6 r.val fun s => s.ringReinit r.val
      | .macsec p => s.step2 5 p.val fun s => ((s.dropKeys p.val).keyPort p.val).netRestart p.val
      | .netCtl => s.step2 9 0 fun s => s.netCtlReinit
      | .stream i => s.step2 7 (i.val + 1) fun s => s.ctxReinit i.val
      | .routePort _ => s.reqStep 3
      | .borderPort => s.reqStep 3
      | .saQueue => s.reqStep 3
      | .player p => s.step2 10 p.val fun s => s.playerReinit p.val
      | .lpddr => s.reqStep 3
      | .refSwitch => s.step2 8 0 fun s => s.refReinit
      | .refPhase => s.step2 8 0 fun s => s.refReinit
      | .capsule => s.step2 11 0 fun s => s.capAbandon
      | .bootCtl => s.reqStep 3
      | .flash => s.step2 12 0 fun s =>
        ({ s with trust := { s.trust with flOp := none } }.sf TRUST_FL_STAT_BUSY 0).sf TRUST_FL_STAT_ERR 1
      | .masterPort p => s.step2 13 p.val fun s => s.portReset p.val
      | .pcie => s.step2 13 3 fun s => s.portReset 3
      | .qspi => s.step2 13 4 fun s => s.portReset 4
      | .targetPath => s.reqStep 3)

end Sys2Proof.Machine
end

