-- ==== Sys2Proof/Machine/RegRead.lean ====
section
/-! DEFINITION. Machine/RegRead.lean: what every register reads as, and who may read it (R4, R105 of
spec/03_stake_programming_model.md; R285, R321, R351, R377, R450, R476 to R478, R508 to R512). -/
namespace Sys2Proof.Machine

open Reg

/-- A word of a stake's status window (R105). -/
def State.stkPeek (s : State) (k o : Nat) : Word :=
  let t := s.stake k
  let b (x : Bool) (n : Nat) : Nat := if x then 2 ^ n else 0
  match o with
  | 0 =>
    let r := match t.run with | .held => 0 | .running => 1 | .done => 2 | .stopped => 3
    BitVec.ofNat 32 (t.fault * 2 ^ 28 + r * 2 ^ 22 + b t.arch.rovg 21 + b t.arch.rsat 20 + b t.arch.raccv 19 + t.entry)
  | 4 => BitVec.ofNat 32 t.lastPc
  | 8 => BitVec.ofNat 32 t.cycLast
  | 12 => BitVec.ofNat 32 t.cycMax
  | _ => t.stCopy

/-- Whether a register is a word of a stake's status window. -/
def isStk (reg : Nat) : Bool := Nat.ble 0x1000000 reg && within 0x8000 0x81FF (reg % 0x100000)

/-- The stake of a status window register. -/
def stkOf (reg : Nat) : Nat := (reg - 0x1000000) / 0x100000 * 8 + (reg % 0x100000 - 0x8000) / 64

/-- The template that TPL_SEL shows: its key, none for context 0 (R322). -/
def State.tplKey (s : State) : Option Nat :=
  let c := s.rf STREAM_TPL_SEL_CTX
  if c = 0 then none else some (2 * (c - 1) + s.rf STREAM_TPL_SEL_LEG)

/-- The program ABI levels that the running microcode accepts, as CL_ABI shows them (R146, R158). -/
def State.abiRange (s : State) : Word :=
  match s.trust.comps.getLast? with
  | some c => BitVec.ofNat 32 (c.abiHi % 256 * 256 + c.abiLo % 256)
  | none => 0#32

/-- Whether a monitor's domain is off: the monitor then reads as stale (R494). -/
def State.monitorOff (s : State) (reg : Nat) : Bool :=
  if within 0x800100 0x80014F reg then !s.sensorOn ((reg - 0x800100) / 4)
  else if within 0x800180 0x800187 reg then !s.dieOn ((reg - 0x800180) / 4)
  else if within 0x800200 0x80027F reg && reg % 8 == 0 then
    let c := (reg - 0x800200) / 8
    !(s.dieOn (c / 8) && s.bit PWR_STAT c)
  else false

/-- A register that is computed from other state, none where it is a plain register. -/
def State.computed (s : State) (reg : Nat) : Option Word :=
  if within 0x20000 0x2FFFF reg then
    if reg = PWR_RECOV then some (s.reg reg &&& 0x7FFFFFFF#32) else none
  else if within 0x10000 0x1FFFF reg then
    if reg = RIM_RTC_LO then some (BitVec.ofNat 32 s.rtc) else none
  else if within 0x800100 0x8002FF reg then
    if s.monitorOff reg then some (setBits (s.reg reg) 31 31 0) else none
  else if within 0x30000 0x3FFFF reg then
    if within 0x30100 0x301FF reg then
      let p := (reg - 0x30100) / 4
      if (regRow reg).isSome && (Nat.blt p 26 || Nat.ble 32 p) then some (setBits (s.reg reg) 4 0 (min 31 (s.outstanding p))) else none
    else none
  else if within 0x40800 0x4087F reg then some (s.mboxStat ((reg - 0x40800) / 4))
  else if within 0x50000 0x500FF reg then some (s.reg (LOCK_PEEK ((reg - 0x50000) / 4)))
  else if within 0x308408 0x3087F8 reg && reg % 16 == 8 then some (s.qtabRem ((reg - 0x308408) / 16))
  else if within 0x400100 0x40017C reg then
    some (match s.tplKey with
      | some k => mget (fun _ => 0#32) s.streams.tpl (k * 32 + (reg - 0x400100) / 4)
      | none => 0#32)
  else if reg = TIME_ERR then some s.timeErr
  else if reg = TIME_SA_LVL then some s.saLevel
  else if within 0x500104 0x500154 reg && reg % 16 == 4 then
    some (match s.hoop.tsq.find? fun (r : TsqRec) => r.port == (reg - 0x500104) / 16 with
      | some r => BitVec.ofNat 32 (2 ^ 31 + r.seq)
      | none => 0#32)
  else if within 0x510108 0x5101E8 reg && reg % 32 == 8 then some (s.refStat ((reg - 0x510108) / 32))
  else if reg = REFSEL_LAST then some s.refLast
  else if within 0x510200 0x51023F reg then
    let x := s.outNow ((reg - 0x510200) / 16)
    if reg % 16 = 0 then some x.cfg else if reg % 16 = 4 then some x.ofs else none
  else if reg = ALARM_FAULT then some s.faultBits
  else if within 0x600400 0x60047C reg then
    let p := (reg - 0x600400) / 8
    some (if reg % 8 = 0 then s.plyStat p else s.plyPos p)
  else if within 0x61100C 0x612FFC reg && reg % 16 == 12 then some (s.lineStat ((reg - 0x61100C) / 16))
  else if reg = TRUST_FL_STAT then some (setBits (s.reg reg) 29 29 (if s.flashHeld then 1 else 0))
  else if Nat.ble 0x1000000 reg && reg % 0x100000 == 0x18 && Nat.blt reg 0x2000000 then some s.abiRange
  else if reg = TRUST_LOG_STAT then some (BitVec.ofNat 32 (s.logHead * 2 ^ 24 + min s.logErases 0xFFFFFF))
  else none

/-- The present value of a register, without any side effect: bits that are write-only read 0 (R4, R543). -/
def State.peek (s : State) (reg : Nat) : Word :=
  if isStk reg then s.stkPeek (stkOf reg) (reg % 64)
  else match s.computed reg with
    | some v => v
    | none =>
      match regRow reg with
      | some r => s.reg reg &&& ~~~(BitVec.ofNat 32 r.wo)
      | none => 0#32

/-- Whether an agent may read a register of its path, by the block's own rules. -/
def State.mayRead (a reg : Nat) : Bool :=
  if within 0x100100 0x100117 reg then Nat.ble a 2
  else if within 0x100180 0x100197 reg then a == 3 || a == 4
  else if within 0x40000 0x407FF reg then mboxOwner ((reg - 0x40000) / 64) == a
  else if within 0x40800 0x4087F reg then mboxOwner ((reg - 0x40800) / 4) == a
  else if within 0x41100 0x4111F reg then a == (reg - 0x41100) / 4
  else if within 0x41120 0x4113F reg then a == (reg - 0x41120) / 4
  else if within 0x41200 0x4127F reg then a == (reg - 0x41200) / 4
  else if within 0x41280 0x4129F reg then a == (reg - 0x41280) / 4
  else if within 0x41300 0x413FF reg then Nat.ble a 2
  else if within 0x50200 0x502FF reg then Nat.ble a 2
  else true

/-- A read of a register by an agent that has a path to it: the word, and its side effect. -/
def State.blockRead (s : State) (a reg : Nat) : State :=
  if !State.mayRead a reg then s.err
  else if within 0x50000 0x500FF reg then s.lockRead a ((reg - 0x50000) / 4)
  else if within 0x41004 0x4103F reg then s.ok (mget (fun _ => 0#32) s.matrix.stg (16 * a + (reg - 0x41000) / 4))
  else if reg = MBOX_SEND_STAT then s.ok (BitVec.ofNat 32 (mget (fun _ => 0) s.matrix.sendStat a))
  else if within 0x500104 0x500154 reg && reg % 16 == 4 then s.tsqPop a ((reg - 0x500104) / 16)
  else if reg = RIM_RTC_LO then s.rtcRead
  else s.ok (s.peek reg)

end Sys2Proof.Machine
end

