-- ==== Sys2Proof/Machine/RegWrite.lean ====
section
/-! DEFINITION. Machine/RegWrite.lean: what a write of every register does (R4 to R6 of spec/00_scope.md and the register
rules of each chapter). -/
namespace Sys2Proof.Machine

open Reg

/-- A write under the access types alone: RW bits take the word, W1C bits written as 1 clear unless an event sets them in
the same fabric cycle, the others stay (R4, R5). -/
def State.plainWrite (s : State) (reg : Nat) (v : Word) : State :=
  match regRow reg with
  | some r =>
    let rw := BitVec.ofNat 32 r.rw
    let clr := v &&& BitVec.ofNat 32 r.w1c &&& ~~~(s.freshBits reg)
    (s.setReg reg (((s.reg reg &&& ~~~rw) ||| (v &&& rw)) &&& ~~~clr)).ok 0#32
  | none => s.err

/-- A plain write under a condition, an error response without it. -/
def State.plainIf (s : State) (c : Bool) (reg : Nat) (v : Word) : State := if c then s.plainWrite reg v else s.err

/-- The WEAVE block (R43, R53, R57, R60, R61, R68, R71). -/
def State.weaveBlock (s : State) (a reg : Nat) (v : Word) : State :=
  if within 0x100100 0x100117 reg || within 0x100180 0x100197 reg then
    let host := Nat.ble 0x100180 reg
    if !(if host then a == 3 || a == 4 else Nat.ble a 2) then s.err
    else
      let s := s.plainWrite reg v
      if reg % 128 = 16 ∧ bitAt v 0 = true then (s.routeGo host).ok 0#32 else s
  else if 2 < a then s.err
  else if reg = WEAVE_CTL then s.weaveRunWrite v
  else if reg = WEAVE_SPARE || within 0x105000 0x1051FF reg then s.plainIf (!s.flag WEAVE_CTL_RUN) reg v
  else if reg = WEAVE_AGRP_SET then s.agrpWrite true a (bitsOf v 11 0)
  else if reg = WEAVE_AGRP_CLR then s.agrpWrite false a (bitsOf v 11 0)
  else if within 0x101000 0x1017FF reg then s.hpfWrite a ((reg - 0x101000) / 4) v
  else if within 0x102000 0x1023FF reg && reg % 16 == 0 then s.genCfgWrite ((reg - 0x102000) / 16) v
  else if within 0x103000 0x1033FF reg && reg % 16 == 0 then s.mtrCfgWrite ((reg - 0x103000) / 16) v
  else s.plainWrite reg v

/-- The BORDER block (R67, R68, R72); a host has no path to it. -/
def State.borderBlock (s : State) (reg : Nat) (v : Word) : State :=
  if reg = BORDER_CTL then s.borderRunWrite v
  else
    let s := s.plainWrite reg v
    if reg = BORDER_CMD_CTL ∧ bitAt v 0 = true then s.borderGo.ok 0#32 else s

/-- The TDM block (R228, R229, R243, R244). -/
def State.tdmBlock (s : State) (a reg : Nat) (v : Word) : State :=
  let n := (reg - 0x200000) / 0x1000
  if 1 < a then s.err
  else match reg % 0x1000 with
    | 0 => s.tdmCtlWrite a n v
    | 4 => s.plainIf (!s.flag (TDM_CTL_RUN n)) reg v
    | 8 => s.tdmMaskWrite a n false v
    | 12 => s.tdmMaskWrite a n true v
    | _ => s.plainWrite reg v

/-- The PDM block (R231 to R233, R243, R244). -/
def State.pdmBlock (s : State) (a reg : Nat) (v : Word) : State :=
  if 1 < a then s.err
  else if reg = PDM_MIC_EN then s.micEnWrite a v
  else if within 0x240000 0x24001F reg then s.plainIf (!s.flag PDM_CTL_RUN) reg v
  else s.plainWrite reg v

/-- A write of a configuration register whose bit 31 is EN: while EN is 1, EN alone may change (R243). `stop` is what
the fall of EN does. -/
def State.enWrite (s : State) (reg : Nat) (v : Word) (stop : State → State) : State :=
  let old := s.reg reg
  if !bitAt old 31 then s.plainWrite reg v
  else
    let rw := match regRow reg with | some r => BitVec.ofNat 32 (r.rw % 2 ^ 31) | none => 0#32
    if (v &&& rw) ≠ (old &&& rw) then s.err
    else
      let s := s.plainWrite reg v
      if bitAt v 31 then s else (stop s).ok 0#32

/-- The AES3 block: inputs, outputs, converter channels and the start trigger (R234 to R244, R250). -/
def State.aesBlock (s : State) (a reg : Nat) (v : Word) : State :=
  if 1 < a then s.err
  else if within 0x260000 0x2600FF reg && reg % 64 == 0 then s.enWrite reg v fun s => s.aesUnlock ((reg - 0x260000) / 64)
  else if within 0x260200 0x2602FF reg && reg % 64 == 0 then s.enWrite reg v id
  else if within 0x268000 0x2681FF reg && reg % 16 == 0 then
    let ch := (reg - 0x268000) / 16
    if !s.flag (ASRC_CFG_EN ch) && !s.asrcSlotOk ch (bitsOf v 12 0) then s.err
    else s.enWrite reg v fun s => s.asrcLose ch
  else if reg = TRIG_CTL then
    if bitsOf v 1 0 = 3 then s.err
    else
      let was := s.rf TRIG_CTL_OUT_MODE
      let s := s.plainWrite reg v
      if was = 1 then s else s.trigRound
  else if reg = TRIG_ROUND then (s.plainWrite reg v).trigRound
  else s.plainWrite reg v

/-- The NET block (R262, R271, R272, R277, R279, R282, R285 to R287). -/
def State.netBlock (s : State) (a reg : Nat) (v : Word) : State :=
  let p := (reg - 0x300000) / 0x10000
  let o := reg % 0x10000
  if within 0x308000 0x30FFFF reg then
    if within 0x308104 0x30810C reg then s.plainIf (a == 1 || a == 2) reg v
    else if reg = NET_VLOG_GO then s.vlogGo a (bitAt v 0)
    else if !netAgent a then s.err
    else if reg = NET_QCLR then s.qclrWrite a v
    else if within 0x308000 0x30807F reg && reg % 32 == 12 then s.rxTailWrite a ((reg - 0x308000) / 32) v
    else s.plainWrite reg v
  else if o = 0 then s.netCtlWrite a p v
  else if within 0x4000 0x60FF o && Nat.blt (o % 64) 0x30 then
    if a = 0 then (s.setReg reg v).ok 0#32 else (s.privViol a (regBase + reg)).err
  else if !netAgent a then s.err
  else if o = 4 then
    if p = 6 then s.ok 0#32 else s.plainIf (!s.flag (NET_CTL_EN p) && within 10 10000 (bitsOf v 15 0)) reg v
  else if o = 0x20 then s.gclCtlWrite a p v
  else if o = 0x4C then s.txTailWrite a p v
  else if p = 6 ∧ within 0x40 0x4F o = true then s.ok 0#32
  else if within 0x1000 0x13FF o then
    if p = 6 then s.ok 0#32 else s.plainIf (!s.flag (NET_GCL_CTL_PEND p)) reg v
  else s.plainWrite reg v

/-- The STREAM block (R301, R306, R321, R322). -/
def State.streamBlock (s : State) (a reg : Nat) (v : Word) : State :=
  if within 0x404040 0x40BFFF reg then
    let i := (reg - 0x404040) / 64
    if reg % 64 = 0 then s.ctxCfgWrite a i v
    else s.plainIf (streamAgent a && !s.flag (CTX_CFG_EN i)) reg v
  else if reg = PAIR_CFG then s.pairCfgWrite a v
  else if reg = PAIR_CTL then s.pairCtlWrite a v
  else if reg = PAIR_HEALTH then s.plainIf (Nat.ble a 1) reg v
  else if reg = PAIR_EVT || reg = PAIR_IRQ_EN then s.plainWrite reg v
  else if !streamAgent a then s.err
  else if reg = STREAM_TPL_SEL then
    let s := s.plainWrite reg v
    match s.tplKey with
    | some k =>
      if s.flag (CTX_CFG_EN (k / 2)) then s
      else { s with streams := { s.streams with tplLen := mset (fun _ => 0) s.streams.tplLen k (s.rf STREAM_TPL_SEL_LEN) } }
    | none => s
  else if within 0x400100 0x40017F reg then
    match s.tplKey with
    | some k =>
      if s.flag (CTX_CFG_EN (k / 2)) then s.err
      else { s with streams := { s.streams with
        tpl := mset (fun _ => 0#32) s.streams.tpl (k * 32 + (reg - 0x400100) / 4) v } }.ok 0#32
    | none => s.err
  else s.plainWrite reg v

/-- The TIME block (R342, R343, R351, R352). -/
def State.timeBlock (s : State) (a reg : Nat) (v : Word) : State :=
  if within 0x500200 0x50022B reg || within 0x500280 0x5002AB reg then
    let setH := Nat.ble 0x500280 reg
    if !saAgent setH a then s.err
    else match reg % 128 with
      | 0x20 => if bitAt v 0 then (s.saGo a setH).ok 0#32 else s.ok 0#32
      | 0x28 => s.saCancelWrite a setH v
      | _ => s.plainWrite reg v
  else if reg = TIME_CTL then s.plainIf (Nat.ble a 2) reg v
  else if within 0x500050 0x50005B reg then s.plainIf (Nat.ble a 1) reg v
  else if a ≠ 0 ∧ a ≠ 2 then s.err
  else if reg = TIME_SNAP then s.snapWrite a v
  else s.plainWrite reg v

/-- The REFSEL block (R367, R371, R377, R378). -/
def State.refselBlock (s : State) (a reg : Nat) (v : Word) : State :=
  if 1 < a then s.err
  else if within 0x510200 0x51023F reg then s.outCfgWrite a ((reg - 0x510200) / 16) (reg % 16 == 4) v
  else match refselValue reg v with
    | some v => s.plainWrite reg v
    | none => s.err

/-- The ALARM block (R193, R213, R216, R217). -/
def State.alarmBlock (s : State) (a reg : Nat) (v : Word) : State :=
  if 1 < a then s.err
  else if reg = ALARM_CTL then s.alarmCtlWrite a v
  else if reg = ALARM_CMD then s.alarmCmdWrite a v
  else if reg = ALARM_BARE_PORTS then s.plainIf (a == 0) reg v
  else if within 0x600100 0x60013F reg then s.inCfgWrite ((reg - 0x600100) / 4) v
  else if within 0x600200 0x6003FF reg then s.plainIf (!s.flag ALARM_CTL_RUN) reg v
  else s.plainWrite reg v

/-- The SUPV block (R190, R191). -/
def State.supvBlock (s : State) (a reg : Nat) (v : Word) : State :=
  if 1 < a then s.err
  else if reg = SUPV_CTL then s.supvCtlWrite a v
  else if reg = SUPV_TIME then s.plainIf (bitsOf v 10 8 != 0) reg v
  else if within 0x611000 0x612FFF reg && reg % 16 == 12 then s.lineStatWrite a ((reg - 0x611000) / 16) v
  else s.plainWrite reg v

/-- The TRUST block (R422, R430, R443, R447, R450, R451). In Bare mode no capsule and no evidence starts. -/
def State.trustBlock (s : State) (a reg : Nat) (v : Word) : State :=
  if reg = TRUST_CAP_CTL then
    if a < 2 ∨ 4 < a ∨ s.flag ALARM_CTL_BARE = true then s.err
    else if !bitAt v 0 then s.ok 0#32
    else if s.flag TRUST_CAP_STAT_BUSY then (s.sf TRUST_CAP_STAT_RESULT crBusy).ok 0#32
    else ((s.raise TRUST_CAP_STAT_BUSY).sf TRUST_CAP_STAT_AGENT a).ok 0#32
  else if reg = TRUST_ATT_CTL then
    if a = 1 ∨ 2 < a ∨ s.flag ALARM_CTL_BARE = true then s.err
    else if bitAt v 0 then ((s.signEvidence s.attNonce).setReg TRUST_ATT_CTL 0x80000000#32).ok 0#32
    else s.ok 0#32
  else if within 0x700300 0x70031F reg then s.plainIf (a == 0 || a == 2) reg v
  else if reg = TRUST_FL_CMD then s.flashCmd a v
  else if within 0x700700 0x7008FF reg then s.plainIf (Nat.ble a 2) reg v
  else if reg = TRUST_EVT ∨ reg = TRUST_IRQ_EN then s.plainIf (Nat.ble a 1) reg v
  else if a ≠ 0 then s.err
  else if within 0x700100 0x70021F reg then s.err
  else s.plainWrite reg v

/-- The MBOX block (R463 to R469, R476, R477). -/
def State.mboxBlock (s : State) (a reg : Nat) (v : Word) : State :=
  if within 0x40800 0x4087F reg then s.plainIf (mboxOwner ((reg - 0x40800) / 4) == a) reg v
  else if reg = MBOX_RELEASE then s.mboxReleaseWrite a (bitsOf v 4 0)
  else if within 0x41004 0x4103F reg then
    { s with matrix := { s.matrix with
      stg := mset (fun _ => 0#32) s.matrix.stg (16 * a + (reg - 0x41000) / 4) v } }.ok 0#32
  else if reg = MBOX_SEND then s.mboxSendWrite a (bitsOf v 4 0)
  else if reg = MBOX_SEND_STAT then s.ok 0#32
  else if within 0x41300 0x413FF reg then s.plainIf (Nat.ble a 2) reg v
  else if State.mayRead a reg then s.plainWrite reg v
  else s.err

/-- The LOCK block (R460, R461, R478). -/
def State.lockBlock (s : State) (a reg : Nat) (v : Word) : State :=
  if within 0x50000 0x500FF reg then s.lockWrite a ((reg - 0x50000) / 4) v
  else if within 0x50100 0x501FF reg then s.ok 0#32
  else s.plainIf (Nat.ble a 2) reg v

/-- The RIM, PWR, MATRIX and HEALTH blocks (R476, R508 to R513). -/
def State.powerBlock (s : State) (a reg : Nat) (v : Word) : State :=
  if reg = PWR_RECOV then s.recovWrite a v
  else if within 0x30000 0x3FFFF reg then
    s.plainIf (a == 0 || (a == 1 && (reg == MATRIX_EVT || reg == MATRIX_IRQ_EN))) reg v
  else if 1 < a then s.err
  else if reg = PWR_CTL then s.pwrCtlWrite a v
  else if reg = PWR_TRIM_MASK then s.trimMaskWrite a v
  else if reg = PWR_RESET then s.pwrResetWrite a v
  else if reg = PWR_CYCLE then s.pwrCycleWrite a v
  else if reg = PWR_IDLE then s.plainIf (bitsOf v 15 0 != 0) reg v
  else if reg = PWR_PCYC then s.plainIf (within 10 1000 (bitsOf v 15 0)) reg v
  else s.plainWrite reg v

/-- The CLUSTER blocks, with REG and STK registers (R105, R157 to R159). -/
def State.clusterBlock (s : State) (a reg : Nat) (v : Word) : State :=
  let c := (reg - 0x1000000) / 0x100000
  let o := reg % 0x100000
  if 1 < a then s.err
  else if isStk reg then
    let k := stkOf reg
    (if o % 64 = 12 ∧ bitAt v 31 = true then s.setStake k { s.stake k with cycMax := 0 } else s).ok 0#32
  else if o = 0 then s.clCtlWrite c v
  else if o = 0x30 ∨ within 0x40 0xFF o then s.plainIf (s.clState c != clRunning) reg v
  else s.plainWrite reg v

/-- A write of a register by an agent that has a path to it. -/
def State.blockWrite (s : State) (a reg : Nat) (v : Word) : State :=
  if Nat.ble 0x1000000 reg then s.clusterBlock a reg v
  else if within 0x100000 0x13FFFF reg then s.weaveBlock a reg v
  else if within 0x140000 0x17FFFF reg then s.borderBlock reg v
  else if within 0x200000 0x21FFFF reg then s.tdmBlock a reg v
  else if within 0x240000 0x24FFFF reg then s.pdmBlock a reg v
  else if within 0x260000 0x26FFFF reg then s.aesBlock a reg v
  else if within 0x300000 0x36FFFF reg then s.netBlock a reg v
  else if within 0x400000 0x40FFFF reg then s.streamBlock a reg v
  else if within 0x500000 0x50FFFF reg then s.timeBlock a reg v
  else if within 0x510000 0x51FFFF reg then s.refselBlock a reg v
  else if within 0x600000 0x60FFFF reg then s.alarmBlock a reg v
  else if within 0x610000 0x61FFFF reg then s.supvBlock a reg v
  else if within 0x700000 0x70FFFF reg then s.trustBlock a reg v
  else if within 0x40000 0x4FFFF reg then s.mboxBlock a reg v
  else if within 0x50000 0x5FFFF reg then s.lockBlock a reg v
  else if within 0x10000 0x3FFFF reg || within 0x800000 0x80FFFF reg then s.powerBlock a reg v
  else s.plainWrite reg v

end Sys2Proof.Machine
end

