-- ==== Sys2Proof/Machine/Access.lean ====
section
/-! DEFINITION. Machine/Access.lean: accesses of the master ports to the whole fabric address space (R7, R8, R10 of
spec/00_scope.md; R79 to R81 of spec/03_stake_programming_model.md; R41, R203, R395, R452 to R458, R470 to R473, R543; R488,
R491, R492 of spec/16_power_health_recovery.md). -/
namespace Sys2Proof.Machine

open Reg

/-- Whether R453 gives a port a path to a memory. -/
def memPath (p addr : Nat) (write : Bool) : Bool :=
  match spaceOf addr with
  | .lpddr => Nat.ble p 2 || within 22 25 p || p == 33 || p == 34
  | .flash => !write && (Nat.ble p 2 || p == 32)
  | .retention => p == 0 || (!write && (p == 1 || p == 2 || (p == 32 && Nat.blt addr 0x0500100000)))
  | .directory => if write then p == 2 else Nat.ble p 2
  | .coil c => Nat.ble p 1 || p == 34 || (within 22 25 p && p == 22 + c / 4)
  | .stake k _ => Nat.ble p 1 || p == 34 || (within 22 25 p && p == 22 + k / 32) || (p == 2 && !write)
  | _ => false

/-- Whether a memory takes a write of a port now, by the rules of its own (R41, R68, R81, R203, R395). -/
def State.memOpen (s : State) (p addr : Nat) (write : Bool) : Bool :=
  match spaceOf addr with
  | .retention =>
    if !write then true
    else if addr < 0x0500100000 then p == 0 && !s.flag ALARM_CTL_RUN
    else if addr < 0x0500180000 then p == 0 && !s.flag WEAVE_CTL_RUN
    else if addr < 0x05001C0000 then p == 0 && !s.flag BORDER_CTL_RUN
    else true
  | .directory => s.isMgr
  | .stake k _ => !write || ((s.stake k).run == .held && (p != portPair || s.joining))
  | _ => true

/-- An aligned word of memory, none for an uncorrectable error (R78, R133). -/
def State.memWord (s : State) (addr : Nat) : Option Word :=
  match spaceOf addr with
  | .retention =>
    if within 0x0500100000 0x050017FFFF addr then some (s.entryRead ((addr - 0x0500100000) / 16) (addr % 16 / 4))
    else if within 0x0500180000 0x05001BFFFF addr then some ((s.chan ((addr - 0x0500180000) / 512)).read (addr % 512))
    else some (s.word addr)
  | .stake k off => if off < 0x50000 then s.loadWord addr else some ((s.stake k).arch.readImage (off - 0x50000))
  | .coil _ => s.loadWord addr
  | _ => some (s.word addr)

/-- An aligned word of memory written. -/
def State.putMem (s : State) (addr : Nat) (v : Word) : State :=
  match spaceOf addr with
  | .retention =>
    if within 0x0500100000 0x050017FFFF addr then s.entryWord ((addr - 0x0500100000) / 16) (addr % 16 / 4) v
    else if within 0x0500180000 0x05001BFFFF addr then
      let b := (addr - 0x0500180000) / 512
      s.setChan b ((s.chan b).write (addr % 512) v)
    else s.setWord addr v
  | .stake k off =>
    if off < 0x50000 then s.storeWord addr v
    else s.setStake k { s.stake k with arch := (s.stake k).arch.writeImage (off - 0x50000) v }
  | .coil _ => s.storeWord addr v
  | .lpddr => (s.setWord addr v).freshEcc addr
  | _ => s.setWord addr v

/-- The domain that sleeps under an address, none where it is ready (R458). -/
def State.asleep (s : State) (addr : Nat) : Option Nat :=
  let d := stallDomain addr
  match spaceOf addr with
  | .lpddr => if s.ddrUp && !s.stopped 18 then none else some 18
  | .coil _ | .stake _ _ => if s.bit PWR_STAT d && !s.stopped d then none else some d
  | .register r => if s.regAsleep r then some d else none
  | _ => none

/-- An access to a domain that was woken on demand starts its idle time again (R492). -/
def State.touch (s : State) (d : Nat) : State :=
  s.updPower fun p => { p with demand := p.demand.map fun x => if x.1 = d then (d, s.now) else x }

/-- The bytes of an access to a coil or a stake window on its region's link (R159). -/
def State.linkAccess (s : State) (addr : Nat) (write : Bool) (size : Nat) : State :=
  let d := stallDomain addr
  if d < 16 then s.linkUse (d / 4) (if write then size else 0) (if write then 0 else size) else s

/-- An access of 1, 2 or 4 bytes carried out in an awake memory: a word of which some bytes change, or the bytes read. -/
def State.memDo (s : State) (p addr : Nat) (write : Bool) (size : Nat) (v : Word) : State :=
  let w := addr / 4 * 4
  let sh := 8 * (addr % 4)
  let mask : Word := BitVec.ofNat 32 (2 ^ (8 * size) - 1)
  let s := s.linkAccess addr write size
  if !s.memOpen p addr write then s.errRec p .block write addr
  else match s.memWord w with
    | none => if write ∧ size = 4 then (s.putMem w v).ok 0#32 else s.errRec p .block write addr
    | some old =>
      let s := if write ∧ size = 4 then s else s.corrected w
      if write then (s.putMem w ((old &&& ~~~(mask <<< sh)) ||| ((v &&& mask) <<< sh))).ok 0#32
      else s.ok ((old >>> sh) &&& mask)

/-- An access to memory by a port: refused by R8 or R453, stalled on a sleeping domain, or carried out. -/
def State.memAccess (s : State) (p addr : Nat) (write : Bool) (size : Nat) (v : Word) : State :=
  if !populated addr then s.errRec p .unpop write addr
  else if s.bareClosed p || !memPath p addr write then s.errRec p .nopath write addr
  else match s.asleep addr with
    | some d => s.stallOn d p addr write size v
    | none => ((s.demandOn (stallDomain addr)).touch (stallDomain addr)).memDo p addr write size v

/-- An access to register space by a port: refused, or unaligned or narrow (R7), or stalled, or carried out by the block. -/
def State.regAccess (s : State) (p off : Nat) (write : Bool) (size : Nat) (v : Word) : State :=
  let reg := off / 4 * 4
  match s.pathErr p reg write with
  | some k => (s.deniedHook p reg write).errRec p k write (if (p = 3 ∨ p = 4) then errAddr p reg write else regBase + off)
  | none =>
    if size ≠ 4 ∨ off % 4 ≠ 0 then
      (if write && secKeyReg reg then s.deniedHook p reg write else s).errRec p .align write (regBase + off)
    else (s.touch (stallDomain (regBase + reg))).access p reg write v
      fun s => if write then s.blockWrite p reg v else s.blockRead p reg

/-! ### Hosts (R470 to R473, R543) -/

/-- The registers of the status mirror, in order (R470). -/
def mirrorRegs : List Nat :=
  [ALARM_FAULT, ALARM_TRIG_ACT0, ALARM_TRIG_ACT1, ALARM_IN_STAT, TRUST_LC, TRUST_BOOT, TRUST_SLOTS, TRUST_TREL, TIME_STAT,
   TIME_ERR, REFSEL_STAT, PAIR_STAT, SUPV_MIC_MAP 0, SUPV_MIC_MAP 1, SUPV_MIC_MAP 2, SUPV_MIC_MAP 3]

/-- A host access in the register window, at an aligned offset. -/
def State.windowAccess (s : State) (p w : Nat) (write : Bool) (v : Word) : State :=
  if within 0x100 0x13F w && !write then s.ok (s.peek (mirrorRegs.getD ((w - 0x100) / 4) 0))
  else if within 0x1000 0x1FFF w && !write then
    let r := (w - 0x1000) / 256
    let i := w % 256 / 4
    let reg := s.rf (MATRIX_HTEL_OFS r) / 4 * 4 + 4 * i
    if !s.flag (MATRIX_HTEL_EN r) || Nat.ble (s.rf (MATRIX_HTEL_WORDS r)) i then s.errRec p .block false w
    else if (regRow reg).isNone then s.errRec p .unpop false w
    else s.ok (s.peek reg)
  else if w = 0 ∧ !write then s.ok (s.peek SYS_ID)
  else if w = 0x2000 then s.ok 0#32
  else match windowReg p w with
    | some reg => if hostWindow p reg write = some w then s.regAccess p reg write 4 v else s.errRec p .host write w
    | none => s.errRec p .host write w

/-- A host access at an address of its target map (R472): the window, or the capsule inbox (R431). -/
def State.hostAccess (s : State) (p addr : Nat) (write : Bool) (size : Nat) (v : Word) : State :=
  if addr < 0x10000 then
    if size = 4 ∧ addr % 4 = 0 then s.windowAccess p addr write v
    else if (windowReg p (addr / 4 * 4)).isSome || within 0x100 0x13F addr || within 0x1000 0x1FFF addr || Nat.blt addr 4
      then s.errRec p .align write addr
    else s.errRec p .host write addr
  else if within 0x10000000 0x14FFFFFF addr then
    let a := 0x07000000 + (addr - 0x10000000)
    if !populated a then s.errRec p .unpop write a
    else match s.asleep a with
      | some d => s.stallOn d p a write size v
      | none => ((s.demandOn 18).touch 18).memDo p a write size v
  else s.errRec p .host write addr

/-- An access of a master port. A host's address is one of its target map. -/
def State.fabric (s : State) (p addr : Nat) (write : Bool) (size : Nat) (v : Word) : State :=
  if !s.accepted p then s
  else if p = 3 ∨ p = 4 then s.hostAccess p addr write size v
  else match spaceOf addr with
    | .register off => s.regAccess p off write size v
    | _ => s.memAccess p addr write size v

/-- A write of a register by an agent, of 1, 2 or 4 bytes. -/
def execRegisterWrite (a : Agent) (reg : BitVec 25) (size : Fin 3) (v : Word) (s : State) : Out :=
  .next (if s.accepted a.val then s.regAccess a.val reg.toNat true (2 ^ size.val) v else s)

/-- A read of 1, 2 or 4 bytes: where it is refused, the error response is recorded (R454, R476). -/
def execAccessError (p : Fin 35) (addr : BitVec 40) (size : Fin 3) (s : State) : Out :=
  .next (s.fabric p.val addr.toNat false (2 ^ size.val) 0#32)

/-- An access of one word to any domain, asleep or awake (R458, R488, R491). -/
def execDemandAccess (p : Fin 35) (addr : BitVec 40) (write : Bool) (v : Word) (s : State) : Out :=
  .next (s.fabric p.val (addr.toNat / 4 * 4) write 4 v)

/-! ### The QSPI target (R472, R473) -/

/-- One word of a read driven: 0x5A before the first when it completed, 0xE7 when it did not, and then zeros. -/
def State.qspiWord (s : State) : State :=
  let out := s.matrix.qspiOut
  let bad := if out = [] then s.bus.err else out.head? == some 0xE7#8
  let mark : List Byte := if out = [] then [if s.bus.err then 0xE7#8 else 0x5A#8] else []
  let data : Word := if bad ∨ s.bus.err = true then 0#32 else s.bus.data
  { s with matrix := { s.matrix with qspiOut := out ++ mark ++ leBytes data.toNat 4 } }

/-- A read transfer: its words in turn; one that stalls is driven when its domain has woken. -/
def State.qspiRead (s : State) (addr len : Nat) : State :=
  let s := { s with matrix := { s.matrix with qspiOut := [] } }
  if !s.accepted 4 then s
  else (List.range ((len + 3) / 4)).foldl (fun (s : State) i =>
    let n := s.power.stalls.length
    let s := if addr % 4 = 0 then s.fabric 4 (addr + 4 * i) false 4 0#32 else s.errRec 4 .host false (addr + 4 * i)
    if n < s.power.stalls.length then s else s.qspiWord) s

/-- A posted write: the whole words within the first 64 bytes and their aligned block; what is discarded, and an error
response, set ERR. -/
def State.qspiWrite (s : State) (addr : Nat) (bytes : List Byte) : State :=
  if !s.accepted 4 then s
  else
    let fit := min (min bytes.length 64) (64 - addr % 64) / 4
    let s := (List.range fit).foldl (fun (s : State) i =>
      let v : Word := BitVec.ofNat 32 (leNat ((bytes.drop (4 * i)).take 4))
      let n := s.power.stalls.length
      let s := if addr % 4 = 0 then s.fabric 4 (addr + 4 * i) true 4 v else s.errRec 4 .host true (addr + 4 * i)
      if n = s.power.stalls.length ∧ s.bus.err = true then { s with matrix := { s.matrix with qspiErr := true } } else s) s
    if 4 * fit = bytes.length then s else { s with matrix := { s.matrix with qspiErr := true } }

def execQspiRead (addr : Word) (len : BitVec 12) (s : State) : Out := .next (s.qspiRead addr.toNat len.toNat)
def execQspiQuadRead (addr : Word) (len : BitVec 12) (s : State) : Out := .next (s.qspiRead addr.toNat len.toNat)
def execQspiWrite (addr : Word) (bytes : List Byte) (s : State) : Out := .next (s.qspiWrite addr.toNat bytes)
def execQspiQuadWrite (addr : Word) (bytes : List Byte) (s : State) : Out := .next (s.qspiWrite addr.toNat bytes)

/-- Whether QSPI_IRQ_N is asserted: an unmasked doorbell or acknowledgement of agent 4 (R467). -/
def State.qspiIrq (s : State) : Bool :=
  s.reg (MBOX_DB 4) &&& ~~~(s.reg (MBOX_MASK 4)) != 0#32 || s.reg (MBOX_ACK 4) &&& ~~~(s.reg (MBOX_ACK_MASK 4)) != 0#32

/-- A status read: READY, IRQ, ERR and BUSY; the read clears ERR. -/
def execQspiStatus (s : State) : Out :=
  let b (x : Bool) (n : Nat) : Nat := if x then 2 ^ n else 0
  let busy := s.power.stalls.any fun x => x.agent == 4 && x.write
  let v := b (s.accepted 4) 7 + b s.qspiIrq 2 + b s.matrix.qspiErr 1 + b busy 0
  .next (if s.accepted 4 then
      { s with matrix := { s.matrix with qspiErr := false, qspiOut := [BitVec.ofNat 8 v] } }
    else { s with matrix := { s.matrix with qspiOut := [] } })

/-! ### Waking on demand (R491, R492) -/

/-- A stalled access retired: carried out, unless its port was reset meanwhile. -/
def State.retireStall (s : State) (x : Stall) : State :=
  if x.size = 0 then s
  else
    let s := match spaceOf x.addr with
      | .register off => s.regAccess x.agent off x.write x.size x.data
      | _ => (s.touch (stallDomain x.addr)).memDo x.agent x.addr x.write x.size x.data
    if x.agent ≠ 4 then s
    else if x.write then (if s.bus.err then { s with matrix := { s.matrix with qspiErr := true } } else s)
    else s.qspiWord

/-- The stalled accesses of a domain retired in order, those of a die by its clusters' registers too. -/
def State.retireStalls (s : State) (d : Nat) : State :=
  let mine (x : Stall) : Bool := stallDomain x.addr == d
  let l := s.power.stalls.filter mine
  let s := s.updPower fun p => { p with stalls := p.stalls.filter fun x => !mine x }
  l.foldl (fun (s : State) x => s.retireStall x) s

/-- How long a domain takes to wake: a cluster, with its die where that is off, or LPDDR5X. -/
def State.wakeTime (s : State) (d : Nat) : Nat :=
  if d = 18 then 20 * us1
  else if s.flag (if d < 8 then PWR_STAT_CD0 else PWR_STAT_CD1) then 35 * us1 else 435 * us1

/-- The compute die of an ISOLATED cluster woken by an access to its registers: the cluster stays unpowered, and accesses
to its memories wait for their limit (R151, R157). -/
def State.dieWoken (s : State) (n t : Nat) : State :=
  let s := s.moveTo (t + s.wakeTime n)
  let s := s.updPower fun p => { p with waking := p.waking.filter fun x => x.1 != n }
  let mine (x : Stall) : Bool := stallDomain x.addr == n && Nat.ble regBase x.addr
  let told := s.power.stalls.any mine
  let s := if told then (s.raise PWR_STAT_DEMAND).raise PWR_EVT_DEMAND else s
  let s := s.sf (if n < 8 then PWR_STAT_CD0 else PWR_STAT_CD1) 1
  let l := s.power.stalls.filter mine
  let s := s.updPower fun p => { p with stalls := p.stalls.filter fun x => !mine x }
  l.foldl (fun (s : State) x => s.retireStall x) s

/-- A domain that an access woke is ready: powered, a cluster in LOADING without its image, and the Warden is told. -/
def execDemandWakeDone (d : Fin 19) (s : State) : Out :=
  let n := d.val
  .next (match s.power.waking.find? fun x => x.1 == n with
    | none => s
    | some (_, t) =>
      if 16 ≤ n ∧ n < 18 then s
      else if n < 16 ∧ (s.cluster n).loading = true then s
      else if n < 16 ∧ s.clState n = clIsolated then s.dieWoken n t
      else
        let s := s.moveTo (t + s.wakeTime n)
        let s := s.updPower fun p => { p with waking := p.waking.filter fun x => x.1 != n }
        let told := s.power.stalls.any fun x => stallDomain x.addr == n
        let s := if told then (s.raise PWR_STAT_DEMAND).raise PWR_EVT_DEMAND else s
        let s := s.updPower fun p => { p with demand := (p.demand.filter fun x => x.1 != n) ++ [(n, s.now)] }
        if n = 18 then ((s.sf PWR_STAT_DDR_SR 0).netDrain).retireStalls 18
        else
          let s := s.sf (if n < 8 then PWR_STAT_CD0 else PWR_STAT_CD1) 1
          let s := if s.bit PWR_STAT n then s else (s.setBit PWR_STAT n).setClState n clLoading
          s.retireStalls n)

/-- PWR_IDLE milliseconds without an access to a domain that was woken on demand (R492): gated again. -/
def execDemandIdleGate (d : Fin 19) (s : State) : Out :=
  let n := d.val
  .next (match s.power.demand.find? fun x => x.1 == n with
    | none => s
    | some (_, t) =>
      let s := s.moveTo (t + bitsOf (s.reg PWR_IDLE) 15 0 * ms1)
      let s := s.updPower fun p => { p with demand := p.demand.filter fun x => x.1 != n }
      let s := if s.power.demand = [] then s.sf PWR_STAT_DEMAND 0 else s
      if n = 18 then (if s.pstate = pWatch then s.sf PWR_STAT_DDR_SR 1 else s)
      else if n < 16 then
        let s := s.gateCluster n
        let die := n / 8
        if s.pstate = pWatch ∧ bitsOf (s.reg PWR_STAT) (8 * die + 7) (8 * die) = 0 then
          s.sf (if die = 0 then PWR_STAT_CD0 else PWR_STAT_CD1) 0
        else s
      else s)

/-- The oldest stalled access at its limit: it completes with an error response. -/
def execStallLimit (s : State) : Out :=
  .next (match s.power.stalls with
    | [] => s
    | x :: l =>
      let s := (s.moveTo (x.since + s.stallLimit x)).updPower fun p => { p with stalls := l }
      if x.size = 0 then s
      else
        let s := (s.errRec x.agent .stall x.write x.addr).raise PWR_EVT_STALL_ERR
        if x.agent ≠ 4 then s
        else if x.write then { s with matrix := { s.matrix with qspiErr := true } } else s.qspiWord)

end Sys2Proof.Machine
end

