-- ==== Sys2Proof/Machine/Pass.lean ====
section
/-! DEFINITION. Machine/Pass.lean: one pass of the Weave, with the source filters, generators and meters (R20, R26, R38 to
R40, R49, R56 to R61, R83, R84). -/
namespace Sys2Proof.Machine

open Reg

/-! ### Source filters (R56) -/

/-- The biquad sections of a filter code, Q5.27: b0, b1, b2, a1, a2 of a Butterworth high-pass by the bilinear transform,
pre-warped at the corner. -/
def hpfSections (rate96 : Bool) (code : Nat) : List Coef :=
  let c (b0 b1 a1 a2 : Int) : Coef := ⟨wordOfInt b0, wordOfInt b1, wordOfInt b0, wordOfInt a1, wordOfInt a2⟩
  let dc : Coef := ⟨wordOfInt 134217728, wordOfInt (-134217728), 0#32, wordOfInt (-134184960), 0#32⟩
  match rate96, code with
  | _, 1 => [dc]
  | false, 2 => [c 133969494 (-267938988) (-267938529) 133721719]
  | false, 3 => [c 133721719 (-267443437) (-267441604) 133227543]
  | false, 4 => [c 133227542 (-266455085) (-266447780) 132244662]
  | false, 5 => [c 132735192 (-265470385) (-265454008) 131269033]
  | false, 6 => [c 132244661 (-264489323) (-264460316) 130300601]
  | false, 7 => [c 132927552 (-265855105) (-265847816) 131644666, c 133678527 (-267357054) (-267349724) 133146656]
  | false, 8 => [c 132289019 (-264578037) (-264561716) 130376630, c 133407812 (-266815624) (-266799165) 132614355]
  | true, 2 => [c 134093553 (-268187107) (-268186992) 133969494]
  | true, 3 => [c 133969494 (-267938988) (-267938529) 133721719]
  | true, 4 => [c 133721719 (-267443437) (-267441604) 133227543]
  | true, 5 => [c 133474402 (-266948804) (-266944687) 132735193]
  | true, 6 => [c 133227542 (-266455085) (-266447780) 132244662]
  | true, 7 => [c 133570440 (-267140881) (-267139050) 132924983, c 133948503 (-267897006) (-267895170) 133681114]
  | true, 8 => [c 133248449 (-266496898) (-266492789) 132283280, c 133813608 (-267627216) (-267623089) 133413616]
  | _, _ => []

def Hpf.empty : Hpf := ⟨0, ⟨0, 0, 0, 0⟩, ⟨0, 0, 0, 0⟩⟩

/-- One sample of an outer slot through its filter, under the code in effect. -/
def State.hpfStep (s : State) (slot : Nat) (x : Int) : State × Int :=
  let h := mget (fun _ => Hpf.empty) s.weave.hpf slot
  match hpfSections s.sys.rate96 h.code with
  | [] => (s, x)
  | c1 :: rest =>
    let (y, st1, _) := biquad true c1 h.s1 x
    let (z, st2) := match rest with
      | c2 :: _ => let (z, st2, _) := biquad true c2 h.s2 y; (z, st2)
      | [] => (y, h.s2)
    let h' : Hpf := ⟨h.code, st1, st2⟩
    ({ s with weave := { s.weave with hpf := mset (fun _ => Hpf.empty) s.weave.hpf slot h' } }, z)

/-! ### Generators (R60) -/

/-- One sample of a generator of TYPE 0 to 2. -/
def State.genStep (s : State) (g : Nat) : State × Int :=
  if !s.flag (WEAVE_GEN_CFG_EN g) then (s, 0)
  else
    let x := s.gen g
    let amp := sWord (s.reg (WEAVE_GEN_AMP g))
    if s.rf (WEAVE_GEN_CFG_TYPE g) = 2 then
      let out := sWord (BitVec.ofNat 32 x.lfsr) * amp / 2147483648
      let h := x.lfsr / 2
      (s.setGen g { x with lfsr := if x.lfsr % 2 = 1 then h ^^^ 0x80200003 else h }, out)
    else
      let a := sin4096 (x.phase / 2 ^ 20)
      let b := sin4096 (x.phase / 2 ^ 20 + 1)
      let v := a + (b - a) * (x.phase % 2 ^ 20 : Nat) / 1048576
      (s.setGen g { x with phase := (x.phase + (s.reg (WEAVE_GEN_FREQ g)).toNat) % 2 ^ 32 }, v * amp / 2147483648)

/-- The place of a generator's sample in its staged blocks. -/
def genKey (g q pos : Nat) : Nat := g * 32 + q * 16 + pos

/-- Every generator and alarm player stages the sample of a position for the next round. -/
def State.stageGens (s : State) (pos : Nat) : State :=
  let idx := (s.sys.roundNo + 1) * s.sys.n + pos
  (List.range 64).foldl (fun (s : State) g =>
    let (s, v) := if g < 48 then s.genStep g else s.playerStep (g - 48) idx
    { s with weave := { s.weave with genBlk := mset (fun _ => 0) s.weave.genBlk (genKey g s.sys.parity pos) v } }) s

/-! ### Sources and sinks (R38 to R40, R83, R149, R317) -/

/-- Whether a cluster's slots deliver and accept: it is RUNNING and powered and its stakes were started, or it is a HELD
cluster of a node that copies its partner's state. -/
def State.slotsOn (s : State) (c : Nat) : Bool :=
  s.bit PWR_STAT c
    && ((s.clState c == clRunning && !(s.cluster c).missed) || (s.clState c == clHeld && s.pairState == paCopying))

/-- Fabric address of a position of a stake's channel in half `q` of its input or output window. -/
def inPlace (k q n j pos : Nat) : Nat := stakeBase k + 0x1C000 + q * 0x2000 + 4 * (j * n + pos)
def outPlace (k q n j pos : Nat) : Nat := stakeBase k + 0x3C000 + q * 0x2000 + 4 * (j * n + pos)

/-- The sample that a source slot delivers at a position of this round. -/
def State.sourceAt (s : State) (slot pos : Nat) : State × Int :=
  let idx := s.sys.roundNo * s.sys.n + pos
  let q := s.sys.parity
  if slot < 1064 then
    let (s, x) := s.portSource slot idx
    s.hpfStep slot x
  else if slot < 4096 then s.hpfStep slot (s.streamSource slot idx)
  else if slot < 8128 then
    match s.stakeOf slot with
    | some (k, j) =>
      if s.slotsOn (k / 8) && Nat.blt (j * s.sys.n + pos) 2048 then (s, sWord (s.word (outPlace k (1 - q) s.sys.n j pos)))
      else (s, 0)
    | none => (s, 0)
  else (s, mget (fun _ => 0) s.weave.genBlk (genKey (slot - 8128) (1 - q) pos))

/-- The slots whose source side a pass reads: those of the entries, of supervision, and every outer slot with a filter. -/
def State.passSlots (s : State) : List Nat :=
  let routes := s.weave.routes.filterMap fun e => if e.2.img.valid then some e.2.img.src else none
  let lines := if s.flag SUPV_CTL_RUN then
      s.linesOn.flatMap (fun l => [s.rf (SUPV_LINE_CFG_V_SLOT l), s.rf (SUPV_LINE_CFG_I_SLOT l)])
        ++ ((List.range 128).filter s.micOn).map fun m => s.rf (SUPV_MIC_CFG_SLOT m)
    else []
  (routes ++ lines ++ s.weave.hpf.map fun (e : Nat × Hpf) => e.1).eraseDups

/-- The samples of those slots. -/
def State.passValues (s : State) (pos : Nat) : State × SMap Int :=
  s.passSlots.foldl (fun (acc : State × SMap Int) slot =>
    let (s, v) := acc.1.sourceAt slot pos
    (s, mset (fun _ => 0) acc.2 slot v)) (s, [])

/-- What an entry contributes to its sink (R49, R54, R59, R70): the product with its gain and hold factor, rounded down. -/
def Entry.contrib (e : Entry) (x : Int) : Int :=
  let g : Nat := e.gain * e.hf / 1048576
  if e.ecc then 0 else (if e.img.inv then -x else x) * (g : Int) / 1048576

/-- The wide sum of every sink that some valid entry names; with the bare layer running, class 3 entries alone count. -/
def State.passSums (s : State) (vals : SMap Int) : SMap Int :=
  let bare := s.bareLayer
  s.weave.routes.foldl (fun (m : SMap Int) e =>
    let i := e.2.img
    if i.valid && (!bare || i.cls == 3) then
      mset (fun _ => 0) m i.sink (mget (fun _ => 0) m i.sink + e.2.contrib (mget (fun _ => 0) vals i.src))
    else m) []

/-- A narrowing sum as a Q1.31 sample (R58, R59). -/
def State.narrow (s : State) (v : Int) : State × Int :=
  let y := satQ31 v
  (if y = v then s else s.raise WEAVE_EVT_NARROW_SAT, y)

/-- The stake input blocks written at a position. -/
def State.stakeSinks (s : State) (sums : SMap Int) (pos : Nat) : State :=
  (List.range 128).foldl (fun (s : State) k =>
    let count := s.rf (WEAVE_STK_MAP_COUNT k)
    let base := 4096 + s.rf (WEAVE_STK_MAP_BASE k)
    if s.slotsOn (k / 8) then
      (List.range count).foldl (fun (s : State) j =>
        if j * s.sys.n + pos < 2048 then
          let (s, y) := s.narrow (mget (fun _ => 0) sums (base + j))
          s.setWordEcc (inPlace k s.sys.parity s.sys.n j pos) (wordOfInt y)
        else s) s
    else s) s

/-- The outer narrowing sinks written; what an earlier round left at the position goes. -/
def State.outerSinks (s : State) (sums : SMap Int) (idx : Nat) : State :=
  let out := s.sys.out.filter fun (e : Nat × Int) => e.1 % 64 != idx % 64
  let s := { s with sys := { s.sys with out := out } }
  sums.foldl (fun (s : State) e =>
    if e.1 < 4096 ∧ s.narrowing e.1 = true then
      let (s, y) := s.narrow e.2
      s.setOut e.1 idx y
    else s) s

/-- The wide sums that the Border takes in its next pass; at most two passes wait. -/
def State.borderSums (s : State) (sums : SMap Int) (idx : Nat) : State :=
  let wide := sums.filter fun (e : Nat × Int) => Nat.blt e.1 4096 && !s.narrowing e.1
  let l := s.weave.sums ++ [(idx, wide)]
  { s with weave := { s.weave with sums := l.drop (l.length - 2) } }

/-- One sample of every meter (R61); that PEAK is rounded down is a choice of the model (notes/assumptions/30). -/
def State.meterSinks (s : State) (sums : SMap Int) : State :=
  sums.foldl (fun (s : State) e =>
    if 8128 ≤ e.1 then
      let m := e.1 - 8128
      let x := s.meter m
      let peak := min 0xFFFFFFFF (e.2.natAbs / 32768)
      let s := if (s.reg (WEAVE_MTR_PEAK m)).toNat < peak then s.setRegN (WEAVE_MTR_PEAK m) peak else s
      if x.open_ then s.setMeter m { x with acc := x.acc + e.2.natAbs * e.2.natAbs } else s
    else s) s

/-- One sample of the supervision of lines and microphones (R169, R170, R176). -/
def State.superviseStep (s : State) (vals : SMap Int) (idx : Nat) : State :=
  if !s.flag SUPV_CTL_RUN then s
  else
    let v (slot : Nat) : Int := mget (fun _ => 0) vals slot
    let s := s.linesOn.foldl (fun (s : State) l =>
      s.demStep l idx (v (s.rf (SUPV_LINE_CFG_V_SLOT l))) (v (s.rf (SUPV_LINE_CFG_I_SLOT l)))) s
    ((List.range 128).filter s.micOn).foldl (fun (s : State) m => s.micStep m idx (v (s.rf (SUPV_MIC_CFG_SLOT m)))) s

/-- The end of a pass: what its inputs deposited for it goes. -/
def State.passEnd (s : State) (pos idx : Nat) : State :=
  let dep := s.sys.dep.filter fun (e : Nat × Int) => e.1 % 64 != idx % 64
  { s with sys := { s.sys with pass := pos + 1, dep := dep },
           ports := { s.ports with gains := s.ports.gains.filter fun (e : Nat × Nat) => e.1 % 64 != idx % 64 } }

/-- The pass of the next sample position: ramps advance, every crosspoint is served, sinks are written. While the Weave does
not run, every sink is zero (R68). Entries read with an error of a single bit are corrected (R70). A donor's records follow (R316). -/
def State.passOnce (s : State) : State :=
  let pos := s.sys.pass
  let idx := s.sys.roundNo * s.sys.n + pos
  let s := ((s.trigFall).inputsStep).ctxStep
  let s :=
    if s.weave.running then
      let s := s.advRoutes 1
      let (s, vals) := s.passValues pos
      let sums := s.passSums vals
      let s := ((s.stakeSinks sums pos).outerSinks sums idx).borderSums sums idx
      (((s.meterSinks sums).superviseStep vals idx).stageGens pos).readRange 0x0500100000 0x050017FFFF
    else (s.outerSinks [] idx).borderSums [] idx
  (((s.passEnd pos idx).hubAfter pos).hubSend pos).mirrorFlush

/-- Whether rounds run: the hub is up and has its oscillator. -/
def State.roundsRun (s : State) : Bool := s.hubUp && !s.alarm.xoLost

/-- A Weave pass, at the start of its sample period (R20). -/
def execWeavePass (s : State) : Out :=
  .next (if s.roundsRun && Nat.blt s.sys.pass s.sys.n then
      (s.moveTo (s.sys.roundStart + s.sys.pass * s.sys.period)).passOnce
    else s)

end Sys2Proof.Machine
end

