-- ==== Sys2Proof/Machine/Round.lean ====
section
/-! DEFINITION. Machine/Round.lean: the round boundary (R27) and the changes that take effect at it (R46, R52 to
R57, R61, R67, R68, R343, R344, R536). -/
namespace Sys2Proof.Machine
open Reg

/-! ### The end of the round -/

/-- A pass that no command of the round has made, with the Border pass that falls in its period. -/
def State.passLate (s : State) : State :=
  let s := if Nat.ble 2 s.weave.sums.length then s.borderPass else s
  s.passOnce

/-- The budget points of a round that no command has made: they lie before its end (R132). -/
def State.finishBudgets (s : State) : State := (List.range 16).foldl (fun (s : State) c => s.budgetPoint c) s

/-- The passes of a round completed: each ends within its sample period (R20), so none is left at the
boundary; the last one's Border pass falls in the next round (R21). -/
def State.finishPasses (s : State) : State :=
  let s := (List.range (s.sys.n - s.sys.pass)).foldl (fun (s : State) _ => s.passLate) s
  if Nat.ble 2 s.weave.sums.length then s.borderPass else s

/-! ### Steps 1 and 2 -/

/-- The boundary itself: its instant, the round number, and with it the parity and the halves of every
round buffer (R26). -/
def State.advanceRound (s : State) : State :=
  let t := s.sys.roundStart + s.sys.roundLen
  let s := s.moveTo t
  { s with sys := { s.sys with roundNo := s.sys.roundNo + 1, roundStart := t, pass := 0 } }

/-- CUR_GAIN of every entry: the gain applied in the last pass, the hold factor with it (R42, R49, R54). -/
def State.showGains (s : State) : State :=
  s.entries.foldl (fun (s : State) i =>
    let e := s.entry i
    s.setEntry i { e with cur := if e.img.valid && !e.ecc then e.gain * e.hf / 1048576 else 0 }) s

/-! ### Step 3 (R46, R67, R343) -/

/-- RUN of the Weave and of the Border as this boundary takes it (R68); both run with the bare layer (R211). -/
def State.runBits (s : State) : State :=
  let w := s.flag WEAVE_CTL_RUN || s.bareLayer
  let s := if w && !s.weave.running then (s.retireAll true).settleRoutes else s
  { s with weave := { s.weave with running := w }, border := { s.border with running := s.flag BORDER_CTL_RUN || s.bareLayer } }

/-- The result of a ROUTE action, checked as a command of its writer's port (R343, R536); `mid` holds the actions
accepted before it at this boundary. -/
def State.routeActionResult (s : State) (x : Action) (mid : List RouteCmd) : Nat :=
  let host := x.origin == 3 || x.origin == 4
  if !s.weave.running then 3
  else (s.projectStep s.sys.roundNo mid (some x.route.idx)).checkRoute host x.route

/-- A refused ROUTE action: NOSPARE, a host's privilege violation, and the boost of a noise zone (R47, R184). -/
def State.routeActionRefused (s : State) (x : Action) (res : Nat) : State :=
  let s := if res = 10 then s.raise WEAVE_EVT_NOSPARE else s
  let s := if (x.origin = 3 ∨ x.origin = 4) ∧ res = 6 then (s.raise WEAVE_EVT_DENIED_H).privViol 3 x.route.idx else s
  s.zoneRefused x.tag

/-- One ROUTE or BORDER action carried out, with its completion record; a BORDER change is made at once, a ROUTE
change joins those accepted. -/
def State.saAct (p : State × List RouteCmd) (x : Action) : State × List RouteCmd :=
  let (s, mid) := p
  if x.kind = kRoute then
    let res := s.routeActionResult x mid
    if res = 0 then
      let c := x.route
      let scene := Nat.ble 0x8000 x.tag && Nat.blt x.tag 0x8040 && c.op == .change
      let s := if scene then s.setBaseGain c.idx c.img.gain else s
      (s.saDone x 0, mid ++ [c])
    else ((s.routeActionRefused x res).saDone x res, mid)
  else
    let k := x.border
    let res := s.borderResult k
    ((if res = 0 then s.applyBorder k else s).saDone x res, mid)

/-- Step 3: finished chains retire, then the changes of port H, the scheduled actions and those of port C, of
which the last to each crosspoint stands; Border changes in the same order; filter codes; page holds. -/
def State.changes (s : State) : State :=
  let r := s.sys.roundNo
  let (s, acts) := s.saTake false
  let (s, mid) := acts.foldl State.saAct (s, [])
  let now (l : List RouteDue) : List RouteCmd := (l.filter fun d => Nat.ble d.due r).map (·.cmd)
  let later (l : List RouteDue) : List RouteDue := l.filter fun d => Nat.blt r d.due
  let all := lastOnly (now s.weave.dueH ++ mid ++ now s.weave.dueC)
  let s := all.foldl (fun (s : State) c => s.applyRoute c) (s.retireAll false)
  let s := { s with weave := { s.weave with dueH := later s.weave.dueH, dueC := later s.weave.dueC } }
  let s := (s.border.due.filter fun d => Nat.ble d.due r).foldl (fun (s : State) d => s.applyBorder d.cmd) s
  let s := { s with border := { s.border with due := s.border.due.filter fun d => Nat.blt r d.due } }
  (s.hpfBoundary).evalPageHolds

/-! ### Steps 4 to 6 -/

/-- Step 4: plays that have ended count, then the alarm path takes its commands (R540, R541); starts go to the
partner (R37). -/
def State.alarms (s : State) : State :=
  let s := s.settlePlays (s.sys.roundNo * s.sys.n)
  let held := s.entries.filter fun i => (s.entry i).holdAlarm
  let s := ((s.alarmStep4).applyJoins held).forwardAlarms
  s.sceneBits

/-- Step 5: operating points, round entry of every cluster, and the long coil transfers of the new round; `late`
says how many words of a cluster's transfers complete by the budget point where not all do (R107, R139, R142). -/
def State.roundEntry (s : State) (late : List (Fin 16 × Nat)) : State :=
  let s := ((s.pairBoundary).applyOps).togetherStart
  let s := (List.range 16).foldl (fun (s : State) c => s.clusterEntry c) s
  (List.range 16).foldl (fun (s : State) c =>
    s.dmaRound c ((late.find? fun e => e.1.val == c).map (·.2))) s

/-- What the other units do at a boundary: meters, limiter map, ports, networks, streams, time, the talkers,
the power controller, the parameter records that wait, the watch over what looks wedged, and a recovery request that waited for
the Warden. -/
def State.unitsBoundary (s : State) : State :=
  let s := ((s.meterBoundary).limMap).portsBoundary
  let s := (List.range 6).foldl (fun (s : State) p => s.netBoundary p) s
  ((((s.streamsBoundary).transBoundary).talkerBoundary).handBoundary).paramStep.watchStep.recovPend

/-- A round boundary (R27). -/
def execRoundBoundary (late : List (Fin 16 × Nat)) (s : State) : Out :=
  .next (if s.roundsRun then
      let s := ((((s.finishBudgets).finishPasses).mirrorFlush).linkBoundary).advanceRound
      let s := (((s.showGains).inPlaceBoundary).runBits).changes
      ((s.alarms).roundEntry late).unitsBoundary
    else s)

end Sys2Proof.Machine
end

