-- ==== Sys2Proof/Machine/Dispatch.lean ====
section
/-! DEFINITION. Machine/Dispatch.lean: the meaning of each command, one arm per constructor. -/
namespace Sys2Proof.Machine

/-- The effect of a command on everything but the queue. -/
def exec (i : Instr) (s : State) : Host.Outcome State Fault Refusal :=
  match i with
  | .pnop k m => Sys2Proof.Machine.execPnop k m s
  | .qmac k g x y m => Sys2Proof.Machine.execQmac k g x y m s
  | .qmsu k g x y m => Sys2Proof.Machine.execQmsu k g x y m s
  | .qmul k g x y m => Sys2Proof.Machine.execQmul k g x y m s
  | .qdot k a x y m => Sys2Proof.Machine.execQdot k a x y m s
  | .qdotz k a x y m => Sys2Proof.Machine.execQdotz k a x y m s
  | .bmac k g c w m => Sys2Proof.Machine.execBmac k g c w m s
  | .ftapz k g c w m => Sys2Proof.Machine.execFtapz k g c w m s
  | .ftap k g c w m => Sys2Proof.Machine.execFtap k g c w m s
  | .pmac k a x y m => Sys2Proof.Machine.execPmac k a x y m s
  | .pmsu k a x y m => Sys2Proof.Machine.execPmsu k a x y m s
  | .pmul k a x y m => Sys2Proof.Machine.execPmul k a x y m s
  | .fdly k a w f sh m => Sys2Proof.Machine.execFdly k a w f sh m s
  | .add k d s1 s2 m => Sys2Proof.Machine.execAdd k d s1 s2 m s
  | .sub k d s1 s2 m => Sys2Proof.Machine.execSub k d s1 s2 m s
  | .adds k d s1 s2 m => Sys2Proof.Machine.execAdds k d s1 s2 m s
  | .subs k d s1 s2 m => Sys2Proof.Machine.execSubs k d s1 s2 m s
  | .and k d s1 s2 m => Sys2Proof.Machine.execAnd k d s1 s2 m s
  | .or k d s1 s2 m => Sys2Proof.Machine.execOr k d s1 s2 m s
  | .xor k d s1 s2 m => Sys2Proof.Machine.execXor k d s1 s2 m s
  | .min k d s1 s2 m => Sys2Proof.Machine.execMin k d s1 s2 m s
  | .max k d s1 s2 m => Sys2Proof.Machine.execMax k d s1 s2 m s
  | .shl k d s1 s2 m => Sys2Proof.Machine.execShl k d s1 s2 m s
  | .shr k d s1 s2 m => Sys2Proof.Machine.execShr k d s1 s2 m s
  | .shra k d s1 s2 m => Sys2Proof.Machine.execShra k d s1 s2 m s
  | .mov k d s1 m => Sys2Proof.Machine.execMov k d s1 m s
  | .neg k d s1 m => Sys2Proof.Machine.execNeg k d s1 m s
  | .abs k d s1 m => Sys2Proof.Machine.execAbs k d s1 m s
  | .not k d s1 m => Sys2Proof.Machine.execNot k d s1 m s
  | .slide k d src len m => Sys2Proof.Machine.execSlide k d src len m s
  | .addi k d s1 imm m => Sys2Proof.Machine.execAddi k d s1 imm m s
  | .andi k d s1 imm m => Sys2Proof.Machine.execAndi k d s1 imm m s
  | .shli k d s1 sh m => Sys2Proof.Machine.execShli k d s1 sh m s
  | .shri k d s1 sh m => Sys2Proof.Machine.execShri k d s1 sh m s
  | .shrai k d s1 sh m => Sys2Proof.Machine.execShrai k d s1 sh m s
  | .cmp k s1 s2 m => Sys2Proof.Machine.execCmp k s1 s2 m s
  | .cmpi k s1 imm m => Sys2Proof.Machine.execCmpi k s1 imm m s
  | .movfr k d x m => Sys2Proof.Machine.execMovfr k d x m s
  | .movto k d x m => Sys2Proof.Machine.execMovto k d x m s
  | .mac k a x y sg m => Sys2Proof.Machine.execMac k a x y sg m s
  | .msu k a x y sg m => Sys2Proof.Machine.execMsu k a x y sg m s
  | .mul k a x y sg m => Sys2Proof.Machine.execMul k a x y sg m s
  | .muln k a x y sg m => Sys2Proof.Machine.execMuln k a x y sg m s
  | .aclr k a m => Sys2Proof.Machine.execAclr k a m s
  | .aadd k a b m => Sys2Proof.Machine.execAadd k a b m s
  | .asub k a b m => Sys2Proof.Machine.execAsub k a b m s
  | .mova k a x m => Sys2Proof.Machine.execMova k a x m s
  | .movap k a part x m => Sys2Proof.Machine.execMovap k a part x m s
  | .rnd k d a sh m => Sys2Proof.Machine.execRnd k d a sh m s
  | .raw k d a part m => Sys2Proof.Machine.execRaw k d a part m s
  | .lda k a coil p mode m => Sys2Proof.Machine.execLda k a coil p mode m s
  | .br k t => Sys2Proof.Machine.execBr k t s
  | .brc k c t => Sys2Proof.Machine.execBrc k c t s
  | .call k t => Sys2Proof.Machine.execCall k t s
  | .ret k => Sys2Proof.Machine.execRet k s
  | .rep k stop count => Sys2Proof.Machine.execRep k stop count s
  | .repd k stop d => Sys2Proof.Machine.execRepd k stop d s
  | .done k => Sys2Proof.Machine.execDone k s
  | .ldi k d imm => Sys2Proof.Machine.execLdi k d imm s
  | .ldia k x imm => Sys2Proof.Machine.execLdia k x imm s
  | .reservedInstruction k => Sys2Proof.Machine.execReservedInstruction k s
  | .roundBoundary late => Sys2Proof.Machine.execRoundBoundary late s
  | .weavePass => Sys2Proof.Machine.execWeavePass s
  | .borderPass => Sys2Proof.Machine.execBorderPass s
  | .weaveNop host a idx w0 w1 w2 succEn => Sys2Proof.Machine.execWeaveNop host a idx w0 w1 w2 succEn s
  | .weaveSet host a idx w0 w1 w2 succEn => Sys2Proof.Machine.execWeaveSet host a idx w0 w1 w2 succEn s
  | .weaveChange host a idx w0 w1 w2 succEn => Sys2Proof.Machine.execWeaveChange host a idx w0 w1 w2 succEn s
  | .weaveRemove host a idx w0 w1 w2 succEn => Sys2Proof.Machine.execWeaveRemove host a idx w0 w1 w2 succEn s
  | .weaveMute host a idx w0 w1 w2 succEn => Sys2Proof.Machine.execWeaveMute host a idx w0 w1 w2 succEn s
  | .weaveUnmute host a idx w0 w1 w2 succEn => Sys2Proof.Machine.execWeaveUnmute host a idx w0 w1 w2 succEn s
  | .weaveCut host a idx w0 w1 w2 succEn => Sys2Proof.Machine.execWeaveCut host a idx w0 w1 w2 succEn s
  | .weaveCmdValidate host => Sys2Proof.Machine.execWeaveCmdValidate host s
  | .weaveAgrpSet a grp => Sys2Proof.Machine.execWeaveAgrpSet a grp s
  | .weaveAgrpClr a grp => Sys2Proof.Machine.execWeaveAgrpClr a grp s
  | .weaveHpfWrite a n v => Sys2Proof.Machine.execWeaveHpfWrite a n v s
  | .weaveGenCfgWrite a g v => Sys2Proof.Machine.execWeaveGenCfgWrite a g v s
  | .weaveMtrClr a m v => Sys2Proof.Machine.execWeaveMtrClr a m v s
  | .meterWindowEnd m => Sys2Proof.Machine.execMeterWindowEnd m s
  | .weaveRunWrite a v => Sys2Proof.Machine.execWeaveRunWrite a v s
  | .routeTableWrite a w v => Sys2Proof.Machine.execRouteTableWrite a w v s
  | .borderRunWrite a v => Sys2Proof.Machine.execBorderRunWrite a v s
  | .borderSectionWrite a ch k b0 b1 b2 a1 a2 clr => Sys2Proof.Machine.execBorderSectionWrite a ch k b0 b1 b2 a1 a2 clr s
  | .borderCtlWordWrite a ch d0 d1 d2 d3 d4 clr => Sys2Proof.Machine.execBorderCtlWordWrite a ch d0 d1 d2 d3 d4 clr s
  | .borderCeilWrite a ch d0 d1 d2 d3 d4 clr => Sys2Proof.Machine.execBorderCeilWrite a ch d0 d1 d2 d3 d4 clr s
  | .borderCmdValidate => Sys2Proof.Machine.execBorderCmdValidate s
  | .routeEntryEccUe j => Sys2Proof.Machine.execRouteEntryEccUe j s
  | .borderRecordEccUe ch => Sys2Proof.Machine.execBorderRecordEccUe ch s
  | .coilGrant k wait => Sys2Proof.Machine.execCoilGrant k wait s
  | .stakeDoneSignal k => Sys2Proof.Machine.execStakeDoneSignal k s
  | .waleStart c => Sys2Proof.Machine.execWaleStart c s
  | .budgetPoint c => Sys2Proof.Machine.execBudgetPoint c s
  | .digestWrite c => Sys2Proof.Machine.execDigestWrite c s
  | .clCtlStart a c => Sys2Proof.Machine.execClCtlStart a c s
  | .clCtlReinit a c => Sys2Proof.Machine.execClCtlReinit a c s
  | .clCtlIsolate a c on => Sys2Proof.Machine.execClCtlIsolate a c on s
  | .loadingDone c => Sys2Proof.Machine.execLoadingDone c s
  | .throttleDown r => Sys2Proof.Machine.execThrottleDown r s
  | .throttleUp r => Sys2Proof.Machine.execThrottleUp r s
  | .tempSensorUpdate j t => Sys2Proof.Machine.execTempSensorUpdate j t s
  | .cdTrip j => Sys2Proof.Machine.execCdTrip j s
  | .thermalUngate r => Sys2Proof.Machine.execThermalUngate r s
  | .pilotEstimate l => Sys2Proof.Machine.execPilotEstimate l s
  | .reportStale l => Sys2Proof.Machine.execReportStale l s
  | .broadbandEstimate l => Sys2Proof.Machine.execBroadbandEstimate l s
  | .supvLearn a => Sys2Proof.Machine.execSupvLearn a s
  | .learnDone => Sys2Proof.Machine.execLearnDone s
  | .lineStateWrite a l v => Sys2Proof.Machine.execLineStateWrite a l v s
  | .micCheckPeriod m => Sys2Proof.Machine.execMicCheckPeriod m s
  | .pdmDensityPeriod m ones steady => Sys2Proof.Machine.execPdmDensityPeriod m ones steady s
  | .tiEstimate j => Sys2Proof.Machine.execTiEstimate j s
  | .ambientReport z => Sys2Proof.Machine.execAmbientReport z s
  | .sweepEnd => Sys2Proof.Machine.execSweepEnd s
  | .contactBandChange j v => Sys2Proof.Machine.execContactBandChange j v s
  | .contactFilterAccept j => Sys2Proof.Machine.execContactFilterAccept j s
  | .alarmMsgArrival p src prot body => Sys2Proof.Machine.execAlarmMsgArrival p src prot body s
  | .alarmMsgStart => Sys2Proof.Machine.execAlarmMsgStart s
  | .alarmMsgStop => Sys2Proof.Machine.execAlarmMsgStop s
  | .alarmMsgReset => Sys2Proof.Machine.execAlarmMsgReset s
  | .alarmCmdStart a t => Sys2Proof.Machine.execAlarmCmdStart a t s
  | .alarmCmdStop a t => Sys2Proof.Machine.execAlarmCmdStop a t s
  | .alarmCmdReset a => Sys2Proof.Machine.execAlarmCmdReset a s
  | .alarmRunWrite a v => Sys2Proof.Machine.execAlarmRunWrite a v s
  | .messagePlayEnd p => Sys2Proof.Machine.execMessagePlayEnd p s
  | .chunkFetchDone p read => Sys2Proof.Machine.execChunkFetchDone p read s
  | .tailFail p => Sys2Proof.Machine.execTailFail p s
  | .xoLoss => Sys2Proof.Machine.execXoLoss s
  | .tdmRxFrame n line rate delay => Sys2Proof.Machine.execTdmRxFrame n line rate delay s
  | .tdmTxFrame n late => Sys2Proof.Machine.execTdmTxFrame n late s
  | .inputLoss j c => Sys2Proof.Machine.execInputLoss j c s
  | .inputFadeEnd j => Sys2Proof.Machine.execInputFadeEnd j s
  | .inputReturn j => Sys2Proof.Machine.execInputReturn j s
  | .inputRampEnd j => Sys2Proof.Machine.execInputRampEnd j s
  | .tdmMaskWrite a n tx v => Sys2Proof.Machine.execTdmMaskWrite a n tx v s
  | .tdmMaskCommit n => Sys2Proof.Machine.execTdmMaskCommit n s
  | .tdmRunWrite a n v => Sys2Proof.Machine.execTdmRunWrite a n v s
  | .pdmMicEnable a v => Sys2Proof.Machine.execPdmMicEnable a v s
  | .pdmWakeEnd j => Sys2Proof.Machine.execPdmWakeEnd j s
  | .aesLock j => Sys2Proof.Machine.execAesLock j s
  | .aesLockLoss j => Sys2Proof.Machine.execAesLockLoss j s
  | .aesCsBlock j c bytes => Sys2Proof.Machine.execAesCsBlock j c bytes s
  | .asrcLock ch ratio dev => Sys2Proof.Machine.execAsrcLock ch ratio dev s
  | .asrcLockLoss ch => Sys2Proof.Machine.execAsrcLockLoss ch s
  | .trigInEdge a b => Sys2Proof.Machine.execTrigInEdge a b s
  | .netFrameReceive p f => Sys2Proof.Machine.execNetFrameReceive p f s
  | .pauseFrameReceive p f quanta => Sys2Proof.Machine.execPauseFrameReceive p f quanta s
  | .pauseEnd p => Sys2Proof.Machine.execPauseEnd p s
  | .pauseWatchdog p => Sys2Proof.Machine.execPauseWatchdog p s
  | .txFrameStart p => Sys2Proof.Machine.execTxFrameStart p s
  | .gateEntryChange p => Sys2Proof.Machine.execGateEntryChange p s
  | .gclCommit a p v => Sys2Proof.Machine.execGclCommit a p v s
  | .netRestart a p en => Sys2Proof.Machine.execNetRestart a p en s
  | .linkUp l m => Sys2Proof.Machine.execLinkUp l m s
  | .linkDown l => Sys2Proof.Machine.execLinkDown l s
  | .speedLowerTry p => Sys2Proof.Machine.execSpeedLowerTry p s
  | .lpiEntry p => Sys2Proof.Machine.execLpiEntry p s
  | .txRingTailWrite a p v => Sys2Proof.Machine.execTxRingTailWrite a p v s
  | .rxRingTailWrite a r v => Sys2Proof.Machine.execRxRingTailWrite a r v s
  | .netVlogGo a => Sys2Proof.Machine.execNetVlogGo a s
  | .violationWindowEnd e c => Sys2Proof.Machine.execViolationWindowEnd e c s
  | .quarantineEnd e => Sys2Proof.Machine.execQuarantineEnd e s
  | .netQclr a e => Sys2Proof.Machine.execNetQclr a e s
  | .streamFrameSend j => Sys2Proof.Machine.execStreamFrameSend j s
  | .ctxEnable a j v => Sys2Proof.Machine.execCtxEnable a j v s
  | .frerResetTimeout j => Sys2Proof.Machine.execFrerResetTimeout j s
  | .digestFrameSend => Sys2Proof.Machine.execDigestFrameSend s
  | .pairDigestReceive p => Sys2Proof.Machine.execPairDigestReceive p s
  | .partnerLost => Sys2Proof.Machine.execPartnerLost s
  | .pairAlarmStartReceive p t k ramp => Sys2Proof.Machine.execPairAlarmStartReceive p t k ramp s
  | .pairActionReceive p acts params => Sys2Proof.Machine.execPairActionReceive p acts params s
  | .pairCopyReceive p => Sys2Proof.Machine.execPairCopyReceive p s
  | .pairMirrorReceive p => Sys2Proof.Machine.execPairMirrorReceive p s
  | .pairRegsReceive p => Sys2Proof.Machine.execPairRegsReceive p s
  | .pairHubReceive p pos r => Sys2Proof.Machine.execPairHubReceive p pos r s
  | .pairControlReceive p c => Sys2Proof.Machine.execPairControlReceive p c s
  | .pairLaneResend l => Sys2Proof.Machine.execPairLaneResend l s
  | .pairWithdraw a => Sys2Proof.Machine.execPairWithdraw a s
  | .pairRejoin a => Sys2Proof.Machine.execPairRejoin a s
  | .autoRejoin => Sys2Proof.Machine.execAutoRejoin s
  | .pairListenTimeout => Sys2Proof.Machine.execPairListenTimeout s
  | .bulkPhaseEnd => Sys2Proof.Machine.execBulkPhaseEnd s
  | .rejoinTimeout => Sys2Proof.Machine.execRejoinTimeout s
  | .rejoinAckTimeout => Sys2Proof.Machine.execRejoinAckTimeout s
  | .ptpSync h origin rx freq => Sys2Proof.Machine.execPtpSync h origin rx freq s
  | .ptpAnnounce h d => Sys2Proof.Machine.execPtpAnnounce h d s
  | .ptpDelayResp h t3 t4 => Sys2Proof.Machine.execPtpDelayResp h t3 t4 s
  | .ptpDelayReq h rx => Sys2Proof.Machine.execPtpDelayReq h rx s
  | .ptpPdelayReq h rx => Sys2Proof.Machine.execPtpPdelayReq h rx s
  | .ptpPdelayResp h t1 t2 t3 t4 => Sys2Proof.Machine.execPtpPdelayResp h t1 t2 t3 t4 s
  | .ptpSignaling h link sync ann => Sys2Proof.Machine.execPtpSignaling h link sync ann s
  | .ptpManagement h => Sys2Proof.Machine.execPtpManagement h s
  | .masterLost => Sys2Proof.Machine.execMasterLost s
  | .stepConfirm => Sys2Proof.Machine.execStepConfirm s
  | .timeStep => Sys2Proof.Machine.execTimeStep s
  | .timeSnap a => Sys2Proof.Machine.execTimeSnap a s
  | .timeTsqPop a p => Sys2Proof.Machine.execTimeTsqPop a p s
  | .rtcPeriodMeasure per => Sys2Proof.Machine.execRtcPeriodMeasure per s
  | .pairSkewReport => Sys2Proof.Machine.execPairSkewReport s
  | .saRoute a setH w => Sys2Proof.Machine.execSaRoute a setH w s
  | .saBorder a setH w => Sys2Proof.Machine.execSaBorder a setH w s
  | .saAlarmStart a setH w => Sys2Proof.Machine.execSaAlarmStart a setH w s
  | .saAlarmStop a setH w => Sys2Proof.Machine.execSaAlarmStop a setH w s
  | .saAlarmReset a setH w => Sys2Proof.Machine.execSaAlarmReset a setH w s
  | .saAlarmEngage a setH w => Sys2Proof.Machine.execSaAlarmEngage a setH w s
  | .saAlarmRelease a setH w => Sys2Proof.Machine.execSaAlarmRelease a setH w s
  | .timeSaCancel a setH tag => Sys2Proof.Machine.execTimeSaCancel a setH tag s
  | .selectorEvaluate => Sys2Proof.Machine.execSelectorEvaluate s
  | .refLos r => Sys2Proof.Machine.execRefLos r s
  | .refQualify r => Sys2Proof.Machine.execRefQualify r s
  | .refFreqDisqualify r => Sys2Proof.Machine.execRefFreqDisqualify r s
  | .wtrExpire r => Sys2Proof.Machine.execWtrExpire r s
  | .switchDone => Sys2Proof.Machine.execSwitchDone s
  | .distrustEnd r => Sys2Proof.Machine.execDistrustEnd r s
  | .outCfgWrite a o ofs v => Sys2Proof.Machine.execOutCfgWrite a o ofs v s
  | .hello f => Sys2Proof.Machine.execHello f s
  | .helloSend => Sys2Proof.Machine.execHelloSend s
  | .attestReq f => Sys2Proof.Machine.execAttestReq f s
  | .attestResp f => Sys2Proof.Machine.execAttestResp f s
  | .linkAdmit f => Sys2Proof.Machine.execLinkAdmit f s
  | .refuse f => Sys2Proof.Machine.execRefuse f s
  | .inventory f => Sys2Proof.Machine.execInventory f s
  | .bye f => Sys2Proof.Machine.execBye f s
  | .zoneCmd o => Sys2Proof.Machine.execZoneCmd o s
  | .zoneAck f => Sys2Proof.Machine.execZoneAck f s
  | .event f => Sys2Proof.Machine.execEvent f s
  | .linkAnnounce f sap => Sys2Proof.Machine.execLinkAnnounce f sap s
  | .mgrBeat f => Sys2Proof.Machine.execMgrBeat f s
  | .mgrBeatSend => Sys2Proof.Machine.execMgrBeatSend s
  | .dirSync f => Sys2Proof.Machine.execDirSync f s
  | .linkWake f => Sys2Proof.Machine.execLinkWake f s
  | .mboxRemote f => Sys2Proof.Machine.execMboxRemote f s
  | .mboxRemoteAck f => Sys2Proof.Machine.execMboxRemoteAck f s
  | .linkAck f => Sys2Proof.Machine.execLinkAck f s
  | .linkNak f => Sys2Proof.Machine.execLinkNak f s
  | .linkResendTimeout => Sys2Proof.Machine.execLinkResendTimeout s
  | .nodeLostTimeout n => Sys2Proof.Machine.execNodeLostTimeout n s
  | .reattestTimer n => Sys2Proof.Machine.execReattestTimer n s
  | .leaseExpire n => Sys2Proof.Machine.execLeaseExpire n s
  | .zoneCmdResend tag => Sys2Proof.Machine.execZoneCmdResend tag s
  | .managerStartListenEnd => Sys2Proof.Machine.execManagerStartListenEnd s
  | .managerTakeover => Sys2Proof.Machine.execManagerTakeover s
  | .mboxRemoteTimeout k => Sys2Proof.Machine.execMboxRemoteTimeout k s
  | .capSkeinImage a slot k flashOk => Sys2Proof.Machine.execCapSkeinImage a slot k flashOk s
  | .capFwBundle a b flashOk => Sys2Proof.Machine.execCapFwBundle a b flashOk s
  | .capAlarmStore a flashOk => Sys2Proof.Machine.execCapAlarmStore a flashOk s
  | .activatePending a => Sys2Proof.Machine.execActivatePending a s
  | .activateReset a => Sys2Proof.Machine.execActivateReset a s
  | .activateInPlace a badMsgs => Sys2Proof.Machine.execActivateInPlace a badMsgs s
  | .capStk a flashOk => Sys2Proof.Machine.execCapStk a flashOk s
  | .capSvnFloor a => Sys2Proof.Machine.execCapSvnFloor a s
  | .capLifecycle a => Sys2Proof.Machine.execCapLifecycle a s
  | .capStreamSet a l => Sys2Proof.Machine.execCapStreamSet a l s
  | .flashProgram a => Sys2Proof.Machine.execFlashProgram a s
  | .flashErase a => Sys2Proof.Machine.execFlashErase a s
  | .flashOpDone good => Sys2Proof.Machine.execFlashOpDone good s
  | .attestEvidenceGo a => Sys2Proof.Machine.execAttestEvidenceGo a s
  | .debugNonceRequest => Sys2Proof.Machine.execDebugNonceRequest s
  | .debugTokenSubmit token => Sys2Proof.Machine.execDebugTokenSubmit token s
  | .upsettStart b => Sys2Proof.Machine.execUpsettStart b s
  | .trialConfirm => Sys2Proof.Machine.execTrialConfirm s
  | .lockRead a n => Sys2Proof.Machine.execLockRead a n s
  | .lockRelease a n v => Sys2Proof.Machine.execLockRelease a n v s
  | .mboxSend a k => Sys2Proof.Machine.execMboxSend a k s
  | .mboxRelease a k => Sys2Proof.Machine.execMboxRelease a k s
  | .mboxAckTimeout a k => Sys2Proof.Machine.execMboxAckTimeout a k s
  | .masterPortReset p => Sys2Proof.Machine.execMasterPortReset p s
  | .portReconnect p => Sys2Proof.Machine.execPortReconnect p s
  | .stallLimit => Sys2Proof.Machine.execStallLimit s
  | .pcieReset => Sys2Proof.Machine.execPcieReset s
  | .qspiRead addr len => Sys2Proof.Machine.execQspiRead addr len s
  | .qspiQuadRead addr len => Sys2Proof.Machine.execQspiQuadRead addr len s
  | .qspiWrite addr bytes => Sys2Proof.Machine.execQspiWrite addr bytes s
  | .qspiQuadWrite addr bytes => Sys2Proof.Machine.execQspiQuadWrite addr bytes s
  | .qspiStatus => Sys2Proof.Machine.execQspiStatus s
  | .pwrGoRun a => Sys2Proof.Machine.execPwrGoRun a s
  | .pwrGoTrim a => Sys2Proof.Machine.execPwrGoTrim a s
  | .pwrGoWatch a => Sys2Proof.Machine.execPwrGoWatch a s
  | .pwrGoRim a => Sys2Proof.Machine.execPwrGoRim a s
  | .participantAnswer busy => Sys2Proof.Machine.execParticipantAnswer busy s
  | .participantTimeout => Sys2Proof.Machine.execParticipantTimeout s
  | .handshakeBackoffEnd => Sys2Proof.Machine.execHandshakeBackoffEnd s
  | .rtcAlarm => Sys2Proof.Machine.execRtcAlarm s
  | .wakeNAssert => Sys2Proof.Machine.execWakeNAssert s
  | .wakeFilterFrame f => Sys2Proof.Machine.execWakeFilterFrame f s
  | .hubReady => Sys2Proof.Machine.execHubReady s
  | .demandWakeDone d => Sys2Proof.Machine.execDemandWakeDone d s
  | .demandIdleGate d => Sys2Proof.Machine.execDemandIdleGate d s
  | .supplyMonitorUpdate j mv => Sys2Proof.Machine.execSupplyMonitorUpdate j mv s
  | .roMonitorUpdate j count => Sys2Proof.Machine.execRoMonitorUpdate j count s
  | .emCanaryUpdate open_ => Sys2Proof.Machine.execEmCanaryUpdate open_ s
  | .eolUpdate => Sys2Proof.Machine.execEolUpdate s
  | .healthScoreUpdate => Sys2Proof.Machine.execHealthScoreUpdate s
  | .wardenWatchdogExpire => Sys2Proof.Machine.execWardenWatchdogExpire s
  | .wdgClear => Sys2Proof.Machine.execWdgClear s
  | .recovRetry a f u => Sys2Proof.Machine.execRecovRetry a f u s
  | .recovReinit a f u => Sys2Proof.Machine.execRecovReinit a f u s
  | .recovDeviceReset a f u => Sys2Proof.Machine.execRecovDeviceReset a f u s
  | .recovPowerCycle a f u => Sys2Proof.Machine.execRecovPowerCycle a f u s
  | .wedgeDetect w => Sys2Proof.Machine.execWedgeDetect w s
  | .pwrReset a key => Sys2Proof.Machine.execPwrReset a key s
  | .pwrCycle a key => Sys2Proof.Machine.execPwrCycle a key s
  | .powerCycleFail => Sys2Proof.Machine.execPowerCycleFail s
  | .rstNAssert => Sys2Proof.Machine.execRstNAssert s
  | .rstNRelease role testEn => Sys2Proof.Machine.execRstNRelease role testEn s
  | .vddRimLow => Sys2Proof.Machine.execVddRimLow s
  | .rimRtcRead a => Sys2Proof.Machine.execRimRtcRead a s
  | .registerWrite a reg size v => Sys2Proof.Machine.execRegisterWrite a reg size v s
  | .markingEdge k phase freq => Sys2Proof.Machine.execMarkingEdge k phase freq s
  | .xoReturn => Sys2Proof.Machine.execXoReturn s
  | .rtcCrystalFail => Sys2Proof.Machine.execRtcCrystalFail s
  | .pcieLinkDown => Sys2Proof.Machine.execPcieLinkDown s
  | .aes3FrameReceive j a b z rate delay => Sys2Proof.Machine.execAes3FrameReceive j a b z rate delay s
  | .aes3FrameSend o => Sys2Proof.Machine.execAes3FrameSend o s
  | .demandAccess p addr write v => Sys2Proof.Machine.execDemandAccess p addr write v s
  | .accessError p addr size => Sys2Proof.Machine.execAccessError p addr size s
  | .powerUpDone d => Sys2Proof.Machine.execPowerUpDone d s
  | .weaveReservedOp host a op idx w0 w1 w2 succEn => Sys2Proof.Machine.execWeaveReservedOp host a op idx w0 w1 w2 succEn s
  | .borderReservedItem a ch item d0 d1 d2 d3 d4 clr => Sys2Proof.Machine.execBorderReservedItem a ch item d0 d1 d2 d3 d4 clr s
  | .saBadkind a setH kind w => Sys2Proof.Machine.execSaBadkind a setH kind w s
  | .capReservedKind a => Sys2Proof.Machine.execCapReservedKind a s
  | .alarmMsgReservedKind => Sys2Proof.Machine.execAlarmMsgReservedKind s
  | .linkReservedType f => Sys2Proof.Machine.execLinkReservedType f s

end Sys2Proof.Machine
end

