-- ==== Sys2Proof/Machine/Step.lean ====
section
/-! DEFINITION. Machine/Step.lean: one step of the part. -/
namespace Sys2Proof.Machine

/-- The command at the front of the queue, run with the queue's rest; with no command waiting the part idles for
one fabric cycle (DESIGN CHOICE, notes/assumptions/1.md). -/
def step (s : State) : Host.Outcome State Fault Refusal :=
  match s.pending with
  | [] => .next { s with now := s.now + 15 }
  | c :: rest => exec c { s with pending := rest }

/-- The state with the command that a table word spells put at the front of the queue: the table gives no row bits,
so no word spells a command. -/
def State.withFetchWord (s : State) (nbits w : Nat) : State :=
  match decodeTableWord nbits w with
  | some c => { s with pending := c :: s.pending }
  | none => s

end Sys2Proof.Machine
end

