-- ==== Sys2Proof/Machine/Interrupts.lean ====
section
/-! DEFINITION. Machine/Interrupts.lean: the interrupts that the state asserts, and the agents that they reach (R158, R244,
R370, R467, R471, R510, R512); that BORDER_EVT interrupts the Warden is DEDUCED from WEAVE_EVT (notes/assumptions/107.md).
No command takes an interrupt: an agent answers one with commands of its own. -/
namespace Sys2Proof.Machine

open Reg

/-- The event registers whose bits interrupt the Warden, each with its enables. -/
def wardenEvents : List (Nat × Nat) :=
  [(PWR_EVT, PWR_IRQ_EN), (MATRIX_EVT, MATRIX_IRQ_EN), (MBOX_EVT, MBOX_IRQ_EN), (LOCK_EVT, LOCK_IRQ_EN),
    (WEAVE_EVT, WEAVE_IRQ_EN), (BORDER_EVT, BORDER_IRQ_EN), (PDM_EVT, PDM_IRQ_EN), (AES_EVT, AES_IRQ_EN),
    (ASRC_EVT, ASRC_IRQ_EN), (TRIG_EVT, TRIG_IRQ_EN), (PAIR_EVT, PAIR_IRQ_EN), (REFSEL_EVT, REFSEL_IRQ_EN),
    (ALARM_EVT, ALARM_IRQ_EN), (SUPV_EVT, SUPV_IRQ_EN), (TRUST_EVT, TRUST_IRQ_EN), (HEALTH_EVT, HEALTH_IRQ_EN)]
  ++ (List.range 32).map (fun i => (TDM_EVT i, TDM_IRQ_EN i))
  ++ (List.range 16).map (fun c => (CL_EVT c, CL_IRQ_EN c))
  ++ (List.range 4).map (fun r => (REG_EVT r, REG_IRQ_EN r))

/-- The event registers whose bits interrupt the Net controller. -/
def netEvents : List (Nat × Nat) :=
  (List.range 7).map (fun p => (NET_EVT p, NET_IRQ_EN p))
  ++ [(NET_CEVT, NET_CIRQ_EN), (STREAM_EVT, STREAM_IRQ_EN), (TIME_EVT, TIME_IRQ_EN)]

/-- Whether an event register and its enables assert an interrupt. -/
def State.eventIrq (s : State) (e : Nat × Nat) : Bool := s.reg e.1 &&& s.reg e.2 != 0#32

/-- Doorbells and acknowledgements that interrupt an agent (R467). -/
def State.doorbellIrq (s : State) (a : Nat) : Bool := s.reg (MBOX_DB a) &&& ~~~(s.reg (MBOX_MASK a)) != 0#32
def State.ackIrq (s : State) (a : Nat) : Bool := s.reg (MBOX_ACK a) &&& ~~~(s.reg (MBOX_ACK_MASK a)) != 0#32

/-- Whether an agent is interrupted. -/
def State.irq (s : State) (a : Agent) : Bool :=
  (Nat.blt a.val 6 && (s.doorbellIrq a.val || s.ackIrq a.val))
    || (a.val == 1 && wardenEvents.any s.eventIrq) || (a.val == 2 && netEvents.any s.eventIrq)

/-- What stands behind the first three MSI-X vectors: doorbells, acknowledgements and TRUST_EVT.CAP_DONE (R471). -/
def State.msix (s : State) (v : Fin 3) : Bool :=
  match v with
  | 0 => s.doorbellIrq 3
  | 1 => s.ackIrq 3
  | 2 => s.flag TRUST_EVT_CAP_DONE

end Sys2Proof.Machine
end

