-- ==== Sys2Proof/WellFormed.lean ====
section
/-! DEFINITION. WellFormed.lean: the commands that some encoding of the spec spells (R110, R117, R118, R122, R123). The
types of the operands admit no other value than the spec's; the checks here are those that tie a value to a row. -/
namespace Sys2Proof

/-- The window of a filter tap or a fractional delay: W = 7 is reserved (R117). -/
def windowOk (w : Fin 8) : Bool := w.val != 7

/-- The run of a SLIDE ends at d31 (R122). -/
def slideOk (d : Fin 32) (len : Fin 3) : Bool := Nat.ble (d.val + len.val + 1) 31

/-- The destinations of MOVTO (R123): RCNT is none. -/
def movtoOk (x : SReg) : Bool := x != .rcnt

/-- The destinations of LDIA (R123): neither ST nor RCNT, and a loop counter takes 16 bits. -/
def ldiaOk (x : SReg) (imm : BitVec 20) : Bool :=
  match x with
  | .st | .rcnt => false
  | .lc _ => Nat.blt imm.toNat 65536
  | _ => true

/-- Whether a command is well formed. -/
def Instr.wf : Instr → Bool
  | .ftap _ _ _ w _ => windowOk w
  | .ftapz _ _ _ w _ => windowOk w
  | .fdly _ _ w _ _ _ => windowOk w
  | .slide _ d _ len _ => slideOk d len
  | .movto _ _ x _ => movtoOk x
  | .ldia _ x imm => ldiaOk x imm
  | _ => true


end Sys2Proof
end

