-- ==== Sys2Proof/Safety.lean ====
section
/-! DEFINITION. Safety.lean: the terms that the claims use: what two states share, which accesses an agent's path lets
through, the canonical form of sparse data, and the stake commands that a stake's program memory spells. -/
namespace Sys2Proof.Machine

/-! ### Frames -/

/-- The pieces of a state beside its registers and the note of which event bits the present fabric cycle set (R5). -/
inductive Piece where
  | pending | now | fv | bus | mem | ecc | sys | weave | border | compute | net | streams | pair | trust | power
  | hoop | refsel | alarm | supv | skein | link | matrix | ports
deriving DecidableEq, Repr

/-- Whether two states hold the same piece; memory is compared byte by byte. -/
def Piece.same (s t : State) : Piece → Prop
  | .pending => t.pending = s.pending
  | .now => t.now = s.now
  | .fv => t.fv = s.fv
  | .bus => t.bus = s.bus
  | .mem => ∀ a, t.byte a = s.byte a
  | .ecc => t.ecc = s.ecc
  | .sys => t.sys = s.sys
  | .weave => t.weave = s.weave
  | .border => t.border = s.border
  | .compute => t.compute = s.compute
  | .net => t.net = s.net
  | .streams => t.streams = s.streams
  | .pair => t.pair = s.pair
  | .trust => t.trust = s.trust
  | .power => t.power = s.power
  | .hoop => t.hoop = s.hoop
  | .refsel => t.refsel = s.refsel
  | .alarm => t.alarm = s.alarm
  | .supv => t.supv = s.supv
  | .skein => t.skein = s.skein
  | .link => t.link = s.link
  | .matrix => t.matrix = s.matrix
  | .ports => t.ports = s.ports

/-- Nothing changes from `s` to `t` but the registers and the pieces named. -/
def Frame (regs : List Nat) (pieces : List Piece) (s t : State) : Prop :=
  (∀ a, a ∉ regs → t.reg a = s.reg a) ∧ ∀ p, p ∉ pieces → p.same s t

/-- Registers of a file of `n` equal ones. -/
def regFile (r : Nat → Nat) (n : Nat) : List Nat := (List.range n).map r

/-- Every register from one offset to another. -/
def regsIn (lo hi : Nat) : List Nat := List.range' lo (hi + 1 - lo)

/-- The command completes: its next state keeps everything but the registers and pieces named, and meets a property. -/
def Does (i : Instr) (s : State) (regs : List Nat) (pieces : List Piece) (P : State → Prop) : Prop :=
  ∃ t, exec i s = .next t ∧ Frame regs pieces s t ∧ P t

/-- A register with the one-bit fields named set and every other bit kept. -/
def State.raised (s : State) (reg : Nat) (fs : List RegField) : Word :=
  fs.foldl (fun v f => setBits v f.hi f.lo 1) (s.reg reg)

/-- Registers that a report of the Warden may change: the log's wear and the fault outputs (R185, R214, R423). -/
def reportRegs : List Nat := [Reg.TRUST_EVT, Reg.ALARM_FAULT_SW]

/-- Pieces of state that a report of the Warden may change: the log, the line to the manager and its queues. -/
def reportPieces : List Piece := [.trust, .supv, .link, .net]

/-- Registers and pieces that frames sent on the pair link may change (R274, R276, R388): packet numbers of its transmit
associations, the event at their threshold, the count of frames that no association carries, and the log's wear. -/
def laneRegs : List Nat :=
  [Reg.NET_EVT 6, Reg.NET_COUNTERS 6 14, Reg.TRUST_EVT] ++ regFile (Reg.NET_SEC_SA_PN_LO 6) 4 ++ regFile (Reg.NET_SEC_SA_PN_HI 6) 4
def lanePieces : List Piece := [.pair, .net, .trust]

/-- The commands latched after one more (R541). -/
def State.latched (s : State) (now rank : Nat) (c : AlarmCmd) : List Latched := putLatched ⟨cycleAt now, rank, c⟩ s.alarm.cmds

/-- Registers that the reset of a master port may change (R459). -/
def portRegs (p : Nat) : List Nat :=
  Reg.MATRIX_PORT_STAT p :: Reg.MATRIX_EVT :: Reg.LOCK_BROKEN_LO :: Reg.LOCK_BROKEN_HI :: Reg.LOCK_EVT ::
    regFile Reg.LOCK_PEEK 64

/-- Registers that an entry of the violation log may change: the log, the quarantine table and the wear of the log area
(R279, R280, R423). -/
def violRegs : List Nat :=
  [Reg.NET_VLOG_CTL, Reg.NET_CEVT, Reg.TRUST_EVT] ++ regsIn 0x308400 0x3087FF ++ regsIn 0x30C000 0x30FFFF

/-- The registers of the bus matrix that record an error response (R476). -/
def errRegs : List Nat :=
  [Reg.MATRIX_ERR_INFO, Reg.MATRIX_ERR_ADDR_LO, Reg.MATRIX_ERR_ADDR_HI, Reg.MATRIX_ERR_CNT, Reg.MATRIX_EVT]

/-- The command completes with an error response of the block: nothing changes but the error record and the events of
`regs`. -/
def Errs (i : Instr) (s : State) (regs : List Nat) (P : State → Prop) : Prop :=
  Does i s (errRegs ++ regs) [.bus] fun t => t.bus = ⟨true, 0#32⟩ ∧ t.flag Reg.MATRIX_EVT_ERR = true ∧ P t

/-- A link as it is but for what sending a message changes: what was sent, what waits for its acknowledgement, SEQ and the
sealing COUNTER. -/
def Link.but (k l : Link) : Link :=
  { k with out := l.out, sent := l.sent, seq := l.seq, sealNext := l.sealNext, sealTop := l.sealTop }

/-- The link as it stands after a header that was accepted: its source heard and its SEQ kept (R385). -/
def State.linkTaken (s : State) (h : LinkHdr) : Link := ((s.linkHeard h).seqKeep h.src h.seq).link

/-- Whether a frame is one that a command for messages of a TYPE looks at: of that TYPE, on a running port, with Lysle link on
(R380, R384). -/
def State.linkSees (s : State) (ty : Nat) (f : LinkFrame) : Bool := linkTy f == ty && s.linkOn && s.netUp f.port.val

/-- The message in the clear that such a frame carries, unless its source is quarantined or it does not open (R280, R387). -/
def State.linkOpens (s : State) (ty : Nat) (f : LinkFrame) : Option (List Byte) :=
  if s.linkSees ty f = true ∧ s.quarantined f.port.val f.mac.toNat = false then
    (s.linkClear f).filter fun l => byteAt l 1 == ty
  else none

/-- Whether a message is for this node, passes the checks of its header and is no repetition (R381, R385, R412). -/
def State.linkNew (s : State) (ty : Nat) (f : LinkFrame) (l : List Byte) : Bool :=
  let h := linkHdrOf f l
  s.linkMine h.dst && (s.linkDetail ty f h l).isNone && !(mget (fun _ => []) s.link.seen h.src).contains h.seq

/-- Nothing changes outside the directory and the zone map (R396, R397). -/
def dirFrame (s t : State) : Prop :=
  ∀ a, ¬ (0x0510000000 ≤ a ∧ a < 0x0510400000) → ¬ (0x06F00000 ≤ a ∧ a < 0x06F10000) → t.byte a = s.byte a

/-- Whether every endpoint of the system section has an index of the directory. -/
def State.dirFits (s : State) : Bool := s.skein.system.eps.all fun e => Nat.blt e.index (2 ^ 17)

/-- A received message completes: it may be answered, where `ans` holds, and changes nothing beyond the registers and
pieces named. -/
def Takes (i : Instr) (s : State) (ans : Bool) (regs : List Nat) (pieces : List Piece) (P : State → Prop) : Prop :=
  Does i s (regs ++ if ans then [Reg.TRUST_EVT] else []) (pieces ++ if ans then [.link, .net, .trust] else [.link]) P

/-- The last message sent is an answer: its type, destination and body. -/
def State.answered (t : State) (ty dst : Nat) (body : List Nat) : Prop :=
  ∃ q, t.link.sent.getLast? = some ⟨ty, dst, q, body, t.now, 0⟩

/-- Whether a message asks for an acknowledgement (R383). -/
def LinkHdr.ack (h : LinkHdr) : Bool := h.flags % 2 == 1

/-- A received message changes the link alone, to the one given, but for the ACK that it asks for (R385). -/
def TakesQuiet (i : Instr) (s : State) (h : LinkHdr) (k : Link) : Prop :=
  Takes i s h.ack [] [] fun t => t.link = k.but t.link ∧ t.link.out = k.out
    ∧ (h.ack = false → t.link = k)
    ∧ (h.ack = true → t.answered 0x3E h.src [h.seq])

/-- A received message is refused: nothing but the link changes, and a NAK goes out where `ans` holds (R385). -/
def TakesNak (i : Instr) (s : State) (h : LinkHdr) (ans : Bool) (reason : Nat) : Prop :=
  Takes i s ans [] [] fun t => t.link = (s.linkTaken h).but t.link ∧ (ans = false → t.link = s.linkTaken h)
    ∧ (ans = true → t.answered 0x3F h.src [h.seq, reason, 0])

/-- The entry of the violation log that a step wrote has a class and a DETAIL (R279). -/
def logsBad (s t : State) (cls detail : Nat) : Prop :=
  bitsOf (t.reg (Reg.NET_VLOG (s.rf Reg.NET_VLOG_CTL_HEAD) 1)) 31 24 = cls
    ∧ bitsOf (t.reg (Reg.NET_VLOG (s.rf Reg.NET_VLOG_CTL_HEAD) 1)) 15 0 = detail

/-- Every place of the quarantine table has one of its 64 numbers (R280). -/
def State.tableFits (s : State) : Prop := ∀ e ∈ s.net.table, e.1 < 64

/-- Registers that a frame received on the pair link may change besides (R256, R275, R386): its count, the packet numbers of
the associations of port 6, and the receive channels whose old association goes. -/
def pairRegs : List Nat :=
  Reg.NET_COUNTERS 6 0 :: regFile (Reg.NET_SEC_SA_PN_LO 6) 132 ++ regFile (Reg.NET_SEC_SA_PN_HI 6) 132
    ++ (List.range 7).flatMap (fun p => regFile (Reg.NET_SEC_RXSC_CTL p) 32) ++ laneRegs

/-- Whether a pairing frame is taken (R256, R274, R303): its lane carries pairing frames, the frame is sound, passes MACsec and
has the form of a pairing frame. -/
def State.pairTakes (s : State) (p : PairFrame) : Bool :=
  s.laneOn p.lane.val && p.frame.good && Nat.ble 64 p.frame.len && Nat.ble p.frame.len (s.maxLen 6)
    && (s.secCheck 6 p.frame).1 == 0 && pairFormOk p

/-- What every command for a received pairing frame does with one that is not taken: nothing on a lane that carries none, and
otherwise no more than count it and log a MACsec failure. -/
def PairFirst (i : Instr) (s : State) (p : PairFrame) : Prop :=
  (s.laneOn p.lane.val = false → exec i s = .next s)
  ∧ (s.laneOn p.lane.val = true → s.pairTakes p = false → s.tableFits →
      Does i s (pairRegs ++ [Reg.NET_COUNTERS 6 1, Reg.NET_COUNTERS 6 2, Reg.NET_COUNTERS 6 5] ++ violRegs) [.net, .trust] fun t =>
        (p.frame.good = false → t.reg (Reg.NET_COUNTERS 6 1) = sat32 (s.reg (Reg.NET_COUNTERS 6 1)))
        ∧ (p.frame.good = true → 64 ≤ p.frame.len → p.frame.len ≤ s.maxLen 6 → (s.secCheck 6 p.frame).1 ≠ 0 →
            logsBad s t 6 (s.secCheck 6 p.frame).1))

/-- A change of a parameter whose lead is there (R160, R161): its record stands in the coil where that can be written, W0 to W7,
and otherwise it waits. -/
def ParamPut (s t : State) (j : ParamJob) : Prop :=
  ∀ c base, s.skein.areas.find? (fun e => e.1 == j.param.cluster) = some (c, base) →
    let a := base + 32 * (j.param.pos % 256)
    let fits := s.bit Reg.PWR_STAT c && s.clState c != clLoading && !s.paramStands a
    (fits = true → t.supv = s.supv ∧ (∀ n, n < 8 → t.word (a + 4 * n) = (j.param.words j.apply).getD n 0#32)
      ∧ ∀ b, ¬ (a ≤ b ∧ b < a + 32) → t.byte b = s.byte b)
    ∧ (fits = false → t.supv = { s.supv with params := s.supv.params ++ [j] } ∧ ∀ b, t.byte b = s.byte b)

/-- Registers and pieces that a zone command served by a node may change (R403, R404). -/
def zoneRegs : List Nat := Reg.TIME_EVT :: laneRegs
def zonePieces : List Piece := [.hoop, .supv, .mem, .ecc, .link] ++ lanePieces

/-- The zone commands that a node keeps after one more: the last 1,024 (R404). -/
def zonesAfter (k : Link) (c : ZoneCmd) (count : Nat) : List ZoneDone :=
  let z := k.zones ++ [⟨c.tag.toNat, c.due.toNat, count, 0, 0, 0, 0⟩]
  z.drop (z.length - 1024)

/-- What a zone command does at a node that serves its zone (R161, R403, R404), `k` its link before: QUEUED is sent; a repetition
does nothing else; otherwise one action for each crosspoint waits for DUE with TAG, and the preset's parameter records are
issued. -/
def ZoneTook (s t : State) (k : Link) (c : ZoneCmd) (b : SkZone) : Prop :=
  let again := k.zones.any fun z => z.tag == c.tag.toNat && z.due == c.due.toNat
  let count := if c.op = 1#8 then (mget (fun _ => []) b.presets c.arg.toNat).length else b.xps.length
  let ps := (s.skein.params.filter fun e => e.1 == .preset c.zone.toNat c.arg.toNat).map (·.2)
  let idle := t.ecc = s.ecc ∧ ∀ a, t.byte a = s.byte a
  (∃ q, ⟨0x11, 0xFFFE, q, [c.tag.toNat, 1, c.due.toNat, 0, 0, 0, 0], s.now, 0⟩ ∈ t.link.sent)
  ∧ (again = true → t.link.zones = k.zones ∧ t.hoop = s.hoop ∧ t.pair = s.pair ∧ t.supv = s.supv ∧ idle
      ∧ t.reg Reg.TIME_EVT = s.reg Reg.TIME_EVT)
  ∧ (again = false → t.link.zones = zonesAfter k c count
      ∧ (s.hoop.queue.length + count ≤ 1024 → t.reg Reg.TIME_EVT = s.reg Reg.TIME_EVT
          ∧ t.hoop.queue.length = s.hoop.queue.length + count ∧ t.hoop.queue.take s.hoop.queue.length = s.hoop.queue
          ∧ ∀ x ∈ t.hoop.queue.drop s.hoop.queue.length, x.due = c.due.toNat ∧ x.tag = c.tag.toNat ∧ x.kind = 1
              ∧ x.setH = false ∧ x.dropLate = false ∧ x.origin = 1 ∧ x.since = s.now)
      ∧ (s.sharing = false → t.pair = s.pair)
      ∧ (c.op ≠ 1#8 ∨ ps = [] → idle ∧ (c.op ≠ 2#8 → t.supv = s.supv))
      ∧ ∀ p, c.op = 1#8 → ps = [p] → ParamPut s t ⟨p, max c.due.toNat (s.sys.roundNo + 4)⟩)

/-- A received message is a violation of a class (R412): logged with its DETAIL, and answered with a NAK where `ans`
holds. -/
def TakesBad (i : Instr) (s : State) (h : LinkHdr) (ans : Bool) (cls detail reason : Nat) : Prop :=
  s.tableFits →
  Takes i s ans violRegs [.net, .trust] fun t => t.link = (s.linkTaken h).but t.link ∧ logsBad s t cls detail
    ∧ (ans = true → t.answered 0x3F h.src [h.seq, reason, detail])

/-- What every command for a received message of a TYPE does before the message is processed (R280, R381, R385, R387, R412):
nothing with a frame of another TYPE or without Lysle link; a frame of a quarantined source is counted; one that does not open
is a violation of class LINK with DETAIL 7; a message for another node changes nothing, one whose header fails a check is a
violation of class LINK, and a repetition is only answered. -/
def HeaderFirst (i : Instr) (s : State) (ty : Nat) (f : LinkFrame) : Prop :=
  (s.linkSees ty f = false → exec i s = .next s)
  ∧ (s.linkSees ty f = true → s.quarantined f.port.val f.mac.toNat = true →
      let c := Reg.NET_COUNTERS f.port.val 4
      Does i s [c] [] fun t => t.reg c = sat32 (s.reg c))
  ∧ (s.linkSees ty f = true → s.quarantined f.port.val f.mac.toNat = false → s.linkOpens ty f = none → s.tableFits →
      Does i s violRegs [.net, .trust] fun t => logsBad s t 7 7)
  ∧ ∀ l, s.linkOpens ty f = some l →
    let h := linkHdrOf f l
    (s.linkMine h.dst = false → exec i s = .next s)
    ∧ (∀ d, s.linkMine h.dst = true → s.linkDetail ty f h l = some d → s.tableFits →
        Does i s (violRegs ++ if h.ack then [Reg.TRUST_EVT] else []) ([.net, .trust] ++ if h.ack then [.link] else []) fun t =>
          logsBad s t 7 d ∧ (h.ack = true → t.answered 0x3F h.src [h.seq, 1, d]))
    ∧ (s.linkMine h.dst = true → s.linkDetail ty f h l = none → s.linkNew ty f l = false →
        TakesQuiet i s h (s.linkHeard h).link)

/-- What a device reset leaves (R9, R246, R426, R474): registers outside the REFSEL, TRUST, MATRIX and LOCK blocks at
their reset values but for those kept, every stake as reset, the Weave and the Border stopped, Upsett due, and the clock,
the Skein's contents, retention SRAM and flash kept. -/
def DeviceReset (s t : State) : Prop :=
  (∀ a, a ∉ regsIn 0x510000 0x51FFFF ++ regsIn 0x700000 0x70FFFF ++ regsIn 0x30000 0x3FFFF ++ regsIn 0x50000 0x5FFFF →
    t.reg a = if keptReg a then s.reg a else regReset a)
  ∧ (∀ k, k < 128 → (t.stake k).run = .held ∧ (t.stake k).arch = Arch.reset)
  ∧ t.weave.running = false ∧ t.border.running = false ∧ t.power.boot = some 1 ∧ t.power.hand = none
  ∧ t.power.wardenUp = false ∧ t.trust.run = none ∧ t.hoop.queue = []
  ∧ (∀ p ∈ [Piece.pending, .now, .skein, .link], p.same s t)
  ∧ ∀ a, 0x0400000000 ≤ a → a < 0x0510000000 → t.byte a = s.byte a

/-! ### Stake programs -/

/-- Whether a command is the one that stake `k` runs next: the instruction that its program memory holds at its program
counter (R77, R110). -/
def State.spells (s : State) (k : Fin 128) (i : Instr) : Bool :=
  decodeStake k (s.dword (pmemPlace k.val (s.stake k.val).arch.pc)) == i

/-! ### Accesses -/

/-- Whether a register access by an agent reaches the block that holds the register: the paths let it through and the
register's domain is awake (R453, R454, R459, R470, R474). -/
def State.reaches (s : State) (a : Agent) (reg : Nat) (write : Bool) : Bool :=
  s.accepted a.val && (s.pathErr a.val reg write).isNone && Nat.blt reg 0x1000000

/-- Whether a register write of a CLUSTER register reaches its block: the paths let it through, its compute die is awake
and no handshake is in progress (R453, R454, R457, R488). -/
def State.reachesDie (s : State) (a : Agent) (reg : Nat) : Bool :=
  s.accepted a.val && (s.pathErr a.val reg true).isNone && !s.regAsleep reg && s.power.hand.isNone

/-- The registers that the correction of an error in memory may reach (R214, R497). -/
def eccRegs : List Nat := Reg.HEALTH_EVT :: Reg.ALARM_FAULT_SW :: regFile Reg.HEALTH_ECC 34

/-- The canonical form of memory: addresses strictly rising, and no byte equal to what an unlisted address reads as. -/
abbrev Memory.wf (m : SMap Byte) : Bool := mwf memReset m

/-- Memory and registers in their canonical form. -/
def State.canonical (s : State) : Bool := mwf memReset s.mem && mwf regReset s.regs

end Sys2Proof.Machine
end

