-- ==== Sys2Proof/Safety/Stake.lean ====
section
/-! DEFINITION. Safety/Stake.lean: what the spec gives each stake instruction, as the claims state it: results of the
d registers and the accumulators, flags, and everything else kept (R87, R88, R90, R91, R115, R117, R118, R121 to
R124, R127 to R129). -/
namespace Sys2Proof

/-! ### Memory slots -/

/-- Destinations of the loads of an instruction's slots. -/
def PSlots.dsts (m : PSlots) : List Nat :=
  (match m.l1 with | some x => [x.dst.val] | none => []) ++ (match m.l2 with | some x => [x.dst.val] | none => [])

/-- Address registers of an instruction's slots. -/
def PSlots.pregs (m : PSlots) : List Nat :=
  (match m.l1 with | some x => [x.preg.val] | none => []) ++ (match m.l2 with | some x => [x.preg.val] | none => [])
    ++ (match m.st with | some x => [x.preg.val] | none => [])

/-- The slots of a format R instruction: no first load. -/
def RSlots.full (m : RSlots) : PSlots := ⟨none, m.l2, m.st⟩

/-- No memory slot active. -/
def PSlots.none : PSlots := ⟨Option.none, Option.none, Option.none⟩

end Sys2Proof

namespace Sys2Proof.Machine

/-! ### When an instruction issues -/

/-- A stake about to issue an instruction that no level ends at: it is RUNNING, no DONE and no coil access of it waits,
no word of memory holds an error, and the next address exists. -/
def State.ready (s : State) (k : Nat) : Prop :=
  s.issues k = true ∧ (s.stake k).doneAt = none ∧ (s.stake k).reqs = [] ∧ s.ecc = []
    ∧ (s.stake k).arch.pc < 8191 ∧ ∀ v ∈ (s.stake k).arch.levels, v.stop ≠ (s.stake k).arch.pc

/-- Nothing outside the stake changes but the bytes of stores that it had issued before: every register of the part,
every other stake, the clusters and every other byte of memory. -/
def StakeFrame (k : Nat) (s t : State) : Prop :=
  Frame [] [.compute, .mem, .pair] s t ∧ (∀ j, j ≠ k → t.stake j = s.stake j)
    ∧ t.compute.clusters = s.compute.clusters ∧ t.compute.regions = s.compute.regions
    ∧ ∀ a, (∀ p ∈ (s.stake k).arch.stores, a < p.addr ∨ p.addr + 4 ≤ a) → t.byte a = s.byte a

/-- What a stake's registers keep but for the d registers, accumulators and address registers named. -/
def Arch.keeps (ds accs ps : List Nat) (o r : Arch) : Prop :=
  (∀ j, j ∉ ds → r.rd j = o.rd j) ∧ (∀ n, n ∉ accs → r.acc n = o.acc n) ∧ (∀ n, n < 8 → n ∉ accs → r.ac n = o.ac n)
    ∧ (∀ n, n ∉ ps → r.rp n = o.rp n)
    ∧ (∀ n, r.rm n = o.rm n ∧ r.rb n = o.rb n ∧ r.rl n = o.rl n ∧ r.rlc n = o.rlc n)
    ∧ r.ret = o.ret ∧ r.levels = o.levels ∧ r.rnd = o.rnd

/-- The sticky bits OVG, SAT and ACCV of ST are never cleared (R103, R104). -/
def Arch.sticks (o r : Arch) : Prop := ∀ i, i < 3 → bitAt o.st i = true → bitAt r.st i = true

/-- The instruction issues: the part goes on, the stake runs on, and its registers meet a property. -/
def StakeStep (i : Instr) (k : Nat) (s : State) (P : Arch → Arch → Prop) : Prop :=
  ∃ t, exec i s = .next t ∧ StakeFrame k s t ∧ (t.stake k).run = .running
    ∧ (t.stake k).lastPc = (s.stake k).arch.pc ∧ P (s.stake k).arch (t.stake k).arch

/-! ### Results -/

/-- Effects on an accumulator (R86, R87): an exact number added, or set, or the bits replaced. -/
inductive AccEff where
  | add (x : Int)
  | set (x : Int)
  | bits (v : Acc)

/-- An accumulator after an effect on it (R87). -/
def AccStep (o r : Arch) (n : Nat) : AccEff → Prop
  | .add x =>
    if o.ac n then r.acc n = o.acc n ∧ r.ac n = true
    else if (o.acc n).toInt + x < -2 ^ 79 then
      r.acc n = 0x80000000000000000000#80 ∧ r.ac n = true ∧ bitAt r.st 0 = true
    else if 2 ^ 79 ≤ (o.acc n).toInt + x then
      r.acc n = 0x7FFFFFFFFFFFFFFFFFFF#80 ∧ r.ac n = true ∧ bitAt r.st 0 = true
    else (r.acc n).toInt = (o.acc n).toInt + x ∧ r.ac n = false
  | .set x => r.acc n = BitVec.ofInt 80 x ∧ r.ac n = false
  | .bits v => r.acc n = v ∧ r.ac n = false

/-- What an instruction without a control transfer computes: its stake and slots, the d registers that it writes and
their values, its effects on accumulators, NF and ZF where it sets them, and whether it saturates. -/
structure StakeOp where
  k : Fin 128
  m : PSlots
  d : List (Nat × (Arch → Word)) := []
  acc : List (Nat × (Arch → AccEff)) := []
  nz : Option (Arch → Bool × Bool) := Option.none
  sat : Arch → Bool := fun _ => false

/-- The registers after an instruction of that kind. -/
def StakeOp.result (p : StakeOp) (o r : Arch) : Prop :=
  r.pc = o.pc + 1 ∧ (∀ e ∈ p.d, r.rd e.1 = e.2 o) ∧ (∀ e ∈ p.acc, AccStep o r e.1 (e.2 o))
    ∧ (r.nf, r.zf) = (match p.nz with | some f => f o | Option.none => (o.nf, o.zf))
    ∧ Arch.keeps (p.d.map (·.1) ++ p.m.dsts) (p.acc.map (·.1)) p.m.pregs o r ∧ Arch.sticks o r
    ∧ (p.sat o = true → bitAt r.st 1 = true)
    ∧ (p.m = PSlots.none → p.acc = [] → p.sat o = false → ∀ i, i < 3 → bitAt r.st i = bitAt o.st i)

/-- The instruction `i` does what `p` says wherever it issues with loads that do not clash (R115). -/
def StakeOp.holds (i : Instr) (p : StakeOp) : Prop :=
  ∀ s : State, s.ready p.k.val → loadsClash p.m.l1 p.m.l2 (p.d.map (·.1)) = false → StakeStep i p.k.val s p.result

/-- A number limited to a signed word. -/
def limitWord (x : Int) : Word :=
  if x < -2 ^ 31 then 0x80000000#32 else if 2 ^ 31 ≤ x then 0x7FFFFFFF#32 else BitVec.ofInt 32 x

/-- An ALU operation with NF and ZF from its result. -/
def aluTo (k : Fin 128) (m : RSlots) (d : Fin 32) (f : Arch → Word) : StakeOp :=
  { k := k, m := m.full, d := [(d.val, f)], nz := some fun o => ((f o).msb, f o == 0#32) }

/-- The operations of R121. -/
def aluSpec : Instr → Option StakeOp
  | .add k d a b m => some (aluTo k m d fun o => BitVec.ofNat 32 ((o.rd a.val).toNat + (o.rd b.val).toNat))
  | .sub k d a b m => some (aluTo k m d fun o => BitVec.ofInt 32 ((o.rd a.val).toInt - (o.rd b.val).toInt))
  | .adds k d a b m => some (aluTo k m d fun o => limitWord ((o.rd a.val).toInt + (o.rd b.val).toInt))
  | .subs k d a b m => some (aluTo k m d fun o => limitWord ((o.rd a.val).toInt - (o.rd b.val).toInt))
  | .and k d a b m => some (aluTo k m d fun o => o.rd a.val &&& o.rd b.val)
  | .or k d a b m => some (aluTo k m d fun o => o.rd a.val ||| o.rd b.val)
  | .xor k d a b m => some (aluTo k m d fun o => o.rd a.val ^^^ o.rd b.val)
  | .min k d a b m => some (aluTo k m d fun o => if (o.rd b.val).toInt < (o.rd a.val).toInt then o.rd b.val else o.rd a.val)
  | .max k d a b m => some (aluTo k m d fun o => if (o.rd a.val).toInt < (o.rd b.val).toInt then o.rd b.val else o.rd a.val)
  | .shl k d a b m =>
    some (aluTo k m d fun o => BitVec.ofNat 32 ((o.rd a.val).toNat * 2 ^ ((o.rd b.val).toNat % 32)))
  | .shr k d a b m =>
    some (aluTo k m d fun o => BitVec.ofNat 32 ((o.rd a.val).toNat / 2 ^ ((o.rd b.val).toNat % 32)))
  | .shra k d a b m =>
    some (aluTo k m d fun o => BitVec.ofInt 32 ((o.rd a.val).toInt / 2 ^ ((o.rd b.val).toNat % 32)))
  | .neg k d a m => some (aluTo k m d fun o => limitWord (-(o.rd a.val).toInt))
  | .abs k d a m => some (aluTo k m d fun o => limitWord |(o.rd a.val).toInt|)
  | .not k d a m => some (aluTo k m d fun o => ~~~ o.rd a.val)
  | .addi k d a imm m => some (aluTo k m d fun o => BitVec.ofInt 32 ((o.rd a.val).toInt + imm.toInt))
  | .andi k d a imm m => some (aluTo k m d fun o => o.rd a.val &&& BitVec.ofInt 32 imm.toInt)
  | .shli k d a n m => some (aluTo k m d fun o => BitVec.ofNat 32 ((o.rd a.val).toNat * 2 ^ n.val))
  | .shri k d a n m => some (aluTo k m d fun o => BitVec.ofNat 32 ((o.rd a.val).toNat / 2 ^ n.val))
  | .shrai k d a n m => some (aluTo k m d fun o => BitVec.ofInt 32 ((o.rd a.val).toInt / 2 ^ n.val))
  | .cmp k a b m =>
    some { k := k, m := m.full,
           nz := some fun o => (decide ((o.rd a.val).toInt < (o.rd b.val).toInt), o.rd a.val == o.rd b.val) }
  | .cmpi k a imm m =>
    some { k := k, m := m.full,
           nz := some fun o => (decide ((o.rd a.val).toInt < imm.toInt), o.rd a.val == BitVec.ofInt 32 imm.toInt) }
  | _ => Option.none

/-- A rounded quotient by 2^31 (R88). -/
def roundSpec (mode : Nat) (v : Int) : Int :=
  if mode = 0 then (v + 2 ^ 30) / 2 ^ 31
  else if mode = 1 then
    if v % 2 ^ 31 < 2 ^ 30 ∨ (v % 2 ^ 31 = 2 ^ 30 ∧ v / 2 ^ 31 % 2 = 0) then v / 2 ^ 31 else v / 2 ^ 31 + 1
  else if mode = 2 then v / 2 ^ 31
  else if 0 ≤ v then v / 2 ^ 31 else -(-v / 2 ^ 31)

/-- The 80 bits of an accumulator by parts (R73, R91). -/
def partSpec (a : Acc) : Part → Word
  | .l => BitVec.ofNat 32 a.toNat
  | .h => BitVec.ofNat 32 (a.toNat / 2 ^ 32)
  | .g => BitVec.ofInt 32 (a.toInt / 2 ^ 64)

/-- Moves between d registers, accumulators and special registers (R90, R91, R118, R122, R123). -/
def moveSpec : Instr → Option StakeOp
  | .mov k d a m => some { k := k, m := m.full, d := [(d.val, fun o => o.rd a.val)] }
  | .slide k d src len m =>
    if d.val + len.val + 1 ≤ 31 then
      some { k := k, m := m.full,
             d := (d.val, fun o : Arch => o.rd src.val) ::
               ((List.range (len.val + 1)).map fun j => (d.val + j + 1, fun o : Arch => o.rd (d.val + j))) }
    else Option.none
  | .movfr k d (.p n) m => some { k := k, m := m.full, d := [(d.val, fun o => BitVec.ofNat 32 (o.rp n.val).toNat)] }
  | .movfr k d (.m n) m => some { k := k, m := m.full, d := [(d.val, fun o => BitVec.ofInt 32 (o.rm n.val).toInt)] }
  | .movfr k d (.b n) m => some { k := k, m := m.full, d := [(d.val, fun o => BitVec.ofNat 32 (o.rb n.val).toNat)] }
  | .movfr k d (.l n) m => some { k := k, m := m.full, d := [(d.val, fun o => BitVec.ofNat 32 (o.rl n.val).toNat)] }
  | .movfr k d (.lc n) m => some { k := k, m := m.full, d := [(d.val, fun o => BitVec.ofNat 32 (o.rlc n.val).toNat)] }
  | .movfr k d .st m => some { k := k, m := m.full, d := [(d.val, fun o => o.st)] }
  | .raw k d a part m => some { k := k, m := m.full, d := [(d.val, fun o => partSpec (o.acc a.val) part)] }
  | .rnd k d a sh m =>
    some { k := k, m := m.full,
           d := [(d.val, fun o => limitWord (roundSpec o.rnd ((o.acc a.val).toInt * 2 ^ sh.val)))],
           sat := fun o =>
             let q := roundSpec o.rnd ((o.acc a.val).toInt * 2 ^ sh.val)
             decide (q < -2 ^ 31 ∨ 2 ^ 31 ≤ q) }
  | .ldi k d imm => some { k := k, m := PSlots.none, d := [(d.val, fun _ => imm)] }
  | _ => Option.none

/-- A signed number of a d register, and an unsigned one. -/
def Arch.sd (o : Arch) (i : Nat) : Int := (o.rd i).toInt
def Arch.ud (o : Arch) (i : Nat) : Int := ((o.rd i).toNat : Int)

/-- The exact product under a signedness (R124). -/
def prodSpec (o : Arch) (x y : Nat) : Sg → Int
  | .ss => o.sd x * o.sd y
  | .su => o.sd x * o.ud y
  | .uu => o.ud x * o.ud y

/-- An accumulator operation of format R. -/
def accTo (k : Fin 128) (m : RSlots) (a : Fin 8) (f : Arch → AccEff) : StakeOp :=
  { k := k, m := m.full, acc := [(a.val, f)] }

/-- The accumulator operations of format R but LDA (R118, R124). -/
def accSpec : Instr → Option StakeOp
  | .mac k a x y sg m => some (accTo k m a fun o => .add (prodSpec o x.val y.val sg))
  | .msu k a x y sg m => some (accTo k m a fun o => .add (-prodSpec o x.val y.val sg))
  | .mul k a x y sg m => some (accTo k m a fun o => .set (prodSpec o x.val y.val sg))
  | .muln k a x y sg m => some (accTo k m a fun o => .set (-prodSpec o x.val y.val sg))
  | .aclr k a m => some (accTo k m a fun _ => .set 0)
  | .aadd k a b m => some (accTo k m a fun o => .add (o.acc b.val).toInt)
  | .asub k a b m => some (accTo k m a fun o => .add (-(o.acc b.val).toInt))
  | .mova k a x m => some (accTo k m a fun o => .set (o.sd x.val * 2 ^ 31))
  | .movap k a .l x m =>
    some (accTo k m a fun o => .bits ((o.acc a.val).extractLsb' 32 48 ++ o.rd x.val))
  | .movap k a .h x m =>
    some (accTo k m a fun o => .bits ((o.acc a.val).extractLsb' 64 16 ++ o.rd x.val ++ (o.acc a.val).extractLsb' 0 32))
  | .movap k a .g x m =>
    some (accTo k m a fun o => .bits ((o.rd x.val).extractLsb' 0 16 ++ (o.acc a.val).extractLsb' 0 64))
  | _ => Option.none

/-- The four accumulators of a group, each with its effect. -/
def groupAcc (g : Fin 2) (f : Nat → Arch → AccEff) : List (Nat × (Arch → AccEff)) :=
  (List.range 4).map fun i => (4 * g.val + i, f i)

/-- The exact sum of four products (R117). -/
def dotSpec (o : Arch) (x y : Nat) : Int :=
  ((List.range 4).map fun i => o.sd (4 * x + i) * o.sd (4 * y + i)).sum

/-- The window of a filter tap after its slide into the past (R127). -/
def pastWindow (w : Nat) : List (Nat × (Arch → Word)) :=
  [(4 * w, fun o => o.rd (4 * w + 4)), (4 * w + 1, fun o => o.rd (4 * w)), (4 * w + 2, fun o => o.rd (4 * w + 1)),
    (4 * w + 3, fun o => o.rd (4 * w + 2))]

/-- The window of FDLY after its slide forward in time (R128). -/
def nextWindow (w : Nat) : List (Nat × (Arch → Word)) :=
  (List.range 4).map fun j => (4 * w + j, fun o => o.rd (4 * w + j + 1))

/-- A coefficient of the interpolation ROM as a rational number rounded half up (R129). -/
def romSpec (phi : Nat) (j : Nat) : Int :=
  let f : Rat := (phi : Rat) / 64
  let l : Rat := match j with
    | 0 => -(f * (1 - f) * (1 + f)) / 6
    | 1 => f * (1 + f) * (2 - f) / 2
    | 2 => (1 - f) * (1 + f) * (2 - f) / 2
    | _ => -(f * (1 - f) * (2 - f)) / 6
  (l * 2 ^ 30 + 1 / 2).floor

/-- The interpolated sum of FDLY (R128). -/
def fdlySpec (o : Arch) (w f : Nat) : Int :=
  ((List.range 4).map fun j => romSpec ((o.rd f).toNat % 64) j * o.sd (4 * w + j)).sum

/-- The operations of format P (R117, R124, R127, R128). -/
def parSpec : Instr → Option StakeOp
  | .pnop k m => some { k := k, m := m }
  | .qmac k g x y m =>
    some { k := k, m := m, acc := groupAcc g fun i o => .add (o.sd (4 * x.val + i) * o.sd (4 * y.val + i)) }
  | .qmsu k g x y m =>
    some { k := k, m := m, acc := groupAcc g fun i o => .add (-(o.sd (4 * x.val + i) * o.sd (4 * y.val + i))) }
  | .qmul k g x y m =>
    some { k := k, m := m, acc := groupAcc g fun i o => .set (o.sd (4 * x.val + i) * o.sd (4 * y.val + i)) }
  | .qdot k a x y m => some { k := k, m := m, acc := [(a.val, fun o => .add (dotSpec o x.val y.val))] }
  | .qdotz k a x y m => some { k := k, m := m, acc := [(a.val, fun o => .set (dotSpec o x.val y.val))] }
  | .bmac k g c w m =>
    some { k := k, m := m, acc := groupAcc g fun i o => .add (o.sd c.val * o.sd (4 * w.val + i)) }
  | .ftapz k g c w m =>
    if w.val = 7 then Option.none
    else some { k := k, m := m, d := pastWindow w.val,
                acc := groupAcc g fun i o => .set (o.sd c.val * o.sd (4 * w.val + i)) }
  | .ftap k g c w m =>
    if w.val = 7 then Option.none
    else some { k := k, m := m, d := pastWindow w.val,
                acc := groupAcc g fun i o => .add (o.sd c.val * o.sd (4 * w.val + i)) }
  | .pmac k a x y m => some { k := k, m := m, acc := [(a.val, fun o => .add (o.sd x.val * o.sd (16 + y.val)))] }
  | .pmsu k a x y m => some { k := k, m := m, acc := [(a.val, fun o => .add (-(o.sd x.val * o.sd (16 + y.val))))] }
  | .pmul k a x y m => some { k := k, m := m, acc := [(a.val, fun o => .set (o.sd x.val * o.sd (16 + y.val)))] }
  | .fdly k a w f sh m =>
    if w.val = 7 then Option.none
    else some { k := k, m := m, d := if sh then nextWindow w.val else [],
                acc := [(a.val, fun o => .set (fdlySpec o w.val f.val))] }
  | _ => Option.none

/-! ### Moves into special registers (R103, R123) -/

/-- The special registers after a move into one of them by an instruction whose slots modify `ps`: that one takes the
value, the others stay; ST keeps AC, takes RND, NF and ZF, and loses the sticky bits that the value names. -/
def SRegTakes (x : SReg) (v : Word) (ps : List Nat) (o r : Arch) : Prop :=
  (∀ n : Fin 8, n.val ∉ ps → r.rp n.val = if x = .p n then v.setWidth 20 else o.rp n.val)
    ∧ (∀ n : Fin 8, r.rm n.val = if x = .m n then v.setWidth 20 else o.rm n.val)
    ∧ (∀ n : Fin 8, r.rb n.val = if x = .b n then v.setWidth 20 else o.rb n.val)
    ∧ (∀ n : Fin 8, r.rl n.val = if x = .l n then v.setWidth 20 else o.rl n.val)
    ∧ (∀ n : Fin 4, r.rlc n.val = if x = .lc n then v.setWidth 16 else o.rlc n.val)
    ∧ (∀ i, 3 ≤ i → i < 32 → bitAt r.st i =
        if x = .st then
          if i = 8 ∨ i = 9 ∨ i = 16 ∨ i = 17 then bitAt v i else decide (24 ≤ i) && bitAt o.st i
        else bitAt o.st i)
    ∧ ∀ i, i < 3 → bitAt o.st i = true → (x = .st → bitAt v i = false) → bitAt r.st i = true

/-- What a stake's registers keep beside the special ones. -/
def Arch.keepsData (ds : List Nat) (o r : Arch) : Prop :=
  (∀ j, j ∉ ds → r.rd j = o.rd j) ∧ (∀ n, r.acc n = o.acc n) ∧ r.ret = o.ret ∧ r.levels = o.levels

/-! ### Control transfers (R95 to R97, R101, R125) -/

/-- A stake about to issue an instruction, whatever levels end at it. -/
def State.readyAt (s : State) (k : Nat) : Prop :=
  s.issues k = true ∧ (s.stake k).doneAt = none ∧ (s.stake k).reqs = [] ∧ s.ecc = []
    ∧ (s.stake k).arch.pc < 8191

/-- The registers that a control transfer leaves alone. -/
def Arch.flat (o r : Arch) : Prop :=
  (∀ j, r.rd j = o.rd j) ∧ (∀ n, r.acc n = o.acc n)
    ∧ (∀ n, r.rp n = o.rp n ∧ r.rm n = o.rm n ∧ r.rb n = o.rb n ∧ r.rl n = o.rl n) ∧ r.st = o.st

/-- The levels that a taken branch leaves active: all where its target lies within the innermost block, and otherwise
those whose block holds it (R97). -/
def Arch.levelsAround (t : Nat) (o : Arch) : List Level :=
  let holds := o.levels.filter fun v => decide (v.start ≤ t) && decide (t ≤ v.stop)
  match o.levels.head? with
  | some v => if v ∈ holds then o.levels else holds
  | none => []

/-- The conditions of BRC over the bits of ST (R103, R125). -/
def condSpec (o : Arch) : Cond → Bool
  | .zf => bitAt o.st 8
  | .nzf => !bitAt o.st 8
  | .nf => bitAt o.st 9
  | .nnf => !bitAt o.st 9
  | .gt => !bitAt o.st 9 && !bitAt o.st 8
  | .le => bitAt o.st 9 || bitAt o.st 8
  | .ac n => bitAt o.st (24 + n.val)
  | .nac n => !bitAt o.st (24 + n.val)

/-- A repeat level opened with a count, with the lowest loop counter that no active level uses, or its block skipped for
count 0 (R95, R96). -/
def RepSpec (stop count : Nat) (o r : Arch) : Prop :=
  Arch.flat o r ∧ r.ret = o.ret
    ∧ (count = 0 → r.pc = stop + 1 ∧ r.levels = o.levels ∧ ∀ n, r.rlc n = o.rlc n)
    ∧ (count ≠ 0 → r.pc = o.pc + 1 ∧ ∃ n, n < 4 ∧ (∀ v ∈ o.levels, v.n ≠ n) ∧ (∀ m, m < n → ∃ v ∈ o.levels, v.n = m)
        ∧ r.levels = ⟨n, o.pc + 1, stop⟩ :: o.levels
        ∧ ∀ m, r.rlc m = if m = n then BitVec.ofNat 16 count else o.rlc m)

/-- The stake stops with a fault (R106): its program counter stays, what it computed stays, its cluster's map and event
are set, and no other register of the part changes. -/
def StopsWith (code : Nat) (k : Fin 128) (i : Instr) (s : State) : Prop :=
  ∃ t, exec i s = .next t ∧ (t.stake k.val).run = .stopped ∧ (t.stake k.val).fault = code
    ∧ (t.stake k.val).lastPc = (s.stake k.val).arch.pc ∧ (t.stake k.val).arch.pc = (s.stake k.val).arch.pc
    ∧ Arch.flat (s.stake k.val).arch (t.stake k.val).arch
    ∧ t.flag (Reg.CL_EVT_FAULT (k.val / 8)) = true ∧ t.bit (Reg.CL_STAT (k.val / 8)) (k.val % 8) = true
    ∧ (∀ a, a ≠ Reg.CL_EVT (k.val / 8) → a ≠ Reg.CL_STAT (k.val / 8) → t.reg a = s.reg a)
    ∧ ∀ j, j ≠ k.val → t.stake j = s.stake j

/-! ### Loads and stores (R76, R82, R90, R91, R113) -/

/-- The word at a place, and 0 where a stake's space holds none. -/
def State.placeWord (s : State) : Option Nat → Word
  | some a => s.word a
  | none => 0#32

/-- Where a store to X or Y goes: none where no store may (R82). -/
def storeTo (x : Store) (k q : Nat) (o : Arch) : Option Nat :=
  match x.sp with
  | .x => if (xPlace k q (o.ea x.preg.val x.mode.val)).2 then (xPlace k q (o.ea x.preg.val x.mode.val)).1 else none
  | .y => yPlace k q (o.ea x.preg.val x.mode.val)
  | .c => none

/-- The word that a store writes (R113). -/
def storeOf (x : Store) (o : Arch) : Word :=
  match x.src with
  | .reg i => o.rd i.val
  | .rnd a sh => limitWord (roundSpec o.rnd ((o.acc a.val).toInt * 2 ^ sh.val))
  | .raw a p => partSpec (o.acc a.val) p

end Sys2Proof.Machine
end

