-- ==== Sys2Proof/Certificates/Slice0/Obligations.lean ====
section
/-! DEFINITION. Certificates/Slice0/Obligations.lean: the statements for the provers. -/

open Sys2Proof Sys2Proof.Machine

/-- For every command c, of every constructor of Instr, and every state whose queue has c at its front, step answers
what exec of c answers at that state with the rest of the queue; and exec of every command answers a next state at
every state: no command is refused and none faults. -/
def Obligations.StepRunsCommand : Prop :=
  (∀ (c : Instr) (rest : List Instr) (s : State), s.pending = c :: rest → step s = exec c { s with pending := rest })
  ∧ ∀ (c : Instr) (s : State), ∃ t, exec c s = .next t

/-- With no command waiting, step answers a next state that differs in the clock alone, which has gone on by one
fabric cycle, 15 units of 1/6 ns. That the idle step passes a fabric cycle is the model's DESIGN CHOICE of
notes/assumptions/1.md. -/
def Obligations.IdleStepPassesOneCycle : Prop :=
  ∀ s : State, s.pending = [] → ∃ t, step s = .next t ∧ t.now = s.now + 15 ∧ Frame [] [.now] s t

/-- In the state after reset every register reads the reset value of its row of the register map, no command waits,
memory and registers are in canonical form, the Weave and the Border do not run and no round has passed. Rounds of 8
samples at 48 kHz and the other state that the spec gives no value at reset are the model's DESIGN CHOICE of
notes/assumptions/2.md; nothing is said of them here. That a byte which nothing has written reads 0xFF in the flash
window and 0 elsewhere is the model's DESIGN CHOICE of notes/assumptions/3.md. -/
def Obligations.ResetState : Prop :=
  (∀ a, State.reset.reg a = regReset a) ∧ State.reset.canonical = true ∧ State.reset.pending = []
    ∧ State.reset.reg Reg.SYS_ID = 0xC4081000#32 ∧ State.reset.flag Reg.WEAVE_CTL_RUN = false
    ∧ State.reset.flag Reg.BORDER_CTL_RUN = false ∧ State.reset.weave.running = false
    ∧ State.reset.border.running = false ∧ State.reset.sys.roundNo = 0
    ∧ ∀ a, State.reset.byte a = if 0x0400000000 ≤ a ∧ a ≤ 0x040FFFFFFF then 0xFF#8 else 0#8

/-- WEAVE_NOP, WEAVE_SET, WEAVE_CHANGE, WEAVE_REMOVE, WEAVE_MUTE, WEAVE_UNMUTE, WEAVE_CUT and WEAVE_RESERVED_OP from
an agent that reaches the port and may use it (agents 0 to 2 on port C, agents 3 and 4 on port H): with fewer than 64
commands waiting, the command joins its port's queue with its image and SUCC_EN and DEPTH counts it; with 64 waiting
it is dropped and the overflow event is set; nothing else changes. An agent that may not use the port gets an error
response and changes nothing. -/
def Obligations.WeavePortCommands : Prop :=
  ∀ (host : Bool) (a : Agent) (idx : Fin 32768) (w0 w1 w2 : Word) (sc : Bool) (r : Fin 9) (i : Instr) (op : RouteOp)
    (s : State),
    (i, op) ∈ [(Instr.weaveNop host a idx w0 w1 w2 sc, RouteOp.nop), (.weaveSet host a idx w0 w1 w2 sc, .set),
      (.weaveChange host a idx w0 w1 w2 sc, .change), (.weaveRemove host a idx w0 w1 w2 sc, .remove),
      (.weaveMute host a idx w0 w1 w2 sc, .mute), (.weaveUnmute host a idx w0 w1 w2 sc, .unmute),
      (.weaveCut host a idx w0 w1 w2 sc, .cut), (.weaveReservedOp host a r idx w0 w1 w2 sc, .reserved (7 + r.val))] →
    s.reaches a (Reg.WEAVE_XP_IDX (portIx host)) true = true →
    let p := portIx host
    let staged := [Reg.WEAVE_XP_IDX p, Reg.WEAVE_XP_W0 p, Reg.WEAVE_XP_W1 p, Reg.WEAVE_XP_W2 p, Reg.WEAVE_XP_CTL p]
    (portAgent host a = true → (s.routeQueue host).length < 64 →
      Does i s (Reg.WEAVE_XP_STAT p :: staged) [.weave, .bus] fun t => t.bus.err = false
        ∧ t.routeQueue host = s.routeQueue host ++ [⟨op, idx.val, ⟨w0, w1, w2⟩, sc⟩]
        ∧ t.routeQueue (!host) = s.routeQueue (!host)
        ∧ t.weave = { s.weave with queueC := t.weave.queueC, queueH := t.weave.queueH }
        ∧ t.rf (Reg.WEAVE_XP_STAT_DEPTH p) = (s.routeQueue host).length + 1
        ∧ t.rf (Reg.WEAVE_XP_STAT_SEQ p) = s.rf (Reg.WEAVE_XP_STAT_SEQ p)
        ∧ t.rf (Reg.WEAVE_XP_STAT_RESULT p) = s.rf (Reg.WEAVE_XP_STAT_RESULT p))
    ∧ (portAgent host a = true → 64 ≤ (s.routeQueue host).length →
      Does i s (Reg.WEAVE_EVT :: staged) [.bus] fun t => t.bus.err = false
        ∧ t.reg Reg.WEAVE_EVT = s.raised Reg.WEAVE_EVT [if host then Reg.WEAVE_EVT_OVF_H else Reg.WEAVE_EVT_OVF_C])
    ∧ (portAgent host a = false → Errs i s [] fun _ => True)

/-- WEAVE_CMD_VALIDATE on a port with a command waiting takes the oldest, counts it in SEQ, shows DEPTH and its
result, and leaves the route table alone; result 0 puts it among the changes accepted for the first boundary at least
1.0 µs later and sets no event, any other result sets the port's REFUSED event, NOSPARE for 0xA, and for a host's
DENIED also DENIED_H and a logged privilege violation. A command is refused with STATE while the Weave does not run,
and otherwise NOP is accepted and a reserved OP, or a CUT on port H, is refused with BADOP. On a port with none
waiting nothing changes. -/
def Obligations.WeaveCommandValidation : Prop :=
  ∀ (host : Bool) (s : State),
    (s.routeQueue host = [] → exec (.weaveCmdValidate host) s = .next s)
    ∧ ∀ (c : RouteCmd) (q : List RouteCmd), s.routeQueue host = c :: q → q.length < 64 →
      let p := portIx host
      let res := s.routeResult host c
      (Does (.weaveCmdValidate host) s [Reg.WEAVE_XP_STAT p, Reg.WEAVE_EVT, Reg.TRUST_EVT] [.weave, .trust] fun t =>
        t.routeQueue host = q ∧ t.routeQueue (!host) = s.routeQueue (!host)
        ∧ t.weave = { s.weave with queueC := t.weave.queueC, queueH := t.weave.queueH, dueC := t.weave.dueC,
                                   dueH := t.weave.dueH }
        ∧ t.rf (Reg.WEAVE_XP_STAT_DEPTH p) = q.length
        ∧ t.rf (Reg.WEAVE_XP_STAT_SEQ p) = (s.rf (Reg.WEAVE_XP_STAT_SEQ p) + 1) % 65536
        ∧ t.rf (Reg.WEAVE_XP_STAT_RESULT p) = res
        ∧ (res = 0 → t.reg Reg.WEAVE_EVT = s.reg Reg.WEAVE_EVT
            ∧ (if host then t.weave.dueH = s.weave.dueH ++ [⟨s.boundaryAfter us1, c⟩] ∧ t.weave.dueC = s.weave.dueC
               else t.weave.dueC = s.weave.dueC ++ [⟨s.boundaryAfter us1, c⟩] ∧ t.weave.dueH = s.weave.dueH))
        ∧ (res ≠ 0 → t.weave.dueC = s.weave.dueC ∧ t.weave.dueH = s.weave.dueH
            ∧ t.reg Reg.WEAVE_EVT = s.raised Reg.WEAVE_EVT
                ((if host then [Reg.WEAVE_EVT_REFUSED_H] else [Reg.WEAVE_EVT_REFUSED_C])
                  ++ (if res = 10 then [Reg.WEAVE_EVT_NOSPARE] else [])
                  ++ if host = true ∧ res = 6 then [Reg.WEAVE_EVT_DENIED_H] else []))
        ∧ (¬(host = true ∧ res = 6) → t.reg Reg.TRUST_EVT = s.reg Reg.TRUST_EVT ∧ t.trust = s.trust)
        ∧ (host = true ∧ res = 6 → t.flag Reg.TRUST_EVT_PRIV_VIOL = true ∧ t.trust.logSeq = s.trust.logSeq + 1))
      ∧ (s.weave.running = false → res = 3)
      ∧ (s.weave.running = true → c.op = .nop → res = 0)
      ∧ (s.weave.running = true → ((∃ k, c.op = .reserved k) ∨ (host = true ∧ c.op = .cut)) → res = 1)

/-- For an agent that reaches the register: WEAVE_HPF takes its value unless a code above 8 or an overloaded
narrowing sink refuses it, which sets HPF_REFUSED with an error response; WEAVE_GEN_CFG takes EN and TYPE, refuses
TYPE 3 to 7 below generator 48 with an error response, takes EN alone from generator 48 on, and restarts a noise
generator from SEED; WEAVE_MTR_CFG takes WIN, CLR clears PEAK and MS, and CLR or a new WIN drops the window;
WEAVE_CTL takes RUN, unless the stake runs are bad, which is refused with an error response. Nothing else changes. A
write of WEAVE_AGRP_SET or WEAVE_AGRP_CLR by agent 1 that reaches the register joins the changes of the group vector,
by which step 4 sets or clears the group's bit, and changes nothing else. A write by any other connected agent has no
effect on the groups, completes with an error response and sets AGRP_DENIED. -/
def Obligations.WeaveRegisterWrites : Prop :=
  (∀ (a : Agent) (v : Word) (s : State),
    (∀ i : Fin 512, s.reaches a (Reg.WEAVE_HPF i.val) true = true →
      ((hpfReserved v || s.hpfOverloads i.val v) = false → Does (.weaveHpfWrite a i v) s [Reg.WEAVE_HPF i.val] [.bus] fun t =>
        t.bus.err = false ∧ t.reg (Reg.WEAVE_HPF i.val) = v)
      ∧ ((hpfReserved v || s.hpfOverloads i.val v) = true → Errs (.weaveHpfWrite a i v) s [Reg.WEAVE_EVT] fun t =>
        t.reg Reg.WEAVE_EVT = s.raised Reg.WEAVE_EVT [Reg.WEAVE_EVT_HPF_REFUSED]))
    ∧ (∀ g : Fin 64, s.reaches a (Reg.WEAVE_GEN_CFG g.val) true = true →
      (g.val < 48 → bitsOf v 30 28 ≤ 2 →
        Does (.weaveGenCfgWrite a g v) s [Reg.WEAVE_GEN_CFG g.val] [.weave, .bus] fun t => t.bus.err = false
          ∧ t.flag (Reg.WEAVE_GEN_CFG_EN g.val) = bitAt v 31 ∧ t.rf (Reg.WEAVE_GEN_CFG_TYPE g.val) = bitsOf v 30 28
          ∧ t.weave = { s.weave with gens := t.weave.gens } ∧ (∀ j, j ≠ g.val → t.gen j = s.gen j)
          ∧ t.gen g.val = if bitAt v 31 = true ∧ bitsOf v 30 28 = 2 ∧ (s.flag (Reg.WEAVE_GEN_CFG_EN g.val) = false
              ∨ s.rf (Reg.WEAVE_GEN_CFG_TYPE g.val) ≠ 2)
            then { s.gen g.val with lfsr := (s.reg (Reg.WEAVE_GEN_SEED g.val)).toNat } else s.gen g.val)
      ∧ (g.val < 48 → 2 < bitsOf v 30 28 → Errs (.weaveGenCfgWrite a g v) s [] fun _ => True)
      ∧ (48 ≤ g.val → Does (.weaveGenCfgWrite a g v) s [Reg.WEAVE_GEN_CFG g.val] [.bus] fun t => t.bus.err = false
          ∧ t.flag (Reg.WEAVE_GEN_CFG_EN g.val) = bitAt v 31
          ∧ t.rf (Reg.WEAVE_GEN_CFG_TYPE g.val) = s.rf (Reg.WEAVE_GEN_CFG_TYPE g.val)))
    ∧ (∀ m : Fin 64, s.reaches a (Reg.WEAVE_MTR_CFG m.val) true = true →
      Does (.weaveMtrClr a m v) s [Reg.WEAVE_MTR_CFG m.val, Reg.WEAVE_MTR_PEAK m.val, Reg.WEAVE_MTR_MS m.val] [.weave, .bus]
        fun t => t.bus.err = false ∧ t.rf (Reg.WEAVE_MTR_CFG_WIN m.val) = bitsOf v 3 0
          ∧ (t.reg (Reg.WEAVE_MTR_PEAK m.val) = if bitAt v 31 then 0#32 else s.reg (Reg.WEAVE_MTR_PEAK m.val))
          ∧ (t.reg (Reg.WEAVE_MTR_MS m.val) = if bitAt v 31 then 0#32 else s.reg (Reg.WEAVE_MTR_MS m.val))
          ∧ t.weave = { s.weave with meters := t.weave.meters } ∧ (∀ j, j ≠ m.val → t.meter j = s.meter j)
          ∧ t.meter m.val = if bitAt v 31 = true ∨ bitsOf v 3 0 ≠ s.rf (Reg.WEAVE_MTR_CFG_WIN m.val) then Meter.empty
              else s.meter m.val)
    ∧ (s.reaches a Reg.WEAVE_CTL true = true →
      ((bitAt v 0 && s.runsBad) = false → Does (.weaveRunWrite a v) s [Reg.WEAVE_CTL] [.bus] fun t => t.bus.err = false
        ∧ t.flag Reg.WEAVE_CTL_RUN = bitAt v 0)
      ∧ ((bitAt v 0 && s.runsBad) = true → Errs (.weaveRunWrite a v) s [] fun _ => True)))
  ∧ (∀ (a : Agent) (grp : Fin 4096) (i : Instr) (reg : Nat) (set : Bool) (s : State),
    (i, reg, set) ∈ [(Instr.weaveAgrpSet a grp, Reg.WEAVE_AGRP_SET, true), (.weaveAgrpClr a grp, Reg.WEAVE_AGRP_CLR, false)] →
    (a = 1 → s.reaches a reg true = true → Does i s [] [.weave, .bus] fun t => t.bus.err = false
      ∧ t.weave = { s.weave with agrpPend := s.weave.agrpPend ++ [(set, grp.val)] }
      ∧ t.applyGroups.bit (Reg.WEAVE_AGRP_STATE (grp.val / 32)) (grp.val % 32) = set)
    ∧ (a ≠ 1 → s.accepted a.val = true → Does i s (Reg.WEAVE_EVT :: Reg.TRUST_EVT :: errRegs) [.bus, .trust] fun t =>
        t.bus = ⟨true, 0#32⟩ ∧ t.reg Reg.WEAVE_EVT = s.raised Reg.WEAVE_EVT [Reg.WEAVE_EVT_AGRP_DENIED]))

/-- METER_WINDOW_END shows the mean square that a boundary left ready and nothing else changes. ROUTE_ENTRY_ECC_UE
forces the entry's contribution to 0, sets ECC_UE and records the index, and keeps every other entry; while the
Warden runs and has not rewritten the entry three times within 60 s, a CUT of the entry as the Skein has it joins the
queue of port C and the ladder is marked. A word of the route table or of a Border record written by agent 0 while
RUN of the owner is 0 is stored as it reads back, a route entry's reserved bits 0, SUCC as it was and W3 kept, every
other entry and record kept; from any other connected agent, or while RUN is 1, the write changes no entry and no
record and completes with an error response. -/
def Obligations.WeaveHardwareEvents : Prop :=
  ∀ s : State,
    (∀ m : Fin 64, Does (.meterWindowEnd m) s [Reg.WEAVE_MTR_MS m.val] [.weave] fun t =>
      t.weave = { s.weave with meters := t.weave.meters } ∧ (∀ j, j ≠ m.val → t.meter j = s.meter j)
      ∧ t.meter m.val = { s.meter m.val with ready := none }
      ∧ t.reg (Reg.WEAVE_MTR_MS m.val) = match (s.meter m.val).ready with
          | some ms => BitVec.ofNat 32 ms
          | none => s.reg (Reg.WEAVE_MTR_MS m.val))
    ∧ (∀ i : Fin 32768,
      let regs := [Reg.WEAVE_EVT, Reg.WEAVE_ECC_IDX, Reg.WEAVE_XP_STAT 0, Reg.PWR_LADDER, Reg.PWR_EVT, Reg.TRUST_EVT, Reg.ALARM_FAULT_SW]
      let on := s.hubUp && s.power.wardenUp && Nat.blt (s.recent2 14 i.val) 3
      Does (.routeEntryEccUe i) s regs [.weave, .trust, .power] fun t =>
        (∀ j, j ≠ i.val → t.entry j = s.entry j)
        ∧ t.weave = { s.weave with routes := t.weave.routes, queueC := t.weave.queueC }
        ∧ t.entry i.val = { s.entry i.val with ecc := true } ∧ (∀ x, (t.entry i.val).contrib x = 0)
        ∧ t.flag Reg.WEAVE_EVT_ECC_UE = true ∧ t.rf Reg.WEAVE_ECC_IDX_IDX = i.val
        ∧ (on = false → t.weave.queueC = s.weave.queueC ∧ t.power = s.power
            ∧ t.reg Reg.WEAVE_EVT = s.raised Reg.WEAVE_EVT [Reg.WEAVE_EVT_ECC_UE])
        ∧ (on = true → s.weave.queueC.length < 64 → t.flag Reg.PWR_EVT_LADDER = true
            ∧ t.reg Reg.WEAVE_EVT = s.raised Reg.WEAVE_EVT [Reg.WEAVE_EVT_ECC_UE]
            ∧ t.recent2 14 i.val = s.recent2 14 i.val + 1
            ∧ let w (k : Nat) : Word := s.skTable (16 * i.val + k)
              t.weave.queueC = s.weave.queueC ++ [⟨.cut, i.val, ⟨w 0, w 4, w 8⟩, false⟩]))
    ∧ (∀ (w : Fin 196608) (v : Word), s.accepted 0 = true →
      (w.val < 131072 → s.flag Reg.WEAVE_CTL_RUN = false →
        Does (.routeTableWrite 0 w v) s [] [.weave, .bus] fun t => t.bus.err = false
          ∧ t.weave = { s.weave with routes := t.weave.routes } ∧ (∀ j, j ≠ w.val / 4 → t.entry j = s.entry j)
          ∧ (w.val % 4 = 0 → t.entryRead (w.val / 4) 0 = v &&& 0xF3FFFFFF#32)
          ∧ (w.val % 4 = 1 → t.entryRead (w.val / 4) 1 = v &&& 0xF0FFFFFF#32)
          ∧ (w.val % 4 = 2 → t.entryRead (w.val / 4) 2
              = (v &&& 0xCFFF0000#32) ||| (s.entryRead (w.val / 4) 2 &&& 0xFFFF#32))
          ∧ (w.val % 4 = 3 → t.entry (w.val / 4) = s.entry (w.val / 4)))
      ∧ (131072 ≤ w.val → s.flag Reg.BORDER_CTL_RUN = false →
        Does (.routeTableWrite 0 w v) s [] [.border, .bus] fun t => t.bus.err = false
          ∧ t.border = { s.border with chans := t.border.chans }
          ∧ (∀ j, j ≠ (w.val - 131072) / 128 → t.chan j = s.chan j)
          ∧ (let x := s.chan ((w.val - 131072) / 128)
            x.coef.length = 8 → x.st.length = 8 → x.delay.length = 16 →
              (t.chan ((w.val - 131072) / 128)).read (4 * (w.val % 128)) = v))
      ∧ (w.val < 131072 → s.flag Reg.WEAVE_CTL_RUN = true → Errs (.routeTableWrite 0 w v) s [] fun _ => True)
      ∧ (131072 ≤ w.val → s.flag Reg.BORDER_CTL_RUN = true → Errs (.routeTableWrite 0 w v) s [] fun _ => True))
    ∧ ∀ (a : Agent) (w : Fin 196608) (v : Word), a ≠ 0 → s.accepted a.val = true →
      Does (.routeTableWrite a w v) s (Reg.TRUST_EVT :: errRegs) [.bus, .trust] fun t =>
        t.bus = ⟨true, 0#32⟩ ∧ t.flag Reg.MATRIX_EVT_ERR = true

/-- BORDER_SECTION_WRITE, BORDER_CTL_WORD_WRITE, BORDER_CEIL_WRITE and BORDER_RESERVED_ITEM from an agent that
reaches the registers join the queue, or are dropped with CMD_OVF when 64 wait; from a host they are denied with
BORDER_EVT.DENIED and an error response. BORDER_CMD_VALIDATE takes the oldest, counts it, shows DEPTH and RESULT, and
accepts it for the first boundary at least 1.0 µs later or sets CMD_REFUSED; a reserved item and a ceiling that is
not positive are refused. BORDER_RUN_WRITE writes RUN; from a host it is denied with BORDER_EVT.DENIED and an error
response. BORDER_RECORD_ECC_UE mutes the channel until its ten items are rewritten, and while the Warden runs and has
not done so three times within 60 s, the ten items as the Skein has them join the queue and the ladder is marked.
Everything else is kept. -/
def Obligations.BorderCommands : Prop :=
  (∀ (a : Agent) (ch : Fin 512) (k : Fin 8) (it : Fin 6) (d0 d1 d2 d3 d4 : Word) (clr : Bool) (i : Instr) (c : BorderCmd)
    (s : State),
    (i, c) ∈ [(Instr.borderSectionWrite a ch k d0 d1 d2 d3 d4 clr, (⟨ch.val, k.val, ⟨d0, d1, d2, d3, d4⟩, clr⟩ : BorderCmd)),
      (.borderCtlWordWrite a ch d0 d1 d2 d3 d4 clr, ⟨ch.val, 8, ⟨d0, d1, d2, d3, d4⟩, clr⟩),
      (.borderCeilWrite a ch d0 d1 d2 d3 d4 clr, ⟨ch.val, 9, ⟨d0, d1, d2, d3, d4⟩, clr⟩),
      (.borderReservedItem a ch it d0 d1 d2 d3 d4 clr, ⟨ch.val, 10 + it.val, ⟨d0, d1, d2, d3, d4⟩, clr⟩)] →
    let staged := Reg.BORDER_CMD_CH :: Reg.BORDER_CMD_CTL :: regFile Reg.BORDER_CMD_D 5
    (s.reaches a Reg.BORDER_CMD_CH true = true → s.border.queue.length < 64 →
      Does i s (Reg.BORDER_CMD_STAT :: staged) [.border, .bus] fun t => t.bus.err = false
        ∧ t.border = { s.border with queue := s.border.queue ++ [c] }
        ∧ t.rf Reg.BORDER_CMD_STAT_DEPTH = s.border.queue.length + 1)
    ∧ (s.reaches a Reg.BORDER_CMD_CH true = true → 64 ≤ s.border.queue.length →
      Does i s (Reg.BORDER_EVT :: staged) [.bus] fun t => t.bus.err = false
        ∧ t.reg Reg.BORDER_EVT = s.raised Reg.BORDER_EVT [Reg.BORDER_EVT_CMD_OVF])
    ∧ ((a = 3 ∨ a = 4) → s.accepted a.val = true →
      Does i s (Reg.BORDER_EVT :: Reg.TRUST_EVT :: errRegs) [.bus, .trust] fun t => t.bus = ⟨true, 0#32⟩
        ∧ t.reg Reg.BORDER_EVT = s.raised Reg.BORDER_EVT [Reg.BORDER_EVT_DENIED]
        ∧ t.flag Reg.TRUST_EVT_PRIV_VIOL = true))
  ∧ (∀ s : State, (s.border.queue = [] → exec .borderCmdValidate s = .next s)
    ∧ ∀ (c : BorderCmd) (q : List BorderCmd), s.border.queue = c :: q → q.length < 64 →
      (Does .borderCmdValidate s [Reg.BORDER_CMD_STAT, Reg.BORDER_EVT] [.border] fun t =>
        t.rf Reg.BORDER_CMD_STAT_DEPTH = q.length
        ∧ t.rf Reg.BORDER_CMD_STAT_SEQ = (s.rf Reg.BORDER_CMD_STAT_SEQ + 1) % 65536
        ∧ t.rf Reg.BORDER_CMD_STAT_RESULT = s.borderResult c
        ∧ (s.borderResult c = 0 → t.reg Reg.BORDER_EVT = s.reg Reg.BORDER_EVT
            ∧ t.border = { s.border with queue := q, due := s.border.due ++ [⟨s.boundaryAfter us1, c⟩] })
        ∧ (s.borderResult c ≠ 0 → t.reg Reg.BORDER_EVT = s.raised Reg.BORDER_EVT [Reg.BORDER_EVT_CMD_REFUSED]
            ∧ t.border = { s.border with queue := q }))
      ∧ (9 < c.item → s.borderResult c = 1) ∧ (c.item < 8 → s.borderResult c = 0)
      ∧ (c.item = 9 → s.borderResult c = if 0 < c.d.b0.toInt then 0 else 4))
  ∧ (∀ (a : Agent) (v : Word) (s : State), s.reaches a Reg.BORDER_CTL true = true →
    Does (.borderRunWrite a v) s [Reg.BORDER_CTL] [.bus] fun t => t.bus.err = false ∧ t.flag Reg.BORDER_CTL_RUN = bitAt v 0)
  ∧ (∀ (a : Agent) (v : Word) (s : State), (a = 3 ∨ a = 4) → s.accepted a.val = true →
    Does (.borderRunWrite a v) s (Reg.BORDER_EVT :: Reg.TRUST_EVT :: errRegs) [.bus, .trust] fun t => t.bus = ⟨true, 0#32⟩
      ∧ t.reg Reg.BORDER_EVT = s.raised Reg.BORDER_EVT [Reg.BORDER_EVT_DENIED] ∧ t.flag Reg.TRUST_EVT_PRIV_VIOL = true)
  ∧ ∀ (ch : Fin 512) (s : State),
    let regs := [Reg.BORDER_EVT, Reg.BORDER_ECC_CH, Reg.BORDER_CMD_STAT, Reg.PWR_LADDER, Reg.PWR_EVT, Reg.TRUST_EVT, Reg.ALARM_FAULT_SW]
    let on := s.hubUp && s.power.wardenUp && Nat.blt (s.recent2 15 ch.val) 3
    Does (.borderRecordEccUe ch) s regs [.border, .trust, .power] fun t =>
      t.border = { s.border with chans := t.border.chans, queue := t.border.queue } ∧ (∀ j, j ≠ ch.val → t.chan j = s.chan j)
      ∧ t.chan ch.val = { s.chan ch.val with muted := true, left := List.range 10 }
      ∧ t.flag Reg.BORDER_EVT_ECC_UE = true ∧ t.rf Reg.BORDER_ECC_CH_CH = ch.val
      ∧ (on = false → t.border.queue = s.border.queue ∧ t.power = s.power
          ∧ t.reg Reg.BORDER_EVT = s.raised Reg.BORDER_EVT [Reg.BORDER_EVT_ECC_UE])
      ∧ (on = true → s.border.queue.length ≤ 54 → t.flag Reg.PWR_EVT_LADDER = true
          ∧ t.reg Reg.BORDER_EVT = s.raised Reg.BORDER_EVT [Reg.BORDER_EVT_ECC_UE]
          ∧ t.recent2 15 ch.val = s.recent2 15 ch.val + 1
          ∧ t.border.queue = s.border.queue ++ (List.range 10).map fun item => s.itemRewrite ch.val item)

/-- BORDER_PASS with no Weave pass waiting changes nothing. Otherwise it takes the oldest; while the Border does not
run that is all. While it runs, with the records in canonical form, a channel that its slot is bound to, enabled and
not muted, goes on by one sample and its output is the finished sample of its slot; one that is disabled or muted
keeps its record and its slot gets zero; a channel that binds no slot is kept. A record read with an error of a
single bit is corrected and counted; with no error in memory that changes nothing. -/
def Obligations.BorderPassServesChannels : Prop :=
  ∀ s : State, (s.weave.sums = [] → exec .borderPass s = .next s)
    ∧ ∀ (idx : Nat) (sums : SMap Int) (rest : List (Nat × SMap Int)), s.weave.sums = (idx, sums) :: rest →
      (s.border.running = false → Does .borderPass s [] [.weave] fun t => t.weave = { s.weave with sums := rest })
      ∧ (s.border.running = true → mwf (fun _ => Chan.empty) s.border.chans = true →
        (∀ e ∈ s.border.chans, e.1 < 512) →
        let regs := Reg.BORDER_EVT :: regFile Reg.BORDER_SAT_MAP 16
        Does .borderPass s (regs ++ eccRegs) [.weave, .border, .sys, .power, .ecc] fun t =>
          (s.ecc = [] → Frame regs [.weave, .border, .sys] s t) ∧ t.weave = { s.weave with sums := rest } ∧ t.border = { s.border with chans := t.border.chans }
          ∧ t.sys = { s.sys with out := t.sys.out }
          ∧ (∀ b, b < 512 → s.boundTo (s.chan b).slot = some b → (s.chan b).en = true → (s.chan b).muted = false →
              let r := (s.chan b).run s.sys.rate96 s.sys.n (mget (fun _ => 0) sums (s.chan b).slot)
              t.chan b = r.2.1 ∧ mget (fun _ => 0) t.sys.out (sampleKey (s.chan b).slot idx) = r.1)
          ∧ (∀ b, b < 512 → s.boundTo (s.chan b).slot = some b → ((s.chan b).en = false ∨ (s.chan b).muted = true) →
              t.chan b = s.chan b ∧ mget (fun _ => 0) t.sys.out (sampleKey (s.chan b).slot idx) = 0)
          ∧ ∀ b, s.boundTo (s.chan b).slot ≠ some b → t.chan b = s.chan b)

/-- While rounds run and a pass of the round is left, WEAVE_PASS goes on to the next sample position. Where no state
of the pair waits to be applied or sent, the following holds besides. While the Weave does not run, every finished
sample of the position is zero and the Border gets no sums. While it runs, every entry's ramp goes on by one sample,
every narrowing outer sink's finished sample is its wide sum limited to Q1.31, and of memory only stake windows
change. Rounds not running, or every pass made: nothing changes. That the samples of converters and microphones have
open parts is the model's free value. An entry read with an error of a single bit is corrected and counted; with no
error in memory that changes nothing. -/
def Obligations.WeavePassServesSinks : Prop :=
  ∀ s : State, ((s.roundsRun = false ∨ s.sys.n ≤ s.sys.pass) → exec .weavePass s = .next s)
    ∧ (s.roundsRun = true → s.sys.pass < s.sys.n →
      let idx := s.sys.roundNo * s.sys.n + s.sys.pass
      let at_ := s.sys.roundStart + s.sys.pass * s.sys.period
      let alone := s.pair.hub = [] ∧ s.pair.mirror = [] ∧ s.pair.rejoin = none
      let mics := [Reg.PDM_READY, Reg.PDM_EVT]
      (∃ t, exec .weavePass s = .next t ∧ t.sys.pass = s.sys.pass + 1 ∧ t.sys.roundNo = s.sys.roundNo
        ∧ t.now = max s.now at_ ∧ t.pending = s.pending)
      ∧ (alone → s.weave.running = false → Does .weavePass s mics [.now, .sys, .weave, .ports, .streams] fun t =>
        t.now = max s.now at_ ∧ t.sys = { s.sys with pass := s.sys.pass + 1, out := t.sys.out }
        ∧ t.weave = { s.weave with sums := t.weave.sums } ∧ t.weave.sums.getLast? = some (idx, [])
        ∧ ∀ slot, mget (fun _ => 0) t.sys.out (sampleKey slot idx) = 0)
      ∧ (alone → s.weave.running = true →
        let regs := Reg.WEAVE_EVT :: Reg.ALARM_EVT :: Reg.ALARM_FAULT :: regFile Reg.WEAVE_MTR_PEAK 64 ++ mics
        let pieces : List Piece := [.now, .sys, .weave, .ports, .streams, .mem, .ecc, .supv, .alarm, .fv]
        Does .weavePass s (regs ++ eccRegs) (.power :: pieces) fun t =>
          (s.ecc = [] → Frame regs pieces s t) ∧ t.now = max s.now at_ ∧ t.sys = { s.sys with pass := s.sys.pass + 1, out := t.sys.out }
          ∧ t.weave.routes = (s.advRoutes 1).weave.routes
          ∧ (∀ a, a < stakeBase 0 → t.byte a = s.byte a)
          ∧ let s' := (((((s.moveTo at_).trigFall).inputsStep).ctxStep).advRoutes 1).passValues s.sys.pass
            ∀ slot, slot < 4096 → s.narrowing slot = true →
              mget (fun _ => 0) t.sys.out (sampleKey slot idx)
                = clampInt (-2 ^ 31) (2 ^ 31 - 1) (mget (fun _ => 0) (s'.1.passSums s'.2) slot)))

/-- While the hub is up with its oscillator, ROUND_BOUNDARY answers a next state with the same commands waiting and a
clock that has not gone back. Where besides no handshake, no recovery request and no Skein to be activated in place
waits, it adds 1 to the round number, moves the round's start on by one round and the clock to it at least, goes back
to sample position 0, and takes WEAVE_CTL.RUN and BORDER_CTL.RUN as the Weave's and the Border's state, both running
with the bare alarm layer; the Skein's contents, the sample rate and N are kept. While the hub is down or has lost
its oscillator nothing changes. -/
def Obligations.RoundBoundary : Prop :=
  ∀ (late : List (Fin 16 × Nat)) (s : State),
    (s.roundsRun = false → exec (.roundBoundary late) s = .next s)
    ∧ (s.roundsRun = true → ∃ t, exec (.roundBoundary late) s = .next t ∧ s.now ≤ t.now ∧ t.pending = s.pending)
    ∧ (s.roundsRun = true → s.power.hand = none → s.power.recovBy = none → s.trust.inPlace = none →
      ∃ t, exec (.roundBoundary late) s = .next t
      ∧ t.sys.roundNo = s.sys.roundNo + 1 ∧ t.sys.roundStart = s.sys.roundStart + s.sys.n * s.sys.period
      ∧ t.sys.pass = 0 ∧ t.sys.n = s.sys.n ∧ t.sys.rate96 = s.sys.rate96
      ∧ s.now ≤ t.now ∧ t.sys.roundStart ≤ t.now
      ∧ t.weave.running = (s.flag Reg.WEAVE_CTL_RUN || s.bareLayer)
      ∧ t.border.running = (s.flag Reg.BORDER_CTL_RUN || s.bareLayer)
      ∧ t.flag Reg.WEAVE_CTL_RUN = s.flag Reg.WEAVE_CTL_RUN
      ∧ t.pending = s.pending ∧ t.skein = s.skein)

/-- ADD, SUB, ADDS, SUBS, AND, OR, XOR, MIN, MAX, SHL, SHR, SHRA, NEG, ABS, NOT, ADDI, ANDI, SHLI, SHRI, SHRAI, CMP
and CMPI, with any memory slots whose loads do not clash, answer a next state whenever the stake is ready: the PC
goes on by one, d[D] holds the result that R121 gives (CMP and CMPI write none), NF and ZF are as R121 says, and
every other register, accumulator, flag, register of the part and byte of memory that no earlier store of the stake
names is kept. -/
def Obligations.StakeAluResults : Prop :=
  ∀ (i : Instr) (p : StakeOp), aluSpec i = some p → p.holds i

/-- MOV, SLIDE, MOVFR of every special register, RAW, RND and LDI answer a next state whenever the stake is ready and
the loads of their slots do not clash: the registers named take the values of R90, R91, R118, R119, R122 and R123 as
they stood before the instruction, RND sets SAT where it saturates, and everything else is kept. MOVFR of RCNT gives
the low 32 bits of the round number. MOVTO of every special register but RCNT, and LDIA of every address, offset,
base, length and loop counter register, answer a next state whenever the stake is ready and no level ends at the
instruction: the register takes the low bits of the value, a move into ST writes RND, NF and ZF, clears the sticky
bits that the value names, where no event of the instruction or of the one before falls with it, and keeps AC, and
everything else is kept. -/
def Obligations.StakeMoves : Prop :=
  ((∀ (i : Instr) (p : StakeOp), moveSpec i = some p → p.holds i)
  ∧ ∀ (k : Fin 128) (d : Fin 32) (m : RSlots) (s : State), s.ready k.val → loadsClash none m.l2 [d.val] = false →
    StakeStep (.movfr k d .rcnt m) k.val s fun o r =>
      r.pc = o.pc + 1 ∧ r.rd d.val = BitVec.ofNat 32 s.sys.roundNo ∧ (r.nf, r.zf) = (o.nf, o.zf)
        ∧ Arch.keeps (d.val :: m.full.dsts) [] m.full.pregs o r ∧ Arch.sticks o r)
  ∧ ((∀ (k : Fin 128) (d : Fin 32) (x : SReg) (m : RSlots) (s : State), s.ready k.val → x ≠ .rcnt →
    StakeStep (.movto k d x m) k.val s fun o r => r.pc = o.pc + 1 ∧ SRegTakes x (o.rd d.val) m.full.pregs o r
      ∧ (x = .st → m.full = PSlots.none → o.ovgAt = 0 → o.accvAt = 0 →
          ∀ i, i < 3 → bitAt r.st i = (bitAt o.st i && !bitAt (o.rd d.val) i))
      ∧ Arch.keepsData m.full.dsts o r)
  ∧ ∀ (k : Fin 128) (x : SReg) (imm : BitVec 20) (s : State), s.ready k.val → ldiaOk x imm = true →
    StakeStep (.ldia k x imm) k.val s fun o r => r.pc = o.pc + 1 ∧ SRegTakes x (imm.setWidth 32) [] o r
      ∧ Arch.keepsData [] o r)

/-- MAC, MSU, MUL, MULN, ACLR, AADD, ASUB, MOVA and MOVAP answer a next state whenever the stake is ready: an
accumulating operation adds its exact value and clamps with AC and OVG set outside 80 bits, and changes nothing while
AC is set; a replacing operation writes its value and clears AC; everything else is kept. -/
def Obligations.StakeAccumulators : Prop :=
  ∀ (i : Instr) (p : StakeOp), accSpec i = some p → p.holds i

/-- PNOP, QMAC, QMSU, QMUL, QDOT, QDOTZ, BMAC, FTAPZ, FTAP, PMAC, PMSU, PMUL and FDLY answer a next state whenever
the stake is ready and the loads of their slots do not clash: the accumulators take the exact products and sums of
R117, R127 and R128 under R87, the windows slide, and everything else is kept. -/
def Obligations.StakeParallelOps : Prop :=
  ∀ (i : Instr) (p : StakeOp), parSpec i = some p → p.holds i

/-- On a ready stake: BR goes to its target and closes the levels whose block does not hold it; BRC does so when its
condition of R125 holds and else goes on; CALL pushes the next address when fewer than 8 are stacked; RET pops; REP
and REPD open a level whose count is not 0 and whose end lies at or after the next instruction, or skip the block for
count 0. No d register, accumulator, address register or bit of ST changes. A NOP issued at the last address of the
innermost level, the other levels ending elsewhere: with more than one pass left the stake goes back to the first
address of the block with one pass fewer; with one left, or none, the level closes, its counter reads 0 and the stake
goes on. -/
def Obligations.StakeControlTransfers : Prop :=
  ((∀ (k : Fin 128) (t : Fin 8192) (s : State), s.ready k.val →
    StakeStep (.br k t) k.val s fun o r => Arch.flat o r ∧ r.pc = t.val ∧ r.levels = Arch.levelsAround t.val o
      ∧ r.ret = o.ret ∧ ∀ n, r.rlc n = o.rlc n)
  ∧ (∀ (k : Fin 128) (c : Cond) (t : Fin 8192) (s : State), s.ready k.val →
    StakeStep (.brc k c t) k.val s fun o r => Arch.flat o r ∧ r.ret = o.ret ∧ (∀ n, r.rlc n = o.rlc n)
      ∧ (condSpec o c = true → r.pc = t.val ∧ r.levels = Arch.levelsAround t.val o)
      ∧ (condSpec o c = false → r.pc = o.pc + 1 ∧ r.levels = o.levels))
  ∧ (∀ (k : Fin 128) (t : Fin 8192) (s : State), s.ready k.val → (s.stake k.val).arch.ret.length < 8 →
    StakeStep (.call k t) k.val s fun o r => Arch.flat o r ∧ r.pc = t.val ∧ r.ret = (o.pc + 1) :: o.ret
      ∧ r.levels = o.levels ∧ ∀ n, r.rlc n = o.rlc n)
  ∧ (∀ (k : Fin 128) (a : Nat) (rest : List Nat) (s : State), s.ready k.val →
    (s.stake k.val).arch.ret = a :: rest → a < 8192 →
    StakeStep (.ret k) k.val s fun o r => Arch.flat o r ∧ r.pc = a ∧ r.ret = rest ∧ r.levels = o.levels
      ∧ ∀ n, r.rlc n = o.rlc n)
  ∧ (∀ (k : Fin 128) (stop : Fin 8192) (count : BitVec 16) (s : State), s.ready k.val →
    (s.stake k.val).arch.levels.length < 4 → (s.stake k.val).arch.pc < stop.val → stop.val < 8191 →
    StakeStep (.rep k stop count) k.val s (RepSpec stop.val count.toNat))
  ∧ ∀ (k : Fin 128) (stop : Fin 8192) (d : Fin 32) (s : State), s.ready k.val →
    (s.stake k.val).arch.levels.length < 4 → (s.stake k.val).arch.pc < stop.val → stop.val < 8191 →
    StakeStep (.repd k stop d) k.val s fun o r => RepSpec stop.val ((o.rd d.val).toNat % 65536) o r)
  ∧ (∀ (k : Fin 128) (v : Level) (rest : List Level) (s : State), s.readyAt k.val → (s.stake k.val).arch.levels = v :: rest →
    v.stop = (s.stake k.val).arch.pc → v.start ≤ v.stop → (∀ w ∈ rest, w.stop ≠ v.stop ∧ w.n ≠ v.n) →
    StakeStep (.pnop k PSlots.none) k.val s fun o r => Arch.flat o r ∧ r.ret = o.ret
      ∧ (∀ n, n ≠ v.n → r.rlc n = o.rlc n)
      ∧ (1 < (o.rlc v.n).toNat → r.pc = v.start ∧ r.levels = o.levels ∧ (r.rlc v.n).toNat + 1 = (o.rlc v.n).toNat)
      ∧ ((o.rlc v.n).toNat ≤ 1 → r.pc = o.pc + 1 ∧ r.levels = rest ∧ r.rlc v.n = 0#16))

/-- DONE on a ready stake answers a next state in which no further instruction issues, every level and the return
stack are empty and everything else is kept. After it the done signal of a stake with no coil access waiting answers
a next state in which the stake is DONE, where it comes by the budget point, and changes nothing after it. A running
stake that nothing holds up and that issues a reserved encoding, MOVTO of RCNT, an LDIA of ST, of RCNT or of a loop
counter with more than 16 bits, a SLIDE beyond d31, an FTAP, FTAPZ or FDLY with W = 7, any instruction without a
control transfer whose loads clash (R115), a REP with four levels active, a REP whose end lies before its next
instruction, a ninth CALL or a RET with nothing stacked, stops with the fault that R106 numbers for it; its program
counter stays, its cluster's event is set and its registers are kept. -/
def Obligations.StakeDone : Prop :=
  ((∀ (k : Fin 128) (s : State), s.ready k.val →
    ∃ t, exec (.done k) s = .next t ∧ StakeFrame k.val s t ∧ (t.stake k.val).doneAt.isSome = true
      ∧ Arch.flat (s.stake k.val).arch (t.stake k.val).arch ∧ (t.stake k.val).arch.levels = []
      ∧ (t.stake k.val).arch.ret = []
      ∧ ∀ m, exec (.pnop k m) t = .next t)
  ∧ ∀ (k : Fin 128) (s : State) (c : Nat), s.issues k.val = true → (s.stake k.val).doneAt = some c →
    (s.stake k.val).reqs = [] →
    let x := s.cluster (k.val / 8)
    let cyc := c + 6 + ((s.stake k.val).frz.map (·.2)).sum
    (x.base + cyc ≤ s.budgetCycles (k.val / 8) →
      ∃ t, exec (.stakeDoneSignal k) s = .next t ∧ (t.stake k.val).run = .done ∧ (t.stake k.val).cycLast = cyc)
    ∧ (s.budgetCycles (k.val / 8) < x.base + cyc → exec (.stakeDoneSignal k) s = .next s))
  ∧ ((∀ (k : Fin 128) (s : State), s.ready k.val → StopsWith 1 k (.reservedInstruction k) s)
  ∧ (∀ (k : Fin 128) (m : PSlots) (s : State), s.ready k.val → loadsClash m.l1 m.l2 [] = true →
      StopsWith 1 k (.pnop k m) s)
  ∧ (∀ (k : Fin 128) (d a b : Fin 32) (m : RSlots) (s : State), s.ready k.val → m.full.dsts = [d.val] →
      StopsWith 1 k (.add k d a b m) s)
  ∧ (∀ (i : Instr) (p : StakeOp) (s : State), (aluSpec i = some p ∨ moveSpec i = some p ∨ accSpec i = some p ∨ parSpec i = some p) →
      s.ready p.k.val → loadsClash p.m.l1 p.m.l2 (p.d.map (·.1)) = true → StopsWith 1 p.k i s)
  ∧ (∀ (k : Fin 128) (d : Fin 32) (m : RSlots) (s : State), s.ready k.val → StopsWith 1 k (.movto k d .rcnt m) s
      ∧ (loadsClash none m.l2 [d.val] = true → StopsWith 1 k (.movfr k d .rcnt m) s))
  ∧ (∀ (k : Fin 128) (x : SReg) (imm : BitVec 20) (s : State), s.ready k.val → ldiaOk x imm = false →
      StopsWith 1 k (.ldia k x imm) s)
  ∧ (∀ (k : Fin 128) (d src : Fin 32) (len : Fin 3) (m : RSlots) (s : State), s.ready k.val → 31 < d.val + len.val + 1 →
      StopsWith 1 k (.slide k d src len m) s)
  ∧ (∀ (k : Fin 128) (g : Fin 2) (c : Fin 32) (m : PSlots) (s : State), s.ready k.val →
      StopsWith 1 k (.ftap k g c 7 m) s ∧ StopsWith 1 k (.ftapz k g c 7 m) s)
  ∧ (∀ (k : Fin 128) (a : Fin 8) (f : Fin 32) (sh : Bool) (m : PSlots) (s : State), s.ready k.val →
      StopsWith 1 k (.fdly k a 7 f sh m) s)
  ∧ (∀ (k : Fin 128) (stop : Fin 8192) (c : BitVec 16) (s : State), s.ready k.val →
      4 ≤ (s.stake k.val).arch.levels.length → StopsWith 3 k (.rep k stop c) s)
  ∧ (∀ (k : Fin 128) (stop : Fin 8192) (c : BitVec 16) (s : State), s.ready k.val →
      (s.stake k.val).arch.levels.length < 4 → stop.val ≤ (s.stake k.val).arch.pc → StopsWith 4 k (.rep k stop c) s)
  ∧ (∀ (k : Fin 128) (t : Fin 8192) (s : State), s.ready k.val → 8 ≤ (s.stake k.val).arch.ret.length →
      StopsWith 5 k (.call k t) s)
  ∧ ∀ (k : Fin 128) (s : State), s.ready k.val → (s.stake k.val).arch.ret = [] → StopsWith 6 k (.ret k) s)

/-- A PNOP on a ready stake with no store of its own waiting: L1 from X and L2 from Y put the words at their
effective addresses into their destinations, or 0 for an address that the stake's space does not hold, the address
registers step by their modes (R92), and a store to X or Y waits with its address and its word; LDA does the same
into an accumulator, at 2^31 times the word; a slot in C joins the requests of the stake with its address and its
word. What the slots do not name is kept. -/
def Obligations.StakeLoadsAndStores : Prop :=
  (∀ (k : Fin 128) (x : Load1) (s : State), s.ready k.val → (s.stake k.val).arch.stores = [] →
    ∃ t, exec (.pnop k ⟨some x, none, none⟩) s = .next t ∧ StakeFrame k.val s t
      ∧ (x.coil = false → (t.stake k.val).arch.rd x.dst.val
          = s.placeWord (xPlace k.val s.sys.parity ((s.stake k.val).arch.ea x.preg.val x.mode.val)).1)
      ∧ (x.coil = true → (t.stake k.val).reqs.map (fun q => (q.addr, q.load))
          = [(coilPlace k.val ((s.stake k.val).arch.ea x.preg.val x.mode.val), some (.reg x.dst.val))])
      ∧ (t.stake k.val).arch.rp x.preg.val
          = ((s.stake k.val).arch.post x.preg.val x.mode.val).getD ((s.stake k.val).arch.rp x.preg.val))
  ∧ (∀ (k : Fin 128) (x : Load2) (s : State), s.ready k.val → (s.stake k.val).arch.stores = [] →
    ∃ t, exec (.pnop k ⟨none, some x, none⟩) s = .next t ∧ StakeFrame k.val s t
      ∧ (t.stake k.val).arch.rd x.dst.val
          = s.placeWord (yPlace k.val s.sys.parity ((s.stake k.val).arch.ea x.preg.val x.mode.val))
      ∧ (t.stake k.val).arch.rp x.preg.val
          = ((s.stake k.val).arch.post x.preg.val x.mode.val).getD ((s.stake k.val).arch.rp x.preg.val))
  ∧ (∀ (k : Fin 128) (x : Store) (a : Nat) (s : State), s.ready k.val → (s.stake k.val).arch.stores = [] → x.sp ≠ .c →
    storeTo x k.val s.sys.parity (s.stake k.val).arch = some a →
    ∃ t, exec (.pnop k ⟨none, none, some x⟩) s = .next t ∧ StakeFrame k.val s t
      ∧ (t.stake k.val).arch.stores.map (fun p => (p.addr, p.data)) = [(a, storeOf x (s.stake k.val).arch)]
      ∧ (t.stake k.val).arch.rp x.preg.val
          = ((s.stake k.val).arch.post x.preg.val x.mode.val).getD ((s.stake k.val).arch.rp x.preg.val)
      ∧ ∀ b, t.byte b = s.byte b)
  ∧ (∀ (k : Fin 128) (x : Store) (s : State), s.ready k.val → (s.stake k.val).arch.stores = [] → x.sp = .c →
    ∃ t, exec (.pnop k ⟨none, none, some x⟩) s = .next t ∧ StakeFrame k.val s t
      ∧ (t.stake k.val).reqs.map (fun q => (q.addr, q.load, q.data))
          = [(coilPlace k.val ((s.stake k.val).arch.ea x.preg.val x.mode.val), none, storeOf x (s.stake k.val).arch)]
      ∧ (t.stake k.val).arch.stores = []
      ∧ ∀ b, t.byte b = s.byte b)
  ∧ ∀ (k : Fin 128) (a : Fin 8) (coil : Bool) (p mode : Fin 8) (m : RSlots) (s : State), s.ready k.val →
    (s.stake k.val).arch.stores = [] →
    ∃ t, exec (.lda k a coil p mode m) s = .next t ∧ StakeFrame k.val s t ∧ (t.stake k.val).run = .running
      ∧ (t.stake k.val).arch.pc = (s.stake k.val).arch.pc + 1
      ∧ ((t.stake k.val).arch.nf, (t.stake k.val).arch.zf) = ((s.stake k.val).arch.nf, (s.stake k.val).arch.zf)
      ∧ Arch.keeps m.full.dsts (if coil then [] else [a.val]) (p.val :: m.full.pregs) (s.stake k.val).arch (t.stake k.val).arch
      ∧ Arch.sticks (s.stake k.val).arch (t.stake k.val).arch
      ∧ (p.val ∉ m.full.pregs → (t.stake k.val).arch.rp p.val
          = ((s.stake k.val).arch.post p.val mode.val).getD ((s.stake k.val).arch.rp p.val))
      ∧ (coil = false → (t.stake k.val).arch.acc a.val
          = BitVec.ofInt 80 ((s.placeWord (xPlace k.val s.sys.parity ((s.stake k.val).arch.ea p.val mode.val)).1).toInt * 2 ^ 31)
        ∧ (t.stake k.val).arch.ac a.val = false)
      ∧ (coil = true → ((t.stake k.val).reqs.map fun q => (q.addr, q.load)).head?
          = some (coilPlace k.val ((s.stake k.val).arch.ea p.val mode.val), some (.acc a.val)))

/-- With no error in memory, where port A may grant the access (R134): a granted load of a running stake puts the
coil word into its d register, or 2^31 times it into its accumulator, unless a younger instruction has written there
since, and a granted store writes the four bytes at its address and no other byte. Either leaves the other requests
of the stake waiting. Where another access of the cluster goes first nothing changes. -/
def Obligations.CoilGrants : Prop :=
  ∀ (k : Fin 128) (w : Fin 41) (q : CoilReq) (rest : List CoilReq) (s : State), s.issues k.val = true → s.ecc = [] →
    (s.stake k.val).reqs = q :: rest →
    let wait := min w.val (10 * (s.rf (Reg.CL_STAT_OP (k.val / 8)) + 1))
    (s.portATurn k.val wait = false → exec (.coilGrant k w) s = .next s)
    ∧ (s.portATurn k.val wait = true →
      ∃ t, exec (.coilGrant k w) s = .next t
      ∧ (t.stake k.val).reqs.map (fun x => (x.cycle, x.addr, x.load, x.data)) = rest.map (fun x => (x.cycle, x.addr, x.load, x.data))
      ∧ (∀ j, j ≠ k.val → t.stake j = s.stake j)
      ∧ (∀ a, t.reg a = s.reg a)
      ∧ (∀ i, q.load = some (.reg i) →
          (t.stake k.val).arch.rd i = (if (q.cycle, CoilDst.reg i) ∈ (s.stake k.val).arch.due then s.word q.addr
            else (s.stake k.val).arch.rd i)
          ∧ (∀ j, j ≠ i → (t.stake k.val).arch.rd j = (s.stake k.val).arch.rd j)
          ∧ (∀ n, (t.stake k.val).arch.acc n = (s.stake k.val).arch.acc n) ∧ ∀ a, t.byte a = s.byte a)
      ∧ (∀ n, q.load = some (.acc n) →
          (t.stake k.val).arch.acc n = (if (q.cycle, CoilDst.acc n) ∈ (s.stake k.val).arch.due then
              BitVec.ofInt 80 ((s.word q.addr).toInt * 2 ^ 31) else (s.stake k.val).arch.acc n)
          ∧ (∀ m, m ≠ n → (t.stake k.val).arch.acc m = (s.stake k.val).arch.acc m)
          ∧ (∀ j, (t.stake k.val).arch.rd j = (s.stake k.val).arch.rd j) ∧ ∀ a, t.byte a = s.byte a)
      ∧ (q.load = none → t.word q.addr = q.data ∧ (∀ a, a < q.addr ∨ q.addr + 4 ≤ a → t.byte a = s.byte a)
          ∧ (t.stake k.val).arch = (s.stake k.val).arch))

/-- For every well-formed stake instruction, every operand at every value: decoding, for its stake, the 64-bit word
that R110 to R119 spell for it gives the instruction. -/
def Obligations.StakeWordsRoundTrip : Prop :=
  ∀ (i : Instr) (k : Fin 128) (w : Nat), i.wf = true → encodeStake i = some (k, w) → w < 2 ^ 64 ∧ decodeStake k w = i

/-- A word of format 0b11, a format P word whose operation code is above 0x0C, a format C word whose code is 0 or
above 9, a word of format P or R whose active store slot names space 0b11 or kind 0b11, and a NOP word with any
operand bit set all decode to RESERVED_INSTRUCTION. The all-zero word is NOP; the words of ADD d1, d2, d3, of LDI d4,
0x12345678, of BR 0x100 and of DONE decode to those instructions. -/
def Obligations.StakeReservedEncodings : Prop :=
  (∀ (k : Fin 128) (w : Nat), w < 2 ^ 64 →
    (w / 2 ^ 62 = 3
      ∨ (w / 2 ^ 62 = 0 ∧ 12 < w / 2 ^ 57 % 32)
      ∨ (w / 2 ^ 62 = 2 ∧ (w / 2 ^ 56 % 64 = 0 ∨ 9 < w / 2 ^ 56 % 64))
      ∨ (w / 2 ^ 62 < 2 ∧ w / 2 ^ 19 % 2 = 1 ∧ (w / 2 ^ 17 % 4 = 3 ∨ w / 2 ^ 9 % 4 = 3))
      ∨ (w / 2 ^ 57 = 0 ∧ w / 2 ^ 45 % 4096 ≠ 0)) →
    decodeStake k w = .reservedInstruction k)
  ∧ (∀ k : Fin 128, decodeStake k 0 = .pnop k PSlots.none
    ∧ decodeStake k 0x4042218000000000 = .add k 1 2 3 ⟨none, none⟩
    ∧ decodeStake k 0x8820000012345678 = .ldi k 4 0x12345678#32
    ∧ decodeStake k 0x8100000000000100 = .br k 256
    ∧ decodeStake k 0x8700000000000000 = .done k)

/-- From every state whose memory and registers are in canonical form (addresses strictly rising, no entry at what an
unlisted address reads as), a step that idles or runs a stake instruction of any encoding at the front of the queue
leaves memory and registers in canonical form. The canonical form is the model's own; that reset has it is part of
ResetState. -/
def Obligations.StakeStepsKeepCanonicalForm : Prop :=
  ∀ s t : State, s.canonical = true → (∀ c l, s.pending = c :: l → (encodeStake c).isSome = true) →
    step s = .next t → t.canonical = true

/-- At the budget point of a RUNNING cluster, once a round: a stake that has issued DONE with no coil access waiting,
and whose done signal comes by then even with the longest hand-overs, is DONE; every other stake of it still RUNNING
is STOPPED with FAULT 0xA, and every stake not RUNNING keeps its run state, so that none of a wale that has not
started is started; CL_EVT.BUDGET is set where a stake was stopped or a wale left unstarted, and otherwise as it was.
The time is at least 40 ns after the boundary. -/
def Obligations.BudgetPointStopsLateStakes : Prop :=
  ∀ (c : Fin 16) (s : State), s.clState c.val = clRunning → (s.cluster c.val).budget = false →
    (s.cluster c.val).missed = false →
    let x := s.cluster c.val
    let inTime (k : Nat) : Bool := (s.stake k).reqs.isEmpty && (s.stake k).doneAt.any fun d =>
      decide (x.base + 64 * x.wale + (d + 6 + ((s.stake k).frz.map (·.2)).sum) ≤ s.budgetCycles c.val)
    ∃ t, exec (.budgetPoint c) s = .next t ∧ (t.cluster c.val).budget = true
      ∧ s.now ≤ t.now ∧ s.sys.roundStart + 240 ≤ t.now
      ∧ (∀ k, k / 8 = c.val → (s.stake k).run = .running → inTime k = true → (t.stake k).run = .done)
      ∧ (∀ k, k / 8 = c.val → (s.stake k).run = .running → inTime k = false →
          (t.stake k).run = .stopped ∧ (t.stake k).fault = 10 ∧ t.bit (Reg.CL_STAT c.val) (k % 8) = true)
      ∧ (∀ k, k / 8 = c.val → (s.stake k).run ≠ .running → (t.stake k).run = (s.stake k).run)
      ∧ (∀ k, k / 8 ≠ c.val → t.stake k = s.stake k)
      ∧ t.flag (Reg.CL_EVT_BUDGET c.val) = (s.flag (Reg.CL_EVT_BUDGET c.val)
          || (stakesOf c.val).any fun k => ((s.stake k).run == .running && !inTime k)
              || (s.schedEn k && Nat.blt x.wale (s.schedWale k)))

/-- WALE_START, once every enabled stake of the present wale is DONE, starts each enabled stake of the next one that
is HELD or DONE at its entry address with no level and no return address, and changes no other stake; while one is
not DONE nothing changes. The budget point latches in CL_OVF the round copies of OVG and SAT of the enabled stakes
and keeps CL_OVF_STK set, and changes no register but those of its cluster. DIGEST_WRITE shows the digest of the last
round and its number. The done signal sets WCC_EXCEED where CYC exceeds CL_WCC of the operating point, and not
otherwise. -/
def Obligations.ClusterSequencer : Prop :=
  (∀ (c : Fin 16) (s : State), s.clState c.val = clRunning → (s.cluster c.val).budget = false →
    (s.cluster c.val).faulted = false → (s.cluster c.val).wale < s.lastWale c.val →
    let w := (s.cluster c.val).wale
    ((∀ k, k / 8 = c.val → s.schedEn k = true → s.schedWale k = w → (s.stake k).run = .done) →
      Does (.waleStart c) s [] [.compute] fun t =>
        (∀ j, j ≠ c.val → t.cluster j = s.cluster j) ∧ t.compute.regions = s.compute.regions
        ∧ (∃ b, t.cluster c.val = { s.cluster c.val with wale := w + 1, base := b }
            ∧ (∀ k, k / 8 = c.val → s.schedEn k = true → s.schedWale k = w → (s.cluster c.val).base + (s.stake k).cycLast ≤ b))
        ∧ ∀ k, if k / 8 = c.val ∧ s.schedEn k = true ∧ s.schedWale k = w + 1
              ∧ ((s.stake k).run = .held ∨ (s.stake k).run = .done)
            then (t.stake k).run = .running ∧ (t.stake k).entry = s.schedEntry k ∧ (t.stake k).arch.pc = s.schedEntry k
              ∧ (t.stake k).arch.levels = [] ∧ (t.stake k).arch.ret = [] ∧ (t.stake k).arch.st = (s.stake k).arch.st
              ∧ Arch.flat (s.stake k).arch (t.stake k).arch
            else t.stake k = s.stake k)
    ∧ ((∃ k, k / 8 = c.val ∧ s.schedEn k = true ∧ s.schedWale k = w ∧ (s.stake k).run ≠ .done) →
      exec (.waleStart c) s = .next s))
  ∧ (∀ (c : Fin 16) (s : State), s.clState c.val = clRunning → (s.cluster c.val).budget = false →
    (s.cluster c.val).missed = false →
    Does (.budgetPoint c) s [Reg.CL_STAT c.val, Reg.CL_EVT c.val, Reg.CL_OVF c.val, Reg.CL_OVF_STK c.val,
        Reg.CL_DMA_STAT c.val, Reg.TRUST_EVT] [.compute, .mem, .ecc, .pair, .now, .trust] fun t =>
      (∀ j, j ≠ c.val → t.cluster j = s.cluster j) ∧ t.compute.regions = s.compute.regions
      ∧ (∀ j, j < 8 →
          t.bit (Reg.CL_OVF c.val) (8 + j) = (s.schedEn (8 * c.val + j) && (s.stake (8 * c.val + j)).arch.rovg)
          ∧ t.bit (Reg.CL_OVF c.val) j = (s.schedEn (8 * c.val + j) && (s.stake (8 * c.val + j)).arch.rsat))
      ∧ (∀ i, i < 32 → t.bit (Reg.CL_OVF_STK c.val) i = (s.bit (Reg.CL_OVF_STK c.val) i || t.bit (Reg.CL_OVF c.val) i))
      ∧ ∀ a, (∀ k, k / 8 = c.val → ∀ p ∈ (s.stake k).arch.stores, a < p.addr ∨ p.addr + 4 ≤ a) → t.byte a = s.byte a)
  ∧ (∀ (c : Fin 16) (s : State),
    Does (.digestWrite c) s [Reg.CL_DIG_LO c.val, Reg.CL_DIG_HI c.val, Reg.CL_DIG_RND c.val] [.compute] fun t =>
      t.compute.stakes = s.compute.stakes ∧ t.compute.clusters = s.compute.clusters ∧
      t.reg (Reg.CL_DIG_LO c.val) = BitVec.ofNat 32 (s.digest c.val (s.sys.roundNo - 1))
      ∧ t.reg (Reg.CL_DIG_HI c.val) = BitVec.ofNat 32 (s.digest c.val (s.sys.roundNo - 1) / 2 ^ 32)
      ∧ t.reg (Reg.CL_DIG_RND c.val) = BitVec.ofNat 32 (s.sys.roundNo - 1)
      ∧ ((∀ k, k / 8 = c.val → s.schedEn k = false) → s.digest c.val (s.sys.roundNo - 1) = 0))
  ∧ ∀ (k : Fin 128) (s : State) (d : Nat), (s.stake k.val).run = .running → (s.stake k.val).doneAt = some d →
    (s.stake k.val).reqs = [] →
    let cyc := d + 6 + ((s.stake k.val).frz.map (·.2)).sum
    (s.cluster (k.val / 8)).base + cyc ≤ s.budgetCycles (k.val / 8) →
    Does (.stakeDoneSignal k) s [Reg.CL_EVT (k.val / 8), Reg.TRUST_EVT] [.compute, .mem, .ecc, .pair, .trust] fun t =>
      (t.stake k.val).run = .done ∧ (t.stake k.val).cycLast = cyc
      ∧ (t.stake k.val).cycMax = max (s.stake k.val).cycMax cyc
      ∧ (∀ j, j ≠ k.val → t.stake j = s.stake j) ∧ t.compute.clusters = s.compute.clusters
      ∧ (if s.rf (Reg.CL_WCC_WCC (k.val / 8) (k.val % 8) (s.rf (Reg.CL_STAT_OP (k.val / 8)))) < cyc then
            t.reg (Reg.CL_EVT (k.val / 8)) = s.raised (Reg.CL_EVT (k.val / 8)) [Reg.CL_EVT_WCC_EXCEED (k.val / 8)]
              ∧ t.trust.logSeq = s.trust.logSeq + 1
          else t.trust = s.trust ∧ t.reg (Reg.CL_EVT (k.val / 8)) = s.reg (Reg.CL_EVT (k.val / 8)))

/-- For an agent whose write reaches the register: START of a HELD cluster waits for round entry, and of any other
completes with an error response without effect; ISOLATE makes the cluster ISOLATED and unpowered with its stakes as
reset, and a write of 0 moves it to OFF; either changes nothing more where ISOLATE is so already; REINIT makes it
LOADING, counts it and clears the fault map. LOADING_DONE of a powered cluster whose memories are empty copies its
image and makes it HELD. THROTTLE_DOWN and THROTTLE_UP move the waiting operating point one step within MIN_OP and
NOM_OP, and do nothing at the limit. -/
def Obligations.ClusterControl : Prop :=
  (∀ (a : Agent) (c : Fin 16) (s : State), s.reachesDie a (Reg.CL_CTL c.val) = true →
    let locks := regFile Reg.LOCK_PEEK 64 ++ [Reg.LOCK_BROKEN_LO, Reg.LOCK_BROKEN_HI, Reg.LOCK_EVT]
    let off := Reg.CL_CTL c.val :: Reg.CL_STAT c.val :: Reg.PWR_STAT :: Reg.MATRIX_PORT_STAT (6 + c.val) ::
      Reg.MATRIX_EVT :: locks
    (s.clState c.val = clHeld → Does (.clCtlStart a c) s [Reg.CL_CTL c.val] [.compute, .bus] fun t => t.bus.err = false
      ∧ t.cluster c.val = { s.cluster c.val with start := true } ∧ (∀ j, j ≠ c.val → t.cluster j = s.cluster j)
      ∧ t.compute.stakes = s.compute.stakes ∧ t.compute.regions = s.compute.regions)
    ∧ (s.clState c.val ≠ clHeld → Errs (.clCtlStart a c) s [] fun _ => True)
    ∧ (s.flag (Reg.CL_CTL_ISOLATE c.val) = false →
      Does (.clCtlIsolate a c true) s off [.compute, .mem, .ecc, .power, .bus] fun t => t.bus.err = false
        ∧ t.clState c.val = clIsolated ∧ t.bit Reg.PWR_STAT c.val = false ∧ t.flag (Reg.CL_CTL_ISOLATE c.val) = true
        ∧ (∀ k, k / 8 = c.val → (t.stake k).run = .held ∧ (t.stake k).arch = Arch.reset)
        ∧ (∀ k, k / 8 ≠ c.val → t.stake k = s.stake k)
        ∧ ∀ b, (b < stakeBase (8 * c.val) ∨ stakeBase (8 * c.val + 8) ≤ b) → (b < coilBase c.val ∨ coilBase (c.val + 1) ≤ b) →
            t.byte b = s.byte b)
    ∧ (s.clState c.val = clIsolated →
      Does (.clCtlIsolate a c false) s [Reg.CL_CTL c.val, Reg.CL_STAT c.val] [.compute, .bus] fun t => t.bus.err = false
        ∧ t.clState c.val = clOff ∧ t.flag (Reg.CL_CTL_ISOLATE c.val) = false
        ∧ t.cluster c.val = { s.cluster c.val with parked := true } ∧ (∀ j, j ≠ c.val → t.cluster j = s.cluster j)
        ∧ t.compute.stakes = s.compute.stakes ∧ t.compute.regions = s.compute.regions)
    ∧ (∀ on : Bool, (if on = true then s.flag (Reg.CL_CTL_ISOLATE c.val) = true else s.clState c.val ≠ clIsolated) →
      Does (.clCtlIsolate a c on) s [Reg.CL_CTL c.val] [.bus] fun t => t.bus.err = false
        ∧ t.flag (Reg.CL_CTL_ISOLATE c.val) = on)
    ∧ (Does (.clCtlReinit a c) s off [.compute, .mem, .ecc, .power, .bus] fun t => t.bus.err = false
        ∧ t.clState c.val = clLoading ∧ (t.cluster c.val).loading = true ∧ t.rf (Reg.CL_STAT_FAULT_MAP c.val) = 0
        ∧ t.rf (Reg.CL_STAT_REINIT_CNT c.val) = min 255 (s.rf (Reg.CL_STAT_REINIT_CNT c.val) + 1)
        ∧ (∀ k, k / 8 = c.val → (t.stake k).run = .held ∧ (t.stake k).arch = Arch.reset)
        ∧ ∀ k, k / 8 ≠ c.val → t.stake k = s.stake k))
  ∧ (∀ (c : Fin 16) (s : State), s.canonical = true →
    s.clState c.val = clLoading → (s.cluster c.val).loading = true → s.bit Reg.PWR_STAT c.val = true →
    (∀ b, (stakeBase (8 * c.val) ≤ b ∧ b < stakeBase (8 * c.val + 8)) ∨ (coilBase c.val ≤ b ∧ b < coilBase (c.val + 1)) →
      s.byte b = 0#8) →
    Does (.loadingDone c) s [Reg.CL_STAT c.val] [.compute, .mem] fun t => t.clState c.val = clHeld
      ∧ t.cluster c.val = { s.cluster c.val with loading := false } ∧ (∀ j, j ≠ c.val → t.cluster j = s.cluster j)
      ∧ (∀ j i, j < 8 → i < 0x50000 →
          t.byte (stakeBase (8 * c.val + j) + i) = s.byte (imageBase c.val + 0x50000 * j + i))
      ∧ (∀ i, i < 0x200000 → t.byte (coilBase c.val + i) = s.byte (imageBase c.val + 0x280000 + i))
      ∧ (∀ k i, k / 8 = c.val → i < 32 →
          (t.stake k).arch.rd i = s.word (imageBase c.val + 0x480000 + 0x200 * (k % 8) + 4 * i))
      ∧ ∀ b, (b < stakeBase (8 * c.val) ∨ stakeBase (8 * c.val + 8) ≤ b) → (b < coilBase c.val ∨ coilBase (c.val + 1) ≤ b) →
            t.byte b = s.byte b)
  ∧ ∀ (r : Fin 4) (s : State) (x : Nat),
    let op := (s.region r.val).pend.getD (s.rf (Reg.REG_OP_OP r.val))
    ((s.region r.val).hot = some x → s.rf (Reg.REG_OP_MIN_OP r.val) < op →
      Does (.throttleDown r) s [Reg.REG_EVT r.val] [.now, .compute] fun t =>
        t.now = max s.now (x + 10 * ms1) ∧ (t.region r.val).pend = some (op - 1)
        ∧ t.reg (Reg.REG_EVT r.val) = s.raised (Reg.REG_EVT r.val) [Reg.REG_EVT_DOWN r.val]
        ∧ (∀ j, j ≠ r.val → t.region j = s.region j) ∧ t.compute.stakes = s.compute.stakes
        ∧ t.compute.clusters = s.compute.clusters)
    ∧ (op ≤ s.rf (Reg.REG_OP_MIN_OP r.val) → exec (.throttleDown r) s = .next s)
    ∧ ((s.region r.val).cool = some x → op < s.rf (Reg.REG_OP_NOM_OP r.val) →
      Does (.throttleUp r) s [Reg.REG_EVT r.val] [.now, .compute] fun t =>
        t.now = max s.now (x + sec1) ∧ (t.region r.val).pend = some (op + 1)
        ∧ t.reg (Reg.REG_EVT r.val) = s.raised (Reg.REG_EVT r.val) [Reg.REG_EVT_UP r.val]
        ∧ (∀ j, j ≠ r.val → t.region j = s.region j) ∧ t.compute.stakes = s.compute.stakes
        ∧ t.compute.clusters = s.compute.clusters)
    ∧ (s.rf (Reg.REG_OP_NOM_OP r.val) ≤ op → exec (.throttleUp r) s = .next s)

/-- PILOT_ESTIMATE of a supervised line judges the finished sums of its hub demodulator, or a new report of its
stake: CAND takes the candidate of R171, its run of equal candidates counts, and STATE moves after CONFIRM faults or
CLEAR estimates that are OK; a report whose second began before the line's source was in use is taken and not judged,
and a change of source discards the sums in progress. REPORT_STALE moves a line to its hub demodulator 3 s after its
last report, and changes nothing where a new report stands or the line is there already. BROADBAND_ESTIMATE counts
each valid band in or out of its limits. SUPV_LEARN starts learning in every enabled line, or is ignored and logged
in Sealed and Retired; LEARN_DONE ends it with STATE PENDING. LINE_STATE_WRITE writes the fields that software may
write, with its events and map bit, and a change of STATE is logged and reported. Everything else is kept. -/
def Obligations.SupervisionOfLines : Prop :=
  (∀ (l : Fin 512) (d : Dem) (s : State), s.lineOn l.val = true →
    let stat := Reg.SUPV_LINE_STAT l.val
    let shown := [Reg.SUPV_LINE_Z l.val, stat, Reg.SUPV_EVT, Reg.SUPV_LINE_MAP (l.val / 32)] ++ reportRegs
    let judged (t : State) : Prop :=
      let cand := s.candidate l.val d
      let run := if s.rf (Reg.SUPV_LINE_STAT_CAND l.val) = cand then min 255 ((s.line l.val).run + 1) else 1
      t.rf (Reg.SUPV_LINE_STAT_CAND l.val) = cand ∧ (t.line l.val).run = run
        ∧ t.rf (Reg.SUPV_LINE_STAT_RUN l.val) = min 15 run
        ∧ t.rf (Reg.SUPV_LINE_STAT_STATE l.val)
          = (if cand = lnOk then (if max 1 (s.rf Reg.SUPV_TIME_CLEAR) ≤ run then lnOk else s.rf (Reg.SUPV_LINE_STAT_STATE l.val))
             else if s.rf Reg.SUPV_TIME_CONFIRM ≤ run then cand else s.rf (Reg.SUPV_LINE_STAT_STATE l.val))
        ∧ ∀ j, j ≠ l.val → t.line j = s.line j
    ((s.full = false ∨ s.fresh (s.skLine l.val).pilot 1 l.val (s.line l.val).seq = false) → s.lineHub l.val = true →
      (s.line l.val).hub = true → (s.line l.val).ready = some d →
      Does (.pilotEstimate l) s (shown ++ Reg.SUPV_DEM_SEQ :: regFile (Reg.SUPV_DEM l.val) 8) (.fv :: reportPieces) fun t =>
        judged t ∧ (t.line l.val).ready = none ∧ t.reg Reg.SUPV_DEM_SEQ = BitVec.ofNat 32 s.sys.roundNo
        ∧ t.reg (Reg.SUPV_DEM l.val 0) = BitVec.ofInt 32 d.vr ∧ t.reg (Reg.SUPV_DEM l.val 6) = BitVec.ofInt 32 d.ii)
    ∧ (s.full = true → s.fresh (s.skLine l.val).pilot 1 l.val (s.line l.val).seq = true →
      s.clState (s.skLine l.val).cluster = clRunning → (s.line l.val).hub = false → d = s.rptDem (s.skLine l.val).pilot →
      s.reportWhole l.val (s.rpt (s.skLine l.val).pilot 0) = true →
      Does (.pilotEstimate l) s shown (.fv :: reportPieces) fun t => judged t ∧ (t.line l.val).stale = false
        ∧ (t.line l.val).seq = s.rpt (s.skLine l.val).pilot 0 ∧ (t.line l.val).last = s.now))
  ∧ (∀ (l : Fin 512) (s : State),
    let x := s.line l.val
    let q := s.rpt (s.skLine l.val).pilot 0
    let new := s.fresh (s.skLine l.val).pilot 1 l.val x.seq
    let only (y : Line) : Prop := Does (.pilotEstimate l) s [] [.supv] fun t => t.line l.val = y
      ∧ (∀ j, j ≠ l.val → t.line j = s.line j)
    (s.lineOn l.val = false → exec (.pilotEstimate l) s = .next s)
    ∧ (s.lineOn l.val = true → s.full = true → new = true → s.clState (s.skLine l.val).cluster = clRunning →
      (x.hub = false → s.reportWhole l.val q = false → only { x with seq := q, last := s.now, stale := false })
      ∧ (x.hub = true → 0 < s.sys.n → s.sys.n ≤ 16 →
          only { x with seq := q, last := s.now, stale := false, hub := false, dem := Dem.zero, ready := none, turn := s.sys.roundNo }))
    ∧ (s.lineOn l.val = true → (s.full = false ∨ new = false) → s.lineHub l.val = true → x.hub = false →
      only { x with hub := true, dem := Dem.zero, ready := none, turn := s.sys.roundNo }))
  ∧ (∀ (l : Fin 512) (s : State),
    (s.lineOn l.val = false ∨ s.lineHub l.val = true ∨ s.fresh (s.skLine l.val).pilot 1 l.val (s.line l.val).seq = true) →
    exec (.reportStale l) s = .next s)
  ∧ (∀ (l : Fin 512) (s : State), s.lineOn l.val = true → s.lineHub l.val = false →
    s.fresh (s.skLine l.val).pilot 1 l.val (s.line l.val).seq = false →
    Does (.reportStale l) s [Reg.SUPV_EVT] [.now, .supv] fun t =>
      t.reg Reg.SUPV_EVT = s.raised Reg.SUPV_EVT [Reg.SUPV_EVT_REPORT_STALE] ∧ t.lineHub l.val = true
      ∧ (t.line l.val).hub = true ∧ ((s.line l.val).hub = false → (t.line l.val).ready = none) ∧ (∀ j, j ≠ l.val → t.line j = s.line j)
      ∧ t.now = max s.now (max (s.line l.val).last (s.cluster (s.skLine l.val).cluster).since + 3 * sec1))
  ∧ (∀ (l : Fin 512) (s : State), s.lineOn l.val = true → s.flag (Reg.SUPV_LINE_CFG_BB_EN l.val) = true → s.full = true →
    s.clState (s.skLine l.val).cluster = clRunning →
    s.fresh (s.skLine l.val).broad 2 l.val (mget (fun _ => 0#32) s.supv.bbSeq l.val) = true →
    Does (.broadbandEstimate l) s [Reg.SUPV_LINE_STAT l.val] [.supv] fun t =>
      (∀ j, j ≠ l.val → t.line j = s.line j)
      ∧ (∀ i, i < 32 → ¬(8 ≤ i ∧ i < 16) → t.bit (Reg.SUPV_LINE_STAT l.val) i = s.bit (Reg.SUPV_LINE_STAT l.val) i)
      ∧ ∀ b, b < 8 →
        let a := (s.skLine l.val).broad
        let out := s.bandOut l.val b (s.rpt a (2 + b)).toNat 0
        let was := s.bit (Reg.SUPV_LINE_STAT l.val) (8 + b)
        let c := min 255 ((s.line l.val).bands.getD b 0 + 1)
        t.bit (Reg.SUPV_LINE_STAT l.val) (8 + b) =
          (if bitAt (s.rpt a 10) b = false then was else if out = false then false
          else was || Nat.ble (s.rf Reg.SUPV_TIME_CONFIRM) c)
        ∧ (b < (s.line l.val).bands.length → (t.line l.val).bands.getD b 0 =
          if bitAt (s.rpt a 10) b = false then (s.line l.val).bands.getD b 0 else if out = false then 0 else c))
  ∧ (∀ (a : Agent) (s : State), s.reaches a Reg.SUPV_CTL true = true → a.val ≤ 1 →
    (s.lifecycle < 2 → Does (.supvLearn a) s [] [.supv, .bus] fun t => t.bus.err = false
      ∧ (∀ l, l ∈ s.linesOn → (t.line l).learn = some Dem.zero) ∧ ∀ l, l ∉ s.linesOn → t.line l = s.line l)
    ∧ (2 ≤ s.lifecycle → Does (.supvLearn a) s [Reg.TRUST_EVT] [.trust, .bus] fun t => t.bus.err = false
      ∧ t.flag Reg.TRUST_EVT_PRIV_VIOL = true ∧ t.trust.logSeq = s.trust.logSeq + 1))
  ∧ (∀ s : State, (∃ l ∈ s.linesOn, (s.line l).learn.isSome = true) →
    (∀ l ∈ s.linesOn, ∀ g, (s.line l).learn = some g → 10 ≤ g.n) →
    Does .learnDone s (Reg.SUPV_EVT :: regFile Reg.SUPV_LINE_Z0 512 ++ regFile Reg.SUPV_LINE_STAT 512
        ++ regFile Reg.SUPV_LINE_MAP 16 ++ reportRegs) (.fv :: reportPieces) fun t =>
      t.flag Reg.SUPV_EVT_LEARN_DONE = true
      ∧ (∀ l ∈ s.linesOn, (s.line l).learn.isSome = true →
          (t.line l).learn = none ∧ (t.line l).run = 0 ∧ t.rf (Reg.SUPV_LINE_STAT_STATE l) = lnPending)
      ∧ ∀ l, (l ∉ s.linesOn ∨ (s.line l).learn = none) → t.line l = s.line l
          ∧ (l < 512 → t.reg (Reg.SUPV_LINE_STAT l) = s.reg (Reg.SUPV_LINE_STAT l)
              ∧ t.reg (Reg.SUPV_LINE_Z0 l) = s.reg (Reg.SUPV_LINE_Z0 l)))
  ∧ ∀ (a : Agent) (l : Fin 512) (v : Word) (s : State), s.reaches a (Reg.SUPV_LINE_STAT l.val) true = true → a.val ≤ 1 →
    let old := s.rf (Reg.SUPV_LINE_STAT_STATE l.val)
    let new := bitsOf v 31 28
    Does (.lineStateWrite a l v) s ([Reg.SUPV_LINE_STAT l.val, Reg.SUPV_EVT, Reg.SUPV_LINE_MAP (l.val / 32)] ++ reportRegs)
      (.bus :: reportPieces) fun t => t.bus.err = false
      ∧ (new = old → t.trust = s.trust ∧ t.link = s.link ∧ t.net = s.net ∧ t.supv = s.supv)
      ∧ (new ≠ old → ⟨1, s.trust.logSeq, s.sys.roundNo, [1, l.val, new, s.seconds]⟩ ∈ t.trust.log)
      ∧ t.reg (Reg.SUPV_LINE_STAT l.val) = (v &&& 0xFFF0FFFF#32) ||| (s.reg (Reg.SUPV_LINE_STAT l.val) &&& 0x00010000#32)
      ∧ t.bit (Reg.SUPV_LINE_MAP (l.val / 32)) (l.val % 32) = (new != lnOk && new != lnPending)
      ∧ t.reg Reg.SUPV_EVT = s.raised Reg.SUPV_EVT (if new = old then []
          else if new ≠ lnOk ∧ new ≠ lnPending then [Reg.SUPV_EVT_LINE_FAULT]
          else if new = lnOk then [Reg.SUPV_EVT_LINE_CLEAR] else [])

/-- MIC_CHECK_PERIOD takes the finished period of a checker, counts each enabled check, and STATE takes the verdict
of the counts; with no period finished nothing changes. TI_ESTIMATE shows a new report of an enabled point and keeps
the counts of low and invalid estimates, three of which raise their event. AMBIENT_REPORT takes a new report of an
enabled zone once: an invalid one changes nothing else; a valid one shows the level and changes the boost by at most
3 dB. Reports that are not new change nothing. Everything else is kept. -/
def Obligations.SupervisionOfMicsAndZones : Prop :=
  (∀ (m : Fin 128) (s : State), (s.mic m.val).ready = none → exec (.micCheckPeriod m) s = .next s)
  ∧ (∀ (m : Fin 128) (sq : Nat) (re im : Int) (s : State), (s.mic m.val).ready = some (sq, re, im) →
    let k := m.val
    let fs := s.sys.rate * 2 ^ 61
    let on (i : Nat) := (s.rf (Reg.SUPV_MIC_CFG_CHECKS k)).testBit i
    let dead := on 0 && levelBelow sq fs (s.rf (Reg.SUPV_MIC_LVL_FLOOR k))
    let count (b : Bool) (n : Nat) := if b then min 65535 (n + 1) else 0
    Does (.micCheckPeriod m) s ([Reg.SUPV_MIC_LVL k, Reg.SUPV_MIC_STAT k, Reg.SUPV_EVT, Reg.SUPV_MIC_MAP (k / 32)]
        ++ reportRegs) (.fv :: reportPieces) fun t =>
      (t.mic k).ready = none ∧ (t.mic k).dead = count dead (s.mic k).dead ∧ (t.mic k).stuck = (s.mic k).stuck
      ∧ (∀ j, j ≠ k → t.mic j = s.mic j)
      ∧ (t.mic k).loud = count (on 1 && Nat.blt (fs ^ 10) (sq ^ 10 * 10 ^ 3)) (s.mic k).loud
      ∧ (t.mic k).hit = (on 2 && Nat.ble 3 (s.mic k).stuck)
      ∧ t.rf (Reg.SUPV_MIC_STAT_STATE k) = if (on 2 && Nat.ble 3 (s.mic k).stuck) = true then mcStuck else if 30 ≤ (t.mic k).dead then mcDead
        else if 30 ≤ (t.mic k).deaf then mcDeaf else if 10 ≤ (t.mic k).loud then mcOverload
        else if 10 ≤ (t.mic k).fine then mcOk else s.rf (Reg.SUPV_MIC_STAT_STATE k))
  ∧ (∀ (i : Fin 64) (s : State),
    let n := i.val
    let a := mget (fun _ => 0) s.skein.points n
    let ti := bitsOf (s.rpt a 2) 6 0
    let valid := bitAt (s.rpt a 5) 0
    let low := valid && Nat.blt ti (s.rf Reg.SUPV_LIM_TI_LOW)
    (s.fresh a 3 n (s.point n).seq = false → exec (.tiEstimate i) s = .next s)
    ∧ (s.flag Reg.SUPV_CTL_RUN = true → s.flag (Reg.SUPV_TI_CFG_EN n) = true → s.full = true →
      s.fresh a 3 n (s.point n).seq = true →
      Does (.tiEstimate i) s ([Reg.SUPV_TI_VAL n, Reg.SUPV_EVT, Reg.SUPV_TI_MAP (n / 32)] ++ reportRegs) reportPieces
        fun t => t.rf (Reg.SUPV_TI_VAL_TI n) = ti ∧ t.flag (Reg.SUPV_TI_VAL_VALID n) = valid
        ∧ t.rf (Reg.SUPV_TI_VAL_CELLS n) = bitsOf (s.rpt a 3) 7 0 ∧ t.rf (Reg.SUPV_TI_VAL_LAG n) = bitsOf (s.rpt a 4) 5 0
        ∧ t.point n = ⟨if low then min 3 ((s.point n).low + 1) else 0, if valid then 0 else min 3 ((s.point n).invalid + 1),
            s.rpt a 0⟩
        ∧ (∀ j, j ≠ n → t.point j = s.point j)
        ∧ t.reg Reg.SUPV_EVT = s.raised Reg.SUPV_EVT ((if (t.point n).low = 3 then [Reg.SUPV_EVT_TI_LOW] else [])
            ++ if (t.point n).invalid = 3 then [Reg.SUPV_EVT_TI_INVALID] else [])
        ∧ t.bit (Reg.SUPV_TI_MAP (n / 32)) (n % 32) =
          if (t.point n).low = 3 ∨ (t.point n).invalid = 3 then true
          else if valid = true ∧ low = false then false else s.bit (Reg.SUPV_TI_MAP (n / 32)) (n % 32)))
  ∧ ∀ (z : Fin 64) (s : State),
    let n := z.val
    let a := mget (fun _ => 0) s.skein.zones n
    (s.fresh a 4 n (s.zone n).seq = false → exec (.ambientReport z) s = .next s)
    ∧ (s.flag Reg.SUPV_CTL_RUN = true → s.flag Reg.SUPV_CTL_NC_EN = true → s.flag (Reg.SUPV_NC_CFG_EN n) = true →
      s.full = true → s.fresh a 4 n (s.zone n).seq = true →
      (bitAt (s.rpt a 3) 0 = false → Does (.ambientReport z) s [] [.supv] fun t =>
        t.zone n = { s.zone n with seq := s.rpt a 0 } ∧ ∀ j, j ≠ n → t.zone j = s.zone j)
      ∧ (bitAt (s.rpt a 3) 0 = true →
        Does (.ambientReport z) s ([Reg.SUPV_NC_STAT n, Reg.TIME_EVT] ++ laneRegs)
          ([.supv, .fv, .hoop, .mem, .ecc] ++ lanePieces) fun t =>
          (t.zone n).seq = s.rpt a 0 ∧ (∀ j, j ≠ n → t.zone j = s.zone j)
          ∧ min 255 (bitsOf (s.rpt a 2) 15 0 / 16) ≤ t.rf (Reg.SUPV_NC_STAT_AMB n)
          ∧ t.rf (Reg.SUPV_NC_STAT_AMB n) ≤ min 255 (bitsOf (s.rpt a 2) 15 0 / 16 + 1)
          ∧ t.rf (Reg.SUPV_NC_STAT_BOOST n) ≤ s.rf (Reg.SUPV_NC_STAT_BOOST n) + 6
          ∧ s.rf (Reg.SUPV_NC_STAT_BOOST n) ≤ t.rf (Reg.SUPV_NC_STAT_BOOST n) + 6))

/-- A loop voltage is SHORT below 0.15, ACTIVE from there to 0.45, NORMAL to 0.80 and OPEN above, each boundary 0.01
further off in the direction of the change; that the hysteresis of 0.02 lies evenly about a boundary is the model's
DESIGN CHOICE of notes/assumptions/126.md. A band crossing restarts the filter, which counts only a band other than
the input's state while EN is 1; other inputs are kept. FILTER_ACCEPT of a counting input takes its band on as the
state with IN_CHANGE: entry to ACTIVE latches RESET for a reset key, entry to ACTIVE (or SHORT with SHORT_ACT)
latches the trigger's start, leaving such a state latches the leave. Outside Rim with no handshake towards it nothing
of the power controller changes; in Rim an enabled start latches the wake. With no band counting nothing changes. -/
def Obligations.ContactInputs : Prop :=
  ∀ (i : Fin 16) (s : State),
    (∀ v : Fin 10001,
      let band := bandOf (s.loop i.val).raw v.val
      (v.val < 1400 → band = 3) ∧ (1600 < v.val → v.val < 4400 → band = 1) ∧ (4600 < v.val → v.val < 7900 → band = 0)
      ∧ (8100 < v.val → band = 2)
      ∧ ((s.loop i.val).raw = band → exec (.contactBandChange i v) s = .next s)
      ∧ ((s.loop i.val).raw ≠ band → Does (.contactBandChange i v) s [] [.alarm] fun t =>
          t.alarm = { s.alarm with loops := t.alarm.loops } ∧ (∀ j, j ≠ i.val → t.loop j = s.loop j)
          ∧ t.loop i.val = ⟨band, s.now, s.flag (Reg.ALARM_IN_CFG_EN i.val) && band != s.inState i.val⟩))
    ∧ (let x := s.loop i.val
      let go := s.flag (Reg.ALARM_IN_CFG_EN i.val) && x.counting && x.raw != s.inState i.val
      let key := s.flag (Reg.ALARM_IN_CFG_ROLE i.val)
      let tr := s.rf (Reg.ALARM_IN_CFG_TRIG i.val)
      let begins (code : Nat) : Bool := code == 1 || (code == 3 && s.flag (Reg.ALARM_IN_CFG_SHORT_ACT i.val))
      (go = false → exec (.contactFilterAccept i) s = .next s)
      ∧ (go = true → x.raw < 4 →
        Does (.contactFilterAccept i) s [Reg.ALARM_IN_STAT, Reg.ALARM_EVT, Reg.RIM_WAKE_LATCH, Reg.RIM_WAKE_CNT]
          [.now, .alarm, .power] fun t =>
          t.now = max s.now (x.since + s.filterTime i.val) ∧ t.inState i.val = x.raw
          ∧ (∀ j, j < 16 → j ≠ i.val → t.inState j = s.inState j)
          ∧ t.reg Reg.ALARM_EVT = s.raised Reg.ALARM_EVT [Reg.ALARM_EVT_IN_CHANGE]
          ∧ t.loop i.val = { x with counting := false } ∧ (∀ j, j ≠ i.val → t.loop j = s.loop j)
          ∧ t.alarm.cmds =
              (if key then (if x.raw = 1 then s.latched t.now i.val .reset else s.alarm.cmds)
                else if begins x.raw then s.latched t.now i.val (.start tr)
                else if begins (s.inState i.val) then s.latched t.now i.val (.leave i.val tr) else s.alarm.cmds)
          ∧ (s.pstate ≠ 3 → s.power.hand = none → t.power = s.power
              ∧ t.reg Reg.RIM_WAKE_LATCH = s.reg Reg.RIM_WAKE_LATCH)
          ∧ (s.pstate = 3 → key = false → begins x.raw = true → s.bit Reg.RIM_WAKE_EN 0 = true →
              t.bit Reg.RIM_WAKE_LATCH 0 = true ∧ t.power.hubWake.isSome = true)))

/-- PLAY_END of a player with a play whose last sample has been emitted counts PLAYS up to 255 and its trigger's
plays, and latches the trigger's end where LATCH is 0 and REPEAT is reached. A completed fetch takes the present
message's voice first; a chunk that was read and matches its digest is ready, another is not. A chunk missing when
due restarts that voice from sample 0 with TAIL_FAIL and FAULT.TAIL set. Without such a play, fetch or voice nothing
changes. Every other player is kept. -/
def Obligations.AlarmPlayback : Prop :=
  ∀ (p : Fin 16) (s : State),
    let x := s.player p.val
    let kept (t : State) : Prop := (∀ q, q ≠ p.val → t.player q = s.player q)
    ((∀ e, x.ends.head? = some e → s.sys.roundNo * s.sys.n + s.sys.pass ≤ e) → exec (.messagePlayEnd p) s = .next s)
    ∧ (∀ (e : Nat) (l : List Nat), x.ends = e :: l → e < s.sys.roundNo * s.sys.n + s.sys.pass →
      Does (.messagePlayEnd p) s [] [.alarm] fun t => kept t
        ∧ t.player p.val = { x with plays := min 255 (x.plays + 1), ends := l }
        ∧ (x.holder = none → t.alarm = { s.alarm with players := t.alarm.players })
        ∧ ∀ tr, x.holder = some tr →
          let n := mget (fun _ => 0) s.alarm.plays tr + 1
          let rep := s.rf (Reg.ALARM_TRIG_CFG_REPEAT tr)
          mget (fun _ => 0) t.alarm.plays tr = n
          ∧ t.alarm.cmds = if s.flag (Reg.ALARM_TRIG_CFG_LATCH tr) = false ∧ rep ≠ 0 ∧ rep ≤ n
              then s.latched s.now 18 (.played tr) else s.alarm.cmds)
    ∧ (∀ read : Bool,
      ((∀ v ∈ x.voices, v.fetch = []) → exec (.chunkFetchDone p read) s = .next s)
      ∧ ∀ (pre post : List Voice) (v : Voice) (c : Nat) (rest : List Nat), x.voices = pre ++ v :: post →
        v.fetch = c :: rest → (∀ u ∈ pre, u.main = v.main → u.fetch = []) →
        (v.main = true ∨ ∀ u ∈ pre ++ post, u.main = true → u.fetch = []) →
        Does (.chunkFetchDone p read) s [] [.alarm] fun t => kept t
          ∧ t.alarm = { s.alarm with players := t.alarm.players }
          ∧ t.player p.val = { x with voices := pre ++
              { v with fetch := rest, ready := if read && s.chunkOk v.msg c then v.ready ++ [c] else v.ready } :: post })
    ∧ ((∀ v ∈ x.voices, s.starved v = false) → exec (.tailFail p) s = .next s)
    ∧ ∀ (pre post : List Voice) (v : Voice), x.voices = pre ++ v :: post → s.starved v = true →
      (∀ u ∈ pre, s.starved u = false) →
      Does (.tailFail p) s [Reg.ALARM_EVT, Reg.ALARM_FAULT] [.alarm] fun t => kept t
        ∧ t.alarm = { s.alarm with players := t.alarm.players }
        ∧ t.player p.val = { x with voices := pre ++ { v with k := 0, ready := [], fetch := s.firstChunks v.msg } :: post }
        ∧ t.reg Reg.ALARM_EVT = s.raised Reg.ALARM_EVT [Reg.ALARM_EVT_TAIL_FAIL] ∧ t.flag Reg.ALARM_FAULT_TAIL = true

/-- A write of ALARM_CMD that reaches its register latches its command when agent 1 makes it, after those of earlier
cycles and the contact inputs of its own, a start to be told to the partner as well, and changes nothing else. From
another agent it is answered with an error response and latches nothing. A write of ALARM_CTL by agents 0 and 1 gives
RUN its bit and keeps the others; from another agent it is an error response. -/
def Obligations.AlarmCommands : Prop :=
  ∀ (a : Agent) (s : State),
    (∀ (tr : Fin 64) (i : Instr) (c : AlarmCmd),
      (i, c) ∈ [(Instr.alarmCmdStart a tr, AlarmCmd.start tr.val), (.alarmCmdStop a tr, .stop tr.val),
        (.alarmCmdReset a, .reset)] → s.reaches a Reg.ALARM_CMD true = true →
      (a.val = 1 → Does i s [] [.alarm, .bus] fun t => t.bus.err = false
        ∧ t.alarm = { s.alarm with
            cmds := s.latched s.now 16 c, starts := s.alarm.starts ++ match c with | .start n => [n] | _ => [] })
      ∧ (a.val ≠ 1 → Errs i s [] fun _ => True))
    ∧ ∀ v : Word, s.reaches a Reg.ALARM_CTL true = true →
      (a.val ≤ 1 → Does (.alarmRunWrite a v) s [Reg.ALARM_CTL] [.bus] fun t => t.bus.err = false
        ∧ t.flag Reg.ALARM_CTL_RUN = bitAt v 0 ∧ ∀ b, 0 < b → b < 32 → t.bit Reg.ALARM_CTL b = s.bit Reg.ALARM_CTL b)
      ∧ (1 < a.val → Errs (.alarmRunWrite a v) s [] fun _ => True)

/-- The message at the front of the receive queue is checked against R200's reasons in order, reason 8 before any
other while RUN is 0. A rejected one is taken out, recorded in ALARM_REJ, counted, and logged in class ALARM with the
reason; reasons 7 and 8 leave the quarantine table as it is; nothing is latched and no counter recorded. An accepted
one sets MSG_ACCEPT, records its COUNTER and latches its command. On arrival a 17th message is dropped for reason 7
with QUEUE_OVF. A reserved KIND is always rejected. A command for another KIND, an empty queue, a message in Bare
mode or while the hub is down changes nothing. -/
def Obligations.AlarmMessages : Prop :=
  (∀ (p : Fin 7) (src : BitVec 48) (prot : Bool) (body : List Byte) (s : State),
    let i := Instr.alarmMsgArrival p src prot body
    let on := s.hubUp && !s.flag Reg.ALARM_CTL_BARE
    let m : AlarmMsg := ⟨body, s.alarmFrom p.val src.toNat prot, src.toNat, p.val⟩
    (on = false → exec i s = .next s)
    ∧ (on = true → s.alarm.rx.length < 16 → Does i s [] [.alarm] fun t =>
        t.alarm = { s.alarm with rx := s.alarm.rx ++ [m] })
    ∧ (on = true → 16 ≤ s.alarm.rx.length →
        Does i s ([Reg.ALARM_REJ, Reg.ALARM_EVT, Reg.ALARM_MSG_CNT] ++ violRegs) [.net, .trust] fun t =>
          t.reg Reg.ALARM_EVT = s.raised Reg.ALARM_EVT [Reg.ALARM_EVT_MSG_REJECT, Reg.ALARM_EVT_QUEUE_OVF]
          ∧ t.rf Reg.ALARM_REJ_REASON = 7 ∧ t.net.table = s.net.table
          ∧ t.rf Reg.ALARM_MSG_CNT_REJECT = min 65535 (s.rf Reg.ALARM_MSG_CNT_REJECT + 1)
          ∧ bitsOf (t.reg (Reg.NET_VLOG (s.rf Reg.NET_VLOG_CTL_HEAD) 1)) 31 24 = 3
          ∧ bitsOf (t.reg (Reg.NET_VLOG (s.rf Reg.NET_VLOG_CTL_HEAD) 1)) 15 0 = 7))
  ∧ ∀ (i : Instr) (kind : Nat → Bool) (cmd : AlarmMsg → AlarmCmd) (s : State),
    (i = .alarmMsgStart ∧ kind = (fun k => k == 1) ∧ cmd = fun m => .start m.trig)
    ∨ (i = .alarmMsgStop ∧ kind = (fun k => k == 2) ∧ cmd = fun m => .stop m.trig)
    ∨ (i = .alarmMsgReset ∧ kind = (fun k => k == 3) ∧ cmd = fun _ => .reset)
    ∨ (i = .alarmMsgReservedKind ∧ (kind = fun k => k == 0 || Nat.blt 3 k)) →
    ((∀ m, s.alarm.rx.head? = some m → kind m.kind = false) → exec i s = .next s)
    ∧ (s.flag Reg.ALARM_CTL_BARE = true → exec i s = .next s)
    ∧ ∀ (m : AlarmMsg) (q : List AlarmMsg), s.alarm.rx = m :: q → kind m.kind = true → s.flag Reg.ALARM_CTL_BARE = false →
      let last := if m.key = 0xFF then (s.alarm.senderCtr.find? fun e => e.1 == m.sender).map (·.2)
        else (s.alarm.keyCtr.find? fun e => e.1 == m.key).map (·.2)
      let off := m.kind = 1 ∨ m.kind = 2
      let reason :=
        if s.flag Reg.ALARM_CTL_RUN = false then 8
        else if m.ver ≠ 1 then 1
        else if m.kind = 0 ∨ 3 < m.kind then 2
        else if off ∧ (63 < m.trig ∨ s.flag (Reg.ALARM_TRIG_CFG_EN m.trig) = false
          ∨ s.flag (Reg.ALARM_TRIG_CFG_NET_OK m.trig) = false) then 3
        else if (m.key = 0xFF ∧ m.origin = .other) ∨ (m.key ≠ 0xFF ∧ (8 ≤ m.key ∨ ∀ e ∈ s.skein.keys, e.1 ≠ m.key)) then 4
        else if m.key ≠ 0xFF ∧ s.sigOk m = false then 5
        else if ∃ c, last = some c ∧ m.counter ≤ c then 6 else 0
      (reason ≠ 0 → m.port ≤ 6 → (∀ e ∈ s.net.table, e.1 < 64) →
        Does i s ([Reg.ALARM_REJ, Reg.ALARM_EVT, Reg.ALARM_MSG_CNT] ++ violRegs) [.alarm, .net, .trust] fun t =>
          t.alarm = { s.alarm with rx := q }
          ∧ t.reg Reg.ALARM_EVT = s.raised Reg.ALARM_EVT [Reg.ALARM_EVT_MSG_REJECT]
          ∧ t.flag Reg.ALARM_REJ_VALID = true ∧ t.rf Reg.ALARM_REJ_REASON = reason ∧ t.rf Reg.ALARM_REJ_KEY = m.key % 256
          ∧ t.rf Reg.ALARM_MSG_CNT_REJECT = min 65535 (s.rf Reg.ALARM_MSG_CNT_REJECT + 1)
          ∧ t.rf Reg.ALARM_MSG_CNT_ACCEPT = s.rf Reg.ALARM_MSG_CNT_ACCEPT
          ∧ t.rf Reg.NET_VLOG_CTL_HEAD = (s.rf Reg.NET_VLOG_CTL_HEAD + 1) % 1024
          ∧ bitsOf (t.reg (Reg.NET_VLOG (s.rf Reg.NET_VLOG_CTL_HEAD) 1)) 31 24 = 3
          ∧ bitsOf (t.reg (Reg.NET_VLOG (s.rf Reg.NET_VLOG_CTL_HEAD) 1)) 15 0 = reason
          ∧ (reason = 8 → t.net.table = s.net.table))
      ∧ (reason = 0 → Does i s [Reg.ALARM_EVT, Reg.ALARM_MSG_CNT, Reg.TRUST_EVT] [.alarm, .trust] fun t =>
          t.reg Reg.ALARM_EVT = s.raised Reg.ALARM_EVT [Reg.ALARM_EVT_MSG_ACCEPT]
          ∧ t.rf Reg.ALARM_MSG_CNT_ACCEPT = min 65535 (s.rf Reg.ALARM_MSG_CNT_ACCEPT + 1)
          ∧ t.lastCounter m = some m.counter
          ∧ t.alarm = { s.alarm with
              rx := q, cmds := s.latched s.now 17 (cmd m), keyCtr := t.alarm.keyCtr, senderCtr := t.alarm.senderCtr,
              starts := s.alarm.starts ++ match cmd m with | .start n => [n] | _ => [] })

/-- INPUT_LOSS of an input that runs makes it lost, with no return waiting: unless a fade runs on or it is already
silent, its gain ramps from where it stands to 0 over FADE rounds; a TDM port then reads LOST, and a first loss
counts and sets the event of its cause; the locked converter channels that the input feeds lose lock with it, and the
transmit side of a port without its clock goes off. INPUT_RETURN of a lost input whose clock and format have been
correct makes the return wait, 2 rounds after they became so. FADE_END of a fade that has run makes the gain 0;
RAMP_END of a ramp that has run makes it unity. Otherwise nothing changes; other inputs are kept. -/
def Obligations.InputLossAndReturn : Prop :=
  ∀ (i : InputId) (s : State),
    let k := inKey i
    let x := s.input k
    let stat : List Nat := match i with | .tdm n => [Reg.TDM_STAT n.val] | .aes j => [Reg.AES_IN_STAT j.val] | _ => []
    let evts : List Nat := match i with
      | .tdm n => [Reg.TDM_CNT n.val, Reg.TDM_EVT n.val] | .aes _ => [Reg.AES_EVT] | .sub _ _ => [Reg.AES_EVT] | _ => []
    let only (t : State) : Prop := t.ports = { s.ports with inputs := t.ports.inputs } ∧ ∀ j, j ≠ k → t.input j = s.input j
    let fed (ch : Nat) : Bool := Nat.blt ch 32 && s.flag (Reg.ASRC_STAT_LOCK ch) && match i with
      | .tdm _ => (s.asrcsOf k).contains ch | .aes _ => (s.asrcsOf k).contains ch
      | .sub _ _ => s.asrcOf (1056 + (k - 36)) == some ch | .asrc n => n.val == ch
    (∀ c : LossCause,
      let c' := match i with | .asrc n => if fed n.val = true then LossCause.lock else c | _ => c
      let y := { x with
        lost := true, good := none, ret := false, clk := x.clk && c' != LossCause.clock && c' != LossCause.lock,
        slip := c' == LossCause.slip, renew := x.renew || c' == LossCause.slip }
      (s.inRuns k = false → exec (.inputLoss i c) s = .next s)
      ∧ (s.inRuns k = true → Does (.inputLoss i c) s (stat ++ evts ++ Reg.ASRC_EVT :: regFile Reg.ASRC_STAT 32) [.ports]
          fun t => t.ports = { s.ports with inputs := t.ports.inputs, tx := t.ports.tx, slips := t.ports.slips }
          ∧ t.input k = (if x.fading = true ∨ (x.lost = true ∧ x.gain = 0) then y
              else { y with fading := true, ramping := false,
                            ramp := some (Ramp.start x.gain 0 (s.inRounds k true * s.sys.n)) })
          ∧ (∀ j, j ≠ k → (∀ ch, fed ch = true → j ≠ 44 + ch) → t.input j = s.input j)
          ∧ (∀ ch, fed ch = true → t.flag (Reg.ASRC_STAT_LOCK ch) = false ∧ t.bit Reg.ASRC_EVT ch = true
              ∧ (t.input (44 + ch)).lost = true)
          ∧ (∀ ch, ch < 32 → fed ch = false → t.reg (Reg.ASRC_STAT ch) = s.reg (Reg.ASRC_STAT ch))
          ∧ (x.lost = true → ∀ a ∈ evts, t.reg a = s.reg a)
          ∧ (∀ n, (∀ m, i = .tdm m → m.val ≠ n) → t.txSide n = s.txSide n)
          ∧ (∀ n, i = .tdm n → t.rf (Reg.TDM_STAT_STATE n.val) = 3 ∧ t.flag (Reg.TDM_STAT_CLK_OK n.val) = false
            ∧ t.txSide k = (if c = .clock then { s.txSide k with off := true } else s.txSide k)
            ∧ (x.lost = false → t.rf (Reg.TDM_CNT_LOSS_CNT n.val) = min 65535 (s.rf (Reg.TDM_CNT_LOSS_CNT n.val) + 1)
              ∧ t.reg (Reg.TDM_EVT n.val) = s.raised (Reg.TDM_EVT n.val) (match c with
                | .clock => [Reg.TDM_EVT_CLK_LOSS n.val] | .format => [Reg.TDM_EVT_FMT_ERR n.val]
                | .slip => [Reg.TDM_EVT_SLIP n.val] | _ => [])))
          ∧ (∀ n, i = .aes n → x.lost = false → t.bit Reg.AES_EVT (4 + n.val) = true)
          ∧ ∀ n ch, i = .sub n ch → x.lost = false → t.bit Reg.AES_EVT (4 + n.val) = true))
    ∧ ((x.good = none ∨ x.lost = false) → exec (.inputReturn i) s = .next s)
    ∧ (∀ at_, x.good = some at_ → x.lost = true → Does (.inputReturn i) s [] [.now, .ports] fun t => only t
        ∧ t.now = max s.now (at_ + 2 * s.sys.roundLen) ∧ t.input k = { x with ret := true })
    ∧ (¬ (x.fading = true ∧ x.ramp = none) → exec (.inputFadeEnd i) s = .next s)
    ∧ (x.fading = true → x.ramp = none → Does (.inputFadeEnd i) s stat [.ports] fun t => only t
        ∧ t.input k = { x with fading := false, gain := 0 })
    ∧ (¬ (x.ramping = true ∧ x.ramp = none) → exec (.inputRampEnd i) s = .next s)
    ∧ (x.ramping = true → x.ramp = none → Does (.inputRampEnd i) s stat [.ports] fun t => only t
        ∧ t.input k = { x with ramping := false, gain := unity20 })

/-- A frame from outside in error of a running port is a loss. The words of every frame are those that its data bits
spell, 0 in a slot not enabled. A frame of a port on the Lysle's own clock deposits, for the second next pass, the
words of the enabled slots with their slot gains and of no other slot; of an external port it is placed by its delay,
the first one choosing it, a delay a quarter period away being a slip; a converter port deposits nothing. A frame
sent carries, slot by slot, the finished sample of its position under the port gain, zero or high impedance where
masked out, and its bits stand on the line slot after slot, the most significant first. A commit makes the shadow
masks active, the frame in progress keeping its own, and slots newly enabled start at zero. RUN is refused for a bad
configuration. A port that does not run, or a hub that is off, changes nothing. -/
def Obligations.TdmPorts : Prop :=
  ∀ (n : Fin 32) (s : State),
    let x := s.input n.val
    let role := s.rf (Reg.TDM_CFG_ROLE n.val)
    let runs := Nat.ble 2 (s.rf (Reg.TDM_STAT_STATE n.val)) && s.hubUp
    let all := [Reg.TDM_STAT n.val, Reg.TDM_PHASE n.val, Reg.TDM_CNT n.val, Reg.TDM_EVT n.val]
    let T := s.sys.period
    let far (a b : Nat) : Bool := Nat.blt (T / 4) (a - b) || Nat.blt (T / 4) (b - a)
    let out (d : Nat) : Bool := Nat.blt d 12000 || Nat.blt (2 * T) d
    (∀ (line : List TdmClk) (rate : BitVec 18) (delay : Nat),
      let i := Instr.tdmRxFrame n line rate delay
      let ok := role == 0 || s.tdmFmtOk n.val line rate.toNat
      let data := line.map fun c => if s.flag (Reg.TDM_CFG_BCLK_EDGE n.val) then c.fall else c.rise
      let on (k : Nat) := bitAt (s.frameMask n.val) k && Nat.ble k (s.rf (Reg.TDM_CFG_SLOTS n.val))
      let bits := tdmBits (s.rf (Reg.TDM_CFG_WORD_BITS n.val))
      let vals := (s.tdmWords n.val data).zipIdx.map fun w => if on w.2 then tdmSample bits w.1 else 0
      let m := (s.place x.d0 delay).1
      let d := (s.place x.d0 delay).2
      let slips := role != 0 && far d (x.d0.getD d)
      let dead := x.dead || (role != 0 && x.d0.isSome && out d)
      let at_ := if role = 0 then some (s.sys.nextPass + 1) else if dead then none else some (s.sys.nextPass + m)
      (runs = false → exec i s = .next s)
      ∧ (runs = true → Does i s (all ++ Reg.ASRC_EVT :: regFile Reg.ASRC_STAT 32) [.ports, .sys] fun t =>
          t.sys = { s.sys with dep := t.sys.dep } ∧ t.ports.masks = mdrop n.val s.ports.masks
          ∧ t.ports.tx = s.ports.tx ∧ (∀ j, j < 44 → j ≠ n.val → t.input j = s.input j)
          ∧ (ok = false → (t.input n.val).lost = true ∧ (t.input n.val).good = none ∧ t.rf (Reg.TDM_STAT_STATE n.val) = 3
              ∧ t.flag (Reg.TDM_EVT_FMT_ERR n.val) = true ∧ (t.input n.val).last = vals)
          ∧ (ok = true → (slips = false ∨ x.lost = true) → (∀ j, j ≠ n.val → t.input j = s.input j)
              ∧ t.input n.val = { x with
                  last := vals, len := line.length - 1, clk := true, good := some (x.good.getD s.now), dead := dead,
                  d0 := if role = 0 then x.d0 else some (x.d0.getD d) })
          ∧ (ok = true → slips = true → x.lost = false → (t.input n.val).lost = true ∧ (t.input n.val).slip = true
              ∧ (t.input n.val).last = vals ∧ t.flag (Reg.TDM_EVT_SLIP n.val) = true
              ∧ t.rf (Reg.TDM_STAT_STATE n.val) = 3)
          ∧ (role ≠ 0 → x.d0 = none → t.rf (Reg.TDM_PHASE_RX_DLY n.val) = d / 15 % 65536)
          ∧ (x.d0 = none → d = delay * 15 + if T / 4 + 12000 ≤ delay * 15 then 0 else T)
          ∧ (∀ k, k < 32 → on k = true →
              t.slotGain (32 * n.val + k) = ((s.slotGain (32 * n.val + k)).frame s.sys.n).2)
          ∧ (∀ q, (∀ k, k < 32 → on k = true → q ≠ 32 * n.val + k) → t.slotGain q = s.slotGain q)
          ∧ (∀ idx, role ≠ 2 → at_ = some idx → ∀ k, k < 32 → on k = true →
              mget (fun _ => 0) t.sys.dep (sampleKey (32 * n.val + k) idx) = vals.getD k 0
              ∧ mget (fun _ => unity20) t.ports.gains (sampleKey (32 * n.val + k) idx)
                  = ((s.slotGain (32 * n.val + k)).frame s.sys.n).1)
          ∧ ∀ key, (∀ k idx, role ≠ 2 → at_ = some idx → k < 32 → on k = true → key ≠ sampleKey (32 * n.val + k) idx) →
              mget (fun _ => 0) t.sys.dep key = mget (fun _ => 0) s.sys.dep key))
    ∧ (∀ late : Nat,
      let i := Instr.tdmTxFrame n late
      let y0 := s.txSide n.val
      let y := if y0.off = true then
          { y0 with off := false, e0 := none, slip := false, dead := false, gain := 0,
                    ramp := some (Ramp.start 0 unity20 (s.inRounds n.val false * s.sys.n)) }
        else y0
      let go := runs && role != 2 && (role == 0 || x.clk || !x.lost)
      let idx := (s.txIndex (role == 0) y.e0 late).1
      let d := (s.txIndex (role == 0) y.e0 late).2
      let slips := role != 0 && !y.slip && far d (y.e0.getD d)
      let ramp := if slips = true then some (Ramp.start y.gain 0 (s.inRounds n.val true * s.sys.n)) else y.ramp
      let g := match ramp with | some r => (r.adv 1).1 | none => y.gain
      let dead := y.dead || (role != 0 && out d)
      let hiz := s.flag (Reg.TDM_CFG_TX_HIZ n.val)
      let wb := tdmBits (s.rf (Reg.TDM_CFG_WORD_BITS n.val))
      let sb := tdmBits (s.rf (Reg.TDM_CFG_SLOT_BITS n.val))
      let word (k : Nat) : Option Word :=
        if bitAt (s.reg (Reg.TDM_TXMASK_ACT n.val)) k = true then
          (if s.pairMuted (32 * n.val + k) = true ∧ hiz = true then none
          else some (tdmWord wb (s.flag (Reg.TDM_CFG_TX_ROUND n.val))
            (if dead = true then 0 else s.outSample (32 * n.val + k) idx * g / 1048576)))
        else if hiz = true then none else some 0#32
      (go = false → exec i s = .next s)
      ∧ (go = true → Does i s [Reg.TDM_PHASE n.val, Reg.TDM_CNT n.val, Reg.TDM_EVT n.val] [.ports] fun t =>
          t.ports = { s.ports with tx := t.ports.tx, slips := t.ports.slips }
          ∧ (role = 0 → t.reg (Reg.TDM_PHASE n.val) = s.reg (Reg.TDM_PHASE n.val) ∧ idx = (s.sys.nextPass : Int) - 4)
          ∧ (∀ j, j ≠ n.val → t.txSide j = s.txSide j)
          ∧ (slips = true → t.flag (Reg.TDM_EVT_SLIP n.val) = true
              ∧ t.rf (Reg.TDM_CNT_SLIP_CNT n.val) = min 65535 (s.rf (Reg.TDM_CNT_SLIP_CNT n.val) + 1))
          ∧ (slips = false → t.reg (Reg.TDM_EVT n.val) = s.reg (Reg.TDM_EVT n.val)
              ∧ t.reg (Reg.TDM_CNT n.val) = s.reg (Reg.TDM_CNT n.val) ∧ t.ports.slips = s.ports.slips)
          ∧ (role ≠ 0 → y.e0 = none → t.rf (Reg.TDM_PHASE_TX_LEAD n.val) = d / 15 % 65536)
          ∧ (let z := t.txSide n.val
            z.e0 = (if role = 0 then none else some (y.e0.getD d)) ∧ z.gain = g ∧ z.off = false ∧ z.dead = dead
            ∧ z.slip = (y.slip || slips) ∧ z.rise = s.flag (Reg.TDM_CFG_BCLK_EDGE n.val)
            ∧ z.wire = (List.range (s.rf (Reg.TDM_CFG_SLOTS n.val) + 1)).map word
            ∧ z.line.length = s.frameLen n.val ∧ (role = 0 → z.fs = s.tdmFs n.val (s.frameLen n.val))
            ∧ (s.flag (Reg.TDM_CFG_DELAY n.val) = true → 0 < s.frameLen n.val → z.line.head? = some y0.carry)
            ∧ (wb ≤ sb → ∀ k j, k ≤ s.rf (Reg.TDM_CFG_SLOTS n.val) → j < sb →
                let b := s.rf (Reg.TDM_CFG_DELAY n.val) + k * sb + j
                b < s.frameLen n.val →
                z.line[b]? = some ((word k).map fun w => Nat.blt j wb && bitAt w (wb - 1 - j))))))
    ∧ (∀ (a : Agent) (tx : Bool) (v : Word),
      let m := if tx = true then Reg.TDM_TXMASK n.val else Reg.TDM_RXMASK n.val
      s.reaches a m true = true →
      (a.val ≤ 1 → Does (.tdmMaskWrite a n tx v) s [m, Reg.TDM_STAT n.val] [.bus] fun t => t.bus.err = false ∧ t.reg m = v
        ∧ t.flag (Reg.TDM_STAT_MASK_PEND n.val) = (t.reg (Reg.TDM_RXMASK n.val) != t.reg (Reg.TDM_RXMASK_ACT n.val)
            || t.reg (Reg.TDM_TXMASK n.val) != t.reg (Reg.TDM_TXMASK_ACT n.val)))
      ∧ (1 < a.val → Errs (.tdmMaskWrite a n tx v) s [] fun _ => True))
    ∧ (runs = false → exec (.tdmMaskCommit n) s = .next s)
    ∧ (runs = true → Does (.tdmMaskCommit n) s
        [Reg.TDM_RXMASK_ACT n.val, Reg.TDM_TXMASK_ACT n.val, Reg.TDM_STAT n.val, Reg.TDM_EVT n.val] [.ports] fun t =>
        t.reg (Reg.TDM_RXMASK_ACT n.val) = s.reg (Reg.TDM_RXMASK n.val)
        ∧ t.reg (Reg.TDM_TXMASK_ACT n.val) = s.reg (Reg.TDM_TXMASK n.val)
        ∧ t.flag (Reg.TDM_STAT_MASK_PEND n.val) = false
        ∧ t.ports = { s.ports with slots := t.ports.slots, masks := t.ports.masks }
        ∧ t.frameMask n.val = s.frameMask n.val ∧ (∀ j, j ≠ n.val → t.frameMask j = s.frameMask j)
        ∧ (∀ k, k < 32 → bitAt (s.reg (Reg.TDM_RXMASK n.val)) k = true →
            bitAt (s.reg (Reg.TDM_RXMASK_ACT n.val)) k = false → (t.slotGain (32 * n.val + k)).zero = true)
        ∧ t.reg (Reg.TDM_EVT n.val) = s.raised (Reg.TDM_EVT n.val)
            (if s.reg (Reg.TDM_RXMASK n.val) = s.reg (Reg.TDM_RXMASK_ACT n.val)
              ∧ s.reg (Reg.TDM_TXMASK n.val) = s.reg (Reg.TDM_TXMASK_ACT n.val) then []
            else [Reg.TDM_EVT_MASK_COMMIT n.val]))
    ∧ ∀ (a : Agent) (v : Word), s.reaches a (Reg.TDM_CTL n.val) true = true →
      let bad := bitAt v 0 && s.tdmBad n.val
      (1 < a.val → Errs (.tdmRunWrite a n v) s [] fun _ => True)
      ∧ (a.val ≤ 1 → bad = true → Errs (.tdmRunWrite a n v) s [Reg.TDM_CTL n.val, Reg.TDM_EVT n.val] fun t =>
          t.flag (Reg.TDM_CTL_RUN n.val) = false ∧ t.flag (Reg.TDM_EVT_CFG_ERR n.val) = true)
      ∧ (a.val ≤ 1 → bad = false → Does (.tdmRunWrite a n v) s [Reg.TDM_CTL n.val, Reg.TDM_STAT n.val] [.bus] fun t =>
          t.bus.err = false ∧ t.reg (Reg.TDM_CTL n.val) = v &&& 3#32
          ∧ t.rf (Reg.TDM_STAT_STATE n.val)
            = if bitAt v 0 = true ∧ s.rf (Reg.TDM_STAT_STATE n.val) = 0 then 1 else s.rf (Reg.TDM_STAT_STATE n.val))

/-- PDM_DENS shows the density of a period of a running clock, a supervised microphone's stuck count following it and
a steady density showing from 12 periods on. PDM_MIC_EN starts a microphone on a running clock after one round of
zero and reports one whose clock is not enabled; WAKE's end starts the enabled ones. An AES3 input counts good frames
and violations, locks after 384 and loses lock after 3 violations or 2 periods without a frame, its converter
channels with it; a locked one takes its frames, errors being replaced by the last good sample and counted, and
captures channel status; a running output sends the samples of four positions before. A converter that its port feeds
locks, and the channels of the port show its ratio and delay. A trigger edge is stamped and arms the waiting ports
once. With the guard of a command not met nothing changes. -/
def Obligations.PdmAesAndTrigger : Prop :=
  (∀ (m : Fin 32) (ones : BitVec 16) (steady : Bool) (s : State),
    let go := (s.ports.clocks.any fun c => c.1 == m.val / 4) && s.hubUp
    let bits := s.pdmBits (m.val / 4)
    let n := min ones.toNat bits
    let on (j : Nat) := s.micOn j && s.rf (Reg.SUPV_MIC_CFG_SLOT j) == 1024 + m.val
    let bad := Nat.blt (n * 1024) bits || Nat.blt (1023 * bits) (n * 1024)
    let old := s.ports.dens.find? fun e => e.1 == m.val && e.2.1 == n && e.2.2.1 == bits
    (go = false → exec (.pdmDensityPeriod m ones steady) s = .next s)
    ∧ (go = true → Does (.pdmDensityPeriod m ones steady) s (Reg.PDM_DENS m.val :: Reg.SUPV_EVT :: regFile Reg.SUPV_MIC_STAT 128
        ++ regFile Reg.SUPV_MIC_MAP 4 ++ reportRegs) (.ports :: reportPieces) fun t =>
      t.rf (Reg.PDM_DENS_DENS m.val) = min 65535 (n * 65536 / bits)
      ∧ t.ports = { s.ports with dens := t.ports.dens }
      ∧ (t.ports.dens.find? fun e => e.1 == m.val) = (if steady = true then
          some (m.val, n, bits, match old with | some e => e.2.2.2 | none => s.sys.nextPass + 12) else none)
      ∧ (∀ j, j < 128 → on j = true →
          let k := if bad = true ∧ (s.rf (Reg.SUPV_MIC_CFG_CHECKS j)).testBit 2 = true then min 255 ((s.mic j).stuck + 1) else 0
          (t.mic j).stuck = k ∧ (t.mic j).hit = ((s.mic j).hit || Nat.ble 3 k)
          ∧ (3 ≤ k → (t.mic j).fine = 0 ∧ t.rf (Reg.SUPV_MIC_STAT_STATE j) = mcStuck))
      ∧ ∀ j, j < 128 → on j = false → t.mic j = s.mic j ∧ t.reg (Reg.SUPV_MIC_STAT j) = s.reg (Reg.SUPV_MIC_STAT j)))
  ∧ (∀ (a : Agent) (v : Word) (s : State), s.reaches a Reg.PDM_MIC_EN true = true →
    (1 < a.val → Errs (.pdmMicEnable a v) s [] fun _ => True)
    ∧ (a.val ≤ 1 → Does (.pdmMicEnable a v) s [Reg.PDM_MIC_EN, Reg.PDM_EVT, Reg.PDM_READY] [.ports, .bus] fun t =>
        t.bus.err = false ∧ t.reg Reg.PDM_MIC_EN = v ∧ t.ports = { s.ports with mics := t.ports.mics }
        ∧ ∀ m, m < 32 →
          let new := bitAt v m && !s.bit Reg.PDM_MIC_EN m
          let clk := s.flag (Reg.PDM_CLK_CFG_EN (m / 4))
          (bitAt v m = false → t.pdmMic m = PdmMic.init ∧ t.bit Reg.PDM_READY m = false)
          ∧ (bitAt v m = true → new = false → t.pdmMic m = s.pdmMic m)
          ∧ (new = true → clk = false → t.pdmMic m = s.pdmMic m ∧ t.flag Reg.PDM_EVT_CFG_ERR = true)
          ∧ (new = true → clk = true → t.pdmMic m =
              if m / 4 ∈ s.ports.awake then ⟨true, s.sys.n, 0, some (Ramp.start 0 unity20 s.sys.n)⟩ else s.pdmMic m)))
  ∧ (∀ (j : Fin 8) (s : State),
    let c := s.ports.clocks.find? fun c => c.1 == j.val
    ((c = none ∨ j.val ∈ s.ports.awake) → exec (.pdmWakeEnd j) s = .next s)
    ∧ ∀ at_, c = some (j.val, at_) → j.val ∉ s.ports.awake →
      Does (.pdmWakeEnd j) s [Reg.PDM_READY, Reg.PDM_EVT] [.now, .ports] fun t =>
        t.now = max s.now (at_ + s.rf (Reg.PDM_CLK_CFG_WAKE j.val) * ms1)
        ∧ t.ports = { s.ports with mics := t.ports.mics, awake := s.ports.awake ++ [j.val] }
        ∧ (∀ m, m / 4 = j.val → s.bit Reg.PDM_MIC_EN m = true → t.bit Reg.PDM_READY m = true
            ∧ t.pdmMic m = ⟨true, 0, 0, some (Ramp.start 0 unity20 s.sys.n)⟩)
        ∧ ∀ m, m < 32 → ¬ (m / 4 = j.val ∧ s.bit Reg.PDM_MIC_EN m = true) → t.pdmMic m = s.pdmMic m)
  ∧ (∀ (i : Fin 4) (s : State),
    let x := s.input (32 + i.val)
    let go := s.aesOn i.val && (s.aesRx i.val).run == 384 && !s.flag (Reg.AES_IN_STAT_LOCK i.val)
    (go = false → exec (.aesLock i) s = .next s)
    ∧ (go = true → Does (.aesLock i) s [Reg.AES_IN_STAT i.val] [.ports] fun t =>
        t.flag (Reg.AES_IN_STAT_LOCK i.val) = true ∧ t.rf (Reg.AES_IN_STAT_RATE i.val) = s.rf (Reg.AES_IN_STAT_RATE i.val)
        ∧ t.input (32 + i.val) = { x with good := some s.now, clk := true }
        ∧ t.ports = { s.ports with inputs := t.ports.inputs } ∧ ∀ j, j ≠ 32 + i.val → t.input j = s.input j)
    ∧ (s.flag (Reg.AES_IN_STAT_LOCK i.val) = false → exec (.aesLockLoss i) s = .next s)
    ∧ (s.flag (Reg.AES_IN_STAT_LOCK i.val) = true →
      Does (.aesLockLoss i) s ([Reg.AES_IN_STAT i.val, Reg.AES_EVT, Reg.ASRC_EVT] ++ regFile Reg.ASRC_STAT 32) [.now, .ports]
        fun t => t.flag (Reg.AES_IN_STAT_LOCK i.val) = false ∧ (t.input (32 + i.val)).lost = true
        ∧ t.now = (if 3 ≤ (s.aesRx i.val).viol then s.now else max s.now ((s.aesRx i.val).at_ + 2 * s.sys.period))
        ∧ t.aesRx i.val = ⟨0, 0, 0⟩ ∧ (∀ j, j ≠ i.val → t.aesRx j = s.aesRx j)
        ∧ (∀ j, j < 44 → j ≠ 32 + i.val → t.input j = s.input j)
        ∧ (∀ ch, ch ∈ s.asrcsOf (32 + i.val) → t.flag (Reg.ASRC_STAT_LOCK ch) = false)
        ∧ ∀ ch, ch < 32 → ch ∉ s.asrcsOf (32 + i.val) → t.reg (Reg.ASRC_STAT ch) = s.reg (Reg.ASRC_STAT ch)
            ∧ t.input (44 + ch) = s.input (44 + ch))
    ∧ ∀ (c : Fin 2) (bytes : List Byte),
      let b := bytes.take 24
      let ok := s.flag (Reg.AES_IN_STAT_LOCK i.val) && b.length == 24
      let bad := (b.getD 0 0#8).getLsbD 0 && aesCrc (b.take 23) != (b.getD 23 0#8).toNat
      (ok = false → exec (.aesCsBlock i c bytes) s = .next s)
      ∧ (ok = true → bad = true → Does (.aesCsBlock i c bytes) s [Reg.AES_IN_CNT i.val, Reg.AES_EVT] [] fun t =>
          t.rf (Reg.AES_IN_CNT_CRC_CNT i.val) = min 65535 (s.rf (Reg.AES_IN_CNT_CRC_CNT i.val) + 1)
          ∧ t.bit Reg.AES_EVT i.val = true)
      ∧ (ok = true → bad = false → Does (.aesCsBlock i c bytes) s
          (Reg.AES_EVT :: Reg.AES_IN_STAT i.val :: regFile (Reg.AES_IN_CS i.val c.val) 6) [] fun t =>
          (∀ w, w < 6 → t.reg (Reg.AES_IN_CS i.val c.val w) = BitVec.ofNat 32 (leNat ((b.drop (4 * w)).take 4)))
          ∧ (c.val = 0 → t.flag (Reg.AES_IN_STAT_PRO i.val) = (b.getD 0 0#8).getLsbD 0)))
  ∧ (∀ (i : Fin 4) (a b : SubFrame) (z : Bool) (rate : BitVec 18) (delay : Nat) (s : State),
    let c := Instr.aes3FrameReceive i a b z rate delay
    let go := s.aesOn i.val
    let lock := s.flag (Reg.AES_IN_STAT_LOCK i.val)
    let mode := s.flag (Reg.AES_IN_CFG_MODE i.val)
    let x := s.input (32 + i.val)
    let r := s.aesRx i.val
    let one (v : Bool) : Nat := if v = true then 1 else 0
    let bad (f : SubFrame) : Bool := f.par || f.viol
    let val (k : Nat) (f : SubFrame) : Int := if bad f = true then x.last.getD k 0 else sext 24 f.word.toNat * 256
    let rateOk := if mode = true then decide (30000 ≤ rate.toNat ∧ rate.toNat ≤ 200000)
      else decide (99 * s.sys.rate ≤ 100 * rate.toNat ∧ 100 * rate.toNat ≤ 101 * s.sys.rate)
    let d := (s.place x.d0 delay).2
    let dead := x.dead || (x.d0.isSome && (Nat.blt d 12000 || Nat.blt (2 * s.sys.period) d))
    let idx := s.sys.nextPass + (s.place x.d0 delay).1
    (go = false → exec c s = .next s)
    ∧ (go = true → Does c s ([Reg.AES_IN_CNT i.val, Reg.AES_EVT, Reg.AES_IN_PHASE i.val, Reg.AES_IN_STAT i.val, Reg.ASRC_EVT]
          ++ regFile Reg.ASRC_STAT 32) [.ports, .sys] fun t =>
        t.rf (Reg.AES_IN_STAT_RATE i.val) = rate.toNat ∧ t.sys = { s.sys with dep := t.sys.dep }
        ∧ t.flag (Reg.AES_IN_STAT_LOCK i.val) = lock
        ∧ t.aesRx i.val = { run := if a.viol = true ∨ b.viol = true then 0 else min 384 (r.run + 1),
                            viol := (if z = true then 0 else r.viol) + one a.viol + one b.viol, at_ := s.now }
        ∧ ((lock = false ∨ mode = true) → t.sys = s.sys)
        ∧ (lock = false → t.ports = { s.ports with aesRx := t.ports.aesRx } ∧ t.reg (Reg.AES_IN_CNT i.val) = s.reg (Reg.AES_IN_CNT i.val)
            ∧ t.reg Reg.AES_EVT = s.reg Reg.AES_EVT ∧ t.reg (Reg.AES_IN_PHASE i.val) = s.reg (Reg.AES_IN_PHASE i.val)
            ∧ t.reg Reg.ASRC_EVT = s.reg Reg.ASRC_EVT)
        ∧ (lock = true → (t.input (32 + i.val)).last = [val 0 a, val 1 b]
          ∧ t.rf (Reg.AES_IN_CNT_PAR_CNT i.val)
            = min 65535 (s.rf (Reg.AES_IN_CNT_PAR_CNT i.val) + one (bad a) + one (bad b))
          ∧ ((bad a = true ∨ bad b = true) → t.bit Reg.AES_EVT i.val = true)
          ∧ (rateOk = false → (t.input (32 + i.val)).lost = true ∧ (t.input (32 + i.val)).good = none)
          ∧ (rateOk = true → mode = true → t.input (32 + i.val)
              = { x with last := [val 0 a, val 1 b], clk := true, good := some (x.good.getD s.now) })
          ∧ (mode = false → dead = false →
              mget (fun _ => 0) t.sys.dep (sampleKey (1056 + 2 * i.val) idx) = val 0 a
              ∧ mget (fun _ => 0) t.sys.dep (sampleKey (1057 + 2 * i.val) idx) = val 1 b)
          ∧ (mode = false → dead = true → t.sys = s.sys))))
  ∧ (∀ (o : Fin 4) (s : State),
    let go := s.ports.aesRun.contains o.val && s.hubUp
    let idx : Int := (s.sys.nextPass : Int) - 4
    (go = false → exec (.aes3FrameSend o) s = .next s)
    ∧ (go = true → Does (.aes3FrameSend o) s [] [.ports] fun t => t.ports = { s.ports with aesOut := t.ports.aesOut }
        ∧ let f := mget (fun _ => ⟨0#24, 0#24, false, false, false⟩) t.ports.aesOut o.val
          f.a = (tdmWord 24 true (s.outSample (1056 + 2 * o.val) idx)).setWidth 24
          ∧ f.b = (tdmWord 24 true (s.outSample (1057 + 2 * o.val) idx)).setWidth 24 ∧ f.z = (idx % 192 == 0)))
  ∧ (∀ (ch : Fin 32) (ratio : Word) (dev : Fin 513) (s : State),
    let port := slotPort (s.rf (Reg.ASRC_CFG_SLOT ch.val))
    let hz := ratio.toNat * s.sys.rate
    let go := s.flag (Reg.ASRC_CFG_EN ch.val) && s.hubUp && !s.bareLayer && Nat.ble (30000 * 2 ^ 28) hz
      && Nat.ble hz (200000 * 2 ^ 28) && !(s.input port).lost && s.inRuns port
    let lock := s.flag (Reg.ASRC_STAT_LOCK ch.val)
    (go = false → exec (.asrcLock ch ratio dev) s = .next s)
    ∧ (go = true → Does (.asrcLock ch ratio dev) s (Reg.ASRC_EVT :: regFile Reg.ASRC_STAT 32 ++ regFile Reg.ASRC_RATIO 32) [.ports]
        fun t => t.flag (Reg.ASRC_STAT_LOCK ch.val) = true
          ∧ (∀ c, c < 32 → c ∈ s.asrcsOf port → t.reg (Reg.ASRC_RATIO c) = ratio ∧ t.rf (Reg.ASRC_STAT_DELAY c)
              = min 65535 (16 * 256 + 32 * 2 ^ 36 / ratio.toNat + dev.val - 256))
          ∧ (∀ c, c < 32 → c ∉ s.asrcsOf port → t.reg (Reg.ASRC_RATIO c) = s.reg (Reg.ASRC_RATIO c)
              ∧ t.reg (Reg.ASRC_STAT c) = s.reg (Reg.ASRC_STAT c))
          ∧ (lock = true → t.ports = s.ports ∧ t.reg Reg.ASRC_EVT = s.reg Reg.ASRC_EVT)
          ∧ (lock = false → t.bit Reg.ASRC_EVT ch.val = true ∧ (∀ j, j ≠ 44 + ch.val → t.input j = s.input j)
              ∧ t.input (44 + ch.val) = { s.input (44 + ch.val) with good := some s.now, clk := true }))
    ∧ (s.flag (Reg.ASRC_STAT_LOCK ch.val) = false → exec (.asrcLockLoss ch) s = .next s)
    ∧ (s.flag (Reg.ASRC_STAT_LOCK ch.val) = true →
        Does (.asrcLockLoss ch) s [Reg.ASRC_STAT ch.val, Reg.ASRC_EVT] [.ports] fun t =>
          t.flag (Reg.ASRC_STAT_LOCK ch.val) = false ∧ t.bit Reg.ASRC_EVT ch.val = true
          ∧ (t.input (44 + ch.val)).lost = true))
  ∧ ∀ (a b : Bool) (s : State),
    let go := s.hubUp && a && b
    (go = false → exec (.trigInEdge a b) s = .next s)
    ∧ (go = true → Does (.trigInEdge a b) s [Reg.TRIG_IN_RND, Reg.TRIG_IN_OFS, Reg.TRIG_EVT] [.ports] fun t =>
        t.reg Reg.TRIG_IN_RND = BitVec.ofNat 32 s.sys.roundNo ∧ t.flag Reg.TRIG_IN_OFS_VALID = true
        ∧ t.rf Reg.TRIG_IN_OFS_OFS = ((s.now - s.sys.roundStart) * 49152 + 5999999) / 6000000 % 65536
        ∧ t.reg Reg.TRIG_EVT = s.raised Reg.TRIG_EVT [Reg.TRIG_EVT_EDGE]
        ∧ t.ports = { s.ports with startPend :=
            if s.ports.startPend.isSome = true then s.ports.startPend
            else if s.waiting = [] then none else some (s.boundaryAfter us1, s.waiting) })

/-- At a port that is not up, or in Bare mode, nothing changes. A frame past the receive buffer, in error, or of a
wrong length changes only its counter; one that passes counts in RX_FRAMES; a MACsec failure counts and is logged in
class 6 with its DETAIL; an address not received, a quarantined source, a MAC control frame other than PAUSE and a
stream frame with a bad checksum change only their counters. A link frame enters ring 1, an IP frame ring 2 and any
other ring 3 where RX_OTHER lets it, or is filtered: it waits while LPDDR5X sleeps, without a buffer only NOBUF
counts, and otherwise its bytes, descriptor and HEAD are written. An ALARM frame goes to the ALARM block even from a
quarantined source. A PAUSE command is the receive of the frame as a PAUSE frame; PAUSE, its end and its watchdog
follow R267 and R268. That the watchdog's DETAIL is open is the model's free value. -/
def Obligations.NetReceivePath : Prop :=
  ∀ (p : Fin 7) (s : State),
    let n := p.val
    let c (k : Nat) := Reg.NET_COUNTERS n k
    let counts (i : Instr) (ks : List Nat) : Prop := Does i s (ks.map c) [] fun t => ∀ k ∈ ks, t.reg (c k) = sat32 (s.reg (c k))
    let on := s.netUp n && !s.flag Reg.ALARM_CTL_BARE
    let max_ := if s.flag (Reg.NET_CFG_JUMBO n) = true then 9022 else 1522
    let fits (f : NetFrame) := on && Nat.ble ((s.np n).buffered + f.len) 65536
    let sound (f : NetFrame) := fits f && f.good && Nat.ble 64 f.len && Nat.ble f.len max_
    (∀ f : NetFrame,
      let i := Instr.netFrameReceive p f
      let d := (s.secCheck n f).1
      (on = false → exec i s = .next s)
      ∧ (on = true → fits f = false → counts i [9])
      ∧ (fits f = true → f.good = false → counts i [1])
      ∧ (fits f = true → f.good = true → (f.len < 64 ∨ max_ < f.len) → counts i [2])
      ∧ (sound f = true → d ≠ 0 → s.tableFits →
          Does i s ([c 0, c 5] ++ violRegs) [.net, .trust] fun t => t.reg (c 0) = sat32 (s.reg (c 0))
            ∧ t.reg (c 5) = sat32 (s.reg (c 5)) ∧ logsBad s t 6 d)
      ∧ (sound f = true → n < 6 → s.flag (Reg.NET_SEC_CFG_EN n) = false →
        (s.dstHit n f.dst = false → counts i [0, 3])
        ∧ (s.dstHit n f.dst = true →
          (∀ body, alarmBody f.bytes = some body → s.alarm.rx.length < 16 → Does i s [c 0] [.alarm] fun t =>
              t.alarm = { s.alarm with rx := s.alarm.rx ++ [s.alarmOf n f.src false body] })
          ∧ (alarmBody f.bytes = none → s.quarantined n f.src = true → counts i [0, 4])
          ∧ (alarmBody f.bytes = none → s.quarantined n f.src = false →
            (f.etype = 0x8808 → be16 f.bytes (etherAt f.bytes + 2) ≠ 1 → counts i [0, 7])
            ∧ (f.etype ≠ 0x8808 → ptpAt f.bytes = none →
              (s.streamTo n f ≠ none → csumOf f.bytes = 2 → counts i [0, 8])
              ∧ (s.streamTo n f = none →
                let r := if isLink f.bytes = true then 1 else if isIp f.bytes = true then 2 else 3
                let other := !isLink f.bytes && !isIp f.bytes && !s.flag (Reg.NET_CFG_RX_OTHER n)
                let w : RxFrame := ⟨r, n, csumOf f.bytes, 0, 0, s.sys.roundNo, f.bytes, s.now⟩
                let h := bitsOf (s.reg (Reg.NET_RXR_HEAD r)) 9 0
                let desc := s.rxDesc r h
                let w1 := s.word (desc + 4)
                let buf := (s.word desc).toNat + bitsOf w1 7 0 * 2 ^ 32
                (other = true → counts i [0, 3])
                ∧ (other = false → s.flag Reg.PWR_STAT_DDR_SR = true → Does i s [c 0] [.net, .power] fun t =>
                    t.np n = { s.np n with fifo := (s.np n).fifo ++ [w] } ∧ ∀ q, q ≠ n → t.np q = s.np q)
                ∧ (other = false → s.flag Reg.PWR_STAT_DDR_SR = false → f.bytes.length ≤ 2048 →
                  desc + 16 ≤ 0x10000000 → buf + 2048 ≤ 0x10000000 →
                  let won := { s.net with won := mset (fun _ => 0) s.net.won r n }
                  (bitAt w1 31 = false → Does i s [c 0, Reg.NET_RXR_NOBUF r] [.net] fun t => t.net = won
                      ∧ t.reg (Reg.NET_RXR_NOBUF r) = sat32 (s.reg (Reg.NET_RXR_NOBUF r)))
                  ∧ (bitAt w1 31 = true → Does i s [c 0, Reg.NET_RXR_HEAD r] [.net, .mem] fun t => t.net = won
                      ∧ t.reg (Reg.NET_RXR_HEAD r) = BitVec.ofNat 32 ((h + 1) % 1024)
                      ∧ (∀ a, ¬ (buf ≤ a ∧ a < buf + f.bytes.length) → ¬ (desc + 4 ≤ a ∧ a < desc + 16) → t.byte a = s.byte a)
                      ∧ bitAt (t.word (desc + 4)) 31 = false ∧ bitsOf (t.word (desc + 4)) 30 29 = 3
                      ∧ bitsOf (t.word (desc + 4)) 27 25 = n ∧ bitsOf (t.word (desc + 4)) 24 23 = csumOf f.bytes
                      ∧ bitsOf (t.word (desc + 8)) 15 0 = f.bytes.length
                      ∧ bitsOf (t.word (desc + 8)) 31 16 = f.bytes.length
                      ∧ (buf + f.bytes.length ≤ desc + 4 ∨ desc + 16 ≤ buf →
                          t.bytes buf f.bytes.length = f.bytes)))))))))
    ∧ (∀ (f : NetFrame) (q : BitVec 16),
      let i := Instr.pauseFrameReceive p f q
      let g := pauseOf f q
      let x := s.np n
      let deaf := !s.flag (Reg.NET_CFG_PAUSE_EN n) || s.rf (Reg.NET_STAT_STREAMS n) != 0 || n == 6 || Nat.blt s.now x.deaf
      exec i s = exec (.netFrameReceive p g) s
      ∧ (sound g = true → (s.secCheck n g).1 = 0 → (s.secCheck n g).2.2 = none → 22 ≤ f.bytes.length →
        (n = 6 ∨ (s.dstHit n g.dst = true ∧ s.quarantined n g.src = false)) →
        (deaf = true → counts i [0, 6])
        ∧ (deaf = false → Does i s [c 0, c 6, Reg.NET_STAT n] [.net] fun t =>
            t.reg (c 0) = sat32 (s.reg (c 0)) ∧ t.reg (c 6) = sat32 (s.reg (c 6)) ∧ (∀ j, j ≠ n → t.np j = s.np j)
            ∧ t.flag (Reg.NET_STAT_PAUSED n) = decide (q ≠ 0#16)
            ∧ (let start := match x.pause with | some w => w.1 | none => max s.now x.free
              t.np n = if q = 0#16 then { x with pause := none }
                else { x with pause := some (start, max s.now start + s.wireTime n (64 * q.toNat)), pauseSrc := g.src }))))
    ∧ ((s.np n).pause = none → exec (.pauseEnd p) s = .next s ∧ exec (.pauseWatchdog p) s = .next s)
    ∧ ∀ start stop, (s.np n).pause = some (start, stop) →
      let lim := start + s.rf (Reg.NET_CFG_PAUSE_LIM n) * us1
      (lim < stop → exec (.pauseEnd p) s = .next s) ∧ (stop ≤ lim → exec (.pauseWatchdog p) s = .next s)
      ∧ (stop ≤ lim → Does (.pauseEnd p) s [Reg.NET_STAT n] [.now, .net] fun t => t.now = max s.now stop
          ∧ t.np n = { s.np n with pause := none } ∧ (∀ j, j ≠ n → t.np j = s.np j)
          ∧ t.flag (Reg.NET_STAT_PAUSED n) = false)
      ∧ (lim < stop → s.tableFits →
          Does (.pauseWatchdog p) s ([Reg.NET_STAT n, c 15, Reg.NET_EVT n] ++ violRegs) [.now, .net, .fv, .trust] fun t =>
            t.now = max s.now lim ∧ t.np n = { s.np n with pause := none, deaf := lim + s.rf (Reg.NET_CFG_PAUSE_LIM n) * us1 }
            ∧ (∀ j, j ≠ n → t.np j = s.np j) ∧ t.flag (Reg.NET_STAT_PAUSED n) = false
            ∧ t.reg (c 15) = sat32 (s.reg (c 15)) ∧ t.flag (Reg.NET_EVT_PAUSE_WDG n) = true
            ∧ bitsOf (t.reg (Reg.NET_VLOG (s.rf Reg.NET_VLOG_CTL_HEAD) 1)) 31 24 = 4)

/-- With no frame or the port down nothing changes; in low-power idle the line wakes first. With the gates not in
force and no ring frame to take up, the first frame of the highest filled queue that a pause does not hold leaves:
the queue loses it, the line is busy for its time and the gap, TX_FRAMES counts, a stream frame counts in its
context, a secured one uses a packet number, and without a live association it is dropped and counted; a ring frame's
descriptors complete. Ring tails take their low bits, and a whole ring frame is queued; agents but 0 and 2 get an
error response, and the pair link ignores the tail. A commit sets PEND for the first boundary 1 µs on, or GCL_REFUSED
for a list as long as the round. A gate entry's end begins the next. -/
def Obligations.NetTransmitPath : Prop :=
  (∀ (p : Fin 7) (s : State),
    let n := p.val
    let x := s.np n
    let wakes := s.flag (Reg.NET_STAT_LPI_TX n)
    let others (t : State) : Prop := ∀ j, j ≠ n → t.np j = s.np j
    ((s.netUp n = false ∨ x.queues = []) → exec (.txFrameStart p) s = .next s)
    ∧ (s.netUp n = true → x.queues ≠ [] → wakes = true → Does (.txFrameStart p) s [Reg.NET_STAT n] [.net] fun t =>
        others t ∧ t.flag (Reg.NET_STAT_LPI_TX n) = false ∧ t.np n = { x with
          free := s.now + if s.rf (Reg.NET_STAT_SPEED n) = 5 then 180000 else 99000 })
    ∧ ∀ (q : Nat) (f : TxFrame) (l : List TxFrame), s.netUp n = true → wakes = false → (x.gates = false ∨ n = 6) →
      q < 8 → x.queue q = f :: l → (∀ j, q < j → j < 8 → x.queue j = []) → (x.pause = none ∨ q = 7) →
      (n = 6 ∨ (s.flag Reg.PWR_STAT_DDR_SR = false
        ∧ s.txSpan n (bitsOf (s.reg (Reg.NET_TXR_HEAD n)) 7 0) (s.txGiven n) = none)) →
      let an := s.rf (Reg.NET_SEC_CFG_TX_AN n)
      let sec := s.secured n f.etype
      let out := sec && !s.txLive n
      let low (i : Nat) : Prop := n = 6 ∨ s.txDesc n i + 16 ≤ 0x10000000
      let secRegs := if sec then [Reg.NET_SEC_SA_PN_LO n an, Reg.NET_SEC_SA_PN_HI n an, Reg.NET_EVT n, Reg.TRUST_EVT] else []
      let bodyRegs : List Nat := match f.body with
        | .stream c _ _ _ _ _ _ => [Reg.CTX_CNT2 c, Reg.CTX_STAT c] | _ => []
      ((∀ h k r c b, f.body ≠ .ring h k r c b) → (∀ g, f.body ≠ .firmware 3 g) → low (bitsOf (s.reg (Reg.NET_TXR_HEAD n)) 7 0) →
        (out = true → Does (.txFrameStart p) s [Reg.NET_COUNTERS n 14] [.now, .net, .fv] fun t => others t
            ∧ (t.np n).queue q = l ∧ (t.np n).wire = x.wire ∧ t.reg (Reg.NET_COUNTERS n 14) = sat32 (s.reg (Reg.NET_COUNTERS n 14)))
        ∧ (out = false → Does (.txFrameStart p) s (Reg.NET_COUNTERS n 10 :: bodyRegs ++ secRegs)
            ([.now, .net] ++ if sec then [.trust] else []) fun t => others t
            ∧ t.now = max s.now x.free ∧ (t.np n).queue q = l ∧ (∀ j, j ≠ q → (t.np n).queue j = x.queue j)
            ∧ (t.np n).wire = some (match f.body with
                | .stream c leg _ seq st rt ws => { f with body := .plain (s.streamBytes c leg seq st rt ws) } | _ => f)
            ∧ (t.np n).free = t.now + s.wireTime n (8 + f.len + (if sec then 32 else 0) + 12)
            ∧ t.reg (Reg.NET_COUNTERS n 10) = sat32 (s.reg (Reg.NET_COUNTERS n 10))
            ∧ (sec = true → t.pn n an = (s.pn n an + 1) % 2 ^ 64)
            ∧ ∀ c leg r seq st rt ws, f.body = .stream c leg r seq st rt ws → c < 512 →
                t.reg (Reg.CTX_CNT2 c) = sat32 (s.reg (Reg.CTX_CNT2 c)) ∧ t.rf (Reg.CTX_STAT_LAST_SEQ c) = seq % 65536))
      ∧ ∀ h k cs b, f.body = .ring h k false cs b → ptpAt b = none → (∀ i, i < 256 → low i) → n ≠ 6 → out = false →
        Does (.txFrameStart p) s (Reg.NET_COUNTERS n 10 :: secRegs) ([.now, .net, .mem, .fv] ++ if sec then [.trust] else [])
          fun t => others t ∧ t.now = max s.now x.free ∧ (t.np n).queue q = l
          ∧ (t.np n).wire = some { f with body := .ring h k false cs (if cs = true then insertCsum b else b) }
          ∧ t.reg (Reg.NET_COUNTERS n 10) = sat32 (s.reg (Reg.NET_COUNTERS n 10))
          ∧ (∀ j, j < k → t.word (s.txDesc n (h + j) + 12) = 0#32 ∧ bitAt (t.word (s.txDesc n (h + j) + 4)) 31 = false)
          ∧ ∀ a, (∀ j, j < k → ¬ (s.txDesc n (h + j) + 4 ≤ a ∧ a < s.txDesc n (h + j) + 8)
              ∧ ¬ (s.txDesc n (h + j) + 12 ≤ a ∧ a < s.txDesc n (h + j) + 16)) → t.byte a = s.byte a)
  ∧ (∀ (a : Agent) (p : Fin 7) (v : Word) (s : State),
    let n := p.val
    let i := Instr.txRingTailWrite a p v
    let h := bitsOf (s.reg (Reg.NET_TXR_HEAD n)) 7 0
    let given := (bitsOf v 7 0 + 256 - h) % 256 + 1
    s.reaches a (Reg.NET_TXR_TAIL n) true = true →
    (a.val ≠ 0 → a.val ≠ 2 → Errs i s [] fun _ => True)
    ∧ ((a.val = 0 ∨ a.val = 2) →
      (n = 6 → Does i s [] [.bus] fun t => t.bus.err = false)
      ∧ (n ≠ 6 → s.flag Reg.PWR_STAT_DDR_SR = true → Does i s [Reg.NET_TXR_TAIL n] [.power, .bus] fun t =>
          t.bus.err = false ∧ t.rf ⟨Reg.NET_TXR_TAIL n, 31, 0⟩ = bitsOf v 7 0 ∧ t.power.waking.any (fun w => w.1 == 18) = true)
      ∧ (n ≠ 6 → s.flag Reg.PWR_STAT_DDR_SR = false → s.txSpan n h given = none → s.txDesc n h + 16 ≤ 0x10000000 →
          Does i s [Reg.NET_TXR_TAIL n] [.bus] fun t => t.bus.err = false ∧ (t.reg (Reg.NET_TXR_TAIL n)).toNat = bitsOf v 7 0)
      ∧ (n ≠ 6 → s.flag Reg.PWR_STAT_DDR_SR = false → s.txSpan n h given = some given → s.netUp n = true →
          let bytes := s.txBytes n h given
          let w1 := s.word (s.txDesc n h + 4)
          let q := bitsOf w1 27 25
          bytes.length + 4 ≤ s.maxLen n → ((s.np n).queue q).length < 32 →
          (∀ k, k < given → s.txBuf n (h + k) < 0x10000000) →
          Does i s [Reg.NET_TXR_TAIL n, Reg.NET_TXR_HEAD n] [.net, .bus] fun t => t.bus.err = false
            ∧ (t.reg (Reg.NET_TXR_HEAD n)).toNat = (h + given) % 256 ∧ (∀ j, j ≠ n → t.np j = s.np j)
            ∧ (t.np n).queue q = (s.np n).queue q ++
                [⟨bytes.length + 4, be16 bytes (etherAt bytes), .ring h given (bitAt w1 23) (bitAt w1 24) bytes, false⟩])))
  ∧ (∀ (a : Agent) (r : Fin 4) (v : Word) (s : State), s.reaches a (Reg.NET_RXR_TAIL r.val) true = true →
    ((a.val ≠ 0 ∧ a.val ≠ 2) → Errs (.rxRingTailWrite a r v) s [] fun _ => True)
    ∧ ((a.val = 0 ∨ a.val = 2) → Does (.rxRingTailWrite a r v) s [Reg.NET_RXR_TAIL r.val] [.bus] fun t =>
        t.bus.err = false ∧ (t.reg (Reg.NET_RXR_TAIL r.val)).toNat = bitsOf v 9 0))
  ∧ (∀ (a : Agent) (p : Fin 7) (v : Word) (s : State),
    let n := p.val
    let i := Instr.gclCommit a p v
    let pend := s.flag (Reg.NET_GCL_CTL_PEND n)
    let sum := (List.range (bitsOf v 7 0)).foldl (fun t j => t + bitsOf (s.reg (Reg.NET_GCL_ADMIN n j)) 17 0) 0
    s.reaches a (Reg.NET_GCL_CTL n) true = true →
    ((a.val ≠ 0 ∧ a.val ≠ 2) → Errs i s [] fun _ => True)
    ∧ ((a.val = 0 ∨ a.val = 2) →
      (n = 6 → Does i s [] [.bus] fun t => t.bus.err = false)
      ∧ (n ≠ 6 → pend = true → bitsOf v 7 0 ≠ s.rf (Reg.NET_GCL_CTL_LEN n) → Errs i s [] fun _ => True)
      ∧ (n ≠ 6 → pend = true → bitsOf v 7 0 = s.rf (Reg.NET_GCL_CTL_LEN n) →
          Does i s [Reg.NET_GCL_CTL n] [.bus] fun t => t.bus.err = false ∧ t.flag (Reg.NET_GCL_CTL_PEND n) = true
            ∧ t.flag (Reg.NET_GCL_CTL_EN n) = bitAt v 31)
      ∧ (n ≠ 6 → pend = false → s.sys.roundLen / 15 ≤ sum →
          Does i s [Reg.NET_GCL_CTL n, Reg.NET_EVT n] [.bus] fun t => t.bus.err = false
            ∧ t.flag (Reg.NET_EVT_GCL_REFUSED n) = true ∧ t.flag (Reg.NET_GCL_CTL_PEND n) = false)
      ∧ (n ≠ 6 → pend = false → sum < s.sys.roundLen / 15 →
          Does i s [Reg.NET_GCL_CTL n] [.net, .bus] fun t => t.bus.err = false ∧ t.flag (Reg.NET_GCL_CTL_PEND n) = true
            ∧ t.rf (Reg.NET_GCL_CTL_LEN n) = bitsOf v 7 0 ∧ t.flag (Reg.NET_GCL_CTL_EN n) = bitAt v 31
            ∧ t.np n = { s.np n with swapDue := some (s.boundaryAfter us1) } ∧ ∀ j, j ≠ n → t.np j = s.np j)))
  ∧ ∀ (p : Fin 6) (s : State),
    let n := p.val
    let e := s.rf (Reg.NET_GCL_STAT_ENTRY n)
    (s.rf (Reg.NET_GCL_STAT_OPER_LEN n) ≤ e → exec (.gateEntryChange p) s = .next s)
    ∧ (e < s.rf (Reg.NET_GCL_STAT_OPER_LEN n) → Does (.gateEntryChange p) s [Reg.NET_GCL_STAT n] [.now, .net] fun t =>
        let stop := (s.np n).entryAt + 15 * bitsOf (s.reg (Reg.NET_GCL_OPER n e)) 17 0
        t.now = max s.now stop ∧ t.rf (Reg.NET_GCL_STAT_ENTRY n) = e + 1 ∧ t.np n = { s.np n with entryAt := stop }
        ∧ ∀ j, j ≠ n → t.np j = s.np j)

/-- LINK_UP in a mode the port can take sets SPEED, LINK and its event, and LOWERED where it came up lowered;
LINK_DOWN of a link that is up empties its queues with its event; a lane's change shows in PAIR_STAT. NET_CTL
restarts a port: link down, configured speed, queues empty. Attempts at a lower speed and low-power idle follow R254
and R269. NET_VLOG_GO by agents 1 and 2 enters the staged words with the round; windows and quarantines end at their
times; NET_QCLR frees an entry. Other agents get an error response; commands whose condition does not hold change
nothing. -/
def Obligations.NetLinksAndViolations : Prop :=
  (∀ (l : Fin 8) (m : LineMode) (s : State), l.val < 6 →
    let n := l.val
    let free_ := s.hubUp && s.flag (Reg.NET_CTL_EN n) && !s.flag (Reg.NET_STAT_LINK n)
    ((free_ = false ∨ s.modeFits n m = none) → exec (.linkUp l m) s = .next s)
    ∧ ∀ code low, free_ = true → s.modeFits n m = some (code, low) →
      Does (.linkUp l m) s [Reg.NET_STAT n, Reg.NET_EVT n] [.net] fun t =>
        t.rf (Reg.NET_STAT_SPEED n) = code ∧ t.flag (Reg.NET_STAT_LINK n) = true
        ∧ t.reg (Reg.NET_EVT n) = s.raised (Reg.NET_EVT n)
            ([Reg.NET_EVT_LINK_UP n] ++ if low then [Reg.NET_EVT_LOWERED n] else [])
        ∧ t.flag (Reg.NET_STAT_LOWERED n) = (s.flag (Reg.NET_STAT_LOWERED n) || low)
        ∧ t.np n = { s.np n with free := s.now, idle := s.now } ∧ ∀ j, j ≠ n → t.np j = s.np j)
  ∧ (∀ (l : Fin 8) (s : State), l.val < 6 →
    let n := l.val
    (s.flag (Reg.NET_STAT_LINK n) = false → exec (.linkDown l) s = .next s)
    ∧ (s.flag (Reg.NET_STAT_LINK n) = true → Does (.linkDown l) s (Reg.NET_STAT n :: Reg.NET_EVT n :: errRegs) [.net, .mem] fun t =>
        t.flag (Reg.NET_STAT_LINK n) = false ∧ t.reg (Reg.NET_EVT n) = s.raised (Reg.NET_EVT n) [Reg.NET_EVT_LINK_DOWN n]
        ∧ t.np n = { s.np n with
            queues := [], wire := none, free := s.now, pause := none, tries := 0, tryAt := s.now, idle := s.now }
        ∧ t.rf (Reg.NET_STAT_SPEED n) = s.rf (Reg.NET_CFG_MODE n) ∧ t.flag (Reg.NET_STAT_LOWERED n) = false
        ∧ (∀ j, j ≠ n → t.np j = s.np j)
        ∧ ((s.np n).queues = [] → (∀ a, t.byte a = s.byte a) ∧ ∀ a ∈ errRegs, t.reg a = s.reg a)))
  ∧ (∀ (l : Fin 8) (s : State), 6 ≤ l.val → s.pair.lanes.length = 2 →
    let k := l.val - 6
    let shown := if k = 0 then Reg.PAIR_STAT_LANE0 else Reg.PAIR_STAT_LANE1
    (∀ m : LineMode, (m ≠ .m25G ∨ s.hubUp = false ∨ s.flag (Reg.NET_CTL_EN 6) = false) → exec (.linkUp l m) s = .next s)
    ∧ (s.hubUp = true → s.flag (Reg.NET_CTL_EN 6) = true → Does (.linkUp l .m25G) s
        [Reg.NET_STAT 6, Reg.NET_EVT 6, Reg.PAIR_STAT, Reg.PAIR_EVT] [.net, .pair] fun t =>
        t.flag (Reg.NET_STAT_LINK 6) = true ∧ t.flag shown = true ∧ t.lane k = { s.lane k with up := true }
        ∧ t.lane (1 - k) = s.lane (1 - k))
    ∧ (let gone := (s.pair.rejoin.any fun r => r.donor) && !(s.lane (1 - k)).up
      Does (.linkDown l) s ([Reg.NET_STAT 6, Reg.NET_EVT 6, Reg.PAIR_STAT, Reg.PAIR_EVT] ++ errRegs) [.net, .pair, .mem] fun t =>
        t.flag shown = false ∧ t.lane k = { s.lane k with up := false } ∧ t.lane (1 - k) = s.lane (1 - k)
        ∧ (gone = true → t.pair.rejoin = none ∧ t.pair.hub = [] ∧ t.pair.mirror = [] ∧ t.rf Reg.PAIR_STAT_PHASE = 0
            ∧ t.flag Reg.PAIR_EVT_REJOIN_FAIL = true)
        ∧ (gone = false → t.pair = { s.pair with lanes := t.pair.lanes })
        ∧ t.flag (Reg.NET_STAT_LINK 6) = (s.flag (Reg.NET_STAT_LINK 6) && (s.lane (1 - k)).up)))
  ∧ (∀ (a : Agent) (p : Fin 7) (en : Bool) (s : State), s.reaches a (Reg.NET_CTL p.val) true = true →
    let n := p.val
    (2 < a.val → Errs (.netRestart a p en) s [] fun _ => True)
    ∧ (a.val ≤ 2 → Does (.netRestart a p en) s ([Reg.NET_CTL n, Reg.NET_STAT n, Reg.NET_EVT n] ++ errRegs
          ++ if n = 6 then [Reg.PAIR_STAT, Reg.PAIR_EVT] else [])
        ([.net, .mem, .bus] ++ if n = 6 then [.pair] else []) fun t =>
        t.bus.err = false ∧ t.flag (Reg.NET_CTL_EN n) = en ∧ t.flag (Reg.NET_STAT_LINK n) = false
        ∧ t.rf (Reg.NET_STAT_SPEED n) = (if n = 6 then 0 else s.rf (Reg.NET_CFG_MODE n)) ∧ (t.np n).queues = []
        ∧ (t.np n).tries = 0 ∧ (∀ j, j ≠ n → t.np j = s.np j)
        ∧ (n = 6 → t.flag Reg.PAIR_STAT_LANE0 = false ∧ t.flag Reg.PAIR_STAT_LANE1 = false)
        ∧ (s.flag (Reg.NET_STAT_LINK n) = true → t.flag (Reg.NET_EVT_LINK_DOWN n) = true)
        ∧ ((s.np n).queues = [] → (∀ a, t.byte a = s.byte a) ∧ ∀ a ∈ errRegs, t.reg a = s.reg a)))
  ∧ (∀ (p : Fin 6) (s : State),
    let n := p.val
    let x := s.np n
    let may := s.flag (Reg.NET_CTL_EN n) && !s.flag (Reg.NET_STAT_LINK n) && s.flag (Reg.NET_CFG_SPD_LOWER n)
      && s.rf (Reg.NET_STAT_STREAMS n) == 0
    ((may = false ∨ (n < 4 ∧ s.rf (Reg.NET_CFG_MODE n) ≠ 0)) → exec (.speedLowerTry p) s = .next s)
    ∧ (may = true → n < 4 → s.rf (Reg.NET_CFG_MODE n) = 0 → Does (.speedLowerTry p) s [Reg.NET_STAT n] [.now, .net] fun t =>
        t.now = max s.now (x.tryAt + 500 * ms1) ∧ t.rf (Reg.NET_STAT_SPEED n) = (x.tries + 1) % 2
        ∧ t.np n = { x with tries := x.tries + 1, tryAt := t.now } ∧ ∀ j, j ≠ n → t.np j = s.np j)
    ∧ (may = true → 4 ≤ n → Does (.speedLowerTry p) s [Reg.NET_STAT n] [.net] fun t =>
        t.np n = { x with tries := min 3 (x.tries + 1), tryAt := s.now } ∧ (2 ≤ x.tries → t.rf (Reg.NET_STAT_SPEED n) = 5)
        ∧ ∀ j, j ≠ n → t.np j = s.np j))
  ∧ (∀ (p : Fin 2) (s : State),
    let n := 4 + p.val
    let go := s.netUp n && s.flag (Reg.NET_CFG_EEE_EN n) && (s.np n).queues == [] && !s.flag (Reg.NET_STAT_LPI_TX n)
    (go = false → exec (.lpiEntry p) s = .next s)
    ∧ (go = true → Does (.lpiEntry p) s [Reg.NET_STAT n] [.now] fun t =>
        t.now = max s.now ((s.np n).idle + 100 * us1) ∧ t.flag (Reg.NET_STAT_LPI_TX n) = true))
  ∧ (∀ (a : Agent) (s : State), s.reaches a Reg.NET_VLOG_GO true = true →
    let h := s.rf Reg.NET_VLOG_CTL_HEAD
    ((a.val ≠ 1 ∧ a.val ≠ 2) → Errs (.netVlogGo a) s [] fun _ => True)
    ∧ ((a.val = 1 ∨ a.val = 2) → (∀ e ∈ s.net.table, e.1 < 64) →
      Does (.netVlogGo a) s violRegs [.net, .trust, .bus] fun t => t.bus.err = false
        ∧ t.reg (Reg.NET_VLOG h 0) = BitVec.ofNat 32 s.sys.roundNo
        ∧ (∀ k, k < 3 → t.reg (Reg.NET_VLOG h (k + 1)) = s.reg (Reg.NET_VLOG_ADD k))
        ∧ t.rf Reg.NET_VLOG_CTL_HEAD = (h + 1) % 1024 ∧ t.flag Reg.NET_CEVT_VIOL = true))
  ∧ (∀ (e c : Nat) (i : Instr) (q : Option Source) (s : State), e < 64 → c < 256 → s.source e = q →
    let regs := [Reg.NET_QTAB_LO e, Reg.NET_QTAB_HI e]
    let others (t : State) : Prop := ∀ j, j ≠ e → t.source j = s.source j
    ((∃ (e' : Fin 64) (c' : Fin 256), e'.val = e ∧ c'.val = c ∧ i = .violationWindowEnd e' c') →
      ((∀ x w, q = some x → w ∈ x.wins → w.1 ≠ c) → exec i s = .next s)
      ∧ ∀ x w, q = some x → x.wins.find? (fun w => w.1 == c) = some w → Does i s regs [.now, .net] fun t => others t
          ∧ t.now = max s.now (w.2.1 + 10 * sec1)
          ∧ t.source e = Source.keep { x with wins := x.wins.filter fun w => w.1 != c })
    ∧ ((∃ e' : Fin 64, e'.val = e ∧ i = .quarantineEnd e') →
      ((∀ x, q = some x → x.quar = none) → exec i s = .next s)
      ∧ ∀ x end_, q = some x → x.quar = some end_ → Does i s regs [.now, .net] fun t => others t ∧ t.now = max s.now end_
          ∧ t.source e = Source.keep { x with wins := x.wins.filter (fun w => Nat.blt t.now (w.2.1 + 10 * sec1)), quar := none })
    ∧ ∀ a : Agent, (∃ e' : Fin 64, e'.val = e ∧ i = .netQclr a e') → s.reaches a Reg.NET_QCLR true = true →
      ((a.val ≠ 0 ∧ a.val ≠ 2) → Errs i s [] fun _ => True)
      ∧ ((a.val = 0 ∨ a.val = 2) → Does i s regs [.net, .bus] fun t => others t ∧ t.bus.err = false ∧ t.source e = none))

/-- CTX_CFG by agents 0 and 2: while EN is 0 the word is taken, but EN with a binding reason is refused with an error
response, REFUSE and BIND_REFUSED; while EN is 1 only EN changes, and a write that keeps EN and changes another field
is an error response; other agents get one. STREAM_FRAME_SEND of a running transmit context hands over one frame of
the round just ended for each leg whose port is up with its gates in force, the rounding of its words being the
model's free value; a full queue counts TX_QFULL. FRER_RESET empties the window of a context 10 ms after its last
frame. Otherwise nothing changes. -/
def Obligations.StreamContexts : Prop :=
  ∀ (i : Fin 511) (s : State),
    let k := i.val
    let cfg := s.reg (Reg.CTX_CFG k)
    (∀ (a : Agent) (v : Word), s.reaches a (Reg.CTX_CFG k) true = true →
      let c := Instr.ctxEnable a i v
      let en := bitAt cfg 31
      let same := bitsOf v 30 0 == bitsOf cfg 30 0
      ((a.val ≠ 0 ∧ a.val ≠ 2) → Errs c s [] fun _ => True)
      ∧ ((a.val = 0 ∨ a.val = 2) →
        (en = true → same = true → Does c s [Reg.CTX_CFG k] [.bus] fun t => t.bus.err = false ∧ t.reg (Reg.CTX_CFG k) = v)
        ∧ (en = true → same = false → bitAt v 31 = true → Errs c s [] fun _ => True)
        ∧ (en = true → same = false → bitAt v 31 = false → Does c s [Reg.CTX_CFG k] [.bus] fun t =>
            t.bus.err = false ∧ t.flag (Reg.CTX_CFG_EN k) = false ∧ bitsOf (t.reg (Reg.CTX_CFG k)) 30 0 = bitsOf cfg 30 0)
        ∧ (en = false → bitAt v 31 = true → s.bindReason k v ≠ 0 → Errs c s [Reg.STREAM_REFUSE, Reg.STREAM_EVT] fun t =>
            t.flag Reg.STREAM_REFUSE_VALID = true ∧ t.rf Reg.STREAM_REFUSE_CTX = k + 1
            ∧ t.rf Reg.STREAM_REFUSE_REASON = s.bindReason k v
            ∧ t.reg Reg.STREAM_EVT = s.raised Reg.STREAM_EVT [Reg.STREAM_EVT_BIND_REFUSED])
        ∧ (en = false → (bitAt v 31 = false ∨ s.bindReason k v = 0) → Does c s [Reg.CTX_CFG k] [.bus] fun t =>
            t.bus.err = false ∧ t.reg (Reg.CTX_CFG k) = v)))
    ∧ (let x := s.ctx k
      let r := s.sys.roundNo - 1
      let go := x.on && s.ctxTx k && s.streams.running && s.hubUp && s.sys.roundNo != 0 && x.sent != some r
        && !s.ctxMuted k && !s.flag Reg.ALARM_CTL_BARE
      let p := bitsOf cfg 22 20
      let p2 := bitsOf cfg 19 17
      let q := bitsOf cfg 16 14
      let runs (n : Nat) := s.netUp n && (s.np n).gates
      let sends (t : State) (n leg : Nat) (b : Bool) : Prop :=
        (runs n = false → t.np n = s.np n)
        ∧ (runs n = true → 32 ≤ ((s.np n).queue q).length → t.np n = s.np n
            ∧ t.reg (Reg.NET_COUNTERS n 13) = sat32 (s.reg (Reg.NET_COUNTERS n 13)))
        ∧ (runs n = true → ((s.np n).queue q).length < 32 → ∃ et, (t.np n).queue q = (s.np n).queue q ++
            [⟨max 64 (s.txLen k leg), et, .stream k leg r (s.txSeq k r) (s.txStamp k r)
              (if s.flag (Reg.CTX_CFG_FRER k) then some (r % 65536) else none) (s.txWords k r b), false⟩])
      (go = false → exec (.streamFrameSend i) s = .next s)
      ∧ (go = true → (twoPorts cfg = true → p ≠ p2) → Does (.streamFrameSend i) s
          [Reg.NET_COUNTERS p 13, Reg.NET_COUNTERS p2 13] [.streams, .net, .fv] fun t =>
          t.ctx k = { x with sent := some r } ∧ (∀ j, j ≠ k → t.ctx j = s.ctx j)
          ∧ (∀ n, n ≠ p → ¬ (twoPorts cfg = true ∧ n = p2) → t.np n = s.np n)
          ∧ ∃ b, sends t p 0 b ∧ (twoPorts cfg = true → sends t p2 (if bitAt cfg 23 then 1 else 0) b)))
    ∧ (¬ ((s.ctx k).on = true ∧ (s.ctx k).recov ≠ []) → exec (.frerResetTimeout i) s = .next s)
    ∧ ((s.ctx k).on = true → (s.ctx k).recov ≠ [] → Does (.frerResetTimeout i) s [] [.now, .streams] fun t =>
        t.now = max s.now ((s.ctx k).recovAt + 10 * ms1) ∧ t.ctx k = { s.ctx k with recov := [] }
        ∧ ∀ j, j ≠ k → t.ctx j = s.ctx j)

/-- WITHDRAW by agents 0 and 1 marks a serving node; REJOIN of a WITHDRAWN node, or the automatic one 1 s after
withdrawal, enters COPYING, its clusters to be held at the next boundary, or only sets REJOIN_FAIL where the partner
is silent, does not serve or runs another Skein; other agents get an error response. The donor's last COPY record
begins phase 2; a rejoin that times out leaves the joiner WITHDRAWN with REJOIN_FAIL, and one unacknowledged is
abandoned. A silent partner is lost; a node that hears nothing for 8 rounds is ALONE. DIGEST frames record the round
and the partner's state, and a PAIRED or ALONE node follows it. Without its condition each command changes nothing. -/
def Obligations.PairLifecycle : Prop :=
  ∀ s : State,
    let st := s.pairState
    let serves := st == 1 || st == 2
    let ps := s.rf Reg.PAIR_STAT_PSTATE
    let able := s.pair.pskein == s.skein.digest16 && s.pair.heard.isSome && !s.pair.lost && (ps == 1 || ps == 2)
    let joinRegs := [Reg.PAIR_STAT, Reg.PAIR_CNT, Reg.PAIR_COPY] ++ laneRegs
    let joined (t : State) : Prop := t.pairState = 4 ∧ t.rf Reg.PAIR_STAT_PHASE = 1 ∧ t.reg Reg.PAIR_COPY = 0#32
      ∧ t.pair.rejoin = some ⟨false, none, none, [], 0, 0, t.now, true, false⟩ ∧ t.pair.listen = none
      ∧ t.rf Reg.PAIR_CNT_REJOIN_CNT = min 65535 (s.rf Reg.PAIR_CNT_REJOIN_CNT + 1)
    (∀ a : Agent, s.reaches a Reg.PAIR_CTL true = true →
      (1 < a.val → Errs (.pairWithdraw a) s [] (fun _ => True) ∧ Errs (.pairRejoin a) s [] fun _ => True)
      ∧ (a.val ≤ 1 →
        (Does (.pairWithdraw a) s [] [.pair, .bus] fun t => t.bus.err = false
          ∧ t.pair = { s.pair with withdraw := s.pair.withdraw || serves })
        ∧ (st ≠ 3 → Does (.pairRejoin a) s [] [.bus] fun t => t.bus.err = false)
        ∧ (st = 3 → able = false → Does (.pairRejoin a) s [Reg.PAIR_EVT] [.bus] fun t => t.bus.err = false
            ∧ t.reg Reg.PAIR_EVT = s.raised Reg.PAIR_EVT [Reg.PAIR_EVT_REJOIN_FAIL])
        ∧ (st = 3 → able = true → Does (.pairRejoin a) s joinRegs (.bus :: lanePieces) fun t => t.bus.err = false
            ∧ joined t ∧ t.now = s.now)))
    ∧ (let go := st == 3 && s.pair.listen.isNone && s.flag Reg.PAIR_CFG_AUTO
          && Nat.ble (s.rf Reg.PAIR_CFG_MIN_HEALTH) (s.rf Reg.PAIR_HEALTH_SCORE)
          && Nat.blt (s.pair.fails.filter fun x => Nat.blt s.now (x + 600 * sec1)).length 3
      (go = false → exec .autoRejoin s = .next s)
      ∧ (go = true → able = false → Does .autoRejoin s [Reg.PAIR_EVT] [.now] fun t =>
          t.now = max s.now (s.pair.outAt + sec1) ∧ t.flag Reg.PAIR_EVT_REJOIN_FAIL = true)
      ∧ (go = true → able = true → Does .autoRejoin s joinRegs (.now :: lanePieces) fun t => joined t
          ∧ t.now = max s.now (s.pair.outAt + sec1)))
    ∧ (s.pair.rejoin = none → exec .bulkPhaseEnd s = .next s ∧ exec .rejoinTimeout s = .next s
        ∧ exec .rejoinAckTimeout s = .next s)
    ∧ (∀ r, s.pair.rejoin = some r →
      (¬ (r.donor = true ∧ s.rf Reg.PAIR_STAT_PHASE = 1) → exec .bulkPhaseEnd s = .next s)
      ∧ (r.donor = true → s.rf Reg.PAIR_STAT_PHASE = 1 →
          Does .bulkPhaseEnd s ([Reg.PAIR_STAT, Reg.PAIR_EVT, Reg.PAIR_COPY] ++ laneRegs) lanePieces fun t =>
            t.rf Reg.PAIR_STAT_PHASE = 2 ∧ t.reg Reg.PAIR_EVT = s.raised Reg.PAIR_EVT [Reg.PAIR_EVT_COPY_DONE]
            ∧ t.reg Reg.PAIR_COPY = BitVec.ofNat 32 (4608 * ((List.range 16).filter fun c => s.bit Reg.PWR_STAT c).length)
            ∧ t.pair.rejoin = some { r with w := some (s.sys.roundNo + 1) } ∧ t.pairState = st)
      ∧ (¬ (r.donor = false ∧ st = 5) → exec .rejoinTimeout s = .next s)
      ∧ (r.donor = false → st = 5 →
          Does .rejoinTimeout s ([Reg.PAIR_STAT, Reg.PAIR_EVT] ++ laneRegs ++ reportRegs) (.now :: lanePieces ++ reportPieces)
            fun t => t.pairState = 3 ∧ t.rf Reg.PAIR_STAT_PHASE = 0 ∧ t.pair.rejoin = none ∧ t.pair.outAt = t.now
            ∧ t.flag Reg.PAIR_EVT_REJOIN_FAIL = true ∧ r.lastCommit + sec1 ≤ t.now)
      ∧ (r.donor = false → exec .rejoinAckTimeout s = .next s)
      ∧ (r.donor = true → Does .rejoinAckTimeout s [Reg.PAIR_STAT, Reg.PAIR_EVT] [.now, .pair] fun t =>
          t.now = max s.now (r.ackAt + 10 * ms1) ∧ t.pair = { s.pair with rejoin := none, hub := [], mirror := [] }
          ∧ t.rf Reg.PAIR_STAT_PHASE = 0 ∧ t.reg Reg.PAIR_EVT = s.raised Reg.PAIR_EVT [Reg.PAIR_EVT_REJOIN_FAIL]
          ∧ t.pairState = st))
    ∧ (let silent := match s.pair.heard with | some r => Nat.ble (r + 5) s.sys.roundNo | none => false
      let go := st != 0 && !s.pair.lost && !(s.pair.listen.isSome && s.pair.heard.isNone)
        && (silent || (!(s.lane 0).up && !(s.lane 1).up))
      (go = false → exec .partnerLost s = .next s)
      ∧ (go = true → Does .partnerLost s [Reg.PAIR_STAT, Reg.PAIR_EVT] [.pair] fun t => t.pairState = st
          ∧ t.reg Reg.PAIR_EVT = s.raised Reg.PAIR_EVT [Reg.PAIR_EVT_PARTNER_LOST] ∧ t.pair.lost = true
          ∧ t.pair.goto = some 1 ∧ t.pair.rejoin = none ∧ t.pair.listen = none))
    ∧ (let go := st == 3 && s.pair.heard.isNone && s.pair.listen.any fun r => Nat.ble (r + 8) s.sys.roundNo
      (go = false → exec .pairListenTimeout s = .next s)
      ∧ (go = true → Does .pairListenTimeout s (Reg.PAIR_STAT :: laneRegs) lanePieces fun t => t.pairState = 1
          ∧ t.pair.listen = none))
    ∧ (let k := s.sys.roundNo - 1
      let go := s.hubUp && st != 0 && s.sys.roundNo != 0 && !s.pair.own.any fun r => r.round == k
      let cl := (List.range 16).map fun c => s.digest c k
      let pkg := packageDigest cl (s.sinkDigest k)
      (go = false → exec .digestFrameSend s = .next s)
      ∧ (go = true → (∀ r ∈ s.pair.peer, r.round % 2 ^ 32 ≠ k % 2 ^ 32) →
          Does .digestFrameSend s ([Reg.PAIR_DIG_LO, Reg.PAIR_DIG_HI, Reg.PAIR_DIG_RND] ++ laneRegs) (.fv :: lanePieces) fun t =>
            t.reg Reg.PAIR_DIG_LO = BitVec.ofNat 32 pkg ∧ t.reg Reg.PAIR_DIG_HI = BitVec.ofNat 32 (pkg / 2 ^ 32)
            ∧ t.reg Reg.PAIR_DIG_RND = BitVec.ofNat 32 k
            ∧ t.pair.own = (⟨k, cl, s.sinkDigest k, pkg, s.rf Reg.PAIR_HEALTH_SCORE⟩ :: s.pair.own).take 4))
    ∧ ∀ p : PairFrame,
      let i := Instr.pairDigestReceive p
      let d := PairDigest.ofBytes (pairBody p)
      let had := s.pair.peer.any fun r => r.round == d.drnd
      PairFirst i s p
      ∧ (s.pairTakes p = true → had = true → Does i s pairRegs lanePieces fun t => t.pair.peer = s.pair.peer)
      ∧ (s.pairTakes p = true → had = false → Does i s
          (pairRegs ++ joinRegs ++ [Reg.PAIR_EVT, Reg.PAIR_DIFF] ++ regsIn Reg.PAIR_DIG_LO Reg.PAIR_DIG_RND) (.fv :: lanePieces)
          fun t => t.rf Reg.PAIR_STAT_PSTATE = d.state % 8 ∧ t.rf Reg.PAIR_STAT_PHEALTH = d.health % 256
          ∧ t.pair.heard = some s.sys.roundNo ∧ t.pair.lost = false ∧ t.pair.pskein = d.skein
          ∧ t.pair.peer = (⟨d.drnd, d.cl, d.sink, d.pkg, d.health⟩ :: s.pair.peer).take 4
          ∧ (st = 2 → t.pairState = if d.state = 1 ∨ d.state = 2 then 2 else 1)
          ∧ (st = 1 → t.pairState = if d.state = 2 then 2 else 1)
          ∧ (st = 1 → d.state = 2 → t.flag Reg.PAIR_EVT_PAIRED = true)
          ∧ (st = 3 → d.state = 3 → s.flag Reg.PAIR_CFG_SIDE = false → t.pair.goto = some 1)
          ∧ (st = 3 → (d.state = 1 ∨ d.state = 2) → s.pair.listen.isSome = true → d.skein = s.skein.digest16 →
              t.pairState = 4 ∧ t.rf Reg.PAIR_STAT_PHASE = 1))

/-- On a lane that does not carry frames nothing changes, and a frame that is not taken is no more than counted and
logged. A resend sends the window again, up to 64 frames. An alarm start latches unless that trigger is active or
joined already; actions not queued yet are queued, and a parameter change not known yet is written into its coil
where it can be. A record is taken only in order and by a joiner: coil words are written, a register image of a HELD
stake is taken, one of a stake that is not HELD is an error, and one of a cluster without power waits; a hub record
is applied after its pass or waits for it. A CONTROL frame in order shows the partner's state, begins a donor's
copying, the phases or the switch. PAIR_SKEW sends the stamps and shows half the skew, the last half unit rounding
either way (a free value of the model), counting reports past 100 µs. -/
def Obligations.PairFrames : Prop :=
  ∀ s : State, s.pair.lanes.length = 2 →
    let st := s.pairState
    let next (p : PairFrame) := decide ((pairHdr p).lseq = ((s.lane p.lane.val).got + 1) % 2 ^ 32)
    let joins := (st == 4 || st == 5) && s.pair.rejoin.any fun r => !r.donor
    let acked (p : PairFrame) (t : State) : Prop := (t.lane p.lane.val).acked = (pairHdr p).ack
      ∧ t.lane (1 - p.lane.val) = s.lane (1 - p.lane.val)
    let got (p : PairFrame) (t : State) : Prop :=
      (t.lane p.lane.val).got = if next p = true then (pairHdr p).lseq else (s.lane p.lane.val).got
    (∀ l : Fin 2, (s.laneOn l.val = false → exec (.pairLaneResend l) s = .next s)
      ∧ (s.laneOn l.val = true → Does (.pairLaneResend l) s laneRegs lanePieces fun t =>
          t.lane (1 - l.val) = s.lane (1 - l.val)
          ∧ (t.lane l.val).win.length = (s.lane l.val).win.length
          ∧ ∀ (k : Nat) (f : LaneFrame), (s.lane l.val).win[k]? = some f →
              (t.lane l.val).win[k]? = some { f with sent := if k < 64 then f.sent + 1 else f.sent }))
    ∧ (∀ (p : PairFrame) (tr : Fin 64) (k ramp : Nat),
      let i := Instr.pairAlarmStartReceive p tr k ramp
      let known := s.active tr.val || s.pair.joins.any fun j => j.trig == tr.val
      PairFirst i s p
      ∧ (s.pairTakes p = true → known = true → Does i s pairRegs lanePieces fun t => acked p t ∧ t.pair.joins = s.pair.joins)
      ∧ (s.pairTakes p = true → known = false → Does i s pairRegs (.alarm :: lanePieces) fun t => acked p t
          ∧ t.alarm = { s.alarm with cmds := s.latched s.now 19 (.start tr.val) }
          ∧ t.pair.joins = s.pair.joins ++ [⟨tr.val, k, ramp, s.nearRound (pairHdr p).rnd⟩]))
    ∧ (∀ (p : PairFrame) (acts : List (List Word)) (params : List ParamJob),
      let i := Instr.pairActionReceive p acts params
      PairFirst i s p
      ∧ (s.pairTakes p = true → Does i s (Reg.TIME_EVT :: pairRegs) ([.hoop, .supv, .mem, .ecc] ++ lanePieces) fun t => acked p t
          ∧ t.hoop = { s.hoop with queue := t.hoop.queue } ∧ (∃ l, t.hoop.queue = s.hoop.queue ++ l ∧ ∀ x ∈ l, x.w ∈ acts)
          ∧ (s.hoop.queue.length + acts.length ≤ 1024 → t.reg Reg.TIME_EVT = s.reg Reg.TIME_EVT
              ∧ ∀ w ∈ acts, ∃ x ∈ t.hoop.queue, x.w = w)
          ∧ (params = [] → t.supv = s.supv ∧ t.ecc = s.ecc ∧ ∀ b, t.byte b = s.byte b)
          ∧ ∀ j c base, params = [j] → s.skein.areas.find? (fun e => e.1 == j.param.cluster) = some (c, base) →
              let a := base + 32 * (j.param.pos % 256)
              let known := s.word (a + 4) == BitVec.ofNat 32 j.apply || s.supv.params.contains j
              (known = true → t.supv = s.supv ∧ ∀ b, t.byte b = s.byte b)
              ∧ (known = false → s.sys.roundNo + 4 ≤ j.apply → ParamPut s t j)))
    ∧ (∀ (p : PairFrame) (i : Instr), i ∈ [Instr.pairCopyReceive p, .pairMirrorReceive p, .pairRegsReceive p] →
      let rs := memRecords 190 (pairBody p)
      PairFirst i s p
      ∧ (s.pairTakes p = true → (next p = false ∨ joins = false ∨ rs = []) → Does i s pairRegs lanePieces fun t => acked p t
          ∧ got p t)
      ∧ (s.pairTakes p = true → Does i s (pairRegs ++ errRegs) ([.mem, .ecc, .compute, .power, .bus] ++ lanePieces) fun t =>
          acked p t ∧ got p t ∧ ∀ b, ¬ (0x0600000000 ≤ b ∧ b < 0x0602000004) → ¬ (0x0700000000 ≤ b ∧ b < 0x0704000000) →
            t.byte b = s.byte b)
      ∧ (s.pairTakes p = true → next p = true → joins = true → ∀ a ws, rs = [(a, ws)] →
        let awake (b : Nat) := s.bit Reg.PWR_STAT (stallDomain b) && !s.stopped (stallDomain b)
        (0x0600000000 ≤ a → a + 4 * ws.length ≤ 0x0602000000 → (∀ j, j < ws.length → awake (a + 4 * j) = true) →
          Does i s pairRegs ([.mem, .ecc] ++ lanePieces) fun t =>
            (∀ (j : Nat) (w : Word), ws[j]? = some w → t.word (a + 4 * j) = w)
            ∧ ∀ b, ¬ (a ≤ b ∧ b < a + 4 * ws.length) → t.byte b = s.byte b)
        ∧ (∀ v, ws = [v] → 0x0700000000 ≤ a → a < 0x0704000000 →
          let k := (a - 0x0700000000) / 0x80000
          let off := (a - 0x0700000000) % 0x80000
          (awake a = true → (s.stake k).run = .held → off < 0x50000 → Does i s pairRegs ([.mem, .ecc] ++ lanePieces) fun t =>
            t.word a = v ∧ ∀ b, ¬ (a ≤ b ∧ b < a + 4) → t.byte b = s.byte b)
          ∧ (awake a = true → (s.stake k).run = .held → 0x50000 ≤ off → off < 0x50200 →
            Does i s pairRegs (.compute :: lanePieces) fun t =>
              t.stake k = { s.stake k with arch := (s.stake k).arch.writeImage (off - 0x50000) v }
              ∧ ∀ j, j ≠ k → t.stake j = s.stake j)
          ∧ (awake a = true → (s.stake k).run ≠ .held → Does i s (pairRegs ++ errRegs) (.bus :: lanePieces) fun t =>
              t.flag Reg.MATRIX_EVT_ERR = true)
          ∧ (awake a = false → s.portFull 34 = false → Does i s pairRegs (.power :: lanePieces) fun t =>
              t.power.stalls = s.power.stalls ++ [⟨34, a, true, 4, v, s.now⟩]))))
    ∧ (∀ (p : PairFrame) (pos : Fin 16) (r : HubRec),
      let i := Instr.pairHubReceive p pos r
      PairFirst i s p
      ∧ (s.pairTakes p = true → (next p = false ∨ joins = false) → Does i s pairRegs lanePieces fun t => acked p t ∧ got p t
          ∧ t.pair.hub = s.pair.hub)
      ∧ (s.pairTakes p = true → next p = true → joins = true →
        (s.sys.pass ≠ pos.val + 1 → Does i s pairRegs lanePieces fun t => got p t ∧ t.pair.hub = s.pair.hub ++ [(pos.val, r)])
        ∧ (s.sys.pass = pos.val + 1 → Does i s pairRegs ([.weave, .border] ++ lanePieces) fun t => got p t
            ∧ t.pair.hub = s.pair.hub
            ∧ match r with
              | .entry j e => t.entry j = e
              | .chan b c => t.chan b = c
              | .gen g x => t.gen g = x
              | .hpf _ _ => t.weave = { s.weave with hpf := t.weave.hpf })))
    ∧ (∀ (p : PairFrame) (c : PairCtl),
      let i := Instr.pairControlReceive p c
      PairFirst i s p
      ∧ (s.pairTakes p = true → next p = false → Does i s pairRegs lanePieces fun t => acked p t ∧ got p t)
      ∧ (s.pairTakes p = true → next p = true →
        Does i s (pairRegs ++ [Reg.PAIR_STAT, Reg.PAIR_COPY, Reg.PAIR_EVT]) (.hoop :: lanePieces) fun t => got p t
          ∧ (∀ v, c = .state v → t.rf Reg.PAIR_STAT_PSTATE = v % 8)
          ∧ (∀ r, c = .switch r → t.pair.switch = some r)
          ∧ (∀ tx rx, c = .stamps tx rx → t.pair.peerStamps = some (tx, rx))
          ∧ (∀ b o, c = .step b o → t.hoop.trans.isSome = true ∧ (s.hoop.trans.isSome = true → t.hoop = s.hoop))
          ∧ (c = .rejoin → (st = 1 ∨ st = 2) → s.pair.pskein = s.skein.digest16 → t.pairState = 1
              ∧ t.rf Reg.PAIR_STAT_PHASE = 1 ∧ (t.pair.rejoin.map (·.donor)) = some true)
          ∧ (c = .bulkEnd → joins = true → t.rf Reg.PAIR_STAT_PHASE = 2 ∧ t.flag Reg.PAIR_EVT_COPY_DONE = true)
          ∧ (∀ n, c = .commit n → joins = true → t.rf Reg.PAIR_STAT_PHASE = 3
              ∧ (t.pair.rejoin.map (·.c0)) = some (some n))))
    ∧ (let goes := st == 1 || st == 2 || st == 5
      let l := if (s.lane 0).up = true ∨ (s.lane 1).up = false then 0 else 1
      let sent (t : State) : Prop :=
        ((t.lane l).win.getLast?.map (·.body)) = some (.control (.stamps s.pair.digTx s.pair.digRx))
      (goes = false → exec .pairSkewReport s = .next s)
      ∧ (goes = true → s.pair.peerStamps = none → Does .pairSkewReport s laneRegs lanePieces sent)
      ∧ ∀ t3 t2, goes = true → s.pair.peerStamps = some (t3, t2) →
        let two := (t2 - s.pair.digTx) - (s.pair.digRx - t3)
        let n := if 13107200 < two.natAbs then s.hoop.skews + 1 else 0
        Does .pairSkewReport s ([Reg.TIME_PAIR_OFS, Reg.TIME_EVT] ++ laneRegs ++ reportRegs)
          ([.fv, .hoop] ++ lanePieces ++ reportPieces) fun t => sent t
          ∧ t.hoop = { s.hoop with skews := n }
          ∧ (∃ b : Nat, b < 2 ∧ t.reg Reg.TIME_PAIR_OFS
              = wordOfInt (clampInt (-2147483648) 2147483647 ((two + 16384 * (b : Int)) / 32768)))
          ∧ t.reg Reg.TIME_EVT = s.raised Reg.TIME_EVT (if n = 4 then [Reg.TIME_EVT_PAIR_SKEW] else []))

/-- An action staged by an agent that may use the set is checked at GO for BADKIND, DENIED, BADARG and FULL in that
order; the first failure gives RESULT and queues nothing, and FULL sets SA_FULL; otherwise it joins the tail of the
queue with the writer's identity, in the partner's queue too when the Warden issues it in a pair whose link can carry
it. The staged words stay. A reserved KIND is always BADKIND. CANCEL takes every waiting action of the set with its
tag out of the queue, one completion record each. Other agents get an error response and change nothing. -/
def Obligations.ScheduledActions : Prop :=
  (∀ (a : Agent) (setH : Bool) (x : SaWords) (w : List Word) (i : Instr) (s : State),
    ((i, w) ∈ [(Instr.saRoute a setH x, saKind x 1), (.saBorder a setH x, saKind x 2),
        (.saAlarmStart a setH x, saAlarm x 1), (.saAlarmStop a setH x, saAlarm x 2), (.saAlarmReset a setH x, saAlarm x 3),
        (.saAlarmEngage a setH x, saAlarm x 4), (.saAlarmRelease a setH x, saAlarm x 5)]
      ∨ ∃ k : Fin 13, i = .saBadkind a setH k x ∧ w = saKind x (if k.val = 0 then 0 else k.val + 3)) →
    let ix := if setH then 1 else 0
    let may := if setH then a.val == 3 || a.val == 4 else Nat.ble a.val 2
    s.reaches a (Reg.TIME_SA_GO ix) true = true →
    (may = false → Errs i s [] fun _ => True)
    ∧ (may = true →
      let kind := bitsOf (w.getD 0 0#32) 31 28
      let result := if kind = 0 ∨ 3 < kind then 2
        else if (setH = true ∧ kind ≠ 1) ∨ (kind = 3 ∧ a.val ≠ 1) then 3
        else if badArg w = true then 4
        else if 1024 ≤ s.hoop.queue.length then 1 else 0
      Does i s (Reg.TIME_SA_STAT ix :: Reg.TIME_EVT :: regFile (Reg.TIME_SA_W ix) 8 ++ laneRegs) ([.hoop, .bus] ++ lanePieces)
        fun t =>
        t.bus.err = false ∧ (t.reg (Reg.TIME_SA_STAT ix)).toNat = result
        ∧ (∀ j, j < 8 → t.reg (Reg.TIME_SA_W ix j) = w.getD j 0#32)
        ∧ t.reg Reg.TIME_EVT = s.raised Reg.TIME_EVT (if result = 1 then [Reg.TIME_EVT_SA_FULL] else [])
        ∧ (result ≠ 0 → t.hoop = s.hoop ∧ t.pair = s.pair)
        ∧ (result = 0 → t.hoop = { s.hoop with
            queue := s.hoop.queue ++ [⟨w.set 0 (setBits (w.getD 0 0#32) 20 16 a.val), setH, s.now⟩] })
        ∧ t.pair = { s.pair with out := t.pair.out }
        ∧ (result = 0 → a.val = 1 → s.sharing = true → ((s.lane 0).up = true ∨ (s.lane 1).up = true) →
            (s.secured 6 etPair = false ∨ s.txLive 6 = true) →
            t.pair.out.getLast? = some (.action [setBits (w.getD 0 0#32) 20 16 1 :: w.drop 1]))
        ∧ (result = 0 → ¬ (a.val = 1 ∧ s.sharing = true) → t.pair = s.pair)
        ∧ ((∃ k : Fin 13, i = .saBadkind a setH k x) → result = 2)))
  ∧ ∀ (a : Agent) (setH : Bool) (tag : BitVec 16) (s : State),
    let ix := if setH then 1 else 0
    let may := if setH then a.val == 3 || a.val == 4 else Nat.ble a.val 2
    let hit (x : Action) : Bool := x.setH == setH && x.tag == tag.toNat
    s.reaches a (Reg.TIME_SA_CANCEL ix) true = true →
    (may = false → Errs (.timeSaCancel a setH tag) s [] fun _ => True)
    ∧ (may = true →
      Does (.timeSaCancel a setH tag) s (Reg.TIME_SA_DONE_HEAD :: Reg.TRUST_EVT :: regsIn 0x504000 0x5047FF)
        [.hoop, .link, .net, .trust, .bus] fun t =>
        t.bus.err = false ∧ t.hoop = { s.hoop with queue := s.hoop.queue.filter (fun x => !hit x), doneN := t.hoop.doneN }
        ∧ t.rf Reg.TIME_SA_DONE_HEAD_HEAD
          = (s.rf Reg.TIME_SA_DONE_HEAD_HEAD + (s.hoop.queue.filter hit).length) % 256
        ∧ (s.hoop.queue.filter hit = [] → t.reg Reg.TIME_SA_DONE_HEAD = s.reg Reg.TIME_SA_DONE_HEAD)
        ∧ ((setH = true ∨ s.link.zones = []) → t.link = s.link ∧ t.net = s.net ∧ t.trust = s.trust
            ∧ t.reg Reg.TRUST_EVT = s.reg Reg.TRUST_EVT))

/-- A message that PTP does not take changes nothing; one of a quarantined source is only counted, and a malformed
one only logged, in class 1. An announcement replaces its sender's data set, heard once more, and the best master is
selected over. A Sync of the selected master is kept, and its offset filtered, or discarded as an outlier; the filter
is the model's configuration function, the rounding of what is shown its free value. Delay and peer delay responses
give the mean path delay of their profile; requests are answered on their port's queue 0; a Signaling request sets
the intervals in range under profile 2. Messages of another profile or master change nothing. -/
def Obligations.PtpMessages : Prop :=
  ∀ (h : PtpHdr) (s : State),
    let p := h.port.val
    let src := h.src.toNat
    let profile := s.rf Reg.TIME_CFG_PROFILE
    let takes := s.hubUp && s.flag Reg.TIME_CTL_PTP_EN && s.netUp p
      && h.domain.toNat == (if profile = 2 then 0 else s.rf Reg.TIME_CFG_DOMAIN) && !s.flag Reg.ALARM_CTL_BARE
    let quar := s.quarantined p h.mac.toNat
    let good := takes && !quar && h.ok
    let mastered := s.hoop.master.isSome && s.rf Reg.TIME_STAT_PTP_PORT == p
    let mine := s.hoop.master == some src
    let asym := sWord (s.reg (Reg.TIME_ASYM p))
    (∀ i : Instr, ((∃ d, i = .ptpAnnounce h d) ∨ (∃ o r f, i = .ptpSync h o r f) ∨ (∃ t3 t4, i = .ptpDelayResp h t3 t4)
        ∨ (∃ rx, i = .ptpDelayReq h rx) ∨ (∃ rx, i = .ptpPdelayReq h rx)
        ∨ (∃ t1 t2 t3 t4, i = .ptpPdelayResp h t1 t2 t3 t4) ∨ (∃ l y n, i = .ptpSignaling h l y n) ∨ i = .ptpManagement h) →
      (takes = false → exec i s = .next s)
      ∧ (takes = true → quar = true → Does i s [Reg.NET_COUNTERS p 4] [] fun t =>
          t.reg (Reg.NET_COUNTERS p 4) = sat32 (s.reg (Reg.NET_COUNTERS p 4)))
      ∧ (takes = true → quar = false → h.ok = false → s.tableFits → Does i s violRegs [.fv, .net, .trust] fun t =>
          bitsOf (t.reg (Reg.NET_VLOG (s.rf Reg.NET_VLOG_CTL_HEAD) 1)) 31 24 = 1))
    ∧ (good = true →
      (∀ d : PtpAnnounce,
        let old := s.hoop.masters.find? fun m => m.src == src
        let was := (old.map fun m => if s.masterStale m then 0 else m.heard).getD 0
        let m : Master := ⟨src, h.mac.toNat, p, d.prio1.toNat, d.cls.toNat, d.acc.toNat, d.var_.toNat, d.prio2.toNat,
          d.gm.toNat, d.steps.toNat, was + 1, s.now⟩
        let l := (s.hoop.masters.filter fun x => x.src != src) ++ [m]
        let best := ({ s with hoop := { s.hoop with masters := l } } : State).bestMaster
        let new := (best.map (·.src)).orElse fun _ => s.hoop.master
        Does (.ptpAnnounce h d) s [Reg.TIME_EVT, Reg.TIME_STAT] [.hoop] fun t =>
          t.hoop.masters = l ∧ t.hoop.master = new
          ∧ t.reg Reg.TIME_EVT = s.raised Reg.TIME_EVT (if new = s.hoop.master then [] else [Reg.TIME_EVT_MASTER_CHG])
          ∧ (new = s.hoop.master → t.reg Reg.TIME_STAT = s.reg Reg.TIME_STAT)
          ∧ (new ≠ s.hoop.master → t.servo = svAcquiring))
      ∧ (∀ origin rx freq : Int,
        let i := Instr.ptpSync h origin rx freq
        let o := origin + asym
        let ofs := rx - o - s.hoop.mpd
        let out := decide (s.rf Reg.TIME_CFG2_OUTLIER * 100 * 65536 < (ofs - s.hoop.filt).natAbs)
        (mine = false → exec i s = .next s)
        ∧ (mine = true → Does i s (regsIn 0x500000 0x51FFFF ++ laneRegs) ([.hoop, .refsel, .fv] ++ lanePieces) fun t =>
            t.hoop.lastSync = some (o, rx) ∧ t.hoop.masters = s.hoop.masters ∧ t.hoop.queue = s.hoop.queue
            ∧ (out = false → t.hoop.filt = Config.offsetFilter s.hoop.filt ofs ∧ t.hoop.discards = []
                ∧ ∃ b : Nat, b < 2 ∧ t.reg Reg.TIME_OFS
                    = wordOfInt (clampInt (-2147483648) 2147483647 ((t.hoop.filt + 65535 * (b : Int)) / 65536)))
            ∧ (out = true → s.hoop.discards.length < 7 → t.hoop.filt = s.hoop.filt
                ∧ t.hoop.discards = s.hoop.discards ++ [ofs] ∧ t.reg Reg.TIME_OFS = s.reg Reg.TIME_OFS)))
      ∧ (∀ (i : Instr) (d : Int),
        ((∃ t3 t4 t1 t2, i = .ptpDelayResp h t3 t4 ∧ profile = 0 ∧ mine = true ∧ s.hoop.lastSync = some (t1, t2)
            ∧ d = ((t2 - t1) + (t4 - (t3 - asym))) / 2)
          ∨ (∃ t1 t2 t3 t4, i = .ptpPdelayResp h t1 t2 t3 t4 ∧ profile ≠ 0 ∧ d = ((t4 - t1) - (t3 - t2)) / 2)) →
        Does i s [Reg.TIME_MPD] [.hoop, .fv] fun t => t.hoop = { s.hoop with mpd := d }
          ∧ ∃ b : Nat, b < 2 ∧ t.reg Reg.TIME_MPD = wordOfInt (clampInt 0 4294967295 ((d + 65535 * (b : Int)) / 65536)))
      ∧ (∀ t3 t4, (profile ≠ 0 ∨ mine = false ∨ s.hoop.lastSync = none) → exec (.ptpDelayResp h t3 t4) s = .next s)
      ∧ (∀ t1 t2 t3 t4, profile = 0 → exec (.ptpPdelayResp h t1 t2 t3 t4) s = .next s)
      ∧ (∀ (i : Instr) (kind : Nat) (fs : List Int),
        ((∃ rx, i = .ptpDelayReq h rx ∧ profile = 0 ∧ mastered = false ∧ kind = 9 ∧ fs = [(h.seq.toNat : Int), rx, (src : Int)])
          ∨ (∃ rx, i = .ptpPdelayReq h rx ∧ profile ≠ 0 ∧ kind = 3 ∧ fs = [(h.seq.toNat : Int), rx, (src : Int)])
          ∨ (i = .ptpManagement h ∧ kind = 13 ∧ fs = [(h.seq.toNat : Int), (src : Int)])) →
        Does i s [] [.net] fun t => (∀ q, q ≠ p → t.np q = s.np q)
          ∧ (t.np p).queue 0 = (s.np p).queue 0 ++ (if ((s.np p).queue 0).length < 32 then
              [⟨68, if s.flag Reg.TIME_CFG_UDP then 0x0800 else 0x88F7, .firmware kind fs, false⟩] else []))
      ∧ (∀ rx, (profile ≠ 0 ∨ mastered = true) → exec (.ptpDelayReq h rx) s = .next s)
      ∧ (∀ rx, profile = 0 → exec (.ptpPdelayReq h rx) s = .next s)
      ∧ ∀ link sync ann : BitVec 8,
        (profile ≠ 2 → exec (.ptpSignaling h link sync ann) s = .next s)
        ∧ (profile = 2 → Does (.ptpSignaling h link sync ann) s [Reg.TIME_PTP_INT] [] fun t =>
            t.rf Reg.TIME_PTP_INT_SYNC = (if -7 ≤ sync.toInt ∧ sync.toInt ≤ 1 then sync.toNat else s.rf Reg.TIME_PTP_INT_SYNC)
            ∧ t.rf Reg.TIME_PTP_INT_ANNOUNCE
              = (if -3 ≤ ann.toInt ∧ ann.toInt ≤ 3 then ann.toNat else s.rf Reg.TIME_PTP_INT_ANNOUNCE)
            ∧ t.rf Reg.TIME_PTP_INT_DELAY_REQ
              = (if -7 ≤ link.toInt ∧ link.toInt ≤ 5 then link.toNat else s.rf Reg.TIME_PTP_INT_DELAY_REQ)))

/-- A lost master sets MASTER_LOST, leaves the list and puts the servo into HOLDOVER, or to acquire the next one. A
confirmed step names a transition 4 rounds ahead. TIME_STEP does nothing before boundary A plus MUTE; an alarm
abandons it with HOLDOVER; else the time moves back by the offset, the round number becomes that of the new time,
QUAL ESTIMATED, TIME_ERR 1000 and every cluster's start round the new one. SNAP by agents 0 and 2 copies the time and
the round; a read of TSQ_POP takes the oldest stamp of its port; the RTC period is kept. Other agents get an error
response. -/
def Obligations.TimeStepsAndStamps : Prop :=
  ∀ s : State,
    (s.curMaster = none → exec .masterLost s = .next s)
    ∧ (∀ m, s.curMaster = some m →
      Does .masterLost s (regsIn 0x500000 0x51FFFF) [.now, .hoop, .refsel, .fv] fun t =>
        t.flag Reg.TIME_EVT_MASTER_LOST = true
        ∧ t.servo = (if t.hoop.master = none then svHoldover else svAcquiring)
        ∧ t.qual = (if s.qual = qLocked then qHoldover else s.qual) ∧ t.hoop.lastSync = none
        ∧ t.hoop.masters = s.hoop.masters.filter (fun x => x.src != m.src) ∧ t.hoop.master ≠ some m.src
        ∧ t.now = if s.masterGone m then s.now else max s.now (m.last + 3 * s.ptpInt Reg.TIME_PTP_INT_ANNOUNCE))
    ∧ (let go := s.hoop.suspect.isSome && s.flag Reg.TIME_CFG_STEP_OK && s.hoop.trans.isNone
        && s.curMaster.any fun m => !s.hoop.masters.any fun x => x.src != m.src && s.masterOk x
      (go = false → exec .stepConfirm s = .next s)
      ∧ ∀ t0 o, go = true → s.hoop.suspect = some (t0, o) → Does .stepConfirm s laneRegs ([.now, .hoop] ++ lanePieces) fun t =>
          t.now = max s.now (t0 + s.rf Reg.TIME_CFG2_CONFIRM * sec1)
          ∧ (s.pairState ≠ 2 → t.pair = s.pair ∧ t.net = s.net ∧ t.trust = s.trust ∧ ∀ a ∈ laneRegs, t.reg a = s.reg a)
          ∧ t.hoop = { s.hoop with trans := t.hoop.trans }
          ∧ t.hoop.trans = if s.pairState = 2 ∧ s.flag Reg.PAIR_CFG_SIDE = true then none else
              some ⟨s.sys.roundNo + 4, max 1 (s.rf Reg.TIME_CFG2_MUTE), max 1 (s.rf Reg.TIME_CFG2_RAMP), s.hoop.filt, none⟩)
    ∧ (s.hoop.trans = none → exec .timeStep s = .next s)
    ∧ (∀ x, s.hoop.trans = some x →
      let early := x.stepped.isSome || Nat.blt s.sys.roundNo x.start
      let alarm := s.alarmActive
      (early = true → exec .timeStep s = .next s)
      ∧ (early = false → alarm = true → Does .timeStep s [Reg.TIME_EVT, Reg.TIME_STAT] [.hoop] fun t =>
          t.hoop.trans = none ∧ t.flag Reg.TIME_EVT_STEP_ABANDONED = true ∧ t.flag Reg.TIME_STAT_STEP_PEND = false
          ∧ t.servo = svHoldover ∧ t.tod = s.tod ∧ t.qual = (if s.qual = qLocked then qHoldover else s.qual)
          ∧ t.hoop.outRamp = some (Ramp.start s.hoop.outGain unity20 (x.ramp * s.sys.n)))
      ∧ (early = false → alarm = false → s.sys.roundNo < x.start + x.mute → exec .timeStep s = .next s)
      ∧ (early = false → alarm = false → x.start + x.mute ≤ s.sys.roundNo →
          Does .timeStep s ([Reg.TIME_EVT, Reg.TIME_STAT, Reg.TIME_ERR, Reg.TIME_OFS] ++ regFile Reg.CL_START_RND 16)
            [.sys, .hoop, .weave, .border, .net, .ports, .pair, .compute] fun t =>
            t.tod = s.tod - x.ofs ∧ t.sys = { s.sys with roundNo := s.gridRound (s.tod - x.ofs) }
            ∧ t.reg Reg.TIME_ERR = 1000#32 ∧ t.reg Reg.TIME_OFS = 0#32 ∧ t.flag Reg.TIME_EVT_STEPPED = true
            ∧ t.qual = qEstimated ∧ t.servo = svAcquiring ∧ t.hoop.filt = 0 ∧ t.hoop.trans = some { x with stepped := some t.sys.roundNo }
            ∧ t.hoop.queue = s.hoop.queue
            ∧ (∀ c, c < 16 → t.reg (Reg.CL_START_RND c) = BitVec.ofNat 32 t.sys.roundNo)
            ∧ t.compute.stakes = s.compute.stakes))
    ∧ (∀ a : Agent, s.reaches a Reg.TIME_SNAP true = true →
      ((a.val ≠ 0 ∧ a.val ≠ 2) → Errs (.timeSnap a) s [] fun _ => True)
      ∧ ((a.val = 0 ∨ a.val = 2) → Does (.timeSnap a) s (regsIn Reg.TIME_SNAP_SHI Reg.TIME_SNAP_RHI) [.bus] fun t =>
          t.bus.err = false ∧ (t.reg Reg.TIME_SNAP_SLO).toNat = todSec s.tod % 2 ^ 32
          ∧ (t.reg Reg.TIME_SNAP_SHI).toNat = todSec s.tod / 2 ^ 32 % 2 ^ 32
          ∧ (t.reg Reg.TIME_SNAP_NS).toNat = todNs s.tod ∧ (t.reg Reg.TIME_SNAP_FRAC).toNat = todFrac s.tod * 65536
          ∧ (t.reg Reg.TIME_SNAP_RLO).toNat = s.sys.roundNo % 2 ^ 32
          ∧ (t.reg Reg.TIME_SNAP_RHI).toNat = s.sys.roundNo / 2 ^ 32 % 65536))
    ∧ (∀ (a : Agent) (p : Fin 6), s.reaches a (Reg.TIME_TSQ_POP p.val) false = true →
      let n := p.val
      let mine (l : List TsqRec) := l.filter fun r => r.port == n
      (2 < a.val → Errs (.timeTsqPop a p) s [] fun _ => True)
      ∧ (a.val ≤ 2 → mine s.hoop.tsq = [] → Does (.timeTsqPop a p) s [] [.bus] fun t => t.bus = ⟨false, 0#32⟩)
      ∧ ∀ (r : TsqRec) (l : List TsqRec), a.val ≤ 2 → mine s.hoop.tsq = r :: l →
          Does (.timeTsqPop a p) s [Reg.TIME_TSQ_STAT n, Reg.TIME_TSQ_NS n, Reg.TIME_TSQ_S n] [.hoop, .bus] fun t =>
            t.bus = ⟨false, BitVec.ofNat 32 (2 ^ 31 + r.seq)⟩ ∧ t.hoop = { s.hoop with tsq := t.hoop.tsq }
            ∧ mine t.hoop.tsq = l ∧ (∀ j, j ≠ n → t.hoop.tsq.filter (fun r => r.port == j) = s.hoop.tsq.filter fun r => r.port == j)
            ∧ t.rf (Reg.TIME_TSQ_STAT_COUNT n) = l.length % 32
            ∧ t.reg (Reg.TIME_TSQ_NS n) = BitVec.ofNat 32 (todNs r.time)
            ∧ t.reg (Reg.TIME_TSQ_S n) = BitVec.ofNat 32 (todSec r.time))
    ∧ ∀ per : BitVec 48, (s.hubUp = false → exec (.rtcPeriodMeasure per) s = .next s)
      ∧ (s.hubUp = true → Does (.rtcPeriodMeasure per) s [] [.hoop] fun t => t.hoop = { s.hoop with rtcPer := per.toNat })

/-- A marking edge of a measured reference makes it present with its phase error; LOS ends that and its
qualification. QUAL_S after its last break a reference in range qualifies, with a wait to restore after an earlier
disqualification; one out of range for a second is disqualified; the waits and a distrust end. An evaluation moves
the NCO by at most SLOPE, within its limit; with no reference qualified automatic selection holds over; a forced mode
reads FORCED. A switch that has met its target is LOCKED. OUT_CFG by agents 0 and 1 takes effect at the next boundary
or second; a reserved mode or another agent is an error response. Without its condition each changes nothing. -/
def Obligations.ReferenceSelection : Prop :=
  (∀ (k : Fin 7) (phase freq : Int) (s : State),
    let r := k.val + 1
    let i := Instr.markingEdge k phase freq
    let on := s.refRuns && !(Nat.ble 4 r && !s.flag (Reg.AES_IN_CFG_EN (r - 4)))
    let e := wrapPhase (s.refPeriod12 r) (phase - 3 * sWord (s.reg (Reg.REF_OFS r)))
    (on = false → exec i s = .next s)
    ∧ (on = true → Does i s (regsIn 0x500000 0x51FFFF ++ laneRegs) ([.refsel, .fv, .hoop] ++ lanePieces) fun t =>
        t.flag (Reg.REF_STAT_PRESENT r) = true ∧ (t.ref r).last = s.now
        ∧ (t.ref r).phase = (if r = 3 then none else some e) ∧ (∀ j, j ≠ r → t.ref j = s.ref j)
        ∧ ((r ≠ 2 ∨ s.selRef ≠ 2) → t.hoop = s.hoop ∧ t.pair = s.pair ∧ t.net = s.net ∧ t.trust = s.trust)))
  ∧ (∀ (q : Fin 8) (s : State),
    let r := q.val
    let x := s.ref r
    let others (t : State) : Prop := ∀ j, j ≠ r → t.ref j = s.ref j
    let all := regsIn 0x510000 0x51FFFF
    let may := s.flag (Reg.REF_STAT_PRESENT r) && !s.flag (Reg.REF_STAT_QUAL r) && x.freqAt.isSome
      && decide ((sWord (s.reg (Reg.REF_FREQ r))).natAbs ≤ s.rf Reg.REFSEL_CFG_QUAL_PPM * 1000000)
      && (r != 0 || !s.flag Reg.TIME_STAT_SUSPECT)
    let wtr := s.rf Reg.REFSEL_CFG_WTR * sec1
    (s.flag (Reg.REF_STAT_PRESENT r) = false → exec (.refLos q) s = .next s)
    ∧ (s.flag (Reg.REF_STAT_PRESENT r) = true → Does (.refLos q) s all [.now, .refsel, .fv] fun t => others t
        ∧ t.now = max s.now (x.last + 3 * s.refPeriod12 r / 2) ∧ t.flag (Reg.REF_STAT_PRESENT r) = false
        ∧ t.flag (Reg.REF_STAT_QUAL r) = false ∧ t.flag (Reg.REF_HIST_LOS r) = true ∧ (t.ref r).phase = none)
    ∧ (may = false → exec (.refQualify q) s = .next s)
    ∧ (may = true → Does (.refQualify q) s [Reg.REF_STAT r, Reg.REFSEL_EVT] [.now, .refsel] fun t => others t
        ∧ t.now = max s.now (x.since + max 1 (s.rf Reg.REFSEL_CFG_QUAL_S) * sec1) ∧ t.flag (Reg.REF_STAT_QUAL r) = true
        ∧ t.reg Reg.REFSEL_EVT = s.raised Reg.REFSEL_EVT [Reg.REFSEL_EVT_QUALIFIED]
        ∧ (x.again = true → wtr ≠ 0 → t.flag (Reg.REF_STAT_IN_WTR r) = true ∧ t.ref r = { x with wtr := t.now })
        ∧ ((x.again = false ∨ wtr = 0) → t.ref r = x
            ∧ t.flag (Reg.REF_STAT_IN_WTR r) = s.flag (Reg.REF_STAT_IN_WTR r)))
    ∧ ((x.off = none ∨ s.flag (Reg.REF_STAT_QUAL r) = false) → exec (.refFreqDisqualify q) s = .next s)
    ∧ (∀ t0, x.off = some t0 → s.flag (Reg.REF_STAT_QUAL r) = true →
        Does (.refFreqDisqualify q) s all [.now, .refsel, .fv] fun t => others t ∧ t.now = max s.now (t0 + sec1)
          ∧ t.flag (Reg.REF_STAT_QUAL r) = false ∧ t.flag (Reg.REF_HIST_DISQ r) = true
          ∧ t.flag Reg.REFSEL_EVT_DISQUALIFIED = true ∧ t.ref r = { x with again := true, off := none })
    ∧ (s.flag (Reg.REF_STAT_IN_WTR r) = false → exec (.wtrExpire q) s = .next s)
    ∧ (s.flag (Reg.REF_STAT_IN_WTR r) = true → Does (.wtrExpire q) s [Reg.REF_STAT r] [.now] fun t =>
        t.now = max s.now (x.wtr + wtr) ∧ t.flag (Reg.REF_STAT_IN_WTR r) = false)
    ∧ ((x.agree = none ∨ s.flag (Reg.REF_STAT_DISTRUST r) = false) → exec (.distrustEnd q) s = .next s)
    ∧ ∀ t0, x.agree = some t0 → s.flag (Reg.REF_STAT_DISTRUST r) = true →
        Does (.distrustEnd q) s [Reg.REF_STAT r] [.now, .refsel] fun t => others t ∧ t.now = max s.now (t0 + wtr)
          ∧ t.flag (Reg.REF_STAT_DISTRUST r) = false ∧ t.ref r = { x with agree := none })
  ∧ (∀ s : State,
    let go := s.refRuns && s.flag Reg.REFSEL_CTL_RUN
    let at_ := max s.now (s.refsel.evalAt + ms1)
    let lim := max 1 (bitsOf (s.reg Reg.REFSEL_SLOPE) 19 0) * (at_ - s.refsel.evalAt) / ms1
    (go = false → exec .selectorEvaluate s = .next s)
    ∧ (go = true → Does .selectorEvaluate s (Reg.ALARM_FAULT_SW :: regsIn 0x510000 0x51FFFF) [.now, .refsel, .fv] fun t =>
        t.now = at_ ∧ t.refsel.evalAt = at_
        ∧ (s.nco.natAbs ≤ 400000000 → t.nco.natAbs ≤ 400000000 ∧ (t.nco - s.nco).natAbs ≤ lim)
        ∧ (2 ≤ s.rf Reg.REFSEL_CTL_SEL_MODE → t.selState = rsForced ∧ (s.selRef = 15 → t.selRef = 15))
        ∧ (s.rf Reg.REFSEL_CTL_SEL_MODE = 0 → (∀ r, r < 8 → s.flag (Reg.REF_STAT_QUAL r) = false) →
            t.selState = rsHoldover ∧ (s.selState ≠ rsHoldover → t.selRef = 15 ∧ t.flag Reg.REFSEL_EVT_HOLDOVER = true)))
    ∧ (s.switchMet = false → exec .switchDone s = .next s)
    ∧ (s.switchMet = true → Does .switchDone s [Reg.REFSEL_STAT, Reg.REFSEL_EVT] [.refsel] fun t =>
        t.selState = rsLocked ∧ t.selRef = s.selRef ∧ t.refsel = { s.refsel with locked := true }
        ∧ t.reg Reg.REFSEL_EVT = s.raised Reg.REFSEL_EVT [Reg.REFSEL_EVT_SWITCH_DONE, Reg.REFSEL_EVT_LOCKED]))
  ∧ ∀ (a : Agent) (o : Fin 4) (ofs : Bool) (v : Word) (s : State),
    let n := o.val
    let reg := if ofs = true then Reg.OUT_OFS n else Reg.OUT_CFG n
    let bad := Nat.blt 1 a.val || (!ofs && Nat.blt 4 (bitsOf v 30 28))
    s.reaches a reg true = true →
    (bad = true → Errs (.outCfgWrite a o ofs v) s [] fun _ => True)
    ∧ (bad = false → Does (.outCfgWrite a o ofs v) s [reg] [.refsel, .bus] fun t => t.bus.err = false
        ∧ t.reg reg = (if ofs = true then v else v &&& 0xF78003FF#32)
        ∧ t.refsel = { s.refsel with outs := t.refsel.outs }
        ∧ let c := t.reg (Reg.OUT_CFG n)
          let x := mget (fun _ => OutPort.empty) t.refsel.outs n
          x.cfg = (s.outNow n).cfg ∧ x.ofs = (s.outNow n).ofs
          ∧ x.next = some (c, t.reg (Reg.OUT_OFS n), if bitsOf c 30 28 = 3
              then s.now + ((s16 - s.tod % s16) * 6 / 65536).toNat else s.sys.roundStart + s.sys.roundLen)
          ∧ ∀ j, j ≠ n → mget (fun _ => OutPort.empty) t.refsel.outs j = mget (fun _ => OutPort.empty) s.refsel.outs j)

/-- A message not for this node changes nothing; a broken header is logged in class LINK; a repetition is only
answered. A manager answers a HELLO with ATTEST_REQ, keeps it while 8 admissions are in progress, refuses it with the
first reason of R390, leaves it alone where it says so, or logs the eleventh in a second. ATTEST_RESP admits the node
with REATTEST + 60 s under the manager's signature, refuses it with reason 5, 6 or 8, or is a violation without a
request; the next HELLO that waits is then taken up. A node keeps an ATTEST_REQ, and takes an ADMIT whose signature
covers one of its last nonces, or a REFUSE, from its manager by R391 and R412. BYE, 3 s of silence and a lapsed lease
end an admission and set the node's endpoints; REATTEST asks again. That a wrong ADMIT is answered even without
ACK_REQ is the model's choice. -/
def Obligations.LinkAdmission : Prop :=
  (∀ (f : LinkFrame) (s : State),
    (HeaderFirst (.hello f) s 0x01 f ∧ HeaderFirst (.attestReq f) s 0x02 f ∧ HeaderFirst (.attestResp f) s 0x03 f
      ∧ HeaderFirst (.linkAdmit f) s 0x04 f ∧ HeaderFirst (.refuse f) s 0x05 f ∧ HeaderFirst (.bye f) s 0x07 f)
    ∧ ∀ l : List Byte,
    let h := linkHdrOf f l
    let body := linkBodyOf l
    let n := h.src
    let k := s.linkTaken h
    let ack := h.ack
    let mgr := match s.link.mgr with | some m => n == m | none => Nat.ble n 1
    let new (ty : Nat) : Prop := s.linkOpens ty f = some l ∧ s.linkNew ty f l = true
    let others (l : List Trying) := l.filter fun x => x.node != n
    (let b := Hello.ofBytes body
      let i := Instr.hello f
      let recent := (k.hellos.filter fun e => Nat.blt s.now (e.2 + sec1)) ++ [(n, s.now)]
      let many := Nat.blt 10 (recent.filter fun e => e.1 == n).length
      let at_ := mget (fun _ => 0) s.link.refused n
      let held := (at_ != 0 && Nat.blt s.now (at_ + 10 * sec1)) || (b.state == 1 && (s.admOf n).isSome)
        || s.link.tries.any fun t => t.node == n && Nat.blt s.now (t.since + 500 * ms1)
      let k1 := { k with hellos := recent }
      let k2 := { k1 with adms := k.adms.map fun (a : Adm) => if a.node = n then { a with hello := b.nonce } else a }
      let drop := (s.admOf n).any fun a => a.mac == h.mac
      let k3 := if drop = true then { k2 with adms := k.adms.filter fun (a : Adm) => a.node != n } else k2
      let reason := { s with link := k3 }.helloReason h b
      let taken := b.ok && s.admits n && !many
      let fresh (t : State) : Prop := dirFrame s t ∧ (drop = false → (∀ a, t.byte a = s.byte a) ∧ t.link.gen = s.link.gen)
        ∧ (drop = true → ∀ e ∈ s.skein.system.eps, e.node = n → t.dirState e.index = 5)
      (new 0x01 → b.ok = false → TakesBad i s h ack 7 6 1)
      ∧ (new 0x01 → b.ok = true → s.admits n = false → TakesQuiet i s h k)
      ∧ (new 0x01 → b.ok = true → s.admits n = true → many = true → s.tableFits →
          Takes i s ack violRegs [.net, .trust] fun t => t.link = k1.but t.link ∧ logsBad s t 5 6
            ∧ (ack = true → t.answered 0x3F n [h.seq, 1, 6]))
      ∧ (new 0x01 → taken = true → held = true → TakesQuiet i s h k2)
      ∧ (new 0x01 → taken = true → held = false → 8 ≤ s.inProgress → s.dirFits = true →
          let w := (k.waiting.filter fun g => !(match s.linkClear g with | some m => (linkHdrOf g m).src == n | none => false)) ++ [f]
          Takes i s true [] [.mem] fun t => t.link = { k3 with waiting := w, gen := t.link.gen }.but t.link ∧ fresh t)
      ∧ (new 0x01 → taken = true → held = false → s.inProgress < 8 → reason = 0 → s.dirFits = true →
          Takes i s true [] [.fv, .mem] fun t => fresh t ∧ ∃ v, v < 2 ^ 256
            ∧ (∃ q, ⟨0x02, n, q, [v], s.now, 0⟩ ∈ t.link.out)
            ∧ (let x : Trying := ⟨n, h.mac, v, s.now, b.nonce⟩
              t.link = { k3 with tries := others k.tries ++ [x], gen := t.link.gen }.but t.link))
      ∧ (new 0x01 → taken = true → held = false → s.inProgress < 8 → reason ≠ 0 → s.dirFits = true →
          Takes i s true [] [.mem] fun t => dirFrame s t
            ∧ (let adms := k.adms.filter fun (a : Adm) => a.node != n
              let refused := mset (fun _ => 0) k.refused n s.now
              t.link = { k1 with adms := adms, refused := refused, tries := others k.tries, gen := t.link.gen }.but t.link)
            ∧ (∃ q, ⟨0x05, n, q, [reason], s.now, 0⟩ ∈ t.link.out)
            ∧ ∀ e ∈ s.skein.system.eps, e.node = n → t.dirState e.index = 5))
    ∧ (let i := Instr.attestResp f
      let ev := body.drop 32
      let nonce := beAt body 0 32
      let lease := s.skein.system.reattest + 60
      (new 0x03 → (∀ t ∈ s.link.tries, t.node ≠ n) → TakesBad i s h ack 5 1 4)
      ∧ ∀ x : Trying, new 0x03 → (s.link.tries.find? fun t => t.node == n) = some x →
        let late := Nat.blt (x.since + 500 * ms1) s.now || x.nonce != nonce
        let bad := !s.evidenceOk n nonce ev || !s.measuresOk ev
        let ok := !bad && !late && s.skein.system.lcs.contains (byteAt ev 1)
        let left : Nat := { s with link := { k with tries := others k.tries } }.inProgress
        (s.link.waiting = [] → ok = true → Takes i s true [] [.fv] fun t =>
            let a : Adm := ⟨n, x.mac, s.link.nextAdm, s.now, lease, x.hello⟩
            let adms := (k.adms.filter fun (y : Adm) => y.node != n) ++ [a]
            t.link = { k with adms := adms, nextAdm := (k.nextAdm + 1) % 2 ^ 32, tries := others k.tries }.but t.link
            ∧ ∃ j, j < p384.n - 1 ∧ (let d := admitDigest x.hello s.nodeNo n s.link.term a.adm
                let sig := p384.sign dikPriv d (j + 1)
                ∃ q, ⟨0x04, n, q, [s.link.term, a.adm, lease, 0, sig.1, sig.2], s.now, 0⟩ ∈ t.link.out))
        ∧ (s.link.waiting = [] → ok = false → s.dirFits = true → Takes i s true [] [.mem] fun t => dirFrame s t
            ∧ (let adms := k.adms.filter fun (y : Adm) => y.node != n
              let refused := mset (fun _ => 0) k.refused n s.now
              t.link = { k with adms := adms, refused := refused, tries := others k.tries, gen := t.link.gen }.but t.link)
            ∧ (∃ q, ⟨0x05, n, q, [if bad = true then 5 else if late = true then 6 else 8], s.now, 0⟩ ∈ t.link.out)
            ∧ ∀ e ∈ s.skein.system.eps, e.node = n → t.dirState e.index = 5)
        ∧ ∀ g w, s.link.waiting = g :: w → s.dirFits = true → Takes i s true [] [.fv, .mem] fun t => dirFrame s t
            ∧ t.link.waiting = if left < 8 then w else g :: w)
    ∧ (new 0x02 → mgr = true → TakesQuiet (.attestReq f) s h { k with attest := some (n, beAt body 0 32) })
    ∧ (new 0x02 → mgr = false → TakesNak (.attestReq f) s h ack 7)
    ∧ (let b := AdmitBody.ofBytes body
      let i := Instr.linkAdmit f
      let term := Nat.ble s.link.term b.term
      let none_ := s.link.nonces.isEmpty
      let sig := s.admitSigOk n b
      (new 0x04 → term = false → TakesBad i s h true 5 5 7)
      ∧ (new 0x04 → term = true → mgr = false → TakesNak i s h true 7)
      ∧ (new 0x04 → term = true → mgr = true → b.res ≠ 0 → TakesBad i s h true 7 6 1)
      ∧ (new 0x04 → term = true → mgr = true → b.res = 0 → none_ = true → TakesBad i s h true 5 3 4)
      ∧ (new 0x04 → term = true → mgr = true → b.res = 0 → none_ = false → sig = false → TakesBad i s h true 5 4 1)
      ∧ (new 0x04 → term = true → mgr = true → b.res = 0 → none_ = false → sig = true → Takes i s true [] [] fun t =>
          let own : OwnAdm := ⟨b.adm, b.lease, s.now⟩
          t.link = { k with own := some own, term := b.term, mgr := some n }.but t.link
          ∧ ∃ q, ⟨0x06, n, q, s.inventory, s.now, 0⟩ ∈ t.link.out))
    ∧ (let r := byteAt body 0
      (new 0x05 → mgr = false → TakesNak (.refuse f) s h ack 7)
      ∧ (new 0x05 → mgr = true → (r = 0 ∨ 8 < r) → TakesBad (.refuse f) s h ack 7 6 1)
      ∧ (new 0x05 → mgr = true → r ≠ 0 → r ≤ 8 → TakesQuiet (.refuse f) s h { k with own := none })
      ∧ (new 0x07 → s.link.active = false → TakesNak (.bye f) s h ack 7)
      ∧ (new 0x07 → s.link.active = true → 2 < r → TakesBad (.bye f) s h ack 7 6 1)
      ∧ (new 0x07 → s.link.active = true → r ≤ 2 → s.dirFits = true → Takes (.bye f) s true [] [.mem] fun t =>
          dirFrame s t ∧ (let adms := k.adms.filter fun (y : Adm) => y.node != n
            t.link = { k with adms := adms, gen := t.link.gen }.but t.link)
          ∧ ∀ e ∈ s.skein.system.eps, e.node = n → t.dirState e.index = if r = 1 then 4 else 0)))
  ∧ (∀ (n : Fin 257) (s : State),
    let ends (i : Instr) (at_ st : Nat) : Prop := Does i s [Reg.TRUST_EVT] [.now, .mem, .link, .net, .trust] fun t =>
      t.now = max s.now at_ ∧ dirFrame s t
      ∧ (let adms := s.link.adms.filter fun (y : Adm) => y.node != n.val
        t.link = { s.link with adms := adms, gen := t.link.gen }.but t.link)
      ∧ ∀ e ∈ s.skein.system.eps, e.node = n.val → t.dirState e.index = st
    ((s.link.active = false ∨ s.admOf n.val = none) → exec (.nodeLostTimeout n) s = .next s
      ∧ exec (.reattestTimer n) s = .next s ∧ exec (.leaseExpire (some n)) s = .next s)
    ∧ ((∀ e ∈ s.link.heard, e.1 ≠ n.val) → exec (.nodeLostTimeout n) s = .next s)
    ∧ ∀ a : Adm, s.link.active = true → s.admOf n.val = some a →
      (∀ e, (s.link.heard.find? fun e => e.1 == n.val) = some e → s.dirFits = true →
        ends (.nodeLostTimeout n) (e.2.2 + 3 * sec1) 3)
      ∧ (s.dirFits = true → ends (.leaseExpire (some n)) (a.since + a.lease * sec1) 5)
      ∧ (s.linkOn = true → Does (.reattestTimer n) s [Reg.TRUST_EVT] [.now, .fv, .link, .net, .trust] fun t =>
          t.now = max s.now (a.since + s.skein.system.reattest * sec1) ∧ ∃ v, v < 2 ^ 256
            ∧ (∃ q, ⟨0x02, n.val, q, [v], t.now, 0⟩ ∈ t.link.out)
            ∧ (let l := (s.link.tries.filter fun (x : Trying) => x.node != n.val) ++ [⟨n.val, a.mac, v, t.now, a.hello⟩]
              t.link = { s.link with tries := l }.but t.link)))
  ∧ ∀ s : State,
    (s.link.own = none → exec (.leaseExpire none) s = .next s)
    ∧ (∀ o, s.link.own = some o → Does (.leaseExpire none) s [] [.now, .link] fun t =>
        t.now = max s.now (o.since + o.lease * sec1) ∧ t.link = { s.link with own := none })
    ∧ (s.linkOn = false → exec .helloSend s = .next s)
    ∧ (s.linkOn = true → Does .helloSend s [Reg.TRUST_EVT] [.fv, .link, .net, .trust] fun t => ∃ v, v < 2 ^ 256
        ∧ t.link = { s.link with nonces := (v :: s.link.nonces).take 4 }.but t.link ∧ t.link.out = s.link.out
        ∧ t.answered 0x01 0xFFFF [if s.isMgr = true then 1 else 0, if s.link.own.isSome = true then 1 else 0,
            if s.sys.rate96 = true then 1 else 0, s.sys.n, s.link.term, v, deviceIdh, s.skein.digest16, s.skein.system.peer])

/-- After the header: INVENTORY and EVENT from an admitted node set STATE and COND of each endpoint that they name
and that the directory holds, change no other entry and log an endpoint that the directory lacks; from another node
they are a DISCOVERY violation, with a wrong field or a foreign endpoint a LINK violation, at a node that is not the
active manager WRONG_ROLE. ANNOUNCE is forwarded to the manager, or taken there. WAKE changes nothing and is refused
without an admission. ACK and NAK end the wait for a message; OUT_OF_ORDER for a DIR_SYNC sends the whole directory.
A reserved TYPE is a violation with DETAIL 3. Without an answer the oldest message is sent again after 2 ms, three
times. That the oldest is the one a timeout resends is the model's choice. -/
def Obligations.LinkReports : Prop :=
  (∀ (f : LinkFrame) (s : State),
    let reserved := !linkTypes.contains (linkTy f)
    HeaderFirst (.inventory f) s 0x06 f ∧ HeaderFirst (.event f) s 0x12 f ∧ HeaderFirst (.linkWake f) s 0x23 f
    ∧ HeaderFirst (.linkAck f) s 0x3E f ∧ HeaderFirst (.linkNak f) s 0x3F f
    ∧ (∀ sap, HeaderFirst (.linkAnnounce (some f) sap) s 0x13 f)
    ∧ (reserved = false → exec (.linkReservedType f) s = .next s)
    ∧ (reserved = true → HeaderFirst (.linkReservedType f) s (linkTy f) f)
    ∧ ∀ l : List Byte,
    let h := linkHdrOf f l
    let body := linkBodyOf l
    let n := h.src
    let k := s.linkTaken h
    let ack := h.ack
    let mgr := match s.link.mgr with | some m => n == m | none => Nat.ble n 1
    let new (ty : Nat) : Prop := s.linkOpens ty f = some l ∧ s.linkNew ty f l = true
    let adm := (s.admOf n).isSome
    let q := beAt body 0 4
    let out := k.out.filter fun (m : OutMsg) => !(m.seq == q && (m.dst == n || m.dst == 0xFFFE || m.dst == 0xFFFF))
    let fromNode (i : Instr) (ty : Nat) : Prop := (new ty → s.link.active = false → TakesNak i s h ack 7)
      ∧ (new ty → s.link.active = true → adm = false → TakesBad i s h ack 5 2 3)
    (∀ (i : Instr) (ty : Nat), ((i, ty) = (.inventory f, 0x06) ∨ (i, ty) = (.event f, 0x12)) →
      let rs := epRecs body
      let shape := Nat.ble rs.length 92
        && rs.all fun r => Nat.blt r.index (2 ^ 17) && r.res == 0 && (r.state == 1 || r.state == 2) && Nat.blt r.kind 7
      let own := rs.all fun r => !s.dirValid r.index || s.dirNode r.index == n
      fromNode i ty
      ∧ (new ty → s.link.active = true → adm = true → shape = false → TakesBad i s h ack 7 6 1)
      ∧ (new ty → s.link.active = true → adm = true → shape = true → own = false → TakesBad i s h ack 7 8 1)
      ∧ (new ty → s.link.active = true → adm = true → shape = true → own = true →
          Takes i s true [] [.mem] fun t => dirFrame s t ∧ t.link = { k with gen := t.link.gen }.but t.link
            ∧ (∀ e, e < 2 ^ 17 → (∀ r ∈ rs, r.index ≠ e) → ∀ w, w < 8 → t.dirWord e w = s.dirWord e w)
            ∧ ((rs.map fun r => r.index).Nodup → ∀ r ∈ rs,
                (s.dirValid r.index = true → t.dirState r.index = r.state ∧ bitsOf (t.dirWord r.index 7) 31 24 = r.cond
                  ∧ t.dirNode r.index = n ∧ t.dirValid r.index = true)
                ∧ (s.dirValid r.index = false → (∀ w, w < 8 → t.dirWord r.index w = s.dirWord r.index w)
                  ∧ ∃ x, ⟨1, x, s.sys.roundNo, [6, n, r.index, r.state, r.cond]⟩ ∈ t.trust.log))))
    ∧ (∀ sap, fromNode (.linkAnnounce (some f) sap) 0x13
      ∧ (new 0x13 → s.link.active = true → adm = true → TakesQuiet (.linkAnnounce (some f) sap) s h k))
    ∧ (new 0x23 → s.link.own = none → s.link.active = false → TakesNak (.linkWake f) s h true 3)
    ∧ (new 0x23 → (s.link.own ≠ none ∨ s.link.active = true) → mgr = false → TakesNak (.linkWake f) s h true 7)
    ∧ (new 0x23 → (s.link.own ≠ none ∨ s.link.active = true) → mgr = true → TakesQuiet (.linkWake f) s h k)
    ∧ (new 0x3E → TakesQuiet (.linkAck f) s h { k with out := out })
    ∧ (let i := Instr.linkNak f
      let reason := byteAt body 4
      let full := reason == 4 && (k.out.any fun m => m.seq == q && m.ty == 0x21) && s.link.active && byteAt body 5 == 0
      (new 0x3F → (reason = 0 ∨ 7 < reason) → TakesBad i s h ack 7 6 1)
      ∧ (new 0x3F → reason ≠ 0 → reason ≤ 7 → full = false → TakesQuiet i s h { k with out := out })
      ∧ (new 0x3F → reason ≠ 0 → reason ≤ 7 → full = true → Takes i s true [] [] fun t => t.link = k.but t.link
          ∧ (∀ m ∈ out, m ∈ t.link.out)
          ∧ (∀ e ∈ s.skein.system.eps, ∃ x, ⟨0x21, n, x, [s.link.gen, 1, e.index]
              ++ (List.range 8).map (fun w => (s.dirWord e.index w).toNat), s.now, 0⟩ ∈ t.link.out)
          ∧ ∀ z ∈ s.link.zout, ∃ x, ⟨0x21, n, x, s.link.gen :: 2 :: zoneNums z.cmd, s.now, 0⟩ ∈ t.link.out))
    ∧ (reserved = true → new (linkTy f) → TakesBad (.linkReservedType f) s h ack 7 3 2))
  ∧ ∀ s : State,
    (∀ bytes : List Byte, let i := Instr.linkAnnounce none bytes
      ((s.link.active = true ∨ s.linkOn = false) → exec i s = .next s)
      ∧ (s.link.active = false → s.linkOn = true → Does i s [Reg.TRUST_EVT] [.link, .net, .trust] fun t =>
          t.link = s.link.but t.link ∧ t.link.seq = (s.link.seq + 1) % 2 ^ 32
          ∧ t.link.out = s.link.out ++ [⟨0x13, 0xFFFE, s.link.seq, bytes.map (·.toNat), s.now, 0⟩]))
    ∧ (s.link.out = [] → exec .linkResendTimeout s = .next s)
    ∧ ∀ m l, s.link.out = m :: l →
      (3 ≤ m.tries → Does .linkResendTimeout s [] [.now, .link] fun t => t.now = max s.now (m.since + 2 * ms1)
          ∧ t.link = { s.link with out := l })
      ∧ (m.tries < 3 → Does .linkResendTimeout s [Reg.TRUST_EVT] [.now, .link, .net, .trust] fun t =>
          let m' : OutMsg := { m with since := t.now, tries := m.tries + 1 }
          t.now = max s.now (m.since + 2 * ms1) ∧ t.link = s.link.but t.link ∧ t.link.sent = s.link.sent
          ∧ t.link.out = l ++ [m'] ∧ t.link.seq = s.link.seq
          ∧ ∀ p b, s.linkPorts m.dst = [p] → s.netUp p = true → ((s.np p).queue 5).length < 32 →
              (s.linkFrame m' p).2 = some b →
              (t.np p).queue 5 = (s.np p).queue 5 ++ [⟨frameLen b, be16 b (etherAt b), .plain b, false⟩])

/-- A node checks its admission, the manager, the fields and TERM of a ZONE_CMD in that order; for a zone that it
serves it queues one action per crosspoint with the command's DUE and TAG and issues its preset's parameter records,
and sends QUEUED, again for a repetition. A manager issues a command with DUE = round + LEAD, the next TAG and its
TERM, mirrors it to an admitted standby and serves it itself; a host only for its zones. ZONE_ACK marks nodes; RESEND
rounds later those without QUEUED get it again, and after DUE those without DONE are logged. A beat is obeyed, moves
a manager to standby by TERM, or is a violation below the term. Beats go out every 10 ms; 500 or 750 ms of listening,
or 30 ms without a beat, make a manager active with TERM + 1. DIR_SYNC writes the entries of the next GEN, or asks
for a full copy. -/
def Obligations.ZoneCommandsAndManagers : Prop :=
  (∀ (f : LinkFrame) (s : State),
    (HeaderFirst (.zoneCmd (.msg f)) s 0x10 f ∧ HeaderFirst (.zoneAck f) s 0x11 f ∧ HeaderFirst (.mgrBeat f) s 0x20 f
      ∧ HeaderFirst (.dirSync f) s 0x21 f)
    ∧ ∀ l : List Byte,
    let h := linkHdrOf f l
    let body := linkBodyOf l
    let n := h.src
    let k := s.linkTaken h
    let ack := h.ack
    let mgr := match s.link.mgr with | some m => n == m | none => Nat.ble n 1
    let new (ty : Nat) : Prop := s.linkOpens ty f = some l ∧ s.linkNew ty f l = true
    let adm := (s.admOf n).isSome
    let in_ := s.link.own.isSome || s.link.active
    (let i := Instr.zoneCmd (.msg f)
      let cs := zoneCmdsOf body
      let shape := zoneHeadOk body && cs.all zoneOk
      let term := cs.all fun c => s.termOk c.term.toNat
      let ok := in_ && mgr && shape && term
      (new 0x10 → in_ = false → TakesNak i s h true 3)
      ∧ (new 0x10 → in_ = true → mgr = false → TakesNak i s h true 7)
      ∧ (new 0x10 → in_ = true → mgr = true → shape = false → TakesBad i s h true 7 6 1)
      ∧ (new 0x10 → in_ = true → mgr = true → shape = true → term = false → TakesBad i s h true 5 5 7)
      ∧ (new 0x10 → ok = true → (∀ c ∈ cs, ∀ e ∈ s.skein.system.zones, e.1 ≠ c.zone.toNat) → TakesQuiet i s h k)
      ∧ ∀ (c : ZoneCmd) (e : Nat × SkZone), new 0x10 → ok = true → cs = [c] →
        (s.skein.system.zones.find? fun e => e.1 == c.zone.toNat) = some e →
        Takes i s true zoneRegs zonePieces fun t => t.link = { k with zones := t.link.zones }.but t.link ∧ ZoneTook s t k c e.2)
    ∧ (let b := ZoneAck.ofBytes body
      let i := Instr.zoneAck f
      let shape := Nat.ble 1 b.stage && Nat.ble b.stage 2 && b.res == 0
      (new 0x11 → s.link.active = false → TakesNak i s h ack 7)
      ∧ (new 0x11 → s.link.active = true → adm = false → TakesBad i s h ack 5 2 3)
      ∧ (new 0x11 → s.link.active = true → adm = true → shape = false → TakesBad i s h ack 7 6 1)
      ∧ (new 0x11 → s.link.active = true → adm = true → shape = true →
          let z := k.zout.map fun (z : ZoneOut) =>
            if z.cmd.tag.toNat = b.tag ∧ z.cmd.due.toNat = b.due then
              { z with queued := n :: z.queued, done := if b.stage = 1 then z.done else n :: z.done } else z
          TakesQuiet i s h { k with zout := z }))
    ∧ (let i := Instr.mgrBeat f
      let b := Beat.ofBytes body
      let shape := b.res == 0 && (b.role == 1 || b.role == 2) && Nat.blt b.map (2 ^ 257)
      let own := if b.map.testBit s.nodeNo then k.own else none
      let yields := Nat.blt s.link.term b.term || (s.link.term == b.term && s.nodeNo == 1)
      let k1 := { k with mgr := some n, term := b.term, map := b.map, beatAt := s.now, own := own }
      (new 0x20 → 1 < n → TakesNak i s h ack 7)
      ∧ (new 0x20 → n ≤ 1 → shape = false → TakesBad i s h ack 7 6 1)
      ∧ (new 0x20 → n ≤ 1 → shape = true → b.role = 2 → TakesQuiet i s h k)
      ∧ (new 0x20 → n ≤ 1 → shape = true → b.role = 1 → s.link.active = true → yields = true →
          TakesQuiet i s h { k1 with active := false })
      ∧ (new 0x20 → n ≤ 1 → shape = true → b.role = 1 → s.link.active = true → yields = false → TakesQuiet i s h k)
      ∧ (new 0x20 → n ≤ 1 → shape = true → b.role = 1 → s.link.active = false → b.term < s.link.term → TakesBad i s h ack 5 5 7)
      ∧ (new 0x20 → n ≤ 1 → shape = true → b.role = 1 → s.link.active = false → s.link.term ≤ b.term →
          TakesQuiet i s h { k1 with listening := false, wantFull := k.wantFull || b.gen != k.gen }))
    ∧ (let i := Instr.dirSync f
      let g := beAt body 0 4
      let items := syncItems body
      let role := !s.link.active && s.isMgr
      let shape := Nat.ble items.length 40 && items.all syncOk
      let next := g == s.link.gen || g == (s.link.gen + 1) % 2 ^ 32 || s.link.wantFull
      (new 0x21 → role = false → TakesNak i s h ack 7)
      ∧ (new 0x21 → role = true → adm = false → TakesNak i s h ack 3)
      ∧ (new 0x21 → role = true → adm = true → shape = false → TakesBad i s h ack 7 6 1)
      ∧ (new 0x21 → role = true → adm = true → shape = true → next = false → Takes i s ack [] [] fun t =>
          t.link = { k with wantFull := true }.but t.link ∧ (ack = true → t.answered 0x3F n [h.seq, 4, 0]))
      ∧ (new 0x21 → role = true → adm = true → shape = true → next = true → Takes i s ack [] [.mem] fun t => dirFrame s t
          ∧ t.link = { k with gen := g, wantFull := false, zout := t.link.zout }.but t.link
          ∧ (∀ e, e < 2 ^ 17 → (∀ ix ws, .entry ix ws ∈ items → ix ≠ e) → ∀ w, w < 8 → t.dirWord e w = s.dirWord e w)
          ∧ (∀ ix ws, items = [.entry ix ws] → t.link.zout = k.zout ∧ ∀ w, w < 8 → t.dirWord ix w = ws.getD w 0#32)
          ∧ ∀ c, items = [.zone c] → (k.zout.any fun y => y.cmd.tag == c.tag && y.cmd.due == c.due) = false →
              t.link.zout = k.zout ++ [⟨c, s.sys.roundNo, [], []⟩])))
  ∧ ∀ s : State,
    let sends := [Piece.link, .net, .trust]
    (∀ (c : ZoneCmd) (q : Bool),
      let host := Instr.zoneCmd (.host q [c])
      let issues (i : Instr) : Prop :=
        let due := BitVec.ofNat 48 (s.sys.roundNo + s.skein.system.lead)
        let c' : ZoneCmd := { c with due := due, tag := BitVec.ofNat 16 s.link.nextTag, term := BitVec.ofNat 32 s.link.term }
        let k := { s.link with nextTag := (s.link.nextTag + 1) % 65536, zout := s.link.zout ++ [⟨c', s.sys.roundNo, [], []⟩] }
        let sent (t : State) : Prop := (∃ x, ⟨0x10, 0xFFFF, x, zoneNums c', s.now, 0⟩ ∈ t.link.sent)
          ∧ ((s.admOf (1 - s.nodeNo)).isSome = true →
              ∃ x, ⟨0x21, 1 - s.nodeNo, x, s.link.gen :: 2 :: zoneNums c', s.now, 0⟩ ∈ t.link.out)
        ((∀ e ∈ s.skein.system.zones, e.1 ≠ c.zone.toNat) → Does i s [Reg.TRUST_EVT] sends fun t => t.link = k.but t.link ∧ sent t)
        ∧ ∀ e, (s.skein.system.zones.find? fun e => e.1 == c.zone.toNat) = some e → Does i s zoneRegs zonePieces fun t =>
            t.link = { k with zones := t.link.zones }.but t.link ∧ sent t ∧ ZoneTook s t k c' e.2
      let on := s.linkOn && s.link.active
      (on = false → exec host s = .next s ∧ ∀ l, exec (.zoneCmd (.warden l)) s = .next s)
      ∧ (on = true → zoneOk c = true → issues (.zoneCmd (.warden [c])))
      ∧ (on = true → zoneOk c = true → c.zone.toNat ∈ s.skein.system.hostZones → issues host)
      ∧ (on = true → zoneOk c = true → c.zone.toNat ∉ s.skein.system.hostZones → Does host s [Reg.TRUST_EVT] [.trust] fun t =>
          t.flag Reg.TRUST_EVT_PRIV_VIOL = true ∧ t.trust.log = s.trust.log ++
            [⟨9, s.trust.logSeq, s.sys.roundNo, [if q = true then 4 else 3, c.zone.toNat]⟩]))
    ∧ (∀ tag : BitVec 16,
      let i := Instr.zoneCmdResend tag
      ((∀ z ∈ s.link.zout, z.cmd.tag ≠ tag) → exec i s = .next s)
      ∧ ∀ z, (s.link.zout.find? fun z => z.cmd.tag == tag) = some z →
        let served := (s.skein.system.served z.cmd.zone.toNat).filter fun n => n != s.nodeNo
        let lacks := served.filter fun n => !z.queued.contains n
        let miss := served.filter fun n => !z.done.contains n
        let due := z.cmd.due.toNat
        let ready := s.link.active && Nat.ble (z.sent + s.skein.system.resend) s.sys.roundNo
        (ready = false ∨ s.sys.roundNo = due → exec i s = .next s)
        ∧ (ready = true → s.sys.roundNo < due → Does i s [Reg.TRUST_EVT] sends fun t =>
            (let z' : ZoneOut := { z with sent := s.sys.roundNo }
              let l := s.link.zout.map (fun (y : ZoneOut) => if y = z then z' else y)
              t.link = { s.link with zout := l }.but t.link ∧ t.link.out = s.link.out)
            ∧ (∀ m, lacks = [m] → s.linkOn = true → t.answered 0x10 m (zoneNums z.cmd)))
        ∧ (ready = true → due < s.sys.roundNo → Does i s [Reg.TRUST_EVT] [.link, .trust] fun t =>
            t.link = { s.link with zout := s.link.zout.filter fun (y : ZoneOut) => y != z }
            ∧ t.trust.log = s.trust.log ++ miss.zipIdx.map fun e =>
                ⟨1, s.trust.logSeq + e.2, s.sys.roundNo, [7, z.cmd.zone.toNat, tag.toNat, e.1]⟩))
    ∧ (let on := s.linkOn && s.isMgr && !s.link.listening
      (on = false → exec .mgrBeatSend s = .next s)
      ∧ (on = true → Does .mgrBeatSend s [Reg.TRUST_EVT] (.now :: sends) fun t =>
          t.now = max s.now (s.link.beatSent + 10 * ms1) ∧ t.link.out = s.link.out
          ∧ t.link = { s.link with beatSent := t.now, map := if s.link.active = true then s.admMap else s.link.map }.but t.link
          ∧ t.answered 0x20 0xFFFF [s.link.term, s.link.gen, if s.link.active = true then 1 else 2, s.admMap]))
    ∧ (let up : Link := { s.link with active := true, listening := false, term := (s.link.term + 1) % 2 ^ 32, mgr := some s.nodeNo, map := s.admMap }
      let starts := s.linkOn && s.isMgr && s.link.listening
      let takes := s.linkOn && s.isMgr && !s.link.listening && !s.link.active && (s.admOf (1 - s.nodeNo)).isSome
      let kept (t : State) : Prop := ∃ l, t.trust.log = s.trust.log ++ ⟨5, s.trust.logSeq, s.sys.roundNo, [s.link.term + 1]⟩ :: l
      (starts = false → exec .managerStartListenEnd s = .next s)
      ∧ (starts = true → Does .managerStartListenEnd s [Reg.TRUST_EVT] [.now, .link, .trust] fun t => t.link = up ∧ kept t
          ∧ t.now = max s.now (s.link.started + (if s.nodeNo = 0 then 500 else 750) * ms1))
      ∧ (takes = false → exec .managerTakeover s = .next s)
      ∧ (takes = true → Does .managerTakeover s [Reg.TRUST_EVT] (.now :: sends) fun t =>
          t.link = up.but t.link ∧ t.link.out = s.link.out ∧ kept t ∧ t.now = max s.now (s.link.beatAt + 30 * ms1)
          ∧ ∀ (z : ZoneOut) (m : Nat), s.link.zout = [z] → s.sys.roundNo < z.cmd.due.toNat →
              ((s.skein.system.served z.cmd.zone.toNat).filter fun n => !z.queued.contains n && n != s.nodeNo) = [m] →
              t.answered 0x10 m (zoneNums { z.cmd with term := BitVec.ofNat 32 up.term })))

/-- A GO by an agent other than 2 to 4, or in Bare mode, is an error response; while another agent's capsule or an
in-place activation is in progress it reads BUSY; a capsule that fails a check leaves only its result, and the
privilege log where a host is denied. One that passes records its counter, except with STATE or DECRYPT. By kind: a
Skein fills its slot or leaves it EMPTY, as the bytes written there decide, and a check of R145 that one stake fails
is recorded in CL_ABI_REJ; a bundle fills the golden area, an empty slot or the older one; an alarm store writes
flash and clears MSG_OK of the messages it changes; ACTIVATE makes a VALID slot PENDING, resets, or waits for the
next round boundary, at which the PENDING Skein of a withdrawn node runs in place; an STK is sealed into the store,
SVN floors are only raised, and the lifecycle and stream records follow R415 and R442; a reserved kind is DENIED. A
capsule of another kind is not what a command stands for. -/
def Obligations.Capsules : Prop :=
  (∀ (a : Agent) (s : State), s.reaches a Reg.TRUST_CAP_CTL true = true →
    let hd := s.capHead
    let kind := capKind hd
    let ctr := capCtr hd
    let body := s.capPayload
    let host := a.val == 3 || a.val == 4
    let agent := Nat.ble 2 a.val && Nat.ble a.val 4 && !s.flag Reg.ALARM_CTL_BARE
    let held := s.flag Reg.TRUST_CAP_STAT_BUSY && (s.rf Reg.TRUST_CAP_STAT_AGENT != a.val || s.trust.inPlace.isSome)
    let check := s.capCheck a.val
    let done (r : Nat) (t : State) : Prop := t.bus.err = false
      ∧ t.reg Reg.TRUST_CAP_STAT = BitVec.ofNat 32 (a.val * 2 ^ 24 + kind % 256 * 65536 + r)
      ∧ t.flag Reg.TRUST_EVT_CAP_DONE = true ∧ ∃ q, t.trust.log.getLast? = some ⟨7, q, s.sys.roundNo, [kind, a.val, r, ctr]⟩
    let first (i : Instr) (on : Bool) : Prop :=
      (on = false → exec i s = .next s)
      ∧ (on = true → agent = false → Errs i s [] fun _ => True)
      ∧ (on = true → agent = true → held = true → Does i s [Reg.TRUST_CAP_STAT] [.bus] fun t => t.bus.err = false
          ∧ t.rf Reg.TRUST_CAP_STAT_RESULT = 1 ∧ t.flag Reg.TRUST_CAP_STAT_BUSY = true)
      ∧ (on = true → agent = true → held = false → check ≠ 0 →
          Does i s [Reg.TRUST_CAP_STAT, Reg.TRUST_EVT] [.bus, .trust] fun t => done check t
            ∧ t.trust = { s.trust with log := t.trust.log, logSeq := t.trust.logSeq }
            ∧ (check = 6 → host = true → t.flag Reg.TRUST_EVT_PRIV_VIOL = true))
    let ready (k : Nat) : Prop := kind = k ∧ agent = true ∧ held = false ∧ check = 0
    let ends (i : Instr) (r : Nat) (regs : List Nat) (pieces : List Piece) (P : State → Prop) : Prop :=
      Does i s ([Reg.TRUST_CAP_STAT, Reg.TRUST_EVT] ++ regs) ([.bus, .trust] ++ pieces) fun t =>
        done r t ∧ t.trust.capCtr = (if r = 7 ∨ r = 8 then s.trust.capCtr else ctr) ∧ P t
    let but (x : Trust) (t : State) : Prop :=
      t.trust = { x with capCtr := t.trust.capCtr, log := t.trust.log, logSeq := t.trust.logSeq }
    let bare (i : Instr) (r : Nat) : Prop := ends i r [] [] (but s.trust)
    let erased (t : State) (lo n : Nat) : Prop := ∀ j, lo ≤ j → j < lo + n → t.byte (flashBase + j) = 0xFF#8
    let outside (t : State) (lo n : Nat) : Prop :=
      ∀ x, ¬ (flashBase + lo ≤ x ∧ x < flashBase + lo + n) → t.byte x = s.byte x
    let abiRegs (k : SkImage) := Reg.TRUST_SLOTS :: k.sched.flatMap fun p => [Reg.CL_EVT p.cluster.val, Reg.CL_ABI_REJ p.cluster.val]
    (∀ (slot : Fin 2) (k : SkImage) (flashOk : Bool),
      let i := Instr.capSkeinImage a slot k flashOk
      let n := slot.val
      let open_ := !(s.slotState n == 5 || s.slotState 0 == 4 || s.slotState 1 == 4)
      let slotTo (t : State) (st : Nat) (x : Option SkImage) : Prop := t.slotState n = st ∧ t.skeinOf n = x
        ∧ t.slotState (1 - n) = s.slotState (1 - n) ∧ t.skeinOf (1 - n) = s.skeinOf (1 - n)
        ∧ but { s.trust with skA := t.trust.skA, skB := t.trust.skB } t ∧ outside t (skeinBase n) skeinSize
      first i (kind == 1)
      ∧ (ready 1 → open_ = false → bare i 7)
      ∧ (ready 1 → open_ = true → body = none → bare i 8)
      ∧ (ready 1 → open_ = true → body ≠ none → flashOk = false → ends i 9 [Reg.TRUST_SLOTS] [.mem] fun t =>
          slotTo t 0 none ∧ erased t (skeinBase n) skeinSize)
      ∧ ∀ l, ready 1 → open_ = true → body = some l → flashOk = true →
          Does i s ([Reg.TRUST_CAP_STAT, Reg.TRUST_EVT] ++ abiRegs k) [.bus, .trust, .mem, .fv] fun t =>
            let w := { s with mem := t.mem }
            let r := w.skeinReason n k s.running false
            t.trust.capCtr = ctr ∧ (∀ j, j < skeinSize → t.byte (flashBase + skeinBase n + j) = l.getD j 0xFF#8)
            ∧ (r = 0 → done 0 t ∧ slotTo t 2 (some k) ∧ t.fv = s.fv)
            ∧ (r ≠ 0 → done 10 t ∧ slotTo t 0 none ∧ t.rf Reg.TRUST_SLOTS_REASON = r ∧ t.flag Reg.TRUST_EVT_SKN_REFUSED = true
              ∧ ∀ f j x, (w.skRead n k).failFor (abiOk s.running) r = some f → f.stake = some j → j < 8 →
                  f.record.stakes[j]? = some x →
                  t.reg (Reg.CL_ABI_REJ f.record.cluster.val)
                    = BitVec.ofNat 32 (2 ^ 31 + j * 2 ^ 24 + x.abi % 256 * 2 ^ 16 + x.prog % 65536)
                  ∧ (r = 8 → t.flag (Reg.CL_EVT_ABI_REJ f.record.cluster.val) = true)))
    ∧ (∀ (b : Bundle) (flashOk : Bool),
      let i := Instr.capFwBundle a b flashOk
      let dest := if capGolden hd = true then 2 else match s.trust.fwA, s.trust.fwB with
        | none, _ => 0
        | some _, none => 1
        | some x, some y => if y.ver < x.ver then 1 else 0
      let base := 0x00100000 + dest * 0x00400000
      let put (x : Option Bundle) : Trust :=
        if dest = 0 then { s.trust with fwA := x } else if dest = 1 then { s.trust with fwB := x } else { s.trust with gold := x }
      let code (t : State) : Nat :=
        t.rf (if dest = 0 then Reg.TRUST_SLOTS_FW_A else if dest = 1 then Reg.TRUST_SLOTS_FW_B else Reg.TRUST_SLOTS_GOLD)
      first i (kind == 2)
      ∧ (ready 2 → body = none → bare i 8)
      ∧ ∀ l, ready 2 → body = some l →
        let ok := s.bundleOk b && Nat.ble l.length 0x400000
        (ok = false → bare i (if s.bundleSigned b = true then 2 else 3))
        ∧ (ok = true → ends i (if flashOk = true then 0 else 9) [Reg.TRUST_SLOTS] [.mem] fun t =>
            but (put (if flashOk = true then some b else none)) t ∧ code t = (if flashOk = true then 1 else 0)
            ∧ t.slotState 0 = s.slotState 0 ∧ t.slotState 1 = s.slotState 1 ∧ outside t base 0x400000
            ∧ ∀ j, j < 0x400000 →
                t.byte (flashBase + base + j) = if flashOk = true then l.getD j 0xFF#8 else 0xFF#8))
    ∧ (∀ flashOk : Bool,
      let i := Instr.capAlarmStore a flashOk
      let free := s.reg Reg.ALARM_TRIG_ACT0 == 0#32 && s.reg Reg.ALARM_TRIG_ACT1 == 0#32
      first i (kind == 3)
      ∧ (ready 3 → free = false → bare i 7)
      ∧ (ready 3 → free = true → body = none → bare i 8)
      ∧ ∀ l, ready 3 → free = true → body = some l →
        let off := leAt l 0 4
        let bytes := l.drop 4
        let hits := s.storeHits off bytes.length
        let open_ := hits.isEmpty || capForce hd
        let fits := Nat.ble 4 l.length && Nat.ble (off + bytes.length) (64 * 2 ^ 20)
        let alters (m : Nat) : Bool := (List.range bytes.length).any fun j =>
          Nat.ble (s.skMsg m).start (off + j) && Nat.blt (off + j) ((s.skMsg m).start + 3 * (s.skMsg m).len)
            && s.byte (storeBase + off + j) != bytes.getD j 0#8
        (open_ = false → bare i 7)
        ∧ (open_ = true → fits = false → bare i 2)
        ∧ (open_ = true → fits = true → flashOk = false → bare i 9)
        ∧ (open_ = true → fits = true → flashOk = true →
            ends i 0 [Reg.ALARM_MSG_OK0, Reg.ALARM_MSG_OK1, Reg.ALARM_FAULT, Reg.ALARM_EVT] [.mem] fun t => but s.trust t
              ∧ (∀ j, j < bytes.length → t.byte (storeBase + off + j) = bytes.getD j 0#8)
              ∧ (∀ x, ¬ (storeBase + off ≤ x ∧ x < storeBase + off + bytes.length) → t.byte x = s.byte x)
              ∧ (∀ m, m < 64 → t.msgOk m = (s.msgOk m && !(hits.contains m && alters m)))
              ∧ ((hits.any alters) = true → t.flag Reg.ALARM_FAULT_STORE = true ∧ t.flag Reg.ALARM_EVT_STORE_BAD = true)
              ∧ ((hits.any alters) = false → t.reg Reg.ALARM_FAULT = s.reg Reg.ALARM_FAULT
                ∧ t.reg Reg.ALARM_EVT = s.reg Reg.ALARM_EVT)))
    ∧ (∀ (i : Instr) (mode : Nat) (badMsgs : List Nat),
      ((i = .activatePending a ∧ s.capMode = mode ∧ mode ≠ 1 ∧ mode ≠ 2) ∨ (i = .activateReset a ∧ s.capMode = mode ∧ mode = 1)
        ∨ (i = .activateInPlace a badMsgs ∧ s.capMode = mode ∧ mode = 2)) →
      first i (kind == 4)
      ∧ (ready 4 → body = none → bare i 8)
      ∧ ∀ l, ready 4 → body = some l →
        (l.length ≠ 1 ∨ 2 < mode → bare i 2)
        ∧ (l.length = 1 → mode ≤ 1 → s.slotIn 2 = none → bare i 7)
        ∧ (∀ n, l.length = 1 → mode = 0 → s.slotIn 2 = some n → ends i 0 [Reg.TRUST_SLOTS] [] fun t => but s.trust t
            ∧ t.slotState n = 3 ∧ t.slotState (1 - n) = s.slotState (1 - n))
        ∧ (∀ n, l.length = 1 → mode = 1 → s.slotIn 2 = some n → (∀ m, m < 2 → s.slotState m ≠ 4) →
            ∃ t, exec i s = .next t ∧ DeviceReset s t ∧ t.slotState n = 3 ∧ t.trust.capCtr = ctr)
        ∧ (l.length = 1 → mode = 2 → (s.slotIn 3 = none ∨ s.pairState ≠ paWithdrawn) → bare i 7)
        ∧ ∀ n k, l.length = 1 → mode = 2 → s.slotIn 3 = some n → s.pairState = paWithdrawn → s.skeinOf n = some k →
          let r := s.skeinReason n k s.running true
          (r ≠ 0 → ends i 10 (abiRegs k) [.fv] fun t =>
            but s.trust t ∧ t.slotState n = 3 ∧ t.rf Reg.TRUST_SLOTS_REASON = r)
          ∧ (r = 0 → Does i s [Reg.TRUST_CAP_STAT] [.bus, .trust] fun t => t.bus.err = false
              ∧ t.reg Reg.TRUST_CAP_STAT = BitVec.ofNat 32 (2 ^ 31 + a.val * 2 ^ 24 + 4 * 65536)
              ∧ t.trust = { s.trust with capCtr := ctr, inPlace := some (a.val, badMsgs) }))
    ∧ ((s.capMode = 1 ∨ s.capMode = 2) → exec (.activatePending a) s = .next s)
    ∧ (s.capMode ≠ 1 → exec (.activateReset a) s = .next s)
    ∧ (s.capMode ≠ 2 → ∀ l, exec (.activateInPlace a l) s = .next s)
    ∧ (∀ flashOk : Bool,
      let i := Instr.capStk a flashOk
      let plain := !capSealed hd && !(s.lc == 1 || s.flag Reg.TRUST_LC_SECRETS_ERASED)
      first i (kind == 5)
      ∧ (ready 5 → plain = true → bare i 6)
      ∧ (ready 5 → plain = false → body = none → bare i 8)
      ∧ ∀ l, ready 5 → plain = false → body = some l →
        (l.length ≠ 32 → bare i 2)
        ∧ (l.length = 32 → flashOk = false → bare i 9)
        ∧ (l.length = 32 → flashOk = true → ends i 0 [Reg.TRUST_LC] [.fv] fun t =>
            t.flag Reg.TRUST_LC_STK_OK = true ∧ t.lc = s.lc ∧ t.epoch = s.epoch
            ∧ ∃ v, v < 2 ^ 96 ∧ (let c := gcmSeal (kwrap s.epoch) (beBytes v 12) [] l
              but { s.trust with store := some (beBytes v 12 ++ c.1 ++ c.2) } t)))
    ∧ (let i := Instr.capSvnFloor a
      first i (kind == 6)
      ∧ (ready 6 → body = none → bare i 8)
      ∧ ∀ l, ready 6 → body = some l →
        let fits := l.length == 5 && Nat.ble (byteAt l 0) 64 && (l.drop 1).all fun v => Nat.ble v.toNat 15
        (fits = false → bare i 2)
        ∧ (fits = true → ends i 0 [Reg.TRUST_SVN] [] fun t => but s.trust t
            ∧ ∀ e ∈ [Reg.TRUST_SVN_SKN, Reg.TRUST_SVN_S2, Reg.TRUST_SVN_WDN, Reg.TRUST_SVN_NET, Reg.TRUST_SVN_SEQ].zipIdx,
                t.rf e.1 = max (s.rf e.1) (byteAt l e.2)))
    ∧ (let i := Instr.capLifecycle a
      first i (kind == 7)
      ∧ (ready 7 → body = none → bare i 8)
      ∧ ∀ l, ready 7 → body = some l →
        let n := byteAt l 0
        let shape := l.length == if n = 1 then 97 else 1
        let bad := (n == 2 && s.stkKey.isNone) || (n == 0 && s.epoch == 3)
        (shape = false → bare i 2)
        ∧ (shape = true → bad = true → bare i 7)
        ∧ (shape = true → bad = false → ∃ t, exec i s = .next t ∧ t.lc = n
            ∧ t.power.boot = some 1 ∧ t.trust.run = none ∧ t.trust.capCtr = ctr ∧ (∀ p ∈ [Piece.pending, .now, .skein, .link], p.same s t)
            ∧ ((n = 1 ∨ n = 2) → DeviceReset s t ∧ t.trust.store = s.trust.store ∧ t.epoch = s.epoch)
            ∧ (n = 1 → mget (fun _ => 0) t.trust.owners s.epoch = keyHash s.carriedKey)
            ∧ ((n = 0 ∨ n = 3) → t.trust.store = none ∧ t.trust.skA = none ∧ t.trust.skB = none ∧ t.slotState 0 = 0
                ∧ t.slotState 1 = 0 ∧ t.epoch = (if n = 0 then s.epoch + 1 else s.epoch)
                ∧ erased t 0x00D00000 (flashSize - 0x00D00000))))
    ∧ (∀ l : List (Fin 511 × List (Nat × Word)),
      let i := Instr.capStreamSet a l
      let on := l.any fun e => s.flag (Reg.CTX_CFG_EN e.1.val)
      first i (kind == 8)
      ∧ (ready 8 → on = true → bare i 7)
      ∧ (ready 8 → on = false → body = none → bare i 8)
      ∧ (ready 8 → on = false → body ≠ none →
          ends i 0 (l.flatMap fun e => e.2.map fun w => Reg.CTX_CFG e.1.val + 4 * (w.1 % 16)) [] fun t => but s.trust t
            ∧ ∀ c w v, l = [(c, [(w, v)])] →
                t.reg (Reg.CTX_CFG c.val + 4 * (w % 16)) = if w % 16 = 0 then setBits v 31 31 0 else v))
    ∧ first (.capReservedKind a) (kind == 0 || Nat.ble 9 kind)
    ∧ ((kind = 0 ∨ 9 ≤ kind) → check ≠ 0))
  ∧ ∀ (a : Nat) (bad : List Nat) (s : State), s.trust.inPlace = some (a, bad) →
    let t := s.inPlaceBoundary
    let done (r : Nat) : Prop := t.reg Reg.TRUST_CAP_STAT = BitVec.ofNat 32 (a * 2 ^ 24 + 4 * 65536 + r)
      ∧ t.trust.inPlace = none ∧ t.flag Reg.TRUST_EVT_CAP_DONE = true
      ∧ ∃ q, t.trust.log.getLast? = some ⟨7, q, s.sys.roundNo, [4, a, r, s.trust.capCtr]⟩
    ((s.slotIn 3 = none ∨ s.pairState ≠ paWithdrawn) → done 7 ∧ t.trust.run = s.trust.run ∧ t.skein = s.skein)
    ∧ ∀ n k, s.slotIn 3 = some n → s.pairState = paWithdrawn → s.skeinOf n = some k →
      let r := s.skeinReason n k s.running true
      (r ≠ 0 → done 10 ∧ t.slotState n = 3 ∧ t.rf Reg.TRUST_SLOTS_REASON = r ∧ t.trust.run = s.trust.run ∧ t.skein = s.skein)
      ∧ (r = 0 → done 0 ∧ t.slotState n = 4
          ∧ (∀ m, s.slotIn 5 = some m → t.slotState m = 2) ∧ t.trust.run = some n ∧ t.trust.trialAt = some s.now
          ∧ t.rf Reg.TRUST_BOOT_PATH = 3 ∧ t.rf Reg.TRUST_BOOT_SLOT = n ∧ t.flag Reg.TRUST_BOOT_TRIAL = true
          ∧ t.skein = (s.skRead n k).content ∧ t.sys.rate96 = k.rate96 ∧ t.sys.n = k.n ∧ t.sys.roundNo = s.sys.roundNo
          ∧ t.power.together = k.clusters.filter (fun c => s.clState c != clIsolated)
          ∧ (∀ g, g < 4 → k.region g ≠ [] → t.rf (Reg.REG_OP_OP g) = k.regionNom g)
          ∧ t.sys.roundStart = s.sys.roundStart ∧ t.streams.ctxs = []
          ∧ ∀ p ∈ [Piece.pending, .now, .link, .hoop], p.same s t)

/-- Without a start due, or under RST_N, nothing changes. A start that finds no firmware enters Bare mode; firmware
with no Skein slot leaves the part Unconfigured with the host interfaces open, and so does a slot whose Skein every
tuple refuses, which is REJECTED; a Skein that the highest tuple accepts is applied and runs with each region at its
NOM_OP, and a retained mark takes the retained path and keeps the route table. From Rim another Skein waits for the
alarms. Ten minutes make a TRIAL Skein ACTIVE. A flash command waits for its end, which an alarm player's fetch holds
back, and which erases to 0xFF or clears bits; a wrong area is a privilege violation. Evidence is signed over the
nonce for agents 0 and 2, or answers an ATTEST_REQ. A debug nonce is fresh, and a valid token opens the port and
erases the secrets. That a program only clears bits is the model's presumption. -/
def Obligations.StartsFlashAndDebug : Prop :=
  (∀ (a : Agent) (s : State), s.reaches a Reg.TRUST_FL_CMD true = true → ∀ i : Instr, (i = .flashProgram a ∨ i = .flashErase a) →
    let erase := i == .flashErase a
    let addr := bitsOf (s.reg Reg.TRUST_FL_ADDR) 27 0
    let agent := Nat.ble a.val 2 && !s.flag Reg.TRUST_FL_STAT_BUSY
    let right := flashRight a.val addr
    let place := addr % (if erase = true then 65536 else 256) == 0 && Nat.blt addr flashSize
    (agent = false → Errs i s [] fun _ => True)
    ∧ (agent = true → right = false → Does i s (Reg.TRUST_EVT :: errRegs) [.bus, .trust] fun t => t.bus.err = true
        ∧ t.flag Reg.TRUST_EVT_PRIV_VIOL = true
        ∧ t.trust.log = s.trust.log ++ [⟨9, s.trust.logSeq, s.sys.roundNo, [a.val, addr]⟩])
    ∧ (agent = true → right = true → place = false → Errs i s [] fun _ => True)
    ∧ (agent = true → right = true → place = true → Does i s [Reg.TRUST_FL_STAT] [.bus, .trust] fun t => t.bus.err = false
        ∧ t.flag Reg.TRUST_FL_STAT_BUSY = true ∧ t.rf Reg.TRUST_FL_STAT_AGENT = a.val
        ∧ t.trust = { s.trust with flOp := some ⟨erase, addr, if erase = true then [] else s.flashBuf⟩ }))
  ∧ (∀ (good : Bool) (s : State),
    let i := Instr.flashOpDone good
    (s.trust.flOp = none → exec i s = .next s)
    ∧ (s.flashHeld = true → exec i s = .next s)
    ∧ ∀ x, s.trust.flOp = some x → s.flashHeld = false → x.addr + 65536 ≤ 0x10000000 → x.bytes.length ≤ 256 →
      let n := if x.erase = true then 65536 else 256
      Does i s [Reg.TRUST_FL_STAT] ([.trust, .mem] ++ if good then [] else [.fv]) fun t =>
        t.trust = { s.trust with flOp := none } ∧ t.flag Reg.TRUST_FL_STAT_BUSY = false
        ∧ t.flag Reg.TRUST_FL_STAT_ERR = !good
        ∧ (∀ j, ¬ (flashBase + x.addr ≤ j ∧ j < flashBase + x.addr + n) → t.byte j = s.byte j)
        ∧ (good = true → ∀ j, j < n → t.byte (flashBase + x.addr + j) =
            if x.erase = true then 0xFF#8 else x.bytes.getD j 0xFF#8 &&& s.byte (flashBase + x.addr + j)))
  ∧ ∀ s : State,
    let signed (nonce : List Byte) (t : State) : Prop := ∃ j, j < p384.n - 1 ∧
      let sig := p384.sign dikPriv (sha384 (nonce ++ s.evidence)) (j + 1)
      ∀ w, w < 128 → t.reg (Reg.TRUST_ATT_EV w) = BitVec.ofNat 32 (leAt (s.evidence ++ beBytes sig.1 48 ++ beBytes sig.2 48) (4 * w) 4)
    (∀ a : Agent, s.reaches a Reg.TRUST_ATT_CTL true = true →
      let ok := (a.val == 0 || a.val == 2) && !s.flag Reg.ALARM_CTL_BARE
      (ok = false → Errs (.attestEvidenceGo (some a)) s [] fun _ => True)
      ∧ (ok = true → Does (.attestEvidenceGo (some a)) s (Reg.TRUST_ATT_CTL :: regFile Reg.TRUST_ATT_EV 128) [.bus, .fv] fun t =>
          t.bus.err = false ∧ t.reg Reg.TRUST_ATT_CTL = 0x80000000#32 ∧ signed s.attNonce t))
    ∧ (s.link.attest = none → exec (.attestEvidenceGo none) s = .next s)
    ∧ (∀ n v, s.link.attest = some (n, v) → s.linkOn = true →
        Does (.attestEvidenceGo none) s (Reg.TRUST_EVT :: regFile Reg.TRUST_ATT_EV 128) [.fv, .link, .net, .trust] fun t =>
          t.link = { s.link with attest := none }.but t.link ∧ signed (beBytes v 32) t
          ∧ t.link.out = s.link.out ++
              [⟨0x03, n, s.link.seq, v :: (List.range 128).map fun w => (t.reg (Reg.TRUST_ATT_EV w)).toNat, s.now, 0⟩])
    ∧ (s.debugAsks = false → exec .debugNonceRequest s = .next s)
    ∧ (s.debugAsks = true → Does .debugNonceRequest s (regFile Reg.TRUST_DBG_NONCE 8) [.fv, .trust] fun t =>
        t.trust = { s.trust with nonceNew := true })
    ∧ (∀ k : List Byte,
      let i := Instr.debugTokenSubmit k
      (s.debugAsks = false → exec i s = .next s)
      ∧ (s.debugAsks = true → s.tokenOk k = false → Does i s [] [.trust] fun t => t.trust = { s.trust with nonceNew := false })
      ∧ (s.debugAsks = true → s.tokenOk k = true → Does i s (Reg.TRUST_LC ::
            (List.range 7).flatMap fun p => regsIn (Reg.NET_SEC_RXSCI_LO p 0) (Reg.NET_SEC_SA_RZ p 131 1)) [.trust] fun t =>
          t.trust = { s.trust with
            nonceNew := false, store := none, site := none, siteNext := none, anOld := none, debugged := true }
          ∧ t.flag Reg.TRUST_LC_DEBUG_OPEN = true ∧ t.flag Reg.TRUST_LC_SECRETS_ERASED = true
          ∧ t.flag Reg.TRUST_LC_STK_OK = false ∧ t.flag Reg.TRUST_LC_KEYS_OK = false ∧ t.lc = s.lc ∧ t.epoch = s.epoch
          ∧ ∀ p, p < 7 → (∀ r, Reg.NET_SEC_SA_KEY p 0 0 ≤ r → r ≤ Reg.NET_SEC_SA_RZ p 131 1 → t.reg r = regReset r)
            ∧ ∀ j, j < 32 → t.rf (Reg.NET_SEC_RXSC_CTL_SA_V p j) = 0))
    ∧ (∀ i, (s.trust.trialAt = none ∨ s.trust.run = none ∨ (s.trust.run = some i ∧ s.slotState i ≠ 4)) →
        exec .trialConfirm s = .next s)
    ∧ (∀ t0 i, s.trust.trialAt = some t0 → s.trust.run = some i → s.slotState i = 4 →
        Does .trialConfirm s [Reg.TRUST_SLOTS, Reg.TRUST_EVT, Reg.TRUST_BOOT] [.now, .trust] fun t =>
          t.now = max s.now (t0 + 600 * sec1) ∧ t.slotState i = 5 ∧ t.trust = { s.trust with trialAt := none }
          ∧ t.reg Reg.TRUST_EVT = s.raised Reg.TRUST_EVT [Reg.TRUST_EVT_ACTIVATED] ∧ t.flag Reg.TRUST_BOOT_TRIAL = false)
    ∧ ∀ b : BootIn,
      let i := Instr.upsettStart b
      let ab := s.runnable (s.bundles false)
      let ts := if ab.isEmpty then s.runnable (s.bundles true) else ab
      let firmware := if b.sfdpOk then ts else []
      let common := regsIn 0x700000 0x70FFFF ++ [Reg.REFSEL_STAT, Reg.RIM_STAT]
      let ports := if s.power.boot = some 2 then [] else regsIn 0x200000 0x26FFFF
      let up (path : Nat) (t : State) : Prop := t.power.boot = none ∧ t.power.wardenUp = true ∧ t.rf Reg.TRUST_BOOT_PATH = path
      let runs (t : State) (n : Nat) (k : SkImage) : Prop := t.trust.run = some n ∧ t.skein = (s.skRead n k).content
        ∧ t.sys.rate96 = k.rate96 ∧ t.sys.n = k.n ∧ t.rf Reg.TRUST_BOOT_SLOT = n
        ∧ t.trust.mark = some (s.skDigest n, n, (t.reg Reg.TRUST_TREL).toNat) ∧ t.flag Reg.BORDER_CTL_RUN = true
        ∧ t.flag Reg.ALARM_CTL_RUN = true ∧ t.flag Reg.PWR_STAT_DDR_SR = false
        ∧ (∀ g, g < 4 → k.region g ≠ [] → t.rf (Reg.REG_OP_OP g) = k.regionNom g)
        ∧ ∀ p ∈ [Piece.pending, .now], p.same s t
      ((s.power.boot = none ∨ s.power.rstLow = true) → exec i s = .next s)
      ∧ ∀ from_, s.power.boot = some from_ → s.power.rstLow = false →
        let path := if from_ = 2 then 2 else 0
        let cold := from_ ≠ 1 ∨ s.markMatches b = none
        let time := if from_ = 1 then [Reg.TIME_STAT, Reg.TIME_EVT, Reg.TIME_ERR] else []
        let moved := if from_ = 1 then [Piece.hoop, .sys] else []
        (cold → firmware = [] → Does i s (Reg.ALARM_CTL :: ports ++ common ++ time) ([.power, .trust, .ports] ++ moved) fun t =>
            t.power.boot = none ∧ t.flag Reg.ALARM_CTL_BARE = true ∧ t.rf Reg.TRUST_BOOT_PATH = path
            ∧ t.trust = { s.trust with comps := [], run := none, trialAt := none })
        ∧ (∀ c l, cold → firmware = c :: l → s.slotOrder = [] → s.trust.run = none →
            Does i s ([Reg.ALARM_FAULT_SW, Reg.MATRIX_HOST_CFG, Reg.ALARM_CTL] ++ ports ++ common ++ time)
                ([.power, .trust, .link, .mem, .supv, .ports] ++ moved) fun t => up path t ∧ t.flag Reg.ALARM_CTL_BARE = false
              ∧ t.flag Reg.TRUST_BOOT_UNCONF = true ∧ t.reg Reg.MATRIX_HOST_CFG = 3#32 ∧ t.bit Reg.ALARM_FAULT_SW 15 = true
              ∧ t.reg Reg.TRUST_TREL = BitVec.ofNat 32 c.1 ∧ t.trust.comps = c.2.map (·.2) ∧ t.trust.run = none
              ∧ t.link.term = s.link.term ∧ (s.isMgr = false → ∀ x, t.byte x = s.byte x))
        ∧ (∀ c l n k, cold → firmware = c :: l → s.slotOrder = [n] → s.skeinOf n = some k →
            (∀ x ∈ firmware, s.skeinReason n k (x.2.map (·.2)) false ≠ 0) →
            ∃ t, exec i s = .next t ∧ up path t ∧ t.flag Reg.TRUST_BOOT_UNCONF = true ∧ t.slotState n = 6
              ∧ t.rf Reg.TRUST_SLOTS_REASON = s.skeinReason n k (c.2.map (·.2)) false
              ∧ t.flag Reg.TRUST_EVT_SKN_REFUSED = true ∧ (s.slotState n = 4 → t.flag Reg.TRUST_EVT_TRIAL_FAIL = true))
        ∧ (∀ c l n o k, from_ = 0 → firmware = c :: l → s.slotOrder = n :: o → s.skeinOf n = some k →
            s.skeinReason n k (c.2.map (·.2)) false = 0 →
            (∀ e ∈ k.regs, ¬ (0x700000 ≤ e.1 ∧ e.1 ≤ 0x70FFFF)) →
            ∃ t, exec i s = .next t ∧ up 0 t ∧ runs t n k ∧ t.reg Reg.TRUST_TREL = BitVec.ofNat 32 c.1
              ∧ t.trust.comps = c.2.map (·.2)
              ∧ (s.slotState n = 3 → t.slotState n = 4 ∧ t.trust.trialAt = some s.now)
              ∧ (s.slotState n = 2 → t.slotState n = 5)
              ∧ (s.slotState n ≠ 3 → s.slotState n ≠ 2 → t.slotState n = s.slotState n))
        ∧ (∀ c l n o k, from_ = 2 → firmware = c :: l → s.slotOrder = n :: o → s.skeinOf n = some k →
            s.skeinReason n k (c.2.map (·.2)) false = 0 → (∀ d, s.trust.mark = some d → d.1 ≠ s.skDigest n) →
            (s.reg Reg.ALARM_TRIG_ACT0 ≠ 0#32 ∨ s.reg Reg.ALARM_TRIG_ACT1 ≠ 0#32 ∨ s.alarm.cmds ≠ []) → exec i s = .next s)
        ∧ ∀ n k, from_ = 1 → s.markMatches b = some (n, k) → (∀ e ∈ k.regs, ¬ (0x700000 ≤ e.1 ∧ e.1 ≤ 0x70FFFF)) →
            ∃ t, exec i s = .next t ∧ up 1 t ∧ runs t n k ∧ t.slotState n = s.slotState n
              ∧ t.weave.routes = s.weave.routes ∧ t.border.chans = s.border.chans

/-- A read of a free lock takes it and returns 0, of a held one returns its owner; a release by another is logged. A
send posts 15 words with the word of R464, rings the receiver and reports a collision, or is DENIED; agent 5's own
mailboxes forward a message of agents 1 and 2. A release by the receiver frees the mailbox, acknowledges it, and ends
a remote message that agent 5 had posted. 10 ms without an acknowledgement drain the waiting agent's mailboxes and
are logged, three times. A remote message is refused, answered with its STATUS, or held and posted; its outcome is
logged where it failed; 10 ms end it with TIMEOUT or BUSY. The layout of word 1 and that agent 5's own mailbox is
released at once are the model's choices. -/
def Obligations.LocksAndMailboxes : Prop :=
  (∀ (a : Agent) (n : Fin 64) (s : State),
    let peek := Reg.LOCK_PEEK n.val
    (s.reaches a (Reg.LOCK n.val) false = true →
      (s.lockOwner n.val = none → Does (.lockRead a n) s [peek] [.bus] fun t => t.bus = ⟨false, 0#32⟩
          ∧ t.lockOwner n.val = some a.val)
      ∧ ∀ o, s.lockOwner n.val = some o → Does (.lockRead a n) s [] [.bus] fun t =>
          t.bus = ⟨false, BitVec.ofNat 32 (2 ^ 31 + o)⟩)
    ∧ ∀ v : Word, s.reaches a (Reg.LOCK n.val) true = true →
      let own := s.lockOwner n.val = some a.val ∧ v.toNat = a.val
      (own → Does (.lockRelease a n v) s [peek] [.bus] fun t => t.bus.err = false ∧ t.lockOwner n.val = none)
      ∧ (¬ own → Does (.lockRelease a n v) s [Reg.LOCK_BAD, Reg.LOCK_EVT, Reg.TRUST_EVT] [.bus, .trust] fun t =>
          t.bus.err = false ∧ t.reg Reg.LOCK_BAD = BitVec.ofNat 32 (a.val * 256 + n.val)
          ∧ t.reg Reg.LOCK_EVT = s.raised Reg.LOCK_EVT [Reg.LOCK_EVT_BAD_RELEASE] ∧ t.flag Reg.TRUST_EVT_PRIV_VIOL = true
          ∧ t.trust.log = s.trust.log ++ [⟨9, s.trust.logSeq, s.sys.roundNo, [a.val, regBase + Reg.LOCK n.val]⟩]))
  ∧ (∀ (k : Fin 32) (s : State),
    let n := k.val
    let owner := mboxOwner n
    let full := s.mboxFull n
    let boxRegs := regFile Reg.MBOX_STAT 32 ++ regFile (Reg.MBOX_DATA n) 16 ++ [Reg.MBOX_DB owner, Reg.MBOX_EVT]
    let words (t : State) (a : Nat) (w : Nat → Word) : Prop :=
      t.reg (Reg.MBOX_DATA n 0) = BitVec.ofNat 32 (mget (fun _ => 0) s.matrix.sends n % 256 * 2 ^ 24
        + (if full = true then 2 ^ 23 + s.mboxSender n * 2 ^ 16 else 0) + a)
      ∧ ∀ j, j < 15 → t.reg (Reg.MBOX_DATA n (j + 1)) = w j
    let posted (t : State) (a : Nat) (w : Nat → Word) : Prop := words t a w ∧ t.mboxFull n = true ∧ t.mboxSender n = a
      ∧ t.bit (Reg.MBOX_DB owner) n = true ∧ mget (fun _ => 0) t.matrix.posted n = t.now
    let freed (t : State) : Prop := t.mboxFull n = false ∧ t.bit (Reg.MBOX_DB owner) n = false
      ∧ (s.mboxSender n < 22 → s.mboxSender n ≠ 5 → t.bit (Reg.MBOX_ACK (s.mboxSender n)) n = true)
    let send := [Piece.link, .net, .trust]
    (∀ a : Agent, s.reaches a Reg.MBOX_SEND true = true →
      let i := Instr.mboxSend a k
      let denied := owner == a.val || ((a.val == 3 || a.val == 4) && !s.bit Reg.MATRIX_HMBOX n)
      let stg (j : Nat) : Word := mget (fun _ => 0#32) s.matrix.stg (16 * a.val + j + 1)
      let stat (t : State) : Nat := mget (fun _ => 0) t.matrix.sendStat a.val
      (denied = true → Does i s [] [.matrix, .bus] fun t => t.bus.err = false ∧ stat t = 2
          ∧ t.matrix = { s.matrix with sendStat := t.matrix.sendStat })
      ∧ (denied = false → n < 28 → Does i s boxRegs [.matrix, .bus] fun t => t.bus.err = false ∧ posted t a.val stg
          ∧ stat t = (if full = true then 1 else 0) ∧ t.matrix.stg = s.matrix.stg
          ∧ (full = true → t.flag (Reg.MBOX_STAT_COLLISION n) = true ∧ t.flag Reg.MBOX_EVT_COLLISION = true)
          ∧ ∀ j, j < 32 → j ≠ n → t.mboxFull j = s.mboxFull j ∧ t.mboxSender j = s.mboxSender j)
      ∧ (denied = false → 28 ≤ n → s.box n = [] →
          Does i s ([Reg.MBOX_ACK a.val, Reg.TRUST_EVT] ++ boxRegs) ([.matrix, .bus] ++ send) fun t => t.bus.err = false
            ∧ words t a.val stg ∧ t.mboxFull n = false ∧ t.bit (Reg.MBOX_DB owner) n = false
            ∧ t.bit (Reg.MBOX_ACK a.val) n = true ∧ stat t = (if full = true then 1 else 0)
            ∧ (let on := (a.val = 1 ∨ a.val = 2) ∧ s.linkOn = true
              let dst := bitsOf (stg 0) 31 16
              let q := s.link.rseq
              let out := (s.link.boxOut ++ [(q, dst, bitsOf (stg 0) 4 0)]).drop (s.link.boxOut.length - 63)
              (¬ on → t.link = s.link)
              ∧ (on → t.link = { s.link with rseq := (q + 1) % 65536, boxOut := out }.but t.link
                  ∧ t.answered 0x30 dst ([bitsOf (stg 0) 4 0, q] ++ (List.range 14).map fun j => (stg (j + 1)).toNat)))))
    ∧ (∀ a : Agent, s.reaches a Reg.MBOX_RELEASE true = true →
      let i := Instr.mboxRelease a k
      let regs := [Reg.MBOX_STAT n, Reg.MBOX_DB owner, Reg.MBOX_ACK (s.mboxSender n)]
      ((owner ≠ a.val ∨ full = false) → Errs i s [] fun _ => True)
      ∧ (owner = a.val → full = true → s.box n = [] → Does i s regs [.bus] fun t => t.bus.err = false ∧ freed t
          ∧ (s.mboxSender n = 5 → t.bit (Reg.MBOX_ACK 5) n = true))
      ∧ (∀ m, owner = a.val → full = true → s.box n = [m] → m.posted = true → s.mboxSender n = 5 →
          Does i s (Reg.TRUST_EVT :: regs) (.bus :: send) fun t => t.bus.err = false ∧ freed t ∧ t.box n = []
            ∧ (s.linkOn = true → t.answered 0x31 m.src [m.rseq, 0]))
      ∧ (∀ m l, owner = a.val → full = true → s.box n = m :: l → m.posted = false →
          Does i s (Reg.MBOX_ACK (s.mboxSender n) :: boxRegs) [.bus, .matrix, .link] fun t => t.bus.err = false
            ∧ t.mboxFull n = true ∧ t.mboxSender n = 5 ∧ t.box n = { m with posted := true, since := s.now } :: l
            ∧ t.reg (Reg.MBOX_DATA n 1) = BitVec.ofNat 32 (m.src * 65536 + m.rseq)))
    ∧ (∀ a : Fin 3,
      let i := Instr.mboxAckTimeout a k
      let c := mget (fun _ => 0) s.matrix.waits n
      let go := full && s.mboxSender n == a.val && Nat.blt c 3
      (go = false → exec i s = .next s)
      ∧ (go = true → (∀ j, mboxOwner j = a.val → s.box j = []) →
          Does i s ([Reg.MBOX_DB a.val, Reg.TRUST_EVT] ++ regFile Reg.MBOX_STAT 32 ++ regFile Reg.MBOX_ACK 22) [.now, .matrix, .trust]
            fun t => t.now = max s.now (mget (fun _ => 0) s.matrix.posted n + (c + 1) * 10 * ms1)
              ∧ t.matrix = { s.matrix with waits := t.matrix.waits } ∧ mget (fun _ => 0) t.matrix.waits n = c + 1
              ∧ (∀ j, j < 32 → mboxOwner j = a.val → t.mboxFull j = false)
              ∧ (∀ j, j < 32 → mboxOwner j ≠ a.val → t.reg (Reg.MBOX_STAT j) = s.reg (Reg.MBOX_STAT j))
              ∧ ∃ x, t.trust.log = s.trust.log ++ [⟨1, s.trust.logSeq, s.sys.roundNo, [8, a.val, n, c + 1, x]⟩]))
    ∧ (s.box n = [] → exec (.mboxRemoteTimeout k) s = .next s)
    ∧ (∀ m l, s.box n = m :: l → (full = true ∨ l = []) →
        Does (.mboxRemoteTimeout k) s [Reg.TRUST_EVT] (.now :: send) fun t => t.now = max s.now (m.since + 10 * ms1)
          ∧ t.box n = (match l with | x :: u => { x with since := t.now } :: u | [] => [])
          ∧ (s.linkOn = true → t.answered 0x31 m.src [m.rseq, if m.posted = true then 3 else 1]))
    ∧ ∀ f : LinkFrame, HeaderFirst (.mboxRemote f) s 0x30 f ∧ HeaderFirst (.mboxRemoteAck f) s 0x31 f ∧ ∀ b : List Byte,
      let h := linkHdrOf f b
      let body := linkBodyOf b
      let src := h.src
      let tk := s.linkTaken h
      let ack := h.ack
      let mgr := match s.link.mgr with | some m => src == m | none => Nat.ble src 1
      let new (ty : Nat) : Prop := s.linkOpens ty f = some b ∧ s.linkNew ty f b = true
      (let i := Instr.mboxRemote f
        let rseq := beAt body 2 2
        let ws := (pieces 4 14 (body.drop 4)).map fun b => BitVec.ofNat 32 (beNat b)
        let adm := if s.link.active = true then (s.admOf src).isSome else s.link.own.isSome && mgr
        let status (c : Nat) : Prop := Takes i s true [] [] fun t => t.link = tk.but t.link
          ∧ ∃ q, ⟨0x31, src, q, [rseq, c], s.now, 0⟩ ∈ t.link.sent
        let shape := Nat.ble (byteAt body 0) 31 && byteAt body 1 == 0
        let ok := adm && byteAt body 0 == n && byteAt body 1 == 0
        let listed := s.skein.system.boxes.contains n
        let l := s.box n
        let held (p : Bool) : List BoxMsg := l ++ [⟨src, rseq, ws, s.now, p⟩]
        (new 0x30 → s.link.active = true → adm = false → status 4)
        ∧ (new 0x30 → s.link.active = false → s.link.own = none → TakesNak i s h true 3)
        ∧ (new 0x30 → s.link.active = false → s.link.own ≠ none → mgr = false → TakesNak i s h true 7)
        ∧ (new 0x30 → adm = true → shape = false → TakesBad i s h true 7 6 1)
        ∧ (new 0x30 → ok = true → listed = false → status 2)
        ∧ (new 0x30 → ok = true → listed = true → 17 ≤ l.length → status 1)
        ∧ (new 0x30 → ok = true → listed = true → l.length < 17 → (full = true ∨ ∃ m u, l = m :: u ∧ m.posted = true) →
            TakesQuiet i s h { tk with boxes := mset (fun _ => []) tk.boxes n (held false) })
        ∧ (new 0x30 → ok = true → listed = true → l = [] → full = false → Takes i s ack boxRegs [.matrix] fun t =>
            posted t 5 (fun j => (BitVec.ofNat 32 (src * 65536 + rseq) :: ws).getD j 0#32) ∧ t.box n = held true))
      ∧ (let i := Instr.mboxRemoteAck f
        let rseq := beAt body 0 2
        let st := byteAt body 2
        let hit (e : Nat × Nat × Nat) : Bool := e.1 == rseq && e.2.1 == src
        let rest := tk.boxOut.filter fun e => !hit e
        (new 0x31 → 4 < st → TakesBad i s h ack 7 6 1)
        ∧ (new 0x31 → st ≤ 4 → s.link.boxOut.any hit = false → TakesQuiet i s h tk)
        ∧ (new 0x31 → s.link.boxOut.any hit = true → st = 0 → TakesQuiet i s h { tk with boxOut := rest })
        ∧ (new 0x31 → s.link.boxOut.any hit = true → st ≠ 0 → st ≤ 4 → Takes i s ack [Reg.TRUST_EVT] [.trust] fun t =>
            t.link = { tk with boxOut := rest }.but t.link
            ∧ ∃ x, t.trust.log = s.trust.log ++ ⟨1, s.trust.logSeq, s.sys.roundNo, [9, rseq, src, st]⟩ :: x)))

/-- A port that is not accepted does nothing. Otherwise the first broken rule of R454 gives its error KIND: UNPOP,
NOPATH, BLOCK, ALIGN or HOST, with the port, the direction and the address recorded; a refused write of a key is a
privilege violation. An access to a sleeping domain is held and wakes it, unless the port has as many outstanding as
it may; one at its limit ends with STALL. A read returns the bytes asked for; a word written to LPDDR5X, the
directory, a coil or a HELD stake's window stands there, and the region's link counts the bytes. A register write
takes RW bits and clears W1C bits, and a write of a command's register is that command. QSPI reads drive 0x5A and the
words, or 0xE7 and zeros; a write with bytes left over sets ERR, and the status read clears it. A woken domain is
ready, and sleeps again after its idle time; of an ISOLATED cluster only the die wakes. A read corrects and counts an
error of a single bit in its word; with no error in memory it changes no register. That an access beyond the
outstanding ones is not taken is the model's choice. -/
def Obligations.FabricAccesses : Prop :=
  (∀ (p : Fin 35) (addr : Nat) (write : Bool) (size : Nat) (v : Word) (i : Instr) (s : State),
    ((∃ (x : BitVec 40) (z : Fin 3), i = .accessError p x z ∧ addr = x.toNat ∧ write = false ∧ v = 0#32 ∧ size = 2 ^ z.val)
      ∨ (∃ x : BitVec 40, i = .demandAccess p x write v ∧ addr = x.toNat / 4 * 4 ∧ size = 4)) →
    let k := p.val
    let host := k == 3 || k == 4
    let fails (kind : Nat) (pieces : List Piece) : Prop := Does i s errRegs (.bus :: pieces) fun t =>
      t.bus = ⟨true, 0#32⟩ ∧ t.rf Reg.MATRIX_ERR_INFO_KIND = kind ∧ t.rf Reg.MATRIX_ERR_INFO_PORT = k
      ∧ t.flag Reg.MATRIX_ERR_INFO_WRITE = write ∧ t.flag Reg.MATRIX_EVT_ERR = true
      ∧ t.reg Reg.MATRIX_ERR_CNT = sat32 (s.reg Reg.MATRIX_ERR_CNT) ∧ (t.reg Reg.MATRIX_ERR_ADDR_LO).toNat = addr % 2 ^ 32
    let waits (d : Nat) : Prop := (s.portFull k = true → exec i s = .next s) ∧ (s.portFull k = false → Does i s [] [.power] fun t =>
      t.power = { s.power with stalls := t.power.stalls, waking := t.power.waking }
      ∧ t.power.stalls = s.power.stalls ++ [⟨k, addr, write, size, v, s.now⟩]
      ∧ (s.power.hand = none → t.power.waking.any (fun w => w.1 == d) = true))
    let d := stallDomain addr
    let link (t : State) (to_ from_ : Nat) : Prop := (t.region (d / 4)).linkIn = (s.region (d / 4)).linkIn + to_
      ∧ (t.region (d / 4)).linkOut = (s.region (d / 4)).linkOut + from_
    let mem := match spaceOf addr with | .register _ => false | _ => true
    let word := addr / 4 * 4
    let sh := 8 * (addr % 4)
    let mask := BitVec.ofNat 32 (2 ^ (8 * size) - 1)
    (s.accepted k = false → exec i s = .next s)
    ∧ (s.accepted k = true → host = false → mem = true →
      let path := !s.bareClosed k && memPath k addr write
      (populated addr = false → fails 3 [])
      ∧ (populated addr = true → path = false → fails 1 [])
      ∧ (∀ d, populated addr = true → path = true → s.asleep addr = some d → waits d)
      ∧ (populated addr = true → path = true → s.asleep addr = none →
        (s.memOpen k addr write = false → fails 4 [.power, .compute])
        ∧ (s.memOpen k addr write = true → write = false → s.memWord word = none → fails 4 [.power, .compute])
        ∧ (∀ w, s.memOpen k addr write = true → write = false → s.memWord word = some w →
            Does i s eccRegs [.bus, .power, .ecc, .compute] fun t => t.bus = ⟨false, (w >>> sh) &&& mask⟩
              ∧ (d < 16 → link t 0 size) ∧ (16 ≤ d → t.compute = s.compute)
              ∧ (s.ecc = [] → Frame [] [.bus, .power, .compute] s t))
        ∧ (s.memOpen k addr write = true → write = true → (spaceOf addr = .lpddr ∨ spaceOf addr = .directory) →
            Does i s [] [.bus, .power, .mem, .ecc] fun t => t.bus.err = false ∧ t.word addr = v ∧ (s.ecc = [] → t.ecc = [])
              ∧ ∀ x, ¬ (addr ≤ x ∧ x < addr + 4) → t.byte x = s.byte x)
        ∧ (s.memOpen k addr write = true → write = true →
            ((∃ c, spaceOf addr = .coil c) ∨ ∃ j off, spaceOf addr = .stake j off ∧ off < 0x50000) →
            Does i s [] [.bus, .power, .mem, .ecc, .compute, .pair] fun t => t.bus.err = false ∧ t.word addr = v ∧ link t 4 0
              ∧ (s.ecc = [] → t.ecc = []) ∧ ∀ x, ¬ (addr ≤ x ∧ x < addr + 4) → t.byte x = s.byte x)))
    ∧ (∀ off, s.accepted k = true → host = false → spaceOf addr = .register off →
      let reg := off / 4 * 4
      let special := within 0x50000 0x500FF reg || within 0x41004 0x41044 reg || within 0x500104 0x500154 reg || reg == 0x10000
      let key := write && secKeyReg reg
      (∀ e, s.pathErr k reg write = some e → reg ≠ Reg.WEAVE_AGRP_SET → reg ≠ Reg.WEAVE_AGRP_CLR → (key = false ∨ k = 0) →
        fails e.code [])
      ∧ (∀ e, s.pathErr k reg write = some e → key = true → k ≠ 0 → Does i s (Reg.TRUST_EVT :: errRegs) [.bus, .trust] fun t =>
          t.bus = ⟨true, 0#32⟩ ∧ t.rf Reg.MATRIX_ERR_INFO_KIND = e.code ∧ t.flag Reg.TRUST_EVT_PRIV_VIOL = true
          ∧ t.trust.log = s.trust.log ++ [⟨9, s.trust.logSeq, s.sys.roundNo, [k, regBase + reg]⟩])
      ∧ (s.pathErr k reg write = none → (size ≠ 4 ∨ off % 4 ≠ 0) → fails 2 [])
      ∧ (s.pathErr k reg write = none → size = 4 → off % 4 = 0 → s.regAsleep reg = true → s.portFull k = false → Does i s [] [.power] fun t =>
          t.power.stalls = s.power.stalls ++ [⟨k, addr, write, 4, v, s.now⟩])
      ∧ (s.pathErr k reg write = none → size = 4 → off % 4 = 0 → s.regAsleep reg = false → write = false →
        (State.mayRead k reg = false → fails 4 [.power])
        ∧ (State.mayRead k reg = true → special = false → Does i s [] [.bus, .power] fun t => t.bus = ⟨false, s.peek reg⟩)))
    ∧ (host = true → s.accepted k = true → 0x10000 ≤ addr → within 0x10000000 0x14FFFFFF addr = false →
        Does i s (Reg.TRUST_EVT :: errRegs) [.bus, .trust] fun t => t.bus = ⟨true, 0#32⟩ ∧ t.rf Reg.MATRIX_ERR_INFO_KIND = 6
          ∧ t.flag Reg.MATRIX_EVT_HOST_DENIED = true ∧ t.flag Reg.TRUST_EVT_PRIV_VIOL = true))
  ∧ (∀ (a : Agent) (s : State), (∀ x ∈ s.power.demand, x.1 < 19) →
    let w (reg : Nat) (v : Word) := Instr.registerWrite a (BitVec.ofNat 25 reg) 2 v
    (∀ (reg : BitVec 25) (z : Fin 3) (v : Word),
      (s.accepted a.val = false → exec (.registerWrite a reg z v) s = .next s)
      ∧ (s.reaches a (reg.toNat / 4 * 4) true = true → (z ≠ 2 ∨ reg.toNat % 4 ≠ 0) → secKeyReg (reg.toNat / 4 * 4) = false →
          Does (.registerWrite a reg z v) s errRegs [.bus] fun t => t.bus.err = true ∧ t.rf Reg.MATRIX_ERR_INFO_KIND = 2))
    ∧ (∀ (n : Fin 64) (v : Word), s.reaches a (Reg.LOCK n.val) true = true →
        exec (w (Reg.LOCK n.val) v) s = exec (.lockRelease a n v) s)
    ∧ (∀ k : Fin 32, let v := BitVec.ofNat 32 k.val
        (s.reaches a Reg.MBOX_SEND true = true → exec (w Reg.MBOX_SEND v) s = exec (.mboxSend a k) s)
        ∧ (s.reaches a Reg.MBOX_RELEASE true = true → exec (w Reg.MBOX_RELEASE v) s = exec (.mboxRelease a k) s))
    ∧ (s.reaches a Reg.TRUST_FL_CMD true = true → exec (w Reg.TRUST_FL_CMD 1#32) s = exec (.flashProgram a) s
        ∧ exec (w Reg.TRUST_FL_CMD 2#32) s = exec (.flashErase a) s)
    ∧ (∀ (j : Fin 15) (v : Word), s.reaches a (Reg.MBOX_STG j.val) true = true →
        Does (w (Reg.MBOX_STG j.val) v) s [] [.bus, .matrix] fun t => t.bus.err = false
          ∧ t.matrix = { s.matrix with stg := t.matrix.stg }
          ∧ ∀ x, mget (fun _ => 0#32) t.matrix.stg x =
              if x = 16 * a.val + j.val + 1 then v else mget (fun _ => 0#32) s.matrix.stg x)
    ∧ ∀ v : Word, a.val ≤ 1 → s.reaches a Reg.TRUST_EVT true = true →
        Does (w Reg.TRUST_EVT v) s [Reg.TRUST_EVT] [.bus] (fun t => t.bus.err = false
          ∧ t.reg Reg.TRUST_EVT = s.reg Reg.TRUST_EVT &&& ~~~(v &&& 0x7F#32))
        ∧ Does (w Reg.TRUST_IRQ_EN v) s [Reg.TRUST_IRQ_EN] [.bus] fun t => t.bus.err = false
          ∧ t.reg Reg.TRUST_IRQ_EN = (s.reg Reg.TRUST_IRQ_EN &&& ~~~0x7F#32) ||| (v &&& 0x7F#32))
  ∧ (∀ (addr : Word) (s : State),
    let n := addr.toNat
    (∀ len : BitVec 12, ∀ i ∈ [Instr.qspiRead addr len, .qspiQuadRead addr len],
      let words := (len.toNat + 3) / 4
      let drives (t : State) (l : List Byte) : Prop := t.matrix = { s.matrix with qspiOut := l }
      ((s.accepted 4 = false ∨ words = 0) → Does i s [] [.matrix] fun t => drives t [])
      ∧ (s.accepted 4 = true → words ≠ 0 → n = 0x100 + n % 0x40 → n % 4 = 0 → n % 0x40 + 4 * words ≤ 0x40 →
          Does i s [] [.matrix, .bus] fun t => drives t (0x5A#8 :: ((List.range words).map fun j =>
            leBytes (s.peek (mirrorRegs.getD (n % 0x40 / 4 + j) 0)).toNat 4).flatten))
      ∧ (s.accepted 4 = true → words = 1 → n % 4 ≠ 0 → Does i s (Reg.TRUST_EVT :: errRegs) [.matrix, .bus, .trust] fun t =>
          drives t [0xE7#8, 0#8, 0#8, 0#8, 0#8] ∧ t.rf Reg.MATRIX_ERR_INFO_KIND = 6))
    ∧ ∀ l : List Byte, ∀ i ∈ [Instr.qspiWrite addr l, .qspiQuadWrite addr l],
      (s.accepted 4 = false → exec i s = .next s)
      ∧ (s.accepted 4 = true → (l.length % 4 ≠ 0 ∨ 64 < n % 64 + l.length) → ∃ t, exec i s = .next t ∧ t.matrix.qspiErr = true)
      ∧ (s.accepted 4 = true → s.flag Reg.ALARM_CTL_BARE = false → l.length = 4 → n = 0x2000 + n % 0x40 → n % 4 = 0 → n % 0x40 ≠ 0 →
          Does i s [] [.matrix, .bus, .power] fun t => t.bus.err = false ∧ t.matrix = { s.matrix with stg := t.matrix.stg }
            ∧ mget (fun _ => 0#32) t.matrix.stg (64 + n % 0x40 / 4) = BitVec.ofNat 32 (leNat l)))
  ∧ ∀ s : State,
    (let b (x : Bool) (n : Nat) : Nat := if x = true then 2 ^ n else 0
      let busy := s.power.stalls.any (fun x => x.agent == 4 && x.write)
      let v := (2 ^ 7 + b s.qspiIrq 2 + b s.matrix.qspiErr 1 + b busy 0)
      Does .qspiStatus s [] [.matrix] fun t =>
        (s.accepted 4 = false → t.matrix = { s.matrix with qspiOut := [] })
        ∧ (s.accepted 4 = true → t.matrix = { s.matrix with qspiErr := false, qspiOut := [BitVec.ofNat 8 v] }))
    ∧ (s.power.stalls = [] → exec .stallLimit s = .next s)
    ∧ (∀ x l, s.power.stalls = x :: l →
      let when_ (t : State) : Prop := t.now = max s.now (x.since + s.stallLimit x) ∧ t.power = { s.power with stalls := l }
      (x.size = 0 → Does .stallLimit s [] [.now, .power] when_)
      ∧ (x.size ≠ 0 → x.agent < 35 → Does .stallLimit s (Reg.PWR_EVT :: errRegs) ([.now, .power, .bus] ++ if x.agent = 4 then [.matrix] else [])
          fun t => when_ t ∧ t.bus = ⟨true, 0#32⟩ ∧ t.rf Reg.MATRIX_ERR_INFO_KIND = 5 ∧ t.rf Reg.MATRIX_ERR_INFO_PORT = x.agent
            ∧ t.flag Reg.MATRIX_EVT_STALL = true ∧ t.flag Reg.PWR_EVT_STALL_ERR = true
            ∧ (x.agent = 4 → x.write = true → t.matrix = { s.matrix with qspiErr := true })))
    ∧ ∀ d : Fin 19,
      let n := d.val
      ((∀ w ∈ s.power.waking, w.1 ≠ n) → exec (.demandWakeDone d) s = .next s)
      ∧ ((∀ w ∈ s.power.demand, w.1 ≠ n) → exec (.demandIdleGate d) s = .next s)
      ∧ (∀ w, (s.power.waking.find? fun w => w.1 == n) = some w →
        let at_ := max s.now (w.2 + s.wakeTime n)
        ((16 ≤ n ∧ n < 18) ∨ (n < 16 ∧ (s.cluster n).loading = true) → exec (.demandWakeDone d) s = .next s)
        ∧ (n < 16 → (s.cluster n).loading = false → s.clState n = clIsolated →
            (∀ x ∈ s.power.stalls, stallDomain x.addr = n → x.addr < regBase) →
            Does (.demandWakeDone d) s [Reg.PWR_STAT] [.now, .power] fun t => t.now = at_
              ∧ t.flag (if n < 8 then Reg.PWR_STAT_CD0 else Reg.PWR_STAT_CD1) = true ∧ t.bit Reg.PWR_STAT n = s.bit Reg.PWR_STAT n
              ∧ t.power = { s.power with waking := s.power.waking.filter (fun x => x.1 != n) })
        ∧ (n < 16 → (s.cluster n).loading = false → s.clState n ≠ clIsolated → (∀ x ∈ s.power.stalls, stallDomain x.addr ≠ n) →
            Does (.demandWakeDone d) s [Reg.PWR_STAT, Reg.CL_STAT n] [.now, .power] fun t => t.now = at_
              ∧ t.bit Reg.PWR_STAT n = true ∧ t.flag (if n < 8 then Reg.PWR_STAT_CD0 else Reg.PWR_STAT_CD1) = true
              ∧ (s.bit Reg.PWR_STAT n = false → t.clState n = clLoading)
              ∧ t.power.waking = s.power.waking.filter (fun x => x.1 != n) ∧ (n, t.now) ∈ t.power.demand
              ∧ t.power.stalls = s.power.stalls)
        ∧ (n = 18 → (∀ p, p < 6 → (s.np p).fifo = [] ∧ s.txSpan p (bitsOf (s.reg (Reg.NET_TXR_HEAD p)) 7 0) (s.txGiven p) = none) →
            (∀ x ∈ s.power.stalls, stallDomain x.addr ≠ n) →
            Does (.demandWakeDone d) s (Reg.PWR_STAT :: errRegs) [.now, .power, .net] fun t => t.now = at_
              ∧ t.flag Reg.PWR_STAT_DDR_SR = false ∧ t.power.waking = s.power.waking.filter (fun x => x.1 != n)
              ∧ (n, t.now) ∈ t.power.demand ∧ ∀ p, t.np p = s.np p))
      ∧ ∀ w, (s.power.demand.find? fun w => w.1 == n) = some w →
        let rest := s.power.demand.filter fun x => x.1 != n
        let at_ := max s.now (w.2 + bitsOf (s.reg Reg.PWR_IDLE) 15 0 * ms1)
        (16 ≤ n → Does (.demandIdleGate d) s [Reg.PWR_STAT] [.now, .power] fun t => t.now = at_
            ∧ t.power = { s.power with demand := rest } ∧ (rest = [] → t.flag Reg.PWR_STAT_DEMAND = false)
            ∧ (n = 18 → s.pstate = pWatch → t.flag Reg.PWR_STAT_DDR_SR = true))
        ∧ (n < 16 → Does (.demandIdleGate d) s (Reg.PWR_STAT :: Reg.CL_STAT n :: portRegs (6 + n))
              [.now, .power, .compute, .mem, .ecc] fun t => t.now = at_ ∧ t.power.demand = rest
            ∧ t.bit Reg.PWR_STAT n = false ∧ (s.clState n ≠ clIsolated → t.clState n = clOff)
            ∧ (rest = [] → t.flag Reg.PWR_STAT_DEMAND = false))

/-- A reading of a powered temperature sensor shows the value and the largest one, and a hub sensor at 115 °C sets
HUB_TRIP and holds since when the hub is cool; an unpowered sensor reads stale. A cluster sensor's reading shows its
region's TMAX and holds the thresholds' times; CRIT, newly reached, is logged, masks the region under policy 1 and is
kept as the reason for Watch under policy 2. A monitor's and a canary's reading ages its cell. The end-of-life update
shows the least figure of the sources. SUPPLY, EM_OPEN and the end-of-life events are set when their condition
begins. The score is 255 less the penalties. With the hub off nothing changes. Everything else is kept. -/
def Obligations.HealthMonitors : Prop :=
  ∀ s : State,
    (∀ (i : Fin 20) (c : BitVec 8),
      let n := i.val
      let old := s.reg (Reg.HEALTH_TEMP n)
      let top := if old = 0#32 then c.toInt else max c.toInt (sext 8 (bitsOf old 15 8))
      let shown := BitVec.ofNat 32 (2 ^ 31 + (top % 256).toNat * 256 + c.toNat)
      (s.hubUp = false → exec (.tempSensorUpdate i c) s = .next s)
      ∧ (s.hubUp = true → s.sensorOn n = false → Does (.tempSensorUpdate i c) s [Reg.HEALTH_TEMP n] [] fun t =>
          t.flag (Reg.HEALTH_TEMP_VALID n) = false ∧ t.rf (Reg.HEALTH_TEMP_NOW n) = s.rf (Reg.HEALTH_TEMP_NOW n))
      ∧ (s.sensorOn n = true → 16 ≤ n →
          Does (.tempSensorUpdate i c) s [Reg.HEALTH_TEMP n, Reg.HEALTH_EVT, Reg.ALARM_FAULT_SW] [.power] fun t =>
            t.reg (Reg.HEALTH_TEMP n) = shown
            ∧ (s.power.hubHot = none → t.power = s.power)
            ∧ (∀ r, s.power.hubHot = some r →
                let cold := (List.range' 16 4).all fun j =>
                  t.flag (Reg.HEALTH_TEMP_VALID j) && decide (t.temp j < sext 8 (s.rf (Reg.REG_THR_TH_LO r)))
                t.power = { s.power with hubCool := if cold then some (s.power.hubCool.getD s.now) else none })
            ∧ t.flag Reg.HEALTH_EVT_HUB_TRIP = (s.flag Reg.HEALTH_EVT_HUB_TRIP || decide (115 ≤ c.toInt)))
      ∧ (s.sensorOn n = true → n < 16 →
          let r := n / 4
          (s.flag (Reg.REG_EVT_CRIT r) = true ∨ s.skein.system.thermal = 0 ∨ s.flag Reg.PWR_STAT_BUSY = true) →
          Does (.tempSensorUpdate i c) s [Reg.HEALTH_TEMP n, Reg.REG_TEMP r, Reg.REG_EVT r, Reg.TRUST_EVT, Reg.PWR_TRIM_MASK]
            [.power, .compute, .trust] fun t =>
            let new := !s.flag (Reg.REG_EVT_CRIT r) && t.flag (Reg.REG_EVT_CRIT r)
            (t.trust.logSeq = s.trust.logSeq + if new = true then 1 else 0)
            ∧ (∀ b, b < 32 → t.bit Reg.PWR_TRIM_MASK b
                = (s.bit Reg.PWR_TRIM_MASK b || (new && s.skein.system.thermal == 1 && b / 4 == r)))
            ∧ (new = true → s.skein.system.thermal = 1 → t.power.hotRegions.contains r = true)
            ∧ (new = true → s.skein.system.thermal = 2 → t.power.hubHot = some r ∧ t.power.hubCool = none)
            ∧ ((new = false ∨ s.skein.system.thermal ≠ 2) → t.power.hubHot = s.power.hubHot)
            ∧ t.reg (Reg.HEALTH_TEMP n) = shown ∧ sext 8 (t.rf (Reg.REG_TEMP_TMAX r)) = t.tmax r
            ∧ ((t.region r).hot = if sext 8 (s.rf (Reg.REG_THR_TH_HI r)) ≤ t.tmax r
                then some ((s.region r).hot.getD s.now) else none)
            ∧ ((t.region r).cool = if t.tmax r ≤ sext 8 (s.rf (Reg.REG_THR_TH_LO r))
                then some ((s.region r).cool.getD s.now) else none)
            ∧ (t.region r).pend = (s.region r).pend ∧ (∀ j, j ≠ r → t.region j = s.region j)
            ∧ t.flag (Reg.REG_EVT_CRIT r)
                = (s.flag (Reg.REG_EVT_CRIT r) || decide (sext 8 (s.rf (Reg.REG_THR_TH_CRIT r)) ≤ t.tmax r))))
    ∧ (∀ (i : Fin 8) (mv : BitVec 16),
      let a := Reg.HEALTH_SUPPLY i.val
      let was := bitAt (s.reg a) 31 && !railRange i.val (bitsOf (s.reg a) 15 0)
      (s.hubUp = false → exec (.supplyMonitorUpdate i mv) s = .next s)
      ∧ (s.hubUp = true → i.val < 2 → s.dieOn i.val = false → Does (.supplyMonitorUpdate i mv) s [a] [] fun t =>
          t.reg a = setBits (s.reg a) 31 31 0)
      ∧ (s.hubUp = true → ¬(i.val < 2 ∧ s.dieOn i.val = false) →
        Does (.supplyMonitorUpdate i mv) s [a, Reg.HEALTH_EVT, Reg.ALARM_FAULT_SW] [] fun t =>
          t.reg a = BitVec.ofNat 32 (2 ^ 31 + mv.toNat)
          ∧ t.flag Reg.HEALTH_EVT_SUPPLY = (s.flag Reg.HEALTH_EVT_SUPPLY || (!railRange i.val mv.toNat && !was))))
    ∧ (∀ (j : Fin 24) (count : BitVec 20),
      let on := Nat.ble 16 j.val || (s.dieOn (j.val / 8) && s.bit Reg.PWR_STAT j.val)
      (s.hubUp = false → exec (.roMonitorUpdate j count) s = .next s)
      ∧ (s.hubUp = true → Does (.roMonitorUpdate j count) s [Reg.HEALTH_RO j.val] [.power] fun t =>
          t.power = { s.power with life := t.power.life }
          ∧ (t.age j.val).last = (if on = true then some s.now else none)
          ∧ ((s.age j.val).last = none → (t.age j.val).teq = (s.age j.val).teq)
          ∧ (∀ x, (s.age j.val).last = some x → (t.age j.val).teq =
              if s.flag (Reg.HEALTH_TEMP_VALID (ageSensor j.val))
              then ((s.age j.val).add j.val (s.temp (ageSensor j.val)) (s.now - x)).teq else (s.age j.val).teq)
          ∧ (on = true → t.reg (Reg.HEALTH_RO j.val) = BitVec.ofNat 32 (2 ^ 31 + count.toNat))
          ∧ (on = false → t.bit (Reg.HEALTH_RO j.val) 31 = false)))
    ∧ (s.hubUp = false → (∀ w : Word, exec (.emCanaryUpdate w) s = .next s)
        ∧ exec .eolUpdate s = .next s ∧ exec .healthScoreUpdate s = .next s)
    ∧ (∀ open_ : Word, s.hubUp = true →
      Does (.emCanaryUpdate open_) s [Reg.HEALTH_EM, Reg.HEALTH_EVT, Reg.ALARM_FAULT_SW] [.power] fun t =>
        t.reg Reg.HEALTH_EM = open_
        ∧ t.power = { s.power with life := t.power.life }
        ∧ (∀ k, k < 32 → (t.age (canary k)).opened =
            if bitAt open_ k && (s.age (canary k)).opened.isNone then some (t.age (canary k)).teq
            else (s.age (canary k)).opened)
        ∧ t.flag Reg.HEALTH_EVT_EM_OPEN = (s.flag Reg.HEALTH_EVT_EM_OPEN || (open_ &&& ~~~s.reg Reg.HEALTH_EM) != 0#32))
    ∧ (s.hubUp = true → s.power.wardenUp = true →
      let u := s.lifeSample
      let l := u.eolSources
      let lo := eolMin (·.lo) l
      Does .eolUpdate s [Reg.HEALTH_EOL_NOW, Reg.HEALTH_EOL_105, Reg.HEALTH_EOL_LO, Reg.HEALTH_EOL_HI,
          Reg.HEALTH_EOL_SRC, Reg.HEALTH_TEQ, Reg.HEALTH_EVT, Reg.ALARM_FAULT_SW, Reg.TRUST_EVT] [.trust, .power] fun t =>
        t.power = u.power
        ∧ t.reg Reg.HEALTH_EOL_NOW = BitVec.ofNat 32 (eolMin (·.now) l)
        ∧ t.reg Reg.HEALTH_EOL_105 = BitVec.ofNat 32 (eolMin (·.at105) l)
        ∧ t.reg Reg.HEALTH_EOL_LO = BitVec.ofNat 32 lo ∧ t.reg Reg.HEALTH_EOL_HI = BitVec.ofNat 32 (eolMin (·.hi) l)
        ∧ t.reg Reg.HEALTH_TEQ = BitVec.ofNat 32 u.teqMax
        ∧ (∀ x, (l.find? fun x => x.lo == lo) = some x → t.reg Reg.HEALTH_EOL_SRC = BitVec.ofNat 32 (x.kind * 256 + x.index))
        ∧ t.flag Reg.HEALTH_EVT_EOL_5Y = (s.flag Reg.HEALTH_EVT_EOL_5Y
            || (decide (43800 ≤ (s.reg Reg.HEALTH_EOL_LO).toNat) && decide (lo < 43800)))
        ∧ t.flag Reg.HEALTH_EVT_EOL_1Y = (s.flag Reg.HEALTH_EVT_EOL_1Y
            || (decide (8760 ≤ (s.reg Reg.HEALTH_EOL_LO).toNat) && decide (lo < 8760))))
    ∧ (s.hubUp = true → s.power.wardenUp = true → Does .healthScoreUpdate s [Reg.PAIR_HEALTH] [] fun t =>
        t.rf Reg.PAIR_HEALTH_SCORE = 255 - s.penalties)

/-- CD_TRIP of a powered sensor that has been hot for 1 ms masks and powers off the four clusters of its region and
sets CD_TRIP and THERM; with no hot sensor nothing changes. THERMAL_UNGATE of a gated region, cool for 60 s, clears
its mask bits; of the region that put the machine into Watch, with the hub cool for 60 s, it goes back to Run, or to
Trim under a mask. Other clusters' stakes and everything else are kept. -/
def Obligations.ThermalGating : Prop :=
  (∀ (i : Fin 16) (x : Nat) (s : State), s.sensorOn i.val = true →
    s.power.hotAt.find? (fun e => e.1 == i.val) = some (i.val, x) →
    let r := i.val / 4
    Does (.cdTrip i) s ([Reg.PWR_TRIM_MASK, Reg.PWR_STAT, Reg.PWR_EVT, Reg.HEALTH_EVT, Reg.ALARM_FAULT_SW]
        ++ regFile Reg.CL_STAT 16 ++ (List.range 4).flatMap fun j => portRegs (6 + 4 * r + j))
      [.now, .power, .compute, .mem, .ecc] fun t =>
      t.now = max s.now (x + ms1) ∧ t.flag Reg.HEALTH_EVT_CD_TRIP = true ∧ t.flag Reg.PWR_EVT_THERM = true
      ∧ (∀ c, c < 16 → t.bit Reg.PWR_TRIM_MASK c = (s.bit Reg.PWR_TRIM_MASK c || c / 4 == r))
      ∧ (∀ c, c < 16 → c / 4 = r → t.bit Reg.PWR_STAT c = false
          ∧ t.clState c = if s.clState c = clIsolated then clIsolated else clOff)
      ∧ (∀ k, k / 32 = r → (t.stake k).run = .held ∧ (t.stake k).arch = Arch.reset)
      ∧ (∀ k, k / 32 ≠ r → t.stake k = s.stake k) ∧ ∀ c, c < 16 → c / 4 ≠ r → t.clState c = s.clState c)
  ∧ (∀ (i : Fin 16) (s : State), s.power.hotAt.find? (fun e => e.1 == i.val) = none → exec (.cdTrip i) s = .next s)
  ∧ (∀ (r : Fin 4) (x : Nat) (s : State), s.power.hubHot = some r.val → s.power.hubCool = some x →
    (s.flag Reg.PWR_STAT_BUSY = true → Does (.thermalUngate r) s [] [.now, .power] fun t =>
      t.now = max s.now (x + 60 * sec1) ∧ t.power = { s.power with hubHot := none, hubCool := none })
    ∧ (s.flag Reg.PWR_STAT_BUSY = false → s.pstate = pWatch → s.power.retry = none →
      ∃ t, exec (.thermalUngate r) s = .next t ∧ t.now = max s.now (x + 60 * sec1) ∧ t.power.hubHot = none
        ∧ t.pstate = (if s.reg Reg.PWR_TRIM_MASK = 0#32 then pRun else pTrim) ∧ t.flag Reg.PWR_EVT_WAKE = true))
  ∧ ∀ (r : Fin 4) (x : Nat) (s : State), (s.region r.val).cool = some x → s.power.hotRegions.contains r.val = true →
    (s.power.hubHot ≠ some r.val ∨ s.power.hubCool = none) →
    (∀ c ∈ s.skClusters, c < 16) → Does (.thermalUngate r) s (Reg.PWR_TRIM_MASK :: regFile Reg.CL_STAT 16) [.now, .power, .compute] fun t =>
      t.now = max s.now (x + 60 * sec1) ∧ t.power.hotRegions.contains r.val = false
      ∧ (∀ c, c < 32 → t.bit Reg.PWR_TRIM_MASK c = (s.bit Reg.PWR_TRIM_MASK c && !(c / 4 == r.val)))
      ∧ t.compute.stakes = s.compute.stakes

/-- A GO for a target by agent 0 that reaches PWR_CTL, not busy and with no retry pending: a target already held (but
Trim) changes only TARGET; from Run or Trim to a lower state with clusters to gate, and the oscillator running, the
handshake waits for the boundary with BUSY set and those clusters marked; with none to gate the first participant is
asked at once; from Watch to Run or Trim the state is entered with WAKE set. Trim to Run with no work waiting enters
Run at once. While a retry of the same target is pending, only TARGET is written. A busy controller answers with an
error response and changes nothing. -/
def Obligations.PowerRequests : Prop :=
  ∀ (i : Instr) (target : Nat) (s : State),
    (i, target) ∈ [(Instr.pwrGoRun 0, pRun), (.pwrGoTrim 0, pTrim), (.pwrGoWatch 0, pWatch), (.pwrGoRim 0, pRim)] →
    s.reaches 0 Reg.PWR_CTL true = true →
    (s.flag Reg.PWR_STAT_BUSY = true → Errs i s [] fun _ => True)
    ∧ (∀ h, s.flag Reg.PWR_STAT_BUSY = false → s.power.retry = some h → h.target = target →
        Does i s [Reg.PWR_CTL] [.bus] fun t => t.bus.err = false ∧ t.rf Reg.PWR_CTL_TARGET = target)
    ∧ (s.flag Reg.PWR_STAT_BUSY = false → s.power.retry = none →
      (s.pstate = target → target ≠ pTrim → Does i s [Reg.PWR_CTL] [.bus] fun t => t.bus.err = false
        ∧ t.rf Reg.PWR_CTL_TARGET = target)
      ∧ (s.pstate ≤ pTrim → pTrim ≤ target → (s.pstate ≠ target ∨ s.gateSet pTrim ≠ 0) →
          Does i s [Reg.PWR_CTL, Reg.PWR_STAT] [.power, .compute, .bus] fun t => t.bus.err = false
            ∧ t.rf Reg.PWR_CTL_TARGET = target ∧ t.pstate = s.pstate ∧ t.flag Reg.PWR_STAT_BUSY = true
            ∧ (s.gateSet target ≠ 0 → s.alarm.xoLost = false →
                t.power = { s.power with hand := some ⟨target, s.pstate, s.gateSet target, [], none, s.now, [], false⟩ }
                ∧ t.compute.stakes = s.compute.stakes
                ∧ ∀ c, c < 16 → t.cluster c = { s.cluster c with
                    gated := (s.cluster c).gated || (s.gateSet target).testBit c })
            ∧ ((s.gateSet target = 0 ∨ s.alarm.xoLost = true) →
                let first := if target = pRim then 1 else 6
                t.power = { s.power with
                  hand := some ⟨target, s.pstate, s.gateSet target, [], some first, s.now, [], false⟩ }
                ∧ t.compute = s.compute ∧ t.rf Reg.PWR_STAT_ASKED = first))
      ∧ (s.pstate = pTrim → target = pRun → s.power.waiting = none → (∀ c ∈ s.skClusters, c < 16) →
          Does i s ([Reg.PWR_CTL, Reg.PWR_STAT, Reg.PWR_EVT, Reg.PWR_BACKOFF, Reg.PWR_REFUSE] ++ regFile Reg.CL_STAT 16)
            [.power, .compute, .bus] fun t => t.bus.err = false ∧ t.pstate = pRun ∧ t.power.hand = none
            ∧ t.flag Reg.PWR_EVT_ENTERED = true ∧ t.flag Reg.PWR_STAT_BUSY = false
            ∧ t.compute.stakes = s.compute.stakes)
      ∧ (s.pstate = pWatch → target ≤ pTrim → (∀ p, p < 6 → (s.np p).fifo = []) →
          ∃ t, exec i s = .next t ∧ t.bus.err = false ∧ t.pstate = target ∧ t.flag Reg.PWR_EVT_WAKE = true
            ∧ t.flag Reg.PWR_STAT_DDR_SR = false ∧ t.compute.stakes = s.compute.stakes))

/-- A participant that the state gives no reason and that has no other work accepts, and the next one is asked. One
that refuses, or is silent for 3 µs, ends the handshake: REFUSE names it and its reason, REFUSED is set, the backoff
doubles to at most 1,000 ms, the clusters' marks go and a retry is pending, and a power cycle that waited for its end
is driven. When the last accepts an entry to Trim, Run or Watch, the state is entered. The backoff's end starts the
handshake again. With nothing asked or pending nothing changes. -/
def Obligations.HandshakeAnswers : Prop :=
  (∀ (busy : Bool) (s : State), s.power.hand = none → exec (.participantAnswer busy) s = .next s
    ∧ exec .participantTimeout s = .next s)
  ∧ (∀ (busy : Bool) (h : Hand) (p q : Nat) (s : State), s.power.hand = some h → h.asked = some p →
    s.now ≤ h.at_ + 3 * us1 → s.refusal h p = 0 → busy = false →
    (participants h.target h.prior).find? (fun x => !(h.accepted ++ [p]).contains x) = some q →
    Does (.participantAnswer busy) s [Reg.PWR_STAT] [.power] fun t =>
      t.power = { s.power with hand := some { h with accepted := h.accepted ++ [p], asked := some q, at_ := s.now } }
      ∧ t.rf Reg.PWR_STAT_ASKED = q % 16 ∧ t.pstate = s.pstate)
  ∧ (∀ (busy : Bool) (h : Hand) (p : Nat) (i : Instr) (s : State), s.power.hand = some h → h.asked = some p → p < 16 →
    s.power.waiting = none →
    (i = .participantTimeout ∨ (i = .participantAnswer busy ∧ (h.at_ + 3 * us1 < s.now ∨ s.refusal h p ≠ 0 ∨ busy = true))) →
    Does i s [Reg.PWR_STAT, Reg.PWR_REFUSE, Reg.PWR_EVT, Reg.PWR_BACKOFF] [.now, .power, .compute] fun t =>
      t.power.hand = none ∧ t.flag Reg.PWR_STAT_BUSY = false ∧ t.flag Reg.PWR_STAT_RETRY = true ∧ t.pstate = s.pstate
      ∧ t.flag Reg.PWR_EVT_REFUSED = true ∧ t.flag Reg.PWR_REFUSE_VALID = true ∧ t.rf Reg.PWR_REFUSE_BLOCK = p
      ∧ t.rf Reg.PWR_REFUSE_COUNT = min (s.rf Reg.PWR_REFUSE_COUNT + 1) 65535
      ∧ (t.reg Reg.PWR_BACKOFF).toNat = min 1000 (2 ^ (min (t.rf Reg.PWR_REFUSE_COUNT) 11 - 1))
      ∧ (i = .participantTimeout → t.rf Reg.PWR_REFUSE_REASON = 2 ∧ t.now = max s.now (h.at_ + 3 * us1))
      ∧ (i ≠ .participantTimeout → s.now ≤ h.at_ + 3 * us1 → s.refusal h p ≠ 0 →
          t.rf Reg.PWR_REFUSE_REASON = s.refusal h p)
      ∧ (∀ c, c < 16 → h.gate.testBit c = true → (t.cluster c).gated = false) ∧ t.compute.stakes = s.compute.stakes
      ∧ (t.power.retry.map (·.target)) = some h.target)
  ∧ (∀ (h : Hand) (p : Nat) (s : State), s.power.hand = some h → h.asked = some p → p < 16 → s.power.waiting = some 6 →
    Does .participantTimeout s [Reg.PWR_STAT, Reg.PWR_REFUSE, Reg.PWR_EVT, Reg.PWR_BACKOFF, Reg.PWR_RECOV]
      [.now, .power, .compute] fun t => t.power.hand = none ∧ t.power.waiting = none
      ∧ t.flag Reg.PWR_RECOV_BUSY = false ∧ t.power.pcycEnd = some (t.now + (s.reg Reg.PWR_PCYC).toNat * ms1))
  ∧ (∀ (h : Hand) (p : Nat) (s : State), s.power.hand = some h → h.asked = some p → s.now ≤ h.at_ + 3 * us1 →
    s.refusal h p = 0 → s.power.waiting = none → h.target ≤ pWatch → (∀ c ∈ s.skClusters, c < 16) →
    (participants h.target h.prior).find? (fun x => !(h.accepted ++ [p]).contains x) = none →
    ∃ t, exec (.participantAnswer false) s = .next t ∧ t.pstate = h.target ∧ t.power.hand = none
      ∧ t.flag Reg.PWR_EVT_ENTERED = true ∧ t.flag Reg.PWR_STAT_BUSY = false
      ∧ (h.target = pWatch → t.flag Reg.PWR_STAT_CD0 = false ∧ t.flag Reg.PWR_STAT_CD1 = false
          ∧ t.flag Reg.PWR_STAT_DDR_SR = true ∧ ∀ k, k < 128 → (t.stake k).run = .held)
      ∧ (∀ a, a ∉ [Reg.PWR_STAT, Reg.PWR_EVT, Reg.PWR_BACKOFF, Reg.PWR_REFUSE] ++ regFile Reg.CL_STAT 16
            ++ (List.range 32).flatMap portRegs → t.reg a = s.reg a)
      ∧ ∀ p ∈ [Piece.pending, .now, .weave, .border, .sys, .net, .streams, .trust, .hoop, .alarm, .link], p.same s t)
  ∧ (∀ s : State, s.power.retry = none → exec .handshakeBackoffEnd s = .next s)
  ∧ ∀ (h : Hand) (s : State), s.power.retry = some h → s.power.hand = none → pTrim ≤ h.target → h.target ≤ pRim →
    Does .handshakeBackoffEnd s [Reg.PWR_STAT] [.now, .power, .compute] fun t =>
      t.now = max s.now (h.at_ + (s.reg Reg.PWR_BACKOFF).toNat * ms1) ∧ t.power.retry = none
      ∧ (t.power.hand.map (·.target)) = some h.target ∧ t.flag Reg.PWR_STAT_BUSY = true
      ∧ t.flag Reg.PWR_STAT_RETRY = false ∧ t.pstate = s.pstate

/-- RTC_ALARM and WAKE_N_ASSERT latch their source in Rim where it is enabled and begin the hub's wake once. A frame
that the wake filter takes is held, or counted as dropped once four are. HUB_READY, 550 µs after the wake began,
enters Watch with Upsett due. A domain's power-up ends 35 or 400 µs after it began. A sweep ends after its estimates.
A read of RIM_RTC_LO latches the high half. The RTC crystal's failure moves to the backup. Everything else is kept. -/
def Obligations.WakeEvents : Prop :=
  (∀ (i : Instr) (src : Nat) (s : State), (i, src) ∈ [(Instr.rtcAlarm, 3), (.wakeNAssert, 4)] →
    (i = .rtcAlarm → s.flag Reg.RIM_RTC_ALM_HI_EN = true) → s.pstate = pRim →
    let latched (t : State) := t.reg Reg.RIM_WAKE_LATCH = setBits (s.reg Reg.RIM_WAKE_LATCH) src src 1
    (s.bit Reg.RIM_WAKE_EN src = true → s.power.hubWake = none →
      Does i s [Reg.RIM_WAKE_LATCH, Reg.RIM_WAKE_CNT] [.now, .power] fun t => latched t
        ∧ t.power = { s.power with hubWake := some t.now } ∧ s.now ≤ t.now
        ∧ t.rf Reg.RIM_WAKE_CNT_WAKES = min 65535 (s.rf Reg.RIM_WAKE_CNT_WAKES + 1))
    ∧ (s.bit Reg.RIM_WAKE_EN src = true → s.power.hubWake.isSome = true →
      Does i s [Reg.RIM_WAKE_LATCH] [.now] fun t => latched t)
    ∧ (s.bit Reg.RIM_WAKE_EN src = false → Does i s [] [.now] fun t => s.now ≤ t.now))
  ∧ (∀ (f : NetFrame) (s : State), s.pstate = pRim → s.power.rstLow = false →
    s.flag Reg.RIM_WF_CFG_EN = true → s.flag Reg.RIM_STAT_WF_LINK = true → s.bit Reg.RIM_WAKE_EN 2 = true →
    (s.wakeFrameOk f = false → exec (.wakeFilterFrame f) s = .next s)
    ∧ (s.wakeFrameOk f = true → s.power.frames.length < 4 →
      Does (.wakeFilterFrame f) s [Reg.RIM_WF_STAT, Reg.RIM_WAKE_LATCH, Reg.RIM_WAKE_CNT] [.power] fun t =>
        t.power.frames = s.power.frames ++ [⟨s.wfPort, f⟩] ∧ t.rf Reg.RIM_WF_STAT_HELD = s.power.frames.length + 1
        ∧ t.bit Reg.RIM_WAKE_LATCH 2 = true ∧ t.power.hubWake = some (s.power.hubWake.getD s.now))
    ∧ (s.wakeFrameOk f = true → 4 ≤ s.power.frames.length →
      Does (.wakeFilterFrame f) s [Reg.RIM_WF_STAT] [] fun t =>
        t.rf Reg.RIM_WF_STAT_DROPPED = min 255 (s.rf Reg.RIM_WF_STAT_DROPPED + 1)))
  ∧ (∀ s : State, s.power.hubWake = none → exec .hubReady s = .next s)
  ∧ (∀ (x : Nat) (s : State), s.power.hubWake = some x → s.power.frames = [] →
    ∃ t, exec .hubReady s = .next t ∧ t.now = max s.now (x + 550 * us1) ∧ t.pstate = pWatch
      ∧ t.flag Reg.PWR_EVT_WAKE = true ∧ t.flag Reg.PWR_STAT_DDR_SR = true ∧ t.power.hubWake = none
      ∧ t.power.boot = some 2 ∧ t.flag Reg.REFSEL_STAT_XO_OK = !s.alarm.xoLost
      ∧ (∀ a, a ∉ [Reg.PWR_STAT, Reg.PWR_EVT, Reg.RIM_WF_STAT, Reg.REFSEL_STAT, Reg.TIME_STAT, Reg.TIME_EVT, Reg.TIME_ERR]
            ++ regsIn 0x200000 0x26FFFF → t.reg a = s.reg a)
      ∧ ∀ p ∈ [Piece.pending, .mem, .ecc, .weave, .border, .compute, .net, .streams, .trust, .alarm, .supv, .skein, .link],
          p.same s t)
  ∧ (∀ (d : Fin 18) (x : Nat) (s : State), s.power.waking.find? (fun e => e.1 == d.val) = some (d.val, x) →
    (16 ≤ d.val → Does (.powerUpDone d) s [Reg.PWR_STAT] [.now, .power] fun t => t.now = max s.now (x + 400 * us1)
      ∧ t.bit Reg.PWR_STAT (d.val + 1) = true ∧ t.power.waking = s.power.waking.filter fun e => e.1 != d.val)
    ∧ (d.val < 16 → (s.cluster d.val).loading = true → s.clState d.val = clLoading →
      s.flag (if d.val < 8 then Reg.PWR_STAT_CD0 else Reg.PWR_STAT_CD1) = true →
      Does (.powerUpDone d) s [Reg.PWR_STAT] [.now, .power] fun t => t.now = max s.now (x + 35 * us1)
        ∧ t.reg Reg.PWR_STAT = setBits (s.reg Reg.PWR_STAT) d.val d.val 1
        ∧ t.power.waking = s.power.waking.filter fun e => e.1 != d.val))
  ∧ (∀ (w : Sweep) (s : State), s.supv.sweep = some w → (w.changed = true ∨ s.flag Reg.PWR_STAT_BUSY = true ∨ s.pstate ≠ pWatch) →
    Does .sweepEnd s [Reg.SUPV_EVT] [.now, .supv] fun t => t.supv = { s.supv with sweep := none }
      ∧ t.reg Reg.SUPV_EVT = s.raised Reg.SUPV_EVT [Reg.SUPV_EVT_SWEEP_DONE]
      ∧ t.now = max s.now (w.since + (s.rf Reg.SUPV_TIME_CONFIRM + 1) * sec1))
  ∧ (∀ (a : Agent) (s : State), s.reaches a Reg.RIM_RTC_LO false = true → a.val ≤ 2 →
    Does (.rimRtcRead a) s [Reg.RIM_RTC_HI] [.bus] fun t => t.bus = ⟨false, BitVec.ofNat 32 s.rtc⟩
      ∧ t.reg Reg.RIM_RTC_HI = BitVec.ofNat 32 (s.rtc / 2 ^ 32))
  ∧ ∀ s : State, s.power.rstLow = false → s.flag Reg.RIM_STAT_RC_ACTIVE = false →
    Does .rtcCrystalFail s [Reg.RIM_STAT, Reg.TIME_STAT, Reg.TIME_EVT] [] fun t =>
      t.flag Reg.RIM_STAT_RC_ACTIVE = true ∧ t.flag Reg.RIM_STAT_XTAL_OK = false
      ∧ t.flag Reg.RIM_STAT_XO_OK = s.flag Reg.RIM_STAT_XO_OK
      ∧ (s.hubUp = true → t.flag Reg.TIME_STAT_RTC_RC = true ∧ t.flag Reg.TIME_EVT_RTC_FAIL = true)

/-- With the key 0xA5 and no handshake, PWR_RESET resets the device, the sealing counter saved while the Warden runs,
and PWR_CYCLE drives PWRCYC_N low for the time of PWR_PCYC; during a handshake either waits for its end; without the
key nothing happens. A part still powered 1 s after PWRCYC_N was released is logged and takes step 3 when the
handshake in progress ends. RST_N low or VDD_RIM low puts every register but OTP at its reset value and empties RAM.
RST_N released samples the straps. XO loss stops the clocks and sets ALARM_EVT.XO_LOSS, and XO_FAIL while the hub is
up; its return is noted. -/
def Obligations.ResetsAndPowerCycles : Prop :=
  (∀ (a : Agent) (key : BitVec 8) (s : State), a.val ≤ 1 →
    (s.reaches a Reg.PWR_RESET true = true →
      (key ≠ 0xA5#8 → Does (.pwrReset a key) s [] [.bus] fun t => t.bus.err = false)
      ∧ (key = 0xA5#8 → s.power.hand.isSome = true → Does (.pwrReset a key) s [] [.power, .bus] fun t =>
          t.bus.err = false ∧ t.power = { s.power with waiting := some 5 })
      ∧ (key = 0xA5#8 → s.power.hand = none → ∃ t, exec (.pwrReset a key) s = .next t ∧ t.bus.err = false
          ∧ t.power.boot = some 1 ∧ t.power.wardenUp = false
          ∧ (t.link = { s.link with sealTop :=
              if s.power.wardenUp = true then min s.link.sealTop s.link.sealNext else s.link.sealTop })
          ∧ (s.power.wardenUp = false ∨ s.link.sealTop ≤ s.link.sealNext → DeviceReset s t)))
    ∧ (s.reaches a Reg.PWR_CYCLE true = true →
      (key ≠ 0xA5#8 → Does (.pwrCycle a key) s [] [.bus] fun t => t.bus.err = false)
      ∧ (key = 0xA5#8 → Does (.pwrCycle a key) s [] [.power, .bus] fun t => t.bus.err = false
          ∧ t.power = if s.power.hand.isSome then { s.power with waiting := some 6 }
              else { s.power with pcycEnd := some (s.now + (s.reg Reg.PWR_PCYC).toNat * ms1) })))
  ∧ (∀ s : State, s.power.pcycEnd = none → exec .powerCycleFail s = .next s)
  ∧ (∀ (x : Nat) (s : State), s.power.pcycEnd = some x → s.power.hand.isSome = true →
    Does .powerCycleFail s [Reg.TRUST_EVT] [.now, .power, .trust] fun t => t.now = max s.now (x + sec1)
      ∧ t.power = { s.power with pcycEnd := none, waiting := some 3 } ∧ t.trust.logSeq = s.trust.logSeq + 1)
  ∧ (∀ (i : Instr) (s : State), i ∈ [Instr.rstNAssert, .vddRimLow] →
    ∃ t, exec i s = .next t ∧ t.power.rstLow = true ∧ t.power.boot = none ∧ t.pending = s.pending ∧ t.now = s.now
      ∧ t.weave.running = false ∧ (∀ k, t.stake k = Stake.reset)
      ∧ (∀ a, a ≠ Reg.TRUST_LC → a ≠ Reg.TRUST_SVN → a ≠ Reg.TRUST_SLOTS → ¬(0x800200 ≤ a ∧ a ≤ 0x8002FF ∧ a % 8 = 4) →
          t.reg a = regReset a)
      ∧ t.reg Reg.TRUST_SVN = s.reg Reg.TRUST_SVN ∧ t.reg Reg.TRUST_SLOTS = s.reg Reg.TRUST_SLOTS
      ∧ ∀ a, t.byte a = if 0x0400000000 ≤ a ∧ a ≤ 0x040FFFFFFF then s.byte a else 0#8)
  ∧ (∀ (role : Fin 4) (testEn : Bool) (s : State), s.power.rstLow = true → s.power.testHold = false →
    Does (.rstNRelease role testEn) s [] [.power] fun t => t.power = if testEn then { s.power with testHold := true }
      else { s.power with rstLow := false, role := role.val, boot := some 0, rtcAt := s.now })
  ∧ (∀ s : State, s.alarm.xoLost = false → s.power.rstLow = false →
    Does .xoLoss s [Reg.RIM_STAT, Reg.REFSEL_STAT, Reg.REFSEL_EVT, Reg.ALARM_EVT] [.alarm] fun t =>
      t.alarm = { s.alarm with xoLost := true } ∧ t.flag Reg.RIM_STAT_XO_OK = false
      ∧ t.flag Reg.ALARM_EVT_XO_LOSS = true ∧ t.roundsRun = false
      ∧ t.faultN = true
      ∧ (s.hubUp = true → t.flag Reg.REFSEL_STAT_XO_OK = false ∧ t.flag Reg.REFSEL_EVT_XO_FAIL = true))
  ∧ (∀ s : State, s.alarm.xoLost = true → s.hubUp = true → s.power.hand.isSome = true →
    Does .xoReturn s [Reg.RIM_STAT, Reg.REFSEL_STAT] [.alarm, .power] fun t =>
      t.alarm = { s.alarm with xoLost := false } ∧ t.flag Reg.RIM_STAT_XO_OK = true
      ∧ t.flag Reg.REFSEL_STAT_XO_OK = true ∧ t.power = { s.power with waiting := some 3 })
  ∧ ∀ s : State, s.alarm.xoLost = true → s.hubUp = true → s.power.hand = none → s.power.capped = false →
    s.recent3.length < 3 → ∃ t, exec .xoReturn s = .next t ∧ t.alarm.xoLost = false ∧ t.power.boot = some 1
      ∧ t.flag Reg.RIM_STAT_XO_OK = true ∧ ∀ k, k < 128 → (t.stake k).run = .held

/-- MASTER_PORT_RESET of a connected port of the matrix, and PCIE_RESET and PCIE_LINK_DOWN for port 3, with the hub
up: every lock that the port holds is released as broken, its outstanding accesses lose their effect, and the port is
disconnected with PORT_RESET set. PORT_RECONNECT connects a reset port once none of its accesses is outstanding, and
does nothing before. Everything else is kept. -/
def Obligations.PortResets : Prop :=
  (∀ (p : Fin 35) (i : Instr) (s : State), s.hubUp = true → (p.val < 26 ∨ 32 ≤ p.val) →
    s.outstanding p.val < 2 ^ 30 → (i = .masterPortReset p ∨ (p = 3 ∧ (i = .pcieReset ∨ i = .pcieLinkDown))) →
    Does i s (portRegs p.val) [.power] fun t => bitAt (t.reg (Reg.MATRIX_PORT_STAT p.val)) 31 = false
      ∧ bitAt (t.reg (Reg.MATRIX_PORT_STAT p.val)) 30 = true ∧ t.flag Reg.MATRIX_EVT_PORT_RESET = true
      ∧ t.power = { s.power with stalls := s.power.stalls.map fun (x : Stall) =>
          if x.agent = p.val then { x with write := false, size := 0 } else x }
      ∧ ∀ n, n < 64 → (s.lockOwner n = some p.val → t.lockOwner n = none
            ∧ t.bit (if n < 32 then Reg.LOCK_BROKEN_LO else Reg.LOCK_BROKEN_HI) (n % 32) = true)
          ∧ (s.lockOwner n ≠ some p.val → t.reg (Reg.LOCK_PEEK n) = s.reg (Reg.LOCK_PEEK n)))
  ∧ (∀ (p : Fin 35) (s : State), s.hubUp = true → (p.val < 26 ∨ 32 ≤ p.val) →
    bitAt (s.reg (Reg.MATRIX_PORT_STAT p.val)) 30 = true →
    (s.outstanding p.val = 0 → Does (.portReconnect p) s [Reg.MATRIX_PORT_STAT p.val] [] fun t =>
      t.reg (Reg.MATRIX_PORT_STAT p.val) = 0x80000000#32)
    ∧ (s.outstanding p.val ≠ 0 → exec (.portReconnect p) s = .next s))

/-- For an agent that reaches PWR_RECOV, not busy and with the Warden up: an unknown function or unit, or a step that
the function does not have, answers BADFUNC; RETRY of a function answers OK; REINIT of a function that has had three
in 60 s answers LIMIT and changes nothing else, and otherwise takes the step, counts it and answers OK: a ring is
emptied, a port or converter stops and starts at boundaries, a cluster reloads and starts again. DEVICE_RESET and
POWER_CYCLE of function 0 wait for a handshake in progress with BUSY set. With the Warden down the request waits with
BUSY set. A request while one is in progress is answered BUSY. -/
def Obligations.RecoveryRequests : Prop :=
  ∀ (a : Agent) (f : BitVec 8) (u : BitVec 9) (i : Instr) (step : Nat) (s : State),
    (i, step) ∈ [(Instr.recovRetry a f u, 1), (.recovReinit a f u, 2), (.recovDeviceReset a f u, 3), (.recovPowerCycle a f u, 4)] →
    s.reaches a Reg.PWR_RECOV true = true → (a.val ≤ 1 ∨ a.val = 3 ∨ a.val = 4) →
    let asked (t : State) : Prop := t.bus.err = false ∧ t.rf Reg.PWR_RECOV_STEP = step - 1
      ∧ t.rf Reg.PWR_RECOV_FUNC = f.toNat ∧ t.rf Reg.PWR_RECOV_UNIT = u.toNat
    (s.flag Reg.PWR_RECOV_BUSY = true → Does i s [Reg.PWR_RECOV] [.bus] fun t => t.bus.err = false
      ∧ t.rf Reg.PWR_RECOV_RESULT = 2)
    ∧ (s.flag Reg.PWR_RECOV_BUSY = false → s.power.wardenUp = false →
      Does i s [Reg.PWR_RECOV] [.power, .bus] fun t => asked t ∧ t.flag Reg.PWR_RECOV_BUSY = true
        ∧ t.power = { s.power with recovBy := some a.val })
    ∧ (s.flag Reg.PWR_RECOV_BUSY = false → s.power.wardenUp = true →
      ((unitOk f.toNat u.toNat = false ∨ (f = 0#8 ∧ step < 3) ∨ (f ≠ 0#8 ∧ 3 ≤ step)) →
        Does i s [Reg.PWR_RECOV] [.bus] fun t => asked t ∧ t.rf Reg.PWR_RECOV_RESULT = 1)
      ∧ (unitOk f.toNat u.toNat = true → f ≠ 0#8 → step = 1 →
        Does i s [Reg.PWR_RECOV] [.bus] fun t => asked t ∧ t.rf Reg.PWR_RECOV_RESULT = 0)
      ∧ (unitOk f.toNat u.toNat = true → f ≠ 0#8 → step = 2 → 3 ≤ s.recent2 f.toNat u.toNat →
        Does i s [Reg.PWR_RECOV] [.bus] fun t => asked t ∧ t.rf Reg.PWR_RECOV_RESULT = 3)
      ∧ (f = 6#8 → u.toNat < 4 → step = 2 → s.recent2 6 u.toNat < 3 →
        Does i s [Reg.PWR_RECOV, Reg.NET_RXR_HEAD u.toNat, Reg.NET_RXR_TAIL u.toNat, Reg.PWR_LADDER, Reg.PWR_EVT,
            Reg.TRUST_EVT, Reg.ALARM_FAULT_SW] [.power, .trust, .bus] fun t => asked t ∧ t.rf Reg.PWR_RECOV_RESULT = 0
          ∧ t.reg (Reg.NET_RXR_HEAD u.toNat) = 0#32 ∧ t.reg (Reg.NET_RXR_TAIL u.toNat) = 0#32
          ∧ t.flag Reg.PWR_EVT_LADDER = true
          ∧ t.rf Reg.PWR_LADDER_STEP2_CNT = min 65535 (s.rf Reg.PWR_LADDER_STEP2_CNT + 1)
          ∧ t.recent2 6 u.toNat = s.recent2 6 u.toNat + 1)
      ∧ (∀ k, (f.toNat, k) ∈ [(2, u.toNat), (3, 32 + u.toNat), (4, 44 + u.toNat)] → unitOk f.toNat u.toNat = true → step = 2 →
        s.recent2 f.toNat u.toNat < 3 →
        Does i s [Reg.PWR_RECOV, Reg.PWR_LADDER, Reg.PWR_EVT, Reg.TRUST_EVT, Reg.ALARM_FAULT_SW] [.power, .trust, .ports, .bus]
          fun t => asked t ∧ t.rf Reg.PWR_RECOV_RESULT = 0
            ∧ t.ports = { s.ports with halt := s.ports.halt.filter (· != k) ++ [k] }
            ∧ t.recent2 f.toNat u.toNat = s.recent2 f.toNat u.toNat + 1)
      ∧ (f = 1#8 → u.toNat < 16 → step = 2 → s.recent2 1 u.toNat < 3 → ∃ t, exec i s = .next t ∧ asked t
          ∧ t.rf Reg.PWR_RECOV_RESULT = 0 ∧ t.clState u.toNat = clLoading ∧ (t.cluster u.toNat).start = true
          ∧ t.flag (Reg.CL_CTL_ISOLATE u.toNat) = false ∧ ∀ k, k / 8 ≠ u.toNat → t.stake k = s.stake k)
      ∧ (f = 0#8 → u = 0#9 → 3 ≤ step → s.power.capped = true →
        Does i s [Reg.PWR_RECOV] [.bus] fun t => asked t ∧ t.rf Reg.PWR_RECOV_RESULT = 3)
      ∧ (f = 0#8 → u = 0#9 → 3 ≤ step → s.power.capped = false → s.power.hand.isSome = true →
        (a.val ≤ 1 ∨ s.recentHost = []) →
        Does i s [Reg.PWR_RECOV] [.power, .bus] fun t => asked t ∧ t.rf Reg.PWR_RECOV_RESULT = 0
          ∧ t.flag Reg.PWR_RECOV_BUSY = true ∧ t.power.waiting = some step)
      ∧ (f = 0#8 → u = 0#9 → step = 4 → s.power.capped = false → s.power.hand = none → (a.val ≤ 1 ∨ s.recentHost = []) →
        Does i s [Reg.PWR_RECOV, Reg.PWR_EVT, Reg.TRUST_EVT, Reg.ALARM_FAULT_SW] [.power, .trust, .bus] fun t => asked t
          ∧ t.rf Reg.PWR_RECOV_RESULT = 0 ∧ t.power.pcycEnd = some (s.now + (s.reg Reg.PWR_PCYC).toNat * ms1))
      ∧ (f = 0#8 → u = 0#9 → step = 3 → s.power.capped = false → s.power.hand = none → (a.val ≤ 1 ∨ s.recentHost = []) →
        s.recent3.length < 3 → ∃ t, exec i s = .next t ∧ t.power.boot = some 1 ∧ t.power.hand = none
          ∧ t.rf Reg.PWR_LADDER_STEP3_CNT = min 65535 (s.rf Reg.PWR_LADDER_STEP3_CNT + 1)
          ∧ (∀ k, k < 128 → (t.stake k).run = .held) ∧ t.weave.running = false))

/-- A watchdog expiry with the Warden up sets WDG; with fewer than three in the last 60 s the Warden's port is reset
and step 2 counted, and on the fourth step 3 is taken, or waits for a handshake. WDG clears 10 s after service. A
function that is due its step takes it at that time: a ring is emptied, a port or converter stops and starts at
boundaries, a capsule is abandoned with FLASH, the flash operation ends with an error, a queue that stands still asks
for step 3; at most three of step 2 in 60 s. A unit that the state shows not wedged changes nothing. -/
def Obligations.WatchdogAndWedges : Prop :=
  (∀ s : State, s.hubUp = true → s.power.wardenUp = true →
    let l := s.power.wdgResets.filter fun x => Nat.blt s.now (x + 60 * sec1)
    (l.length < 3 → s.outstanding 1 < 2 ^ 30 → Does .wardenWatchdogExpire s ([Reg.ALARM_FAULT, Reg.ALARM_FAULT_SW, Reg.PWR_LADDER, Reg.PWR_EVT,
        Reg.TRUST_EVT] ++ portRegs 1) [.power, .trust] fun t => t.flag Reg.ALARM_FAULT_WDG = true
      ∧ t.power.wdgResets = l ++ [s.now] ∧ t.power.served = some s.now
      ∧ t.rf Reg.PWR_LADDER_STEP2_CNT = min 65535 (s.rf Reg.PWR_LADDER_STEP2_CNT + 1)
      ∧ t.flag Reg.PWR_EVT_LADDER = true ∧ bitAt (t.reg (Reg.MATRIX_PORT_STAT 1)) 31 = false)
    ∧ (3 ≤ l.length → s.power.hand.isSome = true → Does .wardenWatchdogExpire s [Reg.ALARM_FAULT] [.power] fun t =>
        t.flag Reg.ALARM_FAULT_WDG = true ∧ t.power = { s.power with wdgResets := [], waiting := some 3 }))
  ∧ (∀ (x : Nat) (s : State), s.power.served = some x → Does .wdgClear s [Reg.ALARM_FAULT] [.now, .power] fun t =>
      t.flag Reg.ALARM_FAULT_WDG = false ∧ t.now = max s.now (x + 10 * sec1)
      ∧ t.power = { s.power with served := none } ∧ t.flag Reg.ALARM_FAULT_TAIL = s.flag Reg.ALARM_FAULT_TAIL)
  ∧ (∀ (w : Wedge) (s : State), (s.hubUp = false ∨ s.power.wardenUp = false ∨ s.wedgeDue w = none) →
    exec (.wedgeDetect w) s = .next s)
  ∧ (∀ (w : Wedge) (d : Nat) (s : State), s.hubUp = true → s.power.wardenUp = true → s.wedgeDue w = some d →
    s.power.hand.isSome = true →
    w ∈ [Wedge.routePort false, .routePort true, .borderPort, .saQueue, .lpddr, .bootCtl, .targetPath] →
    Does (.wedgeDetect w) s [] [.now, .power] fun t => t.now = max s.now d ∧ t.power = { s.power with waiting := some 3 })
  ∧ (∀ (w : Wedge) (f u d : Nat) (s : State), s.hubUp = true → s.power.wardenUp = true → s.wedgeDue w = some d →
    ((∃ n : Fin 32, w = .tdm n ∧ f = 2 ∧ u = n.val) ∨ (∃ n : Fin 4, w = .aesIn n ∧ f = 3 ∧ u = n.val)
      ∨ (∃ n : Fin 32, w = .converter n ∧ f = 4 ∧ u = n.val) ∨ (∃ n : Fin 4, w = .rxRing n ∧ f = 6 ∧ u = n.val)
      ∨ (w = .capsule ∧ f = 11 ∧ u = 0)) →
    let later := s.moveTo d
    let stepRegs := [Reg.PWR_LADDER, Reg.PWR_EVT, Reg.TRUST_EVT, Reg.ALARM_FAULT_SW]
    let counted (t : State) : Prop := t.now = max s.now d ∧ t.flag Reg.PWR_EVT_LADDER = true
      ∧ t.rf Reg.PWR_LADDER_STEP2_CNT = min 65535 (s.rf Reg.PWR_LADDER_STEP2_CNT + 1)
    (3 ≤ later.recent2 f u → Does (.wedgeDetect w) s [Reg.TRUST_EVT] [.now, .trust] fun t =>
        t.now = max s.now d ∧ t.trust.logSeq = s.trust.logSeq + 1)
    ∧ (later.recent2 f u < 3 →
      (f ∈ [2, 3, 4] → Does (.wedgeDetect w) s stepRegs [.now, .power, .trust, .ports] fun t => counted t
          ∧ (let k := if f = 2 then u else if f = 3 then 32 + u else 44 + u
             t.ports = { s.ports with halt := s.ports.halt.filter (· != k) ++ [k] }))
      ∧ (f = 6 → Does (.wedgeDetect w) s (Reg.NET_RXR_HEAD u :: Reg.NET_RXR_TAIL u :: stepRegs) [.now, .power, .trust]
          fun t => counted t ∧ t.reg (Reg.NET_RXR_HEAD u) = 0#32 ∧ t.reg (Reg.NET_RXR_TAIL u) = 0#32)
      ∧ (f = 11 → Does (.wedgeDetect w) s (Reg.TRUST_CAP_STAT :: Reg.TRUST_SLOTS :: stepRegs) [.now, .power, .trust]
          fun t => counted t ∧ t.flag Reg.TRUST_CAP_STAT_BUSY = false ∧ t.rf Reg.TRUST_CAP_STAT_RESULT = crFlash
            ∧ t.flag Reg.TRUST_EVT_CAP_DONE = true ∧ t.trust.inPlace = none
            ∧ ∀ i, i < 2 → t.slotState i = if s.slotState i = skWriting then skEmpty else s.slotState i)))
  ∧ (∀ (c : Fin 16) (s : State), s.hubUp = true → s.power.wardenUp = true → s.clState c.val = clFaulted →
    3 ≤ ((s.cluster c.val).faults.filter fun x => Nat.blt s.now (x + 60 * sec1)).length →
    ∃ t, exec (.wedgeDetect (.cluster c)) s = .next t ∧ t.clState c.val = clIsolated
      ∧ t.flag (Reg.CL_CTL_ISOLATE c.val) = true ∧ t.bit Reg.PWR_STAT c.val = false
      ∧ ∀ k, k / 8 ≠ c.val → t.stake k = s.stake k)
  ∧ ∀ s : State, s.hubUp = true → s.power.wardenUp = true → s.recent2 12 0 < 3 →
    Does (.wedgeDetect .flash) s [Reg.TRUST_FL_STAT, Reg.PWR_LADDER, Reg.PWR_EVT, Reg.TRUST_EVT, Reg.ALARM_FAULT_SW]
      [.power, .trust] fun t => t.trust.flOp = none ∧ t.flag Reg.TRUST_FL_STAT_BUSY = false
      ∧ t.flag Reg.TRUST_FL_STAT_ERR = true
end

