-- ==== Sys2Proof/Laws/Bits.lean ====
section
/-! SUPPORT. Laws/Bits.lean: reading fields of a word after writing one. -/
namespace Sys2Proof.Machine

theorem bitsOf_lt (w : Word) (hi lo : Nat) : bitsOf w hi lo < 2 ^ (hi + 1 - lo) := Nat.mod_lt _ (Nat.two_pow_pos _)

theorem bitsOf_eq (w : Word) (hi lo : Nat) : bitsOf w hi lo = w.toNat / 2 ^ lo % 2 ^ (hi + 1 - lo) := by
  rw [bitsOf, Nat.shiftRight_eq_div_pow]

theorem testBit_bitsOf (w : Word) (hi lo i : Nat) :
    (bitsOf w hi lo).testBit i = (decide (i < hi + 1 - lo) && w.toNat.testBit (lo + i)) := by
  rw [bitsOf, Nat.testBit_mod_two_pow, Nat.testBit_shiftRight]

theorem setBits_nat (w : Word) (hi lo v : Nat) :
    (w.toNat >>> (hi + 1)) <<< (hi + 1) + (v % 2 ^ (hi + 1 - lo)) <<< lo + w.toNat % 2 ^ lo
      = (w.toNat / 2 ^ (hi + 1)) * 2 ^ (hi + 1) + ((v % 2 ^ (hi + 1 - lo)) * 2 ^ lo + w.toNat % 2 ^ lo) := by
  rw [Nat.shiftRight_eq_div_pow, Nat.shiftLeft_eq, Nat.shiftLeft_eq]; omega

theorem field_low_lt (w v : Nat) {hi lo : Nat} (h : lo ≤ hi) :
    v % 2 ^ (hi + 1 - lo) * 2 ^ lo + w % 2 ^ lo < 2 ^ (hi + 1) := by
  have h1 : v % 2 ^ (hi + 1 - lo) < 2 ^ (hi + 1 - lo) := Nat.mod_lt _ (Nat.two_pow_pos _)
  have h2 : w % 2 ^ lo < 2 ^ lo := Nat.mod_lt _ (Nat.two_pow_pos _)
  have h3 : 2 ^ (hi + 1) = 2 ^ (hi + 1 - lo) * 2 ^ lo := by rw [← Nat.pow_add]; congr 1; omega
  rw [h3]
  calc v % 2 ^ (hi + 1 - lo) * 2 ^ lo + w % 2 ^ lo < v % 2 ^ (hi + 1 - lo) * 2 ^ lo + 2 ^ lo := by omega
    _ = (v % 2 ^ (hi + 1 - lo) + 1) * 2 ^ lo := by rw [Nat.add_mul]; simp
    _ ≤ 2 ^ (hi + 1 - lo) * 2 ^ lo := Nat.mul_le_mul_right _ h1

/-- One bit of a word after a field of it has been written. -/
theorem testBit_setBits (w : Word) {hi lo : Nat} (v i : Nat) (h : lo ≤ hi) (h32 : hi < 32) :
    (setBits w hi lo v).toNat.testBit i
      = if lo ≤ i ∧ i ≤ hi then v.testBit (i - lo) else w.toNat.testBit i := by
  have hlt := field_low_lt w.toNat v h
  have hw : w.toNat < 2 ^ 32 := w.isLt
  have hval : (setBits w hi lo v).toNat
      = w.toNat / 2 ^ (hi + 1) * 2 ^ (hi + 1) + (v % 2 ^ (hi + 1 - lo) * 2 ^ lo + w.toNat % 2 ^ lo) := by
    rw [setBits, BitVec.toNat_ofNat, setBits_nat w hi lo v]
    apply Nat.mod_eq_of_lt
    have h5 : w.toNat / 2 ^ (hi + 1) < 2 ^ (32 - (hi + 1)) := by
      apply Nat.div_lt_of_lt_mul
      rw [← Nat.pow_add]
      have : hi + 1 + (32 - (hi + 1)) = 32 := by omega
      rw [this]; exact hw
    have h6 : (2:Nat) ^ 32 = 2 ^ (32 - (hi + 1)) * 2 ^ (hi + 1) := by
      rw [← Nat.pow_add]; congr 1; omega
    rw [h6]
    calc _ < w.toNat / 2 ^ (hi + 1) * 2 ^ (hi + 1) + 2 ^ (hi + 1) := by omega
      _ = (w.toNat / 2 ^ (hi + 1) + 1) * 2 ^ (hi + 1) := by rw [Nat.add_mul]; simp
      _ ≤ _ := Nat.mul_le_mul_right _ h5
  rw [hval]
  rw [show w.toNat / 2 ^ (hi + 1) * 2 ^ (hi + 1) + (v % 2 ^ (hi + 1 - lo) * 2 ^ lo + w.toNat % 2 ^ lo)
      = 2 ^ (hi + 1) * (w.toNat / 2 ^ (hi + 1)) + (v % 2 ^ (hi + 1 - lo) * 2 ^ lo + w.toNat % 2 ^ lo) by
      rw [Nat.mul_comm]]
  rw [Nat.testBit_two_pow_mul_add _ hlt]
  by_cases h1 : i < hi + 1
  · rw [if_pos h1, show v % 2 ^ (hi + 1 - lo) * 2 ^ lo + w.toNat % 2 ^ lo
      = 2 ^ lo * (v % 2 ^ (hi + 1 - lo)) + w.toNat % 2 ^ lo by rw [Nat.mul_comm],
      Nat.testBit_two_pow_mul_add _ (Nat.mod_lt _ (Nat.two_pow_pos _))]
    by_cases h2 : i < lo
    · rw [if_pos h2, if_neg (by omega), Nat.testBit_mod_two_pow]; simp [h2]
    · rw [if_neg h2, if_pos (by omega), Nat.testBit_mod_two_pow]
      have : i - lo < hi + 1 - lo := by omega
      simp [this]
  · rw [if_neg h1, if_neg (by omega), Nat.testBit_div_two_pow]
    congr 1
    omega

/-- A field reads what was written into it, modulo its width. -/
theorem bitsOf_setBits_self (w : Word) {hi lo : Nat} (v : Nat) (h : lo ≤ hi) (h32 : hi < 32) :
    bitsOf (setBits w hi lo v) hi lo = v % 2 ^ (hi + 1 - lo) := by
  apply Nat.eq_of_testBit_eq
  intro i
  rw [testBit_bitsOf, testBit_setBits w v _ h h32, Nat.testBit_mod_two_pow]
  by_cases hi' : i < hi + 1 - lo
  · rw [if_pos (by omega)]
    simp [hi']
  · simp [hi']

/-- A field apart from the one written reads as before. -/
theorem bitsOf_setBits_ne (w : Word) {hi lo : Nat} (v : Nat) {a b : Nat} (h : lo ≤ hi) (h32 : hi < 32)
    (hd : a < lo ∨ hi < b) : bitsOf (setBits w hi lo v) a b = bitsOf w a b := by
  apply Nat.eq_of_testBit_eq
  intro i
  rw [testBit_bitsOf, testBit_bitsOf]
  by_cases hi' : i < a + 1 - b
  · rw [testBit_setBits w v _ h h32, if_neg (by omega)]
  · simp [hi']

theorem bitAt_setBits (w : Word) (i j v : Nat) (h : j < 32) :
    bitAt (setBits w j j v) i = if i = j then v.testBit 0 else bitAt w i := by
  rw [bitAt, testBit_setBits w v i (Nat.le_refl _) h]
  by_cases h1 : i = j
  · subst h1; simp
  · rw [if_neg (by omega), if_neg h1]; rfl

end Sys2Proof.Machine
end

