-- ==== Sys2Proof/Laws/Map.lean ====
section
/-! SUPPORT. Laws/Map.lean: reading after writing a sparse map, and the canonical form that every write keeps. -/
namespace Sys2Proof.Machine

variable {α : Type}

@[simp] theorem mget_nil (d : Nat → α) (k : Nat) : mget d [] k = d k := rfl

theorem mget_mdrop_self (d : Nat → α) (k : Nat) (m : SMap α) : mget d (mdrop k m) k = d k := by
  induction m with
  | nil => rfl
  | cons e t ih => by_cases h : e.1 = k <;> simp [mdrop, mget, h, ih]

theorem mget_mdrop_ne (d : Nat → α) {k j : Nat} (h : j ≠ k) (m : SMap α) : mget d (mdrop k m) j = mget d m j := by
  induction m with
  | nil => rfl
  | cons e t ih =>
    by_cases h1 : e.1 = k
    · have : e.1 ≠ j := by omega
      simp [mdrop, mget, h1, ih]; omega
    · have h3 : mdrop k (e :: t) = e :: mdrop k t := by simp [mdrop, h1]
      rw [h3]
      by_cases h2 : e.1 = j <;> simp [mget, h2, ih]

theorem mget_mput_self (d : Nat → α) (k : Nat) (v : α) (m : SMap α) (h : ∀ e ∈ m, e.1 ≠ k) :
    mget d (mput k v m) k = v := by
  induction m with
  | nil => simp [mput, mget]
  | cons e t ih =>
    have := h e (by simp)
    have ih := ih fun x hx => h x (by simp [hx])
    simp only [mput]
    split <;> simp [mget, this, ih]

theorem mget_mput_ne (d : Nat → α) {k j : Nat} (h : j ≠ k) (v : α) (m : SMap α) :
    mget d (mput k v m) j = mget d m j := by
  induction m with
  | nil => simp [mput, mget, Ne.symm h]
  | cons e t ih =>
    simp only [mput]
    split
    · simp [mget, Ne.symm h]
    · simp [mget, ih]

theorem mem_mdrop {k : Nat} {m : SMap α} {e : Nat × α} (h : e ∈ mdrop k m) : e.1 ≠ k ∧ e ∈ m := by
  induction m with
  | nil => simp [mdrop] at h
  | cons a t ih =>
    simp only [mdrop] at h
    split at h
    · have := ih h; exact ⟨this.1, by simp [this.2]⟩
    · rcases List.mem_cons.1 h with rfl | h
      · exact ⟨by assumption, by simp⟩
      · have := ih h; exact ⟨this.1, by simp [this.2]⟩

@[simp] theorem mget_mset_self [DecidableEq α] (d : Nat → α) (m : SMap α) (k : Nat) (v : α) :
    mget d (mset d m k v) k = v := by
  unfold mset
  split
  · next h => rw [mget_mdrop_self, h]
  · exact mget_mput_self d k v _ fun e he => (mem_mdrop he).1

theorem mget_mset_ne [DecidableEq α] (d : Nat → α) (m : SMap α) {k j : Nat} (h : j ≠ k) (v : α) :
    mget d (mset d m k v) j = mget d m j := by
  unfold mset
  split
  · exact mget_mdrop_ne d h m
  · rw [mget_mput_ne d h, mget_mdrop_ne d h]

theorem mget_mset [DecidableEq α] (d : Nat → α) (m : SMap α) (k j : Nat) (v : α) :
    mget d (mset d m k v) j = if j = k then v else mget d m j := by
  by_cases h : j = k
  · subst h; simp
  · simp [h, mget_mset_ne d m h]

/-! ### The canonical form -/

/-- The canonical form in two parts: keys strictly rising, and no entry at its default. -/
theorem mwf_iff [DecidableEq α] (d : Nat → α) (m : SMap α) :
    mwf d m = true ↔ m.Pairwise (fun a b => a.1 < b.1) ∧ ∀ e ∈ m, e.2 ≠ d e.1 := by
  induction m with
  | nil => simp [mwf]
  | cons e t ih =>
    cases t with
    | nil => simp [mwf]
    | cons f t =>
      obtain ⟨k, v⟩ := e
      obtain ⟨k', v'⟩ := f
      simp only [mwf, Bool.and_eq_true, decide_eq_true_eq, ih]
      constructor
      · rintro ⟨⟨h1, h2⟩, hp, hd⟩
        refine ⟨List.pairwise_cons.2 ⟨?_, hp⟩, ?_⟩
        · intro x hx
          rcases List.mem_cons.1 hx with rfl | hx
          · exact h2
          · exact Nat.lt_trans h2 ((List.pairwise_cons.1 hp).1 x hx)
        · intro x hx
          rcases List.mem_cons.1 hx with rfl | hx
          · exact h1
          · exact hd x hx
      · rintro ⟨hp, hd⟩
        obtain ⟨h1, h2⟩ := List.pairwise_cons.1 hp
        exact ⟨⟨hd (k, v) (by simp), h1 (k', v') (by simp)⟩, h2, fun x hx => hd x (by simp [hx])⟩

theorem mdrop_sublist (k : Nat) (m : SMap α) : (mdrop k m).Sublist m := by
  induction m with
  | nil => exact List.Sublist.refl _
  | cons e t ih =>
    simp only [mdrop]
    split
    · exact ih.cons _
    · exact ih.cons_cons _

theorem mwf_of_sublist [DecidableEq α] {d : Nat → α} {m n : SMap α} (h : n.Sublist m) (hm : mwf d m = true) :
    mwf d n = true := by
  rw [mwf_iff] at *
  exact ⟨hm.1.sublist h, fun e he => hm.2 e (h.subset he)⟩

theorem mwf_mdrop [DecidableEq α] {d : Nat → α} {m : SMap α} (h : mwf d m = true) (k : Nat) :
    mwf d (mdrop k m) = true := mwf_of_sublist (mdrop_sublist k m) h

theorem mwf_filter [DecidableEq α] {d : Nat → α} {m : SMap α} (h : mwf d m = true) (p : Nat × α → Bool) :
    mwf d (m.filter p) = true := mwf_of_sublist List.filter_sublist h

theorem mem_mput {k : Nat} {v : α} {m : SMap α} {e : Nat × α} (h : e ∈ mput k v m) : e = (k, v) ∨ e ∈ m := by
  induction m with
  | nil => simpa [mput] using h
  | cons a t ih =>
    simp only [mput] at h
    split at h
    · simpa using h
    · rcases List.mem_cons.1 h with rfl | h
      · simp
      · rcases ih h with h | h <;> simp [h]

theorem mput_rising {k : Nat} {v : α} {m : SMap α} (hm : m.Pairwise fun a b => a.1 < b.1) (hk : ∀ e ∈ m, e.1 ≠ k) :
    (mput k v m).Pairwise fun a b => a.1 < b.1 := by
  induction m with
  | nil => simp [mput]
  | cons a t ih =>
    obtain ⟨h1, h2⟩ := List.pairwise_cons.1 hm
    simp only [mput]
    split
    · next h =>
      refine List.pairwise_cons.2 ⟨?_, hm⟩
      intro x hx
      rcases List.mem_cons.1 hx with rfl | hx
      · exact h
      · exact Nat.lt_trans h (h1 x hx)
    · next h =>
      refine List.pairwise_cons.2 ⟨?_, ih h2 fun e he => hk e (by simp [he])⟩
      intro x hx
      rcases mem_mput hx with rfl | hx
      · have := hk a (by simp)
        show a.1 < k
        omega
      · exact h1 x hx

/-- Every write of a sparse map keeps the canonical form. -/
theorem mwf_mset [DecidableEq α] {d : Nat → α} {m : SMap α} (h : mwf d m = true) (k : Nat) (v : α) :
    mwf d (mset d m k v) = true := by
  unfold mset
  split
  · exact mwf_mdrop h k
  · next hv =>
    have h' := (mwf_iff d _).1 (mwf_mdrop h k)
    refine (mwf_iff d _).2 ⟨mput_rising h'.1 fun e he => (mem_mdrop he).1, ?_⟩
    intro e he
    rcases mem_mput he with rfl | he
    · exact hv
    · exact h'.2 e he

end Sys2Proof.Machine
end

