-- ==== Sys2Proof/Laws/State.lean ====
section
/-! SUPPORT. Laws/State.lean: what each named update of the state leaves of each field, and what a register, a field
and a byte read after it. -/
namespace Sys2Proof.Machine

variable (s : State)

/-! ### `noteEvent` -/

@[simp] theorem State.noteEvent_pending (a : Nat) (v : Word) : (s.noteEvent a v).pending = s.pending := rfl
@[simp] theorem State.noteEvent_now (a : Nat) (v : Word) : (s.noteEvent a v).now = s.now := rfl
@[simp] theorem State.noteEvent_fv (a : Nat) (v : Word) : (s.noteEvent a v).fv = s.fv := rfl
@[simp] theorem State.noteEvent_bus (a : Nat) (v : Word) : (s.noteEvent a v).bus = s.bus := rfl
@[simp] theorem State.noteEvent_regs (a : Nat) (v : Word) : (s.noteEvent a v).regs = s.regs := rfl
@[simp] theorem State.noteEvent_mem (a : Nat) (v : Word) : (s.noteEvent a v).mem = s.mem := rfl
@[simp] theorem State.noteEvent_ecc (a : Nat) (v : Word) : (s.noteEvent a v).ecc = s.ecc := rfl
@[simp] theorem State.noteEvent_sys (a : Nat) (v : Word) : (s.noteEvent a v).sys = s.sys := rfl
@[simp] theorem State.noteEvent_weave (a : Nat) (v : Word) : (s.noteEvent a v).weave = s.weave := rfl
@[simp] theorem State.noteEvent_border (a : Nat) (v : Word) : (s.noteEvent a v).border = s.border := rfl
@[simp] theorem State.noteEvent_compute (a : Nat) (v : Word) : (s.noteEvent a v).compute = s.compute := rfl
@[simp] theorem State.noteEvent_net (a : Nat) (v : Word) : (s.noteEvent a v).net = s.net := rfl
@[simp] theorem State.noteEvent_streams (a : Nat) (v : Word) : (s.noteEvent a v).streams = s.streams := rfl
@[simp] theorem State.noteEvent_pair (a : Nat) (v : Word) : (s.noteEvent a v).pair = s.pair := rfl
@[simp] theorem State.noteEvent_trust (a : Nat) (v : Word) : (s.noteEvent a v).trust = s.trust := rfl
@[simp] theorem State.noteEvent_power (a : Nat) (v : Word) : (s.noteEvent a v).power = s.power := rfl
@[simp] theorem State.noteEvent_hoop (a : Nat) (v : Word) : (s.noteEvent a v).hoop = s.hoop := rfl
@[simp] theorem State.noteEvent_refsel (a : Nat) (v : Word) : (s.noteEvent a v).refsel = s.refsel := rfl
@[simp] theorem State.noteEvent_alarm (a : Nat) (v : Word) : (s.noteEvent a v).alarm = s.alarm := rfl
@[simp] theorem State.noteEvent_supv (a : Nat) (v : Word) : (s.noteEvent a v).supv = s.supv := rfl
@[simp] theorem State.noteEvent_skein (a : Nat) (v : Word) : (s.noteEvent a v).skein = s.skein := rfl
@[simp] theorem State.noteEvent_link (a : Nat) (v : Word) : (s.noteEvent a v).link = s.link := rfl
@[simp] theorem State.noteEvent_matrix (a : Nat) (v : Word) : (s.noteEvent a v).matrix = s.matrix := rfl
@[simp] theorem State.noteEvent_ports (a : Nat) (v : Word) : (s.noteEvent a v).ports = s.ports := rfl

/-! ### `setReg` -/

@[simp] theorem State.setReg_pending (a : Nat) (v : Word) : (s.setReg a v).pending = s.pending := rfl
@[simp] theorem State.setReg_now (a : Nat) (v : Word) : (s.setReg a v).now = s.now := rfl
@[simp] theorem State.setReg_fv (a : Nat) (v : Word) : (s.setReg a v).fv = s.fv := rfl
@[simp] theorem State.setReg_bus (a : Nat) (v : Word) : (s.setReg a v).bus = s.bus := rfl
@[simp] theorem State.setReg_events (a : Nat) (v : Word) : (s.setReg a v).events = s.events := rfl
@[simp] theorem State.setReg_mem (a : Nat) (v : Word) : (s.setReg a v).mem = s.mem := rfl
@[simp] theorem State.setReg_ecc (a : Nat) (v : Word) : (s.setReg a v).ecc = s.ecc := rfl
@[simp] theorem State.setReg_sys (a : Nat) (v : Word) : (s.setReg a v).sys = s.sys := rfl
@[simp] theorem State.setReg_weave (a : Nat) (v : Word) : (s.setReg a v).weave = s.weave := rfl
@[simp] theorem State.setReg_border (a : Nat) (v : Word) : (s.setReg a v).border = s.border := rfl
@[simp] theorem State.setReg_compute (a : Nat) (v : Word) : (s.setReg a v).compute = s.compute := rfl
@[simp] theorem State.setReg_net (a : Nat) (v : Word) : (s.setReg a v).net = s.net := rfl
@[simp] theorem State.setReg_streams (a : Nat) (v : Word) : (s.setReg a v).streams = s.streams := rfl
@[simp] theorem State.setReg_pair (a : Nat) (v : Word) : (s.setReg a v).pair = s.pair := rfl
@[simp] theorem State.setReg_trust (a : Nat) (v : Word) : (s.setReg a v).trust = s.trust := rfl
@[simp] theorem State.setReg_power (a : Nat) (v : Word) : (s.setReg a v).power = s.power := rfl
@[simp] theorem State.setReg_hoop (a : Nat) (v : Word) : (s.setReg a v).hoop = s.hoop := rfl
@[simp] theorem State.setReg_refsel (a : Nat) (v : Word) : (s.setReg a v).refsel = s.refsel := rfl
@[simp] theorem State.setReg_alarm (a : Nat) (v : Word) : (s.setReg a v).alarm = s.alarm := rfl
@[simp] theorem State.setReg_supv (a : Nat) (v : Word) : (s.setReg a v).supv = s.supv := rfl
@[simp] theorem State.setReg_skein (a : Nat) (v : Word) : (s.setReg a v).skein = s.skein := rfl
@[simp] theorem State.setReg_link (a : Nat) (v : Word) : (s.setReg a v).link = s.link := rfl
@[simp] theorem State.setReg_matrix (a : Nat) (v : Word) : (s.setReg a v).matrix = s.matrix := rfl
@[simp] theorem State.setReg_ports (a : Nat) (v : Word) : (s.setReg a v).ports = s.ports := rfl

/-! ### `setRegN` -/

@[simp] theorem State.setRegN_pending (a v : Nat) : (s.setRegN a v).pending = s.pending := rfl
@[simp] theorem State.setRegN_now (a v : Nat) : (s.setRegN a v).now = s.now := rfl
@[simp] theorem State.setRegN_fv (a v : Nat) : (s.setRegN a v).fv = s.fv := rfl
@[simp] theorem State.setRegN_bus (a v : Nat) : (s.setRegN a v).bus = s.bus := rfl
@[simp] theorem State.setRegN_events (a v : Nat) : (s.setRegN a v).events = s.events := rfl
@[simp] theorem State.setRegN_mem (a v : Nat) : (s.setRegN a v).mem = s.mem := rfl
@[simp] theorem State.setRegN_ecc (a v : Nat) : (s.setRegN a v).ecc = s.ecc := rfl
@[simp] theorem State.setRegN_sys (a v : Nat) : (s.setRegN a v).sys = s.sys := rfl
@[simp] theorem State.setRegN_weave (a v : Nat) : (s.setRegN a v).weave = s.weave := rfl
@[simp] theorem State.setRegN_border (a v : Nat) : (s.setRegN a v).border = s.border := rfl
@[simp] theorem State.setRegN_compute (a v : Nat) : (s.setRegN a v).compute = s.compute := rfl
@[simp] theorem State.setRegN_net (a v : Nat) : (s.setRegN a v).net = s.net := rfl
@[simp] theorem State.setRegN_streams (a v : Nat) : (s.setRegN a v).streams = s.streams := rfl
@[simp] theorem State.setRegN_pair (a v : Nat) : (s.setRegN a v).pair = s.pair := rfl
@[simp] theorem State.setRegN_trust (a v : Nat) : (s.setRegN a v).trust = s.trust := rfl
@[simp] theorem State.setRegN_power (a v : Nat) : (s.setRegN a v).power = s.power := rfl
@[simp] theorem State.setRegN_hoop (a v : Nat) : (s.setRegN a v).hoop = s.hoop := rfl
@[simp] theorem State.setRegN_refsel (a v : Nat) : (s.setRegN a v).refsel = s.refsel := rfl
@[simp] theorem State.setRegN_alarm (a v : Nat) : (s.setRegN a v).alarm = s.alarm := rfl
@[simp] theorem State.setRegN_supv (a v : Nat) : (s.setRegN a v).supv = s.supv := rfl
@[simp] theorem State.setRegN_skein (a v : Nat) : (s.setRegN a v).skein = s.skein := rfl
@[simp] theorem State.setRegN_link (a v : Nat) : (s.setRegN a v).link = s.link := rfl
@[simp] theorem State.setRegN_matrix (a v : Nat) : (s.setRegN a v).matrix = s.matrix := rfl
@[simp] theorem State.setRegN_ports (a v : Nat) : (s.setRegN a v).ports = s.ports := rfl

/-! ### `sf` -/

@[simp] theorem State.sf_pending (f : RegField) (v : Nat) : (s.sf f v).pending = s.pending := rfl
@[simp] theorem State.sf_now (f : RegField) (v : Nat) : (s.sf f v).now = s.now := rfl
@[simp] theorem State.sf_fv (f : RegField) (v : Nat) : (s.sf f v).fv = s.fv := rfl
@[simp] theorem State.sf_bus (f : RegField) (v : Nat) : (s.sf f v).bus = s.bus := rfl
@[simp] theorem State.sf_events (f : RegField) (v : Nat) : (s.sf f v).events = s.events := rfl
@[simp] theorem State.sf_mem (f : RegField) (v : Nat) : (s.sf f v).mem = s.mem := rfl
@[simp] theorem State.sf_ecc (f : RegField) (v : Nat) : (s.sf f v).ecc = s.ecc := rfl
@[simp] theorem State.sf_sys (f : RegField) (v : Nat) : (s.sf f v).sys = s.sys := rfl
@[simp] theorem State.sf_weave (f : RegField) (v : Nat) : (s.sf f v).weave = s.weave := rfl
@[simp] theorem State.sf_border (f : RegField) (v : Nat) : (s.sf f v).border = s.border := rfl
@[simp] theorem State.sf_compute (f : RegField) (v : Nat) : (s.sf f v).compute = s.compute := rfl
@[simp] theorem State.sf_net (f : RegField) (v : Nat) : (s.sf f v).net = s.net := rfl
@[simp] theorem State.sf_streams (f : RegField) (v : Nat) : (s.sf f v).streams = s.streams := rfl
@[simp] theorem State.sf_pair (f : RegField) (v : Nat) : (s.sf f v).pair = s.pair := rfl
@[simp] theorem State.sf_trust (f : RegField) (v : Nat) : (s.sf f v).trust = s.trust := rfl
@[simp] theorem State.sf_power (f : RegField) (v : Nat) : (s.sf f v).power = s.power := rfl
@[simp] theorem State.sf_hoop (f : RegField) (v : Nat) : (s.sf f v).hoop = s.hoop := rfl
@[simp] theorem State.sf_refsel (f : RegField) (v : Nat) : (s.sf f v).refsel = s.refsel := rfl
@[simp] theorem State.sf_alarm (f : RegField) (v : Nat) : (s.sf f v).alarm = s.alarm := rfl
@[simp] theorem State.sf_supv (f : RegField) (v : Nat) : (s.sf f v).supv = s.supv := rfl
@[simp] theorem State.sf_skein (f : RegField) (v : Nat) : (s.sf f v).skein = s.skein := rfl
@[simp] theorem State.sf_link (f : RegField) (v : Nat) : (s.sf f v).link = s.link := rfl
@[simp] theorem State.sf_matrix (f : RegField) (v : Nat) : (s.sf f v).matrix = s.matrix := rfl
@[simp] theorem State.sf_ports (f : RegField) (v : Nat) : (s.sf f v).ports = s.ports := rfl

/-! ### `raise` -/

@[simp] theorem State.raise_pending (f : RegField) : (s.raise f).pending = s.pending := rfl
@[simp] theorem State.raise_now (f : RegField) : (s.raise f).now = s.now := rfl
@[simp] theorem State.raise_fv (f : RegField) : (s.raise f).fv = s.fv := rfl
@[simp] theorem State.raise_bus (f : RegField) : (s.raise f).bus = s.bus := rfl
@[simp] theorem State.raise_mem (f : RegField) : (s.raise f).mem = s.mem := rfl
@[simp] theorem State.raise_ecc (f : RegField) : (s.raise f).ecc = s.ecc := rfl
@[simp] theorem State.raise_sys (f : RegField) : (s.raise f).sys = s.sys := rfl
@[simp] theorem State.raise_weave (f : RegField) : (s.raise f).weave = s.weave := rfl
@[simp] theorem State.raise_border (f : RegField) : (s.raise f).border = s.border := rfl
@[simp] theorem State.raise_compute (f : RegField) : (s.raise f).compute = s.compute := rfl
@[simp] theorem State.raise_net (f : RegField) : (s.raise f).net = s.net := rfl
@[simp] theorem State.raise_streams (f : RegField) : (s.raise f).streams = s.streams := rfl
@[simp] theorem State.raise_pair (f : RegField) : (s.raise f).pair = s.pair := rfl
@[simp] theorem State.raise_trust (f : RegField) : (s.raise f).trust = s.trust := rfl
@[simp] theorem State.raise_power (f : RegField) : (s.raise f).power = s.power := rfl
@[simp] theorem State.raise_hoop (f : RegField) : (s.raise f).hoop = s.hoop := rfl
@[simp] theorem State.raise_refsel (f : RegField) : (s.raise f).refsel = s.refsel := rfl
@[simp] theorem State.raise_alarm (f : RegField) : (s.raise f).alarm = s.alarm := rfl
@[simp] theorem State.raise_supv (f : RegField) : (s.raise f).supv = s.supv := rfl
@[simp] theorem State.raise_skein (f : RegField) : (s.raise f).skein = s.skein := rfl
@[simp] theorem State.raise_link (f : RegField) : (s.raise f).link = s.link := rfl
@[simp] theorem State.raise_matrix (f : RegField) : (s.raise f).matrix = s.matrix := rfl
@[simp] theorem State.raise_ports (f : RegField) : (s.raise f).ports = s.ports := rfl

/-! ### `setFlag` -/

@[simp] theorem State.setFlag_pending (f : RegField) (b : Bool) : (s.setFlag f b).pending = s.pending := rfl
@[simp] theorem State.setFlag_now (f : RegField) (b : Bool) : (s.setFlag f b).now = s.now := rfl
@[simp] theorem State.setFlag_fv (f : RegField) (b : Bool) : (s.setFlag f b).fv = s.fv := rfl
@[simp] theorem State.setFlag_bus (f : RegField) (b : Bool) : (s.setFlag f b).bus = s.bus := rfl
@[simp] theorem State.setFlag_events (f : RegField) (b : Bool) : (s.setFlag f b).events = s.events := rfl
@[simp] theorem State.setFlag_mem (f : RegField) (b : Bool) : (s.setFlag f b).mem = s.mem := rfl
@[simp] theorem State.setFlag_ecc (f : RegField) (b : Bool) : (s.setFlag f b).ecc = s.ecc := rfl
@[simp] theorem State.setFlag_sys (f : RegField) (b : Bool) : (s.setFlag f b).sys = s.sys := rfl
@[simp] theorem State.setFlag_weave (f : RegField) (b : Bool) : (s.setFlag f b).weave = s.weave := rfl
@[simp] theorem State.setFlag_border (f : RegField) (b : Bool) : (s.setFlag f b).border = s.border := rfl
@[simp] theorem State.setFlag_compute (f : RegField) (b : Bool) : (s.setFlag f b).compute = s.compute := rfl
@[simp] theorem State.setFlag_net (f : RegField) (b : Bool) : (s.setFlag f b).net = s.net := rfl
@[simp] theorem State.setFlag_streams (f : RegField) (b : Bool) : (s.setFlag f b).streams = s.streams := rfl
@[simp] theorem State.setFlag_pair (f : RegField) (b : Bool) : (s.setFlag f b).pair = s.pair := rfl
@[simp] theorem State.setFlag_trust (f : RegField) (b : Bool) : (s.setFlag f b).trust = s.trust := rfl
@[simp] theorem State.setFlag_power (f : RegField) (b : Bool) : (s.setFlag f b).power = s.power := rfl
@[simp] theorem State.setFlag_hoop (f : RegField) (b : Bool) : (s.setFlag f b).hoop = s.hoop := rfl
@[simp] theorem State.setFlag_refsel (f : RegField) (b : Bool) : (s.setFlag f b).refsel = s.refsel := rfl
@[simp] theorem State.setFlag_alarm (f : RegField) (b : Bool) : (s.setFlag f b).alarm = s.alarm := rfl
@[simp] theorem State.setFlag_supv (f : RegField) (b : Bool) : (s.setFlag f b).supv = s.supv := rfl
@[simp] theorem State.setFlag_skein (f : RegField) (b : Bool) : (s.setFlag f b).skein = s.skein := rfl
@[simp] theorem State.setFlag_link (f : RegField) (b : Bool) : (s.setFlag f b).link = s.link := rfl
@[simp] theorem State.setFlag_matrix (f : RegField) (b : Bool) : (s.setFlag f b).matrix = s.matrix := rfl
@[simp] theorem State.setFlag_ports (f : RegField) (b : Bool) : (s.setFlag f b).ports = s.ports := rfl

/-! ### `setBit` -/

@[simp] theorem State.setBit_pending (a i : Nat) : (s.setBit a i).pending = s.pending := rfl
@[simp] theorem State.setBit_now (a i : Nat) : (s.setBit a i).now = s.now := rfl
@[simp] theorem State.setBit_fv (a i : Nat) : (s.setBit a i).fv = s.fv := rfl
@[simp] theorem State.setBit_bus (a i : Nat) : (s.setBit a i).bus = s.bus := rfl
@[simp] theorem State.setBit_mem (a i : Nat) : (s.setBit a i).mem = s.mem := rfl
@[simp] theorem State.setBit_ecc (a i : Nat) : (s.setBit a i).ecc = s.ecc := rfl
@[simp] theorem State.setBit_sys (a i : Nat) : (s.setBit a i).sys = s.sys := rfl
@[simp] theorem State.setBit_weave (a i : Nat) : (s.setBit a i).weave = s.weave := rfl
@[simp] theorem State.setBit_border (a i : Nat) : (s.setBit a i).border = s.border := rfl
@[simp] theorem State.setBit_compute (a i : Nat) : (s.setBit a i).compute = s.compute := rfl
@[simp] theorem State.setBit_net (a i : Nat) : (s.setBit a i).net = s.net := rfl
@[simp] theorem State.setBit_streams (a i : Nat) : (s.setBit a i).streams = s.streams := rfl
@[simp] theorem State.setBit_pair (a i : Nat) : (s.setBit a i).pair = s.pair := rfl
@[simp] theorem State.setBit_trust (a i : Nat) : (s.setBit a i).trust = s.trust := rfl
@[simp] theorem State.setBit_power (a i : Nat) : (s.setBit a i).power = s.power := rfl
@[simp] theorem State.setBit_hoop (a i : Nat) : (s.setBit a i).hoop = s.hoop := rfl
@[simp] theorem State.setBit_refsel (a i : Nat) : (s.setBit a i).refsel = s.refsel := rfl
@[simp] theorem State.setBit_alarm (a i : Nat) : (s.setBit a i).alarm = s.alarm := rfl
@[simp] theorem State.setBit_supv (a i : Nat) : (s.setBit a i).supv = s.supv := rfl
@[simp] theorem State.setBit_skein (a i : Nat) : (s.setBit a i).skein = s.skein := rfl
@[simp] theorem State.setBit_link (a i : Nat) : (s.setBit a i).link = s.link := rfl
@[simp] theorem State.setBit_matrix (a i : Nat) : (s.setBit a i).matrix = s.matrix := rfl
@[simp] theorem State.setBit_ports (a i : Nat) : (s.setBit a i).ports = s.ports := rfl

/-! ### `clrBit` -/

@[simp] theorem State.clrBit_pending (a i : Nat) : (s.clrBit a i).pending = s.pending := rfl
@[simp] theorem State.clrBit_now (a i : Nat) : (s.clrBit a i).now = s.now := rfl
@[simp] theorem State.clrBit_fv (a i : Nat) : (s.clrBit a i).fv = s.fv := rfl
@[simp] theorem State.clrBit_bus (a i : Nat) : (s.clrBit a i).bus = s.bus := rfl
@[simp] theorem State.clrBit_events (a i : Nat) : (s.clrBit a i).events = s.events := rfl
@[simp] theorem State.clrBit_mem (a i : Nat) : (s.clrBit a i).mem = s.mem := rfl
@[simp] theorem State.clrBit_ecc (a i : Nat) : (s.clrBit a i).ecc = s.ecc := rfl
@[simp] theorem State.clrBit_sys (a i : Nat) : (s.clrBit a i).sys = s.sys := rfl
@[simp] theorem State.clrBit_weave (a i : Nat) : (s.clrBit a i).weave = s.weave := rfl
@[simp] theorem State.clrBit_border (a i : Nat) : (s.clrBit a i).border = s.border := rfl
@[simp] theorem State.clrBit_compute (a i : Nat) : (s.clrBit a i).compute = s.compute := rfl
@[simp] theorem State.clrBit_net (a i : Nat) : (s.clrBit a i).net = s.net := rfl
@[simp] theorem State.clrBit_streams (a i : Nat) : (s.clrBit a i).streams = s.streams := rfl
@[simp] theorem State.clrBit_pair (a i : Nat) : (s.clrBit a i).pair = s.pair := rfl
@[simp] theorem State.clrBit_trust (a i : Nat) : (s.clrBit a i).trust = s.trust := rfl
@[simp] theorem State.clrBit_power (a i : Nat) : (s.clrBit a i).power = s.power := rfl
@[simp] theorem State.clrBit_hoop (a i : Nat) : (s.clrBit a i).hoop = s.hoop := rfl
@[simp] theorem State.clrBit_refsel (a i : Nat) : (s.clrBit a i).refsel = s.refsel := rfl
@[simp] theorem State.clrBit_alarm (a i : Nat) : (s.clrBit a i).alarm = s.alarm := rfl
@[simp] theorem State.clrBit_supv (a i : Nat) : (s.clrBit a i).supv = s.supv := rfl
@[simp] theorem State.clrBit_skein (a i : Nat) : (s.clrBit a i).skein = s.skein := rfl
@[simp] theorem State.clrBit_link (a i : Nat) : (s.clrBit a i).link = s.link := rfl
@[simp] theorem State.clrBit_matrix (a i : Nat) : (s.clrBit a i).matrix = s.matrix := rfl
@[simp] theorem State.clrBit_ports (a i : Nat) : (s.clrBit a i).ports = s.ports := rfl

/-! ### `countMod` -/

@[simp] theorem State.countMod_pending (f : RegField) : (s.countMod f).pending = s.pending := rfl
@[simp] theorem State.countMod_now (f : RegField) : (s.countMod f).now = s.now := rfl
@[simp] theorem State.countMod_fv (f : RegField) : (s.countMod f).fv = s.fv := rfl
@[simp] theorem State.countMod_bus (f : RegField) : (s.countMod f).bus = s.bus := rfl
@[simp] theorem State.countMod_events (f : RegField) : (s.countMod f).events = s.events := rfl
@[simp] theorem State.countMod_mem (f : RegField) : (s.countMod f).mem = s.mem := rfl
@[simp] theorem State.countMod_ecc (f : RegField) : (s.countMod f).ecc = s.ecc := rfl
@[simp] theorem State.countMod_sys (f : RegField) : (s.countMod f).sys = s.sys := rfl
@[simp] theorem State.countMod_weave (f : RegField) : (s.countMod f).weave = s.weave := rfl
@[simp] theorem State.countMod_border (f : RegField) : (s.countMod f).border = s.border := rfl
@[simp] theorem State.countMod_compute (f : RegField) : (s.countMod f).compute = s.compute := rfl
@[simp] theorem State.countMod_net (f : RegField) : (s.countMod f).net = s.net := rfl
@[simp] theorem State.countMod_streams (f : RegField) : (s.countMod f).streams = s.streams := rfl
@[simp] theorem State.countMod_pair (f : RegField) : (s.countMod f).pair = s.pair := rfl
@[simp] theorem State.countMod_trust (f : RegField) : (s.countMod f).trust = s.trust := rfl
@[simp] theorem State.countMod_power (f : RegField) : (s.countMod f).power = s.power := rfl
@[simp] theorem State.countMod_hoop (f : RegField) : (s.countMod f).hoop = s.hoop := rfl
@[simp] theorem State.countMod_refsel (f : RegField) : (s.countMod f).refsel = s.refsel := rfl
@[simp] theorem State.countMod_alarm (f : RegField) : (s.countMod f).alarm = s.alarm := rfl
@[simp] theorem State.countMod_supv (f : RegField) : (s.countMod f).supv = s.supv := rfl
@[simp] theorem State.countMod_skein (f : RegField) : (s.countMod f).skein = s.skein := rfl
@[simp] theorem State.countMod_link (f : RegField) : (s.countMod f).link = s.link := rfl
@[simp] theorem State.countMod_matrix (f : RegField) : (s.countMod f).matrix = s.matrix := rfl
@[simp] theorem State.countMod_ports (f : RegField) : (s.countMod f).ports = s.ports := rfl

/-! ### `clearRegs` -/

@[simp] theorem State.clearRegs_pending (lo hi : Nat) : (s.clearRegs lo hi).pending = s.pending := rfl
@[simp] theorem State.clearRegs_now (lo hi : Nat) : (s.clearRegs lo hi).now = s.now := rfl
@[simp] theorem State.clearRegs_fv (lo hi : Nat) : (s.clearRegs lo hi).fv = s.fv := rfl
@[simp] theorem State.clearRegs_bus (lo hi : Nat) : (s.clearRegs lo hi).bus = s.bus := rfl
@[simp] theorem State.clearRegs_events (lo hi : Nat) : (s.clearRegs lo hi).events = s.events := rfl
@[simp] theorem State.clearRegs_mem (lo hi : Nat) : (s.clearRegs lo hi).mem = s.mem := rfl
@[simp] theorem State.clearRegs_ecc (lo hi : Nat) : (s.clearRegs lo hi).ecc = s.ecc := rfl
@[simp] theorem State.clearRegs_sys (lo hi : Nat) : (s.clearRegs lo hi).sys = s.sys := rfl
@[simp] theorem State.clearRegs_weave (lo hi : Nat) : (s.clearRegs lo hi).weave = s.weave := rfl
@[simp] theorem State.clearRegs_border (lo hi : Nat) : (s.clearRegs lo hi).border = s.border := rfl
@[simp] theorem State.clearRegs_compute (lo hi : Nat) : (s.clearRegs lo hi).compute = s.compute := rfl
@[simp] theorem State.clearRegs_net (lo hi : Nat) : (s.clearRegs lo hi).net = s.net := rfl
@[simp] theorem State.clearRegs_streams (lo hi : Nat) : (s.clearRegs lo hi).streams = s.streams := rfl
@[simp] theorem State.clearRegs_pair (lo hi : Nat) : (s.clearRegs lo hi).pair = s.pair := rfl
@[simp] theorem State.clearRegs_trust (lo hi : Nat) : (s.clearRegs lo hi).trust = s.trust := rfl
@[simp] theorem State.clearRegs_power (lo hi : Nat) : (s.clearRegs lo hi).power = s.power := rfl
@[simp] theorem State.clearRegs_hoop (lo hi : Nat) : (s.clearRegs lo hi).hoop = s.hoop := rfl
@[simp] theorem State.clearRegs_refsel (lo hi : Nat) : (s.clearRegs lo hi).refsel = s.refsel := rfl
@[simp] theorem State.clearRegs_alarm (lo hi : Nat) : (s.clearRegs lo hi).alarm = s.alarm := rfl
@[simp] theorem State.clearRegs_supv (lo hi : Nat) : (s.clearRegs lo hi).supv = s.supv := rfl
@[simp] theorem State.clearRegs_skein (lo hi : Nat) : (s.clearRegs lo hi).skein = s.skein := rfl
@[simp] theorem State.clearRegs_link (lo hi : Nat) : (s.clearRegs lo hi).link = s.link := rfl
@[simp] theorem State.clearRegs_matrix (lo hi : Nat) : (s.clearRegs lo hi).matrix = s.matrix := rfl
@[simp] theorem State.clearRegs_ports (lo hi : Nat) : (s.clearRegs lo hi).ports = s.ports := rfl

/-! ### `ok` -/

@[simp] theorem State.ok_pending (v : Word) : (s.ok v).pending = s.pending := rfl
@[simp] theorem State.ok_now (v : Word) : (s.ok v).now = s.now := rfl
@[simp] theorem State.ok_fv (v : Word) : (s.ok v).fv = s.fv := rfl
@[simp] theorem State.ok_events (v : Word) : (s.ok v).events = s.events := rfl
@[simp] theorem State.ok_regs (v : Word) : (s.ok v).regs = s.regs := rfl
@[simp] theorem State.ok_mem (v : Word) : (s.ok v).mem = s.mem := rfl
@[simp] theorem State.ok_ecc (v : Word) : (s.ok v).ecc = s.ecc := rfl
@[simp] theorem State.ok_sys (v : Word) : (s.ok v).sys = s.sys := rfl
@[simp] theorem State.ok_weave (v : Word) : (s.ok v).weave = s.weave := rfl
@[simp] theorem State.ok_border (v : Word) : (s.ok v).border = s.border := rfl
@[simp] theorem State.ok_compute (v : Word) : (s.ok v).compute = s.compute := rfl
@[simp] theorem State.ok_net (v : Word) : (s.ok v).net = s.net := rfl
@[simp] theorem State.ok_streams (v : Word) : (s.ok v).streams = s.streams := rfl
@[simp] theorem State.ok_pair (v : Word) : (s.ok v).pair = s.pair := rfl
@[simp] theorem State.ok_trust (v : Word) : (s.ok v).trust = s.trust := rfl
@[simp] theorem State.ok_power (v : Word) : (s.ok v).power = s.power := rfl
@[simp] theorem State.ok_hoop (v : Word) : (s.ok v).hoop = s.hoop := rfl
@[simp] theorem State.ok_refsel (v : Word) : (s.ok v).refsel = s.refsel := rfl
@[simp] theorem State.ok_alarm (v : Word) : (s.ok v).alarm = s.alarm := rfl
@[simp] theorem State.ok_supv (v : Word) : (s.ok v).supv = s.supv := rfl
@[simp] theorem State.ok_skein (v : Word) : (s.ok v).skein = s.skein := rfl
@[simp] theorem State.ok_link (v : Word) : (s.ok v).link = s.link := rfl
@[simp] theorem State.ok_matrix (v : Word) : (s.ok v).matrix = s.matrix := rfl
@[simp] theorem State.ok_ports (v : Word) : (s.ok v).ports = s.ports := rfl

/-! ### `err` -/

@[simp] theorem State.err_pending : (s.err).pending = s.pending := rfl
@[simp] theorem State.err_now : (s.err).now = s.now := rfl
@[simp] theorem State.err_fv : (s.err).fv = s.fv := rfl
@[simp] theorem State.err_events : (s.err).events = s.events := rfl
@[simp] theorem State.err_regs : (s.err).regs = s.regs := rfl
@[simp] theorem State.err_mem : (s.err).mem = s.mem := rfl
@[simp] theorem State.err_ecc : (s.err).ecc = s.ecc := rfl
@[simp] theorem State.err_sys : (s.err).sys = s.sys := rfl
@[simp] theorem State.err_weave : (s.err).weave = s.weave := rfl
@[simp] theorem State.err_border : (s.err).border = s.border := rfl
@[simp] theorem State.err_compute : (s.err).compute = s.compute := rfl
@[simp] theorem State.err_net : (s.err).net = s.net := rfl
@[simp] theorem State.err_streams : (s.err).streams = s.streams := rfl
@[simp] theorem State.err_pair : (s.err).pair = s.pair := rfl
@[simp] theorem State.err_trust : (s.err).trust = s.trust := rfl
@[simp] theorem State.err_power : (s.err).power = s.power := rfl
@[simp] theorem State.err_hoop : (s.err).hoop = s.hoop := rfl
@[simp] theorem State.err_refsel : (s.err).refsel = s.refsel := rfl
@[simp] theorem State.err_alarm : (s.err).alarm = s.alarm := rfl
@[simp] theorem State.err_supv : (s.err).supv = s.supv := rfl
@[simp] theorem State.err_skein : (s.err).skein = s.skein := rfl
@[simp] theorem State.err_link : (s.err).link = s.link := rfl
@[simp] theorem State.err_matrix : (s.err).matrix = s.matrix := rfl
@[simp] theorem State.err_ports : (s.err).ports = s.ports := rfl

/-! ### `setByte` -/

@[simp] theorem State.setByte_pending (a : Nat) (v : Byte) : (s.setByte a v).pending = s.pending := rfl
@[simp] theorem State.setByte_now (a : Nat) (v : Byte) : (s.setByte a v).now = s.now := rfl
@[simp] theorem State.setByte_fv (a : Nat) (v : Byte) : (s.setByte a v).fv = s.fv := rfl
@[simp] theorem State.setByte_bus (a : Nat) (v : Byte) : (s.setByte a v).bus = s.bus := rfl
@[simp] theorem State.setByte_events (a : Nat) (v : Byte) : (s.setByte a v).events = s.events := rfl
@[simp] theorem State.setByte_regs (a : Nat) (v : Byte) : (s.setByte a v).regs = s.regs := rfl
@[simp] theorem State.setByte_ecc (a : Nat) (v : Byte) : (s.setByte a v).ecc = s.ecc := rfl
@[simp] theorem State.setByte_sys (a : Nat) (v : Byte) : (s.setByte a v).sys = s.sys := rfl
@[simp] theorem State.setByte_weave (a : Nat) (v : Byte) : (s.setByte a v).weave = s.weave := rfl
@[simp] theorem State.setByte_border (a : Nat) (v : Byte) : (s.setByte a v).border = s.border := rfl
@[simp] theorem State.setByte_compute (a : Nat) (v : Byte) : (s.setByte a v).compute = s.compute := rfl
@[simp] theorem State.setByte_net (a : Nat) (v : Byte) : (s.setByte a v).net = s.net := rfl
@[simp] theorem State.setByte_streams (a : Nat) (v : Byte) : (s.setByte a v).streams = s.streams := rfl
@[simp] theorem State.setByte_pair (a : Nat) (v : Byte) : (s.setByte a v).pair = s.pair := rfl
@[simp] theorem State.setByte_trust (a : Nat) (v : Byte) : (s.setByte a v).trust = s.trust := rfl
@[simp] theorem State.setByte_power (a : Nat) (v : Byte) : (s.setByte a v).power = s.power := rfl
@[simp] theorem State.setByte_hoop (a : Nat) (v : Byte) : (s.setByte a v).hoop = s.hoop := rfl
@[simp] theorem State.setByte_refsel (a : Nat) (v : Byte) : (s.setByte a v).refsel = s.refsel := rfl
@[simp] theorem State.setByte_alarm (a : Nat) (v : Byte) : (s.setByte a v).alarm = s.alarm := rfl
@[simp] theorem State.setByte_supv (a : Nat) (v : Byte) : (s.setByte a v).supv = s.supv := rfl
@[simp] theorem State.setByte_skein (a : Nat) (v : Byte) : (s.setByte a v).skein = s.skein := rfl
@[simp] theorem State.setByte_link (a : Nat) (v : Byte) : (s.setByte a v).link = s.link := rfl
@[simp] theorem State.setByte_matrix (a : Nat) (v : Byte) : (s.setByte a v).matrix = s.matrix := rfl
@[simp] theorem State.setByte_ports (a : Nat) (v : Byte) : (s.setByte a v).ports = s.ports := rfl

/-! ### `clearMem` -/

@[simp] theorem State.clearMem_pending (lo hi : Nat) : (s.clearMem lo hi).pending = s.pending := rfl
@[simp] theorem State.clearMem_now (lo hi : Nat) : (s.clearMem lo hi).now = s.now := rfl
@[simp] theorem State.clearMem_fv (lo hi : Nat) : (s.clearMem lo hi).fv = s.fv := rfl
@[simp] theorem State.clearMem_bus (lo hi : Nat) : (s.clearMem lo hi).bus = s.bus := rfl
@[simp] theorem State.clearMem_events (lo hi : Nat) : (s.clearMem lo hi).events = s.events := rfl
@[simp] theorem State.clearMem_regs (lo hi : Nat) : (s.clearMem lo hi).regs = s.regs := rfl
@[simp] theorem State.clearMem_ecc (lo hi : Nat) : (s.clearMem lo hi).ecc = s.ecc := rfl
@[simp] theorem State.clearMem_sys (lo hi : Nat) : (s.clearMem lo hi).sys = s.sys := rfl
@[simp] theorem State.clearMem_weave (lo hi : Nat) : (s.clearMem lo hi).weave = s.weave := rfl
@[simp] theorem State.clearMem_border (lo hi : Nat) : (s.clearMem lo hi).border = s.border := rfl
@[simp] theorem State.clearMem_compute (lo hi : Nat) : (s.clearMem lo hi).compute = s.compute := rfl
@[simp] theorem State.clearMem_net (lo hi : Nat) : (s.clearMem lo hi).net = s.net := rfl
@[simp] theorem State.clearMem_streams (lo hi : Nat) : (s.clearMem lo hi).streams = s.streams := rfl
@[simp] theorem State.clearMem_pair (lo hi : Nat) : (s.clearMem lo hi).pair = s.pair := rfl
@[simp] theorem State.clearMem_trust (lo hi : Nat) : (s.clearMem lo hi).trust = s.trust := rfl
@[simp] theorem State.clearMem_power (lo hi : Nat) : (s.clearMem lo hi).power = s.power := rfl
@[simp] theorem State.clearMem_hoop (lo hi : Nat) : (s.clearMem lo hi).hoop = s.hoop := rfl
@[simp] theorem State.clearMem_refsel (lo hi : Nat) : (s.clearMem lo hi).refsel = s.refsel := rfl
@[simp] theorem State.clearMem_alarm (lo hi : Nat) : (s.clearMem lo hi).alarm = s.alarm := rfl
@[simp] theorem State.clearMem_supv (lo hi : Nat) : (s.clearMem lo hi).supv = s.supv := rfl
@[simp] theorem State.clearMem_skein (lo hi : Nat) : (s.clearMem lo hi).skein = s.skein := rfl
@[simp] theorem State.clearMem_link (lo hi : Nat) : (s.clearMem lo hi).link = s.link := rfl
@[simp] theorem State.clearMem_matrix (lo hi : Nat) : (s.clearMem lo hi).matrix = s.matrix := rfl
@[simp] theorem State.clearMem_ports (lo hi : Nat) : (s.clearMem lo hi).ports = s.ports := rfl

/-! ### Reading registers -/

theorem State.reg_setReg (a b : Nat) (v : Word) : (s.setReg a v).reg b = if b = a then v else s.reg b :=
  mget_mset _ _ _ _ _

@[simp] theorem State.reg_setReg_self (a : Nat) (v : Word) : (s.setReg a v).reg a = v := by simp [State.reg_setReg]

theorem State.reg_setReg_ne {a b : Nat} (h : b ≠ a) (v : Word) : (s.setReg a v).reg b = s.reg b := by
  simp [State.reg_setReg, h]

theorem State.reg_sf (f : RegField) (v b : Nat) :
    (s.sf f v).reg b = if b = f.reg then setBits (s.reg f.reg) f.hi f.lo v else s.reg b := State.reg_setReg s _ _ _

theorem State.reg_sf_ne {f : RegField} {b : Nat} (h : b ≠ f.reg) (v : Nat) : (s.sf f v).reg b = s.reg b := by
  simp [State.reg_sf, h]

@[simp] theorem State.reg_noteEvent (a b : Nat) (v : Word) : (s.noteEvent a v).reg b = s.reg b := rfl

@[simp] theorem State.rf_noteEvent (a : Nat) (v : Word) (f : RegField) : (s.noteEvent a v).rf f = s.rf f := rfl

theorem State.reg_raise_ne {f : RegField} {b : Nat} (h : b ≠ f.reg) : (s.raise f).reg b = s.reg b :=
  State.reg_sf_ne s h 1

/-- A field of a register reads what was written into it. -/
theorem State.rf_sf_self (f : RegField) (v : Nat) (h : f.lo ≤ f.hi) (h32 : f.hi < 32) :
    (s.sf f v).rf f = v % 2 ^ (f.hi + 1 - f.lo) := by
  rw [State.rf, State.reg_sf, if_pos rfl, bitsOf_setBits_self _ _ h h32]

/-- A field of another register, or apart in the same one, reads as before. -/
theorem State.rf_sf_ne {f g : RegField} (v : Nat) (h : f.lo ≤ f.hi) (h32 : f.hi < 32)
    (hd : g.reg ≠ f.reg ∨ g.hi < f.lo ∨ f.hi < g.lo) : (s.sf f v).rf g = s.rf g := by
  rw [State.rf, State.rf, State.reg_sf]
  split
  · next hg =>
    rcases hd with hd | hd
    · exact absurd hg hd
    · rw [hg, bitsOf_setBits_ne _ _ h h32 hd]
  · rfl

theorem State.flag_raise_self (f : RegField) (h : f.lo = f.hi) (h32 : f.hi < 32) : (s.raise f).flag f = true := by
  rw [State.flag, State.raise, State.rf_noteEvent, State.rf_sf_self s f 1 (Nat.le_of_eq h) h32, h]; simp

@[simp] theorem State.reg_ok (v : Word) (a : Nat) : (s.ok v).reg a = s.reg a := rfl
@[simp] theorem State.reg_err (a : Nat) : s.err.reg a = s.reg a := rfl
@[simp] theorem State.rf_ok (v : Word) (f : RegField) : (s.ok v).rf f = s.rf f := rfl
@[simp] theorem State.flag_ok (v : Word) (f : RegField) : (s.ok v).flag f = s.flag f := rfl
@[simp] theorem State.ok_bus (v : Word) : (s.ok v).bus = { err := false, data := v } := rfl
@[simp] theorem State.err_bus : s.err.bus = { err := true, data := 0#32 } := rfl
@[simp] theorem State.reg_setByte (a : Nat) (v : Byte) (b : Nat) : (s.setByte a v).reg b = s.reg b := rfl

/-! ### Memory -/

theorem State.byte_setByte (a b : Nat) (v : Byte) : (s.setByte a v).byte b = if b = a then v else s.byte b :=
  mget_mset _ _ _ _ _

@[simp] theorem State.byte_setReg (a : Nat) (v : Word) (b : Nat) : (s.setReg a v).byte b = s.byte b := rfl
@[simp] theorem State.byte_sf (f : RegField) (v b : Nat) : (s.sf f v).byte b = s.byte b := rfl

theorem State.byte_setBytes (l : List Byte) (a b : Nat) (s : State) (h : b < a ∨ a + l.length ≤ b) :
    (s.setBytes a l).byte b = s.byte b := by
  induction l generalizing a s with
  | nil => rfl
  | cons x t ih =>
    simp only [List.length_cons] at h
    rw [State.setBytes, ih (a + 1) _ (by omega), State.byte_setByte, if_neg (by omega)]

/-! ### The canonical form -/

theorem State.canonical_iff : s.canonical = true ↔ mwf memReset s.mem = true ∧ mwf regReset s.regs = true := by
  simp [State.canonical]

theorem State.canonical_setReg {s : State} (h : s.canonical = true) (a : Nat) (v : Word) :
    (s.setReg a v).canonical = true := by
  rw [State.canonical_iff] at *
  exact ⟨h.1, mwf_mset h.2 a v⟩

theorem State.canonical_sf {s : State} (h : s.canonical = true) (f : RegField) (v : Nat) :
    (s.sf f v).canonical = true := State.canonical_setReg h _ _

theorem State.canonical_setByte {s : State} (h : s.canonical = true) (a : Nat) (v : Byte) :
    (s.setByte a v).canonical = true := by
  rw [State.canonical_iff] at *
  exact ⟨mwf_mset h.1 a v, h.2⟩

theorem State.canonical_setBytes (l : List Byte) {s : State} (h : s.canonical = true) (a : Nat) :
    (s.setBytes a l).canonical = true := by
  induction l generalizing a s with
  | nil => exact h
  | cons x t ih => exact ih (State.canonical_setByte h a x) (a + 1)

theorem State.canonical_clearRegs {s : State} (h : s.canonical = true) (lo hi : Nat) :
    (s.clearRegs lo hi).canonical = true := by
  rw [State.canonical_iff] at *
  exact ⟨h.1, mwf_filter h.2 _⟩

theorem State.canonical_clearMem {s : State} (h : s.canonical = true) (lo hi : Nat) :
    (s.clearMem lo hi).canonical = true := by
  rw [State.canonical_iff] at *
  exact ⟨mwf_filter h.1 _, h.2⟩

/-! ### Memory alone -/

theorem Memory.wf_reset : Memory.wf State.reset.mem = true := rfl

theorem Memory.wf_setByte {s : State} (h : Memory.wf s.mem = true) (a : Nat) (v : Byte) :
    Memory.wf (s.setByte a v).mem = true := mwf_mset h a v

theorem Memory.wf_setBytes (l : List Byte) {s : State} (h : Memory.wf s.mem = true) (a : Nat) :
    Memory.wf (s.setBytes a l).mem = true := by
  induction l generalizing a s with
  | nil => exact h
  | cons x t ih => exact ih (Memory.wf_setByte h a x) (a + 1)

theorem Memory.wf_setWords (l : List Word) {s : State} (h : Memory.wf s.mem = true) (a : Nat) :
    Memory.wf (s.setWords a l).mem = true := by
  induction l generalizing a s with
  | nil => exact h
  | cons x t ih => exact ih (Memory.wf_setBytes _ h a) (a + 4)

theorem Memory.wf_clearMem {s : State} (h : Memory.wf s.mem = true) (lo hi : Nat) :
    Memory.wf (s.clearMem lo hi).mem = true := mwf_filter h _

end Sys2Proof.Machine
end

