-- ==== Sys2Proof/Laws/Access.lean ====
section
/-! SUPPORT. Laws/Access.lean: what the shared access operation, the record of an error response, a log record and a sent
message can do, said once. -/
namespace Sys2Proof.Machine

variable {s : State}

/-! ### Frames compose -/

theorem Frame.refl (regs : List Nat) (pieces : List Piece) (s : State) : Frame regs pieces s s :=
  ⟨fun _ _ => rfl, fun p _ => by cases p <;> simp [Piece.same]⟩

theorem Piece.same_trans {s t u : State} {p : Piece} (h1 : p.same s t) (h2 : p.same t u) : p.same s u := by
  cases p <;> simp_all [Piece.same]

theorem Frame.trans {regs : List Nat} {pieces : List Piece} {s t u : State} (h1 : Frame regs pieces s t)
    (h2 : Frame regs pieces t u) : Frame regs pieces s u :=
  ⟨fun a h => (h2.1 a h).trans (h1.1 a h), fun p h => Piece.same_trans (h1.2 p h) (h2.2 p h)⟩

/-- A frame holds of every larger list. -/
theorem Frame.mono {r1 r2 : List Nat} {p1 p2 : List Piece} {s t : State} (h : Frame r1 p1 s t) (hr : ∀ a ∈ r1, a ∈ r2)
    (hp : ∀ p ∈ p1, p ∈ p2) : Frame r2 p2 s t :=
  ⟨fun a h' => h.1 a fun x => h' (hr a x), fun p h' => h.2 p fun x => h' (hp p x)⟩

/-! ### One update of the state -/

theorem Frame.setReg (s : State) (a : Nat) (v : Word) : Frame [a] [] s (s.setReg a v) := by
  refine ⟨fun b h => ?_, fun p _ => by cases p <;> simp [Piece.same]⟩
  exact mget_mset_ne _ _ (by simpa using h) _

theorem Frame.sf (s : State) (f : RegField) (v : Nat) : Frame [f.reg] [] s (s.sf f v) := Frame.setReg s _ _

theorem Frame.noteEvent (s : State) (a : Nat) (v : Word) : Frame [] [] s (s.noteEvent a v) :=
  ⟨fun _ _ => rfl, fun p _ => by cases p <;> first | rfl | exact fun _ => rfl⟩

theorem Frame.raise (s : State) (f : RegField) : Frame [f.reg] [] s (s.raise f) :=
  (Frame.setReg s _ _).trans ((Frame.noteEvent _ _ _).mono (by simp) (by simp))

theorem Frame.err (s : State) : Frame [] [.bus] s s.err :=
  ⟨fun _ _ => rfl, fun p h => by cases p <;> simp_all [Piece.same, State.err, State.byte]⟩

theorem Frame.ok (s : State) (v : Word) : Frame [] [.bus] s (s.ok v) :=
  ⟨fun _ _ => rfl, fun p h => by cases p <;> simp_all [Piece.same, State.ok, State.byte]⟩

/-! ### Error responses (R454, R476) -/

/-- An error response of a kind that no host rule gives changes the error record and the last access alone. -/
theorem State.errRec_frame (s : State) (p : Nat) (k : ErrKind) (w : Bool) (a : Nat) (h : k ≠ .host) :
    Frame errRegs [.bus] s (s.errRec p k w a) := by
  have r (t : State) (x : Nat) (v : Word) (hx : x ∈ errRegs) : Frame errRegs [.bus] t (t.setReg x v) :=
    (Frame.setReg t x v).mono (by simpa using hx) (by simp)
  have e (t : State) : Frame errRegs [.bus] t t.err := (Frame.err t).mono (by simp) (by simp)
  have n (t : State) (x v : Nat) (hx : x ∈ errRegs) : Frame errRegs [.bus] t (t.setRegN x v) := r t x _ hx
  have g (t : State) (f : RegField) (hx : f.reg ∈ errRegs) : Frame errRegs [.bus] t (t.raise f) :=
    (Frame.raise t f).mono (by simpa using hx) (by simp)
  have five (t : State) (x y z : Nat) : Frame errRegs [.bus] t ((((t.setRegN Reg.MATRIX_ERR_INFO x).setRegN
      Reg.MATRIX_ERR_ADDR_LO y).setRegN Reg.MATRIX_ERR_ADDR_HI z)) :=
    ((n _ _ _ (by simp [errRegs])).trans (n _ _ _ (by simp [errRegs]))).trans (n _ _ _ (by simp [errRegs]))
  have rest (t : State) (v : Word) : Frame errRegs [.bus] t ((t.setReg Reg.MATRIX_ERR_CNT v).raise Reg.MATRIX_EVT_ERR) :=
    (r _ _ _ (by simp [errRegs])).trans (g _ _ (by simp [errRegs]))
  have stall (t : State) : Frame errRegs [.bus] t (t.raise Reg.MATRIX_EVT_STALL) := g _ _ (by simp [errRegs])
  cases k with
  | host => exact absurd rfl h
  | stall => exact (((five _ _ _ _).trans (rest _ _)).trans (stall _)).trans (e _)
  | nopath => exact ((five _ _ _ _).trans (rest _ _)).trans (e _)
  | align => exact ((five _ _ _ _).trans (rest _ _)).trans (e _)
  | unpop => exact ((five _ _ _ _).trans (rest _ _)).trans (e _)
  | block => exact ((five _ _ _ _).trans (rest _ _)).trans (e _)

theorem State.errRec_bus (s : State) (p : Nat) (k : ErrKind) (w : Bool) (a : Nat) : (s.errRec p k w a).bus = ⟨true, 0#32⟩ := by
  unfold State.errRec
  cases k <;> rfl

/-! ### Register accesses (R453, R454, R459) -/

/-- What `reaches` says: the port is accepted, the paths let the access through, and the register is not a CLUSTER one. -/
theorem State.reaches_iff {a : Agent} {reg : Nat} {w : Bool} :
    s.reaches a reg w = true ↔ s.accepted a.val = true ∧ s.pathErr a.val reg w = none ∧ reg < 0x1000000 := by
  simp [State.reaches, Nat.blt_eq, and_assoc]

/-- An access that reaches its block does what the block does, and an error of the block is recorded. -/
theorem State.access_reaches {a : Agent} {reg : Nat} {w : Bool} {v : Word} {f : State → State}
    (h : s.reaches a reg w = true) :
    s.access a.val reg w v f = (if (f (s.ok 0#32)).bus.err then (f (s.ok 0#32)).errRec a.val .block w (errAddr a.val reg w)
      else f (s.ok 0#32)) := by
  obtain ⟨h1, h2, h3⟩ := State.reaches_iff.mp h
  have h4 : s.regAsleep reg = false := by
    have : Nat.ble 0x1000000 reg = false := by
      rw [Bool.eq_false_iff, Ne, Nat.ble_eq]; omega
    simp [State.regAsleep, this]
  simp only [State.access, h1, h2, h4, if_true, if_neg (Nat.not_le.mpr h3)]
  rfl

/-- A write that reaches its block and that the block accepts leaves what the block leaves. -/
theorem State.regWrite_ok {a : Agent} {reg : Nat} {v : Word} {f : State → State} (h : s.reaches a reg true = true)
    (hf : (f (s.ok 0#32)).bus.err = false) : s.regWrite a reg v f = f (s.ok 0#32) := by
  rw [State.regWrite, State.access_reaches h, hf]
  rfl

/-- A write that the block refuses is an error response of kind BLOCK. -/
theorem State.regWrite_err {a : Agent} {reg : Nat} {v : Word} {f : State → State} (h : s.reaches a reg true = true)
    (hf : (f (s.ok 0#32)).bus.err = true) :
    s.regWrite a reg v f = (f (s.ok 0#32)).errRec a.val .block true (errAddr a.val reg true) := by
  rw [State.regWrite, State.access_reaches h, hf]
  rfl

/-- A port that is not accepted does nothing. -/
theorem State.access_ignored {a reg : Nat} {w : Bool} {v : Word} {f : State → State} (h : s.accepted a = false) :
    s.access a reg w v f = s := by
  simp [State.access, h]

/-! ### The log (R423) -/

/-- A log record is added at the end, and nothing else changes but the wear event. -/
theorem State.logRec_log (s : State) (ty : Nat) (l : List Nat) :
    (s.logRec ty l).trust.log = s.trust.log ++ [⟨ty, s.trust.logSeq, s.sys.roundNo, l⟩] := by
  unfold State.logRec
  dsimp only
  split <;> rfl

theorem State.logRec_frame (s : State) (ty : Nat) (l : List Nat) : Frame [Reg.TRUST_EVT] [.trust] s (s.logRec ty l) := by
  unfold State.logRec
  dsimp only
  split
  · refine ⟨fun b h => mget_mset_ne _ _ (by simpa using h) _, fun p h => ?_⟩
    cases p <;> simp_all [Piece.same, State.byte, State.raise, State.sf]
  · exact ⟨fun _ _ => rfl, fun p h => by cases p <;> simp_all [Piece.same, State.byte]⟩

end Sys2Proof.Machine
end

