-- ==== Sys2Proof/Laws/Arch.lean ====
section
/-! SUPPORT. Laws/Arch.lean: what each update of a stake's registers leaves of each field, and what registers, accumulators
and bits of ST read after it. -/
namespace Sys2Proof.Machine

variable (r : Arch)

@[simp] theorem Arch.setD_a (i : Nat) (v : Word) : (r.setD i v).a = r.a := rfl
@[simp] theorem Arch.setD_p (i : Nat) (v : Word) : (r.setD i v).p = r.p := rfl
@[simp] theorem Arch.setD_m (i : Nat) (v : Word) : (r.setD i v).m = r.m := rfl
@[simp] theorem Arch.setD_b (i : Nat) (v : Word) : (r.setD i v).b = r.b := rfl
@[simp] theorem Arch.setD_l (i : Nat) (v : Word) : (r.setD i v).l = r.l := rfl
@[simp] theorem Arch.setD_lc (i : Nat) (v : Word) : (r.setD i v).lc = r.lc := rfl
@[simp] theorem Arch.setD_st (i : Nat) (v : Word) : (r.setD i v).st = r.st := rfl
@[simp] theorem Arch.setD_pc (i : Nat) (v : Word) : (r.setD i v).pc = r.pc := rfl
@[simp] theorem Arch.setD_ret (i : Nat) (v : Word) : (r.setD i v).ret = r.ret := rfl
@[simp] theorem Arch.setD_levels (i : Nat) (v : Word) : (r.setD i v).levels = r.levels := rfl
@[simp] theorem Arch.setD_rovg (i : Nat) (v : Word) : (r.setD i v).rovg = r.rovg := rfl
@[simp] theorem Arch.setD_rsat (i : Nat) (v : Word) : (r.setD i v).rsat = r.rsat := rfl
@[simp] theorem Arch.setD_raccv (i : Nat) (v : Word) : (r.setD i v).raccv = r.raccv := rfl
@[simp] theorem Arch.setD_stores (i : Nat) (v : Word) : (r.setD i v).stores = r.stores := rfl

@[simp] theorem Arch.putA_d (n : Nat) (v : Acc) : (r.putA n v).d = r.d := rfl
@[simp] theorem Arch.putA_p (n : Nat) (v : Acc) : (r.putA n v).p = r.p := rfl
@[simp] theorem Arch.putA_m (n : Nat) (v : Acc) : (r.putA n v).m = r.m := rfl
@[simp] theorem Arch.putA_b (n : Nat) (v : Acc) : (r.putA n v).b = r.b := rfl
@[simp] theorem Arch.putA_l (n : Nat) (v : Acc) : (r.putA n v).l = r.l := rfl
@[simp] theorem Arch.putA_lc (n : Nat) (v : Acc) : (r.putA n v).lc = r.lc := rfl
@[simp] theorem Arch.putA_st (n : Nat) (v : Acc) : (r.putA n v).st = r.st := rfl
@[simp] theorem Arch.putA_pc (n : Nat) (v : Acc) : (r.putA n v).pc = r.pc := rfl
@[simp] theorem Arch.putA_ret (n : Nat) (v : Acc) : (r.putA n v).ret = r.ret := rfl
@[simp] theorem Arch.putA_levels (n : Nat) (v : Acc) : (r.putA n v).levels = r.levels := rfl
@[simp] theorem Arch.putA_rovg (n : Nat) (v : Acc) : (r.putA n v).rovg = r.rovg := rfl
@[simp] theorem Arch.putA_rsat (n : Nat) (v : Acc) : (r.putA n v).rsat = r.rsat := rfl
@[simp] theorem Arch.putA_raccv (n : Nat) (v : Acc) : (r.putA n v).raccv = r.raccv := rfl
@[simp] theorem Arch.putA_stores (n : Nat) (v : Acc) : (r.putA n v).stores = r.stores := rfl

@[simp] theorem Arch.setP_d (n : Nat) (v : BitVec 20) : (r.setP n v).d = r.d := rfl
@[simp] theorem Arch.setP_a (n : Nat) (v : BitVec 20) : (r.setP n v).a = r.a := rfl
@[simp] theorem Arch.setP_m (n : Nat) (v : BitVec 20) : (r.setP n v).m = r.m := rfl
@[simp] theorem Arch.setP_b (n : Nat) (v : BitVec 20) : (r.setP n v).b = r.b := rfl
@[simp] theorem Arch.setP_l (n : Nat) (v : BitVec 20) : (r.setP n v).l = r.l := rfl
@[simp] theorem Arch.setP_lc (n : Nat) (v : BitVec 20) : (r.setP n v).lc = r.lc := rfl
@[simp] theorem Arch.setP_st (n : Nat) (v : BitVec 20) : (r.setP n v).st = r.st := rfl
@[simp] theorem Arch.setP_pc (n : Nat) (v : BitVec 20) : (r.setP n v).pc = r.pc := rfl
@[simp] theorem Arch.setP_ret (n : Nat) (v : BitVec 20) : (r.setP n v).ret = r.ret := rfl
@[simp] theorem Arch.setP_levels (n : Nat) (v : BitVec 20) : (r.setP n v).levels = r.levels := rfl
@[simp] theorem Arch.setP_rovg (n : Nat) (v : BitVec 20) : (r.setP n v).rovg = r.rovg := rfl
@[simp] theorem Arch.setP_rsat (n : Nat) (v : BitVec 20) : (r.setP n v).rsat = r.rsat := rfl
@[simp] theorem Arch.setP_raccv (n : Nat) (v : BitVec 20) : (r.setP n v).raccv = r.raccv := rfl
@[simp] theorem Arch.setP_stores (n : Nat) (v : BitVec 20) : (r.setP n v).stores = r.stores := rfl

@[simp] theorem Arch.setM_d (n : Nat) (v : BitVec 20) : (r.setM n v).d = r.d := rfl
@[simp] theorem Arch.setM_a (n : Nat) (v : BitVec 20) : (r.setM n v).a = r.a := rfl
@[simp] theorem Arch.setM_p (n : Nat) (v : BitVec 20) : (r.setM n v).p = r.p := rfl
@[simp] theorem Arch.setM_b (n : Nat) (v : BitVec 20) : (r.setM n v).b = r.b := rfl
@[simp] theorem Arch.setM_l (n : Nat) (v : BitVec 20) : (r.setM n v).l = r.l := rfl
@[simp] theorem Arch.setM_lc (n : Nat) (v : BitVec 20) : (r.setM n v).lc = r.lc := rfl
@[simp] theorem Arch.setM_st (n : Nat) (v : BitVec 20) : (r.setM n v).st = r.st := rfl
@[simp] theorem Arch.setM_pc (n : Nat) (v : BitVec 20) : (r.setM n v).pc = r.pc := rfl
@[simp] theorem Arch.setM_ret (n : Nat) (v : BitVec 20) : (r.setM n v).ret = r.ret := rfl
@[simp] theorem Arch.setM_levels (n : Nat) (v : BitVec 20) : (r.setM n v).levels = r.levels := rfl
@[simp] theorem Arch.setM_rovg (n : Nat) (v : BitVec 20) : (r.setM n v).rovg = r.rovg := rfl
@[simp] theorem Arch.setM_rsat (n : Nat) (v : BitVec 20) : (r.setM n v).rsat = r.rsat := rfl
@[simp] theorem Arch.setM_raccv (n : Nat) (v : BitVec 20) : (r.setM n v).raccv = r.raccv := rfl
@[simp] theorem Arch.setM_stores (n : Nat) (v : BitVec 20) : (r.setM n v).stores = r.stores := rfl

@[simp] theorem Arch.setB_d (n : Nat) (v : BitVec 20) : (r.setB n v).d = r.d := rfl
@[simp] theorem Arch.setB_a (n : Nat) (v : BitVec 20) : (r.setB n v).a = r.a := rfl
@[simp] theorem Arch.setB_p (n : Nat) (v : BitVec 20) : (r.setB n v).p = r.p := rfl
@[simp] theorem Arch.setB_m (n : Nat) (v : BitVec 20) : (r.setB n v).m = r.m := rfl
@[simp] theorem Arch.setB_l (n : Nat) (v : BitVec 20) : (r.setB n v).l = r.l := rfl
@[simp] theorem Arch.setB_lc (n : Nat) (v : BitVec 20) : (r.setB n v).lc = r.lc := rfl
@[simp] theorem Arch.setB_st (n : Nat) (v : BitVec 20) : (r.setB n v).st = r.st := rfl
@[simp] theorem Arch.setB_pc (n : Nat) (v : BitVec 20) : (r.setB n v).pc = r.pc := rfl
@[simp] theorem Arch.setB_ret (n : Nat) (v : BitVec 20) : (r.setB n v).ret = r.ret := rfl
@[simp] theorem Arch.setB_levels (n : Nat) (v : BitVec 20) : (r.setB n v).levels = r.levels := rfl
@[simp] theorem Arch.setB_rovg (n : Nat) (v : BitVec 20) : (r.setB n v).rovg = r.rovg := rfl
@[simp] theorem Arch.setB_rsat (n : Nat) (v : BitVec 20) : (r.setB n v).rsat = r.rsat := rfl
@[simp] theorem Arch.setB_raccv (n : Nat) (v : BitVec 20) : (r.setB n v).raccv = r.raccv := rfl
@[simp] theorem Arch.setB_stores (n : Nat) (v : BitVec 20) : (r.setB n v).stores = r.stores := rfl

@[simp] theorem Arch.setL_d (n : Nat) (v : BitVec 20) : (r.setL n v).d = r.d := rfl
@[simp] theorem Arch.setL_a (n : Nat) (v : BitVec 20) : (r.setL n v).a = r.a := rfl
@[simp] theorem Arch.setL_p (n : Nat) (v : BitVec 20) : (r.setL n v).p = r.p := rfl
@[simp] theorem Arch.setL_m (n : Nat) (v : BitVec 20) : (r.setL n v).m = r.m := rfl
@[simp] theorem Arch.setL_b (n : Nat) (v : BitVec 20) : (r.setL n v).b = r.b := rfl
@[simp] theorem Arch.setL_lc (n : Nat) (v : BitVec 20) : (r.setL n v).lc = r.lc := rfl
@[simp] theorem Arch.setL_st (n : Nat) (v : BitVec 20) : (r.setL n v).st = r.st := rfl
@[simp] theorem Arch.setL_pc (n : Nat) (v : BitVec 20) : (r.setL n v).pc = r.pc := rfl
@[simp] theorem Arch.setL_ret (n : Nat) (v : BitVec 20) : (r.setL n v).ret = r.ret := rfl
@[simp] theorem Arch.setL_levels (n : Nat) (v : BitVec 20) : (r.setL n v).levels = r.levels := rfl
@[simp] theorem Arch.setL_rovg (n : Nat) (v : BitVec 20) : (r.setL n v).rovg = r.rovg := rfl
@[simp] theorem Arch.setL_rsat (n : Nat) (v : BitVec 20) : (r.setL n v).rsat = r.rsat := rfl
@[simp] theorem Arch.setL_raccv (n : Nat) (v : BitVec 20) : (r.setL n v).raccv = r.raccv := rfl
@[simp] theorem Arch.setL_stores (n : Nat) (v : BitVec 20) : (r.setL n v).stores = r.stores := rfl

@[simp] theorem Arch.setLc_d (n : Nat) (v : BitVec 16) : (r.setLc n v).d = r.d := rfl
@[simp] theorem Arch.setLc_a (n : Nat) (v : BitVec 16) : (r.setLc n v).a = r.a := rfl
@[simp] theorem Arch.setLc_p (n : Nat) (v : BitVec 16) : (r.setLc n v).p = r.p := rfl
@[simp] theorem Arch.setLc_m (n : Nat) (v : BitVec 16) : (r.setLc n v).m = r.m := rfl
@[simp] theorem Arch.setLc_b (n : Nat) (v : BitVec 16) : (r.setLc n v).b = r.b := rfl
@[simp] theorem Arch.setLc_l (n : Nat) (v : BitVec 16) : (r.setLc n v).l = r.l := rfl
@[simp] theorem Arch.setLc_st (n : Nat) (v : BitVec 16) : (r.setLc n v).st = r.st := rfl
@[simp] theorem Arch.setLc_pc (n : Nat) (v : BitVec 16) : (r.setLc n v).pc = r.pc := rfl
@[simp] theorem Arch.setLc_ret (n : Nat) (v : BitVec 16) : (r.setLc n v).ret = r.ret := rfl
@[simp] theorem Arch.setLc_levels (n : Nat) (v : BitVec 16) : (r.setLc n v).levels = r.levels := rfl
@[simp] theorem Arch.setLc_rovg (n : Nat) (v : BitVec 16) : (r.setLc n v).rovg = r.rovg := rfl
@[simp] theorem Arch.setLc_rsat (n : Nat) (v : BitVec 16) : (r.setLc n v).rsat = r.rsat := rfl
@[simp] theorem Arch.setLc_raccv (n : Nat) (v : BitVec 16) : (r.setLc n v).raccv = r.raccv := rfl
@[simp] theorem Arch.setLc_stores (n : Nat) (v : BitVec 16) : (r.setLc n v).stores = r.stores := rfl

@[simp] theorem Arch.setSt_d (i : Nat) (b : Bool) : (r.setSt i b).d = r.d := rfl
@[simp] theorem Arch.setSt_a (i : Nat) (b : Bool) : (r.setSt i b).a = r.a := rfl
@[simp] theorem Arch.setSt_p (i : Nat) (b : Bool) : (r.setSt i b).p = r.p := rfl
@[simp] theorem Arch.setSt_m (i : Nat) (b : Bool) : (r.setSt i b).m = r.m := rfl
@[simp] theorem Arch.setSt_b (i : Nat) (b : Bool) : (r.setSt i b).b = r.b := rfl
@[simp] theorem Arch.setSt_l (i : Nat) (b : Bool) : (r.setSt i b).l = r.l := rfl
@[simp] theorem Arch.setSt_lc (i : Nat) (b : Bool) : (r.setSt i b).lc = r.lc := rfl
@[simp] theorem Arch.setSt_pc (i : Nat) (b : Bool) : (r.setSt i b).pc = r.pc := rfl
@[simp] theorem Arch.setSt_ret (i : Nat) (b : Bool) : (r.setSt i b).ret = r.ret := rfl
@[simp] theorem Arch.setSt_levels (i : Nat) (b : Bool) : (r.setSt i b).levels = r.levels := rfl
@[simp] theorem Arch.setSt_rovg (i : Nat) (b : Bool) : (r.setSt i b).rovg = r.rovg := rfl
@[simp] theorem Arch.setSt_rsat (i : Nat) (b : Bool) : (r.setSt i b).rsat = r.rsat := rfl
@[simp] theorem Arch.setSt_raccv (i : Nat) (b : Bool) : (r.setSt i b).raccv = r.raccv := rfl
@[simp] theorem Arch.setSt_stores (i : Nat) (b : Bool) : (r.setSt i b).stores = r.stores := rfl

@[simp] theorem Arch.setNZ_d (n z : Bool) : (r.setNZ n z).d = r.d := rfl
@[simp] theorem Arch.setNZ_a (n z : Bool) : (r.setNZ n z).a = r.a := rfl
@[simp] theorem Arch.setNZ_p (n z : Bool) : (r.setNZ n z).p = r.p := rfl
@[simp] theorem Arch.setNZ_m (n z : Bool) : (r.setNZ n z).m = r.m := rfl
@[simp] theorem Arch.setNZ_b (n z : Bool) : (r.setNZ n z).b = r.b := rfl
@[simp] theorem Arch.setNZ_l (n z : Bool) : (r.setNZ n z).l = r.l := rfl
@[simp] theorem Arch.setNZ_lc (n z : Bool) : (r.setNZ n z).lc = r.lc := rfl
@[simp] theorem Arch.setNZ_pc (n z : Bool) : (r.setNZ n z).pc = r.pc := rfl
@[simp] theorem Arch.setNZ_ret (n z : Bool) : (r.setNZ n z).ret = r.ret := rfl
@[simp] theorem Arch.setNZ_levels (n z : Bool) : (r.setNZ n z).levels = r.levels := rfl
@[simp] theorem Arch.setNZ_rovg (n z : Bool) : (r.setNZ n z).rovg = r.rovg := rfl
@[simp] theorem Arch.setNZ_rsat (n z : Bool) : (r.setNZ n z).rsat = r.rsat := rfl
@[simp] theorem Arch.setNZ_raccv (n z : Bool) : (r.setNZ n z).raccv = r.raccv := rfl
@[simp] theorem Arch.setNZ_stores (n z : Bool) : (r.setNZ n z).stores = r.stores := rfl

@[simp] theorem Arch.flagsOf_d (v : Word) : (r.flagsOf v).d = r.d := rfl
@[simp] theorem Arch.flagsOf_a (v : Word) : (r.flagsOf v).a = r.a := rfl
@[simp] theorem Arch.flagsOf_p (v : Word) : (r.flagsOf v).p = r.p := rfl
@[simp] theorem Arch.flagsOf_m (v : Word) : (r.flagsOf v).m = r.m := rfl
@[simp] theorem Arch.flagsOf_b (v : Word) : (r.flagsOf v).b = r.b := rfl
@[simp] theorem Arch.flagsOf_l (v : Word) : (r.flagsOf v).l = r.l := rfl
@[simp] theorem Arch.flagsOf_lc (v : Word) : (r.flagsOf v).lc = r.lc := rfl
@[simp] theorem Arch.flagsOf_pc (v : Word) : (r.flagsOf v).pc = r.pc := rfl
@[simp] theorem Arch.flagsOf_ret (v : Word) : (r.flagsOf v).ret = r.ret := rfl
@[simp] theorem Arch.flagsOf_levels (v : Word) : (r.flagsOf v).levels = r.levels := rfl
@[simp] theorem Arch.flagsOf_rovg (v : Word) : (r.flagsOf v).rovg = r.rovg := rfl
@[simp] theorem Arch.flagsOf_rsat (v : Word) : (r.flagsOf v).rsat = r.rsat := rfl
@[simp] theorem Arch.flagsOf_raccv (v : Word) : (r.flagsOf v).raccv = r.raccv := rfl
@[simp] theorem Arch.flagsOf_stores (v : Word) : (r.flagsOf v).stores = r.stores := rfl

@[simp] theorem Arch.replace_d (n : Nat) (v : Int) : (r.replace n v).d = r.d := rfl
@[simp] theorem Arch.replace_p (n : Nat) (v : Int) : (r.replace n v).p = r.p := rfl
@[simp] theorem Arch.replace_m (n : Nat) (v : Int) : (r.replace n v).m = r.m := rfl
@[simp] theorem Arch.replace_b (n : Nat) (v : Int) : (r.replace n v).b = r.b := rfl
@[simp] theorem Arch.replace_l (n : Nat) (v : Int) : (r.replace n v).l = r.l := rfl
@[simp] theorem Arch.replace_lc (n : Nat) (v : Int) : (r.replace n v).lc = r.lc := rfl
@[simp] theorem Arch.replace_pc (n : Nat) (v : Int) : (r.replace n v).pc = r.pc := rfl
@[simp] theorem Arch.replace_ret (n : Nat) (v : Int) : (r.replace n v).ret = r.ret := rfl
@[simp] theorem Arch.replace_levels (n : Nat) (v : Int) : (r.replace n v).levels = r.levels := rfl
@[simp] theorem Arch.replace_rovg (n : Nat) (v : Int) : (r.replace n v).rovg = r.rovg := rfl
@[simp] theorem Arch.replace_rsat (n : Nat) (v : Int) : (r.replace n v).rsat = r.rsat := rfl
@[simp] theorem Arch.replace_raccv (n : Nat) (v : Int) : (r.replace n v).raccv = r.raccv := rfl
@[simp] theorem Arch.replace_stores (n : Nat) (v : Int) : (r.replace n v).stores = r.stores := rfl

@[simp] theorem Arch.replaceRaw_d (n : Nat) (v : Acc) : (r.replaceRaw n v).d = r.d := rfl
@[simp] theorem Arch.replaceRaw_p (n : Nat) (v : Acc) : (r.replaceRaw n v).p = r.p := rfl
@[simp] theorem Arch.replaceRaw_m (n : Nat) (v : Acc) : (r.replaceRaw n v).m = r.m := rfl
@[simp] theorem Arch.replaceRaw_b (n : Nat) (v : Acc) : (r.replaceRaw n v).b = r.b := rfl
@[simp] theorem Arch.replaceRaw_l (n : Nat) (v : Acc) : (r.replaceRaw n v).l = r.l := rfl
@[simp] theorem Arch.replaceRaw_lc (n : Nat) (v : Acc) : (r.replaceRaw n v).lc = r.lc := rfl
@[simp] theorem Arch.replaceRaw_pc (n : Nat) (v : Acc) : (r.replaceRaw n v).pc = r.pc := rfl
@[simp] theorem Arch.replaceRaw_ret (n : Nat) (v : Acc) : (r.replaceRaw n v).ret = r.ret := rfl
@[simp] theorem Arch.replaceRaw_levels (n : Nat) (v : Acc) : (r.replaceRaw n v).levels = r.levels := rfl
@[simp] theorem Arch.replaceRaw_rovg (n : Nat) (v : Acc) : (r.replaceRaw n v).rovg = r.rovg := rfl
@[simp] theorem Arch.replaceRaw_rsat (n : Nat) (v : Acc) : (r.replaceRaw n v).rsat = r.rsat := rfl
@[simp] theorem Arch.replaceRaw_raccv (n : Nat) (v : Acc) : (r.replaceRaw n v).raccv = r.raccv := rfl
@[simp] theorem Arch.replaceRaw_stores (n : Nat) (v : Acc) : (r.replaceRaw n v).stores = r.stores := rfl

@[simp] theorem Arch.evOvg_d : (r.evOvg).d = r.d := rfl
@[simp] theorem Arch.evOvg_a : (r.evOvg).a = r.a := rfl
@[simp] theorem Arch.evOvg_p : (r.evOvg).p = r.p := rfl
@[simp] theorem Arch.evOvg_m : (r.evOvg).m = r.m := rfl
@[simp] theorem Arch.evOvg_b : (r.evOvg).b = r.b := rfl
@[simp] theorem Arch.evOvg_l : (r.evOvg).l = r.l := rfl
@[simp] theorem Arch.evOvg_lc : (r.evOvg).lc = r.lc := rfl
@[simp] theorem Arch.evOvg_pc : (r.evOvg).pc = r.pc := rfl
@[simp] theorem Arch.evOvg_ret : (r.evOvg).ret = r.ret := rfl
@[simp] theorem Arch.evOvg_levels : (r.evOvg).levels = r.levels := rfl
@[simp] theorem Arch.evOvg_rsat : (r.evOvg).rsat = r.rsat := rfl
@[simp] theorem Arch.evOvg_raccv : (r.evOvg).raccv = r.raccv := rfl
@[simp] theorem Arch.evOvg_stores : (r.evOvg).stores = r.stores := rfl

@[simp] theorem Arch.evSat_d : (r.evSat).d = r.d := rfl
@[simp] theorem Arch.evSat_a : (r.evSat).a = r.a := rfl
@[simp] theorem Arch.evSat_p : (r.evSat).p = r.p := rfl
@[simp] theorem Arch.evSat_m : (r.evSat).m = r.m := rfl
@[simp] theorem Arch.evSat_b : (r.evSat).b = r.b := rfl
@[simp] theorem Arch.evSat_l : (r.evSat).l = r.l := rfl
@[simp] theorem Arch.evSat_lc : (r.evSat).lc = r.lc := rfl
@[simp] theorem Arch.evSat_pc : (r.evSat).pc = r.pc := rfl
@[simp] theorem Arch.evSat_ret : (r.evSat).ret = r.ret := rfl
@[simp] theorem Arch.evSat_levels : (r.evSat).levels = r.levels := rfl
@[simp] theorem Arch.evSat_rovg : (r.evSat).rovg = r.rovg := rfl
@[simp] theorem Arch.evSat_raccv : (r.evSat).raccv = r.raccv := rfl
@[simp] theorem Arch.evSat_stores : (r.evSat).stores = r.stores := rfl

@[simp] theorem Arch.evAccv_d : (r.evAccv).d = r.d := rfl
@[simp] theorem Arch.evAccv_a : (r.evAccv).a = r.a := rfl
@[simp] theorem Arch.evAccv_p : (r.evAccv).p = r.p := rfl
@[simp] theorem Arch.evAccv_m : (r.evAccv).m = r.m := rfl
@[simp] theorem Arch.evAccv_b : (r.evAccv).b = r.b := rfl
@[simp] theorem Arch.evAccv_l : (r.evAccv).l = r.l := rfl
@[simp] theorem Arch.evAccv_lc : (r.evAccv).lc = r.lc := rfl
@[simp] theorem Arch.evAccv_pc : (r.evAccv).pc = r.pc := rfl
@[simp] theorem Arch.evAccv_ret : (r.evAccv).ret = r.ret := rfl
@[simp] theorem Arch.evAccv_levels : (r.evAccv).levels = r.levels := rfl
@[simp] theorem Arch.evAccv_rovg : (r.evAccv).rovg = r.rovg := rfl
@[simp] theorem Arch.evAccv_rsat : (r.evAccv).rsat = r.rsat := rfl
@[simp] theorem Arch.evAccv_stores : (r.evAccv).stores = r.stores := rfl

/-! ### Reading what was written -/

@[simp] theorem Arch.rd_setD (i j : Nat) (v : Word) : (r.setD i v).rd j = if j = i then v else r.rd j := mget_mset _ _ _ _ _
@[simp] theorem Arch.acc_putA (i j : Nat) (v : Acc) : (r.putA i v).acc j = if j = i then v else r.acc j :=
  mget_mset _ _ _ _ _
@[simp] theorem Arch.rp_setP (i j : Nat) (v : BitVec 20) : (r.setP i v).rp j = if j = i then v else r.rp j :=
  mget_mset _ _ _ _ _
@[simp] theorem Arch.rm_setM (i j : Nat) (v : BitVec 20) : (r.setM i v).rm j = if j = i then v else r.rm j :=
  mget_mset _ _ _ _ _
@[simp] theorem Arch.rb_setB (i j : Nat) (v : BitVec 20) : (r.setB i v).rb j = if j = i then v else r.rb j :=
  mget_mset _ _ _ _ _
@[simp] theorem Arch.rl_setL (i j : Nat) (v : BitVec 20) : (r.setL i v).rl j = if j = i then v else r.rl j :=
  mget_mset _ _ _ _ _
@[simp] theorem Arch.rlc_setLc (i j : Nat) (v : BitVec 16) : (r.setLc i v).rlc j = if j = i then v else r.rlc j :=
  mget_mset _ _ _ _ _

@[simp] theorem Arch.acc_setD (i : Nat) (v : Word) (j : Nat) : (r.setD i v).acc j = r.acc j := rfl
@[simp] theorem Arch.rp_setD (i : Nat) (v : Word) (j : Nat) : (r.setD i v).rp j = r.rp j := rfl
@[simp] theorem Arch.rm_setD (i : Nat) (v : Word) (j : Nat) : (r.setD i v).rm j = r.rm j := rfl
@[simp] theorem Arch.rb_setD (i : Nat) (v : Word) (j : Nat) : (r.setD i v).rb j = r.rb j := rfl
@[simp] theorem Arch.rl_setD (i : Nat) (v : Word) (j : Nat) : (r.setD i v).rl j = r.rl j := rfl
@[simp] theorem Arch.rlc_setD (i : Nat) (v : Word) (j : Nat) : (r.setD i v).rlc j = r.rlc j := rfl
@[simp] theorem Arch.rd_putA (n : Nat) (v : Acc) (j : Nat) : (r.putA n v).rd j = r.rd j := rfl
@[simp] theorem Arch.rp_putA (n : Nat) (v : Acc) (j : Nat) : (r.putA n v).rp j = r.rp j := rfl
@[simp] theorem Arch.rm_putA (n : Nat) (v : Acc) (j : Nat) : (r.putA n v).rm j = r.rm j := rfl
@[simp] theorem Arch.rb_putA (n : Nat) (v : Acc) (j : Nat) : (r.putA n v).rb j = r.rb j := rfl
@[simp] theorem Arch.rl_putA (n : Nat) (v : Acc) (j : Nat) : (r.putA n v).rl j = r.rl j := rfl
@[simp] theorem Arch.rlc_putA (n : Nat) (v : Acc) (j : Nat) : (r.putA n v).rlc j = r.rlc j := rfl
@[simp] theorem Arch.rd_setP (n : Nat) (v : BitVec 20) (j : Nat) : (r.setP n v).rd j = r.rd j := rfl
@[simp] theorem Arch.acc_setP (n : Nat) (v : BitVec 20) (j : Nat) : (r.setP n v).acc j = r.acc j := rfl
@[simp] theorem Arch.rm_setP (n : Nat) (v : BitVec 20) (j : Nat) : (r.setP n v).rm j = r.rm j := rfl
@[simp] theorem Arch.rb_setP (n : Nat) (v : BitVec 20) (j : Nat) : (r.setP n v).rb j = r.rb j := rfl
@[simp] theorem Arch.rl_setP (n : Nat) (v : BitVec 20) (j : Nat) : (r.setP n v).rl j = r.rl j := rfl
@[simp] theorem Arch.rlc_setP (n : Nat) (v : BitVec 20) (j : Nat) : (r.setP n v).rlc j = r.rlc j := rfl
@[simp] theorem Arch.rd_setM (n : Nat) (v : BitVec 20) (j : Nat) : (r.setM n v).rd j = r.rd j := rfl
@[simp] theorem Arch.acc_setM (n : Nat) (v : BitVec 20) (j : Nat) : (r.setM n v).acc j = r.acc j := rfl
@[simp] theorem Arch.rp_setM (n : Nat) (v : BitVec 20) (j : Nat) : (r.setM n v).rp j = r.rp j := rfl
@[simp] theorem Arch.rb_setM (n : Nat) (v : BitVec 20) (j : Nat) : (r.setM n v).rb j = r.rb j := rfl
@[simp] theorem Arch.rl_setM (n : Nat) (v : BitVec 20) (j : Nat) : (r.setM n v).rl j = r.rl j := rfl
@[simp] theorem Arch.rlc_setM (n : Nat) (v : BitVec 20) (j : Nat) : (r.setM n v).rlc j = r.rlc j := rfl
@[simp] theorem Arch.rd_setB (n : Nat) (v : BitVec 20) (j : Nat) : (r.setB n v).rd j = r.rd j := rfl
@[simp] theorem Arch.acc_setB (n : Nat) (v : BitVec 20) (j : Nat) : (r.setB n v).acc j = r.acc j := rfl
@[simp] theorem Arch.rp_setB (n : Nat) (v : BitVec 20) (j : Nat) : (r.setB n v).rp j = r.rp j := rfl
@[simp] theorem Arch.rm_setB (n : Nat) (v : BitVec 20) (j : Nat) : (r.setB n v).rm j = r.rm j := rfl
@[simp] theorem Arch.rl_setB (n : Nat) (v : BitVec 20) (j : Nat) : (r.setB n v).rl j = r.rl j := rfl
@[simp] theorem Arch.rlc_setB (n : Nat) (v : BitVec 20) (j : Nat) : (r.setB n v).rlc j = r.rlc j := rfl
@[simp] theorem Arch.rd_setL (n : Nat) (v : BitVec 20) (j : Nat) : (r.setL n v).rd j = r.rd j := rfl
@[simp] theorem Arch.acc_setL (n : Nat) (v : BitVec 20) (j : Nat) : (r.setL n v).acc j = r.acc j := rfl
@[simp] theorem Arch.rp_setL (n : Nat) (v : BitVec 20) (j : Nat) : (r.setL n v).rp j = r.rp j := rfl
@[simp] theorem Arch.rm_setL (n : Nat) (v : BitVec 20) (j : Nat) : (r.setL n v).rm j = r.rm j := rfl
@[simp] theorem Arch.rb_setL (n : Nat) (v : BitVec 20) (j : Nat) : (r.setL n v).rb j = r.rb j := rfl
@[simp] theorem Arch.rlc_setL (n : Nat) (v : BitVec 20) (j : Nat) : (r.setL n v).rlc j = r.rlc j := rfl
@[simp] theorem Arch.rd_setLc (n : Nat) (v : BitVec 16) (j : Nat) : (r.setLc n v).rd j = r.rd j := rfl
@[simp] theorem Arch.acc_setLc (n : Nat) (v : BitVec 16) (j : Nat) : (r.setLc n v).acc j = r.acc j := rfl
@[simp] theorem Arch.rp_setLc (n : Nat) (v : BitVec 16) (j : Nat) : (r.setLc n v).rp j = r.rp j := rfl
@[simp] theorem Arch.rm_setLc (n : Nat) (v : BitVec 16) (j : Nat) : (r.setLc n v).rm j = r.rm j := rfl
@[simp] theorem Arch.rb_setLc (n : Nat) (v : BitVec 16) (j : Nat) : (r.setLc n v).rb j = r.rb j := rfl
@[simp] theorem Arch.rl_setLc (n : Nat) (v : BitVec 16) (j : Nat) : (r.setLc n v).rl j = r.rl j := rfl
@[simp] theorem Arch.rd_setSt (i : Nat) (b : Bool) (j : Nat) : (r.setSt i b).rd j = r.rd j := rfl
@[simp] theorem Arch.acc_setSt (i : Nat) (b : Bool) (j : Nat) : (r.setSt i b).acc j = r.acc j := rfl
@[simp] theorem Arch.rp_setSt (i : Nat) (b : Bool) (j : Nat) : (r.setSt i b).rp j = r.rp j := rfl
@[simp] theorem Arch.rm_setSt (i : Nat) (b : Bool) (j : Nat) : (r.setSt i b).rm j = r.rm j := rfl
@[simp] theorem Arch.rb_setSt (i : Nat) (b : Bool) (j : Nat) : (r.setSt i b).rb j = r.rb j := rfl
@[simp] theorem Arch.rl_setSt (i : Nat) (b : Bool) (j : Nat) : (r.setSt i b).rl j = r.rl j := rfl
@[simp] theorem Arch.rlc_setSt (i : Nat) (b : Bool) (j : Nat) : (r.setSt i b).rlc j = r.rlc j := rfl
@[simp] theorem Arch.rd_setNZ (n z : Bool) (j : Nat) : (r.setNZ n z).rd j = r.rd j := rfl
@[simp] theorem Arch.acc_setNZ (n z : Bool) (j : Nat) : (r.setNZ n z).acc j = r.acc j := rfl
@[simp] theorem Arch.rp_setNZ (n z : Bool) (j : Nat) : (r.setNZ n z).rp j = r.rp j := rfl
@[simp] theorem Arch.rm_setNZ (n z : Bool) (j : Nat) : (r.setNZ n z).rm j = r.rm j := rfl
@[simp] theorem Arch.rb_setNZ (n z : Bool) (j : Nat) : (r.setNZ n z).rb j = r.rb j := rfl
@[simp] theorem Arch.rl_setNZ (n z : Bool) (j : Nat) : (r.setNZ n z).rl j = r.rl j := rfl
@[simp] theorem Arch.rlc_setNZ (n z : Bool) (j : Nat) : (r.setNZ n z).rlc j = r.rlc j := rfl
@[simp] theorem Arch.rd_flagsOf (v : Word) (j : Nat) : (r.flagsOf v).rd j = r.rd j := rfl
@[simp] theorem Arch.acc_flagsOf (v : Word) (j : Nat) : (r.flagsOf v).acc j = r.acc j := rfl
@[simp] theorem Arch.rp_flagsOf (v : Word) (j : Nat) : (r.flagsOf v).rp j = r.rp j := rfl
@[simp] theorem Arch.rm_flagsOf (v : Word) (j : Nat) : (r.flagsOf v).rm j = r.rm j := rfl
@[simp] theorem Arch.rb_flagsOf (v : Word) (j : Nat) : (r.flagsOf v).rb j = r.rb j := rfl
@[simp] theorem Arch.rl_flagsOf (v : Word) (j : Nat) : (r.flagsOf v).rl j = r.rl j := rfl
@[simp] theorem Arch.rlc_flagsOf (v : Word) (j : Nat) : (r.flagsOf v).rlc j = r.rlc j := rfl
@[simp] theorem Arch.rd_replace (n : Nat) (v : Int) (j : Nat) : (r.replace n v).rd j = r.rd j := rfl
@[simp] theorem Arch.rp_replace (n : Nat) (v : Int) (j : Nat) : (r.replace n v).rp j = r.rp j := rfl
@[simp] theorem Arch.rm_replace (n : Nat) (v : Int) (j : Nat) : (r.replace n v).rm j = r.rm j := rfl
@[simp] theorem Arch.rb_replace (n : Nat) (v : Int) (j : Nat) : (r.replace n v).rb j = r.rb j := rfl
@[simp] theorem Arch.rl_replace (n : Nat) (v : Int) (j : Nat) : (r.replace n v).rl j = r.rl j := rfl
@[simp] theorem Arch.rlc_replace (n : Nat) (v : Int) (j : Nat) : (r.replace n v).rlc j = r.rlc j := rfl
@[simp] theorem Arch.rd_replaceRaw (n : Nat) (v : Acc) (j : Nat) : (r.replaceRaw n v).rd j = r.rd j := rfl
@[simp] theorem Arch.rp_replaceRaw (n : Nat) (v : Acc) (j : Nat) : (r.replaceRaw n v).rp j = r.rp j := rfl
@[simp] theorem Arch.rm_replaceRaw (n : Nat) (v : Acc) (j : Nat) : (r.replaceRaw n v).rm j = r.rm j := rfl
@[simp] theorem Arch.rb_replaceRaw (n : Nat) (v : Acc) (j : Nat) : (r.replaceRaw n v).rb j = r.rb j := rfl
@[simp] theorem Arch.rl_replaceRaw (n : Nat) (v : Acc) (j : Nat) : (r.replaceRaw n v).rl j = r.rl j := rfl
@[simp] theorem Arch.rlc_replaceRaw (n : Nat) (v : Acc) (j : Nat) : (r.replaceRaw n v).rlc j = r.rlc j := rfl
@[simp] theorem Arch.rd_evOvg (j : Nat) : (r.evOvg).rd j = r.rd j := rfl
@[simp] theorem Arch.acc_evOvg (j : Nat) : (r.evOvg).acc j = r.acc j := rfl
@[simp] theorem Arch.rp_evOvg (j : Nat) : (r.evOvg).rp j = r.rp j := rfl
@[simp] theorem Arch.rm_evOvg (j : Nat) : (r.evOvg).rm j = r.rm j := rfl
@[simp] theorem Arch.rb_evOvg (j : Nat) : (r.evOvg).rb j = r.rb j := rfl
@[simp] theorem Arch.rl_evOvg (j : Nat) : (r.evOvg).rl j = r.rl j := rfl
@[simp] theorem Arch.rlc_evOvg (j : Nat) : (r.evOvg).rlc j = r.rlc j := rfl
@[simp] theorem Arch.rd_evSat (j : Nat) : (r.evSat).rd j = r.rd j := rfl
@[simp] theorem Arch.acc_evSat (j : Nat) : (r.evSat).acc j = r.acc j := rfl
@[simp] theorem Arch.rp_evSat (j : Nat) : (r.evSat).rp j = r.rp j := rfl
@[simp] theorem Arch.rm_evSat (j : Nat) : (r.evSat).rm j = r.rm j := rfl
@[simp] theorem Arch.rb_evSat (j : Nat) : (r.evSat).rb j = r.rb j := rfl
@[simp] theorem Arch.rl_evSat (j : Nat) : (r.evSat).rl j = r.rl j := rfl
@[simp] theorem Arch.rlc_evSat (j : Nat) : (r.evSat).rlc j = r.rlc j := rfl
@[simp] theorem Arch.rd_evAccv (j : Nat) : (r.evAccv).rd j = r.rd j := rfl
@[simp] theorem Arch.acc_evAccv (j : Nat) : (r.evAccv).acc j = r.acc j := rfl
@[simp] theorem Arch.rp_evAccv (j : Nat) : (r.evAccv).rp j = r.rp j := rfl
@[simp] theorem Arch.rm_evAccv (j : Nat) : (r.evAccv).rm j = r.rm j := rfl
@[simp] theorem Arch.rb_evAccv (j : Nat) : (r.evAccv).rb j = r.rb j := rfl
@[simp] theorem Arch.rl_evAccv (j : Nat) : (r.evAccv).rl j = r.rl j := rfl
@[simp] theorem Arch.rlc_evAccv (j : Nat) : (r.evAccv).rlc j = r.rlc j := rfl

@[simp] theorem Arch.acc_replace (n j : Nat) (v : Int) :
    (r.replace n v).acc j = if j = n then BitVec.ofInt 80 v else r.acc j := mget_mset _ _ _ _ _
@[simp] theorem Arch.acc_replaceRaw (n j : Nat) (v : Acc) :
    (r.replaceRaw n v).acc j = if j = n then v else r.acc j := mget_mset _ _ _ _ _

/-! ### ST -/

theorem Arch.bit_setSt {i : Nat} (h : i < 32) (b : Bool) (j : Nat) :
    bitAt (r.setSt i b).st j = if j = i then b else bitAt r.st j := by
  unfold Arch.setSt
  rw [bitAt_setBits _ _ _ _ h]
  cases b <;> simp

theorem Arch.bit_setNZ (n z : Bool) (j : Nat) :
    bitAt (r.setNZ n z).st j = if j = 8 then z else if j = 9 then n else bitAt r.st j := by
  unfold Arch.setNZ
  rw [Arch.bit_setSt _ (by omega), Arch.bit_setSt _ (by omega)]

theorem Arch.bit_flagsOf (v : Word) (j : Nat) :
    bitAt (r.flagsOf v).st j = if j = 8 then v == 0#32 else if j = 9 then bitAt v 31 else bitAt r.st j :=
  Arch.bit_setNZ r _ _ j

theorem Arch.bit_replace {n : Nat} (h : n < 8) (v : Int) (j : Nat) :
    bitAt (r.replace n v).st j = if j = 24 + n then false else bitAt r.st j := by
  unfold Arch.replace
  rw [Arch.bit_setSt _ (by omega)]
  rfl

theorem Arch.bit_replaceRaw {n : Nat} (h : n < 8) (v : Acc) (j : Nat) :
    bitAt (r.replaceRaw n v).st j = if j = 24 + n then false else bitAt r.st j := by
  unfold Arch.replaceRaw
  rw [Arch.bit_setSt _ (by omega)]
  rfl

theorem Arch.bit_evSat (j : Nat) : bitAt r.evSat.st j = if j = 1 then true else bitAt r.st j :=
  Arch.bit_setSt r (by omega) true j

theorem Arch.bit_evOvg (j : Nat) : bitAt r.evOvg.st j = if j = 0 then true else bitAt r.st j :=
  Arch.bit_setSt r (by omega) true j

theorem Arch.bit_evAccv (j : Nat) : bitAt r.evAccv.st j = if j = 2 then true else bitAt r.st j :=
  Arch.bit_setSt r (by omega) true j

theorem bitsOf_congr {a b : Word} {hi lo : Nat} (h : ∀ i, lo ≤ i → i ≤ hi → bitAt a i = bitAt b i) :
    bitsOf a hi lo = bitsOf b hi lo := by
  apply Nat.eq_of_testBit_eq
  intro i
  rw [testBit_bitsOf, testBit_bitsOf]
  by_cases hi' : i < hi + 1 - lo
  · have := h (lo + i) (by omega) (by omega)
    unfold bitAt at this
    rw [this]
  · simp [hi']

theorem bitAt_31 (v : Word) : bitAt v 31 = v.msb := by
  unfold bitAt
  rw [BitVec.msb_eq_getLsbD_last]
  rfl

end Sys2Proof.Machine
end

