-- ==== Sys2Proof/Laws/Bytes.lean ====
section
/-! SUPPORT. Laws/Bytes.lean: what a read of bytes gives after bytes have been written. -/
namespace Sys2Proof.Machine

/-- Bytes written change nothing but memory. -/
theorem State.setBytes_eq (s : State) (a : Nat) (l : List Byte) : s.setBytes a l = { s with mem := (s.setBytes a l).mem } := by
  induction l generalizing s a with
  | nil => rfl
  | cons b t ih => rw [State.setBytes, ih]; rfl

@[simp] theorem State.setBytes_regs (s : State) (a : Nat) (l : List Byte) : (s.setBytes a l).regs = s.regs := by
  rw [State.setBytes_eq]
@[simp] theorem State.setBytes_sys (s : State) (a : Nat) (l : List Byte) : (s.setBytes a l).sys = s.sys := by
  rw [State.setBytes_eq]
@[simp] theorem State.setBytes_trust (s : State) (a : Nat) (l : List Byte) : (s.setBytes a l).trust = s.trust := by
  rw [State.setBytes_eq]
@[simp] theorem State.setBytes_skein (s : State) (a : Nat) (l : List Byte) : (s.setBytes a l).skein = s.skein := by
  rw [State.setBytes_eq]
@[simp] theorem State.setBytes_power (s : State) (a : Nat) (l : List Byte) : (s.setBytes a l).power = s.power := by
  rw [State.setBytes_eq]

/-- A byte after a byte has been written. -/
theorem State.setByte_byte (s : State) (a b : Nat) (v : Byte) : (s.setByte a v).byte b = if b = a then v else s.byte b := by
  simp only [State.byte, State.setByte, mget_mset]

/-- A byte below those written. -/
theorem State.setBytes_byte_lt (s : State) {a b : Nat} (l : List Byte) (h : b < a) : (s.setBytes a l).byte b = s.byte b := by
  induction l generalizing s a with
  | nil => rfl
  | cons v t ih => rw [State.setBytes, ih _ (by omega), State.setByte_byte, if_neg (by omega)]

/-- Bytes read below those written. -/
theorem State.bytes_setBytes_below (s : State) (a b n : Nat) (l : List Byte) (h : a + n ≤ b) :
    (s.setBytes b l).bytes a n = s.bytes a n := by
  induction n generalizing a with
  | zero => rfl
  | succ n ih => rw [State.bytes, State.bytes, State.setBytes_byte_lt _ _ (by omega), ih (a + 1) (by omega)]

/-- Bytes read from where a list of them has been written. -/
theorem State.bytes_setBytes (s : State) (a n : Nat) (l t : List Byte) (h : l.length = n) :
    (s.setBytes a (l ++ t)).bytes a n = l := by
  induction l generalizing s a n with
  | nil => subst h; rfl
  | cons v l ih =>
    subst h
    rw [List.cons_append, State.setBytes, List.length_cons, State.bytes, State.setBytes_byte_lt _ _ (by omega),
      State.setByte_byte, if_pos rfl, ih _ _ _ rfl]

/-- Bytes read behind the first of those written. -/
theorem State.bytes_setBytes_append (s : State) (a k n : Nat) (l m t : List Byte) (hk : l.length = k) (hn : m.length = n) :
    (s.setBytes a (l ++ (m ++ t))).bytes (a + k) n = m := by
  induction l generalizing s a k with
  | nil => subst hk; exact s.bytes_setBytes a n m t hn
  | cons v l ih =>
    subst hk
    rw [List.cons_append, State.setBytes, List.length_cons, show a + (l.length + 1) = a + 1 + l.length by omega]
    exact ih _ _ _ rfl

end Sys2Proof.Machine
end

