-- ==== Sys2Proof/Laws/Ecc.lean ====
section
/-! SUPPORT. Laws/Ecc.lean: what reading and writing a word of memory protected by ECC can do. -/
namespace Sys2Proof.Machine

/-- No listed error of a single bit: a read corrects nothing. -/
theorem State.corrected_clean (s : State) (a : Nat) (h : s.ecc.contains (eccUnit a, false) = false) :
    s.corrected a = s := by
  unfold State.corrected; rw [h]; rfl

@[simp] theorem State.corrected_nil (s : State) (a : Nat) (h : s.ecc = []) : s.corrected a = s :=
  s.corrected_clean a (by rw [h]; rfl)

@[simp] theorem State.readEcc_nil (s : State) (l : List Nat) (h : s.ecc = []) : s.readEcc l = s := by
  unfold State.readEcc
  induction l with
  | nil => rfl
  | cons a t ih => rw [List.foldl_cons, s.corrected_nil a h, ih]

@[simp] theorem State.readRange_nil (s : State) (lo hi : Nat) (h : s.ecc = []) : s.readRange lo hi = s :=
  s.readEcc_nil _ h

@[simp] theorem State.ue_nil (s : State) (a : Nat) (h : s.ecc = []) : s.ue a = false := by
  unfold State.ue; rw [h]; rfl

@[simp] theorem State.freshEcc_nil (s : State) (a : Nat) (h : s.ecc = []) : (s.freshEcc a).ecc = [] := by
  unfold State.freshEcc; simp [h]

/-- Power beside its registers alone changed. -/
theorem Frame.power (s : State) (x : Power) : Frame [] [.power] s { s with power := x } :=
  ⟨fun _ _ => rfl, fun p hp => by cases p <;> first | rfl | exact fun _ => rfl | exact absurd (by simp) hp⟩

theorem State.policyBits_frame (s : State) (src : FaultSrc) :
    Frame [Reg.ALARM_FAULT_SW] [] s (s.policyBits src) := by
  unfold State.policyBits
  refine List.foldlRecOn (motive := fun t => Frame [Reg.ALARM_FAULT_SW] [] s t) _ _ (Frame.refl _ _ s) ?_
  intro t h e _
  split
  · exact h.trans (Frame.setReg t _ _)
  · exact h

/-- A corrected error counted: its counter, the event, what the fault policy maps it to, and the record of the hour. -/
theorem State.eccCount_frame (s : State) (i : Nat) (hi : i < 34) : Frame eccRegs [.power] s (s.eccCount i) := by
  have hm : Reg.HEALTH_ECC i ∈ eccRegs := by
    unfold eccRegs regFile
    exact List.mem_cons_of_mem _ (List.mem_cons_of_mem _ (List.mem_map.mpr ⟨i, by simpa using hi, rfl⟩))
  have he : Reg.HEALTH_EVT ∈ eccRegs := by simp [eccRegs]
  have hs : Reg.ALARM_FAULT_SW ∈ eccRegs := by simp [eccRegs]
  have h1 : Frame eccRegs [.power] s (s.eccNote i) :=
    ((Frame.setReg s _ _).mono (by simpa using hm) (by simp)).trans ((Frame.power _ _).mono (by simp) (by simp))
  have h2 : ∀ t : State, Frame eccRegs [.power] t t.eccRate := by
    intro t
    refine Frame.trans (t := t.healthEvt Reg.HEALTH_EVT_ECC_RATE) ?_ ((Frame.power _ _).mono (by simp) (by simp))
    unfold State.healthEvt
    split
    · exact Frame.refl _ _ t
    · exact ((Frame.setReg t _ _).mono (by simpa using he) (by simp)).trans
        ((State.policyBits_frame _ _).mono (by simpa using hs) (by simp))
  unfold State.eccCount
  simp only []
  split
  · exact h1.trans (h2 _)
  · exact h1

/-- A read of an ECC word: nothing but its own error, and what counting it reaches, changes. -/
theorem State.corrected_frame (s : State) (a : Nat) : Frame eccRegs [.power, .ecc] s (s.corrected a) := by
  have drop : ∀ l, Frame eccRegs [.power, .ecc] s { s with ecc := l } := fun l =>
    ⟨fun _ _ => rfl, fun p hp => by cases p <;> first | rfl | exact fun _ => rfl | exact absurd (by simp) hp⟩
  unfold State.corrected
  split
  · simp only []
    split
    · next i hc =>
      have hi : i < 34 := by
        unfold eccCounter at hc
        split at hc
        · next h => simp only [Option.some.injEq, Bool.and_eq_true, Nat.ble_eq, Nat.blt_eq] at h hc; omega
        · split at hc
          · next h => simp only [Option.some.injEq, Bool.and_eq_true, Nat.ble_eq, Nat.blt_eq] at h hc; omega
          · split at hc
            · simp only [Option.some.injEq] at hc; omega
            · split at hc
              · simp only [Option.some.injEq] at hc; omega
              · cases hc
      have h := State.eccCount_frame { s with ecc := s.ecc.filter (· != (eccUnit a, false)) } i hi
      exact (drop _).trans (h.mono (fun _ h => h) (by simp))
    · exact drop _
  · exact Frame.refl _ _ s

theorem State.readEcc_frame (s : State) (l : List Nat) : Frame eccRegs [.power, .ecc] s (s.readEcc l) := by
  unfold State.readEcc
  exact List.foldlRecOn (motive := fun t => Frame eccRegs [.power, .ecc] s t) _ _ (Frame.refl _ _ s)
    fun t h a _ => h.trans (t.corrected_frame a)

theorem State.readRange_frame (s : State) (lo hi : Nat) : Frame eccRegs [.power, .ecc] s (s.readRange lo hi) :=
  s.readEcc_frame _

end Sys2Proof.Machine
end

