-- ==== Sys2Proof/Laws/Link.lean ====
section
/-! SUPPORT. Laws/Link.lean: what sending a Lysle link message can do, and the paths of a received one. -/
namespace Sys2Proof.Machine

/-- Sending changes the log, the link and the port queues, and the wear event. -/
def sendFrame (s t : State) : Prop := Frame [Reg.TRUST_EVT] [.link, .net, .trust] s t

theorem sendFrame.of_log (s : State) (ty : Nat) (l : List Nat) : sendFrame s (s.logRec ty l) :=
  (s.logRec_frame ty l).mono (by simp) (by simp)

theorem sendFrame.of_link (s : State) (k : Link) : sendFrame s { s with link := k } :=
  ⟨fun _ _ => rfl, fun p h => by cases p <;> simp_all [Piece.same, State.byte]⟩

theorem sendFrame.of_net (s : State) (n : Net) : sendFrame s { s with net := n } :=
  ⟨fun _ _ => rfl, fun p h => by cases p <;> simp_all [Piece.same, State.byte]⟩

theorem State.useCounter_frame (s : State) : sendFrame s s.useCounter.1 := by
  unfold State.useCounter
  dsimp only
  split
  · exact sendFrame.of_link s _
  · exact ((sendFrame.of_link s _).trans (sendFrame.of_log _ _ _)).trans (sendFrame.of_link _ _)

theorem State.enqueue_frame (s : State) (p q : Nat) (f : TxFrame) : sendFrame s (s.enqueue p q f).1 := by
  unfold State.enqueue
  dsimp only
  split
  · exact Frame.refl _ _ _
  · exact sendFrame.of_net s _

theorem State.linkFrame_frame (s : State) (m : OutMsg) (p : Nat) : sendFrame s (s.linkFrame m p).1 := by
  unfold State.linkFrame
  dsimp only
  split
  · exact Frame.refl _ _ _
  · split
    · exact Frame.refl _ _ _
    · exact State.useCounter_frame s

theorem State.linkFrames_frame (s : State) (m : OutMsg) : sendFrame s (s.linkFrames m) := by
  unfold State.linkFrames
  generalize s.linkPorts m.dst = l
  induction l generalizing s with
  | nil => exact Frame.refl _ _ _
  | cons p l ih =>
    refine Frame.trans ?_ (ih _)
    dsimp only
    split
    · have h := State.linkFrame_frame s m p
      split
      · next t b e => rw [e] at h; exact h.trans (State.enqueue_frame _ _ _ _)
      · next t e => rw [e] at h; exact h
    · exact Frame.refl _ _ _

/-- Everything that sending a message can change. -/
theorem State.linkSend_frame (s : State) (ty dst : Nat) (l : List Nat) : sendFrame s (s.linkSend ty dst l) := by
  unfold State.linkSend
  split
  · exact Frame.refl _ _ _
  · exact (sendFrame.of_link s _).trans (State.linkFrames_frame _ _)

/-- A state whose link differs in the sealing COUNTER alone. -/
def sealOnly (s t : State) : Prop := ∃ a b, t.link = { s.link with sealNext := a, sealTop := b }

theorem sealOnly.refl (s : State) : sealOnly s s := ⟨_, _, rfl⟩

theorem sealOnly.trans {s t u : State} (h : sealOnly s t) (g : sealOnly t u) : sealOnly s u := by
  obtain ⟨a, b, h⟩ := h
  obtain ⟨c, d, g⟩ := g
  exact ⟨c, d, by rw [g, h]⟩

theorem State.useCounter_seal (s : State) : sealOnly s s.useCounter.1 := by
  unfold State.useCounter
  dsimp only
  split
  · exact ⟨_, s.link.sealTop, rfl⟩
  · refine ⟨s.link.sealNext + 1, s.link.sealNext + 2 ^ 40, ?_⟩
    have h (t : State) (l : List Nat) : (t.logRec 3 l).link = t.link := (State.logRec_frame t 3 l).2 .link (by simp)
    simp only [h]

theorem State.linkFrame_seal (s : State) (m : OutMsg) (p : Nat) : sealOnly s (s.linkFrame m p).1 := by
  unfold State.linkFrame
  dsimp only
  split
  · exact sealOnly.refl s
  · split
    · exact sealOnly.refl s
    · exact State.useCounter_seal s

theorem State.enqueue_link (s : State) (p q : Nat) (f : TxFrame) : (s.enqueue p q f).1.link = s.link := by
  unfold State.enqueue
  dsimp only
  split <;> rfl

/-- The frames of a message leave the link as it is but for the sealing COUNTER. -/
theorem State.linkFrames_link (s : State) (m : OutMsg) : sealOnly s (s.linkFrames m) := by
  unfold State.linkFrames
  generalize s.linkPorts m.dst = l
  induction l generalizing s with
  | nil => exact sealOnly.refl s
  | cons p l ih =>
    refine sealOnly.trans ?_ (ih _)
    dsimp only
    split
    · have h := State.linkFrame_seal s m p
      split
      · next t b e =>
        rw [e] at h
        obtain ⟨c, d, h⟩ := h
        exact ⟨c, d, (State.enqueue_link _ _ _ _).trans h⟩
      · next t e => rw [e] at h; exact h
    · exact sealOnly.refl s

/-- What a sent message leaves of the link. -/
theorem State.linkSend_link (s : State) (ty dst : Nat) (l : List Nat) (h : s.linkOn = true) :
    (s.linkSend ty dst l).link = s.link.but (s.linkSend ty dst l).link
    ∧ (s.linkSend ty dst l).link.seq = (s.link.seq + 1) % 2 ^ 32
    ∧ (s.linkSend ty dst l).link.out =
        (if ackTypes.contains ty then s.link.out ++ [⟨ty, dst, s.link.seq, l, s.now, 0⟩] else s.link.out) := by
  let m : OutMsg := ⟨ty, dst, s.link.seq, l, s.now, 0⟩
  obtain ⟨a, b, hk⟩ := State.linkFrames_link { s with link := { s.link with out := if ackTypes.contains ty then s.link.out ++ [m] else s.link.out, sent := (s.link.sent ++ [m]).drop ((s.link.sent ++ [m]).length - 32), seq := (s.link.seq + 1) % 2 ^ 32 } } m
  unfold State.linkSend
  rw [h]
  dsimp only
  simp only [Bool.not_true, Bool.false_eq_true, if_false]
  rw [hk]
  exact ⟨rfl, rfl, rfl⟩

/-! ### A received message (R381, R385, R412) -/

variable {s : State} {ty : Nat} {f : LinkFrame} {l : List Byte} {always : Bool}
  {go : LinkHdr → List Byte → State → State × LinkRes}

/-- A frame that no command of its type looks at changes nothing. -/
theorem State.linkMsg_unseen (h : s.linkSees ty f = false) : s.linkMsg ty f always go = s := by
  have h' : linkTy f ≠ ty ∨ s.linkOn = false ∨ s.netUp f.port.val = false := by
    simp only [State.linkSees, Bool.and_eq_false_iff, beq_eq_false_iff_ne] at h
    rcases h with (h1 | h2) | h3 <;> simp [*]
  unfold State.linkMsg
  rw [if_pos h']

/-- A frame that opens is taken. -/
theorem State.linkMsg_opens (h : s.linkOpens ty f = some l) : s.linkMsg ty f always go = s.linkTake ty f l always go := by
  unfold State.linkOpens at h
  split at h
  · next c =>
    obtain ⟨c1, c2⟩ := c
    simp only [State.linkSees, Bool.and_eq_true, beq_iff_eq] at c1
    obtain ⟨⟨c3, c4⟩, c5⟩ := c1
    obtain ⟨h1, h2⟩ := Option.filter_eq_some_iff.1 h
    unfold State.linkMsg
    rw [if_neg (by simp [c3, c4, c5]), c2, h1]
    simp only [Bool.false_eq_true, if_false]
    rw [if_pos (by simpa using h2)]
  · cases h

/-- A new message is processed from the state that has heard its source and kept its SEQ. -/
theorem State.linkTake_new (hn : s.linkNew ty f l = true) :
    s.linkTake ty f l always go =
      (let h := linkHdrOf f l
      match go h (linkBodyOf l) ((s.linkHeard h).seqKeep h.src h.seq) with
      | (s, .done) => if h.flags % 2 == 1 then s.linkSend 0x3E h.src [h.seq] else s
      | (s, .nak r) => if h.flags % 2 == 1 || always then s.nak h r 0 else s
      | (s, .bad c d r) =>
        let s := s.fwViolation c h.port d h.mac (h.flags % 2 == 1 || always)
        if h.flags % 2 == 1 || always then s.nak h r d else s) := by
  simp only [State.linkNew, Bool.and_eq_true, Bool.not_eq_true', Option.isNone_iff_eq_none] at hn
  obtain ⟨⟨h1, h2⟩, h3⟩ := hn
  have h4 : (mget (fun _ => []) (s.linkHeard (linkHdrOf f l)).link.seen (linkHdrOf f l).src).contains (linkHdrOf f l).seq
      = false := h3
  unfold State.linkTake
  dsimp only
  rw [h1, h2]
  dsimp only
  rw [h4]
  rfl

end Sys2Proof.Machine
end

