-- ==== Sys2Proof/Laws/PerInstr.lean ====
section
/-! SUPPORT. Laws/PerInstr.lean: for every command, that its stake word, where it has one, is a 64-bit word of format P, R
or C (R110 of spec/04_stake_instruction_set.md). -/
namespace Sys2Proof.Laws.Shape

open Machine

/-- A command's word lies within 64 bits and has one of the three formats: bits 63:62 are not 0b11. -/
def Statement (i : Instr) : Prop := ∀ k w, encodeStake i = some (k, w) → w < 3 * 2 ^ 62

theorem pack_lt (l : List (Nat × Nat)) : pack l < 2 ^ (l.map (·.1)).sum := by
  induction l with
  | nil => simp [pack]
  | cons e t ih =>
    have h : e.2 % 2 ^ e.1 < 2 ^ e.1 := Nat.mod_lt _ (Nat.two_pow_pos _)
    simp only [pack, List.map_cons, List.sum_cons, Nat.pow_add]
    calc e.2 % 2 ^ e.1 + 2 ^ e.1 * pack t < 2 ^ e.1 * (pack t + 1) := by rw [Nat.mul_add]; omega
      _ ≤ 2 ^ e.1 * 2 ^ (t.map (·.1)).sum := Nat.mul_le_mul_left _ ih

theorem pack_append (l m : List (Nat × Nat)) : pack (l ++ m) = pack l + 2 ^ (l.map (·.1)).sum * pack m := by
  induction l with
  | nil => simp [pack]
  | cons e t ih =>
    simp only [List.cons_append, pack, List.map_cons, List.sum_cons, Nat.pow_add, ih]
    rw [Nat.mul_add, Nat.mul_assoc, Nat.add_assoc]

/-- Fields of 62 bits under a format below 3. -/
theorem format_lt (l : List (Nat × Nat)) (f : Nat) (hf : f < 3) (hl : (l.map (·.1)).sum = 62) :
    pack (l ++ [(2, f)]) < 3 * 2 ^ 62 := by
  have h := pack_lt l
  rw [hl] at h
  rw [pack_append, hl]
  simp only [pack, Nat.mul_zero, Nat.add_zero]
  omega

theorem of_none {i : Instr} (h : encodeStake i = none) : Statement i := fun _ _ e => by rw [h] at e; cases e

theorem of_some {i : Instr} {x : Fin 128} {v : Nat} (h : encodeStake i = some (x, v)) (hv : v < 3 * 2 ^ 62) :
    Statement i := fun _ _ e => by rw [h] at e; cases e; exact hv

theorem formatP {i : Instr} {x : Fin 128} {c o : Nat} {s : PSlots} (h : encodeStake i = some (x, encodeP c o s)) :
    Statement i := of_some h (format_lt [(20, _), (12, _), (13, _), (12, _), (5, _)] 0 (by decide) rfl)

theorem formatR {i : Instr} {x : Fin 128} {c o : Nat} {s : RSlots} (h : encodeStake i = some (x, encodeR c o s)) :
    Statement i := of_some h (format_lt [(20, _), (12, _), (22, _), (8, _)] 1 (by decide) rfl)

theorem formatC {i : Instr} {x : Fin 128} {c o : Nat} (h : encodeStake i = some (x, encodeC c o)) :
    Statement i := of_some h (format_lt [(56, _), (6, _)] 2 (by decide) rfl)

theorem pnop (k : Fin 128) (m : PSlots) : Statement (.pnop k m) := formatP rfl
theorem qmac (k : Fin 128) (g : Fin 2) (x y : Fin 8) (m : PSlots) : Statement (.qmac k g x y m) := formatP rfl
theorem qmsu (k : Fin 128) (g : Fin 2) (x y : Fin 8) (m : PSlots) : Statement (.qmsu k g x y m) := formatP rfl
theorem qmul (k : Fin 128) (g : Fin 2) (x y : Fin 8) (m : PSlots) : Statement (.qmul k g x y m) := formatP rfl
theorem qdot (k : Fin 128) (a x y : Fin 8) (m : PSlots) : Statement (.qdot k a x y m) := formatP rfl
theorem qdotz (k : Fin 128) (a x y : Fin 8) (m : PSlots) : Statement (.qdotz k a x y m) := formatP rfl
theorem bmac (k : Fin 128) (g : Fin 2) (c : Fin 32) (w : Fin 8) (m : PSlots) : Statement (.bmac k g c w m) := formatP rfl
theorem ftapz (k : Fin 128) (g : Fin 2) (c : Fin 32) (w : Fin 8) (m : PSlots) : Statement (.ftapz k g c w m) := formatP rfl
theorem ftap (k : Fin 128) (g : Fin 2) (c : Fin 32) (w : Fin 8) (m : PSlots) : Statement (.ftap k g c w m) := formatP rfl
theorem pmac (k : Fin 128) (a : Fin 8) (x : Fin 32) (y : Fin 16) (m : PSlots) : Statement (.pmac k a x y m) := formatP rfl
theorem pmsu (k : Fin 128) (a : Fin 8) (x : Fin 32) (y : Fin 16) (m : PSlots) : Statement (.pmsu k a x y m) := formatP rfl
theorem pmul (k : Fin 128) (a : Fin 8) (x : Fin 32) (y : Fin 16) (m : PSlots) : Statement (.pmul k a x y m) := formatP rfl
theorem fdly (k : Fin 128) (a w : Fin 8) (f : Fin 32) (sh : Bool) (m : PSlots) :
    Statement (.fdly k a w f sh m) := formatP rfl
theorem add (k : Fin 128) (d s1 s2 : Fin 32) (m : RSlots) : Statement (.add k d s1 s2 m) := formatR rfl
theorem sub (k : Fin 128) (d s1 s2 : Fin 32) (m : RSlots) : Statement (.sub k d s1 s2 m) := formatR rfl
theorem adds (k : Fin 128) (d s1 s2 : Fin 32) (m : RSlots) : Statement (.adds k d s1 s2 m) := formatR rfl
theorem subs (k : Fin 128) (d s1 s2 : Fin 32) (m : RSlots) : Statement (.subs k d s1 s2 m) := formatR rfl
theorem and (k : Fin 128) (d s1 s2 : Fin 32) (m : RSlots) : Statement (.and k d s1 s2 m) := formatR rfl
theorem or (k : Fin 128) (d s1 s2 : Fin 32) (m : RSlots) : Statement (.or k d s1 s2 m) := formatR rfl
theorem xor (k : Fin 128) (d s1 s2 : Fin 32) (m : RSlots) : Statement (.xor k d s1 s2 m) := formatR rfl
theorem min (k : Fin 128) (d s1 s2 : Fin 32) (m : RSlots) : Statement (.min k d s1 s2 m) := formatR rfl
theorem max (k : Fin 128) (d s1 s2 : Fin 32) (m : RSlots) : Statement (.max k d s1 s2 m) := formatR rfl
theorem shl (k : Fin 128) (d s1 s2 : Fin 32) (m : RSlots) : Statement (.shl k d s1 s2 m) := formatR rfl
theorem shr (k : Fin 128) (d s1 s2 : Fin 32) (m : RSlots) : Statement (.shr k d s1 s2 m) := formatR rfl
theorem shra (k : Fin 128) (d s1 s2 : Fin 32) (m : RSlots) : Statement (.shra k d s1 s2 m) := formatR rfl
theorem mov (k : Fin 128) (d s1 : Fin 32) (m : RSlots) : Statement (.mov k d s1 m) := formatR rfl
theorem neg (k : Fin 128) (d s1 : Fin 32) (m : RSlots) : Statement (.neg k d s1 m) := formatR rfl
theorem abs (k : Fin 128) (d s1 : Fin 32) (m : RSlots) : Statement (.abs k d s1 m) := formatR rfl
theorem not (k : Fin 128) (d s1 : Fin 32) (m : RSlots) : Statement (.not k d s1 m) := formatR rfl
theorem slide (k : Fin 128) (d src : Fin 32) (len : Fin 3) (m : RSlots) : Statement (.slide k d src len m) := formatR rfl
theorem addi (k : Fin 128) (d s1 : Fin 32) (imm : BitVec 12) (m : RSlots) : Statement (.addi k d s1 imm m) := formatR rfl
theorem andi (k : Fin 128) (d s1 : Fin 32) (imm : BitVec 12) (m : RSlots) : Statement (.andi k d s1 imm m) := formatR rfl
theorem shli (k : Fin 128) (d s1 sh : Fin 32) (m : RSlots) : Statement (.shli k d s1 sh m) := formatR rfl
theorem shri (k : Fin 128) (d s1 sh : Fin 32) (m : RSlots) : Statement (.shri k d s1 sh m) := formatR rfl
theorem shrai (k : Fin 128) (d s1 sh : Fin 32) (m : RSlots) : Statement (.shrai k d s1 sh m) := formatR rfl
theorem cmp (k : Fin 128) (s1 s2 : Fin 32) (m : RSlots) : Statement (.cmp k s1 s2 m) := formatR rfl
theorem cmpi (k : Fin 128) (s1 : Fin 32) (imm : BitVec 12) (m : RSlots) : Statement (.cmpi k s1 imm m) := formatR rfl
theorem movfr (k : Fin 128) (d : Fin 32) (x : SReg) (m : RSlots) : Statement (.movfr k d x m) := formatR rfl
theorem movto (k : Fin 128) (d : Fin 32) (x : SReg) (m : RSlots) : Statement (.movto k d x m) := formatR rfl
theorem mac (k : Fin 128) (a : Fin 8) (x y : Fin 32) (sg : Sg) (m : RSlots) : Statement (.mac k a x y sg m) := formatR rfl
theorem msu (k : Fin 128) (a : Fin 8) (x y : Fin 32) (sg : Sg) (m : RSlots) : Statement (.msu k a x y sg m) := formatR rfl
theorem mul (k : Fin 128) (a : Fin 8) (x y : Fin 32) (sg : Sg) (m : RSlots) : Statement (.mul k a x y sg m) := formatR rfl
theorem muln (k : Fin 128) (a : Fin 8) (x y : Fin 32) (sg : Sg) (m : RSlots) : Statement (.muln k a x y sg m) := formatR rfl
theorem aclr (k : Fin 128) (a : Fin 8) (m : RSlots) : Statement (.aclr k a m) := formatR rfl
theorem aadd (k : Fin 128) (a b : Fin 8) (m : RSlots) : Statement (.aadd k a b m) := formatR rfl
theorem asub (k : Fin 128) (a b : Fin 8) (m : RSlots) : Statement (.asub k a b m) := formatR rfl
theorem mova (k : Fin 128) (a : Fin 8) (x : Fin 32) (m : RSlots) : Statement (.mova k a x m) := formatR rfl
theorem movap (k : Fin 128) (a : Fin 8) (part : Part) (x : Fin 32) (m : RSlots) :
    Statement (.movap k a part x m) := formatR rfl
theorem rnd (k : Fin 128) (d : Fin 32) (a : Fin 8) (sh : Fin 16) (m : RSlots) : Statement (.rnd k d a sh m) := formatR rfl
theorem raw (k : Fin 128) (d : Fin 32) (a : Fin 8) (part : Part) (m : RSlots) : Statement (.raw k d a part m) := formatR rfl
theorem lda (k : Fin 128) (a : Fin 8) (coil : Bool) (p mode : Fin 8) (m : RSlots) :
    Statement (.lda k a coil p mode m) := formatR rfl
theorem br (k : Fin 128) (t : Fin 8192) : Statement (.br k t) := formatC rfl
theorem brc (k : Fin 128) (c : Cond) (t : Fin 8192) : Statement (.brc k c t) := formatC rfl
theorem call (k : Fin 128) (t : Fin 8192) : Statement (.call k t) := formatC rfl
theorem ret (k : Fin 128) : Statement (.ret k) := formatC rfl
theorem rep (k : Fin 128) (stop : Fin 8192) (count : BitVec 16) : Statement (.rep k stop count) := formatC rfl
theorem repd (k : Fin 128) (stop : Fin 8192) (d : Fin 32) : Statement (.repd k stop d) := formatC rfl
theorem done (k : Fin 128) : Statement (.done k) := formatC rfl
theorem ldi (k : Fin 128) (d : Fin 32) (imm : Word) : Statement (.ldi k d imm) := formatC rfl
theorem ldia (k : Fin 128) (x : SReg) (imm : BitVec 20) : Statement (.ldia k x imm) := formatC rfl
theorem reservedInstruction (k : Fin 128) : Statement (.reservedInstruction k) := of_none rfl
theorem roundBoundary (late : List (Fin 16 × Nat)) : Statement (.roundBoundary late) := of_none rfl
theorem weavePass : Statement .weavePass := of_none rfl
theorem weaveNop (host : Bool) (a : Agent) (idx : Fin 32768) (w0 w1 w2 : Word) (succEn : Bool) :
    Statement (.weaveNop host a idx w0 w1 w2 succEn) := of_none rfl
theorem weaveSet (host : Bool) (a : Agent) (idx : Fin 32768) (w0 w1 w2 : Word) (succEn : Bool) :
    Statement (.weaveSet host a idx w0 w1 w2 succEn) := of_none rfl
theorem weaveChange (host : Bool) (a : Agent) (idx : Fin 32768) (w0 w1 w2 : Word) (succEn : Bool) :
    Statement (.weaveChange host a idx w0 w1 w2 succEn) := of_none rfl
theorem weaveRemove (host : Bool) (a : Agent) (idx : Fin 32768) (w0 w1 w2 : Word) (succEn : Bool) :
    Statement (.weaveRemove host a idx w0 w1 w2 succEn) := of_none rfl
theorem weaveMute (host : Bool) (a : Agent) (idx : Fin 32768) (w0 w1 w2 : Word) (succEn : Bool) :
    Statement (.weaveMute host a idx w0 w1 w2 succEn) := of_none rfl
theorem weaveUnmute (host : Bool) (a : Agent) (idx : Fin 32768) (w0 w1 w2 : Word) (succEn : Bool) :
    Statement (.weaveUnmute host a idx w0 w1 w2 succEn) := of_none rfl
theorem weaveCut (host : Bool) (a : Agent) (idx : Fin 32768) (w0 w1 w2 : Word) (succEn : Bool) :
    Statement (.weaveCut host a idx w0 w1 w2 succEn) := of_none rfl
theorem weaveCmdValidate (host : Bool) : Statement (.weaveCmdValidate host) := of_none rfl
theorem weaveAgrpSet (a : Agent) (grp : Fin 4096) : Statement (.weaveAgrpSet a grp) := of_none rfl
theorem weaveAgrpClr (a : Agent) (grp : Fin 4096) : Statement (.weaveAgrpClr a grp) := of_none rfl
theorem weaveHpfWrite (a : Agent) (n : Fin 512) (v : Word) : Statement (.weaveHpfWrite a n v) := of_none rfl
theorem weaveGenCfgWrite (a : Agent) (g : Fin 64) (v : Word) : Statement (.weaveGenCfgWrite a g v) := of_none rfl
theorem weaveMtrClr (a : Agent) (m : Fin 64) (v : Word) : Statement (.weaveMtrClr a m v) := of_none rfl
theorem meterWindowEnd (m : Fin 64) : Statement (.meterWindowEnd m) := of_none rfl
theorem weaveRunWrite (a : Agent) (v : Word) : Statement (.weaveRunWrite a v) := of_none rfl
theorem routeTableWrite (a : Agent) (w : Fin 196608) (v : Word) : Statement (.routeTableWrite a w v) := of_none rfl
theorem borderRunWrite (a : Agent) (v : Word) : Statement (.borderRunWrite a v) := of_none rfl
theorem borderSectionWrite (a : Agent) (ch : Fin 512) (k : Fin 8) (b0 b1 b2 a1 a2 : Word) (clr : Bool) :
    Statement (.borderSectionWrite a ch k b0 b1 b2 a1 a2 clr) := of_none rfl
theorem borderCtlWordWrite (a : Agent) (ch : Fin 512) (d0 d1 d2 d3 d4 : Word) (clr : Bool) :
    Statement (.borderCtlWordWrite a ch d0 d1 d2 d3 d4 clr) := of_none rfl
theorem borderCeilWrite (a : Agent) (ch : Fin 512) (d0 d1 d2 d3 d4 : Word) (clr : Bool) :
    Statement (.borderCeilWrite a ch d0 d1 d2 d3 d4 clr) := of_none rfl
theorem borderCmdValidate : Statement .borderCmdValidate := of_none rfl
theorem routeEntryEccUe (i : Fin 32768) : Statement (.routeEntryEccUe i) := of_none rfl
theorem borderRecordEccUe (ch : Fin 512) : Statement (.borderRecordEccUe ch) := of_none rfl
theorem coilGrant (k : Fin 128) (wait : Fin 41) : Statement (.coilGrant k wait) := of_none rfl
theorem stakeDoneSignal (k : Fin 128) : Statement (.stakeDoneSignal k) := of_none rfl
theorem waleStart (c : Fin 16) : Statement (.waleStart c) := of_none rfl
theorem budgetPoint (c : Fin 16) : Statement (.budgetPoint c) := of_none rfl
theorem digestWrite (c : Fin 16) : Statement (.digestWrite c) := of_none rfl
theorem clCtlStart (a : Agent) (c : Fin 16) : Statement (.clCtlStart a c) := of_none rfl
theorem clCtlReinit (a : Agent) (c : Fin 16) : Statement (.clCtlReinit a c) := of_none rfl
theorem clCtlIsolate (a : Agent) (c : Fin 16) (on : Bool) : Statement (.clCtlIsolate a c on) := of_none rfl
theorem loadingDone (c : Fin 16) : Statement (.loadingDone c) := of_none rfl
theorem throttleDown (r : Fin 4) : Statement (.throttleDown r) := of_none rfl
theorem throttleUp (r : Fin 4) : Statement (.throttleUp r) := of_none rfl
theorem tempSensorUpdate (i : Fin 20) (t : BitVec 8) : Statement (.tempSensorUpdate i t) := of_none rfl
theorem cdTrip (i : Fin 16) : Statement (.cdTrip i) := of_none rfl
theorem thermalUngate (r : Fin 4) : Statement (.thermalUngate r) := of_none rfl
theorem pilotEstimate (l : Fin 512) : Statement (.pilotEstimate l) := of_none rfl
theorem reportStale (l : Fin 512) : Statement (.reportStale l) := of_none rfl
theorem broadbandEstimate (l : Fin 512) : Statement (.broadbandEstimate l) := of_none rfl
theorem supvLearn (a : Agent) : Statement (.supvLearn a) := of_none rfl
theorem learnDone : Statement .learnDone := of_none rfl
theorem lineStateWrite (a : Agent) (l : Fin 512) (v : Word) : Statement (.lineStateWrite a l v) := of_none rfl
theorem micCheckPeriod (m : Fin 128) : Statement (.micCheckPeriod m) := of_none rfl
theorem pdmDensityPeriod (m : Fin 32) (ones : BitVec 16) (steady : Bool) :
    Statement (.pdmDensityPeriod m ones steady) := of_none rfl
theorem tiEstimate (i : Fin 64) : Statement (.tiEstimate i) := of_none rfl
theorem ambientReport (z : Fin 64) : Statement (.ambientReport z) := of_none rfl
theorem sweepEnd : Statement .sweepEnd := of_none rfl
theorem contactBandChange (i : Fin 16) (v : Fin 10001) : Statement (.contactBandChange i v) := of_none rfl
theorem contactFilterAccept (i : Fin 16) : Statement (.contactFilterAccept i) := of_none rfl
theorem alarmMsgArrival (p : Fin 7) (src : BitVec 48) (prot : Bool) (body : List Byte) :
    Statement (.alarmMsgArrival p src prot body) := of_none rfl
theorem alarmMsgStart : Statement .alarmMsgStart := of_none rfl
theorem alarmCmdStart (a : Agent) (t : Fin 64) : Statement (.alarmCmdStart a t) := of_none rfl
theorem alarmCmdStop (a : Agent) (t : Fin 64) : Statement (.alarmCmdStop a t) := of_none rfl
theorem alarmCmdReset (a : Agent) : Statement (.alarmCmdReset a) := of_none rfl
theorem alarmRunWrite (a : Agent) (v : Word) : Statement (.alarmRunWrite a v) := of_none rfl
theorem messagePlayEnd (p : Fin 16) : Statement (.messagePlayEnd p) := of_none rfl
theorem chunkFetchDone (p : Fin 16) (read : Bool) : Statement (.chunkFetchDone p read) := of_none rfl
theorem tailFail (p : Fin 16) : Statement (.tailFail p) := of_none rfl
theorem xoLoss : Statement .xoLoss := of_none rfl
theorem tdmRxFrame (n : Fin 32) (line : List TdmClk) (rate : BitVec 18) (delay : Nat) :
    Statement (.tdmRxFrame n line rate delay) := of_none rfl
theorem tdmTxFrame (n : Fin 32) (late : Nat) : Statement (.tdmTxFrame n late) := of_none rfl
theorem inputLoss (i : InputId) (c : LossCause) : Statement (.inputLoss i c) := of_none rfl
theorem inputFadeEnd (i : InputId) : Statement (.inputFadeEnd i) := of_none rfl
theorem inputReturn (i : InputId) : Statement (.inputReturn i) := of_none rfl
theorem inputRampEnd (i : InputId) : Statement (.inputRampEnd i) := of_none rfl
theorem tdmMaskWrite (a : Agent) (n : Fin 32) (tx : Bool) (v : Word) : Statement (.tdmMaskWrite a n tx v) := of_none rfl
theorem tdmMaskCommit (n : Fin 32) : Statement (.tdmMaskCommit n) := of_none rfl
theorem tdmRunWrite (a : Agent) (n : Fin 32) (v : Word) : Statement (.tdmRunWrite a n v) := of_none rfl
theorem pdmMicEnable (a : Agent) (v : Word) : Statement (.pdmMicEnable a v) := of_none rfl
theorem pdmWakeEnd (j : Fin 8) : Statement (.pdmWakeEnd j) := of_none rfl
theorem aesLock (i : Fin 4) : Statement (.aesLock i) := of_none rfl
theorem aesLockLoss (i : Fin 4) : Statement (.aesLockLoss i) := of_none rfl
theorem aesCsBlock (i : Fin 4) (c : Fin 2) (bytes : List Byte) : Statement (.aesCsBlock i c bytes) := of_none rfl
theorem asrcLock (ch : Fin 32) (ratio : Word) (dev : Fin 513) : Statement (.asrcLock ch ratio dev) := of_none rfl
theorem asrcLockLoss (ch : Fin 32) : Statement (.asrcLockLoss ch) := of_none rfl
theorem trigInEdge (a b : Bool) : Statement (.trigInEdge a b) := of_none rfl
theorem netFrameReceive (p : Fin 7) (f : NetFrame) : Statement (.netFrameReceive p f) := of_none rfl
theorem pauseFrameReceive (p : Fin 7) (f : NetFrame) (quanta : BitVec 16) :
    Statement (.pauseFrameReceive p f quanta) := of_none rfl
theorem pauseEnd (p : Fin 7) : Statement (.pauseEnd p) := of_none rfl
theorem pauseWatchdog (p : Fin 7) : Statement (.pauseWatchdog p) := of_none rfl
theorem txFrameStart (p : Fin 7) : Statement (.txFrameStart p) := of_none rfl
theorem gateEntryChange (p : Fin 6) : Statement (.gateEntryChange p) := of_none rfl
theorem gclCommit (a : Agent) (p : Fin 7) (v : Word) : Statement (.gclCommit a p v) := of_none rfl
theorem netRestart (a : Agent) (p : Fin 7) (en : Bool) : Statement (.netRestart a p en) := of_none rfl
theorem linkUp (l : Fin 8) (m : LineMode) : Statement (.linkUp l m) := of_none rfl
theorem linkDown (l : Fin 8) : Statement (.linkDown l) := of_none rfl
theorem speedLowerTry (p : Fin 6) : Statement (.speedLowerTry p) := of_none rfl
theorem lpiEntry (p : Fin 2) : Statement (.lpiEntry p) := of_none rfl
theorem txRingTailWrite (a : Agent) (p : Fin 7) (v : Word) : Statement (.txRingTailWrite a p v) := of_none rfl
theorem rxRingTailWrite (a : Agent) (r : Fin 4) (v : Word) : Statement (.rxRingTailWrite a r v) := of_none rfl
theorem netVlogGo (a : Agent) : Statement (.netVlogGo a) := of_none rfl
theorem violationWindowEnd (e : Fin 64) (c : Fin 256) : Statement (.violationWindowEnd e c) := of_none rfl
theorem quarantineEnd (e : Fin 64) : Statement (.quarantineEnd e) := of_none rfl
theorem netQclr (a : Agent) (e : Fin 64) : Statement (.netQclr a e) := of_none rfl
theorem streamFrameSend (i : Fin 511) : Statement (.streamFrameSend i) := of_none rfl
theorem ctxEnable (a : Agent) (i : Fin 511) (v : Word) : Statement (.ctxEnable a i v) := of_none rfl
theorem frerResetTimeout (i : Fin 511) : Statement (.frerResetTimeout i) := of_none rfl
theorem digestFrameSend : Statement .digestFrameSend := of_none rfl
theorem pairDigestReceive (p : PairFrame) : Statement (.pairDigestReceive p) := of_none rfl
theorem partnerLost : Statement .partnerLost := of_none rfl
theorem pairAlarmStartReceive (p : PairFrame) (t : Fin 64) (k ramp : Nat) :
    Statement (.pairAlarmStartReceive p t k ramp) := of_none rfl
theorem pairActionReceive (p : PairFrame) (acts : List (List Word)) (params : List Machine.ParamJob) :
    Statement (.pairActionReceive p acts params) := of_none rfl
theorem pairCopyReceive (p : PairFrame) : Statement (.pairCopyReceive p) := of_none rfl
theorem pairMirrorReceive (p : PairFrame) : Statement (.pairMirrorReceive p) := of_none rfl
theorem pairRegsReceive (p : PairFrame) : Statement (.pairRegsReceive p) := of_none rfl
theorem pairHubReceive (p : PairFrame) (pos : Fin 16) (r : HubRec) : Statement (.pairHubReceive p pos r) := of_none rfl
theorem pairControlReceive (p : PairFrame) (c : PairCtl) : Statement (.pairControlReceive p c) := of_none rfl
theorem pairLaneResend (l : Fin 2) : Statement (.pairLaneResend l) := of_none rfl
theorem pairWithdraw (a : Agent) : Statement (.pairWithdraw a) := of_none rfl
theorem pairRejoin (a : Agent) : Statement (.pairRejoin a) := of_none rfl
theorem autoRejoin : Statement .autoRejoin := of_none rfl
theorem ptpSync (h : PtpHdr) (origin rx freq : Int) : Statement (.ptpSync h origin rx freq) := of_none rfl
theorem ptpAnnounce (h : PtpHdr) (d : PtpAnnounce) : Statement (.ptpAnnounce h d) := of_none rfl
theorem ptpDelayResp (h : PtpHdr) (t3 t4 : Int) : Statement (.ptpDelayResp h t3 t4) := of_none rfl
theorem ptpDelayReq (h : PtpHdr) (rx : Int) : Statement (.ptpDelayReq h rx) := of_none rfl
theorem ptpPdelayReq (h : PtpHdr) (rx : Int) : Statement (.ptpPdelayReq h rx) := of_none rfl
theorem ptpPdelayResp (h : PtpHdr) (t1 t2 t3 t4 : Int) : Statement (.ptpPdelayResp h t1 t2 t3 t4) := of_none rfl
theorem ptpSignaling (h : PtpHdr) (link sync ann : BitVec 8) : Statement (.ptpSignaling h link sync ann) := of_none rfl
theorem ptpManagement (h : PtpHdr) : Statement (.ptpManagement h) := of_none rfl
theorem masterLost : Statement .masterLost := of_none rfl
theorem timeSnap (a : Agent) : Statement (.timeSnap a) := of_none rfl
theorem timeTsqPop (a : Agent) (p : Fin 6) : Statement (.timeTsqPop a p) := of_none rfl
theorem rtcPeriodMeasure (per : BitVec 48) : Statement (.rtcPeriodMeasure per) := of_none rfl
theorem pairSkewReport : Statement .pairSkewReport := of_none rfl
theorem saRoute (a : Agent) (setH : Bool) (w : SaWords) : Statement (.saRoute a setH w) := of_none rfl
theorem saBorder (a : Agent) (setH : Bool) (w : SaWords) : Statement (.saBorder a setH w) := of_none rfl
theorem saAlarmStart (a : Agent) (setH : Bool) (w : SaWords) : Statement (.saAlarmStart a setH w) := of_none rfl
theorem saAlarmStop (a : Agent) (setH : Bool) (w : SaWords) : Statement (.saAlarmStop a setH w) := of_none rfl
theorem saAlarmReset (a : Agent) (setH : Bool) (w : SaWords) : Statement (.saAlarmReset a setH w) := of_none rfl
theorem saAlarmEngage (a : Agent) (setH : Bool) (w : SaWords) : Statement (.saAlarmEngage a setH w) := of_none rfl
theorem saAlarmRelease (a : Agent) (setH : Bool) (w : SaWords) : Statement (.saAlarmRelease a setH w) := of_none rfl
theorem timeSaCancel (a : Agent) (setH : Bool) (tag : BitVec 16) : Statement (.timeSaCancel a setH tag) := of_none rfl
theorem selectorEvaluate : Statement .selectorEvaluate := of_none rfl
theorem refLos (r : Fin 8) : Statement (.refLos r) := of_none rfl
theorem refQualify (r : Fin 8) : Statement (.refQualify r) := of_none rfl
theorem refFreqDisqualify (r : Fin 8) : Statement (.refFreqDisqualify r) := of_none rfl
theorem wtrExpire (r : Fin 8) : Statement (.wtrExpire r) := of_none rfl
theorem switchDone : Statement .switchDone := of_none rfl
theorem distrustEnd (r : Fin 8) : Statement (.distrustEnd r) := of_none rfl
theorem outCfgWrite (a : Agent) (o : Fin 4) (ofs : Bool) (v : Word) : Statement (.outCfgWrite a o ofs v) := of_none rfl
theorem hello (f : LinkFrame) : Statement (.hello f) := of_none rfl
theorem helloSend : Statement .helloSend := of_none rfl
theorem attestReq (f : LinkFrame) : Statement (.attestReq f) := of_none rfl
theorem attestResp (f : LinkFrame) : Statement (.attestResp f) := of_none rfl
theorem linkAdmit (f : LinkFrame) : Statement (.linkAdmit f) := of_none rfl
theorem refuse (f : LinkFrame) : Statement (.refuse f) := of_none rfl
theorem inventory (f : LinkFrame) : Statement (.inventory f) := of_none rfl
theorem bye (f : LinkFrame) : Statement (.bye f) := of_none rfl
theorem zoneCmd (o : ZoneFrom) : Statement (.zoneCmd o) := of_none rfl
theorem zoneAck (f : LinkFrame) : Statement (.zoneAck f) := of_none rfl
theorem event (f : LinkFrame) : Statement (.event f) := of_none rfl
theorem linkAnnounce (f : Option LinkFrame) (sap : List Byte) : Statement (.linkAnnounce f sap) := of_none rfl
theorem mgrBeat (f : LinkFrame) : Statement (.mgrBeat f) := of_none rfl
theorem mgrBeatSend : Statement .mgrBeatSend := of_none rfl
theorem dirSync (f : LinkFrame) : Statement (.dirSync f) := of_none rfl
theorem linkWake (f : LinkFrame) : Statement (.linkWake f) := of_none rfl
theorem mboxRemote (f : LinkFrame) : Statement (.mboxRemote f) := of_none rfl
theorem mboxRemoteAck (f : LinkFrame) : Statement (.mboxRemoteAck f) := of_none rfl
theorem linkAck (f : LinkFrame) : Statement (.linkAck f) := of_none rfl
theorem linkNak (f : LinkFrame) : Statement (.linkNak f) := of_none rfl
theorem linkResendTimeout : Statement .linkResendTimeout := of_none rfl
theorem nodeLostTimeout (n : Fin 257) : Statement (.nodeLostTimeout n) := of_none rfl
theorem reattestTimer (n : Fin 257) : Statement (.reattestTimer n) := of_none rfl
theorem leaseExpire (n : Option (Fin 257)) : Statement (.leaseExpire n) := of_none rfl
theorem zoneCmdResend (tag : BitVec 16) : Statement (.zoneCmdResend tag) := of_none rfl
theorem managerStartListenEnd : Statement .managerStartListenEnd := of_none rfl
theorem mboxRemoteTimeout (k : Fin 32) : Statement (.mboxRemoteTimeout k) := of_none rfl
theorem capSkeinImage (a : Agent) (slot : Fin 2) (k : SkImage) (flashOk : Bool) :
    Statement (.capSkeinImage a slot k flashOk) := of_none rfl
theorem capFwBundle (a : Agent) (b : Bundle) (flashOk : Bool) : Statement (.capFwBundle a b flashOk) := of_none rfl
theorem capAlarmStore (a : Agent) (flashOk : Bool) : Statement (.capAlarmStore a flashOk) := of_none rfl
theorem activatePending (a : Agent) : Statement (.activatePending a) := of_none rfl
theorem activateReset (a : Agent) : Statement (.activateReset a) := of_none rfl
theorem activateInPlace (a : Agent) (badMsgs : List Nat) : Statement (.activateInPlace a badMsgs) := of_none rfl
theorem capStk (a : Agent) (flashOk : Bool) : Statement (.capStk a flashOk) := of_none rfl
theorem capSvnFloor (a : Agent) : Statement (.capSvnFloor a) := of_none rfl
theorem capLifecycle (a : Agent) : Statement (.capLifecycle a) := of_none rfl
theorem capStreamSet (a : Agent) (l : List (Fin 511 × List (Nat × Word))) : Statement (.capStreamSet a l) := of_none rfl
theorem flashProgram (a : Agent) : Statement (.flashProgram a) := of_none rfl
theorem flashErase (a : Agent) : Statement (.flashErase a) := of_none rfl
theorem flashOpDone (good : Bool) : Statement (.flashOpDone good) := of_none rfl
theorem attestEvidenceGo (a : Option Agent) : Statement (.attestEvidenceGo a) := of_none rfl
theorem debugNonceRequest : Statement .debugNonceRequest := of_none rfl
theorem debugTokenSubmit (token : List Byte) : Statement (.debugTokenSubmit token) := of_none rfl
theorem upsettStart (b : BootIn) : Statement (.upsettStart b) := of_none rfl
theorem trialConfirm : Statement .trialConfirm := of_none rfl
theorem lockRead (a : Agent) (n : Fin 64) : Statement (.lockRead a n) := of_none rfl
theorem lockRelease (a : Agent) (n : Fin 64) (v : Word) : Statement (.lockRelease a n v) := of_none rfl
theorem mboxSend (a : Agent) (k : Fin 32) : Statement (.mboxSend a k) := of_none rfl
theorem mboxRelease (a : Agent) (k : Fin 32) : Statement (.mboxRelease a k) := of_none rfl
theorem mboxAckTimeout (a : Fin 3) (k : Fin 32) : Statement (.mboxAckTimeout a k) := of_none rfl
theorem masterPortReset (p : Fin 35) : Statement (.masterPortReset p) := of_none rfl
theorem portReconnect (p : Fin 35) : Statement (.portReconnect p) := of_none rfl
theorem stallLimit : Statement .stallLimit := of_none rfl
theorem qspiRead (addr : Word) (len : BitVec 12) : Statement (.qspiRead addr len) := of_none rfl
theorem qspiQuadRead (addr : Word) (len : BitVec 12) : Statement (.qspiQuadRead addr len) := of_none rfl
theorem qspiWrite (addr : Word) (bytes : List Byte) : Statement (.qspiWrite addr bytes) := of_none rfl
theorem qspiQuadWrite (addr : Word) (bytes : List Byte) : Statement (.qspiQuadWrite addr bytes) := of_none rfl
theorem qspiStatus : Statement .qspiStatus := of_none rfl
theorem pwrGoRun (a : Agent) : Statement (.pwrGoRun a) := of_none rfl
theorem pwrGoTrim (a : Agent) : Statement (.pwrGoTrim a) := of_none rfl
theorem pwrGoWatch (a : Agent) : Statement (.pwrGoWatch a) := of_none rfl
theorem pwrGoRim (a : Agent) : Statement (.pwrGoRim a) := of_none rfl
theorem participantAnswer (busy : Bool) : Statement (.participantAnswer busy) := of_none rfl
theorem participantTimeout : Statement .participantTimeout := of_none rfl
theorem wakeFilterFrame (f : NetFrame) : Statement (.wakeFilterFrame f) := of_none rfl
theorem hubReady : Statement .hubReady := of_none rfl
theorem demandWakeDone (d : Fin 19) : Statement (.demandWakeDone d) := of_none rfl
theorem demandIdleGate (d : Fin 19) : Statement (.demandIdleGate d) := of_none rfl
theorem supplyMonitorUpdate (i : Fin 8) (mv : BitVec 16) : Statement (.supplyMonitorUpdate i mv) := of_none rfl
theorem roMonitorUpdate (j : Fin 24) (count : BitVec 20) : Statement (.roMonitorUpdate j count) := of_none rfl
theorem emCanaryUpdate (open_ : Word) : Statement (.emCanaryUpdate open_) := of_none rfl
theorem eolUpdate : Statement .eolUpdate := of_none rfl
theorem recovRetry (a : Agent) (f : BitVec 8) (u : BitVec 9) : Statement (.recovRetry a f u) := of_none rfl
theorem recovReinit (a : Agent) (f : BitVec 8) (u : BitVec 9) : Statement (.recovReinit a f u) := of_none rfl
theorem recovDeviceReset (a : Agent) (f : BitVec 8) (u : BitVec 9) : Statement (.recovDeviceReset a f u) := of_none rfl
theorem recovPowerCycle (a : Agent) (f : BitVec 8) (u : BitVec 9) : Statement (.recovPowerCycle a f u) := of_none rfl
theorem wedgeDetect (w : Wedge) : Statement (.wedgeDetect w) := of_none rfl
theorem pwrReset (a : Agent) (key : BitVec 8) : Statement (.pwrReset a key) := of_none rfl
theorem pwrCycle (a : Agent) (key : BitVec 8) : Statement (.pwrCycle a key) := of_none rfl
theorem powerCycleFail : Statement .powerCycleFail := of_none rfl
theorem rstNRelease (role : Fin 4) (testEn : Bool) : Statement (.rstNRelease role testEn) := of_none rfl
theorem vddRimLow : Statement .vddRimLow := of_none rfl
theorem rimRtcRead (a : Agent) : Statement (.rimRtcRead a) := of_none rfl
theorem registerWrite (a : Agent) (reg : BitVec 25) (size : Fin 3) (v : Word) :
    Statement (.registerWrite a reg size v) := of_none rfl
theorem markingEdge (k : Fin 7) (phase freq : Int) : Statement (.markingEdge k phase freq) := of_none rfl
theorem xoReturn : Statement .xoReturn := of_none rfl
theorem aes3FrameReceive (i : Fin 4) (a b : SubFrame) (z : Bool) (rate : BitVec 18) (delay : Nat) :
    Statement (.aes3FrameReceive i a b z rate delay) := of_none rfl
theorem aes3FrameSend (o : Fin 4) : Statement (.aes3FrameSend o) := of_none rfl
theorem demandAccess (p : Fin 35) (addr : BitVec 40) (write : Bool) (v : Word) :
    Statement (.demandAccess p addr write v) := of_none rfl
theorem accessError (p : Fin 35) (addr : BitVec 40) (size : Fin 3) : Statement (.accessError p addr size) := of_none rfl
theorem powerUpDone (d : Fin 18) : Statement (.powerUpDone d) := of_none rfl
theorem weaveReservedOp (host : Bool) (a : Agent) (op : Fin 9) (idx : Fin 32768) (w0 w1 w2 : Word) (succEn : Bool) :
    Statement (.weaveReservedOp host a op idx w0 w1 w2 succEn) := of_none rfl
theorem borderReservedItem (a : Agent) (ch : Fin 512) (item : Fin 6) (d0 d1 d2 d3 d4 : Word) (clr : Bool) :
    Statement (.borderReservedItem a ch item d0 d1 d2 d3 d4 clr) := of_none rfl
theorem saBadkind (a : Agent) (setH : Bool) (kind : Fin 13) (w : SaWords) :
    Statement (.saBadkind a setH kind w) := of_none rfl
theorem capReservedKind (a : Agent) : Statement (.capReservedKind a) := of_none rfl
theorem alarmMsgReservedKind : Statement .alarmMsgReservedKind := of_none rfl
theorem linkReservedType (f : LinkFrame) : Statement (.linkReservedType f) := of_none rfl

end Sys2Proof.Laws.Shape
end

