-- ==== Sys2Proof/Laws/Stake.lean ====
section
/-! SUPPORT. Laws/Stake.lean: what the issue of a stake instruction does where nothing holds it up. -/
namespace Sys2Proof.Machine

/-! ### Stakes and memory -/

@[simp] theorem State.stake_setStake (s : State) (k : Nat) (t : Stake) : (s.setStake k t).stake k = t :=
  mget_mset_self _ _ _ _

theorem State.stake_setStake_ne (s : State) {k j : Nat} (h : j ≠ k) (t : Stake) :
    (s.setStake k t).stake j = s.stake j := mget_mset_ne _ _ h _

theorem leBytes_length (v n : Nat) : (leBytes v n).length = n := by
  induction n generalizing v with
  | zero => rfl
  | succ n ih => simp [leBytes, ih]

theorem State.frame_setBytes (l : List Byte) (s : State) (a : Nat) :
    (s.setBytes a l).regs = s.regs ∧ (s.setBytes a l).ecc = s.ecc ∧ (s.setBytes a l).compute = s.compute
      ∧ Frame [] [.mem] s (s.setBytes a l) := by
  induction l generalizing a s with
  | nil => exact ⟨rfl, rfl, rfl, fun _ _ => rfl, fun p _ => by cases p <;> simp [Piece.same, State.setBytes]⟩
  | cons x t ih =>
    obtain ⟨h1, h2, h3, h4, h5⟩ := ih (s.setByte a x) (a + 1)
    refine ⟨h1, h2, h3, h4, fun p hp => ?_⟩
    have h6 := h5 p hp
    cases p <;> first | exact h6 | exact absurd (by simp) hp

theorem State.ite_pair (s : State) (c : Bool) (p : Pair) :
    ∃ q, (if c = true then { s with pair := p } else s) = { s with pair := q } := by
  cases c
  · exact ⟨s.pair, rfl⟩
  · exact ⟨p, rfl⟩

theorem State.mirrorNote_eq (s : State) (a : Nat) (v : Word) (f : Bool) : ∃ p, s.mirrorNote a v f = { s with pair := p } := by
  unfold State.mirrorNote
  split
  · exact ⟨s.pair, rfl⟩
  · exact State.ite_pair s _ _

theorem State.frame_mirrorNote (s : State) (a : Nat) (v : Word) (f : Bool) : Frame [] [.pair] s (s.mirrorNote a v f) := by
  obtain ⟨p, hp⟩ := s.mirrorNote_eq a v f
  rw [hp]
  exact ⟨fun _ _ => rfl, fun q hq => by cases q <;> first | rfl | exact fun _ => rfl | exact absurd (by simp) hq⟩

theorem State.compute_mirrorNote (s : State) (a : Nat) (v : Word) (f : Bool) :
    (s.mirrorNote a v f).compute = s.compute ∧ (s.mirrorNote a v f).ecc = s.ecc
      ∧ ∀ b, (s.mirrorNote a v f).byte b = s.byte b := by
  obtain ⟨p, hp⟩ := s.mirrorNote_eq a v f
  rw [hp]
  exact ⟨rfl, rfl, fun _ => rfl⟩

/-- One store carried out: nothing but its four bytes, and the mirror count, changes. -/
theorem State.storeWord_spec (s : State) (a : Nat) (v : Word) (he : s.ecc = []) :
    Frame [] [.mem, .pair] s (s.storeWord a v) ∧ (s.storeWord a v).compute = s.compute
      ∧ (s.storeWord a v).ecc = [] ∧ ∀ b, (b < a ∨ a + 4 ≤ b) → (s.storeWord a v).byte b = s.byte b := by
  obtain ⟨h1, h2, h3, h4, h5⟩ := State.frame_setBytes (leBytes v.toNat 4) s a
  obtain ⟨m1, m2⟩ := State.frame_mirrorNote ((s.setWord a v).freshEcc a) a v false
  obtain ⟨c1, c2, c3⟩ := State.compute_mirrorNote ((s.setWord a v).freshEcc a) a v false
  refine ⟨⟨fun b _ => ?_, fun p hp => ?_⟩, ?_, ?_, fun b hb => ?_⟩
  · exact (m1 b (by simp)).trans (congrArg (fun r => mget regReset r b) h1)
  · by_cases hm : p = .pair
    · subst hm; simp at hp
    · by_cases hq : p = .mem
      · subst hq; simp at hp
      · have a1 := m2 p (by simp [hm])
        have a2 := h5 p (by simp [hq])
        cases p <;> first | (exact absurd rfl hm) | (exact absurd rfl hq) | (exact a1.trans a2) | skip
        exact (c2.trans ((s.setWord a v).freshEcc_nil a (h2.trans he))).trans he.symm
  · exact c1.trans h3
  · exact c2.trans ((s.setWord a v).freshEcc_nil a (h2.trans he))
  · refine (c3 b).trans (State.byte_setBytes _ a b s ?_)
    rw [leBytes_length]; omega

theorem State.commit_spec (l : List PStore) (s : State) (he : s.ecc = []) :
    Frame [] [.mem, .pair] s (s.commit l) ∧ (s.commit l).compute = s.compute ∧ (s.commit l).ecc = []
      ∧ ∀ b, (∀ p ∈ l, b < p.addr ∨ p.addr + 4 ≤ b) → (s.commit l).byte b = s.byte b := by
  induction l generalizing s with
  | nil =>
    exact ⟨⟨fun _ _ => rfl, fun p _ => by cases p <;> simp [Piece.same, State.commit]⟩, rfl, he, fun _ _ => rfl⟩
  | cons x t ih =>
    obtain ⟨⟨f1, f2⟩, f3, f4, f5⟩ := State.storeWord_spec s x.addr x.data he
    obtain ⟨⟨g1, g2⟩, g3, g4, g5⟩ := ih (s.storeWord x.addr x.data) f4
    refine ⟨⟨fun a ha => (g1 a ha).trans (f1 a ha), fun p hp => ?_⟩, g3.trans f3, g4, fun b hb => ?_⟩
    · have a1 := g2 p hp
      have a2 := f2 p hp
      cases p <;> first | (exact a1.trans a2) | skip
      exact absurd (by simp) hp
    · exact (g5 b fun p hp => hb p (by simp [hp])).trans (f5 b (hb x (by simp)))

/-! ### The issue -/

theorem endTests_none (pc : Nat) (ls : List Level) (r : Arch) (h : ∀ v ∈ ls, v.stop ≠ pc) :
    endTests pc ls r = (r, none) := by
  induction ls with
  | nil => rfl
  | cons v t ih =>
    rw [endTests, if_neg (h v (by simp))]
    exact ih fun w hw => h w (by simp [hw])

/-- Destinations among the words that loads return. -/
theorem State.loads_ok (s : State) (k : Nat) (r : Arch) (o : Op) (he : s.ecc = []) :
    ∃ ld, s.loads k r o = .inr ld
      ∧ (∀ e ∈ ld.regs, (∃ x, o.l1 = some x ∧ e.1 = x.dst.val) ∨ (∃ x, o.l2 = some x ∧ e.1 = x.dst.val))
      ∧ (∀ e ∈ ld.accs, ∃ x, o.lda = some x ∧ e.1 = x.acc)
      ∧ (o.l1 = none → o.l2 = none → o.lda = none → ld.accv = false) := by
  have key : ∀ p c, ∃ w, s.slotLoad p c = .inr w := by
    intro p c
    unfold State.slotLoad State.loadWord
    cases p <;> simp [s.ue_nil _ he]
  have key1 : ∀ (b : Bool) p c, ∃ w : Option (Word × Bool),
      (if b = true then Sum.inr none else (s.slotLoad p c).map id some : Sum Nat (Option (Word × Bool))) = .inr w := by
    intro b p c
    obtain ⟨w, hw⟩ := key p c
    cases b
    · exact ⟨some w, by simp [hw]⟩
    · exact ⟨none, by simp⟩
  have key2 : ∀ p c, ∃ w : Option (Word × Bool), (s.slotLoad p c).map id some = .inr w := by
    intro p c
    obtain ⟨w, hw⟩ := key p c
    exact ⟨some w, by simp [hw]⟩
  unfold State.loads
  rcases h1 : o.l1 with _ | x <;> rcases ha : o.lda with _ | z <;> rcases h2 : o.l2 with _ | y <;> simp only []
  · exact ⟨_, rfl, by simp, by simp, by simp⟩
  · obtain ⟨w2, e2⟩ := key2 (yPlace k s.sys.parity (r.ea y.preg.val y.mode.val)) fYmem
    rw [e2]
    cases w2 <;> exact ⟨_, rfl, by simp, by simp, by simp⟩
  · obtain ⟨wa, ea⟩ := key1 z.coil (xPlace k s.sys.parity (r.ea z.preg z.mode)).1 fXmem
    rw [ea]
    cases wa <;> exact ⟨_, rfl, by simp, by simp, by simp⟩
  · obtain ⟨wa, ea⟩ := key1 z.coil (xPlace k s.sys.parity (r.ea z.preg z.mode)).1 fXmem
    obtain ⟨w2, e2⟩ := key2 (yPlace k s.sys.parity (r.ea y.preg.val y.mode.val)) fYmem
    rw [ea, e2]
    cases wa <;> cases w2 <;> exact ⟨_, rfl, by simp, by simp, by simp⟩
  · obtain ⟨w1, e1⟩ := key1 x.coil (xPlace k s.sys.parity (r.ea x.preg.val x.mode.val)).1 fXmem
    rw [e1]
    cases w1 <;> exact ⟨_, rfl, by simp, by simp, by simp⟩
  · obtain ⟨w1, e1⟩ := key1 x.coil (xPlace k s.sys.parity (r.ea x.preg.val x.mode.val)).1 fXmem
    obtain ⟨w2, e2⟩ := key2 (yPlace k s.sys.parity (r.ea y.preg.val y.mode.val)) fYmem
    rw [e1, e2]
    cases w1 <;> cases w2 <;> exact ⟨_, rfl, by simp, by simp, by simp⟩
  · obtain ⟨w1, e1⟩ := key1 x.coil (xPlace k s.sys.parity (r.ea x.preg.val x.mode.val)).1 fXmem
    obtain ⟨wa, ea⟩ := key1 z.coil (xPlace k s.sys.parity (r.ea z.preg z.mode)).1 fXmem
    rw [e1, ea]
    cases w1 <;> cases wa <;> exact ⟨_, rfl, by simp, by simp, by simp⟩
  · obtain ⟨w1, e1⟩ := key1 x.coil (xPlace k s.sys.parity (r.ea x.preg.val x.mode.val)).1 fXmem
    obtain ⟨wa, ea⟩ := key1 z.coil (xPlace k s.sys.parity (r.ea z.preg z.mode)).1 fXmem
    obtain ⟨w2, e2⟩ := key2 (yPlace k s.sys.parity (r.ea y.preg.val y.mode.val)) fYmem
    rw [e1, ea, e2]
    cases w1 <;> cases wa <;> cases w2 <;> exact ⟨_, rfl, by simp, by simp, by simp⟩

/-! ### The registers after an instruction's own effects -/

/-- The address registers after the post-modifications of an instruction's slots. -/
def Op.posts (o : Op) (r : Arch) : Arch :=
  let r1 := o.accesses.foldl (fun q x => match r.post x.1 x.2 with | some v => q.setP x.1 v | none => q) r
  let last (n : Nat) : Bool := (o.accesses.filter fun x => x.1 == n).getLast?.elim true fun x => (r.post x.1 x.2).isSome
  (List.range 8).foldl (fun q n => if last n then q else q.setP n (r.rp n)) r1

/-- A change of address registers alone, among those named. -/
def Arch.onlyP (ps : List Nat) (r q : Arch) : Prop :=
  (∃ p, q = { r with p := p }) ∧ ∀ n, n ∉ ps → q.rp n = r.rp n

theorem Arch.onlyP_refl (ps : List Nat) (r : Arch) : Arch.onlyP ps r r := ⟨⟨r.p, rfl⟩, fun _ _ => rfl⟩

theorem Arch.onlyP_setP {ps : List Nat} {r q : Arch} (h : Arch.onlyP ps r q) {n : Nat} (hn : n ∈ ps) (v : BitVec 20) :
    Arch.onlyP ps r (q.setP n v) := by
  obtain ⟨⟨p, hp⟩, h2⟩ := h
  refine ⟨⟨(q.setP n v).p, by rw [hp]; rfl⟩, fun m hm => ?_⟩
  have : m ≠ n := fun e => hm (e ▸ hn)
  exact (mget_mset_ne _ _ this v).trans (h2 m hm)

theorem Arch.onlyP_same {ps : List Nat} {r q : Arch} (h : Arch.onlyP ps r q) (n : Nat) :
    Arch.onlyP ps r (q.setP n (r.rp n)) := by
  obtain ⟨⟨p, hp⟩, h2⟩ := h
  refine ⟨⟨(q.setP n (r.rp n)).p, by rw [hp]; rfl⟩, fun m hm => ?_⟩
  by_cases e : m = n
  · subst e; exact mget_mset_self _ _ _ _
  · exact (mget_mset_ne _ _ e _).trans (h2 m hm)

theorem foldl_inv {α β : Type} (P : β → Prop) (f : β → α → β) (l : List α) (b : β) (hb : P b)
    (hf : ∀ b a, a ∈ l → P b → P (f b a)) : P (l.foldl f b) := by
  induction l generalizing b with
  | nil => exact hb
  | cons a t ih => exact ih (f b a) (hf b a (by simp) hb) fun b a ha => hf b a (by simp [ha])

theorem Op.posts_only (o : Op) (r : Arch) : Arch.onlyP (o.accesses.map (·.1)) r (o.posts r) := by
  unfold Op.posts
  refine foldl_inv (Arch.onlyP (o.accesses.map (·.1)) r) _ _ _ ?_ ?_
  · refine foldl_inv (Arch.onlyP (o.accesses.map (·.1)) r) _ _ _ (Arch.onlyP_refl _ _) ?_
    intro b a ha hb
    split
    · exact Arch.onlyP_setP hb (List.mem_map_of_mem ha) _
    · exact hb
  · intro b n _ hb
    split
    · exact hb
    · exact Arch.onlyP_same hb n

/-- The words of loads put into d registers: nothing else changes. -/
theorem Arch.loads_d (l : List (Nat × Word)) (r : Arch) :
    (∃ d, l.foldl (fun q w => q.setD w.1 w.2) r = { r with d := d })
      ∧ ∀ j, (∀ e ∈ l, e.1 ≠ j) → (l.foldl (fun q w => q.setD w.1 w.2) r).rd j = r.rd j := by
  induction l generalizing r with
  | nil => exact ⟨⟨r.d, rfl⟩, fun _ _ => rfl⟩
  | cons x t ih =>
    obtain ⟨⟨d, h1⟩, h2⟩ := ih (r.setD x.1 x.2)
    refine ⟨⟨d, h1⟩, fun j hj => ?_⟩
    refine (h2 j fun e he => hj e (by simp [he])).trans ?_
    exact mget_mset_ne _ _ (Ne.symm (hj x (by simp))) _

/-- The events of R104 set sticky bits and nothing else that a claim speaks of. -/
def Arch.events (sat accv : Bool) (r : Arch) : Arch :=
  let r5 := if sat then r.evSat else r
  if accv then r5.evAccv else r5

theorem Op.apply_eq (o : Op) (r : Arch) (ld : Loaded) (sat accv : Bool) :
    o.apply r ld sat accv = Arch.events sat (ld.accv || accv)
      (ld.accs.foldl (fun q w => q.replace w.1 (sWord w.2 * 2147483648))
        (ld.regs.foldl (fun q w => q.setD w.1 w.2) (o.run r (o.posts r)))) := rfl

theorem Arch.events_spec (sat accv : Bool) (r : Arch) :
    (∃ st a b c, Arch.events sat accv r = { r with st := st, rovg := a, rsat := b, raccv := c })
      ∧ (∀ i, 3 ≤ i → bitAt (Arch.events sat accv r).st i = bitAt r.st i)
      ∧ (∀ i, bitAt r.st i = true → bitAt (Arch.events sat accv r).st i = true) := by
  refine ⟨?_, ?_, ?_⟩
  · cases sat <;> cases accv <;> exact ⟨_, _, _, _, rfl⟩
  · intro i hi
    cases sat <;> cases accv <;>
      simp [Arch.events, Arch.bit_evSat, Arch.bit_evAccv, show i ≠ 1 by omega, show i ≠ 2 by omega]
  · intro i hi
    cases sat <;> cases accv <;> simp [Arch.events, Arch.bit_evSat, Arch.bit_evAccv, hi]

/-- The issue of an instruction without a control transfer, where nothing holds it up: what the stake's registers
become, but for the stores that it has still to make. -/
theorem State.issue_seq (s : State) (k : Nat) (o : Op) (hr : s.ready k) (hl : o.legal = true) (hc : o.ctl = .seq)
    (hs : o.sreg = none) (hv : ∀ a b, (o.run a b).levels = b.levels) :
    ∃ ld sat accv st st' due' oa va, StakeFrame k s (s.issue k o) ∧ ((s.issue k o).stake k).run = .running
      ∧ ((s.issue k o).stake k).lastPc = (s.stake k).arch.pc
      ∧ (∀ e ∈ ld.regs, (∃ x, o.l1 = some x ∧ e.1 = x.dst.val) ∨ (∃ x, o.l2 = some x ∧ e.1 = x.dst.val))
      ∧ (∀ e ∈ ld.accs, ∃ x, o.lda = some x ∧ e.1 = x.acc)
      ∧ (o.l1 = none → o.l2 = none → o.lda = none → o.st = none → sat = false ∧ accv = false ∧ ld.accv = false)
      ∧ ((s.issue k o).stake k).arch
        = { o.apply { (s.stake k).arch with stores := st } ld sat accv with
            pc := (s.stake k).arch.pc + 1, stores := st', due := due', ovgAt := oa, accvAt := va } := by
  obtain ⟨h1, h2, h3, h4, h5, h6⟩ := hr
  have hrun : (s.stake k).run = .running := by
    have := h1
    unfold State.issues at this
    exact eq_of_beq this
  have hlev : ∀ r ld sat accv, r.levels = (s.stake k).arch.levels → (o.apply r ld sat accv).levels = r.levels := by
    intro r ld sat accv _
    rw [Op.apply_eq]
    obtain ⟨⟨st, a, b, c, he⟩, _⟩ := Arch.events_spec sat (ld.accv || accv)
      (ld.accs.foldl (fun q w => q.replace w.1 (sWord w.2 * 2147483648))
        (ld.regs.foldl (fun q w => q.setD w.1 w.2) (o.run r (o.posts r))))
    rw [he]
    refine (foldl_inv (fun q : Arch => q.levels = r.levels) _ _ _ ?_ fun b a _ hb => hb)
    obtain ⟨⟨d, hd⟩, _⟩ := Arch.loads_d ld.regs (o.run r (o.posts r))
    rw [hd]
    obtain ⟨⟨p, hp⟩, _⟩ := o.posts_only r
    show (o.run r (o.posts r)).levels = r.levels
    rw [hv, hp]
  let t0 := s.stake k
  let c := t0.issueCycle (o.needs ++ if o.tests then t0.arch.testKeys else [])
  let due := t0.arch.stores.filter fun p => Nat.ble (p.cycle + 3) c
  let r : Arch := { t0.arch with stores := t0.arch.stores.filter fun p => !Nat.ble (p.cycle + 3) c }
  let s1 := (s.commit due).setStake k { t0 with arch := r }
  obtain ⟨f1, f2, f3, f4⟩ := State.commit_spec due s h4
  obtain ⟨ld, l1, l2, l3, l4⟩ := State.loads_ok s1 k r o f3
  let sat := o.storeSat r
  let accv := o.storeVoid k s.sys.parity r
  have htr : o.transfer r (o.apply r ld sat accv) t0.arch.pc
      = .inr (o.apply r ld sat accv, t0.arch.pc + 1, 1) := by
    unfold Op.transfer Op.endOfBlock
    rw [hc, hs]
    simp only []
    rw [endTests_none _ _ _ (by rw [hlev r ld sat accv rfl]; exact h6)]
    rfl
  obtain ⟨t', ht, hb, hd, st', due', oa, va, ha⟩ : ∃ t', s.issue k o = s1.setStake k t' ∧ t'.run = .running
      ∧ t'.lastPc = t0.arch.pc
      ∧ ∃ st' due' oa va, t'.arch = { o.apply r ld sat accv with
          pc := t0.arch.pc + 1, stores := st', due := due', ovgAt := oa, accvAt := va } := by
    unfold State.issue
    dsimp only
    rw [if_neg (by simp [h1, h2, h3]), if_neg (by simp [s.ue_nil _ h4]), s.corrected_nil _ h4, if_neg (by simp [hl])]
    have l1' := l1
    have htr' := htr
    have l0 : ∀ l, s1.readEcc l = s1 := fun l => s1.readEcc_nil l f3
    simp only [s1, r, due, c, t0, sat, accv] at l0 l1' htr'
    rw [l0, l1']
    simp only []
    have hst : ¬ o.sreg = some SReg.st := by rw [hs]; simp
    simp only [if_neg hst]
    rw [htr']
    simp only []
    rw [if_neg (by simp; omega)]
    refine ⟨_, rfl, hrun, rfl, ?_⟩
    · apply Exists.intro
      apply Exists.intro
      apply Exists.intro
      apply Exists.intro
      have : ((s.stake k).arch.pc + 1) % 8192 = (s.stake k).arch.pc + 1 := by omega
      simp only [this]
      rfl
  refine ⟨ld, sat, accv, r.stores, st', due', oa, va, ?_, ?_, ?_, l2, l3, fun g1 g2 g3 g4 => ⟨?_, ?_, l4 g1 g2 g3⟩, ?_⟩
  · rw [ht]
    refine ⟨⟨fun a ha => f1.1 a (by simp), fun p hp => ?_⟩, fun j hj => ?_, ?_, ?_, fun a ha => ?_⟩
    · have := f1.2 p
      cases p <;> first | exact absurd (by decide) hp | exact this (by decide)
    · rw [State.stake_setStake_ne _ hj, State.stake_setStake_ne _ hj]
      unfold State.stake
      rw [f2]
    · show ((s.commit due).compute.clusters) = _
      rw [f2]
    · show ((s.commit due).compute.regions) = _
      rw [f2]
    · exact f4 a fun p hp => ha p (List.mem_of_mem_filter hp)
  · rw [ht, State.stake_setStake]; exact hb
  · rw [ht, State.stake_setStake]; exact hd
  · simp [sat, Op.storeSat, g4]
  · simp [accv, Op.storeVoid, Op.storePlace, g4]
  · rw [ht, State.stake_setStake]; exact ha

/-- Destinations of the loads of an instruction. -/
def Op.dsts (o : Op) : List Nat :=
  (match o.l1 with | some x => [x.dst.val] | none => []) ++ (match o.l2 with | some x => [x.dst.val] | none => [])

/-- The same with the loads and the events told apart from what the compute part makes of the registers. -/
theorem State.issue_plain (s : State) (k : Nat) (o : Op) (hr : s.ready k) (hl : o.legal = true) (hc : o.ctl = .seq)
    (ha : o.lda = none) (hs : o.sreg = none) (hv : ∀ a b, (o.run a b).levels = b.levels) :
    StakeFrame k s (s.issue k o) ∧ ((s.issue k o).stake k).run = .running
      ∧ ((s.issue k o).stake k).lastPc = (s.stake k).arch.pc
      ∧ ∃ st q, Arch.onlyP (o.accesses.map (·.1)) { (s.stake k).arch with stores := st } q
        ∧ ∃ x r, x = o.run { (s.stake k).arch with stores := st } q ∧ r = ((s.issue k o).stake k).arch
          ∧ r.pc = (s.stake k).arch.pc + 1 ∧ (∀ j, j ∉ o.dsts → r.rd j = x.rd j) ∧ (∀ n, r.acc n = x.acc n)
          ∧ (∀ i, 3 ≤ i → bitAt r.st i = bitAt x.st i) ∧ (∀ i, bitAt x.st i = true → bitAt r.st i = true)
          ∧ (∀ n, r.rp n = x.rp n ∧ r.rm n = x.rm n ∧ r.rb n = x.rb n ∧ r.rl n = x.rl n ∧ r.rlc n = x.rlc n)
          ∧ r.ret = x.ret ∧ r.levels = x.levels
          ∧ (o.l1 = none → o.l2 = none → o.st = none → r.st = x.st) := by
  obtain ⟨ld, sat, accv, st, st', due', oa, va, h1, h2, h3, h4, h5, h55, h6⟩ := s.issue_seq k o hr hl hc hs hv
  refine ⟨h1, h2, h3, st, o.posts { (s.stake k).arch with stores := st }, o.posts_only _, _, _, rfl, rfl, ?_⟩
  have hacc : ld.accs = [] := by
    cases hn : ld.accs with
    | nil => rfl
    | cons e t =>
      obtain ⟨x, hx, _⟩ := h5 e (by rw [hn]; simp)
      rw [ha] at hx; cases hx
  rw [h6, Op.apply_eq, hacc]
  obtain ⟨⟨stt, a, b, c, he⟩, hb, hk⟩ := Arch.events_spec sat (ld.accv || accv)
    (ld.regs.foldl (fun q w => q.setD w.1 w.2)
      (o.run { (s.stake k).arch with stores := st } (o.posts { (s.stake k).arch with stores := st })))
  obtain ⟨⟨d, hd⟩, hj⟩ := Arch.loads_d ld.regs
    (o.run { (s.stake k).arch with stores := st } (o.posts { (s.stake k).arch with stores := st }))
  have hst := congrArg Arch.st hd
  refine ⟨rfl, fun j hj' => ?_, fun n => ?_, fun i hi => ?_, fun i hi => ?_, fun n => ?_, ?_, ?_, fun g1 g2 g4 => ?_⟩
  · have h7 : ∀ e ∈ ld.regs, e.1 ≠ j := by
      intro e hm heq
      apply hj'
      unfold Op.dsts
      rcases h4 e hm with ⟨x, hx, hy⟩ | ⟨x, hx, hy⟩ <;> simp [hx, ← heq, hy]
    refine Eq.trans ?_ (hj j h7)
    rw [List.foldl_nil, he]; rfl
  · rw [List.foldl_nil, he, hd]; rfl
  · refine (hb i hi).trans ?_
    rw [hst]
  · refine hk i ?_
    rw [hst]; exact hi
  · rw [List.foldl_nil, he, hd]; exact ⟨rfl, rfl, rfl, rfl, rfl⟩
  · rw [List.foldl_nil, he, hd]
  · rw [List.foldl_nil, he, hd]
  · obtain ⟨e1, e2, e3⟩ := h55 g1 g2 ha g4
    rw [List.foldl_nil, e1, e2, e3]
    exact hst

/-! ### From the compute part to the instruction -/

/-- What a compute part makes of the registers: the address registers stay as the slots left them. -/
structure RunSpec (p : StakeOp) (a b x : Arch) : Prop where
  d : ∀ e ∈ p.d, x.rd e.1 = e.2 a
  d_keep : ∀ j, j ∉ p.d.map (·.1) → x.rd j = a.rd j
  acc : ∀ e ∈ p.acc, AccStep a x e.1 (e.2 a)
  acc_keep : ∀ n, n ∉ p.acc.map (·.1) → x.acc n = a.acc n
  ac_keep : ∀ n, n < 8 → n ∉ p.acc.map (·.1) → x.ac n = a.ac n
  nz : (x.nf, x.zf) = (match p.nz with | some f => f a | none => (a.nf, a.zf))
  rnd : x.rnd = a.rnd
  sticks : Arch.sticks a x
  sat : p.sat a = true → bitAt x.st 1 = true
  calm : p.acc = [] → p.sat a = false → ∀ i, i < 3 → bitAt x.st i = bitAt a.st i
  addr : x.p = b.p ∧ x.m = a.m ∧ x.b = a.b ∧ x.l = a.l ∧ x.lc = a.lc
  flow : x.ret = a.ret ∧ x.levels = a.levels

/-- The values that a spec names do not depend on the stores still to be made. -/
structure StakeOp.Plain (p : StakeOp) : Prop where
  d : ∀ e ∈ p.d, ∀ (o : Arch) (st : List PStore), e.2 { o with stores := st } = e.2 o
  acc : ∀ e ∈ p.acc, ∀ (o : Arch) (st : List PStore), e.2 { o with stores := st } = e.2 o
  nz : ∀ f, p.nz = some f → ∀ (o : Arch) (st : List PStore), f { o with stores := st } = f o
  sat : ∀ (o : Arch) (st : List PStore), p.sat { o with stores := st } = p.sat o

theorem AccStep.congr {a x r : Arch} {n : Nat} (f : AccEff) (h : AccStep a x n f) (h1 : r.acc n = x.acc n)
    (h2 : r.ac n = x.ac n) (h3 : bitAt x.st 0 = true → bitAt r.st 0 = true) : AccStep a r n f := by
  cases f with
  | set v => exact ⟨h1.trans h.1, h2.trans h.2⟩
  | bits v => exact ⟨h1.trans h.1, h2.trans h.2⟩
  | add v =>
    simp only [AccStep] at h ⊢
    split at h
    · next hc => rw [if_pos hc]; exact ⟨h1.trans h.1, h2.trans h.2⟩
    · next hc =>
      rw [if_neg hc]
      split at h
      · next hd => rw [if_pos hd]; exact ⟨h1.trans h.1, h2.trans h.2.1, h3 h.2.2⟩
      · next hd =>
        rw [if_neg hd]
        split at h
        · next he => rw [if_pos he]; exact ⟨h1.trans h.1, h2.trans h.2.1, h3 h.2.2⟩
        · next he => rw [if_neg he]; exact ⟨(congrArg BitVec.toInt h1).trans h.1, h2.trans h.2⟩

/-- An instruction whose issue has these parts does what the spec says of them. -/
theorem StakeOp.holds_of {i : Instr} {p : StakeOp} (o : Op) (hx : ∀ s, exec i s = .next (s.issue p.k.val o))
    (hm : o.l1 = p.m.l1 ∧ o.l2 = p.m.l2 ∧ o.st = p.m.st) (ha : o.lda = none) (hc : o.ctl = .seq)
    (hg : o.sreg = none) (hl : loadsClash p.m.l1 p.m.l2 (p.d.map (·.1)) = false → o.legal = true) (hp : p.Plain)
    (hr : ∀ a b, (∃ q, b = { a with p := q }) → RunSpec p a b (o.run a b))
    (hv : ∀ a b, (o.run a b).levels = b.levels) : p.holds i := by
  intro s hs hcl
  obtain ⟨h1, h2, h3, st, q, hq, x, r, hx', hr', h4, h5, h6, h7, h8, h9, h10, h11, h12⟩ :=
    s.issue_plain p.k.val o hs (hl hcl) hc ha hg hv
  refine ⟨_, hx s, h1, h2, h3, ?_⟩
  have R := hr _ q hq.1
  rw [← hx'] at R
  rw [← hr']
  have hds : o.dsts = p.m.dsts := by unfold Op.dsts PSlots.dsts; rw [hm.1, hm.2.1]; try rfl
  have hpr : ∀ n, n ∉ p.m.pregs → n ∉ o.accesses.map (·.1) := by
    intro n hn
    unfold PSlots.pregs at hn
    unfold Op.accesses
    rw [hm.1, hm.2.1, hm.2.2, ha]
    revert hn
    cases p.m.l1 <;> cases p.m.l2 <;> cases p.m.st <;> simp
  have hne : ∀ e ∈ p.d, e.1 ∉ o.dsts := by
    intro e he hin
    rw [hds] at hin
    unfold loadsClash at hcl
    unfold PSlots.dsts at hin
    have hin2 : e.1 ∈ List.map (fun x => x.1) p.d := List.mem_map_of_mem he
    simp only [Bool.or_eq_false_iff] at hcl
    have := List.any_eq_false.1 hcl.2 e.1 hin
    simp only [List.contains_iff_mem] at this
    exact this hin2
  have hac : ∀ n, r.ac n = x.ac n := fun n => h7 (24 + n) (by omega)
  refine ⟨h4, fun e he => ?_, fun e he => ?_, ?_, ⟨fun j hj => ?_, fun n hn => ?_, fun n hn hn' => ?_, fun n hn => ?_,
    fun n => ?_, ?_, ?_, ?_⟩, fun i hi hb => ?_, fun hsat => ?_, fun hm0 ha0 hs0 i hi => ?_⟩
  · exact (h5 e.1 (hne e he)).trans ((R.d e he).trans (hp.d e he _ _))
  · have := R.acc e he
    rw [hp.acc e he] at this
    exact AccStep.congr _ this (h6 _) (hac _) (h8 0)
  · have := R.nz
    have e1 : r.nf = x.nf := h7 9 (by omega)
    have e2 : r.zf = x.zf := h7 8 (by omega)
    rw [e1, e2, this]
    cases hn : p.nz with
    | none => rfl
    | some f => exact hp.nz f hn _ _
  · have hj' := List.mem_append.not.1 hj
    rw [not_or] at hj'
    exact (h5 j (hds ▸ hj'.2)).trans (R.d_keep j hj'.1)
  · exact (h6 n).trans (R.acc_keep n hn)
  · exact (hac n).trans (R.ac_keep n hn hn')
  · have e1 := (h9 n).1
    have e2 := hq.2 n (hpr n hn)
    rw [e1]
    have : x.rp n = q.rp n := by unfold Arch.rp; rw [R.addr.1]
    rw [this, e2]; rfl
  · obtain ⟨_, a2, a3, a4, a5⟩ := h9 n
    obtain ⟨_, b2, b3, b4, b5⟩ := R.addr
    refine ⟨a2.trans ?_, a3.trans ?_, a4.trans ?_, a5.trans ?_⟩
    · unfold Arch.rm; rw [b2]
    · unfold Arch.rb; rw [b3]
    · unfold Arch.rl; rw [b4]
    · unfold Arch.rlc; rw [b5]
  · exact h10.trans R.flow.1
  · exact h11.trans R.flow.2
  · have : r.rnd = x.rnd := bitsOf_congr fun i h1 _ => h7 i (by omega)
    exact this.trans R.rnd
  · exact h8 i (R.sticks i hi hb)
  · exact h8 1 (R.sat ((hp.sat _ _).trans hsat))
  · rw [h12 (by rw [hm.1, hm0]; rfl) (by rw [hm.2.1, hm0]; rfl) (by rw [hm.2.2, hm0]; rfl)]
    exact R.calm ha0 ((hp.sat _ _).trans hs0) i hi

end Sys2Proof.Machine
end

