-- ==== Sys2Proof/Machine/Balls.lean ====
section
/-! DEFINITION. Machine/Balls.lean: what stands at every ball (R2, R514, R515 of spec/17_pins_and_electrical.md). Rows and columns
are numbered from 1; row 1 is A and row 44 is BF. -/
namespace Sys2Proof.Machine

/-- A ball: ground, a rail by its number in R516, or a signal by its name with n for its number, and that number. -/
inductive Ball where
  | vss
  | rail (i : Nat)
  | sig (name : String) (n : Nat)
deriving DecidableEq, Repr

/-- Rails of R516. -/
def vddCd0 : Ball := .rail 0
def vddCd1 : Ball := .rail 1
def vddHub : Ball := .rail 2
def vddaSd : Ball := .rail 3
def vddDdr : Ball := .rail 4
def vddqDdr : Ball := .rail 5
def vddio : Ball := .rail 6
def vddRim : Ball := .rail 7

/-- Two kinds of ball alternately from an index on. -/
def altern (a b : Ball) (k : Nat) : Ball := if k % 2 = 0 then a else b

/-- The four balls of a TDM port by line from the package edge. -/
def tdmBall (line n : Nat) : Ball :=
  match line with
  | 0 => .sig "TDMn_BCLK" n
  | 1 => .sig "TDMn_FS" n
  | 2 => .sig "TDMn_SD0" n
  | _ => .sig "TDMn_SD1" n

/-- The TDM fields: ports stand in the even columns from 6 on. -/
def tdmField (line j base : Nat) : Ball := if j % 2 = 1 then .vss else tdmBall line (base + (j - 6) / 2)

/-- The PDM field by line and place in it. -/
def pdmField (line k : Nat) : Ball :=
  match line with
  | 0 => .sig "PDM_CLKn" k
  | 1 => .sig "PDM_DATn" k
  | 2 => .sig "PDM_DATn" (8 + k)
  | _ => .vss

/-- The AES3 and timing field. -/
def timingField (line k : Nat) : Ball :=
  match line with
  | 0 => if k < 4 then .sig "AES_INn" k else .sig "AES_OUTn" (k - 4)
  | 1 => ([.sig "TRIG_IN" 0, .sig "TRIG_OUT" 0, .sig "WCLK_IN" 0, .sig "PPS_IN" 0, .sig "F10M_IN" 0]).getD k .vss
  | 2 => if k % 2 = 0 then .sig "CLKOUTn" (k / 2) else .vss
  | _ => altern vddio .vss k

/-- The Rim field by column and place in it. -/
def rimField (j k : Nat) : Ball :=
  match j with
  | 1 => .sig "ALM_INn" k
  | 2 =>
    ([.sig "ALM_INn" 14, .sig "ALM_INn" 15, .sig "ALM_REF" 0, .vss, .sig "XO_IN" 0, .vss, .sig "RTC_XI" 0, .sig "RTC_XO" 0, .vss,
      .sig "RST_N" 0, .sig "PWRCYC_N" 0, .sig "WAKE_N" 0, .sig "FAULT_N" 0, .sig "FRLY_DRV" 0]).getD k .vss
  | 3 =>
    ([.sig "ROLE_Sn" 0, .sig "ROLE_Sn" 1, .sig "TEST_EN" 0, .sig "HUB_EN" 0, .sig "CDn_EN" 0, .sig "CDn_EN" 1]).getD k vddRim
  | _ => .vss

/-- The MGMT field: pair 4m + a of port m. -/
def mgmtField (j k : Nat) : Ball :=
  let q := j - 1
  let pair := 4 * (q / 2) + 2 * (q % 2)
  match k with
  | 0 => .sig "MGMTm_MDIa_DP" pair
  | 1 => .sig "MGMTm_MDIa_DN" pair
  | 3 => .sig "MGMTm_MDIa_DP" (pair + 1)
  | 4 => .sig "MGMTm_MDIa_DN" (pair + 1)
  | 6 => if q < 3 then vddRim else .sig "MGMT_REXT" 0
  | _ => .vss

/-- The host and debug field. -/
def hostField (j k : Nat) : Ball :=
  match j with
  | 1 =>
    ([.sig "PCIE_TXn_DP" 0, .sig "PCIE_TXn_DN" 0, .vss, .sig "PCIE_TXn_DP" 1, .sig "PCIE_TXn_DN" 1, .vss, .sig "PCIE_RXn_DP" 0,
      .sig "PCIE_RXn_DN" 0, .vss, .sig "PCIE_RXn_DP" 1, .sig "PCIE_RXn_DN" 1]).getD k .vss
  | 2 =>
    if k < 4 then ([.sig "PCIE_REFCLK_DP" 0, .sig "PCIE_REFCLK_DN" 0, .vss, .sig "PCIE_PERST_N" 0]).getD k .vss
    else altern vddaSd .vss k
  | 3 =>
    ([.sig "QSPI_CS_N" 0, .sig "QSPI_SCLK" 0, .sig "QSPI_IOn" 0, .sig "QSPI_IOn" 1, .sig "QSPI_IOn" 2, .sig "QSPI_IOn" 3,
      .sig "QSPI_IRQ_N" 0, .sig "DBG_TCK" 0, .sig "DBG_TMS" 0, .sig "DBG_TDI" 0, .sig "DBG_TDO" 0, .sig "DBG_TRST_N" 0]).getD k .vss
  | _ => altern vddio .vss k

/-- The Octal SPI field. -/
def flashField (j k : Nat) : Ball :=
  match j with
  | 1 => if k < 3 then ([.sig "OSPI_CLK" 0, .vss, .sig "OSPI_DQS" 0]).getD k .vss else .sig "OSPI_DQn" (k - 3)
  | 2 => if k < 3 then ([.sig "OSPI_CSn_N" 0, .sig "OSPI_CSn_N" 1, .sig "OSPI_RST_N" 0]).getD k .vss else altern vddio .vss (k - 3)
  | _ => .vss

/-- The SerDes field: lanes 0 to 5 are NETA to NETD, PAIR0 and PAIR1. -/
def serdesField (j k : Nat) : Ball :=
  match j with
  | 44 => ([.sig "Ln_TX_DP" (k / 6), .sig "Ln_TX_DN" (k / 6), .vss, .sig "Ln_RX_DP" (k / 6), .sig "Ln_RX_DN" (k / 6)]).getD (k % 6) .vss
  | 42 => altern vddaSd .vss k
  | _ => .vss

/-- A byte of LPDDR5X by line and place in it. -/
def ddrByte (b line k : Nat) : Ball :=
  match line with
  | 0 => ([.sig "DDR_DQn" (8 * b), .sig "DDR_DQn" (8 * b + 1), .vss, .sig "DDR_DQn" (8 * b + 2), .sig "DDR_DQn" (8 * b + 3)]).getD k .vss
  | 1 => ([.sig "DDR_RDQSn_DP" b, .sig "DDR_RDQSn_DN" b, .vss, .sig "DDR_DMIn" b, vddqDdr]).getD k .vss
  | 2 => ([.sig "DDR_DQn" (8 * b + 4), .sig "DDR_DQn" (8 * b + 5), .vss, .sig "DDR_DQn" (8 * b + 6), .sig "DDR_DQn" (8 * b + 7)]).getD k .vss
  | 3 => ([.sig "DDR_WCKn_DP" b, .sig "DDR_WCKn_DN" b, .vss, vddqDdr, vddqDdr]).getD k .vss
  | 4 => if k < 3 then vddDdr else .vss
  | _ => .vss

/-- The command group of a channel, 0 for A and 1 for B. -/
def ddrCommand (c line k : Nat) : Ball :=
  match line with
  | 0 => ([.sig "DDR_c_CK_DP" c, .sig "DDR_c_CK_DN" c, .vss, .sig "DDR_c_CS0" c, .sig "DDR_c_CS1" c]).getD k .vss
  | 1 => ([.sig "DDR_c_CA0" c, .sig "DDR_c_CA1" c, .sig "DDR_c_CA2" c, .sig "DDR_c_CA3" c, .vss]).getD k vddDdr
  | 2 =>
    ([.sig "DDR_c_CA4" c, .sig "DDR_c_CA5" c, .sig "DDR_c_CA6" c, if c = 0 then .sig "DDR_RESET_N" 0 else .sig "DDR_ZQ" 0, .vss]).getD k vddDdr
  | 3 => ([vddqDdr, .vss, vddqDdr, .vss, vddDdr]).getD k .vss
  | 4 => if k < 3 then vddDdr else .vss
  | _ => .vss

/-- The LPDDR5X field by group. -/
def ddrField (line g k : Nat) : Ball :=
  if g < 2 then ddrByte g line k else if g < 4 then ddrCommand (g - 2) line k else ddrByte (g - 2) line k

/-- The core (R515). -/
def coreBall (i j : Nat) : Ball :=
  if (i + j) % 2 = 0 then .vss
  else if i < 7 then vddio
  else if j < 17 then vddCd0
  else if j < 29 then vddHub
  else vddCd1

/-- What stands at the ball of row i and column j. -/
def ball (i j : Nat) : Ball :=
  if j < 5 then
    if i < 15 then rimField j (i - 1) else if i < 22 then mgmtField j (i - 15) else if i < 34 then hostField j (i - 22)
    else flashField j (i - 34)
  else if i < 5 then (if j < 37 then tdmField (i - 1) j 0 else timingField (i - 1) (j - 37))
  else if 41 ≤ i then (if j < 37 then tdmField (44 - i) j 16 else pdmField (44 - i) (j - 37))
  else if 41 ≤ j then serdesField j (i - 5)
  else if 35 ≤ i then ddrField (40 - i) ((j - 5) / 6) ((j - 5) % 6)
  else coreBall i j

end Sys2Proof.Machine
end

