-- ==== Sys2Proof/Tests/Slice0.lean ====
section
/-! SUPPORT. Tests/Slice0.lean: tests of single operations on small states, with results from the spec's encodings and
tables; and witnesses: states and operands that meet the hypotheses of the statements in Certificates/Slice0. -/
namespace Sys2Proof.Tests
open Sys2Proof.Machine

open Sys2Proof.Machine

/-! ### Small states -/

/-- A state with register fields written. -/
def put (s : State) (l : List (RegField × Nat)) : State := l.foldl (fun s e => s.sf e.1 e.2) s

/-- The state after reset with register fields written. -/
def rst (l : List (RegField × Nat)) : State := put State.reset l

/-- A whole register. -/
def whole (r : Nat) : RegField := ⟨r, 31, 0⟩

/-- A stake that runs with the registers given. -/
def runs (k : Nat) (a : Arch) : State := State.reset.setStake k { Stake.reset with run := .running, arch := a }

/-- A handshake. -/
def hand0 (target : Nat) (accepted : List Nat) (asked : Option Nat) : Hand := ⟨target, pRun, 0, accepted, asked, 0, [], false⟩

/-- The Warden up, in a handshake where `busy`, with steps taken before. -/
def warden (busy capped : Bool) (l : List Step2) : State :=
  { State.reset with
    power := { State.reset.power with
      wardenUp := true, capped := capped, steps2 := l, hand := if busy then some (hand0 pWatch [] none) else none } }

/-! ### Well-formed commands and stake words -/

theorem test_wf_refuses_window : (Instr.ftap 0 1 2 7 PSlots.none).wf = false ∧ (Instr.ftapz 0 1 2 7 PSlots.none).wf = false
    ∧ (Instr.fdly 0 1 7 2 true PSlots.none).wf = false ∧ (Instr.ftap 0 1 2 6 PSlots.none).wf = true := by decide

theorem test_wf_refuses_slide : (Instr.slide 0 31 4 0 ⟨none, none⟩).wf = false
    ∧ (Instr.slide 0 30 4 0 ⟨none, none⟩).wf = true := by decide

theorem test_wf_refuses_special : (Instr.movto 0 3 .rcnt ⟨none, none⟩).wf = false ∧ (Instr.ldia 0 .st 5).wf = false
    ∧ (Instr.ldia 0 .rcnt 5).wf = false ∧ (Instr.ldia 0 (.lc 1) 65536).wf = false
    ∧ (Instr.ldia 0 (.lc 1) 65535).wf = true := by decide

/-- SUB 1, G 1, X 2, Y 3, L1 into d4 from X through p5 in mode 1 (R111, R112, R117). -/
theorem test_decode_qmac : decodeStake 0 0x034C112900000000 = .qmac 0 1 2 3 ⟨some ⟨false, 4, 5, 1⟩, none, none⟩ := by decide

/-- OP 0x30, A 3, X 7, Y 9, SG 1 (R118, R124). -/
theorem test_decode_mac : decodeStake 5 0x4C19D28000000000 = .mac 5 3 7 9 .su ⟨none, none⟩ := by decide

/-- OP 0x10, D 3, S1 7, a store of rounded a5 with shift 6 to Y through p2 in mode 3 (R112, R118). -/
theorem test_decode_mov_store : decodeStake 1 0x44067000000A9A56 = .mov 1 3 7 ⟨none, some ⟨.y, 2, 3, .rnd 5 6⟩⟩ := by decide

theorem test_decode_done : decodeStake 127 0x8700000000000000 = .done 127 := by decide

theorem test_table_word : decodeTableWord 64 0x8700000000000000 = none := by decide

/-! ### Errors in memory -/

/-- A coil word of cluster 15 with an error of a single bit, and some errors of that coil in the last hour. -/
def oneBit (n : Nat) : State :=
  { State.reset with
    ecc := [(0x0601FFFFFC, false)], power := { State.reset.power with eccAt := List.replicate n (31, 0) } }

/-- A read corrects and counts it (R137, R497, R513); the eleventh in an hour sets ECC_RATE. -/
theorem test_single_bit_error :
    ((oneBit 9).corrected 0x0601FFFFFE).ecc = [] ∧ ((oneBit 9).corrected 0x0601FFFFFC).reg (Reg.HEALTH_ECC 31) = 1#32
    ∧ ((oneBit 9).corrected 0x0601FFFFFC).flag Reg.HEALTH_EVT_ECC_RATE = false
    ∧ ((oneBit 10).corrected 0x0601FFFFFC).flag Reg.HEALTH_EVT_ECC_RATE = true := by decide

/-! ### Interrupts, and a schedule's checks -/

/-- PWR_EVT and its enable interrupt the Warden alone (R510), an unmasked doorbell its agent (R467). -/
theorem test_interrupts :
    (rst [(whole Reg.PWR_EVT, 1), (whole Reg.PWR_IRQ_EN, 1)]).irq 1 = true
    ∧ (rst [(whole Reg.PWR_EVT, 1), (whole Reg.PWR_IRQ_EN, 2)]).irq 1 = false
    ∧ (rst [(whole Reg.PWR_EVT, 1), (whole Reg.PWR_IRQ_EN, 1)]).irq 2 = false
    ∧ (rst [(whole (Reg.MBOX_DB 3), 8), (whole (Reg.MBOX_MASK 3), 0xFFFFFFF7)]).msix 0 = true
    ∧ (rst [(whole (Reg.MBOX_DB 3), 8)]).irq 3 = false := by decide

/-- Zero bytes. -/
def zeros (n : Nat) : List Byte := List.replicate n 0#8

/-- The 32 bytes of a stake in a schedule record (R144): PROG, ABI, WALE and the cycles at each operating point. -/
def stakeBytes (prog abi wale : Nat) (wcc : List Nat) : List Byte :=
  leBytes prog 2 ++ leBytes abi 1 ++ leBytes wale 1 ++ zeros 4 ++ wcc.flatMap (leBytes · 4) ++ leBytes 1 8

/-- The 320 bytes of cluster 5 of the worked example of R146, with a lowest operating point. -/
def record5 (minOp : Nat) : List Byte :=
  [5#8, 3#8, BitVec.ofNat 8 minOp, 2#8] ++ zeros 12
    ++ (List.replicate 6 (stakeBytes 9 1 0 [0, 38979, 41579, 44179])).flatten
    ++ (List.replicate 2 (stakeBytes 10 1 1 [0, 14006, 16006, 18006])).flatten ++ zeros 48

/-- A Skein at 96 kHz with 8-sample rounds and those schedule records. -/
def sched5 (minOp : Nat) : SkImage :=
  { nodes := [], schedule := record5 minOp, messages := [], chunkTable := [], scenes := [], rate96 := true, n := 8,
    fits := true, regs := [], table := [], images := [], clusters := [5], tpl := [], tplLen := [], conf := Skein.init }

set_option maxRecDepth 20000 in
/-- The example's totals and budgets: it fits down to 750 MHz and not at 500 MHz, check 3. -/
theorem test_schedule_example :
    (SkRecord.ofBytes (record5 2)).cycles 3 = 62249 ∧ (sched5 2).budget 3 = 81666
    ∧ (SkRecord.ofBytes (record5 2)).cycles 1 = 53049 ∧ (sched5 2).budget 1 = 40833
    ∧ ({ sched5 2 with conf := { Skein.init with pairOn := true } } : SkImage).budget 3 = 79666
    ∧ ((sched5 2).failFor (fun a => a == 1) 9).isNone ∧ ((sched5 1).failFor (fun a => a == 1) 9).map (·.check) = some 3 := by
  decide

set_option maxRecDepth 20000 in
/-- Check 1 names the first stake whose level the microcode refuses. -/
theorem test_schedule_abi : ((sched5 2).failFor (fun a => a == 2) 8).map (fun f => (f.check, f.stake)) = some (1, some 0) := by decide

set_option maxRecDepth 20000 in
/-- Applied, the record gives stake 47 its wale, and region 1 its operating points (R144, R154). -/
theorem test_schedule_applied :
    ((State.reset.applySched (sched5 2)).reg (Reg.CL_SCHED 5 7)) = 0xA0000000#32
    ∧ ((State.reset.applySched (sched5 2)).reg (Reg.REG_OP 1)) = 0x3B#32
    ∧ ((State.reset.applySched (sched5 2)).rf (Reg.CL_STAT_WALES 5)) = 1
    ∧ ((State.reset.applySched (sched5 2)).reg (Reg.CL_WCC 5 7 2)) = 16006#32 := by decide

/-! ### Cryptography -/

/-- SHA-384 of "abc", the example of FIPS 180-4. -/
theorem test_sha384 : sha384 [0x61#8, 0x62#8, 0x63#8]
    = 0xCB00753F45A35E8BB5A03D699AC65007272C32AB0EDED1631A8B605A43FF5BED8086072BA1E7CC2358BAECA134C825A7 := by decide +kernel

/-- A P-256 key, and a signature of "sample" under it, with SHA-384 (RFC 6979, A.2.5). -/
def key0 : Nat × Nat := (0x60FED4BA255A9D31C961EB74C6356D68C049B8923B61FA6CE669622E60F29FB6,
  0x7903FE1008B8BC99A41AE9E95628BC64F2F1B20C2D7E9F5177A3C294D4462299)
def sig0 : Nat × Nat := (0x0EAFEA039B20E9B42309FB1D89E213057CBF973DC0CFC8F129EDDDC800EF7719,
  0x4861F0491E6998B9455193E34E7B0D284DDD7149A74B95B9261F13ABDE940954)

/-- It verifies, and not with another digest. -/
theorem test_ecdsa_p256 :
    p256.verify key0 (sha384 [0x73#8, 0x61#8, 0x6D#8, 0x70#8, 0x6C#8, 0x65#8]) sig0.1 sig0.2 = true
    ∧ p256.verify key0 (sha384 [0x73#8]) sig0.1 sig0.2 = false := by decide +kernel

/-! ### Witnesses: steps, the Weave and the Border -/

theorem witness_StepRunsCommand : ({ State.reset with pending := [.weavePass, .borderPass] } : State).pending
    = Instr.weavePass :: [.borderPass] := rfl

theorem witness_IdleStepPassesOneCycle : State.reset.pending = [] := rfl

/-- A route command. -/
def cmd0 : RouteCmd := ⟨.nop, 5, ⟨0#32, 0#32, 0#32⟩, false⟩

/-- The hosts' interfaces enabled. -/
def hosts : State := rst [(Reg.MATRIX_HOST_CFG_PCIE_EN, 1), (Reg.MATRIX_HOST_CFG_QSPI_EN, 1)]

theorem witness_WeavePortCommands :
    (State.reset.reaches 1 (Reg.WEAVE_XP_IDX (portIx false)) true = true ∧ portAgent false 1 = true
      ∧ (State.reset.routeQueue false).length < 64)
    ∧ (hosts.reaches 3 (Reg.WEAVE_XP_IDX (portIx true)) true = true ∧ portAgent true 3 = true
      ∧ 64 ≤ (({ hosts with weave := { hosts.weave with queueH := List.replicate 64 cmd0 } } : State).routeQueue true).length)
    ∧ (State.reset.reaches 0 (Reg.WEAVE_XP_IDX (portIx true)) true = true ∧ portAgent true 0 = false) := by decide

theorem witness_WeaveCommandValidation :
    State.reset.routeQueue true = []
    ∧ (let s : State := ({ State.reset with weave := { State.reset.weave with queueC := [cmd0] } })
      s.routeQueue false = [cmd0] ∧ s.weave.running = false ∧ s.routeResult false cmd0 ≠ 0)
    ∧ (let s : State := ({ State.reset with weave := { State.reset.weave with queueH := [{ cmd0 with op := .cut }], running := true } })
      s.routeQueue true = [{ cmd0 with op := .cut }] ∧ s.routeResult true { cmd0 with op := .cut } = 1
        ∧ s.routeResult true cmd0 = 0) := by decide

theorem witness_WeaveRegisterWrites :
    (State.reset.reaches 0 (Reg.WEAVE_HPF 511) true = true ∧ (hpfReserved 8#32 || State.reset.hpfOverloads 511 8#32) = false
      ∧ hpfReserved 9#32 = true)
    ∧ (State.reset.reaches 0 (Reg.WEAVE_GEN_CFG 47) true = true ∧ bitsOf (0xA0000000#32 : Word) 30 28 ≤ 2
      ∧ 2 < bitsOf (0xB0000000#32 : Word) 30 28 ∧ State.reset.reaches 0 (Reg.WEAVE_GEN_CFG 48) true = true)
    ∧ State.reset.reaches 2 (Reg.WEAVE_MTR_CFG 63) true = true
    ∧ (State.reset.reaches 1 Reg.WEAVE_CTL true = true ∧ (bitAt 1#32 0 && State.reset.runsBad) = false
      ∧ (bitAt 1#32 0 && (rst [(Reg.WEAVE_STK_MAP_BASE 127, 4032), (Reg.WEAVE_STK_MAP_COUNT 127, 1)]).runsBad) = true)
    ∧ (State.reset.reaches 1 Reg.WEAVE_AGRP_SET true = true ∧ State.reset.accepted (2 : Agent).val = true) := by decide

theorem witness_WeaveHardwareEvents :
    State.reset.accepted 0 = true ∧ State.reset.accepted 1 = true ∧ State.reset.flag Reg.WEAVE_CTL_RUN = false
    ∧ State.reset.weave.running = false ∧ State.reset.flag Reg.BORDER_CTL_RUN = false ∧ State.reset.border.running = false
    ∧ (rst [(Reg.WEAVE_CTL_RUN, 1)]).flag Reg.WEAVE_CTL_RUN = true ∧ (rst [(Reg.WEAVE_CTL_RUN, 1)]).accepted 0 = true
    ∧ (rst [(Reg.BORDER_CTL_RUN, 1)]).flag Reg.BORDER_CTL_RUN = true
    ∧ (rst [(Reg.BORDER_CTL_RUN, 1)]).accepted 0 = true
    ∧ (warden false false []).hubUp = true ∧ (warden false false []).power.wardenUp = true
    ∧ (warden false false []).recent2 14 32767 < 3 ∧ (warden false false []).weave.queueC.length < 64
    ∧ 3 ≤ (warden false false (List.replicate 3 ⟨14, 32767, 0⟩)).recent2 14 32767
    ∧ ((State.reset.chan 511).coef.length = 8 ∧ (State.reset.chan 511).st.length = 8 ∧ (State.reset.chan 511).delay.length = 16)
    ∧ State.reset.accepted (2 : Agent).val = true := by decide

/-- A Border command. -/
def item0 : BorderCmd := ⟨511, 9, ⟨1#32, 0#32, 0#32, 0#32, 0#32⟩, true⟩

theorem witness_BorderCommands :
    (State.reset.reaches 2 Reg.BORDER_CMD_CH true = true ∧ State.reset.border.queue.length < 64)
    ∧ (let s : State := ({ State.reset with border := { State.reset.border with queue := List.replicate 64 item0 } })
      s.reaches 2 Reg.BORDER_CMD_CH true = true ∧ 64 ≤ s.border.queue.length)
    ∧ hosts.accepted (4 : Agent).val = true
    ∧ State.reset.border.queue = []
    ∧ (let s : State := ({ State.reset with border := { State.reset.border with queue := [item0] } })
      s.border.queue = item0 :: [] ∧ item0.item = 9 ∧ s.borderResult item0 = 0
        ∧ s.borderResult { item0 with item := 10 } = 1 ∧ s.borderResult { item0 with item := 7 } = 0)
    ∧ State.reset.reaches 0 Reg.BORDER_CTL true = true
    ∧ ((warden false false []).hubUp = true ∧ (warden false false []).power.wardenUp = true
      ∧ (warden false false []).recent2 15 511 < 3 ∧ (warden false false []).border.queue.length ≤ 54)
    ∧ 3 ≤ (warden false false (List.replicate 3 ⟨15, 511, 0⟩)).recent2 15 511 := by decide

/-- A Border channel bound to a slot: enabled or not. -/
def chan0 (en : Bool) (slot : Nat) : Chan := { Chan.empty with ctl := BitVec.ofNat 32 (slot + (if en then 2 ^ 31 else 0)) }

/-- A Weave pass that waits for its Border pass. -/
def summed (run : Bool) (chans : SMap Chan) : State :=
  { State.reset with weave := { State.reset.weave with sums := [(3, [(7, 100)])] },
                     border := { State.reset.border with running := run, chans := chans } }

theorem witness_BorderPassServesChannels :
    State.reset.weave.sums = [] ∧ (summed false []).weave.sums = (3, [(7, 100)]) :: []
    ∧ (summed true []).ecc = [] ∧ (summed false []).border.running = false ∧ (summed true []).border.running = true
    ∧ mwf (fun _ => Chan.empty) (summed true []).border.chans = true
    ∧ (∀ e ∈ (summed true [(511, chan0 true 7)]).border.chans, e.1 < 512)
    ∧ (let s := (summed true [(0, chan0 false 6), (511, chan0 true 7)])
      mwf (fun _ => Chan.empty) s.border.chans = true
        ∧ (s.boundTo (s.chan 511).slot = some 511 ∧ (s.chan 511).en = true ∧ (s.chan 511).muted = false)
        ∧ (s.boundTo (s.chan 0).slot = some 0 ∧ (s.chan 0).en = false) ∧ s.boundTo (s.chan 1).slot ≠ some 1) := by decide

/-- Rounds stopped by the loss of XO_IN. -/
def still : State := { State.reset with alarm := { State.reset.alarm with xoLost := true } }

theorem witness_WeavePassServesSinks :
    still.roundsRun = false ∧ State.reset.roundsRun = true ∧ State.reset.sys.pass < State.reset.sys.n
    ∧ (State.reset.pair.hub = [] ∧ State.reset.pair.mirror = [] ∧ State.reset.pair.rejoin = none)
    ∧ State.reset.weave.running = false ∧ State.reset.ecc = []
    ∧ ({ State.reset with weave := { State.reset.weave with running := true } } : State).roundsRun = true
    ∧ State.reset.narrowing 0 = true ∧ State.reset.narrowing 4095 = true
    ∧ ({ State.reset with sys := { State.reset.sys with pass := 8 } } : State).sys.n ≤ 8 := by decide

theorem witness_RoundBoundary : still.roundsRun = false ∧ State.reset.roundsRun = true
    ∧ State.reset.power.hand = none ∧ State.reset.power.recovBy = none ∧ State.reset.trust.inPlace = none := by decide

/-! ### Witnesses: stakes and clusters -/

/-- A stake that issues at an address. -/
def runsAt (k pc : Nat) : State := runs k { Arch.reset with pc := pc }

/-- Reset, a stake of which runs, is ready: for every claim whose premise is `ready`. -/
theorem witness_ready : (runsAt 127 8190).ready 127 ∧ (runsAt 0 0).ready 0 := by
  constructor <;> (unfold State.ready; decide)

theorem witness_StakeAluResults : (runsAt 127 8190).ready 127
    ∧ loadsClash (RSlots.full ⟨some ⟨4, 1, 1⟩, none⟩).l1 (RSlots.full ⟨some ⟨4, 1, 1⟩, none⟩).l2 [3] = false
    ∧ (aluSpec (.add 127 3 1 2 ⟨some ⟨4, 1, 1⟩, none⟩)).isSome = true
    ∧ (aluSpec (.cmpi 127 3 0x800#12 ⟨none, none⟩)).isSome = true := ⟨witness_ready.1, by decide, by decide, by decide⟩

theorem witness_StakeMoves : (runsAt 127 8190).ready 127 ∧ (moveSpec (.slide 127 29 31 1 ⟨none, none⟩)).isSome = true
    ∧ (moveSpec (.rnd 127 3 7 15 ⟨none, none⟩)).isSome = true ∧ loadsClash none (some ⟨4, 1, 1⟩) [3] = false
    ∧ (SReg.st ≠ SReg.rcnt) ∧ ldiaOk (.lc 3) 0xFFFF#20 = true := ⟨witness_ready.1, by decide, by decide, by decide, by decide, by decide⟩

theorem witness_StakeAccumulators : (runsAt 127 8190).ready 127 ∧ (accSpec (.mac 127 7 31 31 .uu ⟨none, none⟩)).isSome = true
    ∧ (accSpec (.movap 127 7 .g 31 ⟨none, none⟩)).isSome = true := ⟨witness_ready.1, by decide, by decide⟩

theorem witness_StakeParallelOps : (runsAt 127 8190).ready 127 ∧ (parSpec (.ftap 127 1 31 6 PSlots.none)).isSome = true
    ∧ loadsClash (some ⟨true, 3, 0, 0⟩) (some ⟨4, 1, 1⟩) [24, 25, 26, 27] = false
    ∧ (parSpec (.fdly 127 7 6 31 true PSlots.none)).isSome = true := ⟨witness_ready.1, by decide, by decide, by decide⟩

/-- A stake with levels and return addresses. -/
def deep (pc : Nat) (l : List Level) (ret : List Nat) : State := runs 3 { Arch.reset with pc := pc, levels := l, ret := ret }

theorem witness_StakeControlTransfers : (deep 4 [⟨0, 2, 9⟩] [1, 2, 3, 4, 5, 6, 7]).ready 3
    ∧ ((deep 4 [⟨0, 2, 9⟩] [1, 2, 3, 4, 5, 6, 7]).stake 3).arch.ret.length < 8
    ∧ ((deep 4 [⟨0, 2, 9⟩] [8191]).ready 3 ∧ ((deep 4 [⟨0, 2, 9⟩] [8191]).stake 3).arch.ret = 8191 :: [])
    ∧ ((deep 8189 [] []).ready 3 ∧ ((deep 8189 [] []).stake 3).arch.levels.length < 4
      ∧ ((deep 8189 [] []).stake 3).arch.pc < 8190)
    ∧ (deep 9 [⟨1, 9, 9⟩, ⟨0, 2, 10⟩] []).readyAt 3
    ∧ ((deep 9 [⟨1, 9, 9⟩, ⟨0, 2, 10⟩] []).stake 3).arch.levels = ⟨1, 9, 9⟩ :: [⟨0, 2, 10⟩]
    ∧ ∀ w ∈ [(⟨0, 2, 10⟩ : Level)], w.stop ≠ 9 ∧ w.n ≠ 1 := by
  unfold State.ready State.readyAt; decide

theorem witness_StakeDone : (runsAt 127 8190).ready 127
    ∧ (let s := (State.reset.setStake 5 { Stake.reset with run := .running, doneAt := some 100 })
      s.issues 5 = true ∧ (s.stake 5).doneAt = some 100 ∧ (s.stake 5).reqs = []
        ∧ (s.cluster (5 / 8)).base + (100 + 6 + ((s.stake 5).frz.map (·.2)).sum) ≤ s.budgetCycles (5 / 8))
    ∧ (let s := (State.reset.setStake 5 { Stake.reset with run := .running, doneAt := some 400000 })
      s.budgetCycles (5 / 8) < (s.cluster (5 / 8)).base + (400000 + 6 + ((s.stake 5).frz.map (·.2)).sum))
    ∧ (∃ p, parSpec (.ftap 127 1 31 6 ⟨some ⟨false, 24, 0, 0⟩, none, none⟩) = some p
      ∧ loadsClash p.m.l1 p.m.l2 (p.d.map (·.1)) = true)
    ∧ (ldiaOk .st 0#20 = false ∧ ldiaOk (.lc 3) 0x10000#20 = false ∧ 31 < (30 : Fin 32).val + (0 : Fin 3).val + 1 + 1
      ∧ loadsClash none (some ⟨3, 1, 1⟩) [3] = true)
    ∧ loadsClash (some ⟨false, 3, 0, 0⟩) (some ⟨3, 1, 1⟩) [] = true
    ∧ (RSlots.full ⟨some ⟨3, 1, 1⟩, none⟩).dsts = [3]
    ∧ ((deep 4 [⟨3, 0, 9⟩, ⟨2, 0, 9⟩, ⟨1, 0, 9⟩, ⟨0, 0, 9⟩] []).ready 3
      ∧ 4 ≤ ((deep 4 [⟨3, 0, 9⟩, ⟨2, 0, 9⟩, ⟨1, 0, 9⟩, ⟨0, 0, 9⟩] []).stake 3).arch.levels.length)
    ∧ ((deep 4 [⟨2, 0, 9⟩, ⟨1, 0, 9⟩, ⟨0, 0, 9⟩] []).ready 3
      ∧ ((deep 4 [⟨2, 0, 9⟩, ⟨1, 0, 9⟩, ⟨0, 0, 9⟩] []).stake 3).arch.levels.length < 4
      ∧ 4 ≤ ((deep 4 [⟨2, 0, 9⟩, ⟨1, 0, 9⟩, ⟨0, 0, 9⟩] []).stake 3).arch.pc)
    ∧ ((deep 4 [] [1, 2, 3, 4, 5, 6, 7, 8]).ready 3 ∧ 8 ≤ ((deep 4 [] [1, 2, 3, 4, 5, 6, 7, 8]).stake 3).arch.ret.length)
    ∧ ((deep 4 [] []).ready 3 ∧ ((deep 4 [] []).stake 3).arch.ret = []) := by
  unfold State.ready
  refine ⟨by decide, by decide, by decide, ⟨_, rfl, by decide⟩, by decide⟩

theorem witness_StakeLoadsAndStores : (runsAt 127 8190).ready 127 ∧ ((runsAt 127 8190).stake 127).arch.stores = []
    ∧ (storeTo ⟨.y, 1, 0, .reg 31⟩ 127 0 Arch.reset).isSome = true := ⟨witness_ready.1, by decide, by decide⟩

/-- A running stake with a coil access waiting, whose word no younger instruction has overwritten. -/
def waits (l : Option CoilDst) : State :=
  State.reset.setStake 120 { Stake.reset with
    run := .running, arch := { Arch.reset with due := l.toList.map fun d => (1, d) },
    reqs := [⟨1, 4, coilBase 15 + 0x1FFFFC, l, 7#32, false, Arch.reset⟩] }

theorem witness_CoilGrants : (waits (some (.reg 31))).issues 120 = true ∧ (waits (some (.acc 7))).issues 120 = true
    ∧ (waits none).issues 120 = true ∧ (waits none).ecc = []
    ∧ (1, CoilDst.reg 31) ∈ ((waits (some (.reg 31))).stake 120).arch.due
    ∧ (1, CoilDst.acc 7) ∈ ((waits (some (.acc 7))).stake 120).arch.due
    ∧ ((waits none).stake 120).reqs = ⟨1, 4, coilBase 15 + 0x1FFFFC, none, 7#32, false, Arch.reset⟩ :: []
    ∧ (waits none).portATurn 120 10 = true
    ∧ ((waits none).setStake 121 ((waits none).stake 120)).portATurn 121 10 = false := by decide

/-- Stake 0 issues two instructions of format P from a running cluster; R98 to R100 of spec/03_stake_programming_model.md
give what it holds: a load of d5 from C, then LDI d5 at the next cycle, then the grant. -/
theorem test_coil_load_in_program_order :
    (let s := ((runs 0 { Arch.reset with pc := 0 }).issue 0 { l1 := some ⟨true, 5, 0, 0⟩ }).issue 0
        { dAlu := [5], run := fun _ r => r.setD 5 9#32 }
      let t := s.grant 0 4
      (t.stake 0).arch.rd 5 = 9#32 ∧ (t.stake 0).reqs = [] ∧ (t.stake 0).issueCycle [kUse 5] = 3) := by decide

/-- Two coil accesses in a row (R100): the second request waits out the first's freeze, and every later issue moves by both
waits. -/
theorem test_coil_waits_add :
    (let s := ((runs 0 { Arch.reset with pc := 0 }).issue 0 { l1 := some ⟨true, 5, 0, 0⟩ }).issue 0 { l1 := some ⟨true, 6, 1, 0⟩ }
      let t := (s.grant 0 4).grant 0 3
      ({ t.stake 0 with cyc := 5 } : Stake).issueCycle [] = 5 + 4 + 3 ∧ (t.stake 0).issueCycle [kUse 6] = 5 + 4 + 3 + 4) := by
  decide

/-- An instruction's own move into its level's counter comes after the end-of-block test (R97, R99). -/
theorem test_lc_move_at_block_end :
    (let s := runs 3 { Arch.reset with pc := 9, levels := [⟨0, 2, 9⟩], lc := [(0, 1#16)] }
      let t := s.issue 3 { sreg := some (SReg.lc 0), run := fun _ r => Arch.sregWrite r 5#32 (SReg.lc 0) }
      (t.stake 3).arch.levels = [] ∧ (t.stake 3).arch.pc = 10 ∧ (t.stake 3).arch.rlc 0 = 5#16) := by decide

/-- A branch within the innermost block leaves an outer level active whose block does not hold it (R97). -/
theorem test_branch_in_inner_block :
    (((deep 20 [⟨1, 20, 25⟩, ⟨0, 2, 9⟩] []).issue 3 { ctl := Ctl.branch 22 }).stake 3).arch.levels = [⟨1, 20, 25⟩, ⟨0, 2, 9⟩]
    ∧ (((deep 20 [⟨1, 20, 25⟩, ⟨0, 2, 9⟩] []).issue 3 { ctl := Ctl.branch 5 }).stake 3).arch.levels = [⟨0, 2, 9⟩] := by decide

/-- A clamp issued one cycle before a move into ST that clears OVG ends set (R104). -/
theorem test_clamp_meets_move :
    (let r : Arch := { Arch.reset with pc := 0, a := [(0, 0x7FFFFFFFFFFF00000000#80)] }
      let s := ((runs 0 r).issue 0 { aOut := [0], run := fun _ r => r.accumulate 0 (2 ^ 62) }).issue 0
        { sreg := some .st, run := fun _ r => r.sregWrite 1#32 .st }
      bitAt (s.stake 0).arch.st 0 = true) := by decide

theorem witness_StakeWordsRoundTrip : (Instr.done 127).wf = true
    ∧ encodeStake (.done 127) = some (127, 0x8700000000000000)
    ∧ encodeStake (.ldi 3 31 0xFFFFFFFF#32) = some (3, 0x88F80000FFFFFFFF) := by decide

theorem witness_StakeReservedEncodings : 0xC000000000000000 < 2 ^ 64 ∧ 0xC000000000000000 / 2 ^ 62 = 3
    ∧ (0x1A00000000000000 / 2 ^ 62 = 0 ∧ 12 < 0x1A00000000000000 / 2 ^ 57 % 32)
    ∧ (0x8A00000000000000 / 2 ^ 62 = 2 ∧ 9 < 0x8A00000000000000 / 2 ^ 56 % 64)
    ∧ (0x8000000000000000 / 2 ^ 62 = 2 ∧ 0x8000000000000000 / 2 ^ 56 % 64 = 0)
    ∧ (0xE0000 / 2 ^ 62 < 2 ∧ 0xE0000 / 2 ^ 19 % 2 = 1 ∧ 0xE0000 / 2 ^ 17 % 4 = 3)
    ∧ (0x200000000000 / 2 ^ 57 = 0 ∧ 0x200000000000 / 2 ^ 45 % 4096 ≠ 0) := by decide

theorem witness_StakeStepsKeepCanonicalForm : (runsAt 0 0).canonical = true
    ∧ (∀ c l, ({ runsAt 0 0 with pending := [Instr.done 0] } : State).pending = c :: l → (encodeStake c).isSome = true)
    ∧ ∃ t, step { runsAt 0 0 with pending := [Instr.done 0] } = .next t := by
  refine ⟨by decide, ?_, _, rfl⟩
  intro c l h
  cases h
  decide

/-- Cluster 15 in a state, its stakes scheduled as given (WALE, enabled). -/
def inState (st : Nat) (x : Cluster) (l : List (RegField × Nat)) : State :=
  ((rst ((Reg.CL_STAT_STATE 15, st) :: l)).setCluster 15 x)

theorem witness_BudgetPointStopsLateStakes :
    let s := ((inState clRunning Cluster.reset []).setStake 127 { Stake.reset with run := .running })
    s.clState 15 = clRunning ∧ (s.cluster 15).budget = false ∧ (s.cluster 15).missed = false
      ∧ (s.stake 127).run = .running
      ∧ (let t := (s.setStake 127 { Stake.reset with run := .running, doneAt := some 100 })
        ((t.stake 127).reqs.isEmpty && (t.stake 127).doneAt.any fun d =>
          decide ((t.cluster 15).base + 64 * (t.cluster 15).wale + (d + 6 + ((t.stake 127).frz.map (·.2)).sum)
            ≤ t.budgetCycles 15)) = true) := by decide

theorem witness_ClusterSequencer :
      (let s := (inState clRunning Cluster.reset [(Reg.CL_STAT_WALES 15, 1)])
      s.clState 15 = clRunning ∧ (s.cluster 15).budget = false ∧ (s.cluster 15).faulted = false
        ∧ (s.cluster 15).missed = false ∧ (s.cluster 15).wale < s.lastWale 15
        ∧ ∀ k, k < 128 → k / 8 = 15 → s.schedEn k = true → s.schedWale k = (s.cluster 15).wale → (s.stake k).run = .done)
    ∧ (let s := (inState clRunning Cluster.reset [(Reg.CL_STAT_WALES 15, 1), (Reg.CL_SCHED_EN 15 7, 1)])
      (s.cluster 15).wale < s.lastWale 15
        ∧ ((127 / 8 = 15 ∧ s.schedEn 127 = true ∧ s.schedWale 127 = (s.cluster 15).wale ∧ (s.stake 127).run ≠ .done)))
    ∧ (let s := (State.reset.setStake 127 { Stake.reset with run := .running, doneAt := some 100 })
      (s.stake 127).run = .running ∧ (s.stake 127).doneAt = some 100 ∧ (s.stake 127).reqs = []
        ∧ (s.cluster (127 / 8)).base + (100 + 6 + ((s.stake 127).frz.map (·.2)).sum) ≤ s.budgetCycles (127 / 8)) := by decide

/-- Compute die 1 awake. -/
def die1 (l : List (RegField × Nat)) : State := rst ((Reg.PWR_STAT_CD1, 1) :: l)

theorem witness_ClusterControl :
    ((die1 [(Reg.CL_STAT_STATE 15, clHeld)]).reachesDie 0 (Reg.CL_CTL 15) = true
      ∧ (die1 [(Reg.CL_STAT_STATE 15, clHeld)]).clState 15 = clHeld)
    ∧ ((die1 []).reachesDie 1 (Reg.CL_CTL 15) = true ∧ (die1 []).clState 15 ≠ clHeld
      ∧ (die1 []).flag (Reg.CL_CTL_ISOLATE 15) = false ∧ (die1 []).clState 15 ≠ clIsolated
      ∧ (die1 [(Reg.CL_CTL_ISOLATE 15, 1)]).flag (Reg.CL_CTL_ISOLATE 15) = true)
    ∧ ((die1 [(Reg.CL_STAT_STATE 15, clIsolated)]).reachesDie 1 (Reg.CL_CTL 15) = true
      ∧ (die1 [(Reg.CL_STAT_STATE 15, clIsolated)]).clState 15 = clIsolated)
    ∧ (let s := ((rst [(Reg.CL_STAT_STATE 15, clLoading), (⟨Reg.PWR_STAT, 15, 15⟩, 1)]).setCluster 15 { Cluster.reset with loading := true })
      s.canonical = true ∧ s.clState 15 = clLoading ∧ (s.cluster 15).loading = true ∧ s.bit Reg.PWR_STAT 15 = true ∧ s.mem = [])
    ∧ (let s := ((rst [(Reg.REG_OP_OP 3, 1), (Reg.REG_OP_MIN_OP 3, 0), (Reg.REG_OP_NOM_OP 3, 2)]).setRegion 3 ⟨none, some 5, some 7, 0, 0⟩)
      (s.region 3).hot = some 5 ∧ s.rf (Reg.REG_OP_MIN_OP 3) < (s.region 3).pend.getD (s.rf (Reg.REG_OP_OP 3))
        ∧ (s.region 3).cool = some 7 ∧ (s.region 3).pend.getD (s.rf (Reg.REG_OP_OP 3)) < s.rf (Reg.REG_OP_NOM_OP 3))
    ∧ (let s := (rst [(Reg.REG_OP_OP 3, 1), (Reg.REG_OP_MIN_OP 3, 1), (Reg.REG_OP_NOM_OP 3, 1)])
      (s.region 3).pend.getD (s.rf (Reg.REG_OP_OP 3)) ≤ s.rf (Reg.REG_OP_MIN_OP 3)
        ∧ s.rf (Reg.REG_OP_NOM_OP 3) ≤ (s.region 3).pend.getD (s.rf (Reg.REG_OP_OP 3))) := by decide

/-- Memory of that state, which lists nothing, reads 0 outside flash: the premise on the memories of a cluster that is
loading. -/
theorem witness_ClusterControl_empty (s : State) (h : s.mem = []) (b : Nat) (hb : 0x0410000000 ≤ b) : s.byte b = 0#8 := by
  have h2 : Nat.ble b 0x040FFFFFFF = false := by
    cases h3 : Nat.ble b 0x040FFFFFFF with
    | false => rfl
    | true => have := Nat.le_of_ble_eq_true h3; omega
  simp [State.byte, h, memReset, h2]

/-! ### Witnesses: supervision and alarms -/

/-- Line 511 enabled. -/
def line511 (l : List (RegField × Nat)) : State := rst ((Reg.SUPV_CTL_RUN, 1) :: (Reg.SUPV_LINE_CFG_EN 511, 1) :: l)

/-- A report record of a kind for an index with SEQ 9 and some words. -/
def reported (s : State) (kind idx : Nat) (l : List Word) : State :=
  s.setWords 0 (9#32 :: BitVec.ofNat 32 (kind * 2 ^ 24 + idx) :: l)

theorem witness_SupervisionOfLines :
      (let s := ((line511 []).setLine 511 { Line.empty with hub := true, ready := some ⟨1, 2, 3, 4, 0⟩ })
      s.lineOn 511 = true ∧ s.fresh (s.skLine 511).pilot 1 511 (s.line 511).seq = false ∧ s.lineHub 511 = true
        ∧ (s.line 511).hub = true ∧ (s.line 511).ready = some ⟨1, 2, 3, 4, 0⟩)
    ∧ (let s := (reported (line511 [(Reg.CL_STAT_STATE 0, clRunning), (Reg.SUPV_LINE_CFG_BB_EN 511, 1)]) 1 511 [])
      s.lineOn 511 = true ∧ s.full = true ∧ s.fresh (s.skLine 511).pilot 1 511 (s.line 511).seq = true
        ∧ s.clState (s.skLine 511).cluster = clRunning ∧ (s.line 511).hub = false ∧ s.lineHub 511 = false
        ∧ s.reportWhole 511 9#32 = false ∧ (0 < s.sys.n ∧ s.sys.n ≤ 16))
    ∧ (let s := (line511 [(Reg.CL_STAT_STATE 0, clRunning)]).setWords 0 [100000#32, BitVec.ofNat 32 (2 ^ 24 + 511)]
      let u : State := { s with sys := { s.sys with roundNo := 100000 } }
      u.lineOn 511 = true ∧ u.full = true ∧ u.fresh (u.skLine 511).pilot 1 511 (u.line 511).seq = true
        ∧ u.clState (u.skLine 511).cluster = clRunning ∧ (u.line 511).hub = false
        ∧ u.reportWhole 511 (u.rpt (u.skLine 511).pilot 0) = true)
    ∧ (let s := (reported (line511 [(Reg.CL_STAT_STATE 0, clRunning)]) 1 511 []).setLine 511 { Line.empty with hub := true }
      s.lineOn 511 = true ∧ s.full = true ∧ s.fresh (s.skLine 511).pilot 1 511 (s.line 511).seq = true
        ∧ s.clState (s.skLine 511).cluster = clRunning ∧ (s.line 511).hub = true)
    ∧ (let s := (line511 [(Reg.CL_STAT_STATE 0, clRunning)])
      s.lineOn 511 = true ∧ s.lineHub 511 = false ∧ s.fresh (s.skLine 511).pilot 1 511 (s.line 511).seq = false)
    ∧ (let s := (line511 [])
      s.lineOn 511 = true ∧ s.fresh (s.skLine 511).pilot 1 511 (s.line 511).seq = false ∧ s.lineHub 511 = true ∧ (s.line 511).hub = false)
    ∧ State.reset.lineOn 511 = false
    ∧ (let s := (reported (line511 [(Reg.CL_STAT_STATE 0, clRunning), (Reg.SUPV_LINE_CFG_BB_EN 511, 1)]) 2 511 [])
      s.lineOn 511 = true ∧ s.flag (Reg.SUPV_LINE_CFG_BB_EN 511) = true ∧ s.full = true
        ∧ s.clState (s.skLine 511).cluster = clRunning
        ∧ s.fresh (s.skLine 511).broad 2 511 (mget (fun _ => 0#32) s.supv.bbSeq 511) = true)
    ∧ ((line511 []).reaches 1 Reg.SUPV_CTL true = true ∧ (line511 []).lifecycle < 2)
    ∧ (2 ≤ (rst [(Reg.TRUST_LC_LC, 2)]).lifecycle ∧ (rst [(Reg.TRUST_LC_LC, 2)]).reaches 1 Reg.SUPV_CTL true = true)
    ∧ State.reset.reaches 1 (Reg.SUPV_LINE_STAT 511) true = true := by decide

/-- A line that has gathered ten estimates to learn from. -/
def learned : State := (line511 []).setLine 511 { Line.empty with learn := some ⟨1, 1, 1, 1, 10⟩ }

theorem witness_SupervisionOfLines_learn : 511 ∈ learned.linesOn ∧ (learned.line 511).learn.isSome = true
    ∧ ∀ l ∈ learned.linesOn, ∀ g, (learned.line l).learn = some g → 10 ≤ g.n := by
  have h : learned.linesOn = [511] := by
    set_option maxRecDepth 10000 in decide
  rw [h]
  refine ⟨by decide, by decide, ?_⟩
  intro l hl g hg
  cases List.mem_singleton.mp hl
  have h2 : (learned.line 511).learn = some ⟨1, 1, 1, 1, 10⟩ := by decide
  rw [h2] at hg
  cases hg
  decide

theorem witness_SupervisionOfMicsAndZones :
    (State.reset.mic 127).ready = none ∧ ((State.reset.setMic 127 { Mic.empty with ready := some (9, -1, 1) }).mic 127).ready = some (9, -1, 1)
    ∧ State.reset.fresh (mget (fun _ => 0) State.reset.skein.points 63) 3 63 (State.reset.point 63).seq = false
    ∧ (let s := (reported (rst [(Reg.SUPV_CTL_RUN, 1), (Reg.SUPV_TI_CFG_EN 63, 1)]) 3 63 [])
      s.flag Reg.SUPV_CTL_RUN = true ∧ s.flag (Reg.SUPV_TI_CFG_EN 63) = true ∧ s.full = true
        ∧ s.fresh (mget (fun _ => 0) s.skein.points 63) 3 63 (s.point 63).seq = true)
    ∧ State.reset.fresh (mget (fun _ => 0) State.reset.skein.zones 63) 4 63 (State.reset.zone 63).seq = false
    ∧ (let s := (reported (rst [(Reg.SUPV_CTL_RUN, 1), (Reg.SUPV_CTL_NC_EN, 1), (Reg.SUPV_NC_CFG_EN 63, 1)]) 4 63 [])
      s.flag Reg.SUPV_CTL_RUN = true ∧ s.flag Reg.SUPV_CTL_NC_EN = true ∧ s.flag (Reg.SUPV_NC_CFG_EN 63) = true ∧ s.full = true
        ∧ s.fresh (mget (fun _ => 0) s.skein.zones 63) 4 63 (s.zone 63).seq = true ∧ bitAt (s.rpt 0 3) 0 = false)
    ∧ (let s := (reported (rst [(Reg.SUPV_CTL_RUN, 1), (Reg.SUPV_CTL_NC_EN, 1), (Reg.SUPV_NC_CFG_EN 63, 1)]) 4 63 [0#32, 1#32])
      s.fresh (mget (fun _ => 0) s.skein.zones 63) 4 63 (s.zone 63).seq = true ∧ bitAt (s.rpt 0 3) 0 = true) := by decide

/-- A contact input whose loop has moved to ACTIVE. -/
def contact (l : List (RegField × Nat)) : State :=
  (rst ((Reg.ALARM_IN_CFG_EN 15, 1) :: l)).setLoop 15 ⟨1, 100, true⟩

theorem witness_ContactInputs :
    ((State.reset.loop 15).raw = bandOf (State.reset.loop 15).raw 5000 ∧ (State.reset.loop 15).raw ≠ bandOf (State.reset.loop 15).raw 1399)
    ∧ (State.reset.flag (Reg.ALARM_IN_CFG_EN 15) && (State.reset.loop 15).counting
        && (State.reset.loop 15).raw != State.reset.inState 15) = false
    ∧ (let s := (contact [])
      (s.flag (Reg.ALARM_IN_CFG_EN 15) && (s.loop 15).counting && (s.loop 15).raw != s.inState 15) = true
        ∧ (s.loop 15).raw < 4 ∧ s.pstate ≠ 3 ∧ s.power.hand = none)
    ∧ (let s := (contact [(Reg.PWR_STAT_STATE, 3), (⟨Reg.RIM_WAKE_EN, 0, 0⟩, 1)])
      s.pstate = 3 ∧ s.bit Reg.RIM_WAKE_EN 0 = true ∧ s.flag (Reg.ALARM_IN_CFG_ROLE 15) = false
        ∧ (s.flag (Reg.ALARM_IN_CFG_EN 15) && (s.loop 15).counting && (s.loop 15).raw != s.inState 15) = true) := by decide

/-- A voice of message 2. -/
def voice0 (k : Nat) (ready fetch : List Nat) (main : Bool) : Voice := ⟨2, k, 0x100000, none, ready, fetch, main⟩

/-- A player, with message 2 verified and 9,000 samples long. -/
def plays (x : Player) : State :=
  ({ rst [(⟨Reg.ALARM_MSG_OK0, 2, 2⟩, 1)] with
    skein := { State.reset.skein with msgs := [(2, ⟨true, 2, 0, 9000, 0⟩)] } } : State).setPlayer 15 x

theorem witness_AlarmPlayback :
    (State.reset.player 15).ends.head? = none ∧ (State.reset.player 15).voices = []
    ∧ (let s : State := ({ plays ⟨some 3, 3, 2, [], 0, [7], []⟩ with sys := { State.reset.sys with roundNo := 1 } })
      (s.player 15).ends = 7 :: [] ∧ 7 < s.sys.roundNo * s.sys.n + s.sys.pass ∧ (s.player 15).holder = some 3)
    ∧ (let s := (plays ⟨none, 3, 2, [voice0 0 [0] [] false, voice0 5 [] [0, 1] true], 0, [], []⟩)
      (s.player 15).voices = [voice0 0 [0] [] false] ++ voice0 5 [] [0, 1] true :: []
        ∧ (voice0 5 [] [0, 1] true).fetch = 0 :: [1] ∧ (∀ u ∈ [voice0 0 [0] [] false], u.main = true → u.fetch = []))
    ∧ (let s := (plays ⟨some 3, 3, 2, [voice0 0 [0] [] true, voice0 5461 [] [0] false], 0, [], []⟩)
      (s.player 15).voices = [voice0 0 [0] [] true] ++ voice0 5461 [] [0] false :: []
        ∧ s.starved (voice0 5461 [] [0] false) = true ∧ s.starved (voice0 5460 [] [0] false) = false
        ∧ ∀ u ∈ [voice0 0 [0] [] true], s.starved u = false) := by decide

theorem witness_AlarmCommands :
    State.reset.reaches 1 Reg.ALARM_CMD true = true ∧ State.reset.reaches 0 Reg.ALARM_CMD true = true
    ∧ State.reset.reaches 1 Reg.ALARM_CTL true = true ∧ State.reset.reaches 2 Reg.ALARM_CTL true = true := by decide

/-- Bytes 0x00 to 0x1F of a START of trigger 63 (R199): VER, KIND, TRIG and KEY, SENDER 5 and COUNTER 10. -/
def start0 (key : Byte) : List Byte := [1#8, 1#8, 63#8, key, 0#8, 0#8, 0#8, 5#8, 0#8, 0#8, 0#8, 0#8, 0#8, 0#8, 0#8, 10#8] ++ zeros 16

/-- That message under key slot 7, signed, and under the manager's authority. -/
def msg0 : AlarmMsg :=
  ⟨start0 7#8 ++ beBytes sig0.1 32 ++ beBytes 0x7972D6A7540DBA21598F79643C4CFA29103C67A0511898844FE25CCCE918770A 32, .other, 0x1234, 6⟩
def msg1 : AlarmMsg := ⟨start0 0xFF#8 ++ zeros 64, .manager, 0x1234, 6⟩

/-- A state with messages received, the alarm path running, trigger 63 open to the network and a key in slot 7. -/
def hears (l : List AlarmMsg) : State :=
  let s := (rst [(Reg.ALARM_CTL_RUN, 1), (Reg.ALARM_TRIG_CFG_EN 63, 1), (Reg.ALARM_TRIG_CFG_NET_OK 63, 1)])
  { s with alarm := { s.alarm with rx := l }, skein := { s.skein with keys := [(7, key0)] } }

/-- The fields of the bytes, and its signature under the slot's key. -/
theorem test_alarm_message : (msg0.ver, msg0.kind, msg0.trig, msg0.key, msg0.sender, msg0.counter) = (1, 1, 63, 7, 5, 10)
    ∧ (hears []).sigOk msg0 = true ∧ (hears []).sigOk { msg0 with body := 2#8 :: msg0.body.tail } = false := by decide +kernel

theorem witness_AlarmMessages :
    (rst [(Reg.PWR_STAT_STATE, 3)]).hubUp = false ∧ State.reset.hubUp = true ∧ State.reset.alarm.rx.length < 16
    ∧ State.reset.flag Reg.ALARM_CTL_BARE = false ∧ (rst [(Reg.ALARM_CTL_BARE, 1)]).flag Reg.ALARM_CTL_BARE = true
    ∧ (16 ≤ (hears (List.replicate 16 msg0)).alarm.rx.length ∧ msg0.port ≤ 6 ∧ (hears (List.replicate 16 msg0)).hubUp = true)
    ∧ (hears []).alarm.rx.head? = none
    ∧ ((hears [msg0]).alarm.rx = msg0 :: [] ∧ (msg0.kind == 1) = true ∧ (hears [msg0]).flag Reg.ALARM_CTL_RUN = true
      ∧ msg0.ver = 1 ∧ (hears [msg0]).flag (Reg.ALARM_TRIG_CFG_EN msg0.trig) = true
      ∧ (hears [msg0]).flag (Reg.ALARM_TRIG_CFG_NET_OK msg0.trig) = true ∧ msg0.key = 7 ∧ (7, key0) ∈ (hears [msg0]).skein.keys
      ∧ ((hears [msg0]).alarm.keyCtr.find? fun e => e.1 == msg0.key) = none)
    ∧ ((hears [msg1]).alarm.rx = msg1 :: [] ∧ msg1.kind = 1 ∧ msg1.ver = 1 ∧ msg1.key = 0xFF ∧ msg1.origin ≠ .other ∧ msg1.trig = 63
      ∧ ((hears [msg1]).alarm.senderCtr.find? fun e => e.1 == msg1.sender) = none)
    ∧ (∀ e ∈ (hears [msg0]).net.table, e.1 < 64) ∧ State.reset.flag Reg.ALARM_CTL_RUN = false := by decide

/-! ### Witnesses: ports, network and streams -/

theorem witness_InputLossAndReturn :
    State.reset.inRuns (inKey (.tdm 31)) = false
    ∧ (rst [(Reg.TDM_STAT_STATE 31, 2)]).inRuns (inKey (.tdm 31)) = true
    ∧ (rst [(Reg.AES_IN_CFG_EN 3, 1)]).inRuns (inKey (.aes 3)) = true
    ∧ (rst [(Reg.AES_IN_CFG_EN 3, 1), (Reg.AES_IN_CFG_VMODE 3, 1)]).inRuns (inKey (.sub 3 1)) = true
    ∧ (rst [(Reg.ASRC_CFG_EN 31, 1)]).inRuns (inKey (.asrc 31)) = true
    ∧ (State.reset.input (inKey (.tdm 31))).good = none
    ∧ (let x : Input := { Input.init 31 with good := some 50, lost := true }
      ((State.reset.setInput 31 x).input 31).good = some 50 ∧ ((State.reset.setInput 31 x).input 31).lost = true)
    ∧ (let x : Input := { Input.init 31 with fading := true }
      ((State.reset.setInput 31 x).input 31).fading = true ∧ ((State.reset.setInput 31 x).input 31).ramp = none)
    ∧ (let x : Input := { Input.init 31 with ramping := true }
      ((State.reset.setInput 31 x).input 31).ramping = true ∧ ((State.reset.setInput 31 x).input 31).ramp = none)
    ∧ (let s := (rst [(Reg.TDM_STAT_STATE 31, 2), (Reg.ASRC_CFG_EN 7, 1), (Reg.ASRC_CFG_SLOT 7, 1023), (Reg.ASRC_STAT_LOCK 7, 1)])
      s.inRuns (inKey (.tdm 31)) = true ∧ s.flag (Reg.ASRC_STAT_LOCK 7) = true ∧ (s.asrcsOf (inKey (.tdm 31))).contains 7 = true) := by
  decide

/-- Port 31 running with a role and an input state. -/
def tdm31 (role : Nat) (x : Input) : State := (rst [(Reg.TDM_STAT_STATE 31, 2), (Reg.TDM_CFG_ROLE 31, role)]).setInput 31 x

set_option maxRecDepth 20000 in
theorem witness_TdmPorts :
    (Nat.ble 2 (State.reset.rf (Reg.TDM_STAT_STATE 31)) && State.reset.hubUp) = false
    ∧ (∀ role ∈ [0, 1, 2], (let s := tdm31 role (Input.init 31)
      (Nat.ble 2 (s.rf (Reg.TDM_STAT_STATE 31)) && s.hubUp) = true ∧ s.rf (Reg.TDM_CFG_ROLE 31) = role
        ∧ (s.input 31).d0 = none ∧ (role = 0 ∨ s.tdmFmtOk 31 [] 48000 = false) ∧ (s.txSide 31).e0 = none))
    ∧ (let s := tdm31 1 { Input.init 31 with d0 := some 40000, clk := true }
      let d := (s.place (s.input 31).d0 0).2
      (s.input 31).lost = false ∧ (Nat.blt (s.sys.period / 4) (40000 - d) || Nat.blt (s.sys.period / 4) (d - 40000)) = true
        ∧ (s.rf (Reg.TDM_CFG_ROLE 31) == 0 || (s.input 31).clk || !(s.input 31).lost) = true)
    ∧ (let s := rst [(Reg.TDM_STAT_STATE 31, 2), (Reg.TDM_CFG_ROLE 31, 1)]
      let line := (s.tdmFs 31 512).map fun b => (⟨b, b, true, false⟩ : TdmClk)
      s.tdmFmtOk 31 (line ++ [⟨false, false, false, false⟩]) 48000 = true)
    ∧ (let s := (rst [(Reg.TDM_STAT_STATE 31, 2), (Reg.TDM_CFG_SLOTS 31, 31), (whole (Reg.TDM_RXMASK_ACT 31), 0x80000000)])
      (Nat.ble 2 (s.rf (Reg.TDM_STAT_STATE 31)) && s.hubUp) = true ∧ s.rf (Reg.TDM_CFG_ROLE 31) = 0
        ∧ (bitAt (s.frameMask 31) 31 && Nat.ble 31 (s.rf (Reg.TDM_CFG_SLOTS 31))) = true)
    ∧ (let s := (rst [(Reg.TDM_STAT_STATE 31, 2), (whole (Reg.TDM_RXMASK 31), 1)])
      bitAt (s.reg (Reg.TDM_RXMASK 31)) 0 = true ∧ bitAt (s.reg (Reg.TDM_RXMASK_ACT 31)) 0 = false)
    ∧ (State.reset.reaches 1 (Reg.TDM_RXMASK 31) true = true ∧ State.reset.reaches 2 (Reg.TDM_TXMASK 31) true = true)
    ∧ (State.reset.reaches 0 (Reg.TDM_CTL 31) true = true ∧ State.reset.reaches 2 (Reg.TDM_CTL 31) true = true)
    ∧ (bitAt 1#32 0 && (rst [(Reg.TDM_CFG_DIV 31, 6)]).tdmBad 31) = true
    ∧ (bitAt 1#32 0 && (rst [(Reg.TDM_CFG_SLOTS 31, 1)]).tdmBad 31) = false := by decide

/-- An AES3 input enabled and locked, with its counts. -/
def aes3 (lock : Nat) (r : AesRx) : State :=
  let s := rst [(Reg.AES_IN_CFG_EN 3, 1), (Reg.AES_IN_STAT_LOCK 3, lock)]
  { s with ports := { s.ports with aesRx := [(3, r)] } }

set_option maxRecDepth 20000 in
theorem witness_PdmAesAndTrigger :
    (let s := (rst [(Reg.SUPV_CTL_RUN, 1), (Reg.SUPV_MIC_CFG_EN 127, 1), (Reg.SUPV_MIC_CFG_SLOT 127, 1055), (Reg.SUPV_MIC_CFG_CHECKS 127, 4)])
    (s.micOn 127 && s.rf (Reg.SUPV_MIC_CFG_SLOT 127) == 1024 + 31) = true ∧ (s.rf (Reg.SUPV_MIC_CFG_CHECKS 127)).testBit 2 = true)
    ∧ (let s : State := ({ State.reset with ports := { State.reset.ports with clocks := [(7, 40)] } })
      ((s.ports.clocks.any fun c => c.1 == 31 / 4) && s.hubUp) = true
        ∧ (Nat.blt (0 * 1024) (s.pdmBits 7) || Nat.blt (1023 * s.pdmBits 7) (0 * 1024)) = true)
    ∧ State.reset.reaches 1 Reg.PDM_MIC_EN true = true ∧ State.reset.reaches 2 Reg.PDM_MIC_EN true = true
    ∧ (bitAt 0x80000000#32 31 && !State.reset.bit Reg.PDM_MIC_EN 31) = true
    ∧ State.reset.flag (Reg.PDM_CLK_CFG_EN (31 / 4)) = false
    ∧ (rst [(Reg.PDM_CLK_CFG_EN 7, 1)]).flag (Reg.PDM_CLK_CFG_EN (31 / 4)) = true
    ∧ (State.reset.ports.clocks.find? fun c => c.1 == 7) = none
    ∧ (let s : State := ({ State.reset with ports := { State.reset.ports with clocks := [(7, 40)] } })
      (s.ports.clocks.find? fun c => c.1 == 7) = some (7, 40) ∧ 7 ∉ s.ports.awake)
    ∧ ((aes3 0 ⟨384, 0, 9⟩).aesOn 3 && ((aes3 0 ⟨384, 0, 9⟩).aesRx 3).run == 384 && !(aes3 0 ⟨384, 0, 9⟩).flag (Reg.AES_IN_STAT_LOCK 3)) = true
    ∧ ((aes3 0 ⟨383, 0, 9⟩).aesRx 3).run ≠ 384 ∧ State.reset.aesOn 3 = false
    ∧ (∀ viol ∈ [2, 3], (aes3 1 ⟨384, viol, 9⟩).flag (Reg.AES_IN_STAT_LOCK 3) = true ∧ (aes3 1 ⟨384, viol, 9⟩).aesOn 3 = true
      ∧ (aes3 1 ⟨384, viol, 9⟩).flag (Reg.AES_IN_CFG_MODE 3) = false)
    ∧ ((aes3 1 ⟨384, 0, 9⟩).flag (Reg.AES_IN_STAT_LOCK 3) && (List.replicate 24 (0#8 : Byte)).length == 24) = true
    ∧ ((0x01#8).getLsbD 0 && aesCrc (1#8 :: List.replicate 22 0#8) != (0xFF#8).toNat) = true
    ∧ (State.reset.ports.aesRun.contains 3 && State.reset.hubUp) = false
    ∧ (let s : State := ({ State.reset with ports := { State.reset.ports with aesRun := [3] } })
      (s.ports.aesRun.contains 3 && s.hubUp) = true)
    ∧ (State.reset.flag (Reg.ASRC_CFG_EN 31) && State.reset.hubUp) = false
    ∧ (let s := (rst [(Reg.TDM_STAT_STATE 31, 2), (Reg.ASRC_CFG_EN 31, 1), (Reg.ASRC_CFG_SLOT 31, 1023)])
      let hz := (0x10000000#32).toNat * s.sys.rate
      (s.flag (Reg.ASRC_CFG_EN 31) && s.hubUp && !s.bareLayer && Nat.ble (30000 * 2 ^ 28) hz && Nat.ble hz (200000 * 2 ^ 28)
        && !(s.input (slotPort (s.rf (Reg.ASRC_CFG_SLOT 31)))).lost && s.inRuns (slotPort (s.rf (Reg.ASRC_CFG_SLOT 31)))) = true
        ∧ 31 ∈ s.asrcsOf (slotPort (s.rf (Reg.ASRC_CFG_SLOT 31))))
    ∧ State.reset.flag (Reg.ASRC_STAT_LOCK 31) = false ∧ (rst [(Reg.ASRC_STAT_LOCK 31, 1)]).flag (Reg.ASRC_STAT_LOCK 31) = true
    ∧ ((rst [(Reg.PWR_STAT_STATE, 3)]).hubUp && true && true) = false ∧ (State.reset.hubUp && true && true) = true := by decide

/-- Port `p` up. -/
def portUp (p : Nat) (l : List (RegField × Nat)) : State :=
  rst ((Reg.NET_CTL_EN p, 1) :: (Reg.NET_STAT_LINK p, 1) :: l)

/-- A frame of 64 bytes to the broadcast address with an EtherType and what follows it. -/
def frame0 (sec : SecTag) (src etype : Nat) (rest : List Byte) : NetFrame :=
  ⟨true, sec, List.replicate 6 0xFF#8 ++ leBytes src 6 ++ beBytes etype 2 ++ rest ++ zeros (46 - rest.length)⟩

/-- The 96-byte body of an alarm message in a Lysle link frame: TYPE 0x40, length 96, after its 24-byte header. -/
def alarm0 : NetFrame := frame0 .clear 5 0x88B5 ([1#8, 0x40#8, 0#8, 96#8] ++ zeros 20 ++ msg1.body)

/-- A UDP datagram over IPv4 to port 9 with a right and with a wrong header checksum. -/
def datagram (sum : Nat) : NetFrame :=
  frame0 .clear 5 0x0800 ([0x45#8, 0#8, 0#8, 28#8] ++ zeros 4 ++ [64#8, 17#8] ++ beBytes sum 2
    ++ [10#8, 0#8, 0#8, 1#8, 10#8, 0#8, 0#8, 2#8] ++ [0#8, 9#8, 0#8, 9#8, 0#8, 8#8, 0#8, 0#8])

/-- The checksums of R257, as RFC 1071 gives them: right, wrong, and a fragment or no IP, which is not checked. -/
theorem test_checksums : (datagram 0x66CF).len = 64 ∧ csumOf (datagram 0x66CF).bytes = 1 ∧ csumOf (datagram 0x66CE).bytes = 2
    ∧ csumOf (frame0 .clear 5 0x0806 []).bytes = 0 := by decide

/-- A receive descriptor that owns a buffer, memory awake. -/
def ringed : State := (portUp 5 []).setWords ((portUp 5 []).rxDesc 2 0) [0x01000000#32, 0x80000000#32]

/-- Port 2 with a bound context that receives RTP to the datagram's address and port. -/
def bound2 : State :=
  let s := put (portUp 2 []) [(Reg.CTX_CFG_EN 0, 1), (Reg.CTX_CFG_FMT 0, 1), (Reg.CTX_CFG_PORT 0, 2),
    (whole (Reg.CTX_ID_LO 0), 0x0A000002), (whole (Reg.CTX_ID_HI 0), 9)]
  let s := s.setCtx 0 { Ctx.init with on := true }
  { s with streams := { s.streams with running := true, bound := [⟨0, true, 1088, 1⟩] } }

set_option maxRecDepth 20000 in
theorem witness_NetReceivePath :
    (State.reset.netUp 6 && !State.reset.flag Reg.ALARM_CTL_BARE) = false
    ∧ (let s := (portUp 6 [])
      let f := frame0 .malformed 5 0x0800 []
      (s.netUp 6 && !s.flag Reg.ALARM_CTL_BARE) = true ∧ Nat.ble ((s.np 6).buffered + f.len) 65536 = true
        ∧ f.good = true ∧ s.flag (Reg.NET_CFG_JUMBO 6) = false ∧ f.len = 64
        ∧ (s.secCheck 6 f).1 ≠ 0 ∧ ∀ e ∈ s.net.table, e.1 < 64)
    ∧ (let x : RxFrame := ⟨3, 6, 0, 0, 0, 0, zeros 60, 0⟩
      Nat.ble (({ NetPort.init with fifo := List.replicate 1100 x } : NetPort).buffered + 64) 65536 = false)
    ∧ ({ frame0 .clear 5 0x0800 [] with good := false, bytes := zeros 59 } : NetFrame).len < 64
    ∧ (let s := (portUp 5 [])
      s.flag (Reg.NET_SEC_CFG_EN 5) = false ∧ s.dstHit 5 (datagram 0x66CF).dst = true ∧ s.dstHit 5 0x123456789ABC = false
        ∧ s.quarantined 5 (datagram 0x66CF).src = false ∧ s.flag Reg.PWR_STAT_DDR_SR = false ∧ s.alarm.rx.length < 16
        ∧ alarmBody (datagram 0x66CF).bytes = none ∧ alarmBody alarm0.bytes = some msg1.body ∧ (s.secCheck 5 alarm0).1 = 0
        ∧ (frame0 .clear 5 0x8808 [0#8, 2#8]).etype = 0x8808
        ∧ be16 (frame0 .clear 5 0x8808 [0#8, 2#8]).bytes (etherAt (frame0 .clear 5 0x8808 [0#8, 2#8]).bytes + 2) ≠ 1
        ∧ (datagram 0x66CF).etype ≠ 0x8808 ∧ ptpAt (datagram 0x66CF).bytes = none ∧ s.streamTo 5 (datagram 0x66CF) = none
        ∧ (!isLink (frame0 .clear 5 0x1234 []).bytes && !isIp (frame0 .clear 5 0x1234 []).bytes && !s.flag (Reg.NET_CFG_RX_OTHER 5)) = true
        ∧ (!isLink (datagram 0x66CF).bytes && !isIp (datagram 0x66CF).bytes && !s.flag (Reg.NET_CFG_RX_OTHER 5)) = false
        ∧ (datagram 0x66CF).bytes.length ≤ 2048 ∧ s.rxDesc 2 0 + 16 ≤ 0x10000000
        ∧ bitAt (s.word (s.rxDesc 2 (bitsOf (s.reg (Reg.NET_RXR_HEAD 2)) 9 0) + 4)) 31 = false)
    ∧ ((rst [(Reg.PWR_STAT_DDR_SR, 1)]).flag Reg.PWR_STAT_DDR_SR = true)
    ∧ (bitAt (ringed.word (ringed.rxDesc 2 (bitsOf (ringed.reg (Reg.NET_RXR_HEAD 2)) 9 0) + 4)) 31 = true
      ∧ (ringed.word (ringed.rxDesc 2 0)).toNat + 2048 ≤ 0x10000000 ∧ ringed.rxDesc 2 0 + 16 ≤ 0x01000000)
    ∧ ((portUp 5 []).setSource 63 (some ⟨5, 5, [], some 1000⟩)).quarantined 5 5 = true
    ∧ (let s := (portUp 5 [(Reg.NET_CFG_PAUSE_EN 5, 1)])
      let g := pauseOf (frame0 .clear 5 0x8808 []) 7#16
      s.netUp 5 = true ∧ g.good = true ∧ g.len = 64 ∧ (s.secCheck 5 g).1 = 0 ∧ (s.secCheck 5 g).2.2 = none
        ∧ 22 ≤ (frame0 .clear 5 0x8808 []).bytes.length ∧ s.dstHit 5 g.dst = true ∧ s.quarantined 5 g.src = false
        ∧ (!s.flag (Reg.NET_CFG_PAUSE_EN 5) || s.rf (Reg.NET_STAT_STREAMS 5) != 0 || (5 : Nat) == 6
        || Nat.blt s.now (s.np 5).deaf) = false ∧ (!(portUp 6 []).flag (Reg.NET_CFG_PAUSE_EN 6) || (6 : Nat) == 6) = true)
    ∧ (bound2.netUp 2 = true ∧ bound2.streamTo 2 (datagram 0x66CE) ≠ none ∧ csumOf (datagram 0x66CE).bytes = 2)
    ∧ (State.reset.np 5).pause = none
    ∧ (let s := ((rst [(Reg.NET_CFG_PAUSE_LIM 5, 1)]).setNp 5 { NetPort.init with pause := some (0, 6000) })
      (s.np 5).pause = some (0, 6000) ∧ 6000 ≤ 0 + s.rf (Reg.NET_CFG_PAUSE_LIM 5) * us1)
    ∧ (let s := ((rst [(Reg.NET_CFG_PAUSE_LIM 5, 1)]).setNp 5 { NetPort.init with pause := some (0, 6001) })
      (s.np 5).pause = some (0, 6001) ∧ 0 + s.rf (Reg.NET_CFG_PAUSE_LIM 5) * us1 < 6001) := by decide

/-- A frame of firmware to send. -/
def tx0 : TxFrame := ⟨68, 0x88F7, .firmware 9 [], false⟩

/-- A port with that frame in queue 7. -/
def queued (p : Nat) (l : List (RegField × Nat)) : State := (portUp p l).setNp p (NetPort.init.setQueue 7 [tx0])

/-- A transmit ring of port 5 with one frame of one descriptor. -/
def txRing : State := (portUp 5 []).setWords ((portUp 5 []).txDesc 5 0) [0x01000000#32, 0xA0000000#32, 60#32]

/-- A frame of one descriptor of that ring. -/
def ring0 : TxFrame := ⟨64, 0x0800, .ring 0 1 false true (datagram 0x66CF).bytes, false⟩

set_option maxRecDepth 20000 in
theorem witness_NetTransmitPath :
    State.reset.netUp 5 = false ∧ ((portUp 5 []).np 5).queues = []
    ∧ (let s := (queued 5 [(Reg.NET_STAT_LPI_TX 5, 1)])
      s.netUp 5 = true ∧ (s.np 5).queues ≠ [] ∧ s.flag (Reg.NET_STAT_LPI_TX 5) = true)
    ∧ (let s := (queued 5 [])
      s.netUp 5 = true ∧ s.flag (Reg.NET_STAT_LPI_TX 5) = false ∧ (s.np 5).gates = false ∧ (s.np 5).queue 7 = tx0 :: []
        ∧ (s.np 5).pause = none ∧ s.flag Reg.PWR_STAT_DDR_SR = false
        ∧ s.txSpan 5 (bitsOf (s.reg (Reg.NET_TXR_HEAD 5)) 7 0) (s.txGiven 5) = none ∧ s.secured 5 0x88F7 = false
        ∧ s.txDesc 5 0 + 16 ≤ 0x10000000)
    ∧ (let s := ((portUp 5 []).setNp 5 (NetPort.init.setQueue 0 [ring0]))
      s.netUp 5 = true ∧ (s.np 5).queue 0 = ring0 :: [] ∧ (∀ j, j < 8 → 0 < j → (s.np 5).queue j = [])
        ∧ ptpAt (datagram 0x66CF).bytes = none ∧ ∀ i, i < 256 → s.txDesc 5 i + 16 ≤ 0x10000000)
    ∧ ((queued 6 []).secured 6 0x88F7 && !(queued 6 []).txLive 6) = true
    ∧ ((queued 6 [(whole (Reg.NET_SEC_SA_KEY 6 0 0), 1)]).secured 6 0x88F7
      && !(queued 6 [(whole (Reg.NET_SEC_SA_KEY 6 0 0), 1)]).txLive 6) = false
    ∧ (State.reset.reaches 2 (Reg.NET_TXR_TAIL 6) true = true ∧ State.reset.reaches 1 (Reg.NET_TXR_TAIL 5) true = true)
    ∧ (let s := (rst [(Reg.PWR_STAT_DDR_SR, 1)])
      s.reaches 0 (Reg.NET_TXR_TAIL 5) true = true ∧ s.flag Reg.PWR_STAT_DDR_SR = true)
    ∧ State.reset.txSpan 5 0 1 = none
    ∧ (txRing.reaches 0 (Reg.NET_TXR_TAIL 5) true = true ∧ txRing.txSpan 5 0 1 = some 1 ∧ txRing.netUp 5 = true
      ∧ (txRing.txBytes 5 0 1).length + 4 ≤ txRing.maxLen 5 ∧ ((txRing.np 5).queue 0).length < 32
      ∧ ∀ k, k < 1 → txRing.txBuf 5 (0 + k) < 0x10000000)
    ∧ (State.reset.reaches 0 (Reg.NET_RXR_TAIL 3) true = true ∧ State.reset.reaches 1 (Reg.NET_RXR_TAIL 3) true = true)
    ∧ (State.reset.reaches 0 (Reg.NET_GCL_CTL 5) true = true ∧ State.reset.flag (Reg.NET_GCL_CTL_PEND 5) = false
      ∧ (0 : Nat) < State.reset.sys.roundLen / 15)
    ∧ (let s := (rst [(⟨Reg.NET_GCL_ADMIN 5 0, 17, 0⟩, 66666)])
      s.sys.roundLen / 15 ≤ (List.range (bitsOf (1#32 : Word) 7 0)).foldl (fun t j => t + bitsOf (s.reg (Reg.NET_GCL_ADMIN 5 j)) 17 0) 0)
    ∧ (let s := (rst [(Reg.NET_GCL_CTL_PEND 5, 1), (Reg.NET_GCL_CTL_LEN 5, 2)])
      s.flag (Reg.NET_GCL_CTL_PEND 5) = true ∧ bitsOf (2#32 : Word) 7 0 = s.rf (Reg.NET_GCL_CTL_LEN 5)
        ∧ bitsOf (3#32 : Word) 7 0 ≠ s.rf (Reg.NET_GCL_CTL_LEN 5))
    ∧ State.reset.rf (Reg.NET_GCL_STAT_OPER_LEN 5) ≤ State.reset.rf (Reg.NET_GCL_STAT_ENTRY 5)
    ∧ (rst [(Reg.NET_GCL_STAT_OPER_LEN 5, 1)]).rf (Reg.NET_GCL_STAT_ENTRY 5)
        < (rst [(Reg.NET_GCL_STAT_OPER_LEN 5, 1)]).rf (Reg.NET_GCL_STAT_OPER_LEN 5) := by decide

theorem witness_NetLinksAndViolations :
    State.reset.modeFits 5 .m25G = none
    ∧ (let s := (rst [(Reg.NET_CTL_EN 5, 1)])
      (s.hubUp && s.flag (Reg.NET_CTL_EN 5) && !s.flag (Reg.NET_STAT_LINK 5)) = true ∧ s.modeFits 5 .t1000 = some (4, false))
    ∧ (State.reset.flag (Reg.NET_STAT_LINK 5) = false ∧ (portUp 5 []).flag (Reg.NET_STAT_LINK 5) = true
      ∧ ((portUp 5 []).np 5).queues = [])
    ∧ (State.reset.pair.lanes.length = 2 ∧ State.reset.flag (Reg.NET_CTL_EN 6) = false ∧ State.reset.pair.rejoin = none)
    ∧ ((rst [(Reg.NET_CTL_EN 6, 1)]).hubUp = true ∧ (rst [(Reg.NET_CTL_EN 6, 1)]).flag (Reg.NET_CTL_EN 6) = true)
    ∧ (State.reset.reaches 2 (Reg.NET_CTL 6) true = true ∧ hosts.reaches 3 (Reg.NET_CTL 6) true = false)
    ∧ (let s := (rst [(Reg.NET_CTL_EN 3, 1), (Reg.NET_CFG_SPD_LOWER 3, 1), (Reg.NET_CFG_MODE 3, 0)])
      (s.flag (Reg.NET_CTL_EN 3) && !s.flag (Reg.NET_STAT_LINK 3) && s.flag (Reg.NET_CFG_SPD_LOWER 3)
        && s.rf (Reg.NET_STAT_STREAMS 3) == 0) = true ∧ s.rf (Reg.NET_CFG_MODE 3) = 0)
    ∧ (let s := ((rst [(Reg.NET_CTL_EN 4, 1), (Reg.NET_CFG_SPD_LOWER 4, 1)]).setNp 4 { NetPort.init with tries := 2 })
      (s.flag (Reg.NET_CTL_EN 4) && !s.flag (Reg.NET_STAT_LINK 4) && s.flag (Reg.NET_CFG_SPD_LOWER 4)
        && s.rf (Reg.NET_STAT_STREAMS 4) == 0) = true ∧ 2 ≤ (s.np 4).tries)
    ∧ (let s := (portUp 5 [(Reg.NET_CFG_EEE_EN 5, 1)])
      (s.netUp 5 && s.flag (Reg.NET_CFG_EEE_EN 5) && (s.np 5).queues == [] && !s.flag (Reg.NET_STAT_LPI_TX 5)) = true)
    ∧ (State.reset.reaches 1 Reg.NET_VLOG_GO true = true ∧ State.reset.reaches 0 Reg.NET_VLOG_GO true = true
      ∧ ∀ e ∈ State.reset.net.table, e.1 < 64)
    ∧ (let x : Source := ⟨7, 5, [(255, 10, 3)], some 1000⟩
      (State.reset.setSource 63 (some x)).source 63 = some x ∧ x.wins.find? (fun w => w.1 == 255) = some (255, 10, 3)
        ∧ x.quar = some 1000)
    ∧ State.reset.source 63 = none
    ∧ (State.reset.reaches 0 Reg.NET_QCLR true = true ∧ State.reset.reaches 1 Reg.NET_QCLR true = true) := by decide

/-- A stream context that runs and transmits on port 5 of a started stream engine. -/
def sends0 : State :=
  let s := (portUp 3 [(Reg.CTX_CFG_EN 510, 1), (Reg.CTX_CFG_DIR 510, 1), (⟨Reg.CTX_CFG 510, 22, 20⟩, 3)]).setNp 3 { NetPort.init with gates := true }
  { s.setCtx 510 { Ctx.init with on := true } with
    streams := { (s.setCtx 510 { Ctx.init with on := true }).streams with running := true }
    sys := { s.sys with roundNo := 1 } }

theorem witness_StreamContexts :
    (State.reset.reaches 2 (Reg.CTX_CFG 510) true = true ∧ State.reset.reaches 1 (Reg.CTX_CFG 510) true = true
      ∧ bitAt (State.reset.reg (Reg.CTX_CFG 510)) 31 = false ∧ State.reset.bindReason 510 0x80000000#32 ≠ 0)
    ∧ (let s := (rst [(Reg.CTX_CFG_EN 510, 1)])
      s.reaches 0 (Reg.CTX_CFG 510) true = true ∧ bitAt (s.reg (Reg.CTX_CFG 510)) 31 = true
        ∧ (bitsOf (0x04018014#32 : Word) 30 0 == bitsOf (s.reg (Reg.CTX_CFG 510)) 30 0) = true
        ∧ (bitsOf (0x80000001#32 : Word) 30 0 == bitsOf (s.reg (Reg.CTX_CFG 510)) 30 0) = false)
    ∧ ((sends0.ctx 510).on && sends0.ctxTx 510 && sends0.streams.running && sends0.hubUp && sends0.sys.roundNo != 0
        && (sends0.ctx 510).sent != some 0 && !sends0.ctxMuted 510 && !sends0.flag Reg.ALARM_CTL_BARE) = true
    ∧ (sends0.netUp 3 && (sends0.np 3).gates) = true ∧ ((sends0.np 3).queue 0).length < 32
    ∧ twoPorts (sends0.reg (Reg.CTX_CFG 510)) = false
    ∧ (let s := (State.reset.setCtx 510 { Ctx.init with on := true, recov := [4] })
      (s.ctx 510).on = true ∧ (s.ctx 510).recov ≠ []) := by decide

/-! ### Witnesses: pairing, time and references -/

/-- A pair link in a state, both lanes up, its partner heard in round 0. -/
def paired (st phase : Nat) (l : List (RegField × Nat)) : State :=
  let s := rst ((Reg.PAIR_STAT_STATE, st) :: (Reg.PAIR_STAT_PHASE, phase) :: (Reg.PAIR_CFG_EN, 1)
    :: (whole (Reg.NET_SEC_RXSC_CTL 6 0), 0x80000001) :: l)
  { s with
    pair := { s.pair with lanes := [{ Lane.init with up := true }, { Lane.init with up := true }], heard := some 0 }
    sys := { s.sys with roundNo := 1 } }

/-- That state with a rejoin in progress. -/
def joining (donor : Bool) (st phase : Nat) : State :=
  let s := paired st phase []
  { s with pair := { s.pair with rejoin := some ⟨donor, none, none, [], 0, 0, 0, !donor, false⟩ } }

/-- A pairing frame of TYPE 0 under the association of port 6: its header of 16 bytes and its body. -/
def pframe (lane : Fin 2) (lseq ack : Nat) (body : List Byte) : PairFrame :=
  ⟨lane, frame0 (.tag 0 0 5 true) 8 0x88B6
    ([1#8, 0#8] ++ beBytes body.length 2 ++ beBytes lseq 4 ++ beBytes ack 4 ++ beBytes 0 4 ++ body)⟩

/-- The body of a DIGEST of round 8 from a partner in a state, which runs no Skein. -/
def digest0 (st : Nat) : List Byte := beBytes 8 4 ++ zeros 8 ++ [BitVec.ofNat 8 st, 200#8] ++ zeros 154

set_option maxRecDepth 20000 in
theorem witness_PairLifecycle :
    ((paired 1 0 []).reaches 1 Reg.PAIR_CTL true = true ∧ (paired 1 0 []).reaches 2 Reg.PAIR_CTL true = true
      ∧ (paired 1 0 []).pairState ≠ 3)
    ∧ (∀ ps ∈ [1, 2], let s := (paired 3 0 [(Reg.PAIR_CFG_AUTO, 1), (Reg.PAIR_STAT_PSTATE, ps)])
      s.reaches 0 Reg.PAIR_CTL true = true ∧ s.pairState = 3
        ∧ (s.pair.pskein == s.skein.digest16 && s.pair.heard.isSome && !s.pair.lost
          && (s.rf Reg.PAIR_STAT_PSTATE == 1 || s.rf Reg.PAIR_STAT_PSTATE == 2)) = true
        ∧ (s.pairState == 3 && s.pair.listen.isNone && s.flag Reg.PAIR_CFG_AUTO
          && Nat.ble (s.rf Reg.PAIR_CFG_MIN_HEALTH) (s.rf Reg.PAIR_HEALTH_SCORE)
          && Nat.blt (s.pair.fails.filter fun x => Nat.blt s.now (x + 600 * sec1)).length 3) = true)
    ∧ (let s := (rst [(Reg.PAIR_STAT_STATE, 3), (Reg.PAIR_CFG_AUTO, 1)])
      s.reaches 0 Reg.PAIR_CTL true = true ∧ s.pair.heard = none
        ∧ s.flag Reg.PAIR_CFG_AUTO = true)
    ∧ State.reset.pair.rejoin = none
    ∧ ((joining true 1 1).pair.rejoin = some ⟨true, none, none, [], 0, 0, 0, false, false⟩ ∧ (joining true 1 1).rf Reg.PAIR_STAT_PHASE = 1)
    ∧ ((joining false 5 3).pair.rejoin = some ⟨false, none, none, [], 0, 0, 0, true, false⟩ ∧ (joining false 5 3).pairState = 5)
    ∧ (let s := (rst [(Reg.PAIR_STAT_STATE, 1)])
      (s.pairState != 0 && !s.pair.lost && !(s.pair.listen.isSome && s.pair.heard.isNone) && (!(s.lane 0).up && !(s.lane 1).up)) = true)
    ∧ (let s : State := ({ paired 2 0 [] with sys := { State.reset.sys with roundNo := 5 } })
      (match s.pair.heard with | some r => Nat.ble (r + 5) s.sys.roundNo | none => false) = true)
    ∧ (let s : State := ({ paired 3 0 [] with
                          sys := { State.reset.sys with roundNo := 9 }, pair := { State.reset.pair with listen := some 1 } })
      (s.pairState == 3 && s.pair.heard.isNone && s.pair.listen.any fun r => Nat.ble (r + 8) s.sys.roundNo) = true)
    ∧ (let s := (paired 2 0 [])
      (s.hubUp && s.pairState != 0 && s.sys.roundNo != 0 && !s.pair.own.any fun r => r.round == 0) = true
        ∧ (∀ r ∈ s.pair.peer, r.round % 2 ^ 32 ≠ 0 % 2 ^ 32))
    ∧ (∀ st ∈ [1, 2, 3], ∀ ps ∈ [1, 2, 3],
      let s := (paired st 0 [])
      let p := pframe 1 0 0 (digest0 ps)
      let d := PairDigest.ofBytes (pairBody p)
      s.pairTakes p = true ∧ (s.pair.peer.any fun r => r.round == d.drnd) = false ∧ d.state = ps ∧ d.skein = s.skein.digest16
        ∧ d.health = 200 ∧ s.flag Reg.PAIR_CFG_SIDE = false)
    ∧ (let s : State := ({ paired 3 0 [] with pair := { (paired 3 0 []).pair with listen := some 0, peer := [⟨8, [], 0, 0, 0⟩] } })
      let p := pframe 0 0 0 (digest0 2)
      s.pair.listen.isSome = true ∧ s.pairTakes p = true
        ∧ (s.pair.peer.any fun r => r.round == (PairDigest.ofBytes (pairBody p)).drnd) = true) := by
  decide

/-- Frames that a lane takes not: none is carried, and one that fails MACsec. -/
theorem witness_PairFirst :
    (State.reset.laneOn 1 = false ∧ (paired 2 0 []).laneOn 1 = true)
    ∧ (let p : PairFrame := ⟨1, frame0 (.tag 0 1 5 true) 8 0x88B6 []⟩
      (paired 2 0 []).pairTakes p = false ∧ p.frame.good = true ∧ p.frame.len = 64 ∧ p.frame.len ≤ (paired 2 0 []).maxLen 6
        ∧ ((paired 2 0 []).secCheck 6 p.frame).1 = 1 ∧ ∀ e ∈ (paired 2 0 []).net.table, e.1 < 64)
    ∧ (paired 2 0 []).pairTakes { pframe 1 1 0 [] with frame := { (pframe 1 1 0 []).frame with good := false } } = false := by
  decide

/-- A memory record of one word. -/
def mrec (a : Nat) : PairFrame := pframe 1 1 0 (beBytes a 5 ++ beBytes 1 2 ++ [0#8] ++ leBytes 7 4)

/-- A joiner with its clusters on. -/
def joiner (l : List (RegField × Nat)) : State := put (joining false 4 1) ((⟨Reg.PWR_STAT, 15, 0⟩, 0xFFFF) :: l)

/-- A parameter record of cluster 3. -/
def job0 : ParamJob := ⟨⟨3, 255, 0, 0, []⟩, 5⟩

set_option maxRecDepth 20000 in
theorem witness_PairFrames :
    State.reset.pair.lanes.length = 2 ∧ State.reset.laneOn 1 = false
    ∧ (let s := joiner []
      s.pair.lanes.length = 2 ∧ s.laneOn 1 = true
        ∧ ((s.pairState == 4 || s.pairState == 5) && s.pair.rejoin.any fun r => !r.donor) = true
        ∧ s.pairTakes (pframe 1 1 0 []) = true ∧ s.pairTakes (pframe 1 2 0 []) = true
        ∧ decide ((pairHdr (pframe 1 1 0 [])).lseq = ((s.lane 1).got + 1) % 2 ^ 32) = true
        ∧ decide ((pairHdr (pframe 1 2 0 [])).lseq = ((s.lane 1).got + 1) % 2 ^ 32) = false
        ∧ (s.active 63 || s.pair.joins.any fun j => j.trig == 63) = false
        ∧ memRecords 190 (pairBody (pframe 1 1 0 [])) = []
        ∧ (∀ a ∈ [0x0601FFFFFC, 0x0700000000 + 127 * 0x80000 + 0x4FFFC, 0x0700000000 + 127 * 0x80000 + 0x501FC],
          s.pairTakes (mrec a) = true ∧ (pairHdr (mrec a)).lseq = 1 ∧ memRecords 190 (pairBody (mrec a)) = [(a, [7#32])]
            ∧ (s.bit Reg.PWR_STAT (stallDomain a) && !s.stopped (stallDomain a)) = true)
        ∧ (s.stake 127).run = .held ∧ s.sys.pass ≠ (0 : Fin 16).val + 1)
    ∧ ((joining false 4 1).bit Reg.PWR_STAT (stallDomain 0x0700000000) && !(joining false 4 1).stopped (stallDomain 0x0700000000)) = false
    ∧ (joining false 4 1).portFull 34 = false ∧ (joining false 4 1).pairTakes (mrec 0x0700000000) = true
    ∧ (let s := joiner []
      ({ s with sys := { s.sys with pass := 16 } } : State).sys.pass = (15 : Fin 16).val + 1)
    ∧ ((runsAt 127 0).stake 127).run ≠ .held
    ∧ (let s : State := ({ paired 2 0 [] with alarm := { State.reset.alarm with cmds := [] } })
      (put s [(whole Reg.ALARM_TRIG_ACT1, 0x80000000)]).active 63 = true)
    ∧ (let s : State := ({ paired 2 0 [] with skein := { State.reset.skein with areas := [(3, 0x0600600000)] } })
      s.skein.areas.find? (fun e => e.1 == job0.param.cluster) = some (3, 0x0600600000)
        ∧ (s.word (0x0600600000 + 32 * (255 % 256) + 4) == BitVec.ofNat 32 job0.apply || s.supv.params.contains job0) = false
        ∧ s.sys.roundNo + 4 ≤ job0.apply ∧ (s.bit Reg.PWR_STAT 3 && s.clState 3 != clLoading && !s.paramStands 0x0600601FE0) = false
        ∧ (let t := put s [(⟨Reg.PWR_STAT, 15, 0⟩, 0xFFFF), (Reg.CL_STAT_STATE 3, 3)]
          (t.bit Reg.PWR_STAT 3 && t.clState 3 != clLoading && !t.paramStands 0x0600601FE0) = true))
    ∧ (let s := (paired 2 0 [])
      (s.pairState == 1 || s.pairState == 2 || s.pairState == 5) = true ∧ s.pair.peerStamps = none
        ∧ s.pair.pskein = s.skein.digest16)
    ∧ (State.reset.pairState == 1 || State.reset.pairState == 2 || State.reset.pairState == 5) = false := by decide

theorem witness_ScheduledActions :
    (State.reset.reaches 1 (Reg.TIME_SA_GO 0) true = true ∧ State.reset.reaches 0 (Reg.TIME_SA_GO 1) true = true
      ∧ hosts.reaches 4 (Reg.TIME_SA_GO 1) true = true)
    ∧ (let s := (paired 2 0 [(whole (Reg.NET_SEC_SA_KEY 6 0 0), 1)])
      s.reaches 1 (Reg.TIME_SA_GO 0) true = true ∧ s.sharing = true ∧ (s.lane 0).up = true ∧ s.txLive 6 = true
        ∧ s.hoop.queue.length < 1024)
    ∧ (State.reset.reaches 2 (Reg.TIME_SA_CANCEL 0) true = true ∧ hosts.reaches 3 (Reg.TIME_SA_CANCEL 1) true = true)
    ∧ State.reset.link.zones = [] := by decide

theorem witness_ScheduledActions_full :
    1024 ≤ ({ State.reset.hoop with queue := List.replicate 1024 (⟨[], false, 0⟩ : Action) } : Hoop).queue.length := by
  show 1024 ≤ (List.replicate 1024 (⟨[], false, 0⟩ : Action)).length
  rw [List.length_replicate]

/-- PTP runs on port 5 in a profile under a master. -/
def ptp (profile : Nat) (master : Option Nat) : State :=
  let s := portUp 5 [(Reg.TIME_CTL_PTP_EN, 1), (Reg.TIME_CFG_PROFILE, profile)]
  { s with hoop := { s.hoop with master := master, lastSync := some (5, 9), locked := true } }

/-- A header of the master, in the domain of TIME_CFG after reset. -/
def ptpHdr (p : Nat) (ok : Bool) : PtpHdr :=
  ⟨5, 77#80, if p = 2 then 0#8 else BitVec.ofNat 8 ((ptp 0 none).rf Reg.TIME_CFG_DOMAIN), 3#16, 8#48, ok⟩

theorem witness_PtpMessages :
    (∀ p ∈ [0, 1, 2], let s := (ptp p (some 77))
      (s.hubUp && s.flag Reg.TIME_CTL_PTP_EN && s.netUp (ptpHdr p true).port.val
        && (ptpHdr p true).domain.toNat == (if p = 2 then 0 else s.rf Reg.TIME_CFG_DOMAIN) && !s.flag Reg.ALARM_CTL_BARE) = true
      ∧ (∀ e ∈ s.net.table, e.1 < 64) ∧ (s.hoop.master == some (ptpHdr p true).src.toNat) = true
      ∧ s.rf Reg.TIME_CFG_PROFILE = p ∧ s.hoop.lastSync = some (5, 9) ∧ s.hoop.discards.length < 7)
    ∧ (ptpHdr 0 true).ok = true ∧ (ptpHdr 0 false).ok = false ∧ (ptp 0 none).hoop.master = none
    ∧ State.reset.flag Reg.TIME_CTL_PTP_EN = false
    ∧ (-7 ≤ (0xF9#8 : BitVec 8).toInt ∧ (5#8 : BitVec 8).toInt ≤ 5) := by decide

/-- A master heard twice. -/
def master0 : Master := ⟨77, 8, 5, 0, 0, 0, 0, 0, 0, 0, 2, 0⟩

/-- A transition that starts at round 4, mutes for 2 rounds and moves time back by an offset. -/
def stepping (round : Nat) (alarm : Bool) : State :=
  let s := rst [(whole Reg.ALARM_TRIG_ACT1, if alarm then 0x80000000 else 0)]
  { s with
    hoop := { s.hoop with trans := some ⟨4, 2, 1, 65536, none⟩ }
    sys := { s.sys with roundNo := round } }

theorem witness_TimeStepsAndStamps :
    State.reset.curMaster = none
    ∧ (let s : State := ({ State.reset with hoop := { State.reset.hoop with master := some 77, masters := [master0] } })
      s.curMaster = some master0)
    ∧ (let s : State := ({ rst [(Reg.TIME_CFG_STEP_OK, 1)] with
                          hoop := { State.reset.hoop with master := some 77, masters := [master0], suspect := some (5, 100, 0) } })
      (s.hoop.suspect.isSome && s.flag Reg.TIME_CFG_STEP_OK && s.hoop.trans.isNone
        && s.curMaster.any fun m => !s.hoop.masters.any fun x => x.src != m.src && s.masterOk x) = true)
    ∧ State.reset.hoop.trans = none
    ∧ (∀ r ∈ [3, 4, 5, 6], (stepping r false).hoop.trans = some ⟨4, 2, 1, 65536, none⟩ ∧ (stepping r false).alarmActive = false)
    ∧ Nat.blt (stepping 3 false).sys.roundNo 4 = true ∧ Nat.blt (stepping 4 false).sys.roundNo 4 = false
    ∧ (stepping 5 false).sys.roundNo < 4 + 2 ∧ 4 + 2 ≤ (stepping 6 false).sys.roundNo
    ∧ ((stepping 4 true).hoop.trans = some ⟨4, 2, 1, 65536, none⟩ ∧ (stepping 4 true).alarmActive = true)
    ∧ (State.reset.reaches 2 Reg.TIME_SNAP true = true ∧ State.reset.reaches 1 Reg.TIME_SNAP true = true)
    ∧ (State.reset.reaches 2 (Reg.TIME_TSQ_POP 5) false = true ∧ State.reset.hoop.tsq.filter (fun r => r.port == 5) = [])
    ∧ (let s : State := ({ State.reset with hoop := { State.reset.hoop with tsq := [⟨4, 1, 2⟩, ⟨5, 3, 4⟩, ⟨5, 5, 6⟩] } })
      s.reaches 0 (Reg.TIME_TSQ_POP 5) false = true
        ∧ s.hoop.tsq.filter (fun r => r.port == 5) = ⟨5, 3, 4⟩ :: [⟨5, 5, 6⟩]) := by decide

/-- The oscillator present. -/
def clocked (l : List (RegField × Nat)) : State := rst ((Reg.REFSEL_STAT_XO_OK, 1) :: l)

theorem witness_ReferenceSelection :
    State.reset.refRuns = false
    ∧ ((clocked []).refRuns && !(Nat.ble 4 3 && !(clocked []).flag (Reg.AES_IN_CFG_EN (3 - 4)))) = true
    ∧ ((clocked []).refRuns && !(Nat.ble 4 7 && !(clocked []).flag (Reg.AES_IN_CFG_EN (7 - 4)))) = false
    ∧ ((clocked [(Reg.AES_IN_CFG_EN 3, 1)]).refRuns && !(Nat.ble 4 7 && !(clocked [(Reg.AES_IN_CFG_EN 3, 1)]).flag (Reg.AES_IN_CFG_EN (7 - 4)))) = true
    ∧ State.reset.flag (Reg.REF_STAT_PRESENT 7) = false
    ∧ (let s := ((rst [(Reg.REF_STAT_PRESENT 7, 1)]).setRef 7 { RefIn.empty with freqAt := some 0, again := true })
      (s.flag (Reg.REF_STAT_PRESENT 7) && !s.flag (Reg.REF_STAT_QUAL 7) && (s.ref 7).freqAt.isSome
        && decide ((sWord (s.reg (Reg.REF_FREQ 7))).natAbs ≤ s.rf Reg.REFSEL_CFG_QUAL_PPM * 1000000)
        && ((7 : Nat) != 0 || !s.flag Reg.TIME_STAT_SUSPECT)) = true)
    ∧ (State.reset.ref 7).off = none
    ∧ (let s := ((rst [(Reg.REF_STAT_QUAL 7, 1), (Reg.REF_STAT_DISTRUST 7, 1), (Reg.REF_STAT_IN_WTR 7, 1)]).setRef 7
        { RefIn.empty with off := some 3, agree := some 4 })
      (s.ref 7).off = some 3 ∧ s.flag (Reg.REF_STAT_QUAL 7) = true ∧ s.flag (Reg.REF_STAT_IN_WTR 7) = true
        ∧ (s.ref 7).agree = some 4 ∧ s.flag (Reg.REF_STAT_DISTRUST 7) = true)
    ∧ (let s := (clocked [(Reg.REFSEL_CTL_RUN, 1), (Reg.REFSEL_CTL_SEL_MODE, 3)])
      (s.refRuns && s.flag Reg.REFSEL_CTL_RUN) = true ∧ s.nco.natAbs ≤ 400000000 ∧ 2 ≤ s.rf Reg.REFSEL_CTL_SEL_MODE)
    ∧ (let s := (clocked [(Reg.REFSEL_CTL_RUN, 1), (Reg.REFSEL_CTL_SEL_MODE, 0)])
      s.rf Reg.REFSEL_CTL_SEL_MODE = 0 ∧ ∀ r, r < 8 → s.flag (Reg.REF_STAT_QUAL r) = false)
    ∧ State.reset.switchMet = false
    ∧ ((rst [(Reg.REFSEL_STAT_STATE, rsSwitching), (Reg.REFSEL_STAT_SEL, 0)]).setRef 0 { RefIn.empty with phase := some 0 }).switchMet = true
    ∧ (State.reset.reaches 1 (Reg.OUT_CFG 3) true = true ∧ (Nat.blt 1 1 || (!false && Nat.blt 4 (bitsOf (0x40000000#32 : Word) 30 28))) = false
      ∧ (Nat.blt 1 1 || (!false && Nat.blt 4 (bitsOf (0x50000000#32 : Word) 30 28))) = true)
    ∧ State.reset.reaches 1 (Reg.OUT_OFS 3) true = true := by decide

/-! ### Witnesses: Lysle link -/

/-- A key of P-384, and the hash of its public key. -/
def key1 : Nat × Nat := (0x8D999057BA3D2D969260045C55B97F089025959A6F434D651D207D19FB96E9E4FE0E86EBE0E64F85B96A9C75295DF61,
  0x8E80F1FA5B1B3CEDB7BFE8DFFD6DBA74B275D875BC6CC43E904E505F256AB4255FFD43E94D39E22D61501E700A940E80)
def idh1 : Nat := 0x728F0B1F7C8F999347DCA33C1964CF745779012692830EDC267075562DC31278439732D095AD7C6363EB54EB284BC8E4

theorem test_key_hash : keyHash key1 = idh1 := by decide +kernel

/-- A node of a system of nodes 0, 1 and 5 with its link on port 3. -/
def linked (role node : Nat) (k : Link) : State :=
  let s := portUp 3 []
  let y : SkSystem :=
    { SkSystem.init with
      node := node, role := role, nodes := [⟨0, 1, 10, []⟩, ⟨1, 2, 11, []⟩, ⟨5, idh1, 12, []⟩], mgrKeys := [(0, key1)],
      accepted := [0], skds := [7], lcs := [1], eps := [⟨131071, 1, 5, 0, [9]⟩], zones := [(9, ⟨[4], []⟩)], hostZones := [9],
      boxes := [27], ports := [3] }
  { s with power := { s.power with role := role }, skein := { s.skein with system := y }, link := k }

/-- The active manager, which has admitted node 5; and a worker, node 5, that manager 0 has admitted. -/
def manager : State :=
  linked 1 0 { Link.init with
    active := true, mgr := some 0, adms := [⟨5, 12, 1, 0, 3660, 1⟩], heard := [(5, 3, 0)], nextAdm := 2 }
def worker : State := linked 0 5 { Link.init with own := some ⟨1, 3660, 0⟩, mgr := some 0, nonces := [8], heard := [(0, 3, 0)] }

/-- A standby manager that still listens, or that the active one has admitted. -/
def standby (k : Link) : State := linked 2 1 k

/-- A message within the site: its header and its body. -/
def lmsg (ty src dst : Nat) (body : List Byte) : LinkFrame :=
  ⟨3, BitVec.ofNat 48 (if src = 5 then 12 else 10 + src), false, linkHead ty body.length 0 src dst 9 1 0 ++ body⟩

/-- Whether such a message is processed by a node. -/
def newAt (s : State) (ty src dst : Nat) (body : List Byte) : Bool :=
  let f := lmsg ty src dst body
  (s.linkOpens ty f == some f.bytes) && s.linkNew ty f f.bytes && linkBodyOf f.bytes == body
    && (linkHdrOf f f.bytes).src == src && (linkHdrOf f f.bytes).ack

/-- A frame that a node looks at, by source and destination. -/
def ack0 (src dst : Nat) : LinkFrame := lmsg 0x3E src dst (beBytes 9 4)

/-- Every header: not looked at, quarantined, not opened, not for the node, failing a check, and repeated. -/
theorem witness_HeaderFirst :
    State.reset.linkSees 0x3E (ack0 5 0) = false
    ∧ (let s := manager.setSource 63 (some ⟨12, 3, [], some 1000⟩)
      s.linkSees 0x3E (ack0 5 0) = true ∧ s.quarantined 3 12 = true)
    ∧ (let f : LinkFrame := ⟨3, 12#48, true, 0x3E#8 :: zeros 40⟩
      manager.linkSees 0x3E f = true ∧ manager.quarantined 3 12 = false ∧ manager.linkOpens 0x3E f = none)
    ∧ (manager.linkOpens 0x3E (ack0 5 7) = some (ack0 5 7).bytes ∧ manager.linkMine (linkHdrOf (ack0 5 7) (ack0 5 7).bytes).dst = false)
    ∧ (let f := { ack0 5 0 with mac := 13#48 }
      let h := linkHdrOf f f.bytes
      manager.linkOpens 0x3E f = some f.bytes ∧ manager.linkMine h.dst = true ∧ manager.linkDetail 0x3E f h f.bytes = some 5)
    ∧ (let s : State := ({ manager with link := { manager.link with seen := [(5, [9])] } })
      let f := ack0 5 0
      let h := linkHdrOf f f.bytes
      s.linkOpens 0x3E f = some f.bytes ∧ s.linkMine h.dst = true ∧ s.linkDetail 0x3E f h f.bytes = none
        ∧ s.linkNew 0x3E f f.bytes = false)
    ∧ ∀ e ∈ manager.net.table, e.1 < 64 := by decide

/-- The body of a HELLO of node 5, of a role and with a key's hash. -/
def hello0 (role idh : Nat) : List Byte := linkBody 0x01 [role, 0, 0, 8, 0, 1, idh, 7, 0xFFFF]

/-- The active manager with admissions in progress and HELLOs just heard. -/
def trying (l : List Trying) (hs : List (Nat × Nat)) : State :=
  linked 1 0 { Link.init with active := true, tries := l, hellos := hs }

/-- Evidence of node 5, with the lifecycle state of its key and its signature over the nonce 8. -/
def evid (lc : Byte) : List Byte :=
  [1#8, lc] ++ zeros 318 ++ keyBytes key1
    ++ beBytes 0x77A41D4606FFA1464793C7E5FDC7D98CB9D3910202DCD06BEA4F240D3566DA6B408BBAE5026580D02D7E5C70500C831 48
    ++ beBytes 0xAAD10DE9E87918DCCC40D7DD5B0E10763FE781C3C0C86433C5B8E11C2E7F3BA30B0E29A5EFF4017046C675660B2D9CD1 48

/-- An ADMIT of manager 0, with its signature over the nonce 8. -/
def admit0 : List Byte :=
  linkBody 0x04 [1, 1, 3660, 0,
    0x77A41D4606FFA1464793C7E5FDC7D98CB9D3910202DCD06BEA4F240D3566DA6B408BBAE5026580D02D7E5C70500C831,
    0xDDF62CF483E1D080E21EB08630C999E56BD7684154BF4BFD1D758C2013752FC7CEA2C69213FBAD46F7B69F30A0D72BEF]

set_option maxRecDepth 20000 in
theorem witness_LinkAdmission_admit :
    newAt worker 0x04 0 5 admit0 = true ∧ Nat.ble worker.link.term (AdmitBody.ofBytes admit0).term = true
    ∧ (AdmitBody.ofBytes admit0).res = 0 ∧ worker.link.nonces.isEmpty = false
    ∧ worker.admitSigOk 0 (AdmitBody.ofBytes admit0) = true ∧ worker.admitSigOk 1 (AdmitBody.ofBytes admit0) = false := by
  decide +kernel

set_option maxRecDepth 20000 in
theorem witness_LinkAdmission_evidence :
    let s := trying [⟨5, 12, 8, 0, 1⟩] []
    newAt s 0x03 5 0 (beBytes 8 32 ++ evid 1#8) = true ∧ newAt s 0x03 5 0 (beBytes 8 32 ++ evid 2#8) = true
    ∧ s.link.waiting = [] ∧ (s.link.tries.find? fun t => t.node == 5) = some ⟨5, 12, 8, 0, 1⟩
    ∧ (!s.evidenceOk 5 8 (evid 1#8) || !s.measuresOk (evid 1#8)) = false
    ∧ (!s.evidenceOk 5 8 (evid 2#8) || !s.measuresOk (evid 2#8)) = true
    ∧ (Nat.blt (0 + 500 * ms1) s.now || (8 : Nat) != 8) = false
    ∧ s.skein.system.lcs.contains (byteAt (evid 1#8) 1) = true ∧ s.dirFits = true := by
  decide +kernel

set_option maxRecDepth 20000 in
set_option exponentiation.threshold 400 in
theorem witness_LinkAdmission :
    (worker.admits 0 = false ∧ newAt worker 0x01 0 5 (hello0 1 1) = true ∧ (Hello.ofBytes (hello0 1 1)).ok = true
      ∧ (Hello.ofBytes (hello0 2 1)).ok = false ∧ newAt worker 0x01 0 5 (hello0 2 1) = true)
    ∧ (let s := trying [] (List.replicate 10 (5, 0))
      newAt s 0x01 5 0 (hello0 0 idh1) = true ∧ s.admits 5 = true
        ∧ Nat.blt 10 ((s.link.hellos.filter fun (e : Nat × Nat) => Nat.blt 0 (e.2 + sec1)) ++ [(5, 0)]).length = true)
    ∧ (let s := trying [⟨5, 12, 8, 0, 1⟩] []
      newAt s 0x01 5 0 (hello0 0 idh1) = true ∧ s.admits 5 = true
        ∧ (s.link.tries.any fun t => t.node == 5 && Nat.blt s.now (t.since + 500 * ms1)) = true)
    ∧ (let s := trying (List.replicate 8 ⟨6, 0, 0, 0, 0⟩) []
      newAt s 0x01 5 0 (hello0 0 idh1) = true ∧ s.admits 5 = true ∧ 8 ≤ s.inProgress ∧ s.dirFits = true
        ∧ ((mget (fun _ => 0) s.link.refused 5 != 0 && Nat.blt s.now (mget (fun _ => 0) s.link.refused 5 + 10 * sec1))
          || (s.admOf 5).isSome || s.link.tries.any fun t => t.node == 5 && Nat.blt s.now (t.since + 500 * ms1)) = false)
    ∧ (let s := trying [] []
      newAt s 0x01 5 0 (hello0 0 idh1) = true ∧ newAt s 0x01 5 0 (hello0 0 4) = true ∧ s.inProgress < 8
        ∧ s.helloReason (linkHdrOf (lmsg 0x01 5 0 (hello0 0 idh1)) (lmsg 0x01 5 0 (hello0 0 idh1)).bytes) (Hello.ofBytes (hello0 0 idh1)) = 0
        ∧ s.helloReason (linkHdrOf (lmsg 0x01 5 0 (hello0 0 4)) (lmsg 0x01 5 0 (hello0 0 4)).bytes) (Hello.ofBytes (hello0 0 4)) = 1
        ∧ s.dirFits = true)
    ∧ (newAt manager 0x01 5 0 (hello0 0 idh1) = true ∧ ((manager.admOf 5).any fun a => a.mac == 12) = true)
    ∧ (newAt manager 0x03 5 0 (zeros 544) = true ∧ (∀ t ∈ manager.link.tries, t.node ≠ 5))
    ∧ (let s := linked 1 0 { Link.init with active := true, tries := [⟨5, 12, 8, 0, 1⟩], waiting := [lmsg 0x01 1 0 (hello0 1 2)] }
      newAt s 0x03 5 0 (zeros 544) = true ∧ s.link.waiting = lmsg 0x01 1 0 (hello0 1 2) :: [] ∧ s.dirFits = true
        ∧ (s.link.tries.find? fun t => t.node == 5) = some ⟨5, 12, 8, 0, 1⟩)
    ∧ (newAt worker 0x02 0 5 (beBytes 6 32) = true ∧ newAt worker 0x02 1 5 (beBytes 6 32) = true
      ∧ (match worker.link.mgr with | some m => (0 : Nat) == m | none => Nat.ble 0 1) = true
      ∧ (match worker.link.mgr with | some m => (1 : Nat) == m | none => Nat.ble 1 1) = false)
    ∧ (newAt worker 0x04 1 5 (linkBody 0x04 [0, 1, 1, 0, 0, 0]) = true ∧ newAt worker 0x04 0 5 (linkBody 0x04 [0, 1, 1, 1, 0, 0]) = true)
    ∧ (let s := linked 0 5 { Link.init with term := 2 }
      newAt s 0x04 0 5 (linkBody 0x04 [1, 1, 1, 0, 0, 0]) = true ∧ Nat.ble s.link.term 1 = false
        ∧ newAt s 0x04 0 5 (linkBody 0x04 [2, 1, 1, 0, 0, 0]) = true ∧ Nat.ble s.link.term 2 = true ∧ s.link.nonces.isEmpty = true)
    ∧ (∀ r ∈ [0, 1, 8, 9], newAt worker 0x05 0 5 (beBytes r 1) = true ∧ newAt worker 0x05 1 5 (beBytes r 1) = true)
    ∧ (newAt worker 0x07 0 5 (beBytes 1 1) = true ∧ worker.link.active = false ∧ manager.link.active = true
      ∧ manager.dirFits = true ∧ ∀ r ∈ [0, 1, 2, 3], newAt manager 0x07 5 0 (beBytes r 1) = true)
    ∧ (manager.admOf 5 = some ⟨5, 12, 1, 0, 3660, 1⟩ ∧ (manager.link.heard.find? fun e => e.1 == 5) = some (5, 3, 0)
      ∧ manager.admOf 256 = none ∧ manager.linkOn = true)
    ∧ (worker.link.own = some ⟨1, 3660, 0⟩ ∧ worker.linkOn = true ∧ State.reset.link.own = none ∧ State.reset.linkOn = false) := by
  decide

/-- The body of a report of one endpoint, in a state. -/
def report0 (index state : Nat) : List Byte := linkBody 0x06 [1, index, 2, state, 0, 0, 0]

/-- The directory with that endpoint at a node. -/
def listed (n : Nat) : State := manager.setWord (dirAt 131071) (BitVec.ofNat 32 (2 ^ 31 + n * 65536))

/-- A message that waits for its acknowledgement. -/
def out0 (tries : Nat) : OutMsg := ⟨0x21, 5, 4, [1, 0], 0, tries⟩

/-- The manager with that message out. -/
def resends (tries : Nat) : State := { manager with link := { manager.link with out := [out0 tries] } }

set_option maxRecDepth 20000 in
theorem witness_LinkReports :
    (∀ ty ∈ [0x06, 0x12], newAt manager ty 5 0 (report0 131071 2) = true ∧ newAt worker ty 0 5 (report0 131071 2) = true
      ∧ newAt manager ty 1 0 (report0 131071 2) = true ∧ newAt manager ty 5 0 (report0 131072 2) = true)
    ∧ manager.link.active = true ∧ (manager.admOf 5).isSome = true ∧ (manager.admOf 1).isSome = false ∧ worker.link.active = false
    ∧ (epRecs (report0 131071 2)).map (fun r => (r.index, r.kind, r.state, r.cond, r.res)) = [(131071, 2, 2, 0, 0)]
    ∧ ((epRecs (report0 131071 2)).map fun r => r.index).Nodup
    ∧ Nat.blt 131072 (2 ^ 17) = false
    ∧ ((listed 5).dirValid 131071 = true ∧ (listed 5).dirNode 131071 = 5 ∧ (listed 6).dirNode 131071 = 6
      ∧ (listed 6).dirValid 131071 = true ∧ manager.dirValid 131071 = false)
    ∧ (newAt manager 0x13 5 0 (zeros 6) = true ∧ newAt manager 0x13 1 0 (zeros 6) = true ∧ newAt worker 0x13 0 5 (zeros 6) = true)
    ∧ (let s := linked 0 5 Link.init
      newAt s 0x23 0 5 [] = true ∧ s.link.own = none ∧ s.link.active = false)
    ∧ (newAt worker 0x23 1 5 [] = true ∧ newAt worker 0x23 0 5 [] = true ∧ worker.link.own ≠ none)
    ∧ (newAt (resends 0) 0x3E 5 0 (beBytes 4 4) = true
      ∧ (∀ r ∈ [0, 1, 4, 7, 8], newAt (resends 0) 0x3F 5 0 (linkBody 0x3F [4, r, 0]) = true)
      ∧ (let b := linkBody 0x3F [4, 4, 0]
        (byteAt b 4 == 4 && ((resends 0).link.out.any fun m => m.seq == beAt b 0 4 && m.ty == 0x21)
        && (resends 0).link.active && byteAt b 5 == 0) = true))
    ∧ (!linkTypes.contains (linkTy (lmsg 0xFF 5 0 []))) = true ∧ newAt manager 0xFF 5 0 [] = true
    ∧ (!linkTypes.contains (linkTy (lmsg 0x3F 5 0 []))) = false
    ∧ (worker.link.active = false ∧ worker.linkOn = true)
    ∧ (State.reset.link.out = [] ∧ (resends 3).link.out = out0 3 :: [] ∧ 3 ≤ (out0 3).tries)
    ∧ ((resends 2).link.out = out0 2 :: [] ∧ (out0 2).tries < 3 ∧ (resends 2).linkPorts (out0 2).dst = [3]
      ∧ (resends 2).netUp 3 = true ∧ (((resends 2).np 3).queue 5).length < 32
      ∧ ((resends 2).linkFrame (out0 2) 3).2.isSome = true) := by decide

/-- A command of an operation for a zone, and a message with it. -/
def zcmd (zone op : Nat) : ZoneCmd := ⟨30#48, BitVec.ofNat 16 zone, BitVec.ofNat 8 op, 0#8, 6#16, 0#32, 0#32⟩
def zbody (zone op : Nat) : List Byte := linkBody 0x10 [1, 30, zone, op, 0, 6, 0]

/-- A manager that follows a zone command. -/
def follows (round : Nat) : State :=
  { manager with
    link := { manager.link with zout := [⟨zcmd 9 3, 0, [], []⟩] }
    sys := { manager.sys with roundNo := round } }

/-- The standby manager, admitted by the active one. -/
def standby0 : State := standby { Link.init with adms := [⟨0, 10, 1, 0, 3660, 1⟩] }

set_option maxRecDepth 20000 in
theorem witness_ZoneCommandsAndManagers :
    (newAt worker 0x10 0 5 (zbody 9 3) = true ∧ newAt worker 0x10 0 5 (zbody 8 3) = true ∧ newAt worker 0x10 0 5 (zbody 9 5) = true
      ∧ newAt worker 0x10 1 5 (zbody 9 3) = true ∧ (worker.link.own.isSome || worker.link.active) = true
      ∧ zoneCmdsOf (zbody 9 3) = [zcmd 9 3] ∧ zoneHeadOk (zbody 9 3) = true ∧ zoneOk (zcmd 9 3) = true
      ∧ worker.termOk (zcmd 9 3).term.toNat = true ∧ zoneCmdsOf (zbody 9 5) = [zcmd 9 5] ∧ zoneOk (zcmd 9 5) = false
      ∧ (worker.skein.system.zones.find? fun e => e.1 == (zcmd 9 3).zone.toNat) = some (9, ⟨[4], []⟩)
      ∧ (∀ c ∈ zoneCmdsOf (zbody 8 3), ∀ e ∈ worker.skein.system.zones, e.1 ≠ c.zone.toNat)
      ∧ worker.link.zones = [] ∧ worker.hoop.queue.length + 1 ≤ 1024 ∧ worker.sharing = false)
    ∧ (let s := linked 0 5 Link.init
      newAt s 0x10 0 5 (zbody 9 3) = true ∧ (s.link.own.isSome || s.link.active) = false)
    ∧ (let s := linked 0 5 { Link.init with own := some ⟨1, 3660, 0⟩, term := 1 }
      newAt s 0x10 0 5 (zbody 9 3) = true ∧ s.termOk (zcmd 9 3).term.toNat = false)
    ∧ (let s : State := ({ worker with link := { worker.link with zones := [⟨6, 30, 1, 0, 0, 0, 0⟩] } })
      newAt s 0x10 0 5 (zbody 9 3) = true
        ∧ (s.link.zones.any fun z => z.tag == (zcmd 9 3).tag.toNat && z.due == (zcmd 9 3).due.toNat) = true)
    ∧ (∀ stage ∈ [1, 2, 3], let b := linkBody 0x11 [6, stage, 30, 0, 0, 0, 0]
      newAt manager 0x11 5 0 b = true ∧ newAt manager 0x11 1 0 b = true ∧ newAt worker 0x11 0 5 b = true
        ∧ (ZoneAck.ofBytes b).stage = stage ∧ (ZoneAck.ofBytes b).res = 0) := by decide

set_option maxRecDepth 20000 in
theorem witness_ZoneCommandsAndManagers_managers :
    (∀ role ∈ [1, 2, 3], let b := linkBody 0x20 [0, 0, role, 32]
      newAt worker 0x20 1 5 b = true ∧ newAt manager 0x20 5 0 b = true ∧ newAt manager 0x20 1 0 b = true
        ∧ (Beat.ofBytes b).role = role ∧ (Beat.ofBytes b).res = 0 ∧ (Beat.ofBytes b).map.testBit 5 = true
        ∧ worker.link.active = false ∧ worker.link.term ≤ (Beat.ofBytes b).term
        ∧ (Nat.blt manager.link.term (Beat.ofBytes b).term || (manager.link.term == (Beat.ofBytes b).term && manager.nodeNo == 1)) = false)
    ∧ (let b := linkBody 0x20 [1, 0, 1, 32]
      newAt manager 0x20 1 0 b = true ∧ (Nat.blt manager.link.term (Beat.ofBytes b).term) = true)
    ∧ (let s := linked 0 5 { Link.init with term := 2 }
      let b := linkBody 0x20 [1, 0, 1, 32]
      newAt s 0x20 0 5 b = true ∧ (Beat.ofBytes b).term < s.link.term)
    ∧ (let b := linkBody 0x21 ([0, 1, 131071] ++ List.replicate 8 0)
      newAt standby0 0x21 0 1 b = true ∧ (!standby0.link.active && standby0.isMgr) = true ∧ (standby0.admOf 0).isSome = true
        ∧ syncItems b = [.entry 131071 (List.replicate 8 0#32)] ∧ syncOk (.entry 131071 (List.replicate 8 0#32)) = true
        ∧ (beAt b 0 4 == standby0.link.gen) = true ∧ newAt manager 0x21 5 0 b = true
        ∧ newAt (standby Link.init) 0x21 0 1 b = true ∧ ((standby Link.init).admOf 0).isSome = false)
    ∧ (let b := linkBody 0x21 [0, 2, 1, 30, 9, 3, 0, 6, 0]
      newAt standby0 0x21 0 1 b = true ∧ syncItems b = [.zone (zcmd 9 3)]
        ∧ (standby0.link.zout.any fun y => y.cmd.tag == (zcmd 9 3).tag && y.cmd.due == (zcmd 9 3).due) = false)
    ∧ (let b := beBytes 3 4 ++ zeros 36
      newAt standby0 0x21 0 1 b = true ∧ syncItems b = [.reserved] ∧ syncOk .reserved = false
        ∧ (beAt b 0 4 == standby0.link.gen || beAt b 0 4 == (standby0.link.gen + 1) % 2 ^ 32 || standby0.link.wantFull) = false)
    ∧ (newAt standby0 0x21 0 1 (beBytes 3 4) = true ∧ syncItems (beBytes 3 4) = []) := by decide

set_option maxRecDepth 20000 in
theorem witness_ZoneCommandsAndManagers_timers :
    ((standby0.linkOn && standby0.isMgr && !standby0.link.listening) = true
      ∧ (standby0.linkOn && standby0.isMgr && !standby0.link.listening && !standby0.link.active
        && (standby0.admOf (1 - standby0.nodeNo)).isSome) = true)
    ∧ (let s := (standby { Link.init with listening := true })
      (s.linkOn && s.isMgr && s.link.listening) = true)
    ∧ ((manager.linkOn && manager.link.active) = true ∧ (zcmd 9 3).zone.toNat ∈ manager.skein.system.hostZones
      ∧ (zcmd 8 3).zone.toNat ∉ manager.skein.system.hostZones ∧ zoneOk (zcmd 8 3) = true)
    ∧ ((worker.linkOn && worker.link.active) = false)
    ∧ (((follows 4).link.zout.find? fun z => z.cmd.tag == 6#16) = some ⟨zcmd 9 3, 0, [], []⟩
      ∧ ((follows 4).link.active && Nat.ble (0 + (follows 4).skein.system.resend) (follows 4).sys.roundNo) = true
      ∧ ((follows 4).skein.system.served 9).filter (fun n => n != (follows 4).nodeNo) = [5]
      ∧ (follows 4).sys.roundNo < (zcmd 9 3).due.toNat ∧ (zcmd 9 3).due.toNat < (follows 31).sys.roundNo) := by decide

/-! ### Witnesses: trust and start-up -/

/-- A component of 0 bytes, of every interface generation and ABI level up to 1. -/
def comp0 : Comp := ⟨1, 15, 1, 1, 1, 0, 0, 0x38B060A751AC96384CD9327EB1B1E36A21FDB71114BE07434C0CC7BF63F6E1DA274EDEBFE76F65FBD51AD2F14898B95B⟩

/-- A firmware bundle with a signature, and what the sections of a Skein of this device spell. -/
def bundle0 (sig : List Byte) : Bundle := ⟨1, 7, sig, List.replicate 4 comp0, [(9, [1, 1, 1, 1])]⟩
def skein0 : SkImage :=
  { nodes := [⟨deviceIdh, 5, 0, 0⟩], schedule := [], messages := [], chunkTable := [], scenes := [], rate96 := false, n := 8,
    fits := true, regs := [], table := [], images := [], clusters := [0], tpl := [], tplLen := [], conf := Skein.init }

/-- The bytes of that Skein: its header, the manifest of six empty sections, and the signature of the owner; and its digest. -/
def skHdr : List Byte := beBytes 0x534B4E3101000600E002000040000000000000000000000001000100000000000000000000000000000000000000000000000000000000000000000000000000000000000000000000000000000000000000000000000000000000000000000000000000000000000000000000000000000000000000000000000000000000000000000000000000000000000000000000000000000000000000000000000000000000000000000000000000000000000000000000000000000000000000000000000000000000000000000000000000000000000000000000000000000000000000000000000000000000000000000000000000000000000000000000000000 256
def skMan : List Byte := [1, 2, 3, 6, 10, 14].flatMap fun t => leBytes t 4 ++ leBytes 640 4 ++ zeros 8 ++ beBytes comp0.digest 48
def skSig : List Byte := beBytes 0xAA87CA22BE8B05378EB1C71EF320AD746E1D3B628BA79B9859F741E082542A385502F25DBF55296C3A545E3872760AB7A7E64C9C36ACF4374BCA8AD85D75AA7D45D91E39B7F1CFCD550D63B4BC171538438A52018C0274012A160BBF96409642 96
def skDig : Nat := 0x52D6B856B996E9C82E66FC9A77344F94699EA774A0A2989C68822D75ABA5EEA6F19E7AF85608C8A3A25968B97E19AA47

/-- A capsule: header, payload and signature. -/
abbrev CapBytes := List Byte × List Byte × List Byte

/-- A part in a lifecycle state whose owner key is `key1`, withdrawn from its pair, with a Skein in slot A, firmware in slot A, an
alarm message, a start due, and perhaps an in-place activation that waits. -/
def owned (lc st boot : Nat) (wait : Bool) (sig : List Byte) : State :=
  let s := rst [(Reg.TRUST_LC_LC, lc), (slotField 0, st), (Reg.PAIR_STAT_STATE, 3)]
  { s with
    trust := { s.trust with
      owners := [(0, idh1)], fwA := some (bundle0 sig), skA := some skein0, mark := some (skDig, 0, 9),
      comps := List.replicate 4 comp0, inPlace := if wait then some (2, []) else none }
    skein := { s.skein with msgs := [(2, ⟨true, 2, 0, 9000, 0⟩)] }
    power := { s.power with boot := some boot } }

/-- It with a capsule in the inbox and the bytes of the Skein in its slot. -/
def part (lc st boot : Nat) (wait : Bool) (sig : List Byte) (c : CapBytes) : State :=
  ((owned lc st boot wait sig).setBytes 0x07000000 (c.1 ++ (c.2.1 ++ (c.2.2 ++ [])))).setBytes 0x0401000000
    (skHdr ++ (skMan ++ (skSig ++ [])))

/-- What it holds beside memory. -/
theorem part_fields (lc st boot : Nat) (wait : Bool) (sig : List Byte) (c : CapBytes) :
    (part lc st boot wait sig c).regs = (rst [(Reg.TRUST_LC_LC, lc), (slotField 0, st), (Reg.PAIR_STAT_STATE, 3)]).regs
    ∧ (part lc st boot wait sig c).trust = (owned lc st boot wait sig).trust
    ∧ (part lc st boot wait sig c).skein = (owned lc st boot wait sig).skein
    ∧ (part lc st boot wait sig c).sys = (owned lc st boot wait sig).sys
    ∧ (part lc st boot wait sig c).power = (owned lc st boot wait sig).power := by
  simp only [part, State.setBytes_regs, State.setBytes_trust, State.setBytes_skein, State.setBytes_sys, State.setBytes_power,
    owned, and_self]

/-- It differs from the part without them in memory alone. -/
theorem part_mem (lc st boot : Nat) (wait : Bool) (sig : List Byte) (c : CapBytes) :
    ∃ m, part lc st boot wait sig c = { owned lc st boot wait sig with mem := m } := by
  unfold part
  generalize (0x0401000000 : Nat) = a
  generalize (0x07000000 : Nat) = b
  generalize skHdr ++ (skMan ++ (skSig ++ [])) = l
  generalize c.1 ++ (c.2.1 ++ (c.2.2 ++ [])) = k
  generalize owned lc st boot wait sig = o
  rw [State.setBytes_eq o b k]
  exact ⟨_, State.setBytes_eq _ a l⟩

/-- Registers of two states that hold the same ones. -/
theorem same_regs {s t : State} (h : s.regs = t.regs) : s.reg = t.reg ∧ s.rf = t.rf := by
  have hr : s.reg = t.reg := by funext a; unfold State.reg; rw [h]
  exact ⟨hr, by funext f; unfold State.rf; rw [hr]⟩

/-- What the inbox holds. -/
theorem part_inbox {lc st boot : Nat} {wait : Bool} {sig : List Byte} {c : CapBytes} (hl : c.1.length = 128)
    (pl : c.2.1.length = capLen c.1) (gl : c.2.2.length = 96) (hi : c.2.1.length < 1000) :
    (part lc st boot wait sig c).capHead = c.1 ∧ (part lc st boot wait sig c).capStored = c.2.1
      ∧ (part lc st boot wait sig c).capSig = c.2.2 := by
  have a1 : (part lc st boot wait sig c).capHead = c.1 := by
    show State.bytes _ 0x07000000 128 = c.1
    rw [part, State.bytes_setBytes_below _ _ _ _ _ (by omega)]
    exact State.bytes_setBytes _ _ _ _ _ hl
  refine ⟨a1, ?_, ?_⟩
  · rw [State.capStored, a1]
    show State.bytes _ (0x07000000 + 128) (capLen c.1) = c.2.1
    rw [part, State.bytes_setBytes_below _ _ _ _ _ (by omega)]
    exact State.bytes_setBytes_append _ _ _ _ _ _ _ hl pl
  · rw [State.capSig, a1]
    show State.bytes _ (0x07000000 + (128 + capLen c.1)) 96 = c.2.2
    rw [part, State.bytes_setBytes_below _ _ _ _ _ (by omega), ← List.append_assoc]
    exact State.bytes_setBytes_append _ _ _ _ _ _ _ (by rw [List.length_append, hl, pl]) gl

set_option maxRecDepth 20000 in
/-- What slot A holds. -/
theorem part_slot (lc st boot : Nat) (wait : Bool) (sig : List Byte) (c : CapBytes) :
    (part lc st boot wait sig c).skHead 0 = skHdr
      ∧ (part lc st boot wait sig c).skManifest 0 = (pieces 64 6 skMan).map SkEntry.ofBytes
      ∧ (part lc st boot wait sig c).skDigest 0 = skDig ∧ (part lc st boot wait sig c).slotBytes 0 640 96 = skSig := by
  have sects : skSects skHdr = 6 := by decide +kernel
  have a1 : (part lc st boot wait sig c).skHead 0 = skHdr := State.bytes_setBytes _ _ _ _ _ rfl
  have a2 : (part lc st boot wait sig c).slotBytes 0 256 384 = skMan :=
    State.bytes_setBytes_append _ _ _ _ _ _ _ rfl (by decide +kernel)
  have a3 : (part lc st boot wait sig c).slotBytes 0 0 640 = skHdr ++ skMan := by
    unfold part
    rw [← List.append_assoc]
    exact State.bytes_setBytes _ 0x0401000000 640 (skHdr ++ skMan) _ (by decide +kernel)
  refine ⟨a1, ?_, ?_, ?_⟩
  · rw [State.skManifest, a1, sects]
    exact congrArg (fun l => (pieces 64 6 l).map SkEntry.ofBytes) a2
  · rw [State.skDigest, a1, sects]
    exact (congrArg sha384 a3).trans (by decide +kernel)
  · unfold part
    rw [← List.append_assoc]
    exact State.bytes_setBytes_append _ 0x0401000000 640 96 (skHdr ++ skMan) skSig _ (by decide +kernel) rfl

/-- The owner's capsule of a kind, in the inbox, is ready to be carried out for agent 2, whatever else the part is in. -/
def capReady (kind : Nat) (c : CapBytes) : Prop :=
  ∀ (st boot : Nat) (wait : Bool) (sig : List Byte), st < 7 →
    let s := part 1 st boot wait sig c
    capKind s.capHead = kind ∧ s.capCheck 2 = 0 ∧ s.capHead = c.1 ∧ s.capPayload = some c.2.1

set_option maxRecDepth 20000 in
/-- A capsule of the owner, not sealed and for any device, is ready where its form, its signature and what else the checks of R443
ask are right. -/
theorem capsule_ready {c : CapBytes} {kind d : Nat} (hl : c.1.length = 128) (pl : c.2.1.length = capLen c.1)
    (gl : c.2.2.length = 96) (hi : c.2.1.length < 1000) (hd : sha384 c.1 = d) (hp : (sha384 c.2.1 == beAt c.1 0x50 48) = true)
    (hs : signedBy idh1 d c.2.2 = true)
    (h4 : (c.1.take 4 == [0x43#8, 0x50#8, 0x53#8, 0x31#8] && Nat.blt (leAt c.1 6 2) 8 && Nat.ble (capLen c.1) 83885856
      && zeroAt c.1 0xC 4 && zeroAt c.1 0x4D 3 && capSigner c.1 == 0 && capTarget c.1 == 0 && capSysid c.1 == 0
      && Nat.blt 0 (capCtr c.1) && capKind c.1 == kind && !capSealed c.1 && !capGolden c.1) = true)
    (h5 : (Nat.ble 1 kind && Nat.ble kind 8 && (kind != 7 || [0, 2, 3].contains (byteAt c.2.1 0))) = true) : capReady kind c := by
  intro st boot wait sig hst
  obtain ⟨r1, r2, r3⟩ := part_inbox (lc := 1) (st := st) (boot := boot) (wait := wait) (sig := sig) hl pl gl hi
  obtain ⟨m1, m2, m3, m4, m5⟩ := part_fields 1 st boot wait sig c
  obtain ⟨g1, g2⟩ := same_regs m1
  obtain ⟨a1, a2⟩ := (show ∀ n, n < 7 → (let s := rst [(Reg.TRUST_LC_LC, 1), (slotField 0, n), (Reg.PAIR_STAT_STATE, 3)]
    s.rf Reg.TRUST_LC_LC = 1 ∧ s.rf Reg.TRUST_LC_EPOCH = 0) by decide) st hst
  have hlc : (part 1 st boot wait sig c).lc = 1 := by rw [State.lc, g2]; exact a1
  have hep : (part 1 st boot wait sig c).epoch = 0 := by rw [State.epoch, g2]; exact a2
  have hown : (part 1 st boot wait sig c).ownerKey 0 = idh1 := by rw [State.ownerKey, m2]; rfl
  have hctr : (part 1 st boot wait sig c).trust.capCtr = 0 := by rw [m2]; rfl
  have hsys : (part 1 st boot wait sig c).skein.system.sysid = 0 := by rw [m3]; rfl
  clear m1 m2 m3 m4 m5 g1 g2
  show capKind (part 1 st boot wait sig c).capHead = kind ∧ (part 1 st boot wait sig c).capCheck 2 = 0 ∧ _
  generalize part 1 st boot wait sig c = s at *
  simp only [Bool.and_eq_true, beq_iff_eq, Nat.blt_eq, Nat.ble_eq, Bool.not_eq_true'] at h4
  obtain ⟨⟨⟨⟨⟨⟨⟨⟨⟨⟨⟨f1, f2⟩, f3⟩, f4⟩, f5⟩, h0⟩, ht⟩, hy⟩, hc⟩, hk⟩, hz⟩, hg⟩ := h4
  have hpay : s.capPayload = some c.2.1 := by simp [State.capPayload, r1, r2, hz]
  have hform : s.capFormOk = true := by simp [State.capFormOk, r1, r2, f1, f2, f3, f4, f5, hp]
  have hsig : s.capSigned = true := by simp [State.capSigned, r1, r3, h0, hd, hep, hown, hs]
  have htgt : s.lcTarget = byteAt c.2.1 0 := by simp only [State.lcTarget, hpay]
  have hkind : s.kindOk kind (byteAt c.2.1 0) false = true := by
    simp only [Bool.and_eq_true, Nat.ble_eq, Bool.or_eq_true, bne_iff_ne, List.contains_eq_mem, List.mem_cons, List.not_mem_nil, decide_eq_true_eq] at h5
    obtain ⟨⟨k1, k8⟩, k7⟩ := h5
    simp only [State.kindOk, hlc, lcFactory, lcOwned, lcSealed, lcRetired]
    interval_cases kind <;> simp_all
    omega
  refine ⟨r1 ▸ hk, ?_, r1, hpay⟩
  simp [State.capCheck, r1, hform, hsig, htgt, h0, hk, ht, hy, hsys, hg, hkind, hctr, Nat.ne_of_gt hc, crOk, State.signerOk, hlc, lcFactory,
    lcRetired]

/-- A SKEIN_IMAGE. -/
def cap1 : CapBytes :=
  (beBytes 0x435053310100000001000000000000000500000000000000000000000000000000000000000000000000000000000000000000000000000000000000000000000000000000000000000000000000000043950796D9883503655E35B5190AEE687A2DD99F265012625B95753978E4EFFF3E8414D178A6E2318480D8EB6DDEE643 128,
    beBytes 0xFF 1,
    beBytes 0xAA87CA22BE8B05378EB1C71EF320AD746E1D3B628BA79B9859F741E082542A385502F25DBF55296C3A545E3872760AB76C69B87BCB2F8A54FF47FE204F0A789825C9CFBDC686F55BDC2FCAF52E71E4B99C9E3C518D6AF7E9B1F673999E70828C 96)
theorem cap1_ready : capReady 1 cap1 :=
  capsule_ready (d := 0x175A24364E197FE5E1E46FE268C91DAF498F58F8AF37BE2AEFA494B61E00BE284AB2654857714C8C2A39D09386499691)
    rfl rfl rfl (by decide) (by decide +kernel) (by decide +kernel) (by decide +kernel) (by decide +kernel) (by decide +kernel)

/-- A FW_BUNDLE. -/
def cap2 : CapBytes :=
  (beBytes 0x435053310200000001000000000000000500000000000000000000000000000000000000000000000000000000000000000000000000000000000000000000000000000000000000000000000000000043950796D9883503655E35B5190AEE687A2DD99F265012625B95753978E4EFFF3E8414D178A6E2318480D8EB6DDEE643 128,
    beBytes 0xFF 1,
    beBytes 0xAA87CA22BE8B05378EB1C71EF320AD746E1D3B628BA79B9859F741E082542A385502F25DBF55296C3A545E3872760AB7CCB916714C3DA34A56CD4CA1013C80E841A4E3DCAC354B7A216B01B6EE8BC73D025E7CA46950E231168A3D92D243DB2B 96)
theorem cap2_ready : capReady 2 cap2 :=
  capsule_ready (d := 0x77A9822BCF2798DB3969BE631AFB25FF656A6D1794E6144934DFCB77DE1AA0ABB072A59B335736D38ECD9A8CBA1CEF30)
    rfl rfl rfl (by decide) (by decide +kernel) (by decide +kernel) (by decide +kernel) (by decide +kernel) (by decide +kernel)

/-- An ALARM_STORE: two bytes at offset 26,999. -/
def cap3 : CapBytes :=
  (beBytes 0x435053310300000006000000000000000500000000000000000000000000000000000000000000000000000000000000000000000000000000000000000000000000000000000000000000000000000026C8F15E3D8CC26FD5C65E698C48D7E4BC07BB9377C2518761BC4D24F504678EA11129156A6A7F3C39899962479E994A 128,
    beBytes 0x776900000700 6,
    beBytes 0xAA87CA22BE8B05378EB1C71EF320AD746E1D3B628BA79B9859F741E082542A385502F25DBF55296C3A545E3872760AB775270DAD0692EAD8EB18C167B1C8D125752A5059937038DE57AF0BE2A030D85AC67DE9082769EF9B924D9E7200B9EC21 96)
theorem cap3_ready : capReady 3 cap3 :=
  capsule_ready (d := 0x20177967897CE069CDB53329CB87763C98EFD9947C2101AD6B23D5A38FBFB1C9749211FEF170443E0A90FB6BE8930026)
    rfl rfl rfl (by decide) (by decide +kernel) (by decide +kernel) (by decide +kernel) (by decide +kernel) (by decide +kernel)

/-- It with FORCE. -/
def cap3f : CapBytes :=
  (beBytes 0x435053310300020006000000000000000500000000000000000000000000000000000000000000000000000000000000000000000000000000000000000000000000000000000000000000000000000026C8F15E3D8CC26FD5C65E698C48D7E4BC07BB9377C2518761BC4D24F504678EA11129156A6A7F3C39899962479E994A 128,
    beBytes 0x776900000700 6,
    beBytes 0xAA87CA22BE8B05378EB1C71EF320AD746E1D3B628BA79B9859F741E082542A385502F25DBF55296C3A545E3872760AB730CF25D81D098AC58FD93AB899597B43D317EA7179E4BD367174323876A2D5CCED54D75996FE1DF8A30CA4A446ED7BDC 96)
theorem cap3f_ready : capReady 3 cap3f :=
  capsule_ready (d := 0xDBBF91929FF380567275AC7AB318205AF6DD73AC629586054C4C497B5A68DD1AF3830E02A9B51A16083C1B08FB8BB954)
    rfl rfl rfl (by decide) (by decide +kernel) (by decide +kernel) (by decide +kernel) (by decide +kernel) (by decide +kernel)

/-- ACTIVATE, at the next start. -/
def cap4 : CapBytes :=
  (beBytes 0x4350533104000000010000000000000005000000000000000000000000000000000000000000000000000000000000000000000000000000000000000000000000000000000000000000000000000000BEC021B4F368E3069134E012C2B4307083D3A9BDD206E24E5F0D86E13D6636655933EC2B413465966817A9C208A11717 128,
    beBytes 0x0 1,
    beBytes 0xAA87CA22BE8B05378EB1C71EF320AD746E1D3B628BA79B9859F741E082542A385502F25DBF55296C3A545E3872760AB75E69DB48B7CDDB1ED8B23316531C1A1C60C9109231E87C80AB87BAE5128304BE114C7B9A08CA5364ED12CF4B5BE6A4F0 96)
theorem cap4_ready : capReady 4 cap4 :=
  capsule_ready (d := 0x95A47033AB7D0AFBB4EA4D86CDABF33848E99CD1A99454FBEFC84A60211DE2CBF60A490D2D0A80765562C4543BFB8F5)
    rfl rfl rfl (by decide) (by decide +kernel) (by decide +kernel) (by decide +kernel) (by decide +kernel) (by decide +kernel)

/-- ACTIVATE with a device reset. -/
def cap4r : CapBytes :=
  (beBytes 0x43505331040000000100000000000000050000000000000000000000000000000000000000000000000000000000000000000000000000000000000000000000000000000000000000000000000000008D2CE87D86F55FCFAB770A047B090DA23270FA206832DFEA7E0C946FFF451F819ADD242374BE551B0D6318ED6C7D41D8 128,
    beBytes 0x1 1,
    beBytes 0xAA87CA22BE8B05378EB1C71EF320AD746E1D3B628BA79B9859F741E082542A385502F25DBF55296C3A545E3872760AB7A396B87AE0DBCED38D6349273F813EC4DAE3A2DD8B69920270069B1596DA35604A13A75D0E90402B7D69C90FD04997A7 96)
theorem cap4r_ready : capReady 4 cap4r :=
  capsule_ready (d := 0x4E87243563C5C4646FFFBAE9593FE3DBFEA92C18741A5AD1837B64D686690ECEF827D053D89694CDF5AD2609B822ABAC)
    rfl rfl rfl (by decide) (by decide +kernel) (by decide +kernel) (by decide +kernel) (by decide +kernel) (by decide +kernel)

/-- ACTIVATE in place. -/
def cap4p : CapBytes :=
  (beBytes 0x4350533104000000010000000000000005000000000000000000000000000000000000000000000000000000000000000000000000000000000000000000000000000000000000000000000000000000DB475240477C5E4497A2C5724CA485F5B1F2C2FC0602B92BAE234238EC8D4E873A7148C739593E95A7F4DFE7C6E69F69 128,
    beBytes 0x2 1,
    beBytes 0xAA87CA22BE8B05378EB1C71EF320AD746E1D3B628BA79B9859F741E082542A385502F25DBF55296C3A545E3872760AB72F8B0B7D07FA41FF14535567CF17CA161E8F1A322E091B3D55B6A26DC5B5F86F6109AEDF9AA762EDB2277E85310530C2 96)
theorem cap4p_ready : capReady 4 cap4p :=
  capsule_ready (d := 0xDA7B77378AE4378FF6EFC729E8D66F2D4254A36D16B9E40C308EB9B0A97BFFBD6737E588AD5E5F0B1756F4E9E5A36E3A)
    rfl rfl rfl (by decide) (by decide +kernel) (by decide +kernel) (by decide +kernel) (by decide +kernel) (by decide +kernel)

/-- An STK in the clear. -/
def cap5 : CapBytes :=
  (beBytes 0x435053310500000020000000000000000500000000000000000000000000000000000000000000000000000000000000000000000000000000000000000000000000000000000000000000000000000079A017FEEF31127390E00E7BB6CB0E5BE29E71FC6E079B2F28004B53068FA336D922A4404D8065339EEBD0EEFBA39B7F 128,
    beBytes 0x102030405060708090A0B0C0D0E0F101112131415161718191A1B1C1D1E1F20 32,
    beBytes 0xAA87CA22BE8B05378EB1C71EF320AD746E1D3B628BA79B9859F741E082542A385502F25DBF55296C3A545E3872760AB756D54767A40FC0C9306E83AD0E2949E2D5AE3F482BFFDCA1064C1D31F8E4887A103132AE6C56C64572794FE0DBD7647C 96)
theorem cap5_ready : capReady 5 cap5 :=
  capsule_ready (d := 0x1C5B32226F9B65A130AF56F27E7EEF9F973C88314B0A57019C0E6F2E87361E8BE455BA5365D1AE7EABCACDAC3B07881)
    rfl rfl rfl (by decide) (by decide +kernel) (by decide +kernel) (by decide +kernel) (by decide +kernel) (by decide +kernel)

/-- SVN_FLOOR. -/
def cap6 : CapBytes :=
  (beBytes 0x4350533106000000050000000000000005000000000000000000000000000000000000000000000000000000000000000000000000000000000000000000000000000000000000000000000000000000361F199F0ECF3DEF67DCE91F0417237E2EE30C317CCBEE940D3D525BC3EFAB2D8CC06383236507202A9D0B67A4C5954B 128,
    beBytes 0x400F00000F 5,
    beBytes 0xAA87CA22BE8B05378EB1C71EF320AD746E1D3B628BA79B9859F741E082542A385502F25DBF55296C3A545E3872760AB73E30DE258F6C74F19CBB838F5D50B3D9AE07D74FFAF9A2AEBD0B9B37AE79D192F40880119A133A4220ECE7680CB65102 96)
theorem cap6_ready : capReady 6 cap6 :=
  capsule_ready (d := 0xE92149E012566A827F57F551770F58F0D1CD608AE3AA6B7D97E3B27A923FD8E0FA36B6BAACCA365F861C5DCCC1548E7A)
    rfl rfl rfl (by decide) (by decide +kernel) (by decide +kernel) (by decide +kernel) (by decide +kernel) (by decide +kernel)

/-- LIFECYCLE, back to Factory. -/
def cap7 : CapBytes :=
  (beBytes 0x4350533107000000010000000000000005000000000000000000000000000000000000000000000000000000000000000000000000000000000000000000000000000000000000000000000000000000BEC021B4F368E3069134E012C2B4307083D3A9BDD206E24E5F0D86E13D6636655933EC2B413465966817A9C208A11717 128,
    beBytes 0x0 1,
    beBytes 0xAA87CA22BE8B05378EB1C71EF320AD746E1D3B628BA79B9859F741E082542A385502F25DBF55296C3A545E3872760AB781219EBDFAF807EDC68AA8FBD1D9ED8F3B585968F812B39BBC81FA0A61798B4D1C9839F031F7B1469841755E2132C147 96)
theorem cap7_ready : capReady 7 cap7 :=
  capsule_ready (d := 0x2C120A787DE1FD7EA9271ABDEB9892A65F1DE2A3E0C37C6ACFF6C3CB510864BBCAAC62E6FBFE05E91084D258090BD54C)
    rfl rfl rfl (by decide) (by decide +kernel) (by decide +kernel) (by decide +kernel) (by decide +kernel) (by decide +kernel)

/-- LIFECYCLE, to Sealed. -/
def cap7s : CapBytes :=
  (beBytes 0x4350533107000000010000000000000005000000000000000000000000000000000000000000000000000000000000000000000000000000000000000000000000000000000000000000000000000000DB475240477C5E4497A2C5724CA485F5B1F2C2FC0602B92BAE234238EC8D4E873A7148C739593E95A7F4DFE7C6E69F69 128,
    beBytes 0x2 1,
    beBytes 0xAA87CA22BE8B05378EB1C71EF320AD746E1D3B628BA79B9859F741E082542A385502F25DBF55296C3A545E3872760AB7D40CF7564A8435EAF77C565B69E603F1FEAA70FDFE846C4A2E91A25B15C66420A0E29B153AEAA9A94B3636127C08748D 96)
theorem cap7s_ready : capReady 7 cap7s :=
  capsule_ready (d := 0x7EFD6310CD6E2B7BDA18C81D83A4A909226FFA38E735351942066C1C05553D8F4EF6C40C04F0FE4BC379930C63E18892)
    rfl rfl rfl (by decide) (by decide +kernel) (by decide +kernel) (by decide +kernel) (by decide +kernel) (by decide +kernel)

/-- A STREAM_SET. -/
def cap8 : CapBytes :=
  (beBytes 0x435053310800000000000000000000000500000000000000000000000000000000000000000000000000000000000000000000000000000000000000000000000000000000000000000000000000000038B060A751AC96384CD9327EB1B1E36A21FDB71114BE07434C0CC7BF63F6E1DA274EDEBFE76F65FBD51AD2F14898B95B 128,
    beBytes 0x0 0,
    beBytes 0xAA87CA22BE8B05378EB1C71EF320AD746E1D3B628BA79B9859F741E082542A385502F25DBF55296C3A545E3872760AB725562C16F5C8BEC626054513838B6D6FF4D6467CDFF1198A73C6D89723951D5EB4B529270B3D8FC35916007CCC5730CA 96)
theorem cap8_ready : capReady 8 cap8 :=
  capsule_ready (d := 0xD04697D178B2B45708A1B6D59D4A1287189BCFB7C8A1E2594E9EEFDA075B24ACBAE35FD01DF48BE0BE4576E180F56E42)
    rfl rfl rfl (by decide) (by decide +kernel) (by decide +kernel) (by decide +kernel) (by decide +kernel) (by decide +kernel)

/-- LIFECYCLE to Owned, signed by the key that it carries. -/
def cap7o : CapBytes :=
  (beBytes 0x4350533107000000610000000000000005000000000000000000000000000000000000000000000000000000000000000000000000000000000000000000000000000000000000000000000002000000F7B2A33A451A9A547DCA5A78A991F888F2249C06C5974AF0BF29F62D3DCCE2655F913E7740F0CA846D969AA7B816B25A 128,
    1#8 :: keyBytes key1,
    beBytes 0xAA87CA22BE8B05378EB1C71EF320AD746E1D3B628BA79B9859F741E082542A385502F25DBF55296C3A545E3872760AB70C3C55E19469836B0720B53DC24EE28CED89F7523A47A9BC549A0F25324198CE0E1596A8E8427E1BF32D7C4F98591990 96)

set_option maxRecDepth 20000 in
/-- The owner's first capsule is ready where its form and its signature by the key that it carries are right. -/
theorem owning_ready {c : CapBytes} {d : Nat} (hl : c.1.length = 128) (pl : c.2.1.length = capLen c.1) (gl : c.2.2.length = 96)
    (hi : c.2.1.length < 1000) (hd : sha384 c.1 = d) (hp : (sha384 c.2.1 == beAt c.1 0x50 48) = true)
    (hv : p384.verify (beAt c.2.1 1 48, beAt c.2.1 49 48) d (beNat (c.2.2.take 48)) (beNat (c.2.2.drop 48)) = true)
    (h4 : (c.1.take 4 == [0x43#8, 0x50#8, 0x53#8, 0x31#8] && leAt c.1 6 2 == 0 && Nat.ble (capLen c.1) 83885856
      && zeroAt c.1 0xC 4 && zeroAt c.1 0x4D 3 && capSigner c.1 == 2 && capTarget c.1 == 0 && capKind c.1 == 7
      && Nat.blt 0 (capCtr c.1) && byteAt c.2.1 0 == 1 && !capSealed c.1) = true) :
    (part 0 3 0 false [] c).capCheck 2 = 0 ∧ (part 0 3 0 false [] c).capPayload = some c.2.1
      ∧ capKind (part 0 3 0 false [] c).capHead = 7 := by
  obtain ⟨r1, r2, r3⟩ := part_inbox (lc := 0) (st := 3) (boot := 0) (wait := false) (sig := []) hl pl gl hi
  obtain ⟨m1, m2, -⟩ := part_fields 0 3 0 false [] c
  have hlc : (part 0 3 0 false [] c).lc = 0 := by rw [State.lc, (same_regs m1).2]; decide
  have hctr : (part 0 3 0 false [] c).trust.capCtr = 0 := by rw [m2]; rfl
  clear m1 m2
  generalize part 0 3 0 false [] c = s at *
  simp only [Bool.and_eq_true, beq_iff_eq, Nat.blt_eq, Nat.ble_eq, Bool.not_eq_true'] at h4
  obtain ⟨⟨⟨⟨⟨⟨⟨⟨⟨⟨f1, f2⟩, f3⟩, f4⟩, f5⟩, h0⟩, ht⟩, hk⟩, hc⟩, hg⟩, hz⟩ := h4
  have hpay : s.capPayload = some c.2.1 := by simp [State.capPayload, r1, r2, hz]
  have hform : s.capFormOk = true := by simp [State.capFormOk, r1, r2, f1, f2, f3, f4, f5, hp]
  have hsig : s.capSigned = true := by simp [State.capSigned, State.carriedKey, hpay, r1, r3, h0, hd, hv]
  have htgt : s.lcTarget = 1 := by simp only [State.lcTarget, hpay, hg]
  refine ⟨?_, hpay, r1 ▸ hk⟩
  simp [State.capCheck, r1, hform, hsig, htgt, h0, hk, ht, hctr, Nat.ne_of_gt hc, crOk, State.signerOk, State.kindOk, hlc, lcFactory,
    lcOwned, lcSealed, lcRetired]

theorem cap7o_ready : (part 0 3 0 false [] cap7o).capCheck 2 = 0 ∧ (part 0 3 0 false [] cap7o).capPayload = some cap7o.2.1
    ∧ capKind (part 0 3 0 false [] cap7o).capHead = 7 :=
  owning_ready (d := 0xB72CC19C175378FBE9BD26FFDC0D87A4114F808D22F8728B2F7226681607A01C1443CD51FAF97A39585CF2B44CF75708) rfl rfl rfl (by decide) (by decide +kernel) (by decide +kernel) (by decide +kernel) (by decide +kernel)

/-- The Skein of slot A passes the checks of R436 where each of them is right. -/
theorem skein_passes {s : State} {k : SkImage} {comps : List Comp} {h : List Byte} {es : List SkEntry} {d : Nat}
    (hh : s.skHead 0 = h) (he : s.skManifest 0 = es) (hd : s.skDigest 0 = d) (hl : s.lc = 1)
    (form : skFormOk h es = true) (size : skTotal h ≤ 24 * 2 ^ 20) (who : (skSigner h == 0 && skEpoch h == s.epoch) = true)
    (sig : signedBy (s.ownerKey (skEpoch h)) d (s.slotBytes 0 (skTotal h - 96) 96) = true)
    (digs : (es.any fun e => sha384 (s.slotBytes 0 e.off e.len) != e.digest) = false)
    (svn : (Nat.blt 64 (skSvn h) || Nat.blt (skSvn h) (s.rf Reg.TRUST_SVN_SKN)) = false)
    (ig : (comps.all fun c => Nat.ble (skIgMin h) c.ig && Nat.ble c.ig (skIgMax h)) = true)
    (me : (k.nodes.any fun r => r.idh == deviceIdh) = true)
    (fails : ∀ r, (s.skRead 0 k).failFor (abiOk comps) r = none)
    (cont : (!k.fits || !(s.skRead 0 k).schedContent || !k.alarmContent) = false)
    (rate : (k.rate96 != s.sys.rate96 || k.n != s.sys.n) = false)
    (busy : (s.reg Reg.ALARM_TRIG_ACT0 != 0#32 || s.reg Reg.ALARM_TRIG_ACT1 != 0#32) = false) (ip : Bool) :
    s.skeinReason 0 k comps ip = 0 := by
  have hz : Nat.blt skeinSize (skTotal h) = false := by
    have hn : skTotal h ≤ skeinSize := by unfold skeinSize; split <;> omega
    rw [Bool.eq_false_iff]
    intro hb
    rw [Nat.blt_eq] at hb
    omega
  have hs : s.skSigned 0 = true := by
    simp only [Bool.and_eq_true, beq_iff_eq] at who
    unfold State.skSigned
    simp only [hh, hd, who.1]
    simpa using sig
  unfold State.skeinReason
  simp only [hh, he, hl, who, hs, form, hz, digs, svn, ig, me, cont, rate, busy, fails]
  cases ip <;> rfl

/-- It has no schedule to fail, whatever node this device is. -/
theorem skein0_fails (cf : Skein) (abi : Nat → Bool) (r : Nat) : ({ skein0 with conf := cf } : SkImage).failFor abi r = none := by
  have hs : ({ skein0 with conf := cf } : SkImage).sched = [] := by simp [SkImage.sched, skein0, recordsOf, pieces]
  have hg : ∀ g, ({ skein0 with conf := cf } : SkImage).region g = [] := fun g => by rw [SkImage.region, hs]; rfl
  unfold SkImage.failFor
  split <;> simp [SkImage.checkFails, hs, hg, SkImage.regionFits, SkImage.allFit, SkImage.bytesOf, SkImage.regionMin, SkImage.regionNom,
    List.range, List.range.loop]

set_option maxRecDepth 20000 in
/-- It is accepted in state Owned, whether at a start, on arrival or in place. -/
theorem part_accepted (st boot : Nat) (hst : st < 7) (wait : Bool) (sig : List Byte) (c : CapBytes) (ip : Bool) :
    (part 1 st boot wait sig c).skeinReason 0 skein0 (List.replicate 4 comp0) ip = 0 := by
  obtain ⟨h1, h2, h3, h4⟩ := part_slot 1 st boot wait sig c
  obtain ⟨m1, m2, m3, m4, m5⟩ := part_fields 1 st boot wait sig c
  obtain ⟨g1, g2⟩ := same_regs m1
  have b2 : ∀ n, n < 7 → (let s := rst [(Reg.TRUST_LC_LC, 1), (slotField 0, n), (Reg.PAIR_STAT_STATE, 3)]
    s.rf Reg.TRUST_LC_LC = 1 ∧ s.rf Reg.TRUST_LC_EPOCH = 0 ∧ s.rf Reg.TRUST_SVN_SKN = 0 ∧ s.reg Reg.ALARM_TRIG_ACT0 = 0#32
      ∧ s.reg Reg.ALARM_TRIG_ACT1 = 0#32) := by decide
  obtain ⟨a1, a2, a3, a6, a7⟩ := b2 st hst
  have b1 : (part 1 st boot wait sig c).lc = 1 := by rw [State.lc, g2]; exact a1
  have b2 : (part 1 st boot wait sig c).epoch = 0 := by rw [State.epoch, g2]; exact a2
  have b8 : (part 1 st boot wait sig c).ownerKey 0 = idh1 := by rw [State.ownerKey, m2]; rfl
  have hsk : skSigner skHdr = 0 ∧ skEpoch skHdr = 0 ∧ skTotal skHdr = 736 ∧ skSvn skHdr = 64 := by decide +kernel
  refine skein_passes h1 h2 h3 b1 (by decide +kernel) (by rw [hsk.2.2.1]; decide) (by rw [hsk.1, hsk.2.1, b2]; rfl) ?_ ?_ ?_
    (by decide +kernel) ?_ ?_ ?_ ?_ ?_ ip
  · rw [hsk.2.1, hsk.2.2.1, b8]
    exact (congrArg (signedBy idh1 skDig) h4).trans (by decide +kernel)
  · have hz : ∀ e ∈ (pieces 64 6 skMan).map SkEntry.ofBytes, e.len = 0 ∧ e.digest = comp0.digest := by decide +kernel
    rw [List.any_eq_false]
    intro e he
    obtain ⟨z1, z2⟩ := hz e he
    rw [z1, z2]
    have hn : sha384 [] = comp0.digest := by decide +kernel
    simp [State.slotBytes, State.bytes, hn]
  · rw [hsk.2.2.2, g2, a3]; rfl
  · simp [skein0]
  · exact fun r => skein0_fails _ _ r
  · simp [SkImage.schedContent, SkImage.alarmContent, State.skRead, SkImage.sched, SkImage.windowFits, SkImage.stkCount, SkImage.digests,
      skein0, recordsOf, pieces, apart]
  · rw [m4]; rfl
  · rw [g1, a6, a7]; rfl

/-- Firmware signed by the maker, whose key the model does not know, runs. -/
theorem part_firmware (lc st boot : Nat) (hst : st < 7) (hlc : lc < 3) (wait : Bool) (sig : List Byte) (c : CapBytes)
    (hs : signedBy (Config.firmwareKey 0) 7 sig = true) :
    let s := part lc st boot wait sig c
    s.bundleOk (bundle0 sig) = true ∧ s.runnable (s.bundles false) = [(9, List.replicate 4 (0, comp0))] := by
  obtain ⟨m1, m2, -⟩ := part_fields lc st boot wait sig c
  obtain ⟨g1, -⟩ := same_regs m1
  have a1 := (show ∀ l, l < 3 → ∀ n, n < 7 → (rst [(Reg.TRUST_LC_LC, l), (slotField 0, n), (Reg.PAIR_STAT_STATE, 3)]).reg Reg.TRUST_SVN = 0#32
    by decide) lc hlc st hst
  have hb : (part lc st boot wait sig c).bundleOk (bundle0 sig) = true := by
    have hr : (part lc st boot wait sig c).trust.revoked = [] := by rw [m2]; rfl
    have h : (part lc st boot wait sig c).bundleSigned (bundle0 sig) = true := by
      rw [State.bundleSigned, hr, List.any_eq_true]
      exact ⟨0, by decide, by simpa [bundle0] using hs⟩
    rw [State.bundleOk, h, g1, a1]
    rfl
  have hl : (part lc st boot wait sig c).compLoads 0 comp0 = true := by
    have hn : sha384 [] = comp0.digest := by decide +kernel
    simp [State.compLoads, comp0, State.bytes] at hn ⊢
    exact hn
  have hf : (part lc st boot wait sig c).trust.fwA = some (bundle0 sig) ∧ (part lc st boot wait sig c).trust.fwB = none := by
    rw [m2]; exact ⟨rfl, rfl⟩
  have hbs : (part lc st boot wait sig c).bundles false = [(0, bundle0 sig)] := by
    simp [State.bundles, hf, hb]
  refine ⟨hb, ?_⟩
  rw [hbs]
  generalize part lc st boot wait sig c = s at *
  have hc : candidates [(0, bundle0 sig)] = [(9, [1, 1, 1, 1])] := rfl
  have hk : ∀ k, k < 4 → s.compFrom [(0, bundle0 sig)] k 1 = some (0, comp0) := by
    intro k hk
    interval_cases k <;> simp [State.compFrom, Bundle.comp, bundle0, hl, show comp0.ver = 1 from rfl]
  have hp : s.parts (9, [1, 1, 1, 1]) [(0, bundle0 sig)] = some (List.replicate 4 (0, comp0)) := by
    simp [State.parts, Tuple.ver, List.range, List.range.loop, hk, List.replicate]
  rw [State.runnable, hc]
  simp [hp, Tuple.ver]

/-- What agent 2 finds in a part with the Skein of slot A in a state, but for what it tells by memory. -/
def seesSlot (s : State) (st : Nat) : Prop :=
  s.reaches 2 Reg.TRUST_CAP_CTL true = true ∧ s.reaches 1 Reg.TRUST_CAP_CTL true = true
  ∧ s.flag Reg.TRUST_CAP_STAT_BUSY = false ∧ s.flag Reg.ALARM_CTL_BARE = false
  ∧ s.slotState 0 = st ∧ s.slotState 1 = 0 ∧ s.pairState = paWithdrawn ∧ s.reg Reg.ALARM_TRIG_ACT0 = 0#32
  ∧ s.reg Reg.ALARM_TRIG_ACT1 = 0#32 ∧ s.lc = 1 ∧ s.epoch = 0 ∧ s.storeHits 26999 2 = [2]

theorem owned_sees (st : Nat) (hst : st ∈ [0, 2, 3, 4, 5, 6]) : seesSlot (owned 1 st 0 false []) st := by
  have h : ∀ st ∈ [0, 2, 3, 4, 5, 6], (let s := owned 1 st 0 false []
    s.reaches 2 Reg.TRUST_CAP_CTL true = true ∧ s.reaches 1 Reg.TRUST_CAP_CTL true = true
    ∧ s.flag Reg.TRUST_CAP_STAT_BUSY = false ∧ s.flag Reg.ALARM_CTL_BARE = false
    ∧ s.slotState 0 = st ∧ s.slotState 1 = 0 ∧ s.pairState = paWithdrawn ∧ s.reg Reg.ALARM_TRIG_ACT0 = 0#32
    ∧ s.reg Reg.ALARM_TRIG_ACT1 = 0#32 ∧ s.lc = 1 ∧ s.epoch = 0 ∧ s.storeHits 26999 2 = [2]) := by decide
  exact h st hst

/-- Memory has no part in it. -/
theorem sees_mem {s : State} {st : Nat} (m : List Host.Cell) (h : seesSlot s st) : seesSlot { s with mem := m } st := h

theorem owned_holds (st : Nat) (m : List Host.Cell) : let s : State := { owned 1 st 0 false [] with mem := m }
    s.skeinOf 0 = some skein0 ∧ s.running = List.replicate 4 comp0 ∧ s.stkKey = none := ⟨rfl, rfl, rfl⟩

/-- What agent 2 finds in a part with the Skein of slot A in each state. -/
theorem part_view (st : Nat) (hst : st ∈ [0, 2, 3, 4, 5, 6]) (c : CapBytes) :
    let s := part 1 st 0 false [] c
    seesSlot s st ∧ s.skeinOf 0 = some skein0 ∧ s.running = List.replicate 4 comp0 ∧ s.stkKey = none := by
  obtain ⟨m, hm⟩ := part_mem 1 st 0 false [] c
  rw [hm]
  exact ⟨sees_mem m (owned_sees st hst), owned_holds st m⟩

/-- Each kind of capsule, ready for agent 2 in the part above. -/
theorem witness_Capsules_ready : capReady 1 cap1 ∧ capReady 2 cap2 ∧ capReady 3 cap3 ∧ capReady 3 cap3f ∧ capReady 4 cap4
    ∧ capReady 4 cap4r ∧ capReady 4 cap4p ∧ capReady 5 cap5 ∧ capReady 6 cap6 ∧ capReady 7 cap7 ∧ capReady 7 cap7s ∧ capReady 8 cap8 :=
  ⟨cap1_ready, cap2_ready, cap3_ready, cap3f_ready, cap4_ready, cap4r_ready, cap4p_ready, cap5_ready, cap6_ready, cap7_ready,
    cap7s_ready, cap8_ready⟩

/-- What those payloads and flags are. -/
theorem witness_Capsules_payloads :
    capForce cap3.1 = false ∧ capForce cap3f.1 = true ∧ leAt cap3.2.1 0 4 = 26999 ∧ (cap3.2.1.drop 4).length = 2
    ∧ (cap2.2.1.length ≤ 0x400000 ∧ cap4.2.1 = [0#8] ∧ cap4r.2.1 = [1#8] ∧ cap4p.2.1 = [2#8])
    ∧ (cap5.2.1.length = 32 ∧ capSealed cap5.1 = false)
    ∧ (cap6.2.1.length == 5 && Nat.ble (byteAt cap6.2.1 0) 64 && (cap6.2.1.drop 1).all fun v => Nat.ble v.toNat 15) = true
    ∧ cap7.2.1 = [0#8] ∧ cap7s.2.1 = [2#8] ∧ cap7o.2.1.length = 97 ∧ cap1.2.1 = [0xFF#8] ∧ capGolden cap2.1 = false := by
  decide +kernel

/-- An in-place activation that waits for its boundary, of a Skein that is accepted and of one that is not. -/
theorem witness_Capsules_waiting (c : CapBytes) : (part 1 3 0 true [] c).trust.inPlace = some (2, [])
    ∧ (part 1 3 0 true [] c).skeinOf 0 = some skein0
    ∧ (part 1 3 0 true [] c).skeinReason 0 skein0 (part 1 3 0 true [] c).running true = 0 := by
  obtain ⟨-, m2, -⟩ := part_fields 1 3 0 true [] c
  refine ⟨by rw [m2]; rfl, by rw [State.skeinOf, m2]; rfl, ?_⟩
  rw [State.running, m2]
  exact part_accepted 3 0 (by decide) true [] c true

set_option maxRecDepth 20000 in
theorem witness_Capsules :
    (State.reset.reaches 2 Reg.TRUST_CAP_CTL true = true ∧ State.reset.reaches 1 Reg.TRUST_CAP_CTL true = true
      ∧ capKind State.reset.capHead = 0 ∧ State.reset.capCheck 2 = 2)
    ∧ (let s := (rst [(Reg.TRUST_CAP_STAT_BUSY, 1), (Reg.TRUST_CAP_STAT_AGENT, 3)])
      s.reaches 2 Reg.TRUST_CAP_CTL true = true ∧ (s.flag Reg.TRUST_CAP_STAT_BUSY && s.rf Reg.TRUST_CAP_STAT_AGENT != 2) = true)
    ∧ (∀ st ∈ [2, 3], let s := owned 1 st 0 false []
      !(s.slotState 1 == 5 || s.slotState 0 == 4 || s.slotState 1 == 4) = true ∧ s.slotIn st = some 0 ∧ s.slotIn (5 - st) = none
        ∧ ∀ m, m < 2 → s.slotState m ≠ 4)
    ∧ (let s := owned 1 4 0 false []
      !(s.slotState 1 == 5 || s.slotState 0 == 4 || s.slotState 1 == 4) = false)
    ∧ ((owned 1 3 0 false []).skeinReason 0 skein0 (List.replicate 4 comp0) true = 1)
    ∧ (State.reset.bundleOk { bundle0 [] with comps := [] } = false)
    ∧ (let s := rst [(whole Reg.ALARM_TRIG_ACT1, 0x80000000)]
      (s.reg Reg.ALARM_TRIG_ACT0 == 0#32 && s.reg Reg.ALARM_TRIG_ACT1 == 0#32) = false)
    ∧ ((owned 1 3 0 false []).storeHits 27000 3 = [] ∧ Nat.ble (67108860 + 4) (64 * 2 ^ 20) = true
        ∧ Nat.ble (67108861 + 4) (64 * 2 ^ 20) = false)
    ∧ (rst [(Reg.TRUST_LC_SECRETS_ERASED, 1)]).flag Reg.TRUST_LC_SECRETS_ERASED = true
    ∧ ((owned 1 3 0 false []).lc = 1 ∧ (owned 1 3 0 false []).epoch = 0)
    ∧ State.reset.flag (Reg.CTX_CFG_EN 510) = false ∧ (rst [(Reg.CTX_CFG_EN 510, 1)]).flag (Reg.CTX_CFG_EN 510) = true := by
  decide +kernel

set_option maxRecDepth 20000 in
theorem witness_StartsFlashAndDebug :
    (State.reset.reaches 2 Reg.TRUST_FL_CMD true = true ∧ (Nat.ble 2 2 && !State.reset.flag Reg.TRUST_FL_STAT_BUSY) = true
      ∧ flashRight 2 (bitsOf (State.reset.reg Reg.TRUST_FL_ADDR) 27 0) = false)
    ∧ ((rst [(Reg.TRUST_FL_STAT_BUSY, 1)]).flag Reg.TRUST_FL_STAT_BUSY = true
      ∧ (rst [(Reg.TRUST_FL_STAT_BUSY, 1)]).reaches 0 Reg.TRUST_FL_CMD true = true)
    ∧ (let s := (rst [(whole Reg.TRUST_FL_ADDR, 0x00FF0000)])
      s.reaches 2 Reg.TRUST_FL_CMD true = true ∧ flashRight 2 (bitsOf (s.reg Reg.TRUST_FL_ADDR) 27 0) = true
        ∧ bitsOf (s.reg Reg.TRUST_FL_ADDR) 27 0 % 65536 = 0)
    ∧ (let s := (rst [(whole Reg.TRUST_FL_ADDR, 0x00FF0001)])
      flashRight 2 (bitsOf (s.reg Reg.TRUST_FL_ADDR) 27 0) = true ∧ bitsOf (s.reg Reg.TRUST_FL_ADDR) 27 0 % 256 ≠ 0)
    ∧ (let s (f : List Nat) : State := { State.reset with
          trust := { State.reset.trust with flOp := some ⟨true, 0, []⟩ }
          alarm := { State.reset.alarm with players := [(0, { Player.empty with voices := [⟨0, 0, 0, none, [], f, true⟩] })] } }
      (s [1]).flashHeld = true ∧ (s []).flashHeld = false ∧ (s []).trust.flOp = some ⟨true, 0, []⟩)
    ∧ (State.reset.trust.flOp = none ∧ 0x0FFF0000 + 65536 ≤ 0x10000000 ∧ (List.replicate 256 (0#8 : Byte)).length ≤ 256)
    ∧ (State.reset.reaches 2 Reg.TRUST_ATT_CTL true = true ∧ State.reset.reaches 1 Reg.TRUST_ATT_CTL true = true
      ∧ State.reset.flag Reg.ALARM_CTL_BARE = false)
    ∧ (State.reset.link.attest = none ∧ ({ worker with link := { worker.link with attest := some (0, 8) } } : State).linkOn = true)
    ∧ (State.reset.debugAsks = false ∧ (rst [(Reg.TRUST_LC_LC, 2)]).debugAsks = true ∧ (rst [(Reg.TRUST_LC_LC, 2)]).lc = 2
      ∧ (rst [(Reg.TRUST_LC_LC, 2)]).tokenOk [] = false)
    ∧ (let s : State := ({ rst [(slotField 1, 4)] with trust := { State.reset.trust with trialAt := some 7, run := some 1 } })
      s.trust.trialAt = some 7 ∧ s.trust.run = some 1 ∧ s.slotState 1 = 4)
    ∧ State.reset.power.boot = some 0 ∧ State.reset.power.rstLow = false ∧ State.reset.slotOrder = []
    ∧ State.reset.trust.run = none ∧ State.reset.runnable (State.reset.bundles false) = []
    ∧ State.reset.runnable (State.reset.bundles true) = [] ∧ State.reset.isMgr = false := by decide

/-- A part that asks for a debug token of its owner. -/
def asking : State :=
  let s := rst [(Reg.TRUST_LC_LC, 2)]
  { s with trust := { s.trust with owners := [(0, idh1)], nonceNew := true } }

set_option maxRecDepth 20000 in
/-- A token of scope 1 for this device, on the last nonce of 0, that the owner's key signs. -/
theorem witness_StartsFlashAndDebug_token (t : List Byte) (hl : t.length = 184) (hm : t.take 8 = [0x44#8, 0x42#8, 0x47#8, 0x31#8, 1#8, 0#8, 0#8, 0#8])
    (hi : beAt t 8 48 = deviceIdh) (hn : (t.drop 56).take 32 = zeros 32)
    (hs : signedBy idh1 (sha384 (t.take 88)) (t.drop 88) = true) : asking.debugAsks = true ∧ asking.tokenOk t = true := by
  have a : asking.lc = 2 ∧ asking.epoch = 0 ∧ asking.ownerKey 0 = idh1 ∧ asking.debugAsks = true ∧ asking.dbgNonce = zeros 32 := by decide
  obtain ⟨a1, a2, a3, a4, a5⟩ := a
  have b4 : t.take 4 = [0x44#8, 0x42#8, 0x47#8, 0x31#8] := by
    have := congrArg (List.take 4) hm
    rwa [List.take_take] at this
  have bs : byteAt t 4 = 1 := by
    have := congrArg (fun l => byteAt l 4) hm
    simpa [byteAt] using this
  have bz : zeroAt t 5 3 = true := by
    rw [zeroAt, List.take_drop, hm]
    decide
  refine ⟨a4, ?_⟩
  simp [State.tokenOk, hl, b4, bs, bz, a1, a2, a3, a5, hi, hn, hs, lcSealed, show asking.trust.nonceNew = true from rfl]

set_option maxRecDepth 20000 in
/-- A start with that firmware and that Skein: it finds the Skein in each state that runs, and accepts it. -/
theorem witness_StartsFlashAndDebug_start (sig : List Byte) (c : CapBytes) (hs : signedBy (Config.firmwareKey 0) 7 sig = true) :
    (∀ boot ∈ [0, 1, 2], (part 1 3 boot false sig c).power.boot = some boot ∧ (part 1 3 boot false sig c).power.rstLow = false)
    ∧ (∀ st ∈ [2, 3, 4, 5], let s := part 1 st 0 false sig c
      s.runnable (s.bundles false) = [(9, List.replicate 4 (0, comp0))] ∧ s.slotOrder = [0] ∧ s.skeinOf 0 = some skein0
        ∧ s.skeinReason 0 skein0 ((List.replicate 4 (0, comp0)).map (·.2)) false = 0)
    ∧ (let s := part 1 6 0 false sig c
      s.runnable (s.bundles false) = [(9, List.replicate 4 (0, comp0))] ∧ s.slotOrder = [] ∧ s.trust.run = none)
    ∧ (∀ e ∈ skein0.regs, ¬ (0x700000 ≤ e.1 ∧ e.1 ≤ 0x70FFFF)) := by
  have so : ∀ st ∈ [2, 3, 4, 5], (rst [(Reg.TRUST_LC_LC, 1), (slotField 0, st), (Reg.PAIR_STAT_STATE, 3)]).slotOrder = [0] := by decide
  have s6 : (rst [(Reg.TRUST_LC_LC, 1), (slotField 0, 6), (Reg.PAIR_STAT_STATE, 3)]).slotOrder = [] := by decide
  refine ⟨?_, ?_, ?_, fun e he => by cases he⟩
  · intro boot hb
    obtain ⟨-, -, -, -, m5⟩ := part_fields 1 3 boot false sig c
    rw [m5]
    exact ⟨rfl, rfl⟩
  · intro st hst
    obtain ⟨m1, m2, -⟩ := part_fields 1 st 0 false sig c
    have hlt : st < 7 := (show ∀ n ∈ [2, 3, 4, 5], n < 7 by decide) st hst
    refine ⟨(part_firmware 1 st 0 hlt (by decide) false sig c hs).2, ?_, by rw [State.skeinOf, m2]; rfl,
      part_accepted st 0 hlt false sig c false⟩
    rw [← so st hst]
    simp only [State.slotOrder, State.slotState, (same_regs m1).2]
  · obtain ⟨m1, m2, -⟩ := part_fields 1 6 0 false sig c
    refine ⟨(part_firmware 1 6 0 (by decide) (by decide) false sig c hs).2, ?_, by rw [m2]; rfl⟩
    rw [← s6]
    simp only [State.slotOrder, State.slotState, (same_regs m1).2]

set_option maxRecDepth 20000 in
/-- A start after a reset that finds its mark, and one from Rim that waits for the alarms. -/
theorem witness_StartsFlashAndDebug_retained (c : CapBytes) :
    (part 1 5 1 false [] c).markMatches ⟨true, true, []⟩ = some (0, skein0)
    ∧ ({ owned 1 5 2 false [] with trust := { (owned 1 5 2 false []).trust with mark := none } } : State).trust.mark = none
    ∧ (rst [(whole Reg.ALARM_TRIG_ACT1, 0x80000000)]).reg Reg.ALARM_TRIG_ACT1 ≠ 0#32 := by
  obtain ⟨m1, m2, -⟩ := part_fields 1 5 1 false [] c
  obtain ⟨-, -, h3, -⟩ := part_slot 1 5 1 false [] c
  have st : (part 1 5 1 false [] c).slotState 0 = 5 ∧ (part 1 5 1 false [] c).slotState 1 = 0 := by
    simp only [State.slotState, (same_regs m1).2]
    decide
  refine ⟨?_, rfl, by decide⟩
  have hm : (part 1 5 1 false [] c).trust.mark = some (skDig, 0, 9) := by rw [m2]; rfl
  have hk : (part 1 5 1 false [] c).skeinOf 0 = some skein0 := by rw [State.skeinOf, m2]; rfl
  simp [State.markMatches, hm, st, hk, h3, skActive, skPending]

/-! ### Witnesses: locks, mailboxes and the fabric -/

/-- A mailbox full from a sender. -/
def mboxed (k sender : Nat) (l : List BoxMsg) : State :=
  (rst [(Reg.MBOX_STAT_FULL k, 1), (Reg.MBOX_STAT_SENDER k, sender)]).setBox k l

/-- A message that agent 5 holds. -/
def held0 (posted : Bool) : BoxMsg := ⟨5, 4, List.replicate 14 0#32, 0, posted⟩

theorem witness_LocksAndMailboxes :
    (State.reset.reaches 21 (Reg.LOCK 63) false = true ∧ State.reset.lockOwner 63 = none ∧ State.reset.reaches 21 (Reg.LOCK 63) true = true)
    ∧ (let s := (rst [(Reg.LOCK_PEEK_HELD 63, 1), (Reg.LOCK_PEEK_OWNER 63, 21)])
      s.reaches 21 (Reg.LOCK 63) false = true ∧ s.lockOwner 63 = some 21 ∧ (21#32 : Word).toNat = 21)
    ∧ (State.reset.reaches 0 Reg.MBOX_SEND true = true ∧ State.reset.reaches 5 Reg.MBOX_SEND true = true
      ∧ (mboxOwner 3 == 0) = true ∧ (mboxOwner 27 == 0) = false ∧ (mboxOwner 31 == 1) = false ∧ State.reset.box 31 = [])
    ∧ (hosts.reaches 3 Reg.MBOX_SEND true = true ∧ ((3 : Nat) == 3 && !hosts.bit Reg.MATRIX_HMBOX 27) = true)
    ∧ (mboxed 27 1 []).mboxFull 27 = true
    ∧ (State.reset.reaches 0 Reg.MBOX_RELEASE true = true ∧ State.reset.mboxFull 3 = false)
    ∧ (mboxOwner 3 = 0 ∧ (mboxed 3 1 []).mboxFull 3 = true ∧ (mboxed 3 1 []).box 3 = [] ∧ (mboxed 3 1 []).reaches 0 Reg.MBOX_RELEASE true = true)
    ∧ ((mboxed 3 5 [held0 true]).box 3 = [held0 true] ∧ (mboxed 3 5 [held0 true]).mboxSender 3 = 5
      ∧ (mboxed 3 5 [held0 true]).mboxFull 3 = true ∧ (held0 true).posted = true)
    ∧ ((mboxed 3 1 [held0 false]).box 3 = held0 false :: [] ∧ (held0 false).posted = false)
    ∧ (let s := (mboxed 27 2 [])
      (s.mboxFull 27 && s.mboxSender 27 == 2 && Nat.blt (mget (fun _ => 0) s.matrix.waits 27) 3) = true)
    ∧ State.reset.box 27 = [] ∧ ((mboxed 27 2 [held0 false]).mboxFull 27 = true)
    ∧ manager.reaches 1 Reg.MBOX_SEND true = true ∧ manager.linkOn = true ∧ manager.box 28 = []
    ∧ (mboxOwner 28 == 1) = false := by decide

/-- A remote message for a mailbox, and its acknowledgement with a STATUS. -/
def remote0 (n shape : Nat) : List Byte := [BitVec.ofNat 8 n, BitVec.ofNat 8 shape, 0#8, 4#8] ++ zeros 56
def remoteAck0 (st : Nat) : List Byte := [0#8, 4#8, BitVec.ofNat 8 st]

set_option maxRecDepth 20000 in
/-- A remote message and an acknowledgement in each of their cases. -/
theorem witness_LocksAndMailboxes_remote :
    (newAt manager 0x30 1 0 (remote0 27 0) = true ∧ manager.link.active = true ∧ (manager.admOf 1).isSome = false)
    ∧ (newAt (linked 0 5 Link.init) 0x30 0 5 (remote0 27 0) = true ∧ (linked 0 5 Link.init).link.active = false
      ∧ (linked 0 5 Link.init).link.own = none)
    ∧ (newAt worker 0x30 1 5 (remote0 27 0) = true ∧ worker.link.active = false ∧ worker.link.own ≠ none ∧ worker.link.mgr = some 0)
    ∧ ((manager.admOf 5).isSome = true ∧ newAt manager 0x30 5 0 (remote0 27 1) = true ∧ newAt manager 0x30 5 0 (remote0 32 0) = true)
    ∧ (newAt manager 0x30 5 0 (remote0 26 0) = true ∧ manager.skein.system.boxes.contains 26 = false)
    ∧ (newAt manager 0x30 5 0 (remote0 27 0) = true ∧ manager.skein.system.boxes.contains 27 = true ∧ manager.box 27 = []
      ∧ manager.mboxFull 27 = false)
    ∧ (let s := manager.setBox 27 (List.replicate 17 (held0 false))
      newAt s 0x30 5 0 (remote0 27 0) = true ∧ 17 ≤ (s.box 27).length)
    ∧ (let s := manager.setBox 27 (List.replicate 16 (held0 true))
      newAt s 0x30 5 0 (remote0 27 0) = true ∧ (s.box 27).length < 17 ∧ s.box 27 = held0 true :: List.replicate 15 (held0 true))
    ∧ (newAt manager 0x31 5 0 (remoteAck0 5) = true ∧ newAt manager 0x31 5 0 (remoteAck0 0) = true
      ∧ newAt manager 0x31 5 0 (remoteAck0 4) = true ∧ beAt (remoteAck0 4) 0 2 = 4 ∧ byteAt (remoteAck0 4) 2 = 4
      ∧ manager.link.boxOut = [])
    ∧ (let s : State := ({ manager with link := { manager.link with boxOut := [(4, 5, 1)] } })
      newAt s 0x31 5 0 (remoteAck0 0) = true ∧ newAt s 0x31 5 0 (remoteAck0 4) = true
        ∧ s.link.boxOut.any (fun e => e.1 == 4 && e.2.1 == 5) = true) := by decide

/-- Mailboxes of a Warden that hold no remote message: the premise on the other mailboxes of a timeout. -/
theorem witness_LocksAndMailboxes_timeout (j : Nat) (_ : mboxOwner j = 2) : (mboxed 27 2 []).box j = [] := rfl

theorem witness_FabricAccesses :
    ((rst [(Reg.PWR_STAT_STATE, 3)]).accepted 34 = false ∧ State.reset.accepted 34 = true ∧ hosts.accepted 4 = true)
    ∧ (populated 0x0704000000 = false ∧ populated 0x05103FFFFC = true ∧ populated 0x0FFFFFFC = true ∧ populated 0x0700050200 = false)
    ∧ (memPath 32 0x0510000000 false = false ∧ memPath 0 0x0510000000 true = false ∧ State.reset.bareClosed 2 = false
      ∧ memPath 2 0x05103FFFFC true = true)
    ∧ (State.reset.asleep 0x0601FFFFFC = some 15 ∧ memPath 1 0x0601FFFFFC true = true ∧ populated 0x0601FFFFFC = true)
    ∧ (manager.asleep 0x05103FFFFC = none ∧ manager.memOpen 2 0x05103FFFFC true = true ∧ manager.accepted 2 = true
      ∧ spaceOf 0x05103FFFFC = .directory ∧ State.reset.memOpen 2 0x05103FFFFC true = false)
    ∧ (let s : State := ({ rst [(⟨Reg.PWR_STAT, 15, 15⟩, 1)] with ecc := [(0x0601FFFFFC, true)] })
      s.asleep 0x0601FFFFFC = none ∧ s.memOpen 1 0x0601FFFFFC false = true ∧ s.memWord 0x0601FFFFFC = none
        ∧ (s.memWord 0x0601FFFFF8).isSome = true)
    ∧ (spaceOf 0x0801FFFFFC = .register 0x1FFFFFC ∧ State.reset.pathErr 5 Reg.WEAVE_CTL true = some .nopath
      ∧ State.reset.pathErr 0 0x1FFFFFC true = some .unpop ∧ State.reset.pathErr 0 Reg.WEAVE_CTL true = none)
    ∧ (State.reset.pathErr 0 (Reg.CL_CTL 15) false = none ∧ State.reset.regAsleep (Reg.CL_CTL 15) = true)
    ∧ (State.reset.regAsleep Reg.WEAVE_CTL = false ∧ State.mayRead 0 Reg.WEAVE_CTL = true)
    ∧ within 0x10000000 0x14FFFFFF 0x15000000 = false
    ∧ (State.reset.power.demand = [] ∧ State.reset.reaches 0 Reg.TRUST_EVT true = true ∧ State.reset.reaches 0 (Reg.LOCK 63) true = true
      ∧ State.reset.reaches 0 Reg.MBOX_SEND true = true ∧ State.reset.reaches 0 Reg.MBOX_RELEASE true = true
      ∧ State.reset.reaches 0 Reg.TRUST_FL_CMD true = true ∧ State.reset.reaches 0 (Reg.MBOX_STG 14) true = true)
    ∧ (hosts.accepted 4 = true ∧ 0x13C = 0x100 + 0x13C % 0x40 ∧ 0x13C % 4 = 0 ∧ 0x13C % 0x40 + 4 * 1 ≤ 0x40)
    ∧ State.reset.accepted 4 = false ∧ 0x13D % 4 ≠ 0
    ∧ (0x203C = 0x2000 + 0x203C % 0x40 ∧ 0x203C % 4 = 0 ∧ 0x203C % 0x40 ≠ 0 ∧ hosts.flag Reg.ALARM_CTL_BARE = false
      ∧ 64 < 0x203C % 64 + 8)
    ∧ State.reset.power.stalls = [] := by decide

/-- Accesses that wait, and domains being woken or awake on demand. -/
def waiting (stalls : List Stall) (waking demand : List (Nat × Nat)) : State :=
  { State.reset with power := { State.reset.power with stalls := stalls, waking := waking, demand := demand } }

theorem witness_FabricAccesses_waiting :
    ((waiting [⟨34, 0x0600000000, true, 4, 1#32, 0⟩] [] []).power.stalls = ⟨34, 0x0600000000, true, 4, 1#32, 0⟩ :: []
      ∧ (⟨34, 0x0600000000, true, 4, 1#32, 0⟩ : Stall).size ≠ 0 ∧ (⟨34, 0x0600000000, true, 4, 1#32, 0⟩ : Stall).agent < 35)
    ∧ (⟨34, 0x0600000000, false, 0, 1#32, 0⟩ : Stall).size = 0
    ∧ (∀ w ∈ State.reset.power.waking, w.1 ≠ 18) ∧ (∀ w ∈ State.reset.power.demand, w.1 ≠ 18)
    ∧ (let s := (waiting [] [(15, 5), (17, 6), (18, 7)] [])
      (s.power.waking.find? fun w => w.1 == 17) = some (17, 6) ∧ (16 ≤ 17 ∧ 17 < 18)
        ∧ (s.power.waking.find? fun w => w.1 == 15) = some (15, 5) ∧ (s.cluster 15).loading = false ∧ s.clState 15 ≠ clIsolated
        ∧ (∀ x ∈ s.power.stalls, stallDomain x.addr ≠ 15) ∧ s.bit Reg.PWR_STAT 15 = false
        ∧ (s.power.waking.find? fun w => w.1 == 18) = some (18, 7)
        ∧ ∀ p, p < 6 → (s.np p).fifo = [] ∧ s.txSpan p (bitsOf (s.reg (Reg.NET_TXR_HEAD p)) 7 0) (s.txGiven p) = none)
    ∧ (let s := (waiting [] [(15, 5)] [])
      (s.setCluster 15 { Cluster.reset with loading := true } |>.cluster 15).loading = true)
    ∧ (let s : State := ({ rst [(Reg.PWR_STAT_STATE, pWatch)] with power := { State.reset.power with demand := [(18, 7)] } })
      (s.power.demand.find? fun w => w.1 == 18) = some (18, 7) ∧ s.pstate = pWatch)
    ∧ (let s := (waiting [] [] [(15, 7)])
      (s.power.demand.find? fun w => w.1 == 15) = some (15, 7) ∧ s.clState 15 ≠ clIsolated) := by decide

set_option maxRecDepth 20000 in
/-- The other cases of an access: a port at its limit, words of each memory written, and registers that are refused or read. -/
theorem witness_FabricAccesses_more :
    (State.reset.portFull 1 = false ∧ State.reset.power.hand = none ∧ State.reset.accepted 1 = true ∧ State.reset.bareClosed 1 = false)
    ∧ (let s := (waiting (List.replicate 8 ⟨1, 0x0601FFFFFC, false, 4, 0#32, 0⟩) [] [])
      s.portFull 1 = true ∧ s.asleep 0x0601FFFFFC = some 15 ∧ s.accepted 1 = true ∧ s.bareClosed 1 = false)
    ∧ (let s := (waiting (List.replicate 15 ⟨22, 0, false, 4, 0#32, 0⟩) [] [])
      s.portFull 22 = false)
    ∧ (let s := (rst [(⟨Reg.PWR_STAT, 15, 15⟩, 1)])
      s.asleep 0x0601FFFFFC = none ∧ s.memOpen 1 0x0601FFFFFC true = true ∧ s.accepted 1 = true ∧ spaceOf 0x0601FFFFFC = .coil 15)
    ∧ (let s := ((rst [(⟨Reg.PWR_STAT, 15, 15⟩, 1)]).setStake 127 { State.reset.stake 127 with run := .held })
      s.asleep 0x0703FC0000 = none ∧ s.memOpen 1 0x0703FBFFFC true = true ∧ spaceOf 0x0703FBFFFC = .stake 127 0x3FFFC
        ∧ spaceOf 0x0703FC0000 = .stake 127 0x40000 ∧ s.memOpen 1 0x0703FC0000 true = true ∧ s.memOpen 34 0x0703FC0000 true = false)
    ∧ (spaceOf 0x0FFFFFFC = .lpddr ∧ memPath 2 0x0FFFFFFC true = true ∧ State.reset.memOpen 2 0x0FFFFFFC true = true
      ∧ ((rst [(Reg.PWR_STAT_STATE, pRun)]).asleep 0x0FFFFFFC = none ∧ (rst [(Reg.PWR_STAT_STATE, pRun)]).accepted 2 = true))
    ∧ (State.reset.pathErr 5 0x304000 true = some .nopath ∧ secKeyReg 0x304000 = true ∧ State.reset.pathErr 0 0x304000 true = none
      ∧ spaceOf 0x0800304000 = .register 0x304000 ∧ secKeyReg Reg.WEAVE_CTL = false)
    ∧ (State.reset.pathErr 1 (Reg.MBOX_DATA 3 0) false = none ∧ State.reset.regAsleep (Reg.MBOX_DATA 3 0) = false
      ∧ State.mayRead 1 (Reg.MBOX_DATA 3 0) = false)
    ∧ (State.reset.reaches 0 Reg.WEAVE_CTL true = true ∧ secKeyReg Reg.WEAVE_CTL = false)
    ∧ (let s : State := ({ rst [(Reg.CL_STAT_STATE 15, clIsolated)] with power := { State.reset.power with waking := [(15, 5)], demand := [(15, 7)] } })
      s.clState 15 = clIsolated ∧ (s.cluster 15).loading = false ∧ s.power.stalls = []) := by decide

/-! ### Witnesses: power, health and recovery -/

/-- A device whose cluster die 1 is on, with a thermal policy and CRIT of region 3 at 85 °C. -/
def hottest (policy : Nat) (busy : Bool) : State :=
  let s := die1 [(Reg.PWR_STAT_BUSY, if busy then 1 else 0), (Reg.REG_THR_TH_CRIT 3, 85), (Reg.REG_THR_TH_LO 3, 60)]
  { s with skein := { s.skein with system := { SkSystem.init with thermal := policy } } }

/-- The state after a command. -/
def after1 (i : Instr) (s : State) : State := match exec i s with | .next t => t | _ => s

theorem witness_HealthMonitors :
    ((rst [(Reg.PWR_STAT_STATE, 3)]).hubUp = false ∧ State.reset.hubUp = true ∧ State.reset.sensorOn 15 = false
      ∧ State.reset.sensorOn 16 = true ∧ State.reset.sensorOn 19 = true ∧ State.reset.power.hubHot = none)
    ∧ ((die1 []).sensorOn 15 = true ∧ (die1 []).skein.system.thermal = 0)
    ∧ ((die1 [(Reg.REG_EVT_CRIT 3, 1)]).sensorOn 15 = true ∧ (die1 [(Reg.REG_EVT_CRIT 3, 1)]).flag (Reg.REG_EVT_CRIT 3) = true)
    ∧ (∀ p ∈ [1, 2], (hottest p true).sensorOn 15 = true ∧ (hottest p true).flag Reg.PWR_STAT_BUSY = true
      ∧ (hottest p true).flag (Reg.REG_EVT_CRIT 3) = false
      ∧ (after1 (.tempSensorUpdate 15 84#8) (hottest p true)).flag (Reg.REG_EVT_CRIT 3) = false
      ∧ (after1 (.tempSensorUpdate 15 85#8) (hottest p true)).flag (Reg.REG_EVT_CRIT 3) = true)
    ∧ (let s : State := ({ State.reset with power := { State.reset.power with hubHot := some 3 } })
      s.sensorOn 16 = true ∧ s.power.hubHot = some 3)
    ∧ (State.reset.dieOn 1 = false ∧ (die1 []).dieOn 1 = true)
    ∧ ((Nat.ble 16 15 || ((die1 [(⟨Reg.PWR_STAT, 15, 15⟩, 1)]).dieOn (15 / 8) && (die1 [(⟨Reg.PWR_STAT, 15, 15⟩, 1)]).bit Reg.PWR_STAT 15)) = true)
    ∧ (Nat.ble 16 15 || (State.reset.dieOn (15 / 8) && State.reset.bit Reg.PWR_STAT 15)) = false
    ∧ (State.reset.age 23).last = none
    ∧ ((State.reset.setAge 23 { AgeCell.init with last := some 5 }).age 23).last = some 5
    ∧ ((warden false false []).power.wardenUp = true ∧ (warden false false []).hubUp = true) := by decide

/-- A device at reset but for the trend of its oscillator over two days. -/
def trend : State := { State.reset with power := { State.reset.power with life := { Life.init with days := 2, sy := 5, sxy := 5 } } }

/-- No sensor is valid and no monitor has a count: an hour leaves its cells alone. -/
theorem trend_sample (x : Nat) : trend.ageSample x = trend := by
  have hv : ∀ k, k < 20 → trend.flag (Reg.HEALTH_TEMP_VALID k) = false := by decide
  have hs : ∀ j, j < 24 → trend.slowing j = none := by decide
  have ha : trend.age x = AgeCell.init := rfl
  have hx : ageSensor x < 20 := by
    unfold ageSensor
    split
    · omega
    · split
      · omega
      · exact Nat.mod_lt _ (by decide)
  have hb : trend.setAge x AgeCell.init = trend := by
    have : mset (fun _ => AgeCell.init) ([] : SMap AgeCell) x AgeCell.init = [] := by simp [mset, mdrop]
    exact congrArg (fun m => { trend with power := { trend.power with life := { trend.power.life with cells := m } } }) this
  unfold State.ageSample
  simp only [ha, hv _ hx, Bool.false_eq_true, if_false]
  split
  · rename_i h
    simp only [hs x h, hb]
  · exact hb
/-- An update with one source, the trend of the oscillator. -/
theorem witness_HealthMonitors_sources :
    trend.lifeSample.eolSources.map (fun x => (x.kind, x.index)) = [(3, 0)]
      ∧ (trend.lifeSample.eolSources.find? fun x => x.lo == eolMin (·.lo) trend.lifeSample.eolSources).isSome = true := by
  have h : ∀ l : List Nat, l.foldl State.ageSample trend = trend := by
    intro l
    induction l with
    | nil => rfl
    | cons x l ih => rw [List.foldl_cons, trend_sample, ih]
  rw [State.lifeSample, h]
  decide +kernel

/-- Sensor 15 hot since an instant, with its region gated and cool since another. -/
def heated : State :=
  let s := (die1 []).setRegion 3 ⟨none, none, some 9, 0, 0⟩
  { s with power := { s.power with hotAt := [(15, 5)], hotRegions := [3] } }

/-- A machine in Watch, or busy, for its hub's heat, cool since an instant. -/
def coolHub (l : List (RegField × Nat)) : State :=
  let s := rst l
  { s with power := { s.power with hubHot := some 3, hubCool := some 9 } }

theorem witness_ThermalGating :
    (heated.sensorOn 15 = true ∧ heated.power.hotAt.find? (fun e => e.1 == 15) = some (15, 5))
    ∧ State.reset.power.hotAt.find? (fun e => e.1 == 15) = none
    ∧ ((coolHub [(Reg.PWR_STAT_BUSY, 1)]).power.hubHot = some 3 ∧ (coolHub [(Reg.PWR_STAT_BUSY, 1)]).flag Reg.PWR_STAT_BUSY = true)
    ∧ (∀ m ∈ [0, 15], let s := coolHub [(Reg.PWR_STAT_STATE, pWatch), (⟨Reg.PWR_TRIM_MASK, 3, 0⟩, m)]
      s.power.hubHot = some 3 ∧ s.power.hubCool = some 9 ∧ s.flag Reg.PWR_STAT_BUSY = false ∧ s.pstate = pWatch ∧ s.power.retry = none
        ∧ s.reg Reg.PWR_TRIM_MASK = BitVec.ofNat 32 m)
    ∧ ((heated.region 3).cool = some 9 ∧ heated.power.hotRegions.contains 3 = true ∧ heated.power.hubHot ≠ some 3
      ∧ ∀ c ∈ heated.skClusters, c < 16) := by decide

/-- A state of the power controller, with cluster 15 powered where `on`. -/
def power (st : Nat) (on : Bool) : State := rst [(Reg.PWR_STAT_STATE, st), (⟨Reg.PWR_STAT, 15, 15⟩, if on then 1 else 0)]

theorem witness_PowerRequests :
    State.reset.reaches 0 Reg.PWR_CTL true = true
    ∧ ((rst [(Reg.PWR_STAT_BUSY, 1)]).flag Reg.PWR_STAT_BUSY = true ∧ (rst [(Reg.PWR_STAT_BUSY, 1)]).reaches 0 Reg.PWR_CTL true = true)
    ∧ (State.reset.flag Reg.PWR_STAT_BUSY = false ∧ State.reset.power.retry = none ∧ State.reset.pstate = pRun ∧ pRun ≠ pTrim)
    ∧ (let s : State := ({ State.reset with power := { State.reset.power with retry := some (hand0 pRim [] none) } })
      s.power.retry = some (hand0 pRim [] none) ∧ s.flag Reg.PWR_STAT_BUSY = false ∧ (hand0 pRim [] none).target = pRim
        ∧ s.reaches 0 Reg.PWR_CTL true = true)
    ∧ (let s : State := ({ power pRun true with alarm := { State.reset.alarm with xoLost := true } })
      s.gateSet pRim ≠ 0 ∧ s.alarm.xoLost = true ∧ s.reaches 0 Reg.PWR_CTL true = true)
    ∧ ((power pRun true).reaches 0 Reg.PWR_CTL true = true ∧ (power pRun true).pstate ≤ pTrim ∧ (power pRun true).gateSet pRim ≠ 0
      ∧ (power pRun true).alarm.xoLost = false)
    ∧ ((power pTrim false).reaches 0 Reg.PWR_CTL true = true ∧ (power pTrim false).pstate ≠ pWatch ∧ (power pTrim false).gateSet pWatch = 0)
    ∧ ((power pTrim false).pstate = pTrim ∧ (power pTrim false).power.waiting = none ∧ ∀ c ∈ (power pTrim false).skClusters, c < 16)
    ∧ ((power pWatch false).reaches 0 Reg.PWR_CTL true = true ∧ (power pWatch false).pstate = pWatch
      ∧ ∀ p, p < 6 → ((power pWatch false).np p).fifo = []) := by decide

/-- A state with that handshake. -/
def asks (h : Hand) (now : Nat) : State := { State.reset with now := now, power := { State.reset.power with hand := some h } }

theorem witness_HandshakeAnswers :
    State.reset.power.hand = none
    ∧ (let h := (hand0 pWatch [6] (some 7))
      (asks h 18000).power.hand = some h ∧ h.asked = some 7 ∧ (asks h 18000).now ≤ h.at_ + 3 * us1 ∧ (asks h 18000).refusal h 7 = 0
        ∧ (participants h.target h.prior).find? (fun x => !(h.accepted ++ [7]).contains x) = some 8)
    ∧ (let h := (hand0 pWatch [6] (some 7))
      h.at_ + 3 * us1 < (asks h 18001).now ∧ (asks h 18001).power.waiting = none)
    ∧ (let h := (hand0 pRim [] (some 1))
      let s : State := { asks h 0 with alarm := { State.reset.alarm with cmds := [⟨0, 0, .reset⟩] } }
      s.refusal h 1 = 3 ∧ s.power.hand = some h ∧ h.asked = some 1 ∧ s.power.waiting = none)
    ∧ (let h := (hand0 pRim [] (some 15))
      let s : State := ({ asks h 0 with power := { (asks h 0).power with waiting := some 6 } })
      s.power.hand = some h ∧ h.asked = some 15 ∧ s.power.waiting = some 6)
    ∧ (let h := (hand0 pWatch [6, 7, 8] (some 9))
      (asks h 0).power.hand = some h ∧ (asks h 0).refusal h 9 = 0 ∧ h.target ≤ pWatch ∧ (∀ c ∈ (asks h 0).skClusters, c < 16)
        ∧ (participants h.target h.prior).find? (fun x => !(h.accepted ++ [9]).contains x) = none)
    ∧ State.reset.power.retry = none
    ∧ (let s : State := ({ State.reset with power := { State.reset.power with retry := some (hand0 pRim [] none) } })
      s.power.retry = some (hand0 pRim [] none) ∧ s.power.hand = none ∧ pTrim ≤ pRim) := by decide

/-- Rim, with a wake source enabled. -/
def rim (src : Nat) (l : List (RegField × Nat)) : State := rst ((Reg.PWR_STAT_STATE, pRim) :: (⟨Reg.RIM_WAKE_EN, src, src⟩, 1) :: l)

/-- A frame that carries an ALARM over UDP to this device alone, and to everyone. -/
def udp0 (b : Byte) : NetFrame :=
  ⟨true, .clear, [b, 0#8, 0#8, 0#8, 0#8, 1#8] ++ zeros 5 ++ [5#8] ++ beBytes 0x0800 2
    ++ [0x45#8, 0#8, 0#8, 36#8] ++ zeros 4 ++ [64#8, 17#8] ++ beBytes 0x66C7 2
    ++ [10#8, 0#8, 0#8, 1#8, 10#8, 0#8, 0#8, 2#8] ++ beBytes 9 2 ++ beBytes 48070 2 ++ [0#8, 16#8, 0#8, 0#8]
    ++ [0x40#8, 0#8] ++ zeros 16⟩

/-- The filter's port open to alarms over UDP, with frames held. -/
def filters (frames : Nat) : State :=
  let s := rim 2 [(Reg.RIM_WF_CFG_EN, 1), (Reg.RIM_WF_CFG_UDP_EN, 1), (Reg.RIM_STAT_WF_LINK, 1)]
  { s with power := { s.power with frames := List.replicate frames ⟨5, udp0 2⟩ } }

theorem witness_WakeEvents :
    (let s := (rim 3 [(Reg.RIM_RTC_ALM_HI_EN, 1)])
    s.flag Reg.RIM_RTC_ALM_HI_EN = true ∧ s.pstate = pRim ∧ s.bit Reg.RIM_WAKE_EN 3 = true ∧ s.power.hubWake = none)
    ∧ (let s := (rim 4 [(⟨Reg.RIM_WAKE_EN, 3, 3⟩, 0)])
      s.bit Reg.RIM_WAKE_EN 4 = true ∧ s.bit Reg.RIM_WAKE_EN 3 = false ∧ s.pstate = pRim)
    ∧ (let s : State := ({ rim 4 [] with power := { State.reset.power with hubWake := some 8 } })
      s.bit Reg.RIM_WAKE_EN 4 = true ∧ s.power.hubWake.isSome = true)
    ∧ (∀ n ∈ [3, 4], (filters n).pstate = pRim ∧ (filters n).power.rstLow = false ∧ (filters n).flag Reg.RIM_WF_CFG_EN = true
      ∧ (filters n).flag Reg.RIM_STAT_WF_LINK = true ∧ (filters n).bit Reg.RIM_WAKE_EN 2 = true
      ∧ (filters n).power.frames.length = n
      ∧ (filters n).wakeFrameOk (udp0 2) = true ∧ (filters n).wakeFrameOk (udp0 255) = false)
    ∧ (State.reset.power.hubWake = none)
    ∧ (let s : State := ({ rim 4 [] with power := { State.reset.power with hubWake := some 8 } })
      s.power.hubWake = some 8 ∧ s.power.frames = [])
    ∧ (let s := ((waiting [] [(15, 5), (17, 6)] []).setCluster 15 { Cluster.reset with loading := true })
      s.power.waking.find? (fun e => e.1 == 17) = some (17, 6) ∧ s.power.waking.find? (fun e => e.1 == 15) = some (15, 5)
        ∧ (s.cluster 15).loading = true)
    ∧ ((die1 [(Reg.CL_STAT_STATE 15, clLoading)]).clState 15 = clLoading ∧ (die1 []).flag Reg.PWR_STAT_CD1 = true)
    ∧ (let s : State := ({ power pWatch false with supv := { State.reset.supv with sweep := some ⟨0, true⟩ } })
      s.supv.sweep = some ⟨0, true⟩)
    ∧ State.reset.reaches 2 Reg.RIM_RTC_LO false = true
    ∧ (State.reset.power.rstLow = false ∧ State.reset.flag Reg.RIM_STAT_RC_ACTIVE = false) := by decide

theorem witness_ResetsAndPowerCycles :
    (State.reset.reaches 1 Reg.PWR_RESET true = true ∧ State.reset.reaches 0 Reg.PWR_CYCLE true = true ∧ State.reset.power.hand = none)
    ∧ (let s : State := ({ warden false false [] with link := { Link.init with sealTop := 5, sealNext := 5 } })
      s.power.wardenUp = true ∧ s.link.sealTop ≤ s.link.sealNext ∧ s.power.hand = none ∧ s.reaches 1 Reg.PWR_RESET true = true)
    ∧ ((asks (hand0 pWatch [] none) 0).power.hand.isSome = true ∧ (asks (hand0 pWatch [] none) 0).reaches 1 Reg.PWR_RESET true = true)
    ∧ State.reset.power.pcycEnd = none
    ∧ (let s : State := ({ State.reset with power := { State.reset.power with hand := some (hand0 pWatch [] none), pcycEnd := some 5 } })
      s.power.pcycEnd = some 5 ∧ s.power.hand.isSome = true)
    ∧ (let s : State := ({ State.reset with power := { State.reset.power with rstLow := true } })
      s.power.rstLow = true ∧ s.power.testHold = false)
    ∧ (State.reset.alarm.xoLost = false ∧ State.reset.power.rstLow = false)
    ∧ (still.alarm.xoLost = true ∧ still.hubUp = true ∧ still.power.hand = none ∧ still.power.capped = false ∧ still.recent3.length < 3)
    ∧ (let s : State := ({ still with power := { State.reset.power with hand := some (hand0 pWatch [] none) } })
      s.alarm.xoLost = true ∧ s.hubUp = true ∧ s.power.hand.isSome = true) := by decide

theorem witness_PortResets :
    (State.reset.hubUp = true ∧ (25 < 26 ∨ 32 ≤ 25) ∧ (34 < 26 ∨ 32 ≤ 34) ∧ State.reset.outstanding 34 < 2 ^ 30)
    ∧ (let s := (rst [(⟨Reg.MATRIX_PORT_STAT 34, 30, 30⟩, 1)])
      bitAt (s.reg (Reg.MATRIX_PORT_STAT 34)) 30 = true ∧ s.outstanding 34 = 0 ∧ s.hubUp = true)
    ∧ (waiting [⟨34, 0x0600000000, true, 4, 1#32, 0⟩] [] []).outstanding 34 ≠ 0
    ∧ (rst [(Reg.LOCK_PEEK_HELD 63, 1), (Reg.LOCK_PEEK_OWNER 63, 5)]).lockOwner 63 = some 5 := by decide

theorem witness_RecoveryRequests :
    (State.reset.reaches 1 Reg.PWR_RECOV true = true ∧ hosts.reaches 4 Reg.PWR_RECOV true = true)
    ∧ ((rst [(Reg.PWR_RECOV_BUSY, 1)]).flag Reg.PWR_RECOV_BUSY = true ∧ (rst [(Reg.PWR_RECOV_BUSY, 1)]).reaches 0 Reg.PWR_RECOV true = true)
    ∧ (State.reset.flag Reg.PWR_RECOV_BUSY = false ∧ State.reset.power.wardenUp = false)
    ∧ (∀ b ∈ [true, false], ∀ c ∈ [true, false], (warden b c []).reaches 1 Reg.PWR_RECOV true = true
      ∧ (warden b c []).flag Reg.PWR_RECOV_BUSY = false ∧ (warden b c []).power.wardenUp = true
      ∧ (warden b c []).power.hand.isSome = b ∧ (warden b c []).power.capped = c ∧ (warden b c []).recentHost = []
      ∧ (warden b c []).recent3.length < 3 ∧ (warden b c []).recent2 6 3 < 3) := by decide

theorem witness_RecoveryRequests_units :
    unitOk 255 0 = false ∧ unitOk 6 3 = true ∧ unitOk 6 4 = false ∧ unitOk 0 0 = true
    ∧ (unitOk 2 31 = true ∧ unitOk 2 32 = false ∧ unitOk 3 3 = true ∧ unitOk 3 4 = false ∧ unitOk 4 31 = true ∧ unitOk 1 15 = true)
    ∧ ((warden false false []).recent2 2 31 < 3 ∧ (warden false false []).recent2 3 3 < 3 ∧ (warden false false []).recent2 4 31 < 3
      ∧ (warden false false []).recent2 1 15 < 3)
    ∧ hosts.recentHost = []
    ∧ 3 ≤ (warden false false (List.replicate 3 ⟨6, 3, 0⟩)).recent2 6 3 := by decide

theorem witness_WatchdogAndWedges :
    ((warden false false []).hubUp = true
      ∧ ((warden false false []).power.wdgResets.filter fun x => Nat.blt 0 (x + 60 * sec1)).length < 3
      ∧ (warden false false []).outstanding 1 < 2 ^ 30)
    ∧ (let s : State := ({ warden true false [] with power := { (warden true false []).power with wdgResets := [0, 0, 0], served := some 4 } })
      3 ≤ (s.power.wdgResets.filter fun x => Nat.blt s.now (x + 60 * sec1)).length ∧ s.power.hand.isSome = true ∧ s.power.wardenUp = true
        ∧ s.power.served = some 4)
    ∧ (State.reset.power.wardenUp = false ∧ (warden true false []).wedgeDue (.routePort true) = none
      ∧ (warden true false []).wedgeDue .lpddr = some 0 ∧ (warden true false []).wedgeDue .targetPath = some 0
      ∧ (warden true false []).hubUp = true ∧ (warden true false []).power.wardenUp = true ∧ (warden true false []).power.hand.isSome = true)
    ∧ (let s := ((put (warden false false []) [(Reg.CL_STAT_STATE 15, clFaulted)]).setCluster 15 { Cluster.reset with faults := [0, 0, 0] })
      s.hubUp = true ∧ s.power.wardenUp = true ∧ s.clState 15 = clFaulted
        ∧ 3 ≤ ((s.cluster 15).faults.filter fun x => Nat.blt s.now (x + 60 * sec1)).length)
    ∧ (warden false false []).recent2 12 0 < 3 := by decide

/-- The Warden up, perhaps in a handshake or with three steps already taken, and a watch of functions. -/
def watching (busy : Bool) (steps : List Step2) (w : List (Nat × Nat × Nat)) (l : List (RegField × Nat)) : State :=
  let s := put (warden busy false steps) l
  { s with power := { s.power with watch := w } }

set_option maxRecDepth 20000 in
/-- Functions that are due their step: a TDM port, a converter, an AES3 input, a ring, a capsule and the queues that stand still. -/
theorem witness_WatchdogAndWedges_due :
    (∀ l ∈ [[], List.replicate 3 ⟨2, 31, 0⟩],
      let s := { watching false l [] [] with ports := { State.reset.ports with slips := List.replicate 11 (31, 0) } }
      s.wedgeDue (.tdm 31) = some 0 ∧ s.hubUp = true ∧ s.power.wardenUp = true ∧ (s.moveTo 0).recent2 2 31 = l.length)
    ∧ (let s := (watching false [] [(32 + 3, 7, 0)] [(Reg.AES_IN_CFG_EN 3, 1)])
      let s : State := { s with ports := { s.ports with aesRx := [(3, ⟨0, 0, 6⟩)] } }
      s.wedgeDue (.aesIn 3) = some (7 + 10 * sec1) ∧ (s.moveTo (7 + 10 * sec1)).recent2 3 3 < 3)
    ∧ (let s := (watching false [] [(36 + 31, 7, 0)] [(Reg.ASRC_CFG_EN 31, 1), (Reg.ASRC_CFG_SLOT 31, 1023)])
      let s : State := s.setInput 31 { Input.init 31 with good := some 5 }
      s.wedgeDue (.converter 31) = some (7 + sec1) ∧ (s.moveTo (7 + sec1)).recent2 4 31 < 3)
    ∧ (let s := (watching false [] [] []).setWords (State.reset.rxDesc 3 0) [0x01000000#32, 0x80000000#32]
      let s : State := s.setNp 5 { NetPort.init with fifo := [⟨3, 5, 0, 0, 0, 0, [], 8⟩] }
      s.wedgeDue (.rxRing 3) = some (8 + 10 * ms1) ∧ (s.moveTo (8 + 10 * ms1)).recent2 6 3 < 3)
    ∧ (let s := (watching false [] [(88, 7, 0)] [(Reg.TRUST_CAP_STAT_BUSY, 1)])
      s.wedgeDue .capsule = some (7 + 10 * sec1) ∧ (s.moveTo (7 + 10 * sec1)).recent2 11 0 < 3)
    ∧ (let s := (watching true [] [(69, 7, 0)] [])
      let s : State := { s with weave := { s.weave with queueH := [⟨.nop, 0, ⟨0#32, 0#32, 0#32⟩, true⟩] } }
      s.wedgeDue (.routePort true) = some (7 + 10 * ms1) ∧ s.power.hand.isSome = true) := by decide

/-! ### Balls -/

set_option maxRecDepth 20000 in
/-- Balls as the tables of the pins place them (R514 to R534). -/
theorem test_balls : ball 3 30 = .sig "TDMn_SD0" 12 ∧ ball 41 14 = .sig "TDMn_SD1" 20 ∧ ball 21 44 = .sig "Ln_RX_DN" 2
    ∧ ball 13 2 = .sig "FAULT_N" 0 ∧ ball 23 20 = vddHub := by decide

end Sys2Proof.Tests
end

section
/-! SUPPORT. Proofs/StakeAlu.lean: the ALU operations of format R compute what R121 says. -/
namespace Sys2Proof.Machine

/-! ### Words: the model's operations against R121 -/

theorem clampWord_eq_limitWord (x : Int) : clampWord x = limitWord x := by
  unfold clampWord satQ31 clampInt limitWord wordOfInt
  by_cases hlo : x < -2147483648
  · rw [if_pos hlo, if_pos (by omega)]; rfl
  · by_cases hhi : 2147483647 < x
    · rw [if_neg hlo, if_pos hhi, if_neg (by omega), if_pos (by omega)]; rfl
    · rw [if_neg hlo, if_neg hhi, if_neg (by omega), if_neg (by omega)]

theorem add_eq_ofNat_toNat (x y : Word) : x + y = BitVec.ofNat 32 (x.toNat + y.toNat) :=
  BitVec.eq_of_toNat_eq (by simp)

theorem sub_eq_ofInt_toInt (x y : Word) : x - y = BitVec.ofInt 32 (x.toInt - y.toInt) :=
  BitVec.eq_of_toInt_eq (by simp [BitVec.toInt_sub])

theorem minWord_eq (x y : Word) :
    (if sWord x ≤ sWord y then x else y) = if y.toInt < x.toInt then y else x := by
  rw [← ite_not]; simp [sWord]

theorem maxWord_eq (x y : Word) :
    (if sWord x ≤ sWord y then y else x) = if x.toInt < y.toInt then y else x := by
  rcases lt_trichotomy x.toInt y.toInt with h | h | h
  · simp [sWord, h, h.le]
  · simp [sWord, BitVec.eq_of_toInt_eq h]
  · simp [sWord, h.not_ge, h.not_gt]

theorem shiftLeft_eq_ofNat (x : Word) (n : Nat) : x <<< n = BitVec.ofNat 32 (x.toNat * 2 ^ n) :=
  BitVec.eq_of_toNat_eq (by simp [Nat.shiftLeft_eq])

theorem ushiftRight_eq_ofNat (x : Word) (n : Nat) : x >>> n = BitVec.ofNat 32 (x.toNat / 2 ^ n) :=
  BitVec.eq_of_toNat_eq <| by
    have hlt : x.toNat / 2 ^ n < 2 ^ 32 := (Nat.div_le_self _ _).trans_lt x.isLt
    rw [BitVec.toNat_ushiftRight, BitVec.toNat_ofNat, Nat.mod_eq_of_lt hlt, Nat.shiftRight_eq_div_pow]

theorem add_imm12_eq (x : Word) (v : BitVec 12) : x + imm12 v = BitVec.ofInt 32 (x.toInt + v.toInt) := by
  rw [BitVec.ofInt_add, BitVec.ofInt_toInt]; rfl

theorem toInt_beq (x y : Word) : (x.toInt == y.toInt) = (x == y) := by
  rw [Bool.eq_iff_iff, beq_iff_eq, beq_iff_eq, BitVec.toInt_inj]

/-- An immediate of 12 bits fits a word: equal as numbers is equal as words. -/
theorem toInt_beq_imm12 (x : Word) (v : BitVec 12) : (x.toInt == v.toInt) = (x == BitVec.ofInt 32 v.toInt) := by
  have hv : (BitVec.ofInt 32 v.toInt).toInt = v.toInt := BitVec.toInt_signExtend_of_le (by omega)
  rw [← toInt_beq, hv]

/-! ### The compute part of an operation that sets NF and ZF -/

/-- A change of d registers followed by NF and ZF is all that a spec without accumulators and saturation asks for. -/
theorem RunSpec.of_setNZ {p : StakeOp} {a b y : Arch} {f : Arch → Bool × Bool} (hacc : p.acc = [])
    (hsat : p.sat a = false) (hnz : p.nz = some f) (hb : ∃ q, b = { a with p := q }) (hy : ∃ d, y = { b with d := d })
    (hd : ∀ e ∈ p.d, y.rd e.1 = e.2 a) (hkeep : ∀ j, j ∉ p.d.map (·.1) → y.rd j = a.rd j) :
    RunSpec p a b (y.setNZ (f a).1 (f a).2) := by
  obtain ⟨q, rfl⟩ := hb
  obtain ⟨d, rfl⟩ := hy
  have hbit : ∀ i, i ≠ 8 → i ≠ 9 →
      bitAt (Arch.setNZ { { a with p := q } with d := d } (f a).1 (f a).2).st i = bitAt a.st i := by
    intro i h8 h9
    rw [Arch.bit_setNZ, if_neg h8, if_neg h9]
  exact {
    d := hd
    d_keep := hkeep
    acc := by simp [hacc]
    acc_keep := fun _ _ => rfl
    ac_keep := fun n _ _ => hbit _ (by omega) (by omega)
    nz := by simp [hnz, Arch.nf, Arch.zf, Arch.bit_setNZ]
    rnd := bitsOf_congr fun i _ _ => hbit i (by omega) (by omega)
    sticks := fun i hi h => (hbit i (by omega) (by omega)).trans h
    sat := by simp [hsat]
    calm := fun _ _ i hi => hbit i (by omega) (by omega)
    addr := ⟨rfl, rfl, rfl, rfl, rfl⟩
    flow := ⟨rfl, rfl⟩ }

section
variable {i : Instr} {k : Fin 128} {m : RSlots}

/-- An instruction that issues as one result into d[D], with NF and ZF from it, meets the spec of that result. -/
theorem aluTo_holds {d : Fin 32} (f : Arch → Word) (use : List Nat)
    (hx : ∀ s, exec i s = .next (s.issue k.val (rOp m [d.val]
      { dUse := use, nz := true, run := fun o r => (r.setD d.val (f o)).flagsOf (f o) })))
    (hf : ∀ (o : Arch) (st : List PStore), f { o with stores := st } = f o) : (aluTo k m d f).holds i := by
  refine StakeOp.holds_of _ hx ⟨rfl, rfl, rfl⟩ rfl rfl rfl (fun hl => ?_) ?_ (fun a b hb => ?_) (fun _ _ => rfl)
  · simpa [aluTo, rOp, RSlots.full] using hl
  · exact {
      d := by simpa [aluTo] using hf
      acc := by simp [aluTo]
      nz := by rintro _ ⟨⟩ o st; simp only [hf]
      sat := fun _ _ => rfl }
  · have h := RunSpec.of_setNZ (p := aluTo k m d f) (y := b.setD d.val (f a)) rfl rfl rfl hb ⟨_, rfl⟩
      (by simp [aluTo]) fun j hj => by
        obtain ⟨q, rfl⟩ := hb
        have hj' : j ≠ d.val := by simpa [aluTo] using hj
        rw [Arch.rd_setD, if_neg hj']; rfl
    rw [← bitAt_31] at h
    exact h

/-- The two-operand form: `g` is what the model computes and `f` the spec's value. -/
theorem aluOp_holds {d x y : Fin 32} {f : Arch → Word} {g : Word → Word → Word}
    (hx : ∀ s, exec i s = .next (s.issue k.val (aluOp m d x y g)))
    (h : ∀ o : Arch, g (o.rd x.val) (o.rd y.val) = f o) : (aluTo k m d f).holds i := by
  obtain rfl : _ = f := funext h
  exact aluTo_holds _ _ hx fun _ _ => rfl

/-- The one-operand form. -/
theorem alu1Op_holds {d x : Fin 32} {f : Arch → Word} {g : Word → Word}
    (hx : ∀ s, exec i s = .next (s.issue k.val (alu1Op m d x g))) (h : ∀ o : Arch, g (o.rd x.val) = f o) :
    (aluTo k m d f).holds i := by
  obtain rfl : _ = f := funext h
  exact aluTo_holds _ _ hx fun _ _ => rfl

/-- A comparison writes no register: NF for less and ZF for equal, as the spec's pair gives them. -/
theorem cmpOp_holds {use : List Nat} {c : Arch → Int × Int} {f : Arch → Bool × Bool}
    (hx : ∀ s, exec i s = .next (s.issue k.val (cmpOp m use c)))
    (h : ∀ o, f o = (decide ((c o).1 < (c o).2), (c o).1 == (c o).2))
    (hf : ∀ (o : Arch) (st : List PStore), c { o with stores := st } = c o) :
    StakeOp.holds i { k := k, m := m.full, nz := some f } := by
  refine StakeOp.holds_of _ hx ⟨rfl, rfl, rfl⟩ rfl rfl rfl (fun hl => ?_) ?_ (fun a b hb => ?_) (fun _ _ => rfl)
  · simpa [cmpOp, rOp, RSlots.full] using hl
  · exact {
      d := by simp
      acc := by simp
      nz := by rintro _ ⟨⟩ o st; rw [h, h, hf]
      sat := fun _ _ => rfl }
  · have hr := RunSpec.of_setNZ (p := { k := k, m := m.full, nz := some f }) (y := b) rfl rfl rfl hb ⟨_, rfl⟩
      (by simp) fun j _ => by obtain ⟨q, rfl⟩ := hb; rfl
    rw [h] at hr
    exact hr

end

/-! ### The obligation -/

/-- Settles O12: each operation of R121 issues as one result with NF and ZF, or as a comparison, and the word that the
model computes is the value of R121. -/
theorem stakeAluResults : Obligations.StakeAluResults := by
  intro i p h
  cases i with
  | add => cases h; exact aluOp_holds (fun _ => rfl) fun _ => add_eq_ofNat_toNat _ _
  | sub => cases h; exact aluOp_holds (fun _ => rfl) fun _ => sub_eq_ofInt_toInt _ _
  | adds => cases h; exact aluOp_holds (fun _ => rfl) fun _ => clampWord_eq_limitWord _
  | subs => cases h; exact aluOp_holds (fun _ => rfl) fun _ => clampWord_eq_limitWord _
  | and => cases h; exact aluOp_holds (fun _ => rfl) fun _ => rfl
  | or => cases h; exact aluOp_holds (fun _ => rfl) fun _ => rfl
  | xor => cases h; exact aluOp_holds (fun _ => rfl) fun _ => rfl
  | min => cases h; exact aluOp_holds (fun _ => rfl) fun _ => minWord_eq _ _
  | max => cases h; exact aluOp_holds (fun _ => rfl) fun _ => maxWord_eq _ _
  | shl => cases h; exact aluOp_holds (fun _ => rfl) fun _ => shiftLeft_eq_ofNat _ _
  | shr => cases h; exact aluOp_holds (fun _ => rfl) fun _ => ushiftRight_eq_ofNat _ _
  | shra => cases h; exact aluOp_holds (fun _ => rfl) fun _ => rfl
  | neg => cases h; exact alu1Op_holds (fun _ => rfl) fun _ => clampWord_eq_limitWord _
  | abs => cases h; exact alu1Op_holds (fun _ => rfl) fun _ => Int.natCast_natAbs _ ▸ clampWord_eq_limitWord _
  | not => cases h; exact alu1Op_holds (fun _ => rfl) fun _ => rfl
  | addi => cases h; exact alu1Op_holds (fun _ => rfl) fun _ => add_imm12_eq _ _
  | andi => cases h; exact alu1Op_holds (fun _ => rfl) fun _ => rfl
  | shli => cases h; exact alu1Op_holds (fun _ => rfl) fun _ => shiftLeft_eq_ofNat _ _
  | shri => cases h; exact alu1Op_holds (fun _ => rfl) fun _ => ushiftRight_eq_ofNat _ _
  | shrai => cases h; exact alu1Op_holds (fun _ => rfl) fun _ => rfl
  | cmp => cases h; exact cmpOp_holds (fun _ => rfl) (fun _ => congrArg _ (toInt_beq _ _).symm) fun _ _ => rfl
  | cmpi => cases h; exact cmpOp_holds (fun _ => rfl) (fun _ => congrArg _ (toInt_beq_imm12 _ _).symm) fun _ _ => rfl
  | _ => cases h

end Sys2Proof.Machine
end

section
/-! SUPPORT. Proofs/StakeStop.lean: what the done signal and the stop of a stake change, and what they leave. -/
namespace Sys2Proof.Machine

open Reg

/-! ### Frames that keep a field of a changed register -/

theorem Frame.rf {regs : List Nat} {pieces : List Piece} {s t : State} (h : Frame regs pieces s t) {f : RegField}
    (hf : f.reg ∉ regs) : t.rf f = s.rf f := by
  rw [State.rf, State.rf, h.1 _ hf]

/-- A frame that keeps one field as well, though its register may be among those that change. -/
structure FrameKeeping (g : RegField) (regs : List Nat) (pieces : List Piece) (s t : State) : Prop where
  frame : Frame regs pieces s t
  field : t.rf g = s.rf g

namespace FrameKeeping

variable {g : RegField} {regs r : List Nat} {pieces p : List Piece} {s t u : State}

theorem flag (h : FrameKeeping g regs pieces s t) : t.flag g = s.flag g := by rw [State.flag, State.flag, h.field]

theorem refl (s : State) : FrameKeeping g regs pieces s s := ⟨Frame.refl _ _ s, rfl⟩

theorem trans (h1 : FrameKeeping g regs pieces s t) (h2 : FrameKeeping g regs pieces t u) :
    FrameKeeping g regs pieces s u := ⟨h1.frame.trans h2.frame, h2.field.trans h1.field⟩

theorem ite (b : Prop) [Decidable b] (h : FrameKeeping g regs pieces s t) :
    FrameKeeping g regs pieces s (if b then t else s) := by
  split
  · exact h
  · exact refl s

/-- A frame that the field's register is not in. -/
theorem of_frame (h : Frame r p s t) (hg : g.reg ∉ r := by simp) (hr : ∀ a ∈ r, a ∈ regs := by simp)
    (hp : ∀ x ∈ p, x ∈ pieces := by simp) : FrameKeeping g regs pieces s t := ⟨h.mono hr hp, h.rf hg⟩

/-- An event bit raised apart from the field. -/
theorem raise (s : State) {f : RegField} (hd : g.reg ≠ f.reg ∨ g.hi < f.lo ∨ f.hi < g.lo)
    (hr : f.reg ∈ regs := by simp) (h : f.lo ≤ f.hi := by simp) (h32 : f.hi < 32 := by simp) :
    FrameKeeping g regs pieces s (s.raise f) where
  frame := (Frame.raise s f).mono (by simpa using hr) (by simp)
  field := s.rf_sf_ne 1 h h32 hd

end FrameKeeping

/-! ### Updates of stakes, clusters, time and event bits -/

theorem State.stake_congr {s t : State} (h : t.compute = s.compute) (j : Nat) : t.stake j = s.stake j := by
  rw [State.stake, State.stake, h]

theorem State.stake_setStake_ite (s : State) (k j : Nat) (x : Stake) :
    (s.setStake k x).stake j = if j = k then x else s.stake j := mget_mset _ _ _ _ _

theorem State.cluster_setCluster (s : State) (c : Nat) (x : Cluster) : (s.setCluster c x).cluster c = x :=
  mget_mset_self _ _ _ _

@[simp] theorem State.stake_setCluster (s : State) (c : Nat) (x : Cluster) (j : Nat) :
    (s.setCluster c x).stake j = s.stake j := rfl

@[simp] theorem State.bit_setCluster (s : State) (c : Nat) (x : Cluster) (a i : Nat) :
    (s.setCluster c x).bit a i = s.bit a i := rfl

@[simp] theorem State.stake_raise (s : State) (f : RegField) (j : Nat) : (s.raise f).stake j = s.stake j := rfl

@[simp] theorem State.stake_setBit (s : State) (a i j : Nat) : (s.setBit a i).stake j = s.stake j := rfl

theorem State.bit_raise_ne (s : State) {f : RegField} {a : Nat} (h : a ≠ f.reg) (i : Nat) :
    (s.raise f).bit a i = s.bit a i := by
  rw [State.bit, s.reg_raise_ne h, State.bit]

theorem Frame.withCompute (s : State) (x : Compute) : Frame [] [.compute] s { s with compute := x } :=
  ⟨fun _ _ => rfl, fun p hp => by cases p <;> simp_all [Piece.same, State.byte]⟩

theorem Frame.setStake (s : State) (k : Nat) (x : Stake) : Frame [] [.compute] s (s.setStake k x) :=
  Frame.withCompute s _

theorem Frame.setCluster (s : State) (c : Nat) (x : Cluster) : Frame [] [.compute] s (s.setCluster c x) :=
  Frame.withCompute s _

theorem Frame.moveTo (s : State) (t : Nat) : Frame [] [.now] s (s.moveTo t) :=
  ⟨fun _ _ => rfl, fun p hp => by cases p <;> simp_all [Piece.same, State.byte, State.moveTo]⟩

theorem Frame.freshEcc (s : State) (a : Nat) : Frame [] [.ecc] s (s.freshEcc a) :=
  ⟨fun _ _ => rfl, fun p hp => by cases p <;> simp_all [Piece.same, State.byte, State.freshEcc]⟩

theorem Frame.withPair (s : State) (x : Pair) : Frame [] [.pair] s { s with pair := x } :=
  ⟨fun _ _ => rfl, fun p hp => by cases p <;> simp_all [Piece.same, State.byte]⟩

theorem Frame.setBit (s : State) (a i : Nat) : Frame [a] [] s (s.setBit a i) :=
  (Frame.setReg s a _).trans ((Frame.noteEvent _ _ _).mono (by simp) (by simp))

theorem State.bit_setBit (s : State) (a j : Nat) {i : Nat} (h : i < 32) :
    (s.setBit a i).bit a j = (s.bit a j || j == i) := by
  have hreg : (s.setBit a i).reg a = setBits (s.reg a) i i 1 := s.reg_setReg_self a _
  rw [State.bit, hreg, bitAt_setBits _ _ _ _ h]
  by_cases hj : j = i
  · simp [hj]
  · simp [hj, State.bit]

/-! ### Stores carried out (R100) -/

theorem State.storeWord_frame (s : State) (a : Nat) (v : Word) : Frame [] [.mem, .ecc, .pair] s (s.storeWord a v) := by
  obtain ⟨-, -, -, hmem⟩ := State.frame_setBytes (leBytes v.toNat 4) s a
  have hecc := (Frame.freshEcc (s.setWord a v) a).mono (p2 := [.mem, .ecc, .pair]) (fun _ h => h) (by simp)
  exact ((hmem.mono (by simp) (by simp)).trans hecc).trans
    ((State.frame_mirrorNote _ a v false).mono (by simp) (by simp))

theorem State.commit_frame (s : State) (l : List PStore) : Frame [] [.mem, .ecc, .pair] s (s.commit l) :=
  List.foldlRecOn (motive := fun t => Frame [] [.mem, .ecc, .pair] s t) _ _ (Frame.refl _ _ s)
    fun t h x _ => h.trans (t.storeWord_frame x.addr x.data)

theorem State.commit_compute (s : State) (l : List PStore) : (s.commit l).compute = s.compute :=
  (s.commit_frame l).2 .compute (by simp)

/-! ### The done signal (R102, R105, R148) -/

/-- A stake after its done signal at a cycle. -/
def Stake.signalled (x : Stake) (cyc : Nat) : Stake :=
  { x with
    run := .done, cycLast := cyc, cycMax := max x.cycMax cyc, stCopy := x.arch.st, doneAt := none,
    arch := { x.arch with stores := [] } }

theorem State.regsNote_frame (s : State) (k : Nat) : Frame [] [.pair] s (s.regsNote k) := by
  unfold State.regsNote
  extract_lets due
  split
  · exact Frame.withPair s _
  · exact Frame.refl _ _ s

/-- Of CL_EVT the done signal raises WCC_EXCEED alone. -/
theorem State.signalDone_frame (s : State) (k cyc : Nat) {g : RegField} (hg : g.reg ≠ TRUST_EVT)
    (hd : g.reg ≠ CL_EVT (k / 8) ∨ g.hi < 3 ∨ 3 < g.lo) :
    FrameKeeping g [CL_EVT (k / 8), TRUST_EVT] [.compute, .mem, .ecc, .pair, .trust] s (s.signalDone k cyc) := by
  have hexceed (t : State) : FrameKeeping g [CL_EVT (k / 8), TRUST_EVT] [.compute, .mem, .ecc, .pair, .trust] t
      ((t.raise (CL_EVT_WCC_EXCEED (k / 8))).wardenEvent 15 [k, cyc]) :=
    (FrameKeeping.raise t hd).trans (.of_frame (State.logRec_frame _ _ _) (by simpa using hg))
  exact (((FrameKeeping.of_frame (s.commit_frame _)).trans (.of_frame (Frame.setStake _ k _))).trans
    (.of_frame (State.regsNote_frame _ k))).trans (.ite _ (hexceed _))

theorem State.signalDone_compute (s : State) (k cyc : Nat) :
    (s.signalDone k cyc).compute = (s.setStake k ((s.stake k).signalled cyc)).compute := by
  have hexceed (t : State) (b : Prop) [Decidable b] (f : RegField) (l : List Nat) :
      (if b then (t.raise f).wardenEvent 15 l else t).compute = t.compute := by
    split
    · exact (State.logRec_frame _ _ _).2 .compute (by simp)
    · rfl
  have himage (t : State) : (t.regsNote k).compute = t.compute := (t.regsNote_frame k).2 .compute (by simp)
  unfold State.signalDone
  dsimp only
  rw [hexceed, himage]
  simp only [State.setStake, State.commit_compute, Stake.signalled]

theorem State.stake_signalDone (s : State) (k cyc j : Nat) :
    (s.signalDone k cyc).stake j = if j = k then (s.stake k).signalled cyc else s.stake j := by
  rw [State.stake_congr (s.signalDone_compute k cyc), State.stake_setStake_ite]

theorem State.cluster_signalDone (s : State) (k cyc c : Nat) : (s.signalDone k cyc).cluster c = s.cluster c := by
  rw [State.cluster, s.signalDone_compute]; rfl

/-! ### The stop by a fault (R106, R149) -/

/-- A stake stopped by a fault at an address. -/
def Stake.stopped (x : Stake) (code pc : Nat) : Stake :=
  { x with
    run := .stopped, fault := code, lastPc := pc, stCopy := x.arch.st, frz := [],
    arch := if x.reqs = [] then { x.arch with stores := [] } else x.arch }

theorem State.drainStores_frame (s : State) (k : Nat) :
    Frame [] [.compute, .mem, .ecc, .pair] s (s.drainStores k) := by
  unfold State.drainStores
  dsimp only
  split
  · exact ((s.commit_frame _).mono (by simp) (by simp)).trans ((Frame.setStake _ k _).mono (by simp) (by simp))
  · exact Frame.refl _ _ s

theorem State.stake_drainStores (s : State) (k j : Nat) :
    (s.drainStores k).stake j = if j = k then
        { s.stake k with
          arch := if (s.stake k).reqs = [] then { (s.stake k).arch with stores := [] } else (s.stake k).arch }
      else s.stake j := by
  unfold State.drainStores
  dsimp only
  split
  · rw [State.stake_setStake_ite, State.stake_congr (State.commit_compute _ _)]
  · split
    · next hj => rw [hj]
    · rfl

/-- Of CL_STAT the stop sets the stake's bit of FAULT_MAP, of CL_EVT it raises FAULT alone. -/
theorem State.stopStake_frame (s : State) (k code pc : Nat) {g : RegField} (hg : g.reg ≠ CL_STAT (k / 8))
    (hd : g.reg ≠ CL_EVT (k / 8) ∨ g.hi < 1 ∨ 1 < g.lo) :
    FrameKeeping g [CL_STAT (k / 8), CL_EVT (k / 8)] [.compute, .mem, .ecc, .pair] s (s.stopStake k code pc) :=
  ((((FrameKeeping.of_frame (Frame.setStake s k _)).trans (.of_frame (State.drainStores_frame _ k))).trans
    (.of_frame (Frame.setBit _ _ (k % 8)) (by simpa using hg))).trans (.raise (f := CL_EVT_FAULT (k / 8)) _ hd)).trans
    (.of_frame (Frame.setCluster _ _ _))

theorem State.stake_stopStake (s : State) (k code pc j : Nat) :
    (s.stopStake k code pc).stake j = if j = k then (s.stake k).stopped code pc else s.stake j := by
  unfold State.stopStake
  dsimp only
  rw [State.stake_setCluster, State.stake_raise, State.stake_setBit, State.stake_drainStores, State.stake_setStake]
  split
  · rfl
  · next hj => exact State.stake_setStake_ne s hj _

theorem State.bit_stopStake (s : State) (k code pc i : Nat) :
    (s.stopStake k code pc).bit (CL_STAT (k / 8)) i = (s.bit (CL_STAT (k / 8)) i || i == k % 8) := by
  have hdrain (x : Stake) : ((s.setStake k x).drainStores k).bit (CL_STAT (k / 8)) i = s.bit (CL_STAT (k / 8)) i :=
    congrArg (bitAt · i) ((State.drainStores_frame _ k).1 _ (by simp))
  unfold State.stopStake
  dsimp only
  rw [State.bit_setCluster, State.bit_raise_ne _ (by simp), State.bit_setBit _ _ _ (by omega), hdrain]

end Sys2Proof.Machine
end

section
/-! SUPPORT. Proofs/BudgetPoint.lean: the budget point of a cluster (R132, R147): done signals that come by it, then the
stop of the stakes still RUNNING, then the events and summaries. -/
namespace Sys2Proof.Machine

open Reg

/-! ### Folds over the stakes of a cluster -/

theorem mem_stakesOf {c k : Nat} : k ∈ stakesOf c ↔ k / 8 = c := by
  simp only [stakesOf, List.mem_map, List.mem_range]
  constructor
  · rintro ⟨j, hj, rfl⟩
    omega
  · intro h
    exact ⟨k % 8, by omega, by omega⟩

theorem nodup_stakesOf (c : Nat) : (stakesOf c).Nodup :=
  List.nodup_range.map fun a b (h : 8 * c + a = 8 * c + b) => by omega

/-- A fold over distinct stakes whose steps keep a property of the state and each change their own stake alone. -/
theorem State.foldl_stakes {f : State → Nat → State} {g : Stake → Stake} {P : State → Prop} {l : List Nat}
    (hf : ∀ t k, k ∈ l → P t → P (f t k) ∧ ∀ j, (f t k).stake j = if j = k then g (t.stake k) else t.stake j)
    (hl : l.Nodup) {s : State} (hs : P s) :
    P (l.foldl f s) ∧ ∀ j, (l.foldl f s).stake j = if j ∈ l then g (s.stake j) else s.stake j := by
  induction l generalizing s with
  | nil => exact ⟨hs, by simp⟩
  | cons k l ih =>
    obtain ⟨hk, hl⟩ := List.nodup_cons.1 hl
    obtain ⟨hP, hstake⟩ := hf s k List.mem_cons_self hs
    obtain ⟨hP', hrest⟩ := ih (fun t i hi => hf t i (List.mem_cons_of_mem k hi)) hl hP
    refine ⟨hP', fun j => ?_⟩
    rw [List.foldl_cons, hrest, hstake]
    by_cases hj : j = k
    · subst hj
      simp [hk]
    · simp [hj]

/-! ### The done signals by the budget point (R131, R132) -/

/-- The done signal comes six cycles after DONE and all coil waits that hold DONE (R102, R105). -/
theorem Stake.doneCyc_eq (x : Stake) : x.doneCyc = x.doneAt.map fun d => d + 6 + (x.frz.map (·.2)).sum := by
  have hsum : ∀ (l : List (Nat × Nat)) (a : Nat), l.foldl (fun v e => v + e.2) a = a + (l.map (·.2)).sum := by
    intro l
    induction l with
    | nil => simp
    | cons e l ih => intro a; simp [ih, Nat.add_assoc]
  simp only [Stake.doneCyc, hsum]

/-- Whether a stake in cluster `c` waits for no coil access and signals done by the budget point, with 64 cycles for each
hand-over. -/
def State.dueByBudget (s : State) (c : Nat) (x : Stake) : Bool :=
  x.reqs.isEmpty && x.doneAt.any fun d =>
    decide ((s.cluster c).base + 64 * (s.cluster c).wale + (d + 6 + (x.frz.map (·.2)).sum) ≤ s.budgetCycles c)

theorem State.inTime_eq (s : State) (k : Nat) :
    s.inTime k 64 = ((s.stake k).run == .running && s.dueByBudget (k / 8) (s.stake k)) := by
  unfold State.inTime State.dueByBudget
  rw [Stake.doneCyc_eq]
  cases (s.stake k).doneAt with
  | none => simp
  | some d => rw [Bool.eq_iff_iff]; simp [Nat.mul_comm, and_assoc]

/-- A stake of cluster `c` after the done signals that come by the budget point. -/
def State.afterSignals (s : State) (c : Nat) (x : Stake) : Stake :=
  if x.run = .running ∧ s.dueByBudget c x = true then x.signalled (x.doneCyc.getD 0) else x

/-- What the done signals of a cluster leave: its record, the budget event, and all that R18 and R131 reckon with. -/
structure SignalsKeep (c : Nat) (s t : State) : Prop where
  keeping : FrameKeeping (CL_EVT_BUDGET c) [CL_EVT c, TRUST_EVT] [.compute, .mem, .ecc, .pair, .trust] s t
  cluster : t.cluster c = s.cluster c

theorem SignalsKeep.dueByBudget {c : Nat} {s t : State} (h : SignalsKeep c s t) (x : Stake) :
    t.dueByBudget c x = s.dueByBudget c x := by
  have hop : t.clOp c = s.clOp c := h.keeping.frame.rf (by simp [CL_STAT, CL_EVT, TRUST_EVT]; omega)
  have hsys : t.sys = s.sys := h.keeping.frame.2 .sys (by simp)
  have hskein : t.skein = s.skein := h.keeping.frame.2 .skein (by simp)
  rw [State.dueByBudget, State.dueByBudget, State.budgetCycles, State.budgetCycles, hop, hsys, hskein, h.cluster]

theorem SignalsKeep.signalDone {c k : Nat} {s t : State} (h : SignalsKeep c s t) (hk : k / 8 = c) (cyc : Nat) :
    SignalsKeep c s (t.signalDone k cyc) where
  keeping := h.keeping.trans (hk ▸ t.signalDone_frame k cyc (by simp [CL_EVT, TRUST_EVT]; omega) (by simp))
  cluster := (t.cluster_signalDone k cyc c).trans h.cluster

theorem State.lateSignals_spec (s : State) (c : Nat) : SignalsKeep c s (s.lateSignals c)
    ∧ ∀ k, (s.lateSignals c).stake k = if k / 8 = c then s.afterSignals c (s.stake k) else s.stake k := by
  simp only [← mem_stakesOf]
  refine State.foldl_stakes (P := SignalsKeep c s) (fun t k hk h => ?_) (nodup_stakesOf c) ⟨.refl s, rfl⟩
  have hk := mem_stakesOf.1 hk
  have hafter : s.afterSignals c (t.stake k)
      = if t.inTime k 64 then (t.stake k).signalled ((t.stake k).doneCyc.getD 0) else t.stake k := by
    simp [State.afterSignals, State.inTime_eq, hk, h.dueByBudget]
  have hsame (j : Nat) : t.stake j = if j = k then t.stake k else t.stake j := by
    split
    · next hj => rw [hj]
    · rfl
  rw [hafter]
  cases hd : (t.stake k).doneCyc with
  | none =>
    have hlate : t.inTime k 64 = false := by simp [State.inTime, hd]
    simp only [hlate]
    exact ⟨h, hsame⟩
  | some cyc =>
    cases t.inTime k 64 with
    | true => exact ⟨h.signalDone hk cyc, t.stake_signalDone k cyc⟩
    | false => exact ⟨h, hsame⟩

/-! ### The stop of the stakes still RUNNING (R147) -/

/-- The stakes of a list stopped with BUDGET, each at its last address. -/
def State.stopLate (s : State) (l : List Nat) : State := l.foldl (fun t k => t.stopStake k fBudget (t.stake k).lastPc) s

theorem State.stopLate_spec (s : State) {c : Nat} {l : List Nat} (hc : ∀ k ∈ l, k / 8 = c) (hl : l.Nodup) :
    FrameKeeping (CL_EVT_BUDGET c) [CL_STAT c, CL_EVT c] [.compute, .mem, .ecc, .pair] s (s.stopLate l)
      ∧ ∀ k, (s.stopLate l).stake k = if k ∈ l then (s.stake k).stopped fBudget (s.stake k).lastPc else s.stake k := by
  refine State.foldl_stakes (g := fun x => x.stopped fBudget x.lastPc)
    (P := FrameKeeping (CL_EVT_BUDGET c) [CL_STAT c, CL_EVT c] [.compute, .mem, .ecc, .pair] s)
    (fun t k hk h => ⟨?_, t.stake_stopStake k _ _⟩) hl (.refl s)
  obtain rfl := hc k hk
  exact h.trans (t.stopStake_frame k _ _ (by simp) (by simp))

theorem State.bit_stopLate (s : State) {c : Nat} (i : Nat) {l : List Nat} (hc : ∀ k ∈ l, k / 8 = c) :
    (s.stopLate l).bit (CL_STAT c) i = (s.bit (CL_STAT c) i || l.any fun k => i == k % 8) := by
  induction l generalizing s with
  | nil => simp [State.stopLate]
  | cons k l ih =>
    obtain rfl := hc k List.mem_cons_self
    rw [State.stopLate, List.foldl_cons, ← State.stopLate, ih _ fun j hj => hc j (List.mem_cons_of_mem k hj),
      State.bit_stopStake, List.any_cons, Bool.or_assoc]

/-! ### The phases of the budget point -/

/-- The instant of the budget point: 40 ns and the budget's stake cycles after the boundary. -/
def State.budgetInstant (s : State) (c : Nat) : Nat := s.sys.roundStart + 240 + s.budgetCycles c * 24 / (s.clOp c + 1)

/-- The state at the budget point once the done signals that come by it have been made. -/
def State.atBudget (s : State) (c : Nat) : State := (s.moveTo (s.budgetInstant c)).lateSignals c

/-- The stakes of a cluster still RUNNING. -/
def State.runningStakes (s : State) (c : Nat) : List Nat := (stakesOf c).filter fun k => (s.stake k).run == .running

/-- Whether the schedule enables a stake of a cluster in a wale after `w`. -/
def State.laterWale (s : State) (c w : Nat) : Bool := (stakesOf c).any fun k => s.schedEn k && Nat.blt w (s.schedWale k)

/-- CL_EVT.BUDGET raised on a condition. -/
def State.noteBudget (s : State) (c : Nat) (b : Bool) : State := if b then s.raise (CL_EVT_BUDGET c) else s

theorem State.noteBudget_frame (s : State) (c : Nat) (b : Bool) : Frame [CL_EVT c] [] s (s.noteBudget c b) := by
  cases b with
  | true => exact Frame.raise s (CL_EVT_BUDGET c)
  | false => exact Frame.refl _ _ s

theorem State.flag_noteBudget (s : State) (c : Nat) (b : Bool) :
    (s.noteBudget c b).flag (CL_EVT_BUDGET c) = (s.flag (CL_EVT_BUDGET c) || b) := by
  cases b with
  | true => rw [Bool.or_true]; exact s.flag_raise_self _ rfl (by simp)
  | false => rw [Bool.or_false]; rfl

theorem State.afterSignals_running (s : State) (c : Nat) (x : Stake) :
    (s.afterSignals c x).run = .running ↔ x.run = .running ∧ s.dueByBudget c x = false := by
  unfold State.afterSignals
  split
  · next h => simp [Stake.signalled, h]
  · next h => simpa using h

theorem State.atBudget_keep (s : State) (c : Nat) : SignalsKeep c (s.moveTo (s.budgetInstant c)) (s.atBudget c) :=
  ((s.moveTo _).lateSignals_spec c).1

theorem State.stake_atBudget (s : State) (c k : Nat) :
    (s.atBudget c).stake k = if k / 8 = c then s.afterSignals c (s.stake k) else s.stake k :=
  ((s.moveTo _).lateSignals_spec c).2 k

theorem State.mem_runningStakes_atBudget (s : State) (c k : Nat) : k ∈ (s.atBudget c).runningStakes c ↔
    k / 8 = c ∧ (s.stake k).run = .running ∧ s.dueByBudget c (s.stake k) = false := by
  rw [State.runningStakes, List.mem_filter, mem_stakesOf, beq_iff_eq, State.stake_atBudget]
  refine and_congr_right fun hk => ?_
  rw [if_pos hk, State.afterSignals_running]

theorem State.laterWale_atBudget (s : State) {c : Nat} (w : Nat) : (s.atBudget c).laterWale c w = s.laterWale c w := by
  have hframe := (s.atBudget_keep c).keeping.frame
  have hen (k : Nat) : (s.atBudget c).schedEn k = s.schedEn k := by
    rw [State.schedEn, State.flag, hframe.rf (by simp [CL_SCHED, CL_EVT, TRUST_EVT]; omega)]; rfl
  have hwale (k : Nat) : (s.atBudget c).schedWale k = s.schedWale k :=
    hframe.rf (by simp [CL_SCHED, CL_EVT, TRUST_EVT]; omega)
  simp only [State.laterWale, hen, hwale]

theorem State.nodup_runningStakes (s : State) (c : Nat) : (s.runningStakes c).Nodup := (nodup_stakesOf c).filter _

theorem State.cluster_of_mem_runningStakes {s : State} {c k : Nat} (h : k ∈ s.runningStakes c) : k / 8 = c :=
  mem_stakesOf.1 (List.mem_of_mem_filter h)

/-- The state once the late stakes are stopped. -/
def State.afterStops (s : State) (c : Nat) : State := (s.atBudget c).stopLate ((s.atBudget c).runningStakes c)

theorem State.afterStops_keep (s : State) (c : Nat) : FrameKeeping (CL_EVT_BUDGET c) [CL_STAT c, CL_EVT c]
    [.compute, .mem, .ecc, .pair] (s.atBudget c) (s.afterStops c) :=
  ((s.atBudget c).stopLate_spec (fun _ => State.cluster_of_mem_runningStakes) (State.nodup_runningStakes _ c)).1

/-- A stake whose done signal does not come is stopped; every other stake is as the done signals left it. -/
theorem State.stake_afterStops (s : State) (c k : Nat) : (s.afterStops c).stake k =
    if k / 8 = c ∧ (s.stake k).run = .running ∧ s.dueByBudget c (s.stake k) = false
    then (s.stake k).stopped fBudget (s.stake k).lastPc
    else if k / 8 = c then s.afterSignals c (s.stake k) else s.stake k := by
  rw [State.afterStops,
    (State.stopLate_spec _ (fun _ => State.cluster_of_mem_runningStakes) (State.nodup_runningStakes _ c)).2,
    State.stake_atBudget]
  simp only [State.mem_runningStakes_atBudget]
  split
  · next h =>
    obtain ⟨hk, -, hdue⟩ := h
    have hsame : s.afterSignals c (s.stake k) = s.stake k := if_neg (by simp [hdue])
    rw [if_pos hk, hsame]
  · rfl

/-! ### The budget point as a whole -/

/-- After the done signals come the stops and the budget event; what follows changes the summary registers and other
event bits alone, before the cluster is past its budget point. -/
theorem State.budgetPoint_eq (s : State) {c : Nat} (hrun : s.clState c = clRunning)
    (hbudget : (s.cluster c).budget = false) (hmissed : (s.cluster c).missed = false) :
    ∃ u, FrameKeeping (CL_EVT_BUDGET c) [CL_OVF c, CL_OVF_STK c, CL_EVT c, CL_DMA_STAT c] []
        ((s.afterStops c).noteBudget c
          ((s.atBudget c).runningStakes c != [] || (s.atBudget c).laterWale c (s.cluster c).wale)) u
      ∧ s.budgetPoint c = u.setCluster c { u.cluster c with budget := true } := by
  have hcount (t : State) : FrameKeeping (CL_EVT_BUDGET c) [CL_OVF c, CL_OVF_STK c, CL_EVT c, CL_DMA_STAT c] [] t
      (t.countUp (CL_DMA_STAT_LATE_CNT c)) := .ite _ (.of_frame (Frame.sf t _ _))
  unfold State.budgetPoint
  dsimp only
  rw [if_pos ⟨hrun, hbudget, hmissed⟩]
  refine ⟨_, ?_, rfl⟩
  exact (((FrameKeeping.of_frame (Frame.setReg _ (CL_OVF c) _)).trans
    (.of_frame (Frame.setReg _ (CL_OVF_STK c) _))).trans
    (.ite _ (.raise (f := CL_EVT_OVF c) _ (by simp)))).trans
    (.ite _ ((FrameKeeping.raise (f := CL_EVT_DMA_LATE c) _ (by simp)).trans (hcount _)))

section
variable {s : State} {c : Nat} (hrun : s.clState c = clRunning) (hbudget : (s.cluster c).budget = false)
  (hmissed : (s.cluster c).missed = false)
include hrun hbudget hmissed

theorem State.budgetPoint_frame :
    Frame [CL_OVF c, CL_OVF_STK c, CL_EVT c, CL_DMA_STAT c] [.compute] (s.afterStops c) (s.budgetPoint c) := by
  obtain ⟨u, hu, heq⟩ := s.budgetPoint_eq hrun hbudget hmissed
  rw [heq]
  exact (((State.noteBudget_frame _ _ _).mono (by simp) (by simp)).trans (hu.frame.mono (fun _ h => h) (by simp))).trans
    ((Frame.setCluster u _ _).mono (by simp) (by simp))

theorem State.stake_budgetPoint (k : Nat) : (s.budgetPoint c).stake k = (s.afterStops c).stake k := by
  obtain ⟨u, hu, heq⟩ := s.budgetPoint_eq hrun hbudget hmissed
  rw [heq, State.stake_setCluster, State.stake_congr (hu.frame.2 .compute (by simp)),
    State.stake_congr ((State.noteBudget_frame _ _ _).2 .compute (by simp))]

theorem State.budget_budgetPoint : ((s.budgetPoint c).cluster c).budget = true := by
  obtain ⟨u, -, heq⟩ := s.budgetPoint_eq hrun hbudget hmissed
  rw [heq, State.cluster_setCluster]

theorem State.now_budgetPoint : (s.budgetPoint c).now = max s.now (s.budgetInstant c) :=
  calc (s.budgetPoint c).now
    _ = (s.afterStops c).now := (State.budgetPoint_frame hrun hbudget hmissed).2 .now (by simp)
    _ = (s.atBudget c).now := (s.afterStops_keep c).frame.2 .now (by simp)
    _ = max s.now (s.budgetInstant c) := (s.atBudget_keep c).keeping.frame.2 .now (by simp)

theorem State.bit_budgetPoint {k : Nat} (hk : k ∈ (s.atBudget c).runningStakes c) :
    (s.budgetPoint c).bit (CL_STAT c) (k % 8) = true := by
  rw [State.bit, (State.budgetPoint_frame hrun hbudget hmissed).1 _ (by simp), ← State.bit, State.afterStops,
    State.bit_stopLate _ _ fun _ => State.cluster_of_mem_runningStakes, Bool.or_eq_true, List.any_eq_true]
  exact .inr ⟨k, hk, by simp⟩

theorem State.flag_budgetPoint : (s.budgetPoint c).flag (CL_EVT_BUDGET c) = (s.flag (CL_EVT_BUDGET c)
    || ((s.atBudget c).runningStakes c != [] || s.laterWale c (s.cluster c).wale)) := by
  obtain ⟨u, hu, heq⟩ := s.budgetPoint_eq hrun hbudget hmissed
  have hstops : (s.afterStops c).flag (CL_EVT_BUDGET c) = s.flag (CL_EVT_BUDGET c) :=
    (s.afterStops_keep c).flag.trans (s.atBudget_keep c).keeping.flag
  rw [heq]
  change u.flag _ = _
  rw [hu.flag, State.flag_noteBudget, State.laterWale_atBudget, hstops]

end

/-- The stakes stopped or left unstarted, stake by stake. -/
theorem State.overrun_eq (s : State) (c w : Nat) : ((s.atBudget c).runningStakes c != [] || s.laterWale c w)
    = (stakesOf c).any fun k => ((s.stake k).run == .running && !s.dueByBudget c (s.stake k))
        || (s.schedEn k && Nat.blt w (s.schedWale k)) := by
  have hlate : (s.atBudget c).runningStakes c ≠ [] ↔ ∃ k, k ∈ (s.atBudget c).runningStakes c :=
    ⟨List.exists_mem_of_ne_nil _, fun ⟨_, hk⟩ => List.ne_nil_of_mem hk⟩
  rw [Bool.eq_iff_iff, Bool.or_eq_true, bne_iff_ne, hlate, State.laterWale, List.any_eq_true, List.any_eq_true]
  simp only [State.mem_runningStakes_atBudget, mem_stakesOf, Bool.or_eq_true, Bool.and_eq_true, beq_iff_eq,
    Bool.not_eq_true', and_or_left, exists_or]

/-- Settles O23: the done signals that come by the budget point are made first, so that the stakes then still RUNNING are
those whose signal does not come, and each is stopped with BUDGET (R147). That a hand-over may have taken 64 cycles, and
that a wale left unstarted raises the event, is log entry 121. -/
theorem budgetPointStopsLateStakes : Obligations.BudgetPointStopsLateStakes := by
  intro c s hrun hbudget hmissed x inTime
  have hin (k : Nat) : inTime k = s.dueByBudget c.val (s.stake k) := rfl
  have hnow := State.now_budgetPoint hrun hbudget hmissed
  have hstake (k : Nat) := (State.stake_budgetPoint hrun hbudget hmissed k).trans (s.stake_afterStops c.val k)
  refine ⟨s.budgetPoint c.val, rfl, State.budget_budgetPoint hrun hbudget hmissed, hnow ▸ le_max_left _ _, ?_,
    fun k hk hr hdue => ?_, fun k hk hr hdue => ?_, fun k hk hr => ?_, fun k hk => ?_, ?_⟩
  · rw [hnow]
    exact le_max_of_le_right (Nat.le_add_right _ _)
  · rw [hin] at hdue
    simp [hstake, State.afterSignals, Stake.signalled, hk, hr, hdue]
  · rw [hin] at hdue
    have hlate := (s.mem_runningStakes_atBudget c.val k).2 ⟨hk, hr, hdue⟩
    rw [hstake, if_pos ⟨hk, hr, hdue⟩]
    exact ⟨rfl, rfl, State.bit_budgetPoint hrun hbudget hmissed hlate⟩
  · simp [hstake, State.afterSignals, hk, hr]
  · simp [hstake, hk]
  · exact (State.flag_budgetPoint hrun hbudget hmissed).trans (congrArg _ (s.overrun_eq c.val x.wale))

end Sys2Proof.Machine
end

section
/-! SUPPORT. Proofs/Violations.lean: what a violation that hardware logs changes, what its log entry holds and what it
leaves (R278 to R280). -/
namespace Sys2Proof.Machine

open Reg

/-! ### Counted fields -/

theorem Frame.countUp (s : State) (f : RegField) : Frame [f.reg] [] s (s.countUp f) := by
  unfold State.countUp
  split
  · exact Frame.sf s f _
  · exact Frame.refl _ _ s

/-- A field counted up holds one more, or its largest value. -/
theorem State.rf_countUp_self (s : State) (f : RegField) (h : f.lo ≤ f.hi) (h32 : f.hi < 32) :
    (s.countUp f).rf f = min (2 ^ (f.hi + 1 - f.lo) - 1) (s.rf f + 1) := by
  have hlt : s.rf f < 2 ^ (f.hi + 1 - f.lo) := bitsOf_lt _ _ _
  unfold State.countUp
  split
  · rw [s.rf_sf_self f _ h h32, Nat.mod_eq_of_lt (by omega)]
    omega
  · omega

/-- A field apart from the one counted up reads as before. -/
theorem State.rf_countUp_ne (s : State) {f g : RegField} (h : f.lo ≤ f.hi) (h32 : f.hi < 32)
    (hd : g.reg ≠ f.reg ∨ g.hi < f.lo ∨ f.hi < g.lo) : (s.countUp f).rf g = s.rf g := by
  unfold State.countUp
  split
  · exact s.rf_sf_ne _ h h32 hd
  · rfl

/-! ### Registers of the quarantine table and of the log -/

theorem mem_regsIn {lo hi a : Nat} (h : lo ≤ hi) : a ∈ regsIn lo hi ↔ lo ≤ a ∧ a ≤ hi := by
  rw [regsIn, List.mem_range'_1]
  omega

/-- Registers that counting a violation for its source may change: the quarantine table and its events (R280). -/
def sourceRegs : List Nat := NET_CEVT :: regsIn 0x308400 0x3087FF

theorem mem_sourceRegs {a : Nat} : a ∈ sourceRegs ↔ a = NET_CEVT ∨ (0x308400 ≤ a ∧ a ≤ 0x3087FF) := by
  rw [sourceRegs, List.mem_cons, mem_regsIn (by norm_num)]

/-- Where the registers that a violation may change stand. -/
theorem mem_violRegs {a : Nat} : a ∈ violRegs ↔ a = NET_VLOG_CTL ∨ a = NET_CEVT ∨ a = TRUST_EVT
    ∨ (0x308400 ≤ a ∧ a ≤ 0x3087FF) ∨ (0x30C000 ≤ a ∧ a ≤ 0x30FFFF) := by
  rw [violRegs, List.mem_append, List.mem_append, mem_regsIn (by norm_num), mem_regsIn (by norm_num)]
  simp [or_assoc]

theorem sourceRegs_subset_violRegs : ∀ a ∈ sourceRegs, a ∈ violRegs := by
  intro a ha
  rw [mem_sourceRegs] at ha
  rw [mem_violRegs]
  omega

/-- A violation changes no register of the ALARM block. -/
theorem alarmReg_not_mem_violRegs {a : Nat} (h : 0x600000 ≤ a) (h' : a < TRUST_EVT) : a ∉ violRegs := by
  rw [mem_violRegs]
  unfold NET_VLOG_CTL NET_CEVT TRUST_EVT at *
  omega

/-! ### The source counted (R280) -/

theorem Frame.withNet (s : State) (x : Net) : Frame [] [.net] s { s with net := x } :=
  ⟨fun _ _ => rfl, fun p hp => by cases p <;> simp_all [Piece.same, State.byte]⟩

theorem State.setSource_frame (s : State) {e : Nat} (he : e < 64) (x : Option Source) :
    Frame sourceRegs [.net] s (s.setSource e x) := by
  have hset (t : State) (a : Nat) (v : Word) (ha : 0x308400 ≤ a ∧ a ≤ 0x3087FF) :
      Frame sourceRegs [.net] t (t.setReg a v) :=
    (Frame.setReg t a v).mono (by simpa using mem_sourceRegs.2 (.inr ha)) (by simp)
  have hboth (t : State) (v w : Word) : Frame sourceRegs [.net] t ((t.setReg (NET_QTAB_LO e) v).setReg (NET_QTAB_HI e) w) :=
    (hset _ _ v (by unfold NET_QTAB_LO; omega)).trans (hset _ _ w (by unfold NET_QTAB_HI; omega))
  have htab := (Frame.withNet s { s.net with table := mset (fun _ => none) s.net.table e x }).mono
    (r2 := sourceRegs) (p2 := [.net]) (by simp) (by simp)
  cases x with
  | none => exact htab.trans (hboth _ _ _)
  | some q => exact htab.trans (hboth _ _ _)

theorem State.sourceSlot_lt {s : State} (hs : s.tableFits) {p addr e : Nat} (h : s.sourceSlot p addr = some e) :
    e < 64 := by
  unfold State.sourceSlot at h
  extract_lets own began cand at h
  have hown : ∀ x, own = some x → x ∈ s.net.table := fun x hx => List.mem_of_find?_eq_some hx
  clear_value own
  cases own with
  | some x =>
    cases h
    exact hs x (hown x rfl)
  | none =>
    cases hfree : (List.range 64).find? fun e => (s.source e).isNone with
    | some x =>
      rw [hfree] at h
      cases h
      exact List.mem_range.1 (List.mem_of_find?_eq_some hfree)
    | none =>
      rw [hfree] at h
      have hcand : ∀ c ∈ cand, c.1 < 64 := by
        intro c hc
        obtain ⟨y, hy, hyc⟩ := List.mem_filterMap.1 hc
        split at hyc
        · split at hyc
          · cases hyc
            exact hs y hy
          · cases hyc
        · cases hyc
      clear_value cand
      cases cand with
      | nil => cases h
      | cons x t =>
        cases h
        refine List.foldlRecOn (motive := fun c : Nat × Nat => c.1 < 64) t _ (hcand x (by simp)) fun m hm y hy => ?_
        split
        · exact hcand y (by simp [hy])
        · exact hm

theorem State.countSource_frame {s : State} (hs : s.tableFits) (cls p addr : Nat) :
    Frame sourceRegs [.net] s (s.countSource cls p addr).1 := by
  have hraise (t : State) (f : RegField) (hf : f.reg = NET_CEVT) : Frame sourceRegs [.net] t (t.raise f) :=
    (Frame.raise t f).mono (by simpa using mem_sourceRegs.2 (.inl hf)) (by simp)
  unfold State.countSource
  split
  · exact hraise s _ rfl
  · next e he =>
    have hput (t : State) (x : Option Source) := t.setSource_frame (State.sourceSlot_lt hs he) x
    extract_lets fresh q old
    split
    refine Frame.trans ?_ (hput _ _)
    split
    · exact hraise s _ rfl
    · exact Frame.refl _ _ s

/-! ### The entry written (R279) -/

/-- The four words of an entry at the place of the next one. -/
def State.vlogWords (s : State) (w1 w2 w3 : Word) : State :=
  (((s.setReg (NET_VLOG (s.rf NET_VLOG_CTL_HEAD) 0) (BitVec.ofNat 32 s.sys.roundNo)).setReg
    (NET_VLOG (s.rf NET_VLOG_CTL_HEAD) 1) w1).setReg (NET_VLOG (s.rf NET_VLOG_CTL_HEAD) 2) w2).setReg
    (NET_VLOG (s.rf NET_VLOG_CTL_HEAD) 3) w3

/-- An entry more: HEAD, the event and the count. -/
def State.vlogCounted (s : State) : State :=
  { (s.countMod NET_VLOG_CTL_HEAD).raise NET_CEVT_VIOL with net := { s.net with logged := min 1024 (s.net.logged + 1) } }

/-- An entry more, with WRAP where the log is full. -/
def State.vlogAdvance (s : State) : State :=
  if Nat.ble 1024 s.net.logged then s.vlogCounted.raise NET_VLOG_CTL_WRAP else s.vlogCounted

theorem State.vlogPut_eq (s : State) (w1 w2 w3 : Word) : s.vlogPut w1 w2 w3 = (s.vlogWords w1 w2 w3).vlogAdvance.logRec 2
    [(BitVec.ofNat 32 s.sys.roundNo).toNat, w1.toNat, w2.toNat, w3.toNat] := rfl

theorem State.vlogWords_frame (s : State) (w1 w2 w3 : Word) :
    Frame (regsIn 0x30C000 0x30FFFF) [] s (s.vlogWords w1 w2 w3) := by
  have hh : s.rf NET_VLOG_CTL_HEAD < 1024 := bitsOf_lt _ 9 0
  have hset (t : State) {j : Nat} (hj : j < 4) (v : Word) :
      Frame (regsIn 0x30C000 0x30FFFF) [] t (t.setReg (NET_VLOG (s.rf NET_VLOG_CTL_HEAD) j) v) := by
    refine (Frame.setReg t _ v).mono ?_ (by simp)
    simp only [List.mem_singleton, forall_eq]
    rw [mem_regsIn (by norm_num)]
    unfold NET_VLOG
    omega
  exact (((hset _ (by norm_num) _).trans (hset _ (by norm_num) _)).trans (hset _ (by norm_num) _)).trans
    (hset _ (by norm_num) _)

theorem State.reg_vlogWords (s : State) (w1 w2 w3 : Word) :
    (s.vlogWords w1 w2 w3).reg (NET_VLOG (s.rf NET_VLOG_CTL_HEAD) 1) = w1 := by
  unfold State.vlogWords
  rw [State.reg_setReg_ne _ (by simp [NET_VLOG]), State.reg_setReg_ne _ (by simp [NET_VLOG]), State.reg_setReg_self]

theorem State.vlogAdvance_frame (s : State) : Frame [NET_VLOG_CTL, NET_CEVT] [.net] s s.vlogAdvance := by
  have hcount : Frame [NET_VLOG_CTL, NET_CEVT] [.net] s (s.countMod NET_VLOG_CTL_HEAD) :=
    (Frame.sf s _ _).mono (by simp) (by simp)
  have hraise (t : State) (f : RegField) (hf : f.reg ∈ [NET_VLOG_CTL, NET_CEVT]) :
      Frame [NET_VLOG_CTL, NET_CEVT] [.net] t (t.raise f) := (Frame.raise t f).mono (by simpa using hf) (by simp)
  have hcounted : Frame [NET_VLOG_CTL, NET_CEVT] [.net] s s.vlogCounted :=
    (hcount.trans (hraise _ NET_CEVT_VIOL (by simp))).trans ((Frame.withNet _ _).mono (by simp) (by simp))
  unfold State.vlogAdvance
  split
  · exact hcounted.trans (hraise _ NET_VLOG_CTL_WRAP (by simp))
  · exact hcounted

theorem State.rf_vlogAdvance_head (s : State) :
    s.vlogAdvance.rf NET_VLOG_CTL_HEAD = (s.rf NET_VLOG_CTL_HEAD + 1) % 1024 := by
  have hcount : (s.countMod NET_VLOG_CTL_HEAD).rf NET_VLOG_CTL_HEAD = (s.rf NET_VLOG_CTL_HEAD + 1) % 1024 :=
    s.rf_sf_self _ _ (by simp) (by simp)
  have hcounted : s.vlogCounted.rf NET_VLOG_CTL_HEAD = (s.rf NET_VLOG_CTL_HEAD + 1) % 1024 :=
    ((s.countMod NET_VLOG_CTL_HEAD).rf_sf_ne (f := NET_CEVT_VIOL) 1 (by simp) (by simp) (.inl (by simp))).trans hcount
  unfold State.vlogAdvance
  split
  · exact (s.vlogCounted.rf_sf_ne (f := NET_VLOG_CTL_WRAP) 1 (by simp) (by simp) (.inr (by simp))).trans hcounted
  · exact hcounted

theorem State.vlogAdvance_table (s : State) : s.vlogAdvance.net.table = s.net.table := by
  unfold State.vlogAdvance
  split <;> rfl

/-! ### A violation (R278 to R280) -/

/-- The log has one entry more, of a class and a DETAIL, and nothing changes beyond the log and the quarantine table. -/
structure Logged (cls detail : Nat) (s t : State) : Prop where
  frame : Frame violRegs [.net, .trust] s t
  head : t.rf NET_VLOG_CTL_HEAD = (s.rf NET_VLOG_CTL_HEAD + 1) % 1024
  entry : logsBad s t cls detail

theorem State.vlogPut_frame (s : State) (w1 w2 w3 : Word) : Frame violRegs [.net, .trust] s (s.vlogPut w1 w2 w3) := by
  rw [s.vlogPut_eq]
  have hwords := (s.vlogWords_frame w1 w2 w3).mono (r2 := violRegs) (p2 := [.net, .trust]) (by simp +contextual [violRegs])
    (by simp)
  have hadv := (s.vlogWords w1 w2 w3).vlogAdvance_frame.mono (r2 := violRegs) (p2 := [.net, .trust]) (by simp [violRegs])
    (by simp)
  exact (hwords.trans hadv).trans ((State.logRec_frame _ _ _).mono (by simp [violRegs]) (by simp))

theorem State.vlogPut_head (s : State) (w1 w2 w3 : Word) :
    (s.vlogPut w1 w2 w3).rf NET_VLOG_CTL_HEAD = (s.rf NET_VLOG_CTL_HEAD + 1) % 1024 := by
  rw [s.vlogPut_eq, (State.logRec_frame _ _ _).rf (by simp), State.rf_vlogAdvance_head,
    (s.vlogWords_frame w1 w2 w3).rf (by rw [mem_regsIn (by norm_num)]; simp [NET_VLOG_CTL])]

theorem State.reg_vlogPut (s : State) (w1 w2 w3 : Word) :
    (s.vlogPut w1 w2 w3).reg (NET_VLOG (s.rf NET_VLOG_CTL_HEAD) 1) = w1 := by
  rw [s.vlogPut_eq, (State.logRec_frame _ _ _).1 _ (by simp [NET_VLOG, TRUST_EVT]; omega), (State.vlogAdvance_frame _).1 _
    (by simp [NET_VLOG, NET_VLOG_CTL, NET_CEVT]; omega), s.reg_vlogWords]

theorem State.vlogPut_table (s : State) (w1 w2 w3 : Word) : (s.vlogPut w1 w2 w3).net.table = s.net.table := by
  have hnet : (s.vlogPut w1 w2 w3).net = (s.vlogWords w1 w2 w3).vlogAdvance.net :=
    (State.logRec_frame _ 2 _).2 .net (by simp)
  rw [hnet, State.vlogAdvance_table]
  rfl

/-- The state in which a violation's entry is written: its source counted, where it counts. -/
def State.violationCounted (s : State) (cls p addr : Nat) (counts : Bool) : State :=
  if counts then (s.countSource cls p addr).1 else s

theorem State.violation_eq (s : State) (cls p detail addr : Nat) (counts : Bool) :
    ∃ (act : Nat) (w2 w3 : Word), act ≤ 2 ∧
      s.violation cls p detail addr counts = (s.violationCounted cls p addr counts).vlogPut
      (BitVec.ofNat 32 (cls * 2 ^ 24 + p * 2 ^ 20 + act * 65536 + detail % 65536)) w2 w3 := by
  have hact (hit : Bool) : (if hit then 2 else 0) ≤ 2 := by cases hit <;> simp
  cases counts with
  | false => exact ⟨_, _, _, hact false, rfl⟩
  | true => exact ⟨_, _, _, hact _, rfl⟩

theorem State.violationCounted_frame {s : State} {counts : Bool} (hs : counts = true → s.tableFits) (cls p addr : Nat) :
    Frame sourceRegs [.net] s (s.violationCounted cls p addr counts) := by
  cases counts with
  | false => exact Frame.refl _ _ s
  | true => exact State.countSource_frame (hs rfl) cls p addr

/-- The class and the DETAIL of an entry's second word. -/
theorem vlogWord_fields {cls p act detail : Nat} (hc : cls < 256) (hp : p < 16) (ha : act < 16) :
    bitsOf (BitVec.ofNat 32 (cls * 2 ^ 24 + p * 2 ^ 20 + act * 65536 + detail % 65536)) 31 24 = cls
    ∧ bitsOf (BitVec.ofNat 32 (cls * 2 ^ 24 + p * 2 ^ 20 + act * 65536 + detail % 65536)) 15 0 = detail % 65536 := by
  simp only [bitsOf_eq, BitVec.toNat_ofNat]
  omega

/-- A violation of a class and a DETAIL on a port; only one that counts needs the numbers of the quarantine table. -/
theorem State.violation_logged {s : State} {cls p detail : Nat} {counts : Bool} (hs : counts = true → s.tableFits)
    (hc : cls < 256) (hp : p < 16) (hd : detail < 65536) (addr : Nat) :
    Logged cls detail s (s.violation cls p detail addr counts) := by
  obtain ⟨act, w2, w3, hact, heq⟩ := s.violation_eq cls p detail addr counts
  have hcounted := State.violationCounted_frame hs cls p addr
  have hhead := hcounted.rf (f := NET_VLOG_CTL_HEAD) (by rw [mem_sourceRegs]; simp [NET_VLOG_CTL, NET_CEVT])
  have hfields := vlogWord_fields hc hp (by omega : act < 16) (detail := detail)
  rw [Nat.mod_eq_of_lt hd] at hfields heq
  rw [heq]
  refine ⟨(hcounted.mono sourceRegs_subset_violRegs (by simp)).trans (State.vlogPut_frame _ _ _ _), ?_, ?_⟩
  · rw [State.vlogPut_head, hhead]
  · rw [logsBad, ← hhead, State.reg_vlogPut]
    exact hfields

/-- A violation that does not count leaves the quarantine table as it is. -/
theorem State.violation_table (s : State) (cls p detail addr : Nat) :
    (s.violation cls p detail addr false).net.table = s.net.table := by
  obtain ⟨act, w2, w3, -, heq⟩ := s.violation_eq cls p detail addr false
  rw [heq, State.vlogPut_table]
  rfl

end Sys2Proof.Machine
end

section
/-! SUPPORT. Proofs/AlarmMessages.lean: what the rejection and the acceptance of an alarm message change, the first reason
of a rejection, and the taking of a message from the receive queue (R199 to R201, R540). -/
namespace Sys2Proof.Machine

open Reg

/-! ### The alarm part and event bits -/

theorem Frame.withAlarm (s : State) (x : Alarm) : Frame [] [.alarm] s { s with alarm := x } :=
  ⟨fun _ _ => rfl, fun p hp => by cases p <;> simp_all [Piece.same, State.byte]⟩

theorem State.reg_raise_self (s : State) (f : RegField) :
    (s.raise f).reg f.reg = setBits (s.reg f.reg) f.hi f.lo 1 := s.reg_setReg_self _ _

/-! ### A rejection (R200) -/

/-- A message rejected for a reason: recorded in ALARM_REJ, its event set, counted and logged in class ALARM, and nothing
else changed but the quarantine table, which reasons 7 and 8 leave. -/
structure Rejected (m : AlarmMsg) (r : Nat) (s t : State) : Prop where
  frame : Frame ([ALARM_REJ, ALARM_EVT, ALARM_MSG_CNT] ++ violRegs) [.net, .trust] s t
  event : t.reg ALARM_EVT = s.raised ALARM_EVT [ALARM_EVT_MSG_REJECT]
  valid : t.flag ALARM_REJ_VALID = true
  reason : t.rf ALARM_REJ_REASON = r
  key : t.rf ALARM_REJ_KEY = m.key % 256
  rejects : t.rf ALARM_MSG_CNT_REJECT = min 65535 (s.rf ALARM_MSG_CNT_REJECT + 1)
  accepts : t.rf ALARM_MSG_CNT_ACCEPT = s.rf ALARM_MSG_CNT_ACCEPT
  head : t.rf NET_VLOG_CTL_HEAD = (s.rf NET_VLOG_CTL_HEAD + 1) % 1024
  entry : logsBad s t 3 r
  table : 6 < r → t.net.table = s.net.table

/-- ALARM_REJ as a rejection writes it. -/
def State.rejShown (s : State) (m : AlarmMsg) (r : Nat) : State :=
  ((s.raise ALARM_REJ_VALID).sf ALARM_REJ_KEY m.key).sf ALARM_REJ_REASON r

/-- A rejection before its entry is logged: ALARM_REJ, the event and the count. -/
def State.rejNoted (s : State) (m : AlarmMsg) (r : Nat) : State :=
  ((s.rejShown m r).raise ALARM_EVT_MSG_REJECT).countUp ALARM_MSG_CNT_REJECT

theorem State.msgReject_eq (s : State) (m : AlarmMsg) (r : Nat) :
    s.msgReject m r = (s.rejNoted m r).violation 3 m.port r m.src (Nat.ble r 6) := rfl

section
variable (s : State) (m : AlarmMsg) (r : Nat)

theorem State.rejShown_frame : Frame [ALARM_REJ] [] s (s.rejShown m r) :=
  ((Frame.raise s ALARM_REJ_VALID).trans (Frame.sf _ ALARM_REJ_KEY _)).trans (Frame.sf _ ALARM_REJ_REASON _)

theorem State.rejNoted_frame : Frame [ALARM_REJ, ALARM_EVT, ALARM_MSG_CNT] [] s (s.rejNoted m r) :=
  (((s.rejShown_frame m r).mono (by simp) (by simp)).trans
    ((Frame.raise _ ALARM_EVT_MSG_REJECT).mono (by simp) (by simp))).trans
      ((Frame.countUp _ ALARM_MSG_CNT_REJECT).mono (by simp) (by simp))

/-- The event and the count leave what ALARM_REJ was given. -/
theorem State.rf_rejNoted_rej {f : RegField} (hf : f.reg = ALARM_REJ) :
    (s.rejNoted m r).rf f = (s.rejShown m r).rf f := by
  rw [State.rejNoted, (Frame.countUp _ _).rf (by simp [hf]), (Frame.raise _ _).rf (by simp [hf])]

theorem State.flag_rejNoted_valid : (s.rejNoted m r).flag ALARM_REJ_VALID = true := by
  rw [State.flag, s.rf_rejNoted_rej m r rfl, State.rejShown, State.rf_sf_ne _ _ (by simp) (by simp) (by simp),
    State.rf_sf_ne _ _ (by simp) (by simp) (by simp)]
  exact s.flag_raise_self ALARM_REJ_VALID rfl (by simp)

theorem State.rf_rejNoted_reason (hr : r < 16) : (s.rejNoted m r).rf ALARM_REJ_REASON = r := by
  rw [s.rf_rejNoted_rej m r rfl, State.rejShown, State.rf_sf_self _ _ _ (by simp) (by simp)]
  exact Nat.mod_eq_of_lt hr

theorem State.rf_rejNoted_key : (s.rejNoted m r).rf ALARM_REJ_KEY = m.key % 256 := by
  rw [s.rf_rejNoted_rej m r rfl, State.rejShown, State.rf_sf_ne _ _ (by simp) (by simp) (by simp)]
  exact State.rf_sf_self _ ALARM_REJ_KEY _ (by simp) (by simp)

theorem State.reg_rejNoted_event : (s.rejNoted m r).reg ALARM_EVT = s.raised ALARM_EVT [ALARM_EVT_MSG_REJECT] := by
  rw [State.rejNoted, (Frame.countUp _ _).1 _ (by simp), State.reg_raise_self _ ALARM_EVT_MSG_REJECT,
    (s.rejShown_frame m r).1 _ (by simp)]
  rfl

/-- A field of ALARM_MSG_CNT stands before the count as it stood before the rejection. -/
theorem State.rf_rejShown_count {f : RegField} (hf : f.reg = ALARM_MSG_CNT) :
    ((s.rejShown m r).raise ALARM_EVT_MSG_REJECT).rf f = s.rf f := by
  rw [(Frame.raise _ _).rf (by simp [hf]), (s.rejShown_frame m r).rf (by simp [hf])]

theorem State.rf_rejNoted_rejects :
    (s.rejNoted m r).rf ALARM_MSG_CNT_REJECT = min 65535 (s.rf ALARM_MSG_CNT_REJECT + 1) := by
  rw [State.rejNoted, State.rf_countUp_self _ _ (by simp) (by simp), s.rf_rejShown_count m r rfl]
  rfl

theorem State.rf_rejNoted_accepts : (s.rejNoted m r).rf ALARM_MSG_CNT_ACCEPT = s.rf ALARM_MSG_CNT_ACCEPT := by
  rw [State.rejNoted, State.rf_countUp_ne _ (by simp) (by simp) (by simp), s.rf_rejShown_count m r rfl]

end

/-- A rejection of a message of a port; reasons 7 and 8 need nothing of the quarantine table. -/
theorem State.msgReject_rejected {s : State} {m : AlarmMsg} {r : Nat} (hs : r ≤ 6 → s.tableFits) (hp : m.port ≤ 6)
    (hr : r < 16) : Rejected m r s (s.msgReject m r) := by
  have hnoted := s.rejNoted_frame m r
  have hnet : (s.rejNoted m r).net = s.net := hnoted.2 .net (by simp)
  have hhead : (s.rejNoted m r).rf NET_VLOG_CTL_HEAD = s.rf NET_VLOG_CTL_HEAD :=
    hnoted.rf (by simp [NET_VLOG_CTL, ALARM_REJ, ALARM_EVT, ALARM_MSG_CNT])
  have hlog : Logged 3 r (s.rejNoted m r) (s.msgReject m r) :=
    State.violation_logged (fun h => by rw [State.tableFits, hnet]; exact hs (Nat.le_of_ble_eq_true h)) (by norm_num)
      (by omega) (by omega) m.src
  have hreg {a : Nat} (h : 0x600000 ≤ a) (h' : a < TRUST_EVT) : (s.msgReject m r).reg a = (s.rejNoted m r).reg a :=
    hlog.frame.1 a (alarmReg_not_mem_violRegs h h')
  have hrf {f : RegField} (h : 0x600000 ≤ f.reg) (h' : f.reg < TRUST_EVT) :
      (s.msgReject m r).rf f = (s.rejNoted m r).rf f := hlog.frame.rf (alarmReg_not_mem_violRegs h h')
  exact {
    frame := (hnoted.mono (fun _ h => List.mem_append_left _ h) (by simp)).trans
      (hlog.frame.mono (fun _ h => List.mem_append_right _ h) (fun _ h => h))
    event := (hreg (by decide) (by decide)).trans (s.reg_rejNoted_event m r)
    valid := by rw [State.flag, hrf (by decide) (by decide)]; exact s.flag_rejNoted_valid m r
    reason := (hrf (by decide) (by decide)).trans (s.rf_rejNoted_reason m r hr)
    key := (hrf (by decide) (by decide)).trans (s.rf_rejNoted_key m r)
    rejects := (hrf (by decide) (by decide)).trans (s.rf_rejNoted_rejects m r)
    accepts := (hrf (by decide) (by decide)).trans (s.rf_rejNoted_accepts m r)
    head := by rw [hlog.head, hhead]
    entry := by rw [logsBad, ← hhead]; exact hlog.entry
    table := fun h => by
      rw [s.msgReject_eq, Bool.eq_false_iff.2 (fun hle => Nat.not_le.2 h (Nat.le_of_ble_eq_true hle)),
        State.violation_table, hnet] }

/-- A rejection of a message taken out changes nothing else of the alarm part: it latches nothing and records no COUNTER. -/
theorem Rejected.alarm_eq {m : AlarmMsg} {r : Nat} {s t : State} {q : List AlarmMsg}
    (h : Rejected m r (s.setAlarmRx q) t) : t.alarm = { s.alarm with rx := q } := h.frame.2 .alarm (by simp)

/-! ### The first reason (R200, R540) -/

theorem State.keyOk_eq_false_iff (s : State) (m : AlarmMsg) : s.keyOk m = false ↔
    (m.key = 0xFF ∧ m.origin = .other) ∨ (m.key ≠ 0xFF ∧ (8 ≤ m.key ∨ ∀ e ∈ s.skein.keys, e.1 ≠ m.key)) := by
  unfold State.keyOk
  split
  · next hk => simp [hk]
  · next hk =>
    have hlt : Nat.blt m.key 8 = false ↔ 8 ≤ m.key := by rw [Bool.eq_false_iff, ne_eq, Nat.blt_eq, Nat.not_lt]
    rw [Bool.and_eq_false_iff, hlt, List.any_eq_false]
    simp [hk]

/-- The last accepted COUNTER by KEY, or by SENDER where the message is unsigned. -/
theorem State.lastCounter_eq (s : State) (m : AlarmMsg) : s.lastCounter m =
    if m.key = 0xFF then (s.alarm.senderCtr.find? fun e => e.1 == m.sender).map (·.2)
    else (s.alarm.keyCtr.find? fun e => e.1 == m.key).map (·.2) := by
  unfold State.lastCounter
  split <;> rfl

theorem State.msgReason_lt (s : State) (m : AlarmMsg) : s.msgReason m < 16 := by
  unfold State.msgReason
  repeat' split
  all_goals norm_num

/-- A message with a reserved KIND is never accepted. -/
theorem State.msgReason_reserved (s : State) {m : AlarmMsg} (h : m.kind = 0 ∨ 3 < m.kind) : s.msgReason m ≠ 0 := by
  unfold State.msgReason
  split_ifs <;> norm_num

/-! ### An acceptance (R200, R201) -/

/-- The entry put in the place of a key is the one found for it. -/
theorem find?_mput_mdrop {α : Type} (k : Nat) (v : α) (l : SMap α) :
    (mput k v (mdrop k l)).find? (fun e => e.1 == k) = some (k, v) := by
  have hk : ∀ e ∈ mdrop k l, e.1 ≠ k := fun e he => (mem_mdrop he).1
  generalize mdrop k l = d at hk
  induction d with
  | nil => simp [mput]
  | cons e t ih =>
    have hne : e.1 ≠ k := hk e (by simp)
    have ih := ih fun x hx => hk x (by simp [hx])
    rw [mput]
    split
    · simp
    · simp [hne, ih]

/-- The trigger that a command starts, which the partner is told. -/
def AlarmCmd.told : AlarmCmd → List Nat
  | .start t => [t]
  | _ => []

section
variable (s : State)

theorem State.recordCounter_frame (m : AlarmMsg) : Frame [TRUST_EVT] [.alarm, .trust] s (s.recordCounter m) := by
  unfold State.recordCounter
  refine Frame.trans ?_ ((State.logRec_frame _ _ _).mono (by simp) (by simp))
  split <;> exact (Frame.withAlarm s _).mono (by simp) (by simp)

/-- Of the alarm part, a recorded COUNTER changes the counters alone. -/
theorem State.recordCounter_alarm (m : AlarmMsg) : ∃ byKey bySender : SMap Nat,
    (s.recordCounter m).alarm = { s.alarm with keyCtr := byKey, senderCtr := bySender } := by
  have hlog (t : State) (l : List Nat) : (t.logRec 4 l).alarm = t.alarm := (t.logRec_frame 4 l).2 .alarm (by simp)
  unfold State.recordCounter
  simp only [hlog]
  split
  · exact ⟨s.alarm.keyCtr, _, rfl⟩
  · exact ⟨_, s.alarm.senderCtr, rfl⟩

theorem State.lastCounter_recordCounter (m : AlarmMsg) : (s.recordCounter m).lastCounter m = some m.counter := by
  have hlog (t : State) (l : List Nat) : (t.logRec 4 l).alarm = t.alarm := (t.logRec_frame 4 l).2 .alarm (by simp)
  by_cases hk : m.key = 0xFF <;>
    simp [State.lastCounter_eq, State.recordCounter, hlog, hk, find?_mput_mdrop]

theorem State.latch_frame (rank : Nat) (c : AlarmCmd) : Frame [] [.alarm] s (s.latch rank c) := Frame.withAlarm s _

theorem State.latch_alarm {rank : Nat} (h : rank ≠ rkPartner) (c : AlarmCmd) : (s.latch rank c).alarm =
    { s.alarm with cmds := s.latched s.now rank c, starts := s.alarm.starts ++ c.told } := by
  cases c <;> simp [State.latch, State.latched, AlarmCmd.told, h]

/-- A message accepted with the command it latches: its event, its count and its COUNTER. -/
def State.msgAccept (m : AlarmMsg) (c : AlarmCmd) : State :=
  (((s.raise ALARM_EVT_MSG_ACCEPT).countUp ALARM_MSG_CNT_ACCEPT).recordCounter m).latch rkMsg c

variable (m : AlarmMsg) (c : AlarmCmd)

/-- Before the COUNTER is recorded, an acceptance has changed two registers. -/
theorem State.acceptNoted_frame : Frame [ALARM_EVT, ALARM_MSG_CNT] [] s
    ((s.raise ALARM_EVT_MSG_ACCEPT).countUp ALARM_MSG_CNT_ACCEPT) :=
  ((Frame.raise s ALARM_EVT_MSG_ACCEPT).mono (by simp) (by simp)).trans
    ((Frame.countUp _ ALARM_MSG_CNT_ACCEPT).mono (by simp) (by simp))

/-- The COUNTER recorded and the command latched change no register of the ALARM block. -/
theorem State.msgAccept_rest_frame : Frame [TRUST_EVT] [.alarm, .trust]
    ((s.raise ALARM_EVT_MSG_ACCEPT).countUp ALARM_MSG_CNT_ACCEPT) (s.msgAccept m c) :=
  (State.recordCounter_frame _ m).trans ((State.latch_frame _ _ c).mono (by simp) (by simp))

theorem State.msgAccept_frame : Frame [ALARM_EVT, ALARM_MSG_CNT, TRUST_EVT] [.alarm, .trust] s (s.msgAccept m c) :=
  (s.acceptNoted_frame.mono (by simp) (by simp)).trans ((s.msgAccept_rest_frame m c).mono (by simp) (by simp))

theorem State.reg_msgAccept_event : (s.msgAccept m c).reg ALARM_EVT = s.raised ALARM_EVT [ALARM_EVT_MSG_ACCEPT] := by
  rw [(s.msgAccept_rest_frame m c).1 _ (by simp), (Frame.countUp _ _).1 _ (by simp),
    s.reg_raise_self ALARM_EVT_MSG_ACCEPT]
  rfl

theorem State.rf_msgAccept_accepts :
    (s.msgAccept m c).rf ALARM_MSG_CNT_ACCEPT = min 65535 (s.rf ALARM_MSG_CNT_ACCEPT + 1) := by
  rw [(s.msgAccept_rest_frame m c).rf (by simp), State.rf_countUp_self _ _ (by simp) (by simp),
    (Frame.raise s ALARM_EVT_MSG_ACCEPT).rf (by simp)]
  rfl

theorem State.lastCounter_msgAccept : (s.msgAccept m c).lastCounter m = some m.counter :=
  State.lastCounter_recordCounter _ m

theorem State.msgAccept_alarm : ∃ byKey bySender : SMap Nat, (s.msgAccept m c).alarm = { s.alarm with
    cmds := s.latched s.now rkMsg c, keyCtr := byKey, senderCtr := bySender, starts := s.alarm.starts ++ c.told } := by
  have hnoted := s.acceptNoted_frame
  obtain ⟨byKey, bySender, hrec⟩ :=
    State.recordCounter_alarm ((s.raise ALARM_EVT_MSG_ACCEPT).countUp ALARM_MSG_CNT_ACCEPT) m
  have hnow := (State.recordCounter_frame ((s.raise ALARM_EVT_MSG_ACCEPT).countUp ALARM_MSG_CNT_ACCEPT) m).2 .now
    (by simp)
  refine ⟨byKey, bySender, ?_⟩
  rw [State.msgAccept, State.latch_alarm _ (by decide), State.latched, hnow, hrec, hnoted.2 .alarm (by simp),
    hnoted.2 .now (by simp), State.latched]

end

/-! ### A message taken from the queue (R200, R211) -/

section
variable {s : State} {kind : Nat → Bool} {cmd : AlarmMsg → AlarmCmd}

theorem State.msgTake_other (h : ∀ m, s.alarm.rx.head? = some m → kind m.kind = false) : s.msgTake kind cmd = s := by
  unfold State.msgTake
  split
  · rfl
  · next m q hrx => rw [if_pos (by simp [h m (by rw [hrx]; rfl)])]

theorem State.msgTake_bare (h : s.flag ALARM_CTL_BARE = true) : s.msgTake kind cmd = s := by
  unfold State.msgTake
  split
  · rfl
  · rw [if_pos (by simp [h])]

theorem State.msgTake_front {m : AlarmMsg} {q : List AlarmMsg} (hrx : s.alarm.rx = m :: q) (hk : kind m.kind = true)
    (hb : s.flag ALARM_CTL_BARE = false) : s.msgTake kind cmd =
      if s.msgReason m ≠ 0 then (s.setAlarmRx q).msgReject m (s.msgReason m)
      else (s.setAlarmRx q).msgAccept m (cmd m) := by
  unfold State.msgTake
  rw [hrx]
  simp only [hk, hb, Bool.not_true, Bool.or_self, Bool.false_eq_true, if_false]
  rfl

end

/-! ### The four commands and the arrival -/

theorem execAlarmMsgArrival_on {p : Fin 7} {src : BitVec 48} {prot : Bool} {body : List Byte} {s : State}
    (h : (s.hubUp && !s.flag ALARM_CTL_BARE) = true) :
    exec (.alarmMsgArrival p src prot body) s = .next (s.alarmArrive (s.alarmOf p.val src.toNat prot body)) := by
  show execAlarmMsgArrival p src prot body s = _
  rw [execAlarmMsgArrival, if_pos h]

theorem execAlarmMsgArrival_off {p : Fin 7} {src : BitVec 48} {prot : Bool} {body : List Byte} {s : State}
    (h : (s.hubUp && !s.flag ALARM_CTL_BARE) = false) : exec (.alarmMsgArrival p src prot body) s = .next s := by
  show execAlarmMsgArrival p src prot body s = _
  rw [execAlarmMsgArrival, h]
  rfl

/-- A 17th message: rejected for reason 7, with QUEUE_OVF. -/
theorem State.alarmArrive_full {s : State} (h : 16 ≤ s.alarm.rx.length) (m : AlarmMsg) :
    s.alarmArrive m = (s.msgReject m 7).raise ALARM_EVT_QUEUE_OVF := if_pos h

theorem State.alarmArrive_room {s : State} (h : s.alarm.rx.length < 16) (m : AlarmMsg) :
    s.alarmArrive m = s.setAlarmRx (s.alarm.rx ++ [m]) := if_neg (Nat.not_le.2 h)

section
variable {s : State}

/-- A message that arrives while fewer than 16 wait is put behind them (R199). -/
theorem Does.arrival_room {p : Fin 7} {src : BitVec 48} {prot : Bool} {body : List Byte}
    (hon : (s.hubUp && !s.flag ALARM_CTL_BARE) = true) (hroom : s.alarm.rx.length < 16) :
    Does (.alarmMsgArrival p src prot body) s [] [.alarm] fun t =>
      t.alarm = { s.alarm with rx := s.alarm.rx ++ [s.alarmOf p.val src.toNat prot body] } := by
  have hexec := execAlarmMsgArrival_on hon (p := p) (src := src) (prot := prot) (body := body)
  rw [State.alarmArrive_room hroom] at hexec
  exact ⟨_, hexec, Frame.withAlarm s _, rfl⟩

/-- A 17th message is dropped for reason 7, which leaves the quarantine table and the queue (R200). -/
theorem Does.arrival_full {p : Fin 7} {src : BitVec 48} {prot : Bool} {body : List Byte}
    (hon : (s.hubUp && !s.flag ALARM_CTL_BARE) = true) (hfull : 16 ≤ s.alarm.rx.length) :
    Does (.alarmMsgArrival p src prot body) s ([ALARM_REJ, ALARM_EVT, ALARM_MSG_CNT] ++ violRegs) [.net, .trust] fun t =>
      t.reg ALARM_EVT = s.raised ALARM_EVT [ALARM_EVT_MSG_REJECT, ALARM_EVT_QUEUE_OVF]
      ∧ t.rf ALARM_REJ_REASON = 7 ∧ t.net.table = s.net.table
      ∧ t.rf ALARM_MSG_CNT_REJECT = min 65535 (s.rf ALARM_MSG_CNT_REJECT + 1) ∧ logsBad s t 3 7 := by
  have h : Rejected (s.alarmOf p.val src.toNat prot body) 7 s (s.msgReject _ 7) :=
    State.msgReject_rejected (by simp) (Nat.le_of_lt_succ p.isLt) (by norm_num)
  have hhead : s.rf NET_VLOG_CTL_HEAD < 1024 := bitsOf_lt _ 9 0
  have hovf := Frame.raise (s.msgReject (s.alarmOf p.val src.toNat prot body) 7) ALARM_EVT_QUEUE_OVF
  have hexec := execAlarmMsgArrival_on hon (p := p) (src := src) (prot := prot) (body := body)
  rw [State.alarmArrive_full hfull] at hexec
  refine ⟨_, hexec, ?_, ?_, ?_, ?_, ?_, ?_⟩
  · exact h.frame.trans (hovf.mono (by simp) (by simp))
  · rw [State.reg_raise_self _ ALARM_EVT_QUEUE_OVF, h.event]
    rfl
  · rw [hovf.rf (by simp), h.reason]
  · rw [State.raise_net]
    exact h.table (by norm_num)
  · rw [hovf.rf (by simp), h.rejects]
  · rw [logsBad, hovf.1 _ (by simp only [NET_VLOG, ALARM_EVT, List.mem_singleton]; omega)]
    exact h.entry

end

/-- Settles O31: the message at the front is rejected for the first reason of R200 or accepted, by the command for its KIND,
and a 17th is dropped on arrival. That ALARM_REJ shows reasons 7 and 8, and that a reserved KIND is always rejected, is log
entry 52; who counts as a manager or as the partner is log entry 132. -/
theorem alarmMessages : Obligations.AlarmMessages := by
  refine ⟨fun p src prot body s => ⟨execAlarmMsgArrival_off, fun hon hroom => ?_, fun hon hfull => ?_⟩,
    fun i kind cmd s hi => ?_⟩
  · exact Does.arrival_room hon hroom
  · exact Does.arrival_full hon hfull
  obtain ⟨take, hexec, htake⟩ : ∃ take : AlarmMsg → AlarmCmd, exec i s = .next (s.msgTake kind take)
      ∧ ∀ m, kind m.kind = true → s.msgReason m = 0 → take m = cmd m := by
    rcases hi with ⟨rfl, rfl, rfl⟩ | ⟨rfl, rfl, rfl⟩ | ⟨rfl, rfl, rfl⟩ | ⟨rfl, rfl⟩
    · exact ⟨_, rfl, fun _ _ _ => rfl⟩
    · exact ⟨_, rfl, fun _ _ _ => rfl⟩
    · exact ⟨_, rfl, fun _ _ _ => rfl⟩
    · exact ⟨fun _ => .reset, rfl, fun m hk hr => absurd hr (s.msgReason_reserved (by simpa using hk))⟩
  refine ⟨fun h => by rw [hexec, State.msgTake_other h], fun h => by rw [hexec, State.msgTake_bare h], ?_⟩
  intro m q hrx hk hbare last off reason
  rw [State.msgTake_front hrx hk hbare] at hexec
  -- The model and the statement ask the same questions in the same order; a KIND past reason 2 is one of the three.
  have hreason : s.msgReason m = reason := by
    unfold State.msgReason
    refine if_congr (by simp) rfl (if_congr Iff.rfl rfl (if_ctx_congr Iff.rfl (fun _ => rfl) fun hkind =>
      if_congr (and_congr_left' (by omega)) rfl (if_congr (by rw [Bool.not_eq_true', State.keyOk_eq_false_iff]) rfl
        (if_congr Iff.rfl rfl ?_))))
    have hlast : last = s.lastCounter m := (s.lastCounter_eq m).symm
    cases hctr : s.lastCounter m with
    | none => simp [hlast, hctr]
    | some c => simp [hlast, hctr]
  rw [hreason] at hexec
  refine ⟨fun hne hport htable => ?_, fun hzero => ?_⟩
  · rw [if_pos hne] at hexec
    have h : Rejected m reason (s.setAlarmRx q) _ :=
      State.msgReject_rejected (fun _ => htable) hport (hreason ▸ s.msgReason_lt m)
    exact ⟨_, hexec, ((Frame.withAlarm s _).mono (by simp) (by simp)).trans (h.frame.mono (fun _ h => h) (by simp)),
      h.alarm_eq, h.event, h.valid, h.reason, h.key, h.rejects, h.accepts, h.head, h.entry.1, h.entry.2,
      fun h8 => h.table (by omega)⟩
  · rw [if_neg (not_not.2 hzero), htake m hk (hreason.trans hzero)] at hexec
    obtain ⟨byKey, bySender, halarm⟩ := (s.setAlarmRx q).msgAccept_alarm m (cmd m)
    refine ⟨_, hexec, ((Frame.withAlarm s _).mono (by simp) (by simp)).trans
      ((s.setAlarmRx q).msgAccept_frame m (cmd m)), (s.setAlarmRx q).reg_msgAccept_event m (cmd m),
      (s.setAlarmRx q).rf_msgAccept_accepts m (cmd m), (s.setAlarmRx q).lastCounter_msgAccept m (cmd m), ?_⟩
    rw [halarm]
    cases cmd m <;> rfl

end Sys2Proof.Machine
end

section
/-! SUPPORT. Proofs/StakeWords.lean: the word of a stake instruction reads back as the instruction (R110 to R112, R117 to
R119, R122, R123, R125). -/
-- The proofs of this file are elaborated one after another: side by side their threads exceed the memory of the check.
set_option Elab.async false
namespace Sys2Proof

/-! ### Fields -/

@[simp] theorem unpack_nil (x : Nat) : unpack [] x = [] := rfl

/-- Reading the fields that were put together gives each of them, cut to its width. -/
@[simp] theorem unpack_pack_cons (n v : Nat) (ns : List Nat) (l : List (Nat × Nat)) :
    unpack (n :: ns) (pack ((n, v) :: l)) = v % 2 ^ n :: unpack ns (pack l) := by
  rw [pack, unpack, Nat.add_mul_mod_self_left, Nat.mod_mod, Nat.add_mul_div_left _ _ (Nat.two_pow_pos n),
    Nat.div_eq_of_lt (Nat.mod_lt _ (Nat.two_pow_pos n)), Nat.zero_add]

theorem pack_mod_two_pow {l : List (Nat × Nat)} {n : Nat} (h : (l.map (·.1)).sum = n) : pack l % 2 ^ n = pack l :=
  Nat.mod_eq_of_lt (h ▸ Laws.Shape.pack_lt l)

theorem pack_low_field (m : List (Nat × Nat)) (n v : Nat) : pack ((n, v) :: m) % 2 ^ n = v % 2 ^ n := by
  rw [pack, Nat.add_mul_mod_self_left, Nat.mod_mod]

/-- One field of a word, behind the fields below it. -/
theorem pack_field (l m : List (Nat × Nat)) (n v : Nat) :
    pack (l ++ (n, v) :: m) / 2 ^ (l.map (·.1)).sum % 2 ^ n = v % 2 ^ n := by
  rw [Laws.Shape.pack_append, Nat.add_mul_div_left _ _ (Nat.two_pow_pos _), Nat.div_eq_of_lt (Laws.Shape.pack_lt l),
    Nat.zero_add, pack_low_field]

/-! ### Operand codes, each within the width of its field -/

@[simp] theorem oct_val (x : Fin 8) : oct x.val = x := Fin.ofNat_val_eq_self x

@[simp] theorem regOf_val (x : Fin 32) : regOf x.val = x := Fin.ofNat_val_eq_self x

@[simp] theorem lineOf_val (x : Fin 8192) : lineOf x.val = x := Fin.ofNat_val_eq_self x

@[simp] theorem bitOf_mod (b : Bool) : bitOf b % 2 = bitOf b := by cases b <;> rfl

@[simp] theorem bitOf_beq_one (b : Bool) : (bitOf b == 1) = b := by cases b <;> rfl

@[simp] theorem partCode_mod (p : Part) : partCode p % 4 = partCode p := by cases p <;> rfl

@[simp] theorem partOf_partCode (p : Part) : partOf (partCode p) = some p := by cases p <;> rfl

@[simp] theorem spaceCode_mod (p : Space) : spaceCode p % 4 = spaceCode p := by cases p <;> rfl

@[simp] theorem storeSpace_spaceCode (p : Space) : storeSpace (spaceCode p) = some p := by cases p <;> rfl

@[simp] theorem sgCode_mod (x : Sg) : sgCode x % 4 = sgCode x := by cases x <;> rfl

@[simp] theorem sgOf_sgCode (x : Sg) : sgOf (sgCode x) = some x := by cases x <;> rfl

@[simp] theorem condCode_mod (c : Cond) : condCode c % 32 = condCode c := by
  cases c with
  | ac n | nac n => simp only [condCode]; omega
  | _ => rfl

@[simp] theorem condOf_condCode (c : Cond) : condOf (condCode c) = some c := by
  cases c with
  | ac n | nac n => revert n; decide
  | _ => rfl

@[simp] theorem sregCode_fst_mod (x : SReg) : (sregCode x).1 % 8 = (sregCode x).1 := by cases x <;> rfl

@[simp] theorem sregCode_snd_mod (x : SReg) : (sregCode x).2 % 8 = (sregCode x).2 := by
  cases x <;> simp only [sregCode] <;> omega

@[simp] theorem sregOf_sregCode (x : SReg) : sregOf (sregCode x).1 (sregCode x).2 = some x := by
  cases x with
  | st | rcnt => rfl
  | _ n => revert n; decide

theorem sregCode_of_movtoOk {x : SReg} (h : movtoOk x = true) : (sregCode x).1 < 6 := by
  cases x with
  | rcnt => cases h
  | _ => simp [sregCode]

theorem sregCode_of_ldiaOk {x : SReg} {imm : BitVec 20} (h : ldiaOk x imm = true) :
    (sregCode x).1 < 5 ∧ ((sregCode x).1 = 4 → imm.toNat < 65536) := by
  cases x with
  | st | rcnt => cases h
  | lc => exact ⟨by simp [sregCode], fun _ => by simpa [ldiaOk, Nat.blt_eq] using h⟩
  | _ => simp [sregCode]

/-! ### Memory slots (R112, R113) -/

theorem decLoad1_encLoad1 (x : Option Load1) : decLoad1 (encLoad1 x % 2 ^ 13) = x := by
  cases x with
  | none => rfl
  | some l =>
    rw [encLoad1, pack_mod_two_pow (by rfl), decLoad1]
    simp (disch := omega) [Nat.mod_eq_of_lt]

theorem decLoad2_encLoad2 (x : Option Load2) : decLoad2 (encLoad2 x % 2 ^ 12) = x := by
  cases x with
  | none => rfl
  | some l =>
    rw [encLoad2, pack_mod_two_pow (by rfl), decLoad2]
    simp (disch := omega) [Nat.mod_eq_of_lt]

theorem decSrc_encSrc (x : StoreSrc) : decSrc (encSrc x % 2 ^ 11) = some x := by
  cases x with
  | reg i => revert i; decide
  | rnd a k =>
    rw [encSrc, pack_mod_two_pow (by rfl), decSrc]
    simp (disch := omega) [Nat.mod_eq_of_lt]
  | raw a p =>
    rw [encSrc, pack_mod_two_pow (by rfl), decSrc]
    simp (disch := omega) [Nat.mod_eq_of_lt]

theorem decStore_encStore (x : Option Store) : decStore (encStore x % 2 ^ 20) = some x := by
  cases x with
  | none => rfl
  | some t =>
    rw [encStore, pack_mod_two_pow (by rfl), decStore]
    simp only [unpack_pack_cons, unpack_nil, decSrc_encSrc]
    simp (disch := omega) [Nat.mod_eq_of_lt]

/-! ### The three formats (R110, R111) -/

/-- Decoding by the places of the fields: the format in bits 63:62, and under it the slots, the operands and the code. -/
theorem decodeFormat_eq (k : Fin 128) (w : Nat) : decodeFormat k w =
    if w / 2 ^ 62 % 2 ^ 2 = 0 then (decStore (w % 2 ^ 20)).bind fun st =>
      decodeP k (w / 2 ^ 45 % 2 ^ 12) ⟨decLoad1 (w / 2 ^ 32 % 2 ^ 13), decLoad2 (w / 2 ^ 20 % 2 ^ 12), st⟩ (w / 2 ^ 57 % 2 ^ 5)
    else if w / 2 ^ 62 % 2 ^ 2 = 1 then (decStore (w % 2 ^ 20)).bind fun st =>
      decodeR k (w / 2 ^ 32 % 2 ^ 22) ⟨decLoad2 (w / 2 ^ 20 % 2 ^ 12), st⟩ (w / 2 ^ 54 % 2 ^ 8)
    else if w / 2 ^ 62 % 2 ^ 2 = 2 then decodeC k (w % 2 ^ 56) (w / 2 ^ 56 % 2 ^ 6)
    else none := by
  simp only [decodeFormat, unpack, Nat.div_div_eq_div_mul, ← Nat.pow_add]

section
variable {k : Fin 128} {op : Nat} {l : List (Nat × Nat)} {i : Instr}

theorem encodeP_roundTrip {m : PSlots} (hl : (l.map (·.1)).sum = 12) (hop : op < 2 ^ 5)
    (h : decodeP k (pack l) m op = some i) : encodeP op (pack l) m < 2 ^ 64 ∧ decodeStake k (encodeP op (pack l) m) = i := by
  refine ⟨Laws.Shape.pack_lt [(20, _), (12, _), (13, _), (12, _), (5, _), (2, _)], ?_⟩
  generalize hw : encodeP op (pack l) m = w
  have hst : w % 2 ^ 20 = encStore m.st % 2 ^ 20 := hw ▸ pack_low_field _ 20 _
  have hl2 : w / 2 ^ 20 % 2 ^ 12 = encLoad2 m.l2 % 2 ^ 12 := hw ▸ pack_field [(20, _)] _ 12 _
  have hl1 : w / 2 ^ 32 % 2 ^ 13 = encLoad1 m.l1 % 2 ^ 13 := hw ▸ pack_field [(20, _), (12, _)] _ 13 _
  have ho : w / 2 ^ 45 % 2 ^ 12 = pack l % 2 ^ 12 := hw ▸ pack_field [(20, _), (12, _), (13, _)] _ 12 _
  have hcode : w / 2 ^ 57 % 2 ^ 5 = op % 2 ^ 5 := hw ▸ pack_field [(20, _), (12, _), (13, _), (12, _)] _ 5 _
  have hfmt : w / 2 ^ 62 % 2 ^ 2 = 0 := hw ▸ pack_field [(20, _), (12, _), (13, _), (12, _), (5, _)] [] 2 0
  rw [decodeStake, decodeFormat_eq, hfmt, if_pos rfl, hst, hl2, hl1, ho, hcode, decStore_encStore, decLoad1_encLoad1,
    decLoad2_encLoad2, pack_mod_two_pow hl, Nat.mod_eq_of_lt hop, Option.bind_some, h]; rfl

theorem encodeR_roundTrip {m : RSlots} (hl : (l.map (·.1)).sum = 22) (hop : op < 2 ^ 8)
    (h : decodeR k (pack l) m op = some i) : encodeR op (pack l) m < 2 ^ 64 ∧ decodeStake k (encodeR op (pack l) m) = i := by
  refine ⟨Laws.Shape.pack_lt [(20, _), (12, _), (22, _), (8, _), (2, _)], ?_⟩
  generalize hw : encodeR op (pack l) m = w
  have hst : w % 2 ^ 20 = encStore m.st % 2 ^ 20 := hw ▸ pack_low_field _ 20 _
  have hl2 : w / 2 ^ 20 % 2 ^ 12 = encLoad2 m.l2 % 2 ^ 12 := hw ▸ pack_field [(20, _)] _ 12 _
  have ho : w / 2 ^ 32 % 2 ^ 22 = pack l % 2 ^ 22 := hw ▸ pack_field [(20, _), (12, _)] _ 22 _
  have hcode : w / 2 ^ 54 % 2 ^ 8 = op % 2 ^ 8 := hw ▸ pack_field [(20, _), (12, _), (22, _)] _ 8 _
  have hfmt : w / 2 ^ 62 % 2 ^ 2 = 1 := hw ▸ pack_field [(20, _), (12, _), (22, _), (8, _)] [] 2 1
  rw [decodeStake, decodeFormat_eq, hfmt, if_neg one_ne_zero, if_pos rfl, hst, hl2, ho, hcode, decStore_encStore,
    decLoad2_encLoad2, pack_mod_two_pow hl, Nat.mod_eq_of_lt hop, Option.bind_some, h]; rfl

theorem encodeC_roundTrip (hl : (l.map (·.1)).sum = 56) (hop : op < 2 ^ 6)
    (h : decodeC k (pack l) op = some i) : encodeC op (pack l) < 2 ^ 64 ∧ decodeStake k (encodeC op (pack l)) = i := by
  refine ⟨Laws.Shape.pack_lt [(56, _), (6, _), (2, _)], ?_⟩
  generalize hw : encodeC op (pack l) = w
  have ho : w % 2 ^ 56 = pack l % 2 ^ 56 := hw ▸ pack_low_field _ 56 _
  have hcode : w / 2 ^ 56 % 2 ^ 6 = op % 2 ^ 6 := hw ▸ pack_field [(56, _)] _ 6 _
  have hfmt : w / 2 ^ 62 % 2 ^ 2 = 2 := hw ▸ pack_field [(56, _), (6, _)] [] 2 2
  rw [decodeStake, decodeFormat_eq, hfmt, if_neg (by decide), if_neg (by decide), if_pos rfl, ho, hcode,
    pack_mod_two_pow hl, Nat.mod_eq_of_lt hop, h]; rfl

end

/-! ### The obligation -/

/-- Settles O20: fields put together and read by the same widths come back, so each slot, each format and each operand
code reads back as what it was encoded from. -/
theorem stakeWordsRoundTrip : Obligations.StakeWordsRoundTrip := by
  intro i k w hwf h
  cases i with
  | pnop | qmac | qmsu | qmul | qdot | qdotz | bmac | pmac | pmsu | pmul =>
    cases h
    exact encodeP_roundTrip rfl (by decide) (by simp (disch := omega) [decodeP, Nat.mod_eq_of_lt])
  | ftapz _ _ _ w | ftap _ _ _ w | fdly _ _ w =>
    cases h
    have hok : windowOk w = true := hwf
    have hwindow : ¬ w.val = 7 := by simpa [windowOk] using hok
    exact encodeP_roundTrip rfl (by decide) (by simp (disch := omega) [decodeP, Nat.mod_eq_of_lt, hwindow])
  | add | sub | adds | subs | and | or | xor | min | max | shl | shr | shra | mov | neg | abs | not | addi | andi | shli | shri
  | shrai | cmp | cmpi | movfr | mac | msu | mul | muln | aclr | aadd | asub | mova | movap | rnd | raw | lda =>
    cases h
    exact encodeR_roundTrip rfl (by decide) (by simp (disch := omega) [decodeR, Nat.mod_eq_of_lt])
  | slide k d src len =>
    cases h
    have hok : slideOk d len = true := hwf
    have hrun : d.val + len.val < 31 := by simpa [slideOk] using hok
    exact encodeR_roundTrip rfl (by decide) (by simp (disch := omega) [decodeR, Nat.mod_eq_of_lt, hrun])
  | movto k d x =>
    cases h
    exact encodeR_roundTrip rfl (by decide) (by simp (disch := omega) [decodeR, Nat.mod_eq_of_lt, sregCode_of_movtoOk hwf])
  | br | brc | call | ret | rep | repd | done | ldi =>
    cases h
    exact encodeC_roundTrip rfl (by decide) (by simp (disch := omega) [decodeC, Nat.mod_eq_of_lt])
  | ldia k x imm =>
    cases h
    exact encodeC_roundTrip rfl (by decide)
      (by simpa (disch := omega) [decodeC, Nat.mod_eq_of_lt] using sregCode_of_ldiaOk hwf)
  | _ => exact (Option.some_ne_none _ h.symm).elim

end Sys2Proof
end

section
/-! SUPPORT. Proofs/StakeReserved.lean: the encodings that R110 reserves decode to no instruction. -/
-- The proofs of this file are elaborated one after another: side by side their threads exceed the memory of the check.
set_option Elab.async false
namespace Sys2Proof

theorem decodeP_of_code_gt {sub : Nat} (h : 12 < sub) (k : Fin 128) (o : Nat) (m : PSlots) : decodeP k o m sub = none := by
  unfold decodeP
  split
  case h_14 => rfl
  all_goals omega

theorem decodeC_of_code {op : Nat} (h : op = 0 ∨ 9 < op) (k : Fin 128) (o : Nat) : decodeC k o op = none := by
  unfold decodeC
  split
  case h_10 => rfl
  all_goals omega

/-- A NOP with an operand bit set (R117). -/
theorem decodeP_nop_operands {o : Nat} (h : o % 2 ^ 12 ≠ 0) (k : Fin 128) (m : PSlots) : decodeP k o m 0 = none :=
  if_neg h

theorem decSrc_kind_three {x : Nat} (h : x / 2 ^ 9 % 4 = 3) : decSrc x = none := by
  have hkind : x / 2 ^ 4 / 2 ^ 3 / 2 ^ 2 % 2 ^ 2 = 3 := by omega
  simp only [decSrc, unpack, hkind]
  rfl

theorem decStore_reserved {x : Nat} (hon : x / 2 ^ 19 % 2 = 1) (h : x / 2 ^ 17 % 4 = 3 ∨ x / 2 ^ 9 % 4 = 3) :
    decStore x = none := by
  have hen : x / 2 ^ 11 / 2 ^ 3 / 2 ^ 3 / 2 ^ 2 % 2 ^ 1 = 1 := by omega
  simp only [decStore, unpack, hen, if_true]
  rcases h with hspace | hkind
  · have hsp : x / 2 ^ 11 / 2 ^ 3 / 2 ^ 3 % 2 ^ 2 = 3 := by omega
    rw [hsp]; rfl
  · rw [decSrc_kind_three (by omega)]
    cases storeSpace (x / 2 ^ 11 / 2 ^ 3 / 2 ^ 3 % 2 ^ 2) <;> rfl

/-- Settles O21: each reserved field leaves its decoder without an instruction; the five words are read by computation. -/
theorem stakeReservedEncodings : Obligations.StakeReservedEncodings := by
  refine ⟨fun k w hw h => ?_, fun k => ⟨rfl, rfl, rfl, rfl, rfl⟩⟩
  suffices hnone : decodeFormat k w = none by rw [decodeStake, hnone]; rfl
  have htop : w / 2 ^ 62 % 2 ^ 2 = w / 2 ^ 62 := Nat.mod_eq_of_lt (by omega)
  rw [decodeFormat_eq, htop]
  rcases h with hfmt | ⟨hfmt, hcode⟩ | ⟨hfmt, hcode⟩ | ⟨hfmt, hon, hstore⟩ | ⟨hnop, hops⟩
  · rw [hfmt]; rfl
  · simp only [hfmt, if_true, decodeP_of_code_gt (show 12 < w / 2 ^ 57 % 2 ^ 5 from hcode), Option.bind_fun_none]
  · rw [hfmt]
    exact decodeC_of_code hcode k _
  · have hst : decStore (w % 2 ^ 20) = none := decStore_reserved (by omega) (by omega)
    rw [hst, if_neg (show ¬ w / 2 ^ 62 = 2 by omega), Option.bind_none, Option.bind_none, ite_self, ite_self]
  · have hfmt : w / 2 ^ 62 = 0 := by omega
    have hcode : w / 2 ^ 57 % 2 ^ 5 = 0 := by omega
    simp only [hfmt, if_true, hcode, decodeP_nop_operands (show w / 2 ^ 45 % 2 ^ 12 % 2 ^ 12 ≠ 0 by omega), Option.bind_fun_none]

end Sys2Proof
end

section
/-! SUPPORT. Proofs/Steps.lean: what a step does with its queue, and the state after reset. -/
-- The proofs of this file are elaborated one after another: side by side their threads exceed the memory of the check.
set_option Elab.async false
namespace Sys2Proof.Machine

/-! ### One step -/

theorem step_idle {s : State} (h : s.pending = []) : step s = .next { s with now := s.now + 15 } := by
  unfold step; rw [h]

theorem step_cons {s : State} {c : Instr} {rest : List Instr} (h : s.pending = c :: rest) :
    step s = exec c { s with pending := rest } := by
  unfold step; rw [h]

theorem Frame.withNow (s : State) (n : Nat) : Frame [] [.now] s { s with now := n } :=
  ⟨fun _ _ => rfl, fun p hp => by cases p <;> simp_all [Piece.same, State.byte]⟩

/-- Whether an outcome is a next state. -/
def isNextOut : Out → Bool
  | .next _ => true
  | _ => false

theorem eq_next_of_isNextOut {o : Out} (h : isNextOut o = true) : ∃ t, o = .next t := by
  cases o with
  | next t => exact ⟨t, rfl⟩
  | _ => cases h

theorem isNextOut_exec (c : Instr) (s : State) : isNextOut (exec c s) = true := by
  cases c <;> rfl

/-- Settles O1: a step takes the front of the queue, and each command's arm ends in a next state. -/
theorem stepRunsCommand : Obligations.StepRunsCommand :=
  ⟨fun _ _ _ h => step_cons h, fun c s => eq_next_of_isNextOut (isNextOut_exec c s)⟩

/-- Settles O2: the idle step moves the clock and nothing else. -/
theorem idleStepPassesOneCycle : Obligations.IdleStepPassesOneCycle :=
  fun s h => ⟨_, step_idle h, rfl, Frame.withNow s _⟩

/-! ### The state after reset -/

theorem State.byte_reset (a : Nat) :
    State.reset.byte a = if 0x0400000000 ≤ a ∧ a ≤ 0x040FFFFFFF then 0xFF#8 else 0#8 := by
  have hreset : State.reset.byte a = memReset a := rfl
  rw [hreset, memReset]
  exact if_congr (by rw [Bool.and_eq_true, Nat.ble_eq, Nat.ble_eq]) rfl rfl

/-- Settles O3: after reset the register map and memory list nothing, so every register and byte reads its reset value. -/
theorem resetState : Obligations.ResetState :=
  ⟨fun _ => rfl, rfl, rfl, rfl, rfl, rfl, rfl, rfl, rfl, State.byte_reset⟩

end Sys2Proof.Machine
end

section
/-! SUPPORT. Proofs/StakeCanonical.lean: the issue of a stake instruction keeps memory and registers in canonical form. -/
-- The proofs of this file are elaborated one after another: side by side their threads exceed the memory of the check.
set_option Elab.async false
namespace Sys2Proof.Machine

variable {s : State}

/-- The canonical form speaks of memory and registers alone. -/
theorem State.canonical_congr {t : State} (hmem : t.mem = s.mem) (hregs : t.regs = s.regs) : t.canonical = s.canonical := by
  rw [State.canonical, State.canonical, hmem, hregs]

@[simp] theorem State.canonical_setStake (k : Nat) (x : Stake) : (s.setStake k x).canonical = s.canonical :=
  State.canonical_congr rfl rfl

@[simp] theorem State.canonical_setCluster (c : Nat) (x : Cluster) : (s.setCluster c x).canonical = s.canonical :=
  State.canonical_congr rfl rfl

theorem State.canonical_raise (h : s.canonical = true) (f : RegField) : (s.raise f).canonical = true :=
  State.canonical_sf h f 1

theorem State.canonical_setBit (h : s.canonical = true) (a i : Nat) : (s.setBit a i).canonical = true :=
  State.canonical_setReg h _ _

/-! ### Errors in memory (R497) -/

theorem State.canonical_policyBits (h : s.canonical = true) (src : FaultSrc) : (s.policyBits src).canonical = true :=
  List.foldlRecOn (motive := fun t : State => t.canonical = true) _ _ h fun t ht e _ => by
    split
    · exact State.canonical_setBit ht _ _
    · exact ht

theorem State.canonical_healthEvt (h : s.canonical = true) (f : RegField) : (s.healthEvt f).canonical = true := by
  unfold State.healthEvt
  split
  · exact h
  · exact State.canonical_policyBits (State.canonical_raise h f) _

theorem State.canonical_eccCount (h : s.canonical = true) (i : Nat) : (s.eccCount i).canonical = true := by
  have hnote : (s.eccNote i).canonical = true := State.canonical_setReg h _ _
  unfold State.eccCount
  extract_lets t
  split
  · exact State.canonical_healthEvt hnote _
  · exact hnote

theorem State.canonical_corrected (h : s.canonical = true) (a : Nat) : (s.corrected a).canonical = true := by
  unfold State.corrected
  split
  · extract_lets t
    have ht : t.canonical = true := h
    split
    · exact State.canonical_eccCount ht _
    · exact ht
  · exact h

theorem State.canonical_readEcc (h : s.canonical = true) (l : List Nat) : (s.readEcc l).canonical = true :=
  List.foldlRecOn (motive := fun t : State => t.canonical = true) _ _ h fun _ ht a _ => State.canonical_corrected ht a

/-! ### Stores and stops (R100, R106) -/

theorem State.canonical_storeWord (h : s.canonical = true) (a : Nat) (v : Word) : (s.storeWord a v).canonical = true := by
  have hword : ((s.setWord a v).freshEcc a).canonical = true := State.canonical_setBytes _ h a
  obtain ⟨p, hp⟩ := State.mirrorNote_eq ((s.setWord a v).freshEcc a) a v false
  rw [State.storeWord, hp]
  exact hword

theorem State.canonical_commit (h : s.canonical = true) (l : List PStore) : (s.commit l).canonical = true :=
  List.foldlRecOn (motive := fun t : State => t.canonical = true) _ _ h fun _ ht _ _ => State.canonical_storeWord ht _ _

theorem State.canonical_drainStores (h : s.canonical = true) (k : Nat) : (s.drainStores k).canonical = true := by
  unfold State.drainStores
  extract_lets t
  split
  · rw [State.canonical_setStake]
    exact State.canonical_commit h _
  · exact h

theorem State.canonical_stopStake (h : s.canonical = true) (k code pc : Nat) : (s.stopStake k code pc).canonical = true := by
  unfold State.stopStake
  extract_lets t halted drained c noted
  rw [State.canonical_setCluster]
  have hhalted : halted.canonical = true := by rw [State.canonical_setStake]; exact h
  exact State.canonical_raise (State.canonical_setBit (State.canonical_drainStores hhalted k) _ _) _

/-! ### The issue -/

theorem State.canonical_issue (h : s.canonical = true) (k : Nat) (o : Op) : (s.issue k o).canonical = true := by
  unfold State.issue
  extract_lets t r pc c frozen s0 due s1 r1 s2 place void isDone
  have hread : s2.canonical = true := by
    refine State.canonical_readEcc ?_ _
    rw [State.canonical_setStake]
    exact State.canonical_commit (State.canonical_corrected h _) due
  split
  · exact h
  · split
    · exact State.canonical_stopStake h _ _ _
    · split
      · exact State.canonical_stopStake (State.canonical_corrected h _) _ _ _
      · split
        · exact State.canonical_stopStake hread _ _ _
        · extract_lets r2 r3
          split
          · exact State.canonical_stopStake hread _ _ _
          · extract_lets stores t' s3
            have hlast : s3.canonical = true := by rw [State.canonical_setStake]; exact hread
            split
            · exact State.canonical_stopStake hlast _ _ _
            · exact hlast

/-- Every command that a stake word spells is the issue of one operation (R110). -/
theorem exec_eq_issue {i : Instr} (h : (encodeStake i).isSome = true) (s : State) :
    ∃ k o, exec i s = .next (s.issue k o) := by
  cases i with
  | pnop | qmac | qmsu | qmul | qdot | qdotz | bmac | ftapz | ftap | pmac | pmsu | pmul | fdly
  | add | sub | adds | subs | and | or | xor | min | max | shl | shr | shra | mov | neg | abs | not | slide | addi | andi
  | shli | shri | shrai | cmp | cmpi | movfr | movto | mac | msu | mul | muln | aclr | aadd | asub | mova | movap | rnd | raw
  | lda | br | brc | call | ret | rep | repd | done | ldi | ldia => exact ⟨_, _, rfl⟩
  | _ => exact Bool.noConfusion h

/-- Settles O22: a stake instruction is one issue, and what an issue writes it writes by the operations that keep the
canonical form. -/
theorem stakeStepsKeepCanonicalForm : Obligations.StakeStepsKeepCanonicalForm := by
  intro s t hs hstake hstep
  cases hp : s.pending with
  | nil =>
    rw [step_idle hp] at hstep
    cases hstep
    exact hs
  | cons c rest =>
    obtain ⟨k, o, hexec⟩ := exec_eq_issue (hstake c rest hp) { s with pending := rest }
    rw [step_cons hp, hexec] at hstep
    cases hstep
    have hrest : ({ s with pending := rest } : State).canonical = true := (State.canonical_congr rfl rfl).trans hs
    exact State.canonical_issue hrest k o

end Sys2Proof.Machine
end

section
/-! SUPPORT. Proofs/StakeCompute.lean: compute parts that are effects on accumulators, then writes of d registers, then the
event of a saturation (R87, R90, R104), and the instructions that issue as one of them. -/
-- The proofs of this file are elaborated one after another: side by side their threads exceed the memory of the check.
set_option Elab.async false
namespace Sys2Proof.Machine

/-! ### What a compute part leaves -/

/-- Nothing changes but the d registers and accumulators named, with their bits of AC, and sticky bits that rise. -/
structure Computes (ds accs : List Nat) (o r : Arch) : Prop where
  d : ∀ j, j ∉ ds → r.rd j = o.rd j
  acc : ∀ n, n ∉ accs → r.acc n = o.acc n
  bit : ∀ i, 3 ≤ i → (∀ n ∈ accs, i ≠ 24 + n) → bitAt r.st i = bitAt o.st i
  sticks : Arch.sticks o r
  addr : r.p = o.p ∧ r.m = o.m ∧ r.b = o.b ∧ r.l = o.l ∧ r.lc = o.lc
  flow : r.ret = o.ret ∧ r.levels = o.levels

namespace Computes

variable {ds ds' accs accs' : List Nat} {o r q : Arch}

theorem refl (o : Arch) : Computes ds accs o o where
  d _ _ := rfl
  acc _ _ := rfl
  bit _ _ _ := rfl
  sticks _ _ h := h
  addr := ⟨rfl, rfl, rfl, rfl, rfl⟩
  flow := ⟨rfl, rfl⟩

theorem trans (h : Computes ds accs o r) (g : Computes ds' accs' r q) : Computes (ds ++ ds') (accs ++ accs') o q where
  d j hj := by
    rw [List.mem_append, not_or] at hj
    exact (g.d j hj.2).trans (h.d j hj.1)
  acc n hn := by
    rw [List.mem_append, not_or] at hn
    exact (g.acc n hn.2).trans (h.acc n hn.1)
  bit i hi hne := (g.bit i hi fun n hn => hne n (List.mem_append_right _ hn)).trans
    (h.bit i hi fun n hn => hne n (List.mem_append_left _ hn))
  sticks i hi hb := g.sticks i hi (h.sticks i hi hb)
  addr := by
    obtain ⟨h1, h2, h3, h4, h5⟩ := h.addr
    obtain ⟨g1, g2, g3, g4, g5⟩ := g.addr
    exact ⟨g1.trans h1, g2.trans h2, g3.trans h3, g4.trans h4, g5.trans h5⟩
  flow := ⟨g.flow.1.trans h.flow.1, g.flow.2.trans h.flow.2⟩

theorem ac (h : Computes ds accs o r) {n : Nat} (hn : n ∉ accs) : r.ac n = o.ac n :=
  h.bit (24 + n) (by omega) fun m hm he => hn (by rwa [Nat.add_left_cancel he])

theorem setD (o : Arch) (j : Nat) (v : Word) : Computes [j] [] o (o.setD j v) where
  d i hi := by simp_all
  acc _ _ := rfl
  bit _ _ _ := rfl
  sticks _ _ h := h
  addr := ⟨rfl, rfl, rfl, rfl, rfl⟩
  flow := ⟨rfl, rfl⟩

theorem evSat (o : Arch) : Computes [] [] o o.evSat where
  d _ _ := rfl
  acc _ _ := rfl
  bit i hi _ := by rw [Arch.bit_evSat, if_neg (by omega)]
  sticks i _ h := by rw [Arch.bit_evSat]; split <;> simp_all
  addr := ⟨rfl, rfl, rfl, rfl, rfl⟩
  flow := ⟨rfl, rfl⟩

end Computes

/-! ### Effects on accumulators (R86, R87) -/

/-- An accumulator's effect carried out. -/
def Arch.effect (r : Arch) (n : Nat) : AccEff → Arch
  | .add x => r.accumulate n x
  | .set x => r.replace n x
  | .bits v => r.replaceRaw n v

def Arch.effects (r : Arch) (l : List (Nat × AccEff)) : Arch := l.foldl (fun q e => q.effect e.1 e.2) r

theorem Computes.replaceRaw (o : Arch) {n : Nat} (hn : n < 8) (v : Acc) : Computes [] [n] o (o.replaceRaw n v) where
  d _ _ := rfl
  acc m hm := by rw [Arch.acc_replaceRaw, if_neg (by simpa using hm)]
  bit i _ hne := by rw [Arch.bit_replaceRaw _ hn, if_neg (hne n (by simp))]
  sticks i hi h := by rwa [Arch.bit_replaceRaw _ hn, if_neg (by omega)]
  addr := ⟨rfl, rfl, rfl, rfl, rfl⟩
  flow := ⟨rfl, rfl⟩

/-- A clamp: the value at the limit, AC and OVG set (R87). -/
def Arch.clampAt (r : Arch) (n : Nat) (v : Int) : Arch := ((r.putA n (BitVec.ofInt 80 v)).setSt (24 + n) true).evOvg

theorem Arch.bit_clampAt (r : Arch) {n : Nat} (hn : n < 8) (v : Int) (i : Nat) :
    bitAt (r.clampAt n v).st i = if i = 0 then true else if i = 24 + n then true else bitAt r.st i := by
  rw [Arch.clampAt, Arch.bit_evOvg, Arch.bit_setSt _ (by omega), Arch.putA_st]

theorem Computes.clampAt (o : Arch) {n : Nat} (hn : n < 8) (v : Int) : Computes [] [n] o (o.clampAt n v) where
  d _ _ := rfl
  acc m hm := mget_mset_ne _ _ (by simpa using hm) _
  bit i hi hne := by rw [Arch.bit_clampAt _ hn, if_neg (by omega), if_neg (hne n (by simp))]
  sticks i hi h := by rw [Arch.bit_clampAt _ hn]; split <;> simp_all
  addr := ⟨rfl, rfl, rfl, rfl, rfl⟩
  flow := ⟨rfl, rfl⟩

theorem Computes.putA (o : Arch) (n : Nat) (v : Acc) : Computes [] [n] o (o.putA n v) where
  d _ _ := rfl
  acc m hm := mget_mset_ne _ _ (by simpa using hm) _
  bit _ _ _ := rfl
  sticks _ _ h := h
  addr := ⟨rfl, rfl, rfl, rfl, rfl⟩
  flow := ⟨rfl, rfl⟩

theorem Arch.accumulate_eq (r : Arch) (n : Nat) (x : Int) : r.accumulate n x =
    if r.ac n then r
    else if 2 ^ 79 - 1 < (r.acc n).toInt + x then r.clampAt n (2 ^ 79 - 1)
    else if (r.acc n).toInt + x < -2 ^ 79 then r.clampAt n (-2 ^ 79)
    else r.putA n (BitVec.ofInt 80 ((r.acc n).toInt + x)) := rfl

theorem Computes.accumulate (o : Arch) {n : Nat} (hn : n < 8) (x : Int) : Computes [] [n] o (o.accumulate n x) := by
  rw [Arch.accumulate_eq]
  split
  · exact Computes.refl o
  · split
    · exact Computes.clampAt o hn _
    · split
      · exact Computes.clampAt o hn _
      · exact Computes.putA o n _

theorem Computes.effect (o : Arch) {n : Nat} (hn : n < 8) (e : AccEff) : Computes [] [n] o (o.effect n e) := by
  cases e with
  | add x => exact Computes.accumulate o hn x
  | set x => exact Computes.replaceRaw o hn (BitVec.ofInt 80 x)
  | bits v => exact Computes.replaceRaw o hn v

theorem AccStep.accumulate (o : Arch) {n : Nat} (hn : n < 8) (x : Int) : AccStep o (o.accumulate n x) n (.add x) := by
  have hclamp (v : Int) : (o.clampAt n v).acc n = BitVec.ofInt 80 v ∧ (o.clampAt n v).ac n = true
      ∧ bitAt (o.clampAt n v).st 0 = true := by
    refine ⟨mget_mset_self _ _ _ _, ?_, ?_⟩
    · rw [Arch.ac, Arch.bit_clampAt _ hn, if_neg (by omega), if_pos rfl]
    · rw [Arch.bit_clampAt _ hn, if_pos rfl]
  rw [Arch.accumulate_eq, AccStep]
  split
  · next hac => exact ⟨rfl, hac⟩
  · next hac =>
    split
    · next hlow =>
      rw [if_neg (by omega)]
      exact hclamp _
    · next hlow =>
      split
      · next hhigh =>
        rw [if_pos (by omega)]
        exact hclamp _
      · next hhigh =>
        rw [if_neg (by omega)]
        refine ⟨?_, by simpa [Arch.ac] using hac⟩
        rw [Arch.acc_putA, if_pos rfl]
        exact BitVec.toInt_ofInt_eq_self (by decide) (by simpa using hlow) (by simpa using hhigh)

theorem AccStep.effect (o : Arch) {n : Nat} (hn : n < 8) (e : AccEff) : AccStep o (o.effect n e) n e := by
  have hclear (v : Acc) : (o.replaceRaw n v).acc n = v ∧ (o.replaceRaw n v).ac n = false :=
    ⟨by rw [Arch.acc_replaceRaw, if_pos rfl], by rw [Arch.ac, Arch.bit_replaceRaw _ hn, if_pos rfl]⟩
  cases e with
  | add x => exact AccStep.accumulate o hn x
  | set x => exact hclear _
  | bits v => exact hclear v

/-- An effect reads the accumulator and its bit of AC alone. -/
theorem AccStep.congr_left {o q r : Arch} {n : Nat} {e : AccEff} (hacc : q.acc n = o.acc n) (hac : q.ac n = o.ac n)
    (h : AccStep q r n e) : AccStep o r n e := by
  cases e with
  | add x => simpa only [AccStep, hacc, hac] using h
  | set x => exact h
  | bits v => exact h

/-- Effects on accumulators that differ each stand in the end. -/
theorem Arch.effects_spec (l : List (Nat × AccEff)) (o : Arch) (hlt : ∀ e ∈ l, e.1 < 8) (hdiff : (l.map (·.1)).Nodup) :
    Computes [] (l.map (·.1)) o (o.effects l) ∧ ∀ e ∈ l, AccStep o (o.effects l) e.1 e.2 := by
  induction l generalizing o with
  | nil => exact ⟨Computes.refl o, by simp⟩
  | cons e l ih =>
    have hn := hlt e (by simp)
    rw [List.map_cons, List.nodup_cons] at hdiff
    have hhead := Computes.effect o hn e.2
    obtain ⟨hkeep, heach⟩ := ih (o.effect e.1 e.2) (fun x hx => hlt x (by simp [hx])) hdiff.2
    refine ⟨hhead.trans hkeep, fun x hx => ?_⟩
    rcases List.mem_cons.1 hx with rfl | hx
    · exact (AccStep.effect o hn x.2).congr _ (hkeep.acc _ hdiff.1) (hkeep.ac hdiff.1) (hkeep.sticks 0 (by omega))
    · have hne : x.1 ∉ [e.1] := fun h => hdiff.1 (List.mem_singleton.1 h ▸ List.mem_map_of_mem hx)
      exact (heach x hx).congr_left (hhead.acc _ hne) (hhead.ac hne)

/-! ### Writes of d registers -/

def Arch.writes (r : Arch) (l : List (Nat × Word)) : Arch := l.foldl (fun q e => q.setD e.1 e.2) r

theorem Computes.writes (l : List (Nat × Word)) (o : Arch) : Computes (l.map (·.1)) [] o (o.writes l) := by
  induction l generalizing o with
  | nil => exact Computes.refl o
  | cons e l ih => exact (Computes.setD o e.1 e.2).trans (ih _)

theorem Arch.rd_writes (l : List (Nat × Word)) (o : Arch) (hdiff : (l.map (·.1)).Nodup) :
    ∀ e ∈ l, (o.writes l).rd e.1 = e.2 := by
  induction l generalizing o with
  | nil => simp
  | cons e l ih =>
    rw [List.map_cons, List.nodup_cons] at hdiff
    intro x hx
    rcases List.mem_cons.1 hx with rfl | hx
    · exact ((Computes.writes l _).d _ hdiff.1).trans (by simp)
    · exact ih _ hdiff.2 x hx

theorem Arch.writes_st (l : List (Nat × Word)) (o : Arch) : (o.writes l).st = o.st :=
  List.foldlRecOn (motive := fun r : Arch => r.st = o.st) _ _ rfl fun _ h _ _ => h

/-! ### The three parts together -/

/-- The registers after effects on accumulators, writes of d registers and the event of a saturation. -/
def Arch.computed (b : Arch) (accs : List (Nat × AccEff)) (ds : List (Nat × Word)) (sat : Bool) : Arch :=
  if sat then ((b.effects accs).writes ds).evSat else (b.effects accs).writes ds

theorem Computes.computed (b : Arch) (accs : List (Nat × AccEff)) (ds : List (Nat × Word)) (sat : Bool) :
    Computes (ds.map (·.1)) [] (b.effects accs) (b.computed accs ds sat) := by
  have hwrites := Computes.writes ds (b.effects accs)
  unfold Arch.computed
  split
  · simpa using hwrites.trans (Computes.evSat _)
  · exact hwrites

theorem Arch.rd_computed (b : Arch) (accs : List (Nat × AccEff)) (ds : List (Nat × Word)) (sat : Bool) (j : Nat) :
    (b.computed accs ds sat).rd j = ((b.effects accs).writes ds).rd j := by
  unfold Arch.computed
  split <;> rfl

/-- Such a compute part does what a spec without NF and ZF says, whatever the order of its writes. -/
theorem RunSpec.of_computed {p : StakeOp} {a b : Arch} {ds : List (Nat × Word)} (hnz : p.nz = none)
    (hlt : ∀ e ∈ p.acc, e.1 < 8) (haccs : (p.acc.map (·.1)).Nodup) (hregs : (p.d.map (·.1)).Nodup)
    (hds : ds.Perm (p.d.map fun e => (e.1, e.2 a))) (hb : ∃ q, b = { a with p := q }) :
    RunSpec p a b (b.computed (p.acc.map fun e => (e.1, e.2 a)) ds (p.sat a)) := by
  obtain ⟨q, rfl⟩ := hb
  have hkeys : (ds.map (·.1)).Perm (p.d.map (·.1)) := by simpa [Function.comp_def] using hds.map (·.1)
  have haccKeys : (p.acc.map fun e => (e.1, e.2 a)).map (·.1) = p.acc.map (·.1) := by simp
  obtain ⟨heffects, heach⟩ := Arch.effects_spec (p.acc.map fun e => (e.1, e.2 a)) { a with p := q }
    (List.forall_mem_map.2 hlt) (haccKeys ▸ haccs)
  have hrest := Computes.computed { a with p := q } (p.acc.map fun e => (e.1, e.2 a)) ds (p.sat a)
  have hall := heffects.trans hrest
  rw [haccKeys, List.nil_append, List.append_nil] at hall
  have hflag : ∀ i, 3 ≤ i → i < 24 → bitAt (Arch.computed { a with p := q } (p.acc.map fun e => (e.1, e.2 a)) ds (p.sat a)).st i
      = bitAt a.st i := fun i h3 h24 => hall.bit i h3 (by omega)
  exact {
    d := fun e he => (Arch.rd_computed _ _ _ _ _).trans
      (Arch.rd_writes ds _ (hkeys.nodup_iff.2 hregs) (e.1, e.2 a) (hds.mem_iff.2 (List.mem_map_of_mem he)))
    d_keep := fun j hj => hall.d j (hkeys.mem_iff.not.2 hj)
    acc := fun e he => (heach (e.1, e.2 a) (List.mem_map_of_mem he)).congr _ (hrest.acc _ (by simp)) (hrest.ac (by simp))
      (hrest.sticks 0 (by omega))
    acc_keep := hall.acc
    ac_keep := fun n _ hn => hall.ac hn
    nz := by rw [hnz, Arch.nf, Arch.zf, hflag 9 (by omega) (by omega), hflag 8 (by omega) (by omega)]; rfl
    rnd := bitsOf_congr fun i _ _ => hflag i (by omega) (by omega)
    sticks := hall.sticks
    sat := fun hsat => by rw [Arch.computed, if_pos hsat, Arch.bit_evSat, if_pos rfl]
    calm := fun hacc hsat i _ => by
      rw [Arch.computed, hsat, if_neg Bool.false_ne_true, Arch.writes_st, hacc]; rfl
    addr := hall.addr
    flow := hall.flow }

/-- An instruction that issues as effects on accumulators, writes of d registers and a saturation meets the spec that
names them. -/
theorem StakeOp.holds_of_computed {i : Instr} {p : StakeOp} (o : Op) (ds : Arch → List (Nat × Word))
    (hx : ∀ s, exec i s = .next (s.issue p.k.val o)) (hm : o.l1 = p.m.l1 ∧ o.l2 = p.m.l2 ∧ o.st = p.m.st)
    (hplace : o.lda = none ∧ o.ctl = .seq ∧ o.sreg = none)
    (hl : loadsClash p.m.l1 p.m.l2 (p.d.map (·.1)) = false → o.legal = true) (hp : p.Plain) (hnz : p.nz = none)
    (hlt : ∀ e ∈ p.acc, e.1 < 8) (haccs : (p.acc.map (·.1)).Nodup) (hregs : (p.d.map (·.1)).Nodup)
    (hds : ∀ a, (ds a).Perm (p.d.map fun e => (e.1, e.2 a)))
    (hrun : ∀ a b, o.run a b = b.computed (p.acc.map fun e => (e.1, e.2 a)) (ds a) (p.sat a)) : p.holds i := by
  obtain ⟨hlda, hctl, hsreg⟩ := hplace
  refine StakeOp.holds_of o hx hm hlda hctl hsreg hl hp (fun a b hb => ?_) fun a b => ?_
  · rw [hrun]
    exact RunSpec.of_computed hnz hlt haccs hregs (hds a) hb
  · rw [hrun]
    exact (Computes.computed _ _ _ _).flow.2.trans (Arch.effects_spec _ b (List.forall_mem_map.2 hlt) (by rw [List.map_map]; exact haccs)).1.flow.2

end Sys2Proof.Machine
end

section
/-! SUPPORT. Proofs/StakeAccs.lean: the accumulator operations of format R and the operations of format P compute what R117,
R124 and R127 to R129 say. -/
-- The proofs of this file are elaborated one after another: side by side their threads exceed the memory of the check.
set_option Elab.async false
namespace Sys2Proof.Machine

/-! ### Parts of an accumulator (R73, R124) -/

theorem setPart_l (a : Acc) (v : Word) : setPart a v .l = a.extractLsb' 32 48 ++ v := by
  apply BitVec.eq_of_toNat_eq
  have hv := v.isLt
  have ha := a.isLt
  rw [setPart, BitVec.toNat_append, BitVec.extractLsb'_toNat, Nat.shiftRight_eq_div_pow, ← Nat.shiftLeft_add_eq_or_of_lt hv,
    Nat.shiftLeft_eq, BitVec.toNat_ofNat]
  omega

theorem setPart_h (a : Acc) (v : Word) : setPart a v .h = a.extractLsb' 64 16 ++ v ++ a.extractLsb' 0 32 := by
  apply BitVec.eq_of_toNat_eq
  have hv := v.isLt
  have ha := a.isLt
  rw [setPart, BitVec.toNat_append, BitVec.toNat_append, BitVec.extractLsb'_toNat, BitVec.extractLsb'_toNat,
    Nat.shiftRight_zero, Nat.shiftRight_eq_div_pow, ← Nat.shiftLeft_add_eq_or_of_lt hv,
    ← Nat.shiftLeft_add_eq_or_of_lt (Nat.mod_lt _ (by decide)), Nat.shiftLeft_eq, Nat.shiftLeft_eq, BitVec.toNat_ofNat]
  omega

theorem setPart_g (a : Acc) (v : Word) : setPart a v .g = v.extractLsb' 0 16 ++ a.extractLsb' 0 64 := by
  apply BitVec.eq_of_toNat_eq
  rw [setPart, BitVec.toNat_append, BitVec.extractLsb'_toNat, BitVec.extractLsb'_toNat, Nat.shiftRight_zero,
    Nat.shiftRight_zero, ← Nat.shiftLeft_add_eq_or_of_lt (Nat.mod_lt _ (by decide)), Nat.shiftLeft_eq, BitVec.toNat_ofNat]
  omega

/-! ### Format R -/

theorem accTo_holds {i : Instr} {k : Fin 128} {m : RSlots} {a : Fin 8} {f : Arch → AccEff} (e : Op)
    (hx : ∀ s, exec i s = .next (s.issue k.val (rOp m [] e)))
    (he : e.legal = true ∧ e.l1 = none ∧ e.lda = none ∧ e.ctl = .seq ∧ e.sreg = none)
    (hf : ∀ (o : Arch) (st : List PStore), f { o with stores := st } = f o)
    (hrun : ∀ o r, e.run o r = r.effect a.val (f o)) : (accTo k m a f).holds i := by
  obtain ⟨hlegal, hl1, hlda, hctl, hsreg⟩ := he
  refine StakeOp.holds_of_computed _ (fun _ => []) hx ⟨hl1, rfl, rfl⟩ ⟨hlda, hctl, hsreg⟩ (fun hl => ?_) ?_ rfl
    (by simp [accTo]) (by simp [accTo]) (by simp [accTo]) (by simp [accTo]) hrun
  · simpa [accTo, rOp, RSlots.full, hlegal] using hl
  · exact {
      d := by simp [accTo]
      acc := by simpa [accTo] using hf
      nz := nofun
      sat := fun _ _ => rfl }

/-- Settles O14: each operation is one effect on its accumulator, and the model's value for it is R124's. -/
theorem stakeAccumulators : Obligations.StakeAccumulators := by
  intro i p h
  have part {k a x m} (part : Part) {f : Arch → AccEff} (hf : ∀ o : Arch, AccEff.bits (setPart (o.acc a.val) (o.rd x.val) part) = f o) :
      (accTo k m a f).holds (.movap k a part x m) := by
    obtain rfl : _ = f := funext hf
    exact accTo_holds _ (fun _ => rfl) ⟨rfl, rfl, rfl, rfl, rfl⟩ (fun _ _ => rfl) fun _ _ => rfl
  cases i with
  | mac | msu | mul | muln | aclr | aadd | asub | mova =>
    cases h
    exact accTo_holds _ (fun _ => rfl) ⟨rfl, rfl, rfl, rfl, rfl⟩ (fun _ _ => rfl) fun _ _ => rfl
  | movap k a p =>
    cases p with
    | l => cases h; exact part .l fun _ => congrArg _ (setPart_l _ _)
    | h => cases h; exact part .h fun _ => congrArg _ (setPart_h _ _)
    | g => cases h; exact part .g fun _ => congrArg _ (setPart_g _ _)
  | _ => exact (Option.some_ne_none _ h.symm).elim

/-! ### Format P -/

theorem parTo_holds {i : Instr} {p : StakeOp} (e : Op) (ds : Arch → List (Nat × Word))
    (hx : ∀ s, exec i s = .next (s.issue p.k.val (pOp p.m (p.d.map (·.1)) e)))
    (he : e.legal = true ∧ e.lda = none ∧ e.ctl = .seq ∧ e.sreg = none)
    (hp : p.Plain ∧ p.nz = none ∧ p.sat = fun _ => false) (hlt : ∀ e ∈ p.acc, e.1 < 8)
    (haccs : (p.acc.map (·.1)).Nodup) (hregs : (p.d.map (·.1)).Nodup)
    (hds : ∀ a, (ds a).Perm (p.d.map fun e => (e.1, e.2 a)))
    (hrun : ∀ o r, e.run o r = (r.effects (p.acc.map fun e => (e.1, e.2 o))).writes (ds o)) : p.holds i := by
  obtain ⟨hlegal, hlda, hctl, hsreg⟩ := he
  obtain ⟨hplain, hnz, hsat⟩ := hp
  refine StakeOp.holds_of_computed _ ds hx ⟨rfl, rfl, rfl⟩ ⟨hlda, hctl, hsreg⟩ (fun hl => ?_) hplain hnz hlt haccs hregs hds
    fun a b => ?_
  · simpa [pOp, hlegal] using hl
  · rw [hsat]; exact hrun a b

section
variable {i : Instr} {k : Fin 128} {m : PSlots}

/-- One accumulator, no d register. -/
theorem parAcc_holds {a : Fin 8} {f : Arch → AccEff} (e : Op) (hx : ∀ s, exec i s = .next (s.issue k.val (pOp m [] e)))
    (he : e.legal = true ∧ e.lda = none ∧ e.ctl = .seq ∧ e.sreg = none)
    (hf : ∀ (o : Arch) (st : List PStore), f { o with stores := st } = f o)
    (hrun : ∀ o r, e.run o r = r.effect a.val (f o)) : StakeOp.holds i { k := k, m := m, acc := [(a.val, f)] } :=
  parTo_holds e (fun _ => []) hx he
    ⟨{ d := by simp, acc := by simpa using hf, nz := nofun, sat := fun _ _ => rfl }, rfl, rfl⟩
    (by simp) (by simp) (by simp) (by simp) hrun

theorem groupAcc_lt (g : Fin 2) (f : Nat → Arch → AccEff) : ∀ e ∈ groupAcc g f, e.1 < 8 := by
  intro e he
  obtain ⟨j, hj, rfl⟩ := List.mem_map.1 he
  have := List.mem_range.1 hj
  show 4 * g.val + j < 8
  omega

theorem groupAcc_nodup (g : Fin 2) (f : Nat → Arch → AccEff) : ((groupAcc g f).map (·.1)).Nodup := by
  rw [groupAcc, List.map_map]
  exact List.nodup_range.map fun x y h => Nat.add_left_cancel h

/-- A group of accumulators, and a window of d registers that the spec lists. -/
theorem parGroup_holds {g : Fin 2} {f : Nat → Arch → AccEff} {d : List (Nat × (Arch → Word))} (e : Op)
    (ds : Arch → List (Nat × Word)) (hx : ∀ s, exec i s = .next (s.issue k.val (pOp m (d.map (·.1)) e)))
    (he : e.legal = true ∧ e.lda = none ∧ e.ctl = .seq ∧ e.sreg = none)
    (hf : ∀ (j : Nat) (o : Arch) (st : List PStore), f j { o with stores := st } = f j o)
    (hd : ∀ x ∈ d, ∀ (o : Arch) (st : List PStore), x.2 { o with stores := st } = x.2 o)
    (hregs : (d.map (·.1)).Nodup) (hds : ∀ a, (ds a).Perm (d.map fun e => (e.1, e.2 a)))
    (hrun : ∀ o r, e.run o r = (r.effects ((groupAcc g f).map fun e => (e.1, e.2 o))).writes (ds o)) :
    StakeOp.holds i { k := k, m := m, d := d, acc := groupAcc g f } :=
  parTo_holds e ds hx he
    ⟨{ d := hd, acc := List.forall_mem_map.2 fun j _ => hf j, nz := nofun, sat := fun _ _ => rfl }, rfl, rfl⟩
    (groupAcc_lt g f) (groupAcc_nodup g f) hregs hds hrun

end

/-! ### Windows, sums and the interpolation ROM (R117, R127 to R129) -/

theorem pastWindow_nodup (w : Nat) : ((pastWindow w).map (·.1)).Nodup := by
  simp [pastWindow]

theorem nextWindow_nodup (w : Nat) : ((nextWindow w).map (·.1)).Nodup := by
  rw [nextWindow, List.map_map]
  exact List.nodup_range.map fun x y h => Nat.add_left_cancel h

theorem Arch.dot4_eq_dotSpec (o : Arch) (x y : Nat) : o.dot4 x y = dotSpec o x y := by
  simp [Arch.dot4, dotSpec, Arch.prod, Arch.sd, sWord, List.range_succ, add_assoc]

theorem floor_div (n : Int) (d : Nat) : ((n : Rat) / d).floor = n / d := Rat.floor_intCast_div_natCast n d

/-- A quotient of integers rounded half up, as the ROM computes it. -/
theorem rom_floor {x : Rat} (n : Int) (d : Nat) (h : x = ((n * 8192 + d : Int) : Rat) / ((2 * d : Nat) : Rat)) :
    (n * 8192 + d) / (2 * d) = x.floor := by
  rw [h, floor_div]; rfl

theorem fdlyRom_eq_romSpec (phi j : Nat) : fdlyRom phi j = romSpec phi j := by
  match j with
  | 0 => exact rom_floor (-(phi * (64 - phi) * (64 + phi))) 6 (by push_cast; ring)
  | 1 => exact rom_floor (phi * (64 + phi) * (128 - phi)) 2 (by push_cast; ring)
  | 2 => exact rom_floor ((64 - phi) * (64 + phi) * (128 - phi)) 2 (by push_cast; ring)
  | _ + 3 => exact rom_floor (-(phi * (64 - phi) * (128 - phi))) 6 (by push_cast; ring)

/-- The interpolated sum as the model adds it. -/
theorem fdlySpec_eq (o : Arch) (w f : Nat) :
    let phi : Int := ((o.rd f).toNat % 64 : Nat)
    fdlyRom phi 0 * sWord (o.rd (4 * w)) + fdlyRom phi 1 * sWord (o.rd (4 * w + 1))
      + fdlyRom phi 2 * sWord (o.rd (4 * w + 2)) + fdlyRom phi 3 * sWord (o.rd (4 * w + 3)) = fdlySpec o w f := by
  simp only [fdlyRom_eq_romSpec]
  simp [fdlySpec, Arch.sd, sWord, List.range_succ, add_assoc]

/-- Settles O15: each operation is effects on accumulators and the slide of a window, with the values of R117 and R127 to
R129. -/
theorem stakeParallelOps : Obligations.StakeParallelOps := by
  intro i p h
  cases i with
  | pnop =>
    cases h
    exact parTo_holds _ (fun _ => []) (fun _ => rfl) ⟨rfl, rfl, rfl, rfl⟩
      ⟨{ d := by simp, acc := by simp, nz := nofun, sat := fun _ _ => rfl }, rfl, rfl⟩ (by simp) (by simp) (by simp) (by simp)
      fun _ _ => rfl
  | qmac | qmsu | qmul | bmac =>
    cases h
    exact parGroup_holds _ (fun _ => []) (fun _ => rfl) ⟨rfl, rfl, rfl, rfl⟩ (fun _ _ _ => rfl) (by simp) (by simp) (by simp)
      fun _ _ => rfl
  | qdot | qdotz =>
    cases h
    exact parAcc_holds _ (fun _ => rfl) ⟨rfl, rfl, rfl, rfl⟩ (fun _ _ => rfl) fun _ _ => by rw [← Arch.dot4_eq_dotSpec]; rfl
  | pmac | pmsu | pmul =>
    cases h
    exact parAcc_holds _ (fun _ => rfl) ⟨rfl, rfl, rfl, rfl⟩ (fun _ _ => rfl) fun _ _ => rfl
  | ftapz k g c w | ftap k g c w =>
    change ite _ _ _ = _ at h
    split at h
    · cases h
    · next hw =>
      cases h
      exact parGroup_holds _ (fun a => ((pastWindow w.val).map fun e => (e.1, e.2 a)).reverse) (fun _ => rfl)
        ⟨bne_iff_ne.2 hw, rfl, rfl, rfl⟩ (fun _ _ _ => rfl)
        (by simp [pastWindow, Arch.rd]) (pastWindow_nodup _) (fun _ => List.reverse_perm _) fun _ _ => rfl
  | fdly k a w f sh m =>
    change ite _ _ _ = _ at h
    split at h
    · cases h
    · next hw =>
      cases h
      have hlegal : (w.val != 7) = true := bne_iff_ne.2 hw
      cases sh with
      | false =>
        exact parAcc_holds _ (fun _ => rfl) ⟨hlegal, rfl, rfl, rfl⟩ (fun _ _ => rfl) fun o r => by rw [← fdlySpec_eq]; rfl
      | true =>
        exact parTo_holds (p := { k := k, m := m, d := nextWindow w.val, acc := [(a.val, fun o => .set (fdlySpec o w.val f.val))] })
          _ (fun o => (nextWindow w.val).map fun e => (e.1, e.2 o)) (fun _ => rfl) ⟨hlegal, rfl, rfl, rfl⟩
          ⟨{ d := List.forall_mem_map.2 fun _ _ _ _ => rfl, acc := List.forall_mem_singleton.2 fun _ _ => rfl,
             nz := nofun, sat := fun _ _ => rfl }, rfl, rfl⟩
          (by simp) (by simp) (nextWindow_nodup _) (fun _ => List.Perm.refl _) fun o r => by
            show _ = Arch.writes (r.replace a.val (fdlySpec o w.val f.val)) _
            rw [← fdlySpec_eq]; rfl
  | _ => exact (Option.some_ne_none _ h.symm).elim

end Sys2Proof.Machine
end

section
/-! SUPPORT. Proofs/StakeIssue.lean: the issue of any instruction by a stake that nothing holds up, by its parts: the stores
due, the loads, the registers after its own effects, its control transfer, and the stake it leaves (R97 to R101). -/
-- The proofs of this file are elaborated one after another: side by side their threads exceed the memory of the check.
set_option Elab.async false
namespace Sys2Proof.Machine

/-! ### The parts of an issue -/

/-- The cycle at which a stake issues an operation. -/
def Op.cycle (o : Op) (t : Stake) : Nat := t.issueCycle (o.needs ++ if o.tests then t.arch.testKeys else [])

/-- The registers that an operation meets: the stores due by its cycle are carried out. -/
def Op.met (o : Op) (t : Stake) : Arch :=
  { t.arch with stores := t.arch.stores.filter fun p => !Nat.ble (p.cycle + 3) (o.cycle t) }

/-- The state that an operation meets. -/
def State.fetched (s : State) (k : Nat) (o : Op) : State :=
  (s.commit ((s.stake k).arch.stores.filter fun p => Nat.ble (p.cycle + 3) (o.cycle (s.stake k)))).setStake k
    { s.stake k with arch := o.met (s.stake k) }

/-- The registers after an operation's own effects, from those that it meets. -/
def Op.effects (o : Op) (k q c : Nat) (r : Arch) (ld : Loaded) : Arch :=
  let r2 := o.apply r ld (o.storeSat r) (o.storeVoid k q r)
  if o.sreg = some .st then r.keepEvents r2 c else r2

/-- Whether an operation is DONE. -/
def Op.ends (o : Op) : Bool := match o.ctl with | .done => true | _ => false

/-- The stores that wait after an operation that left `l`: those, and its own. -/
def Op.storesAfter (o : Op) (k q c : Nat) (r : Arch) (l : List PStore) : List PStore :=
  match o.storePlace k q r, o.st with
  | some (some a), some x => l ++ [⟨c, a, (r.storeData x.src).1⟩]
  | _, _ => l

/-- The stake that an operation leaves: `r` the registers it met, `r2` those after its effects, `r3` those after its
control transfer. -/
def Op.leaves (o : Op) (k q : Nat) (t : Stake) (r r2 r3 : Arch) (next cost : Nat) : Stake :=
  let c := o.cycle t
  { t with
    arch := { r3 with
      pc := next % 8192, stores := o.storesAfter k q c r r3.stores, due := o.dueAfter c r3.due,
      ovgAt := if r.clamped r2 then c + 2 else r.ovgAt, accvAt := if o.storeVoid k q r then c + 2 else r.accvAt },
    lastPc := t.arch.pc, cyc := c + cost, hz := o.produces c t.hz, reqs := t.reqs ++ o.coilReqs k c r,
    frz := t.frz.filter fun f => !Nat.ble f.1 c, doneAt := if o.ends then some c else none }

section
variable {s : State} {k : Nat} {o : Op}

theorem State.readyAt_of_ready (h : s.ready k) : s.readyAt k := ⟨h.1, h.2.1, h.2.2.1, h.2.2.2.1, h.2.2.2.2.1⟩

theorem State.fetched_ecc (h : s.readyAt k) : (s.fetched k o).ecc = [] := by
  obtain ⟨-, -, -, hecc, -⟩ := h
  exact (State.commit_spec _ s hecc).2.2.1

theorem State.fetched_sys : (s.fetched k o).sys = s.sys := (State.commit_frame s _).2 .sys (by simp)

/-- Where nothing holds the stake up, its loads succeed and the control transfer says how the issue ends. -/
theorem State.issue_ready (h : s.readyAt k) (hl : o.legal = true) : ∃ ld, (s.fetched k o).loads k (o.met (s.stake k)) o = .inr ld ∧
    s.issue k o = (match o.transfer (o.met (s.stake k))
        (o.effects k s.sys.parity (o.cycle (s.stake k)) (o.met (s.stake k)) ld) (s.stake k).arch.pc with
      | .inl f => (s.fetched k o).stopStake k f (s.stake k).arch.pc
      | .inr (r3, next, cost) =>
        let t := (s.fetched k o).setStake k (o.leaves k s.sys.parity (s.stake k) (o.met (s.stake k))
          (o.effects k s.sys.parity (o.cycle (s.stake k)) (o.met (s.stake k)) ld) r3 next cost)
        if 8192 ≤ next && !o.ends then t.stopStake k fPcEnd (s.stake k).arch.pc else t) := by
  obtain ⟨ld, hload, -⟩ := State.loads_ok (s.fetched k o) k (o.met (s.stake k)) o (State.fetched_ecc h)
  obtain ⟨hrun, hdone, hreqs, hecc, -⟩ := h
  refine ⟨ld, hload, ?_⟩
  have hread (l : List Nat) : (s.fetched k o).readEcc l = s.fetched k o :=
    State.readEcc_nil _ l (State.commit_spec _ s hecc).2.2.1
  unfold State.fetched Op.met Op.cycle at hread hload
  unfold State.issue
  dsimp only
  rw [if_neg (by simp [hrun, hdone, hreqs]), if_neg (by simp [s.ue_nil _ hecc]), s.corrected_nil _ hecc, if_neg (by simp [hl]),
    hread, hload]
  rfl

/-! ### How an issue ends -/

/-- Another stake left at `k`, after the stores due, is all that an issue changes. -/
theorem State.fetched_frame (h : s.readyAt k) (x : Stake) : StakeFrame k s ((s.fetched k o).setStake k x) := by
  obtain ⟨-, -, -, hecc, -⟩ := h
  obtain ⟨hframe, hcompute, -, hbyte⟩ :=
    State.commit_spec ((s.stake k).arch.stores.filter fun p => Nat.ble (p.cycle + 3) (o.cycle (s.stake k))) s hecc
  have hset := ((Frame.setStake (s.fetched k o) k x).mono (p2 := [.compute, .mem, .pair]) (fun _ h => h) (by simp))
  have hfetch : Frame [] [.compute, .mem, .pair] s (s.fetched k o) :=
    (hframe.mono (fun _ h => h) (by simp)).trans ((Frame.setStake _ k _).mono (fun _ h => h) (by simp))
  refine ⟨hfetch.trans hset, fun j hj => ?_, ?_, ?_, fun a ha => hbyte a fun p hp => ha p (List.mem_of_mem_filter hp)⟩
  · rw [State.stake_setStake_ne _ hj, State.fetched, State.stake_setStake_ne _ hj, State.stake_congr hcompute]
  · show (s.commit _).compute.clusters = _
    rw [hcompute]
  · show (s.commit _).compute.regions = _
    rw [hcompute]

/-- An issue whose control transfer succeeds within program memory leaves the stake that `Op.leaves` names. -/
theorem State.issue_goes (h : s.readyAt k) (hl : o.legal = true) {Q : Stake → Prop}
    (hgo : ∀ ld, (s.fetched k o).loads k (o.met (s.stake k)) o = .inr ld →
      ∃ r3 next cost, o.transfer (o.met (s.stake k))
          (o.effects k s.sys.parity (o.cycle (s.stake k)) (o.met (s.stake k)) ld) (s.stake k).arch.pc = .inr (r3, next, cost)
        ∧ (next < 8192 ∨ o.ends = true)
        ∧ Q (o.leaves k s.sys.parity (s.stake k) (o.met (s.stake k))
            (o.effects k s.sys.parity (o.cycle (s.stake k)) (o.met (s.stake k)) ld) r3 next cost)) :
    StakeFrame k s (s.issue k o) ∧ Q ((s.issue k o).stake k) := by
  obtain ⟨ld, hload, hissue⟩ := State.issue_ready h hl
  obtain ⟨r3, next, cost, htransfer, hnext, hq⟩ := hgo ld hload
  rw [htransfer] at hissue
  have hin : ¬ (decide (8192 ≤ next) && !o.ends) = true := by
    rcases hnext with hnext | hends
    · simp [hnext]
    · simp [hends]
  rw [hissue]
  dsimp only
  rw [if_neg hin]
  exact ⟨State.fetched_frame h _, by rwa [State.stake_setStake]⟩

/-- An issue that meets a fault in its control transfer stops the stake. -/
theorem State.issue_faults (h : s.readyAt k) (hl : o.legal = true) {f : Nat}
    (hf : ∀ ld, (s.fetched k o).loads k (o.met (s.stake k)) o = .inr ld → o.transfer (o.met (s.stake k))
        (o.effects k s.sys.parity (o.cycle (s.stake k)) (o.met (s.stake k)) ld) (s.stake k).arch.pc = .inl f) :
    s.issue k o = (s.fetched k o).stopStake k f (s.stake k).arch.pc := by
  obtain ⟨ld, hload, hissue⟩ := State.issue_ready h hl
  rw [hissue, hf ld hload]

/-- An encoding that is not legal stops the stake before it does anything (R106). -/
theorem State.issue_illegal (h : s.readyAt k) (hl : o.legal = false) :
    s.issue k o = s.stopStake k fIllegal (s.stake k).arch.pc := by
  obtain ⟨hrun, hdone, hreqs, hecc, -⟩ := h
  unfold State.issue
  dsimp only
  rw [if_neg (by simp [hrun, hdone, hreqs]), if_neg (by simp [s.ue_nil _ hecc]), s.corrected_nil _ hecc, if_pos (by simp [hl])]

/-! ### Operations without memory slots -/

/-- No memory slot active. -/
def Op.bare (o : Op) : Prop := o.l1 = none ∧ o.lda = none ∧ o.l2 = none ∧ o.st = none

theorem Op.posts_bare (hb : o.bare) (r : Arch) : o.posts r = r := by
  obtain ⟨h1, h2, h3, h4⟩ := hb
  have haccesses : o.accesses = [] := by simp [Op.accesses, h1, h2, h3, h4]
  simp [Op.posts, haccesses]

theorem State.loads_bare (hb : o.bare) (r : Arch) : s.loads k r o = .inr ⟨[], [], false⟩ := by
  obtain ⟨h1, h2, h3, -⟩ := hb
  simp [State.loads, h1, h2, h3]

theorem Op.effects_bare (hb : o.bare) (hst : o.sreg ≠ some .st) (q c : Nat) (r : Arch) :
    o.effects k q c r ⟨[], [], false⟩ = o.run r r := by
  obtain ⟨-, -, -, h4⟩ := id hb
  have hsat : o.storeSat r = false := by simp [Op.storeSat, h4]
  have hvoid : o.storeVoid k q r = false := by simp [Op.storeVoid, Op.storePlace, h4]
  rw [Op.effects, if_neg hst, hsat, hvoid, Op.apply_eq, Op.posts_bare hb]
  rfl

/-- The registers that a bare operation leaves, where its control transfer makes `r3` of them. -/
structure Arch.Leaves (r3 : Arch) (next : Nat) (r : Arch) : Prop where
  data : r.d = r3.d ∧ r.a = r3.a ∧ r.st = r3.st
  addr : r.p = r3.p ∧ r.m = r3.m ∧ r.b = r3.b ∧ r.l = r3.l ∧ r.lc = r3.lc
  flow : r.ret = r3.ret ∧ r.levels = r3.levels
  pc : r.pc = next

/-- A bare operation issued by a stake that nothing holds up. -/
theorem StakeStep.of_bare {i : Instr} {P : Arch → Arch → Prop} (hx : exec i s = .next (s.issue k o)) (h : s.readyAt k)
    (hl : o.legal = true) (hb : o.bare) (hst : o.sreg ≠ some .st) {r3 : Arch} {next cost : Nat}
    (ht : o.transfer (o.met (s.stake k)) (o.run (o.met (s.stake k)) (o.met (s.stake k))) (s.stake k).arch.pc
      = .inr (r3, next, cost)) (hnext : next < 8192) (hP : ∀ r, Arch.Leaves r3 next r → P (s.stake k).arch r) :
    StakeStep i k s P := by
  obtain ⟨hframe, hq⟩ := State.issue_goes (o := o) h hl (Q := fun t => t.run = .running ∧ t.lastPc = (s.stake k).arch.pc
      ∧ P (s.stake k).arch t.arch) fun ld hload => by
    rw [State.loads_bare hb] at hload
    cases hload
    rw [Op.effects_bare hb hst]
    refine ⟨r3, next, cost, ht, .inl hnext, eq_of_beq h.1, rfl, hP _ ?_⟩
    exact ⟨⟨rfl, rfl, rfl⟩, ⟨rfl, rfl, rfl, rfl, rfl⟩, ⟨rfl, rfl⟩, Nat.mod_eq_of_lt hnext⟩
  exact ⟨_, hx, hframe, hq⟩

end

end Sys2Proof.Machine
end

section
/-! SUPPORT. Proofs/StakeControl.lean: control transfers and the end of a repeated block (R95 to R97, R101, R125). -/
-- The proofs of this file are elaborated one after another: side by side their threads exceed the memory of the check.
set_option Elab.async false
namespace Sys2Proof.Machine

variable {s : State} {k : Fin 128}

/-! ### What a transfer leaves of the registers -/

theorem Arch.Leaves.flat {o r3 r : Arch} {next : Nat} (h : Arch.Leaves r3 next r) (h3 : Arch.flat o r3) : Arch.flat o r := by
  obtain ⟨hd, ha, hst⟩ := h.data
  obtain ⟨hp, hm, hb, hl, -⟩ := h.addr
  obtain ⟨gd, ga, gaddr, gst⟩ := h3
  refine ⟨fun j => ?_, fun n => ?_, fun n => ?_, hst.trans gst⟩
  · rw [Arch.rd, hd]; exact gd j
  · rw [Arch.acc, ha]; exact ga n
  · rw [Arch.rp, Arch.rm, Arch.rb, Arch.rl, hp, hm, hb, hl]; exact gaddr n

theorem Arch.Leaves.rlc {r3 r : Arch} {next : Nat} (h : Arch.Leaves r3 next r) (n : Nat) : r.rlc n = r3.rlc n := by
  rw [Arch.rlc, h.addr.2.2.2.2]; rfl

theorem Op.flat_met (o : Op) (t : Stake) : Arch.flat t.arch (o.met t) := ⟨fun _ => rfl, fun _ => rfl, fun _ => ⟨rfl, rfl, rfl, rfl⟩, rfl⟩

/-! ### Branches (R97, R125) -/

theorem Arch.branchTo_eq (r : Arch) (t : Nat) : r.branchTo t = { r with levels := Arch.levelsAround t r } := by
  have hinside : (fun v : Level => Nat.ble v.start t && Nat.ble t v.stop)
      = fun v => decide (v.start ≤ t) && decide (t ≤ v.stop) := by
    funext v
    simp [← Nat.ble_eq]
  unfold Arch.branchTo Arch.levelsAround
  rw [hinside]
  dsimp only
  cases hl : r.levels with
  | nil => rfl
  | cons v rest =>
    by_cases hv : (decide (v.start ≤ t) && decide (t ≤ v.stop)) = true
    · have hin : v ∈ (v :: rest).filter fun v => decide (v.start ≤ t) && decide (t ≤ v.stop) := by simp [hv]
      rw [List.head?_cons, Option.any_some, if_pos hv]
      dsimp only
      rw [if_pos hin, ← hl]
    · have hout : v ∉ (v :: rest).filter fun v => decide (v.start ≤ t) && decide (t ≤ v.stop) := by simp [hv]
      rw [List.head?_cons, Option.any_some, if_neg hv]
      dsimp only
      rw [if_neg hout]

theorem Arch.holds_eq_condSpec (o : Arch) (c : Cond) : o.holds c = condSpec o c := by cases c <;> rfl

/-! ### Where each transfer goes -/

section
variable {o : Op} {old r : Arch} {pc : Nat}

/-- An issue that no level ends at goes on to the next address. -/
theorem Op.endOfBlock_none (hs : o.sreg = none) (h : ∀ v ∈ r.levels, v.stop ≠ pc) : o.endOfBlock old r pc = (r, none) := by
  rw [Op.endOfBlock, hs]
  exact endTests_none pc r.levels r h

theorem Op.transfer_branch {t : Nat} (hctl : o.ctl = .branch t) :
    o.transfer old r pc = .inr ({ r with levels := Arch.levelsAround t r }, t, 2) := by
  rw [← Arch.branchTo_eq, Op.transfer, hctl]

theorem Op.transfer_taken {c : Cond} {t : Nat} (hctl : o.ctl = .branchIf c t) (hc : old.holds c = true) :
    o.transfer old r pc = .inr ({ r with levels := Arch.levelsAround t r }, t, 3) := by
  rw [← Arch.branchTo_eq, Op.transfer, hctl]
  exact if_pos hc

theorem Op.transfer_not_taken {c : Cond} {t : Nat} (hctl : o.ctl = .branchIf c t) (hc : old.holds c = false)
    (hs : o.sreg = none) (h : ∀ v ∈ r.levels, v.stop ≠ pc) : o.transfer old r pc = .inr (r, pc + 1, 1) := by
  rw [Op.transfer, hctl]
  dsimp only
  rw [if_neg (by simp [hc]), Op.endOfBlock_none hs h]
  rfl

theorem Op.transfer_call {t : Nat} (hctl : o.ctl = .call t) (hlen : r.ret.length < 8) :
    o.transfer old r pc = .inr ({ r with ret := (pc + 1) :: r.ret }, t, 2) := by
  rw [Op.transfer, hctl]
  exact if_neg (by omega)

theorem Op.transfer_ret {a : Nat} {rest : List Nat} (hctl : o.ctl = .ret) (hret : r.ret = a :: rest) :
    o.transfer old r pc = .inr ({ r with ret := rest }, a, 2) := by
  rw [Op.transfer, hctl]
  dsimp only
  rw [hret]

/-- The count of a REP or REPD, and its last address. -/
def Op.repeats (o : Op) (old : Arch) (stop count : Nat) : Prop :=
  o.ctl = .rep stop count ∨ ∃ d, o.ctl = .repD stop d ∧ bitsOf (old.rd d) 15 0 = count

theorem Op.transfer_skip {stop : Nat} (hctl : o.repeats old stop 0) (hlen : r.levels.length < 4) (hpc : pc < stop)
    (h : ∀ v ∈ r.levels, v.stop ≠ pc) : o.transfer old r pc = .inr (r, stop + 1, 2) := by
  have hends := endTests_none pc r.levels r h
  rcases hctl with hctl | ⟨d, hctl, hcount⟩
  · rw [Op.transfer, hctl]
    dsimp only
    rw [if_neg (by omega), if_neg (by omega), if_pos rfl, hends]
    rfl
  · rw [Op.transfer, hctl]
    dsimp only
    rw [hcount, if_neg (by omega), if_neg (by omega), if_pos rfl, hends]
    rfl

theorem Op.transfer_open {stop count : Nat} (hctl : o.repeats old stop count) (hcount : count ≠ 0)
    (hlen : r.levels.length < 4) (hpc : pc < stop) (h : ∀ v ∈ r.levels, v.stop ≠ pc) :
    o.transfer old r pc = .inr ({ r.setLc r.nextLevel (BitVec.ofNat 16 count) with
      levels := ⟨r.nextLevel, pc + 1, stop⟩ :: r.levels }, pc + 1, 1) := by
  have hends := endTests_none pc r.levels r h
  rcases hctl with hctl | ⟨d, hctl, hd⟩
  · rw [Op.transfer, hctl]
    dsimp only
    rw [if_neg (by omega), if_neg (by omega), if_neg hcount, hends]
    rfl
  · rw [Op.transfer, hctl]
    dsimp only
    rw [hd, if_neg (by omega), if_neg (by omega), if_neg hcount, hends]
    rfl

end

/-! ### Levels (R95) -/

/-- Fewer than four levels leave a loop counter that none of them uses. -/
theorem exists_free_counter {ls : List Level} (h : ls.length < 4) : ∃ n ∈ List.range 4, ∀ v ∈ ls, v.n ≠ n := by
  by_contra hall
  push Not at hall
  have hsub : Finset.range 4 ⊆ (ls.map (·.n)).toFinset := fun n hn => by
    obtain ⟨v, hv, rfl⟩ := hall n (List.mem_range.2 (Finset.mem_range.1 hn))
    exact List.mem_toFinset.2 (List.mem_map_of_mem hv)
  have hcard := (Finset.card_le_card hsub).trans (List.toFinset_card_le _)
  simp only [Finset.card_range, List.length_map] at hcard
  omega

theorem Arch.nextLevel_spec {r : Arch} (h : r.levels.length < 4) : r.nextLevel < 4 ∧ (∀ v ∈ r.levels, v.n ≠ r.nextLevel)
    ∧ ∀ m, m < r.nextLevel → ∃ v ∈ r.levels, v.n = m := by
  obtain ⟨n, hn, hfree⟩ := exists_free_counter h
  unfold Arch.nextLevel
  cases hfind : (List.range 4).find? fun n => r.levels.all fun v => v.n != n with
  | none => exact absurd (List.find?_eq_none.1 hfind n hn) (by simpa using hfree)
  | some m =>
    rw [Option.getD_some]
    have hm := List.mem_range.1 (List.mem_of_find?_eq_some hfind)
    refine ⟨hm, by simpa using List.find?_some hfind, fun j hj => ?_⟩
    obtain ⟨-, i, hi, hget, hbefore⟩ := List.find?_eq_some_iff_getElem.1 hfind
    rw [List.getElem_range] at hget
    simpa using hbefore j (hget ▸ hj)

/-! ### Steps -/

/-- A control transfer without slots that changes neither data nor addresses. -/
theorem StakeStep.of_transfer {i : Instr} {o : Op} {P : Arch → Arch → Prop} (hx : exec i s = .next (s.issue k.val o))
    (h : s.readyAt k.val) (ho : o.legal = true ∧ o.bare ∧ o.sreg = none ∧ o.run = fun _ b => b) {r3 : Arch} {next cost : Nat}
    (ht : o.transfer (o.met (s.stake k.val)) (o.met (s.stake k.val)) (s.stake k.val).arch.pc = .inr (r3, next, cost))
    (hnext : next < 8192) (hflat : Arch.flat (s.stake k.val).arch r3)
    (hP : ∀ r, Arch.flat (s.stake k.val).arch r → r.pc = next → r.ret = r3.ret → r.levels = r3.levels →
      (∀ n, r.rlc n = r3.rlc n) → P (s.stake k.val).arch r) : StakeStep i k.val s P := by
  obtain ⟨hlegal, hbare, hsreg, hrun⟩ := ho
  have ht' : o.transfer (o.met (s.stake k.val)) (o.run (o.met (s.stake k.val)) (o.met (s.stake k.val)))
      (s.stake k.val).arch.pc = .inr (r3, next, cost) := by rw [hrun]; exact ht
  exact StakeStep.of_bare hx h hlegal hbare (by rw [hsreg]; nofun) ht' hnext fun r hr =>
    hP r (hr.flat hflat) hr.pc hr.flow.1 hr.flow.2 hr.rlc

theorem StakeStep.of_repeats {i : Instr} {o : Op} {stop count : Nat} (hx : exec i s = .next (s.issue k.val o))
    (h : s.ready k.val) (ho : o.legal = true ∧ o.bare ∧ o.sreg = none ∧ o.run = fun _ b => b)
    (hctl : o.repeats (s.stake k.val).arch stop count) (hlen : (s.stake k.val).arch.levels.length < 4)
    (hpc : (s.stake k.val).arch.pc < stop) (hstop : stop < 8191) : StakeStep i k.val s (RepSpec stop count) := by
  have hready := State.readyAt_of_ready h
  obtain ⟨-, -, -, -, hlast, hends⟩ := h
  by_cases hcount : count = 0
  · subst hcount
    exact StakeStep.of_transfer hx hready ho (Op.transfer_skip hctl hlen hpc hends) (by omega) (Op.flat_met _ _)
      fun r hflat hnext hret hlevels hlc => ⟨hflat, hret, fun _ => ⟨hnext, hlevels, hlc⟩, fun hne => absurd rfl hne⟩
  · obtain ⟨hn, hfree, hlow⟩ := Arch.nextLevel_spec hlen
    exact StakeStep.of_transfer hx hready ho (Op.transfer_open hctl hcount hlen hpc hends) (by omega) (Op.flat_met o _)
      fun r hflat hnext hret hlevels hlc => ⟨hflat, hret, fun hz => absurd hz hcount, fun _ => ⟨hnext, _, hn, hfree, hlow,
        hlevels, fun m => (hlc m).trans (Arch.rlc_setLc _ _ _ _)⟩⟩

/-! ### The end of a block (R96) -/

theorem endTests_loop {v : Level} {rest : List Level} {r : Arch} (h : 1 < (r.rlc v.n).toNat) :
    endTests v.stop (v :: rest) r = (r.setLc v.n (r.rlc v.n - 1#16), some v.start) := by
  rw [endTests, if_pos rfl]
  exact if_pos h

theorem endTests_close {v : Level} {rest : List Level} {r : Arch} (h : (r.rlc v.n).toNat ≤ 1)
    (hlevels : r.levels = v :: rest) (hrest : ∀ w ∈ rest, w.stop ≠ v.stop ∧ w.n ≠ v.n) :
    endTests v.stop (v :: rest) r = ({ r.setLc v.n 0#16 with levels := rest }, none) := by
  have hfilter : (r.levels.filter fun w => w.n != v.n) = rest := by
    rw [hlevels, List.filter_cons_of_neg (by simp)]
    exact List.filter_eq_self.2 fun w hw => bne_iff_ne.2 (hrest w hw).2
  rw [endTests, if_pos rfl]
  dsimp only
  rw [if_neg (by omega), endTests_none _ _ _ fun w hw => (hrest w hw).1, hfilter]

section
variable {o : Op} {old r : Arch} {v : Level} {rest : List Level}

theorem Op.transfer_loop (hctl : o.ctl = .seq) (hs : o.sreg = none) (hlevels : r.levels = v :: rest)
    (h : 1 < (r.rlc v.n).toNat) : o.transfer old r v.stop = .inr (r.setLc v.n (r.rlc v.n - 1#16), v.start, 1) := by
  rw [Op.transfer, hctl]
  dsimp only
  rw [Op.endOfBlock, hs]
  dsimp only
  rw [hlevels, endTests_loop h]
  rfl

theorem Op.transfer_close (hctl : o.ctl = .seq) (hs : o.sreg = none) (hlevels : r.levels = v :: rest)
    (h : (r.rlc v.n).toNat ≤ 1) (hrest : ∀ w ∈ rest, w.stop ≠ v.stop ∧ w.n ≠ v.n) :
    o.transfer old r v.stop = .inr ({ r.setLc v.n 0#16 with levels := rest }, v.stop + 1, 1) := by
  rw [Op.transfer, hctl]
  dsimp only
  rw [Op.endOfBlock, hs]
  dsimp only
  rw [hlevels, endTests_close h hlevels hrest]
  rfl

end

/-! ### The obligation -/

/-- Settles O16: each transfer answers the registers that R95 to R97 and R101 give, and the end-of-block test loops or closes
the innermost level. That a level takes the lowest counter that no active level uses is log entry 117. -/
theorem stakeControlTransfers : Obligations.StakeControlTransfers := by
  refine ⟨⟨fun k t s h => ?_, fun k c t s h => ?_, fun k t s h hlen => ?_, fun k a rest s h hret ha => ?_,
    fun k stop count s h hlen hpc hstop => ?_, fun k stop d s h hlen hpc hstop => ?_⟩,
    fun k v rest s h hlevels hend hstart hrest => ?_⟩
  · exact StakeStep.of_transfer rfl (State.readyAt_of_ready h) ⟨rfl, ⟨rfl, rfl, rfl, rfl⟩, rfl, rfl⟩ (Op.transfer_branch rfl) t.isLt
      (Op.flat_met { ctl := .branch t.val } _) fun r hflat hnext hret hlevels hlc => ⟨hflat, hnext, hlevels, hret, hlc⟩
  · cases hc : condSpec (s.stake k.val).arch c with
    | true =>
      refine StakeStep.of_transfer rfl (State.readyAt_of_ready h) ⟨rfl, ⟨rfl, rfl, rfl, rfl⟩, rfl, rfl⟩ (Op.transfer_taken rfl ?_)
        t.isLt (Op.flat_met { ctl := .branchIf c t.val } _) fun r hflat hnext hret hlevels hlc =>
          ⟨hflat, hret, hlc, fun _ => ⟨hnext, hlevels⟩, fun hf => absurd (hf.symm.trans hc) nofun⟩
      exact (Arch.holds_eq_condSpec _ c).trans hc
    | false =>
      refine StakeStep.of_transfer rfl (State.readyAt_of_ready h) ⟨rfl, ⟨rfl, rfl, rfl, rfl⟩, rfl, rfl⟩
        (Op.transfer_not_taken rfl ?_ rfl h.2.2.2.2.2) ?_ (Op.flat_met _ _) fun r hflat hnext hret hlevels hlc =>
          ⟨hflat, hret, hlc, fun hf => absurd (hf.symm.trans hc) nofun, fun _ => ⟨hnext, hlevels⟩⟩
      · exact (Arch.holds_eq_condSpec _ c).trans hc
      · have := h.2.2.2.2.1; omega
  · exact StakeStep.of_transfer rfl (State.readyAt_of_ready h) ⟨rfl, ⟨rfl, rfl, rfl, rfl⟩, rfl, rfl⟩ (Op.transfer_call rfl hlen)
      t.isLt (Op.flat_met { ctl := .call t.val } _) fun r hflat hnext hret hlevels hlc => ⟨hflat, hnext, hret, hlevels, hlc⟩
  · exact StakeStep.of_transfer rfl (State.readyAt_of_ready h) ⟨rfl, ⟨rfl, rfl, rfl, rfl⟩, rfl, rfl⟩ (Op.transfer_ret rfl hret)
      ha (Op.flat_met { ctl := .ret } _) fun r hflat hnext hret hlevels hlc => ⟨hflat, hnext, hret, hlevels, hlc⟩
  · exact StakeStep.of_repeats rfl h ⟨rfl, ⟨rfl, rfl, rfl, rfl⟩, rfl, rfl⟩ (.inl rfl) hlen hpc hstop
  · have hcount : bitsOf ((s.stake k.val).arch.rd d.val) 15 0 = ((s.stake k.val).arch.rd d.val).toNat % 65536 := by
      rw [bitsOf_eq]; simp
    exact StakeStep.of_repeats rfl h ⟨rfl, ⟨rfl, rfl, rfl, rfl⟩, rfl, rfl⟩ (.inr ⟨_, rfl, hcount⟩) hlen hpc hstop
  · have hcounter (c : BitVec 16) (n : Nat) :
        ((s.stake k.val).arch.setLc v.n c).rlc n = if n = v.n then c else (s.stake k.val).arch.rlc n := Arch.rlc_setLc _ _ _ _
    have hlast : v.stop < 8191 := hend ▸ h.2.2.2.2
    let o := pOp PSlots.none [] {}
    have ho : o.legal = true ∧ o.bare ∧ o.sreg = none ∧ o.run = fun _ b => b := ⟨rfl, ⟨rfl, rfl, rfl, rfl⟩, rfl, rfl⟩
    by_cases hpass : 1 < ((s.stake k.val).arch.rlc v.n).toNat
    · have ht := Op.transfer_loop (o := o) (old := o.met (s.stake k.val)) (r := o.met (s.stake k.val)) rfl rfl hlevels hpass
      rw [hend] at ht
      refine StakeStep.of_transfer rfl h ho ht (by omega) (Op.flat_met o _) fun r hflat hnext hret hlv hlc =>
        ⟨hflat, hret, fun n hn => (hlc n).trans ((hcounter _ _).trans (if_neg hn)), fun _ => ⟨hnext, hlv, ?_⟩,
          fun hle => absurd hpass (by omega)⟩
      have hself : r.rlc v.n = (s.stake k.val).arch.rlc v.n - 1#16 := (hlc _).trans ((hcounter _ _).trans (if_pos rfl))
      rw [hself, BitVec.toNat_sub_of_le (BitVec.le_def.2 (show (1#16).toNat ≤ _ from hpass.le))]
      exact Nat.sub_add_cancel hpass.le
    · have ht := Op.transfer_close (o := o) (old := o.met (s.stake k.val)) (r := o.met (s.stake k.val)) rfl rfl hlevels
        (Nat.le_of_not_lt hpass) hrest
      rw [hend] at ht
      exact StakeStep.of_transfer rfl h ho ht (by omega) (Op.flat_met o _) fun r hflat hnext hret hlv hlc =>
        ⟨hflat, hret, fun n hn => (hlc n).trans ((hcounter 0#16 n).trans (if_neg hn)), fun hmore => absurd hmore hpass,
          fun _ => ⟨hnext, hlv, (hlc _).trans ((hcounter 0#16 _).trans (if_pos rfl))⟩⟩

end Sys2Proof.Machine
end

section
/-! SUPPORT. Proofs/StakeStops.lean: DONE and the done signal, and what stops a stake (R102, R105, R106, R115). -/
-- The proofs of this file are elaborated one after another: side by side their threads exceed the memory of the check.
set_option Elab.async false
namespace Sys2Proof.Machine

open Reg

variable {s : State} {k : Fin 128} {i : Instr}

/-! ### A stop (R106) -/

@[simp] theorem State.flag_setCluster (s : State) (c : Nat) (x : Cluster) (f : RegField) :
    (s.setCluster c x).flag f = s.flag f := rfl

theorem State.flag_stopStake (s : State) (k code pc : Nat) : (s.stopStake k code pc).flag (CL_EVT_FAULT (k / 8)) = true := by
  unfold State.stopStake
  dsimp only
  rw [State.flag_setCluster]
  exact State.flag_raise_self _ (CL_EVT_FAULT (k / 8)) rfl (show 1 < 32 by decide)

theorem State.reg_stopStake (s : State) (k code pc : Nat) {a : Nat} (hstat : a ≠ CL_STAT (k / 8)) (hevt : a ≠ CL_EVT (k / 8)) :
    (s.stopStake k code pc).reg a = s.reg a :=
  (s.stopStake_frame k code pc (g := ⟨a, 0, 0⟩) hstat (.inl hevt)).frame.1 a (by simp [hstat, hevt])

/-- A stop from a state that differs from `s` in stores carried out alone is the stop that R106 gives. -/
theorem StopsWith.of_stopStake {t : State} {code : Nat}
    (hx : exec i s = .next (t.stopStake k.val code (s.stake k.val).arch.pc)) (hregs : ∀ a, t.reg a = s.reg a)
    (hothers : ∀ j, j ≠ k.val → t.stake j = s.stake j) (hreqs : (t.stake k.val).reqs = [])
    (hpc : (t.stake k.val).arch.pc = (s.stake k.val).arch.pc)
    (hflat : Arch.flat (s.stake k.val).arch (t.stake k.val).arch) : StopsWith code k i s := by
  have hstake := t.stake_stopStake k.val code (s.stake k.val).arch.pc
  have hself := hstake k.val
  rw [if_pos rfl, Stake.stopped, if_pos hreqs] at hself
  refine ⟨_, hx, by rw [hself], by rw [hself], by rw [hself], by rw [hself]; exact hpc, by rw [hself]; exact hflat,
    State.flag_stopStake _ _ _ _, ?_, fun a hevt hstat => ?_, fun j hj => ?_⟩
  · rw [State.bit_stopStake]; simp
  · exact (State.reg_stopStake _ _ _ _ hstat hevt).trans (hregs a)
  · rw [hstake, if_neg hj]; exact hothers j hj

theorem StopsWith.of_illegal {o : Op} (hx : exec i s = .next (s.issue k.val o)) (h : s.ready k.val) (hl : o.legal = false) :
    StopsWith 1 k i s := by
  have hready := State.readyAt_of_ready h
  rw [State.issue_illegal hready hl] at hx
  exact StopsWith.of_stopStake hx (fun _ => rfl) (fun _ _ => rfl) h.2.2.1 rfl ⟨fun _ => rfl, fun _ => rfl, fun _ => ⟨rfl, rfl, rfl, rfl⟩, rfl⟩

theorem State.fetched_stake (o : Op) (j : Nat) : (s.fetched k.val o).stake j =
    if j = k.val then { s.stake k.val with arch := o.met (s.stake k.val) } else s.stake j := by
  rw [State.fetched, State.stake_setStake_ite, State.stake_congr (s.commit_compute _)]

/-- A format C operation whose transfer faults. -/
theorem StopsWith.of_transfer {o : Op} {f : Nat} (hx : exec i s = .next (s.issue k.val o)) (h : s.ready k.val)
    (ho : o.legal = true ∧ o.bare ∧ o.sreg = none ∧ o.run = fun _ b => b)
    (hf : o.transfer (o.met (s.stake k.val)) (o.met (s.stake k.val)) (s.stake k.val).arch.pc = .inl f) : StopsWith f k i s := by
  obtain ⟨hlegal, hbare, hsreg, hrun⟩ := ho
  have hstake := s.fetched_stake (k := k) o
  have hself := hstake k.val
  rw [if_pos rfl] at hself
  rw [State.issue_faults (State.readyAt_of_ready h) hlegal (f := f) fun ld hload => ?_] at hx
  · refine StopsWith.of_stopStake hx (fun a => (State.commit_frame s _).1 a (by simp)) (fun j hj => ?_) ?_ ?_ ?_
    · rw [hstake, if_neg hj]
    · rw [hself]; exact h.2.2.1
    · rw [hself]; rfl
    · rw [hself]; exact Op.flat_met o _
  · rw [State.loads_bare hbare] at hload
    cases hload
    rw [Op.effects_bare hbare (by rw [hsreg]; nofun), hrun]
    exact hf

/-! ### DONE and the done signal (R102, R105) -/

/-- DONE leaves a stake from which no further instruction issues. -/
theorem State.issue_done_again {t : State} (h : (t.stake k.val).doneAt.isSome = true) (o : Op) : t.issue k.val o = t := by
  unfold State.issue
  exact if_pos (by simp [h])

theorem exec_done (h : s.ready k.val) : ∃ t, exec (.done k) s = .next t ∧ StakeFrame k.val s t
    ∧ (t.stake k.val).doneAt.isSome = true ∧ Arch.flat (s.stake k.val).arch (t.stake k.val).arch
    ∧ (t.stake k.val).arch.levels = [] ∧ (t.stake k.val).arch.ret = [] ∧ ∀ m, exec (.pnop k m) t = .next t := by
  have hbare : ({ ctl := .done } : Op).bare := ⟨rfl, rfl, rfl, rfl⟩
  obtain ⟨hframe, hdone, hflat, hlevels, hret⟩ := State.issue_goes (o := { ctl := .done }) (State.readyAt_of_ready h) rfl
    (Q := fun t => t.doneAt.isSome = true ∧ Arch.flat (s.stake k.val).arch t.arch ∧ t.arch.levels = [] ∧ t.arch.ret = [])
    fun ld hload => by
      rw [State.loads_bare hbare] at hload
      cases hload
      rw [Op.effects_bare hbare (by nofun)]
      exact ⟨_, _, _, rfl, .inr rfl, rfl, Arch.Leaves.flat ⟨⟨rfl, rfl, rfl⟩, ⟨rfl, rfl, rfl, rfl, rfl⟩, ⟨rfl, rfl⟩, rfl⟩
        (Op.flat_met { ctl := .done } _), rfl, rfl⟩
  refine ⟨_, rfl, hframe, hdone, hflat, hlevels, hret, fun m => ?_⟩
  show execPnop k m _ = _
  rw [execPnop, State.issue_done_again hdone]

/-- Whether the done signal of a running stake with no coil access waiting comes by the budget point. -/
theorem State.inTime_zero {d : Nat} (hrun : s.issues k.val = true) (hdone : (s.stake k.val).doneAt = some d)
    (hreqs : (s.stake k.val).reqs = []) :
    s.inTime k.val 0 = decide ((s.cluster (k.val / 8)).base + (d + 6 + ((s.stake k.val).frz.map (·.2)).sum)
      ≤ s.budgetCycles (k.val / 8)) := by
  have hrunning : ((s.stake k.val).run == .running) = true := hrun
  unfold State.inTime
  rw [Stake.doneCyc_eq, hdone, Bool.eq_iff_iff]
  simp [hrunning, hreqs]

theorem execStakeDoneSignal_eq {d : Nat} (hdone : (s.stake k.val).doneAt = some d) : exec (.stakeDoneSignal k) s =
    .next (if s.inTime k.val 0 then s.signalDone k.val (d + 6 + ((s.stake k.val).frz.map (·.2)).sum) else s) := by
  show execStakeDoneSignal k s = _
  rw [execStakeDoneSignal, Stake.doneCyc_eq, hdone]
  rfl

/-! ### Loads that clash (R115) -/

/-- A command is the issue of an operation that is not legal where the loads of `p` clash. -/
def StakeOp.Issues (i : Instr) (p : StakeOp) : Prop :=
  ∀ s : State, ∃ o, exec i s = .next (s.issue p.k.val o) ∧ (loadsClash p.m.l1 p.m.l2 (p.d.map (·.1)) = true → o.legal = false)

theorem rOp_illegal {m : RSlots} {writes : List Nat} (o : Op) (hc : loadsClash none m.l2 writes = true) :
    (rOp m writes o).legal = false := by simp [rOp, hc]

theorem pOp_illegal {m : PSlots} {writes : List Nat} (o : Op) (hc : loadsClash m.l1 m.l2 writes = true) :
    (pOp m writes o).legal = false := by simp [pOp, hc]

theorem aluSpec_issues {p : StakeOp} (h : aluSpec i = some p) : p.Issues i := by
  cases i with
  | add | sub | adds | subs | and | or | xor | min | max | shl | shr | shra | neg | abs | not | addi | andi | shli | shri | shrai
  | cmp | cmpi => cases h; exact fun s => ⟨_, rfl, fun hc => rOp_illegal _ hc⟩
  | _ => exact (Option.some_ne_none _ h.symm).elim

/-- The registers that SLIDE writes, from the bottom one (R122). -/
theorem slide_writes (d n : Nat) : (d :: (List.range (n + 1)).map fun j => d + j + 1) = (List.range (n + 2)).map fun j => d + j := by
  rw [List.range_succ_eq_map (n := n + 1)]
  simp [Function.comp_def, Nat.add_assoc]

theorem moveSpec_issues {p : StakeOp} (h : moveSpec i = some p) : p.Issues i := by
  cases i with
  | mov => cases h; exact fun s => ⟨_, rfl, fun hc => rOp_illegal _ hc⟩
  | raw | rnd => cases h; exact fun s => ⟨_, rfl, fun hc => by simpa [rOp, RSlots.full] using hc⟩
  | ldi => cases h; exact fun s => ⟨_, rfl, fun hc => nomatch hc⟩
  | movfr k d x m => cases x <;> cases h <;> exact fun s => ⟨_, rfl, fun hc => rOp_illegal _ hc⟩
  | slide k d src len m =>
    change ite _ _ _ = _ at h
    split at h
    · cases h
      refine fun s => ⟨_, rfl, fun hc => rOp_illegal _ ?_⟩
      rw [← slide_writes]
      simpa [RSlots.full, Function.comp_def] using hc
    · cases h
  | _ => exact (Option.some_ne_none _ h.symm).elim

theorem accSpec_issues {p : StakeOp} (h : accSpec i = some p) : p.Issues i := by
  cases i with
  | mac | msu | mul | muln | aclr | aadd | asub | mova => cases h; exact fun s => ⟨_, rfl, fun hc => rOp_illegal _ hc⟩
  | movap k a part x m => cases part <;> cases h <;> exact fun s => ⟨_, rfl, fun hc => rOp_illegal _ hc⟩
  | _ => exact (Option.some_ne_none _ h.symm).elim

theorem parSpec_issues {p : StakeOp} (h : parSpec i = some p) : p.Issues i := by
  cases i with
  | pnop | qmac | qmsu | qmul | qdot | qdotz | bmac | pmac | pmsu | pmul =>
    cases h; exact fun s => ⟨_, rfl, fun hc => pOp_illegal _ hc⟩
  | ftapz k g c w m | ftap k g c w m =>
    change ite _ _ _ = _ at h
    split at h
    · cases h
    · cases h; exact fun s => ⟨_, rfl, fun hc => pOp_illegal _ hc⟩
  | fdly k a w f sh m =>
    change ite _ _ _ = _ at h
    split at h
    · cases h
    · cases h
      cases sh <;> exact fun s => ⟨_, rfl, fun hc => pOp_illegal _ hc⟩
  | _ => exact (Option.some_ne_none _ h.symm).elim

theorem StakeOp.Issues.stops {p : StakeOp} (hi : p.Issues i) (h : s.ready p.k.val)
    (hc : loadsClash p.m.l1 p.m.l2 (p.d.map (·.1)) = true) : StopsWith 1 p.k i s := by
  obtain ⟨o, hx, hl⟩ := hi s
  exact StopsWith.of_illegal hx h (hl hc)

/-- Settles O17: an illegal encoding and a transfer that faults stop the stake before anything else; DONE and its signal
leave the stake that R102 and R105 give. -/
theorem stakeDone : Obligations.StakeDone := by
  refine ⟨⟨fun k s h => exec_done h, fun k s c hissues hdone hreqs => ⟨fun hle => ?_, fun hlt => ?_⟩⟩,
    fun k s h => StopsWith.of_illegal rfl h rfl, fun k m s h hc => StopsWith.of_illegal rfl h (pOp_illegal _ hc),
    fun k d a b m s h hm => StopsWith.of_illegal rfl h (rOp_illegal _ ?_), fun i p s hi h hc => ?_,
    fun k d m s h => ⟨StopsWith.of_illegal rfl h rfl, fun hc => StopsWith.of_illegal rfl h (rOp_illegal _ hc)⟩,
    fun k x imm s h hx => ?_, fun k d src len m s h hlen => StopsWith.of_illegal rfl h ?_,
    fun k g c m s h => ⟨StopsWith.of_illegal rfl h rfl, StopsWith.of_illegal rfl h rfl⟩,
    fun k a f sh m s h => StopsWith.of_illegal rfl h rfl, fun k stop c s h hlen => ?_,
    fun k stop c s h hlen hstop => ?_, fun k t s h hlen => ?_, fun k s h hret => ?_⟩
  · rw [execStakeDoneSignal_eq hdone, State.inTime_zero hissues hdone hreqs, if_pos (by simpa using hle)]
    refine ⟨_, rfl, ?_⟩
    rw [State.stake_signalDone, if_pos rfl]
    exact ⟨rfl, rfl⟩
  · rw [execStakeDoneSignal_eq hdone, State.inTime_zero hissues hdone hreqs, if_neg (by simpa using hlt)]
  · cases hl2 : m.l2 with
    | none => simp [RSlots.full, PSlots.dsts, hl2] at hm
    | some x =>
      have hdst : x.dst.val = d.val := by simpa [RSlots.full, PSlots.dsts, hl2] using hm
      simp [loadsClash, hdst]
  · rcases hi with hi | hi | hi | hi
    · exact (aluSpec_issues hi).stops h hc
    · exact (moveSpec_issues hi).stops h hc
    · exact (accSpec_issues hi).stops h hc
    · exact (parSpec_issues hi).stops h hc
  · cases x with
    | st | rcnt => exact StopsWith.of_illegal rfl h rfl
    | lc n => exact StopsWith.of_illegal rfl h hx
    | p | m | b | l => cases hx
  · have hout : Nat.ble (d.val + (len.val + 2) - 1) 31 = false := by
      rw [Bool.eq_false_iff, ne_eq, Nat.ble_eq]
      omega
    show (Nat.ble (d.val + (len.val + 2) - 1) 31 && _) = false
    rw [hout, Bool.false_and]
  · exact StopsWith.of_transfer rfl h ⟨rfl, ⟨rfl, rfl, rfl, rfl⟩, rfl, rfl⟩ (if_pos hlen)
  · exact StopsWith.of_transfer rfl h ⟨rfl, ⟨rfl, rfl, rfl, rfl⟩, rfl, rfl⟩
      ((if_neg (Nat.not_le.2 hlen)).trans (if_pos (Nat.lt_succ_of_le hstop)))
  · exact StopsWith.of_transfer rfl h ⟨rfl, ⟨rfl, rfl, rfl, rfl⟩, rfl, rfl⟩ (if_pos hlen)
  · refine StopsWith.of_transfer (o := { ctl := .ret }) rfl h ⟨rfl, ⟨rfl, rfl, rfl, rfl⟩, rfl, rfl⟩ ?_
    have hmet : (({ ctl := .ret } : Op).met (s.stake k.val)).ret = [] := hret
    rw [Op.transfer]
    dsimp only
    rw [hmet]
    rfl

end Sys2Proof.Machine
end

section
/-! SUPPORT. Proofs/StakeMoves.lean: moves between d registers, accumulators and special registers (R90, R91, R103, R118,
R119, R122, R123). -/
-- The proofs of this file are elaborated one after another: side by side their threads exceed the memory of the check.
set_option Elab.async false
namespace Sys2Proof.Machine

/-! ### Rounded and raw parts (R88, R90, R91) -/

theorem roundQ_eq_roundSpec (mode : Nat) (v : Int) : roundQ mode v = roundSpec mode v := by
  match mode with
  | 0 => rfl
  | 1 =>
    rw [roundSpec, if_neg (by decide), if_pos rfl]
    show (if v % 2147483648 < 1073741824 then v / 2147483648
      else if 1073741824 < v % 2147483648 then v / 2147483648 + 1
      else if v / 2147483648 % 2 = 0 then v / 2147483648 else v / 2147483648 + 1) = _
    split_ifs <;> omega
  | 2 => rfl
  | n + 3 =>
    rw [roundSpec, if_neg (by omega), if_neg (by omega), if_neg (by omega)]
    show Int.tdiv v 2147483648 = _
    split
    · next h => exact Int.tdiv_eq_ediv_of_nonneg h
    · next h =>
      have hpos := Int.tdiv_eq_ediv_of_nonneg (a := -v) (b := 2147483648) (by omega)
      rw [Int.neg_tdiv] at hpos
      omega

theorem roundAcc_eq (mode : Nat) (a : Acc) (sh : Nat) : roundAcc mode a sh =
    (limitWord (roundSpec mode (a.toInt * 2 ^ sh)),
      decide (roundSpec mode (a.toInt * 2 ^ sh) < -2 ^ 31 ∨ 2 ^ 31 ≤ roundSpec mode (a.toInt * 2 ^ sh))) := by
  rw [← roundQ_eq_roundSpec, ← clampWord_eq_limitWord, roundAcc, Prod.mk.injEq]
  refine ⟨rfl, ?_⟩
  rw [Bool.eq_iff_iff, bne_iff_ne, decide_eq_true_iff]
  unfold satQ31 clampInt
  split_ifs <;> omega

theorem rawPart_eq_partSpec (a : Acc) (p : Part) : rawPart a p = partSpec a p := by
  cases p with
  | l => exact BitVec.eq_of_toNat_eq (by simp [rawPart, partSpec])
  | h => exact BitVec.eq_of_toNat_eq (by simp [rawPart, partSpec, Nat.shiftRight_eq_div_pow])
  | g =>
    show (a.extractLsb' 64 16).signExtend 32 = BitVec.ofInt 32 (a.toInt / 2 ^ 64)
    have ha := a.isLt
    rw [BitVec.signExtend, BitVec.toInt_eq_toNat_cond, BitVec.toInt_eq_toNat_cond, BitVec.extractLsb'_toNat,
      Nat.shiftRight_eq_div_pow]
    congr 1
    split_ifs <;> omega

/-! ### Moves into d registers -/

/-- One d register takes a value. -/
theorem moveTo_holds {i : Instr} {k : Fin 128} {m : PSlots} {d : Nat} {f : Arch → Word} {sat : Arch → Bool} (o : Op)
    (hx : ∀ s, exec i s = .next (s.issue k.val o)) (hm : o.l1 = m.l1 ∧ o.l2 = m.l2 ∧ o.st = m.st)
    (hplace : o.lda = none ∧ o.ctl = .seq ∧ o.sreg = none) (hl : loadsClash m.l1 m.l2 [d] = false → o.legal = true)
    (hf : ∀ (a : Arch) (st : List PStore), f { a with stores := st } = f a ∧ sat { a with stores := st } = sat a)
    (hrun : ∀ a b, o.run a b = b.computed [] [(d, f a)] (sat a)) :
    StakeOp.holds i { k := k, m := m, d := [(d, f)], sat := sat } :=
  StakeOp.holds_of_computed (p := { k := k, m := m, d := [(d, f)], sat := sat }) o (fun a => [(d, f a)]) hx hm hplace hl
    { d := (by simpa using fun a st => (hf a st).1), acc := by simp, nz := nofun, sat := fun a st => (hf a st).2 }
    rfl (by simp) (by simp) (by simp) (by simp) hrun

theorem slide_holds {k : Fin 128} {d src : Fin 32} {len : Fin 3} {m : RSlots} (hlen : d.val + len.val + 1 ≤ 31) :
    StakeOp.holds (.slide k d src len m)
      { k := k, m := m.full,
        d := (d.val, fun o : Arch => o.rd src.val) ::
          (List.range (len.val + 1)).map fun j => (d.val + j + 1, fun o : Arch => o.rd (d.val + j)) } := by
  have hin : Nat.ble (d.val + (len.val + 2) - 1) 31 = true := by rw [Nat.ble_eq]; omega
  refine StakeOp.holds_of_computed _ (fun a => ((List.range (len.val + 1)).map fun j => (d.val + j + 1, a.rd (d.val + j)))
    ++ [(d.val, a.rd src.val)]) (fun s => rfl) ⟨rfl, rfl, rfl⟩ ⟨rfl, rfl, rfl⟩ (fun hl => ?_) ?_ rfl (by simp) (by simp) ?_
    (fun a => ?_) fun a b => ?_
  · rw [List.map_cons, List.map_map] at hl
    simp only [Function.comp_def, slide_writes] at hl
    show (Nat.ble (d.val + (len.val + 2) - 1) 31 && !loadsClash none m.l2 _) = true
    rw [hin, Bool.true_and, Bool.not_eq_true']
    exact hl
  · exact { d := List.forall_mem_cons.2 ⟨fun _ _ => rfl, List.forall_mem_map.2 fun _ _ _ _ => rfl⟩, acc := by simp, nz := nofun,
            sat := fun _ _ => rfl }
  · rw [List.map_cons, List.map_map]
    simp only [Function.comp_def, slide_writes]
    exact List.nodup_range.map fun x y h => Nat.add_left_cancel h
  · rw [List.map_cons, List.map_map]
    exact List.perm_append_singleton _ _
  · show _ = (b.effects []).writes _
    rw [Arch.writes, List.foldl_append, List.foldl_map]
    rfl

theorem moveSpec_holds {i : Instr} {p : StakeOp} (h : moveSpec i = some p) : p.holds i := by
  cases i with
  | mov k d a m =>
    cases h
    exact moveTo_holds _ (fun _ => rfl) ⟨rfl, rfl, rfl⟩ ⟨rfl, rfl, rfl⟩ (fun hl => by simpa [rOp, RSlots.full] using hl)
      (fun _ _ => ⟨rfl, rfl⟩) fun _ _ => rfl
  | slide k d src len m =>
    change ite _ _ _ = _ at h
    split at h
    · next hlen => cases h; exact slide_holds hlen
    · cases h
  | movfr k d x m =>
    have move {f : Arch → Word} (hf : ∀ o : Arch, ∀ n, o.sregRead n x = f o) (hplain : ∀ (a : Arch) st, f { a with stores := st } = f a) :
        StakeOp.holds (.movfr k d x m) { k := k, m := m.full, d := [(d.val, f)] } := by
      refine moveTo_holds (rOp m [d.val] { run := fun o r => r.setD d.val (f o) }) (fun s => ?_) ⟨rfl, rfl, rfl⟩ ⟨rfl, rfl, rfl⟩
        (fun hl => by simpa [rOp, RSlots.full] using hl) (fun a st => ⟨hplain a st, rfl⟩) fun _ _ => rfl
      show execMovfr k d x m s = _
      simp only [execMovfr, hf]
    cases x with
    | rcnt => cases h
    | m n => cases h; exact move (fun _ _ => rfl) fun _ _ => rfl
    | st => cases h; exact move (fun _ _ => rfl) fun _ _ => rfl
    | p n | b n | l n | lc n => cases h; exact move (fun _ _ => BitVec.eq_of_toNat_eq (by simp [Arch.sregRead])) fun _ _ => rfl
  | raw k d a part m =>
    cases h
    refine moveTo_holds _ (fun _ => rfl) ⟨rfl, rfl, rfl⟩ ⟨rfl, rfl, rfl⟩ (fun hl => by simpa [rOp, RSlots.full] using hl)
      (fun _ _ => ⟨rfl, rfl⟩) fun r _ => ?_
    rw [← rawPart_eq_partSpec]
    rfl
  | rnd k d a sh m =>
    cases h
    refine moveTo_holds _ (fun _ => rfl) ⟨rfl, rfl, rfl⟩ ⟨rfl, rfl, rfl⟩ (fun hl => by simpa [rOp, RSlots.full] using hl)
      (fun _ _ => ⟨rfl, rfl⟩) fun r q => ?_
    show (if (roundAcc r.rnd (r.acc a.val) sh.val).2 then (q.setD d.val (roundAcc r.rnd (r.acc a.val) sh.val).1).evSat
      else q.setD d.val (roundAcc r.rnd (r.acc a.val) sh.val).1) = _
    rw [roundAcc_eq]
    rfl
  | ldi k d imm =>
    cases h
    exact moveTo_holds _ (fun _ => rfl) ⟨rfl, rfl, rfl⟩ ⟨rfl, rfl, rfl⟩ (fun _ => rfl) (fun _ _ => ⟨rfl, rfl⟩) fun _ _ => rfl
  | _ => exact (Option.some_ne_none _ h.symm).elim

/-! ### Instructions that go on to the next address, and what their slots and events leave of the compute part -/

/-- The moves into ST that keep an event of the same cycle (R104). -/
theorem Computes.keepEvents (o r : Arch) (c : Nat) : Computes [] [] r (o.keepEvents r c) := by
  have hset (q : Arch) {i : Nat} (hi : i < 3) : Computes [] [] q (q.setSt i true) :=
    { d := fun _ _ => rfl
      acc := fun _ _ => rfl
      bit := fun j hj _ => by rw [Arch.bit_setSt _ (by omega), if_neg (by omega)]
      sticks := fun j _ h => by rw [Arch.bit_setSt _ (by omega)]; split <;> simp_all
      addr := ⟨rfl, rfl, rfl, rfl, rfl⟩
      flow := ⟨rfl, rfl⟩ }
  have hite (q : Arch) {i : Nat} (hi : i < 3) (b : Prop) [Decidable b] : Computes [] [] q (if b then q.setSt i true else q) := by
    split
    · exact hset q hi
    · exact Computes.refl q
  unfold Arch.keepEvents
  exact (hite r (by decide) _).trans (hite _ (by decide) _)

theorem Arch.keepEvents_calm {o r : Arch} {c : Nat} (hovg : o.ovgAt = 0) (haccv : o.accvAt = 0) : o.keepEvents r c = r := by
  simp [Arch.keepEvents, hovg, haccv]

theorem Computes.events (sat accv : Bool) (r : Arch) : Computes [] [] r (Arch.events sat accv r) := by
  obtain ⟨⟨st, a, b, c, heq⟩, hbit, hsticks⟩ := Arch.events_spec sat accv r
  exact {
    d := fun _ _ => by rw [heq]; rfl
    acc := fun _ _ => by rw [heq]; rfl
    bit := fun i hi _ => hbit i hi
    sticks := fun i _ => hsticks i
    addr := by rw [heq]; exact ⟨rfl, rfl, rfl, rfl, rfl⟩
    flow := by rw [heq]; exact ⟨rfl, rfl⟩ }

theorem Computes.mono {ds ds' : List Nat} {accs : List Nat} {o r : Arch} (h : Computes ds accs o r) (hsub : ∀ j ∈ ds, j ∈ ds') :
    Computes ds' accs o r :=
  { h with d := fun j hj => h.d j fun hin => hj (hsub j hin) }

/-- What an operation without a load into an accumulator makes of the registers that it meets, beside its compute part. -/
theorem Op.computes_effects {o : Op} (hlda : o.lda = none) {s : State} {k q c : Nat} {r : Arch} (hecc : s.ecc = []) {ld : Loaded}
    (hload : s.loads k r o = .inr ld) : Computes o.dsts [] (o.run r (o.posts r)) (o.effects k q c r ld) := by
  obtain ⟨ld', hload', hregs, haccs, -⟩ := s.loads_ok k r o hecc
  obtain rfl : ld' = ld := by rw [hload'] at hload; exact Sum.inr.inj hload
  have hnone : ld'.accs = [] := List.eq_nil_iff_forall_not_mem.2 fun e he => by
    obtain ⟨x, hx, -⟩ := haccs e he
    rw [hlda] at hx
    cases hx
  have hdsts : ∀ j ∈ ld'.regs.map (·.1), j ∈ o.dsts := List.forall_mem_map.2 fun e he => by
    rcases hregs e he with ⟨x, hx, hj⟩ | ⟨x, hx, hj⟩ <;> simp [Op.dsts, hx, hj]
  have happly : Computes o.dsts [] (o.run r (o.posts r)) (o.apply r ld' (o.storeSat r) (o.storeVoid k q r)) := by
    rw [Op.apply_eq, hnone]
    have hall := ((Computes.writes ld'.regs (o.run r (o.posts r))).trans (Computes.events (o.storeSat r) (ld'.accv || o.storeVoid k q r) _))
    rw [List.append_nil] at hall
    exact hall.mono hdsts
  unfold Op.effects
  dsimp only
  split
  · exact (happly.trans (Computes.keepEvents _ _ _)).mono (by simp)
  · exact happly

/-- The end-of-block test where no level ends: an instruction's own move into a counter stands. -/
theorem Op.endOfBlock_goes {o : Op} {old r : Arch} {pc : Nat} (h : ∀ v ∈ r.levels, v.stop ≠ pc)
    (hlc : ∀ n, o.sreg = some (.lc n) → r.lc = (old.setLc n.val (r.rlc n.val)).lc) : o.endOfBlock old r pc = (r, none) := by
  unfold Op.endOfBlock
  split
  · next n hs =>
    rw [endTests_none pc r.levels _ h]
    have heq := hlc n hs
    show ({ r with lc := (old.setLc n.val (r.rlc n.val)).lc }, none) = (r, none)
    rw [← heq]
  · exact endTests_none pc r.levels r h

/-- An operation that only computes, issued by a ready stake: its compute part, and what its slots and events add. -/
theorem State.issue_computes {s : State} {k : Nat} {o : Op} (h : s.ready k) (hl : o.legal = true) (hctl : o.ctl = .seq)
    (hlda : o.lda = none) (hlev : ∀ a b, (o.run a b).levels = b.levels)
    (hlc : ∀ n, o.sreg = some (.lc n) → ∀ a b : Arch, b.lc = a.lc → ∃ v, (o.run a b).lc = (a.setLc n.val v).lc) :
    StakeFrame k s (s.issue k o) ∧ ((s.issue k o).stake k).run = .running
      ∧ ((s.issue k o).stake k).lastPc = (s.stake k).arch.pc
      ∧ ((s.issue k o).stake k).arch.pc = (s.stake k).arch.pc + 1
      ∧ Computes o.dsts [] (o.run (o.met (s.stake k)) (o.posts (o.met (s.stake k)))) ((s.issue k o).stake k).arch
      ∧ (o.bare → o.sreg = some .st → (s.stake k).arch.ovgAt = 0 → (s.stake k).arch.accvAt = 0 →
          ((s.issue k o).stake k).arch.st = (o.run (o.met (s.stake k)) (o.met (s.stake k))).st) := by
  have hready := State.readyAt_of_ready h
  obtain ⟨hissues, -, -, -, hpc, hends⟩ := h
  refine State.issue_goes hready hl (Q := fun t => t.run = .running ∧ t.lastPc = (s.stake k).arch.pc
    ∧ t.arch.pc = (s.stake k).arch.pc + 1 ∧ Computes o.dsts [] (o.run (o.met (s.stake k)) (o.posts (o.met (s.stake k)))) t.arch
    ∧ (o.bare → o.sreg = some .st → (s.stake k).arch.ovgAt = 0 → (s.stake k).arch.accvAt = 0 →
        t.arch.st = (o.run (o.met (s.stake k)) (o.met (s.stake k))).st)) fun ld hload => ?_
  obtain ⟨⟨p, hp⟩, -⟩ := o.posts_only (o.met (s.stake k))
  have hcomputes := o.computes_effects hlda (q := s.sys.parity) (c := o.cycle (s.stake k)) (State.fetched_ecc hready) hload
  have hlevels : (o.effects k s.sys.parity (o.cycle (s.stake k)) (o.met (s.stake k)) ld).levels = (s.stake k).arch.levels := by
    rw [hcomputes.flow.2, hlev, hp]; rfl
  have hcounter : ∀ n, o.sreg = some (.lc n) → (o.effects k s.sys.parity (o.cycle (s.stake k)) (o.met (s.stake k)) ld).lc
      = ((o.met (s.stake k)).setLc n.val ((o.effects k s.sys.parity (o.cycle (s.stake k)) (o.met (s.stake k)) ld).rlc n.val)).lc := by
    intro n hn
    obtain ⟨v, hv⟩ := hlc n hn (o.met (s.stake k)) (o.posts (o.met (s.stake k))) (by rw [hp])
    obtain ⟨-, -, -, -, hsame⟩ := hcomputes.addr
    rw [Arch.rlc, hsame, hv]
    exact congrArg (mset (fun _ => 0#16) (s.stake k).arch.lc n.val) (mget_mset_self _ _ _ _).symm
  refine ⟨_, (s.stake k).arch.pc + 1, 1, (?_ : _ = Sum.inr (o.effects k s.sys.parity (o.cycle (s.stake k)) (o.met (s.stake k)) ld, _, _)),
    .inl (by omega), eq_of_beq hissues, rfl, Nat.mod_eq_of_lt (by omega), ?_, ?_⟩
  · rw [Op.transfer, hctl]
    dsimp only
    rw [Op.endOfBlock_goes (by rw [hlevels]; exact hends) hcounter]
    rfl
  · exact { d := hcomputes.d, acc := hcomputes.acc, bit := hcomputes.bit, sticks := hcomputes.sticks, addr := hcomputes.addr,
            flow := hcomputes.flow }
  · intro hb hst hovg haccv
    rw [State.loads_bare hb] at hload
    cases hload
    have hsat : o.storeSat (o.met (s.stake k)) = false := by simp [Op.storeSat, hb.2.2.2]
    have hvoid : o.storeVoid k s.sys.parity (o.met (s.stake k)) = false := by simp [Op.storeVoid, Op.storePlace, hb.2.2.2]
    show (o.effects k s.sys.parity (o.cycle (s.stake k)) (o.met (s.stake k)) ⟨[], [], false⟩).st = _
    rw [Op.effects, if_pos hst, Arch.keepEvents_calm (o := o.met (s.stake k)) hovg haccv, Op.apply_eq, hsat, hvoid, Op.posts_bare hb]
    rfl

/-! ### Moves into special registers (R103, R123) -/

/-- The bits of ST after a move into it. -/
theorem bitAt_moveSt (st v : Word) {i : Nat} (hi : i < 32) : bitAt (moveSt st v) i =
    if i < 3 then bitAt st i && !bitAt v i
    else if i = 8 ∨ i = 9 ∨ i = 16 ∨ i = 17 then bitAt v i else decide (24 ≤ i) && bitAt st i := by
  have hmask : ∀ i, i < 32 → (0xFF000000#32).getLsbD i = decide (24 ≤ i) ∧ (7#32).getLsbD i = decide (i < 3)
      ∧ (0x00030300#32).getLsbD i = decide (i = 8 ∨ i = 9 ∨ i = 16 ∨ i = 17) := by decide
  obtain ⟨hkeep, hsticky, hrw⟩ := hmask i hi
  show (moveSt st v).getLsbD i = if i < 3 then st.getLsbD i && !v.getLsbD i else if _ then v.getLsbD i else _ && st.getLsbD i
  rw [moveSt]
  simp only [BitVec.getLsbD_or, BitVec.getLsbD_and, BitVec.getLsbD_xor, hkeep, hsticky, hrw]
  by_cases h3 : i < 3
  · have h24 : ¬ 24 ≤ i := by omega
    have hmid : ¬ (i = 8 ∨ i = 9 ∨ i = 16 ∨ i = 17) := by omega
    simp [h3, h24, hmid]
  · simp [h3]
    by_cases hmid : i = 8 ∨ i = 9 ∨ i = 16 ∨ i = 17
    · have h24 : ¬ 24 ≤ i := by omega
      simp [hmid, h24]
    · simp [hmid, Bool.and_comm]

/-- A register of a file after a move into one of the special registers that name the file's. -/
theorem mget_mset_sreg {α : Type} [DecidableEq α] {N : Nat} (d : Nat → α) (m : SMap α) {name : Fin N → SReg}
    (hname : Function.Injective name) (a b : Fin N) (v : α) :
    mget d (mset d m a.val v) b.val = if name a = name b then v else mget d m b.val := by
  rw [mget_mset]
  refine if_congr ?_ rfl rfl
  rw [hname.eq_iff, Fin.ext_iff, eq_comm]

theorem SRegTakes.of_sregWrite {x : SReg} {v : Word} {ps : List Nat} {o q : Arch} (hx : x ≠ .rcnt) (hq : Arch.onlyP ps o q) :
    SRegTakes x v ps o (q.sregWrite v x) := by
  obtain ⟨⟨p, rfl⟩, hp⟩ := hq
  have hbits : ∀ i, i < 3 → bitAt o.st i = true → (x = .st → bitAt v i = false) → bitAt o.st i = true := fun _ _ h _ => h
  cases x with
  | rcnt => exact absurd rfl hx
  | st =>
    refine ⟨fun n hn => hp n.val hn, fun _ => rfl, fun _ => rfl, fun _ => rfl, fun _ => rfl, fun i h3 h32 => ?_, fun i h3 hb hv => ?_⟩
    · show bitAt (moveSt o.st v) i = _
      rw [bitAt_moveSt _ _ h32, if_neg (by omega), if_pos rfl]
    · show bitAt (moveSt o.st v) i = _
      rw [bitAt_moveSt _ _ (by omega), if_pos h3, hb, hv rfl]
      rfl
  | p a =>
    exact ⟨fun n hn => (mget_mset_sreg _ _ (fun _ _ => SReg.p.inj) a n _).trans (if_congr Iff.rfl rfl (hp n.val hn)), fun _ => rfl, fun _ => rfl,
      fun _ => rfl, fun _ => rfl, fun _ _ _ => rfl, hbits⟩
  | m a =>
    exact ⟨fun n hn => hp n.val hn, fun n => mget_mset_sreg _ _ (fun _ _ => SReg.m.inj) a n _, fun _ => rfl, fun _ => rfl,
      fun _ => rfl, fun _ _ _ => rfl, hbits⟩
  | b a =>
    exact ⟨fun n hn => hp n.val hn, fun _ => rfl, fun n => mget_mset_sreg _ _ (fun _ _ => SReg.b.inj) a n _, fun _ => rfl,
      fun _ => rfl, fun _ _ _ => rfl, hbits⟩
  | l a =>
    exact ⟨fun n hn => hp n.val hn, fun _ => rfl, fun _ => rfl, fun n => mget_mset_sreg _ _ (fun _ _ => SReg.l.inj) a n _,
      fun _ => rfl, fun _ _ _ => rfl, hbits⟩
  | lc a =>
    exact ⟨fun n hn => hp n.val hn, fun _ => rfl, fun _ => rfl, fun _ => rfl,
      fun n => mget_mset_sreg _ _ (fun _ _ => SReg.lc.inj) a n _, fun _ _ _ => rfl, hbits⟩

/-- What slots and events add to a move leaves it as it is. -/
theorem SRegTakes.of_computes {x : SReg} {v : Word} {ps ds : List Nat} {o q r : Arch} (h : SRegTakes x v ps o q)
    (hc : Computes ds [] q r) : SRegTakes x v ps o r := by
  obtain ⟨hp, hm, hb, hl, hlc, hhigh, hlow⟩ := h
  obtain ⟨ep, em, eb, el, elc⟩ := hc.addr
  refine ⟨fun n hn => ?_, fun n => ?_, fun n => ?_, fun n => ?_, fun n => ?_, fun i h3 h32 => ?_, fun i h3 hi hv => ?_⟩
  · rw [Arch.rp, ep]; exact hp n hn
  · rw [Arch.rm, em]; exact hm n
  · rw [Arch.rb, eb]; exact hb n
  · rw [Arch.rl, el]; exact hl n
  · rw [Arch.rlc, elc]; exact hlc n
  · rw [hc.bit i h3 (by simp)]; exact hhigh i h3 h32
  · exact hc.sticks i h3 (hlow i h3 hi hv)

theorem Arch.sregWrite_keepsData (q : Arch) (v : Word) (x : SReg) :
    Arch.keepsData [] q (q.sregWrite v x) := by
  cases x <;> exact ⟨fun _ _ => rfl, fun _ => rfl, rfl, rfl⟩

/-- An operation that moves a value into a special register and goes on. -/
theorem StakeStep.of_sreg {s : State} {k : Nat} {i : Instr} {o : Op} {x : SReg} {v : Arch → Word} {ps : List Nat}
    (hx : exec i s = .next (s.issue k o)) (h : s.ready k) (hl : o.legal = true)
    (hplace : o.lda = none ∧ o.ctl = .seq ∧ o.sreg = some x ∧ o.run = fun a b => b.sregWrite (v a) x)
    (hps : ∀ n ∈ o.accesses.map (·.1), n ∈ ps) (hne : x ≠ .rcnt)
    (hv : ∀ (a : Arch) (st : List PStore), v { a with stores := st } = v a) :
    StakeStep i k s fun a r => r.pc = a.pc + 1 ∧ SRegTakes x (v a) ps a r
      ∧ (x = .st → o.bare → a.ovgAt = 0 → a.accvAt = 0 → ∀ j, j < 3 → bitAt r.st j = (bitAt a.st j && !bitAt (v a) j))
      ∧ Arch.keepsData o.dsts a r := by
  obtain ⟨hlda, hctl, hsreg, hrun⟩ := hplace
  obtain ⟨hframe, hrunning, hlast, hpc, hcomputes, hcalm⟩ := State.issue_computes h hl hctl hlda
    (by rw [hrun]; intro a b; exact (b.sregWrite_keepsData _ _).2.2.2) fun n hn a b hab => by
      obtain rfl : x = .lc n := Option.some.inj (hsreg.symm.trans hn)
      rw [hrun]
      exact ⟨(v a).setWidth 16, congrArg (mset (fun _ => 0#16) · n.val ((v a).setWidth 16)) hab⟩
  have honly := o.posts_only (o.met (s.stake k))
  have hvalue : v (o.met (s.stake k)) = v (s.stake k).arch := hv _ _
  have hwrite (b : Arch) : o.run (o.met (s.stake k)) b = b.sregWrite (v (s.stake k).arch) x := by rw [hrun, ← hvalue]
  rw [hwrite] at hcomputes
  refine ⟨_, hx, hframe, hrunning, hlast, hpc, ?_, fun hst hb hovg haccv j hj => ?_, ?_⟩
  · have htakes := SRegTakes.of_sregWrite (v := v (s.stake k).arch) (ps := ps) hne
      (⟨honly.1, fun n hn => honly.2 n fun hin => hn (hps n hin)⟩ : Arch.onlyP ps (o.met (s.stake k)) _)
    exact SRegTakes.of_computes htakes hcomputes
  · obtain rfl := hst
    rw [hcalm hb hsreg hovg haccv, hwrite]
    show bitAt (moveSt (s.stake k).arch.st _) j = _
    rw [bitAt_moveSt _ _ (by omega), if_pos hj]
  · obtain ⟨hd, hacc, hret, hlevels⟩ := (o.posts (o.met (s.stake k))).sregWrite_keepsData (v (s.stake k).arch) x
    obtain ⟨⟨p, hp⟩, -⟩ := honly
    refine ⟨fun j hj => (hcomputes.d j hj).trans ((hd j (by simp)).trans ?_), fun n => (hcomputes.acc n (by simp)).trans ((hacc n).trans ?_),
      hcomputes.flow.1.trans (hret.trans ?_), hcomputes.flow.2.trans (hlevels.trans ?_)⟩
    all_goals rw [hp]; rfl

theorem loadsClash_none_nil (l2 : Option Load2) : loadsClash none l2 [] = false := by simp [loadsClash]

/-- The address registers that a format R operation without another load steps are those of its slots. -/
theorem rOp_accesses (m : RSlots) (writes : List Nat) {e : Op} (h1 : e.l1 = none) (ha : e.lda = none) :
    (rOp m writes e).accesses.map (·.1) = m.full.pregs := by
  obtain ⟨l2, st⟩ := m
  cases l2 <;> cases st <;> simp [Op.accesses, rOp, PSlots.pregs, RSlots.full, h1, ha]

/-- What a computation after the steps of address registers leaves. -/
theorem Computes.keeps {ds accs ps : List Nat} {o q r : Arch} (hq : Arch.onlyP ps o q) (h : Computes ds accs q r) :
    Arch.keeps ds accs ps o r ∧ Arch.sticks o r ∧ (r.nf, r.zf) = (o.nf, o.zf) := by
  obtain ⟨⟨p, rfl⟩, hp⟩ := hq
  obtain ⟨ep, em, eb, el, elc⟩ := h.addr
  have hbit (i : Nat) (hi : 3 ≤ i) (h24 : i < 24) : bitAt r.st i = bitAt o.st i := h.bit i hi fun n _ => by omega
  refine ⟨⟨h.d, h.acc, fun n _ hn => h.ac hn, fun n hn => ?_, fun n => ⟨?_, ?_, ?_, ?_⟩, h.flow.1, h.flow.2,
    bitsOf_congr fun i hi hle => hbit i (by omega) (by omega)⟩, h.sticks, ?_⟩
  · rw [Arch.rp, ep]; exact hp n hn
  · rw [Arch.rm, em]; rfl
  · rw [Arch.rb, eb]; rfl
  · rw [Arch.rl, el]; rfl
  · rw [Arch.rlc, elc]; rfl
  · rw [Arch.nf, Arch.zf, hbit 9 (by omega) (by omega), hbit 8 (by omega) (by omega)]; rfl

/-- One value put into a d register that no load of the instruction fills. -/
theorem StakeStep.of_move {s : State} {k : Nat} {i : Instr} {m : RSlots} {d : Nat} {v : Word}
    (hx : exec i s = .next (s.issue k (rOp m [d] { run := fun _ b => b.setD d v }))) (h : s.ready k)
    (hc : loadsClash none m.l2 [d] = false) : StakeStep i k s fun o r => r.pc = o.pc + 1 ∧ r.rd d = v
      ∧ (r.nf, r.zf) = (o.nf, o.zf) ∧ Arch.keeps (d :: m.full.dsts) [] m.full.pregs o r ∧ Arch.sticks o r := by
  obtain ⟨hframe, hrunning, hlast, hpc, hcomputes, -⟩ := State.issue_computes (o := rOp m [d] { run := fun _ b => b.setD d v })
    h (by simp [rOp, hc]) rfl rfl (fun _ _ => rfl) nofun
  have honly := (rOp m [d] { run := fun _ b => b.setD d v }).posts_only (Op.met (rOp m [d] { run := fun _ b => b.setD d v }) (s.stake k))
  rw [rOp_accesses m _ rfl rfl] at honly
  obtain ⟨hkeeps, hsticks, hflags⟩ := ((Computes.setD _ d v).trans hcomputes).keeps honly
  refine ⟨_, hx, hframe, hrunning, hlast, hpc, ?_, hflags, hkeeps, hsticks⟩
  refine (hcomputes.d d fun hin => ?_).trans (mget_mset_self _ _ _ _)
  cases hl2 : m.l2 with
  | none => simp [Op.dsts, rOp, hl2] at hin
  | some x => simp_all [Op.dsts, rOp, loadsClash]

/-- Settles O13: moves into d registers are values of the compute part, and moves into special registers stand beside what
the slots and events of their instruction leave. -/
theorem stakeMoves : Obligations.StakeMoves := by
  refine ⟨⟨fun i p h => moveSpec_holds h, fun k d m s h hc => StakeStep.of_move rfl h hc⟩, fun k d x m s h hx => ?_, fun k x imm s h hx => ?_⟩
  · obtain ⟨t, hexec, hframe, hrun, hlast, hpc, htakes, hcalm, hkeeps⟩ := StakeStep.of_sreg (x := x) (ps := m.full.pregs)
      (v := fun a => a.rd d.val) (i := .movto k d x m) rfl h (by simp [rOp, hx, loadsClash_none_nil])
      ⟨rfl, rfl, rfl, rfl⟩ (fun n hn => by rwa [rOp_accesses m _ rfl rfl] at hn) hx fun _ _ => rfl
    refine ⟨t, hexec, hframe, hrun, hlast, hpc, htakes, fun hst hm hovg haccv => hcalm hst ?_ hovg haccv, hkeeps⟩
    obtain ⟨-, hl2, hstore⟩ := PSlots.mk.inj hm
    exact ⟨rfl, rfl, hl2, hstore⟩
  · obtain ⟨t, hexec, hframe, hrun, hlast, hpc, htakes, -, hkeeps⟩ := StakeStep.of_sreg (x := x) (ps := [])
      (v := fun _ => imm.setWidth 32) (i := .ldia k x imm) rfl h hx ⟨rfl, rfl, rfl, rfl⟩ (by simp [Op.accesses])
      (by rintro rfl; cases hx) fun _ _ => rfl
    exact ⟨t, hexec, hframe, hrun, hlast, hpc, htakes, hkeeps⟩

end Sys2Proof.Machine
end

section
/-! SUPPORT. Proofs/StakeLoads.lean: where the slots of an instruction load from and store to (R76, R82, R90 to R92, R100,
R113). -/
-- The proofs of this file are elaborated one after another: side by side their threads exceed the memory of the check.
set_option Elab.async false
namespace Sys2Proof.Machine

variable {s : State} {k : Nat} {o : Op}

/-! ### Steps of address registers (R92) -/

/-- Accesses of address registers, each stepping its register from the registers `r` of the issue. -/
def Arch.steps (r : Arch) (l : List (Nat × Nat)) (q : Arch) : Arch :=
  l.foldl (fun q x => match r.post x.1 x.2 with | some v => q.setP x.1 v | none => q) q

theorem Arch.rp_steps (r : Arch) (l : List (Nat × Nat)) (q : Arch) (n : Nat) : (r.steps l q).rp n
    = (l.filter fun x => x.1 == n).foldl (fun w x => (r.post x.1 x.2).getD w) (q.rp n) := by
  induction l generalizing q with
  | nil => rfl
  | cons x l ih =>
    refine (ih _).trans ?_
    rw [List.filter_cons]
    by_cases hx : x.1 = n
    · rw [if_pos (by simpa using hx), List.foldl_cons]
      refine congrArg (List.foldl _ · _) ?_
      show (match r.post x.1 x.2 with | some v => q.setP x.1 v | none => q).rp n = _
      cases r.post x.1 x.2 with
      | none => rfl
      | some v => exact hx ▸ mget_mset_self _ _ _ _
    · rw [if_neg (by simpa using hx)]
      refine congrArg (List.foldl _ · _) ?_
      show (match r.post x.1 x.2 with | some v => q.setP x.1 v | none => q).rp n = _
      cases r.post x.1 x.2 with
      | none => rfl
      | some v => exact mget_mset_ne _ _ (Ne.symm hx) _

/-- Whether the last access that names a register steps it; so also for a register that none names. -/
def Op.stepsLast (o : Op) (r : Arch) (n : Nat) : Bool :=
  (o.accesses.filter fun x => x.1 == n).getLast?.elim true fun x => (r.post x.1 x.2).isSome

theorem Op.posts_eq (o : Op) (r : Arch) :
    o.posts r = (List.range 8).foldl (fun q n => if o.stepsLast r n then q else q.setP n (r.rp n)) (r.steps o.accesses r) := rfl

/-- An address register that one access names steps by that access's mode. -/
theorem Op.posts_rp {r : Arch} {n mode : Nat} (h : o.accesses.filter (fun x => x.1 == n) = [(n, mode)]) :
    (o.posts r).rp n = (r.post n mode).getD (r.rp n) := by
  rw [Op.posts_eq]
  refine foldl_inv (fun q : Arch => q.rp n = (r.post n mode).getD (r.rp n)) _ _ _ ?_ fun q m _ hq => ?_
  · rw [Arch.rp_steps, h]; rfl
  · by_cases hm : m = n
    · subst hm
      have hlast : o.stepsLast r m = (r.post m mode).isSome := by rw [Op.stepsLast, h]; rfl
      cases hpost : r.post m mode with
      | none => rw [if_neg (by simp [hlast, hpost])]; exact mget_mset_self _ _ _ _
      | some v => rw [if_pos (by simp [hlast, hpost]), hq, hpost]
    · split
      · exact hq
      · exact (mget_mset_ne _ _ (Ne.symm hm) _).trans hq

/-! ### An issue with no store waiting -/

theorem Op.met_of_stores (o : Op) {t : Stake} (h : t.arch.stores = []) : o.met t = t.arch := by
  unfold Op.met
  rw [h, List.filter_nil, ← h]

theorem State.fetched_of_stores (h : (s.stake k).arch.stores = []) : s.fetched k o = s.setStake k (s.stake k) := by
  rw [State.fetched, Op.met_of_stores o h, h]
  rfl

theorem State.loads_fetched (h : (s.stake k).arch.stores = []) (r : Arch) : (s.fetched k o).loads k r o = s.loads k r o := by
  rw [State.fetched_of_stores h]; rfl

/-- The load of a slot where memory holds no error. -/
theorem State.slotLoad_nil (hecc : s.ecc = []) (place : Option Nat) (code : Nat) :
    s.slotLoad place code = .inr (s.placeWord place, place.isNone) := by
  cases place with
  | none => rfl
  | some a => simp [State.slotLoad, State.loadWord, State.placeWord, s.ue_nil _ hecc]

/-- The registers after the words of an operation's loads are put where they go. -/
def Arch.loaded (r : Arch) (ld : Loaded) : Arch :=
  ld.accs.foldl (fun q w => q.replace w.1 (sWord w.2 * 2147483648)) (r.writes ld.regs)

/-- An operation that does nothing but what its slots do, issued with no store waiting. -/
theorem State.issue_slots (h : s.ready k) (hstores : (s.stake k).arch.stores = []) (hl : o.legal = true)
    (hplace : o.ctl = .seq ∧ o.sreg = none ∧ o.run = fun _ b => b) {ld : Loaded} (hload : s.loads k (s.stake k).arch o = .inr ld) :
    StakeFrame k s (s.issue k o) ∧ ((s.issue k o).stake k).run = .running
      ∧ ((s.issue k o).stake k).arch.pc = (s.stake k).arch.pc + 1
      ∧ Computes [] [] ((o.posts (s.stake k).arch).loaded ld) ((s.issue k o).stake k).arch
      ∧ ((s.issue k o).stake k).arch.stores = o.storesAfter k s.sys.parity (o.cycle (s.stake k)) (s.stake k).arch []
      ∧ ((s.issue k o).stake k).reqs = o.coilReqs k (o.cycle (s.stake k)) (s.stake k).arch := by
  have hready := State.readyAt_of_ready h
  obtain ⟨hissues, -, hreqs, -, hpc, hends⟩ := h
  obtain ⟨hctl, hsreg, hrun⟩ := hplace
  refine State.issue_goes hready hl (Q := fun t => t.run = .running ∧ t.arch.pc = (s.stake k).arch.pc + 1
    ∧ Computes [] [] ((o.posts (s.stake k).arch).loaded ld) t.arch
    ∧ t.arch.stores = o.storesAfter k s.sys.parity (o.cycle (s.stake k)) (s.stake k).arch []
    ∧ t.reqs = o.coilReqs k (o.cycle (s.stake k)) (s.stake k).arch) fun ld' hload' => ?_
  rw [Op.met_of_stores o hstores, State.loads_fetched hstores, hload] at hload'
  obtain rfl := Sum.inr.inj hload'
  rw [Op.met_of_stores o hstores]
  obtain ⟨⟨p, hp⟩, -⟩ := o.posts_only (s.stake k).arch
  have hloaded : ((o.posts (s.stake k).arch).loaded ld).levels = (s.stake k).arch.levels
      ∧ ((o.posts (s.stake k).arch).loaded ld).stores = (s.stake k).arch.stores := by
    refine foldl_inv (fun q : Arch => q.levels = (s.stake k).arch.levels ∧ q.stores = (s.stake k).arch.stores) _ _ _ ?_ fun q _ _ hq => hq
    refine foldl_inv (fun q : Arch => q.levels = (s.stake k).arch.levels ∧ q.stores = (s.stake k).arch.stores) _ _ _ ?_ fun q _ _ hq => hq
    rw [hp]; exact ⟨rfl, rfl⟩
  have happly : o.effects k s.sys.parity (o.cycle (s.stake k)) (s.stake k).arch ld = Arch.events (o.storeSat (s.stake k).arch)
      (ld.accv || o.storeVoid k s.sys.parity (s.stake k).arch) ((o.posts (s.stake k).arch).loaded ld) := by
    rw [Op.effects, if_neg (by rw [hsreg]; nofun), Op.apply_eq, hrun]
    rfl
  have hevents := Computes.events (o.storeSat (s.stake k).arch) (ld.accv || o.storeVoid k s.sys.parity (s.stake k).arch)
    ((o.posts (s.stake k).arch).loaded ld)
  obtain ⟨⟨st, a, b, c, heq⟩, -⟩ := Arch.events_spec (o.storeSat (s.stake k).arch)
    (ld.accv || o.storeVoid k s.sys.parity (s.stake k).arch) ((o.posts (s.stake k).arch).loaded ld)
  rw [← happly] at hevents heq
  generalize o.effects k s.sys.parity (o.cycle (s.stake k)) (s.stake k).arch ld = r at hevents heq ⊢
  refine ⟨r, (s.stake k).arch.pc + 1, 1, ?_, .inl (by omega), eq_of_beq hissues, Nat.mod_eq_of_lt (by omega), ?_, ?_, ?_⟩
  · rw [Op.transfer, hctl]
    dsimp only
    rw [Op.endOfBlock_goes (by rw [hevents.flow.2, hloaded.1]; exact hends) (by rw [hsreg]; nofun)]
    rfl
  · exact { d := hevents.d, acc := hevents.acc, bit := hevents.bit, sticks := hevents.sticks, addr := hevents.addr,
            flow := hevents.flow }
  · show o.storesAfter _ _ _ _ r.stores = _
    rw [heq, hloaded.2, hstores]
  · show (s.stake k).reqs ++ _ = _
    rw [hreqs, List.nil_append]

/-! ### Each slot -/

theorem State.loads_l1 (hecc : s.ecc = []) (x : Load1) (r : Arch) : s.loads k r (pOp ⟨some x, none, none⟩ [] {}) =
    .inr (if x.coil then ⟨[], [], false⟩ else
      let place := (xPlace k s.sys.parity (r.ea x.preg.val x.mode.val)).1
      ⟨[(x.dst.val, s.placeWord place)], [], place.isNone⟩) := by
  unfold State.loads
  dsimp only [pOp]
  rw [State.slotLoad_nil hecc]
  cases x.coil <;> simp

theorem State.loads_l2 (hecc : s.ecc = []) (x : Load2) (r : Arch) : s.loads k r (pOp ⟨none, some x, none⟩ [] {}) =
    .inr (let place := yPlace k s.sys.parity (r.ea x.preg.val x.mode.val)
      ⟨[(x.dst.val, s.placeWord place)], [], place.isNone⟩) := by
  unfold State.loads
  dsimp only [pOp]
  rw [State.slotLoad_nil hecc]
  simp

theorem State.loads_st (x : Store) (r : Arch) : s.loads k r (pOp ⟨none, none, some x⟩ [] {}) = .inr ⟨[], [], false⟩ := rfl

/-- LDA (R124). -/
def ldaOp (m : RSlots) (a : Fin 8) (coil : Bool) (p mode : Fin 8) : Op := rOp m [] { lda := some ⟨a.val, coil, p.val, mode.val⟩ }

theorem ldaOp_accesses (m : RSlots) (a : Fin 8) (coil : Bool) (p mode : Fin 8) : ∃ rest,
    (ldaOp m a coil p mode).accesses = (p.val, mode.val) :: rest ∧ rest.map (·.1) = m.full.pregs := by
  obtain ⟨l2, st⟩ := m
  refine ⟨_, rfl, ?_⟩
  cases l2 <;> cases st <;> rfl

theorem State.loads_lda (hecc : s.ecc = []) (a : Fin 8) (coil : Bool) (p mode : Fin 8) (m : RSlots) (r : Arch) :
    ∃ regs accv, regs.map (·.1) = m.full.dsts ∧ s.loads k r (ldaOp m a coil p mode) =
      .inr ⟨regs, if coil then [] else [(a.val, s.placeWord (xPlace k s.sys.parity (r.ea p.val mode.val)).1)], accv⟩ := by
  obtain ⟨l2, st⟩ := m
  unfold State.loads
  dsimp only [ldaOp, rOp]
  cases l2 with
  | none => rw [State.slotLoad_nil hecc]; cases coil <;> exact ⟨[], _, rfl, rfl⟩
  | some y =>
    dsimp only
    rw [State.slotLoad_nil hecc, State.slotLoad_nil hecc]
    cases coil <;> exact ⟨[(y.dst.val, _)], _, rfl, rfl⟩

theorem Arch.rp_loaded (r : Arch) (ld : Loaded) (n : Nat) : (r.loaded ld).rp n = r.rp n := by
  refine foldl_inv (fun q : Arch => q.rp n = r.rp n) _ _ _ ?_ fun q _ _ hq => hq
  rw [Arch.rp, (Computes.writes ld.regs r).addr.1]
  rfl

theorem Computes.loaded (r : Arch) {ld : Loaded} (h : ∀ e ∈ ld.accs, e.1 < 8) :
    Computes (ld.regs.map (·.1)) (ld.accs.map (·.1)) r (r.loaded ld) := by
  have haccs (l : List (Nat × Word)) (q : Arch) (hl : ∀ e ∈ l, e.1 < 8) :
      Computes [] (l.map (·.1)) q (l.foldl (fun q w => q.replace w.1 (sWord w.2 * 2147483648)) q) := by
    induction l generalizing q with
    | nil => exact Computes.refl q
    | cons e l ih =>
      exact (Computes.replaceRaw q (hl e (by simp)) _).trans (ih _ fun x hx => hl x (by simp [hx]))
  have hall := (Computes.writes ld.regs r).trans (haccs ld.accs (r.writes ld.regs) h)
  rwa [List.append_nil, List.nil_append] at hall

/-- The word of a store slot. -/
theorem Arch.storeData_fst (r : Arch) (x : Store) : (r.storeData x.src).1 = storeOf x r := by
  unfold storeOf Arch.storeData
  cases x.src with
  | reg i => rfl
  | rnd a sh => exact congrArg Prod.fst (roundAcc_eq _ _ _)
  | raw a p => exact rawPart_eq_partSpec _ _

/-- Where a store slot that is not in C goes. -/
theorem Op.storePlace_st {x : Store} (hsp : x.sp ≠ .c) (q : Nat) (r : Arch) :
    (pOp ⟨none, none, some x⟩ [] {}).storePlace k q r = some (storeTo x k q r) := by
  unfold storeTo
  cases hspace : x.sp with
  | c => exact absurd hspace hsp
  | x | y => simp [Op.storePlace, pOp, hspace]

/-- Settles O18: the words that the loads put, the requests and the waiting store that the issue leaves. -/
theorem stakeLoadsAndStores : Obligations.StakeLoadsAndStores := by
  have stepped {o : Op} {ld : Loaded} {a t : Arch} {n mode : Nat} (hc : Computes [] [] ((o.posts a).loaded ld) t)
      (hone : o.accesses.filter (fun x => x.1 == n) = [(n, mode)]) : t.rp n = (a.post n mode).getD (a.rp n) := by
    rw [Arch.rp, hc.addr.1]
    exact ((o.posts a).rp_loaded ld n).trans (Op.posts_rp hone)
  refine ⟨fun k x s h hstores => ?_, fun k x s h hstores => ?_, fun k x a s h hstores hsp hto => ?_, fun k x s h hstores hsp => ?_,
    fun k a coil p mode m s h hstores => ?_⟩
  · obtain ⟨hframe, -, -, hcomputes, -, hreqs⟩ := State.issue_slots h hstores (o := pOp ⟨some x, none, none⟩ [] {}) rfl ⟨rfl, rfl, rfl⟩
      (State.loads_l1 h.2.2.2.1 x _)
    refine ⟨_, rfl, hframe, fun hcoil => ?_, fun hcoil => ?_, stepped hcomputes (by simp [Op.accesses, pOp])⟩
    · rw [hcoil] at hcomputes
      exact (hcomputes.d _ (by simp)).trans (mget_mset_self _ _ _ _)
    · rw [hreqs]
      simp [Op.coilReqs, pOp, hcoil]
  · obtain ⟨hframe, -, -, hcomputes, -, -⟩ := State.issue_slots h hstores (o := pOp ⟨none, some x, none⟩ [] {}) rfl ⟨rfl, rfl, rfl⟩
      (State.loads_l2 h.2.2.2.1 x _)
    exact ⟨_, rfl, hframe, (hcomputes.d _ (by simp)).trans (mget_mset_self _ _ _ _), stepped hcomputes (by simp [Op.accesses, pOp])⟩
  · obtain ⟨hframe, -, -, hcomputes, hwaiting, -⟩ := State.issue_slots h hstores (o := pOp ⟨none, none, some x⟩ [] {}) rfl ⟨rfl, rfl, rfl⟩
      (State.loads_st x _)
    refine ⟨_, rfl, hframe, ?_, stepped hcomputes (by simp [Op.accesses, pOp]), fun b => hframe.2.2.2.2 b (by simp [hstores])⟩
    rw [hwaiting, Op.storesAfter, Op.storePlace_st hsp, hto]
    exact congrArg (fun w => [(a, w)]) (Arch.storeData_fst _ x)
  · obtain ⟨hframe, -, -, -, hwaiting, hreqs⟩ := State.issue_slots h hstores (o := pOp ⟨none, none, some x⟩ [] {}) rfl ⟨rfl, rfl, rfl⟩
      (State.loads_st x _)
    refine ⟨_, rfl, hframe, ?_, ?_, fun b => hframe.2.2.2.2 b (by simp [hstores])⟩
    · rw [hreqs, ← Arch.storeData_fst]
      simp [Op.coilReqs, pOp, hsp]
    · rw [hwaiting]
      simp [Op.storesAfter, Op.storePlace, pOp, hsp]
  · obtain ⟨regs, accv, hregs, hload⟩ := State.loads_lda (k := k.val) h.2.2.2.1 a coil p mode m (s.stake k.val).arch
    obtain ⟨hframe, hrun, hpc, hcomputes, -, hreqs⟩ := State.issue_slots h hstores
      (o := ldaOp m a coil p mode) (by simp [ldaOp, rOp, loadsClash_none_nil]) ⟨rfl, rfl, rfl⟩ hload
    have honly := (ldaOp m a coil p mode).posts_only (s.stake k.val).arch
    obtain ⟨rest, hall, hrest⟩ := ldaOp_accesses m a coil p mode
    rw [hall, List.map_cons, hrest] at honly
    have hloaded := (Computes.loaded ((ldaOp m a coil p mode).posts (s.stake k.val).arch)
      (ld := ⟨regs, if coil then [] else [(a.val, s.placeWord (xPlace k.val s.sys.parity ((s.stake k.val).arch.ea p.val mode.val)).1)],
        accv⟩) (by cases coil <;> simp)).trans hcomputes
    have haccs : ((if coil then [] else [(a.val, s.placeWord (xPlace k.val s.sys.parity ((s.stake k.val).arch.ea p.val mode.val)).1)]
        : List (Nat × Word)).map (·.1)) = if coil then [] else [a.val] := by cases coil <;> rfl
    rw [List.append_nil, List.append_nil, hregs, haccs] at hloaded
    obtain ⟨hkeeps, hsticks, hflags⟩ := hloaded.keeps honly
    refine ⟨s.issue k.val (ldaOp m a coil p mode), rfl, hframe, hrun, hpc, hflags, hkeeps, hsticks, fun hp => stepped hcomputes ?_, fun hcoil => ?_, fun hcoil => ?_⟩
    · have hnot : rest.filter (fun x => x.1 == p.val) = [] := List.filter_eq_nil_iff.2 fun e he hep =>
        hp (hrest ▸ eq_of_beq hep ▸ List.mem_map_of_mem he)
      rw [hall, List.filter_cons, if_pos (by simp), hnot]
    · subst hcoil
      refine ⟨(hcomputes.acc a.val (by simp)).trans ?_, (hcomputes.ac (by simp)).trans ?_⟩
      · exact (Arch.acc_replace _ _ _ _).trans (if_pos rfl)
      · exact (Arch.bit_replace _ a.isLt _ _).trans (if_pos rfl)
    · rw [hreqs]
      simp [Op.coilReqs, ldaOp, rOp, hcoil]

end Sys2Proof.Machine
end

section
/-! SUPPORT. Proofs/CoilGrant.lean: what a grant of the coil port completes (R98 to R100, R133, R134). -/
-- The proofs of this file are elaborated one after another: side by side their threads exceed the memory of the check.
set_option Elab.async false
namespace Sys2Proof.Machine

/-- A coil word where its load asks for it, unless a younger instruction has written there. -/
theorem Arch.rd_deliver (r : Arch) (id i : Nat) (w : Word) (j : Nat) : (r.deliver id (.reg i) w).rd j =
    if j = i then (if (id, CoilDst.reg i) ∈ r.due then w else r.rd i) else r.rd j := by
  unfold Arch.deliver
  by_cases hin : (id, CoilDst.reg i) ∈ r.due
  · rw [if_pos (by simpa using hin), if_pos hin]
    exact mget_mset _ _ _ _ _
  · rw [if_neg (by simpa using hin), if_neg hin]
    split
    · next h => rw [h]
    · rfl

theorem Arch.acc_deliver_reg (r : Arch) (id i : Nat) (w : Word) (n : Nat) : (r.deliver id (.reg i) w).acc n = r.acc n := by
  unfold Arch.deliver
  split <;> rfl

theorem Arch.acc_deliver (r : Arch) (id n : Nat) (w : Word) (m : Nat) : (r.deliver id (.acc n) w).acc m =
    if m = n then (if (id, CoilDst.acc n) ∈ r.due then BitVec.ofInt 80 (w.toInt * 2 ^ 31) else r.acc n) else r.acc m := by
  unfold Arch.deliver
  by_cases hin : (id, CoilDst.acc n) ∈ r.due
  · rw [if_pos (by simpa using hin), if_pos hin]
    exact Arch.acc_replace _ _ _ _
  · rw [if_neg (by simpa using hin), if_neg hin]
    split
    · next h => rw [h]
    · rfl

theorem Arch.rd_deliver_acc (r : Arch) (id n : Nat) (w : Word) (j : Nat) : (r.deliver id (.acc n) w).rd j = r.rd j := by
  unfold Arch.deliver
  split <;> rfl

/-- The stake after a grant keeps its other requests waiting, each perhaps made later. -/
theorem Stake.granted_reqs {t : Stake} {q : CoilReq} {rest : List CoilReq} (h : t.reqs = q :: rest) (wait : Nat) :
    (t.granted wait).reqs.map (fun x => (x.cycle, x.addr, x.load, x.data)) = rest.map (fun x => (x.cycle, x.addr, x.load, x.data))
      ∧ (t.granted wait).arch = t.arch := by
  unfold Stake.granted
  rw [h]
  dsimp only
  split
  · simp [laterReqs, Function.comp_def]
  · exact ⟨rfl, rfl⟩

/-- The grant of a load. -/
theorem State.grant_load {s : State} {k wait : Nat} {q : CoilReq} {rest : List CoilReq} {d : CoilDst} (hissues : s.issues k = true)
    (hecc : s.ecc = []) (hreqs : (s.stake k).reqs = q :: rest) (hload : q.load = some d) :
    s.grant k wait = s.setStake k (((s.stake k).granted wait).deliver q.cycle d (s.word q.addr) (q.req + wait)) := by
  unfold State.grant
  simp only [hreqs, hload, s.corrected_nil _ hecc, State.loadWord, s.ue_nil _ hecc]
  exact if_pos (eq_of_beq hissues)

/-- The grant of a store. -/
theorem State.grant_store {s : State} {k wait : Nat} {q : CoilReq} {rest : List CoilReq} (hissues : s.issues k = true)
    (hreqs : (s.stake k).reqs = q :: rest) (hload : q.load = none) :
    s.grant k wait = (s.storeWord q.addr q.data).setStake k ((s.stake k).granted wait) := by
  unfold State.grant
  simp only [hreqs, hload]
  exact if_pos (eq_of_beq hissues)

/-! ### Words of memory (R3) -/

theorem leNat_leBytes (v n : Nat) : leNat (leBytes v n) = v % 256 ^ n := by
  induction n generalizing v with
  | zero => rw [pow_zero, Nat.mod_one]; rfl
  | succ n ih =>
    rw [leBytes, leNat, ih, BitVec.toNat_ofNat, Nat.pow_succ' (n := n)]
    exact Nat.mod_mul.symm

theorem State.bytes_congr {s t : State} (h : ∀ a, t.byte a = s.byte a) (a n : Nat) : t.bytes a n = s.bytes a n := by
  induction n generalizing a with
  | zero => rfl
  | succ n ih => rw [State.bytes, State.bytes, h, ih]

theorem State.word_setWord (s : State) (a : Nat) (v : Word) : (s.setWord a v).word a = v := by
  have hbytes : (s.setWord a v).bytes a 4 = leBytes v.toNat 4 := by
    have h := s.bytes_setBytes a 4 (leBytes v.toNat 4) [] (leBytes_length _ _)
    rwa [List.append_nil] at h
  rw [State.word, hbytes, leNat_leBytes]
  exact BitVec.eq_of_toNat_eq ((BitVec.toNat_ofNat ..).trans (by have := v.isLt; omega))

theorem State.word_storeWord (s : State) (a : Nat) (v : Word) : (s.storeWord a v).word a = v := by
  have hbytes := State.bytes_congr (s := s.setWord a v) (t := s.storeWord a v) ((State.compute_mirrorNote _ a v false).2.2) a 4
  rw [State.word, hbytes]
  exact s.word_setWord a v

/-- Settles O19: a granted load is delivered, and a granted store is one word stored. -/
theorem coilGrants : Obligations.CoilGrants := by
  intro k w q rest s hissues hecc hreqs wait
  have hexec : exec (.coilGrant k w) s = .next (if s.portATurn k.val wait then s.grant k.val wait else s) := rfl
  refine ⟨fun hturn => by rw [hexec, hturn]; rfl, fun hturn => ?_⟩
  rw [hexec, if_pos hturn]
  obtain ⟨hwaiting, harch⟩ := Stake.granted_reqs hreqs wait
  have hstake (t : State) (x : Stake) (hcompute : t.compute = s.compute) (j : Nat) (hj : j ≠ k.val) : (t.setStake k.val x).stake j = s.stake j := by
    rw [State.stake_setStake_ne _ hj, State.stake_congr hcompute]
  cases hload : q.load with
  | none =>
    obtain ⟨hframe, hcompute, -, hbyte⟩ := s.storeWord_spec q.addr q.data hecc
    rw [State.grant_store hissues hreqs hload]
    refine ⟨_, rfl, ?_, hstake _ _ hcompute, fun a => hframe.1 a (by simp), nofun, nofun, fun _ => ⟨s.word_storeWord _ _,
      fun a ha => hbyte a ha, ?_⟩⟩
    · rw [State.stake_setStake]; exact hwaiting
    · rw [State.stake_setStake]; exact harch
  | some d =>
    rw [State.grant_load hissues hecc hreqs hload]
    refine ⟨_, rfl, ?_, hstake _ _ rfl, fun _ => rfl, fun i hd => ?_, fun n hd => ?_, nofun⟩
    · rw [State.stake_setStake, ← hwaiting]
      simp [Stake.deliver, Function.comp_def]
    all_goals
      cases hd
      rw [State.stake_setStake]
      dsimp only [Stake.deliver]
      rw [harch]
    · refine ⟨(Arch.rd_deliver _ _ _ _ _).trans (if_pos rfl), fun j hj => (Arch.rd_deliver _ _ _ _ _).trans (if_neg hj),
        fun n => Arch.acc_deliver_reg _ _ _ _ n, fun _ => rfl⟩
    · refine ⟨(Arch.acc_deliver _ _ _ _ _).trans (if_pos rfl), fun j hj => (Arch.acc_deliver _ _ _ _ _).trans (if_neg hj),
        fun n => Arch.rd_deliver_acc _ _ _ _ n, fun _ => rfl⟩

end Sys2Proof.Machine
end

section
/-! SUPPORT. Proofs/Rules.lean: one rule for each update of a state and for each way a register write ends; what later files
say of a command is assembled from them. -/
-- The proofs of this file are elaborated one after another: side by side their threads exceed the memory of the check.
set_option Elab.async false
namespace Sys2Proof.Machine

open Reg

variable {s t u : State} {R r : List Nat} {P p : List Piece}

/-! ### Frames, one update at a time -/

/-- A frame goes on over one more update. -/
theorem Frame.step (h : Frame R P s t) (g : Frame r p t u) (hr : ∀ a ∈ r, a ∈ R := by simp) (hp : ∀ x ∈ p, x ∈ P := by simp) :
    Frame R P s u := h.trans (g.mono hr hp)

theorem Frame.ite {c : Prop} [Decidable c] (h : Frame R P s t) (g : Frame R P s u) : Frame R P s (if c then t else u) := by
  split
  · exact h
  · exact g

/-- A fold of updates that each keep the frame. -/
theorem Frame.foldl {α : Type} {f : State → α → State} {l : List α} (h : Frame R P s t) (hf : ∀ u, ∀ a ∈ l, Frame R P u (f u a)) :
    Frame R P s (l.foldl f t) := by
  induction l generalizing t with
  | nil => exact h
  | cons a l ih => exact ih (h.trans (hf t a (by simp))) fun u b hb => hf u b (by simp [hb])

theorem Frame.setRegN (s : State) (a v : Nat) : Frame [a] [] s (s.setRegN a v) := Frame.setReg s a _
theorem Frame.setFlag (s : State) (f : RegField) (b : Bool) : Frame [f.reg] [] s (s.setFlag f b) := Frame.sf s f _
theorem Frame.countMod (s : State) (f : RegField) : Frame [f.reg] [] s (s.countMod f) := Frame.sf s f _
theorem Frame.clrBit (s : State) (a i : Nat) : Frame [a] [] s (s.clrBit a i) := Frame.setReg s a _

theorem Frame.withPending (s : State) (x : List Instr) : Frame [] [.pending] s { s with pending := x } :=
  ⟨fun _ _ => rfl, fun p hp => by cases p <;> simp_all [Piece.same, State.byte]⟩
theorem Frame.withFv (s : State) (x : Nat) : Frame [] [.fv] s { s with fv := x } :=
  ⟨fun _ _ => rfl, fun p hp => by cases p <;> simp_all [Piece.same, State.byte]⟩
theorem Frame.withSys (s : State) (x : Sys) : Frame [] [.sys] s { s with sys := x } :=
  ⟨fun _ _ => rfl, fun p hp => by cases p <;> simp_all [Piece.same, State.byte]⟩
theorem Frame.withWeave (s : State) (x : Weave) : Frame [] [.weave] s { s with weave := x } :=
  ⟨fun _ _ => rfl, fun p hp => by cases p <;> simp_all [Piece.same, State.byte]⟩
theorem Frame.withBorder (s : State) (x : Border) : Frame [] [.border] s { s with border := x } :=
  ⟨fun _ _ => rfl, fun p hp => by cases p <;> simp_all [Piece.same, State.byte]⟩
theorem Frame.withStreams (s : State) (x : Streams) : Frame [] [.streams] s { s with streams := x } :=
  ⟨fun _ _ => rfl, fun p hp => by cases p <;> simp_all [Piece.same, State.byte]⟩
theorem Frame.withTrust (s : State) (x : Trust) : Frame [] [.trust] s { s with trust := x } :=
  ⟨fun _ _ => rfl, fun p hp => by cases p <;> simp_all [Piece.same, State.byte]⟩
theorem Frame.withHoop (s : State) (x : Hoop) : Frame [] [.hoop] s { s with hoop := x } :=
  ⟨fun _ _ => rfl, fun p hp => by cases p <;> simp_all [Piece.same, State.byte]⟩
theorem Frame.withRefsel (s : State) (x : RefSel) : Frame [] [.refsel] s { s with refsel := x } :=
  ⟨fun _ _ => rfl, fun p hp => by cases p <;> simp_all [Piece.same, State.byte]⟩
theorem Frame.withSupv (s : State) (x : Supv) : Frame [] [.supv] s { s with supv := x } :=
  ⟨fun _ _ => rfl, fun p hp => by cases p <;> simp_all [Piece.same, State.byte]⟩
theorem Frame.withSkein (s : State) (x : Skein) : Frame [] [.skein] s { s with skein := x } :=
  ⟨fun _ _ => rfl, fun p hp => by cases p <;> simp_all [Piece.same, State.byte]⟩
theorem Frame.withLink (s : State) (x : Link) : Frame [] [.link] s { s with link := x } :=
  ⟨fun _ _ => rfl, fun p hp => by cases p <;> simp_all [Piece.same, State.byte]⟩
theorem Frame.withMatrix (s : State) (x : Matrix) : Frame [] [.matrix] s { s with matrix := x } :=
  ⟨fun _ _ => rfl, fun p hp => by cases p <;> simp_all [Piece.same, State.byte]⟩
theorem Frame.withPorts (s : State) (x : Ports) : Frame [] [.ports] s { s with ports := x } :=
  ⟨fun _ _ => rfl, fun p hp => by cases p <;> simp_all [Piece.same, State.byte]⟩
theorem Frame.withEcc (s : State) (x : List (Nat × Bool)) : Frame [] [.ecc] s { s with ecc := x } :=
  ⟨fun _ _ => rfl, fun p hp => by cases p <;> simp_all [Piece.same, State.byte]⟩

theorem Frame.privViol (s : State) (agent what : Nat) : Frame [TRUST_EVT] [.trust] s (s.privViol agent what) :=
  (State.logRec_frame s 9 _).step (Frame.raise _ _)

theorem Frame.wardenEvent (s : State) (code : Nat) (data : List Nat) : Frame [TRUST_EVT] [.trust] s (s.wardenEvent code data) :=
  State.logRec_frame s 1 _

/-! ### The log (R423, R445) -/

theorem State.logRec_trust (s : State) (ty : Nat) (l : List Nat) : (s.logRec ty l).trust =
    { s.trust with log := s.trust.log ++ [⟨ty, s.trust.logSeq, s.sys.roundNo, l⟩], logSeq := s.trust.logSeq + 1 } := by
  unfold State.logRec
  dsimp only
  split <;> rfl

theorem State.privViol_trust (s : State) (agent what : Nat) : (s.privViol agent what).trust =
    { s.trust with log := s.trust.log ++ [⟨9, s.trust.logSeq, s.sys.roundNo, [agent, what]⟩], logSeq := s.trust.logSeq + 1 } :=
  s.logRec_trust 9 _

theorem State.flag_privViol (s : State) (agent what : Nat) : (s.privViol agent what).flag TRUST_EVT_PRIV_VIOL = true :=
  State.flag_raise_self _ TRUST_EVT_PRIV_VIOL rfl (by decide)

/-! ### What registers read after an update -/

theorem State.reg_raise (s : State) (f : RegField) (b : Nat) :
    (s.raise f).reg b = if b = f.reg then setBits (s.reg b) f.hi f.lo 1 else s.reg b := by
  by_cases h : b = f.reg
  · rw [if_pos h, h]; exact s.reg_raise_self f
  · rw [if_neg h]; exact State.reg_raise_ne s h

theorem State.rf_congr (f : RegField) (h : t.reg f.reg = s.reg f.reg) : t.rf f = s.rf f := by rw [State.rf, State.rf, h]

theorem State.rf_setReg_ne (s : State) {f : RegField} {a : Nat} (h : f.reg ≠ a) (v : Word) : (s.setReg a v).rf f = s.rf f :=
  State.rf_congr f (State.reg_setReg_ne s h v)

theorem State.rf_raise_ne (s : State) {f g : RegField} (h : f.lo ≤ f.hi) (h32 : f.hi < 32)
    (hd : g.reg ≠ f.reg ∨ g.hi < f.lo ∨ f.hi < g.lo) : (s.raise f).rf g = s.rf g := State.rf_sf_ne s 1 h h32 hd

theorem State.flag_setFlag_self (s : State) (f : RegField) (b : Bool) (h : f.lo = f.hi) (h32 : f.hi < 32) : (s.setFlag f b).flag f = b := by
  rw [State.flag, State.setFlag, State.rf_sf_self s f _ (Nat.le_of_eq h) h32, h]
  cases b <;> simp

theorem bitAt_eq_bitsOf (w : Word) (i : Nat) : bitAt w i = (bitsOf w i i == 1) := by
  rw [bitAt, bitsOf, Nat.testBit_eq_decide_div_mod_eq, Nat.shiftRight_eq_div_pow, show i + 1 - i = 1 by omega, Nat.pow_one]
  rfl

/-! ### Error responses (R454, R476) -/

theorem State.errRec_frame_all (s : State) (a : Nat) (k : ErrKind) (w : Bool) (addr : Nat) :
    Frame (TRUST_EVT :: errRegs) [.bus, .trust] s (s.errRec a k w addr) := by
  by_cases hk : k = .host
  · subst hk
    unfold State.errRec State.errLog
    exact (Frame.refl _ _ s).step (Frame.setRegN _ _ _) (by simp [errRegs]) |>.step (Frame.setRegN _ _ _) (by simp [errRegs])
      |>.step (Frame.setRegN _ _ _) (by simp [errRegs]) |>.step (Frame.setReg _ _ _) (by simp [errRegs])
      |>.step (Frame.raise _ _) (by simp [errRegs]) |>.step (Frame.raise _ _) (by simp [errRegs])
      |>.step (Frame.privViol _ _ _) |>.step (Frame.err _)
  · exact (s.errRec_frame a k w addr hk).mono (by simp_all) (by simp_all)

theorem State.flag_errRec (s : State) (a : Nat) (k : ErrKind) (w : Bool) (addr : Nat) :
    (s.errRec a k w addr).flag MATRIX_EVT_ERR = true := by
  have hraise (t : State) : (t.raise MATRIX_EVT_ERR).flag MATRIX_EVT_ERR = true := State.flag_raise_self _ _ rfl (by decide)
  have hkeep (t : State) (f : RegField) (hf : f = MATRIX_EVT_STALL ∨ f = MATRIX_EVT_HOST_DENIED) :
      (t.raise f).flag MATRIX_EVT_ERR = t.flag MATRIX_EVT_ERR := by
    rw [State.flag, State.flag, State.rf_raise_ne]
    all_goals rcases hf with rfl | rfl <;> decide
  have hviol (t : State) (x y : Nat) : (t.privViol x y).flag MATRIX_EVT_ERR = t.flag MATRIX_EVT_ERR := by
    rw [State.flag, State.flag, (Frame.privViol t x y).rf (by decide)]
  have herr (t : State) : t.err.flag MATRIX_EVT_ERR = t.flag MATRIX_EVT_ERR := rfl
  rw [State.errRec, herr]
  unfold State.errLog
  cases k with
  | stall => dsimp only; rw [hkeep _ _ (.inl rfl), hraise]
  | host => dsimp only; rw [hviol, hkeep _ _ (.inr rfl), hraise]
  | nopath | align | unpop | block => dsimp only; rw [hraise]

/-! ### How a register write ends (R453, R454, R470) -/

variable {i : Instr} {a : Agent} {reg : Nat} {v : Word} {f : State → State} {Q : State → Prop}

/-- A write that reaches its block and that the block accepts. -/
theorem Does.of_write (hx : exec i s = .next (s.regWrite a reg v f)) (hr : s.reaches a reg true = true) (ht : f (s.ok 0#32) = t)
    (hok : t.bus.err = false) (hf : Frame R P s t) (hq : Q t) : Does i s R P Q := by
  subst ht
  rw [State.regWrite_ok hr hok] at hx
  exact ⟨_, hx, hf, hq⟩

/-- A write that its block refuses. -/
theorem Errs.of_write {g : State} (hx : exec i s = .next (s.regWrite a reg v f)) (hr : s.reaches a reg true = true)
    (hg : f (s.ok 0#32) = g) (herr : g.bus.err = true) (hf : Frame R [.bus] s g) (hq : ∀ t, Frame errRegs [.bus] g t → Q t) : Errs i s R Q := by
  subst hg
  rw [State.regWrite_err hr herr] at hx
  have hrec := State.errRec_frame (f (s.ok 0#32)) a.val .block true (errAddr a.val reg true) nofun
  exact ⟨_, hx, (hf.mono (by simp_all) (by simp)).trans (hrec.mono (by simp_all) (by simp)), State.errRec_bus _ _ _ _ _,
    State.flag_errRec _ _ _ _ _, hq _ hrec⟩

/-- An access that the paths refuse. -/
theorem State.access_refused {n : Nat} {w : Bool} {k : ErrKind} (h : s.accepted n = true) (hk : s.pathErr n reg w = some k) :
    s.access n reg w v f = (s.deniedHook n reg w).errRec n k w (errAddr n reg w) := by
  rw [State.access, if_pos h, hk]

end Sys2Proof.Machine
end

section
/-! SUPPORT. Proofs/WeavePorts.lean: the command ports of the Weave: a command staged and queued, and the oldest one validated
(R43 to R46, R71). -/
-- The proofs of this file are elaborated one after another: side by side their threads exceed the memory of the check.
set_option Elab.async false
namespace Sys2Proof.Machine

open Reg

variable {s : State} {host : Bool} {a : Agent} {op : RouteOp} {idx : Nat} {w0 w1 w2 : Word} {sc : Bool}

/-! ### A staged command (R43, R44) -/

/-- The registers that stage a command at a port. -/
def stageRegs (p : Nat) : List Nat := [WEAVE_XP_IDX p, WEAVE_XP_W0 p, WEAVE_XP_W1 p, WEAVE_XP_W2 p, WEAVE_XP_CTL p]

/-- A command staged at a port. -/
def State.routeStaged (s : State) (p : Nat) (op : RouteOp) (idx : Nat) (w0 w1 w2 : Word) (sc : Bool) : State :=
  ((((((s.sf (WEAVE_XP_IDX_INDEX p) idx).setReg (WEAVE_XP_W0 p) w0).setReg (WEAVE_XP_W1 p) w1).setReg (WEAVE_XP_W2 p) w2).sf
    (WEAVE_XP_CTL_OP p) op.code).setFlag (WEAVE_XP_CTL_SUCC_EN p) sc)

theorem State.routeStaged_frame (s : State) (p : Nat) : Frame (stageRegs p) [] s (s.routeStaged p op idx w0 w1 w2 sc) := by
  have hmem : ∀ x ∈ stageRegs p, x ∈ stageRegs p := fun _ h => h
  unfold State.routeStaged
  exact (Frame.refl _ _ s).step (Frame.sf _ _ _) (by simp [stageRegs]) |>.step (Frame.setReg _ _ _) (by simp [stageRegs])
    |>.step (Frame.setReg _ _ _) (by simp [stageRegs]) |>.step (Frame.setReg _ _ _) (by simp [stageRegs])
    |>.step (Frame.sf _ _ _) (by simp [stageRegs]) |>.step (Frame.setFlag _ _ _) (by simp [stageRegs])

/-- The operations that WEAVE_XP_CTL.OP spells: each is read back from its code. -/
def RouteOp.spelt (op : RouteOp) : Prop := op.code < 16 ∧ routeOpOf op.code = op

/-- What a GO reads of the command staged at its port. -/
theorem State.routeStaged_reads (s : State) (host : Bool) (hop : op.spelt) (hidx : idx < 32768) :
    let t := s.routeStaged (portIx host) op idx w0 w1 w2 sc
    let p := portIx host
    (⟨routeOpOf (t.rf (WEAVE_XP_CTL_OP p)), t.rf (WEAVE_XP_IDX_INDEX p), ⟨t.reg (WEAVE_XP_W0 p), t.reg (WEAVE_XP_W1 p), t.reg (WEAVE_XP_W2 p)⟩,
      t.flag (WEAVE_XP_CTL_SUCC_EN p)⟩ : RouteCmd) = ⟨op, idx, ⟨w0, w1, w2⟩, sc⟩ := by
  obtain ⟨hcode, hback⟩ := hop
  cases host <;>
    simp (disch := decide) [State.routeStaged, State.rf, State.flag, State.setFlag, State.reg_sf, State.reg_setReg, portIx,
      bitsOf_setBits_self, bitsOf_setBits_ne, Nat.mod_eq_of_lt hcode, hback, Nat.mod_eq_of_lt hidx] <;> cases sc <;> rfl

/-! ### A port's queue (R44) -/

theorem State.routeQueue_setRouteQueue (s : State) (host : Bool) (q : List RouteCmd) : (s.setRouteQueue host q).routeQueue host = q
    ∧ (s.setRouteQueue host q).routeQueue (!host) = s.routeQueue (!host)
    ∧ (s.setRouteQueue host q).weave = { s.weave with queueC := (s.setRouteQueue host q).weave.queueC,
                                                      queueH := (s.setRouteQueue host q).weave.queueH } := by
  cases host <;> exact ⟨rfl, rfl, rfl⟩

theorem State.setRouteQueue_frame (s : State) (host : Bool) (q : List RouteCmd) :
    Frame [WEAVE_XP_STAT (portIx host)] [.weave] s (s.setRouteQueue host q) :=
  (((Frame.refl _ _ s).step (Frame.withWeave _ _)).ite ((Frame.refl _ _ s).step (Frame.withWeave _ _))).step (Frame.sf _ _ _)

theorem State.rf_setRouteQueue (s : State) (host : Bool) {q : List RouteCmd} (hq : q.length < 128) :
    let p := portIx host
    (s.setRouteQueue host q).rf (WEAVE_XP_STAT_DEPTH p) = q.length
    ∧ (s.setRouteQueue host q).rf (WEAVE_XP_STAT_SEQ p) = s.rf (WEAVE_XP_STAT_SEQ p)
    ∧ (s.setRouteQueue host q).rf (WEAVE_XP_STAT_RESULT p) = s.rf (WEAVE_XP_STAT_RESULT p) := by
  have hweave (f : RegField) : (if host then { s with weave := { s.weave with queueH := q } }
      else { s with weave := { s.weave with queueC := q } } : State).rf f = s.rf f := by cases host <;> rfl
  refine ⟨?_, ?_, ?_⟩
  · exact (State.rf_sf_self _ (WEAVE_XP_STAT_DEPTH _) _ (by simp) (by simp)).trans (Nat.mod_eq_of_lt hq)
  · exact (State.rf_sf_ne _ (f := WEAVE_XP_STAT_DEPTH _) _ (by simp) (by simp) (.inr (.inr (by simp)))).trans (hweave _)
  · exact (State.rf_sf_ne _ (f := WEAVE_XP_STAT_DEPTH _) _ (by simp) (by simp) (.inr (.inl (by simp)))).trans (hweave _)

/-- A GO with the staged command: it joins the queue, or is dropped. -/
theorem State.routeGo_staged (s : State) (host : Bool) (hop : op.spelt) (hidx : idx < 32768) :
    (s.routeStaged (portIx host) op idx w0 w1 w2 sc).routeGo host =
      if 64 ≤ (s.routeQueue host).length then (s.routeStaged (portIx host) op idx w0 w1 w2 sc).raise (if host then WEAVE_EVT_OVF_H else WEAVE_EVT_OVF_C)
      else (s.routeStaged (portIx host) op idx w0 w1 w2 sc).setRouteQueue host (s.routeQueue host ++ [⟨op, idx, ⟨w0, w1, w2⟩, sc⟩]) := by
  have hweave : (s.routeStaged (portIx host) op idx w0 w1 w2 sc).weave = s.weave := (s.routeStaged_frame _).2 .weave (by simp)
  have hqueue : (s.routeStaged (portIx host) op idx w0 w1 w2 sc).routeQueue host = s.routeQueue host := by
    rw [State.routeQueue, hweave]; rfl
  have hreads := s.routeStaged_reads (w0 := w0) (w1 := w1) (w2 := w2) (sc := sc) host hop hidx
  dsimp only at hreads
  unfold State.routeGo
  dsimp only
  rw [hqueue, hreads]
  simp only [Nat.ble_eq]

/-- What a command of a port leaves. -/
theorem routeCmd_spec {i : Instr} (hx : exec i s = .next (s.routeCmd host a op idx w0 w1 w2 sc)) (hop : op.spelt) (hidx : idx < 32768)
    (hr : s.reaches a (WEAVE_XP_IDX (portIx host)) true = true) :
    let p := portIx host
    (portAgent host a = true → (s.routeQueue host).length < 64 →
      Does i s (WEAVE_XP_STAT p :: stageRegs p) [.weave, .bus] fun t => t.bus.err = false
        ∧ t.routeQueue host = s.routeQueue host ++ [⟨op, idx, ⟨w0, w1, w2⟩, sc⟩]
        ∧ t.routeQueue (!host) = s.routeQueue (!host)
        ∧ t.weave = { s.weave with queueC := t.weave.queueC, queueH := t.weave.queueH }
        ∧ t.rf (WEAVE_XP_STAT_DEPTH p) = (s.routeQueue host).length + 1
        ∧ t.rf (WEAVE_XP_STAT_SEQ p) = s.rf (WEAVE_XP_STAT_SEQ p)
        ∧ t.rf (WEAVE_XP_STAT_RESULT p) = s.rf (WEAVE_XP_STAT_RESULT p))
    ∧ (portAgent host a = true → 64 ≤ (s.routeQueue host).length →
      Does i s (WEAVE_EVT :: stageRegs p) [.bus] fun t => t.bus.err = false
        ∧ t.reg WEAVE_EVT = s.raised WEAVE_EVT [if host then WEAVE_EVT_OVF_H else WEAVE_EVT_OVF_C])
    ∧ (portAgent host a = false → Errs i s [] fun _ => True) := by
  have hqueue : (s.ok 0#32).routeQueue host = s.routeQueue host := by cases host <;> rfl
  have hgo := (s.ok 0#32).routeGo_staged (w0 := w0) (w1 := w1) (w2 := w2) (sc := sc) host hop hidx
  rw [hqueue] at hgo
  have hstaged : Frame (stageRegs (portIx host)) [.bus] s ((s.ok 0#32).routeStaged (portIx host) op idx w0 w1 w2 sc) :=
    ((Frame.ok s 0#32).mono (by simp) (by simp)).trans ((State.routeStaged_frame _ _).mono (by simp) (by simp))
  have hwrite : exec i s = .next (s.regWrite a (WEAVE_XP_IDX (portIx host)) (BitVec.ofNat 32 idx) fun s =>
      if portAgent host a then ((s.routeStaged (portIx host) op idx w0 w1 w2 sc).routeGo host).ok 0#32 else s.err) := hx
  refine ⟨fun ha hlen => ?_, fun ha hlen => ?_, fun ha => ?_⟩
  · have ht := (congrArg (fun t : State => t.ok 0#32) hgo).trans (by rw [if_neg (by omega)])
    have hsame : ((s.ok 0#32).routeStaged (portIx host) op idx w0 w1 w2 sc).weave = s.weave := hstaged.2 .weave (by simp)
    obtain ⟨hown, hother, hweave⟩ := State.routeQueue_setRouteQueue ((s.ok 0#32).routeStaged (portIx host) op idx w0 w1 w2 sc) host
      (s.routeQueue host ++ [⟨op, idx, ⟨w0, w1, w2⟩, sc⟩])
    obtain ⟨hdepth, hseq, hresult⟩ := State.rf_setRouteQueue ((s.ok 0#32).routeStaged (portIx host) op idx w0 w1 w2 sc) host
      (q := s.routeQueue host ++ [⟨op, idx, ⟨w0, w1, w2⟩, sc⟩]) (by simp; omega)
    refine Does.of_write hwrite hr ((if_pos ha).trans ht) rfl ?_ ⟨rfl, hown, ?_, ?_, ?_, ?_, ?_⟩
    · exact (hstaged.mono (by simp_all) (by simp)).step (State.setRouteQueue_frame _ _ _) |>.step (Frame.ok _ _)
    · refine hother.trans ?_
      rw [State.routeQueue, hsame]; rfl
    · rw [← hsame]; exact hweave
    · exact hdepth.trans (by simp)
    · exact hseq.trans (hstaged.rf (by simp [stageRegs]))
    · exact hresult.trans (hstaged.rf (by simp [stageRegs]))
  · have ht := (congrArg (fun t : State => t.ok 0#32) hgo).trans (by rw [if_pos hlen])
    refine Does.of_write hwrite hr ((if_pos ha).trans ht) rfl ?_ ⟨rfl, ?_⟩
    · exact (hstaged.mono (by simp_all) (by simp)).step (Frame.raise _ _) (by cases host <;> simp) |>.step (Frame.ok _ _)
    · have hevt := hstaged.1 WEAVE_EVT (by cases host <;> decide)
      rw [State.reg_ok, State.reg_raise, if_pos (by cases host <;> rfl), hevt]
      rfl
  · refine Errs.of_write hwrite hr (g := (s.ok 0#32).err) (by simp [ha]) rfl ?_ fun _ _ => trivial
    exact ((Frame.refl _ _ s).step (Frame.ok _ _)).step (Frame.err _)

theorem RouteOp.spelt_reserved (r : Fin 9) : (RouteOp.reserved (7 + r.val)).spelt :=
  ⟨by show 7 + r.val < 16; omega, by rw [Nat.add_comm]; rfl⟩

/-- Settles O4: a command is staged, and its GO queues it, drops it or is refused. -/
theorem weavePortCommands : Obligations.WeavePortCommands := by
  intro host a idx w0 w1 w2 sc r i op s hi hr
  simp only [List.mem_cons, Prod.mk.injEq, List.not_mem_nil, or_false] at hi
  rcases hi with ⟨rfl, rfl⟩ | ⟨rfl, rfl⟩ | ⟨rfl, rfl⟩ | ⟨rfl, rfl⟩ | ⟨rfl, rfl⟩ | ⟨rfl, rfl⟩ | ⟨rfl, rfl⟩ | ⟨rfl, rfl⟩
  case inr.inr.inr.inr.inr.inr.inr => exact routeCmd_spec rfl (RouteOp.spelt_reserved r) idx.isLt hr
  all_goals exact routeCmd_spec rfl ⟨by decide, rfl⟩ idx.isLt hr

/-! ### A command validated (R45) -/

theorem ite_le {c : Prop} [Decidable c] {x y n : Nat} (hx : x ≤ n) (hy : y ≤ n) : (if c then x else y) ≤ n := by split <;> assumption

theorem State.checkRoute_le (s : State) (host : Bool) (c : RouteCmd) : s.checkRoute host c ≤ 10 := by
  unfold State.checkRoute
  dsimp only
  exact ite_le (by decide) (ite_le (by decide) (ite_le (by decide) (ite_le (by decide) (ite_le (by decide) (ite_le (by decide)
    (ite_le (by decide) (ite_le (by decide) (ite_le (by decide) (ite_le (by decide) (ite_le (by decide) (by decide)))))))))))

theorem State.routeResult_le (s : State) (host : Bool) (c : RouteCmd) : s.routeResult host c ≤ 10 := by
  unfold State.routeResult
  dsimp only
  exact ite_le (by decide) (State.checkRoute_le _ _ _)

/-- SEQ counted and RESULT shown. -/
def State.routeShown (s : State) (p res : Nat) : State := (s.countMod (WEAVE_XP_STAT_SEQ p)).sf (WEAVE_XP_STAT_RESULT p) res

theorem State.rf_routeShown (s : State) (p : Nat) {res : Nat} (hres : res ≤ 10) :
    (s.routeShown p res).rf (WEAVE_XP_STAT_DEPTH p) = s.rf (WEAVE_XP_STAT_DEPTH p)
    ∧ (s.routeShown p res).rf (WEAVE_XP_STAT_SEQ p) = (s.rf (WEAVE_XP_STAT_SEQ p) + 1) % 65536
    ∧ (s.routeShown p res).rf (WEAVE_XP_STAT_RESULT p) = res := by
  refine ⟨?_, ?_, ?_⟩
  · rw [State.routeShown, State.rf_sf_ne _ _ (by simp) (by simp) (.inr (.inr (by simp))), State.countMod,
      State.rf_sf_ne _ _ (by simp) (by simp) (.inr (.inl (by simp)))]
  · rw [State.routeShown, State.rf_sf_ne _ _ (by simp) (by simp) (.inr (.inr (by simp))), State.countMod,
      State.rf_sf_self _ _ _ (by simp) (by simp)]
    rfl
  · rw [State.routeShown, State.rf_sf_self _ _ _ (by simp) (by simp)]
    exact Nat.mod_eq_of_lt (by simp; omega)

/-- The events of a refusal (R45). -/
def State.routeRefused (s : State) (host : Bool) (idx res : Nat) : State :=
  let s := s.raise (if host then WEAVE_EVT_REFUSED_H else WEAVE_EVT_REFUSED_C)
  let s := if res = 10 then s.raise WEAVE_EVT_NOSPARE else s
  if host && res = 6 then (s.raise WEAVE_EVT_DENIED_H).privViol 3 idx else s

/-- A change accepted for the first boundary 1.0 µs on. -/
def State.routeAccepted (s : State) (host : Bool) (d : RouteDue) : State :=
  if host then { s with weave := { s.weave with dueH := s.weave.dueH ++ [d] } }
  else { s with weave := { s.weave with dueC := s.weave.dueC ++ [d] } }

theorem State.routeDone_eq (s : State) (host : Bool) (c : RouteCmd) (res : Nat) : s.routeDone host c res =
    if res = 0 then (s.routeShown (portIx host) res).routeAccepted host ⟨(s.routeShown (portIx host) res).boundaryAfter us1, c⟩
    else (s.routeShown (portIx host) res).routeRefused host c.idx res := rfl

theorem State.routeRefused_frame (s : State) (host : Bool) (idx res : Nat) :
    Frame [WEAVE_EVT, TRUST_EVT] [.trust] s (s.routeRefused host idx res) := by
  have hraise (t : State) {f : RegField} (hf : f.reg = WEAVE_EVT) : Frame [WEAVE_EVT, TRUST_EVT] [.trust] t (t.raise f) :=
    (Frame.refl _ _ t).step (Frame.raise t f) (by simp [hf])
  have hfirst := (hraise s (f := if host then WEAVE_EVT_REFUSED_H else WEAVE_EVT_REFUSED_C) (by cases host <;> rfl))
  have hsecond := (hfirst.step (hraise _ (f := WEAVE_EVT_NOSPARE) rfl)).ite (c := res = 10) hfirst
  exact ((hsecond.step (hraise _ (f := WEAVE_EVT_DENIED_H) rfl)).step (Frame.privViol _ _ _)).ite hsecond

theorem State.routeRefused_events (s : State) (host : Bool) (idx res : Nat) :
    (s.routeRefused host idx res).reg WEAVE_EVT = s.raised WEAVE_EVT ((if host then [WEAVE_EVT_REFUSED_H] else [WEAVE_EVT_REFUSED_C])
        ++ (if res = 10 then [WEAVE_EVT_NOSPARE] else []) ++ if host = true ∧ res = 6 then [WEAVE_EVT_DENIED_H] else []) := by
  have hviol (t : State) : (t.privViol 3 idx).reg WEAVE_EVT = t.reg WEAVE_EVT := (Frame.privViol t 3 idx).1 _ (by decide)
  unfold State.routeRefused
  by_cases h10 : res = 10
  · cases host <;> simp [h10, State.raised, State.reg_raise]
  · by_cases h6 : res = 6
    · cases host <;> simp [h6, State.raised, State.reg_raise, hviol]
    · cases host <;> simp [h10, h6, State.raised, State.reg_raise]

theorem State.routeRefused_trust (s : State) (host : Bool) (idx res : Nat) :
    (¬(host = true ∧ res = 6) → (s.routeRefused host idx res).reg TRUST_EVT = s.reg TRUST_EVT ∧ (s.routeRefused host idx res).trust = s.trust)
    ∧ (host = true ∧ res = 6 → (s.routeRefused host idx res).flag TRUST_EVT_PRIV_VIOL = true
      ∧ (s.routeRefused host idx res).trust.logSeq = s.trust.logSeq + 1) := by
  have hraise (t : State) (f : RegField) (hf : f.reg = WEAVE_EVT) : (t.raise f).reg TRUST_EVT = t.reg TRUST_EVT :=
    State.reg_raise_ne t (by rw [hf]; decide)
  have hfirst := hraise s (if host then WEAVE_EVT_REFUSED_H else WEAVE_EVT_REFUSED_C) (by cases host <;> rfl)
  unfold State.routeRefused
  refine ⟨fun h => ?_, fun ⟨hhost, hres⟩ => ?_⟩
  · dsimp only
    rw [if_neg (by simpa using h)]
    split
    · exact ⟨(hraise _ _ rfl).trans hfirst, rfl⟩
    · exact ⟨hfirst, rfl⟩
  · subst hhost hres
    exact ⟨State.flag_privViol _ _ _, congrArg Trust.logSeq (State.privViol_trust _ _ _)⟩

theorem State.routeAccepted_frame (s : State) (host : Bool) (d : RouteDue) : Frame [] [.weave] s (s.routeAccepted host d) :=
  ((Frame.refl _ _ s).step (Frame.withWeave _ _)).ite ((Frame.refl _ _ s).step (Frame.withWeave _ _))

theorem State.boundaryAfter_congr {s t : State} (hnow : t.now = s.now) (hsys : t.sys = s.sys) (lead : Nat) :
    t.boundaryAfter lead = s.boundaryAfter lead := by
  rw [State.boundaryAfter, State.boundaryAfter, hnow, hsys]

/-- What validating a command with result `res` leaves. -/
theorem State.routeDone_spec {i : Instr} {c : RouteCmd} {q : List RouteCmd} {res : Nat} (hle : res ≤ 10) (hlen : q.length < 64)
    (hexec : exec i s = .next ((s.setRouteQueue host q).routeDone host c res)) :
    let p := portIx host
    Does i s [WEAVE_XP_STAT p, WEAVE_EVT, TRUST_EVT] [.weave, .trust] fun t =>
      t.routeQueue host = q ∧ t.routeQueue (!host) = s.routeQueue (!host)
      ∧ t.weave = { s.weave with queueC := t.weave.queueC, queueH := t.weave.queueH, dueC := t.weave.dueC, dueH := t.weave.dueH }
      ∧ t.rf (WEAVE_XP_STAT_DEPTH p) = q.length
      ∧ t.rf (WEAVE_XP_STAT_SEQ p) = (s.rf (WEAVE_XP_STAT_SEQ p) + 1) % 65536
      ∧ t.rf (WEAVE_XP_STAT_RESULT p) = res
      ∧ (res = 0 → t.reg WEAVE_EVT = s.reg WEAVE_EVT
          ∧ (if host then t.weave.dueH = s.weave.dueH ++ [⟨s.boundaryAfter us1, c⟩] ∧ t.weave.dueC = s.weave.dueC
             else t.weave.dueC = s.weave.dueC ++ [⟨s.boundaryAfter us1, c⟩] ∧ t.weave.dueH = s.weave.dueH))
      ∧ (res ≠ 0 → t.weave.dueC = s.weave.dueC ∧ t.weave.dueH = s.weave.dueH
          ∧ t.reg WEAVE_EVT = s.raised WEAVE_EVT ((if host then [WEAVE_EVT_REFUSED_H] else [WEAVE_EVT_REFUSED_C])
              ++ (if res = 10 then [WEAVE_EVT_NOSPARE] else []) ++ if host = true ∧ res = 6 then [WEAVE_EVT_DENIED_H] else []))
      ∧ (¬(host = true ∧ res = 6) → t.reg TRUST_EVT = s.reg TRUST_EVT ∧ t.trust = s.trust)
      ∧ (host = true ∧ res = 6 → t.flag TRUST_EVT_PRIV_VIOL = true ∧ t.trust.logSeq = s.trust.logSeq + 1) := by
  obtain ⟨hown, hother, -⟩ := s.routeQueue_setRouteQueue host q
  obtain ⟨hdepth, hseq, -⟩ := s.rf_setRouteQueue host (q := q) (by omega)
  obtain ⟨hshownDepth, hshownSeq, hshownRes⟩ := State.rf_routeShown (s.setRouteQueue host q) (portIx host) hle
  rw [hdepth] at hshownDepth
  rw [hseq] at hshownSeq
  have hframe : Frame [WEAVE_XP_STAT (portIx host)] [.weave] s ((s.setRouteQueue host q).routeShown (portIx host) res) :=
    (s.setRouteQueue_frame host q).step (Frame.countMod _ _) |>.step (Frame.sf _ _ _)
  have hevt : ((s.setRouteQueue host q).routeShown (portIx host) res).reg WEAVE_EVT = s.reg WEAVE_EVT :=
    hframe.1 _ (by cases host <;> decide)
  have htrustEvt : ((s.setRouteQueue host q).routeShown (portIx host) res).reg TRUST_EVT = s.reg TRUST_EVT :=
    hframe.1 _ (by cases host <;> decide)
  have htrust : ((s.setRouteQueue host q).routeShown (portIx host) res).trust = s.trust := hframe.2 .trust (by simp)
  have hweave : ((s.setRouteQueue host q).routeShown (portIx host) res).weave = (s.setRouteQueue host q).weave := rfl
  rw [State.routeDone_eq] at hexec
  generalize (s.setRouteQueue host q).routeShown (portIx host) res = t at hexec hframe hevt htrustEvt htrust hweave hshownDepth hshownSeq hshownRes
  by_cases hzero : res = 0
  · rw [if_pos hzero, State.boundaryAfter_congr (hframe.2 .now (by simp)) (hframe.2 .sys (by simp))] at hexec
    have hacc := t.routeAccepted_frame host ⟨s.boundaryAfter us1, c⟩
    refine ⟨_, hexec, (hframe.mono (by simp) (by simp)).step hacc, ?_⟩
    refine ⟨?_, ?_, ?_, (hacc.rf (by simp)).trans hshownDepth, (hacc.rf (by simp)).trans hshownSeq,
      (hacc.rf (by simp)).trans hshownRes, fun _ => ⟨(hacc.1 _ (by simp)).trans hevt, ?_⟩, fun h => absurd hzero h,
      fun _ => ⟨(hacc.1 _ (by simp)).trans htrustEvt, (hacc.2 .trust (by simp)).trans htrust⟩, fun h => by omega⟩
    all_goals cases host <;> simp_all [State.routeAccepted, State.routeQueue, State.setRouteQueue, State.sf, State.setReg]
  · rw [if_neg hzero] at hexec
    have href := t.routeRefused_frame host c.idx res
    have hsame : (t.routeRefused host c.idx res).weave = (s.setRouteQueue host q).weave := (href.2 .weave (by simp)).trans hweave
    have hevents := t.routeRefused_events host c.idx res
    obtain ⟨hkept, hlogged⟩ := t.routeRefused_trust host c.idx res
    refine ⟨_, hexec, (hframe.mono (by simp) (by simp)).trans (href.mono (by simp) (by simp)), ?_⟩
    refine ⟨?_, ?_, ?_, (href.rf (by cases host <;> decide)).trans hshownDepth, (href.rf (by cases host <;> decide)).trans hshownSeq,
      (href.rf (by cases host <;> decide)).trans hshownRes, fun h => absurd h hzero, fun _ => ⟨?_, ?_, ?_⟩, fun h => ?_, fun h => ?_⟩
    · rw [State.routeQueue, hsame]; exact hown
    · rw [State.routeQueue, hsame]; exact hother
    · rw [hsame]; cases host <;> rfl
    · rw [hsame]; cases host <;> rfl
    · rw [hsame]; cases host <;> rfl
    · rw [hevents, State.raised, hevt]; rfl
    · exact ⟨(hkept h).1.trans htrustEvt, (hkept h).2.trans htrust⟩
    · exact ⟨(hlogged h).1, (hlogged h).2.trans (by rw [htrust])⟩

/-- Settles O5: the oldest command is taken, SEQ, DEPTH and RESULT show it, and its result accepts or refuses it. -/
theorem weaveCommandValidation : Obligations.WeaveCommandValidation := by
  intro host s
  have hexec : exec (.weaveCmdValidate host) s = .next (match s.routeQueue host with
    | [] => s
    | c :: q => (s.setRouteQueue host q).routeDone host c (s.routeResult host c)) := rfl
  refine ⟨fun hnil => by rw [hexec, hnil], fun c q hcons hlen => ⟨?_, fun hrun => ?_, fun hrun hop => ?_, fun hrun hop => ?_⟩⟩
  · rw [hcons] at hexec
    exact State.routeDone_spec (s.routeResult_le host c) hlen hexec
  · simp [State.routeResult, hrun]
  · simp [State.routeResult, hrun, State.checkRoute, hop]
  · rcases hop with ⟨k, hop⟩ | ⟨hhost, hop⟩
    · simp [State.routeResult, hrun, State.checkRoute, hop]
    · simp [State.routeResult, hrun, State.checkRoute, hop, hhost]

end Sys2Proof.Machine
end

section
/-! SUPPORT. Proofs/WeaveWrites.lean: writes of the Weave's filter, generator, meter, RUN and group registers (R53, R57, R60,
R61, R68). -/
-- The proofs of this file are elaborated one after another: side by side their threads exceed the memory of the check.
set_option Elab.async false
namespace Sys2Proof.Machine

open Reg

variable {s : State} {a : Agent}

/-! ### The projected table does not look at the access in progress -/

/-- A state with another access in progress. -/
def State.onBus (s : State) (b : Bus) : State := { s with bus := b }

theorem State.ok_eq_onBus (s : State) (v : Word) : s.ok v = s.onBus (s.ok v).bus := rfl

section
variable (s : State) (b : Bus)

theorem State.ite_onBus {c : Prop} [Decidable c] (x y : State) : (if c then x.onBus b else y.onBus b) = (if c then x else y).onBus b :=
  (apply_ite (fun t : State => t.onBus b) c x y).symm

theorem State.entry_onBus (i : Nat) : (s.onBus b).entry i = s.entry i := rfl
theorem State.setEntry_onBus (i : Nat) (e : Entry) : (s.onBus b).setEntry i e = (s.setEntry i e).onBus b := rfl

theorem State.chain_onBus (n i : Nat) : (s.onBus b).chain n i = s.chain n i := by
  induction n generalizing i with
  | zero => rfl
  | succ n ih => rw [State.chain, State.chain, ih]; rfl

theorem State.chainOf_onBus (i : Nat) : (s.onBus b).chainOf i = s.chainOf i := State.chain_onBus s b 4 i
theorem State.newest_onBus (i : Nat) : (s.onBus b).newest i = s.newest i := by rw [State.newest, State.newest, State.chainOf_onBus]
theorem State.targetOf_onBus (m : Image) : (s.onBus b).targetOf m = s.targetOf m := rfl
theorem State.freeSpare_onBus : (s.onBus b).freeSpare = s.freeSpare := rfl
theorem State.rampEntry_onBus (i t code : Nat) : (s.onBus b).rampEntry i t code = (s.rampEntry i t code).onBus b := rfl

/-- A fold of updates that each let the access be. -/
theorem State.foldl_onBus {α : Type} {f g : State → α → State} (l : List α) (h : ∀ u x, g (u.onBus b) x = (f u x).onBus b) :
    l.foldl g (s.onBus b) = (l.foldl f s).onBus b := List.foldl_hom (State.onBus · b) (fun u x => h u x)

theorem State.rampChain_onBus (i t code : Nat) : (s.onBus b).rampChain i t code = (s.rampChain i t code).onBus b := by
  unfold State.rampChain
  rw [State.newest_onBus, State.chainOf_onBus]
  exact State.foldl_onBus s b _ fun u j => State.rampEntry_onBus u b _ _ _

theorem State.freeMembers_onBus (i : Nat) : (s.onBus b).freeMembers i = (s.freeMembers i).onBus b := by
  unfold State.freeMembers
  rw [State.chainOf_onBus]
  exact State.foldl_onBus s b _ fun u j => State.ite_onBus b u (u.setEntry j { Entry.empty with cur := (u.entry j).cur })

theorem State.codeChain_onBus (i code : Nat) : (s.onBus b).codeChain i code = (s.codeChain i code).onBus b := by
  unfold State.codeChain
  rw [State.chainOf_onBus]
  exact State.foldl_onBus s b _ fun u j => rfl

theorem State.fadeOut_onBus (i : Nat) (m : Image) : (s.onBus b).fadeOut i m = (s.fadeOut i m).onBus b := by
  unfold State.fadeOut
  rw [State.rampChain_onBus]
  rfl

theorem State.changeTo_onBus (i : Nat) (m : Image) (succEn : Bool) : (s.onBus b).changeTo i m succEn = (s.changeTo i m succEn).onBus b := by
  unfold State.changeTo
  dsimp only
  simp only [State.newest_onBus, State.entry_onBus, State.setEntry_onBus, State.rampChain_onBus, State.targetOf_onBus,
    State.freeSpare_onBus, State.fadeOut_onBus, State.rampEntry_onBus]
  cases s.freeSpare <;> simp only [State.ite_onBus]

theorem State.muteTo_onBus (i : Nat) (m : Bool) (code : Nat) : (s.onBus b).muteTo i m code = (s.muteTo i m code).onBus b := by
  unfold State.muteTo
  dsimp only
  rw [State.entry_onBus]
  split
  · split <;> rfl
  · rw [State.newest_onBus, State.entry_onBus, State.setEntry_onBus, State.codeChain_onBus, State.rampChain_onBus, State.targetOf_onBus]

theorem State.applyRoute_onBus (c : RouteCmd) : (s.onBus b).applyRoute c = (s.applyRoute c).onBus b := by
  unfold State.applyRoute
  dsimp only
  cases c.op with
  | nop => rfl
  | reserved k => rfl
  | set => dsimp only; rw [State.setEntry_onBus, State.targetOf_onBus, State.rampEntry_onBus]
  | change => exact State.changeTo_onBus _ _ _ _ _
  | remove =>
    dsimp only
    rw [State.entry_onBus, State.setEntry_onBus, State.rampChain_onBus, State.entry_onBus, State.setEntry_onBus, State.ite_onBus]
  | mute => exact State.muteTo_onBus _ _ _ _ _
  | unmute => exact State.muteTo_onBus _ _ _ _ _
  | cut =>
    dsimp only
    rw [State.newest_onBus, State.freeMembers_onBus, State.entry_onBus, State.entry_onBus, State.targetOf_onBus, State.setEntry_onBus]

theorem State.retireEntry_onBus (force : Bool) (i : Nat) : (s.onBus b).retireEntry force i = (s.retireEntry force i).onBus b := by
  have hspare : (s.onBus b).spare i = s.spare i := rfl
  unfold State.retireEntry
  dsimp only
  simp only [State.newest_onBus, State.chainOf_onBus, State.entry_onBus, hspare, State.freeMembers_onBus, State.setEntry_onBus,
    State.targetOf_onBus, State.rampEntry_onBus]
  cases (s.entry i).waiting <;> simp only [State.ite_onBus]

theorem State.projectStep_onBus (r : Nat) (mid : List RouteCmd) (skip : Option Nat) :
    (s.onBus b).projectStep r mid skip = (s.projectStep r mid skip).onBus b := by
  have hretire : (s.onBus b).retireAll false = (s.retireAll false).onBus b :=
    State.foldl_onBus s b _ fun u i => State.retireEntry_onBus u b false i
  unfold State.projectStep
  dsimp only
  rw [hretire]
  exact State.foldl_onBus _ b _ fun u c => State.applyRoute_onBus u b c

theorem State.advRoutes_onBus (k : Nat) : (s.onBus b).advRoutes k = (s.advRoutes k).onBus b :=
  State.foldl_onBus s b _ fun _ _ => rfl

theorem State.overload_onBus (sink : Nat) : (s.onBus b).overload sink = s.overload sink := by
  have hload (i : Nat) : (s.onBus b).chainLoad sink i = s.chainLoad sink i := by
    unfold State.chainLoad
    rw [State.chainOf_onBus, State.newest_onBus]
    rfl
  unfold State.overload State.load4
  simp only [hload]
  rfl

theorem State.hpfOverloads_onBus (i : Nat) (v : Word) : (s.onBus b).hpfOverloads i v = s.hpfOverloads i v := by
  have hproj : (((s.onBus b).advRoutes (s.sys.n - s.sys.pass)).projectStep (s.sys.roundNo + 1) [] none).setReg (WEAVE_HPF i) v
      = (((s.advRoutes (s.sys.n - s.sys.pass)).projectStep (s.sys.roundNo + 1) [] none).setReg (WEAVE_HPF i) v).onBus b := by
    rw [State.advRoutes_onBus, State.projectStep_onBus]; rfl
  unfold State.hpfOverloads
  dsimp only
  rw [show (s.onBus b).sys = s.sys from rfl, hproj]
  simp only [State.overload_onBus]
  rfl

end

/-! ### WEAVE_HPF (R57) -/

/-- The registers that no host window shows, and whose paths reach agents 0 to 2 alone. -/
def Boxed (reg : Nat) : Prop :=
  0x60000 ≤ reg ∧ reg < 0x1000000 ∧ (reg < 0x100180 ∨ 0x100198 ≤ reg) ∧ (reg < 0x500280 ∨ 0x5002AC ≤ reg) ∧ reg ≠ 0x700018 ∧ reg ≠ 0x70001C

theorem Boxed.hostWindow {reg n : Nat} {w : Bool} (h : Boxed reg) (hn : n = 3 ∨ n = 4) : hostWindow n reg w = none := by
  obtain ⟨hlow, hhigh, hweave, hnet, hgo, hstat⟩ := h
  unfold Sys2Proof.Machine.hostWindow
  have hbox : (if n = 3 then 20 else 24) ≤ 24 := by split <;> decide
  have hn4 : n ≤ 4 := by omega
  generalize (if n = 3 then 20 else 24) = mb at hbox ⊢
  simp only [TRUST_CAP_CTL, TRUST_CAP_STAT, PWR_RECOV, MBOX_SEND, MBOX_SEND_STAT, MBOX_RELEASE, MBOX_DB, MBOX_MASK, MBOX_ACK,
    MBOX_ACK_MASK, LOCK, LOCK_PEEK]
  repeat rw [if_neg (by omega)]

theorem Boxed.agent {reg : Nat} {w : Bool} (h : Boxed reg) (hr : s.reaches a reg w = true) : a.val ≤ 2 := by
  obtain ⟨-, hpath, -⟩ := State.reaches_iff.mp hr
  by_contra hbig
  unfold State.pathErr at hpath
  by_cases hhost : a.val = 3 ∨ a.val = 4
  · simp [hhost, h.hostWindow hhost] at hpath
  · have hclosed : regPath a.val reg w = false := by
      obtain ⟨hlow, hhigh, -⟩ := h
      have hbox : (decide (0x40000 ≤ reg) && decide (reg < 0x50000)) = false := by simp; omega
      have hlock : (decide (0x50000 ≤ reg) && decide (reg < 0x60000)) = false := by simp; omega
      unfold regPath
      rw [if_neg (by omega), hbox, hlock]
      simp; omega
    simp only [hhost, false_and, ↓reduceIte, hclosed, Bool.not_false, Bool.or_true] at hpath
    split at hpath <;> simp at hpath

theorem weaveHpfWrite_spec (i : Fin 512) (v : Word) (hr : s.reaches a (WEAVE_HPF i.val) true = true) :
    ((hpfReserved v || s.hpfOverloads i.val v) = false → Does (.weaveHpfWrite a i v) s [WEAVE_HPF i.val] [.bus] fun t =>
      t.bus.err = false ∧ t.reg (WEAVE_HPF i.val) = v)
    ∧ ((hpfReserved v || s.hpfOverloads i.val v) = true → Errs (.weaveHpfWrite a i v) s [WEAVE_EVT] fun t =>
      t.reg WEAVE_EVT = s.raised WEAVE_EVT [WEAVE_EVT_HPF_REFUSED]) := by
  have hagent : ¬(Nat.blt 2 a.val = true) := by rw [Nat.blt_eq]; exact Nat.not_lt.mpr (Boxed.agent (by unfold Boxed WEAVE_HPF; omega) hr)
  have hblock : (s.ok 0#32).hpfWrite a.val i.val v = if hpfReserved v || s.hpfOverloads i.val v then
      ((s.ok 0#32).raise WEAVE_EVT_HPF_REFUSED).err else ((s.ok 0#32).setReg (WEAVE_HPF i.val) v).ok 0#32 := by
    unfold State.hpfWrite
    rw [if_neg hagent, State.ok_eq_onBus, State.hpfOverloads_onBus]
  refine ⟨fun h => ?_, fun h => ?_⟩
  · refine Does.of_write rfl hr (hblock.trans (if_neg (by simp [h]))) rfl ?_ ⟨rfl, ?_⟩
    · exact (Frame.refl _ _ s).step (Frame.ok _ _) |>.step (Frame.setReg _ _ _) |>.step (Frame.ok _ _)
    · exact State.reg_setReg_self _ _ _
  · refine Errs.of_write rfl hr (hblock.trans (if_pos h)) rfl ?_ fun t ht => ?_
    · exact (Frame.refl _ _ s).step (Frame.ok _ _) |>.step (Frame.raise _ _) |>.step (Frame.err _)
    · rw [ht.1 WEAVE_EVT (by decide), State.reg_err, State.reg_raise_self]
      rfl

/-! ### Generators and meters (R60, R61) -/

theorem State.gen_setGen (s : State) (g j : Nat) (x : Gen) : (s.setGen g x).gen j = if j = g then x else s.gen j := mget_mset _ _ _ _ _

theorem State.meter_setMeter (s : State) (m j : Nat) (x : Meter) : (s.setMeter m x).meter j = if j = m then x else s.meter j :=
  mget_mset _ _ _ _ _

/-- EN and TYPE of a generator written. -/
def State.genTyped (s : State) (g : Nat) (v : Word) : State :=
  (s.sf (WEAVE_GEN_CFG_EN g) (if bitAt v 31 then 1 else 0)).sf (WEAVE_GEN_CFG_TYPE g) (bitsOf v 30 28)

theorem State.genCfgWrite_below (s : State) {g : Nat} {v : Word} (hg : g < 48) (hty : bitsOf v 30 28 ≤ 2) : s.genCfgWrite g v =
    (if bitAt v 31 && (!s.flag (WEAVE_GEN_CFG_EN g) || s.rf (WEAVE_GEN_CFG_TYPE g) != bitsOf v 30 28) && bitsOf v 30 28 == 2 then
      (s.genTyped g v).setGen g { s.gen g with lfsr := (s.reg (WEAVE_GEN_SEED g)).toNat } else s.genTyped g v).ok 0#32 := by
  have hseed : (s.genTyped g v).reg (WEAVE_GEN_SEED g) = s.reg (WEAVE_GEN_SEED g) := by
    rw [State.genTyped, State.reg_sf_ne _ (by simp) _, State.reg_sf_ne _ (by simp) _]
  have hgen : (s.genTyped g v).gen g = s.gen g := rfl
  unfold State.genCfgWrite
  dsimp only
  rw [if_neg (by omega), if_neg (by omega), ← State.genTyped, hseed, hgen]

theorem State.genTyped_reads (s : State) (g : Nat) (v : Word) : (s.genTyped g v).flag (WEAVE_GEN_CFG_EN g) = bitAt v 31
    ∧ (s.genTyped g v).rf (WEAVE_GEN_CFG_TYPE g) = bitsOf v 30 28 := by
  refine ⟨?_, ?_⟩
  · rw [State.flag, State.genTyped, State.rf_sf_ne _ _ (by simp) (by simp) (by simp), State.rf_sf_self _ _ _ (by simp) (by simp)]
    cases bitAt v 31 <;> rfl
  · rw [State.genTyped, State.rf_sf_self _ _ _ (by simp) (by simp)]
    exact Nat.mod_eq_of_lt (bitsOf_lt v 30 28)

theorem weaveGenCfgWrite_spec (g : Fin 64) (v : Word) (hr : s.reaches a (WEAVE_GEN_CFG g.val) true = true) :
    (g.val < 48 → bitsOf v 30 28 ≤ 2 →
      Does (.weaveGenCfgWrite a g v) s [WEAVE_GEN_CFG g.val] [.weave, .bus] fun t => t.bus.err = false
        ∧ t.flag (WEAVE_GEN_CFG_EN g.val) = bitAt v 31 ∧ t.rf (WEAVE_GEN_CFG_TYPE g.val) = bitsOf v 30 28
        ∧ t.weave = { s.weave with gens := t.weave.gens } ∧ (∀ j, j ≠ g.val → t.gen j = s.gen j)
        ∧ t.gen g.val = if bitAt v 31 = true ∧ bitsOf v 30 28 = 2 ∧ (s.flag (WEAVE_GEN_CFG_EN g.val) = false
            ∨ s.rf (WEAVE_GEN_CFG_TYPE g.val) ≠ 2)
          then { s.gen g.val with lfsr := (s.reg (WEAVE_GEN_SEED g.val)).toNat } else s.gen g.val)
    ∧ (g.val < 48 → 2 < bitsOf v 30 28 → Errs (.weaveGenCfgWrite a g v) s [] fun _ => True)
    ∧ (48 ≤ g.val → Does (.weaveGenCfgWrite a g v) s [WEAVE_GEN_CFG g.val] [.bus] fun t => t.bus.err = false
        ∧ t.flag (WEAVE_GEN_CFG_EN g.val) = bitAt v 31
        ∧ t.rf (WEAVE_GEN_CFG_TYPE g.val) = s.rf (WEAVE_GEN_CFG_TYPE g.val)) := by
  refine ⟨fun hg hty => ?_, fun hg hty => ?_, fun hg => ?_⟩
  · have htyped : Frame [WEAVE_GEN_CFG g.val] [.weave, .bus] s ((s.ok 0#32).genTyped g.val v) :=
      (Frame.refl _ _ s).step (Frame.ok _ _) |>.step (Frame.sf _ _ _) |>.step (Frame.sf _ _ _)
    have hreads := (s.ok 0#32).genTyped_reads g.val v
    have hnoise : (bitAt v 31 && (!(s.ok 0#32).flag (WEAVE_GEN_CFG_EN g.val) || (s.ok 0#32).rf (WEAVE_GEN_CFG_TYPE g.val) != bitsOf v 30 28)
        && bitsOf v 30 28 == 2) = true ↔ bitAt v 31 = true ∧ bitsOf v 30 28 = 2 ∧ (s.flag (WEAVE_GEN_CFG_EN g.val) = false
          ∨ s.rf (WEAVE_GEN_CFG_TYPE g.val) ≠ 2) := by
      rw [show (s.ok 0#32).flag (WEAVE_GEN_CFG_EN g.val) = s.flag (WEAVE_GEN_CFG_EN g.val) from rfl,
        show (s.ok 0#32).rf (WEAVE_GEN_CFG_TYPE g.val) = s.rf (WEAVE_GEN_CFG_TYPE g.val) from rfl]
      by_cases h2 : bitsOf v 30 28 = 2 <;> simp [h2]
    refine Does.of_write rfl hr ((s.ok 0#32).genCfgWrite_below hg hty) rfl ?_ ⟨rfl, ?_⟩
    · exact ((htyped.step (Frame.withWeave _ _)).ite htyped).step (Frame.ok _ _)
    · by_cases h : bitAt v 31 = true ∧ bitsOf v 30 28 = 2 ∧ (s.flag (WEAVE_GEN_CFG_EN g.val) = false ∨ s.rf (WEAVE_GEN_CFG_TYPE g.val) ≠ 2)
      · rw [if_pos (hnoise.mpr h), if_pos h]
        refine ⟨hreads.1, hreads.2, rfl, fun j hj => ?_, ?_⟩
        · exact (State.gen_setGen _ _ _ _).trans (if_neg hj)
        · exact (State.gen_setGen _ _ _ _).trans (if_pos rfl)
      · rw [if_neg (mt hnoise.mp h), if_neg h]
        exact ⟨hreads.1, hreads.2, rfl, fun _ _ => rfl, rfl⟩
  · refine Errs.of_write rfl hr (g := (s.ok 0#32).err) ?_ rfl ?_ fun _ _ => trivial
    · unfold State.genCfgWrite
      dsimp only
      rw [if_neg (by omega), if_pos hty]
    · exact (Frame.refl _ _ s).step (Frame.ok _ _) |>.step (Frame.err _)
  · refine Does.of_write rfl hr (if_pos hg) rfl ?_ ⟨rfl, ?_, ?_⟩
    · exact (Frame.refl _ _ s).step (Frame.ok _ _) |>.step (Frame.setReg _ _ _) |>.step (Frame.ok _ _)
    · rw [State.flag, State.rf, State.reg_ok, State.reg_setReg_self, bitsOf_setBits_self _ _ (by decide) (by decide)]
      cases bitAt v 31 <;> rfl
    · rw [State.rf, State.reg_ok, State.reg_setReg_self, bitsOf_setBits_ne _ _ (by decide) (by decide) (by simp)]
      rfl

/-- A meter's WIN written, and PEAK and MS with CLR. -/
def State.mtrTaken (s : State) (m : Nat) (v : Word) : State :=
  if bitAt v 31 then ((s.sf (WEAVE_MTR_CFG_WIN m) (bitsOf v 3 0)).setReg (WEAVE_MTR_PEAK m) 0#32).setReg (WEAVE_MTR_MS m) 0#32
  else s.sf (WEAVE_MTR_CFG_WIN m) (bitsOf v 3 0)

theorem State.mtrTaken_frame (s : State) (m : Nat) (v : Word) :
    Frame [WEAVE_MTR_CFG m, WEAVE_MTR_PEAK m, WEAVE_MTR_MS m] [] s (s.mtrTaken m v) :=
  (((Frame.refl _ _ s).step (Frame.sf _ _ _)).step (Frame.setReg _ _ _) |>.step (Frame.setReg _ _ _)).ite
    ((Frame.refl _ _ s).step (Frame.sf _ _ _))

theorem State.mtrTaken_reads (s : State) (m : Nat) (v : Word) : (s.mtrTaken m v).rf (WEAVE_MTR_CFG_WIN m) = bitsOf v 3 0
    ∧ ((s.mtrTaken m v).reg (WEAVE_MTR_PEAK m) = if bitAt v 31 then 0#32 else s.reg (WEAVE_MTR_PEAK m))
    ∧ ((s.mtrTaken m v).reg (WEAVE_MTR_MS m) = if bitAt v 31 then 0#32 else s.reg (WEAVE_MTR_MS m)) := by
  have hwin : (s.sf (WEAVE_MTR_CFG_WIN m) (bitsOf v 3 0)).rf (WEAVE_MTR_CFG_WIN m) = bitsOf v 3 0 :=
    (State.rf_sf_self _ _ _ (by simp) (by simp)).trans (Nat.mod_eq_of_lt (bitsOf_lt v 3 0))
  unfold State.mtrTaken
  cases bitAt v 31
  · exact ⟨hwin, State.reg_sf_ne _ (by simp) _, State.reg_sf_ne _ (by simp) _⟩
  · refine ⟨?_, ?_, State.reg_setReg_self _ _ _⟩
    · exact ((State.rf_setReg_ne _ (by simp) _).trans (State.rf_setReg_ne _ (by simp) _)).trans hwin
    · exact (State.reg_setReg_ne _ (by simp) _).trans (State.reg_setReg_self _ _ _)

theorem weaveMtrClr_spec (m : Fin 64) (v : Word) (hr : s.reaches a (WEAVE_MTR_CFG m.val) true = true) :
    Does (.weaveMtrClr a m v) s [WEAVE_MTR_CFG m.val, WEAVE_MTR_PEAK m.val, WEAVE_MTR_MS m.val] [.weave, .bus]
      fun t => t.bus.err = false ∧ t.rf (WEAVE_MTR_CFG_WIN m.val) = bitsOf v 3 0
        ∧ (t.reg (WEAVE_MTR_PEAK m.val) = if bitAt v 31 then 0#32 else s.reg (WEAVE_MTR_PEAK m.val))
        ∧ (t.reg (WEAVE_MTR_MS m.val) = if bitAt v 31 then 0#32 else s.reg (WEAVE_MTR_MS m.val))
        ∧ t.weave = { s.weave with meters := t.weave.meters } ∧ (∀ j, j ≠ m.val → t.meter j = s.meter j)
        ∧ t.meter m.val = if bitAt v 31 = true ∨ bitsOf v 3 0 ≠ s.rf (WEAVE_MTR_CFG_WIN m.val) then Meter.empty
            else s.meter m.val := by
  have hblock : (s.ok 0#32).mtrCfgWrite m.val v = (if bitAt v 31 || bitsOf v 3 0 != s.rf (WEAVE_MTR_CFG_WIN m.val) then
      ((s.ok 0#32).mtrTaken m.val v).setMeter m.val Meter.empty else (s.ok 0#32).mtrTaken m.val v).ok 0#32 := rfl
  have hdrop : (bitAt v 31 || bitsOf v 3 0 != s.rf (WEAVE_MTR_CFG_WIN m.val)) = true ↔
      bitAt v 31 = true ∨ bitsOf v 3 0 ≠ s.rf (WEAVE_MTR_CFG_WIN m.val) := by simp
  have htaken : Frame [WEAVE_MTR_CFG m.val, WEAVE_MTR_PEAK m.val, WEAVE_MTR_MS m.val] [.weave, .bus] s ((s.ok 0#32).mtrTaken m.val v) :=
    ((Frame.refl _ _ s).step (Frame.ok s 0#32)).step (State.mtrTaken_frame _ _ _)
  have hweave : ((s.ok 0#32).mtrTaken m.val v).weave = s.weave := (State.mtrTaken_frame (s.ok 0#32) m.val v).2 .weave (by simp)
  obtain ⟨hwin, hpeak, hms⟩ := State.mtrTaken_reads (s.ok 0#32) m.val v
  refine Does.of_write rfl hr hblock rfl ?_ ⟨rfl, ?_⟩
  · exact ((htaken.step (Frame.withWeave _ _)).ite htaken).step (Frame.ok _ _)
  · by_cases h : bitAt v 31 = true ∨ bitsOf v 3 0 ≠ s.rf (WEAVE_MTR_CFG_WIN m.val)
    · rw [if_pos (hdrop.mpr h), if_pos h]
      refine ⟨hwin, hpeak, hms, ?_, fun j hj => ?_, ?_⟩
      · rw [← hweave]; rfl
      · exact ((State.meter_setMeter _ _ _ _).trans (if_neg hj)).trans (by rw [State.meter, hweave]; rfl)
      · exact (State.meter_setMeter _ _ _ _).trans (if_pos rfl)
    · rw [if_neg (mt hdrop.mp h), if_neg h]
      generalize (s.ok 0#32).mtrTaken m.val v = t at hweave hwin hpeak hms ⊢
      refine ⟨hwin, hpeak, hms, ?_, fun j _ => by rw [State.meter, State.ok, hweave]; rfl, by rw [State.meter, State.ok, hweave]; rfl⟩
      rw [State.ok, hweave]

/-! ### WEAVE_CTL (R68) -/

theorem weaveRunWrite_spec (v : Word) (hr : s.reaches a WEAVE_CTL true = true) :
    ((bitAt v 0 && s.runsBad) = false → Does (.weaveRunWrite a v) s [WEAVE_CTL] [.bus] fun t => t.bus.err = false
      ∧ t.flag WEAVE_CTL_RUN = bitAt v 0)
    ∧ ((bitAt v 0 && s.runsBad) = true → Errs (.weaveRunWrite a v) s [] fun _ => True) := by
  have hblock : (s.ok 0#32).weaveRunWrite v = if bitAt v 0 && s.runsBad then (s.ok 0#32).err
    else ((s.ok 0#32).sf WEAVE_CTL_RUN (bitsOf v 0 0)).ok 0#32 := rfl
  refine ⟨fun h => ?_, fun h => ?_⟩
  · refine Does.of_write rfl hr (hblock.trans (if_neg (by simp [h]))) rfl ?_ ⟨rfl, ?_⟩
    · exact (Frame.refl _ _ s).step (Frame.ok _ _) |>.step (Frame.sf _ _ _) |>.step (Frame.ok _ _)
    · have hfield : ((s.ok 0#32).sf WEAVE_CTL_RUN (bitsOf v 0 0)).rf WEAVE_CTL_RUN = bitsOf v 0 0 % 2 ^ (0 + 1 - 0) :=
        State.rf_sf_self _ _ _ (by simp) (by simp)
      rw [bitAt_eq_bitsOf, State.flag, State.rf, State.reg_ok, ← State.rf, hfield, Nat.mod_eq_of_lt (bitsOf_lt v 0 0)]
  · refine Errs.of_write rfl hr (hblock.trans (if_pos h)) rfl ?_ fun _ _ => trivial
    exact (Frame.refl _ _ s).step (Frame.ok _ _) |>.step (Frame.err _)

/-! ### Alarm groups (R53) -/

theorem State.foldl_setEntry_reg {α : Type} (l : List α) {f : State → α → State} (hf : ∀ u x, (f u x).regs = u.regs) (s : State) :
    (l.foldl f s).regs = s.regs := by
  induction l generalizing s with
  | nil => rfl
  | cons x l ih => rw [List.foldl_cons, ih, hf]

/-- The group vector changed by the writes in their order (R53). -/
def State.groupsPut (s : State) (l : List (Bool × Nat)) : State :=
  l.foldl (fun s w => if w.1 then s.setBit (WEAVE_AGRP_STATE (w.2 / 32)) (w.2 % 32) else s.clrBit (WEAVE_AGRP_STATE (w.2 / 32)) (w.2 % 32)) s

theorem State.applyGroups_regs (s : State) : s.applyGroups.regs = (s.groupsPut s.weave.agrpPend).regs := by
  unfold State.applyGroups
  refine State.foldl_setEntry_reg _ (fun u x => ?_) _
  exact (apply_ite State.regs _ _ _).trans (ite_self _)

/-- The last write of a group decides its bit. -/
theorem State.bit_groupsPut_concat (s : State) (l : List (Bool × Nat)) (set : Bool) (grp : Nat) :
    (s.groupsPut (l ++ [(set, grp)])).bit (WEAVE_AGRP_STATE (grp / 32)) (grp % 32) = set := by
  rw [State.groupsPut, List.foldl_append]
  generalize l.foldl _ s = t
  have hbit : grp % 32 < 32 := Nat.mod_lt _ (by decide)
  cases set
  · show (t.clrBit _ _).bit _ _ = false
    rw [State.clrBit, State.bit, State.reg_setReg_self, bitAt_setBits _ _ _ _ hbit, if_pos rfl]
    rfl
  · show (t.setBit _ _).bit _ _ = true
    rw [State.bit_setBit _ _ _ hbit]
    simp

theorem agrpWrite_spec {i : Instr} {reg grp : Nat} {set : Bool} (hreg : reg = WEAVE_AGRP_SET ∨ reg = WEAVE_AGRP_CLR)
    (hx : exec i s = .next (s.access a.val reg true (BitVec.ofNat 32 grp) fun s => s.agrpWrite set a.val grp)) :
    (a = 1 → s.reaches a reg true = true → Does i s [] [.weave, .bus] fun t => t.bus.err = false
      ∧ t.weave = { s.weave with agrpPend := s.weave.agrpPend ++ [(set, grp)] }
      ∧ t.applyGroups.bit (WEAVE_AGRP_STATE (grp / 32)) (grp % 32) = set)
    ∧ (a ≠ 1 → s.accepted a.val = true → Does i s (WEAVE_EVT :: TRUST_EVT :: errRegs) [.bus, .trust] fun t =>
        t.bus = ⟨true, 0#32⟩ ∧ t.reg WEAVE_EVT = s.raised WEAVE_EVT [WEAVE_EVT_AGRP_DENIED]) := by
  have hwrite : exec i s = .next (s.regWrite a reg (BitVec.ofNat 32 grp) fun s => s.agrpWrite set a.val grp) := hx
  refine ⟨fun ha hr => ?_, fun ha hacc => ?_⟩
  · subst ha
    refine Does.of_write hwrite hr (t := ((s.ok 0#32).groupWrite set grp).ok 0#32) rfl rfl ?_ ⟨rfl, rfl, ?_⟩
    · exact (Frame.refl _ _ s).step (Frame.ok _ _) |>.step (Frame.withWeave _ _) |>.step (Frame.ok _ _)
    · rw [State.bit, State.reg, State.applyGroups_regs]
      exact State.bit_groupsPut_concat _ _ _ _
  · have hraised (t : State) (k : ErrKind) (addr : Nat) (hframe : Frame [WEAVE_EVT] [.bus] s t)
        (hevt : t.reg WEAVE_EVT = s.raised WEAVE_EVT [WEAVE_EVT_AGRP_DENIED]) :
        Frame (WEAVE_EVT :: TRUST_EVT :: errRegs) [.bus, .trust] s (t.errRec a.val k true addr)
          ∧ (t.errRec a.val k true addr).bus = ⟨true, 0#32⟩
          ∧ (t.errRec a.val k true addr).reg WEAVE_EVT = s.raised WEAVE_EVT [WEAVE_EVT_AGRP_DENIED] := by
      have hrec := State.errRec_frame_all t a.val k true addr
      exact ⟨(hframe.mono (by simp) (by simp)).step hrec fun _ h => List.mem_cons_of_mem _ h, State.errRec_bus _ _ _ _ _,
        (hrec.1 WEAVE_EVT (by decide)).trans hevt⟩
    cases hpath : s.pathErr a.val reg true with
    | some k =>
      rw [State.access_refused hacc hpath, State.deniedHook, if_pos ⟨rfl, hreg⟩] at hx
      exact ⟨_, hx, hraised _ k _ ((Frame.raise _ _).mono (by simp) (by simp)) (State.reg_raise_self _ _)⟩
    | none =>
      have hlow : reg < 0x1000000 := by rcases hreg with rfl | rfl <;> decide
      have hdeny : ((s.ok 0#32).agrpWrite set a.val grp) = ((s.ok 0#32).raise WEAVE_EVT_AGRP_DENIED).err :=
        if_neg fun h => ha (Fin.ext h)
      rw [State.access_reaches (State.reaches_iff.mpr ⟨hacc, hpath, hlow⟩), hdeny,
        show ((s.ok 0#32).raise WEAVE_EVT_AGRP_DENIED).err.bus.err = true from rfl, if_pos rfl] at hx
      exact ⟨_, hx, hraised _ .block _ ((Frame.refl _ _ s).step (Frame.ok _ _) |>.step (Frame.raise _ _) |>.step (Frame.err _))
        ((State.reg_err _ _).trans (State.reg_raise_self _ _))⟩

/-- Settles O6: each write takes its value, or is refused with its event. -/
theorem weaveRegisterWrites : Obligations.WeaveRegisterWrites := by
  refine ⟨fun a v s => ⟨fun i hr => weaveHpfWrite_spec i v hr, fun g hr => weaveGenCfgWrite_spec g v hr,
    fun m hr => weaveMtrClr_spec m v hr, fun hr => weaveRunWrite_spec v hr⟩, fun a grp i reg set s hi => ?_⟩
  simp only [List.mem_cons, Prod.mk.injEq, List.not_mem_nil, or_false] at hi
  rcases hi with ⟨rfl, rfl, rfl⟩ | ⟨rfl, rfl, rfl⟩
  · exact agrpWrite_spec (.inl rfl) rfl
  · exact agrpWrite_spec (.inr rfl) rfl

end Sys2Proof.Machine
end

section
/-! SUPPORT. Proofs/Ladder.lean: the Warden's step 2 for a function, and what recording it leaves (R502, R503). -/
-- The proofs of this file are elaborated one after another: side by side their threads exceed the memory of the check.
set_option Elab.async false
namespace Sys2Proof.Machine

open Reg

variable {s t : State}

theorem State.hubUp_congr (hstat : t.reg PWR_STAT = s.reg PWR_STAT) (hpower : t.power = s.power) : t.hubUp = s.hubUp := by
  rw [State.hubUp, State.hubUp, State.pstate, State.pstate, State.rf_congr PWR_STAT_STATE hstat, hpower]

theorem State.recent2_congr (hnow : t.now = s.now) (hpower : t.power = s.power) (f u : Nat) : t.recent2 f u = s.recent2 f u := by
  rw [State.recent2, State.recent2, hnow, hpower]

/-- The registers that recording a ladder step may change. -/
def ladderRegs : List Nat := [PWR_EVT, TRUST_EVT, ALARM_FAULT_SW]

theorem State.ladderMark_frame (s : State) (step : Nat) : Frame ladderRegs [.trust] s (s.ladderMark step) :=
  (Frame.refl _ _ s).step (Frame.raise s PWR_EVT_LADDER) (by simp [ladderRegs]) |>.step (Frame.wardenEvent _ _ _) (by simp [ladderRegs])
    |>.step (State.policyBits_frame _ _) (by simp [ladderRegs])

theorem State.flag_ladderMark (s : State) (step : Nat) : (s.ladderMark step).flag PWR_EVT_LADDER = true := by
  have hreport : Frame [TRUST_EVT, ALARM_FAULT_SW] [.trust] (s.raise PWR_EVT_LADDER) (s.ladderMark step) :=
    (Frame.refl _ _ (s.raise PWR_EVT_LADDER)).step (Frame.wardenEvent _ _ _) |>.step (State.policyBits_frame _ _)
  rw [State.flag, hreport.rf (by decide)]
  exact State.flag_raise_self s PWR_EVT_LADDER rfl (by decide)

/-- The registers and pieces that recording a step 2 may change. -/
theorem State.mark2_frame (s : State) (f u : Nat) : Frame (PWR_LADDER :: ladderRegs) [.power, .trust] s (s.mark2 f u) :=
  (Frame.refl _ _ s).step (Frame.power s _) |>.step (Frame.countUp _ PWR_LADDER_STEP2_CNT) |>.step (State.ladderMark_frame _ _)
    (fun _ h => List.mem_cons_of_mem _ h)

theorem State.flag_mark2 (s : State) (f u : Nat) : (s.mark2 f u).flag PWR_EVT_LADDER = true := State.flag_ladderMark _ _

/-- The steps of the last 60 s with the one just recorded. -/
theorem State.mark2_power (s : State) (f u : Nat) : (s.mark2 f u).power =
    { s.power with steps2 := (s.power.steps2.filter fun x => Nat.blt s.now (x.at_ + 60 * sec1)) ++ [⟨f, u, s.now⟩] } := by
  unfold State.mark2
  dsimp only
  rw [(State.ladderMark_frame _ _).2 .power (by simp), (Frame.countUp _ _).2 .power (by simp)]
  rfl

theorem State.recent2_mark2 (s : State) (f u : Nat) : (s.mark2 f u).recent2 f u = s.recent2 f u + 1 := by
  have hnow : (s.mark2 f u).now = s.now := (State.mark2_frame s f u).2 .now (by simp)
  have hrecent : Nat.blt s.now (s.now + 60 * sec1) = true := by rw [Nat.blt_eq]; unfold sec1; omega
  rw [State.recent2, State.mark2_power, hnow, List.filter_append, List.filter_filter, List.length_append]
  congr 1
  · refine congrArg List.length (List.filter_congr fun x _ => ?_)
    cases (x.func == f) <;> cases (x.unit == u) <;> simp
  · simp [hrecent]

/-- The Warden takes a step, unless it is off or has taken three within 60 s. -/
theorem State.wardenStep2_on {f u : Nat} {act : State → State}
    (hon : (s.hubUp && s.power.wardenUp && Nat.blt (s.recent2 f u) 3) = true) : s.wardenStep2 f u act = (act s).mark2 f u := by
  rw [Bool.and_eq_true, Nat.blt_eq] at hon
  rw [State.wardenStep2, if_pos hon.1, State.step2, if_neg (by omega)]

theorem State.wardenStep2_off {f u : Nat} {act : State → State}
    (hoff : (s.hubUp && s.power.wardenUp && Nat.blt (s.recent2 f u) 3) = false) :
    s.wardenStep2 f u act = s ∨ s.wardenStep2 f u act = s.healthLost f u := by
  by_cases hup : (s.hubUp && s.power.wardenUp) = true
  · rw [hup, Bool.true_and, Bool.eq_false_iff, Ne, Nat.blt_eq] at hoff
    exact .inr (by rw [State.wardenStep2, if_pos hup, State.step2, if_pos (by omega)])
  · exact .inl (by rw [State.wardenStep2, if_neg hup])

theorem State.wardenStep2_off_frame {f u : Nat} {act : State → State}
    (hoff : (s.hubUp && s.power.wardenUp && Nat.blt (s.recent2 f u) 3) = false) :
    Frame [TRUST_EVT] [.trust] s (s.wardenStep2 f u act) := by
  rcases State.wardenStep2_off (act := act) hoff with h | h
  · rw [h]; exact Frame.refl _ _ s
  · rw [h]; exact Frame.wardenEvent s _ _

end Sys2Proof.Machine
end

section
/-! SUPPORT. Proofs/WeaveTables.lean: the end of a meter window, an uncorrectable error in a route entry, and writes of the
tables by the Boot controller (R41, R61, R66, R70). -/
-- The proofs of this file are elaborated one after another: side by side their threads exceed the memory of the check.
set_option Elab.async false
namespace Sys2Proof.Machine

open Reg

variable {s : State} {a : Agent}

/-! ### A meter window's end (R61) -/

theorem meterWindowEnd_spec (s : State) (m : Fin 64) : Does (.meterWindowEnd m) s [WEAVE_MTR_MS m.val] [.weave] fun t =>
    t.weave = { s.weave with meters := t.weave.meters } ∧ (∀ j, j ≠ m.val → t.meter j = s.meter j)
    ∧ t.meter m.val = { s.meter m.val with ready := none }
    ∧ t.reg (WEAVE_MTR_MS m.val) = match (s.meter m.val).ready with
        | some ms => BitVec.ofNat 32 ms
        | none => s.reg (WEAVE_MTR_MS m.val) := by
  have hexec : exec (.meterWindowEnd m) s = .next (match (s.meter m.val).ready with
    | some ms => (s.setRegN (WEAVE_MTR_MS m.val) ms).setMeter m.val { s.meter m.val with ready := none }
    | none => s) := rfl
  cases hready : (s.meter m.val).ready with
  | some ms =>
    rw [hready] at hexec
    refine ⟨_, hexec, (Frame.refl _ _ s).step (Frame.setRegN _ _ _) |>.step (Frame.withWeave _ _), rfl, fun j hj => ?_, ?_, ?_⟩
    · exact (State.meter_setMeter _ _ _ _).trans (if_neg hj)
    · exact (State.meter_setMeter _ _ _ _).trans (if_pos rfl)
    · exact State.reg_setReg_self _ _ _
  | none =>
    rw [hready] at hexec
    refine ⟨s, hexec, Frame.refl _ _ s, rfl, fun _ _ => rfl, ?_, rfl⟩
    rw [← hready]

/-! ### An uncorrectable error in a route entry (R70) -/

theorem State.entry_setEntry (s : State) (i j : Nat) (e : Entry) : (s.setEntry i e).entry j = if j = i then e else s.entry j :=
  mget_mset _ _ _ _ _

/-- The entry marked, with its event and its index. -/
def State.entryUe (s : State) (i : Nat) : State :=
  ((s.setEntry i { s.entry i with ecc := true }).raise WEAVE_EVT_ECC_UE).sf WEAVE_ECC_IDX_IDX i

/-- The command that rewrites an entry from the Skein. -/
def State.entryCut (s : State) (i : Nat) : RouteCmd :=
  ⟨.cut, i, ⟨s.skTable (16 * i), s.skTable (16 * i + 4), s.skTable (16 * i + 8)⟩, false⟩

theorem State.entryRewrite_eq (s : State) (i : Nat) : s.entryRewrite i =
    if 64 ≤ s.weave.queueC.length then s.raise WEAVE_EVT_OVF_C else s.setRouteQueue false (s.weave.queueC ++ [s.entryCut i]) := by
  unfold State.entryRewrite
  dsimp only
  simp only [Nat.ble_eq]
  rfl

theorem State.entryRewrite_frame (s : State) (i : Nat) : Frame [WEAVE_EVT, WEAVE_XP_STAT 0] [.weave] s (s.entryRewrite i) := by
  rw [State.entryRewrite_eq]
  exact ((Frame.refl _ _ s).step (Frame.raise _ _)).ite ((Frame.refl _ _ s).step (State.setRouteQueue_frame _ _ _) (by simp [portIx]))

theorem State.entryRewrite_weave (s : State) (i : Nat) : (s.entryRewrite i).weave = { s.weave with queueC := (s.entryRewrite i).weave.queueC } := by
  rw [State.entryRewrite_eq]
  split <;> rfl

theorem State.flag_entryRewrite (s : State) (i : Nat) (h : s.flag WEAVE_EVT_ECC_UE = true) :
    (s.entryRewrite i).flag WEAVE_EVT_ECC_UE = true := by
  rw [State.entryRewrite_eq]
  split
  · rw [State.flag, State.rf_raise_ne _ (by decide) (by decide) (by decide)]; exact h
  · rw [State.flag, (State.setRouteQueue_frame _ _ _).rf (by decide)]; exact h

theorem State.entryUe_frame (s : State) (i : Nat) : Frame [WEAVE_EVT, WEAVE_ECC_IDX] [.weave] s (s.entryUe i) :=
  (Frame.refl _ _ s).step (Frame.withWeave _ _) |>.step (Frame.raise _ _) |>.step (Frame.sf _ _ _)

theorem State.entryUe_reads (s : State) {i : Nat} (hi : i < 32768) :
    (s.entryUe i).reg WEAVE_EVT = s.raised WEAVE_EVT [WEAVE_EVT_ECC_UE] ∧ (s.entryUe i).rf WEAVE_ECC_IDX_IDX = i :=
  ⟨(State.reg_sf_ne _ (by decide) _).trans (State.reg_raise_self _ _),
    (State.rf_sf_self _ _ _ (by decide) (by decide)).trans (Nat.mod_eq_of_lt hi)⟩

theorem routeEntryEccUe_spec (s : State) (i : Fin 32768) :
    let regs := [WEAVE_EVT, WEAVE_ECC_IDX, WEAVE_XP_STAT 0, PWR_LADDER, PWR_EVT, TRUST_EVT, ALARM_FAULT_SW]
    let on := s.hubUp && s.power.wardenUp && Nat.blt (s.recent2 14 i.val) 3
    Does (.routeEntryEccUe i) s regs [.weave, .trust, .power] fun t =>
      (∀ j, j ≠ i.val → t.entry j = s.entry j)
      ∧ t.weave = { s.weave with routes := t.weave.routes, queueC := t.weave.queueC }
      ∧ t.entry i.val = { s.entry i.val with ecc := true } ∧ (∀ x, (t.entry i.val).contrib x = 0)
      ∧ t.flag WEAVE_EVT_ECC_UE = true ∧ t.rf WEAVE_ECC_IDX_IDX = i.val
      ∧ (on = false → t.weave.queueC = s.weave.queueC ∧ t.power = s.power
          ∧ t.reg WEAVE_EVT = s.raised WEAVE_EVT [WEAVE_EVT_ECC_UE])
      ∧ (on = true → s.weave.queueC.length < 64 → t.flag PWR_EVT_LADDER = true
          ∧ t.reg WEAVE_EVT = s.raised WEAVE_EVT [WEAVE_EVT_ECC_UE]
          ∧ t.recent2 14 i.val = s.recent2 14 i.val + 1
          ∧ let w (k : Nat) : Word := s.skTable (16 * i.val + k)
            t.weave.queueC = s.weave.queueC ++ [⟨.cut, i.val, ⟨w 0, w 4, w 8⟩, false⟩]) := by
  intro regs on
  have hmarked := s.entryUe_frame i.val
  obtain ⟨hevt, hidx⟩ := s.entryUe_reads i.isLt
  have hpower : (s.entryUe i.val).power = s.power := hmarked.2 .power (by simp)
  have hon : ((s.entryUe i.val).hubUp && (s.entryUe i.val).power.wardenUp && Nat.blt ((s.entryUe i.val).recent2 14 i.val) 3) = on := by
    rw [State.hubUp_congr (hmarked.1 _ (by decide)) hpower, State.recent2_congr (hmarked.2 .now (by simp)) hpower, hpower]
  have hcontrib {e : Entry} (he : e.ecc = true) (x : Int) : e.contrib x = 0 := if_pos he
  have hflag : (s.entryUe i.val).flag WEAVE_EVT_ECC_UE = true :=
    (congrArg (· == 1) (State.rf_sf_ne _ _ (by decide) (by decide) (by decide))).trans (State.flag_raise_self _ _ rfl (by decide))
  have hentry (j : Nat) : (s.entryUe i.val).entry j = if j = i.val then { s.entry i.val with ecc := true } else s.entry j :=
    s.entry_setEntry i.val j { s.entry i.val with ecc := true }
  have hweave : (s.entryUe i.val).weave = { s.weave with routes := (s.entryUe i.val).weave.routes } := rfl
  have hcut : (s.entryUe i.val).entryCut i.val = s.entryCut i.val := rfl
  have hexec : exec (.routeEntryEccUe i) s = .next ((s.entryUe i.val).wardenStep2 14 i.val fun s => s.entryRewrite i.val) := rfl
  generalize s.entryUe i.val = m at *
  refine ⟨_, hexec, ?_⟩
  by_cases h : on = true
  · rw [State.wardenStep2_on (hon.trans h)]
    have hrew := m.entryRewrite_frame i.val
    have hrewWeave := m.entryRewrite_weave i.val
    have hrewFlag := m.flag_entryRewrite i.val hflag
    have hmark := (m.entryRewrite i.val).mark2_frame 14 i.val
    have hsame : ((m.entryRewrite i.val).mark2 14 i.val).weave = (m.entryRewrite i.val).weave := hmark.2 .weave (by simp)
    have hentries (j : Nat) : ((m.entryRewrite i.val).mark2 14 i.val).entry j = m.entry j := by
      rw [State.entry, hsame, hrewWeave]; rfl
    refine ⟨?_, fun j hj => ?_, ?_, ?_, fun x => hcontrib ?_ x, ?_, ?_, fun hoff => absurd (h.symm.trans hoff) (by decide), fun _ hlen => ⟨State.flag_mark2 _ _ _, ?_, ?_, ?_⟩⟩
    · exact ((hmarked.mono (by simp [regs]) (by simp)).step hrew (by simp [regs])).step hmark (by simp [regs, ladderRegs])
    · rw [hentries, hentry, if_neg hj]
    · rw [hsame, hrewWeave, hweave]
    · rw [hentries, hentry, if_pos rfl]
    · rw [hentries, hentry, if_pos rfl]
    · rw [State.flag, hmark.rf (by decide)]; exact hrewFlag
    · exact ((hmark.rf (by decide)).trans (hrew.rf (by decide))).trans hidx
    all_goals have hlen' : ¬64 ≤ m.weave.queueC.length := by rw [hweave]; exact Nat.not_le.mpr hlen
    · rw [hmark.1 _ (by decide), State.entryRewrite_eq, if_neg hlen', (State.setRouteQueue_frame _ _ _).1 _ (by decide)]
      exact hevt
    · rw [State.recent2_mark2, State.recent2_congr (hrew.2 .now (by simp)) (hrew.2 .power (by simp)),
        State.recent2_congr (hmarked.2 .now (by simp)) hpower]
    · rw [hsame, State.entryRewrite_eq, if_neg hlen', hcut, hweave]
      rfl
  · have hoff := State.wardenStep2_off_frame (act := fun s => s.entryRewrite i.val) (hon.trans (Bool.eq_false_iff.mpr h))
    generalize m.wardenStep2 14 i.val (fun s => s.entryRewrite i.val) = t at hoff ⊢
    have hsame : t.weave = m.weave := hoff.2 .weave (by simp)
    have hentries (j : Nat) : t.entry j = m.entry j := by rw [State.entry, hsame]; rfl
    refine ⟨?_, fun j hj => ?_, ?_, ?_, fun x => hcontrib ?_ x, ?_, ?_, fun _ => ⟨?_, ?_, ?_⟩, fun hon => absurd hon h⟩
    · exact (hmarked.mono (by simp [regs]) (by simp)).step hoff (by simp [regs])
    · rw [hentries, hentry, if_neg hj]
    · rw [hsame, hweave]
    · rw [hentries, hentry, if_pos rfl]
    · rw [hentries, hentry, if_pos rfl]
    · rw [State.flag, hoff.rf (by decide)]; exact hflag
    · exact (hoff.rf (by decide)).trans hidx
    · rw [hsame, hweave]
    · exact (hoff.2 .power (by simp)).trans hpower
    · exact (hoff.1 _ (by decide)).trans hevt

/-! ### A record's words read back as written (R66) -/

theorem leNat_lt (l : List Byte) : leNat l < 256 ^ l.length := by
  induction l with
  | nil => exact Nat.one_pos
  | cons b l ih =>
    have hb := b.isLt
    rw [leNat, List.length_cons, pow_succ]
    omega

theorem leBytes_leNat (l : List Byte) : leBytes (leNat l) l.length = l := by
  induction l with
  | nil => rfl
  | cons b l ih =>
    have hb := b.isLt
    have hbyte : BitVec.ofNat 8 (b.toNat + 256 * leNat l) = b := by
      apply BitVec.eq_of_toNat_eq
      rw [BitVec.toNat_ofNat]
      omega
    rw [leNat, List.length_cons, leBytes, hbyte, show (b.toNat + 256 * leNat l) / 256 = leNat l by omega, ih]

theorem bytes48_int48 {l : List Byte} (h : l.length = 6) : bytes48 (int48 l) = l := by
  have hlt := leNat_lt l
  rw [h] at hlt
  have hback : (int48 l % 281474976710656).toNat = leNat l := by
    have hsmall : leNat l % 2 ^ 48 = leNat l := Nat.mod_eq_of_lt (by omega)
    rw [int48, sext, hsmall]
    split <;> omega
  rw [bytes48, hback, ← h, leBytes_leNat]

/-- The bytes of one section's state. -/
def BqState.bytes (t : BqState) : List Byte := bytes48 t.x1 ++ bytes48 t.x2 ++ bytes48 t.y1 ++ bytes48 t.y2

theorem length_bytes48 (x : Int) : (bytes48 x).length = 6 := leBytes_length _ _

theorem BqState.length_bytes (t : BqState) : t.bytes.length = 24 := by simp [BqState.bytes, length_bytes48]

theorem flatMap_stOfBytes (n : Nat) {l : List Byte} (h : l.length = 24 * n) : (stOfBytes n l).flatMap BqState.bytes = l := by
  induction n generalizing l with
  | zero => rw [List.length_eq_zero_iff.mp h]; rfl
  | succ n ih =>
    rw [stOfBytes, List.flatMap_cons, ih (by simp; omega), BqState.bytes, bytes48_int48 (by simp; omega), bytes48_int48 (by simp; omega),
      bytes48_int48 (by simp; omega), bytes48_int48 (by simp; omega)]
    have hsplit (k : Nat) : l.drop k = (l.drop k).take 6 ++ l.drop (k + 6) := by rw [← List.drop_drop, List.take_append_drop]
    conv_rhs => rw [← List.take_append_drop 6 l, hsplit 6, hsplit 12, hsplit 18]
    simp only [List.append_assoc]

theorem flatMap_delayOfBytes (n : Nat) {l : List Byte} (h : l.length = 6 * n) : (delayOfBytes n l).flatMap bytes48 = l := by
  induction n generalizing l with
  | zero => rw [List.length_eq_zero_iff.mp h]; rfl
  | succ n ih =>
    rw [delayOfBytes, List.flatMap_cons, ih (by simp; omega), bytes48_int48 (by simp; omega), List.take_append_drop]

theorem length_patch4 {l : List Byte} {i : Nat} (v : Word) (h : i + 4 ≤ l.length) : (patch4 l i v).length = l.length := by
  simp [patch4, leBytes_length]
  omega

theorem word_patch4 {l : List Byte} {i : Nat} (v : Word) (h : i + 4 ≤ l.length) :
    BitVec.ofNat 32 (leNat (((patch4 l i v).drop i).take 4)) = v := by
  have hpart : ((patch4 l i v).drop i).take 4 = leBytes v.toNat 4 := by
    have htake : (l.take i).length = i := List.length_take_of_le (by omega)
    rw [patch4, List.append_assoc, List.drop_left' htake, List.take_left' (leBytes_length _ _)]
  rw [hpart, leNat_leBytes, Nat.mod_eq_of_lt (show v.toNat < 256 ^ 4 from v.isLt), BitVec.ofNat_toNat, BitVec.setWidth_eq]

theorem Coef.word_setWord (c : Coef) (k : Nat) (v : Word) : (c.setWord k v).word k = v := by
  match k with
  | 0 | 1 | 2 | 3 => rfl
  | _ + 4 => rfl

/-- A word of a record that the Boot controller writes reads back. -/
theorem Chan.read_write (c : Chan) {off : Nat} (v : Word) (hoff : off % 4 = 0) (hlt : off < 512) (hcoef : c.coef.length = 8)
    (hst : c.st.length = 8) (hdelay : c.delay.length = 16) : (c.write off v).read off = v := by
  unfold Chan.read Chan.write
  by_cases h0 : off = 0
  · simp [h0]
  by_cases h4 : off = 4
  · simp [h4]
  by_cases h8 : off = 8
  · simp [h8]
  by_cases h12 : off = 12
  · have hhalves : bitsOf v 31 16 * 65536 + bitsOf v 15 0 = v.toNat := by
      have hv := v.isLt
      simp only [bitsOf, Nat.shiftRight_eq_div_pow, Nat.reduceAdd, Nat.reduceSub, Nat.reducePow]
      omega
    simp [h12, hhalves]
  by_cases hrsv : off < 0x40
  · simp [h0, h4, h8, h12, hrsv]
  by_cases hco : off < 0xE0
  · have hk : (off - 0x40) / 20 < c.coef.length := by omega
    simp [h0, h4, h8, h12, hrsv, hco, hk, Coef.word_setWord]
  by_cases hs : off < 0x1A0
  · have hlen : c.stBytes.length = 192 := by
      rw [show c.stBytes = c.st.flatMap BqState.bytes from rfl, List.length_flatMap]
      simp [BqState.length_bytes, hst]
    have hback : (stOfBytes 8 (patch4 c.stBytes (off - 0xE0) v)).flatMap BqState.bytes = patch4 c.stBytes (off - 0xE0) v :=
      flatMap_stOfBytes 8 (by rw [length_patch4 v (by omega), hlen])
    simp only [h0, h4, h8, h12, hrsv, hco, hs, if_true, if_false]
    exact (congrArg (fun l : List Byte => BitVec.ofNat 32 (leNat ((l.drop (off - 0xE0)).take 4))) hback).trans (word_patch4 v (by omega))
  · have hlen : c.delayBytes.length = 96 := by
      rw [Chan.delayBytes, List.length_flatMap]
      simp [length_bytes48, hdelay]
    have hback : (delayOfBytes 16 (patch4 c.delayBytes (off - 0x1A0) v)).flatMap bytes48 = patch4 c.delayBytes (off - 0x1A0) v :=
      flatMap_delayOfBytes 16 (by rw [length_patch4 v (by omega), hlen])
    simp only [h0, h4, h8, h12, hrsv, hco, hs, if_false]
    exact (congrArg (fun l : List Byte => BitVec.ofNat 32 (leNat ((l.drop (off - 0x1A0)).take 4))) hback).trans (word_patch4 v (by omega))

/-! ### Writes of the tables (R41, R42) -/

theorem State.chan_setChan (s : State) (b j : Nat) (c : Chan) : (s.setChan b c).chan j = if j = b then c else s.chan j :=
  mget_mset _ _ _ _ _

theorem State.entryWord_frame (s : State) (i k : Nat) (v : Word) : Frame [] [.weave] s (s.entryWord i k v) := by
  unfold State.entryWord
  dsimp only
  split
  · exact Frame.withWeave _ _
  · exact Frame.withWeave _ _
  · exact Frame.withWeave _ _
  · exact (Frame.refl _ _ s)

theorem State.entryWord_weave (s : State) (i k : Nat) (v : Word) :
    (s.entryWord i k v).weave = { s.weave with routes := (s.entryWord i k v).weave.routes } := by
  unfold State.entryWord
  dsimp only
  split <;> rfl

theorem State.entryWord_ne (s : State) {i j : Nat} (k : Nat) (v : Word) (h : j ≠ i) : (s.entryWord i k v).entry j = s.entry j := by
  unfold State.entryWord
  dsimp only
  split
  · exact (State.entry_setEntry _ _ _ _).trans (if_neg h)
  · exact (State.entry_setEntry _ _ _ _).trans (if_neg h)
  · exact (State.entry_setEntry _ _ _ _).trans (if_neg h)
  · rfl

/-- What the written word of an entry reads. -/
theorem State.entryWord_self (s : State) (i : Nat) (v : Word) :
    (s.entryWord i 0 v).entryRead i 0 = v &&& 0xF3FFFFFF#32 ∧ (s.entryWord i 1 v).entryRead i 1 = v &&& 0xF0FFFFFF#32
    ∧ (s.entryWord i 2 v).entryRead i 2 = (v &&& 0xCFFF0000#32) ||| (s.entryRead i 2 &&& 0xFFFF#32)
    ∧ (s.entryWord i 3 v).entry i = s.entry i := by
  have hset (e : Entry) : (s.setEntry i e).entry i = e := (State.entry_setEntry _ _ _ _).trans (if_pos rfl)
  refine ⟨?_, ?_, ?_, rfl⟩
  · exact congrArg (fun e : Entry => e.img.w0) (hset _)
  · exact congrArg (fun e : Entry => e.img.w1) (hset _)
  · exact congrArg (fun e : Entry => e.img.w2) (hset _)

/-- What the Boot controller's write does. -/
theorem State.tableWrite_boot (s : State) {off : Nat} (v : Word) (hacc : s.accepted 0 = true) : s.tableWrite 0 off v =
    if off < 0x80000 then
      (if s.flag WEAVE_CTL_RUN then s.errRec 0 .block true (routeBase + off) else (s.entryWord (off / 16) (off % 16 / 4) v).ok 0#32)
    else if s.flag BORDER_CTL_RUN then s.errRec 0 .block true (routeBase + off)
    else (s.setChan ((off - 0x80000) / 512) ((s.chan ((off - 0x80000) / 512)).write ((off - 0x80000) % 512) v)).ok 0#32 := by
  have hacc' : ¬((!s.accepted (0 : Agent).val) = true) := by simp [hacc]
  rw [State.tableWrite]
  dsimp only
  rw [if_neg hacc', if_neg (by decide), if_neg (by decide)]

theorem routeTableWrite_spec (s : State) (w : Fin 196608) (v : Word) (hacc : s.accepted 0 = true) :
    (w.val < 131072 → s.flag WEAVE_CTL_RUN = false →
      Does (.routeTableWrite 0 w v) s [] [.weave, .bus] fun t => t.bus.err = false
        ∧ t.weave = { s.weave with routes := t.weave.routes } ∧ (∀ j, j ≠ w.val / 4 → t.entry j = s.entry j)
        ∧ (w.val % 4 = 0 → t.entryRead (w.val / 4) 0 = v &&& 0xF3FFFFFF#32)
        ∧ (w.val % 4 = 1 → t.entryRead (w.val / 4) 1 = v &&& 0xF0FFFFFF#32)
        ∧ (w.val % 4 = 2 → t.entryRead (w.val / 4) 2
            = (v &&& 0xCFFF0000#32) ||| (s.entryRead (w.val / 4) 2 &&& 0xFFFF#32))
        ∧ (w.val % 4 = 3 → t.entry (w.val / 4) = s.entry (w.val / 4)))
    ∧ (131072 ≤ w.val → s.flag BORDER_CTL_RUN = false →
      Does (.routeTableWrite 0 w v) s [] [.border, .bus] fun t => t.bus.err = false
        ∧ t.border = { s.border with chans := t.border.chans }
        ∧ (∀ j, j ≠ (w.val - 131072) / 128 → t.chan j = s.chan j)
        ∧ (let x := s.chan ((w.val - 131072) / 128)
          x.coef.length = 8 → x.st.length = 8 → x.delay.length = 16 →
            (t.chan ((w.val - 131072) / 128)).read (4 * (w.val % 128)) = v))
    ∧ (w.val < 131072 → s.flag WEAVE_CTL_RUN = true → Errs (.routeTableWrite 0 w v) s [] fun _ => True)
    ∧ (131072 ≤ w.val → s.flag BORDER_CTL_RUN = true → Errs (.routeTableWrite 0 w v) s [] fun _ => True) := by
  have hexec : exec (.routeTableWrite 0 w v) s = .next (s.tableWrite 0 (4 * w.val) v) := rfl
  rw [s.tableWrite_boot v hacc] at hexec
  have herr (addr : Nat) (hx : exec (.routeTableWrite 0 w v) s = .next (s.errRec 0 .block true addr)) :
      Errs (.routeTableWrite 0 w v) s [] fun _ => True :=
    ⟨_, hx, (State.errRec_frame s 0 .block true addr (by decide)).mono (by simp) (by simp), State.errRec_bus _ _ _ _ _, State.flag_errRec _ _ _ _ _, trivial⟩
  refine ⟨fun hw hrun => ?_, fun hw hrun => ?_, fun hw hrun => ?_, fun hw hrun => ?_⟩
  · rw [if_pos (by omega), if_neg (by simp [hrun]), show 4 * w.val / 16 = w.val / 4 by omega,
      show 4 * w.val % 16 / 4 = w.val % 4 by omega] at hexec
    obtain ⟨h0, h1, h2, h3⟩ := s.entryWord_self (w.val / 4) v
    refine ⟨_, hexec, ((State.entryWord_frame _ _ _ _).mono (by simp) (by simp)).step (Frame.ok _ _), rfl, State.entryWord_weave _ _ _ _,
      fun j hj => State.entryWord_ne _ _ _ hj, fun h => ?_, fun h => ?_, fun h => ?_, fun h => ?_⟩
    · rw [h]; exact h0
    · rw [h]; exact h1
    · rw [h]; exact h2
    · rw [h]; exact h3
  · rw [if_neg (by omega), if_neg (by simp [hrun]), show (4 * w.val - 0x80000) / 512 = (w.val - 131072) / 128 by omega,
      show (4 * w.val - 0x80000) % 512 = 4 * (w.val % 128) by omega] at hexec
    refine ⟨_, hexec, ((Frame.withBorder _ _).mono (by simp) (by simp)).step (Frame.ok _ _), rfl, rfl, fun j hj => ?_, ?_⟩
    · exact (State.chan_setChan _ _ _ _).trans (if_neg hj)
    · intro x hcoef hst hdelay
      have hchan := (s.chan_setChan ((w.val - 131072) / 128) ((w.val - 131072) / 128) (x.write (4 * (w.val % 128)) v)).trans (if_pos rfl)
      exact (congrArg (fun c : Chan => c.read (4 * (w.val % 128))) hchan).trans (x.read_write v (by omega) (by omega) hcoef hst hdelay)
  · rw [if_pos (by omega), if_pos hrun] at hexec
    exact herr _ hexec
  · rw [if_neg (by omega), if_pos hrun] at hexec
    exact herr _ hexec

theorem routeTableWrite_denied (s : State) (w : Fin 196608) (v : Word) (ha : a ≠ 0) (hacc : s.accepted a.val = true) :
    Does (.routeTableWrite a w v) s (TRUST_EVT :: errRegs) [.bus, .trust] fun t =>
      t.bus = ⟨true, 0#32⟩ ∧ t.flag MATRIX_EVT_ERR = true := by
  have hexec : ∃ k, exec (.routeTableWrite a w v) s = .next (s.errRec a.val k true (routeBase + 4 * w.val)) := by
    have htable : exec (.routeTableWrite a w v) s = .next (s.tableWrite a (4 * w.val) v) := rfl
    rw [State.tableWrite, if_neg (by simp [hacc])] at htable
    by_cases hhost : a.val = 3 ∨ a.val = 4
    · exact ⟨.host, htable.trans (congrArg _ (if_pos hhost))⟩
    · exact ⟨.nopath, htable.trans (congrArg _ ((if_neg hhost).trans (if_pos fun h => ha (Fin.ext h))))⟩
  obtain ⟨k, hexec⟩ := hexec
  exact ⟨_, hexec, State.errRec_frame_all _ _ _ _ _, State.errRec_bus _ _ _ _ _, State.flag_errRec _ _ _ _ _⟩

/-- Settles O7: a window's end, an uncorrectable entry and the table's writes each leave what the statement says; the CUT that the
Warden queues at once is log 130, SUCC and W3 kept are log 131. -/
theorem weaveHardwareEvents : Obligations.WeaveHardwareEvents := fun s =>
  ⟨meterWindowEnd_spec s, routeEntryEccUe_spec s, fun w v hacc => routeTableWrite_spec s w v hacc,
    fun _ w v ha hacc => routeTableWrite_denied s w v ha hacc⟩

end Sys2Proof.Machine
end

section
/-! SUPPORT. Proofs/BorderCommands.lean: the Border's command queue: a command staged and queued, the oldest validated, RUN, and
an uncorrectable record rewritten (R67, R68, R70, R539). -/
-- The proofs of this file are elaborated one after another: side by side their threads exceed the memory of the check.
set_option Elab.async false
namespace Sys2Proof.Machine

open Reg

variable {s : State} {a : Agent} {i : Instr}

/-! ### A host's access to the Border's registers (R67, R470) -/

theorem State.flag_errRec_host (s : State) (n : Nat) (w : Bool) (addr : Nat) :
    (s.errRec n .host w addr).flag TRUST_EVT_PRIV_VIOL = true := by
  unfold State.errRec State.errLog
  dsimp only
  exact State.flag_privViol _ _ _

/-- A host's write of a register of the Border is denied. -/
theorem border_denied {reg : Nat} {v : Word} {f : State → State} (hx : exec i s = .next (s.access a.val reg true v f))
    (hlow : 0x140000 ≤ reg) (hhigh : reg ≤ 0x17FFFF) (ha : a = 3 ∨ a = 4) (hacc : s.accepted a.val = true) :
    Does i s (BORDER_EVT :: TRUST_EVT :: errRegs) [.bus, .trust] fun t => t.bus = ⟨true, 0#32⟩
      ∧ t.reg BORDER_EVT = s.raised BORDER_EVT [BORDER_EVT_DENIED] ∧ t.flag TRUST_EVT_PRIV_VIOL = true := by
  have hhost : a.val = 3 ∨ a.val = 4 := ha.imp (congrArg Fin.val) (congrArg Fin.val)
  have hwindow := Boxed.hostWindow (reg := reg) (w := true) (by unfold Boxed; omega) hhost
  have hpath : s.pathErr a.val reg true = some .host := if_pos ⟨hhost, by rw [hwindow]; rfl⟩
  have hwithin : within 0x140000 0x17FFFF reg = true := by simp [within]; omega
  have hgroups : ¬(true = true ∧ (reg = WEAVE_AGRP_SET ∨ reg = WEAVE_AGRP_CLR)) := by
    simp only [WEAVE_AGRP_SET, WEAVE_AGRP_CLR]; omega
  rw [State.access_refused hacc hpath, State.deniedHook, if_neg hgroups, if_pos ⟨hhost, hwithin⟩] at hx
  have hrec := (s.raise BORDER_EVT_DENIED).errRec_frame_all a.val .host true (errAddr a.val reg true)
  refine ⟨_, hx, ?_, State.errRec_bus _ _ _ _ _, ?_, State.flag_errRec_host _ _ _ _⟩
  · exact ((Frame.raise s BORDER_EVT_DENIED).mono (by simp) (by simp)).step hrec fun _ h => List.mem_cons_of_mem _ h
  · exact (hrec.1 _ (by decide)).trans (State.reg_raise_self _ _)

/-! ### A staged command -/

/-- The registers that stage a command. -/
def borderStageRegs : List Nat := BORDER_CMD_CH :: BORDER_CMD_CTL :: regFile BORDER_CMD_D 5

def State.borderStaged (s : State) (k : BorderCmd) : State :=
  ((((((((s.sf BORDER_CMD_CH_CH k.ch).sf BORDER_CMD_CH_ITEM k.item).setReg (BORDER_CMD_D 0) k.d.b0).setReg (BORDER_CMD_D 1) k.d.b1).setReg
    (BORDER_CMD_D 2) k.d.b2).setReg (BORDER_CMD_D 3) k.d.a1).setReg (BORDER_CMD_D 4) k.d.a2).setFlag BORDER_CMD_CTL_CLR_STATE k.clr)

theorem State.borderStaged_frame (s : State) (k : BorderCmd) : Frame borderStageRegs [] s (s.borderStaged k) := by
  unfold State.borderStaged
  exact (Frame.refl _ _ s).step (Frame.sf _ _ _) (by decide) |>.step (Frame.sf _ _ _) (by decide) |>.step (Frame.setReg _ _ _) (by decide)
    |>.step (Frame.setReg _ _ _) (by decide) |>.step (Frame.setReg _ _ _) (by decide) |>.step (Frame.setReg _ _ _) (by decide)
    |>.step (Frame.setReg _ _ _) (by decide) |>.step (Frame.setFlag _ _ _) (by decide)

/-- What a GO reads of the staged command. -/
theorem State.borderStaged_reads (s : State) {k : BorderCmd} (hch : k.ch < 512) (hitem : k.item < 16) :
    let t := s.borderStaged k
    (⟨t.rf BORDER_CMD_CH_CH, t.rf BORDER_CMD_CH_ITEM, ⟨t.reg (BORDER_CMD_D 0), t.reg (BORDER_CMD_D 1), t.reg (BORDER_CMD_D 2),
      t.reg (BORDER_CMD_D 3), t.reg (BORDER_CMD_D 4)⟩, t.flag BORDER_CMD_CTL_CLR_STATE⟩ : BorderCmd) = k := by
  obtain ⟨ch, item, ⟨b0, b1, b2, a1, a2⟩, clr⟩ := k
  dsimp only at hch hitem
  simp (disch := decide) [State.borderStaged, State.rf, State.flag, State.setFlag, State.reg_sf, State.reg_setReg, BORDER_CMD_CH,
    BORDER_CMD_D, BORDER_CMD_CTL, bitsOf_setBits_self, bitsOf_setBits_ne, Nat.mod_eq_of_lt hch, Nat.mod_eq_of_lt hitem]
  cases clr <;> rfl

/-- The queue replaced, and DEPTH with it. -/
theorem State.setBorderQueue_frame (s : State) (q : List BorderCmd) : Frame [BORDER_CMD_STAT] [.border] s (s.setBorderQueue q) :=
  (Frame.refl _ _ s).step (Frame.withBorder _ _) |>.step (Frame.sf _ _ _)

theorem State.setBorderQueue_reads (s : State) {q : List BorderCmd} (hq : q.length < 128) :
    (s.setBorderQueue q).border = { s.border with queue := q } ∧ (s.setBorderQueue q).rf BORDER_CMD_STAT_DEPTH = q.length
    ∧ (s.setBorderQueue q).rf BORDER_CMD_STAT_SEQ = s.rf BORDER_CMD_STAT_SEQ :=
  ⟨rfl, (State.rf_sf_self _ _ _ (by decide) (by decide)).trans (Nat.mod_eq_of_lt hq),
    State.rf_sf_ne _ _ (by decide) (by decide) (by decide)⟩

theorem borderCmd_spec {c : BorderCmd} (hx : exec i s = .next (s.borderCmd a c)) (hch : c.ch < 512) (hitem : c.item < 16) :
    let staged := BORDER_CMD_CH :: BORDER_CMD_CTL :: regFile BORDER_CMD_D 5
    (s.reaches a BORDER_CMD_CH true = true → s.border.queue.length < 64 →
      Does i s (BORDER_CMD_STAT :: staged) [.border, .bus] fun t => t.bus.err = false
        ∧ t.border = { s.border with queue := s.border.queue ++ [c] }
        ∧ t.rf BORDER_CMD_STAT_DEPTH = s.border.queue.length + 1)
    ∧ (s.reaches a BORDER_CMD_CH true = true → 64 ≤ s.border.queue.length →
      Does i s (BORDER_EVT :: staged) [.bus] fun t => t.bus.err = false
        ∧ t.reg BORDER_EVT = s.raised BORDER_EVT [BORDER_EVT_CMD_OVF])
    ∧ ((a = 3 ∨ a = 4) → s.accepted a.val = true →
      Does i s (BORDER_EVT :: TRUST_EVT :: errRegs) [.bus, .trust] fun t => t.bus = ⟨true, 0#32⟩
        ∧ t.reg BORDER_EVT = s.raised BORDER_EVT [BORDER_EVT_DENIED]
        ∧ t.flag TRUST_EVT_PRIV_VIOL = true) := by
  intro staged
  have hstaged : Frame borderStageRegs [.bus] s ((s.ok 0#32).borderStaged c) :=
    ((Frame.ok s 0#32).mono (by simp) (by simp)).step (State.borderStaged_frame _ _) fun _ h => h
  have hborder : ((s.ok 0#32).borderStaged c).border = s.border := hstaged.2 .border (by simp)
  have hgo : ((s.ok 0#32).borderStaged c).borderGo = if 64 ≤ s.border.queue.length then ((s.ok 0#32).borderStaged c).raise BORDER_EVT_CMD_OVF
      else ((s.ok 0#32).borderStaged c).setBorderQueue (s.border.queue ++ [c]) := by
    have hreads := (s.ok 0#32).borderStaged_reads hch hitem
    dsimp only at hreads
    unfold State.borderGo
    dsimp only
    rw [hreads, hborder]
    simp only [Nat.ble_eq]
  have hwrite : exec i s = .next (s.regWrite a BORDER_CMD_CH (BitVec.ofNat 32 (c.item * 65536 + c.ch)) fun s =>
      ((s.borderStaged c).borderGo).ok 0#32) := hx
  have hblock := congrArg (fun t : State => t.ok 0#32) hgo
  refine ⟨fun hr hlen => ?_, fun hr hlen => ?_, fun ha hacc => border_denied hx (by decide) (by decide) ha hacc⟩
  all_goals
    generalize hm : (s.ok 0#32).borderStaged c = m at hblock hstaged hborder
  · rw [if_neg (by omega)] at hblock
    obtain ⟨hqueue, hdepth, -⟩ := m.setBorderQueue_reads (q := s.border.queue ++ [c])
      (by simp; omega)
    refine Does.of_write (t := (m.setBorderQueue (s.border.queue ++ [c])).ok 0#32) hwrite hr (by rw [hm]; exact hblock) rfl ?_ ⟨rfl, ?_, ?_⟩
    · exact (hstaged.mono (fun _ h => List.mem_cons_of_mem _ h) (by simp)).step (State.setBorderQueue_frame _ _) |>.step (Frame.ok _ _)
    · exact hqueue.trans (by rw [hborder])
    · exact hdepth.trans (by simp)
  · rw [if_pos hlen] at hblock
    refine Does.of_write (t := (m.raise BORDER_EVT_CMD_OVF).ok 0#32) hwrite hr (by rw [hm]; exact hblock) rfl ?_ ⟨rfl, ?_⟩
    · exact (hstaged.mono (fun _ h => List.mem_cons_of_mem _ h) (by simp)).step (Frame.raise _ _) |>.step (Frame.ok _ _)
    · rw [State.reg_ok, State.reg_raise_self, hstaged.1 _ (by decide)]
      rfl

/-! ### A command validated (R67, R72) -/

theorem State.borderResult_le (s : State) (c : BorderCmd) : s.borderResult c ≤ 4 := by
  unfold State.borderResult
  exact ite_le (by decide) (ite_le (by decide) (ite_le (by decide) (ite_le (by decide) (by decide))))

/-- SEQ counted and RESULT shown. -/
def State.borderShown (s : State) (res : Nat) : State := (s.countMod BORDER_CMD_STAT_SEQ).sf BORDER_CMD_STAT_RESULT res

theorem State.borderShown_frame (s : State) (res : Nat) : Frame [BORDER_CMD_STAT] [] s (s.borderShown res) :=
  (Frame.refl _ _ s).step (Frame.countMod _ _) |>.step (Frame.sf _ _ _)

theorem State.rf_borderShown (s : State) {res : Nat} (hres : res ≤ 4) :
    (s.borderShown res).rf BORDER_CMD_STAT_DEPTH = s.rf BORDER_CMD_STAT_DEPTH
    ∧ (s.borderShown res).rf BORDER_CMD_STAT_SEQ = (s.rf BORDER_CMD_STAT_SEQ + 1) % 65536
    ∧ (s.borderShown res).rf BORDER_CMD_STAT_RESULT = res := by
  refine ⟨?_, ?_, ?_⟩
  · rw [State.borderShown, State.rf_sf_ne _ _ (by decide) (by decide) (by decide), State.countMod,
      State.rf_sf_ne _ _ (by decide) (by decide) (by decide)]
  · rw [State.borderShown, State.rf_sf_ne _ _ (by decide) (by decide) (by decide), State.countMod,
      State.rf_sf_self _ _ _ (by decide) (by decide)]
    rfl
  · rw [State.borderShown, State.rf_sf_self _ _ _ (by decide) (by decide)]
    exact Nat.mod_eq_of_lt (by simp; omega)

theorem State.borderDone_eq (s : State) (c : BorderCmd) (res : Nat) : s.borderDone c res =
    if res = 0 then { s.borderShown res with border :=
      { (s.borderShown res).border with due := (s.borderShown res).border.due ++ [⟨(s.borderShown res).boundaryAfter us1, c⟩] } }
    else (s.borderShown res).raise BORDER_EVT_CMD_REFUSED := rfl

theorem State.borderDone_spec {c : BorderCmd} {q : List BorderCmd} {res : Nat} (hle : res ≤ 4) (hlen : q.length < 64)
    (hexec : exec i s = .next ((s.setBorderQueue q).borderDone c res)) :
    Does i s [BORDER_CMD_STAT, BORDER_EVT] [.border] fun t =>
      t.rf BORDER_CMD_STAT_DEPTH = q.length
      ∧ t.rf BORDER_CMD_STAT_SEQ = (s.rf BORDER_CMD_STAT_SEQ + 1) % 65536
      ∧ t.rf BORDER_CMD_STAT_RESULT = res
      ∧ (res = 0 → t.reg BORDER_EVT = s.reg BORDER_EVT
          ∧ t.border = { s.border with queue := q, due := s.border.due ++ [⟨s.boundaryAfter us1, c⟩] })
      ∧ (res ≠ 0 → t.reg BORDER_EVT = s.raised BORDER_EVT [BORDER_EVT_CMD_REFUSED] ∧ t.border = { s.border with queue := q }) := by
  obtain ⟨hqueue, hdepth, hseq⟩ := s.setBorderQueue_reads (q := q) (by omega)
  obtain ⟨hshownDepth, hshownSeq, hshownRes⟩ := State.rf_borderShown (s.setBorderQueue q) hle
  rw [hdepth] at hshownDepth
  rw [hseq] at hshownSeq
  have hframe : Frame [BORDER_CMD_STAT] [.border] s ((s.setBorderQueue q).borderShown res) :=
    (s.setBorderQueue_frame q).step (State.borderShown_frame _ _)
  have hborder : ((s.setBorderQueue q).borderShown res).border = { s.border with queue := q } := rfl
  have hevt : ((s.setBorderQueue q).borderShown res).reg BORDER_EVT = s.reg BORDER_EVT := hframe.1 _ (by decide)
  rw [State.borderDone_eq] at hexec
  generalize (s.setBorderQueue q).borderShown res = t at *
  by_cases hzero : res = 0
  · rw [if_pos hzero, State.boundaryAfter_congr (hframe.2 .now (by simp)) (hframe.2 .sys (by simp)), hborder] at hexec
    exact ⟨_, hexec, (hframe.mono (by simp) (by simp)).step (Frame.withBorder _ _), hshownDepth, hshownSeq, hshownRes,
      fun _ => ⟨hevt, rfl⟩, fun h => absurd hzero h⟩
  · rw [if_neg hzero] at hexec
    have hraise := Frame.raise t BORDER_EVT_CMD_REFUSED
    refine ⟨_, hexec, (hframe.mono (by simp) (by simp)).step hraise, (hraise.rf (by decide)).trans hshownDepth,
      (hraise.rf (by decide)).trans hshownSeq, (hraise.rf (by decide)).trans hshownRes, fun h => absurd h hzero, fun _ => ⟨?_, ?_⟩⟩
    · rw [State.reg_raise_self, hevt]; rfl
    · exact (hraise.2 .border (by simp)).trans hborder

theorem borderCmdValidate_spec (s : State) : (s.border.queue = [] → exec .borderCmdValidate s = .next s)
    ∧ ∀ (c : BorderCmd) (q : List BorderCmd), s.border.queue = c :: q → q.length < 64 →
      (Does .borderCmdValidate s [BORDER_CMD_STAT, BORDER_EVT] [.border] fun t =>
        t.rf BORDER_CMD_STAT_DEPTH = q.length
        ∧ t.rf BORDER_CMD_STAT_SEQ = (s.rf BORDER_CMD_STAT_SEQ + 1) % 65536
        ∧ t.rf BORDER_CMD_STAT_RESULT = s.borderResult c
        ∧ (s.borderResult c = 0 → t.reg BORDER_EVT = s.reg BORDER_EVT
            ∧ t.border = { s.border with queue := q, due := s.border.due ++ [⟨s.boundaryAfter us1, c⟩] })
        ∧ (s.borderResult c ≠ 0 → t.reg BORDER_EVT = s.raised BORDER_EVT [BORDER_EVT_CMD_REFUSED]
            ∧ t.border = { s.border with queue := q }))
      ∧ (9 < c.item → s.borderResult c = 1) ∧ (c.item < 8 → s.borderResult c = 0)
      ∧ (c.item = 9 → s.borderResult c = if 0 < c.d.b0.toInt then 0 else 4) := by
  have hexec : exec .borderCmdValidate s = .next (match s.border.queue with
    | [] => s
    | k :: q => (s.setBorderQueue q).borderDone k (s.borderResult k)) := rfl
  refine ⟨fun hnil => by rw [hexec, hnil], fun c q hcons hlen => ⟨?_, fun h => ?_, fun h => ?_, fun h => ?_⟩⟩
  · rw [hcons] at hexec
    exact State.borderDone_spec (s.borderResult_le c) hlen hexec
  · exact if_pos h
  · unfold State.borderResult
    dsimp only
    rw [if_neg (by omega), if_neg (by omega), if_neg (by omega), if_neg (by omega)]
  · unfold State.borderResult
    dsimp only
    rw [if_neg (by omega), if_neg (by omega), if_neg (by omega), sWord]
    by_cases hpos : 0 < c.d.b0.toInt <;> simp [h, hpos]

/-! ### RUN (R68) -/

theorem borderRunWrite_spec {v : Word} (hr : s.reaches a BORDER_CTL true = true) :
    Does (.borderRunWrite a v) s [BORDER_CTL] [.bus] fun t => t.bus.err = false ∧ t.flag BORDER_CTL_RUN = bitAt v 0 := by
  refine Does.of_write (t := ((s.ok 0#32).sf BORDER_CTL_RUN (bitsOf v 0 0)).ok 0#32) rfl hr rfl rfl ?_ ⟨rfl, ?_⟩
  · exact (Frame.refl _ _ s).step (Frame.ok _ _) |>.step (Frame.sf _ _ _) |>.step (Frame.ok _ _)
  · have hfield : ((s.ok 0#32).sf BORDER_CTL_RUN (bitsOf v 0 0)).rf BORDER_CTL_RUN = bitsOf v 0 0 % 2 ^ (0 + 1 - 0) :=
      State.rf_sf_self _ _ _ (by simp) (by simp)
    rw [bitAt_eq_bitsOf, State.flag, State.rf, State.reg_ok, ← State.rf, hfield, Nat.mod_eq_of_lt (bitsOf_lt v 0 0)]

/-! ### An uncorrectable error in a record (R70, R539) -/

/-- One item's rewrite queued, or dropped. -/
def State.itemQueued (b : Nat) (s : State) (item : Nat) : State :=
  if 64 ≤ s.border.queue.length then s.raise BORDER_EVT_CMD_OVF else s.setBorderQueue (s.border.queue ++ [s.itemRewrite b item])

theorem State.recordRewrite_eq (s : State) (b : Nat) : s.recordRewrite b = (List.range 10).foldl (State.itemQueued b) s := by
  unfold State.recordRewrite State.itemQueued
  simp only [Nat.ble_eq]

theorem State.itemQueued_frame (b : Nat) (s : State) (item : Nat) : Frame [BORDER_CMD_STAT, BORDER_EVT] [.border] s (s.itemQueued b item) :=
  ((Frame.refl _ _ s).step (Frame.raise _ _)).ite ((Frame.refl _ _ s).step (State.setBorderQueue_frame _ _))

theorem State.recordRewrite_frame (s : State) (b : Nat) : Frame [BORDER_CMD_STAT, BORDER_EVT] [.border] s (s.recordRewrite b) := by
  rw [State.recordRewrite_eq]
  exact (Frame.refl _ _ s).foldl fun u item _ => u.itemQueued_frame b item

/-- The rewrite leaves every record, and no event is cleared. -/
theorem State.recordRewrite_keeps (s : State) (b : Nat) (hue : s.flag BORDER_EVT_ECC_UE = true) :
    (s.recordRewrite b).border = { s.border with queue := (s.recordRewrite b).border.queue }
    ∧ (s.recordRewrite b).flag BORDER_EVT_ECC_UE = true := by
  rw [State.recordRewrite_eq]
  refine List.foldlRecOn (motive := fun t : State => t.border = { s.border with queue := t.border.queue } ∧ t.flag BORDER_EVT_ECC_UE = true)
    (List.range 10) (State.itemQueued b) ⟨rfl, hue⟩ fun t ⟨hborder, hflag⟩ item _ => ?_
  unfold State.itemQueued
  split
  · exact ⟨hborder, (congrArg (· == 1) (State.rf_raise_ne _ (by decide) (by decide) (by decide))).trans hflag⟩
  · refine ⟨?_, (congrArg (· == 1) ((State.setBorderQueue_frame _ _).rf (by decide))).trans hflag⟩
    generalize t.border.queue ++ [t.itemRewrite b item] = q
    rw [show (t.setBorderQueue q).border = { t.border with queue := q } from rfl, hborder]

/-- With room in the queue every item's rewrite joins it. -/
theorem State.foldl_itemQueued (b : Nat) (l : List Nat) (s : State) (hlen : s.border.queue.length + l.length ≤ 64) :
    Frame [BORDER_CMD_STAT] [.border] s (l.foldl (State.itemQueued b) s)
    ∧ (l.foldl (State.itemQueued b) s).border.queue = s.border.queue ++ l.map (s.itemRewrite b) := by
  induction l generalizing s with
  | nil => exact ⟨Frame.refl _ _ s, (List.append_nil _).symm⟩
  | cons item l ih =>
    rw [List.length_cons] at hlen
    have hstep : s.itemQueued b item = s.setBorderQueue (s.border.queue ++ [s.itemRewrite b item]) := if_neg (by omega)
    have hqueue : (s.setBorderQueue (s.border.queue ++ [s.itemRewrite b item])).border.queue = s.border.queue ++ [s.itemRewrite b item] := rfl
    obtain ⟨hframe, hqueued⟩ := ih (s.setBorderQueue (s.border.queue ++ [s.itemRewrite b item])) (by rw [hqueue]; simp; omega)
    rw [List.foldl_cons, hstep]
    refine ⟨(s.setBorderQueue_frame _).trans hframe, ?_⟩
    rw [hqueued, hqueue, List.append_assoc]
    rfl

/-- The record muted, with its event and its channel. -/
def State.recordUe (s : State) (b : Nat) : State :=
  ((s.setChan b { s.chan b with muted := true, left := List.range 10 }).raise BORDER_EVT_ECC_UE).sf BORDER_ECC_CH_CH b

theorem State.recordUe_frame (s : State) (b : Nat) : Frame [BORDER_EVT, BORDER_ECC_CH] [.border] s (s.recordUe b) :=
  (Frame.refl _ _ s).step (Frame.withBorder _ _) |>.step (Frame.raise _ _) |>.step (Frame.sf _ _ _)

theorem borderRecordEccUe_spec (ch : Fin 512) (s : State) :
    let regs := [BORDER_EVT, BORDER_ECC_CH, BORDER_CMD_STAT, PWR_LADDER, PWR_EVT, TRUST_EVT, ALARM_FAULT_SW]
    let on := s.hubUp && s.power.wardenUp && Nat.blt (s.recent2 15 ch.val) 3
    Does (.borderRecordEccUe ch) s regs [.border, .trust, .power] fun t =>
      t.border = { s.border with chans := t.border.chans, queue := t.border.queue } ∧ (∀ j, j ≠ ch.val → t.chan j = s.chan j)
      ∧ t.chan ch.val = { s.chan ch.val with muted := true, left := List.range 10 }
      ∧ t.flag BORDER_EVT_ECC_UE = true ∧ t.rf BORDER_ECC_CH_CH = ch.val
      ∧ (on = false → t.border.queue = s.border.queue ∧ t.power = s.power
          ∧ t.reg BORDER_EVT = s.raised BORDER_EVT [BORDER_EVT_ECC_UE])
      ∧ (on = true → s.border.queue.length ≤ 54 → t.flag PWR_EVT_LADDER = true
          ∧ t.reg BORDER_EVT = s.raised BORDER_EVT [BORDER_EVT_ECC_UE]
          ∧ t.recent2 15 ch.val = s.recent2 15 ch.val + 1
          ∧ t.border.queue = s.border.queue ++ (List.range 10).map fun item => s.itemRewrite ch.val item) := by
  intro regs on
  have hmarked := s.recordUe_frame ch.val
  have hevt : (s.recordUe ch.val).reg BORDER_EVT = s.raised BORDER_EVT [BORDER_EVT_ECC_UE] :=
    (State.reg_sf_ne _ (by decide) _).trans (State.reg_raise_self _ _)
  have hch : (s.recordUe ch.val).rf BORDER_ECC_CH_CH = ch.val :=
    (State.rf_sf_self _ _ _ (by decide) (by decide)).trans (Nat.mod_eq_of_lt ch.isLt)
  have hpower : (s.recordUe ch.val).power = s.power := hmarked.2 .power (by simp)
  have hon : ((s.recordUe ch.val).hubUp && (s.recordUe ch.val).power.wardenUp && Nat.blt ((s.recordUe ch.val).recent2 15 ch.val) 3) = on := by
    rw [State.hubUp_congr (hmarked.1 _ (by decide)) hpower, State.recent2_congr (hmarked.2 .now (by simp)) hpower, hpower]
  have hflag : (s.recordUe ch.val).flag BORDER_EVT_ECC_UE = true :=
    (congrArg (· == 1) (State.rf_sf_ne _ _ (by decide) (by decide) (by decide))).trans (State.flag_raise_self _ _ rfl (by decide))
  have hchan (j : Nat) : (s.recordUe ch.val).chan j =
      if j = ch.val then { s.chan ch.val with muted := true, left := List.range 10 } else s.chan j :=
    s.chan_setChan ch.val j { s.chan ch.val with muted := true, left := List.range 10 }
  have hborder : (s.recordUe ch.val).border = { s.border with chans := (s.recordUe ch.val).border.chans } := rfl
  have hitem : (s.recordUe ch.val).itemRewrite ch.val = s.itemRewrite ch.val := rfl
  have hexec : exec (.borderRecordEccUe ch) s = .next ((s.recordUe ch.val).wardenStep2 15 ch.val fun s => s.recordRewrite ch.val) := rfl
  generalize s.recordUe ch.val = m at *
  refine ⟨_, hexec, ?_⟩
  by_cases h : on = true
  · rw [State.wardenStep2_on (hon.trans h)]
    have hrew := m.recordRewrite_frame ch.val
    obtain ⟨hrewBorder, hrewFlag⟩ := m.recordRewrite_keeps ch.val hflag
    have hmark := (m.recordRewrite ch.val).mark2_frame 15 ch.val
    have hsame : ((m.recordRewrite ch.val).mark2 15 ch.val).border = (m.recordRewrite ch.val).border := hmark.2 .border (by simp)
    have hchans (j : Nat) : ((m.recordRewrite ch.val).mark2 15 ch.val).chan j = m.chan j := by
      rw [State.chan, hsame, hrewBorder]; rfl
    refine ⟨?_, ?_, fun j hj => ?_, ?_, ?_, ?_, fun hoff => absurd (h.symm.trans hoff) (by decide), fun _ hlen => ⟨State.flag_mark2 _ _ _, ?_, ?_, ?_⟩⟩
    · exact ((hmarked.mono (by simp [regs]) (by simp)).step hrew (by simp [regs])).step hmark (by simp [regs, ladderRegs])
    · rw [hsame, hrewBorder, hborder]
    · rw [hchans, hchan, if_neg hj]
    · rw [hchans, hchan, if_pos rfl]
    · rw [State.flag, hmark.rf (by decide)]; exact hrewFlag
    · exact ((hmark.rf (by decide)).trans (hrew.rf (by decide))).trans hch
    all_goals
      have hroom : m.border.queue.length + (List.range 10).length ≤ 64 := by rw [hborder, List.length_range]; exact Nat.add_le_add_right hlen 10
      obtain ⟨hqueueFrame, hqueued⟩ := State.foldl_itemQueued ch.val (List.range 10) m hroom
    · rw [hmark.1 _ (by decide), State.recordRewrite_eq, hqueueFrame.1 _ (by decide)]
      exact hevt
    · rw [State.recent2_mark2, State.recent2_congr (hrew.2 .now (by simp)) (hrew.2 .power (by simp)),
        State.recent2_congr (hmarked.2 .now (by simp)) hpower]
    · rw [hsame, State.recordRewrite_eq, hqueued, hitem, hborder]
  · have hoff := State.wardenStep2_off_frame (act := fun s => s.recordRewrite ch.val) (hon.trans (Bool.eq_false_iff.mpr h))
    generalize m.wardenStep2 15 ch.val (fun s => s.recordRewrite ch.val) = t at hoff ⊢
    have hsame : t.border = m.border := hoff.2 .border (by simp)
    have hchans (j : Nat) : t.chan j = m.chan j := by rw [State.chan, hsame]; rfl
    refine ⟨?_, ?_, fun j hj => ?_, ?_, ?_, ?_, fun _ => ⟨?_, ?_, ?_⟩, fun hon => absurd hon h⟩
    · exact (hmarked.mono (by simp [regs]) (by simp)).step hoff (by simp [regs])
    · rw [hsame, hborder]
    · rw [hchans, hchan, if_neg hj]
    · rw [hchans, hchan, if_pos rfl]
    · rw [State.flag, hoff.rf (by decide)]; exact hflag
    · exact (hoff.rf (by decide)).trans hch
    · rw [hsame, hborder]
    · exact (hoff.2 .power (by simp)).trans hpower
    · exact (hoff.1 _ (by decide)).trans hevt

/-- Settles O8: commands are queued, validated and rewritten as the statement says; the ten rewrites that an uncorrectable record
queues at once are log 130. -/
theorem borderCommands : Obligations.BorderCommands := by
  refine ⟨fun a ch k it d0 d1 d2 d3 d4 clr i c s hi => ?_, borderCmdValidate_spec, fun a v s hr => borderRunWrite_spec hr,
    fun a v s ha hacc => border_denied (f := fun s => s.borderRunWrite v) rfl (by decide) (by decide) ha hacc, borderRecordEccUe_spec⟩
  simp only [List.mem_cons, Prod.mk.injEq, List.not_mem_nil, or_false] at hi
  have hk := k.isLt
  have hit := it.isLt
  rcases hi with ⟨rfl, rfl⟩ | ⟨rfl, rfl⟩ | ⟨rfl, rfl⟩ | ⟨rfl, rfl⟩
  · exact borderCmd_spec rfl ch.isLt (show k.val < 16 by omega)
  · exact borderCmd_spec rfl ch.isLt (show 8 < 16 by decide)
  · exact borderCmd_spec rfl ch.isLt (show 9 < 16 by decide)
  · exact borderCmd_spec rfl ch.isLt (show 10 + it.val < 16 by omega)

end Sys2Proof.Machine
end

section
/-! SUPPORT. Proofs/BorderPass.lean: a Border pass serves every bound channel once (R21, R62 to R65, R539). -/
-- The proofs of this file are elaborated one after another: side by side their threads exceed the memory of the check.
set_option Elab.async false
namespace Sys2Proof.Machine

open Reg

/-! ### A listed entry of a sparse map replaced -/

theorem mdrop_eq_self {α : Type} {k : Nat} {m : SMap α} (h : ∀ e ∈ m, k < e.1) : mdrop k m = m := by
  induction m with
  | nil => rfl
  | cons e t ih =>
    have hne : e.1 ≠ k := by have := h e (by simp); omega
    obtain ⟨k', v'⟩ := e
    rw [mdrop, if_neg hne, ih fun x hx => h x (by simp [hx])]

theorem mput_least {α : Type} {k : Nat} {v : α} {m : SMap α} (h : ∀ e ∈ m, k < e.1) : mput k v m = (k, v) :: m := by
  cases m with
  | nil => rfl
  | cons e t => exact if_pos (h e (by simp))

theorem mset_of_mem {α : Type} [DecidableEq α] {d : Nat → α} {m : SMap α} {k : Nat} {v : α} (hm : m.Pairwise fun a b => a.1 < b.1)
    (hk : k ∈ m.map (·.1)) (hv : v ≠ d k) : mset d m k v = m.map fun e => if e.1 = k then (k, v) else e := by
  rw [mset, if_neg hv]
  induction m with
  | nil => simp at hk
  | cons e t ih =>
    obtain ⟨k', v'⟩ := e
    obtain ⟨hhead, htail⟩ := List.pairwise_cons.mp hm
    by_cases h : k' = k
    · subst h
      have hkeep : (t.map fun e => if e.1 = k' then (k', v) else e) = t := by
        refine (List.map_congr_left fun e he => if_neg ?_).trans (List.map_id t)
        have := hhead e he
        omega
      rw [mdrop, if_pos rfl, mdrop_eq_self hhead, mput_least hhead, List.map_cons, if_pos rfl, hkeep]
    · have hin : k ∈ t.map (·.1) := by
        rcases List.mem_cons.mp hk with hk | hk
        · exact absurd hk.symm h
        · exact hk
      have hlt : ¬k < k' := by
        obtain ⟨e, he, rfl⟩ := List.mem_map.mp hin
        exact Nat.lt_asymm (hhead e he)
      rw [mdrop, if_neg h, mput, if_neg hlt, ih htail hin, List.map_cons, if_neg h]

theorem mget_of_mem {α : Type} {d : Nat → α} {m : SMap α} (hm : m.Pairwise fun a b => a.1 < b.1) {e : Nat × α} (he : e ∈ m) :
    mget d m e.1 = e.2 := by
  induction m with
  | nil => simp at he
  | cons x t ih =>
    obtain ⟨hhead, htail⟩ := List.pairwise_cons.mp hm
    rcases List.mem_cons.mp he with rfl | h
    · exact if_pos rfl
    · have := hhead e h
      exact (if_neg (by omega)).trans (ih htail h)

theorem mem_keys_of_mget {α : Type} {d : Nat → α} {m : SMap α} {k : Nat} (h : mget d m k ≠ d k) : k ∈ m.map (·.1) := by
  induction m with
  | nil => exact absurd rfl h
  | cons e t ih =>
    obtain ⟨k', v'⟩ := e
    by_cases hk : k' = k
    · simp [hk]
    · exact List.mem_cons_of_mem _ (ih (by rwa [mget, if_neg hk] at h))

/-! ### What binds a slot (R65) -/

/-- The records' CTL words, which decide what is bound. -/
def ctlsOf (m : SMap Chan) : List (Nat × Word) := m.map fun e => (e.1, e.2.ctl)

theorem State.boundTo_eq (s : State) (slot : Nat) : s.boundTo slot = if slot < 4096 && s.hasSink slot then
    ((ctlsOf s.border.chans).find? fun e => e.2 != 0#32 && bitsOf e.2 12 0 == slot).map (·.1) else none := by
  rw [State.boundTo, ctlsOf, List.find?_map, Option.map_map]
  rfl

theorem State.boundTo_congr {s t : State} (hctl : ctlsOf t.border.chans = ctlsOf s.border.chans) (hstreams : t.streams = s.streams)
    (slot : Nat) : t.boundTo slot = s.boundTo slot := by
  rw [State.boundTo_eq, State.boundTo_eq, hctl]
  by_cases hslot : slot < 4096
  · have hsink : t.hasSink slot = s.hasSink slot := by
      rw [State.hasSink, State.hasSink, State.bindingOf, State.bindingOf, hstreams]
      simp only [hslot, if_true]
    rw [hsink]
  · simp [hslot]

/-- A slot that a record binds is bound to a listed record that names it. -/
theorem State.mem_of_boundTo {s : State} {slot b : Nat} (h : s.boundTo slot = some b) : b ∈ s.border.chans.map (·.1) := by
  rw [State.boundTo] at h
  split at h
  · obtain ⟨e, he, rfl⟩ := Option.map_eq_some_iff.mp h
    exact List.mem_map_of_mem (List.mem_of_find?_eq_some he)
  · simp at h

/-- A record that a slot is bound to has a CTL word. -/
theorem State.ctl_of_boundTo {s : State} {b : Nat} (hm : mwf (fun _ => Chan.empty) s.border.chans = true) {slot : Nat}
    (h : s.boundTo slot = some b) : (s.chan b).ctl ≠ 0#32 := by
  obtain ⟨hpair, -⟩ := (mwf_iff _ _).mp hm
  rw [State.boundTo] at h
  split at h
  · obtain ⟨e, he, rfl⟩ := Option.map_eq_some_iff.mp h
    have hbinds := List.find?_some he
    rw [State.chan, mget_of_mem hpair (List.mem_of_find?_eq_some he)]
    simp only [Chan.binds, Bool.and_eq_true, bne_iff_ne, ne_eq] at hbinds
    exact hbinds.1
  · simp at h

theorem ctlsOf_mset {m : SMap Chan} {k : Nat} {c : Chan} (hm : mwf (fun _ => Chan.empty) m = true)
    (hctl : c.ctl = (mget (fun _ => Chan.empty) m k).ctl) (hne : c.ctl ≠ 0#32) : ctlsOf (mset (fun _ => Chan.empty) m k c) = ctlsOf m := by
  obtain ⟨hpair, -⟩ := (mwf_iff _ _).mp hm
  have hkey : k ∈ m.map (·.1) := mem_keys_of_mget (d := fun _ => Chan.empty) fun h => hne (hctl.trans (congrArg Chan.ctl h))
  rw [mset_of_mem hpair hkey fun h => hne (congrArg Chan.ctl h), ctlsOf, ctlsOf, List.map_map]
  refine List.map_congr_left fun e he => ?_
  by_cases h : e.1 = k
  · subst h
    rw [mget_of_mem hpair he] at hctl
    simp [hctl]
  · simp [h]

/-! ### One channel's part (R62 to R65) -/

/-- The registers of the Border's saturation. -/
def borderPassRegs : List Nat := BORDER_EVT :: regFile BORDER_SAT_MAP 16

/-- The finished sample of a slot at a sample position. -/
def State.outAt (s : State) (slot idx : Nat) : Int := mget (fun _ => 0) s.sys.out (sampleKey slot idx)

/-- The record's sample, and whether a section saturated and the output clamped. -/
def State.chanRun (s : State) (b : Nat) (sums : SMap Int) : Int × Chan × Bool × Bool :=
  (s.chan b).run s.sys.rate96 s.sys.n (mget (fun _ => 0) sums (s.chan b).slot)

/-- Whether a channel is served, and whether it runs or its slot gets zero. -/
abbrev State.served (s : State) (b : Nat) : Prop := s.boundTo (s.chan b).slot = some b
def Chan.live (c : Chan) : Bool := c.en && !c.muted

/-- The saturation of a served channel shown. -/
def State.satShown (s : State) (b : Nat) (sat clamp : Bool) : State :=
  let s := if sat then (s.raise BORDER_EVT_SAT).setBit (BORDER_SAT_MAP (b / 32)) (b % 32) else s
  if clamp then s.raise BORDER_EVT_CLAMP else s

theorem State.chanPass_eq (s : State) (b idx : Nat) (sums : SMap Int) : s.chanPass b idx sums =
    if s.boundTo (s.chan b).slot != some b then s
    else if (s.chan b).live then
      ((s.setChan b (s.chanRun b sums).2.1).setOut (s.chan b).slot idx (s.chanRun b sums).1).satShown b (s.chanRun b sums).2.2.1
        (s.chanRun b sums).2.2.2
    else s.setOut (s.chan b).slot idx 0 := rfl

theorem State.satShown_frame (s : State) {b : Nat} (hb : b < 512) (sat clamp : Bool) : Frame borderPassRegs [] s (s.satShown b sat clamp) := by
  have hmap : BORDER_SAT_MAP (b / 32) ∈ borderPassRegs :=
    List.mem_cons_of_mem _ (List.mem_map_of_mem (List.mem_range.mpr (by omega)))
  have hsat : Frame borderPassRegs [] s (if sat then (s.raise BORDER_EVT_SAT).setBit (BORDER_SAT_MAP (b / 32)) (b % 32) else s) :=
    ((Frame.refl _ _ s).step (Frame.raise _ _) (by simp [borderPassRegs]) |>.step (Frame.setBit _ _ _) (by simpa using hmap)).ite
      (Frame.refl _ _ s)
  exact (hsat.step (Frame.raise _ _) (by simp [borderPassRegs])).ite hsat

theorem State.chanPass_frame (s : State) {b : Nat} (hb : b < 512) (idx : Nat) (sums : SMap Int) :
    Frame borderPassRegs [.border, .sys] s (s.chanPass b idx sums) := by
  rw [State.chanPass_eq]
  refine (Frame.refl _ _ s).ite (Frame.ite ?_ ((Frame.refl _ _ s).step (Frame.withSys _ _)))
  exact ((Frame.refl _ _ s).step (Frame.withBorder _ _) |>.step (Frame.withSys _ _)).step (State.satShown_frame _ hb _ _) fun _ h => h

/-- What serving one channel leaves of the Border and of the finished samples. -/
structure ChanServed (b idx : Nat) (sums : SMap Int) (s t : State) : Prop where
  border : t.border = { s.border with chans := t.border.chans }
  sys : t.sys = { s.sys with out := t.sys.out }
  wf : mwf (fun _ => Chan.empty) t.border.chans = true
  ctls : ctlsOf t.border.chans = ctlsOf s.border.chans
  others : ∀ j, j ≠ b → t.chan j = s.chan j
  chan : t.chan b = if s.served b ∧ (s.chan b).live = true then (s.chanRun b sums).2.1 else s.chan b
  out : s.served b → t.outAt (s.chan b).slot idx = if (s.chan b).live = true then (s.chanRun b sums).1 else 0
  outs : ∀ slot, (s.served b → slot ≠ (s.chan b).slot) → t.outAt slot idx = s.outAt slot idx

theorem State.outAt_setOut (s : State) (slot slot' idx : Nat) (v : Int) :
    (s.setOut slot idx v).outAt slot' idx = if slot' = slot then v else s.outAt slot' idx := by
  have hkey : sampleKey slot' idx = sampleKey slot idx ↔ slot' = slot := by unfold sampleKey; omega
  rw [State.outAt, State.setOut, mget_mset]
  exact if_congr hkey rfl rfl

theorem State.chanPass_served (s : State) {b : Nat} (hb : b < 512) (idx : Nat) (sums : SMap Int)
    (hm : mwf (fun _ => Chan.empty) s.border.chans = true) : ChanServed b idx sums s (s.chanPass b idx sums) := by
  rw [State.chanPass_eq]
  by_cases hserved : s.boundTo (s.chan b).slot = some b
  · rw [if_neg (by simp [hserved])]
    by_cases hlive : (s.chan b).live = true
    · rw [if_pos hlive]
      have hctl : (s.chan b).ctl ≠ 0#32 := s.ctl_of_boundTo hm hserved
      have hsame : (s.chanRun b sums).2.1.ctl = (s.chan b).ctl := rfl
      have hshown := ((s.setChan b (s.chanRun b sums).2.1).setOut (s.chan b).slot idx (s.chanRun b sums).1).satShown_frame hb
        (s.chanRun b sums).2.2.1 (s.chanRun b sums).2.2.2
      have hborder : _ = (s.setChan b (s.chanRun b sums).2.1).border := hshown.2 .border (by simp)
      have hsys : _ = (s.setOut (s.chan b).slot idx (s.chanRun b sums).1).sys := hshown.2 .sys (by simp)
      generalize ((s.setChan b (s.chanRun b sums).2.1).setOut (s.chan b).slot idx (s.chanRun b sums).1).satShown b
        (s.chanRun b sums).2.2.1 (s.chanRun b sums).2.2.2 = t at hborder hsys ⊢
      have hchan (j : Nat) : t.chan j = if j = b then (s.chanRun b sums).2.1 else s.chan j := by
        rw [State.chan, hborder]; exact State.chan_setChan _ _ _ _
      have hout (slot : Nat) : t.outAt slot idx = if slot = (s.chan b).slot then (s.chanRun b sums).1 else s.outAt slot idx := by
        rw [State.outAt, hsys]; exact State.outAt_setOut _ _ _ _ _
      refine ⟨?_, ?_, ?_, ?_, fun j hj => ?_, ?_, fun _ => ?_, fun slot h => ?_⟩
      · rw [hborder]; rfl
      · rw [hsys]; rfl
      · rw [hborder]; exact mwf_mset hm _ _
      · rw [hborder]; exact ctlsOf_mset hm hsame (by rwa [hsame])
      · rw [hchan, if_neg hj]
      · rw [hchan, if_pos rfl, if_pos ⟨hserved, hlive⟩]
      · rw [hout, if_pos rfl, if_pos hlive]
      · rw [hout, if_neg (h hserved)]
    · rw [if_neg hlive]
      refine ⟨rfl, rfl, hm, rfl, fun _ _ => rfl, (if_neg fun h => hlive h.2).symm, fun _ => ?_, fun slot h => ?_⟩
      · rw [State.outAt_setOut, if_pos rfl, if_neg hlive]
      · rw [State.outAt_setOut, if_neg (h hserved)]
  · rw [if_pos (by simpa using hserved)]
    exact ⟨rfl, rfl, hm, rfl, fun _ _ => rfl, (if_neg fun h => hserved h.1).symm, fun h => absurd h hserved, fun _ _ => rfl⟩

/-! ### The pass (R21, R62) -/

/-- What serving the channels of a list leaves. -/
structure ChansServed (l : List Nat) (idx : Nat) (sums : SMap Int) (s t : State) : Prop where
  frame : Frame borderPassRegs [.border, .sys] s t
  border : t.border = { s.border with chans := t.border.chans }
  sys : t.sys = { s.sys with out := t.sys.out }
  chan : ∀ b, t.chan b = if b ∈ l ∧ s.served b ∧ (s.chan b).live = true then (s.chanRun b sums).2.1 else s.chan b
  out : ∀ b ∈ l, s.served b → t.outAt (s.chan b).slot idx = if (s.chan b).live = true then (s.chanRun b sums).1 else 0
  outs : ∀ slot, (∀ b ∈ l, s.served b → slot ≠ (s.chan b).slot) → t.outAt slot idx = s.outAt slot idx

theorem State.foldl_chanPass (idx : Nat) (sums : SMap Int) (l : List Nat) (s : State) (hl : l.Nodup) (hlt : ∀ b ∈ l, b < 512)
    (hm : mwf (fun _ => Chan.empty) s.border.chans = true) :
    ChansServed l idx sums s (l.foldl (fun s b => s.chanPass b idx sums) s) := by
  induction l generalizing s with
  | nil => exact ⟨Frame.refl _ _ s, rfl, rfl, fun b => (if_neg (by simp)).symm, by simp, fun _ _ => rfl⟩
  | cons b l ih =>
    obtain ⟨hb, hnodup⟩ := List.nodup_cons.mp hl
    have hstep := s.chanPass_served (hlt b (by simp)) idx sums hm
    have hframe := s.chanPass_frame (hlt b (by simp)) idx sums
    have hrest := ih (s.chanPass b idx sums) hnodup (fun j hj => hlt j (by simp [hj])) hstep.wf
    rw [List.foldl_cons]
    generalize s.chanPass b idx sums = m at hstep hframe hrest ⊢
    generalize l.foldl (fun s b => s.chanPass b idx sums) m = t at hrest ⊢
    have hbound (slot : Nat) : m.boundTo slot = s.boundTo slot := State.boundTo_congr hstep.ctls (hframe.2 .streams (by simp)) slot
    have hchan (j : Nat) (hj : j ∈ l) : m.chan j = s.chan j := hstep.others j fun h => hb (h ▸ hj)
    have hserved (j : Nat) (hj : j ∈ l) : m.served j ↔ s.served j := by rw [State.served, State.served, hchan j hj, hbound]
    have hrun (j : Nat) (hj : j ∈ l) : m.chanRun j sums = s.chanRun j sums := by
      rw [State.chanRun, State.chanRun, hchan j hj, hstep.sys]
    have hdistinct (j : Nat) (hj : j ∈ l) (hsj : s.served j) (hsb : s.served b) : (s.chan b).slot ≠ (s.chan j).slot := by
      intro h
      rw [State.served, h] at hsb
      exact hb (Option.some.inj (hsb.symm.trans hsj) ▸ hj)
    refine ⟨hframe.trans hrest.frame, ?_, ?_, fun j => ?_, fun j hj hsj => ?_, fun slot h => ?_⟩
    · rw [hrest.border, hstep.border]
    · rw [hrest.sys, hstep.sys]
    · rw [hrest.chan]
      by_cases hj : j ∈ l
      · exact if_congr (by rw [hserved j hj, hchan j hj]; simp [hj]) (by rw [hrun j hj]) (hchan j hj)
      · rw [if_neg fun h => hj h.1]
        by_cases hjb : j = b
        · subst hjb
          rw [hstep.chan]
          exact if_congr (by simp) rfl rfl
        · rw [hstep.others j hjb, if_neg fun h => (List.mem_cons.mp h.1).elim hjb hj]
    · rcases List.mem_cons.mp hj with rfl | hj
      · rw [hrest.outs _ fun k hk hsk => ?_, hstep.out hsj]
        rw [hchan k hk]
        exact hdistinct k hk ((hserved k hk).mp hsk) hsj
      · have hout := hrest.out j hj ((hserved j hj).mpr hsj)
        rwa [hchan j hj, hrun j hj] at hout
    · rw [hrest.outs slot fun k hk hsk => ?_, hstep.outs slot fun hsb => h b (by simp) hsb]
      rw [hchan k hk]
      exact h k (by simp [hk]) ((hserved k hk).mp hsk)

/-- Settles O9: the oldest pass is taken, and while the Border runs every bound channel is served once. -/
theorem borderPassServesChannels : Obligations.BorderPassServesChannels := by
  intro s
  have hexec : exec .borderPass s = .next s.borderPass := rfl
  refine ⟨fun hnil => ?_, fun idx sums rest hsums => ⟨fun hoff => ?_, fun hon hwf hlt => ?_⟩⟩
  · rw [hexec, State.borderPass, hnil]
  · refine ⟨{ s with weave := { s.weave with sums := rest } }, ?_, Frame.withWeave s _, rfl⟩
    rw [hexec, State.borderPass, hsums]
    dsimp only
    rw [if_neg (by simp [hoff])]
  · intro regs
    obtain ⟨hpair, -⟩ := (mwf_iff _ _).mp hwf
    have hnodup : (s.border.chans.map (·.1)).Nodup := List.pairwise_map.mpr (hpair.imp fun h => Nat.ne_of_lt h)
    have hkeys : ∀ b ∈ s.border.chans.map (·.1), b < 512 := by
      intro b hb
      obtain ⟨e, he, rfl⟩ := List.mem_map.mp hb
      exact hlt e he
    have hpass := State.foldl_chanPass idx sums (s.border.chans.map (·.1)) { s with weave := { s.weave with sums := rest } } hnodup hkeys hwf
    have hrun : exec .borderPass s = .next ((List.foldl (fun (u : State) (b : Nat) => u.chanPass b idx sums)
        { s with weave := { s.weave with sums := rest } } (s.border.chans.map (·.1))).readRange 0x0500180000 0x05001BFFFF) := by
      rw [hexec, State.borderPass, hsums]
      dsimp only
      rw [if_pos hon]
    generalize List.foldl (fun (u : State) (b : Nat) => u.chanPass b idx sums) { s with weave := { s.weave with sums := rest } } (s.border.chans.map Prod.fst) = t
      at hpass hrun
    have hframe : Frame regs [.weave, .border, .sys] s t :=
      ((Frame.withWeave s _).mono (by simp) (by simp)).step hpass.frame fun _ h => h
    have hread := t.readRange_frame 0x0500180000 0x05001BFFFF
    have hborder : (t.readRange 0x0500180000 0x05001BFFFF).border = t.border := hread.2 .border (by simp)
    have hsys : (t.readRange 0x0500180000 0x05001BFFFF).sys = t.sys := hread.2 .sys (by simp)
    have hchan (b : Nat) : (t.readRange 0x0500180000 0x05001BFFFF).chan b = t.chan b := by rw [State.chan, hborder]; rfl
    have hweave : t.weave = { s.weave with sums := rest } := hpass.frame.2 .weave (by simp)
    have hserved (b : Nat) (h : s.boundTo (s.chan b).slot = some b) : b ∈ s.border.chans.map (·.1) := State.mem_of_boundTo h
    refine ⟨_, hrun, ?_, fun hecc => ?_, (hread.2 .weave (by simp)).trans hweave, ?_, ?_, fun b hb hbound hen hmute => ⟨?_, ?_⟩,
      fun b hb hbound hoff => ⟨?_, ?_⟩, fun b hbound => ?_⟩
    · exact (hframe.mono (fun _ h => List.mem_append_left _ h) (by simp)).step hread fun _ h => List.mem_append_right _ h
    · rw [t.readRange_nil _ _ ((hframe.2 .ecc (by simp)).trans hecc)]; exact hframe
    · rw [hborder, hpass.border]
    · rw [hsys, hpass.sys]
    · have hlive : (s.chan b).live = true := by simp [Chan.live, hen, hmute]
      rw [hchan, hpass.chan, if_pos ⟨hserved b hbound, hbound, hlive⟩]
      rfl
    · have hlive : (s.chan b).live = true := by simp [Chan.live, hen, hmute]
      rw [hsys]
      exact (hpass.out b (hserved b hbound) hbound).trans (if_pos hlive)
    · have hlive : ¬(s.chan b).live = true := by rcases hoff with h | h <;> simp [Chan.live, h]
      rw [hchan, hpass.chan, if_neg fun h => hlive h.2.2]
      rfl
    · have hlive : ¬(s.chan b).live = true := by rcases hoff with h | h <;> simp [Chan.live, h]
      rw [hsys]
      exact (hpass.out b (hserved b hbound) hbound).trans (if_neg hlive)
    · rw [hchan, hpass.chan, if_neg fun h => hbound h.2.1]
      rfl

end Sys2Proof.Machine
end

section
/-! SUPPORT. Proofs/ClusterSeq.lean: wales, the overflow summary, the digest and the comparison with CL_WCC (R131, R147, R148,
R153). -/
-- The proofs of this file are elaborated one after another: side by side their threads exceed the memory of the check.
set_option Elab.async false
namespace Sys2Proof.Machine

open Reg

variable {s t : State} {c : Nat}

/-! ### Folds over stakes whose steps differ by the stake's number -/

/-- A fold over distinct stakes whose steps keep a property of the state and each change their own stake alone. -/
theorem State.foldl_stakes_each {f : State → Nat → State} {g : Nat → Stake → Stake} {P : State → Prop} {l : List Nat}
    (hf : ∀ t k, k ∈ l → P t → P (f t k) ∧ ∀ j, (f t k).stake j = if j = k then g k (t.stake k) else t.stake j)
    (hl : l.Nodup) {s : State} (hs : P s) :
    P (l.foldl f s) ∧ ∀ j, (l.foldl f s).stake j = if j ∈ l then g j (s.stake j) else s.stake j := by
  induction l generalizing s with
  | nil => exact ⟨hs, by simp⟩
  | cons k l ih =>
    obtain ⟨hk, hl⟩ := List.nodup_cons.1 hl
    obtain ⟨hP, hstake⟩ := hf s k List.mem_cons_self hs
    obtain ⟨hP', hrest⟩ := ih (fun t i hi => hf t i (List.mem_cons_of_mem k hi)) hl hP
    refine ⟨hP', fun j => ?_⟩
    rw [List.foldl_cons, hrest, hstake]
    by_cases hj : j = k
    · subst hj
      simp [hk]
    · simp [hj]

/-! ### The start of a wale (R107, R131) -/

/-- A stake started at an entry address. -/
def Stake.started (x : Stake) (entry : Nat) : Stake :=
  { x with
    run := .running, entry := entry, cyc := 1, hz := [], reqs := [], frz := [], doneAt := none,
    arch := { x.arch with
      pc := entry, levels := [], ret := [], rovg := false, rsat := false, raccv := false, stores := [], due := [], ovgAt := 0,
      accvAt := 0 } }

/-- Whether the start of a wale starts a stake. -/
def State.starts (s : State) (w k : Nat) (x : Stake) : Bool :=
  s.schedWale k == w && (s.schedEn k && (x.run == .held || x.run == .done))

/-- What the start of a wale keeps. -/
structure StartKeeps (s t : State) : Prop where
  frame : Frame [] [.compute] s t
  clusters : t.compute.clusters = s.compute.clusters
  regions : t.compute.regions = s.compute.regions

theorem State.schedEn_congr (h : Frame [] [.compute] s t) (k : Nat) : t.schedEn k = s.schedEn k := by
  rw [State.schedEn, State.schedEn, State.flag, State.flag, h.rf (by simp)]

theorem State.schedWale_congr (h : Frame [] [.compute] s t) (k : Nat) : t.schedWale k = s.schedWale k := h.rf (by simp)

theorem State.startWale_spec (s : State) (c w : Nat) : StartKeeps s (s.startWale c w)
    ∧ ∀ j, (s.startWale c w).stake j =
      if j ∈ stakesOf c then (if s.starts w j (s.stake j) then (s.stake j).started (s.schedEntry j) else s.stake j) else s.stake j := by
  refine State.foldl_stakes_each (g := fun k x => if s.starts w k x then x.started (s.schedEntry k) else x) (P := StartKeeps s)
    (fun t k _ ht => ?_) (nodup_stakesOf c) ⟨Frame.refl _ _ s, rfl, rfl⟩
  have hen := State.schedEn_congr ht.frame k
  have hwale := State.schedWale_congr ht.frame k
  have hentry : t.schedEntry k = s.schedEntry k := ht.frame.rf (by simp)
  have hstep : (if t.schedWale k = w then t.startStake k else t) =
      if s.starts w k (t.stake k) then t.setStake k ((t.stake k).started (s.schedEntry k)) else t := by
    unfold State.startStake State.starts
    dsimp only
    rw [hen, hwale, hentry]
    by_cases hw : s.schedWale k = w <;> simp [hw, Stake.started]
  rw [hstep]
  by_cases h : s.starts w k (t.stake k) = true
  · simp only [h, if_true]
    exact ⟨⟨ht.frame.step (Frame.setStake _ _ _), ht.clusters, ht.regions⟩, fun j => State.stake_setStake_ite _ _ _ _⟩
  · simp only [h]
    refine ⟨ht, fun j => ?_⟩
    by_cases hj : j = k
    · rw [hj]; simp
    · simp [hj]

theorem State.le_foldl_max (f : Nat → Nat) {k : Nat} {l : List Nat} (h : k ∈ l) (m : Nat) : f k ≤ l.foldl (fun m k => max m (f k)) m := by
  have hstart (l : List Nat) (m : Nat) : m ≤ l.foldl (fun m k => max m (f k)) m := by
    induction l generalizing m with
    | nil => exact Nat.le_refl m
    | cons a l ih => exact Nat.le_trans (Nat.le_max_left _ _) (ih _)
  induction l generalizing m with
  | nil => simp at h
  | cons a l ih =>
    rcases List.mem_cons.mp h with rfl | h
    · exact Nat.le_trans (Nat.le_max_right _ _) (hstart l _)
    · exact ih h _

theorem State.mem_waleStakes {w k : Nat} : k ∈ s.waleStakes c w ↔ k / 8 = c ∧ s.schedEn k = true ∧ s.schedWale k = w := by
  simp [State.waleStakes, mem_stakesOf]

theorem State.cluster_setCluster_ne (s : State) {c j : Nat} (x : Cluster) (h : j ≠ c) : (s.setCluster c x).cluster j = s.cluster j :=
  mget_mset_ne _ _ h _

theorem waleStart_spec (c : Fin 16) (s : State) (hrun : s.clState c.val = clRunning) (hbudget : (s.cluster c.val).budget = false)
    (hfaulted : (s.cluster c.val).faulted = false) (hwale : (s.cluster c.val).wale < s.lastWale c.val) :
    let w := (s.cluster c.val).wale
    ((∀ k, k / 8 = c.val → s.schedEn k = true → s.schedWale k = w → (s.stake k).run = .done) →
      Does (.waleStart c) s [] [.compute] fun t =>
        (∀ j, j ≠ c.val → t.cluster j = s.cluster j) ∧ t.compute.regions = s.compute.regions
        ∧ (∃ b, t.cluster c.val = { s.cluster c.val with wale := w + 1, base := b }
            ∧ (∀ k, k / 8 = c.val → s.schedEn k = true → s.schedWale k = w → (s.cluster c.val).base + (s.stake k).cycLast ≤ b))
        ∧ ∀ k, if k / 8 = c.val ∧ s.schedEn k = true ∧ s.schedWale k = w + 1
              ∧ ((s.stake k).run = .held ∨ (s.stake k).run = .done)
            then (t.stake k).run = .running ∧ (t.stake k).entry = s.schedEntry k ∧ (t.stake k).arch.pc = s.schedEntry k
              ∧ (t.stake k).arch.levels = [] ∧ (t.stake k).arch.ret = [] ∧ (t.stake k).arch.st = (s.stake k).arch.st
              ∧ Arch.flat (s.stake k).arch (t.stake k).arch
            else t.stake k = s.stake k)
    ∧ ((∃ k, k / 8 = c.val ∧ s.schedEn k = true ∧ s.schedWale k = w ∧ (s.stake k).run ≠ .done) →
      exec (.waleStart c) s = .next s) := by
  intro w
  have hexec : exec (.waleStart c) s = .next (if s.clState c.val = clRunning
      ∧ ((s.waleStakes c.val w).all fun k => (s.stake k).run == .done) = true ∧ (s.cluster c.val).budget = false
      ∧ (s.cluster c.val).faulted = false ∧ w < s.lastWale c.val then
        (s.setCluster c.val { s.cluster c.val with
          wale := w + 1, base := (s.cluster c.val).base + (s.waleStakes c.val w).foldl (fun m k => max m (s.stake k).cycLast) 0 }).startWale
            c.val (w + 1)
      else s) := rfl
  refine ⟨fun hdone => ?_, fun ⟨k, hk, hen, hw, hne⟩ => ?_⟩
  · have hall : ((s.waleStakes c.val w).all fun k => (s.stake k).run == .done) = true := by
      rw [List.all_eq_true]
      intro k hk
      obtain ⟨hk, hen, hw⟩ := State.mem_waleStakes.mp hk
      rw [beq_iff_eq]
      exact hdone k hk hen hw
    rw [if_pos ⟨hrun, hall, hbudget, hfaulted, hwale⟩] at hexec
    have hlast (k : Nat) (hk : k ∈ s.waleStakes c.val w) := State.le_foldl_max (fun k => (s.stake k).cycLast) hk 0
    generalize (s.waleStakes c.val w).foldl (fun m k => max m (s.stake k).cycLast) 0 = last at hexec hlast
    have hset := s.cluster_setCluster c.val { s.cluster c.val with wale := w + 1, base := (s.cluster c.val).base + last }
    have hother (j : Nat) (hj : j ≠ c.val) :=
      s.cluster_setCluster_ne { s.cluster c.val with wale := w + 1, base := (s.cluster c.val).base + last } hj
    have hframe := Frame.setCluster s c.val { s.cluster c.val with wale := w + 1, base := (s.cluster c.val).base + last }
    have hstakes (k : Nat) : (s.setCluster c.val { s.cluster c.val with wale := w + 1, base := (s.cluster c.val).base + last }).stake k
        = s.stake k := rfl
    have hregions : (s.setCluster c.val { s.cluster c.val with wale := w + 1, base := (s.cluster c.val).base + last }).compute.regions
        = s.compute.regions := rfl
    generalize s.setCluster c.val { s.cluster c.val with wale := w + 1, base := (s.cluster c.val).base + last } = m at *
    obtain ⟨hkeeps, hstake⟩ := m.startWale_spec c.val (w + 1)
    have hclusters (j : Nat) : (m.startWale c.val (w + 1)).cluster j = m.cluster j := by rw [State.cluster, hkeeps.clusters]; rfl
    refine ⟨_, hexec, hframe.trans hkeeps.frame, fun j hj => (hclusters j).trans (hother j hj), hkeeps.regions.trans hregions,
      ⟨_, (hclusters _).trans hset, fun k hk hen hw => ?_⟩, fun k => ?_⟩
    · exact Nat.add_le_add_left (hlast k (State.mem_waleStakes.mpr ⟨hk, hen, hw⟩)) _
    · have hstarts : m.starts (w + 1) k (m.stake k) = true ↔ s.schedEn k = true ∧ s.schedWale k = w + 1
          ∧ ((s.stake k).run = .held ∨ (s.stake k).run = .done) := by
        rw [State.starts, State.schedEn_congr hframe, State.schedWale_congr hframe, hstakes]
        simp only [Bool.and_eq_true, beq_iff_eq, Bool.or_eq_true]
        exact ⟨fun ⟨h1, h2, h3⟩ => ⟨h2, h1, h3⟩, fun ⟨h1, h2, h3⟩ => ⟨h2, h1, h3⟩⟩
      have hentry : m.schedEntry k = s.schedEntry k := hframe.rf (by simp)
      by_cases hk : k / 8 = c.val
      · rw [hstake, if_pos (mem_stakesOf.mpr hk)]
        by_cases h : m.starts (w + 1) k (m.stake k) = true
        · rw [if_pos ⟨hk, hstarts.mp h⟩, if_pos h, hstakes, hentry]
          exact ⟨rfl, rfl, rfl, rfl, rfl, rfl, fun _ => rfl, fun _ => rfl, fun _ => ⟨rfl, rfl, rfl, rfl⟩, rfl⟩
        · rw [if_neg fun h' => h (hstarts.mpr h'.2), if_neg h, hstakes]
      · rw [if_neg fun h => hk h.1, hstake, if_neg (mt mem_stakesOf.mp hk), hstakes]
  · rw [hexec, if_neg]
    rintro ⟨-, hall, -⟩
    have := List.all_eq_true.mp hall k (State.mem_waleStakes.mpr ⟨hk, hen, hw⟩)
    exact hne (by simpa using this)

/-! ### The digest (R152, R153) -/

theorem State.digest_of_none {k : Nat} (h : ∀ j, j / 8 = c → s.schedEn j = false) : s.digest c k = 0 := by
  have hnone : (stakesOf c).filter s.schedEn = [] := by
    rw [List.filter_eq_nil_iff]
    intro j hj
    rw [h j (mem_stakesOf.mp hj)]
    exact Bool.false_ne_true
  exact if_pos hnone

theorem digestWrite_spec (c : Fin 16) (s : State) :
    Does (.digestWrite c) s [CL_DIG_LO c.val, CL_DIG_HI c.val, CL_DIG_RND c.val] [.compute] fun t =>
      t.compute.stakes = s.compute.stakes ∧ t.compute.clusters = s.compute.clusters ∧
      t.reg (CL_DIG_LO c.val) = BitVec.ofNat 32 (s.digest c.val (s.sys.roundNo - 1))
      ∧ t.reg (CL_DIG_HI c.val) = BitVec.ofNat 32 (s.digest c.val (s.sys.roundNo - 1) / 2 ^ 32)
      ∧ t.reg (CL_DIG_RND c.val) = BitVec.ofNat 32 (s.sys.roundNo - 1)
      ∧ ((∀ k, k / 8 = c.val → s.schedEn k = false) → s.digest c.val (s.sys.roundNo - 1) = 0) := by
  generalize hd : s.digest c.val (s.sys.roundNo - 1) = d
  have hexec : exec (.digestWrite c) s = .next ((((s.linkUse (c.val / 4) 0 (s.digestBytes c.val (s.sys.roundNo - 1))).setRegN
      (CL_DIG_LO c.val) d).setRegN (CL_DIG_HI c.val) (d / 2 ^ 32)).setRegN (CL_DIG_RND c.val) (s.sys.roundNo - 1)) := by
    rw [← hd]; rfl
  refine ⟨_, hexec, ?_, rfl, rfl, ?_, ?_, ?_, fun h => hd.symm.trans (State.digest_of_none h)⟩
  · exact (Frame.refl _ _ s).step (Frame.withCompute _ _) |>.step (Frame.setRegN _ _ _) |>.step (Frame.setRegN _ _ _)
      |>.step (Frame.setRegN _ _ _)
  · exact ((State.reg_setReg_ne _ (by simp) _).trans (State.reg_setReg_ne _ (by simp) _)).trans (State.reg_setReg_self _ _ _)
  · exact (State.reg_setReg_ne _ (by simp) _).trans (State.reg_setReg_self _ _ _)
  · exact State.reg_setReg_self _ _ _

/-! ### The done signal (R148) -/

/-- A stake done, before its cycles are compared with the proof. -/
def State.doneNoted (s : State) (k cyc : Nat) : State :=
  ((s.commit (s.stake k).arch.stores).setStake k ((s.stake k).signalled cyc)).regsNote k

theorem State.doneNoted_frame (s : State) (k cyc : Nat) : Frame [] [.compute, .mem, .ecc, .pair] s (s.doneNoted k cyc) :=
  (Frame.refl _ _ s).step (s.commit_frame _) |>.step (Frame.setStake _ _ _) |>.step (State.regsNote_frame _ _)

theorem State.signalDone_eq (s : State) (k cyc : Nat) : s.signalDone k cyc =
    if s.rf (CL_WCC_WCC (k / 8) (k % 8) (s.clOp (k / 8))) < cyc then
      ((s.doneNoted k cyc).raise (CL_EVT_WCC_EXCEED (k / 8))).wardenEvent 15 [k, cyc]
    else s.doneNoted k cyc := by
  have hop : (s.doneNoted k cyc).clOp (k / 8) = s.clOp (k / 8) := (s.doneNoted_frame k cyc).rf (by simp)
  have hwcc : (s.doneNoted k cyc).rf (CL_WCC_WCC (k / 8) (k % 8) (s.clOp (k / 8))) = s.rf (CL_WCC_WCC (k / 8) (k % 8) (s.clOp (k / 8))) :=
    (s.doneNoted_frame k cyc).rf (by simp)
  have hunfold : s.signalDone k cyc =
      if (s.doneNoted k cyc).rf (CL_WCC_WCC (k / 8) (k % 8) ((s.doneNoted k cyc).clOp (k / 8))) < cyc then
        ((s.doneNoted k cyc).raise (CL_EVT_WCC_EXCEED (k / 8))).wardenEvent 15 [k, cyc]
      else s.doneNoted k cyc := rfl
  rw [hunfold, hop, hwcc]

theorem State.signalDone_frame_all (s : State) (k cyc : Nat) :
    Frame [CL_EVT (k / 8), TRUST_EVT] [.compute, .mem, .ecc, .pair, .trust] s (s.signalDone k cyc) := by
  have hnoted : Frame [CL_EVT (k / 8), TRUST_EVT] [.compute, .mem, .ecc, .pair, .trust] s (s.doneNoted k cyc) :=
    (s.doneNoted_frame k cyc).mono (by simp) (by simp)
  rw [State.signalDone_eq]
  exact (hnoted.step (Frame.raise _ _) |>.step (Frame.wardenEvent _ _ _)).ite hnoted

theorem State.signalDone_clusters (s : State) (k cyc : Nat) :
    (s.signalDone k cyc).compute.clusters = s.compute.clusters ∧ (s.signalDone k cyc).compute.regions = s.compute.regions := by
  rw [s.signalDone_compute k cyc]
  exact ⟨rfl, rfl⟩

theorem stakeDoneSignal_spec (k : Fin 128) (s : State) (d : Nat) (hrun : (s.stake k.val).run = .running)
    (hdone : (s.stake k.val).doneAt = some d) (hreqs : (s.stake k.val).reqs = []) :
    let cyc := d + 6 + ((s.stake k.val).frz.map (·.2)).sum
    (s.cluster (k.val / 8)).base + cyc ≤ s.budgetCycles (k.val / 8) →
    Does (.stakeDoneSignal k) s [CL_EVT (k.val / 8), TRUST_EVT] [.compute, .mem, .ecc, .pair, .trust] fun t =>
      (t.stake k.val).run = .done ∧ (t.stake k.val).cycLast = cyc
      ∧ (t.stake k.val).cycMax = max (s.stake k.val).cycMax cyc
      ∧ (∀ j, j ≠ k.val → t.stake j = s.stake j) ∧ t.compute.clusters = s.compute.clusters
      ∧ (if s.rf (CL_WCC_WCC (k.val / 8) (k.val % 8) (s.rf (CL_STAT_OP (k.val / 8)))) < cyc then
            t.reg (CL_EVT (k.val / 8)) = s.raised (CL_EVT (k.val / 8)) [CL_EVT_WCC_EXCEED (k.val / 8)]
              ∧ t.trust.logSeq = s.trust.logSeq + 1
          else t.trust = s.trust ∧ t.reg (CL_EVT (k.val / 8)) = s.reg (CL_EVT (k.val / 8))) := by
  intro cyc hle
  have hexec : exec (.stakeDoneSignal k) s = .next (s.signalDone k.val cyc) := by
    rw [execStakeDoneSignal_eq hdone, State.inTime_zero (by rw [State.issues, hrun]; rfl) hdone hreqs, if_pos (by simpa using hle)]
  have hstake (j : Nat) := s.stake_signalDone k.val cyc j
  have hself := (hstake k.val).trans (if_pos rfl)
  refine ⟨_, hexec, s.signalDone_frame_all _ _, by rw [hself]; rfl, by rw [hself]; rfl, by rw [hself]; rfl,
    fun j hj => (hstake j).trans (if_neg hj), (s.signalDone_clusters _ _).1, ?_⟩
  have hnoted := s.doneNoted_frame k.val cyc
  have heq := s.signalDone_eq k.val cyc
  rw [State.clOp] at heq
  rw [heq]
  by_cases hexceed : s.rf (CL_WCC_WCC (k.val / 8) (k.val % 8) (s.rf (CL_STAT_OP (k.val / 8)))) < cyc
  · rw [if_pos hexceed, if_pos hexceed]
    refine ⟨?_, ?_⟩
    · rw [(Frame.wardenEvent _ _ _).1 _ (by simp [CL_EVT, TRUST_EVT]; omega), State.reg_raise_self, hnoted.1 _ (by simp)]
      rfl
    · refine (congrArg Trust.logSeq (State.logRec_trust _ _ _)).trans ?_
      exact congrArg (fun x : Trust => x.logSeq + 1) (hnoted.2 .trust (by simp))
  · rw [if_neg hexceed, if_neg hexceed]
    exact ⟨hnoted.2 .trust (by simp), hnoted.1 _ (by simp)⟩

/-! ### The budget point: memory, and the other clusters (R132) -/

theorem State.byte_storeWord (s : State) {a b : Nat} (v : Word) (h : b < a ∨ a + 4 ≤ b) : (s.storeWord a v).byte b = s.byte b := by
  have hmem : (s.storeWord a v).byte b = (s.setWord a v).byte b :=
    ((State.frame_mirrorNote ((s.setWord a v).freshEcc a) a v false).2 .mem (by simp) b)
  rw [hmem, State.setWord, State.byte_setBytes _ _ _ _ (by rw [leBytes_length]; exact h)]

theorem State.byte_commit (s : State) {l : List PStore} {b : Nat} (h : ∀ p ∈ l, b < p.addr ∨ p.addr + 4 ≤ b) :
    (s.commit l).byte b = s.byte b :=
  foldl_inv (fun t : State => t.byte b = s.byte b) _ l s rfl fun t p hp ht => (t.byte_storeWord _ (h p hp)).trans ht

/-- No store of a cluster's stakes covers a byte. -/
def State.spares (s : State) (c b : Nat) : Prop := ∀ k, k / 8 = c → ∀ p ∈ (s.stake k).arch.stores, b < p.addr ∨ p.addr + 4 ≤ b

/-- What the end of a cluster's round leaves besides its own stakes: the other clusters, the regions, and the memory that no store of
the cluster covers. -/
structure RoundKeeps (c : Nat) (s t : State) : Prop where
  others : ∀ j, j ≠ c → t.cluster j = s.cluster j
  regions : t.compute.regions = s.compute.regions
  spares : ∀ b, s.spares c b → t.spares c b ∧ t.byte b = s.byte b
  overflow : ∀ k, (t.stake k).arch.rovg = (s.stake k).arch.rovg ∧ (t.stake k).arch.rsat = (s.stake k).arch.rsat

theorem RoundKeeps.refl (s : State) : RoundKeeps c s s := ⟨fun _ _ => rfl, rfl, fun _ h => ⟨h, rfl⟩, fun _ => ⟨rfl, rfl⟩⟩

theorem RoundKeeps.trans {u : State} (h : RoundKeeps c s t) (g : RoundKeeps c t u) : RoundKeeps c s u where
  others := fun j hj => (g.others j hj).trans (h.others j hj)
  regions := g.regions.trans h.regions
  spares := fun b hb => ⟨(g.spares b (h.spares b hb).1).1, ((g.spares b (h.spares b hb).1).2).trans (h.spares b hb).2⟩
  overflow := fun k => ⟨(g.overflow k).1.trans (h.overflow k).1, (g.overflow k).2.trans (h.overflow k).2⟩

/-- A step that leaves stakes, clusters and memory keeps all of it. -/
theorem RoundKeeps.of_frame {regs : List Nat} {pieces : List Piece} (h : Frame regs pieces s t) (hc : Piece.compute ∉ pieces)
    (hm : Piece.mem ∉ pieces) : RoundKeeps c s t := by
  have hcompute : t.compute = s.compute := h.2 .compute hc
  have hstake (k : Nat) : t.stake k = s.stake k := State.stake_congr hcompute k
  refine ⟨fun j _ => by rw [State.cluster, hcompute]; rfl, by rw [hcompute], fun b hb => ⟨?_, h.2 .mem hm b⟩,
    fun k => by rw [hstake]; exact ⟨rfl, rfl⟩⟩
  intro k hk
  rw [hstake]
  exact hb k hk

/-- A stake whose waiting stores are carried out. -/
theorem RoundKeeps.of_stores {k : Nat} {f : Stake} (hk : k / 8 = c) (hstores : f.arch.stores = [] ∨ f.arch.stores = (s.stake k).arch.stores)
    (hround : f.arch.rovg = (s.stake k).arch.rovg ∧ f.arch.rsat = (s.stake k).arch.rsat)
    (hstake : ∀ j, t.stake j = if j = k then f else s.stake j) (hothers : ∀ j, j ≠ c → t.cluster j = s.cluster j)
    (hregions : t.compute.regions = s.compute.regions) (hbyte : ∀ b, s.spares c b → t.byte b = s.byte b) : RoundKeeps c s t := by
  refine ⟨hothers, hregions, fun b hb => ⟨fun j hj => ?_, hbyte b hb⟩, fun j => ?_⟩
  · rw [hstake]
    split
    · rcases hstores with h | h
      · rw [h]; simp
      · rw [h]; exact hb k hk
    · exact hb j hj
  · rw [hstake]
    split
    · next h => rw [h]; exact hround
    · exact ⟨rfl, rfl⟩

theorem RoundKeeps.signalDone {k : Nat} (hk : k / 8 = c) (s : State) (cyc : Nat) : RoundKeeps c s (s.signalDone k cyc) := by
  obtain ⟨hclusters, hregions⟩ := s.signalDone_clusters k cyc
  refine .of_stores (f := (s.stake k).signalled cyc) hk (.inl rfl) ⟨rfl, rfl⟩ (s.stake_signalDone k cyc) (fun j _ => by rw [State.cluster, hclusters]; rfl) hregions
    fun b hb => ?_
  have hnoted : (s.doneNoted k cyc).byte b = s.byte b :=
    ((State.regsNote_frame _ k).2 .mem (by simp) b).trans (s.byte_commit (hb k hk))
  rw [State.signalDone_eq]
  split
  · exact ((Frame.wardenEvent _ _ _).2 .mem (by simp) b).trans hnoted
  · exact hnoted

theorem State.drainStores_others (s : State) (k : Nat) : (s.drainStores k).compute.clusters = s.compute.clusters
    ∧ (s.drainStores k).compute.regions = s.compute.regions := by
  unfold State.drainStores
  dsimp only
  split
  · have hcompute := s.commit_compute (s.stake k).arch.stores
    rw [State.setStake, hcompute]
    exact ⟨rfl, rfl⟩
  · exact ⟨rfl, rfl⟩

theorem State.byte_drainStores (s : State) {k b : Nat} (h : ∀ p ∈ (s.stake k).arch.stores, b < p.addr ∨ p.addr + 4 ≤ b) :
    (s.drainStores k).byte b = s.byte b := by
  unfold State.drainStores
  dsimp only
  split
  · exact s.byte_commit h
  · rfl

/-- A stake halted, before its waiting stores go. -/
def Stake.halted (x : Stake) (code pc : Nat) : Stake :=
  { x with run := .stopped, fault := code, lastPc := pc, stCopy := x.arch.st, frz := [] }

theorem State.stopStake_eq (s : State) (k code pc : Nat) : s.stopStake k code pc =
    let u := (((s.setStake k ((s.stake k).halted code pc)).drainStores k).setBit (CL_STAT (k / 8)) (k % 8)).raise (CL_EVT_FAULT (k / 8))
    u.setCluster (k / 8) { u.cluster (k / 8) with faulted := true } := rfl

/-- A stake record written with the same stores waiting. -/
theorem RoundKeeps.setStake {k : Nat} (hk : k / 8 = c) (s : State) {x : Stake} (harch : x.arch = (s.stake k).arch) :
    RoundKeeps c s (s.setStake k x) :=
  .of_stores hk (.inr (by rw [harch])) (by rw [harch]; exact ⟨rfl, rfl⟩) (fun _ => State.stake_setStake_ite _ _ _ _) (fun _ _ => rfl) rfl
    fun _ _ => rfl

/-- The stores of a stake that stops carried out. -/
theorem RoundKeeps.drainStores {k : Nat} (hk : k / 8 = c) (s : State) : RoundKeeps c s (s.drainStores k) := by
  obtain ⟨hclusters, hregions⟩ := s.drainStores_others k
  have hcluster (j : Nat) : (s.drainStores k).cluster j = s.cluster j := by rw [State.cluster, hclusters]; rfl
  refine .of_stores hk ?_ ?_ (s.stake_drainStores k) (fun j _ => hcluster j) hregions fun b hb => s.byte_drainStores (hb k hk)
  · by_cases h : (s.stake k).reqs = []
    · exact .inl (by simp [h])
    · exact .inr (by simp [h])
  · by_cases h : (s.stake k).reqs = [] <;> simp [h]

theorem RoundKeeps.setCluster (s : State) (x : Cluster) : RoundKeeps c s (s.setCluster c x) :=
  ⟨fun _ hj => s.cluster_setCluster_ne x hj, rfl, fun _ hb => ⟨hb, rfl⟩, fun _ => ⟨rfl, rfl⟩⟩

theorem RoundKeeps.stopStake {k : Nat} (hk : k / 8 = c) (s : State) (code pc : Nat) : RoundKeeps c s (s.stopStake k code pc) := by
  subst hk
  rw [State.stopStake_eq]
  have hevents (t : State) : RoundKeeps (k / 8) t ((t.setBit (CL_STAT (k / 8)) (k % 8)).raise (CL_EVT_FAULT (k / 8))) :=
    .of_frame ((Frame.refl [CL_STAT (k / 8), CL_EVT (k / 8)] [] t).step (Frame.setBit _ _ _) |>.step (Frame.raise _ _)) (by simp) (by simp)
  exact (((RoundKeeps.setStake rfl s (x := (s.stake k).halted code pc) rfl).trans (.drainStores rfl _)).trans (hevents _)).trans (.setCluster _ _)

theorem RoundKeeps.lateSignals (s : State) (c : Nat) : RoundKeeps c s (s.lateSignals c) := by
  refine foldl_inv (RoundKeeps c s) _ (stakesOf c) s (.refl s) fun t k hk ht => ?_
  split
  · split
    · exact ht.trans (.signalDone (mem_stakesOf.mp hk) t _)
    · exact ht
  · exact ht

theorem RoundKeeps.afterStops (s : State) (c : Nat) : RoundKeeps c s (s.afterStops c) := by
  have hmoved : RoundKeeps c s (s.moveTo (s.budgetInstant c)) := .of_frame (Frame.moveTo _ _) (by simp) (by simp)
  refine (hmoved.trans (.lateSignals _ c)).trans ?_
  refine foldl_inv (RoundKeeps c (s.atBudget c)) _ _ _ (.refl _) fun t k hk ht => ht.trans (.stopStake ?_ t _ _)
  exact State.cluster_of_mem_runningStakes hk

/-! ### The overflow summary (R147) -/

/-- The round copies of OVG and SAT of the enabled stakes of a cluster. -/
def State.ovfOf (s : State) (c : Nat) : Nat :=
  (stakesOf c).foldl (fun v k =>
    if s.schedEn k then v + (if (s.stake k).arch.rovg then 2 ^ (8 + k % 8) else 0) + (if (s.stake k).arch.rsat then 2 ^ (k % 8) else 0)
    else v) 0

/-- The summary and the late transfers shown. -/
def State.ovfShown (s : State) (c v : Nat) (late : Bool) : State :=
  let s := s.setRegN (CL_OVF c) v
  let s := s.setReg (CL_OVF_STK c) (s.reg (CL_OVF_STK c) ||| BitVec.ofNat 32 v)
  let s := if v != 0 then s.raise (CL_EVT_OVF c) else s
  if late then (s.raise (CL_EVT_DMA_LATE c)).countUp (CL_DMA_STAT_LATE_CNT c) else s

theorem State.ovfShown_frame (s : State) (c v : Nat) (late : Bool) :
    Frame [CL_OVF c, CL_OVF_STK c, CL_EVT c, CL_DMA_STAT c] [] s (s.ovfShown c v late) := by
  have hregs : Frame [CL_OVF c, CL_OVF_STK c, CL_EVT c, CL_DMA_STAT c] [] s
      ((s.setRegN (CL_OVF c) v).setReg (CL_OVF_STK c) ((s.setRegN (CL_OVF c) v).reg (CL_OVF_STK c) ||| BitVec.ofNat 32 v)) :=
    (Frame.refl _ _ s).step (Frame.setRegN _ _ _) |>.step (Frame.setReg _ _ _)
  have hraised := (hregs.step (Frame.raise _ (CL_EVT_OVF c))).ite (c := (v != 0) = true) hregs
  exact (hraised.step (Frame.raise _ (CL_EVT_DMA_LATE c)) |>.step (Frame.countUp _ (CL_DMA_STAT_LATE_CNT c))).ite hraised

theorem State.reg_ovfShown (s : State) (c v : Nat) (late : Bool) : (s.ovfShown c v late).reg (CL_OVF c) = BitVec.ofNat 32 v
    ∧ (s.ovfShown c v late).reg (CL_OVF_STK c) = s.reg (CL_OVF_STK c) ||| BitVec.ofNat 32 v := by
  have hevents (t : State) : Frame [CL_EVT c, CL_DMA_STAT c] [] t
      (if late then ((if v != 0 then t.raise (CL_EVT_OVF c) else t).raise (CL_EVT_DMA_LATE c)).countUp (CL_DMA_STAT_LATE_CNT c)
        else if v != 0 then t.raise (CL_EVT_OVF c) else t) := by
    have hraised := ((Frame.refl [CL_EVT c, CL_DMA_STAT c] [] t).step (Frame.raise _ (CL_EVT_OVF c))).ite (c := (v != 0) = true)
      (Frame.refl _ _ t)
    exact (hraised.step (Frame.raise _ (CL_EVT_DMA_LATE c)) |>.step (Frame.countUp _ (CL_DMA_STAT_LATE_CNT c))).ite hraised
  unfold State.ovfShown
  dsimp only
  refine ⟨?_, ?_⟩
  · rw [(hevents _).1 _ (by simp), State.reg_setReg_ne _ (by simp)]
    exact State.reg_setReg_self _ _ _
  · rw [(hevents _).1 _ (by simp), State.reg_setReg_self]
    exact congrArg (· ||| BitVec.ofNat 32 v) (State.reg_setReg_ne _ (by simp) _)

/-- The two flags of one stake in the summary. -/
def State.ovfAt (s : State) (k : Nat) (hi : Bool) : Nat :=
  (s.schedEn k && (if hi then (s.stake k).arch.rovg else (s.stake k).arch.rsat)).toNat

/-- The summary as a sum over the eight stakes. -/
theorem State.ovfOf_eq (s : State) (c : Nat) : s.ovfOf c =
    (List.range 8).foldl (fun v j => v + s.ovfAt (8 * c + j) true * 2 ^ (8 + j) + s.ovfAt (8 * c + j) false * 2 ^ j) 0 := by
  have hmod (j : Nat) (hj : j < 8) : (8 * c + j) % 8 = j := by omega
  rw [State.ovfOf, stakesOf, List.foldl_map]
  refine List.foldl_ext _ _ _ fun v j hj => ?_
  rw [hmod j (List.mem_range.mp hj), State.ovfAt, State.ovfAt]
  cases s.schedEn (8 * c + j)
  · simp
  · cases (s.stake (8 * c + j)).arch.rovg <;> cases (s.stake (8 * c + j)).arch.rsat <;> simp

/-- The number whose low bits are the values of a function. -/
def bitSum (f : Nat → Bool) : Nat → Nat
  | 0 => 0
  | n + 1 => 2 ^ n * (f n).toNat + bitSum f n

theorem bitSum_lt (f : Nat → Bool) (n : Nat) : bitSum f n < 2 ^ n := by
  induction n with
  | zero => exact Nat.one_pos
  | succ n ih =>
    have hb := Nat.mul_le_mul_left (2 ^ n) (Bool.toNat_le (f n))
    rw [bitSum, Nat.pow_succ]
    omega

theorem testBit_bitSum (f : Nat → Bool) {n j : Nat} (h : j < n) : (bitSum f n).testBit j = f j := by
  induction n with
  | zero => omega
  | succ n ih =>
    rw [bitSum, Nat.testBit_two_pow_mul_add _ (bitSum_lt f n)]
    by_cases hj : j < n
    · rw [if_pos hj, ih hj]
    · obtain rfl : j = n := by omega
      rw [if_neg hj, Nat.sub_self]
      cases f j <;> rfl

theorem foldl_bits (f g : Nat → Bool) (n : Nat) :
    (List.range n).foldl (fun v j => v + (f j).toNat * 2 ^ (8 + j) + (g j).toNat * 2 ^ j) 0 = 2 ^ 8 * bitSum f n + bitSum g n := by
  induction n with
  | zero => rfl
  | succ n ih =>
    rw [List.range_succ, List.foldl_append, ih, List.foldl_cons, List.foldl_nil, bitSum, bitSum]
    ring

theorem State.testBit_ovfOf (s : State) (c : Nat) {j : Nat} (hj : j < 8) :
    (s.ovfOf c).testBit (8 + j) = (s.schedEn (8 * c + j) && (s.stake (8 * c + j)).arch.rovg)
    ∧ (s.ovfOf c).testBit j = (s.schedEn (8 * c + j) && (s.stake (8 * c + j)).arch.rsat) := by
  have hsum : s.ovfOf c = 2 ^ 8 * bitSum (fun j => s.schedEn (8 * c + j) && (s.stake (8 * c + j)).arch.rovg) 8
      + bitSum (fun j => s.schedEn (8 * c + j) && (s.stake (8 * c + j)).arch.rsat) 8 := (s.ovfOf_eq c).trans (foldl_bits _ _ 8)
  have hlow := bitSum_lt (fun j => s.schedEn (8 * c + j) && (s.stake (8 * c + j)).arch.rsat) 8
  rw [hsum]
  constructor
  · rw [Nat.testBit_two_pow_mul_add _ hlow, if_neg (by omega), Nat.add_sub_cancel_left, testBit_bitSum _ hj]
  · rw [Nat.testBit_two_pow_mul_add _ hlow, if_pos hj, testBit_bitSum _ hj]

/-- The state whose summary the budget point takes. -/
def State.budgetNoted (s : State) (c : Nat) : State :=
  (s.afterStops c).noteBudget c ((s.atBudget c).runningStakes c != [] || (s.atBudget c).laterWale c (s.cluster c).wale)

theorem State.budgetPoint_shown (s : State) {c : Nat} (hrun : s.clState c = clRunning) (hbudget : (s.cluster c).budget = false)
    (hmissed : (s.cluster c).missed = false) :
    ∃ u, u = (s.budgetNoted c).ovfShown c ((s.budgetNoted c).ovfOf c) (s.cluster c).dmaLate
    ∧ s.budgetPoint c = u.setCluster c { u.cluster c with budget := true } := by
  unfold State.budgetPoint
  extract_lets x moved signalled late unstarted stopped noted ovf
  rw [if_pos ⟨hrun, hbudget, hmissed⟩]
  refine ⟨_, ?_, rfl⟩
  have hnoted : s.budgetNoted c = noted := rfl
  rw [hnoted]
  clear_value noted
  rfl

theorem bitAt_ofNat (v : Nat) {i : Nat} (h : i < 32) : bitAt (BitVec.ofNat 32 v) i = v.testBit i := by
  rw [bitAt, BitVec.toNat_ofNat, Nat.testBit_mod_two_pow]
  simp [h]

theorem bitAt_or (v w : Word) (i : Nat) : bitAt (v ||| w) i = (bitAt v i || bitAt w i) := by
  rw [bitAt, BitVec.toNat_or, Nat.testBit_or]
  rfl

theorem budgetPoint_spec (c : Fin 16) (s : State) (hrun : s.clState c.val = clRunning) (hbudget : (s.cluster c.val).budget = false)
    (hmissed : (s.cluster c.val).missed = false) :
    Does (.budgetPoint c) s [CL_STAT c.val, CL_EVT c.val, CL_OVF c.val, CL_OVF_STK c.val,
        CL_DMA_STAT c.val, TRUST_EVT] [.compute, .mem, .ecc, .pair, .now, .trust] fun t =>
      (∀ j, j ≠ c.val → t.cluster j = s.cluster j) ∧ t.compute.regions = s.compute.regions
      ∧ (∀ j, j < 8 →
          t.bit (CL_OVF c.val) (8 + j) = (s.schedEn (8 * c.val + j) && (s.stake (8 * c.val + j)).arch.rovg)
          ∧ t.bit (CL_OVF c.val) j = (s.schedEn (8 * c.val + j) && (s.stake (8 * c.val + j)).arch.rsat))
      ∧ (∀ i, i < 32 → t.bit (CL_OVF_STK c.val) i = (s.bit (CL_OVF_STK c.val) i || t.bit (CL_OVF c.val) i))
      ∧ ∀ a, (∀ k, k / 8 = c.val → ∀ p ∈ (s.stake k).arch.stores, a < p.addr ∨ p.addr + 4 ≤ a) → t.byte a = s.byte a := by
  obtain ⟨u, hu, hpoint⟩ := s.budgetPoint_shown hrun hbudget hmissed
  have hsignals : Frame [CL_STAT c.val, CL_EVT c.val, TRUST_EVT] [.compute, .mem, .ecc, .pair, .now, .trust] s (s.atBudget c.val) :=
    ((Frame.moveTo _ _).mono (by simp) (by simp)).step (s.atBudget_keep c.val).keeping.frame
  have hnoted : Frame [CL_STAT c.val, CL_EVT c.val, TRUST_EVT] [.compute, .mem, .ecc, .pair, .now, .trust] s (s.budgetNoted c.val) :=
    hsignals.step (s.afterStops_keep c.val).frame |>.step (State.noteBudget_frame _ _ _)
  have hkeeps : RoundKeeps c.val s (s.budgetNoted c.val) :=
    (RoundKeeps.afterStops s c.val).trans (.of_frame (State.noteBudget_frame _ _ _) (by simp) (by simp))
  have hshown := (s.budgetNoted c.val).ovfShown_frame c.val ((s.budgetNoted c.val).ovfOf c.val) (s.cluster c.val).dmaLate
  obtain ⟨hovf, hstk⟩ := (s.budgetNoted c.val).reg_ovfShown c.val ((s.budgetNoted c.val).ovfOf c.val) (s.cluster c.val).dmaLate
  rw [← hu] at hshown hovf hstk
  have hall : RoundKeeps c.val s (s.budgetPoint c.val) := by
    rw [hpoint]
    exact (hkeeps.trans (.of_frame hshown (by simp) (by simp))).trans (.setCluster _ _)
  have hset : Frame [] [.compute] u (s.budgetPoint c.val) := by rw [hpoint]; exact Frame.setCluster _ _ _
  have hen (k : Nat) : (s.budgetNoted c.val).schedEn k = s.schedEn k := by
    rw [State.schedEn, State.schedEn, State.flag, State.flag, hnoted.rf (by simp [CL_SCHED, CL_STAT, CL_EVT, TRUST_EVT]; omega)]
  have hbits (j : Nat) (hj : j < 8) := (s.budgetNoted c.val).testBit_ovfOf c.val hj
  refine ⟨_, rfl, ?_, hall.others, hall.regions, fun j hj => ?_, fun i hi => ?_, fun a ha => (hall.spares a ha).2⟩
  · exact ((hnoted.mono (by simp) (by simp)).step hshown).step hset
  · rw [State.bit, State.bit, hset.1 _ (by simp), hovf, bitAt_ofNat _ (by omega), bitAt_ofNat _ (by omega), (hbits j hj).1, (hbits j hj).2,
      hen, (hkeeps.overflow _).1, (hkeeps.overflow _).2]
    exact ⟨rfl, rfl⟩
  · rw [State.bit, State.bit, State.bit, hset.1 _ (by simp), hset.1 _ (by simp), hovf, hstk, bitAt_or, hnoted.1 _ (by simp [CL_OVF_STK, CL_STAT, CL_EVT, TRUST_EVT]; omega)]

/-- Settles O24: wales start stake by stake, the budget point latches the round copies, and a digest and a done signal show what the
statement says. -/
theorem clusterSequencer : Obligations.ClusterSequencer :=
  ⟨waleStart_spec, budgetPoint_spec, digestWrite_spec, stakeDoneSignal_spec⟩

end Sys2Proof.Machine
end

section
/-! SUPPORT. Proofs/PortReset.lean: the reset of a master port, the locks that it breaks, and its reconnection (R459). -/
-- The proofs of this file are elaborated one after another: side by side their threads exceed the memory of the check.
set_option Elab.async false
namespace Sys2Proof.Machine

open Reg

variable {s t u : State} {p : Nat}

/-! ### Locks broken (R459, R460) -/

/-- The register that records a lock as broken. -/
abbrev brokenReg (n : Nat) : Nat := if n < 32 then LOCK_BROKEN_LO else LOCK_BROKEN_HI

/-- A lock released as broken. -/
def State.breakLock (s : State) (n : Nat) : State :=
  ((s.setReg (LOCK_PEEK n) 0#32).setBit (brokenReg n) (n % 32)).raise LOCK_EVT_BROKEN

/-- The registers that breaking locks may change. -/
def lockRegs : List Nat := LOCK_BROKEN_LO :: LOCK_BROKEN_HI :: LOCK_EVT :: regFile LOCK_PEEK 64

theorem mem_lockRegs_peek {n : Nat} (h : n < 64) : LOCK_PEEK n ∈ lockRegs := by
  have : LOCK_PEEK n ∈ regFile LOCK_PEEK 64 := List.mem_map_of_mem (List.mem_range.mpr h)
  simp only [lockRegs, List.mem_cons]
  exact .inr (.inr (.inr this))

theorem State.breakLock_frame (s : State) {n : Nat} (h : n < 64) : Frame lockRegs [] s (s.breakLock n) := by
  refine (Frame.refl _ _ s).step (Frame.setReg _ _ _) (fun a ha => ?_) |>.step (Frame.setBit _ _ _) (fun a ha => ?_)
    |>.step (Frame.raise _ _) (by simp [lockRegs])
  · rw [List.mem_singleton.mp ha]; exact mem_lockRegs_peek h
  · rw [List.mem_singleton.mp ha]; unfold brokenReg; split <;> simp [lockRegs]

theorem brokenReg_lt (n : Nat) : LOCK_PEEK 63 < brokenReg n ∧ brokenReg n < LOCK_EVT := by
  unfold brokenReg
  split <;> decide

theorem peek_le {n : Nat} (h : n < 64) : LOCK_PEEK n ≤ LOCK_PEEK 63 := by
  simp only [LOCK_PEEK]
  omega

theorem peek_lt_brokenReg {n : Nat} (h : n < 64) (m : Nat) : LOCK_PEEK n < brokenReg m :=
  Nat.lt_of_le_of_lt (peek_le h) (brokenReg_lt m).1

theorem peek_lt_evt {n : Nat} (h : n < 64) : LOCK_PEEK n < LOCK_EVT :=
  Nat.lt_of_le_of_lt (peek_le h) (by decide)

theorem State.peek_breakLock (s : State) {n m : Nat} (hm : m < 64) :
    (s.breakLock n).reg (LOCK_PEEK m) = if m = n then 0#32 else s.reg (LOCK_PEEK m) := by
  rw [State.breakLock, State.reg_raise_ne _ (Nat.ne_of_lt (peek_lt_evt hm)),
    (Frame.setBit _ _ _).1 _ (by rw [List.mem_singleton]; exact Nat.ne_of_lt (peek_lt_brokenReg hm n)), State.reg_setReg]
  by_cases h : m = n
  · rw [if_pos h, if_pos (congrArg LOCK_PEEK h)]
  · rw [if_neg h, if_neg (by simp only [LOCK_PEEK]; omega)]

theorem State.bit_breakLock (s : State) {n : Nat} (hn : n < 64) (m i : Nat) :
    (s.breakLock n).bit (brokenReg m) i = (s.bit (brokenReg m) i || (brokenReg m == brokenReg n && i == n % 32)) := by
  have hevt : brokenReg m ≠ LOCK_EVT_BROKEN.reg := Nat.ne_of_lt (brokenReg_lt m).2
  rw [State.breakLock, State.bit, State.reg_raise_ne _ hevt]
  have hpeek : (s.setReg (LOCK_PEEK n) 0#32).reg (brokenReg m) = s.reg (brokenReg m) :=
    State.reg_setReg_ne s (Nat.ne_of_gt (peek_lt_brokenReg hn m)) _
  by_cases h : brokenReg m = brokenReg n
  · rw [h] at hpeek ⊢
    rw [← State.bit, State.bit_setBit _ _ _ (Nat.mod_lt _ (by decide)), State.bit, hpeek, beq_self_eq_true, Bool.true_and, ← State.bit]
  · rw [(Frame.setBit _ _ _).1 _ (by simpa using h), hpeek, beq_false_of_ne h, Bool.false_and, Bool.or_false, ← State.bit]

/-- What breaking a port's locks below one comes to. -/
structure Broken (p n : Nat) (s t : State) : Prop where
  frame : Frame lockRegs [] s t
  freed : ∀ m, m < n → s.lockOwner m = some p → t.reg (LOCK_PEEK m) = 0#32 ∧ t.bit (brokenReg m) (m % 32) = true
  others : ∀ m, m < 64 → n ≤ m ∨ s.lockOwner m ≠ some p → t.reg (LOCK_PEEK m) = s.reg (LOCK_PEEK m)

theorem State.lockOwner_congr {n : Nat} (h : t.reg (LOCK_PEEK n) = s.reg (LOCK_PEEK n)) : t.lockOwner n = s.lockOwner n := by
  rw [State.lockOwner, State.lockOwner, State.flag, State.flag, State.rf_congr (LOCK_PEEK_HELD n) h, State.rf_congr (LOCK_PEEK_OWNER n) h]

theorem Broken.step {n : Nat} (h : Broken p n s t) (hn : n < 64) :
    Broken p (n + 1) s (if t.lockOwner n = some p then t.breakLock n else t) := by
  rw [State.lockOwner_congr (h.others n hn (.inl (Nat.le_refl n)))]
  by_cases ho : s.lockOwner n = some p
  · rw [if_pos ho]
    refine ⟨h.frame.trans (t.breakLock_frame hn), fun m hm hm' => ?_, fun m hm hm' => ?_⟩
    · rw [State.peek_breakLock _ (by omega), State.bit_breakLock _ hn]
      by_cases hmn : m = n
      · simp [hmn]
      · obtain ⟨hfree, hbit⟩ := h.freed m (by omega) hm'
        rw [if_neg hmn, hbit]
        exact ⟨hfree, Bool.true_or _⟩
    · have hmn : m ≠ n := by
        rintro rfl
        rcases hm' with hlt | hne
        · omega
        · exact hne ho
      rw [State.peek_breakLock _ hm, if_neg hmn]
      exact h.others m hm (hm'.imp_left (by omega))
  · rw [if_neg ho]
    refine ⟨h.frame, fun m hm hm' => h.freed m ?_ hm', fun m hm hm' => ?_⟩
    · have : m ≠ n := fun e => ho (e ▸ hm')
      omega
    · by_cases hmn : m = n
      · exact h.others m hm (.inr (hmn ▸ ho))
      · exact h.others m hm (hm'.imp_left (by omega))

theorem State.breakLocks_spec (s : State) (p : Nat) : Broken p 64 s (s.breakLocks p) := by
  have hprefix (n : Nat) (hn : n ≤ 64) :
      Broken p n s ((List.range n).foldl (fun t n => if t.lockOwner n = some p then t.breakLock n else t) s) := by
    induction n with
    | zero => exact ⟨Frame.refl _ _ s, nofun, fun _ _ _ => rfl⟩
    | succ n ih =>
      rw [List.range_succ, List.foldl_append]
      exact (ih (by omega)).step (by omega)
  exact hprefix 64 (Nat.le_refl 64)

theorem Broken.released {n : Nat} (h : Broken p 64 s t) (hn : n < 64) (ho : s.lockOwner n = some p) :
    t.lockOwner n = none ∧ t.bit (brokenReg n) (n % 32) = true := by
  obtain ⟨hfree, hbit⟩ := h.freed n hn ho
  refine ⟨?_, hbit⟩
  rw [State.lockOwner, State.flag, State.rf, hfree]
  rfl

/-! ### The reset and the reconnection -/

/-- A port's stalled accesses without effect. -/
def State.retired (s : State) (p : Nat) : State :=
  { s with power := { s.power with stalls := s.power.stalls.map fun (x : Stall) =>
    if x.agent = p then { x with write := false, size := 0 } else x } }

/-- A port disconnected by its reset. -/
def State.disconnected (s : State) (p outst : Nat) : State :=
  (s.setReg (MATRIX_PORT_STAT p) (BitVec.ofNat 32 (2 ^ 30 + outst))).raise MATRIX_EVT_PORT_RESET

theorem State.portReset_eq (s : State) (p : Nat) :
    s.portReset p = (let t := ((s.retired p).breakLocks p).disconnected p (((s.retired p).breakLocks p).outstanding p)
      if s.power.stalls.any (fun x => x.agent == p) then t.raise MATRIX_EVT_BURST_DONE_FOR else t) := rfl

theorem State.outstanding_retired (s : State) (p : Nat) : (s.retired p).outstanding p = s.outstanding p := by
  have hagent (x : Stall) : (if x.agent = p then { x with write := false, size := 0 } else x).agent = x.agent := by split <;> rfl
  rw [State.outstanding, State.outstanding, State.retired, List.filter_map, List.length_map]
  exact congrArg List.length (List.filter_congr fun x _ => congrArg (· == p) (hagent x))

/-- The status of a port is no register of the locks. -/
theorem portStat_notMem_lockRegs (hp : p < 35) : MATRIX_PORT_STAT p ∉ lockRegs := by
  simp only [lockRegs, regFile, List.mem_cons, List.mem_map, not_or, not_exists, not_and, MATRIX_PORT_STAT, LOCK_BROKEN_LO, LOCK_BROKEN_HI, LOCK_EVT, LOCK_PEEK]
  exact ⟨by omega, by omega, by omega, fun n _ => by omega⟩

/-- What the reset of a port leaves (R459). -/
theorem State.portReset_spec (s : State) (hp : p < 35) :
    Frame (portRegs p) [.power] s (s.portReset p)
      ∧ (s.outstanding p < 2 ^ 30 → bitAt ((s.portReset p).reg (MATRIX_PORT_STAT p)) 31 = false
        ∧ bitAt ((s.portReset p).reg (MATRIX_PORT_STAT p)) 30 = true) ∧ (s.portReset p).flag MATRIX_EVT_PORT_RESET = true
      ∧ (s.portReset p).power = (s.retired p).power
      ∧ ∀ n, n < 64 → (s.lockOwner n = some p → (s.portReset p).lockOwner n = none ∧ (s.portReset p).bit (brokenReg n) (n % 32) = true)
          ∧ (s.lockOwner n ≠ some p → (s.portReset p).reg (LOCK_PEEK n) = s.reg (LOCK_PEEK n)) := by
  have hbroken := (s.retired p).breakLocks_spec p
  have hretired : Frame [] [.power] s (s.retired p) := Frame.power s _
  have houtst : ((s.retired p).breakLocks p).outstanding p = s.outstanding p := by
    rw [State.outstanding, hbroken.frame.2 .power (by simp)]; exact s.outstanding_retired p
  rw [State.portReset_eq, houtst]
  generalize (s.retired p).breakLocks p = b at hbroken
  have hdis : Frame [MATRIX_PORT_STAT p, MATRIX_EVT] [] b (b.disconnected p (s.outstanding p)) :=
    (Frame.refl _ _ b).step (Frame.setReg _ _ _) |>.step (Frame.raise _ _)
  have hstat : (b.disconnected p (s.outstanding p)).reg (MATRIX_PORT_STAT p) = BitVec.ofNat 32 (2 ^ 30 + s.outstanding p) :=
    (State.reg_raise_ne _ (by simp only [MATRIX_PORT_STAT, MATRIX_EVT]; omega)).trans (State.reg_setReg_self _ _ _)
  have hevt : (b.disconnected p (s.outstanding p)).flag MATRIX_EVT_PORT_RESET = true := State.flag_raise_self _ _ rfl (by decide)
  generalize b.disconnected p (s.outstanding p) = d at hdis hstat hevt
  have hdone : Frame [MATRIX_EVT] [] d (if s.power.stalls.any (fun x => x.agent == p) then d.raise MATRIX_EVT_BURST_DONE_FOR else d) :=
    (Frame.raise d MATRIX_EVT_BURST_DONE_FOR).ite (Frame.refl _ _ d)
  have hflag : (if s.power.stalls.any (fun x => x.agent == p) then d.raise MATRIX_EVT_BURST_DONE_FOR else d).flag MATRIX_EVT_PORT_RESET
      = d.flag MATRIX_EVT_PORT_RESET := by
    split
    · rw [State.flag, State.flag, State.rf_raise_ne] <;> decide
    · rfl
  dsimp only
  generalize (if s.power.stalls.any (fun x => x.agent == p) then d.raise MATRIX_EVT_BURST_DONE_FOR else d) = f at hdone hflag
  have hafter : Frame [MATRIX_PORT_STAT p, MATRIX_EVT] [] b f := hdis.step hdone
  have hstat' : f.reg (MATRIX_PORT_STAT p) = BitVec.ofNat 32 (2 ^ 30 + s.outstanding p) :=
    (hdone.1 _ (by simp only [List.mem_singleton, MATRIX_PORT_STAT, MATRIX_EVT]; omega)).trans hstat
  refine ⟨?_, fun hout => ⟨?_, ?_⟩, hflag.trans hevt, ?_, fun n hn => ?_⟩
  · exact (Frame.refl _ _ s).step hretired |>.step hbroken.frame (by simp +contextual [lockRegs, portRegs])
      |>.step hafter (by simp [portRegs])
  · rw [hstat', bitAt_ofNat _ (by decide)]
    exact Nat.testBit_lt_two_pow (by omega)
  · rw [hstat', bitAt_ofNat _ (by decide), Nat.testBit_two_pow_add_eq, Nat.testBit_lt_two_pow hout, Bool.not_false]
  · exact (hafter.2 .power (by simp)).trans (hbroken.frame.2 .power (by simp))
  · have hpeek : f.reg (LOCK_PEEK n) = b.reg (LOCK_PEEK n) := hafter.1 _ (by simp [LOCK_PEEK, MATRIX_PORT_STAT, MATRIX_EVT]; omega)
    have hbit : f.reg (brokenReg n) = b.reg (brokenReg n) := by
      obtain ⟨hlt, hgt⟩ := brokenReg_lt n
      refine hafter.1 _ ?_
      simp only [LOCK_PEEK, LOCK_EVT] at hlt hgt
      simp only [List.mem_cons, List.not_mem_nil, or_false, MATRIX_PORT_STAT, MATRIX_EVT]
      omega
    refine ⟨fun ho => ?_, fun ho => hpeek.trans (hbroken.others n hn (.inr ho))⟩
    rw [State.lockOwner_congr hpeek, State.bit, hbit]
    exact hbroken.released hn ho

theorem execPortReconnect_eq {p : Fin 35} (hup : s.hubUp = true) (hp : p.val < 26 ∨ 32 ≤ p.val) :
    exec (.portReconnect p) s = .next (if bitAt (s.reg (MATRIX_PORT_STAT p.val)) 30 && s.outstanding p.val == 0 then
      s.setReg (MATRIX_PORT_STAT p.val) 0x80000000#32 else s) := by
  have hports : (Nat.blt p.val 26 || Nat.ble 32 p.val) = true := by simpa using hp
  have hexec : exec (.portReconnect p) s = execPortReconnect p s := rfl
  rw [hexec, execPortReconnect, hup, hports, Bool.and_self, if_pos rfl]
  rfl

theorem execMasterPortReset_eq {p : Fin 35} (hup : s.hubUp = true) (hp : p.val < 26 ∨ 32 ≤ p.val) :
    exec (.masterPortReset p) s = .next (s.portReset p.val) := by
  have hports : (Nat.blt p.val 26 || Nat.ble 32 p.val) = true := by simpa using hp
  have hexec : exec (.masterPortReset p) s = execMasterPortReset p s := rfl
  rw [hexec, execMasterPortReset, hup, hports, Bool.and_self, if_pos rfl]

theorem execPcieReset_eq (hup : s.hubUp = true) : exec .pcieReset s = .next (s.portReset 3) := by
  have hexec : exec .pcieReset s = execPcieReset s := rfl
  rw [hexec, execPcieReset, if_pos hup]

theorem execPcieLinkDown_eq (hup : s.hubUp = true) : exec .pcieLinkDown s = .next (s.portReset 3) := by
  have hexec : exec .pcieLinkDown s = execPcieLinkDown s := rfl
  rw [hexec, execPcieLinkDown, if_pos hup]

/-- Settles O58: a reset breaks the port's locks, leaves its accesses without effect and disconnects it, and the reconnection waits
for the last of them. -/
theorem portResets : Obligations.PortResets := by
  refine ⟨fun p i s hup hp hout hi => ?_, fun p s hup hp hreset => ⟨fun h0 => ?_, fun h0 => ?_⟩⟩
  · have hexec : exec i s = .next (s.portReset p.val) := by
      rcases hi with rfl | ⟨rfl, rfl | rfl⟩
      · exact execMasterPortReset_eq hup hp
      · exact execPcieReset_eq hup
      · exact execPcieLinkDown_eq hup
    obtain ⟨hframe, hstat, hevt, hpower, hlocks⟩ := s.portReset_spec p.isLt
    exact ⟨_, hexec, hframe, (hstat hout).1, (hstat hout).2, hevt, hpower, hlocks⟩
  · have hexec : exec (.portReconnect p) s = .next (s.setReg (MATRIX_PORT_STAT p.val) 0x80000000#32) := by
      rw [execPortReconnect_eq hup hp, if_pos (by rw [hreset, h0]; rfl)]
    exact ⟨_, hexec, Frame.setReg _ _ _, State.reg_setReg_self _ _ _⟩
  · rw [execPortReconnect_eq hup hp, if_neg]
    simpa using fun _ => h0

end Sys2Proof.Machine
end

section
/-! SUPPORT. Proofs/ClusterCtl.lean: writes of CL_CTL, a cluster's power removed, and its memories and stakes wiped (R75, R150,
R157, R158). -/
-- The proofs of this file are elaborated one after another: side by side their threads exceed the memory of the check.
set_option Elab.async false
namespace Sys2Proof.Machine

open Reg

variable {s t u : State} {c : Nat}

/-! ### Writes of CLUSTER registers (R454, R457, R488) -/

theorem State.regWrite_die {a : Agent} {reg : Nat} {v : Word} {f : State → State} (h : s.reachesDie a reg = true) :
    s.regWrite a reg v f = if (f (s.ok 0#32)).bus.err then (f (s.ok 0#32)).errRec a.val .block true (errAddr a.val reg true)
      else f (s.ok 0#32) := by
  simp only [State.reachesDie, Bool.and_eq_true, Option.isNone_iff_eq_none, Bool.not_eq_true'] at h
  obtain ⟨⟨⟨hacc, hpath⟩, hawake⟩, hhand⟩ := h
  have hdemand (d : Nat) : s.demandOn d = s := by
    unfold State.demandOn
    rw [hhand]
  simp only [State.regWrite, State.access, hacc, hpath, hawake, hdemand, if_true, ite_self]
  rfl

theorem Does.of_dieWrite {i : Instr} {a : Agent} {reg : Nat} {v : Word} {f : State → State} {Q : State → Prop} {R : List Nat} {P : List Piece}
    (hx : exec i s = .next (s.regWrite a reg v f)) (hr : s.reachesDie a reg = true) (ht : f (s.ok 0#32) = t)
    (hok : t.bus.err = false) (hf : Frame R P s t) (hq : Q t) : Does i s R P Q := by
  subst ht
  rw [State.regWrite_die hr, hok] at hx
  exact ⟨_, hx, hf, hq⟩

theorem Errs.of_dieWrite {i : Instr} {a : Agent} {reg : Nat} {v : Word} {f : State → State}
    (hx : exec i s = .next (s.regWrite a reg v f)) (hr : s.reachesDie a reg = true) (hg : f (s.ok 0#32) = s.err) :
    Errs i s [] fun _ => True := by
  have herr : (f (s.ok 0#32)).bus.err = true := by rw [hg]; rfl
  rw [State.regWrite_die hr, if_pos herr, hg] at hx
  have hrec := State.errRec_frame s.err a.val .block true (errAddr a.val reg true) nofun
  exact ⟨_, hx, (Frame.err s).mono (by simp) (by simp) |>.trans (hrec.mono (by simp_all) (by simp)), State.errRec_bus _ _ _ _ _,
    State.flag_errRec _ _ _ _ _, trivial⟩

theorem Frame.stake {R : List Nat} {P : List Piece} (h : Frame R P s t) (k : Nat) (hc : Piece.compute ∉ P := by simp) :
    t.stake k = s.stake k := State.stake_congr (h.2 .compute hc) k

theorem Frame.cluster {R : List Nat} {P : List Piece} (h : Frame R P s t) (j : Nat) (hc : Piece.compute ∉ P := by simp) :
    t.cluster j = s.cluster j := by rw [State.cluster, h.2 .compute hc, State.cluster]

theorem State.setCluster_parts (s : State) (c : Nat) (x : Cluster) :
    (s.setCluster c x).compute.stakes = s.compute.stakes ∧ (s.setCluster c x).compute.regions = s.compute.regions := ⟨rfl, rfl⟩

/-! ### Memory cleared -/

theorem mget_filter {α : Type} (d : Nat → α) (m : SMap α) {q : Nat × α → Bool} {k : Nat} (h : ∀ e, e.1 = k → q e = true) :
    mget d (m.filter q) k = mget d m k := by
  induction m with
  | nil => rfl
  | cons e t ih =>
    by_cases hk : e.1 = k
    · rw [List.filter_cons_of_pos (h e hk)]
      simp [mget, hk]
    · cases hq : q e with
      | true => rw [List.filter_cons_of_pos hq]; simp [mget, hk, ih]
      | false => rw [List.filter_cons_of_neg (by simp [hq])]; simp [mget, hk, ih]

theorem State.byte_clearMem (s : State) {lo hi b : Nat} (h : b < lo ∨ hi < b) : (s.clearMem lo hi).byte b = s.byte b := by
  refine mget_filter memReset s.mem fun e he => ?_
  rw [he, Bool.not_eq_true', Bool.and_eq_false_iff, Bool.eq_false_iff, Bool.eq_false_iff, Ne, Ne, Nat.ble_eq, Nat.ble_eq]
  omega

/-- The same of a range given by the address after it. -/
theorem State.byte_clearMem_below (s : State) {lo top b : Nat} (htop : 0 < top) (h : b < lo ∨ top ≤ b) :
    (s.clearMem lo (top - 1)).byte b = s.byte b := s.byte_clearMem (by omega)

theorem base_pos : (∀ k, 0 < stakeBase k) ∧ ∀ c, 0 < coilBase c :=
  ⟨fun _ => Nat.add_pos_left (by decide) _, fun _ => Nat.add_pos_left (by decide) _⟩

theorem Frame.clearMem (s : State) (lo hi : Nat) : Frame [] [.mem] s (s.clearMem lo hi) :=
  ⟨fun _ _ => rfl, fun p hp => by cases p <;> simp_all [Piece.same]⟩

/-- Whether an address lies outside the stake windows and the coil of a cluster. -/
abbrev outsideCluster (c b : Nat) : Prop :=
  (b < stakeBase (8 * c) ∨ stakeBase (8 * c + 8) ≤ b) ∧ (b < coilBase c ∨ coilBase (c + 1) ≤ b)

/-! ### A cluster wiped, and its power removed (R75, R108, R150) -/

/-- Two ranges of memory cleared, with what was recorded of errors in them. -/
def State.rangesCleared (s : State) (lo top lo' top' : Nat) : State :=
  let m := (s.clearMem lo (top - 1)).clearMem lo' (top' - 1)
  { m with ecc := dropRange (dropRange m.ecc lo (top - 1)) lo' (top' - 1) }

theorem State.rangesCleared_frame (s : State) (lo top lo' top' : Nat) : Frame [] [.mem, .ecc] s (s.rangesCleared lo top lo' top') :=
  (Frame.refl _ _ s).step (Frame.clearMem _ _ _) |>.step (Frame.clearMem _ _ _) |>.step (Frame.withEcc _ _)

theorem State.byte_rangesCleared (s : State) {lo top lo' top' b : Nat} (htop : 0 < top) (htop' : 0 < top') (h : b < lo ∨ top ≤ b)
    (h' : b < lo' ∨ top' ≤ b) : (s.rangesCleared lo top lo' top').byte b = s.byte b :=
  (State.byte_clearMem_below _ htop' h').trans (State.byte_clearMem_below s htop h)

/-- A cluster's memories cleared. -/
def State.memWiped (s : State) (c : Nat) : State :=
  s.rangesCleared (stakeBase (8 * c)) (stakeBase (8 * c + 8)) (coilBase c) (coilBase (c + 1))

theorem State.byte_memWiped (s : State) {c b : Nat} (h : outsideCluster c b) : (s.memWiped c).byte b = s.byte b :=
  s.byte_rangesCleared (base_pos.1 _) (base_pos.2 _) h.1 h.2

/-- A stake as reset but for its longest round. -/
abbrev Stake.wiped (x : Stake) : Stake := { Stake.reset with cycMax := x.cycMax }

theorem State.clusterWipe_eq (s : State) (c : Nat) :
    s.clusterWipe c = (stakesOf c).foldl (fun s k => s.setStake k (s.stake k).wiped) (s.memWiped c) := rfl

theorem State.stakesWiped_spec (s : State) (c : Nat) :
    StartKeeps s ((stakesOf c).foldl (fun s k => s.setStake k (s.stake k).wiped) s)
    ∧ ∀ j, ((stakesOf c).foldl (fun s k => s.setStake k (s.stake k).wiped) s).stake j =
        if j ∈ stakesOf c then (s.stake j).wiped else s.stake j :=
  State.foldl_stakes_each (g := fun _ x => x.wiped) (P := StartKeeps s)
    (fun _ _ _ ht => ⟨⟨ht.frame.step (Frame.setStake _ _ _), ht.clusters, ht.regions⟩, fun _ => State.stake_setStake_ite _ _ _ _⟩)
    (nodup_stakesOf c) ⟨Frame.refl _ _ s, rfl, rfl⟩

/-- What a cluster's wipe, and its power removed, do to stakes and memory. -/
structure Wiped (c : Nat) (s t : State) : Prop where
  reset : ∀ k, k / 8 = c → (t.stake k).run = .held ∧ (t.stake k).arch = Arch.reset
  others : ∀ k, k / 8 ≠ c → t.stake k = s.stake k
  bytes : ∀ b, outsideCluster c b → t.byte b = s.byte b

theorem State.clusterWipe_spec (s : State) (c : Nat) :
    Frame [] [.compute, .mem, .ecc] s (s.clusterWipe c) ∧ Wiped c s (s.clusterWipe c) := by
  obtain ⟨hkeeps, hstakes⟩ := (s.memWiped c).stakesWiped_spec c
  rw [← State.clusterWipe_eq] at hkeeps hstakes
  have hsame (k : Nat) : (s.memWiped c).stake k = s.stake k := rfl
  refine ⟨(Frame.refl _ _ s).step (s.rangesCleared_frame _ _ _ _) |>.step hkeeps.frame, fun k hk => ?_, fun k hk => ?_, fun b hb => ?_⟩
  · rw [hstakes, if_pos (mem_stakesOf.mpr hk)]
    exact ⟨rfl, rfl⟩
  · rw [hstakes, if_neg (mt mem_stakesOf.mp hk), hsame]
  · rw [← s.byte_memWiped hb]
    exact hkeeps.frame.2 .mem (by simp) b

/-- A later update that keeps stakes and memory. -/
theorem Wiped.keep {R : List Nat} {P : List Piece} (h : Wiped c s t) (hstakes : ∀ k, u.stake k = t.stake k) (hf : Frame R P t u)
    (hm : Piece.mem ∉ P := by simp) : Wiped c s u :=
  ⟨fun k hk => by rw [hstakes]; exact h.reset k hk, fun k hk => by rw [hstakes]; exact h.others k hk,
    fun b hb => (hf.2 .mem hm b).trans (h.bytes b hb)⟩

/-- The demand for a cluster's power dropped. -/
def State.undemanded (s : State) (c : Nat) : State :=
  { s with power := { s.power with
    waking := s.power.waking.filter fun x => x.1 != c, demand := s.power.demand.filter fun x => x.1 != c } }

/-- A cluster's sequencer as reset. -/
abbrev Cluster.idle (x : Cluster) : Cluster :=
  { x with start := false, wale := 0, base := 0, budget := false, faulted := false, missed := false, loading := false, dmaLate := false }

/-- The registers that show a cluster's power removed. -/
def State.shownOff (s : State) (c st : Nat) : State := (s.setClState c st).clrBit PWR_STAT c

theorem State.clusterOff_eq (s : State) (c st : Nat) : s.clusterOff c st =
    (((s.clusterWipe c).shownOff c st).undemanded c).setCluster c ((((s.clusterWipe c).shownOff c st).undemanded c).cluster c).idle := rfl

/-- Registers and pieces that a cluster's power removed changes. -/
abbrev offRegs (c : Nat) : List Nat := [CL_STAT c, PWR_STAT]
abbrev offPieces : List Piece := [.compute, .mem, .ecc, .power]

theorem State.shownOff_frame (s : State) (c st : Nat) : Frame (offRegs c) [] s (s.shownOff c st) :=
  (Frame.refl _ _ s).step (Frame.sf s (CL_STAT_STATE c) st) |>.step (Frame.clrBit _ _ _)

theorem State.shownOff_reads (s : State) {c : Nat} (st : Nat) (hc : c < 16) :
    (s.shownOff c st).reg (CL_STAT c) = setBits (s.reg (CL_STAT c)) 31 29 st
    ∧ (s.shownOff c st).reg PWR_STAT = setBits (s.reg PWR_STAT) c c 0 := by
  have hne : CL_STAT c ≠ PWR_STAT := by simp only [CL_STAT, PWR_STAT]; omega
  refine ⟨?_, ?_⟩
  · exact (State.reg_setReg_ne _ hne _).trans (State.reg_setReg_self _ _ _)
  · rw [State.shownOff, State.clrBit, State.reg_setReg_self, State.setClState, State.sf, State.reg_setReg_ne _ (Ne.symm hne)]

/-- The state of a cluster whose CL_STAT had its STATE written. -/
theorem State.clState_of_reg {s : State} {c st : Nat} {w : Word} (h : s.reg (CL_STAT c) = setBits w 31 29 st) (hst : st < 8) :
    s.clState c = st := by
  have hstate : s.clState c = bitsOf (s.reg (CL_STAT c)) 31 29 := rfl
  rw [hstate, h, bitsOf_setBits_self _ _ (by decide) (by decide)]
  exact Nat.mod_eq_of_lt hst

/-- Nothing of the power controller's state changes but what waits for a domain. -/
def PowerKept (p q : Power) : Prop := q = { p with waking := q.waking, demand := q.demand, stalls := q.stalls }

theorem PowerKept.trans {p q r : Power} (h : PowerKept p q) (g : PowerKept q r) : PowerKept p r := by
  unfold PowerKept at *
  rw [g, h]

theorem State.clusterOff_spec (s : State) {c : Nat} (st : Nat) (hc : c < 16) :
    Frame (offRegs c) offPieces s (s.clusterOff c st) ∧ Wiped c s (s.clusterOff c st)
      ∧ (s.clusterOff c st).reg (CL_STAT c) = setBits (s.reg (CL_STAT c)) 31 29 st
      ∧ (s.clusterOff c st).reg PWR_STAT = setBits (s.reg PWR_STAT) c c 0
      ∧ PowerKept s.power (s.clusterOff c st).power := by
  obtain ⟨hwipe, hwiped⟩ := s.clusterWipe_spec c
  have hstat : (s.clusterWipe c).reg (CL_STAT c) = s.reg (CL_STAT c) := hwipe.1 _ (by simp)
  have hpwr : (s.clusterWipe c).reg PWR_STAT = s.reg PWR_STAT := hwipe.1 _ (by simp)
  have hpower : (s.clusterWipe c).power = s.power := hwipe.2 .power (by simp)
  rw [State.clusterOff_eq]
  generalize s.clusterWipe c = w at *
  have hshown := w.shownOff_frame c st
  obtain ⟨hstate, hbit⟩ := w.shownOff_reads st hc
  rw [hstat] at hstate
  rw [hpwr] at hbit
  have hkeep1 : Wiped c s (w.shownOff c st) := hwiped.keep (fun k => hshown.stake k) hshown
  generalize w.shownOff c st = x at *
  have hundemanded : Frame [] [.power] x (x.undemanded c) := Frame.power x _
  have hkeep2 : Wiped c s (x.undemanded c) := hkeep1.keep (fun k => hundemanded.stake k) hundemanded
  have hset := Frame.setCluster (x.undemanded c) c ((x.undemanded c).cluster c).idle
  have hlast : Frame [] [.compute, .power] x ((x.undemanded c).setCluster c ((x.undemanded c).cluster c).idle) :=
    (hundemanded.mono (by simp) (by simp)).step hset
  refine ⟨(Frame.refl _ _ s).step hwipe |>.step hshown |>.step hlast, hkeep2.keep (fun _ => rfl) hset, ?_, ?_, ?_⟩
  · exact (hlast.1 _ (by simp)).trans hstate
  · exact (hlast.1 _ (by simp)).trans hbit
  · rw [hset.2 .power (by simp), ← hpower, ← hshown.2 .power (by simp)]
    rfl

/-! ### CL_CTL (R157, R158) -/

/-- A register outside the MATRIX and LOCK blocks is none that a port's reset changes. -/
theorem notMem_portRegs {a p : Nat} (h : a < 0x30000 ∨ 0x60000 ≤ a) (hp : p < 35) : a ∉ portRegs p := by
  simp only [portRegs, regFile, List.mem_cons, List.mem_map, not_or, not_exists, not_and, MATRIX_PORT_STAT, LOCK_BROKEN_LO, LOCK_BROKEN_HI,
    LOCK_EVT, LOCK_PEEK, MATRIX_EVT, List.mem_range]
  exact ⟨by omega, by omega, by omega, by omega, by omega, fun n _ => by omega⟩

/-- The registers that a cluster's power removed and its port's reset may change. -/
def clOffRegs (c : Nat) : List Nat :=
  CL_CTL c :: CL_STAT c :: PWR_STAT :: MATRIX_PORT_STAT (6 + c) :: MATRIX_EVT ::
    (regFile LOCK_PEEK 64 ++ [LOCK_BROKEN_LO, LOCK_BROKEN_HI, LOCK_EVT])

theorem portRegs_subset (c : Nat) : ∀ a ∈ portRegs (6 + c), a ∈ clOffRegs c := by
  intro a ha
  simp only [portRegs, List.mem_cons] at ha
  simp only [clOffRegs, List.mem_cons, List.mem_append, List.not_mem_nil]
  tauto

theorem State.portReset_stake (s : State) {p : Nat} (hp : p < 35) (k : Nat) : (s.portReset p).stake k = s.stake k :=
  (s.portReset_spec hp).1.stake k

/-- A cluster off with its sequencer's port reset. -/
def State.offReset (s : State) (c st : Nat) : State := (s.clusterOff c st).portReset (6 + c)

theorem State.offReset_spec (s : State) {c st : Nat} (hc : c < 16) (hst : st < 8) :
    Frame (clOffRegs c) offPieces s (s.offReset c st) ∧ Wiped c s (s.offReset c st) ∧ (s.offReset c st).clState c = st
      ∧ (s.offReset c st).reg PWR_STAT = setBits (s.reg PWR_STAT) c c 0 ∧ (s.offReset c st).reg (CL_CTL c) = s.reg (CL_CTL c)
      ∧ PowerKept s.power (s.offReset c st).power ∧ ∀ j, (s.offReset c st).cluster j = (s.clusterOff c st).cluster j := by
  obtain ⟨hoff, hwiped, hstate, hpwr, hpower⟩ := s.clusterOff_spec st hc
  have hport : Frame (portRegs (6 + c)) [.power] (s.clusterOff c st) (s.offReset c st) := (State.portReset_spec _ (by omega)).1
  have hstakes (k : Nat) : (s.offReset c st).stake k = (s.clusterOff c st).stake k := State.portReset_stake _ (by omega) k
  have hretired : PowerKept (s.clusterOff c st).power (s.offReset c st).power := by
    have h := ((s.clusterOff c st).portReset_spec (p := 6 + c) (by omega)).2.2.2.1
    rw [State.offReset, h]
    rfl
  refine ⟨(hoff.mono (by simp [clOffRegs]) (by simp)).step hport (portRegs_subset c), hwiped.keep hstakes hport, ?_, ?_, ?_, ?_,
    fun j => hport.cluster j⟩
  · have hsame := hport.rf (f := CL_STAT_STATE c) (notMem_portRegs (.inr (by simp only [CL_STAT]; omega)) (by omega))
    rw [State.clState, hsame, ← State.clState, State.clState_of_reg hstate hst]
  · rw [hport.1 _ (notMem_portRegs (.inl (by decide)) (by omega)), hpwr]
  · rw [hport.1 _ (notMem_portRegs (.inr (by simp only [CL_CTL]; omega)) (by omega)),
      hoff.1 _ (by simp only [List.mem_cons, List.not_mem_nil, or_false, CL_CTL, CL_STAT, PWR_STAT]; omega)]
  · exact hpower.trans hretired

/-! ### The four writes of CL_CTL (R157, R158) -/

/-- CL_CTL.ISOLATE written. -/
abbrev State.isolateSet (s : State) (c : Nat) (on : Bool) : State := s.setFlag (CL_CTL_ISOLATE c) on

theorem State.isolateSet_spec (s : State) (c : Nat) (on : Bool) : Frame [CL_CTL c] [] s (s.isolateSet c on)
    ∧ (s.isolateSet c on).flag (CL_CTL_ISOLATE c) = on ∧ (s.isolateSet c on).clState c = s.clState c :=
  have hframe : Frame [CL_CTL c] [] s (s.isolateSet c on) := Frame.setFlag s (CL_CTL_ISOLATE c) on
  ⟨hframe, State.flag_setFlag_self _ (CL_CTL_ISOLATE c) on rfl (by simp), hframe.rf (by simp)⟩

theorem State.clCtlWrite_refused (h : s.clState c ≠ clHeld) : s.clCtlWrite c 1#32 = s.err := by
  have hbit : bitAt (1#32) 0 = true := rfl
  rw [State.clCtlWrite, hbit, if_pos (by simpa using h)]

theorem State.clCtlWrite_start (h : s.clState c = clHeld) : s.clCtlWrite c 1#32 =
    ((s.isolateSet c false).setCluster c { (s.isolateSet c false).cluster c with start := true }).ok 0#32 := by
  have hstate := (s.isolateSet_spec c false).2.2.trans h
  have h0 : bitAt (1#32) 0 = true := rfl
  have h1 : bitAt (1#32) 1 = false := rfl
  have h2 : bitAt (1#32) 2 = false := rfl
  unfold State.clCtlWrite
  simp only [h0, h1, h2, h, hstate, Bool.true_and, Bool.false_and, Bool.not_false, bne_self_eq_false, beq_self_eq_true, Bool.false_eq_true, if_true, if_false,
    show (clHeld == clIsolated) = false from rfl]

theorem State.clCtlWrite_isolate (h : s.flag (CL_CTL_ISOLATE c) = false) :
    s.clCtlWrite c 4#32 = ((s.isolateSet c true).offReset c clIsolated).ok 0#32 := by
  have h0 : bitAt (4#32) 0 = false := rfl
  have h1 : bitAt (4#32) 1 = false := rfl
  have h2 : bitAt (4#32) 2 = true := rfl
  unfold State.clCtlWrite
  simp only [h0, h1, h2, h, Bool.false_and, Bool.not_false, Bool.true_and, Bool.false_eq_true, if_true, if_false]
  rfl

theorem State.clCtlWrite_off (h : s.clState c = clIsolated) : s.clCtlWrite c 0#32 =
    ((((s.isolateSet c false).setClState c clOff).setCluster c { s.cluster c with parked := true }).ok 0#32) := by
  have hstate := (s.isolateSet_spec c false).2.2.trans h
  have h0 (i : Nat) : bitAt (0#32) i = false := by simp [bitAt]
  unfold State.clCtlWrite
  simp only [h0, hstate, Bool.false_and, Bool.not_false, Bool.true_and, beq_self_eq_true, Bool.false_eq_true, if_true, if_false]
  rfl

theorem State.clCtlWrite_kept {on : Bool}
    (h : if on = true then s.flag (CL_CTL_ISOLATE c) = true else s.clState c ≠ clIsolated) :
    s.clCtlWrite c (if on then 4#32 else 0#32) = (s.isolateSet c on).ok 0#32 := by
  have hstate (b : Bool) := (s.isolateSet_spec c b).2.2
  unfold State.clCtlWrite
  cases on with
  | true =>
    have h0 : bitAt (4#32) 0 = false := rfl
    have h1 : bitAt (4#32) 1 = false := rfl
    have h2 : bitAt (4#32) 2 = true := rfl
    simp only [h0, h1, h2, if_true] at h ⊢
    simp only [h, Bool.false_and, Bool.not_true, Bool.and_false, Bool.false_eq_true, if_false]
  | false =>
    have h0 (i : Nat) : bitAt (0#32) i = false := by simp [bitAt]
    rw [if_neg Bool.false_ne_true] at h
    have hne : ((s.isolateSet c false).clState c == clIsolated) = false := by rw [hstate]; simpa using h
    simp only [h0, hne, Bool.false_and, Bool.and_false, Bool.false_eq_true, if_false]

/-- A cluster powered again after its power was removed: counted, its fault map clear. -/
def State.reinitShown (s : State) (c : Nat) : State := (s.countUp (CL_STAT_REINIT_CNT c)).sf (CL_STAT_FAULT_MAP c) 0

theorem State.reinit_eq (s : State) (c : Nat) : s.reinit c = (((s.clusterOff c clLoading).reinitShown c).bringUp c).portReset (6 + c) := rfl

/-- ISOLATE cleared by the write of REINIT, which moves an ISOLATED cluster to OFF first. -/
def State.reinitFrom (s : State) (c : Nat) : State :=
  if s.clState c = clIsolated then ((s.isolateSet c false).setClState c clOff).setCluster c { s.cluster c with parked := true }
  else s.isolateSet c false

theorem State.clCtlWrite_reinit : s.clCtlWrite c 2#32 = ((s.reinitFrom c).reinit c).ok 0#32 := by
  have hstate := (s.isolateSet_spec c false).2.2
  have h0 : bitAt (2#32) 0 = false := rfl
  have h1 : bitAt (2#32) 1 = true := rfl
  have h2 : bitAt (2#32) 2 = false := rfl
  unfold State.clCtlWrite State.reinitFrom
  simp only [h0, h1, h2, hstate, Bool.false_and, Bool.not_false, Bool.true_and, beq_iff_eq, Bool.false_eq_true, if_true, if_false]
  rfl

theorem State.wakeDomain_frame (s : State) (d : Nat) : Frame [] [.power] s (s.wakeDomain d) := by
  unfold State.wakeDomain
  split
  · exact Frame.refl _ _ s
  · exact Frame.power s _

/-- A cluster LOADING, its image to be loaded once it is up. -/
def State.loadingSet (s : State) (c : Nat) : State :=
  (s.setClState c clLoading).setCluster c { s.cluster c with loading := true, parked := false }

theorem State.loadingSet_spec (s : State) (c : Nat) : Frame [CL_STAT c] [.compute] s (s.loadingSet c)
    ∧ (s.loadingSet c).reg (CL_STAT c) = setBits (s.reg (CL_STAT c)) 31 29 clLoading ∧ ((s.loadingSet c).cluster c).loading = true
    ∧ ∀ k, (s.loadingSet c).stake k = s.stake k := by
  refine ⟨(Frame.refl _ _ s).step (Frame.sf s (CL_STAT_STATE c) clLoading) |>.step (Frame.setCluster _ _ _), ?_, ?_,
    fun k => (State.stake_setCluster _ _ _ _).trans ((Frame.sf s (CL_STAT_STATE c) clLoading).stake k)⟩
  · have hset := (Frame.setCluster (s.setClState c clLoading) c { s.cluster c with loading := true, parked := false }).1 (CL_STAT c) (by simp)
    rw [State.loadingSet, hset, State.setClState, State.sf, State.reg_setReg_self]
  · rw [State.loadingSet, State.cluster_setCluster]

/-- A cluster's power-up begun, its compute die's first where that is off. -/
def State.powerUp (s : State) (c : Nat) : State :=
  (if s.flag (if c < 8 then PWR_STAT_CD0 else PWR_STAT_CD1) then s else s.wakeDomain (16 + c / 8)).wakeDomain c

theorem State.powerUp_frame (s : State) (c : Nat) : Frame [] [.power] s (s.powerUp c) :=
  ((Frame.refl _ _ s).ite (State.wakeDomain_frame _ _)).step (State.wakeDomain_frame _ _)

theorem State.bringUp_eq (s : State) (c : Nat) : s.bringUp c = (s.loadingSet c).powerUp c := by
  unfold State.bringUp
  extract_lets x loading powered
  have hloading : s.loadingSet c = loading := rfl
  rw [hloading]
  clear_value loading
  rfl

theorem State.bringUp_spec (s : State) (c : Nat) : Frame [CL_STAT c] [.compute, .power] s (s.bringUp c)
    ∧ (s.bringUp c).reg (CL_STAT c) = setBits (s.reg (CL_STAT c)) 31 29 clLoading ∧ ((s.bringUp c).cluster c).loading = true
    ∧ ∀ k, (s.bringUp c).stake k = s.stake k := by
  obtain ⟨hframe, hstat, hloading, hstakes⟩ := s.loadingSet_spec c
  rw [State.bringUp_eq]
  have hpower := (s.loadingSet c).powerUp_frame c
  refine ⟨(hframe.mono (by simp) (by simp)).step hpower, (hpower.1 _ (by simp)).trans hstat, ?_, fun k => ?_⟩
  · rw [hpower.cluster, hloading]
  · rw [hpower.stake, hstakes]

theorem State.reinitShown_spec (s : State) (c : Nat) : Frame [CL_STAT c] [] s (s.reinitShown c)
    ∧ (s.reinitShown c).rf (CL_STAT_FAULT_MAP c) = 0
    ∧ (s.reinitShown c).rf (CL_STAT_REINIT_CNT c) = min 255 (s.rf (CL_STAT_REINIT_CNT c) + 1) := by
  refine ⟨(Frame.refl _ _ s).step (Frame.countUp s (CL_STAT_REINIT_CNT c)) |>.step (Frame.sf _ (CL_STAT_FAULT_MAP c) 0), ?_, ?_⟩
  · exact State.rf_sf_self _ (CL_STAT_FAULT_MAP c) 0 (by simp) (by simp)
  · rw [State.reinitShown, State.rf_sf_ne _ _ (by simp) (by simp) (by simp)]
    exact State.rf_countUp_self s (CL_STAT_REINIT_CNT c) (by simp) (by simp)

/-- A field of CL_STAT other than STATE is kept where STATE alone is written. -/
theorem State.rf_stat_keep {s t : State} {c st : Nat} {hi lo : Nat} (h : t.reg (CL_STAT c) = setBits (s.reg (CL_STAT c)) 31 29 st) (hlo : hi < 29) :
    t.rf ⟨CL_STAT c, hi, lo⟩ = s.rf ⟨CL_STAT c, hi, lo⟩ := by
  rw [State.rf, State.rf, h, bitsOf_setBits_ne _ _ (by decide) (by decide) (.inl hlo)]

/-- What REINIT leaves, whatever the cluster's state was (R150). -/
theorem State.reinit_spec (s : State) {c : Nat} (hc : c < 16) :
    Frame (clOffRegs c) offPieces s (s.reinit c) ∧ Wiped c s (s.reinit c) ∧ (s.reinit c).clState c = clLoading
      ∧ ((s.reinit c).cluster c).loading = true ∧ (s.reinit c).rf (CL_STAT_FAULT_MAP c) = 0
      ∧ (s.reinit c).rf (CL_STAT_REINIT_CNT c) = min 255 (s.rf (CL_STAT_REINIT_CNT c) + 1) := by
  obtain ⟨hoff, hwiped, hoffStat, -, -⟩ := s.clusterOff_spec clLoading hc
  rw [State.reinit_eq]
  generalize s.clusterOff c clLoading = o at *
  obtain ⟨hshown, hmap, hcnt⟩ := o.reinitShown_spec c
  have hwiped := hwiped.keep (fun k => hshown.stake k) hshown
  generalize o.reinitShown c = r at *
  obtain ⟨hup, hupStat, hloading, hstakes⟩ := r.bringUp_spec c
  have hwiped := hwiped.keep hstakes hup
  generalize r.bringUp c = b at *
  have hport : Frame (portRegs (6 + c)) [.power] b (b.portReset (6 + c)) := (State.portReset_spec _ (by omega)).1
  have hstat : (b.portReset (6 + c)).reg (CL_STAT c) = setBits (r.reg (CL_STAT c)) 31 29 clLoading :=
    (hport.1 _ (notMem_portRegs (.inr (by simp only [CL_STAT]; omega)) (by omega))).trans hupStat
  refine ⟨?_, hwiped.keep (fun k => State.portReset_stake _ (by omega) k) hport, State.clState_of_reg hstat (by decide), ?_, ?_, ?_⟩
  · exact (hoff.mono (by simp [clOffRegs]) (by simp)).step hshown (by simp [clOffRegs]) |>.step hup (by simp [clOffRegs])
      |>.step hport (portRegs_subset c)
  · rw [hport.cluster, hloading]
  · rw [← hmap]
    exact State.rf_stat_keep hstat (by decide)
  · have hkept : o.rf (CL_STAT_REINIT_CNT c) = s.rf (CL_STAT_REINIT_CNT c) := State.rf_stat_keep hoffStat (by decide)
    rw [← hkept, ← hcnt]
    exact State.rf_stat_keep hstat (by decide)

theorem State.reinitFrom_spec (s : State) (c : Nat) : Frame [CL_CTL c, CL_STAT c] [.compute] s (s.reinitFrom c)
    ∧ (s.reinitFrom c).rf (CL_STAT_REINIT_CNT c) = s.rf (CL_STAT_REINIT_CNT c) ∧ ∀ k, (s.reinitFrom c).stake k = s.stake k := by
  obtain ⟨hframe, -, -⟩ := s.isolateSet_spec c false
  have hstakes (k : Nat) : (s.isolateSet c false).stake k = s.stake k := rfl
  have hcnt : (s.isolateSet c false).rf (CL_STAT_REINIT_CNT c) = s.rf (CL_STAT_REINIT_CNT c) := hframe.rf (by simp)
  unfold State.reinitFrom
  generalize s.isolateSet c false = u at *
  split
  · have hset : Frame [CL_STAT c] [.compute] u ((u.setClState c clOff).setCluster c { s.cluster c with parked := true }) :=
      (Frame.refl _ _ u).step (Frame.sf u (CL_STAT_STATE c) clOff) |>.step (Frame.setCluster _ _ _)
    have hstat : ((u.setClState c clOff).setCluster c { s.cluster c with parked := true }).reg (CL_STAT c)
        = setBits (u.reg (CL_STAT c)) 31 29 clOff := State.reg_setReg_self _ _ _
    exact ⟨(hframe.mono (by simp) (by simp)).step hset, (State.rf_stat_keep hstat (by decide)).trans hcnt, hstakes⟩
  · exact ⟨hframe.mono (by simp) (by simp), hcnt, hstakes⟩

section

variable {a : Agent} {c : Fin 16}

theorem clCtlStart_held (hr : s.reachesDie a (CL_CTL c.val) = true) (h : s.clState c.val = clHeld) :
    Does (.clCtlStart a c) s [CL_CTL c.val] [.compute, .bus] fun t => t.bus.err = false
      ∧ t.cluster c.val = { s.cluster c.val with start := true } ∧ (∀ j, j ≠ c.val → t.cluster j = s.cluster j)
      ∧ t.compute.stakes = s.compute.stakes ∧ t.compute.regions = s.compute.regions := by
  have hok := Frame.ok s 0#32
  have hwrite := State.clCtlWrite_start (s := s.ok 0#32) ((hok.rf (by simp)).trans h)
  have hset : Frame [CL_CTL c.val] [.bus] s ((s.ok 0#32).isolateSet c.val false) :=
    (hok.mono (by simp) (by simp)).step ((s.ok 0#32).isolateSet_spec c.val false).1
  generalize (s.ok 0#32).isolateSet c.val false = u at hwrite hset
  have hcompute : u.compute = s.compute := hset.2 .compute (by simp)
  have hstart := Frame.setCluster u c.val { u.cluster c.val with start := true }
  have hdone := Frame.ok (u.setCluster c.val { u.cluster c.val with start := true }) 0#32
  refine Does.of_dieWrite rfl hr hwrite rfl ?_ ⟨rfl, ?_, fun j hj => ?_, ?_, ?_⟩
  · exact (hset.mono (by simp) (by simp)).step hstart |>.step hdone
  · rw [hdone.cluster, State.cluster_setCluster, hset.cluster]
  · rw [hdone.cluster, State.cluster_setCluster_ne _ _ hj, hset.cluster]
  · exact (congrArg Compute.stakes (hdone.2 .compute (by simp))).trans ((u.setCluster_parts _ _).1.trans (congrArg Compute.stakes hcompute))
  · exact (congrArg Compute.regions (hdone.2 .compute (by simp))).trans ((u.setCluster_parts _ _).2.trans (congrArg Compute.regions hcompute))

theorem clCtlStart_refused (hr : s.reachesDie a (CL_CTL c.val) = true) (h : s.clState c.val ≠ clHeld) :
    Errs (.clCtlStart a c) s [] fun _ => True :=
  Errs.of_dieWrite rfl hr (State.clCtlWrite_refused (by
    have hstate : (s.ok 0#32).clState c.val = s.clState c.val := (Frame.ok s 0#32).rf (by simp)
    rwa [hstate]))

theorem clCtlIsolate_on (hr : s.reachesDie a (CL_CTL c.val) = true) (h : s.flag (CL_CTL_ISOLATE c.val) = false) :
    Does (.clCtlIsolate a c true) s (clOffRegs c.val) [.compute, .mem, .ecc, .power, .bus] fun t => t.bus.err = false
      ∧ t.clState c.val = clIsolated ∧ t.bit PWR_STAT c.val = false ∧ t.flag (CL_CTL_ISOLATE c.val) = true ∧ Wiped c.val s t := by
  have hok := Frame.ok s 0#32
  have hwrite := State.clCtlWrite_isolate (s := s.ok 0#32) (c := c.val) (by rw [← h, State.flag, State.flag, hok.rf (by simp)])
  obtain ⟨hiso, hflag, -⟩ := (s.ok 0#32).isolateSet_spec c.val true
  have hset : Frame [CL_CTL c.val] [.bus] s ((s.ok 0#32).isolateSet c.val true) := (hok.mono (by simp) (by simp)).step hiso
  generalize (s.ok 0#32).isolateSet c.val true = u at *
  obtain ⟨hoff, hwiped, hstate, hpwr, hctl, -, -⟩ := u.offReset_spec (st := clIsolated) c.isLt (by decide)
  have hdone := Frame.ok (u.offReset c.val clIsolated) 0#32
  have hall : Wiped c.val s (u.offReset c.val clIsolated) := ⟨hwiped.reset, fun k hk => (hwiped.others k hk).trans (hset.stake k),
    fun b hb => (hwiped.bytes b hb).trans (hset.2 .mem (by simp) b)⟩
  refine Does.of_dieWrite rfl hr hwrite rfl ?_ ⟨rfl, ?_, ?_, ?_, hall.keep (fun k => hdone.stake k) hdone⟩
  · exact (hset.mono (by simp [clOffRegs]) (by simp)).step hoff (fun _ h => h) |>.step hdone
  · exact (hdone.rf (by simp)).trans hstate
  · rw [State.bit, hdone.1 _ (by simp), hpwr, bitAt_setBits _ _ _ _ (by omega), if_pos rfl]
    rfl
  · rw [← hflag, State.flag, State.flag, hdone.rf (by simp)]
    exact congrArg (· == 1) (State.rf_congr (CL_CTL_ISOLATE c.val) hctl)

theorem clCtlIsolate_off (hr : s.reachesDie a (CL_CTL c.val) = true) (h : s.clState c.val = clIsolated) :
    Does (.clCtlIsolate a c false) s [CL_CTL c.val, CL_STAT c.val] [.compute, .bus] fun t => t.bus.err = false
      ∧ t.clState c.val = clOff ∧ t.flag (CL_CTL_ISOLATE c.val) = false
      ∧ t.cluster c.val = { s.cluster c.val with parked := true } ∧ (∀ j, j ≠ c.val → t.cluster j = s.cluster j)
      ∧ t.compute.stakes = s.compute.stakes ∧ t.compute.regions = s.compute.regions := by
  have hok := Frame.ok s 0#32
  have hwrite := State.clCtlWrite_off (s := s.ok 0#32) ((hok.rf (by simp)).trans h)
  obtain ⟨hiso, hflag, -⟩ := (s.ok 0#32).isolateSet_spec c.val false
  have hset : Frame [CL_CTL c.val] [.bus] s ((s.ok 0#32).isolateSet c.val false) := (hok.mono (by simp) (by simp)).step hiso
  generalize (s.ok 0#32).isolateSet c.val false = u at *
  rw [hok.cluster] at hwrite
  have hstate : Frame [CL_STAT c.val] [] u (u.setClState c.val clOff) := Frame.sf u (CL_STAT_STATE c.val) clOff
  have hoff : (u.setClState c.val clOff).reg (CL_STAT c.val) = setBits (u.reg (CL_STAT c.val)) 31 29 clOff := State.reg_setReg_self _ _ _
  have hmoved : Frame [CL_CTL c.val, CL_STAT c.val] [.bus] s (u.setClState c.val clOff) := (hset.mono (by simp) (by simp)).step hstate
  have hctl : (u.setClState c.val clOff).flag (CL_CTL_ISOLATE c.val) = false := by
    rw [← hflag, State.flag, State.flag, hstate.rf (by simp)]
  generalize u.setClState c.val clOff = x at *
  have hcompute : x.compute = s.compute := hmoved.2 .compute (by simp)
  have hpark := Frame.setCluster x c.val { s.cluster c.val with parked := true }
  have hdone := Frame.ok (x.setCluster c.val { s.cluster c.val with parked := true }) 0#32
  have hend : Frame [] [.compute, .bus] x ((x.setCluster c.val { s.cluster c.val with parked := true }).ok 0#32) :=
    (hpark.mono (by simp) (by simp)).step hdone
  refine Does.of_dieWrite rfl hr hwrite rfl ((hmoved.mono (by simp) (by simp)).step hend) ⟨rfl, ?_, ?_, ?_, fun j hj => ?_, ?_, ?_⟩
  · exact (hend.rf (by simp)).trans (State.clState_of_reg hoff (by decide))
  · rw [← hctl, State.flag, State.flag, hend.rf (by simp)]
  · rw [hdone.cluster, State.cluster_setCluster]
  · rw [hdone.cluster, State.cluster_setCluster_ne _ _ hj, hmoved.cluster]
  · exact (congrArg Compute.stakes (hdone.2 .compute (by simp))).trans ((x.setCluster_parts _ _).1.trans (congrArg Compute.stakes hcompute))
  · exact (congrArg Compute.regions (hdone.2 .compute (by simp))).trans ((x.setCluster_parts _ _).2.trans (congrArg Compute.regions hcompute))

theorem clCtlIsolate_kept (hr : s.reachesDie a (CL_CTL c.val) = true) {on : Bool}
    (h : if on = true then s.flag (CL_CTL_ISOLATE c.val) = true else s.clState c.val ≠ clIsolated) :
    Does (.clCtlIsolate a c on) s [CL_CTL c.val] [.bus] fun t => t.bus.err = false ∧ t.flag (CL_CTL_ISOLATE c.val) = on := by
  have hok := Frame.ok s 0#32
  have hstate : (s.ok 0#32).clState c.val = s.clState c.val := hok.rf (by simp)
  have hflagOk : (s.ok 0#32).flag (CL_CTL_ISOLATE c.val) = s.flag (CL_CTL_ISOLATE c.val) := by
    rw [State.flag, State.flag, hok.rf (by simp)]
  have hwrite := State.clCtlWrite_kept (s := s.ok 0#32) (c := c.val) (on := on) (by rw [hstate, hflagOk]; exact h)
  obtain ⟨hiso, hflag, -⟩ := (s.ok 0#32).isolateSet_spec c.val on
  generalize (s.ok 0#32).isolateSet c.val on = u at *
  have hdone := Frame.ok u 0#32
  refine Does.of_dieWrite rfl hr hwrite rfl ((hok.mono (by simp) (by simp)).step hiso |>.step hdone) ⟨rfl, ?_⟩
  rw [← hflag, State.flag, State.flag, hdone.rf (by simp)]

theorem clCtlReinit_done (hr : s.reachesDie a (CL_CTL c.val) = true) :
    Does (.clCtlReinit a c) s (clOffRegs c.val) [.compute, .mem, .ecc, .power, .bus] fun t => t.bus.err = false
      ∧ t.clState c.val = clLoading ∧ (t.cluster c.val).loading = true ∧ t.rf (CL_STAT_FAULT_MAP c.val) = 0
      ∧ t.rf (CL_STAT_REINIT_CNT c.val) = min 255 (s.rf (CL_STAT_REINIT_CNT c.val) + 1)
      ∧ (∀ k, k / 8 = c.val → (t.stake k).run = .held ∧ (t.stake k).arch = Arch.reset)
      ∧ ∀ k, k / 8 ≠ c.val → t.stake k = s.stake k := by
  have hok := Frame.ok s 0#32
  have hwrite := State.clCtlWrite_reinit (s := s.ok 0#32) (c := c.val)
  obtain ⟨hfrom, hcnt, hfromStake⟩ := (s.ok 0#32).reinitFrom_spec c.val
  have hcntOk : (s.ok 0#32).rf (CL_STAT_REINIT_CNT c.val) = s.rf (CL_STAT_REINIT_CNT c.val) := hok.rf (by simp)
  have hstakeOk (k : Nat) : (s.ok 0#32).stake k = s.stake k := hok.stake k
  have hbefore : Frame [CL_CTL c.val, CL_STAT c.val] [.compute, .bus] s ((s.ok 0#32).reinitFrom c.val) :=
    (hok.mono (by simp) (by simp)).step hfrom
  generalize (s.ok 0#32).reinitFrom c.val = u at *
  obtain ⟨hre, hwiped, hstate, hloading, hmap, hcount⟩ := u.reinit_spec c.isLt
  have hdone := Frame.ok (u.reinit c.val) 0#32
  refine Does.of_dieWrite rfl hr hwrite rfl ?_ ⟨rfl, ?_, ?_, ?_, ?_, fun k hk => ?_, fun k hk => ?_⟩
  · exact (hbefore.mono (by simp [clOffRegs]) (by simp)).step hre (fun _ h => h) |>.step hdone
  · exact (hdone.rf (by simp)).trans hstate
  · rw [hdone.cluster, hloading]
  · exact (hdone.rf (by simp)).trans hmap
  · rw [hdone.rf (by simp), hcount, hcnt, hcntOk]
  · rw [hdone.stake]
    exact hwiped.reset k hk
  · rw [hdone.stake, hwiped.others k hk, hfromStake, hstakeOk]

end

end Sys2Proof.Machine
end

section
/-! SUPPORT. Proofs/ClusterLoad.lean: a cluster's image copied at the end of its loading, and the operating point of a region moved
(R150, R155, R431). -/
-- The proofs of this file are elaborated one after another: side by side their threads exceed the memory of the check.
set_option Elab.async false
namespace Sys2Proof.Machine

open Reg

variable {s t : State} {c : Nat}

/-! ### Bytes copied -/

/-- Bytes written by a list of entries, the last one for an address winning. -/
theorem State.byte_foldl_setByte (place : Nat × Byte → Nat) (l : List (Nat × Byte)) (s : State) (b : Nat) :
    (∃ e ∈ l, place e = b ∧ (l.foldl (fun s e => s.setByte (place e) e.2) s).byte b = e.2)
    ∨ (∀ e ∈ l, place e ≠ b) ∧ (l.foldl (fun s e => s.setByte (place e) e.2) s).byte b = s.byte b := by
  induction l generalizing s with
  | nil => exact .inr ⟨by simp, rfl⟩
  | cons x l ih =>
    rw [List.foldl_cons]
    rcases ih (s.setByte (place x) x.2) with ⟨e, he, hplace, hbyte⟩ | ⟨hnone, hbyte⟩
    · exact .inl ⟨e, List.mem_cons_of_mem x he, hplace, hbyte⟩
    · rw [State.byte_setByte] at hbyte
      by_cases hx : b = place x
      · exact .inl ⟨x, List.mem_cons_self, hx.symm, by rw [hbyte, if_pos hx]⟩
      · refine .inr ⟨fun e he => ?_, by rw [hbyte, if_neg hx]⟩
        rcases List.mem_cons.mp he with rfl | he
        · exact Ne.symm hx
        · exact hnone e he

/-- A byte after a copy: the source's, or as it was where the source's byte is listed nowhere. -/
theorem State.byte_copyMem (s : State) (hm : Memory.wf s.mem = true) (src dst len b : Nat) :
    (dst ≤ b ∧ b < dst + len ∧ (s.copyMem src dst len).byte b = s.byte (src + (b - dst)))
    ∨ ((s.copyMem src dst len).byte b = s.byte b
        ∧ (dst ≤ b → b < dst + len → s.byte (src + (b - dst)) = memReset (src + (b - dst)))) := by
  have hsorted := ((mwf_iff _ _).mp hm).1
  have hrange (e : Nat × Byte) : (Nat.ble src e.1 && Nat.blt e.1 (src + len)) = true ↔ src ≤ e.1 ∧ e.1 < src + len := by
    rw [Bool.and_eq_true, Nat.ble_eq, Nat.blt_eq]
  rcases State.byte_foldl_setByte (fun e => dst + (e.1 - src)) (s.mem.filter fun e => Nat.ble src e.1 && Nat.blt e.1 (src + len)) s b with
    ⟨e, he, hplace, hbyte⟩ | ⟨hnone, hbyte⟩
  · obtain ⟨he, hin⟩ := List.mem_filter.mp he
    obtain ⟨hlo, hhi⟩ := (hrange e).mp hin
    have hsrc : src + (b - dst) = e.1 := by omega
    refine .inl ⟨by omega, by omega, hbyte.trans ?_⟩
    rw [State.byte, hsrc, mget_of_mem hsorted he]
  · refine .inr ⟨hbyte, fun hlo hhi => ?_⟩
    by_contra hne
    obtain ⟨e, he, hkey⟩ := List.mem_map.mp (mem_keys_of_mget hne)
    refine hnone e (List.mem_filter.mpr ⟨he, (hrange e).mpr (by omega)⟩) ?_
    omega

theorem State.copyMem_keeps (s : State) (src dst len : Nat) : Frame [] [.mem] s (s.copyMem src dst len)
    ∧ (Memory.wf s.mem = true → Memory.wf (s.copyMem src dst len).mem = true) := by
  have hset (t : State) (a : Nat) (v : Byte) : Frame [] [.mem] t (t.setByte a v) :=
    ⟨fun _ _ => rfl, fun p hp => by cases p <;> simp_all [Piece.same, State.setByte]⟩
  refine ⟨(Frame.refl _ _ s).foldl fun t e _ => hset t _ _, fun h => ?_⟩
  exact foldl_inv (fun t : State => Memory.wf t.mem = true) _ _ s h fun t e _ ht => Memory.wf_setByte ht _ _

/-! ### The image's memories (R431) -/

/-- The byte of a cluster's image that stands at a place of its stake windows or its coil. -/
def imageOf (c b : Nat) : Nat :=
  if b < stakeBase 0 then imageBase c + 0x280000 + (b - coilBase c)
  else imageBase c + 0x50000 * ((b - stakeBase (8 * c)) / 0x80000) + (b - stakeBase (8 * c)) % 0x80000

/-- Whether a part of an image copies the image's own byte to every place of its range, which lies in the cluster. -/
def PartFits (c : Nat) (p : Nat × Nat × Nat) : Prop :=
  ∀ i, i < p.2.1 → imageOf c (p.2.2 + i) = imageBase c + p.1 + i ∧ imageBase c + p.1 + i < 0x0400000000 ∧ ¬outsideCluster c (p.2.2 + i)

/-- The range that a part of an image fills. -/
abbrev inPart (b : Nat) (p : Nat × Nat × Nat) : Prop := p.2.2 ≤ b ∧ b < p.2.2 + p.2.1

theorem base_bounds : (∀ k, 0x0700000000 ≤ stakeBase k) ∧ ∀ c, 0x0600000000 ≤ coilBase c :=
  ⟨fun _ => Nat.le_add_right _ _, fun _ => Nat.le_add_right _ _⟩

/-- Addresses of the reserved area lie in no cluster. -/
theorem outsideCluster_of_lt {b : Nat} (h : b < 0x0400000000) : outsideCluster c b :=
  ⟨.inl (Nat.lt_of_lt_of_le (Nat.lt_of_lt_of_le h (by decide)) (base_bounds.1 _)),
    .inl (Nat.lt_of_lt_of_le (Nat.lt_of_lt_of_le h (by decide)) (base_bounds.2 _))⟩

theorem memReset_of_lt {b : Nat} (h : b < 0x0400000000) : memReset b = 0#8 := by
  have hble : Nat.ble 0x0400000000 b = false := by rw [Bool.eq_false_iff, Ne, Nat.ble_eq]; omega
  rw [memReset, hble]
  rfl

theorem PartFits.at_place {p : Nat × Nat × Nat} (h : PartFits c p) {b : Nat} (hb : inPart b p) :
    imageOf c b = imageBase c + p.1 + (b - p.2.2) ∧ imageOf c b < 0x0400000000 ∧ ¬outsideCluster c b := by
  obtain ⟨hlo, hhi⟩ := hb
  obtain ⟨himage, hlt, hin⟩ := h (b - p.2.2) (by omega)
  rw [show p.2.2 + (b - p.2.2) = b by omega] at himage hin
  exact ⟨himage, by rw [himage]; exact hlt, hin⟩

/-- What copying some parts of a cluster's image comes to. -/
structure Copied (c : Nat) (parts : List (Nat × Nat × Nat)) (s t : State) : Prop where
  frame : Frame [] [.mem] s t
  wf : Memory.wf t.mem = true
  copied : ∀ b, (∃ p ∈ parts, inPart b p) → t.byte b = s.byte (imageOf c b)
  others : ∀ b, (∀ p ∈ parts, ¬inPart b p) → t.byte b = s.byte b

theorem Copied.step {parts : List (Nat × Nat × Nat)} {p : Nat × Nat × Nat} (h : Copied c parts s t) (hfits : ∀ q ∈ parts, PartFits c q)
    (hp : PartFits c p) (hblank : ∀ b, ¬outsideCluster c b → s.byte b = 0#8) :
    Copied c (parts ++ [p]) s (t.copyMem (imageBase c + p.1) p.2.2 p.2.1) := by
  obtain ⟨hframe, hwf⟩ := t.copyMem_keeps (imageBase c + p.1) p.2.2 p.2.1
  have hsource (b : Nat) (hb : b < 0x0400000000) : t.byte b = s.byte b :=
    h.others b fun q hq hin => (PartFits.at_place (hfits q hq) hin).2.2 (outsideCluster_of_lt hb)
  have hbyte (b : Nat) := t.byte_copyMem h.wf (imageBase c + p.1) p.2.2 p.2.1 b
  refine ⟨h.frame.step hframe, hwf h.wf, fun b hb => ?_, fun b hb => ?_⟩
  · rcases hbyte b with ⟨hlo, hhi, hcopy⟩ | ⟨hsame, hunlisted⟩
    · obtain ⟨himage, hlt, -⟩ := hp.at_place ⟨hlo, hhi⟩
      rw [hcopy, ← himage, hsource _ hlt]
    · by_cases hold : ∃ q ∈ parts, inPart b q
      · rw [hsame, h.copied b hold]
      · have hin : inPart b p := by
          obtain ⟨q, hq, hin⟩ := hb
          rcases List.mem_append.mp hq with hq | hq
          · exact absurd ⟨q, hq, hin⟩ hold
          · rwa [List.mem_singleton.mp hq] at hin
        obtain ⟨himage, hlt, hinside⟩ := hp.at_place hin
        have hzero := hunlisted hin.1 hin.2
        rw [← himage, memReset_of_lt hlt, hsource _ hlt] at hzero
        rw [hsame, h.others b fun q hq hin => hold ⟨q, hq, hin⟩, hblank b hinside, hzero]
  · rcases hbyte b with ⟨hlo, hhi, -⟩ | ⟨hsame, -⟩
    · exact absurd ⟨hlo, hhi⟩ (hb p (by simp))
    · rw [hsame, h.others b fun q hq => hb q (List.mem_append_left _ hq)]

theorem State.copyParts_spec (s : State) (hm : Memory.wf s.mem = true) (hblank : ∀ b, ¬outsideCluster c b → s.byte b = 0#8)
    {parts : List (Nat × Nat × Nat)} (hfits : ∀ p ∈ parts, PartFits c p) :
    Copied c parts s (parts.foldl (fun s p => s.copyMem (imageBase c + p.1) p.2.2 p.2.1) s) := by
  induction parts using List.reverseRecOn with
  | nil => exact ⟨Frame.refl _ _ s, hm, by simp, fun _ _ => rfl⟩
  | append_singleton parts p ih =>
    rw [List.foldl_append]
    have hfits' : ∀ q ∈ parts, PartFits c q := fun q hq => hfits q (List.mem_append_left _ hq)
    exact (ih hfits').step hfits' (hfits p (by simp)) hblank

theorem mem_imageParts {p : Nat × Nat × Nat} : p ∈ imageParts c ↔
    (∃ j, j < 8 ∧ (p = (0x50000 * j, 0x20000, stakeBase (8 * c + j)) ∨ p = (0x50000 * j + 0x20000, 0x20000, stakeBase (8 * c + j) + 0x20000)
      ∨ p = (0x50000 * j + 0x40000, 0x10000, stakeBase (8 * c + j) + 0x40000)))
    ∨ p = (0x280000, 0x200000, coilBase c) := by
  rw [imageParts, List.mem_append, List.mem_singleton, List.mem_flatMap]
  simp only [List.mem_range, List.mem_cons, List.not_mem_nil, or_false]

theorem stakeBase_add (k j : Nat) : stakeBase (k + j) = stakeBase k + j * 0x80000 := by
  rw [stakeBase, stakeBase, Nat.add_mul, Nat.add_assoc]

/-- The image's byte for a place of a stake's window. -/
theorem imageOf_stake {j i : Nat} (hi : i < 0x80000) :
    imageOf c (stakeBase (8 * c + j) + i) = imageBase c + 0x50000 * j + i := by
  rw [stakeBase_add, imageOf, if_neg, show stakeBase (8 * c) + j * 0x80000 + i - stakeBase (8 * c) = j * 0x80000 + i by omega,
    show (j * 0x80000 + i) / 0x80000 = j by omega, show (j * 0x80000 + i) % 0x80000 = i by omega]
  have := base_bounds.1 (8 * c)
  have h0 : stakeBase 0 = 0x0700000000 := rfl
  omega

/-- The image's byte for a place of the coil. -/
theorem imageOf_coil {i : Nat} (hc : c < 16) (hi : i < 0x200000) : imageOf c (coilBase c + i) = imageBase c + 0x280000 + i := by
  rw [imageOf, if_pos, Nat.add_sub_cancel_left]
  have h0 : stakeBase 0 = 0x0700000000 := rfl
  rw [h0, coilBase]
  omega

theorem imageBase_lt (hc : c < 16) : imageBase c < 0x05B00001 := by
  unfold imageBase
  omega

theorem partFits_stake (hc : c < 16) {j o len : Nat} (hj : j < 8) (h : o + len ≤ 0x50000) :
    PartFits c (0x50000 * j + o, len, stakeBase (8 * c + j) + o) := by
  intro i hi
  dsimp only at hi ⊢
  have hbase := imageBase_lt hc
  refine ⟨?_, by omega, fun hout => ?_⟩
  · rw [Nat.add_assoc, imageOf_stake (by omega)]
    omega
  · have hwindow := hout.1
    rw [stakeBase_add, stakeBase_add] at hwindow
    omega

theorem partFits_coil (hc : c < 16) : PartFits c (0x280000, 0x200000, coilBase c) := by
  intro i hi
  dsimp only at hi ⊢
  have hbase := imageBase_lt hc
  refine ⟨imageOf_coil hc hi, by omega, fun hout => ?_⟩
  have hcoil := hout.2
  rw [coilBase, coilBase] at hcoil
  omega

theorem partFits_imageParts (hc : c < 16) : ∀ p ∈ imageParts c, PartFits c p := by
  intro p hp
  rcases mem_imageParts.mp hp with ⟨j, hj, rfl | rfl | rfl⟩ | rfl
  · have h := partFits_stake (o := 0) (len := 0x20000) hc hj (by omega)
    rwa [Nat.add_zero, Nat.add_zero] at h
  · exact partFits_stake (o := 0x20000) (len := 0x20000) hc hj (by omega)
  · exact partFits_stake (o := 0x40000) (len := 0x10000) hc hj (by omega)
  · exact partFits_coil hc

/-- What the copy of a cluster's image leaves in its memories. -/
theorem Copied.memories {u : State} (h : Copied c (imageParts c) s u) (hc : c < 16) :
    (∀ j i, j < 8 → i < 0x50000 → u.byte (stakeBase (8 * c + j) + i) = s.byte (imageBase c + 0x50000 * j + i))
    ∧ (∀ i, i < 0x200000 → u.byte (coilBase c + i) = s.byte (imageBase c + 0x280000 + i))
    ∧ ∀ b, outsideCluster c b → u.byte b = s.byte b := by
  refine ⟨fun j i hj hi => ?_, fun i hi => ?_, fun b hb => ?_⟩
  · rw [← imageOf_stake (by omega)]
    refine h.copied _ ?_
    rcases Nat.lt_or_ge i 0x20000 with h1 | h1
    · exact ⟨_, mem_imageParts.mpr (.inl ⟨j, hj, .inl rfl⟩), Nat.le_add_right _ _, Nat.add_lt_add_left h1 _⟩
    · rcases Nat.lt_or_ge i 0x40000 with h2 | h2
      · refine ⟨_, mem_imageParts.mpr (.inl ⟨j, hj, .inr (.inl rfl)⟩), ?_⟩
        simp only [inPart]
        omega
      · refine ⟨_, mem_imageParts.mpr (.inl ⟨j, hj, .inr (.inr rfl)⟩), ?_⟩
        simp only [inPart]
        omega
  · rw [← imageOf_coil hc hi]
    exact h.copied _ ⟨_, mem_imageParts.mpr (.inr rfl), Nat.le_add_right _ _, Nat.add_lt_add_left hi _⟩
  · exact h.others b fun p hp hin => ((partFits_imageParts hc p hp).at_place hin).2.2 hb

/-! ### Register images (R80) -/

theorem State.bytes_congr_range {s t : State} {a n : Nat} (h : ∀ i, i < n → t.byte (a + i) = s.byte (a + i)) : t.bytes a n = s.bytes a n := by
  induction n generalizing a with
  | zero => rfl
  | succ n ih =>
    rw [State.bytes, State.bytes, ih fun i hi => ?_]
    · exact congrArg (· :: _) (h 0 (Nat.succ_pos n))
    · rw [show a + 1 + i = a + (i + 1) by omega]
      exact h (i + 1) (by omega)

theorem State.word_congr {s t : State} {a : Nat} (h : ∀ i, i < 4 → t.byte (a + i) = s.byte (a + i)) : t.word a = s.word a := by
  rw [State.word, State.word, State.bytes_congr_range h]

theorem Arch.writeImage_d {r : Arch} {off : Nat} (v : Word) (h : 0x80 ≤ off) : (r.writeImage off v).d = r.d := by
  unfold Arch.writeImage
  rw [if_neg (by omega)]
  have hacc (n k : Nat) : (match k with
      | 0 => r.putA n (setPart (r.acc n) v .l)
      | 1 => r.putA n (setPart (r.acc n) v .h)
      | 2 => r.putA n (setPart (r.acc n) v .g)
      | _ => r).d = r.d := by
    split
    · exact Arch.putA_d _ _ _
    · exact Arch.putA_d _ _ _
    · exact Arch.putA_d _ _ _
    · rfl
  split
  · exact hacc _ _
  split
  · exact Arch.setP_d _ _ _
  split
  · exact Arch.setM_d _ _ _
  split
  · exact Arch.setB_d _ _ _
  split
  · exact Arch.setL_d _ _ _
  split
  · exact Arch.setLc_d _ _ _
  split <;> rfl

/-- The d registers of a stake after the first words of a register image. -/
theorem Arch.rd_foldl_writeImage (w : Nat → Word) (r : Arch) (n i : Nat) (hi : i < 32) :
    ((List.range n).foldl (fun r i => r.writeImage (4 * i) (w i)) r).rd i = if i < n then w i else r.rd i := by
  induction n with
  | zero => rfl
  | succ n ih =>
    rw [List.range_succ, List.foldl_append, List.foldl_cons, List.foldl_nil]
    generalize (List.range n).foldl (fun r i => r.writeImage (4 * i) (w i)) r = x at ih
    by_cases hn : n < 32
    · have hset : x.writeImage (4 * n) (w n) = x.setD n (w n) := by
        rw [Arch.writeImage, if_pos (by omega), show 4 * n / 4 = n by omega]
      rw [hset, Arch.rd, Arch.setD, mget_mset, ← Arch.rd, ih]
      by_cases hin : i = n
      · rw [if_pos hin, if_pos (by omega), hin]
      · rw [if_neg hin]
        by_cases hlt : i < n
        · rw [if_pos hlt, if_pos (by omega)]
        · rw [if_neg hlt, if_neg (by omega)]
    · rw [Arch.rd, Arch.writeImage_d _ (by omega), ← Arch.rd, ih, if_pos (by omega), if_pos (by omega)]

/-- A stake with the words of a register image. -/
def Stake.imaged (x : Stake) (w : Nat → Word) : Stake :=
  { x with arch := (List.range 101).foldl (fun r i => r.writeImage (4 * i) (w i)) x.arch }

/-- The word of a cluster's image for a register of a stake. -/
def State.imageWord (s : State) (c k i : Nat) : Word := s.word (imageBase c + 0x480000 + 0x200 * (k % 8) + 4 * i)

theorem State.loadImage_eq (s : State) (c : Nat) : s.loadImage c =
    (stakesOf c).foldl (fun s k => s.setStake k ((s.stake k).imaged (s.imageWord c k)))
      ((imageParts c).foldl (fun s p => s.copyMem (imageBase c + p.1) p.2.2 p.2.1) s) := rfl

theorem State.loadImage_spec (s : State) (hc : c < 16) (hm : Memory.wf s.mem = true) (hblank : ∀ b, ¬outsideCluster c b → s.byte b = 0#8) :
    ∃ u, Copied c (imageParts c) s u ∧ StartKeeps u (s.loadImage c)
      ∧ ∀ k, k / 8 = c → ∀ i, i < 32 → ((s.loadImage c).stake k).arch.rd i = s.imageWord c k i := by
  have hcopied := s.copyParts_spec hm hblank (partFits_imageParts hc)
  rw [State.loadImage_eq]
  generalize (imageParts c).foldl (fun s p => s.copyMem (imageBase c + p.1) p.2.2 p.2.1) s = u at hcopied
  have hword {k i : Nat} (hi : i < 101) : u.imageWord c k i = s.imageWord c k i := by
    have hbase := imageBase_lt hc
    refine State.word_congr fun j hj => ?_
    exact (hcopied.memories hc).2.2 _ (outsideCluster_of_lt (by omega))
  have hframed {t : State} (ht : StartKeeps u t) (k : Nat) : t.imageWord c k = u.imageWord c k := by
    funext i
    exact State.word_congr fun j _ => ht.frame.2 .mem (by simp) _
  obtain ⟨hkeeps, hstakes⟩ := State.foldl_stakes_each (f := fun s k => s.setStake k ((s.stake k).imaged (s.imageWord c k)))
    (g := fun k x => x.imaged (u.imageWord c k)) (P := StartKeeps u) (l := stakesOf c)
    (fun t k _ ht => ⟨⟨ht.frame.step (Frame.setStake _ _ _), ht.clusters, ht.regions⟩, fun j => by
      rw [State.stake_setStake_ite, hframed ht]⟩) (nodup_stakesOf c) ⟨Frame.refl _ _ u, rfl, rfl⟩
  refine ⟨u, hcopied, hkeeps, fun k hk i hi => ?_⟩
  rw [hstakes, if_pos (mem_stakesOf.mpr hk), Stake.imaged]
  have hrd := Arch.rd_foldl_writeImage (u.imageWord c k) (u.stake k).arch 101 i hi
  rw [if_pos (by omega)] at hrd
  exact hrd.trans (hword (by omega))

/-! ### The end of loading (R150) -/

theorem loadingDone_spec (c : Fin 16) (s : State) (hcan : s.canonical = true) (hstate : s.clState c.val = clLoading)
    (hloading : (s.cluster c.val).loading = true) (hpower : s.bit PWR_STAT c.val = true)
    (hblank : ∀ b, (stakeBase (8 * c.val) ≤ b ∧ b < stakeBase (8 * c.val + 8)) ∨ (coilBase c.val ≤ b ∧ b < coilBase (c.val + 1)) →
      s.byte b = 0#8) :
    Does (.loadingDone c) s [CL_STAT c.val] [.compute, .mem] fun t => t.clState c.val = clHeld
      ∧ t.cluster c.val = { s.cluster c.val with loading := false } ∧ (∀ j, j ≠ c.val → t.cluster j = s.cluster j)
      ∧ (∀ j i, j < 8 → i < 0x50000 →
          t.byte (stakeBase (8 * c.val + j) + i) = s.byte (imageBase c.val + 0x50000 * j + i))
      ∧ (∀ i, i < 0x200000 → t.byte (coilBase c.val + i) = s.byte (imageBase c.val + 0x280000 + i))
      ∧ (∀ k i, k / 8 = c.val → i < 32 →
          (t.stake k).arch.rd i = s.word (imageBase c.val + 0x480000 + 0x200 * (k % 8) + 4 * i))
      ∧ ∀ b, (b < stakeBase (8 * c.val) ∨ stakeBase (8 * c.val + 8) ≤ b) → (b < coilBase c.val ∨ coilBase (c.val + 1) ≤ b) →
            t.byte b = s.byte b := by
  have hexec : exec (.loadingDone c) s = .next (if s.clState c.val = clLoading ∧ (s.cluster c.val).loading = true
        ∧ s.bit PWR_STAT c.val = true then
      ((s.loadImage c.val).setClState c.val clHeld).setCluster c.val { s.cluster c.val with loading := false } else s) := rfl
  rw [if_pos ⟨hstate, hloading, hpower⟩] at hexec
  obtain ⟨u, hcopied, hkeeps, hregs⟩ := s.loadImage_spec c.isLt ((State.canonical_iff s).mp hcan).1 fun b hb => hblank b (by
    simp only [outsideCluster, not_and_or, not_or, Nat.not_lt, Nat.not_le] at hb
    exact hb)
  obtain ⟨hstakes, hcoil, hothers⟩ := hcopied.memories c.isLt
  generalize s.loadImage c.val = x at *
  have hheld : Frame [CL_STAT c.val] [] x (x.setClState c.val clHeld) := Frame.sf x (CL_STAT_STATE c.val) clHeld
  have hstat : (x.setClState c.val clHeld).reg (CL_STAT c.val) = setBits (x.reg (CL_STAT c.val)) 31 29 clHeld := State.reg_setReg_self _ _ _
  generalize x.setClState c.val clHeld = y at *
  have hset := Frame.setCluster y c.val { s.cluster c.val with loading := false }
  have hafter : Frame [CL_STAT c.val] [.compute] u (y.setCluster c.val { s.cluster c.val with loading := false }) :=
    (hkeeps.frame.mono (by simp) (by simp)).step hheld |>.step hset
  have hbyte (b : Nat) : (y.setCluster c.val { s.cluster c.val with loading := false }).byte b = u.byte b := hafter.2 .mem (by simp) b
  refine ⟨_, hexec, ?_, ?_, State.cluster_setCluster _ _ _, fun j hj => ?_, fun j i hj hi => ?_, fun i hi => ?_, fun k i hk hi => ?_,
    fun b hb hb' => ?_⟩
  · exact (hcopied.frame.mono (by simp) (by simp)).step hafter
  · exact (hset.rf (by simp)).trans (State.clState_of_reg hstat (by decide))
  · rw [State.cluster_setCluster_ne _ _ hj, hheld.cluster, State.cluster, hkeeps.clusters, ← State.cluster, hcopied.frame.cluster]
  · rw [hbyte, hstakes j i hj hi]
  · rw [hbyte, hcoil i hi]
  · rw [State.stake_setCluster, hheld.stake]
    exact hregs k hk i hi
  · rw [hbyte, hothers b ⟨hb, hb'⟩]

/-! ### Operating points (R155) -/

/-- A region's waiting operating point moved at an instant, with its event. -/
def State.opMoved (s : State) (r : Nat) (f : RegField) (at_ : Nat) (x : Nat → Region) : State :=
  (((s.moveTo at_).raise f).setRegion r (x (s.moveTo at_).now))

theorem Frame.setRegion (s : State) (r : Nat) (x : Region) : Frame [] [.compute] s (s.setRegion r x) := Frame.withCompute s _

theorem State.opMoved_spec (s : State) (r : Nat) (f : RegField) (at_ : Nat) (x : Nat → Region) :
    Frame [f.reg] [.now, .compute] s (s.opMoved r f at_ x) ∧ (s.opMoved r f at_ x).now = max s.now at_
      ∧ (s.opMoved r f at_ x).region r = x (max s.now at_)
      ∧ (s.opMoved r f at_ x).reg f.reg = setBits (s.reg f.reg) f.hi f.lo 1
      ∧ (∀ j, j ≠ r → (s.opMoved r f at_ x).region j = s.region j)
      ∧ (s.opMoved r f at_ x).compute.stakes = s.compute.stakes ∧ (s.opMoved r f at_ x).compute.clusters = s.compute.clusters := by
  refine ⟨(Frame.refl _ _ s).step (Frame.moveTo _ _) |>.step (Frame.raise _ _) |>.step (Frame.setRegion _ _ _), rfl, ?_, ?_,
    fun j hj => ?_, rfl, rfl⟩
  · exact mget_mset_self _ _ _ _
  · exact (s.moveTo at_).reg_raise_self f
  · exact mget_mset_ne _ _ hj _

/-- Settles O25. That the image is copied at the end of LOADING is log 42, and that ISOLATE runs to its end at the write log 123. -/
theorem clusterControl : Obligations.ClusterControl := by
  refine ⟨fun a c s hr => ?_, loadingDone_spec, fun r s x => ?_⟩
  · refine ⟨clCtlStart_held hr, clCtlStart_refused hr, fun h => ?_, clCtlIsolate_off hr, fun on h => clCtlIsolate_kept hr h,
      clCtlReinit_done hr⟩
    obtain ⟨t, hexec, hframe, herr, hstate, hbit, hflag, hwiped⟩ := clCtlIsolate_on hr h
    exact ⟨t, hexec, hframe, herr, hstate, hbit, hflag, hwiped.reset, hwiped.others, fun b hb hb' => hwiped.bytes b ⟨hb, hb'⟩⟩
  · intro op
    have hdown : exec (.throttleDown r) s = .next (match (s.region r.val).hot with
      | some x => if s.rf (REG_OP_MIN_OP r.val) < op then
          s.opMoved r.val (REG_EVT_DOWN r.val) (x + 10 * ms1) fun now => { s.region r.val with pend := some (op - 1), hot := some now }
        else s
      | none => s) := rfl
    have hup : exec (.throttleUp r) s = .next (match (s.region r.val).cool with
      | some x => if op < s.rf (REG_OP_NOM_OP r.val) then
          s.opMoved r.val (REG_EVT_UP r.val) (x + sec1) fun now => { s.region r.val with pend := some (op + 1), cool := some now }
        else s
      | none => s) := rfl
    refine ⟨fun hhot hlt => ?_, fun hle => ?_, fun hcool hlt => ?_, fun hle => ?_⟩
    · rw [hhot] at hdown
      dsimp only at hdown
      rw [if_pos hlt] at hdown
      obtain ⟨hframe, hnow, hregion, hreg, hothers, hstakes, hclusters⟩ := s.opMoved_spec r.val (REG_EVT_DOWN r.val) (x + 10 * ms1)
        fun now => { s.region r.val with pend := some (op - 1), hot := some now }
      exact ⟨_, hdown, hframe, hnow, by rw [hregion], hreg, hothers, hstakes, hclusters⟩
    · rw [hdown]
      cases (s.region r.val).hot with
      | none => rfl
      | some x => exact congrArg _ (if_neg (Nat.not_lt.mpr hle))
    · rw [hcool] at hup
      dsimp only at hup
      rw [if_pos hlt] at hup
      obtain ⟨hframe, hnow, hregion, hreg, hothers, hstakes, hclusters⟩ := s.opMoved_spec r.val (REG_EVT_UP r.val) (x + sec1)
        fun now => { s.region r.val with pend := some (op + 1), cool := some now }
      exact ⟨_, hup, hframe, hnow, by rw [hregion], hreg, hothers, hstakes, hclusters⟩
    · rw [hup]
      cases (s.region r.val).cool with
      | none => rfl
      | some x => exact congrArg _ (if_neg (Nat.not_lt.mpr hle))

end Sys2Proof.Machine
end

section
/-! SUPPORT. Proofs/AlarmCmds.lean: the Warden's alarm commands and the writes of ALARM_CTL (R216, R217). -/
-- The proofs of this file are elaborated one after another: side by side their threads exceed the memory of the check.
set_option Elab.async false
namespace Sys2Proof.Machine

open Reg

variable {s t : State} {a : Agent}

/-- What a latched command changes of the alarm block, from another source than the partner (R37, R195, R541). -/
theorem State.latch_alarm_eq {rank : Nat} (h : rank ≠ rkPartner) (c : AlarmCmd) : (s.latch rank c).alarm =
    { s.alarm with cmds := s.latched s.now rank c, starts := s.alarm.starts ++ match c with | .start n => [n] | _ => [] } := by
  rw [s.latch_alarm h]
  cases c <;> rfl

/-- The command that a word of ALARM_CMD gives. -/
theorem alarmCmdWrite_latches {v : Word} {op n : Nat} {c : AlarmCmd} (hop : bitsOf v 9 8 = op) (hn : bitsOf v 5 0 = n)
    (h : op = 1 ∧ c = .start n ∨ op = 2 ∧ c = .stop n ∨ op = 3 ∧ c = .reset) : s.alarmCmdWrite 1 v = (s.latch rkCmd c).ok 0#32 := by
  rw [State.alarmCmdWrite, if_neg (by decide), hop, hn]
  rcases h with ⟨rfl, rfl⟩ | ⟨rfl, rfl⟩ | ⟨rfl, rfl⟩ <;> rfl

/-- The three commands of ALARM_CMD, as writes of the register. -/
theorem alarmCmd_exec {tr : Fin 64} {i : Instr} {c : AlarmCmd}
    (h : (i, c) ∈ [(Instr.alarmCmdStart a tr, AlarmCmd.start tr.val), (.alarmCmdStop a tr, .stop tr.val), (.alarmCmdReset a, .reset)]) :
    ∃ v : Word, (∀ s : State, exec i s = .next (s.regWrite a ALARM_CMD v fun s => s.alarmCmdWrite a.val v))
      ∧ ∀ s : State, s.alarmCmdWrite 1 v = (s.latch rkCmd c).ok 0#32 := by
  have hword (op : Nat) (hop : op < 4) (n : Nat) (hn : n < 64) :
      bitsOf (alarmCmdWord op n) 9 8 = op ∧ bitsOf (alarmCmdWord op n) 5 0 = n := by
    have hval : (alarmCmdWord op n).toNat = op * 256 + n := by
      rw [alarmCmdWord, BitVec.toNat_ofNat]
      omega
    rw [bitsOf, bitsOf, hval, Nat.shiftRight_eq_div_pow, Nat.shiftRight_eq_div_pow]
    omega
  simp only [List.mem_cons, List.not_mem_nil, or_false, Prod.mk.injEq] at h
  rcases h with ⟨rfl, rfl⟩ | ⟨rfl, rfl⟩ | ⟨rfl, rfl⟩
  · obtain ⟨hop, hn⟩ := hword 1 (by decide) tr.val tr.isLt
    exact ⟨_, fun _ => rfl, fun _ => alarmCmdWrite_latches hop hn (.inl ⟨rfl, rfl⟩)⟩
  · obtain ⟨hop, hn⟩ := hword 2 (by decide) tr.val tr.isLt
    exact ⟨_, fun _ => rfl, fun _ => alarmCmdWrite_latches hop hn (.inr (.inl ⟨rfl, rfl⟩))⟩
  · obtain ⟨hop, hn⟩ := hword 3 (by decide) 0 (by decide)
    exact ⟨_, fun _ => rfl, fun _ => alarmCmdWrite_latches hop hn (.inr (.inr ⟨rfl, rfl⟩))⟩

/-- Settles O30: agent 1's commands are latched and RUN is written by agents 0 and 1 alone. -/
theorem alarmCommands : Obligations.AlarmCommands := by
  refine fun a s => ⟨fun tr i c hi hr => ⟨fun ha => ?_, fun ha => ?_⟩, fun v hr => ⟨fun ha => ?_, fun ha => ?_⟩⟩
  · obtain ⟨v, hexec, hwrite⟩ := alarmCmd_exec hi
    have hlatch := State.latch_alarm_eq (s := s.ok 0#32) (rank := rkCmd) (by decide) c
    have hframe := State.latch_frame (s := s.ok 0#32) rkCmd c
    refine Does.of_write (hexec s) hr (t := ((s.ok 0#32).latch rkCmd c).ok 0#32) (by rw [ha]; exact hwrite _) rfl ?_ ⟨rfl, hlatch⟩
    exact (Frame.refl _ _ s).step (Frame.ok s 0#32) |>.step hframe |>.step (Frame.ok _ _)
  · obtain ⟨v, hexec, -⟩ := alarmCmd_exec hi
    exact Errs.of_write (hexec s) hr (if_pos ha) rfl ((Frame.refl _ _ s).step (Frame.ok s 0#32) |>.step (Frame.err _)) fun _ _ => trivial
  · have hwrite : (s.ok 0#32).alarmCtlWrite a.val v = ((s.ok 0#32).sf ALARM_CTL_RUN (bitsOf v 0 0)).ok 0#32 :=
      if_pos (by rwa [Nat.ble_eq])
    have hreg : (((s.ok 0#32).sf ALARM_CTL_RUN (bitsOf v 0 0)).ok 0#32).reg ALARM_CTL = setBits (s.reg ALARM_CTL) 0 0 (bitsOf v 0 0) :=
      State.reg_setReg_self _ _ _
    refine Does.of_write rfl hr hwrite rfl ?_ ⟨rfl, ?_, fun b hb hb32 => ?_⟩
    · exact (Frame.refl _ _ s).step (Frame.ok s 0#32) |>.step (Frame.sf _ ALARM_CTL_RUN _) |>.step (Frame.ok _ _)
    · rw [State.flag, State.rf, hreg, bitsOf_setBits_self _ _ (by decide) (by decide), bitAt_eq_bitsOf,
        Nat.mod_eq_of_lt (bitsOf_lt v 0 0)]
    · rw [State.bit, hreg, bitAt_setBits _ _ _ _ (by decide), if_neg (by omega), State.bit]
  · have hwrite : (s.ok 0#32).alarmCtlWrite a.val v = (s.ok 0#32).err := if_neg (by rw [Nat.ble_eq]; omega)
    exact Errs.of_write rfl hr hwrite rfl ((Frame.refl _ _ s).step (Frame.ok s 0#32) |>.step (Frame.err _)) fun _ _ => trivial

end Sys2Proof.Machine
end

section
/-! SUPPORT. Proofs/Contacts.lean: the bands of a loop voltage, wake events, and an input's state taken on (R192 to R194, R489). -/
-- The proofs of this file are elaborated one after another: side by side their threads exceed the memory of the check.
set_option Elab.async false
namespace Sys2Proof.Machine

open Reg

variable {s t u : State}

/-! ### Bands (R192) -/

/-- Whether a voltage stands above an edge, `r` the rank of the band before. -/
abbrev aboveEdge (r v : Nat) (e : Nat × Nat) : Bool := if e.2 < r then Nat.ble (e.1 - bandHalf) v else Nat.blt (e.1 + bandHalf) v

theorem aboveEdge_false {r v edge k : Nat} (h : v < edge - 100) : aboveEdge r v (edge, k) = false := by
  unfold aboveEdge bandHalf
  dsimp only
  split
  · rw [Bool.eq_false_iff, Ne, Nat.ble_eq]; omega
  · rw [Bool.eq_false_iff, Ne, Nat.blt_eq]; omega

theorem aboveEdge_true {r v edge k : Nat} (h : edge + 100 < v) : aboveEdge r v (edge, k) = true := by
  unfold aboveEdge bandHalf
  dsimp only
  split
  · rw [Nat.ble_eq]; omega
  · rwa [Nat.blt_eq]

theorem bandOf_eq (before v : Nat) : bandOf before v =
    bandAt (([(1500, 0), (4500, 1), (8000, 2)].filter (aboveEdge (bandRank before) v)).length) := rfl

theorem bandOf_spec (before v : Nat) : (v < 1400 → bandOf before v = 3) ∧ (1600 < v → v < 4400 → bandOf before v = 1)
    ∧ (4600 < v → v < 7900 → bandOf before v = 0) ∧ (8100 < v → bandOf before v = 2) := by
  have hfilter (b0 b1 b2 : Bool) (h0 : aboveEdge (bandRank before) v (1500, 0) = b0) (h1 : aboveEdge (bandRank before) v (4500, 1) = b1)
      (h2 : aboveEdge (bandRank before) v (8000, 2) = b2) : bandOf before v = bandAt (b0.toNat + b1.toNat + b2.toNat) := by
    rw [bandOf_eq]
    simp only [List.filter, h0, h1, h2]
    cases b0 <;> cases b1 <;> cases b2 <;> rfl
  refine ⟨fun h => ?_, fun h h' => ?_, fun h h' => ?_, fun h => ?_⟩
  · exact hfilter false false false (aboveEdge_false (by omega)) (aboveEdge_false (by omega)) (aboveEdge_false (by omega))
  · exact hfilter true false false (aboveEdge_true (by omega)) (aboveEdge_false (by omega)) (aboveEdge_false (by omega))
  · exact hfilter true true false (aboveEdge_true (by omega)) (aboveEdge_true (by omega)) (aboveEdge_false (by omega))
  · exact hfilter true true true (aboveEdge_true (by omega)) (aboveEdge_true (by omega)) (aboveEdge_true (by omega))

theorem State.loop_setLoop (s : State) (i j : Nat) (x : Loop) : (s.setLoop i x).loop j = if j = i then x else s.loop j :=
  mget_mset _ _ _ _ _

theorem Frame.setLoop (s : State) (i : Nat) (x : Loop) : Frame [] [.alarm] s (s.setLoop i x) := Frame.withAlarm s _

/-! ### Wake events (R489, R490) -/

/-- The registers that a wake event may change. -/
def wakeRegs : List Nat := [RIM_WAKE_LATCH, RIM_WAKE_CNT]

/-- The field that counts wakes. -/
abbrev wakeCount : RegField := ⟨RIM_WAKE_CNT, 31, 16⟩

theorem State.startWake_spec (s : State) : Frame [RIM_WAKE_CNT] [.power] s s.startWake ∧ s.startWake.power.hubWake.isSome = true := by
  unfold State.startWake
  split
  · next h => exact ⟨Frame.refl _ _ s, h⟩
  · have hcount := Frame.countUp ({ s with power := { s.power with hubWake := some s.now } }) wakeCount
    exact ⟨((Frame.power s _).mono (by simp) (by simp)).step hcount, by rw [hcount.2 .power (by simp)]; rfl⟩

/-- A wake event latched. -/
def State.wakeLatched (s : State) : State :=
  if s.pstate = pRim then s.startWake
  else match s.power.hand with
    | some h => { s with power := { s.power with hand := some { h with woken := true } } }
    | none => s

theorem State.wakeLatched_frame (s : State) : Frame [RIM_WAKE_CNT] [.power] s s.wakeLatched := by
  unfold State.wakeLatched
  split
  · exact s.startWake_spec.1
  · split
    · exact (Frame.power s _).mono (by simp) (by simp)
    · exact Frame.refl _ _ s

/-- Whether a wake event is latched. -/
def State.wakeHeard (s : State) (src : Nat) : Bool :=
  s.bit RIM_WAKE_EN src && (s.pstate == pRim || match s.power.hand with | some h => h.target == pRim | none => false)

theorem State.wakeEvent_eq (s : State) (src : Nat) :
    s.wakeEvent src = if s.wakeHeard src then (s.setBit RIM_WAKE_LATCH src).wakeLatched else s := rfl

theorem State.wakeEvent_frame (s : State) (src : Nat) : Frame wakeRegs [.power] s (s.wakeEvent src) := by
  rw [State.wakeEvent_eq]
  split
  · exact (Frame.refl _ _ s).step (Frame.setBit _ _ _) (by simp [wakeRegs]) |>.step (State.wakeLatched_frame _) (by simp [wakeRegs])
  · exact Frame.refl _ _ s

theorem State.wakeEvent_quiet (hstate : s.pstate ≠ 3) (hhand : s.power.hand = none) (src : Nat) : s.wakeEvent src = s := by
  have hheard : s.wakeHeard src = false := by
    have hne : (s.pstate == pRim) = false := beq_false_of_ne hstate
    rw [State.wakeHeard, hhand, hne]
    exact Bool.and_false _
  rw [State.wakeEvent_eq, hheard]
  rfl

/-- In Rim an enabled event is latched and begins the hub's wake. -/
theorem State.wakeEvent_rim (hstate : s.pstate = 3) {src : Nat} (hsrc : src < 32) (hen : s.bit RIM_WAKE_EN src = true) :
    (s.wakeEvent src).bit RIM_WAKE_LATCH src = true ∧ (s.wakeEvent src).power.hubWake.isSome = true := by
  have hheard : s.wakeHeard src = true := by
    rw [State.wakeHeard, hen, hstate]
    rfl
  have hset : (s.setBit RIM_WAKE_LATCH src).pstate = pRim := ((Frame.setBit s RIM_WAKE_LATCH src).rf (by decide)).trans hstate
  have hbit : (s.setBit RIM_WAKE_LATCH src).bit RIM_WAKE_LATCH src = true := by rw [State.bit_setBit _ _ _ hsrc]; simp
  rw [State.wakeEvent_eq, hheard, if_pos rfl, State.wakeLatched, if_pos hset]
  generalize s.setBit RIM_WAKE_LATCH src = u at *
  obtain ⟨hframe, hwake⟩ := u.startWake_spec
  exact ⟨by rw [State.bit, hframe.1 _ (by decide)]; exact hbit, hwake⟩

/-- A wake event keeps what is latched already, and a wake that has begun. -/
theorem State.wakeEvent_keeps {j src : Nat} (hsrc : src < 32) (hbit : s.bit RIM_WAKE_LATCH j = true)
    (hwake : s.power.hubWake.isSome = true) :
    (s.wakeEvent src).bit RIM_WAKE_LATCH j = true ∧ (s.wakeEvent src).power.hubWake.isSome = true := by
  rw [State.wakeEvent_eq]
  split
  · have hset : (s.setBit RIM_WAKE_LATCH src).bit RIM_WAKE_LATCH j = true := by rw [State.bit_setBit _ _ _ hsrc, hbit]; rfl
    have hpower : (s.setBit RIM_WAKE_LATCH src).power.hubWake.isSome = true := hwake
    generalize s.setBit RIM_WAKE_LATCH src = u at *
    refine ⟨by rw [State.bit, u.wakeLatched_frame.1 _ (by decide)]; exact hset, ?_⟩
    unfold State.wakeLatched
    split
    · exact u.startWake_spec.2
    · split <;> exact hpower
  · exact ⟨hbit, hwake⟩

/-! ### An input's state taken on (R193, R194) -/

/-- What an input latches as its state changes (R194). -/
def State.inputCmd (s : State) (i old new : Nat) : Option AlarmCmd :=
  if s.flag (ALARM_IN_CFG_ROLE i) then if new = inActive then some .reset else none
  else if s.starting i new then some (.start (s.rf (ALARM_IN_CFG_TRIG i)))
  else if s.starting i old then some (.leave i (s.rf (ALARM_IN_CFG_TRIG i)))
  else none

/-- A command latched, where there is one. -/
def State.latchOf (s : State) (rank : Nat) (c : Option AlarmCmd) : State := c.elim s (s.latch rank)

/-- An input's state shown, with its event. -/
def State.inputNoted (s : State) (i new : Nat) : State := (s.setInState i new).raise ALARM_EVT_IN_CHANGE

/-- A wake event, where there is one. -/
def State.wokenIf (s : State) (b : Bool) (src : Nat) : State := if b then s.wakeEvent src else s

/-- Whether an input's change of state begins its trigger, which is a wake event too. -/
def State.inputBegins (s : State) (i new : Nat) : Bool := !s.flag (ALARM_IN_CFG_ROLE i) && s.starting i new

theorem State.inputTo_eq (s : State) (i new : Nat) : ∃ fault, s.inputTo i new =
    (((s.inputNoted i new).latchOf i ((s.inputNoted i new).inputCmd i (s.inState i) new)).wokenIf
      ((s.inputNoted i new).inputBegins i new) 0).wokenIf fault 1 := by
  unfold State.inputTo
  extract_lets old noted t after
  have hnoted : s.inputNoted i new = noted := rfl
  rw [hnoted]
  clear_value noted
  have hafter : after = (noted.latchOf i (noted.inputCmd i old new)).wokenIf (noted.inputBegins i new) 0 := by
    unfold State.latchOf State.inputCmd State.wokenIf State.inputBegins
    simp only [after, t]
    cases noted.flag (ALARM_IN_CFG_ROLE i)
    · cases noted.starting i new
      · cases noted.starting i old <;> rfl
      · rfl
    · by_cases hnew : new = inActive
      · simp only [hnew, if_true]; rfl
      · simp only [hnew, if_true, if_false]; rfl
  refine ⟨decide ((new = inOpen ∨ new = inShort) ∧ after.flag (ALARM_IN_CFG_WAKE_FLT i)), ?_⟩
  rw [← hafter, State.wokenIf]
  simp only [decide_eq_true_eq]

theorem State.latchOf_frame (s : State) (rank : Nat) (c : Option AlarmCmd) : Frame [] [.alarm] s (s.latchOf rank c) := by
  cases c with
  | none => exact Frame.refl _ _ s
  | some c => exact s.latch_frame rank c

theorem State.latchOf_alarm (s : State) {rank : Nat} (h : rank ≠ rkPartner) (c : Option AlarmCmd) :
    (s.latchOf rank c).alarm.cmds = c.elim s.alarm.cmds (s.latched s.now rank)
      ∧ (s.latchOf rank c).alarm.loops = s.alarm.loops := by
  cases c with
  | none => exact ⟨rfl, rfl⟩
  | some c => exact ⟨by rw [State.latchOf, Option.elim, s.latch_alarm h]; rfl, by rw [State.latchOf, Option.elim, s.latch_alarm h]⟩

theorem State.wokenIf_frame (s : State) (b : Bool) (src : Nat) : Frame wakeRegs [.power] s (s.wokenIf b src) :=
  (s.wakeEvent_frame src).ite (Frame.refl _ _ s)

theorem State.wokenIf_quiet (hstate : s.pstate ≠ 3) (hhand : s.power.hand = none) (b : Bool) (src : Nat) : s.wokenIf b src = s := by
  rw [State.wokenIf, State.wakeEvent_quiet hstate hhand, ite_self]

/-- What an input's change of state leaves (R193, R194). -/
structure InputTo (i new : Nat) (s t : State) : Prop where
  frame : Frame (ALARM_IN_STAT :: ALARM_EVT :: wakeRegs) [.alarm, .power] s t
  stat : t.reg ALARM_IN_STAT = setBits (s.reg ALARM_IN_STAT) (2 * i + 1) (2 * i) new
  evt : t.reg ALARM_EVT = s.raised ALARM_EVT [ALARM_EVT_IN_CHANGE]
  cmds : t.alarm.cmds = (s.inputCmd i (s.inState i) new).elim s.alarm.cmds (s.latched s.now i)
  loops : t.alarm.loops = s.alarm.loops
  quiet : s.pstate ≠ 3 → s.power.hand = none → t.power = s.power ∧ t.reg RIM_WAKE_LATCH = s.reg RIM_WAKE_LATCH
  woken : s.pstate = 3 → s.inputBegins i new = true → s.bit RIM_WAKE_EN 0 = true →
    t.bit RIM_WAKE_LATCH 0 = true ∧ t.power.hubWake.isSome = true

theorem State.inputNoted_frame (s : State) (i new : Nat) : Frame [ALARM_IN_STAT, ALARM_EVT] [] s (s.inputNoted i new) :=
  (Frame.refl _ _ s).step (Frame.setReg _ _ _) |>.step (Frame.raise _ _)

/-- The configuration of an input is not among the registers that its change of state shows. -/
theorem inCfg_ne {i : Nat} : ALARM_IN_CFG i ∉ [ALARM_IN_STAT, ALARM_EVT] := by
  simp only [List.mem_cons, List.not_mem_nil, or_false, ALARM_IN_CFG, ALARM_IN_STAT, ALARM_EVT]
  omega

theorem State.inputTo_spec (s : State) {i : Nat} (new : Nat) (hi : i < 16) : InputTo i new s (s.inputTo i new) := by
  obtain ⟨fault, heq⟩ := s.inputTo_eq i new
  have hnoted := s.inputNoted_frame i new
  have hstat : (s.inputNoted i new).reg ALARM_IN_STAT = setBits (s.reg ALARM_IN_STAT) (2 * i + 1) (2 * i) new :=
    (State.reg_raise_ne _ (by decide)).trans (State.reg_setReg_self _ _ _)
  have hevt : (s.inputNoted i new).reg ALARM_EVT = s.raised ALARM_EVT [ALARM_EVT_IN_CHANGE] := by
    rw [State.inputNoted, State.reg_raise_self (f := ALARM_EVT_IN_CHANGE), State.setInState, State.reg_setReg_ne _ (by decide)]
    rfl
  have hcfg (f : RegField) (hf : f.reg = ALARM_IN_CFG i) : (s.inputNoted i new).rf f = s.rf f := hnoted.rf (by rw [hf]; exact inCfg_ne)
  have hstarting (code : Nat) : (s.inputNoted i new).starting i code = s.starting i code := by
    rw [State.starting, State.starting, State.flag, State.flag, hcfg _ rfl]
  have hcmd : (s.inputNoted i new).inputCmd i (s.inState i) new = s.inputCmd i (s.inState i) new := by
    rw [State.inputCmd, State.inputCmd, State.flag, State.flag, hcfg _ rfl, hcfg _ rfl, hstarting, hstarting]
  have hbegins : (s.inputNoted i new).inputBegins i new = s.inputBegins i new := by
    rw [State.inputBegins, State.inputBegins, State.flag, State.flag, hcfg _ rfl, hstarting]
  rw [hcmd, hbegins] at heq
  generalize s.inputNoted i new = n at *
  have hlatch := n.latchOf_frame i (s.inputCmd i (s.inState i) new)
  obtain ⟨hcmds, hloops⟩ := n.latchOf_alarm (rank := i) (by unfold rkPartner; omega) (s.inputCmd i (s.inState i) new)
  have hbefore : Frame [ALARM_IN_STAT, ALARM_EVT] [.alarm] s (n.latchOf i (s.inputCmd i (s.inState i) new)) :=
    (hnoted.mono (by simp) (by simp)).step hlatch
  have hlatched : n.latched n.now i = s.latched s.now i := by
    funext c
    rw [State.latched, State.latched, hnoted.2 .alarm (by simp), hnoted.2 .now (by simp)]
  rw [hnoted.2 .alarm (by simp)] at hcmds hloops
  rw [hlatched] at hcmds
  generalize n.latchOf i (s.inputCmd i (s.inState i) new) = l at *
  have hpstate : l.pstate = s.pstate := hbefore.rf (by decide)
  have hpower : l.power = s.power := hbefore.2 .power (by simp)
  have hwoken : Frame wakeRegs [.power] l ((l.wokenIf (s.inputBegins i new) 0).wokenIf fault 1) :=
    (l.wokenIf_frame _ 0).trans (State.wokenIf_frame _ _ 1)
  rw [heq]
  refine ⟨(hbefore.mono (by simp) (by simp)).step hwoken (by simp +contextual), ?_, ?_, ?_, ?_, fun hs hh => ?_, fun hs hb hen => ?_⟩
  · exact (hwoken.1 _ (by decide)).trans ((hlatch.1 _ (by simp)).trans hstat)
  · exact (hwoken.1 _ (by decide)).trans ((hlatch.1 _ (by simp)).trans hevt)
  · rw [hwoken.2 .alarm (by simp), hcmds]
  · rw [hwoken.2 .alarm (by simp), hloops]
  · have hquiet (b : Bool) (src : Nat) : l.wokenIf b src = l := State.wokenIf_quiet (by rwa [hpstate]) (by rwa [hpower]) b src
    rw [hquiet, hquiet]
    exact ⟨hpower, hbefore.1 _ (by decide)⟩
  · obtain ⟨hbit, hwake⟩ := State.wakeEvent_rim (s := l) (by rwa [hpstate]) (src := 0) (by decide)
      (by rw [State.bit, hbefore.1 _ (by decide)]; exact hen)
    rw [hb, State.wokenIf, State.wokenIf, if_pos rfl]
    cases fault with
    | false => exact ⟨hbit, hwake⟩
    | true => exact State.wakeEvent_keeps (by decide) hbit hwake

/-- The state in which an input's filter accepts its band: the instant reached, and the filter stopped. -/
def State.filterDone (s : State) (i : Nat) : State :=
  (s.moveTo ((s.loop i).since + s.filterTime i)).setLoop i { s.loop i with counting := false }

theorem State.filterDone_frame (s : State) (i : Nat) : Frame [] [.now, .alarm] s (s.filterDone i) :=
  (Frame.refl _ _ s).step (Frame.moveTo _ _) |>.step (Frame.setLoop _ _ _)

theorem contactBandChange_spec (i : Fin 16) (v : Fin 10001) (s : State) :
    let band := bandOf (s.loop i.val).raw v.val
    ((s.loop i.val).raw = band → exec (.contactBandChange i v) s = .next s)
    ∧ ((s.loop i.val).raw ≠ band → Does (.contactBandChange i v) s [] [.alarm] fun t =>
        t.alarm = { s.alarm with loops := t.alarm.loops } ∧ (∀ j, j ≠ i.val → t.loop j = s.loop j)
        ∧ t.loop i.val = ⟨band, s.now, s.flag (ALARM_IN_CFG_EN i.val) && band != s.inState i.val⟩) := by
  intro band
  have hexec : exec (.contactBandChange i v) s = .next (if (s.loop i.val).raw = band then s
      else s.setLoop i.val ⟨band, s.now, s.flag (ALARM_IN_CFG_EN i.val) && band != s.inState i.val⟩) := rfl
  refine ⟨fun h => by rw [hexec, if_pos h], fun h => ?_⟩
  rw [if_neg h] at hexec
  exact ⟨_, hexec, Frame.setLoop _ _ _, rfl, fun j hj => (State.loop_setLoop _ _ _ _).trans (if_neg hj),
    (State.loop_setLoop _ _ _ _).trans (if_pos rfl)⟩

/-- Settles O28: bands with their hysteresis, and what the accepted band latches. That the hysteresis lies evenly about a
boundary is log 126. -/
theorem contactInputs : Obligations.ContactInputs := by
  refine fun i s => ⟨fun v => ?_, ?_⟩
  · obtain ⟨hshort, hactive, hnormal, hopen⟩ := bandOf_spec (s.loop i.val).raw v.val
    obtain ⟨hsame, hcross⟩ := contactBandChange_spec i v s
    exact ⟨hshort, hactive, hnormal, hopen, hsame, hcross⟩
  · intro x go key tr begins
    have hexec : exec (.contactFilterAccept i) s = .next (if s.flag (ALARM_IN_CFG_EN i.val) = true ∧ x.counting = true
        ∧ x.raw ≠ s.inState i.val then (s.filterDone i.val).inputTo i.val x.raw else s) := rfl
    have hgo : go = true ↔ s.flag (ALARM_IN_CFG_EN i.val) = true ∧ x.counting = true ∧ x.raw ≠ s.inState i.val := by
      simp only [go, Bool.and_eq_true, bne_iff_ne, and_assoc]
    refine ⟨fun h => ?_, fun h hraw => ?_⟩
    · rw [hexec, if_neg (mt hgo.mpr (by rw [h]; exact Bool.false_ne_true))]
    · rw [if_pos (hgo.mp h)] at hexec
      have hdone := s.filterDone_frame i.val
      have hnow : (s.filterDone i.val).now = max s.now (x.since + s.filterTime i.val) := rfl
      have hloop (j : Nat) : (s.filterDone i.val).loop j = if j = i.val then { x with counting := false } else s.loop j :=
        State.loop_setLoop _ _ _ _
      have hcmds0 : (s.filterDone i.val).alarm.cmds = s.alarm.cmds := rfl
      have hto := (s.filterDone i.val).inputTo_spec x.raw i.isLt
      generalize s.filterDone i.val = u at *
      generalize u.inputTo i.val x.raw = t at *
      have hrf (f : RegField) : u.rf f = s.rf f := hdone.rf (by simp)
      have hin (j : Nat) : u.inState j = s.inState j := by rw [State.inState, State.inState, hdone.1 _ (by simp)]
      have hstarting (code : Nat) : u.starting i.val code = begins code := by rw [State.starting, State.flag, hrf]; rfl
      have hbegins : u.inputBegins i.val x.raw = (!key && begins x.raw) := by
        rw [State.inputBegins, hstarting, State.flag, hrf]; rfl
      have hpower : u.power = s.power := hdone.2 .power (by simp)
      have hstay (j : Nat) (hj : j < 16) : t.inState j = if j = i.val then x.raw else s.inState j := by
        rw [State.inState, hto.stat]
        by_cases hji : j = i.val
        · rw [if_pos hji, hji, bitsOf_setBits_self _ _ (by omega) (by omega)]
          exact Nat.mod_eq_of_lt (by rw [show 2 * i.val + 1 + 1 - 2 * i.val = 2 by omega]; exact hraw)
        · rw [if_neg hji, bitsOf_setBits_ne _ _ (by omega) (by omega) (by omega), ← State.inState, hin]
      refine ⟨t, hexec, ?_, ?_, ?_, fun j hj hji => ?_, ?_, ?_, fun j hj => ?_, ?_, fun hs hh => ?_, fun hs hk hb hen => ?_⟩
      · exact (hdone.mono (by simp) (by simp)).step hto.frame (fun _ h => h)
      · rw [hto.frame.2 .now (by simp), hnow]
      · rw [hstay _ i.isLt, if_pos rfl]
      · rw [hstay _ hj, if_neg hji]
      · rw [hto.evt, State.raised, State.raised, hdone.1 _ (by simp)]
      · rw [State.loop, hto.loops, ← State.loop, hloop, if_pos rfl]
      · rw [State.loop, hto.loops, ← State.loop, hloop, if_neg hj]
      · have hlatched : u.latched u.now i.val = s.latched t.now i.val := by
          funext c
          rw [State.latched, State.latched, hcmds0, hto.frame.2 .now (by simp)]
        rw [hto.cmds, hlatched, hcmds0, State.inputCmd, State.flag, hrf, hrf, hin, hstarting, hstarting]
        have hrole : (s.rf (ALARM_IN_CFG_ROLE i.val) == 1) = key := rfl
        have hactive : inActive = 1 := rfl
        rw [hrole, hactive]
        split
        · split <;> rfl
        · split
          · rfl
          · split <;> rfl
      · obtain ⟨hp, hr⟩ := hto.quiet (by rwa [State.pstate, hrf]) (by rwa [hpower])
        exact ⟨hp.trans hpower, hr.trans (hdone.1 _ (by simp))⟩
      · refine hto.woken (by rwa [State.pstate, hrf]) (by rw [hbegins, hk, hb]; rfl) ?_
        rwa [State.bit, hdone.1 _ (by simp)]

end Sys2Proof.Machine
end

section
/-! SUPPORT. Proofs/AlarmPlay.lean: the end of a play, the fetch of a chunk, and the restart of a voice whose chunk is missing (R198,
R205, R206, R542). -/
-- The proofs of this file are elaborated one after another: side by side their threads exceed the memory of the check.
set_option Elab.async false
namespace Sys2Proof.Machine

open Reg

variable {s t : State}

/-! ### The first element of a list that meets a test -/

theorem findIdxOpt_of_first {α : Type} {q : α → Bool} {pre post : List α} {v : α} (hpre : ∀ u ∈ pre, q u = false) (hv : q v = true) (n : Nat) :
    findIdxOpt q (pre ++ v :: post) n = some (n + pre.length, v) := by
  induction pre generalizing n with
  | nil => exact if_pos hv
  | cons u pre ih =>
    have hu : ¬q u = true := by rw [hpre u (by simp)]; exact Bool.false_ne_true
    rw [List.cons_append, findIdxOpt, if_neg hu, ih (fun w hw => hpre w (by simp [hw])), List.length_cons]
    congr 2
    omega

theorem findIdxOpt_eq_none {α : Type} {q : α → Bool} {l : List α} (h : ∀ u ∈ l, q u = false) (n : Nat) : findIdxOpt q l n = none := by
  induction l generalizing n with
  | nil => rfl
  | cons u l ih =>
    have hu : ¬q u = true := by rw [h u (by simp)]; exact Bool.false_ne_true
    rw [findIdxOpt, if_neg hu, ih fun w hw => h w (by simp [hw])]

theorem set_append_cons {α : Type} (pre post : List α) (v w : α) : (pre ++ v :: post).set (0 + pre.length) w = pre ++ w :: post := by
  rw [Nat.zero_add, List.set_append_right _ _ (Nat.le_refl _), Nat.sub_self, List.set_cons_zero]

/-! ### Players -/

theorem State.player_setPlayer (s : State) (p q : Nat) (x : Player) : (s.setPlayer p x).player q = if q = p then x else s.player q :=
  mget_mset _ _ _ _ _

theorem Frame.setPlayer (s : State) (p : Nat) (x : Player) : Frame [] [.alarm] s (s.setPlayer p x) := Frame.withAlarm s _

/-- What a command that gives one player its new state leaves. -/
theorem State.setPlayer_spec (s : State) (p : Nat) (x : Player) : (∀ q, q ≠ p → (s.setPlayer p x).player q = s.player q)
    ∧ (s.setPlayer p x).alarm = { s.alarm with players := (s.setPlayer p x).alarm.players } ∧ (s.setPlayer p x).player p = x :=
  ⟨fun q hq => (s.player_setPlayer p q x).trans (if_neg hq), rfl, (s.player_setPlayer p p x).trans (if_pos rfl)⟩

/-! ### The end of a play (R198, R542) -/

/-- A play counted in PLAYS. -/
def State.playCounted (s : State) (p : Nat) : State :=
  s.setPlayer p { s.player p with plays := min 255 ((s.player p).plays + 1), ends := (s.player p).ends.tail }

/-- A play counted for its trigger. -/
def State.trigPlayed (s : State) (tr : Nat) : State :=
  let n := mget (fun _ => 0) s.alarm.plays tr + 1
  let u := { s with alarm := { s.alarm with plays := mset (fun _ => 0) s.alarm.plays tr n } }
  let rep := s.rf (ALARM_TRIG_CFG_REPEAT tr)
  if !s.flag (ALARM_TRIG_CFG_LATCH tr) && rep != 0 && Nat.ble rep n then u.latch rkOwn (.played tr) else u

theorem State.playEnd_eq (s : State) (p : Nat) : s.playEnd p = match (s.player p).holder with
    | none => s.playCounted p
    | some tr => (s.playCounted p).trigPlayed tr := rfl

theorem State.trigPlayed_spec (s : State) (tr : Nat) :
    let n := mget (fun _ => 0) s.alarm.plays tr + 1
    let rep := s.rf (ALARM_TRIG_CFG_REPEAT tr)
    Frame [] [.alarm] s (s.trigPlayed tr) ∧ (s.trigPlayed tr).alarm.players = s.alarm.players
      ∧ mget (fun _ => 0) (s.trigPlayed tr).alarm.plays tr = n
      ∧ (s.trigPlayed tr).alarm.cmds = if s.flag (ALARM_TRIG_CFG_LATCH tr) = false ∧ rep ≠ 0 ∧ rep ≤ n
          then s.latched s.now 18 (.played tr) else s.alarm.cmds := by
  intro n rep
  have hcond : (!s.flag (ALARM_TRIG_CFG_LATCH tr) && rep != 0 && Nat.ble rep n) = true ↔
      s.flag (ALARM_TRIG_CFG_LATCH tr) = false ∧ rep ≠ 0 ∧ rep ≤ n := by
    simp only [Bool.and_eq_true, Bool.not_eq_true', bne_iff_ne, Nat.ble_eq, and_assoc]
  have hplays : Frame [] [.alarm] s { s with alarm := { s.alarm with plays := mset (fun _ => 0) s.alarm.plays tr n } } := Frame.withAlarm s _
  have hcount : mget (fun _ => 0) (mset (fun _ => 0) s.alarm.plays tr n) tr = n := mget_mset_self _ _ _ _
  have heq : s.trigPlayed tr = (if (!s.flag (ALARM_TRIG_CFG_LATCH tr) && rep != 0 && Nat.ble rep n) = true then
      ({ s with alarm := { s.alarm with plays := mset (fun _ => 0) s.alarm.plays tr n } } : State).latch rkOwn (.played tr)
    else { s with alarm := { s.alarm with plays := mset (fun _ => 0) s.alarm.plays tr n } }) := rfl
  by_cases h : s.flag (ALARM_TRIG_CFG_LATCH tr) = false ∧ rep ≠ 0 ∧ rep ≤ n
  · rw [heq, if_pos (hcond.mpr h), if_pos h]
    exact ⟨hplays.step (State.latch_frame _ _ _), rfl, hcount, rfl⟩
  · rw [heq, if_neg (mt hcond.mp h), if_neg h]
    exact ⟨hplays, rfl, hcount, rfl⟩

theorem messagePlayEnd_spec (p : Fin 16) (s : State) (e : Nat) (l : List Nat) (hends : (s.player p.val).ends = e :: l)
    (hlt : e < s.sys.roundNo * s.sys.n + s.sys.pass) :
    Does (.messagePlayEnd p) s [] [.alarm] fun t => (∀ q, q ≠ p.val → t.player q = s.player q)
      ∧ t.player p.val = { s.player p.val with plays := min 255 ((s.player p.val).plays + 1), ends := l }
      ∧ ((s.player p.val).holder = none → t.alarm = { s.alarm with players := t.alarm.players })
      ∧ ∀ tr, (s.player p.val).holder = some tr →
        let n := mget (fun _ => 0) s.alarm.plays tr + 1
        let rep := s.rf (ALARM_TRIG_CFG_REPEAT tr)
        mget (fun _ => 0) t.alarm.plays tr = n
        ∧ t.alarm.cmds = if s.flag (ALARM_TRIG_CFG_LATCH tr) = false ∧ rep ≠ 0 ∧ rep ≤ n
            then s.latched s.now 18 (.played tr) else s.alarm.cmds := by
  have hexec : exec (.messagePlayEnd p) s = .next (s.playEnd p.val) := by
    show (.next (match (s.player p.val).ends with
      | [] => s
      | e :: _ => if e < s.sys.roundNo * s.sys.n + s.sys.pass then s.playEnd p.val else s) : Out) = _
    rw [hends]
    exact congrArg _ (if_pos hlt)
  have hcounted : Frame [] [.alarm] s (s.playCounted p.val) := Frame.setPlayer s _ _
  obtain ⟨hothers, halarm, hself⟩ := s.setPlayer_spec p.val
    { s.player p.val with plays := min 255 ((s.player p.val).plays + 1), ends := (s.player p.val).ends.tail }
  rw [hends, List.tail_cons] at hself hothers halarm
  have hplays : (s.playCounted p.val).alarm.plays = s.alarm.plays := rfl
  have hcmds : (s.playCounted p.val).alarm.cmds = s.alarm.cmds := rfl
  have heq : s.playCounted p.val = s.setPlayer p.val
      { s.player p.val with plays := min 255 ((s.player p.val).plays + 1), ends := l } := by rw [State.playCounted, hends, List.tail_cons]
  rw [← heq] at hothers halarm hself
  rw [State.playEnd_eq] at hexec
  generalize s.playCounted p.val = u at *
  cases hholder : (s.player p.val).holder with
  | none =>
    rw [hholder] at hexec
    exact ⟨u, hexec, hcounted, hothers, hself, fun _ => halarm, nofun⟩
  | some tr =>
    rw [hholder] at hexec
    obtain ⟨hframe, hplayers, hn, hlatch⟩ := u.trigPlayed_spec tr
    have hplayer (q : Nat) : (u.trigPlayed tr).player q = u.player q := by rw [State.player, hplayers, State.player]
    have hlatched : u.latched u.now 18 = s.latched s.now 18 := by
      funext c
      rw [State.latched, State.latched, hcmds, hcounted.2 .now (by simp)]
    refine ⟨u.trigPlayed tr, hexec, hcounted.trans hframe, fun q hq => (hplayer q).trans (hothers q hq), (hplayer _).trans hself, nofun,
      fun tr' htr => ?_⟩
    obtain rfl := Option.some.inj htr
    rw [hplays] at hn hlatch
    rw [hcmds, hlatched, State.flag, hcounted.rf (by simp), hcounted.rf (by simp), ← State.flag] at hlatch
    exact ⟨hn, hlatch⟩

/-! ### Fetches and missing chunks (R205, R206) -/

/-- The first voice of a kind, the message's or a fading one, whose chunk is being fetched. -/
def State.fetchOf (s : State) (p : Nat) (main : Bool) : Option (Nat × Voice) :=
  findIdxOpt (fun (v : Voice) => v.main == main && v.fetch != []) (s.player p).voices 0

/-- The voice that a completed fetch serves: the present message's first. -/
def State.fetchPick (s : State) (p : Nat) : Option (Nat × Voice) :=
  match s.fetchOf p true with
  | some r => some r
  | none => s.fetchOf p false

/-- A voice with a chunk fetched. -/
def State.chunkDone (s : State) (read : Bool) (v : Voice) : Voice :=
  { v with fetch := v.fetch.tail, ready := if read && s.chunkOk v.msg (v.fetch.headD 0) then v.ready ++ [v.fetch.headD 0] else v.ready }

theorem execChunkFetchDone_eq (p : Fin 16) (read : Bool) (s : State) : exec (.chunkFetchDone p read) s = .next (match s.fetchPick p.val with
    | none => s
    | some (i, v) => s.setPlayer p.val { s.player p.val with voices := (s.player p.val).voices.set i (s.chunkDone read v) }) := rfl

/-- A voice of the other kind, or one that fetches nothing, is passed over. -/
theorem fetch_idle {u : Voice} {m : Bool} (h : u.main = m → u.fetch = []) : (u.main == m && u.fetch != []) = false := by
  by_cases hu : u.main = m
  · rw [h hu]; simp
  · rw [beq_false_of_ne hu]; rfl

theorem State.fetchOf_none {p : Nat} {m : Bool} (h : ∀ u ∈ (s.player p).voices, u.main = m → u.fetch = []) : s.fetchOf p m = none :=
  findIdxOpt_eq_none (fun u hu => fetch_idle (h u hu)) 0

theorem State.fetchPick_none {p : Nat} (h : ∀ u ∈ (s.player p).voices, u.fetch = []) : s.fetchPick p = none := by
  rw [State.fetchPick, State.fetchOf_none fun u hu _ => h u hu]
  exact State.fetchOf_none fun u hu _ => h u hu

theorem State.fetchPick_some {p : Nat} {pre post : List Voice} {v : Voice} (hvoices : (s.player p).voices = pre ++ v :: post)
    (hfetch : v.fetch ≠ []) (hpre : ∀ u ∈ pre, u.main = v.main → u.fetch = [])
    (hmain : v.main = true ∨ ∀ u ∈ pre ++ post, u.main = true → u.fetch = []) : s.fetchPick p = some (0 + pre.length, v) := by
  have hfind : s.fetchOf p v.main = some (0 + pre.length, v) := by
    rw [State.fetchOf, hvoices]
    exact findIdxOpt_of_first (fun u hu => fetch_idle (hpre u hu)) (by simp [hfetch]) 0
  cases hm : v.main with
  | true =>
    rw [hm] at hfind
    rw [State.fetchPick, hfind]
  | false =>
    rw [hm] at hfind
    have hothers : ∀ u ∈ pre ++ post, u.main = true → u.fetch = [] := hmain.resolve_left (by rw [hm]; exact Bool.false_ne_true)
    have hnone : s.fetchOf p true = none := by
      refine State.fetchOf_none fun u hu hu' => ?_
      rw [hvoices] at hu
      by_cases huv : u = v
      · rw [huv, hm] at hu'
        exact absurd hu' Bool.false_ne_true
      · simp only [List.mem_append, List.mem_cons, huv, false_or] at hu
        exact hothers u (List.mem_append.mpr hu) hu'
    rw [State.fetchPick, hnone]
    exact hfind

theorem execTailFail_eq (p : Fin 16) (s : State) :
    exec (.tailFail p) s = .next (match findIdxOpt (fun v => s.starved v) (s.player p.val).voices 0 with
    | none => s
    | some (i, v) => ((s.raise ALARM_EVT_TAIL_FAIL).raise ALARM_FAULT_TAIL).setPlayer p.val
        { s.player p.val with voices := (s.player p.val).voices.set i { v with k := 0, ready := [], fetch := s.firstChunks v.msg } }) := rfl

theorem tailFail_spec (p : Fin 16) (s : State) {pre post : List Voice} {v : Voice} (hvoices : (s.player p.val).voices = pre ++ v :: post)
    (hv : s.starved v = true) (hpre : ∀ u ∈ pre, s.starved u = false) :
    Does (.tailFail p) s [ALARM_EVT, ALARM_FAULT] [.alarm] fun t => (∀ q, q ≠ p.val → t.player q = s.player q)
      ∧ t.alarm = { s.alarm with players := t.alarm.players }
      ∧ t.player p.val = { s.player p.val with
          voices := pre ++ { v with k := 0, ready := [], fetch := s.firstChunks v.msg } :: post }
      ∧ t.reg ALARM_EVT = s.raised ALARM_EVT [ALARM_EVT_TAIL_FAIL] ∧ t.flag ALARM_FAULT_TAIL = true := by
  have hexec := execTailFail_eq p s
  rw [hvoices, findIdxOpt_of_first hpre hv] at hexec
  dsimp only at hexec
  rw [set_append_cons] at hexec
  have hevents : Frame [ALARM_EVT, ALARM_FAULT] [] s ((s.raise ALARM_EVT_TAIL_FAIL).raise ALARM_FAULT_TAIL) :=
    (Frame.refl _ _ s).step (Frame.raise _ _) |>.step (Frame.raise _ _)
  have hevt : ((s.raise ALARM_EVT_TAIL_FAIL).raise ALARM_FAULT_TAIL).reg ALARM_EVT = s.raised ALARM_EVT [ALARM_EVT_TAIL_FAIL] := by
    rw [State.reg_raise_ne _ (by decide)]
    exact s.reg_raise_self ALARM_EVT_TAIL_FAIL
  have hfault : ((s.raise ALARM_EVT_TAIL_FAIL).raise ALARM_FAULT_TAIL).flag ALARM_FAULT_TAIL = true :=
    State.flag_raise_self _ ALARM_FAULT_TAIL rfl (by decide)
  generalize (s.raise ALARM_EVT_TAIL_FAIL).raise ALARM_FAULT_TAIL = u at *
  have hset := Frame.setPlayer u p.val { s.player p.val with voices := pre ++ { v with k := 0, ready := [], fetch := s.firstChunks v.msg } :: post }
  obtain ⟨hothers, halarm, hself⟩ := u.setPlayer_spec p.val
    { s.player p.val with voices := pre ++ { v with k := 0, ready := [], fetch := s.firstChunks v.msg } :: post }
  generalize u.setPlayer p.val { s.player p.val with voices := pre ++ { v with k := 0, ready := [], fetch := s.firstChunks v.msg } :: post }
    = w at *
  have hsame : u.alarm = s.alarm := hevents.2 .alarm (by simp)
  refine ⟨w, hexec, (hevents.mono (by simp) (by simp)).step hset, fun q hq => ?_, ?_, hself, ?_, ?_⟩
  · rw [hothers q hq, State.player, hsame, State.player]
  · rw [halarm, hsame]
  · exact (hset.1 _ (by simp)).trans hevt
  · rw [State.flag, hset.rf (by simp)]
    exact hfault

/-- Settles O29. A missing chunk restarts its voice by log 133, the fetch completes by log 134, and that the present message's voice
is served first is the model's own order. -/
theorem alarmPlayback : Obligations.AlarmPlayback := by
  intro p s x kept
  refine ⟨fun h => ?_, fun e l => messagePlayEnd_spec p s e l, fun read => ⟨fun h => ?_, fun pre post v c rest hx hf hpre hmain => ?_⟩, fun h => ?_,
    fun pre post v hx hv hpre => tailFail_spec p s hx hv hpre⟩
  · show (.next (match x.ends with
      | [] => s
      | e :: _ => if e < s.sys.roundNo * s.sys.n + s.sys.pass then s.playEnd p.val else s) : Out) = _
    cases hends : x.ends with
    | nil => rfl
    | cons e l => exact congrArg _ (if_neg (Nat.not_lt.mpr (h e (by rw [hends]; rfl))))
  · rw [execChunkFetchDone_eq, State.fetchPick_none h]
  · have hexec := execChunkFetchDone_eq p read s
    rw [State.fetchPick_some hx (by rw [hf]; exact List.cons_ne_nil _ _) hpre hmain] at hexec
    dsimp only at hexec
    rw [hx, set_append_cons, State.chunkDone, hf, List.tail_cons, List.headD_cons] at hexec
    obtain ⟨hothers, halarm, hself⟩ := s.setPlayer_spec p.val { x with voices := pre ++
      { v with fetch := rest, ready := if read && s.chunkOk v.msg c then v.ready ++ [c] else v.ready } :: post }
    exact ⟨_, hexec, Frame.setPlayer _ _ _, hothers, halarm, hself⟩
  · rw [execTailFail_eq, findIdxOpt_eq_none h]

end Sys2Proof.Machine
end

section
/-! SUPPORT. Proofs/Inputs.lean: the loss of an input, of the converter channels that it feeds, and its return (R219 to R224, R238). -/
-- The proofs of this file are elaborated one after another: side by side their threads exceed the memory of the check.
set_option Elab.async false
namespace Sys2Proof.Machine

open Reg

variable {s t u : State} {k : Nat}

/-! ### Registers of an input -/

/-- The status register of an input, and the registers of its events. -/
def inStatRegs (k : Nat) : List Nat := if k < 32 then [TDM_STAT k] else if k < 36 then [AES_IN_STAT (k - 32)] else []
def inEvtRegs (k : Nat) : List Nat := if k < 32 then [TDM_CNT k, TDM_EVT k] else if k < 44 then [AES_EVT] else []

/-- Whether a register is the configuration of a port or of an AES3 input, or one of the converters'. -/
def AudioCfg (a : Nat) : Prop := (∃ n, n < 32 ∧ a = TDM_CFG n) ∨ (∃ j, j < 4 ∧ a = AES_IN_CFG j) ∨ 0x268000 ≤ a

theorem AudioCfg.notMem_stat {a : Nat} (h : AudioCfg a) : a ∉ inStatRegs k := by
  unfold inStatRegs
  rcases h with ⟨n, hn, rfl⟩ | ⟨j, hj, rfl⟩ | h
  all_goals
    split
    · simp only [List.mem_singleton, TDM_STAT, TDM_CFG, AES_IN_CFG]; omega
    · split
      · simp only [List.mem_singleton, AES_IN_STAT, TDM_CFG, AES_IN_CFG]; omega
      · exact List.not_mem_nil

theorem AudioCfg.notMem_evt {a : Nat} (h : AudioCfg a) : a ∉ inEvtRegs k := by
  unfold inEvtRegs
  rcases h with ⟨n, hn, rfl⟩ | ⟨j, hj, rfl⟩ | h
  all_goals
    split
    · simp only [List.mem_cons, List.not_mem_nil, or_false, TDM_CNT, TDM_EVT, TDM_CFG, AES_IN_CFG]; omega
    · split
      · simp only [List.mem_singleton, AES_EVT, TDM_CFG, AES_IN_CFG]; omega
      · exact List.not_mem_nil

theorem audioCfg_asrc {a : Nat} (h : 0x268000 ≤ a) : AudioCfg a := .inr (.inr h)

/-! ### How long an input's ramps last (R221, R222) -/

theorem slotPort_lt {slot : Nat} : slotPort slot < 36 := by
  unfold slotPort
  split <;> omega

/-- The length of a ramp is that of the configuration. -/
theorem State.inRounds_congr (h : ∀ a, AudioCfg a → t.reg a = s.reg a) (fade : Bool) : t.inRounds k fade = s.inRounds k fade := by
  have hport (port : Nat) (hp : port < 36) :
      (if port < 32 then t.rf (if fade then TDM_CFG_FADE port else TDM_CFG_RAMPIN port)
        else t.rf (if fade then AES_IN_CFG_FADE (port - 32) else AES_IN_CFG_RAMPIN (port - 32)))
      = if port < 32 then s.rf (if fade then TDM_CFG_FADE port else TDM_CFG_RAMPIN port)
        else s.rf (if fade then AES_IN_CFG_FADE (port - 32) else AES_IN_CFG_RAMPIN (port - 32)) := by
    by_cases hp32 : port < 32
    · rw [if_pos hp32, if_pos hp32]
      refine State.rf_congr _ (h _ (.inl ⟨port, hp32, ?_⟩))
      cases fade <;> rfl
    · rw [if_neg hp32, if_neg hp32]
      refine State.rf_congr _ (h _ (.inr (.inl ⟨port - 32, by omega, ?_⟩)))
      cases fade <;> rfl
  have hslot : t.rf (ASRC_CFG_SLOT (k - 44)) = s.rf (ASRC_CFG_SLOT (k - 44)) :=
    State.rf_congr (ASRC_CFG_SLOT (k - 44)) (h _ (audioCfg_asrc (Nat.le_add_right _ _)))
  unfold State.inRounds
  rw [hslot]
  refine congrArg (max 1) (hport _ ?_)
  split
  · assumption
  · split
    · omega
    · exact slotPort_lt

/-! ### One input lost (R221, R222, R224) -/

/-- Nothing of the ports' state changes but inputs, transmit sides and the record of slips. -/
def PortsKept (p q : Ports) : Prop := q = { p with inputs := q.inputs, tx := q.tx, slips := q.slips }

theorem PortsKept.trans {p q r : Ports} (h : PortsKept p q) (g : PortsKept q r) : PortsKept p r := by
  unfold PortsKept at *
  rw [g, h]

theorem State.input_setInput (s : State) (k j : Nat) (x : Input) : (s.setInput k x).input j = if j = k then x else s.input j :=
  mget_mset _ _ _ _ _

theorem State.txSide_setTxSide (s : State) (n m : Nat) (x : TxSide) : (s.setTxSide n x).txSide m = if m = n then x else s.txSide m :=
  mget_mset _ _ _ _ _

theorem Frame.setInput (s : State) (k : Nat) (x : Input) : Frame [] [.ports] s (s.setInput k x) := Frame.withPorts s _
theorem Frame.setTxSide (s : State) (k : Nat) (x : TxSide) : Frame [] [.ports] s (s.setTxSide k x) := Frame.withPorts s _

theorem Frame.input {R : List Nat} {P : List Piece} (h : Frame R P s t) (j : Nat) (hp : Piece.ports ∉ P := by simp) :
    t.input j = s.input j := by rw [State.input, h.2 .ports hp, State.input]

/-- The status bits of a TDM port's input. -/
def State.tdmStatus (s : State) (n : Nat) (x : Input) : State :=
  let u := ((s.setFlag (TDM_STAT_FADING n) x.fading).setFlag (TDM_STAT_RAMPING n) x.ramping).setFlag (TDM_STAT_CLK_OK n) x.good.isSome
  if u.rf (TDM_STAT_STATE n) < 2 then u else u.sf (TDM_STAT_STATE n) (if x.lost then 3 else 2)

theorem State.inStatus_eq (s : State) (k : Nat) : s.inStatus k = if k < 32 then s.tdmStatus k (s.input k)
    else if k < 36 then s.setFlag (AES_IN_STAT_FADING (k - 32)) (s.input k).fading else s := rfl

theorem State.tdmStatus_frame (s : State) (n : Nat) (x : Input) : Frame [TDM_STAT n] [] s (s.tdmStatus n x) := by
  have hbits : Frame [TDM_STAT n] [] s (((s.setFlag (TDM_STAT_FADING n) x.fading).setFlag (TDM_STAT_RAMPING n) x.ramping).setFlag
      (TDM_STAT_CLK_OK n) x.good.isSome) :=
    (Frame.refl _ _ s).step (Frame.setFlag _ (TDM_STAT_FADING n) _) |>.step (Frame.setFlag _ (TDM_STAT_RAMPING n) _)
      |>.step (Frame.setFlag _ (TDM_STAT_CLK_OK n) _)
  exact hbits.ite (hbits.step (Frame.sf _ (TDM_STAT_STATE n) _))

theorem State.inStatus_frame (s : State) (k : Nat) : Frame (inStatRegs k) [] s (s.inStatus k) := by
  rw [State.inStatus_eq, inStatRegs]
  split
  · exact s.tdmStatus_frame k _
  · split
    · exact Frame.setFlag s (AES_IN_STAT_FADING (k - 32)) _
    · exact Frame.refl _ _ s

/-- A lost input of a running port reads LOST and without its clock. -/
theorem State.tdmStatus_lost (s : State) (n : Nat) {x : Input} (hruns : 2 ≤ s.rf (TDM_STAT_STATE n)) (hlost : x.lost = true)
    (hgood : x.good = none) : (s.tdmStatus n x).rf (TDM_STAT_STATE n) = 3 ∧ (s.tdmStatus n x).flag (TDM_STAT_CLK_OK n) = false := by
  rw [State.tdmStatus, hlost, hgood]
  have hstate : (((s.setFlag (TDM_STAT_FADING n) x.fading).setFlag (TDM_STAT_RAMPING n) x.ramping).setFlag
      (TDM_STAT_CLK_OK n) (none : Option Nat).isSome).rf (TDM_STAT_STATE n) = s.rf (TDM_STAT_STATE n) := by
    rw [State.setFlag, State.rf_sf_ne _ _ (by simp) (by simp) (by simp), State.setFlag, State.rf_sf_ne _ _ (by simp) (by simp) (by simp),
      State.setFlag, State.rf_sf_ne _ _ (by simp) (by simp) (by simp)]
  have hclk := State.flag_setFlag_self ((s.setFlag (TDM_STAT_FADING n) x.fading).setFlag (TDM_STAT_RAMPING n) x.ramping)
    (TDM_STAT_CLK_OK n) (none : Option Nat).isSome rfl (by simp)
  generalize ((s.setFlag (TDM_STAT_FADING n) x.fading).setFlag (TDM_STAT_RAMPING n) x.ramping).setFlag
    (TDM_STAT_CLK_OK n) (none : Option Nat).isSome = u at *
  rw [if_neg (by omega), if_pos rfl]
  refine ⟨State.rf_sf_self u (TDM_STAT_STATE n) 3 (by simp) (by simp), ?_⟩
  rw [State.flag, State.rf_sf_ne _ _ (by simp) (by simp) (by simp)]
  exact hclk

/-- The event of a cause of loss. -/
def lossFields (n : Nat) : LossCause → List RegField
  | .clock => [TDM_EVT_CLK_LOSS n]
  | .format => [TDM_EVT_FMT_ERR n]
  | .slip => [TDM_EVT_SLIP n]
  | _ => []

/-- What the events of a loss leave (R221, R248, R250). -/
structure LossNoted (k : Nat) (c : LossCause) (s t : State) : Prop where
  frame : Frame (inEvtRegs k) [.ports] s t
  ports : t.ports = { s.ports with slips := t.ports.slips }
  tdm : k < 32 → t.rf (TDM_CNT_LOSS_CNT k) = min 65535 (s.rf (TDM_CNT_LOSS_CNT k) + 1) ∧ t.reg (TDM_EVT k) = s.raised (TDM_EVT k) (lossFields k c)
  aes : 32 ≤ k → k < 36 → t.bit AES_EVT (4 + (k - 32)) = true
  sub : 36 ≤ k → k < 44 → t.bit AES_EVT (4 + (k - 36) / 2) = true

theorem State.slip_spec (s : State) (n : Nat) : Frame [TDM_CNT n, TDM_EVT n] [.ports] s (s.slip n)
    ∧ (s.slip n).ports = { s.ports with slips := (s.slip n).ports.slips }
    ∧ (s.slip n).rf (TDM_CNT_LOSS_CNT n) = s.rf (TDM_CNT_LOSS_CNT n)
    ∧ (s.slip n).reg (TDM_EVT n) = s.raised (TDM_EVT n) [TDM_EVT_SLIP n] := by
  have hslips := Frame.withPorts s { s.ports with
    slips := (s.ports.slips.filter fun e => Nat.blt s.now (e.2 + 10 * sec1)) ++ [(n, s.now)] }
  have heq : s.slip n = (({ s with ports := { s.ports with
    slips := (s.ports.slips.filter fun e => Nat.blt s.now (e.2 + 10 * sec1)) ++ [(n, s.now)] } } : State).raise (TDM_EVT_SLIP n)).countUp
      (TDM_CNT_SLIP_CNT n) := rfl
  have hports : ({ s with ports := { s.ports with
    slips := (s.ports.slips.filter fun e => Nat.blt s.now (e.2 + 10 * sec1)) ++ [(n, s.now)] } } : State).ports = { s.ports with
    slips := (s.ports.slips.filter fun e => Nat.blt s.now (e.2 + 10 * sec1)) ++ [(n, s.now)] } := rfl
  rw [heq]
  generalize ({ s with ports := { s.ports with
    slips := (s.ports.slips.filter fun e => Nat.blt s.now (e.2 + 10 * sec1)) ++ [(n, s.now)] } } : State) = u at *
  have hraise := Frame.raise u (TDM_EVT_SLIP n)
  have hcount := Frame.countUp (u.raise (TDM_EVT_SLIP n)) (TDM_CNT_SLIP_CNT n)
  have hsame : ((u.raise (TDM_EVT_SLIP n)).countUp (TDM_CNT_SLIP_CNT n)).ports = u.ports :=
    (hcount.2 .ports (by simp)).trans (hraise.2 .ports (by simp))
  refine ⟨(hslips.mono (by simp) (by simp)).step hraise |>.step hcount, ?_, ?_, ?_⟩
  · rw [hsame, hports]
  · rw [State.rf_countUp_ne _ (by simp) (by simp) (by simp)]
    exact ((hraise.rf (by simp)).trans (hslips.rf (by simp)))
  · rw [hcount.1 _ (by simp), u.reg_raise_self (TDM_EVT_SLIP n), hslips.1 _ (by simp)]
    rfl

theorem LossNoted.of_tdm {c : LossCause} {v : State} (hk : k < 32)
    (hu : Frame [TDM_CNT k, TDM_EVT k] [.ports] (s.countUp (TDM_CNT_LOSS_CNT k)) v)
    (hports : v.ports = { (s.countUp (TDM_CNT_LOSS_CNT k)).ports with slips := v.ports.slips })
    (hcnt : v.rf (TDM_CNT_LOSS_CNT k) = (s.countUp (TDM_CNT_LOSS_CNT k)).rf (TDM_CNT_LOSS_CNT k))
    (hevt : v.reg (TDM_EVT k) = (s.countUp (TDM_CNT_LOSS_CNT k)).raised (TDM_EVT k) (lossFields k c)) : LossNoted k c s v := by
  have hcount := Frame.countUp s (TDM_CNT_LOSS_CNT k)
  have hregs : inEvtRegs k = [TDM_CNT k, TDM_EVT k] := if_pos hk
  have hsame : (s.countUp (TDM_CNT_LOSS_CNT k)).ports = s.ports := hcount.2 .ports (by simp)
  refine ⟨?_, by rw [← hsame]; exact hports, fun _ => ⟨?_, ?_⟩, fun h => absurd h (by omega), fun h => absurd h (by omega)⟩
  · rw [hregs]
    exact (hcount.mono (by simp) (by simp)).trans hu
  · rw [hcnt]
    exact State.rf_countUp_self s (TDM_CNT_LOSS_CNT k) (by simp) (by simp)
  · rw [hevt, State.raised, State.raised, hcount.1 _ (by simp)]

theorem State.lossEvents_spec (s : State) (k : Nat) (c : LossCause) : LossNoted k c s (s.lossEvents k c) := by
  unfold State.lossEvents
  split
  · next hk =>
    have hraise (f : RegField) (hf : f.reg = TDM_EVT k) (hl : lossFields k c = [f]) :
        LossNoted k c s ((s.countUp (TDM_CNT_LOSS_CNT k)).raise f) := by
      have hframe := Frame.raise (s.countUp (TDM_CNT_LOSS_CNT k)) f
      refine LossNoted.of_tdm hk (hframe.mono (by simp [hf]) (by simp)) rfl (hframe.rf (by rw [hf]; simp)) ?_
      rw [hl, ← hf, State.reg_raise_self]
      rfl
    have hnone (hl : lossFields k c = []) : LossNoted k c s (s.countUp (TDM_CNT_LOSS_CNT k)) :=
      LossNoted.of_tdm hk (Frame.refl _ _ _) rfl rfl (by rw [hl]; rfl)
    cases c with
    | clock => exact hraise (TDM_EVT_CLK_LOSS k) rfl rfl
    | format => exact hraise (TDM_EVT_FMT_ERR k) rfl rfl
    | slip =>
      obtain ⟨hframe, hports, hcnt, hevt⟩ := (s.countUp (TDM_CNT_LOSS_CNT k)).slip_spec k
      exact LossNoted.of_tdm hk hframe hports hcnt hevt
    | lock => exact hnone rfl
    | validity => exact hnone rfl
  · next hk =>
    have hbit (i : Nat) (hi : i < 32) (hk44 : k < 44) : Frame (inEvtRegs k) [.ports] s (s.setBit AES_EVT i) ∧ (s.setBit AES_EVT i).bit AES_EVT i = true := by
      have hregs : inEvtRegs k = [AES_EVT] := by rw [inEvtRegs, if_neg hk, if_pos hk44]
      rw [hregs, State.bit_setBit _ _ _ hi]
      exact ⟨(Frame.setBit s AES_EVT i).mono (by simp) (by simp), by simp⟩
    split
    · next hk36 =>
      obtain ⟨hframe, hset⟩ := hbit (4 + (k - 32)) (by omega) (by omega)
      exact ⟨hframe, rfl, fun h => absurd h hk, fun _ _ => hset, fun h => absurd h (by omega)⟩
    · split
      · next hk36 hk44 =>
        obtain ⟨hframe, hset⟩ := hbit (4 + (k - 36) / 2) (by omega) hk44
        exact ⟨hframe, rfl, fun h => absurd h hk, fun _ h => absurd h hk36, fun _ _ => hset⟩
      · next hk36 hk44 =>
        exact ⟨Frame.refl _ _ s, rfl, fun h => absurd h hk, fun _ h => absurd h hk36, fun _ h => absurd h hk44⟩

/-- An input as its loss leaves it, its fade over a span of samples. -/
def Input.lostBy (x : Input) (c : LossCause) (span : Nat) : Input :=
  let y := { x with
    lost := true, good := none, ret := false, clk := x.clk && c != LossCause.clock && c != LossCause.lock,
    slip := c == LossCause.slip, renew := x.renew || c == LossCause.slip }
  if x.fading = true ∨ (x.lost = true ∧ x.gain = 0) then y
  else { y with fading := true, ramping := false, ramp := some (Ramp.start x.gain 0 span) }

theorem Input.lostBy_lost (x : Input) (c : LossCause) (span : Nat) : (x.lostBy c span).lost = true ∧ (x.lostBy c span).good = none := by
  unfold Input.lostBy
  dsimp only
  split <;> exact ⟨rfl, rfl⟩

/-- The state in which an input's loss is written: its events, and a transmit side without its clock off. -/
def State.lossNoted (s : State) (k : Nat) (c : LossCause) : State :=
  let u := if (s.input k).lost then s else s.lossEvents k c
  if k < 32 ∧ c = LossCause.clock then u.setTxSide k { u.txSide k with off := true } else u

theorem State.loseOne_eq (s : State) (k : Nat) (c : LossCause) : s.loseOne k c =
    ((s.lossNoted k c).setInput k ((s.input k).lostBy c ((s.lossNoted k c).inSpan k true))).inStatus k := by
  have hchoose (x : Input) (span : Nat) : (if x.fading || (x.lost && x.gain = 0) then
      { x with
        lost := true, good := none, ret := false, clk := x.clk && c != LossCause.clock && c != LossCause.lock,
        slip := c == LossCause.slip, renew := x.renew || c == LossCause.slip }
      else { x with
        lost := true, good := none, ret := false, clk := x.clk && c != LossCause.clock && c != LossCause.lock,
        slip := c == LossCause.slip, renew := x.renew || c == LossCause.slip, fading := true, ramping := false,
        ramp := some (Ramp.start x.gain 0 span) }) = x.lostBy c span := by
    unfold Input.lostBy
    by_cases h : x.fading = true ∨ (x.lost = true ∧ x.gain = 0)
    · rw [if_pos h, if_pos (by simpa using h)]
    · rw [if_neg h, if_neg (by simpa using h)]
  rw [← hchoose]
  rfl

/-- What the loss of one input leaves. -/
structure Lost (k : Nat) (c : LossCause) (s t : State) : Prop where
  frame : Frame (inStatRegs k ++ inEvtRegs k) [.ports] s t
  ports : PortsKept s.ports t.ports
  input : ∀ j, t.input j = if j = k then (s.input k).lostBy c (s.inRounds k true * s.sys.n) else s.input j
  side : ∀ n, t.txSide n = if n = k ∧ k < 32 ∧ c = .clock then { s.txSide k with off := true } else s.txSide n
  kept : (s.input k).lost = true → ∀ a ∈ inEvtRegs k, t.reg a = s.reg a
  stat : k < 32 → 2 ≤ s.rf (TDM_STAT_STATE k) → t.rf (TDM_STAT_STATE k) = 3 ∧ t.flag (TDM_STAT_CLK_OK k) = false
  tdm : (s.input k).lost = false → k < 32 → t.rf (TDM_CNT_LOSS_CNT k) = min 65535 (s.rf (TDM_CNT_LOSS_CNT k) + 1)
    ∧ t.reg (TDM_EVT k) = s.raised (TDM_EVT k) (lossFields k c)
  aes : (s.input k).lost = false → 32 ≤ k → k < 36 → t.bit AES_EVT (4 + (k - 32)) = true
  sub : (s.input k).lost = false → 36 ≤ k → k < 44 → t.bit AES_EVT (4 + (k - 36) / 2) = true

theorem State.lossNoted_spec (s : State) (k : Nat) (c : LossCause) :
    Frame (inEvtRegs k) [.ports] s (s.lossNoted k c)
    ∧ PortsKept s.ports (s.lossNoted k c).ports ∧ (∀ j, (s.lossNoted k c).input j = s.input j)
    ∧ (∀ n, (s.lossNoted k c).txSide n = if n = k ∧ k < 32 ∧ c = .clock then { s.txSide k with off := true } else s.txSide n)
    ∧ ((s.input k).lost = true → ∀ a, (s.lossNoted k c).reg a = s.reg a)
    ∧ ((s.input k).lost = false → ∃ u, LossNoted k c s u ∧ ∀ a, (s.lossNoted k c).reg a = u.reg a) := by
  have hnoted := s.lossEvents_spec k c
  unfold State.lossNoted
  dsimp only
  have hevents : ∃ u, u = (if (s.input k).lost = true then s else s.lossEvents k c) ∧ Frame (inEvtRegs k) [.ports] s u
      ∧ u.ports = { s.ports with slips := u.ports.slips } ∧ ((s.input k).lost = true → u = s)
      ∧ ((s.input k).lost = false → LossNoted k c s u) := by
    cases hlost : (s.input k).lost with
    | true => exact ⟨s, rfl, Frame.refl _ _ s, rfl, fun _ => rfl, nofun⟩
    | false => exact ⟨s.lossEvents k c, rfl, hnoted.frame, hnoted.ports, nofun, fun _ => hnoted⟩
  obtain ⟨u, hu, hframe, hports, hsame, hloss⟩ := hevents
  rw [← hu]
  have hside (n : Nat) : u.txSide n = s.txSide n := by rw [State.txSide, hports, State.txSide]
  have hinput (j : Nat) : u.input j = s.input j := by rw [State.input, hports, State.input]
  have hkept : PortsKept s.ports u.ports := by rw [PortsKept, hports]
  by_cases hoff : k < 32 ∧ c = .clock
  · rw [if_pos hoff]
    refine ⟨hframe.step (Frame.setTxSide _ _ _), hkept.trans rfl, hinput, fun n => ?_, fun h a => ?_, fun h => ⟨u, hloss h, fun _ => rfl⟩⟩
    · rw [State.txSide_setTxSide, hside, hside]
      by_cases hn : n = k
      · rw [if_pos hn, if_pos ⟨hn, hoff⟩]
      · rw [if_neg hn, if_neg fun h => hn h.1]
    · rw [← hsame h]
      rfl
  · rw [if_neg hoff]
    refine ⟨hframe, hkept, hinput, fun n => ?_, fun h a => ?_, fun h => ⟨u, hloss h, fun _ => rfl⟩⟩
    · rw [hside, if_neg fun h => hoff h.2]
    · rw [hsame h]

/-- A status register is none of an input's event registers. -/
theorem inStat_notMem_evt {a : Nat} (hk : k < 36) (h : a ∈ inStatRegs k) : a ∉ inEvtRegs k := by
  unfold inStatRegs at h
  unfold inEvtRegs
  by_cases h32 : k < 32
  · rw [if_pos h32, List.mem_singleton] at h
    rw [if_pos h32, h]
    simp
  · rw [if_neg h32, if_pos hk] at h
    rw [List.mem_singleton] at h
    rw [if_neg h32, if_pos (by omega), h]
    simp only [List.mem_singleton, AES_IN_STAT, AES_EVT]
    omega

theorem inStatRegs_nil (hk : 36 ≤ k) : inStatRegs k = [] := by
  rw [inStatRegs, if_neg (by omega), if_neg (by omega)]

theorem inEvt_notMem_stat {a : Nat} (h : a ∈ inEvtRegs k) : a ∉ inStatRegs k := by
  rcases Nat.lt_or_ge k 36 with hk | hk
  · exact fun hs => inStat_notMem_evt hk hs h
  · rw [inStatRegs_nil hk]
    exact List.not_mem_nil

theorem State.loseOne_spec (s : State) (k : Nat) (c : LossCause) : Lost k c s (s.loseOne k c) := by
  obtain ⟨hframe, hports, hother, hside, hkept, hloss⟩ := s.lossNoted_spec k c
  have hspan : (s.lossNoted k c).inSpan k true = s.inRounds k true * s.sys.n := by
    rw [State.inSpan, State.inRounds_congr (fun a ha => hframe.1 a ha.notMem_evt), hframe.2 .sys (by simp)]
  rw [State.loseOne_eq, hspan]
  obtain ⟨hlost, hgood⟩ := (s.input k).lostBy_lost c (s.inRounds k true * s.sys.n)
  generalize s.lossNoted k c = u at *
  have hset := Frame.setInput u k ((s.input k).lostBy c (s.inRounds k true * s.sys.n))
  have hinput (j : Nat) := u.input_setInput k j ((s.input k).lostBy c (s.inRounds k true * s.sys.n))
  have hinputs : PortsKept u.ports (u.setInput k ((s.input k).lostBy c (s.inRounds k true * s.sys.n))).ports := rfl
  have htx (n : Nat) : (u.setInput k ((s.input k).lostBy c (s.inRounds k true * s.sys.n))).txSide n = u.txSide n := rfl
  have hregs (a : Nat) : (u.setInput k ((s.input k).lostBy c (s.inRounds k true * s.sys.n))).reg a = u.reg a := rfl
  generalize u.setInput k ((s.input k).lostBy c (s.inRounds k true * s.sys.n)) = v at *
  have hstatus := v.inStatus_frame k
  have hsame : (v.inStatus k).ports = v.ports := hstatus.2 .ports (by simp)
  have hevt (a : Nat) (ha : a ∈ inEvtRegs k) : (v.inStatus k).reg a = u.reg a := (hstatus.1 _ (inEvt_notMem_stat ha)).trans (hregs a)
  have hevtTdm (hk : k < 32) (a : Nat) (ha : a ∈ [TDM_CNT k, TDM_EVT k]) : (v.inStatus k).reg a = u.reg a :=
    hevt a (by rw [inEvtRegs, if_pos hk]; exact ha)
  have hevtAes (hk : 32 ≤ k) (hk' : k < 44) : (v.inStatus k).reg AES_EVT = u.reg AES_EVT :=
    hevt _ (by rw [inEvtRegs, if_neg (by omega), if_pos hk']; exact List.mem_singleton_self _)
  refine ⟨?_, ?_, fun j => ?_, fun n => ?_, fun h a ha => (hevt a ha).trans (hkept h a), fun hk hruns => ?_, fun h hk => ?_,
    fun h hk hk' => ?_, fun h hk hk' => ?_⟩
  · exact (hframe.mono (by simp +contextual) (by simp)).step hset |>.step hstatus (by simp +contextual)
  · rw [hsame]
    exact hports.trans hinputs
  · rw [hstatus.input, hinput]
    split
    · rfl
    · exact hother j
  · rw [State.txSide, hsame, ← State.txSide, htx]
    exact hside n
  · have hself : v.input k = (s.input k).lostBy c (s.inRounds k true * s.sys.n) := by rw [hinput, if_pos rfl]
    rw [State.inStatus_eq, if_pos hk, hself]
    have hrf : v.rf (TDM_STAT_STATE k) = s.rf (TDM_STAT_STATE k) := by
      refine State.rf_congr (TDM_STAT_STATE k) ((hregs _).trans (hframe.1 _ ?_))
      rw [inEvtRegs, if_pos hk]
      simp
    exact v.tdmStatus_lost k (by rwa [hrf]) hlost hgood
  · obtain ⟨w, hw, hreg⟩ := hloss h
    obtain ⟨hcnt, hev⟩ := hw.tdm hk
    refine ⟨?_, ?_⟩
    · rw [← hcnt]
      exact State.rf_congr (TDM_CNT_LOSS_CNT k) ((hevtTdm hk _ (by simp)).trans (hreg _))
    · rw [hevtTdm hk _ (by simp), hreg, hev]
  · obtain ⟨w, hw, hreg⟩ := hloss h
    rw [State.bit, hevtAes hk (by omega), hreg]
    exact hw.aes hk hk'
  · obtain ⟨w, hw, hreg⟩ := hloss h
    rw [State.bit, hevtAes (by omega) hk', hreg]
    exact hw.sub hk hk'

/-! ### Converter channels that lose lock (R221, R238) -/

/-- The registers of one converter channel's loss of lock. -/
def asrcRegs (ch : Nat) : List Nat := [ASRC_STAT ch, ASRC_EVT]

/-- A locked converter channel without its lock. -/
def State.unlocked (s : State) (ch : Nat) : State := (s.setFlag (ASRC_STAT_LOCK ch) false).setBit ASRC_EVT ch

theorem State.asrcLose_eq (s : State) (ch : Nat) :
    s.asrcLose ch = if s.flag (ASRC_STAT_LOCK ch) then (s.unlocked ch).loseOne (44 + ch) .lock else s := rfl

/-- What the loss of a locked channel leaves. -/
structure Unlocked (ch : Nat) (s t : State) : Prop where
  frame : Frame (asrcRegs ch) [.ports] s t
  ports : PortsKept s.ports t.ports
  input : ∀ j, t.input j = if j = 44 + ch then (s.input j).lostBy .lock (s.inRounds j true * s.sys.n) else s.input j
  side : ∀ n, t.txSide n = s.txSide n
  lock : t.flag (ASRC_STAT_LOCK ch) = false
  evt : t.bit ASRC_EVT ch = true
  evts : ∀ j, s.bit ASRC_EVT j = true → t.bit ASRC_EVT j = true

theorem State.asrcLose_spec (s : State) {ch : Nat} (hch : ch < 32) (hlock : s.flag (ASRC_STAT_LOCK ch) = true) : Unlocked ch s (s.asrcLose ch) := by
  rw [State.asrcLose_eq, if_pos hlock]
  have hun : Frame (asrcRegs ch) [] s (s.unlocked ch) :=
    (Frame.refl _ _ s).step (Frame.setFlag s (ASRC_STAT_LOCK ch) false) (by simp [asrcRegs]) |>.step (Frame.setBit _ _ _) (by simp [asrcRegs])
  have hflag : (s.unlocked ch).flag (ASRC_STAT_LOCK ch) = false := by
    rw [State.unlocked, State.flag, (Frame.setBit _ _ _).rf (by simp only [List.mem_singleton, ASRC_STAT, ASRC_EVT]; omega)]
    exact State.flag_setFlag_self s (ASRC_STAT_LOCK ch) false rfl (by simp)
  have hbit (j : Nat) : (s.unlocked ch).bit ASRC_EVT j = (s.bit ASRC_EVT j || j == ch) := by
    rw [State.unlocked, State.bit_setBit _ _ _ hch, State.bit, (Frame.setFlag s (ASRC_STAT_LOCK ch) false).1 _ (by
      simp only [List.mem_singleton, ASRC_STAT, ASRC_EVT]; omega), State.bit]
  have hrounds : (s.unlocked ch).inRounds (44 + ch) true = s.inRounds (44 + ch) true := by
    have hslot : (s.unlocked ch).rf (ASRC_CFG_SLOT ch) = s.rf (ASRC_CFG_SLOT ch) :=
      hun.rf (by simp only [asrcRegs, List.mem_cons, List.not_mem_nil, or_false, ASRC_CFG, ASRC_STAT, ASRC_EVT]; omega)
    have hlow (f : RegField) (hf : f.reg < 0x268000) : (s.unlocked ch).rf f = s.rf f :=
      hun.rf (by simp only [asrcRegs, List.mem_cons, List.not_mem_nil, or_false, ASRC_STAT, ASRC_EVT]; omega)
    have hsub : 44 + ch - 44 = ch := by omega
    unfold State.inRounds
    rw [hsub, hslot]
    have hp : slotPort (s.rf (ASRC_CFG_SLOT ch)) < 36 := slotPort_lt
    rw [if_neg (by omega), if_neg (by omega)]
    generalize slotPort (s.rf (ASRC_CFG_SLOT ch)) = port at hp
    dsimp only
    rw [hlow _ (by simp only [if_true, TDM_CFG]; omega), hlow _ (by simp only [if_true, AES_IN_CFG]; omega)]
  have hloss := (s.unlocked ch).loseOne_spec (44 + ch) .lock
  have hnone : inStatRegs (44 + ch) ++ inEvtRegs (44 + ch) = [] := by
    rw [inStatRegs_nil (by omega), inEvtRegs, if_neg (by omega), if_neg (by omega)]
    rfl
  have hframe := hloss.frame
  rw [hnone] at hframe
  have hports : (s.unlocked ch).ports = s.ports := hun.2 .ports (by simp)
  refine ⟨?_, by rw [← hports]; exact hloss.ports, fun j => ?_, fun n => ?_, ?_, ?_, fun j hj => ?_⟩
  · exact (hun.mono (fun _ h => h) (by simp)).step hframe
  · rw [hloss.input, hun.input, hrounds, hun.2 .sys (by simp), hun.input]
    by_cases hj : j = 44 + ch
    · rw [if_pos hj, if_pos hj, hj]
    · rw [if_neg hj, if_neg hj]
  · rw [hloss.side, if_neg (by omega), State.txSide, hports, State.txSide]
  · rw [State.flag, hframe.rf (by simp)]
    exact hflag
  · rw [State.bit, hframe.1 _ (by simp), ← State.bit, hbit]
    simp
  · rw [State.bit, hframe.1 _ (by simp), ← State.bit, hbit, hj]
    rfl

/-- What the loss of lock of some converter channels leaves. -/
structure FedLost (l : List Nat) (s t : State) : Prop where
  frame : Frame (ASRC_EVT :: regFile ASRC_STAT 32) [.ports] s t
  ports : PortsKept s.ports t.ports
  lost : ∀ ch ∈ l, s.flag (ASRC_STAT_LOCK ch) = true →
    t.flag (ASRC_STAT_LOCK ch) = false ∧ t.bit ASRC_EVT ch = true ∧ (t.input (44 + ch)).lost = true
  kept : ∀ ch, ch ∉ l ∨ s.flag (ASRC_STAT_LOCK ch) = false → t.reg (ASRC_STAT ch) = s.reg (ASRC_STAT ch)
  inputs : ∀ j, (∀ ch ∈ l, s.flag (ASRC_STAT_LOCK ch) = true → j ≠ 44 + ch) → t.input j = s.input j
  side : ∀ n, t.txSide n = s.txSide n
  evts : ∀ j, s.bit ASRC_EVT j = true → t.bit ASRC_EVT j = true

theorem mem_asrcStat {ch : Nat} (h : ch < 32) : ASRC_STAT ch ∈ regFile ASRC_STAT 32 := List.mem_map_of_mem (List.mem_range.mpr h)

theorem asrcRegs_ne {ch c : Nat} (h : c ≠ ch) : ASRC_STAT c ∉ asrcRegs ch := by
  simp only [asrcRegs, List.mem_cons, List.not_mem_nil, or_false, ASRC_STAT, ASRC_EVT]
  omega

theorem State.fedLost_spec {l : List Nat} (hl : ∀ ch ∈ l, ch < 32) (hnd : l.Nodup) (s : State) : FedLost l s (l.foldl State.asrcLose s) := by
  induction l generalizing s with
  | nil => exact ⟨Frame.refl _ _ s, rfl, nofun, fun _ _ => rfl, fun _ _ => rfl, fun _ => rfl, fun _ h => h⟩
  | cons c l ih =>
    obtain ⟨hc, hnd⟩ := List.nodup_cons.mp hnd
    have hc32 := hl c (by simp)
    have hrest := ih (fun ch h => hl ch (by simp [h])) hnd
    rw [List.foldl_cons]
    by_cases hlock : s.flag (ASRC_STAT_LOCK c) = true
    · have hun := s.asrcLose_spec hc32 hlock
      have hlost : ((s.asrcLose c).input (44 + c)).lost = true := by
        rw [hun.input, if_pos rfl]
        exact (Input.lostBy_lost _ _ _).1
      have hlocks (ch : Nat) (hne : ch ≠ c) : (s.asrcLose c).flag (ASRC_STAT_LOCK ch) = s.flag (ASRC_STAT_LOCK ch) := by
        rw [State.flag, State.flag, hun.frame.rf (asrcRegs_ne hne)]
      have hdone := hrest (s.asrcLose c)
      generalize s.asrcLose c = u at *
      have hregs : ∀ a ∈ asrcRegs c, a ∈ ASRC_EVT :: regFile ASRC_STAT 32 := by
        intro a ha
        simp only [asrcRegs, List.mem_cons, List.not_mem_nil, or_false] at ha
        rcases ha with rfl | rfl
        · exact List.mem_cons_of_mem _ (mem_asrcStat hc32)
        · exact List.mem_cons_self
      have hself : (l.foldl State.asrcLose u).reg (ASRC_STAT c) = u.reg (ASRC_STAT c) := hdone.kept c (.inl hc)
      have hselfInput : (l.foldl State.asrcLose u).input (44 + c) = u.input (44 + c) := by
        refine hdone.inputs _ fun ch hch _ heq => ?_
        rw [show c = ch by omega] at hc
        exact hc hch
      refine ⟨(hun.frame.mono hregs (fun _ h => h)).trans hdone.frame, hun.ports.trans hdone.ports, fun ch hch hflag => ?_, fun ch hch => ?_,
        fun j hj => ?_, fun n => (hdone.side n).trans (hun.side n), fun j hj => hdone.evts j (hun.evts j hj)⟩
      · rcases List.mem_cons.mp hch with rfl | hch
        · refine ⟨?_, hdone.evts _ hun.evt, by rw [hselfInput]; exact hlost⟩
          rw [State.flag, State.rf_congr (ASRC_STAT_LOCK ch) hself]
          exact hun.lock
        · have hne : ch ≠ c := fun h => hc (h ▸ hch)
          exact hdone.lost ch hch (by rw [hlocks ch hne]; exact hflag)
      · have hne : ch ≠ c := by
          rintro rfl
          rcases hch with h | h
          · exact h List.mem_cons_self
          · rw [hlock] at h; exact absurd h (by decide)
        rw [hdone.kept ch (hch.imp (fun h h' => h (List.mem_cons_of_mem _ h')) fun h => by rwa [hlocks ch hne]), hun.frame.1 _ (asrcRegs_ne hne)]
      · rw [hdone.inputs j fun ch hch hflag => ?_, hun.input, if_neg (hj c List.mem_cons_self hlock)]
        have hne : ch ≠ c := fun h => hc (h ▸ hch)
        exact hj ch (List.mem_cons_of_mem _ hch) (by rw [← hlocks ch hne]; exact hflag)
    · have hskip : s.asrcLose c = s := by rw [State.asrcLose_eq, if_neg hlock]
      rw [hskip]
      have hdone := hrest s
      refine ⟨hdone.frame, hdone.ports, fun ch hch hflag => ?_, fun ch hch => ?_, fun j hj => hdone.inputs j fun ch hch => hj ch (by simp [hch]),
        hdone.side, hdone.evts⟩
      · rcases List.mem_cons.mp hch with rfl | hch
        · exact absurd hflag hlock
        · exact hdone.lost ch hch hflag
      · by_cases hne : ch = c
        · exact hdone.kept ch (.inr (by rw [hne]; simpa using hlock))
        · exact hdone.kept ch (hch.imp_left fun h h' => h (List.mem_cons_of_mem _ h'))

/-! ### INPUT_LOSS (R221, R222, R224, R238) -/

/-- What the loss of an input leaves, with that of the converter channels that it feeds. -/
structure InputLost (k : Nat) (c c' : LossCause) (fed : Nat → Bool) (s t : State) : Prop where
  frame : Frame (inStatRegs k ++ inEvtRegs k ++ ASRC_EVT :: regFile ASRC_STAT 32) [.ports] s t
  ports : PortsKept s.ports t.ports
  input : t.input k = (s.input k).lostBy c' (s.inRounds k true * s.sys.n)
  others : ∀ j, j ≠ k → (∀ ch, fed ch = true → j ≠ 44 + ch) → t.input j = s.input j
  lost : ∀ ch, fed ch = true → t.flag (ASRC_STAT_LOCK ch) = false ∧ t.bit ASRC_EVT ch = true ∧ (t.input (44 + ch)).lost = true
  unfed : ∀ ch, ch < 32 → fed ch = false → t.reg (ASRC_STAT ch) = s.reg (ASRC_STAT ch)
  side : ∀ n, t.txSide n = if n = k ∧ k < 32 ∧ c = .clock then { s.txSide k with off := true } else s.txSide n
  kept : (s.input k).lost = true → ∀ a ∈ inEvtRegs k, t.reg a = s.reg a
  stat : k < 32 → 2 ≤ s.rf (TDM_STAT_STATE k) → t.rf (TDM_STAT_STATE k) = 3 ∧ t.flag (TDM_STAT_CLK_OK k) = false
  tdm : (s.input k).lost = false → k < 32 → t.rf (TDM_CNT_LOSS_CNT k) = min 65535 (s.rf (TDM_CNT_LOSS_CNT k) + 1)
    ∧ t.reg (TDM_EVT k) = s.raised (TDM_EVT k) (lossFields k c)
  aes : (s.input k).lost = false → 32 ≤ k → k < 36 → t.bit AES_EVT (4 + (k - 32)) = true
  sub : (s.input k).lost = false → 36 ≤ k → k < 44 → t.bit AES_EVT (4 + (k - 36) / 2) = true

/-- A register of an input is none of the converters'. -/
theorem inRegs_notMem_asrc {a : Nat} (h : a ∈ inStatRegs k ++ inEvtRegs k) : a ∉ ASRC_EVT :: regFile ASRC_STAT 32 := by
  intro hm
  have hhigh : AudioCfg a := by
    refine audioCfg_asrc ?_
    simp only [regFile, List.mem_cons, List.mem_map] at hm
    rcases hm with rfl | ⟨n, -, rfl⟩ <;> simp only [ASRC_EVT, ASRC_STAT] <;> omega
  rcases List.mem_append.mp h with h | h
  · exact hhigh.notMem_stat h
  · exact hhigh.notMem_evt h

/-- A port's, an AES3 input's or a subframe's loss, with the channels fed by it. -/
theorem State.lose_fed (s : State) {k : Nat} (c : LossCause) {l : List Nat} {fed : Nat → Bool} (hk : k < 44) (hl : ∀ ch ∈ l, ch < 32) (hnd : l.Nodup)
    (hfed : ∀ ch, fed ch = true ↔ ch ∈ l ∧ s.flag (ASRC_STAT_LOCK ch) = true) :
    InputLost k c c fed s (l.foldl State.asrcLose (s.loseOne k c)) := by
  have hone := s.loseOne_spec k c
  have hlock (ch : Nat) : (s.loseOne k c).flag (ASRC_STAT_LOCK ch) = s.flag (ASRC_STAT_LOCK ch) := by
    have hcfg : AudioCfg (ASRC_STAT ch) := audioCfg_asrc (by simp only [ASRC_STAT]; omega)
    rw [State.flag, State.flag, hone.frame.rf (by
      rw [List.mem_append, not_or]; exact ⟨hcfg.notMem_stat, hcfg.notMem_evt⟩)]
  have hstatus (ch : Nat) : (s.loseOne k c).reg (ASRC_STAT ch) = s.reg (ASRC_STAT ch) := by
    have hcfg : AudioCfg (ASRC_STAT ch) := audioCfg_asrc (by simp only [ASRC_STAT]; omega)
    exact hone.frame.1 _ (by rw [List.mem_append, not_or]; exact ⟨hcfg.notMem_stat, hcfg.notMem_evt⟩)
  generalize s.loseOne k c = u at *
  have hdone := State.fedLost_spec hl hnd u
  generalize l.foldl State.asrcLose u = t at *
  have hown (a : Nat) (ha : a ∈ inStatRegs k ++ inEvtRegs k) : t.reg a = u.reg a := hdone.frame.1 a (inRegs_notMem_asrc ha)
  have hownStat (hk : k < 32) : t.reg (TDM_STAT k) = u.reg (TDM_STAT k) := hown _ (by simp [inStatRegs, hk])
  have hownTdm (hk : k < 32) (a : Nat) (ha : a ∈ [TDM_CNT k, TDM_EVT k]) : t.reg a = u.reg a :=
    hown a (List.mem_append_right _ (by rwa [inEvtRegs, if_pos hk]))
  have hownAes (hk : 32 ≤ k) (hk' : k < 44) : t.reg AES_EVT = u.reg AES_EVT :=
    hown _ (List.mem_append_right _ (by rw [inEvtRegs, if_neg (by omega), if_pos hk']; exact List.mem_singleton_self _))
  refine ⟨?_, hone.ports.trans hdone.ports, ?_, fun j hj hch => ?_, fun ch hch => ?_, fun ch hch hno => ?_,
    fun n => (hdone.side n).trans (hone.side n), fun h a ha => ?_, fun hk hr => ?_, fun h hk => ?_, fun h h1 h2 => ?_, fun h h1 h2 => ?_⟩
  · exact (hone.frame.mono (fun a ha => List.mem_append_left _ ha) (fun _ h => h)).step hdone.frame (fun a ha => List.mem_append_right _ ha)
  · rw [hdone.inputs k fun ch _ _ => by omega, hone.input, if_pos rfl]
  · rw [hdone.inputs j fun ch hl hlk => hch ch ((hfed ch).mpr ⟨hl, by rwa [← hlock]⟩), hone.input, if_neg hj]
  · obtain ⟨hmem, hlk⟩ := (hfed ch).mp hch
    exact hdone.lost ch hmem (by rw [hlock]; exact hlk)
  · rw [hdone.kept ch ?_, hstatus]
    by_cases hmem : ch ∈ l
    · refine .inr ?_
      rw [hlock, Bool.eq_false_iff]
      exact fun hlk => by rw [(hfed ch).mpr ⟨hmem, hlk⟩] at hno; exact absurd hno (by decide)
    · exact .inl hmem
  · exact (hown a (List.mem_append_right _ ha)).trans (hone.kept h a ha)
  · obtain ⟨h3, hclk⟩ := hone.stat hk hr
    rw [State.flag, State.rf_congr (TDM_STAT_STATE k) (hownStat hk), State.rf_congr (TDM_STAT_CLK_OK k) (hownStat hk)]
    exact ⟨h3, hclk⟩
  · obtain ⟨hcnt, hevt⟩ := hone.tdm h hk
    rw [State.rf_congr (TDM_CNT_LOSS_CNT k) (hownTdm hk _ (by simp)), hownTdm hk _ (by simp)]
    exact ⟨hcnt, hevt⟩
  · rw [State.bit, hownAes h1 (by omega)]
    exact hone.aes h h1 h2
  · rw [State.bit, hownAes (by omega) h2]
    exact hone.sub h h1 h2

/-- A converter channel's own loss: of its lock where it is locked. -/
theorem State.lose_asrc (s : State) {n : Nat} (c : LossCause) (hn : n < 32) {fed : Nat → Bool}
    (hfed : ∀ ch, fed ch = true ↔ ch = n ∧ s.flag (ASRC_STAT_LOCK ch) = true) :
    InputLost (44 + n) c (if fed n = true then .lock else c) fed s
      (if s.flag (ASRC_STAT_LOCK n) then s.asrcLose n else s.loseOne (44 + n) c) := by
  have hregs : inStatRegs (44 + n) = [] ∧ inEvtRegs (44 + n) = [] :=
    ⟨inStatRegs_nil (by omega), by rw [inEvtRegs, if_neg (by omega), if_neg (by omega)]⟩
  by_cases hlock : s.flag (ASRC_STAT_LOCK n) = true
  · have hself : fed n = true := (hfed n).mpr ⟨rfl, hlock⟩
    rw [if_pos hlock, if_pos hself]
    have hun := s.asrcLose_spec hn hlock
    generalize s.asrcLose n = t at *
    have hinput := hun.input (44 + n)
    rw [if_pos rfl] at hinput
    refine ⟨?_, hun.ports, hinput, fun j hj _ => ?_, fun ch hch => ?_, fun ch _ hno => ?_, fun m => ?_, fun _ a ha => ?_,
      fun h => absurd h (by omega), fun _ h => absurd h (by omega), fun _ _ h => absurd h (by omega), fun _ _ h => absurd h (by omega)⟩
    · refine hun.frame.mono (fun a ha => List.mem_append_right _ ?_) (fun _ h => h)
      simp only [asrcRegs, List.mem_cons, List.not_mem_nil, or_false] at ha
      rcases ha with rfl | rfl
      · exact List.mem_cons_of_mem _ (mem_asrcStat hn)
      · exact List.mem_cons_self
    · rw [hun.input, if_neg hj]
    · obtain ⟨rfl, -⟩ := (hfed ch).mp hch
      exact ⟨hun.lock, hun.evt, by rw [hinput]; exact (Input.lostBy_lost _ _ _).1⟩
    · refine hun.frame.1 _ (asrcRegs_ne ?_)
      rintro rfl
      rw [hself] at hno
      exact absurd hno (by decide)
    · rw [hun.side, if_neg (by omega)]
    · rw [hregs.2] at ha
      exact absurd ha List.not_mem_nil
  · have hnone (ch : Nat) : fed ch = false := by
      rw [Bool.eq_false_iff]
      intro h
      obtain ⟨rfl, hlk⟩ := (hfed ch).mp h
      exact hlock hlk
    rw [if_neg hlock, if_neg (by rw [hnone]; exact Bool.false_ne_true)]
    have hone := s.loseOne_spec (44 + n) c
    have hframe := hone.frame
    rw [hregs.1, hregs.2] at hframe
    refine ⟨hframe.mono nofun (fun _ h => h), hone.ports, by rw [hone.input, if_pos rfl], fun j hj _ => by rw [hone.input, if_neg hj],
      fun ch hch => ?_, fun ch _ _ => hframe.1 _ (by simp), hone.side, hone.kept, hone.stat, hone.tdm, hone.aes, hone.sub⟩
    rw [hnone] at hch
    exact absurd hch Bool.false_ne_true

theorem inKey_lt (i : InputId) : inKey i < 76 := by
  cases i <;> simp only [inKey] <;> omega

theorem inStatRegs_inKey (i : InputId) : (match i with | .tdm n => [TDM_STAT n.val] | .aes j => [AES_IN_STAT j.val] | _ => [])
    = inStatRegs (inKey i) := by
  cases i with
  | tdm n => exact (if_pos n.isLt).symm
  | aes j =>
    have hk : inKey (.aes j) = 32 + j.val := rfl
    rw [hk, inStatRegs, if_neg (by omega), if_pos (by omega), Nat.add_sub_cancel_left]
  | sub j ch => exact (inStatRegs_nil (by simp only [inKey]; omega)).symm
  | asrc n => exact (inStatRegs_nil (by simp only [inKey]; omega)).symm

theorem inEvtRegs_inKey (i : InputId) : (match i with
    | .tdm n => [TDM_CNT n.val, TDM_EVT n.val] | .aes _ => [AES_EVT] | .sub _ _ => [AES_EVT] | _ => []) = inEvtRegs (inKey i) := by
  cases i with
  | tdm n => exact (if_pos n.isLt).symm
  | aes j =>
    have hk : inKey (.aes j) = 32 + j.val := rfl
    rw [hk, inEvtRegs, if_neg (by omega), if_pos (by omega)]
  | sub j ch =>
    have hk : inKey (.sub j ch) = 36 + 2 * j.val + ch.val := rfl
    rw [hk, inEvtRegs, if_neg (by omega), if_pos (by omega)]
  | asrc n =>
    have hk : inKey (.asrc n) = 44 + n.val := rfl
    rw [hk, inEvtRegs, if_neg (by omega), if_neg (by omega)]

/-- The converter channels that an input's loss unlocks. -/
def State.feeds (s : State) (i : InputId) (ch : Nat) : Bool :=
  Nat.blt ch 32 && s.flag (ASRC_STAT_LOCK ch) && match i with
    | .tdm _ => (s.asrcsOf (inKey i)).contains ch | .aes _ => (s.asrcsOf (inKey i)).contains ch
    | .sub _ _ => s.asrcOf (1056 + (inKey i - 36)) == some ch | .asrc n => n.val == ch

theorem asrcsOf_spec (s : State) (port : Nat) : (∀ ch ∈ s.asrcsOf port, ch < 32) ∧ (s.asrcsOf port).Nodup :=
  ⟨fun _ h => List.mem_range.mp (List.mem_filter.mp h).1, List.nodup_range.filter _⟩

theorem asrcOf_lt {slot ch : Nat} (h : s.asrcOf slot = some ch) : ch < 32 := List.mem_range.mp (List.mem_of_find?_eq_some h)

theorem State.lose_spec (s : State) (i : InputId) (c : LossCause) : InputLost (inKey i) c
    (match i with | .asrc n => if s.feeds i n.val = true then LossCause.lock else c | _ => c) (s.feeds i) s (s.lose (inKey i) c) := by
  have hport (hi : (∃ n, i = .tdm n) ∨ ∃ j, i = .aes j) (hk : inKey i < 36) : InputLost (inKey i) c c (s.feeds i) s (s.lose (inKey i) c) := by
    obtain ⟨hl, hnd⟩ := asrcsOf_spec s (inKey i)
    rw [State.lose, if_pos hk]
    refine s.lose_fed c (by omega) hl hnd fun ch => ?_
    have hcontains : s.feeds i ch = (Nat.blt ch 32 && s.flag (ASRC_STAT_LOCK ch) && (s.asrcsOf (inKey i)).contains ch) := by
      rcases hi with ⟨n, rfl⟩ | ⟨j, rfl⟩ <;> rfl
    rw [hcontains, Bool.and_eq_true, Bool.and_eq_true, Nat.blt_eq, List.contains_iff_mem]
    exact ⟨fun ⟨⟨_, hlk⟩, hm⟩ => ⟨hm, hlk⟩, fun ⟨hm, hlk⟩ => ⟨⟨hl ch hm, hlk⟩, hm⟩⟩
  cases i with
  | tdm n => exact hport (.inl ⟨n, rfl⟩) (by simp only [inKey]; omega)
  | aes j => exact hport (.inr ⟨j, rfl⟩) (by simp only [inKey]; omega)
  | sub j e =>
    have hk : ¬inKey (.sub j e) < 36 := by simp only [inKey]; omega
    have hk44 : inKey (.sub j e) < 44 := by simp only [inKey]; omega
    have heq : s.lose (inKey (.sub j e)) c =
        (s.asrcOf (1056 + (inKey (.sub j e) - 36))).toList.foldl State.asrcLose (s.loseOne (inKey (.sub j e)) c) := by
      rw [State.lose, if_neg hk, if_pos hk44]
      cases s.asrcOf (1056 + (inKey (.sub j e) - 36)) <;> rfl
    have hnd : (s.asrcOf (1056 + (inKey (.sub j e) - 36))).toList.Nodup := by
      cases s.asrcOf (1056 + (inKey (.sub j e) - 36)) <;> simp
    rw [heq]
    refine s.lose_fed c hk44 (fun ch h => asrcOf_lt (Option.mem_toList.mp h)) hnd fun ch => ?_
    have hfeeds : s.feeds (.sub j e) ch = (Nat.blt ch 32 && s.flag (ASRC_STAT_LOCK ch) && s.asrcOf (1056 + (inKey (.sub j e) - 36)) == some ch) := rfl
    rw [hfeeds, Bool.and_eq_true, Bool.and_eq_true, Nat.blt_eq, beq_iff_eq, Option.mem_toList]
    exact ⟨fun ⟨⟨_, hlk⟩, hm⟩ => ⟨hm, hlk⟩, fun ⟨hm, hlk⟩ => ⟨⟨asrcOf_lt hm, hlk⟩, hm⟩⟩
  | asrc n =>
    have heq : s.lose (inKey (.asrc n)) c = if s.flag (ASRC_STAT_LOCK n.val) then s.asrcLose n.val else s.loseOne (44 + n.val) c := by
      have hk : inKey (.asrc n) = 44 + n.val := rfl
      rw [State.lose, hk, if_neg (by omega), if_neg (by omega), Nat.add_sub_cancel_left]
    rw [heq]
    refine s.lose_asrc c n.isLt fun ch => ?_
    have hfeeds : s.feeds (.asrc n) ch = (Nat.blt ch 32 && s.flag (ASRC_STAT_LOCK ch) && n.val == ch) := rfl
    rw [hfeeds, Bool.and_eq_true, Bool.and_eq_true, Nat.blt_eq, beq_iff_eq]
    exact ⟨fun ⟨⟨_, hlk⟩, hm⟩ => ⟨hm.symm, hlk⟩, fun ⟨hm, hlk⟩ => ⟨⟨by omega, hlk⟩, hm.symm⟩⟩

/-! ### The return of an input, and the ends of its ramps (R222) -/

/-- An input given its new state, with its status bits. -/
theorem State.inputShown_spec (s : State) (k : Nat) (x : Input) : Frame (inStatRegs k) [.ports] s ((s.setInput k x).inStatus k)
    ∧ ((s.setInput k x).inStatus k).ports = { s.ports with inputs := ((s.setInput k x).inStatus k).ports.inputs }
    ∧ (∀ j, j ≠ k → ((s.setInput k x).inStatus k).input j = s.input j) ∧ ((s.setInput k x).inStatus k).input k = x := by
  have hset := Frame.setInput s k x
  have hinput (j : Nat) := s.input_setInput k j x
  have hports : (s.setInput k x).ports = { s.ports with inputs := (s.setInput k x).ports.inputs } := rfl
  generalize s.setInput k x = u at *
  have hstatus := u.inStatus_frame k
  refine ⟨(hset.mono nofun (fun _ h => h)).step hstatus (fun _ h => h), ?_, fun j hj => ?_, ?_⟩
  · rw [hstatus.2 .ports (by simp)]
    exact hports
  · rw [hstatus.input, hinput, if_neg hj]
  · rw [hstatus.input, hinput, if_pos rfl]

/-- Settles O32: an input's loss with the channels that it feeds, its return, and the ends of its ramps. -/
theorem inputLossAndReturn : Obligations.InputLossAndReturn := by
  intro i s k x stat evts only fed
  have hstat : stat = inStatRegs k := inStatRegs_inKey i
  have hevts : evts = inEvtRegs k := inEvtRegs_inKey i
  have hfed : fed = s.feeds i := by funext ch; rfl
  clear_value stat evts fed
  subst hstat hevts hfed
  refine ⟨fun c => ⟨fun h => ?_, fun h => ?_⟩, fun h => ?_, fun at_ hgood hlost => ?_, fun h => ?_, fun hf hr => ?_, fun h => ?_, fun hf hr => ?_⟩
  · exact congrArg _ (if_neg (by rw [h]; exact Bool.false_ne_true))
  · have hexec : exec (.inputLoss i c) s = .next (s.lose k c) := congrArg _ (if_pos h)
    have hlose := s.lose_spec i c
    have hruns : ∀ n, i = .tdm n → 2 ≤ s.rf (TDM_STAT_STATE n.val) := by
      rintro n rfl
      have hruns' : s.inRuns n.val = Nat.ble 2 (s.rf (TDM_STAT_STATE n.val)) := if_pos n.isLt
      rw [← Nat.ble_eq, ← hruns']
      exact h
    refine ⟨_, hexec, hlose.frame, hlose.ports, hlose.input, hlose.others, hlose.lost, hlose.unfed, hlose.kept, fun n hn => ?_, ?_, ?_, ?_⟩
    · rw [hlose.side, if_neg]
      rintro ⟨rfl, hk, -⟩
      cases i with
      | tdm m => exact hn m rfl rfl
      | aes j => simp only [inKey] at hk; omega
      | sub j e => simp only [inKey] at hk; omega
      | asrc m => simp only [inKey] at hk; omega
    · rintro n rfl
      obtain ⟨h3, hclk⟩ := hlose.stat n.isLt (hruns n rfl)
      refine ⟨h3, hclk, ?_, fun hl => hlose.tdm hl n.isLt⟩
      rw [hlose.side]
      by_cases hc : c = .clock
      · rw [if_pos ⟨rfl, n.isLt, hc⟩, if_pos hc]
      · rw [if_neg fun h => hc h.2.2, if_neg hc]
    · rintro n rfl hl
      have hbit := hlose.aes hl (by simp only [inKey]; omega) (by simp only [inKey]; omega)
      rwa [show inKey (.aes n) - 32 = n.val from Nat.add_sub_cancel_left _ _] at hbit
    · rintro n e rfl hl
      have hbit := hlose.sub hl (by simp only [inKey]; omega) (by simp only [inKey]; omega)
      rwa [show (inKey (.sub n e) - 36) / 2 = n.val by simp only [inKey]; omega] at hbit
  · have hexec : exec (.inputReturn i) s = .next (match x.good with
      | some t => if x.lost then (s.moveTo (t + 2 * s.sys.roundLen)).setInput k { x with ret := true } else s
      | none => s) := rfl
    rw [hexec]
    rcases h with h | h
    · rw [h]
    · cases x.good with
      | none => rfl
      | some t => exact congrArg _ (if_neg (by rw [h]; exact Bool.false_ne_true))
  · have hexec : exec (.inputReturn i) s = .next (match x.good with
      | some t => if x.lost then (s.moveTo (t + 2 * s.sys.roundLen)).setInput k { x with ret := true } else s
      | none => s) := rfl
    generalize hy : { x with ret := true } = y at hexec
    rw [hgood] at hexec
    dsimp only at hexec
    rw [if_pos hlost] at hexec
    have hmoved := Frame.moveTo s (at_ + 2 * s.sys.roundLen)
    have hinput (j : Nat) := (s.moveTo (at_ + 2 * s.sys.roundLen)).input_setInput k j y
    refine ⟨_, hexec, (hmoved.mono (by simp) (by simp)).step (Frame.setInput _ _ _), ⟨rfl, fun j hj => ?_⟩, rfl, ?_⟩
    · rw [hinput, if_neg hj, hmoved.input]
    · rw [hinput, if_pos rfl, ← hy]
  · exact congrArg _ (if_neg h)
  · obtain ⟨hframe, hports, hothers, hself⟩ := s.inputShown_spec k { x with fading := false, gain := 0 }
    have hexec : exec (.inputFadeEnd i) s = .next (if x.fading = true ∧ x.ramp = none then (s.setInput k { x with fading := false, gain := 0 }).inStatus k
        else s) := rfl
    rw [if_pos ⟨hf, hr⟩] at hexec
    exact ⟨_, hexec, hframe, ⟨hports, hothers⟩, hself⟩
  · exact congrArg _ (if_neg h)
  · obtain ⟨hframe, hports, hothers, hself⟩ := s.inputShown_spec k { x with ramping := false, gain := unity20 }
    have hexec : exec (.inputRampEnd i) s = .next (if x.ramping = true ∧ x.ramp = none then (s.setInput k { x with ramping := false, gain := unity20 }).inStatus k
        else s) := rfl
    rw [if_pos ⟨hf, hr⟩] at hexec
    exact ⟨_, hexec, hframe, ⟨hports, hothers⟩, hself⟩

end Sys2Proof.Machine
end

section
/-! SUPPORT. Proofs/Rings.lean: what the ring engine changes: the error record, memory, and the head of a transmit ring (R8,
R260, R270, R271). -/
-- The proofs of this file are elaborated one after another: side by side their threads exceed the memory of the check.
set_option Elab.async false
namespace Sys2Proof.Machine

open Reg

variable {s t : State}

/-! ### Compiled recursions

The equations that Lean makes for a recursion whose body starts with a case analysis on what the ring's memory holds would have the
kernel evaluate the ring's addresses. They are taken from the compiled form instead, with the case analysis as a function `M`. -/

theorem pair_match {α β γ : Type} {C : γ → Prop} {M : α × β → (α → β → γ) → γ} {g : α → β → γ} (x : α × β)
    (hM : ∀ a b g, M (a, b) g = g a b) (h : C (g x.1 x.2)) : C (M x g) := by
  obtain ⟨a, b⟩ := x
  rw [hM]; exact h

theorem option_match {α β : Type} {M : Option α → (Unit → β) → (α → β) → β} {a : Unit → β} {b f : α → β} {e : β} (o : Option α)
    (hM0 : ∀ a b, M none a b = a ()) (hM1 : ∀ x a b, M (some x) a b = b x) (h0 : a () = e) (h1 : ∀ x, b x = f x) :
    M o a b = o.elim e f := by
  cases o with
  | none => rw [hM0]; exact h0
  | some x => rw [hM1]; exact h1 x

theorem result_match {α β : Type} {M : α × Bool → (α → β) → (α → β) → β} {a b : α → β} (x : α × Bool)
    (hM0 : ∀ t a b, M (t, true) a b = a t) (hM1 : ∀ t a b, M (t, false) a b = b t) : M x a b = if x.2 then a x.1 else b x.1 := by
  obtain ⟨t, b⟩ := x
  cases b with
  | true => exact hM0 _ _ _
  | false => exact hM1 _ _ _

/-- What a recursion over a count has of the counts below. -/
abbrev CountBelow (n : Nat) := Nat.below (motive := fun _ => State → State) n

theorem count_match {C : State → Prop} {n : Nat} {x : CountBelow (n + 1)}
    {M : (n : Nat) → (Unit → CountBelow 0 → State) → ((n : Nat) → CountBelow (n + 1) → State) → CountBelow n → State}
    {stop : Unit → CountBelow 0 → State} {go : (n : Nat) → CountBelow (n + 1) → State}
    (hM : ∀ n stop go x, M (n + 1) stop go x = go n x) (h : C (go n x)) : C (M (n + 1) stop go x) := by
  rw [hM]; exact h

theorem countBelow_fst (F : (n : Nat) → CountBelow n → State → State) (n : Nat) :
    (Nat.brecOn.go (motive := fun _ => State → State) (n + 1) F).2.1 = Nat.brecOn (motive := fun _ => State → State) n F := rfl

/-- What a recursion over a frame's buffers has of the buffers after one. -/
abbrev FillBelow (l : List (List Byte)) := List.below (motive := fun _ => State → List Nat → State) l

theorem fill_match {C : State → Prop} {b : List Byte} {t : List (List Byte)} {filled : List Nat} {x : FillBelow (b :: t)}
    {M : (l : List (List Byte)) → List Nat → (List Nat → FillBelow [] → State)
      → ((b : List Byte) → (t : List (List Byte)) → List Nat → FillBelow (b :: t) → State) → FillBelow l → State}
    {stop : List Nat → FillBelow [] → State} {go : (b : List Byte) → (t : List (List Byte)) → List Nat → FillBelow (b :: t) → State}
    (hM : ∀ b t filled stop go x, M (b :: t) filled stop go x = go b t filled x) (h : C (go b t filled x)) :
    C (M (b :: t) filled stop go x) := by
  rw [hM]; exact h

/-! ### Words read and written by an engine (R8) -/

theorem State.errLog_frame (s : State) (port : Nat) {k : ErrKind} (w : Bool) (addr : Nat) (hk : k ≠ .host) :
    Frame errRegs [] s (s.errLog port k w addr) := by
  have hraise (u : State) (f : RegField) (hf : f.reg = MATRIX_EVT) : Frame errRegs [] u (u.raise f) :=
    (Frame.raise u f).mono (by simp [errRegs, hf]) (by simp)
  unfold State.errLog
  extract_lets a b c d e
  have hfive : Frame errRegs [] s e :=
    ((Frame.refl _ _ s).step (Frame.setRegN _ _ _) (by simp [errRegs]) |>.step (Frame.setRegN _ _ _) (by simp [errRegs])
      |>.step (Frame.setRegN _ _ _) (by simp [errRegs]) |>.step (Frame.setReg _ _ _) (by simp [errRegs])).trans (hraise d _ rfl)
  split
  · exact hfive.trans (hraise e _ rfl)
  · exact absurd rfl hk
  · exact hfive

theorem Frame.setWord (s : State) (a : Nat) (v : Word) : Frame [] [.mem] s (s.setWord a v) := (State.frame_setBytes _ s a).2.2.2

theorem State.engineRead_frame (s : State) (port addr : Nat) : Frame errRegs [] s (s.engineRead port addr).1 := by
  unfold State.engineRead
  split
  · exact Frame.refl _ _ s
  · exact s.errLog_frame port false addr (by decide)

theorem State.engineWrite_frame {R : List Nat} {P : List Piece} (s : State) (port addr : Nat) {f : State → State}
    (hf : Frame R P s (f s)) (hR : ∀ a ∈ errRegs, a ∈ R) : Frame R P s (s.engineWrite port addr f) := by
  unfold State.engineWrite
  split
  · exact hf
  · exact (s.errLog_frame port true addr (by decide)).mono hR (by simp)

theorem State.ringRead_frame (s : State) (a : Nat) : Frame errRegs [] s (s.ringRead a).1 := s.engineRead_frame portRing a

theorem State.ringWrite_frame (s : State) (a : Nat) (ws : List Word) : Frame errRegs [.mem] s (s.ringWrite a ws) :=
  (Frame.refl _ _ s).foldl fun u w _ => u.engineWrite_frame portRing _ ((Frame.setWord u _ _).mono (by simp) (by simp)) fun _ h => h

theorem State.ringFill_frame (s : State) (a : Nat) (l : List Byte) : Frame errRegs [.mem] s (s.ringFill a l) := by
  unfold State.ringFill
  split
  · exact (State.frame_setBytes l s a).2.2.2.mono (by simp) (by simp)
  · exact (s.errLog_frame portRing true a (by decide)).mono (fun _ h => h) (by simp)

/-! ### Transmit rings (R260, R271) -/

theorem State.txReads_frame (s : State) (p i n : Nat) : Frame errRegs [] s (s.txReads p i n) :=
  (Frame.refl _ _ s).foldl fun u _ _ => u.ringRead_frame _

theorem State.txComplete_frame (s : State) (p i n status : Nat) : Frame errRegs [.mem] s (s.txComplete p i n status) :=
  (Frame.refl _ _ s).foldl fun u _ _ => (u.ringWrite_frame _ _).trans (State.ringWrite_frame _ _ _)

theorem Frame.setNp (s : State) (p : Nat) (x : NetPort) : Frame [] [.net] s (s.setNp p x) := Frame.withNet s _

theorem Frame.enqueue (s : State) (p q : Nat) (f : TxFrame) : Frame [] [.net] s (s.enqueue p q f).1 := by
  unfold State.enqueue
  dsimp only
  split
  · exact Frame.refl _ _ s
  · exact Frame.setNp s _ _

/-- Registers that a look at a transmit ring may change. -/
def txRingRegs (p : Nat) : List Nat := NET_TXR_HEAD p :: errRegs

theorem errRegs_txRingRegs (p : Nat) : ∀ a ∈ errRegs, a ∈ txRingRegs p := fun _ h => List.mem_cons_of_mem _ h

/-- A ring frame of `n` descriptors from `h` on taken up, with what goes on after it. -/
def State.txTaken (s : State) (p h : Nat) (more : State → State) (n : Nat) : State :=
  let w1 := s.word (s.txDesc p h + 4)
  let bytes := s.txBytes p h n
  let u := s.txReads p h n
  let past (t : State) : State := t.setRegN (NET_TXR_HEAD p) ((h + n) % 256)
  let len := bytes.length + 4
  let last := Nat.ble (u.txGiven p) n
  let go (t : State) : State := if last then t else more t
  if u.maxLen p < len then go (past (u.txComplete p h n 1))
  else if !u.netUp p then go (past (u.txComplete p h n 3))
  else
    let body : TxBody := .ring h n (bitAt w1 23) (bitAt w1 24) bytes
    let f : TxFrame := { len := len, etype := be16 bytes (etherAt bytes), body := body, held := false }
    if (u.enqueue p (bitsOf w1 27 25) f).2 then go (past (u.enqueue p (bitsOf w1 27 25) f).1) else (u.enqueue p (bitsOf w1 27 25) f).1

/-- One round of a look at a transmit ring. -/
def State.txRound (s : State) (p : Nat) (more : State → State) : State :=
  let h := bitsOf (s.reg (NET_TXR_HEAD p)) 7 0
  (s.txSpan p h (s.txGiven p)).elim (s.ringRead (s.txDesc p h + 4)).1 (s.txTaken p h more)

theorem State.txPoll_compiled (s : State) (p fuel : Nat) :
    s.txPoll p fuel = Nat.brecOn (motive := fun _ => State → State) fuel (State.txPoll._f p) s := by
  delta State.txPoll
  exact Eq.refl _

theorem State.txRound_compiled (s : State) (p n : Nat) (x : CountBelow (n + 1)) : State.txPoll._f p (n + 1) x s = s.txRound p x.1 := by
  have hdef := Eq.refl State.txPoll._f
  conv at hdef => rhs; delta State.txPoll._f
  rw [hdef]
  refine count_match (C := (· = s.txRound p x.1)) (fun _ _ _ _ => rfl) ?_
  extract_lets +onlyGivenNames h
  refine option_match _ (fun _ _ => rfl) (fun _ _ _ => rfl) rfl fun n => ?_
  extract_lets +onlyGivenNames w1 bytes u past len last go
  refine if_congr Iff.rfl rfl (if_congr Iff.rfl rfl ?_)
  extract_lets +onlyGivenNames body f
  exact result_match _ (fun _ _ _ => rfl) (fun _ _ _ => rfl)

theorem State.txPoll_succ (s : State) (p fuel : Nat) : s.txPoll p (fuel + 1) = s.txRound p fun t => t.txPoll p fuel := by
  have hmore : (fun t => State.txPoll t p fuel) = Nat.brecOn (motive := fun _ => State → State) fuel (State.txPoll._f p) :=
    funext fun t => t.txPoll_compiled p fuel
  have hround := congrFun (Nat.brecOn.eq (motive := fun _ => State → State) (fuel + 1) (State.txPoll._f p)) s
  rw [State.txPoll_compiled, hround, State.txRound_compiled, hmore]

theorem State.txTaken_frame (s : State) (p h n : Nat) {more : State → State} (hmore : ∀ t, Frame (txRingRegs p) [.mem, .net] t (more t)) :
    Frame (txRingRegs p) [.mem, .net] s (s.txTaken p h more n) := by
  have hpast {t : State} (n : Nat) (last : Bool) (ht : Frame (txRingRegs p) [.mem, .net] s t) :
      Frame (txRingRegs p) [.mem, .net] s (if last then t.setRegN (NET_TXR_HEAD p) n else more (t.setRegN (NET_TXR_HEAD p) n)) := by
    have hset : Frame (txRingRegs p) [.mem, .net] s (t.setRegN (NET_TXR_HEAD p) n) := ht.step (Frame.setRegN _ _ _) (by simp [txRingRegs])
    exact hset.ite (hset.trans (hmore _))
  unfold State.txTaken
  extract_lets +onlyGivenNames w1 bytes u past len last go
  have hreads : Frame (txRingRegs p) [.mem, .net] s u := (s.txReads_frame p h n).mono (errRegs_txRingRegs p) (by simp)
  refine Frame.ite ?_ (Frame.ite ?_ ?_)
  · exact hpast _ _ (hreads.step (u.txComplete_frame _ _ _ _) (errRegs_txRingRegs p))
  · exact hpast _ _ (hreads.step (u.txComplete_frame _ _ _ _) (errRegs_txRingRegs p))
  · extract_lets +onlyGivenNames body f
    have hqueued : Frame (txRingRegs p) [.mem, .net] s (u.enqueue p (bitsOf w1 27 25) f).1 := hreads.step (Frame.enqueue u _ _ _)
    exact (hpast _ _ hqueued).ite hqueued

theorem Frame.elim {α : Type} {R : List Nat} {P : List Piece} {o : Option α} {e : State} {f : α → State} (h0 : Frame R P s e)
    (h1 : ∀ x, Frame R P s (f x)) : Frame R P s (o.elim e f) := by
  cases o with
  | none => exact h0
  | some x => exact h1 x

theorem State.txRound_frame (s : State) (p : Nat) {more : State → State} (hmore : ∀ t, Frame (txRingRegs p) [.mem, .net] t (more t)) :
    Frame (txRingRegs p) [.mem, .net] s (s.txRound p more) := by
  unfold State.txRound
  extract_lets +onlyGivenNames h
  have hstop : Frame (txRingRegs p) [.mem, .net] s (s.ringRead (s.txDesc p h + 4)).1 := (s.ringRead_frame _).mono (errRegs_txRingRegs p) (by simp)
  have hgo (n : Nat) := s.txTaken_frame p h n hmore
  exact Frame.elim hstop hgo

theorem State.txPoll_zero (s : State) (p : Nat) : s.txPoll p 0 = s := by
  rw [State.txPoll_compiled]
  exact Eq.refl _

theorem State.txPoll_frame (s : State) (p fuel : Nat) : Frame (txRingRegs p) [.mem, .net] s (s.txPoll p fuel) := by
  induction fuel generalizing s with
  | zero => rw [State.txPoll_zero]; exact Frame.refl _ _ s
  | succ fuel ih => rw [State.txPoll_succ]; exact s.txRound_frame p ih

theorem State.txRing_frame (s : State) (p : Nat) : Frame (txRingRegs p) [.mem, .net, .power] s (s.txRing p) := by
  unfold State.txRing
  split
  · exact Frame.refl _ _ s
  · split
    · exact (s.txPoll_frame p 256).mono (fun _ h => h) (by simp)
    · exact (s.wakeDomain_frame dDdr).mono (by simp) (by simp)

/-! ### Receive rings (R271 to R273) -/

/-- One buffer of a frame filled, with what goes on after it. -/
def State.fillRound (s : State) (f : RxFrame) (w3 len : Nat) (b : List Byte) (t : List (List Byte)) (filled : List Nat)
    (more : State → List Nat → State) : State :=
  let r := f.ring
  let h := bitsOf (s.reg (NET_RXR_HEAD r)) 9 0
  let d := s.rxDesc r h
  let u := (s.ringRead (d + 4)).1
  let w1 := (s.ringRead (d + 4)).2
  if bitAt w1 31 then
    let buf := (u.word d).toNat + bitsOf w1 7 0 * 2 ^ 32
    let u := u.ringFill buf b
    let v := (if filled = [] then 2 ^ 30 else 0) + (if t = [] then 2 ^ 29 else 0) + f.port * 2 ^ 25
      + f.csum * 2 ^ 23 + bitsOf w1 7 0
    let u := u.ringWrite (d + 4) [BitVec.ofNat 32 v, BitVec.ofNat 32 ((if t = [] then len * 65536 else 0) + b.length), BitVec.ofNat 32 w3]
    more (u.setRegN (NET_RXR_HEAD r) ((h + 1) % 1024)) (filled ++ [h])
  else
    let u := u.setReg (NET_RXR_NOBUF r) (sat32 (u.reg (NET_RXR_NOBUF r)))
    u.rxDiscard r filled

theorem State.rxFill_compiled (s : State) (f : RxFrame) (w3 len : Nat) (l : List (List Byte)) (filled : List Nat) :
    s.rxFill f w3 len l filled = List.brecOn (motive := fun _ => State → List Nat → State) l (State.rxFill._f f w3 len) s filled := by
  delta State.rxFill
  exact Eq.refl _

theorem State.fillRound_compiled (s : State) (f : RxFrame) (w3 len : Nat) (b : List Byte) (t : List (List Byte)) (filled : List Nat)
    (x : FillBelow (b :: t)) : State.rxFill._f f w3 len (b :: t) x s filled = s.fillRound f w3 len b t filled x.1 := by
  have hdef := Eq.refl State.rxFill._f
  conv at hdef => rhs; delta State.rxFill._f
  rw [hdef]
  refine fill_match (C := (· = s.fillRound f w3 len b t filled x.1)) (fun _ _ _ _ _ _ => rfl) ?_
  extract_lets +onlyGivenNames r h d
  exact pair_match (C := (· = s.fillRound f w3 len b t filled x.1)) (s.ringRead (d + 4)) (fun _ _ _ => rfl) rfl

theorem State.rxFill_nil (s : State) (f : RxFrame) (w3 len : Nat) (filled : List Nat) : s.rxFill f w3 len [] filled = s := by
  rw [State.rxFill_compiled]

theorem State.rxFill_cons (s : State) (f : RxFrame) (w3 len : Nat) (b : List Byte) (t : List (List Byte)) (filled : List Nat) :
    s.rxFill f w3 len (b :: t) filled = s.fillRound f w3 len b t filled fun u l => u.rxFill f w3 len t l := by
  have hmore : (fun u l => State.rxFill u f w3 len t l) = List.brecOn (motive := fun _ => State → List Nat → State) t (State.rxFill._f f w3 len) :=
    funext fun u => funext fun l => u.rxFill_compiled f w3 len t l
  have hround := congrFun (congrFun (List.brecOn.eq (motive := fun _ => State → List Nat → State) (b :: t) (State.rxFill._f f w3 len)) s) filled
  rw [State.rxFill_compiled, hround, State.fillRound_compiled, hmore]

/-- Registers that a frame entered into a ring may change. -/
def rxRingRegs (r : Nat) : List Nat := NET_RXR_HEAD r :: NET_RXR_NOBUF r :: errRegs

theorem errRegs_rxRingRegs (r : Nat) : ∀ a ∈ errRegs, a ∈ rxRingRegs r := fun _ h => List.mem_cons_of_mem _ (List.mem_cons_of_mem _ h)

theorem State.rxDiscard_frame (s : State) (r : Nat) (filled : List Nat) : Frame errRegs [.mem] s (s.rxDiscard r filled) :=
  (Frame.refl _ _ s).foldl fun u _ _ => u.ringWrite_frame _ _

theorem State.rxFill_frame (s : State) (f : RxFrame) (w3 len : Nat) (l : List (List Byte)) (filled : List Nat) :
    Frame (rxRingRegs f.ring) [.mem] s (s.rxFill f w3 len l filled) := by
  have herr := errRegs_rxRingRegs f.ring
  induction l generalizing s filled with
  | nil => rw [State.rxFill_nil]; exact Frame.refl _ _ s
  | cons b t ih =>
    rw [State.rxFill_cons]
    unfold State.fillRound
    extract_lets +onlyGivenNames r h d u w1
    have hread : Frame (rxRingRegs f.ring) [.mem] s u := (s.ringRead_frame (d + 4)).mono herr (by simp)
    refine Frame.ite ?_ ?_
    · exact (hread.step (u.ringFill_frame _ _) herr |>.step (State.ringWrite_frame _ _ _) herr
        |>.step (Frame.setRegN _ _ _) (by simp [r, rxRingRegs])).trans (ih _ _)
    · exact hread.step (Frame.setReg _ _ _) (by simp [r, rxRingRegs]) |>.step (State.rxDiscard_frame _ _ _) herr

theorem State.putStamp_frame (s : State) (reg : Nat → Nat) (x : Int) (p seq : Nat) : Frame (regFile reg 4) [] s (s.putStamp reg x p seq) := by
  refine (Frame.refl _ _ s).foldl fun u w hw => (Frame.setRegN u _ _).mono ?_ (by simp)
  simp only [stampWords, List.zipIdx_cons, List.zipIdx_nil, List.mem_cons, List.not_mem_nil, or_false] at hw
  simp only [List.mem_singleton, forall_eq, regFile, List.mem_map, List.mem_range]
  rcases hw with rfl | rfl | rfl | rfl
  exacts [⟨0, by decide, rfl⟩, ⟨1, by decide, rfl⟩, ⟨2, by decide, rfl⟩, ⟨3, by decide, rfl⟩]

/-- Rings looked at where no frame waits in a receive buffer (R258). -/
theorem State.netDrain_frame (s : State) (h : ∀ p, p < 6 → (s.np p).fifo = []) :
    Frame (errRegs ++ regFile NET_TXR_HEAD 6) [.mem, .net, .power] s s.netDrain := by
  have hnone : (List.range 6).foldl (fun n p => n + (s.np p).fifo.length) 0 = 0 := by
    simp [List.range_succ, h]
  unfold State.netDrain
  rw [hnone]
  refine (Frame.refl _ _ s).foldl fun u p hp => (u.txRing_frame p).mono (fun a ha => ?_) (by simp)
  rcases List.mem_cons.mp ha with rfl | ha
  · exact List.mem_append_right _ (List.mem_map.mpr ⟨p, hp, rfl⟩)
  · exact List.mem_append_left _ ha

end Sys2Proof.Machine
end

section
/-! SUPPORT. Proofs/Power.lean: clusters gated and brought up again, and the handshake of an entry (R151, R156, R474, R483 to
R488). -/
-- The proofs of this file are elaborated one after another: side by side their threads exceed the memory of the check.
set_option Elab.async false
namespace Sys2Proof.Machine

open Reg

variable {s t u : State} {c : Nat}

/-! ### Clusters gated (R156, R474) -/

/-- Registers that gating clusters may change. -/
def gateRegs (l : List Nat) : List Nat := PWR_STAT :: (regFile CL_STAT 16 ++ l.flatMap fun c => portRegs (6 + c))

theorem mem_gateRegs {l : List Nat} {a : Nat} :
    a ∈ gateRegs l ↔ a = PWR_STAT ∨ (∃ c, c < 16 ∧ CL_STAT c = a) ∨ ∃ c ∈ l, a ∈ portRegs (6 + c) := by
  simp [gateRegs, regFile]

theorem notMem_gateRegs {l : List Nat} {a : Nat} (hl : ∀ c ∈ l, c < 16) (h1 : a ≠ PWR_STAT) (h2 : a < 0x1000000)
    (h3 : a < 0x30000 ∨ 0x60000 ≤ a) : a ∉ gateRegs l := by
  rw [mem_gateRegs]
  rintro (h | ⟨c, _, h⟩ | ⟨c, hc, h⟩)
  · exact h1 h
  · simp only [CL_STAT] at h; omega
  · exact notMem_portRegs h3 (by have := hl c hc; omega) h

theorem mem_clOffRegs {a c : Nat} : a ∈ clOffRegs c ↔ a = CL_CTL c ∨ a = CL_STAT c ∨ a = PWR_STAT ∨ a ∈ portRegs (6 + c) := by
  simp only [clOffRegs, portRegs, List.mem_cons, List.mem_append, List.not_mem_nil, or_false]
  tauto

/-- What the clusters of a list gated come to. -/
structure Gated (l : List Nat) (s t : State) : Prop where
  frame : Frame (gateRegs l) offPieces s t
  power : PowerKept s.power t.power
  bits : ∀ i, i < 32 → t.bit PWR_STAT i = (s.bit PWR_STAT i && !l.contains i)
  off : ∀ c ∈ l, t.clState c = if s.clState c = clIsolated then clIsolated else clOff
  clStat : ∀ c, c < 16 → c ∉ l → t.reg (CL_STAT c) = s.reg (CL_STAT c)
  reset : ∀ k, k / 8 ∈ l → (t.stake k).run = .held ∧ (t.stake k).arch = Arch.reset
  others : ∀ k, k / 8 ∉ l → t.stake k = s.stake k

/-- The state that gating leaves a cluster in. -/
def State.gatedState (s : State) (c : Nat) : Nat := if s.clState c = clIsolated then clIsolated else clOff

theorem State.gatedState_lt (s : State) (c : Nat) : s.gatedState c < 8 := by
  unfold State.gatedState
  split <;> decide

theorem State.gateCluster_eq (s : State) (c : Nat) :
    s.gateCluster c = (s.offReset c (s.gatedState c)).setCluster c { (s.offReset c (s.gatedState c)).cluster c with gated := false, missed := false } := rfl

theorem State.gateCluster_spec (s : State) (hc : c < 16) : Gated [c] s (s.gateCluster c) := by
  obtain ⟨hoff, hwiped, hstate, hpwr, hctl, hpower, -⟩ := s.offReset_spec hc (s.gatedState_lt c)
  rw [State.gateCluster_eq]
  generalize s.offReset c (s.gatedState c) = o at *
  have hset := Frame.setCluster o c { o.cluster c with gated := false, missed := false }
  have hstakes (k : Nat) : (o.setCluster c { o.cluster c with gated := false, missed := false }).stake k = o.stake k := State.stake_setCluster _ _ _ _
  have hwiped := hwiped.keep hstakes hset
  generalize o.setCluster c { o.cluster c with gated := false, missed := false } = t at *
  refine ⟨?_, ?_, fun i hi => ?_, fun d hd => ?_, fun d hd hne => ?_, fun k hk => ?_, fun k hk => ?_⟩
  · refine ⟨fun a ha => ?_, ((hoff.mono (fun _ h => h) (by simp)).step hset).2⟩
    rw [hset.1 _ (by simp)]
    by_cases hac : a = CL_CTL c
    · rw [hac, hctl]
    · refine hoff.1 a fun hm => ha ?_
      rw [mem_gateRegs]
      rcases mem_clOffRegs.mp hm with h | h | h | h
      · exact absurd h hac
      · exact .inr (.inl ⟨c, hc, h.symm⟩)
      · exact .inl h
      · exact .inr (.inr ⟨c, by simp, h⟩)
  · rw [hset.2 .power (by simp)]; exact hpower
  · rw [State.bit, hset.1 _ (by simp), hpwr, bitAt_setBits _ _ _ _ (by omega)]
    by_cases hic : i = c <;> simp [hic, State.bit]
  · obtain rfl := List.mem_singleton.mp hd
    exact (hset.rf (by simp)).trans hstate
  · rw [hset.1 _ (by simp)]
    refine hoff.1 _ fun hm => hne ?_
    rw [List.mem_singleton]
    rcases mem_clOffRegs.mp hm with h | h | h | h
    · simp only [CL_STAT, CL_CTL] at h; omega
    · simp only [CL_STAT] at h; omega
    · simp only [CL_STAT, PWR_STAT] at h; omega
    · exact absurd h (notMem_portRegs (.inr (by simp only [CL_STAT]; omega)) (by omega))
  · exact hwiped.reset k (List.mem_singleton.mp hk)
  · exact hwiped.others k (by simpa using hk)

theorem gateRegs_mono {l m : List Nat} (h : ∀ c ∈ l, c ∈ m) : ∀ a ∈ gateRegs l, a ∈ gateRegs m := by
  intro a ha
  rw [mem_gateRegs] at *
  exact ha.imp_right (Or.imp_right fun ⟨c, hc, hp⟩ => ⟨c, h c hc, hp⟩)

theorem State.clState_congr (h : t.reg (CL_STAT c) = s.reg (CL_STAT c)) : t.clState c = s.clState c := State.rf_congr (CL_STAT_STATE c) h

/-- The CL_STATs lie above the registers of the hub die. -/
theorem Frame.clStat {R : List Nat} {P : List Piece} (h : Frame R P s t) (c : Nat) (hR : ∀ a ∈ R, a < 0x1000000 := by decide) :
    t.reg (CL_STAT c) = s.reg (CL_STAT c) := by
  refine h.1 _ fun hm => ?_
  have := hR _ hm
  simp only [CL_STAT] at this
  omega

theorem Gated.nil (s : State) : Gated [] s s :=
  ⟨Frame.refl _ _ s, rfl, by simp, by simp, fun _ _ _ => rfl, by simp, fun _ _ => rfl⟩

theorem Gated.append {l : List Nat} (h : Gated l s t) (g : Gated [c] t u) (hl : ∀ d ∈ l, d < 16) (hc : c < 16) : Gated (l ++ [c]) s u := by
  refine ⟨?_, h.power.trans g.power, fun i hi => ?_, fun d hd => ?_, fun d hd hne => ?_, fun k hk => ?_, fun k hk => ?_⟩
  · exact (h.frame.mono (gateRegs_mono (by simp +contextual)) (fun _ h => h)).step g.frame (gateRegs_mono (by simp)) (fun _ h => h)
  · rw [g.bits i hi, h.bits i hi]
    simp [Bool.and_assoc, Bool.not_or]
  · by_cases hdc : d = c
    · subst hdc
      rw [g.off d (by simp)]
      by_cases hdl : d ∈ l
      · rw [h.off d hdl]
        by_cases his : s.clState d = clIsolated
        · rw [if_pos his, if_pos rfl]
        · rw [if_neg his, if_neg (by decide)]
      · rw [State.clState_congr (h.clStat d hc hdl)]
    · have hdl : d ∈ l := by simpa [hdc] using hd
      rw [State.clState_congr (g.clStat d (hl d hdl) (by simpa using hdc)), h.off d hdl]
  · rw [List.mem_append, not_or] at hne
    rw [g.clStat d hd hne.2, h.clStat d hd hne.1]
  · by_cases hkc : k / 8 = c
    · exact g.reset k (by simpa using hkc)
    · rw [g.others k (by simpa using hkc)]
      exact h.reset k (by simpa [hkc] using hk)
  · rw [List.mem_append, not_or] at hk
    rw [g.others k hk.2, h.others k hk.1]

theorem State.gateAll_spec (s : State) {l : List Nat} (hl : ∀ c ∈ l, c < 16) : Gated l s (l.foldl (fun s c => s.gateCluster c) s) := by
  have hgo (done rest : List Nat) (t : State) (h : Gated done s t) (hd : ∀ c ∈ done, c < 16) (hr : ∀ c ∈ rest, c < 16) :
      Gated (done ++ rest) s (rest.foldl (fun s c => s.gateCluster c) t) := by
    induction rest generalizing done t with
    | nil => simpa using h
    | cons c rest ih =>
      have hc : c < 16 := hr c (by simp)
      have := ih (done ++ [c]) (t.gateCluster c) (h.append (t.gateCluster_spec hc) hd hc)
        (by simpa [or_imp, forall_and] using ⟨hd, hc⟩) fun d hd => hr d (by simp [hd])
      simpa using this
  exact hgo [] l s (Gated.nil s) (by simp) hl

/-! ### Clusters brought up again (R151) -/

/-- Of clusters brought up, CL_STAT alone of the registers changes; the stakes and what the power controller has decided stand. -/
structure Ungated (l : List Nat) (s t : State) : Prop where
  frame : Frame (l.map CL_STAT) [.compute, .power] s t
  power : PowerKept s.power t.power
  stakes : t.compute.stakes = s.compute.stakes

theorem Ungated.refl (l : List Nat) (s : State) : Ungated l s s := ⟨Frame.refl _ _ s, rfl, rfl⟩

theorem Ungated.trans {l : List Nat} (h : Ungated l s t) (g : Ungated l t u) : Ungated l s u :=
  ⟨h.frame.trans g.frame, h.power.trans g.power, g.stakes.trans h.stakes⟩

/-- Every CL_STAT lies above the registers of the hub die. -/
theorem Ungated.reg {l : List Nat} (h : Ungated l s t) {a : Nat} (ha : a < 0x1000000) : t.reg a = s.reg a := by
  refine h.frame.1 a fun hm => ?_
  obtain ⟨c, -, rfl⟩ := List.mem_map.mp hm
  simp only [CL_STAT] at ha
  omega

theorem State.wakeDomain_power (s : State) (d : Nat) : PowerKept s.power (s.wakeDomain d).power := by
  unfold State.wakeDomain
  split <;> rfl

theorem State.powerUp_power (s : State) (c : Nat) : PowerKept s.power (s.powerUp c).power := by
  refine PowerKept.trans ?_ (State.wakeDomain_power _ c)
  cases s.flag (if c < 8 then PWR_STAT_CD0 else PWR_STAT_CD1) with
  | false => exact s.wakeDomain_power _
  | true => exact rfl

theorem State.bringUp_ungated (s : State) {l : List Nat} (hc : c ∈ l) : Ungated l s ((s.bringUp c).autoStart c) := by
  have hup := (s.bringUp_spec c).1
  have hpower := (s.loadingSet c).powerUp_power c
  have hcompute := ((s.loadingSet c).powerUp_frame c).2 .compute (by simp)
  have hload := (s.loadingSet_spec c).1
  have hstakes : (s.loadingSet c).compute.stakes = s.compute.stakes :=
    (State.setCluster_parts _ _ _).1.trans (congrArg Compute.stakes ((Frame.sf s (CL_STAT_STATE c) clLoading).2 .compute (by simp)))
  have hkept : (s.loadingSet c).power = s.power := hload.2 .power (by simp)
  rw [hkept, ← State.bringUp_eq] at hpower
  rw [← State.bringUp_eq] at hcompute
  generalize s.loadingSet c = x at *
  generalize s.bringUp c = b at *
  have hset := Frame.setCluster b c { b.cluster c with start := true }
  refine ⟨(hup.mono ?_ (fun _ h => h)).step hset, ?_, ?_⟩
  · simp only [List.mem_singleton, List.mem_map, forall_eq]
    exact ⟨c, hc, rfl⟩
  · rw [State.autoStart, hset.2 .power (by simp)]
    exact hpower
  · rw [State.autoStart, (b.setCluster_parts _ _).1, ← hstakes]
    exact congrArg Compute.stakes hcompute

theorem State.ungate_spec (s : State) (mask : Word) : Ungated s.skClusters s (s.ungate mask) := by
  unfold State.ungate
  generalize s.skClusters = l
  refine foldl_inv (Ungated l s) _ _ _ (Ungated.refl l s) fun t c hc ht => ?_
  split
  · exact ht
  · exact ht.trans (t.bringUp_ungated hc)

/-- The CL_STATs of clusters that exist. -/
theorem clStats_subset {l : List Nat} (h : ∀ c ∈ l, c < 16) : ∀ a ∈ l.map CL_STAT, a ∈ regFile CL_STAT 16 := by
  intro a ha
  obtain ⟨c, hc, rfl⟩ := List.mem_map.mp ha
  exact List.mem_map.mpr ⟨c, List.mem_range.mpr (h c hc), rfl⟩

/-! ### Rings served once LPDDR5X is ready (R258) -/

/-- Nothing below the BUS MATRIX's registers changes, and of the power controller only what waits for a domain. -/
structure Drained (s t : State) : Prop where
  low : ∀ a, a < 0x30000 → t.reg a = s.reg a
  power : PowerKept s.power t.power
  kept : ∀ p, p ∉ [Piece.mem, .net, .power] → p.same s t

theorem Drained.refl (s : State) : Drained s s := ⟨fun _ _ => rfl, rfl, fun p _ => by cases p <;> simp [Piece.same]⟩

theorem Drained.trans (h : Drained s t) (g : Drained t u) : Drained s u := by
  exact ⟨fun a ha => (g.low a ha).trans (h.low a ha), h.power.trans g.power, fun p hp => Piece.same_trans (h.kept p hp) (g.kept p hp)⟩

theorem Drained.of_frame {R : List Nat} (h : Frame R [.mem, .net] s t) (hR : ∀ a ∈ R, 0x30000 ≤ a) : Drained s t := by
  have hpower : t.power = s.power := h.2 .power (by simp)
  refine ⟨fun a ha => h.1 a fun hm => ?_, ?_, fun p hp => h.2 p ?_⟩
  · have := hR a hm; omega
  · rw [hpower]; rfl
  · simp only [List.mem_cons, List.not_mem_nil, or_false, not_or] at hp ⊢
    exact ⟨hp.1, hp.2.1⟩

theorem errRegs_ge : ∀ a ∈ errRegs, 0x30000 ≤ a := by decide

theorem State.txRing_drained (s : State) (p : Nat) : Drained s (s.txRing p) := by
  unfold State.txRing
  split
  · exact Drained.refl s
  · split
    · refine .of_frame (s.txPoll_frame p 256) fun a ha => ?_
      rcases List.mem_cons.mp ha with rfl | ha
      · simp only [NET_TXR_HEAD]; omega
      · exact errRegs_ge a ha
    · exact ⟨fun a _ => (s.wakeDomain_frame dDdr).1 a (by simp), s.wakeDomain_power dDdr,
        fun p hp => (s.wakeDomain_frame dDdr).2 p (by simp_all)⟩

theorem State.rxEnter_drained (s : State) (f : RxFrame) : Drained s (s.rxEnter f) := by
  have hfill (t : State) (w len : Nat) (l : List (List Byte)) : Drained t (t.rxFill f w len l []) := by
    refine .of_frame ((t.rxFill_frame f w len l []).mono (fun _ h => h) (by simp)) fun a ha => ?_
    simp only [rxRingRegs, List.mem_cons] at ha
    rcases ha with rfl | rfl | ha
    · simp only [NET_RXR_HEAD]; omega
    · simp only [NET_RXR_NOBUF]; omega
    · exact errRegs_ge a ha
  have hstamp (t : State) (h : Nat) : Drained t (t.putStamp (TIME_RXTS h) f.stamp f.port f.seq) := by
    refine .of_frame ((t.putStamp_frame _ _ _ _).mono (fun _ h => h) (by simp)) fun a ha => ?_
    simp only [regFile, List.mem_map] at ha
    obtain ⟨j, -, rfl⟩ := ha
    simp only [TIME_RXTS]; omega
  unfold State.rxEnter
  extract_lets +onlyGivenNames net a h owned b
  have ha : Drained s a := .of_frame (R := []) ((Frame.withNet s { net with won := mset (fun _ => 0) s.net.won f.ring f.port }).mono (by simp) (by simp)) (by simp)
  refine (ha.trans ?_).trans (hfill b _ _ _)
  by_cases hc : f.ring = 0 ∧ owned = true
  · have hb : b = a.putStamp (TIME_RXTS h) f.stamp f.port f.seq := if_pos hc
    rw [hb]; exact hstamp a h
  · have hb : b = a := if_neg hc
    rw [hb]; exact Drained.refl a

theorem State.rxDrain_drained (s : State) (n : Nat) : Drained s (s.rxDrain n) := by
  induction n generalizing s with
  | zero => exact Drained.refl s
  | succ n ih =>
    unfold State.rxDrain
    split
    · next f _ =>
      have htaken := Frame.setNp s f.port { s.np f.port with fifo := (s.np f.port).fifo.drop 1 }
      exact ((Drained.of_frame (htaken.mono (fun _ h => h) (by simp)) (by simp)).trans (State.rxEnter_drained _ _)).trans (ih _)
    · exact Drained.refl s

theorem State.netDrain_drained (s : State) : Drained s s.netDrain := by
  unfold State.netDrain
  extract_lets n
  exact foldl_inv (Drained s) _ _ _ (s.rxDrain_drained n) fun t p _ h => h.trans (t.txRing_drained p)

/-! ### A wake from Watch (R480) -/

/-- The registers of a wake shown. -/
def State.wakeShown (s : State) (target : Nat) : State := ((s.sf PWR_STAT_STATE target).raise PWR_EVT_WAKE).sf PWR_STAT_DDR_SR 0

/-- The clusters that start together after a wake kept. -/
def State.togetherSet (s : State) : State :=
  s.updPower fun p => { p with together := s.skClusters.filter fun c => s.clState c == clLoading }

theorem State.wakeTo_eq (s : State) (target : Nat) : s.wakeTo target =
    ((s.wakeShown target).ungate (if target = pTrim then (s.wakeShown target).reg PWR_TRIM_MASK else 0#32)).togetherSet.netDrain := rfl

theorem State.wakeShown_spec (s : State) {target : Nat} (ht : target < 4) : Frame [PWR_STAT, PWR_EVT] [] s (s.wakeShown target)
    ∧ (s.wakeShown target).pstate = target ∧ (s.wakeShown target).flag PWR_EVT_WAKE = true
    ∧ (s.wakeShown target).flag PWR_STAT_DDR_SR = false := by
  refine ⟨(Frame.refl _ _ s).step (Frame.sf s PWR_STAT_STATE target) |>.step (Frame.raise _ PWR_EVT_WAKE) |>.step (Frame.sf _ PWR_STAT_DDR_SR 0),
    ?_, ?_, ?_⟩
  · rw [State.pstate, State.wakeShown, State.rf_sf_ne _ _ (by decide) (by decide) (by decide), State.rf_raise_ne _ (by decide) (by decide) (by decide),
      State.rf_sf_self _ _ _ (by decide) (by decide)]
    exact Nat.mod_eq_of_lt ht
  · rw [State.flag, State.wakeShown, State.rf_sf_ne _ _ (by decide) (by decide) (by decide)]
    exact State.flag_raise_self _ PWR_EVT_WAKE rfl (by decide)
  · rw [State.flag, State.wakeShown, State.rf_sf_self _ _ _ (by decide) (by decide)]
    rfl

/-- What a wake from Watch leaves (R480). -/
structure Woken (target : Nat) (s t : State) : Prop where
  state : t.pstate = target
  wake : t.flag PWR_EVT_WAKE = true
  ddr : t.flag PWR_STAT_DDR_SR = false
  stakes : t.compute.stakes = s.compute.stakes
  hot : t.power.hubHot = s.power.hubHot
  regs : ∀ a, a < 0x30000 → a ≠ PWR_STAT → a ≠ PWR_EVT → t.reg a = s.reg a
  kept : ∀ p, p ∉ [Piece.mem, .net, .power, .compute] → p.same s t

theorem State.wakeTo_spec (s : State) {target : Nat} (ht : target < 4) : Woken target s (s.wakeTo target) := by
  obtain ⟨hshown, hstate, hwake, hddr⟩ := s.wakeShown_spec ht
  rw [State.wakeTo_eq]
  generalize (if target = pTrim then (s.wakeShown target).reg PWR_TRIM_MASK else 0#32) = mask
  generalize s.wakeShown target = w at *
  have hungate := w.ungate_spec mask
  generalize w.ungate mask = x at *
  have hset : Frame [] [.power] x x.togetherSet := Frame.power x _
  have hhot : x.togetherSet.power.hubHot = x.power.hubHot := rfl
  generalize x.togetherSet = y at *
  have hdrain := y.netDrain_drained
  generalize y.netDrain = z at *
  have hreg (a : Nat) (ha : a < 0x30000) : z.reg a = w.reg a :=
    (hdrain.low a ha).trans ((hset.1 a (by simp)).trans (hungate.reg (by omega)))
  have hrf (f : RegField) (hf : f.reg < 0x30000) : z.rf f = w.rf f := State.rf_congr f (hreg _ hf)
  refine ⟨(hrf _ (by decide)).trans hstate, ?_, ?_, ?_, ?_, fun a ha h1 h2 => ?_, fun p hp => ?_⟩
  · rw [← hwake, State.flag, State.flag, hrf _ (by decide)]
  · rw [← hddr, State.flag, State.flag, hrf _ (by decide)]
  · rw [hdrain.kept .compute (by simp), hset.2 .compute (by simp), hungate.stakes, hshown.2 .compute (by simp)]
  · have h1 := hdrain.power
    have h2 := hungate.power
    unfold PowerKept at h1 h2
    rw [h1, hhot, h2, hshown.2 .power (by simp)]
  · rw [hreg a ha, hshown.1 a (by simp [h1, h2])]
  · have h1 := hdrain.kept p (by simp_all)
    exact Piece.same_trans (Piece.same_trans (hshown.2 p (by simp)) (hungate.frame.2 p (by simp_all))) (Piece.same_trans (hset.2 p (by simp_all)) h1)

/-! ### Requests at PWR_CTL (R480, R485) -/

/-- A request that no retry stands in the way of. -/
theorem State.pwrCtlWrite_go {a target : Nat} {v : Word} (ha : a ≤ 1) (hbusy : s.flag PWR_STAT_BUSY = false) (hretry : s.power.retry = none)
    (hgo : bitAt v 0 = true) (ht : bitsOf v 2 1 = target) :
    s.pwrCtlWrite a v = ((s.sf PWR_CTL_TARGET target).pwrGo a target).ok 0#32 := by
  unfold State.pwrCtlWrite
  rw [if_neg (by simp [hbusy]; omega), hretry, hgo, ht]
  rfl

theorem State.pwrGo_wake {a target : Nat} (hretry : s.power.retry = none) (hwatch : s.pstate = pWatch) (ht : target ≤ pTrim) :
    s.pwrGo a target = s.wakeTo target := by
  have hne : ¬ pWatch ≤ target := by simp only [pTrim, pWatch] at *; omega
  have hrim : target ≠ pRim := by simp only [pTrim, pRim] at *; omega
  unfold State.pwrGo
  extract_lets cur u w
  have hu : u = s := if_neg (by simp [hne])
  have hw : w = s := by rw [← hu]; exact if_neg (by simp [hrim])
  have hcur : cur = pWatch := hwatch
  rw [hw, hcur, hretry, if_neg (by decide), if_neg (by simp only [pTrim, pWatch] at *; omega), if_pos ⟨Nat.le_refl _, ht⟩]

end Sys2Proof.Machine
end

section
/-! SUPPORT. Proofs/Thermal.lean: regions gated for temperature and ungated (R495, R496). -/
-- The proofs of this file are elaborated one after another: side by side their threads exceed the memory of the check.
set_option Elab.async false
namespace Sys2Proof.Machine

open Reg

variable {s t : State}

/-! ### Events of the monitors (R494) -/

theorem State.healthEvt_frame (s : State) (f : RegField) : Frame [f.reg, ALARM_FAULT_SW] [] s (s.healthEvt f) := by
  unfold State.healthEvt
  split
  · exact Frame.refl _ _ s
  · exact (Frame.refl _ _ s).step (Frame.raise s f) |>.step (State.policyBits_frame _ _)

theorem State.flag_healthEvt (s : State) (f : RegField) (hf : f.lo = f.hi) (h32 : f.hi < 32) (hr : f.reg ≠ ALARM_FAULT_SW) :
    (s.healthEvt f).flag f = true := by
  unfold State.healthEvt
  split
  · assumption
  · rw [State.flag, (State.policyBits_frame _ _).rf (by simpa using hr)]
    exact State.flag_raise_self s f hf h32

/-! ### The masks of regions -/

theorem testBit_regionMask {r c : Nat} (hr : r < 4) (hc : c < 32) : (regionMask r).testBit c = (c / 4 == r) := by
  have h : ∀ r : Fin 4, ∀ c : Fin 32, (regionMask r.val).testBit c.val = (c.val / 4 == r.val) := by decide
  exact h ⟨r, hr⟩ ⟨c, hc⟩

theorem bitAt_regionMask {r c : Nat} (hr : r < 4) (hc : c < 32) : bitAt (BitVec.ofNat 32 (regionMask r)) c = (c / 4 == r) := by
  rw [bitAt_ofNat _ hc, testBit_regionMask hr hc]

/-- The clusters of a region. -/
def regionClusters (r : Nat) : List Nat := (List.range 4).map fun j => 4 * r + j

theorem mem_regionClusters {r c : Nat} : c ∈ regionClusters r ↔ c / 4 = r := by
  simp only [regionClusters, List.mem_map, List.mem_range]
  constructor
  · rintro ⟨j, hj, rfl⟩; omega
  · intro h; exact ⟨c % 4, by omega, by omega⟩

theorem State.heatMask_spec (s : State) (r : Nat) : Frame [PWR_TRIM_MASK] [.power] s (s.heatMask r)
    ∧ (s.heatMask r).reg PWR_TRIM_MASK = s.reg PWR_TRIM_MASK ||| BitVec.ofNat 32 (regionMask r) :=
  ⟨(Frame.refl _ _ s).step (Frame.setReg s _ _) |>.step (Frame.power _ _), State.reg_setReg_self _ _ _⟩

/-! ### A region gated (R495) -/

/-- The events of a region gated. -/
def State.tripShown (s : State) : State := (s.healthEvt HEALTH_EVT_CD_TRIP).raise PWR_EVT_THERM

theorem State.tripShown_spec (s : State) : Frame [HEALTH_EVT, ALARM_FAULT_SW, PWR_EVT] [] s s.tripShown
    ∧ s.tripShown.flag HEALTH_EVT_CD_TRIP = true ∧ s.tripShown.flag PWR_EVT_THERM = true := by
  refine ⟨(Frame.refl _ _ s).step (s.healthEvt_frame HEALTH_EVT_CD_TRIP) |>.step (Frame.raise _ PWR_EVT_THERM), ?_, State.flag_raise_self _ PWR_EVT_THERM rfl (by decide)⟩
  rw [State.flag, State.tripShown, State.rf_raise_ne _ (by decide) (by decide) (by decide)]
  exact s.flag_healthEvt _ rfl (by decide) (by decide)

/-- The clusters of a region gated, one after another. -/
def State.regionGated (s : State) (r : Nat) : State := (regionClusters r).foldl (fun s c => s.gateCluster c) s

theorem State.regionGated_eq (s : State) (r : Nat) :
    (List.range 4).foldl (fun (s : State) j => s.gateCluster (4 * r + j)) s = s.regionGated r := by
  rw [State.regionGated, regionClusters, List.foldl_map]

theorem execCdTrip_eq {i : Fin 16} {x : Nat} (hon : s.sensorOn i.val = true)
    (hfind : s.power.hotAt.find? (fun e => e.1 == i.val) = some (i.val, x)) :
    exec (.cdTrip i) s = .next (((s.moveTo (x + ms1)).heatMask (i.val / 4)).regionGated (i.val / 4)).tripShown := by
  have hexec : exec (.cdTrip i) s = execCdTrip i s := rfl
  rw [hexec]
  unfold execCdTrip
  rw [hfind]
  dsimp only
  rw [if_pos hon, State.regionGated_eq]
  rfl

theorem cdTrip_gates {i : Fin 16} {x : Nat} (hon : s.sensorOn i.val = true)
    (hfind : s.power.hotAt.find? (fun e => e.1 == i.val) = some (i.val, x)) :
    let r := i.val / 4
    Does (.cdTrip i) s ([PWR_TRIM_MASK, PWR_STAT, PWR_EVT, HEALTH_EVT, ALARM_FAULT_SW]
        ++ regFile CL_STAT 16 ++ (List.range 4).flatMap fun j => portRegs (6 + 4 * r + j))
      [.now, .power, .compute, .mem, .ecc] fun t =>
      t.now = max s.now (x + ms1) ∧ t.flag HEALTH_EVT_CD_TRIP = true ∧ t.flag PWR_EVT_THERM = true
      ∧ (∀ c, c < 16 → t.bit PWR_TRIM_MASK c = (s.bit PWR_TRIM_MASK c || c / 4 == r))
      ∧ (∀ c, c < 16 → c / 4 = r → t.bit PWR_STAT c = false
          ∧ t.clState c = if s.clState c = clIsolated then clIsolated else clOff)
      ∧ (∀ k, k / 32 = r → (t.stake k).run = .held ∧ (t.stake k).arch = Arch.reset)
      ∧ (∀ k, k / 32 ≠ r → t.stake k = s.stake k) ∧ ∀ c, c < 16 → c / 4 ≠ r → t.clState c = s.clState c := by
  intro r
  have hr : r < 4 := by have := i.isLt; omega
  have hlt : ∀ c ∈ regionClusters r, c < 16 := fun c hc => by rw [mem_regionClusters] at hc; omega
  have hmoved := Frame.moveTo s (x + ms1)
  have hnow : (s.moveTo (x + ms1)).now = max s.now (x + ms1) := rfl
  obtain ⟨hmask, hmaskReg⟩ := (s.moveTo (x + ms1)).heatMask_spec r
  have hexec := execCdTrip_eq hon hfind
  generalize s.moveTo (x + ms1) = m at *
  have hheld : Frame [PWR_TRIM_MASK] [.now, .power] s (m.heatMask r) := (hmoved.mono (by simp) (by simp)).step hmask
  generalize m.heatMask r = h at *
  have hgated : Gated (regionClusters r) h (h.regionGated r) := h.gateAll_spec hlt
  generalize h.regionGated r = g at *
  obtain ⟨hshown, htrip, htherm⟩ := g.tripShown_spec
  generalize g.tripShown = t at *
  have hout {a : Nat} (h1 : a ≠ PWR_STAT) (h2 : a < 0x1000000) (h3 : a < 0x30000 ∨ 0x60000 ≤ a) : g.reg a = h.reg a :=
    hgated.frame.1 a (notMem_gateRegs hlt h1 h2 h3)
  refine ⟨t, hexec, ?_, ?_, htrip, htherm, fun c hc => ?_, fun c hc hcr => ⟨?_, ?_⟩, fun k hk => ?_, fun k hk => ?_, fun c hc hcr => ?_⟩
  · refine (hheld.mono (by simp) (by simp)).step hgated.frame (fun a ha => ?_) (by simp) |>.step hshown
    rcases mem_gateRegs.mp ha with h | ⟨c, hc, h⟩ | ⟨c, hc, h⟩
    · simp [h]
    · exact List.mem_append_left _ (List.mem_append_right _ (List.mem_map.mpr ⟨c, List.mem_range.mpr hc, h⟩))
    · obtain ⟨j, hj, rfl⟩ := List.mem_map.mp hc
      exact List.mem_append_right _ (List.mem_flatMap.mpr ⟨j, hj, by rwa [Nat.add_assoc]⟩)
  · rw [hshown.2 .now (by simp), hgated.frame.2 .now (by simp), hmask.2 .now (by simp), hnow]
  · rw [State.bit, hshown.1 _ (by simp), hout (by decide) (by decide) (by decide), hmaskReg, bitAt_or, bitAt_regionMask hr (by omega),
      hmoved.1 _ (by simp), State.bit]
  · rw [State.bit, hshown.1 _ (by simp), ← State.bit, hgated.bits c (by omega)]
    simp [mem_regionClusters, hcr]
  · rw [← State.clState_congr (hheld.clStat c), ← hgated.off c (mem_regionClusters.mpr hcr)]
    exact State.clState_congr (hshown.clStat c)
  · rw [hshown.stake]
    exact hgated.reset k (mem_regionClusters.mpr (by omega))
  · rw [hshown.stake, hgated.others k (fun hm => hk (by rw [mem_regionClusters] at hm; omega)), hheld.stake]
  · rw [← State.clState_congr (hheld.clStat c), ← State.clState_congr (hgated.clStat c hc (mt mem_regionClusters.mp hcr))]
    exact State.clState_congr (hshown.clStat c)

/-! ### A region ungated, and the Watch of policy 2 left (R495, R496) -/

theorem execThermalUngate_cooled {r : Fin 4} {x : Nat} (hhot : s.power.hubHot = some r.val) (hcool : s.power.hubCool = some x) :
    exec (.thermalUngate r) s = .next (s.moveTo (x + 60 * sec1)).hubCooled := by
  have hexec : exec (.thermalUngate r) s = execThermalUngate r s := rfl
  rw [hexec]
  unfold execThermalUngate
  rw [if_pos hhot, hcool]

/-- The Watch that thermal policy 2 asked for forgotten. -/
def State.watchForgotten (s : State) : State := s.updPower fun p => { p with hubHot := none, hubCool := none }

/-- The state that the Warden leaves that Watch for. -/
def State.cooledTarget (s : State) : Nat := if s.reg PWR_TRIM_MASK = 0#32 then pRun else pTrim

theorem State.hubCooled_eq (s : State) : s.hubCooled = s.watchForgotten.wardenGo s.cooledTarget := rfl

theorem State.watchForgotten_spec (s : State) : Frame [] [.power] s s.watchForgotten
    ∧ s.watchForgotten.power = { s.power with hubHot := none, hubCool := none } := ⟨Frame.power s _, rfl⟩

theorem State.cooledTarget_le (s : State) : s.cooledTarget ≤ pTrim := by
  unfold State.cooledTarget
  split <;> decide

/-- A request of the Warden in Watch for Run or Trim (R480, R496). -/
theorem State.wardenGo_wake {target : Nat} (hbusy : s.flag PWR_STAT_BUSY = false) (hretry : s.power.retry = none)
    (hwatch : s.pstate = pWatch) (ht : target ≤ pTrim) :
    s.wardenGo target = { ((s.sf PWR_CTL_TARGET target).wakeTo target).ok 0#32 with bus := s.bus } := by
  have hset : Frame [PWR_CTL] [] s (s.sf PWR_CTL_TARGET target) := Frame.sf s PWR_CTL_TARGET target
  have hword : ∀ target ≤ pTrim, bitAt (BitVec.ofNat 32 (2 * target + 1)) 0 = true
      ∧ bitsOf (BitVec.ofNat 32 (2 * target + 1)) 2 1 = target := by decide
  obtain ⟨hgo, hto⟩ := hword target ht
  have hwrite := State.pwrCtlWrite_go (a := 1) (by decide) hbusy hretry hgo hto
  rw [State.pwrGo_wake ((congrArg Power.retry (hset.2 .power (by simp))).trans hretry) ((hset.rf (by simp)).trans hwatch) ht] at hwrite
  rw [State.wardenGo, hbusy, if_neg (by simp), hwrite]

theorem thermalUngate_watch {r : Fin 4} {x : Nat} (hhot : s.power.hubHot = some r.val) (hcool : s.power.hubCool = some x) :
    (s.flag PWR_STAT_BUSY = true → Does (.thermalUngate r) s [] [.now, .power] fun t =>
      t.now = max s.now (x + 60 * sec1) ∧ t.power = { s.power with hubHot := none, hubCool := none })
    ∧ (s.flag PWR_STAT_BUSY = false → s.pstate = pWatch → s.power.retry = none →
      ∃ t, exec (.thermalUngate r) s = .next t ∧ t.now = max s.now (x + 60 * sec1) ∧ t.power.hubHot = none
        ∧ t.pstate = (if s.reg PWR_TRIM_MASK = 0#32 then pRun else pTrim) ∧ t.flag PWR_EVT_WAKE = true) := by
  have hexec := execThermalUngate_cooled hhot hcool
  have hmoved := Frame.moveTo s (x + 60 * sec1)
  have hnow : (s.moveTo (x + 60 * sec1)).now = max s.now (x + 60 * sec1) := rfl
  rw [State.hubCooled_eq] at hexec
  generalize s.moveTo (x + 60 * sec1) = m at *
  have htarget : m.cooledTarget = if s.reg PWR_TRIM_MASK = 0#32 then pRun else pTrim := by
    rw [State.cooledTarget, hmoved.1 _ (by simp)]
  have hle := m.cooledTarget_le
  obtain ⟨hforgot, hpower⟩ := m.watchForgotten_spec
  generalize m.cooledTarget = target at *
  generalize m.watchForgotten = f at *
  rw [hmoved.2 .power (by simp)] at hpower
  have hkept : Frame [] [.now, .power] s f := (hmoved.mono (by simp) (by simp)).step hforgot
  have hflag : f.flag PWR_STAT_BUSY = s.flag PWR_STAT_BUSY := by rw [State.flag, State.flag, hkept.rf (by simp)]
  refine ⟨fun hbusy => ⟨f, ?_, hkept, (hforgot.2 .now (by simp)).trans hnow, hpower⟩, fun hbusy hwatch hretry => ?_⟩
  · rw [hexec, State.wardenGo, hflag, if_pos hbusy]
  · rw [State.wardenGo_wake (hflag.trans hbusy) (by rw [hpower]; exact hretry) ((hkept.rf (by simp)).trans hwatch) hle] at hexec
    have hset : Frame [PWR_CTL] [] f (f.sf PWR_CTL_TARGET target) := Frame.sf f PWR_CTL_TARGET target
    generalize f.sf PWR_CTL_TARGET target = g at *
    have hwoken := g.wakeTo_spec (target := target) (by simp only [pTrim] at hle; omega)
    generalize g.wakeTo target = w at *
    refine ⟨_, hexec, ?_, ?_, hwoken.state.trans htarget, hwoken.wake⟩
    · exact (hwoken.kept .now (by simp)).trans ((hset.2 .now (by simp)).trans ((hforgot.2 .now (by simp)).trans hnow))
    · have hhot := hwoken.hot
      rw [hset.2 .power (by simp), hpower] at hhot
      exact hhot

/-- A region's mask bits cleared, the region no longer gated. -/
def State.unmasked (s : State) (r : Nat) : State :=
  (s.updPower fun p => { p with hotRegions := p.hotRegions.filter fun x => x != r }).setReg PWR_TRIM_MASK
    (s.reg PWR_TRIM_MASK &&& ~~~BitVec.ofNat 32 (regionMask r))

theorem State.unmasked_spec (s : State) (r : Nat) : Frame [PWR_TRIM_MASK] [.power] s (s.unmasked r)
    ∧ (s.unmasked r).reg PWR_TRIM_MASK = s.reg PWR_TRIM_MASK &&& ~~~BitVec.ofNat 32 (regionMask r)
    ∧ (s.unmasked r).power.hotRegions = s.power.hotRegions.filter (fun x => x != r)
    ∧ (s.unmasked r).skClusters = s.skClusters ∧ (s.unmasked r).compute = s.compute :=
  ⟨(Frame.refl _ _ s).step (Frame.power s _) |>.step (Frame.setReg _ _ _), State.reg_setReg_self _ _ _, rfl, rfl, rfl⟩

theorem execThermalUngate_region {r : Fin 4} {x : Nat} (hcool : (s.region r.val).cool = some x)
    (hheld : s.power.hotRegions.contains r.val = true) (hnot : s.power.hubHot ≠ some r.val ∨ s.power.hubCool = none) :
    exec (.thermalUngate r) s = .next (let u := (s.moveTo (x + 60 * sec1)).unmasked r.val
      if u.full then u.ungate (u.reg PWR_TRIM_MASK) else u) := by
  have hnone : (if s.power.hubHot = some r.val then s.power.hubCool else none) = none := by
    rcases hnot with h | h
    · exact if_neg h
    · rw [h, ite_self]
  have hmask := ((s.moveTo (x + 60 * sec1)).unmasked_spec r.val).2.1
  have hexec : exec (.thermalUngate r) s = execThermalUngate r s := rfl
  rw [hexec]
  dsimp only
  rw [hmask]
  unfold execThermalUngate
  rw [hnone, hcool]
  dsimp only
  rw [if_pos hheld]
  rfl

theorem bitAt_and_not (v w : Word) {i : Nat} (h : i < 32) : bitAt (v &&& ~~~w) i = (bitAt v i && !bitAt w i) := by
  simp only [bitAt, BitVec.testBit_toNat, BitVec.getLsbD_and, BitVec.getLsbD_not, h, decide_true, Bool.true_and]

theorem thermalUngate_region {r : Fin 4} {x : Nat} (hcool : (s.region r.val).cool = some x)
    (hheld : s.power.hotRegions.contains r.val = true) (hnot : s.power.hubHot ≠ some r.val ∨ s.power.hubCool = none)
    (hfit : ∀ c ∈ s.skClusters, c < 16) : Does (.thermalUngate r) s (PWR_TRIM_MASK :: regFile CL_STAT 16) [.now, .power, .compute] fun t =>
      t.now = max s.now (x + 60 * sec1) ∧ t.power.hotRegions.contains r.val = false
      ∧ (∀ c, c < 32 → t.bit PWR_TRIM_MASK c = (s.bit PWR_TRIM_MASK c && !(c / 4 == r.val)))
      ∧ t.compute.stakes = s.compute.stakes := by
  have hexec := execThermalUngate_region hcool hheld hnot
  have hmoved := Frame.moveTo s (x + 60 * sec1)
  have hnow : (s.moveTo (x + 60 * sec1)).now = max s.now (x + 60 * sec1) := rfl
  have hclusters : (s.moveTo (x + 60 * sec1)).skClusters = s.skClusters := rfl
  generalize s.moveTo (x + 60 * sec1) = m at *
  obtain ⟨hcleared, hmask, hregions, hsame, hcompute⟩ := m.unmasked_spec r.val
  generalize m.unmasked r.val = u at *
  have hdone : Ungated u.skClusters u (if u.full then u.ungate (u.reg PWR_TRIM_MASK) else u) := by
    split
    · exact u.ungate_spec _
    · exact Ungated.refl _ u
  dsimp only at hexec
  generalize (if u.full then u.ungate (u.reg PWR_TRIM_MASK) else u) = t at *
  have hlist := clStats_subset (l := u.skClusters) (by rw [hsame, hclusters]; exact hfit)
  refine ⟨t, hexec, ?_, ?_, ?_, fun c hc => ?_, ?_⟩
  · exact (Frame.refl _ _ s).step hmoved |>.step hcleared |>.step hdone.frame fun a ha => List.mem_cons_of_mem _ (hlist a ha)
  · rw [hdone.frame.2 .now (by simp), hcleared.2 .now (by simp), hnow]
  · have hkept := hdone.power
    unfold PowerKept at hkept
    rw [hkept, hregions]
    simp
  · rw [State.bit, hdone.reg (by decide), hmask, bitAt_and_not _ _ hc, bitAt_regionMask r.isLt hc, hmoved.1 _ (by simp), State.bit]
  · rw [hdone.stakes, hcompute, hmoved.2 .compute (by simp)]

/-- Settles O53: a hot sensor gates its region's clusters, and a cooled region is ungated. That the Watch of policy 2 is left for Run
or Trim, and which TH_LO counts as cool, is log 100. -/
theorem thermalGating : Obligations.ThermalGating := by
  refine ⟨fun i x s hon hfind => cdTrip_gates hon hfind, fun i s hnone => ?_, fun r x s hhot hcool => thermalUngate_watch hhot hcool,
    fun r x s hcool hheld hnot hfit => thermalUngate_region hcool hheld hnot hfit⟩
  have hexec : exec (.cdTrip i) s = execCdTrip i s := rfl
  rw [hexec, execCdTrip, hnone]

end Sys2Proof.Machine
end

section
/-! SUPPORT. Proofs/Handshake.lean: the handshake of an entry: its start, what a participant answers, the entry and the end (R474,
R483 to R488). -/
-- The proofs of this file are elaborated one after another: side by side their threads exceed the memory of the check.
set_option Elab.async false
namespace Sys2Proof.Machine

open Reg

variable {s t u : State}

/-! ### Marks of clusters -/

/-- A cluster marked as waiting for a handshake's gate, or no longer so. -/
def State.markOne (gate : Nat) (b : Bool) (s : State) (c : Nat) : State :=
  if gate.testBit c then s.setCluster c { s.cluster c with gated := b } else s

/-- The clusters of a gate marked. -/
def State.marked (s : State) (gate : Nat) (b : Bool) : State := (List.range 16).foldl (State.markOne gate b) s

theorem State.ungateMarks_eq (s : State) (gate : Nat) : s.ungateMarks gate = s.marked gate false := rfl

theorem State.markOne_spec (s : State) (gate : Nat) (b : Bool) (n : Nat) : Frame [] [.compute] s (s.markOne gate b n)
    ∧ (s.markOne gate b n).compute.stakes = s.compute.stakes
    ∧ ∀ c, (s.markOne gate b n).cluster c = if c = n ∧ gate.testBit c = true then { s.cluster c with gated := b } else s.cluster c := by
  unfold State.markOne
  split
  · next hn =>
    refine ⟨Frame.setCluster _ _ _, (s.setCluster_parts _ _).1, fun c => ?_⟩
    by_cases hcn : c = n
    · subst hcn
      rw [State.cluster_setCluster, if_pos ⟨rfl, hn⟩]
    · rw [State.cluster_setCluster_ne _ _ hcn, if_neg (fun h => hcn h.1)]
  · next hn => exact ⟨Frame.refl _ _ s, rfl, fun c => (if_neg fun ⟨e, h⟩ => hn (e ▸ h)).symm⟩

theorem State.marked_spec (s : State) (gate : Nat) (b : Bool) : Frame [] [.compute] s (s.marked gate b)
    ∧ (s.marked gate b).compute.stakes = s.compute.stakes
    ∧ ∀ c, c < 16 → (s.marked gate b).cluster c = if gate.testBit c then { s.cluster c with gated := b } else s.cluster c := by
  have hprefix (n : Nat) : Frame [] [.compute] s ((List.range n).foldl (State.markOne gate b) s)
      ∧ ((List.range n).foldl (State.markOne gate b) s).compute.stakes = s.compute.stakes
      ∧ ∀ c, ((List.range n).foldl (State.markOne gate b) s).cluster c =
          if c < n ∧ gate.testBit c = true then { s.cluster c with gated := b } else s.cluster c := by
    induction n with
    | zero => exact ⟨Frame.refl _ _ s, rfl, fun c => (if_neg (by simp)).symm⟩
    | succ n ih =>
      obtain ⟨hframe, hstakes, hclusters⟩ := ih
      rw [List.range_succ, List.foldl_append, List.foldl_cons, List.foldl_nil]
      generalize (List.range n).foldl (State.markOne gate b) s = u at *
      obtain ⟨hone, honeStakes, honeClusters⟩ := u.markOne_spec gate b n
      refine ⟨hframe.trans hone, honeStakes.trans hstakes, fun c => ?_⟩
      rw [honeClusters, hclusters]
      by_cases hcn : c = n
      · simp [hcn]
      · have hlt : c < n + 1 ↔ c < n := by omega
        simp [hcn, hlt]
  obtain ⟨hframe, hstakes, hclusters⟩ := hprefix 16
  refine ⟨hframe, hstakes, fun c hc => (hclusters c).trans ?_⟩
  simp only [hc, true_and]

/-! ### The end of a handshake (R487, R488) -/

theorem State.stallsWake_spec (s : State) : Frame [] [.power] s s.stallsWake ∧ PowerKept s.power s.stallsWake.power := by
  unfold State.stallsWake
  exact foldl_inv (fun t => Frame [] [.power] s t ∧ PowerKept s.power t.power) _ _ _ ⟨Frame.refl _ _ s, rfl⟩ fun t x _ h =>
    ⟨h.1.trans (t.wakeDomain_frame _), h.2.trans (t.wakeDomain_power _)⟩

/-- A handshake ended, apart from what waited for it. -/
def State.handClosed (s : State) : State :=
  (((s.updPower fun p => { p with hand := none, waiting := none }).sf PWR_STAT_BUSY 0).sf PWR_STAT_ASKED 0).stallsWake

theorem State.handEnd_none (h : s.power.waiting = none) : s.handEnd = s.handClosed := by
  unfold State.handEnd
  rw [h]
  rfl

theorem State.handEnd_some {k : Nat} (h : s.power.waiting = some k) : s.handEnd = (s.handClosed.sf PWR_RECOV_BUSY 0).takeStep k := by
  unfold State.handEnd
  rw [h]
  rfl

/-- What the end of a handshake leaves. -/
structure Closed (s t : State) : Prop where
  frame : Frame [PWR_STAT] [.power] s t
  power : PowerKept { s.power with hand := none, waiting := none } t.power
  busy : t.flag PWR_STAT_BUSY = false
  fields : ∀ f : RegField, f.hi < 24 ∨ f.lo = 28 ∧ f.hi = 28 ∨ 30 ≤ f.lo → f.lo ≤ f.hi → t.rf f = s.rf f

theorem State.handClosed_spec (s : State) : Closed s s.handClosed := by
  have hupd : Frame [] [.power] s (s.updPower fun p => { p with hand := none, waiting := none }) := Frame.power s _
  have hpower : (s.updPower fun p => { p with hand := none, waiting := none }).power = { s.power with hand := none, waiting := none } := rfl
  unfold State.handClosed
  generalize s.updPower (fun p => { p with hand := none, waiting := none }) = u at *
  have hset : Frame [PWR_STAT] [] u ((u.sf PWR_STAT_BUSY 0).sf PWR_STAT_ASKED 0) :=
    (Frame.refl _ _ u).step (Frame.sf u PWR_STAT_BUSY 0) |>.step (Frame.sf _ PWR_STAT_ASKED 0)
  obtain ⟨hwake, hkept⟩ := ((u.sf PWR_STAT_BUSY 0).sf PWR_STAT_ASKED 0).stallsWake_spec
  have hrf (f : RegField) : ((u.sf PWR_STAT_BUSY 0).sf PWR_STAT_ASKED 0).stallsWake.rf f = ((u.sf PWR_STAT_BUSY 0).sf PWR_STAT_ASKED 0).rf f :=
    hwake.rf (by simp)
  refine ⟨?_, ?_, ?_, fun f hf hle => ?_⟩
  · exact (hupd.mono (by simp) (by simp)).step hset |>.step hwake
  · rw [hset.2 .power (by simp), hpower] at hkept
    exact hkept
  · rw [State.flag, hrf, State.rf_sf_ne _ _ (by decide) (by decide) (by decide), State.rf_sf_self _ _ _ (by decide) (by decide)]
    rfl
  · rw [hrf, State.rf_sf_ne _ _ (by decide) (by decide) ?_, State.rf_sf_ne _ _ (by decide) (by decide) ?_, hupd.rf (by simp)]
    all_goals
      right
      dsimp only
      omega

/-! ### A refusal (R485, R486) -/

/-- The registers of a refusal shown. -/
def State.refuseShown (s : State) (p reason k : Nat) : State :=
  (((((s.sf PWR_REFUSE_VALID 1).sf PWR_REFUSE_BLOCK p).sf PWR_REFUSE_REASON reason).sf PWR_REFUSE_COUNT k).raise PWR_EVT_REFUSED).setRegN
    PWR_BACKOFF (min 1000 (2 ^ (min k 11 - 1)))

/-- What a refused handshake goes back to after its backoff. -/
def State.retryKept (s : State) (h : Hand) : State :=
  (s.updPower fun q => { q with retry := some { h with accepted := [], asked := none, at_ := s.now, demand := [] } }).sf PWR_STAT_RETRY 1

/-- A handshake rolled back. -/
def State.rolledBack (s : State) (h : Hand) (p reason : Nat) : State :=
  ((s.refuseShown p reason (min (s.rf PWR_REFUSE_COUNT + 1) 65535)).marked h.gate false).retryKept h

theorem State.handRefuse_eq (s : State) (h : Hand) (p reason : Nat) : s.handRefuse h p reason = (s.rolledBack h p reason).handEnd := rfl

/-- What the registers of a refusal say. -/
structure Refused (p reason k : Nat) (t : State) : Prop where
  event : t.flag PWR_EVT_REFUSED = true
  valid : t.flag PWR_REFUSE_VALID = true
  block : t.rf PWR_REFUSE_BLOCK = p
  reason : t.rf PWR_REFUSE_REASON = reason
  count : t.rf PWR_REFUSE_COUNT = k
  backoff : (t.reg PWR_BACKOFF).toNat = min 1000 (2 ^ (min k 11 - 1))

theorem Refused.keep {p reason k : Nat} (h : Refused p reason k t) {R : List Nat} {P : List Piece} (hf : Frame R P t u)
    (hR : PWR_REFUSE ∉ R ∧ PWR_EVT ∉ R ∧ PWR_BACKOFF ∉ R) : Refused p reason k u := by
  obtain ⟨h1, h2, h3⟩ := hR
  have hflag (f : RegField) (hf' : f.reg ∉ R) : u.flag f = t.flag f := by rw [State.flag, State.flag, hf.rf hf']
  exact ⟨(hflag _ h2).trans h.event, (hflag _ h1).trans h.valid, (hf.rf h1).trans h.block, (hf.rf h1).trans h.reason,
    (hf.rf h1).trans h.count, by rw [hf.1 _ h3]; exact h.backoff⟩

theorem State.refuseShown_spec (s : State) {p reason k : Nat} (hp : p < 16) (hr : reason < 16) (hk : k < 65536) :
    Frame [PWR_REFUSE, PWR_EVT, PWR_BACKOFF] [] s (s.refuseShown p reason k) ∧ Refused p reason k (s.refuseShown p reason k) := by
  have hback (t : State) (f : RegField) (hf : f.reg ≠ PWR_BACKOFF) (v : Nat) : (t.setRegN PWR_BACKOFF v).rf f = t.rf f :=
    (Frame.setRegN t PWR_BACKOFF v).rf (by simpa using hf)
  have hevt (t : State) (f : RegField) (hf : f.reg ≠ PWR_EVT) : (t.raise PWR_EVT_REFUSED).rf f = t.rf f :=
    (Frame.raise t PWR_EVT_REFUSED).rf (by simpa using hf)
  unfold State.refuseShown
  refine ⟨?_, ?_, ?_, ?_, ?_, ?_, ?_⟩
  · exact (Frame.refl _ _ s).step (Frame.sf s PWR_REFUSE_VALID 1) |>.step (Frame.sf _ PWR_REFUSE_BLOCK p)
      |>.step (Frame.sf _ PWR_REFUSE_REASON reason) |>.step (Frame.sf _ PWR_REFUSE_COUNT k) |>.step (Frame.raise _ PWR_EVT_REFUSED)
      |>.step (Frame.setRegN _ _ _)
  · rw [State.flag, hback _ _ (by decide)]
    exact State.flag_raise_self _ PWR_EVT_REFUSED rfl (by decide)
  · rw [State.flag, hback _ _ (by decide), hevt _ _ (by decide), State.rf_sf_ne _ _ (by decide) (by decide) (by decide),
      State.rf_sf_ne _ _ (by decide) (by decide) (by decide), State.rf_sf_ne _ _ (by decide) (by decide) (by decide),
      State.rf_sf_self _ _ _ (by decide) (by decide)]
    rfl
  · rw [hback _ _ (by decide), hevt _ _ (by decide), State.rf_sf_ne _ _ (by decide) (by decide) (by decide),
      State.rf_sf_ne _ _ (by decide) (by decide) (by decide), State.rf_sf_self _ _ _ (by decide) (by decide)]
    exact Nat.mod_eq_of_lt hp
  · rw [hback _ _ (by decide), hevt _ _ (by decide), State.rf_sf_ne _ _ (by decide) (by decide) (by decide),
      State.rf_sf_self _ _ _ (by decide) (by decide)]
    exact Nat.mod_eq_of_lt hr
  · rw [hback _ _ (by decide), hevt _ _ (by decide), State.rf_sf_self _ _ _ (by decide) (by decide)]
    exact Nat.mod_eq_of_lt hk
  · rw [State.setRegN, State.reg_setReg_self, BitVec.toNat_ofNat]
    exact Nat.mod_eq_of_lt (by omega)

/-- What a refusal leaves, before the handshake's end. -/
structure RolledBack (h : Hand) (p reason : Nat) (s t : State) : Prop where
  frame : Frame [PWR_STAT, PWR_REFUSE, PWR_EVT, PWR_BACKOFF] [.power, .compute] s t
  shown : Refused p reason (min (s.rf PWR_REFUSE_COUNT + 1) 65535) t
  power : t.power = { s.power with retry := some { h with accepted := [], asked := none, at_ := s.now, demand := [] } }
  retry : t.flag PWR_STAT_RETRY = true
  state : t.pstate = s.pstate
  marks : ∀ c, c < 16 → h.gate.testBit c = true → (t.cluster c).gated = false
  stakes : t.compute.stakes = s.compute.stakes

theorem State.rolledBack_spec (s : State) (h : Hand) {p reason : Nat} (hp : p < 16) (hr : reason < 16) :
    RolledBack h p reason s (s.rolledBack h p reason) := by
  obtain ⟨hshown, hrefused⟩ := s.refuseShown_spec hp hr (k := min (s.rf PWR_REFUSE_COUNT + 1) 65535) (by omega)
  unfold State.rolledBack
  generalize s.refuseShown p reason (min (s.rf PWR_REFUSE_COUNT + 1) 65535) = r at *
  obtain ⟨hmarked, hstakes, hclusters⟩ := r.marked_spec h.gate false
  generalize r.marked h.gate false = m at *
  have hupd : Frame [] [.power] m (m.updPower fun q => { q with retry := some { h with accepted := [], asked := none, at_ := m.now, demand := [] } }) :=
    Frame.power m _
  have hpower : (m.updPower fun q => { q with retry := some { h with accepted := [], asked := none, at_ := m.now, demand := [] } }).power =
      { m.power with retry := some { h with accepted := [], asked := none, at_ := m.now, demand := [] } } := rfl
  unfold State.retryKept
  generalize m.updPower _ = u at *
  have hset : Frame [PWR_STAT] [] u (u.sf PWR_STAT_RETRY 1) := Frame.sf u PWR_STAT_RETRY 1
  have hlast : Frame [PWR_STAT] [.power] m (u.sf PWR_STAT_RETRY 1) := (hupd.mono (by simp) (by simp)).step hset
  refine ⟨?_, (hrefused.keep hmarked (by simp)).keep hlast (by decide), ?_, ?_, ?_, fun c hc hg => ?_, ?_⟩
  · exact (Frame.refl _ _ s).step hshown |>.step hmarked |>.step hlast
  · rw [hset.2 .power (by simp), hpower, hmarked.2 .power (by simp), hmarked.2 .now (by simp), hshown.2 .power (by simp), hshown.2 .now (by simp)]
  · rw [State.flag, State.rf_sf_self _ _ _ (by decide) (by decide)]
    rfl
  · rw [State.pstate, State.rf_sf_ne _ _ (by decide) (by decide) (by decide), hupd.rf (by simp), hmarked.rf (by simp), hshown.rf (by decide),
      ← State.pstate]
  · rw [hlast.cluster, hclusters c hc, if_pos hg]
  · rw [hlast.2 .compute (by simp), hstakes, hshown.2 .compute (by simp)]

theorem State.refusal_lt (s : State) (h : Hand) (p : Nat) : s.refusal h p < 16 := by
  unfold State.refusal
  repeat' split
  all_goals decide

/-- What a refusal that nothing waited for leaves (R485). -/
structure GaveUp (h : Hand) (p reason : Nat) (s t : State) : Prop where
  frame : Frame [PWR_STAT, PWR_REFUSE, PWR_EVT, PWR_BACKOFF] [.power, .compute] s t
  shown : Refused p reason (min (s.rf PWR_REFUSE_COUNT + 1) 65535) t
  hand : t.power.hand = none
  busy : t.flag PWR_STAT_BUSY = false
  retry : t.flag PWR_STAT_RETRY = true
  state : t.pstate = s.pstate
  marks : ∀ c, c < 16 → h.gate.testBit c = true → (t.cluster c).gated = false
  stakes : t.compute.stakes = s.compute.stakes
  target : t.power.retry.map (·.target) = some h.target

theorem State.handClosed_gaveUp (s : State) (h : Hand) {p reason : Nat} (hp : p < 16) (hr : reason < 16) :
    GaveUp h p reason s (s.rolledBack h p reason).handClosed := by
  have hrolled := s.rolledBack_spec h hp hr
  generalize s.rolledBack h p reason = r at *
  have hclosed := r.handClosed_spec
  generalize r.handClosed = t at *
  have hpower := hclosed.power
  unfold PowerKept at hpower
  refine ⟨hrolled.frame.step hclosed.frame, hrolled.shown.keep hclosed.frame (by decide), by rw [hpower], hclosed.busy, ?_, ?_,
    fun c hc hg => ?_, ?_, ?_⟩
  · rw [State.flag, hclosed.fields _ (.inr (.inl (by decide))) (by decide), ← State.flag]
    exact hrolled.retry
  · exact (hclosed.fields _ (.inr (.inr (by decide))) (by decide)).trans hrolled.state
  · rw [hclosed.frame.cluster]
    exact hrolled.marks c hc hg
  · rw [hclosed.frame.2 .compute (by simp), hrolled.stakes]
  · rw [hpower, hrolled.power]
    rfl

theorem State.handRefuse_spec (s : State) (h : Hand) {p reason : Nat} (hp : p < 16) (hr : reason < 16) (hwait : s.power.waiting = none) :
    GaveUp h p reason s (s.handRefuse h p reason) := by
  rw [State.handRefuse_eq, State.handEnd_none (by rw [(s.rolledBack_spec h hp hr).power]; exact hwait)]
  exact s.handClosed_gaveUp h hp hr

/-! ### The next participant asked (R483, R484) -/

/-- A participant asked. -/
def State.askedNext (s : State) (h : Hand) (p : Nat) : State :=
  (s.updPower fun q => { q with hand := some { h with asked := some p, at_ := s.now } }).sf PWR_STAT_ASKED p

theorem State.handAsk_some {h : Hand} {p : Nat} (hp : (participants h.target h.prior).find? (fun x => !h.accepted.contains x) = some p) :
    s.handAsk h = s.askedNext h p := by
  unfold State.handAsk
  rw [hp]
  rfl

theorem State.handAsk_none {h : Hand} (hp : (participants h.target h.prior).find? (fun x => !h.accepted.contains x) = none) :
    s.handAsk h = s.handEnter h := by
  unfold State.handAsk
  rw [hp]

/-- What asking a participant leaves. -/
structure Asked (h : Hand) (p : Nat) (s t : State) : Prop where
  frame : Frame [PWR_STAT] [.power] s t
  power : t.power = { s.power with hand := some { h with asked := some p, at_ := s.now } }
  asked : t.rf PWR_STAT_ASKED = p % 16
  fields : ∀ f : RegField, f.hi < 24 ∨ 28 ≤ f.lo → t.rf f = s.rf f

theorem State.askedNext_spec (s : State) (h : Hand) (p : Nat) : Asked h p s (s.askedNext h p) := by
  have hupd : Frame [] [.power] s (s.updPower fun q => { q with hand := some { h with asked := some p, at_ := s.now } }) := Frame.power s _
  have hpower : (s.updPower fun q => { q with hand := some { h with asked := some p, at_ := s.now } }).power =
    { s.power with hand := some { h with asked := some p, at_ := s.now } } := rfl
  unfold State.askedNext
  generalize s.updPower _ = u at *
  have hset : Frame [PWR_STAT] [] u (u.sf PWR_STAT_ASKED p) := Frame.sf u PWR_STAT_ASKED p
  refine ⟨(hupd.mono (by simp) (by simp)).step hset, (hset.2 .power (by simp)).trans hpower, ?_, fun f hf => ?_⟩
  · rw [State.rf_sf_self _ _ _ (by decide) (by decide)]
    rfl
  · rw [State.rf_sf_ne _ _ (by decide) (by decide), hupd.rf (by simp)]
    right
    dsimp only
    omega

/-! ### The entry (R474, R487) -/

/-- The clusters and dies brought to the state that an entry asks for. -/
def State.diesMoved (s : State) (h : Hand) : State :=
  if h.target = pTrim then
    ((List.range 16).foldl (fun (s : State) c => if h.gate.testBit c then s.gateCluster c else s) s).ungate (s.reg PWR_TRIM_MASK)
  else if h.target = pRun then s.ungate 0#32
  else s.diesOff

/-- The backoff forgotten. -/
def State.backoffCleared (s : State) : State := (s.setRegN PWR_BACKOFF 0).sf PWR_REFUSE_COUNT 0

/-- The state entered shown. -/
def State.enteredShown (s : State) (target : Nat) : State :=
  ((s.sf PWR_STAT_STATE target).raise PWR_EVT_ENTERED).updPower fun p => { p with waiting := s.power.waiting }

theorem State.handEnter_eq (s : State) {h : Hand} (ht : h.target ≠ pRim) :
    s.handEnter h = ((s.backoffCleared.diesMoved h).enteredShown h.target).handEnd := by
  unfold State.handEnter
  extract_lets a mask b link w c d e
  have hb : b = s.backoffCleared.diesMoved h := rfl
  have hc : c = b := if_neg ht
  have he : e = d := if_neg fun hrim => ht hrim.1
  have hd : d = (b.sf PWR_STAT_STATE h.target).raise PWR_EVT_ENTERED := by rw [← hc]
  rw [he, hd, ← hb]
  rfl

theorem State.backoffCleared_spec (s : State) : Frame [PWR_BACKOFF, PWR_REFUSE] [] s s.backoffCleared :=
  (Frame.refl _ _ s).step (Frame.setRegN s PWR_BACKOFF 0) |>.step (Frame.sf _ PWR_REFUSE_COUNT 0)

/-- What bringing the clusters and dies to a state leaves. -/
structure Moved (R : List Nat) (s t : State) : Prop where
  frame : Frame R [.compute, .mem, .ecc, .power] s t
  power : PowerKept s.power t.power

theorem Moved.refl (R : List Nat) (s : State) : Moved R s s := ⟨Frame.refl _ _ s, rfl⟩

theorem Moved.trans {R : List Nat} (h : Moved R s t) (g : Moved R t u) : Moved R s u := ⟨h.frame.trans g.frame, h.power.trans g.power⟩

theorem Moved.mono {R r : List Nat} (h : Moved r s t) (hr : ∀ a ∈ r, a ∈ R) : Moved R s t := ⟨h.frame.mono hr (fun _ h => h), h.power⟩

theorem Ungated.moved {l : List Nat} (h : Ungated l s t) (hl : ∀ c ∈ l, c < 16) : Moved (regFile CL_STAT 16) s t :=
  ⟨h.frame.mono (clStats_subset hl) (by simp), h.power⟩

/-- Registers that an entry's moves may change. -/
def moveRegs : List Nat := PWR_STAT :: (regFile CL_STAT 16 ++ (List.range 32).flatMap portRegs)

theorem portRegs_moveRegs {p : Nat} (hp : p < 32) : ∀ a ∈ portRegs p, a ∈ moveRegs := fun _ ha =>
  List.mem_cons_of_mem _ (List.mem_append_right _ (List.mem_flatMap.mpr ⟨p, List.mem_range.mpr hp, ha⟩))

theorem clStats_moveRegs : ∀ a ∈ regFile CL_STAT 16, a ∈ moveRegs := fun _ ha => List.mem_cons_of_mem _ (List.mem_append_left _ ha)

theorem Gated.moved {l : List Nat} (h : Gated l s t) (hl : ∀ c ∈ l, c < 16) : Moved moveRegs s t := by
  refine ⟨h.frame.mono (fun a ha => ?_) (by simp), h.power⟩
  rcases mem_gateRegs.mp ha with rfl | ⟨c, hc, rfl⟩ | ⟨c, hc, ha⟩
  · exact List.mem_cons_self
  · exact clStats_moveRegs _ (List.mem_map.mpr ⟨c, List.mem_range.mpr hc, rfl⟩)
  · exact portRegs_moveRegs (by have := hl c hc; omega) _ ha

theorem State.portReset_power (s : State) {p : Nat} (hp : p < 35) : PowerKept s.power (s.portReset p).power := by
  rw [(s.portReset_spec hp).2.2.2.1]
  rfl

/-- The compute dies' DMA ports reset. -/
def State.dmaReset (s : State) : State := (List.range 4).foldl (fun (s : State) r => s.portReset (22 + r)) s

/-- No domain is demanded, and the dies read off. -/
def State.diesShownOff (s : State) : State :=
  ((((s.updPower fun p => { p with waking := [], demand := [] }).sf PWR_STAT_CD0 0).sf PWR_STAT_CD1 0).sf PWR_STAT_DDR_SR 1).sf PWR_STAT_DEMAND 0

theorem State.diesOff_eq (s : State) : s.diesOff = ((List.range 16).foldl (fun s c => s.gateCluster c) s).dmaReset.diesShownOff := rfl

theorem State.dmaReset_spec (s : State) : Moved moveRegs s s.dmaReset ∧ ∀ k, s.dmaReset.stake k = s.stake k := by
  unfold State.dmaReset
  refine foldl_inv (fun t => Moved moveRegs s t ∧ ∀ k, t.stake k = s.stake k) _ _ _ ⟨Moved.refl _ s, fun _ => rfl⟩ fun t r hr h => ?_
  have hr : r < 4 := List.mem_range.mp hr
  have hport := (t.portReset_spec (p := 22 + r) (by omega)).1
  exact ⟨h.1.trans ⟨hport.mono (portRegs_moveRegs (by omega)) (by simp), t.portReset_power (by omega)⟩,
    fun k => (hport.stake k).trans (h.2 k)⟩

theorem State.diesShownOff_spec (s : State) : Frame [PWR_STAT] [.power] s s.diesShownOff ∧ PowerKept s.power s.diesShownOff.power
    ∧ s.diesShownOff.flag PWR_STAT_CD0 = false ∧ s.diesShownOff.flag PWR_STAT_CD1 = false ∧ s.diesShownOff.flag PWR_STAT_DDR_SR = true := by
  have hupd : Frame [] [.power] s (s.updPower fun p => { p with waking := [], demand := [] }) := Frame.power s _
  have hpower : PowerKept s.power (s.updPower fun p => { p with waking := [], demand := [] }).power := rfl
  unfold State.diesShownOff
  generalize s.updPower _ = u at *
  have hset : Frame [PWR_STAT] [] u ((((u.sf PWR_STAT_CD0 0).sf PWR_STAT_CD1 0).sf PWR_STAT_DDR_SR 1).sf PWR_STAT_DEMAND 0) :=
    (Frame.refl _ _ u).step (Frame.sf u PWR_STAT_CD0 0) |>.step (Frame.sf _ PWR_STAT_CD1 0) |>.step (Frame.sf _ PWR_STAT_DDR_SR 1)
      |>.step (Frame.sf _ PWR_STAT_DEMAND 0)
  refine ⟨(hupd.mono (by simp) (by simp)).step hset, ?_, ?_, ?_, ?_⟩
  · rw [hset.2 .power (by simp)]; exact hpower
  · rw [State.flag, State.rf_sf_ne _ _ (by decide) (by decide) (by decide), State.rf_sf_ne _ _ (by decide) (by decide) (by decide),
      State.rf_sf_ne _ _ (by decide) (by decide) (by decide), State.rf_sf_self _ _ _ (by decide) (by decide)]
    rfl
  · rw [State.flag, State.rf_sf_ne _ _ (by decide) (by decide) (by decide), State.rf_sf_ne _ _ (by decide) (by decide) (by decide),
      State.rf_sf_self _ _ _ (by decide) (by decide)]
    rfl
  · rw [State.flag, State.rf_sf_ne _ _ (by decide) (by decide) (by decide), State.rf_sf_self _ _ _ (by decide) (by decide)]
    rfl

/-- Both compute dies off (R474). -/
theorem State.diesOff_spec (s : State) : Moved moveRegs s s.diesOff ∧ s.diesOff.flag PWR_STAT_CD0 = false
    ∧ s.diesOff.flag PWR_STAT_CD1 = false ∧ s.diesOff.flag PWR_STAT_DDR_SR = true ∧ ∀ k, k < 128 → (s.diesOff.stake k).run = .held := by
  have hall : ∀ c ∈ List.range 16, c < 16 := fun c hc => List.mem_range.mp hc
  have hgated := s.gateAll_spec hall
  rw [State.diesOff_eq]
  generalize (List.range 16).foldl (fun s c => s.gateCluster c) s = g at *
  obtain ⟨hdma, hstakes⟩ := g.dmaReset_spec
  generalize g.dmaReset = d at *
  obtain ⟨hshown, hpower, h0, h1, hddr⟩ := d.diesShownOff_spec
  refine ⟨((hgated.moved hall).trans hdma).trans ⟨hshown.mono (by simp [moveRegs]) (by simp), hpower⟩, h0, h1, hddr, fun k hk => ?_⟩
  rw [hshown.stake, hstakes]
  exact (hgated.reset k (List.mem_range.mpr (by omega))).1

theorem State.gateSome_moved (s : State) (gate : Nat) :
    Moved moveRegs s ((List.range 16).foldl (fun (s : State) c => if gate.testBit c then s.gateCluster c else s) s) := by
  refine foldl_inv (Moved moveRegs s) _ _ _ (Moved.refl _ s) fun t c hc h => ?_
  have hc : c < 16 := List.mem_range.mp hc
  split
  · exact h.trans ((t.gateCluster_spec hc).moved (by simpa using hc))
  · exact h

theorem State.skClusters_congr (h : t.trust = s.trust) : t.skClusters = s.skClusters := by
  unfold State.skClusters State.skeinOf
  rw [h]

/-- The entry's moves, whichever of the states it is to. -/
theorem State.diesMoved_moved (s : State) (h : Hand) (hfit : ∀ c ∈ s.skClusters, c < 16) : Moved moveRegs s (s.diesMoved h) := by
  unfold State.diesMoved
  split
  · have hgated := s.gateSome_moved h.gate
    generalize (List.range 16).foldl (fun (s : State) c => if h.gate.testBit c then s.gateCluster c else s) s = g at *
    have hlist : ∀ c ∈ g.skClusters, c < 16 := by rw [State.skClusters_congr (hgated.frame.2 .trust (by simp))]; exact hfit
    exact hgated.trans (((g.ungate_spec _).moved hlist).mono clStats_moveRegs)
  · split
    · exact ((s.ungate_spec _).moved hfit).mono clStats_moveRegs
    · exact s.diesOff_spec.1

/-- An entry completed, of a handshake that nothing waited for. -/
theorem State.handEnter_closed (s : State) {h : Hand} (ht : h.target ≠ pRim) (hwait : (s.backoffCleared.diesMoved h).power.waiting = none) :
    s.handEnter h = ((s.backoffCleared.diesMoved h).enteredShown h.target).handClosed := by
  rw [State.handEnter_eq _ ht]
  exact State.handEnd_none hwait

/-- What showing a state entered leaves. -/
structure Shown (target : Nat) (s t : State) : Prop where
  frame : Frame [PWR_STAT, PWR_EVT] [.power] s t
  power : t.power = s.power
  state : t.pstate = target
  event : t.flag PWR_EVT_ENTERED = true
  fields : ∀ f : RegField, f.reg = PWR_STAT → f.hi < 30 → t.rf f = s.rf f

theorem State.enteredShown_spec (s : State) {target : Nat} (ht : target < 4) : Shown target s (s.enteredShown target) := by
  have hset : Frame [PWR_STAT, PWR_EVT] [] s ((s.sf PWR_STAT_STATE target).raise PWR_EVT_ENTERED) :=
    (Frame.refl _ _ s).step (Frame.sf s PWR_STAT_STATE target) |>.step (Frame.raise _ PWR_EVT_ENTERED)
  have hstate : ((s.sf PWR_STAT_STATE target).raise PWR_EVT_ENTERED).pstate = target := by
    rw [State.pstate, (Frame.raise _ PWR_EVT_ENTERED).rf (by decide), State.rf_sf_self _ _ _ (by decide) (by decide)]
    exact Nat.mod_eq_of_lt ht
  have hevt : ((s.sf PWR_STAT_STATE target).raise PWR_EVT_ENTERED).flag PWR_EVT_ENTERED = true :=
    State.flag_raise_self _ PWR_EVT_ENTERED rfl (by decide)
  have hfields (f : RegField) (hf : f.reg = PWR_STAT) (hi : f.hi < 30) : ((s.sf PWR_STAT_STATE target).raise PWR_EVT_ENTERED).rf f = s.rf f := by
    rw [(Frame.raise _ PWR_EVT_ENTERED).rf (by rw [hf]; decide), State.rf_sf_ne _ _ (by decide) (by decide)]
    exact .inr (.inl hi)
  unfold State.enteredShown
  generalize (s.sf PWR_STAT_STATE target).raise PWR_EVT_ENTERED = u at *
  have hupd : Frame [] [.power] u (u.updPower fun p => { p with waiting := s.power.waiting }) := Frame.power u _
  have hpower : (u.updPower fun p => { p with waiting := s.power.waiting }).power = { u.power with waiting := s.power.waiting } := rfl
  generalize u.updPower _ = t at *
  have hflag : t.flag PWR_EVT_ENTERED = u.flag PWR_EVT_ENTERED := by rw [State.flag, State.flag, hupd.rf (by simp)]
  exact ⟨(hset.mono (fun _ h => h) (by simp)).step hupd, by rw [hpower, hset.2 .power (by simp)], (hupd.rf (by simp)).trans hstate, hflag.trans hevt,
    fun f hf hi => (hupd.rf (by simp)).trans (hfields f hf hi)⟩

/-- What an entry leaves (R487), whose moves changed the registers and pieces given. -/
structure EnteredState (h : Hand) (R : List Nat) (P : List Piece) (s t : State) : Prop where
  frame : Frame ([PWR_STAT, PWR_EVT, PWR_BACKOFF, PWR_REFUSE] ++ R) (.power :: P) s t
  state : t.pstate = h.target
  hand : t.power.hand = none
  event : t.flag PWR_EVT_ENTERED = true
  busy : t.flag PWR_STAT_BUSY = false
  stakes : t.compute = (s.backoffCleared.diesMoved h).compute
  fields : ∀ f : RegField, f.reg = PWR_STAT → f.lo ≤ f.hi → f.hi < 24 → t.rf f = (s.backoffCleared.diesMoved h).rf f

theorem State.handEnter_spec (s : State) {h : Hand} {R : List Nat} {P : List Piece} (ht : h.target ≤ pWatch) (hwait : s.power.waiting = none)
    (hmoved : Frame R P s.backoffCleared (s.backoffCleared.diesMoved h))
    (hpower : PowerKept s.backoffCleared.power (s.backoffCleared.diesMoved h).power) :
    EnteredState h R P s (s.handEnter h) := by
  have hclear := s.backoffCleared_spec
  unfold PowerKept at hpower
  rw [hclear.2 .power (by simp)] at hpower
  have hclosedEq := State.handEnter_closed s (h := h) (by simp only [pWatch, pRim] at *; omega) (by rw [hpower]; exact hwait)
  rw [hclosedEq]
  generalize hb : s.backoffCleared = b at *
  generalize hm : b.diesMoved h = m at *
  have hshown := m.enteredShown_spec (target := h.target) (by simp only [pWatch] at ht; omega)
  generalize m.enteredShown h.target = e at *
  have hclosed := e.handClosed_spec
  generalize e.handClosed = t at *
  have hkept := hclosed.power
  unfold PowerKept at hkept
  refine ⟨?_, ?_, by rw [hkept], ?_, hclosed.busy, ?_, fun f hf hle hi => ?_⟩
  · exact (hclear.mono (by simp) (by simp)).step hmoved (fun _ h => List.mem_append_right _ h) (fun _ h => List.mem_cons_of_mem _ h)
      |>.step hshown.frame (by simp) |>.step hclosed.frame (by simp)
  · exact (hclosed.fields _ (.inr (.inr (by decide))) (by decide)).trans hshown.state
  · rw [State.flag, hclosed.frame.rf (by decide), ← State.flag]; exact hshown.event
  · rw [hclosed.frame.2 .compute (by simp), hshown.frame.2 .compute (by simp), hb, hm]
  · rw [hb, hm]; exact (hclosed.fields f (.inl hi) hle).trans (hshown.fields f hf (by omega))

theorem State.handEnter_moved (s : State) {h : Hand} (ht : h.target ≤ pWatch) (hwait : s.power.waiting = none)
    (hfit : ∀ c ∈ s.skClusters, c < 16) : EnteredState h moveRegs [.compute, .mem, .ecc, .power] s (s.handEnter h) := by
  have hfit' : ∀ c ∈ s.backoffCleared.skClusters, c < 16 := by
    rw [State.skClusters_congr (s.backoffCleared_spec.2 .trust (by simp))]
    exact hfit
  have hmoved := s.backoffCleared.diesMoved_moved h hfit'
  exact s.handEnter_spec ht hwait hmoved.frame hmoved.power

/-- An entry to Run, for which clusters are only brought up. -/
theorem State.handEnter_run (s : State) {h : Hand} (ht : h.target = pRun) (hwait : s.power.waiting = none)
    (hfit : ∀ c ∈ s.skClusters, c < 16) : EnteredState h (regFile CL_STAT 16) [.compute, .power] s (s.handEnter h)
      ∧ (s.handEnter h).compute.stakes = s.compute.stakes := by
  have hclear := s.backoffCleared_spec
  have hfit' : ∀ c ∈ s.backoffCleared.skClusters, c < 16 := by
    rw [State.skClusters_congr (hclear.2 .trust (by simp))]
    exact hfit
  have hungate := s.backoffCleared.ungate_spec 0#32
  have hmoves : s.backoffCleared.diesMoved h = s.backoffCleared.ungate 0#32 := by
    unfold State.diesMoved
    rw [if_neg (by rw [ht]; decide), if_pos ht]
  rw [← hmoves] at hungate
  have hentered := s.handEnter_spec (by rw [ht]; decide) hwait (hungate.frame.mono (clStats_subset hfit') (fun _ h => h)) hungate.power
  exact ⟨hentered, by rw [hentered.stakes, hungate.stakes, hclear.2 .compute (by simp)]⟩

/-! ### A handshake started (R481, R483) -/

/-- A new handshake. -/
def State.newHand (s : State) (target : Nat) (asked : Option Nat) : Hand :=
  ⟨target, s.pstate, s.gateSet target, [], asked, s.now, [], false⟩

/-- A handshake noted. -/
def State.handBegun (s : State) (target : Nat) : State :=
  ((s.sf PWR_STAT_BUSY 1).sf PWR_STAT_RETRY 0).updPower fun p => { p with hand := some (s.newHand target none), retry := none }

/-- The participant that an entry asks first. -/
def firstAsked (target : Nat) : Nat := if target = pRim then 1 else 6

theorem participants_first {target : Nat} (h1 : pTrim ≤ target) (h2 : target ≤ pRim) (prior : Nat) :
    (participants target prior).find? (fun x => !([] : List Nat).contains x) = some (firstAsked target) := by
  simp only [pTrim, pRim] at h1 h2
  have hcases : target = pTrim ∨ target = pWatch ∨ target = pRim := by simp only [pTrim, pWatch, pRim]; omega
  rcases hcases with rfl | rfl | rfl
  · rfl
  · rfl
  · by_cases hp : prior = pWatch
    · subst hp; rfl
    · have : participants pRim prior = (List.range 14).map (· + 1) := by
        unfold participants
        rw [if_neg (by decide), if_neg (by decide), if_pos rfl, if_neg hp]
      rw [this]
      rfl

/-- What noting a handshake leaves. -/
structure Begun (target : Nat) (s t : State) : Prop where
  frame : Frame [PWR_STAT] [.power] s t
  power : t.power = { s.power with hand := some (s.newHand target none), retry := none }
  busy : t.flag PWR_STAT_BUSY = true
  retry : t.flag PWR_STAT_RETRY = false
  state : t.pstate = s.pstate

theorem State.handBegun_spec (s : State) (target : Nat) : Begun target s (s.handBegun target) := by
  have hset : Frame [PWR_STAT] [] s ((s.sf PWR_STAT_BUSY 1).sf PWR_STAT_RETRY 0) :=
    (Frame.refl _ _ s).step (Frame.sf s PWR_STAT_BUSY 1) |>.step (Frame.sf _ PWR_STAT_RETRY 0)
  have hbusy : ((s.sf PWR_STAT_BUSY 1).sf PWR_STAT_RETRY 0).flag PWR_STAT_BUSY = true := by
    rw [State.flag, State.rf_sf_ne _ _ (by decide) (by decide) (by decide), State.rf_sf_self _ _ _ (by decide) (by decide)]
    rfl
  have hretry : ((s.sf PWR_STAT_BUSY 1).sf PWR_STAT_RETRY 0).flag PWR_STAT_RETRY = false := by
    rw [State.flag, State.rf_sf_self _ _ _ (by decide) (by decide)]
    rfl
  have hstate : ((s.sf PWR_STAT_BUSY 1).sf PWR_STAT_RETRY 0).pstate = s.pstate := by
    rw [State.pstate, State.rf_sf_ne _ _ (by decide) (by decide) (by decide), State.rf_sf_ne _ _ (by decide) (by decide) (by decide), ← State.pstate]
  unfold State.handBegun
  generalize (s.sf PWR_STAT_BUSY 1).sf PWR_STAT_RETRY 0 = u at *
  have hupd : Frame [] [.power] u (u.updPower fun p => { p with hand := some (s.newHand target none), retry := none }) := Frame.power u _
  have hpower : (u.updPower fun p => { p with hand := some (s.newHand target none), retry := none }).power =
      { u.power with hand := some (s.newHand target none), retry := none } := rfl
  generalize u.updPower _ = t at *
  have hflag (f : RegField) : t.flag f = u.flag f := by rw [State.flag, State.flag, hupd.rf (by simp)]
  exact ⟨(hset.mono (fun _ h => h) (by simp)).step hupd, by rw [hpower, hset.2 .power (by simp)], (hflag _).trans hbusy, (hflag _).trans hretry,
    (hupd.rf (by simp)).trans hstate⟩

theorem State.handStart_eq (s : State) (target : Nat) : s.handStart target =
    if s.gateSet target = 0 ∨ s.alarm.xoLost = true then (s.handBegun target).handAsk (s.newHand target none)
    else (s.handBegun target).marked (s.gateSet target) true := by
  unfold State.handStart
  extract_lets g h a b
  have hb : b = s.handBegun target := rfl
  have hh : h = s.newHand target none := rfl
  have hxo : b.alarm = s.alarm := (s.handBegun_spec target).frame.2 .alarm (by simp)
  rw [← hb, hxo, hh]
  clear_value b
  rfl

/-- What the start of a handshake leaves. -/
structure HandStarted (target : Nat) (s t : State) : Prop where
  frame : Frame [PWR_STAT] [.power, .compute] s t
  power : t.power = { s.power with hand := some (s.newHand target (if s.gateSet target = 0 ∨ s.alarm.xoLost = true then
    some (firstAsked target) else none)), retry := none }
  busy : t.flag PWR_STAT_BUSY = true
  retry : t.flag PWR_STAT_RETRY = false
  state : t.pstate = s.pstate
  stakes : t.compute.stakes = s.compute.stakes
  waits : s.gateSet target ≠ 0 → s.alarm.xoLost = false → ∀ c, c < 16 →
    t.cluster c = { s.cluster c with gated := (s.cluster c).gated || (s.gateSet target).testBit c }
  asks : s.gateSet target = 0 ∨ s.alarm.xoLost = true → t.compute = s.compute ∧ t.rf PWR_STAT_ASKED = firstAsked target

theorem State.handStart_spec (s : State) {target : Nat} (h1 : pTrim ≤ target) (h2 : target ≤ pRim) :
    HandStarted target s (s.handStart target) := by
  have hbegun := s.handBegun_spec target
  have hnow : (s.handBegun target).now = s.now := hbegun.frame.2 .now (by simp)
  rw [State.handStart_eq]
  by_cases hg : s.gateSet target = 0 ∨ s.alarm.xoLost = true
  · rw [if_pos hg, State.handAsk_some (p := firstAsked target) (participants_first h1 h2 _)]
    generalize s.handBegun target = b at *
    have hasked := b.askedNext_spec (s.newHand target none) (firstAsked target)
    generalize b.askedNext (s.newHand target none) (firstAsked target) = t at *
    have hflag (f : RegField) (hf : 28 ≤ f.lo) : t.flag f = b.flag f := by rw [State.flag, State.flag, hasked.fields f (.inr hf)]
    have hfirst : firstAsked target < 16 := by unfold firstAsked; split <;> decide
    refine ⟨?_, ?_, (hflag _ (by decide)).trans hbegun.busy, (hflag _ (by decide)).trans hbegun.retry,
      (hasked.fields _ (.inr (by decide))).trans hbegun.state, ?_, fun h0 h1 => ?_, fun _ => ⟨?_, ?_⟩⟩
    · exact (hbegun.frame.mono (fun _ h => h) (by simp)).step hasked.frame
    · rw [hasked.power, hbegun.power, hnow, if_pos hg]
      rfl
    · rw [hasked.frame.2 .compute (by simp), hbegun.frame.2 .compute (by simp)]
    · exact absurd hg (by simp [h0, h1])
    · rw [hasked.frame.2 .compute (by simp), hbegun.frame.2 .compute (by simp)]
    · rw [hasked.asked, Nat.mod_eq_of_lt hfirst]
  · rw [if_neg hg]
    generalize s.handBegun target = b at *
    obtain ⟨hmarked, hstakes, hclusters⟩ := b.marked_spec (s.gateSet target) true
    generalize b.marked (s.gateSet target) true = t at *
    have hflag (f : RegField) : t.flag f = b.flag f := by rw [State.flag, State.flag, hmarked.rf (by simp)]
    refine ⟨?_, ?_, (hflag _).trans hbegun.busy, (hflag _).trans hbegun.retry, (hmarked.rf (by simp)).trans hbegun.state, ?_, fun _ _ c hc => ?_,
      fun h => absurd h hg⟩
    · exact (hbegun.frame.mono (fun _ h => h) (by simp)).step hmarked
    · rw [hmarked.2 .power (by simp), hbegun.power, if_neg hg]
    · rw [hstakes, hbegun.frame.2 .compute (by simp)]
    · rw [hclusters c hc, hbegun.frame.cluster]
      cases (s.gateSet target).testBit c with
      | false => rw [Bool.or_false, if_neg (by simp)]
      | true => rw [Bool.or_true, if_pos rfl]

end Sys2Proof.Machine
end

section
/-! SUPPORT. Proofs/HandAnswers.lean: what participants answer, and the end of a backoff (R484 to R487). -/
-- The proofs of this file are elaborated one after another: side by side their threads exceed the memory of the check.
set_option Elab.async false
namespace Sys2Proof.Machine

open Reg

variable {s t : State} {h : Hand} {p : Nat} {busy : Bool}

theorem execParticipantAnswer_eq (hh : s.power.hand = some h) (ha : h.asked = some p) :
    exec (.participantAnswer busy) s = .next (if h.at_ + 3 * us1 < s.now then s.handRefuse h p 2
      else if s.refusal h p ≠ 0 then s.handRefuse h p (s.refusal h p)
      else if busy then s.handRefuse h p 1 else s.handAsk { h with accepted := h.accepted ++ [p] }) := by
  have hexec : exec (.participantAnswer busy) s = execParticipantAnswer busy s := rfl
  rw [hexec]
  unfold execParticipantAnswer
  rw [hh]
  dsimp only
  rw [ha]
  dsimp only
  cases hr : s.refusal h p with
  | zero => rfl
  | succ r =>
    rw [if_pos (Nat.succ_ne_zero r)]
    rfl

theorem execParticipantTimeout_eq (hh : s.power.hand = some h) (ha : h.asked = some p) :
    exec .participantTimeout s = .next ((s.moveTo (h.at_ + 3 * us1)).handRefuse h p 2) := by
  have hexec : exec .participantTimeout s = execParticipantTimeout s := rfl
  rw [hexec]
  unfold execParticipantTimeout
  rw [hh]
  dsimp only
  rw [ha]

theorem participantAnswer_next {q : Nat} (hh : s.power.hand = some h) (ha : h.asked = some p) (hnow : s.now ≤ h.at_ + 3 * us1)
    (hr : s.refusal h p = 0) (hb : busy = false)
    (hq : (participants h.target h.prior).find? (fun x => !(h.accepted ++ [p]).contains x) = some q) :
    Does (.participantAnswer busy) s [PWR_STAT] [.power] fun t =>
      t.power = { s.power with hand := some { h with accepted := h.accepted ++ [p], asked := some q, at_ := s.now } }
      ∧ t.rf PWR_STAT_ASKED = q % 16 ∧ t.pstate = s.pstate := by
  have hexec := execParticipantAnswer_eq (busy := busy) hh ha
  rw [if_neg (Nat.not_lt.mpr hnow), if_neg (not_not.mpr hr), hb, if_neg (by simp), State.handAsk_some hq] at hexec
  have hasked := s.askedNext_spec { h with accepted := h.accepted ++ [p] } q
  rw [hb]
  exact ⟨_, hexec, hasked.frame, hasked.power, hasked.asked, hasked.fields _ (.inr (by decide))⟩

/-- What the claim says of a refusal, for whichever reason. -/
theorem gaveUp_claim {reason : Nat} {m : State} (hm : Frame [] [.now] s m) (hg : GaveUp h p reason m t) :
    Frame [PWR_STAT, PWR_REFUSE, PWR_EVT, PWR_BACKOFF] [.now, .power, .compute] s t
      ∧ t.pstate = s.pstate ∧ t.rf PWR_REFUSE_COUNT = min (s.rf PWR_REFUSE_COUNT + 1) 65535
      ∧ (t.reg PWR_BACKOFF).toNat = min 1000 (2 ^ (min (t.rf PWR_REFUSE_COUNT) 11 - 1)) ∧ t.compute.stakes = s.compute.stakes := by
  have hcount := hg.shown.count
  rw [hm.rf (by simp)] at hcount
  refine ⟨(hm.mono (by simp) (by simp)).step hg.frame, hg.state.trans (hm.rf (by simp)), hcount, ?_, ?_⟩
  · rw [hg.shown.backoff, hg.shown.count]
  · rw [hg.stakes, hm.2 .compute (by simp)]

theorem participant_refuses {i : Instr} (hh : s.power.hand = some h) (ha : h.asked = some p) (hp : p < 16) (hwait : s.power.waiting = none)
    (hi : i = .participantTimeout ∨ (i = .participantAnswer busy ∧ (h.at_ + 3 * us1 < s.now ∨ s.refusal h p ≠ 0 ∨ busy = true))) :
    Does i s [PWR_STAT, PWR_REFUSE, PWR_EVT, PWR_BACKOFF] [.now, .power, .compute] fun t =>
      t.power.hand = none ∧ t.flag PWR_STAT_BUSY = false ∧ t.flag PWR_STAT_RETRY = true ∧ t.pstate = s.pstate
      ∧ t.flag PWR_EVT_REFUSED = true ∧ t.flag PWR_REFUSE_VALID = true ∧ t.rf PWR_REFUSE_BLOCK = p
      ∧ t.rf PWR_REFUSE_COUNT = min (s.rf PWR_REFUSE_COUNT + 1) 65535
      ∧ (t.reg PWR_BACKOFF).toNat = min 1000 (2 ^ (min (t.rf PWR_REFUSE_COUNT) 11 - 1))
      ∧ (i = .participantTimeout → t.rf PWR_REFUSE_REASON = 2 ∧ t.now = max s.now (h.at_ + 3 * us1))
      ∧ (i ≠ .participantTimeout → s.now ≤ h.at_ + 3 * us1 → s.refusal h p ≠ 0 → t.rf PWR_REFUSE_REASON = s.refusal h p)
      ∧ (∀ c, c < 16 → h.gate.testBit c = true → (t.cluster c).gated = false) ∧ t.compute.stakes = s.compute.stakes
      ∧ (t.power.retry.map (·.target)) = some h.target := by
  rcases hi with rfl | ⟨rfl, hwhy⟩
  · have hexec := execParticipantTimeout_eq hh ha
    have hm := Frame.moveTo s (h.at_ + 3 * us1)
    have hnow : (s.moveTo (h.at_ + 3 * us1)).now = max s.now (h.at_ + 3 * us1) := rfl
    generalize s.moveTo (h.at_ + 3 * us1) = m at *
    have hg := m.handRefuse_spec h hp (reason := 2) (by decide) (by rw [hm.2 .power (by simp)]; exact hwait)
    obtain ⟨hframe, hstate, hcount, hback, hstakes⟩ := gaveUp_claim hm hg
    exact ⟨_, hexec, hframe, hg.hand, hg.busy, hg.retry, hstate, hg.shown.event, hg.shown.valid, hg.shown.block, hcount, hback,
      fun _ => ⟨hg.shown.reason, (hg.frame.2 .now (by simp)).trans hnow⟩, fun hne => absurd rfl hne, hg.marks, hstakes, hg.target⟩
  · obtain ⟨reason, hr16, hexec, hreason⟩ : ∃ reason, reason < 16 ∧ exec (.participantAnswer busy) s = .next (s.handRefuse h p reason)
        ∧ (s.now ≤ h.at_ + 3 * us1 → s.refusal h p ≠ 0 → reason = s.refusal h p) := by
      have hexec := execParticipantAnswer_eq (busy := busy) hh ha
      by_cases hlate : h.at_ + 3 * us1 < s.now
      · rw [if_pos hlate] at hexec
        exact ⟨2, by decide, hexec, fun hle => absurd hlate (Nat.not_lt.mpr hle)⟩
      · rw [if_neg hlate] at hexec
        by_cases hr : s.refusal h p ≠ 0
        · rw [if_pos hr] at hexec
          exact ⟨_, s.refusal_lt h p, hexec, fun _ _ => rfl⟩
        · have hbusy : busy = true := (hwhy.resolve_left hlate).resolve_left hr
          rw [if_neg hr, if_pos hbusy] at hexec
          exact ⟨1, by decide, hexec, fun _ hne => absurd hne hr⟩
    have hg := s.handRefuse_spec h hp hr16 hwait
    obtain ⟨hframe, hstate, hcount, hback, hstakes⟩ := gaveUp_claim (Frame.refl _ _ s) hg
    exact ⟨_, hexec, hframe, hg.hand, hg.busy, hg.retry, hstate, hg.shown.event, hg.shown.valid, hg.shown.block, hcount, hback,
      nofun, fun _ hle hne => hg.shown.reason.trans (hreason hle hne), hg.marks, hstakes, hg.target⟩

theorem participantTimeout_cycles (hh : s.power.hand = some h) (ha : h.asked = some p) (hp : p < 16) (hwait : s.power.waiting = some 6) :
    Does .participantTimeout s [PWR_STAT, PWR_REFUSE, PWR_EVT, PWR_BACKOFF, PWR_RECOV]
      [.now, .power, .compute] fun t => t.power.hand = none ∧ t.power.waiting = none
      ∧ t.flag PWR_RECOV_BUSY = false ∧ t.power.pcycEnd = some (t.now + (s.reg PWR_PCYC).toNat * ms1) := by
  have hexec := execParticipantTimeout_eq hh ha
  have hm := Frame.moveTo s (h.at_ + 3 * us1)
  generalize s.moveTo (h.at_ + 3 * us1) = m at *
  have hrolled := m.rolledBack_spec h hp (reason := 2) (by decide)
  have hwait' : (m.rolledBack h p 2).power.waiting = some 6 := by rw [hrolled.power, hm.2 .power (by simp)]; exact hwait
  rw [State.handRefuse_eq, State.handEnd_some hwait'] at hexec
  generalize m.rolledBack h p 2 = r at *
  have hclosed := r.handClosed_spec
  generalize r.handClosed = c at *
  have hset : Frame [PWR_RECOV] [] c (c.sf PWR_RECOV_BUSY 0) := Frame.sf c PWR_RECOV_BUSY 0
  have hbusy : (c.sf PWR_RECOV_BUSY 0).flag PWR_RECOV_BUSY = false := by
    rw [State.flag, State.rf_sf_self _ _ _ (by decide) (by decide)]
    rfl
  generalize c.sf PWR_RECOV_BUSY 0 = b at *
  have htake : b.takeStep 6 = b.pcyc := rfl
  rw [htake] at hexec
  have hpcyc : Frame [] [.power] b b.pcyc := Frame.power b _
  have hall : Frame [PWR_STAT, PWR_REFUSE, PWR_EVT, PWR_BACKOFF, PWR_RECOV] [.now, .power, .compute] s b :=
    (Frame.refl _ _ s).step hm |>.step hrolled.frame |>.step hclosed.frame |>.step hset
  have hkept := hclosed.power
  unfold PowerKept at hkept
  have hpower : b.power = c.power := hset.2 .power (by simp)
  refine ⟨_, hexec, hall.step hpcyc, ?_, ?_, ?_, ?_⟩
  · show b.power.hand = none
    rw [hpower, hkept]
  · show b.power.waiting = none
    rw [hpower, hkept]
  · rw [State.flag, hpcyc.rf (by simp)]
    exact hbusy
  · show some (b.now + (b.reg PWR_PCYC).toNat * ms1) = some (b.pcyc.now + (s.reg PWR_PCYC).toNat * ms1)
    rw [hpcyc.2 .now (by simp), hall.1 _ (by decide)]

theorem participantAnswer_enters (hh : s.power.hand = some h) (ha : h.asked = some p) (hnow : s.now ≤ h.at_ + 3 * us1)
    (hr : s.refusal h p = 0) (hwait : s.power.waiting = none) (ht : h.target ≤ pWatch) (hfit : ∀ c ∈ s.skClusters, c < 16)
    (hq : (participants h.target h.prior).find? (fun x => !(h.accepted ++ [p]).contains x) = none) :
    ∃ t, exec (.participantAnswer false) s = .next t ∧ t.pstate = h.target ∧ t.power.hand = none
      ∧ t.flag PWR_EVT_ENTERED = true ∧ t.flag PWR_STAT_BUSY = false
      ∧ (h.target = pWatch → t.flag PWR_STAT_CD0 = false ∧ t.flag PWR_STAT_CD1 = false
          ∧ t.flag PWR_STAT_DDR_SR = true ∧ ∀ k, k < 128 → (t.stake k).run = .held)
      ∧ (∀ a, a ∉ [PWR_STAT, PWR_EVT, PWR_BACKOFF, PWR_REFUSE] ++ regFile CL_STAT 16
            ++ (List.range 32).flatMap portRegs → t.reg a = s.reg a)
      ∧ ∀ p ∈ [Piece.pending, .now, .weave, .border, .sys, .net, .streams, .trust, .hoop, .alarm, .link], p.same s t := by
  have hexec := execParticipantAnswer_eq (busy := false) hh ha
  rw [if_neg (Nat.not_lt.mpr hnow), if_neg (not_not.mpr hr), if_neg (by simp), State.handAsk_none hq] at hexec
  have henter := s.handEnter_moved (h := { h with accepted := h.accepted ++ [p] }) ht hwait hfit
  generalize s.handEnter { h with accepted := h.accepted ++ [p] } = t at *
  refine ⟨t, hexec, henter.state, henter.hand, henter.event, henter.busy, fun hw => ?_, fun a ha => henter.frame.1 a fun hm => ha ?_,
    fun q hq => henter.frame.2 q ?_⟩
  · have hdies : s.backoffCleared.diesMoved { h with accepted := h.accepted ++ [p] } = s.backoffCleared.diesOff := by
      unfold State.diesMoved
      rw [if_neg (by rw [hw]; decide), if_neg (by rw [hw]; decide)]
    have hfields := henter.fields
    have hcompute := henter.stakes
    rw [hdies] at hfields hcompute
    obtain ⟨-, h0, h1, hddr, hheld⟩ := s.backoffCleared.diesOff_spec
    have hflag (f : RegField) (hf : f.reg = PWR_STAT) (hle : f.lo ≤ f.hi) (hi : f.hi < 24) : t.flag f = s.backoffCleared.diesOff.flag f := by
      rw [State.flag, State.flag, hfields f hf hle hi]
    exact ⟨(hflag _ rfl (by decide) (by decide)).trans h0, (hflag _ rfl (by decide) (by decide)).trans h1,
      (hflag _ rfl (by decide) (by decide)).trans hddr, fun k hk => (congrArg Stake.run (State.stake_congr hcompute k)).trans (hheld k hk)⟩
  · simp only [moveRegs, List.mem_append, List.mem_cons, List.not_mem_nil, or_false] at hm ⊢
    tauto
  · simp only [List.mem_cons, List.not_mem_nil, or_false] at hq
    rcases hq with rfl | rfl | rfl | rfl | rfl | rfl | rfl | rfl | rfl | rfl | rfl <;> decide

theorem handshakeBackoffEnd_starts (hh : s.power.retry = some h) (hhand : s.power.hand = none) (h1 : pTrim ≤ h.target) (h2 : h.target ≤ pRim) :
    Does .handshakeBackoffEnd s [PWR_STAT] [.now, .power, .compute] fun t =>
      t.now = max s.now (h.at_ + (s.reg PWR_BACKOFF).toNat * ms1) ∧ t.power.retry = none
      ∧ (t.power.hand.map (·.target)) = some h.target ∧ t.flag PWR_STAT_BUSY = true
      ∧ t.flag PWR_STAT_RETRY = false ∧ t.pstate = s.pstate := by
  have hexec : exec .handshakeBackoffEnd s = execHandshakeBackoffEnd s := rfl
  unfold execHandshakeBackoffEnd at hexec
  rw [hh] at hexec
  dsimp only at hexec
  rw [if_neg (by rw [hhand]; simp)] at hexec
  have hm := Frame.moveTo s (h.at_ + (s.reg PWR_BACKOFF).toNat * ms1)
  have hnow : (s.moveTo (h.at_ + (s.reg PWR_BACKOFF).toNat * ms1)).now = max s.now (h.at_ + (s.reg PWR_BACKOFF).toNat * ms1) := rfl
  generalize s.moveTo (h.at_ + (s.reg PWR_BACKOFF).toNat * ms1) = m at *
  have hstart := m.handStart_spec h1 h2
  generalize m.handStart h.target = t at *
  have hpower := hstart.power
  refine ⟨t, hexec, (hm.mono (by simp) (by simp)).step hstart.frame, (hstart.frame.2 .now (by simp)).trans hnow, by rw [hpower], by rw [hpower]; rfl,
    hstart.busy, hstart.retry, hstart.state.trans (hm.rf (by simp))⟩

/-- Settles O55: a participant accepts, refuses or stays silent, the last to accept lets the state be entered, and a backoff's end
starts the handshake again. -/
theorem handshakeAnswers : Obligations.HandshakeAnswers := by
  refine ⟨fun busy s hnone => ⟨?_, ?_⟩, fun busy h p q s hh ha hnow hr hb hq => participantAnswer_next hh ha hnow hr hb hq,
    fun busy h p i s hh ha hp hwait hi => participant_refuses hh ha hp hwait hi,
    fun h p s hh ha hp hwait => participantTimeout_cycles hh ha hp hwait,
    fun h p s hh ha hnow hr hwait ht hfit hq => participantAnswer_enters hh ha hnow hr hwait ht hfit hq,
    fun s hnone => ?_, fun h s hh hhand h1 h2 => handshakeBackoffEnd_starts hh hhand h1 h2⟩
  · have hexec : exec (.participantAnswer busy) s = execParticipantAnswer busy s := rfl
    rw [hexec, execParticipantAnswer, hnone]
  · have hexec : exec .participantTimeout s = execParticipantTimeout s := rfl
    rw [hexec, execParticipantTimeout, hnone]
  · have hexec : exec .handshakeBackoffEnd s = execHandshakeBackoffEnd s := rfl
    rw [hexec, execHandshakeBackoffEnd, hnone]

end Sys2Proof.Machine
end

section
/-! SUPPORT. Proofs/PowerRequests.lean: a GO at PWR_CTL (R480 to R485). -/
-- The proofs of this file are elaborated one after another: side by side their threads exceed the memory of the check.
set_option Elab.async false
namespace Sys2Proof.Machine

open Reg

variable {s t : State} {i : Instr} {target : Nat}

/-! ### What a GO of agent 0 comes to -/

/-- The word of a GO for a target. -/
def goWord (target : Nat) : Word := BitVec.ofNat 32 (2 * target + 1)

theorem goWord_spec (ht : target ≤ pRim) : bitAt (goWord target) 0 = true ∧ bitsOf (goWord target) 2 1 = target := by
  have h : ∀ target ≤ pRim, bitAt (goWord target) 0 = true ∧ bitsOf (goWord target) 2 1 = target := by decide
  exact h target ht

theorem exec_pwrGo (hi : (i, target) ∈ [(Instr.pwrGoRun 0, pRun), (.pwrGoTrim 0, pTrim), (.pwrGoWatch 0, pWatch), (.pwrGoRim 0, pRim)]) :
    target ≤ pRim ∧ exec i s = .next (s.regWrite 0 PWR_CTL (goWord target) fun s => s.pwrCtlWrite 0 (goWord target)) := by
  simp only [List.mem_cons, Prod.mk.injEq, List.not_mem_nil, or_false] at hi
  rcases hi with ⟨rfl, rfl⟩ | ⟨rfl, rfl⟩ | ⟨rfl, rfl⟩ | ⟨rfl, rfl⟩ <;> exact ⟨by decide, rfl⟩

/-- PWR_CTL.TARGET of a request that was taken. -/
def State.targeted (s : State) (target : Nat) : State := (s.ok 0#32).sf PWR_CTL_TARGET target

theorem State.targeted_spec (s : State) (ht : target ≤ pRim) : Frame [PWR_CTL] [.bus] s (s.targeted target)
    ∧ (s.targeted target).rf PWR_CTL_TARGET = target := by
  refine ⟨((Frame.ok s 0#32).mono (by simp) (by simp)).step (Frame.sf _ PWR_CTL_TARGET target), ?_⟩
  rw [State.targeted, State.rf_sf_self _ _ _ (by decide) (by decide)]
  simp only [pRim] at ht
  exact Nat.mod_eq_of_lt (by dsimp only; omega)

theorem State.gateSet_congr (hstat : t.reg PWR_STAT = s.reg PWR_STAT) (hmask : t.reg PWR_TRIM_MASK = s.reg PWR_TRIM_MASK) (target : Nat) :
    t.gateSet target = s.gateSet target := by rw [State.gateSet, State.gateSet, hstat, hmask]

theorem State.gateSet_targeted (s : State) (ht : target ≤ pRim) (x : Nat) : (s.targeted target).gateSet x = s.gateSet x :=
  State.gateSet_congr ((s.targeted_spec ht).1.1 _ (by decide)) ((s.targeted_spec ht).1.1 _ (by decide)) x

/-- A request of agent 0 writes nothing before it acts. -/
theorem State.pwrGo_agent0 (s : State) (target : Nat) : s.pwrGo 0 target =
    if s.power.retry.isSome then s
    else if s.pstate = target then
      if target ≠ pTrim then s
      else if s.gateSet pTrim = 0 then s.ungate (s.reg PWR_TRIM_MASK) else s.handStart pTrim
    else if pWatch ≤ s.pstate ∧ target ≤ pTrim then s.wakeTo target
    else s.handStart target := rfl

/-- What a GO at a controller that is not busy comes to. -/
theorem does_go {R : List Nat} {P : List Piece} {Q : State → Prop} {u : State} (hreach : s.reaches 0 PWR_CTL true = true) (ht : target ≤ pRim)
    (hexec : exec i s = .next (s.regWrite 0 PWR_CTL (goWord target) fun s => s.pwrCtlWrite 0 (goWord target)))
    (hbusy : s.flag PWR_STAT_BUSY = false) (hretry : s.power.retry = none) (hu : (s.targeted target).pwrGo 0 target = u)
    (hf : Frame R P s u) (hQ : Q (u.ok 0#32)) (hP : Piece.bus ∈ P := by simp) : Does i s R P Q := by
  obtain ⟨hgo, hto⟩ := goWord_spec ht
  have hwrite := State.pwrCtlWrite_go (s := s.ok 0#32) (a := 0) (v := goWord target) (by decide) hbusy hretry hgo hto
  rw [show (s.ok 0#32).sf PWR_CTL_TARGET target = s.targeted target from rfl, hu] at hwrite
  exact Does.of_write hexec hreach hwrite rfl (hf.step (Frame.ok u 0#32) (by simp) (by simpa using hP)) hQ

theorem pwrGo_busy (hreach : s.reaches 0 PWR_CTL true = true)
    (hexec : exec i s = .next (s.regWrite 0 PWR_CTL (goWord target) fun s => s.pwrCtlWrite 0 (goWord target)))
    (hbusy : s.flag PWR_STAT_BUSY = true) : Errs i s [] fun _ => True := by
  have hwrite : (s.ok 0#32).pwrCtlWrite 0 (goWord target) = s.err := by
    unfold State.pwrCtlWrite
    rw [if_pos (.inr (by rw [State.flag, (Frame.ok s 0#32).rf (by simp), ← State.flag]; exact hbusy))]
    rfl
  exact Errs.of_write hexec hreach hwrite rfl (Frame.err s) fun _ _ => trivial

section

variable (hreach : s.reaches 0 PWR_CTL true = true) (ht : target ≤ pRim)
  (hexec : exec i s = .next (s.regWrite 0 PWR_CTL (goWord target) fun s => s.pwrCtlWrite 0 (goWord target)))
include hreach ht hexec

theorem pwrGo_retry {h : Hand} (hbusy : s.flag PWR_STAT_BUSY = false) (hretry : s.power.retry = some h) (hsame : h.target = target) :
    Does i s [PWR_CTL] [.bus] fun t => t.bus.err = false ∧ t.rf PWR_CTL_TARGET = target := by
  obtain ⟨hgo, hto⟩ := goWord_spec ht
  obtain ⟨hframe, htarget⟩ := s.targeted_spec ht
  have hpwr : (s.targeted target).pwrGo 0 target = s.targeted target := by
    rw [State.pwrGo_agent0, if_pos (by rw [hframe.2 .power (by simp), hretry]; rfl)]
  have hwrite : (s.ok 0#32).pwrCtlWrite 0 (goWord target) = (s.targeted target).ok 0#32 := by
    have hkept : (s.ok 0#32).power.retry = some h := hretry
    unfold State.pwrCtlWrite
    rw [if_neg (by simp [State.flag, (Frame.ok s 0#32).rf (f := PWR_STAT_BUSY) (by simp)]; simpa [State.flag] using hbusy), hgo, hto, hkept]
    dsimp only
    rw [if_pos hsame, if_pos rfl]
    exact congrArg (State.ok · 0#32) hpwr
  refine Does.of_write hexec hreach hwrite rfl (hframe.step (Frame.ok _ _)) ⟨rfl, ?_⟩
  exact ((Frame.ok _ _).rf (by simp)).trans htarget

theorem pwrGo_held (hbusy : s.flag PWR_STAT_BUSY = false) (hretry : s.power.retry = none) (hsame : s.pstate = target) (htrim : target ≠ pTrim) :
    Does i s [PWR_CTL] [.bus] fun t => t.bus.err = false ∧ t.rf PWR_CTL_TARGET = target := by
  obtain ⟨hframe, htarget⟩ := s.targeted_spec ht
  have hpstate : (s.targeted target).pstate = s.pstate := hframe.rf (by decide)
  have hpwr : (s.targeted target).pwrGo 0 target = s.targeted target := by
    rw [State.pwrGo_agent0, if_neg (by rw [hframe.2 .power (by simp), hretry]; simp), if_pos (hpstate.trans hsame), if_pos htrim]
  exact does_go hreach ht hexec hbusy hretry hpwr hframe ⟨rfl, ((Frame.ok _ _).rf (by simp)).trans htarget⟩

theorem pwrGo_starts (hbusy : s.flag PWR_STAT_BUSY = false) (hretry : s.power.retry = none) (hfrom : s.pstate ≤ pTrim) (hto : pTrim ≤ target)
    (hwork : s.pstate ≠ target ∨ s.gateSet pTrim ≠ 0) :
    Does i s [PWR_CTL, PWR_STAT] [.power, .compute, .bus] fun t => t.bus.err = false
      ∧ t.rf PWR_CTL_TARGET = target ∧ t.pstate = s.pstate ∧ t.flag PWR_STAT_BUSY = true
      ∧ (s.gateSet target ≠ 0 → s.alarm.xoLost = false →
          t.power = { s.power with hand := some ⟨target, s.pstate, s.gateSet target, [], none, s.now, [], false⟩ }
          ∧ t.compute.stakes = s.compute.stakes
          ∧ ∀ c, c < 16 → t.cluster c = { s.cluster c with gated := (s.cluster c).gated || (s.gateSet target).testBit c })
      ∧ ((s.gateSet target = 0 ∨ s.alarm.xoLost = true) →
          let first := if target = pRim then 1 else 6
          t.power = { s.power with hand := some ⟨target, s.pstate, s.gateSet target, [], some first, s.now, [], false⟩ }
          ∧ t.compute = s.compute ∧ t.rf PWR_STAT_ASKED = first) := by
  obtain ⟨hframe, htarget⟩ := s.targeted_spec ht
  have hgate (x : Nat) := s.gateSet_targeted ht x
  have hpstate : (s.targeted target).pstate = s.pstate := hframe.rf (by decide)
  have hpower : (s.targeted target).power = s.power := hframe.2 .power (by simp)
  have hpwr : (s.targeted target).pwrGo 0 target = (s.targeted target).handStart target := by
    rw [State.pwrGo_agent0, hpstate, hgate, if_neg (by rw [hpower, hretry]; simp)]
    by_cases hsame : s.pstate = target
    · have htrim : target = pTrim := by simp only [pTrim] at *; omega
      rw [if_pos hsame, if_neg (not_not.mpr htrim), if_neg (hwork.resolve_left (not_not.mpr hsame)), htrim]
    · rw [if_neg hsame, if_neg (by simp only [pTrim, pWatch] at *; omega)]
  have hstart := (s.targeted target).handStart_spec hto ht
  have hnew (asked : Option Nat) : (s.targeted target).newHand target asked = ⟨target, s.pstate, s.gateSet target, [], asked, s.now, [], false⟩ := by
    rw [State.newHand, hpstate, hgate, hframe.2 .now (by simp)]
  have hpowerOf : ((s.targeted target).handStart target).power = { s.power with hand := some ⟨target, s.pstate, s.gateSet target, [],
      (if s.gateSet target = 0 ∨ s.alarm.xoLost = true then some (firstAsked target) else none), s.now, [], false⟩ } := by
    have hdrop (x : Hand) (r : Option Hand) (hr : r = none) : ({ s.power with hand := some x, retry := none } : Power) =
        { s.power with hand := some x, retry := r } := by rw [hr]
    rw [hstart.power, hnew, hgate, hpower, hframe.2 .alarm (by simp)]
    exact hdrop _ _ hretry
  generalize (s.targeted target).handStart target = u at *
  have hdone := Frame.ok u 0#32
  have hstate : (u.ok 0#32).pstate = s.pstate := ((Frame.ok u 0#32).rf (by simp)).trans (hstart.state.trans hpstate)
  have hmarks := hstart.waits
  have hasks := hstart.asks
  rw [hgate, hframe.2 .alarm (by simp)] at hmarks hasks
  refine does_go hreach ht hexec hbusy hretry hpwr ((hframe.mono (by simp) (by simp)).step hstart.frame)
    ⟨rfl, ?_, hstate, ?_, fun h0 hxo => ⟨?_, ?_, fun c hc => ?_⟩, fun hnow => ⟨?_, ?_, ?_⟩⟩
  · exact (hdone.rf (by simp)).trans ((hstart.frame.rf (by decide)).trans htarget)
  · rw [State.flag, hdone.rf (by simp), ← State.flag]; exact hstart.busy
  · rw [hdone.2 .power (by simp), hpowerOf, if_neg (by simp [h0, hxo])]
  · rw [hdone.2 .compute (by simp), hstart.stakes, hframe.2 .compute (by simp)]
  · rw [hdone.cluster, hmarks h0 hxo c hc, hframe.cluster]
  · rw [hdone.2 .power (by simp), hpowerOf, if_pos hnow]
    rfl
  · rw [hdone.2 .compute (by simp), (hasks hnow).1, hframe.2 .compute (by simp)]
  · exact (hdone.rf (by simp)).trans (hasks hnow).2

theorem pwrGo_runs (hbusy : s.flag PWR_STAT_BUSY = false) (hretry : s.power.retry = none) (hfrom : s.pstate = pTrim) (hto : target = pRun)
    (hwait : s.power.waiting = none) (hfit : ∀ c ∈ s.skClusters, c < 16) :
    Does i s ([PWR_CTL, PWR_STAT, PWR_EVT, PWR_BACKOFF, PWR_REFUSE] ++ regFile CL_STAT 16)
      [.power, .compute, .bus] fun t => t.bus.err = false ∧ t.pstate = pRun ∧ t.power.hand = none
      ∧ t.flag PWR_EVT_ENTERED = true ∧ t.flag PWR_STAT_BUSY = false ∧ t.compute.stakes = s.compute.stakes := by
  subst hto
  obtain ⟨hframe, -⟩ := s.targeted_spec ht
  have hpstate : (s.targeted pRun).pstate = s.pstate := hframe.rf (by decide)
  have hgate : (s.targeted pRun).gateSet pRun = 0 := rfl
  have hpwr : (s.targeted pRun).pwrGo 0 pRun =
      ((s.targeted pRun).handBegun pRun).handEnter ((s.targeted pRun).newHand pRun none) := by
    rw [State.pwrGo_agent0, hpstate, if_neg (by rw [hframe.2 .power (by simp), hretry]; simp), if_neg (by rw [hfrom]; decide),
      if_neg (by rw [hfrom]; decide), State.handStart_eq, if_pos (.inl hgate), State.handAsk_none (by rfl)]
  have hbegun := (s.targeted pRun).handBegun_spec pRun
  generalize (s.targeted pRun).handBegun pRun = b at *
  have hset : Frame [PWR_CTL, PWR_STAT] [.power, .bus] s b := (hframe.mono (by simp) (by simp)).step hbegun.frame
  obtain ⟨hentered, hstakes⟩ := b.handEnter_run (h := (s.targeted pRun).newHand pRun none) rfl
    (by rw [hbegun.power, hframe.2 .power (by simp)]; exact hwait) (by rw [State.skClusters_congr (hset.2 .trust (by simp))]; exact hfit)
  generalize b.handEnter ((s.targeted pRun).newHand pRun none) = u at *
  have hdone := Frame.ok u 0#32
  have hflag (f : RegField) : (u.ok 0#32).flag f = u.flag f := by rw [State.flag, State.flag, hdone.rf (by simp)]
  refine does_go hreach ht hexec hbusy hretry hpwr ?_ ⟨rfl, (hdone.rf (by simp)).trans hentered.state, ?_, (hflag _).trans hentered.event,
    (hflag _).trans hentered.busy, ?_⟩
  · refine (hset.mono (by simp) (by simp)).step hentered.frame (fun a ha => ?_) (by simp)
    simp only [List.mem_append, List.mem_cons, List.not_mem_nil, or_false] at ha ⊢
    tauto
  · rw [hdone.2 .power (by simp)]; exact hentered.hand
  · rw [hdone.2 .compute (by simp), hstakes, hset.2 .compute (by simp)]

theorem pwrGo_wakes (hbusy : s.flag PWR_STAT_BUSY = false) (hretry : s.power.retry = none) (hfrom : s.pstate = pWatch) (hto : target ≤ pTrim) :
    ∃ t, exec i s = .next t ∧ t.bus.err = false ∧ t.pstate = target ∧ t.flag PWR_EVT_WAKE = true
      ∧ t.flag PWR_STAT_DDR_SR = false ∧ t.compute.stakes = s.compute.stakes := by
  obtain ⟨hframe, -⟩ := s.targeted_spec ht
  obtain ⟨hgo, hword⟩ := goWord_spec ht
  have hwrite := State.pwrCtlWrite_go (s := s.ok 0#32) (a := 0) (v := goWord target) (by decide) hbusy hretry hgo hword
  rw [show (s.ok 0#32).sf PWR_CTL_TARGET target = s.targeted target from rfl,
    State.pwrGo_wake (by rw [hframe.2 .power (by simp)]; exact hretry) ((hframe.rf (by decide)).trans hfrom) hto] at hwrite
  have hwoken := (s.targeted target).wakeTo_spec (target := target) (by simp only [pTrim] at hto; omega)
  generalize (s.targeted target).wakeTo target = w at *
  have hdone := Frame.ok w 0#32
  have hflag (f : RegField) : (w.ok 0#32).flag f = w.flag f := by rw [State.flag, State.flag, hdone.rf (by simp)]
  have hok : ((s.ok 0#32).pwrCtlWrite 0 (goWord target)).bus.err = false := by rw [hwrite]; rfl
  rw [State.regWrite_ok hreach hok, hwrite] at hexec
  refine ⟨_, hexec, rfl, (hdone.rf (by simp)).trans hwoken.state, (hflag _).trans hwoken.wake, (hflag _).trans hwoken.ddr, ?_⟩
  rw [hdone.2 .compute (by simp), hwoken.stakes, hframe.2 .compute (by simp)]

end

/-- Settles O54: a GO is refused, held, started, entered or a wake as the state and the controller's business have it. That a GO of
the target of a backoff writes TARGET alone, and that a handshake which asks no one completes at once, is log 97. -/
theorem powerRequests : Obligations.PowerRequests := by
  intro i target s hi hreach
  obtain ⟨ht, hexec⟩ := exec_pwrGo (s := s) hi
  refine ⟨pwrGo_busy hreach hexec, fun h hbusy hretry hsame => pwrGo_retry hreach ht hexec hbusy hretry hsame, fun hbusy hretry =>
    ⟨pwrGo_held hreach ht hexec hbusy hretry, pwrGo_starts hreach ht hexec hbusy hretry, pwrGo_runs hreach ht hexec hbusy hretry,
      fun hfrom hto _ => pwrGo_wakes hreach ht hexec hbusy hretry hfrom hto⟩⟩

end Sys2Proof.Machine
end

section
/-! SUPPORT. Proofs/WakeEvents.lean: wakes from Rim, the hub's and the domains' power-up, and the RTC (R156, R188, R489, R490, R493,
R508). -/
-- The proofs of this file are elaborated one after another: side by side their threads exceed the memory of the check.
set_option Elab.async false
namespace Sys2Proof.Machine

open Reg

variable {s t : State}

/-! ### Wake events in Rim (R489, R490) -/

theorem State.startWake_first (s : State) (h : s.power.hubWake = none) : Frame [RIM_WAKE_CNT] [.power] s s.startWake
    ∧ s.startWake.power = { s.power with hubWake := some s.now }
    ∧ s.startWake.rf RIM_WAKE_CNT_WAKES = min 65535 (s.rf RIM_WAKE_CNT_WAKES + 1) := by
  have heq : s.startWake = ({ s with power := { s.power with hubWake := some s.now } }).countUp RIM_WAKE_CNT_WAKES := by
    unfold State.startWake
    rw [if_neg (by rw [h]; simp)]
  have hupd := Frame.power s { s.power with hubWake := some s.now }
  have hpower : ({ s with power := { s.power with hubWake := some s.now } } : State).power = { s.power with hubWake := some s.now } := rfl
  rw [heq]
  generalize ({ s with power := { s.power with hubWake := some s.now } } : State) = u at *
  have hcount := Frame.countUp u RIM_WAKE_CNT_WAKES
  refine ⟨(hupd.mono (by simp) (by simp)).step hcount, (hcount.2 .power (by simp)).trans hpower, ?_⟩
  rw [State.rf_countUp_self _ _ (by decide) (by decide), hupd.rf (by simp)]
  rfl

theorem State.startWake_again (s : State) (h : s.power.hubWake.isSome = true) : s.startWake = s := by
  unfold State.startWake
  rw [if_pos h]

theorem State.wakeEvent_inRim (s : State) {src : Nat} (hrim : s.pstate = pRim) : s.wakeEvent src =
    if s.bit RIM_WAKE_EN src then (s.setBit RIM_WAKE_LATCH src).startWake else s := by
  have hheard : s.wakeHeard src = s.bit RIM_WAKE_EN src := by
    rw [State.wakeHeard, hrim]
    simp
  have hset : (s.setBit RIM_WAKE_LATCH src).pstate = pRim := ((Frame.setBit s RIM_WAKE_LATCH src).rf (by decide)).trans hrim
  rw [State.wakeEvent_eq, hheard, State.wakeLatched, if_pos hset]

/-- The wakes of the RTC and of WAKE_N, after the time that the first takes. -/
theorem exec_wake {i : Instr} {src : Nat} (hi : (i, src) ∈ [(Instr.rtcAlarm, 3), (.wakeNAssert, 4)])
    (hen : i = .rtcAlarm → s.flag RIM_RTC_ALM_HI_EN = true) :
    ∃ m, exec i s = .next (m.wakeEvent src) ∧ Frame [] [.now] s m ∧ s.now ≤ m.now := by
  simp only [List.mem_cons, Prod.mk.injEq, List.not_mem_nil, or_false] at hi
  rcases hi with ⟨rfl, rfl⟩ | ⟨rfl, rfl⟩
  · have hexec : exec .rtcAlarm s = execRtcAlarm s := rfl
    unfold execRtcAlarm at hexec
    rw [if_pos (hen rfl)] at hexec
    exact ⟨_, hexec, Frame.moveTo _ _, Nat.le_max_left _ _⟩
  · exact ⟨s, rfl, Frame.refl _ _ s, Nat.le_refl _⟩

theorem wake_claim {i : Instr} {src : Nat} (hi : (i, src) ∈ [(Instr.rtcAlarm, 3), (.wakeNAssert, 4)])
    (hen : i = .rtcAlarm → s.flag RIM_RTC_ALM_HI_EN = true) (hrim : s.pstate = pRim) :
    let latched (t : State) := t.reg RIM_WAKE_LATCH = setBits (s.reg RIM_WAKE_LATCH) src src 1
    (s.bit RIM_WAKE_EN src = true → s.power.hubWake = none →
      Does i s [RIM_WAKE_LATCH, RIM_WAKE_CNT] [.now, .power] fun t => latched t
        ∧ t.power = { s.power with hubWake := some t.now } ∧ s.now ≤ t.now
        ∧ t.rf RIM_WAKE_CNT_WAKES = min 65535 (s.rf RIM_WAKE_CNT_WAKES + 1))
    ∧ (s.bit RIM_WAKE_EN src = true → s.power.hubWake.isSome = true →
      Does i s [RIM_WAKE_LATCH] [.now] fun t => latched t)
    ∧ (s.bit RIM_WAKE_EN src = false → Does i s [] [.now] fun t => s.now ≤ t.now) := by
  obtain ⟨m, hexec, hm, hnow⟩ := exec_wake hi hen
  have hbit : m.bit RIM_WAKE_EN src = s.bit RIM_WAKE_EN src := by rw [State.bit, hm.1 _ (by simp), State.bit]
  rw [m.wakeEvent_inRim ((hm.rf (by simp)).trans hrim), hbit] at hexec
  have hlatch : (m.setBit RIM_WAKE_LATCH src).reg RIM_WAKE_LATCH = setBits (s.reg RIM_WAKE_LATCH) src src 1 := by
    rw [← hm.1 RIM_WAKE_LATCH (by simp)]
    exact State.reg_setReg_self _ _ _
  have hset : Frame [RIM_WAKE_LATCH] [.now] s (m.setBit RIM_WAKE_LATCH src) :=
    (hm.mono (by simp) (by simp)).step (Frame.setBit _ _ _)
  have hnow' : (m.setBit RIM_WAKE_LATCH src).now = m.now := (Frame.setBit m RIM_WAKE_LATCH src).2 .now (by simp)
  generalize m.setBit RIM_WAKE_LATCH src = b at *
  refine ⟨fun he hw => ?_, fun he hw => ?_, fun he => ?_⟩
  · rw [he, if_pos rfl] at hexec
    obtain ⟨hwake, hpower, hcount⟩ := b.startWake_first (by rw [hset.2 .power (by simp)]; exact hw)
    refine ⟨_, hexec, (hset.mono (by simp) (by simp)).step hwake, ?_, ?_, ?_, ?_⟩
    · exact (hwake.1 _ (by decide)).trans hlatch
    · rw [hpower, hset.2 .power (by simp), hwake.2 .now (by simp)]
    · rw [hwake.2 .now (by simp), hnow']; exact hnow
    · rw [hcount, hset.rf (by decide)]
  · rw [he, if_pos rfl, b.startWake_again (by rw [hset.2 .power (by simp)]; exact hw)] at hexec
    exact ⟨_, hexec, hset, hlatch⟩
  · rw [he, if_neg (by simp)] at hexec
    exact ⟨_, hexec, hm, hnow⟩

/-! ### The wake filter (R493) -/

/-- A frame kept for replay. -/
def State.frameHeld (s : State) (f : NetFrame) : State :=
  let u := s.updPower fun p => { p with frames := p.frames ++ [{ port := s.wfPort, frame := f }] }
  u.sf RIM_WF_STAT_HELD u.power.frames.length

theorem State.frameHeld_spec (s : State) (f : NetFrame) (hroom : s.power.frames.length < 4) : Frame [RIM_WF_STAT] [.power] s (s.frameHeld f)
    ∧ (s.frameHeld f).power = { s.power with frames := s.power.frames ++ [⟨s.wfPort, f⟩] }
    ∧ (s.frameHeld f).rf RIM_WF_STAT_HELD = s.power.frames.length + 1 := by
  have hupd : Frame [] [.power] s (s.updPower fun p => { p with frames := p.frames ++ [{ port := s.wfPort, frame := f }] }) := Frame.power s _
  have hpower : (s.updPower fun p => { p with frames := p.frames ++ [{ port := s.wfPort, frame := f }] }).power =
      { s.power with frames := s.power.frames ++ [⟨s.wfPort, f⟩] } := rfl
  unfold State.frameHeld
  dsimp only
  generalize s.updPower _ = u at *
  have hset : Frame [RIM_WF_STAT] [] u (u.sf RIM_WF_STAT_HELD u.power.frames.length) := Frame.sf u RIM_WF_STAT_HELD _
  refine ⟨(hupd.mono (by simp) (by simp)).step hset, (hset.2 .power (by simp)).trans hpower, ?_⟩
  rw [State.rf_sf_self _ _ _ (by decide) (by decide), hpower]
  simp only [List.length_append, List.length_singleton]
  exact Nat.mod_eq_of_lt (by omega)

theorem execWakeFilterFrame_eq {f : NetFrame} (hrim : s.pstate = pRim) (hrst : s.power.rstLow = false) (hen : s.flag RIM_WF_CFG_EN = true)
    (hlink : s.flag RIM_STAT_WF_LINK = true) (hsrc : s.bit RIM_WAKE_EN 2 = true) :
    exec (.wakeFilterFrame f) s = .next (if s.wakeFrameOk f = true then
      if 4 ≤ s.power.frames.length then s.countUp RIM_WF_STAT_DROPPED else (s.frameHeld f).wakeEvent 2 else s) := by
  have hexec : exec (.wakeFilterFrame f) s = execWakeFilterFrame f s := rfl
  unfold execWakeFilterFrame at hexec
  rw [hexec]
  by_cases hok : s.wakeFrameOk f = true
  · rw [if_pos ⟨hrim, hrst, hen, hlink, hsrc, hok⟩, if_pos hok]
    rfl
  · rw [if_neg (fun ⟨_, _, _, _, _, h⟩ => hok h), if_neg hok]

theorem wakeFilterFrame_claim {f : NetFrame} (hrim : s.pstate = pRim) (hrst : s.power.rstLow = false) (hen : s.flag RIM_WF_CFG_EN = true)
    (hlink : s.flag RIM_STAT_WF_LINK = true) (hsrc : s.bit RIM_WAKE_EN 2 = true) :
    (s.wakeFrameOk f = false → exec (.wakeFilterFrame f) s = .next s)
    ∧ (s.wakeFrameOk f = true → s.power.frames.length < 4 →
      Does (.wakeFilterFrame f) s [RIM_WF_STAT, RIM_WAKE_LATCH, RIM_WAKE_CNT] [.power] fun t =>
        t.power.frames = s.power.frames ++ [⟨s.wfPort, f⟩] ∧ t.rf RIM_WF_STAT_HELD = s.power.frames.length + 1
        ∧ t.bit RIM_WAKE_LATCH 2 = true ∧ t.power.hubWake = some (s.power.hubWake.getD s.now))
    ∧ (s.wakeFrameOk f = true → 4 ≤ s.power.frames.length →
      Does (.wakeFilterFrame f) s [RIM_WF_STAT] [] fun t =>
        t.rf RIM_WF_STAT_DROPPED = min 255 (s.rf RIM_WF_STAT_DROPPED + 1)) := by
  have hexec := execWakeFilterFrame_eq (f := f) hrim hrst hen hlink hsrc
  refine ⟨fun hok => ?_, fun hok hroom => ?_, fun hok hfull => ?_⟩
  · rw [hexec, hok, if_neg (by simp)]
  · obtain ⟨hheld, hpower, hcount⟩ := s.frameHeld_spec f hroom
    rw [if_pos hok, if_neg (by omega)] at hexec
    generalize s.frameHeld f = h at *
    have hbit : h.bit RIM_WAKE_EN 2 = true := by rw [State.bit, hheld.1 _ (by decide), ← State.bit]; exact hsrc
    rw [h.wakeEvent_inRim ((hheld.rf (by decide)).trans hrim), if_pos hbit] at hexec
    have hset := Frame.setBit h RIM_WAKE_LATCH 2
    have hlatch : (h.setBit RIM_WAKE_LATCH 2).bit RIM_WAKE_LATCH 2 = true := by rw [State.bit_setBit _ _ _ (by decide)]; simp
    generalize h.setBit RIM_WAKE_LATCH 2 = b at *
    have hbp : b.power = { s.power with frames := s.power.frames ++ [⟨s.wfPort, f⟩] } := (hset.2 .power (by simp)).trans hpower
    have hall : Frame [RIM_WF_STAT, RIM_WAKE_LATCH] [.power] s b := (hheld.mono (by simp) (by simp)).step hset
    have hnow : b.now = s.now := hall.2 .now (by simp)
    cases hw : s.power.hubWake with
    | none =>
      obtain ⟨hwake, hwp, -⟩ := b.startWake_first (by rw [hbp]; exact hw)
      refine ⟨_, hexec, (hall.mono (by simp) (by simp)).step hwake, by rw [hwp, hbp], ?_, ?_, by rw [hwp, hnow]; rfl⟩
      · rw [hwake.rf (by decide), hset.rf (by decide), hcount]
      · rw [State.bit, hwake.1 _ (by decide)]; exact hlatch
    | some x =>
      rw [b.startWake_again (by rw [hbp]; simp [hw])] at hexec
      refine ⟨_, hexec, hall.mono (by simp) (by simp), by rw [hbp], ?_, hlatch, by rw [hbp]; exact hw⟩
      rw [hset.rf (by decide), hcount]
  · rw [if_pos hok, if_pos hfull] at hexec
    exact ⟨_, hexec, Frame.countUp s RIM_WF_STAT_DROPPED, State.rf_countUp_self s _ (by decide) (by decide)⟩

/-! ### The hub up (R490) -/

theorem State.setQual_frame (s : State) (q : Nat) : Frame [TIME_STAT, TIME_EVT] [] s (s.setQual q) := by
  unfold State.setQual
  split
  · exact Frame.refl _ _ s
  · exact (Frame.refl _ _ s).step (Frame.sf s TIME_STAT_QUAL q) |>.step (Frame.raise _ TIME_EVT_QUAL_CHG)

theorem State.setTod_frame (s : State) (x : Int) : Frame [] [.hoop] s (s.setTod x) := Frame.withHoop s _

theorem State.timeRestore_frame (s : State) : Frame [TIME_STAT, TIME_EVT, TIME_ERR] [.hoop, .sys] s s.timeRestore := by
  unfold State.timeRestore
  extract_lets ticks rc per dt unc a b c d begun
  have hc : Frame [TIME_STAT, TIME_EVT, TIME_ERR] [.hoop, .sys] s c :=
    (Frame.refl _ _ s).step (s.setTod_frame _) |>.step (a.setQual_frame _) |>.step (Frame.setRegN b _ _)
  have hd : Frame [TIME_STAT, TIME_EVT, TIME_ERR] [.hoop, .sys] s d :=
    (hc.step (Frame.raise c TIME_STAT_RTC_RC) |>.step (Frame.raise _ TIME_EVT_RTC_FAIL)).ite hc
  exact hd.step (Frame.withSys d _)

/-- The registers of the audio ports. -/
def audioRegs : List Nat := regsIn 0x200000 0x26FFFF

theorem mem_audioRegs {a : Nat} (h1 : 0x200000 ≤ a) (h2 : a ≤ 0x26FFFF) : ∀ x ∈ [a], x ∈ audioRegs := fun x hx => by
  rw [List.mem_singleton.mp hx]
  exact (mem_regsIn (by decide)).mpr ⟨h1, h2⟩

/-- The ports as after reset, with what their outputs carry kept. -/
def State.portsFresh (s : State) : State := { s with ports := { Ports.init with tx := s.ports.tx } }

/-- A TDM port as after Rim: its status shown from the start, running again where its retained RUN is 1. -/
def State.portBack (s : State) (n : Nat) : State :=
  let s := (((s.setReg (TDM_STAT n) 0#32).setReg (TDM_RXMASK_ACT n) 0#32).setReg (TDM_TXMASK_ACT n) 0#32).sf (TDM_CTL_ARM n) 0
  if s.flag (TDM_CTL_RUN n) && s.tdmAllowed n then
    { s.sf (TDM_STAT_STATE n) 1 with ports := { s.ports with back := s.ports.back ++ [n] } }
  else s

theorem State.portsRestart_eq (s : State) : s.portsRestart = (List.range 4).foldl (fun s o => s.sf (AES_OUT_CFG_ARM o) 0)
    ((((List.range 32).foldl State.portBack s.portsFresh).setReg PDM_READY 0#32).sf PDM_CTL_ARM 0) := rfl

theorem State.portBack_frame (s : State) {n : Nat} (hn : n < 32) : Frame audioRegs [.ports] s (s.portBack n) := by
  have hin {a : Nat} := mem_audioRegs (a := a)
  unfold State.portBack
  extract_lets u
  have hu : Frame audioRegs [.ports] s u := (Frame.refl _ _ s).step (Frame.setReg s (TDM_STAT n) 0#32) (hin (by simp only [TDM_STAT]; omega) (by simp only [TDM_STAT]; omega))
    |>.step (Frame.setReg _ (TDM_RXMASK_ACT n) 0#32) (hin (by simp only [TDM_RXMASK_ACT]; omega) (by simp only [TDM_RXMASK_ACT]; omega))
    |>.step (Frame.setReg _ (TDM_TXMASK_ACT n) 0#32) (hin (by simp only [TDM_TXMASK_ACT]; omega) (by simp only [TDM_TXMASK_ACT]; omega))
    |>.step (Frame.sf _ (TDM_CTL_ARM n) 0) (hin (by simp only [TDM_CTL]; omega) (by simp only [TDM_CTL]; omega))
  refine Frame.ite (hu.step (Frame.sf u (TDM_STAT_STATE n) 1) (hin (by simp only [TDM_STAT]; omega) (by simp only [TDM_STAT]; omega))
    |>.step (Frame.withPorts (u.sf (TDM_STAT_STATE n) 1) { u.ports with back := u.ports.back ++ [n] })) hu

theorem State.portsRestart_frame (s : State) : Frame audioRegs [.ports] s s.portsRestart := by
  have hfresh : Frame audioRegs [.ports] s s.portsFresh := (Frame.withPorts s _).mono (by simp) (by simp)
  rw [State.portsRestart_eq]
  have hback : Frame audioRegs [.ports] s ((List.range 32).foldl State.portBack s.portsFresh) :=
    hfresh.foldl fun u n hn => u.portBack_frame (List.mem_range.mp hn)
  generalize (List.range 32).foldl State.portBack s.portsFresh = b at *
  have hpdm : Frame audioRegs [.ports] s ((b.setReg PDM_READY 0#32).sf PDM_CTL_ARM 0) :=
    hback.step (Frame.setReg b PDM_READY 0#32) (mem_audioRegs (by decide) (by decide))
      |>.step (Frame.sf _ PDM_CTL_ARM 0) (mem_audioRegs (by decide) (by decide))
  refine hpdm.foldl fun u o ho => (Frame.sf u (AES_OUT_CFG_ARM o) 0).mono (fun a ha => ?_) (by simp)
  have ho : o < 4 := List.mem_range.mp ho
  rw [List.mem_singleton.mp ha]
  exact (mem_regsIn (by decide)).mpr ⟨by simp only [AES_OUT_CFG]; omega, by simp only [AES_OUT_CFG]; omega⟩

/-- A hub that is up, in Watch with Upsett due. -/
def State.watchEntered (s : State) (x : Nat) : State :=
  ((((s.moveTo (x + 550 * us1)).updPower fun p => { p with hubWake := none, frames := [], boot := some 2 }).sf PWR_STAT_STATE pWatch).sf
    PWR_STAT_DDR_SR 1).raise PWR_EVT_WAKE

/-- The wake filter's count and the oscillator shown. -/
def State.watchShown (s : State) : State := (s.sf RIM_WF_STAT_HELD 0).setFlag REFSEL_STAT_XO_OK (!(s.sf RIM_WF_STAT_HELD 0).alarm.xoLost)

theorem execHubReady_eq {x : Nat} (hw : s.power.hubWake = some x) (hf : s.power.frames = []) :
    exec .hubReady s = .next ((s.watchEntered x).watchShown.timeRestore.portsRestart) := by
  have hexec : exec .hubReady s = execHubReady s := rfl
  rw [hexec]
  unfold execHubReady
  rw [hw]
  dsimp only
  rw [hf, List.foldl_nil]
  rfl

/-- What a hub that is up shows. -/
structure InWatch (s t : State) (x : Nat) : Prop where
  frame : Frame [PWR_STAT, PWR_EVT] [.now, .power] s t
  now : t.now = max s.now (x + 550 * us1)
  state : t.pstate = pWatch
  wake : t.flag PWR_EVT_WAKE = true
  ddr : t.flag PWR_STAT_DDR_SR = true
  hubWake : t.power.hubWake = none
  boot : t.power.boot = some 2

theorem State.watchEntered_spec (s : State) (x : Nat) : InWatch s (s.watchEntered x) x := by
  have hmoved := Frame.moveTo s (x + 550 * us1)
  have hnow : (s.moveTo (x + 550 * us1)).now = max s.now (x + 550 * us1) := rfl
  unfold State.watchEntered
  generalize s.moveTo (x + 550 * us1) = m at *
  have hupd : Frame [] [.power] m (m.updPower fun p => { p with hubWake := none, frames := [], boot := some 2 }) := Frame.power m _
  have hpower : (m.updPower fun p => { p with hubWake := none, frames := [], boot := some 2 }).power =
      { m.power with hubWake := none, frames := [], boot := some 2 } := rfl
  generalize m.updPower _ = u at *
  have hset : Frame [PWR_STAT, PWR_EVT] [] u (((u.sf PWR_STAT_STATE pWatch).sf PWR_STAT_DDR_SR 1).raise PWR_EVT_WAKE) :=
    (Frame.refl _ _ u).step (Frame.sf u PWR_STAT_STATE pWatch) |>.step (Frame.sf _ PWR_STAT_DDR_SR 1) |>.step (Frame.raise _ PWR_EVT_WAKE)
  have hp := hset.2 .power (by simp)
  refine ⟨?_, ?_, ?_, State.flag_raise_self _ PWR_EVT_WAKE rfl (by decide), ?_, ?_, ?_⟩
  · exact (hmoved.mono (by simp) (by simp)).step hupd |>.step hset
  · rw [hset.2 .now (by simp), hupd.2 .now (by simp), hnow]
  · rw [State.pstate, (Frame.raise _ PWR_EVT_WAKE).rf (by decide), State.rf_sf_ne _ _ (by decide) (by decide) (by decide),
      State.rf_sf_self _ _ _ (by decide) (by decide)]
    rfl
  · rw [State.flag, (Frame.raise _ PWR_EVT_WAKE).rf (by decide), State.rf_sf_self _ _ _ (by decide) (by decide)]
    rfl
  · rw [hp, hpower]
  · rw [hp, hpower]

theorem State.watchShown_spec (s : State) : Frame [RIM_WF_STAT, REFSEL_STAT] [] s s.watchShown
    ∧ s.watchShown.flag REFSEL_STAT_XO_OK = !s.alarm.xoLost := by
  have hset : Frame [RIM_WF_STAT] [] s (s.sf RIM_WF_STAT_HELD 0) := Frame.sf s RIM_WF_STAT_HELD 0
  have halarm := hset.2 .alarm (by simp)
  unfold State.watchShown
  rw [halarm]
  refine ⟨(hset.mono (by simp) (by simp)).step (Frame.setFlag _ REFSEL_STAT_XO_OK _), ?_⟩
  rw [State.flag_setFlag_self _ _ _ rfl (by decide)]

theorem hubReady_watch {x : Nat} (hw : s.power.hubWake = some x) (hf : s.power.frames = []) :
    ∃ t, exec .hubReady s = .next t ∧ t.now = max s.now (x + 550 * us1) ∧ t.pstate = pWatch
      ∧ t.flag PWR_EVT_WAKE = true ∧ t.flag PWR_STAT_DDR_SR = true ∧ t.power.hubWake = none
      ∧ t.power.boot = some 2 ∧ t.flag REFSEL_STAT_XO_OK = !s.alarm.xoLost
      ∧ (∀ a, a ∉ [PWR_STAT, PWR_EVT, RIM_WF_STAT, REFSEL_STAT, TIME_STAT, TIME_EVT, TIME_ERR]
            ++ regsIn 0x200000 0x26FFFF → t.reg a = s.reg a)
      ∧ ∀ p ∈ [Piece.pending, .mem, .ecc, .weave, .border, .compute, .net, .streams, .trust, .alarm, .supv, .skein, .link],
          p.same s t := by
  have hexec := execHubReady_eq hw hf
  have hentered := s.watchEntered_spec x
  generalize s.watchEntered x = e at *
  obtain ⟨hshown, hxo⟩ := e.watchShown_spec
  generalize e.watchShown = w at *
  have htime := w.timeRestore_frame
  generalize w.timeRestore = m at *
  have hports := m.portsRestart_frame
  generalize m.portsRestart = t at *
  have haudio {a : Nat} (h : a < 0x200000 ∨ 0x26FFFF < a) : a ∉ audioRegs := fun hm => by
    have := (mem_regsIn (by decide)).mp hm
    omega
  have hend : Frame ([TIME_STAT, TIME_EVT, TIME_ERR] ++ audioRegs) [.hoop, .sys, .ports] w t :=
    (htime.mono (fun a ha => List.mem_append_left _ ha) (by simp)).step hports (fun a ha => List.mem_append_right _ ha)
  have hout {a : Nat} (h1 : a ∉ [TIME_STAT, TIME_EVT, TIME_ERR]) (h2 : a < 0x200000 ∨ 0x26FFFF < a) : t.reg a = w.reg a :=
    hend.1 a fun hm => (List.mem_append.mp hm).elim h1 (haudio h2)
  have hfield (f : RegField) (h1 : f.reg ∉ [TIME_STAT, TIME_EVT, TIME_ERR]) (h2 : f.reg < 0x200000 ∨ 0x26FFFF < f.reg) : t.rf f = w.rf f :=
    State.rf_congr f (hout h1 h2)
  have hpower : t.power = e.power := (hend.2 .power (by simp)).trans (hshown.2 .power (by simp))
  refine ⟨t, hexec, ?_, ?_, ?_, ?_, by rw [hpower]; exact hentered.hubWake, by rw [hpower]; exact hentered.boot, ?_, fun a ha => ?_, fun p hp => ?_⟩
  · rw [hend.2 .now (by simp), hshown.2 .now (by simp), hentered.now]
  · rw [State.pstate, hfield _ (by decide) (by decide), hshown.rf (by decide)]; exact hentered.state
  · rw [State.flag, hfield _ (by decide) (by decide), hshown.rf (by decide)]; exact hentered.wake
  · rw [State.flag, hfield _ (by decide) (by decide), hshown.rf (by decide)]; exact hentered.ddr
  · rw [State.flag, hfield _ (by decide) (by decide), ← State.flag, hxo, hentered.frame.2 .alarm (by simp)]
  · simp only [List.mem_append, List.mem_cons, List.not_mem_nil, or_false, not_or] at ha
    obtain ⟨⟨h1, h2, h3, h4, h5, h6, h7⟩, h8⟩ := ha
    rw [hend.1 a (by simp only [List.mem_append, List.mem_cons, List.not_mem_nil, or_false, not_or]; exact ⟨⟨h5, h6, h7⟩, h8⟩),
      hshown.1 a (by simp [h3, h4]), hentered.frame.1 a (by simp [h1, h2])]
  · have hkept : Frame ([PWR_STAT, PWR_EVT, RIM_WF_STAT, REFSEL_STAT] ++ ([TIME_STAT, TIME_EVT, TIME_ERR] ++ audioRegs))
        [.now, .power, .hoop, .sys, .ports] s t :=
      (hentered.frame.mono (by simp) (by simp)).step hshown (by simp) |>.step hend (fun a ha => List.mem_append_right _ ha)
    refine hkept.2 p ?_
    simp only [List.mem_cons, List.not_mem_nil, or_false] at hp
    rcases hp with rfl | rfl | rfl | rfl | rfl | rfl | rfl | rfl | rfl | rfl | rfl | rfl | rfl <;> decide

/-! ### Domains powered up, and the sweep's end (R156, R188) -/

/-- A domain's wake over. -/
def State.woken (s : State) (d at_ : Nat) : State :=
  (s.moveTo at_).updPower fun p => { p with waking := p.waking.filter fun x => x.1 != d }

theorem State.woken_spec (s : State) (d at_ : Nat) : Frame [] [.now, .power] s (s.woken d at_) ∧ (s.woken d at_).now = max s.now at_
    ∧ (s.woken d at_).power.waking = s.power.waking.filter fun e => e.1 != d :=
  ⟨(Frame.refl _ _ s).step (Frame.moveTo s at_) |>.step (Frame.power _ _), rfl, rfl⟩

theorem powerUpDone_claim {d : Fin 18} {x : Nat} (hfind : s.power.waking.find? (fun e => e.1 == d.val) = some (d.val, x)) :
    (16 ≤ d.val → Does (.powerUpDone d) s [PWR_STAT] [.now, .power] fun t => t.now = max s.now (x + 400 * us1)
      ∧ t.bit PWR_STAT (d.val + 1) = true ∧ t.power.waking = s.power.waking.filter fun e => e.1 != d.val)
    ∧ (d.val < 16 → (s.cluster d.val).loading = true → s.clState d.val = clLoading →
      s.flag (if d.val < 8 then PWR_STAT_CD0 else PWR_STAT_CD1) = true →
      Does (.powerUpDone d) s [PWR_STAT] [.now, .power] fun t => t.now = max s.now (x + 35 * us1)
        ∧ t.reg PWR_STAT = setBits (s.reg PWR_STAT) d.val d.val 1
        ∧ t.power.waking = s.power.waking.filter fun e => e.1 != d.val) := by
  have hexec : exec (.powerUpDone d) s = execPowerUpDone d s := rfl
  unfold execPowerUpDone at hexec
  dsimp only at hexec
  rw [hfind] at hexec
  dsimp only at hexec
  refine ⟨fun h16 => ?_, fun h16 hload hstate hdie => ?_⟩
  · rw [if_neg (by omega)] at hexec
    obtain ⟨hframe, hnow, hwaking⟩ := s.woken_spec d.val (x + 400 * us1)
    have hf : (if d.val = 16 then PWR_STAT_CD0 else PWR_STAT_CD1) = ⟨PWR_STAT, d.val + 1, d.val + 1⟩ := by
      have hcases : d.val = 16 ∨ d.val = 17 := by have := d.isLt; omega
      rcases hcases with h | h <;> rw [h] <;> rfl
    rw [hf, show (State.updPower _ _) = s.woken d.val (x + 400 * us1) from rfl] at hexec
    generalize s.woken d.val (x + 400 * us1) = w at *
    have hset : Frame [PWR_STAT] [] w (w.sf ⟨PWR_STAT, d.val + 1, d.val + 1⟩ 1) := Frame.sf w ⟨PWR_STAT, d.val + 1, d.val + 1⟩ 1
    refine ⟨_, hexec, (hframe.mono (by simp) (by simp)).step hset, (hset.2 .now (by simp)).trans hnow, ?_,
      (congrArg Power.waking (hset.2 .power (by simp))).trans hwaking⟩
    rw [State.bit, State.sf, State.reg_setReg_self, bitAt_setBits _ _ _ _ (by have := d.isLt; show d.val + 1 < 32; omega), if_pos rfl]
    rfl
  · rw [if_pos h16, if_pos ⟨hload, hstate, hdie⟩] at hexec
    obtain ⟨hframe, hnow, hwaking⟩ := s.woken_spec d.val (x + 35 * us1)
    rw [show (State.updPower _ _) = s.woken d.val (x + 35 * us1) from rfl] at hexec
    generalize s.woken d.val (x + 35 * us1) = w at *
    have hset := Frame.setBit w PWR_STAT d.val
    have hreg : (w.setBit PWR_STAT d.val).reg PWR_STAT = setBits (w.reg PWR_STAT) d.val d.val 1 := State.reg_setReg_self _ _ _
    refine ⟨_, hexec, (hframe.mono (by simp) (by simp)).step hset, (hset.2 .now (by simp)).trans hnow, ?_,
      (congrArg Power.waking (hset.2 .power (by simp))).trans hwaking⟩
    rw [hreg, hframe.1 _ (by simp)]

theorem sweepEnd_claim {w : Sweep} (hsweep : s.supv.sweep = some w)
    (hstay : w.changed = true ∨ s.flag PWR_STAT_BUSY = true ∨ s.pstate ≠ pWatch) :
    Does .sweepEnd s [SUPV_EVT] [.now, .supv] fun t => t.supv = { s.supv with sweep := none }
      ∧ t.reg SUPV_EVT = s.raised SUPV_EVT [SUPV_EVT_SWEEP_DONE]
      ∧ t.now = max s.now (w.since + (s.rf SUPV_TIME_CONFIRM + 1) * sec1) := by
  have hexec : exec .sweepEnd s = execSweepEnd s := rfl
  unfold execSweepEnd at hexec
  rw [hsweep] at hexec
  dsimp only at hexec
  have hmoved := Frame.moveTo s (w.since + (s.rf SUPV_TIME_CONFIRM + 1) * sec1)
  have hnow : (s.moveTo (w.since + (s.rf SUPV_TIME_CONFIRM + 1) * sec1)).now = max s.now (w.since + (s.rf SUPV_TIME_CONFIRM + 1) * sec1) := rfl
  generalize s.moveTo (w.since + (s.rf SUPV_TIME_CONFIRM + 1) * sec1) = m at *
  have hraised := Frame.raise m SUPV_EVT_SWEEP_DONE
  have hreg := m.reg_raise_self SUPV_EVT_SWEEP_DONE
  generalize m.raise SUPV_EVT_SWEEP_DONE = r at *
  have hended : Frame [] [.supv] r { r with supv := { r.supv with sweep := none } } := Frame.withSupv r _
  have hsupv : ({ r with supv := { r.supv with sweep := none } } : State).supv = { r.supv with sweep := none } := rfl
  generalize ({ r with supv := { r.supv with sweep := none } } : State) = t at *
  have hframe : Frame [SUPV_EVT] [.now, .supv] s t := (hmoved.mono (by simp) (by simp)).step hraised |>.step hended
  have hcond : (w.changed || t.flag PWR_STAT_BUSY || t.pstate != pWatch) = true := by
    rw [State.flag, hframe.rf (by decide), ← State.flag, State.pstate, hframe.rf (by decide), ← State.pstate]
    rcases hstay with h | h | h
    · simp [h]
    · simp [h]
    · simp [h]
  rw [if_pos hcond] at hexec
  refine ⟨t, hexec, hframe, ?_, ?_, ?_⟩
  · rw [hsupv, hraised.2 .supv (by simp), hmoved.2 .supv (by simp)]
  · rw [hended.1 _ (by simp)]
    exact hreg.trans (congrArg (fun v => setBits v _ _ 1) (hmoved.1 SUPV_EVT (by simp)))
  · rw [hended.2 .now (by simp), hraised.2 .now (by simp), hnow]

/-! ### The RTC (R341, R508) -/

theorem rimRtcRead_claim {a : Agent} (hreach : s.reaches a RIM_RTC_LO false = true) (ha : a.val ≤ 2) :
    Does (.rimRtcRead a) s [RIM_RTC_HI] [.bus] fun t => t.bus = ⟨false, BitVec.ofNat 32 s.rtc⟩
      ∧ t.reg RIM_RTC_HI = BitVec.ofNat 32 (s.rtc / 2 ^ 32) := by
  have hexec : exec (.rimRtcRead a) s = execRimRtcRead a s := rfl
  unfold execRimRtcRead at hexec
  have hok : (s.ok 0#32).rtcRead.bus.err = false := rfl
  have hread : ¬ 2 < a.val := by omega
  rw [State.access_reaches hreach, if_neg hread, if_neg (by rw [hok]; decide)] at hexec
  have hrtc : (s.ok 0#32).rtc = s.rtc := rfl
  unfold State.rtcRead at hexec
  dsimp only at hexec
  rw [hrtc] at hexec
  refine ⟨_, hexec, (Frame.refl _ _ s).step (Frame.ok s _) |>.step (Frame.setRegN _ RIM_RTC_HI _) |>.step (Frame.ok _ _), rfl, ?_⟩
  rw [State.reg_ok]
  exact State.reg_setReg_self _ _ _

theorem rtcCrystalFail_claim (hrst : s.power.rstLow = false) (hrc : s.flag RIM_STAT_RC_ACTIVE = false) :
    Does .rtcCrystalFail s [RIM_STAT, TIME_STAT, TIME_EVT] [] fun t =>
      t.flag RIM_STAT_RC_ACTIVE = true ∧ t.flag RIM_STAT_XTAL_OK = false
      ∧ t.flag RIM_STAT_XO_OK = s.flag RIM_STAT_XO_OK
      ∧ (s.hubUp = true → t.flag TIME_STAT_RTC_RC = true ∧ t.flag TIME_EVT_RTC_FAIL = true) := by
  have hexec : exec .rtcCrystalFail s = execRtcCrystalFail s := rfl
  unfold execRtcCrystalFail at hexec
  rw [hrst, hrc, if_neg (by decide)] at hexec
  dsimp only at hexec
  have hset : Frame [RIM_STAT] [] s ((s.sf RIM_STAT_XTAL_OK 0).sf RIM_STAT_RC_ACTIVE 1) :=
    (Frame.sf s RIM_STAT_XTAL_OK 0).step (Frame.sf _ RIM_STAT_RC_ACTIVE 1)
  have hactive : ((s.sf RIM_STAT_XTAL_OK 0).sf RIM_STAT_RC_ACTIVE 1).flag RIM_STAT_RC_ACTIVE = true := by
    rw [State.flag, State.rf_sf_self _ _ _ (by decide) (by decide)]
    rfl
  have hxtal : ((s.sf RIM_STAT_XTAL_OK 0).sf RIM_STAT_RC_ACTIVE 1).flag RIM_STAT_XTAL_OK = false := by
    rw [State.flag, State.rf_sf_ne _ _ (by decide) (by decide) (by decide), State.rf_sf_self _ _ _ (by decide) (by decide)]
    rfl
  have hxo : ((s.sf RIM_STAT_XTAL_OK 0).sf RIM_STAT_RC_ACTIVE 1).flag RIM_STAT_XO_OK = s.flag RIM_STAT_XO_OK := by
    rw [State.flag, State.rf_sf_ne _ _ (by decide) (by decide) (by decide), State.rf_sf_ne _ _ (by decide) (by decide) (by decide)]
    rfl
  generalize (s.sf RIM_STAT_XTAL_OK 0).sf RIM_STAT_RC_ACTIVE 1 = m at *
  have hup : m.hubUp = s.hubUp := State.hubUp_congr (hset.1 _ (by decide)) (hset.2 .power (by simp))
  rw [hup] at hexec
  by_cases hs : s.hubUp = true
  · rw [if_pos hs] at hexec
    have hraise : Frame [TIME_STAT, TIME_EVT] [] m ((m.raise TIME_STAT_RTC_RC).raise TIME_EVT_RTC_FAIL) :=
      (Frame.refl _ _ m).step (Frame.raise m TIME_STAT_RTC_RC) |>.step (Frame.raise _ TIME_EVT_RTC_FAIL)
    have hkeep (f : RegField) (hf : f.reg = RIM_STAT) :
        ((m.raise TIME_STAT_RTC_RC).raise TIME_EVT_RTC_FAIL).flag f = m.flag f := by
      rw [State.flag, hraise.rf (by rw [hf]; decide), ← State.flag]
    refine ⟨_, hexec, (hset.mono (by simp) (by simp)).step hraise, (hkeep _ rfl).trans hactive, (hkeep _ rfl).trans hxtal,
      (hkeep _ rfl).trans hxo, fun _ => ⟨?_, State.flag_raise_self _ _ rfl (by decide)⟩⟩
    rw [State.flag, State.rf_congr _ (State.reg_raise_ne _ (by decide)), ← State.flag]
    exact State.flag_raise_self _ _ rfl (by decide)
  · rw [if_neg hs] at hexec
    exact ⟨m, hexec, hset.mono (by simp) (by simp), hactive, hxtal, hxo, fun h => absurd h hs⟩

/-- Settles O56: each wake through `startWake`, the hub's power-up through the state that `watchEntered` gives, and each other
event by its own rule. That the powers-up end after exactly 550, 400 and 35 µs is the model's choice of log 96, and that the
wake filter holds frames is that of log 98. -/
theorem wakeEvents : Obligations.WakeEvents := by
  unfold Obligations.WakeEvents
  refine ⟨fun i src s hi hen hrim => wake_claim hi hen hrim, fun f s hrim hrst hen hlink hsrc => wakeFilterFrame_claim hrim hrst hen hlink hsrc,
    fun s hnone => ?_, fun x s hw hf => hubReady_watch hw hf, fun d x s hfind => powerUpDone_claim hfind,
    fun w s hsweep hstay => sweepEnd_claim hsweep hstay, fun a s hreach ha => rimRtcRead_claim hreach ha,
    fun s hrst hrc => rtcCrystalFail_claim hrst hrc⟩
  have hexec : exec .hubReady s = execHubReady s := rfl
  rw [hexec, execHubReady, hnone]

end Sys2Proof.Machine
end

section
/-! SUPPORT. Proofs/WeaveRoutes.lean: what changes the working state of the route table's entries and nothing else (R50, R52, R54,
R55, R69). -/
-- The proofs of this file are elaborated one after another: side by side their threads exceed the memory of the check.
set_option Elab.async false
namespace Sys2Proof.Machine

open Reg

variable {s t u : State}

/-- Nothing changes but the entries of the route table. -/
def Routed (s t : State) : Prop := ∃ r, t = { s with weave := { s.weave with routes := r } }

theorem Routed.refl (s : State) : Routed s s := ⟨s.weave.routes, rfl⟩

theorem Routed.trans (h : Routed s t) (g : Routed t u) : Routed s u := by
  obtain ⟨r, rfl⟩ := h
  obtain ⟨q, rfl⟩ := g
  exact ⟨q, rfl⟩

theorem Routed.ite {c : Prop} [Decidable c] (h : Routed s t) (g : Routed s u) : Routed s (if c then t else u) := by
  split
  · exact h
  · exact g

theorem Routed.foldl {α : Type} {f : State → α → State} (hf : ∀ u a, Routed u (f u a)) (l : List α) (s : State) : Routed s (l.foldl f s) := by
  induction l generalizing s with
  | nil => exact Routed.refl s
  | cons a l ih => exact (hf s a).trans (ih _)

theorem Routed.frame (h : Routed s t) : Frame [] [.weave] s t := by
  obtain ⟨r, rfl⟩ := h
  exact Frame.withWeave s _

theorem Routed.running (h : Routed s t) : t.weave.running = s.weave.running := by
  obtain ⟨r, rfl⟩ := h
  rfl

theorem Routed.setEntry (s : State) (i : Nat) (e : Entry) : Routed s (s.setEntry i e) := ⟨_, rfl⟩

theorem Routed.rampEntry (s : State) (i t code : Nat) : Routed s (s.rampEntry i t code) := Routed.setEntry s i _

theorem Routed.rampChain (s : State) (i t code : Nat) : Routed s (s.rampChain i t code) :=
  Routed.foldl (fun u _ => Routed.rampEntry u _ _ _) _ s

theorem Routed.freeMembers (s : State) (i : Nat) : Routed s (s.freeMembers i) :=
  Routed.foldl (fun u _ => (Routed.refl u).ite (Routed.setEntry u _ _)) _ s

theorem Routed.retireEntry (s : State) (force : Bool) (i : Nat) : Routed s (s.retireEntry force i) := by
  have hfree := Routed.freeMembers s i
  unfold State.retireEntry
  dsimp only
  refine (Routed.refl s).ite ((hfree.trans (Routed.setEntry _ i _)).ite (Routed.ite ?_ (hfree.trans (Routed.setEntry _ i _))))
  cases (s.entry i).waiting with
  | none => exact hfree.trans (Routed.setEntry _ i _)
  | some w =>
    have hset := hfree.trans (Routed.setEntry (s.freeMembers i) i { s.entry i with
      img := w, gain := 0, ramp := none, fading := false, waiting := none, ecc := false })
    exact (hset.trans (Routed.setEntry _ i _)).ite (hset.trans (Routed.rampEntry _ i _ _))

theorem Routed.retireAll (s : State) (force : Bool) : Routed s (s.retireAll force) :=
  Routed.foldl (fun u i => Routed.retireEntry u force i) _ s

theorem Routed.evalAlarmHolds (s : State) : Routed s s.evalAlarmHolds := Routed.foldl (fun u i => Routed.setEntry u i _) _ s

theorem Routed.evalPageHolds (s : State) : Routed s s.evalPageHolds := Routed.foldl (fun u i => Routed.setEntry u i _) _ s

theorem Routed.settleHolds (s : State) : Routed s s.settleHolds :=
  ((Routed.evalAlarmHolds s).trans (Routed.evalPageHolds _)).trans (Routed.foldl (fun u i => Routed.setEntry u i _) _ _)

theorem Routed.settleRoutes (s : State) : Routed s s.settleRoutes :=
  (Routed.foldl (fun u i => Routed.setEntry u i _) _ s).trans (Routed.settleHolds _)

/-- The restart of the generators and the meters, beside which only the route table changes (R69). -/
structure Restarted (s t : State) : Prop where
  frame : Frame (regFile WEAVE_MTR_PEAK 64 ++ regFile WEAVE_MTR_MS 64) [.weave] s t
  running : t.weave.running = s.weave.running
  meters : ∀ m, m < 64 → t.reg (WEAVE_MTR_PEAK m) = 0#32 ∧ t.reg (WEAVE_MTR_MS m) = 0#32

/-- A meter cleared. -/
def State.meterCleared (s : State) (m : Nat) : State := (s.setReg (WEAVE_MTR_PEAK m) 0#32).setReg (WEAVE_MTR_MS m) 0#32

theorem State.meterCleared_frame (s : State) (m : Nat) : Frame [WEAVE_MTR_PEAK m, WEAVE_MTR_MS m] [] s (s.meterCleared m) :=
  (Frame.refl _ _ s).step (Frame.setReg s _ _) |>.step (Frame.setReg _ _ _)

theorem State.metersCleared_spec (s : State) (n : Nat) :
    Frame (regFile WEAVE_MTR_PEAK n ++ regFile WEAVE_MTR_MS n) [] s ((List.range n).foldl State.meterCleared s)
    ∧ ∀ m, m < n → ((List.range n).foldl State.meterCleared s).reg (WEAVE_MTR_PEAK m) = 0#32
      ∧ ((List.range n).foldl State.meterCleared s).reg (WEAVE_MTR_MS m) = 0#32 := by
  induction n with
  | zero => exact ⟨Frame.refl _ _ s, fun m hm => absurd hm (Nat.not_lt_zero m)⟩
  | succ n ih =>
    obtain ⟨hframe, hzero⟩ := ih
    rw [List.range_succ, List.foldl_append, List.foldl_cons, List.foldl_nil]
    generalize (List.range n).foldl State.meterCleared s = u at *
    have hone := u.meterCleared_frame n
    refine ⟨(hframe.mono (fun a ha => ?_) (by simp)).step hone (by simp [regFile]), fun m hm => ?_⟩
    · simp only [regFile, List.range_succ, List.map_append, List.mem_append] at ha ⊢
      tauto
    by_cases hmn : m = n
    · subst hmn
      refine ⟨?_, State.reg_setReg_self _ _ _⟩
      rw [State.meterCleared, State.reg_setReg_ne _ (by simp only [WEAVE_MTR_PEAK, WEAVE_MTR_MS]; omega), State.reg_setReg_self]
    · obtain ⟨hp, hq⟩ := hzero m (by omega)
      rw [hone.1 _ (by simp only [List.mem_cons, List.not_mem_nil, or_false, WEAVE_MTR_PEAK, WEAVE_MTR_MS]; omega),
        hone.1 _ (by simp only [List.mem_cons, List.not_mem_nil, or_false, WEAVE_MTR_PEAK, WEAVE_MTR_MS]; omega)]
      exact ⟨hp, hq⟩

theorem State.genRestart_spec (s : State) : Frame [] [.weave] s s.genRestart ∧ s.genRestart.weave.running = s.weave.running := by
  refine foldl_inv (fun u => Frame [] [.weave] s u ∧ u.weave.running = s.weave.running) _ _ _ ⟨Frame.withWeave s _, rfl⟩ fun u g _ hu => ?_
  split
  · exact ⟨hu.1.step (Frame.withWeave u _), hu.2⟩
  · exact hu

theorem State.weaveRestart_spec (s : State) : Restarted s s.weaveRestart := by
  have hroutes := (Routed.retireAll s true).trans (Routed.settleRoutes _)
  have hdef : s.weaveRestart =
      State.genRestart { (List.range 64).foldl State.meterCleared (s.retireAll true).settleRoutes with
        weave := { ((List.range 64).foldl State.meterCleared (s.retireAll true).settleRoutes).weave with
          hpf := [], genBlk := [], meters := [], sums := [] } } := rfl
  rw [hdef]
  generalize (s.retireAll true).settleRoutes = r at *
  obtain ⟨hframe, hzero⟩ := r.metersCleared_spec 64
  have hrun : ((List.range 64).foldl State.meterCleared r).weave.running = r.weave.running := by rw [hframe.2 .weave (by simp)]
  generalize (List.range 64).foldl State.meterCleared r = m at *
  have hclear : Frame [] [.weave] m { m with weave := { m.weave with hpf := [], genBlk := [], meters := [], sums := [] } } :=
    Frame.withWeave m _
  obtain ⟨hgen, hgenRun⟩ := State.genRestart_spec { m with weave := { m.weave with hpf := [], genBlk := [], meters := [], sums := [] } }
  have hlast := hclear.step hgen
  refine ⟨(hroutes.frame.mono (by simp) (by simp)).step hframe |>.step hlast, ?_, fun k hk => ?_⟩
  · rw [hgenRun, ← hroutes.running, ← hrun]
  · rw [hlast.1 _ (by simp), hlast.1 _ (by simp)]
    exact hzero k hk

end Sys2Proof.Machine
end

section
/-! SUPPORT. Proofs/HubReset.lean: what a device reset and a cut of the supply leave (R9, R69, R246, R426, R474, R519). -/
-- The proofs of this file are elaborated one after another: side by side their threads exceed the memory of the check.
set_option Elab.async false
namespace Sys2Proof.Machine

open Reg

variable {s t u : State}

/-! ### Entries taken out of a sparse map -/

theorem mget_filter_out {α : Type} (d : Nat → α) (m : SMap α) {q : Nat × α → Bool} {k : Nat} (h : ∀ e, e.1 = k → q e = false) :
    mget d (m.filter q) k = d k := by
  induction m with
  | nil => rfl
  | cons e t ih =>
    by_cases hq : q e = true
    · have hk : e.1 ≠ k := fun hk => by rw [h e hk] at hq; exact absurd hq (by decide)
      rw [List.filter_cons_of_pos hq]
      simp [mget, hk, ih]
    · rw [List.filter_cons_of_neg hq, ih]

/-! ### Every cluster without power (R474) -/

/-- The state that a cluster without power shows. -/
def State.offState (s : State) (c : Nat) : Nat := if s.clState c = clIsolated then clIsolated else clOff

/-- The first clusters without power. -/
structure ComputeOff (n : Nat) (s t : State) : Prop where
  frame : Frame (PWR_STAT :: regFile CL_STAT 16) offPieces s t
  reset : ∀ k, k / 8 < n → (t.stake k).run = .held ∧ (t.stake k).arch = Arch.reset
  bytes : ∀ b, b < 0x0510000000 → t.byte b = s.byte b
  power : PowerKept s.power t.power

theorem ComputeOff.next {n : Nat} (h : ComputeOff n s t) (hn : n < 16) : ComputeOff (n + 1) s (t.clusterOff n (t.offState n)) := by
  obtain ⟨hframe, hwiped, -, -, hpower⟩ := t.clusterOff_spec (t.offState n) hn
  have hstat : CL_STAT n ∈ regFile CL_STAT 16 := List.mem_map_of_mem (List.mem_range.mpr hn)
  have hbase : 0x0510000000 ≤ stakeBase (8 * n) ∧ 0x0510000000 ≤ coilBase n := by
    unfold stakeBase coilBase
    omega
  refine ⟨h.frame.step hframe (by simp [hstat]), fun k hk => ?_, fun b hb => ?_, h.power.trans hpower⟩
  · by_cases hkn : k / 8 = n
    · exact hwiped.reset k hkn
    · rw [hwiped.others k hkn]
      exact h.reset k (by omega)
  · rw [hwiped.bytes b ⟨.inl (by omega), .inl (by omega)⟩, h.bytes b hb]

theorem State.computeOff_spec (s : State) : ComputeOff 16 s s.computeOff := by
  have hgo (n : Nat) (hn : n ≤ 16) (u : State) (hu : ComputeOff 0 s u) :
      ComputeOff n s ((List.range n).foldl (fun s c => s.clusterOff c (s.offState c)) u) := by
    induction n with
    | zero => exact hu
    | succ n ih =>
      rw [List.range_succ, List.foldl_append]
      exact (ih (by omega)).next (by omega)
  exact hgo 16 le_rfl { s with compute := { s.compute with regions := [] } }
    ⟨(Frame.withCompute s _).mono (by simp) (by simp), fun k hk => absurd hk (Nat.not_lt_zero _), fun _ _ => rfl, rfl⟩

/-! ### Registers at their reset values (R9) -/

theorem State.reg_resetRegs (s : State) (a : Nat) : (s.resetRegs false).reg a = if keptReg a = true then s.reg a else regReset a := by
  unfold State.resetRegs
  by_cases hk : keptReg a = true
  · rw [if_pos hk]
    exact mget_filter regReset s.regs fun e he => by rw [he, hk, Bool.true_or]
  · rw [if_neg hk]
    exact mget_filter_out regReset s.regs fun e he => by rw [he, Bool.eq_false_iff.mpr hk, Bool.false_and, Bool.or_false]

/-! ### What a device reset makes of the blocks -/

/-- The clusters that stay isolated in Rim, shown so. -/
def State.isoShown (s : State) (iso : List Nat) : State :=
  iso.foldl (fun (s : State) c => (s.sf (CL_CTL_ISOLATE c) 1).setClState c clIsolated) s

/-- The blocks of the hub at their reset, but for what is retained. -/
def State.hubCleared (s : State) (rim : Bool) (life : Life) : State :=
  { s with
    bus := { err := false, data := 0#32 },
    sys := { s.sys with dep := [], out := [], pass := 0 },
    weave := { Weave.init with routes := s.weave.routes },
    border := { Border.init with chans := s.border.chans },
    net := { Net.init with pnTop := s.net.pnTop },
    streams := Streams.init, pair := Pair.init, supv := if rim then s.supv.suspend else Supv.init, matrix := Matrix.init,
    ports := { Ports.init with tx := if rim then [] else s.resetLines },
    alarm := { s.alarm with rx := [], scenes := [] },
    refsel := { RefSel.init with outs := s.refsel.outs },
    trust := { s.trust with
      comps := if rim then [] else s.trust.comps, run := none, trialAt := none, flOp := none, nonceNew := false,
      site := none, siteNext := none, anOld := none, inPlace := none },
    power := { s.power with
      stalls := [], demand := [], waking := [], hand := none, retry := none, prep := false, hubWake := none, waiting := none,
      hotRegions := [], wardenUp := false, served := none, hotAt := [], hubHot := none, hubCool := none, recovBy := none, life := if rim then life else s.power.life } }

/-- The directory in LPDDR5X lost, and in Rim all of it. -/
def State.ramLost (s : State) (rim : Bool) : State :=
  { s with mem := s.mem.filter fun e => !(Nat.ble 0x0510000000 e.1 && Nat.ble e.1 0x05103FFFFF) && !(rim && Nat.blt e.1 0x0200000000) }

/-- The registers of the Trust block that a reset leaves in part. -/
def State.trustRegs (s : State) : State :=
  let s := s.setReg TRUST_LC (s.reg TRUST_LC &&& 0xF0000000#32)
  s.setReg TRUST_BOOT (s.reg TRUST_BOOT &&& 0xFFFF#32)

/-- The clusters that a way into Rim leaves isolated. -/
def State.isoKept (s : State) (rim : Bool) : List Nat := if rim then (List.range 16).filter fun c => s.clState c == clIsolated else []

theorem State.hubReset_eq (s : State) (rim : Bool) : s.hubReset rim =
    ((((((((s.timeSave.computeOff).resetRegs rim).isoShown (s.isoKept rim)).hubCleared rim s.lifeRim).ramLost rim).weaveRestart.borderRestart).restartPlayers).trustRegs).refWake := rfl

theorem State.isoKept_none (s u : State) : u.isoShown (s.isoKept false) = u := rfl

/-! ### The Border, the players and the reference selector afresh (R68, R69, R215, R374) -/

theorem State.borderRestart_spec (s : State) : Frame [] [.border] s s.borderRestart ∧ s.borderRestart.border.running = s.border.running :=
  foldl_inv (fun u => Frame [] [.border] s u ∧ u.border.running = s.border.running) _ _ _ ⟨Frame.refl _ _ s, rfl⟩
    fun u _ _ ⟨hframe, hrun⟩ => ⟨hframe.step (Frame.withBorder u _), hrun⟩

theorem State.restartPlayers_spec (s : State) : Frame [] [.alarm] s s.restartPlayers ∧ s.restartPlayers.alarm.xoLost = s.alarm.xoLost :=
  foldl_inv (fun u => Frame [] [.alarm] s u ∧ u.alarm.xoLost = s.alarm.xoLost) _ _ _ ⟨Frame.refl _ _ s, rfl⟩
    fun u _ _ ⟨hframe, hxo⟩ => ⟨hframe.step (Frame.setPlayer u _ _), hxo⟩

/-- The registers of the reference selector. -/
abbrev refselRegs : List Nat := regsIn 0x510000 0x51FFFF

theorem mem_refselRegs {a : Nat} (h : 0x510000 ≤ a) (h' : a ≤ 0x51FFFF) : a ∈ refselRegs := (mem_regsIn (by decide)).mpr ⟨h, h'⟩

theorem State.setWord48_frame (s : State) (lo hi : Nat) (x : Int) : Frame [lo, hi] [] s (s.setWord48 lo hi x) := by
  unfold State.setWord48
  exact (Frame.refl _ _ s).step (Frame.setRegN s _ _) |>.step (Frame.setRegN _ _ _)

theorem State.setNco_frame (s : State) (x : Int) : Frame [REFSEL_NCO_LO, REFSEL_NCO_HI, REFSEL_EVT] [] s (s.setNco x) := by
  have hword := s.setWord48_frame REFSEL_NCO_LO REFSEL_NCO_HI (clampInt (-ncoMax) ncoMax x)
  have hall : Frame [REFSEL_NCO_LO, REFSEL_NCO_HI, REFSEL_EVT] [] s (s.setWord48 REFSEL_NCO_LO REFSEL_NCO_HI (clampInt (-ncoMax) ncoMax x)) :=
    hword.mono (by simp) (by simp)
  exact hall.ite (hall.step (Frame.raise _ REFSEL_EVT_NCO_LIMIT))

theorem State.refsAfresh_frame (s : State) (start : Bool) : Frame refselRegs [.refsel] s (s.refsAfresh start) := by
  have hrefs : Frame refselRegs [.refsel] s ((List.range 8).foldl (fun (s : State) r =>
      (s.setReg (REF_STAT r) 0#32).setRef r { RefIn.empty with again := !start && (s.ref r).again }) s) := by
    refine (Frame.refl _ _ s).foldl fun u r hr => ?_
    have hr8 : r < 8 := List.mem_range.mp hr
    exact (Frame.refl _ _ u).step (Frame.setReg u (REF_STAT r) 0#32) (by
      rw [List.forall_mem_singleton]
      exact mem_refselRegs (by simp only [REF_STAT]; omega) (by simp only [REF_STAT]; omega)) |>.step (Frame.withRefsel _ _)
  unfold State.refsAfresh
  dsimp only
  generalize (List.range 8).foldl (fun (s : State) r =>
      (s.setReg (REF_STAT r) 0#32).setRef r { RefIn.empty with again := !start && (s.ref r).again }) s = u at *
  have hstat : ∀ a ∈ [REFSEL_STAT], a ∈ refselRegs := List.forall_mem_singleton.mpr (mem_refselRegs (by decide) (by decide))
  exact hrefs.step (Frame.withRefsel u _) |>.step (Frame.sf _ REFSEL_STAT_SEL 15) hstat |>.step (Frame.sf _ REFSEL_STAT_RANK_DISAGREE 0) hstat

theorem State.refWake_frame (s : State) : Frame refselRegs [.refsel] s s.refWake := by
  have hin : ∀ a ∈ [REFSEL_NCO_LO, REFSEL_NCO_HI, REFSEL_EVT, REFSEL_STAT], a ∈ refselRegs := fun a ha => by
    simp only [List.mem_cons, List.not_mem_nil, or_false] at ha
    rcases ha with rfl | rfl | rfl | rfl <;> exact mem_refselRegs (by decide) (by decide)
  unfold State.refWake
  exact (s.refsAfresh_frame true).step (State.setNco_frame _ _) (fun a ha => hin a (by simp at ha ⊢; tauto))
    |>.step (Frame.sf _ REFSEL_STAT_STATE rsHoldover) (fun a ha => hin a (by simp at ha ⊢; tauto))

/-! ### The hub after a device reset -/

/-- What a reset of the hub leaves, whoever asks for it. -/
structure HubReset (s t : State) : Prop where
  regs : ∀ a, a ∉ [TRUST_LC, TRUST_BOOT] ++ refselRegs → t.reg a = if keptReg a = true then s.reg a else regReset a
  stakes : ∀ k, k < 128 → (t.stake k).run = .held ∧ (t.stake k).arch = Arch.reset
  weave : t.weave.running = false
  border : t.border.running = false
  hand : t.power.hand = none
  warden : t.power.wardenUp = false
  run : t.trust.run = none
  queue : t.hoop.queue = []
  xo : t.alarm.xoLost = s.alarm.xoLost
  pieces : ∀ p ∈ [Piece.pending, .now, .skein, .link], p.same s t
  bytes : ∀ a, 0x0400000000 ≤ a → a < 0x0510000000 → t.byte a = s.byte a

theorem keptReg_power : keptReg PWR_STAT = false ∧ ∀ c, c < 16 → keptReg (CL_STAT c) = false := by decide

theorem meterPeak_kept : ∀ m, m < 64 → keptReg (WEAVE_MTR_PEAK m) = false := by decide +kernel

theorem meterPeak_reset : ∀ m, m < 64 → regReset (WEAVE_MTR_PEAK m) = 0#32 := by decide +kernel

theorem meterMs_kept : ∀ m, m < 64 → keptReg (WEAVE_MTR_MS m) = false := by decide +kernel

theorem meterMs_reset : ∀ m, m < 64 → regReset (WEAVE_MTR_MS m) = 0#32 := by decide +kernel

theorem meters_reset (m : Nat) (h : m < 64) : (keptReg (WEAVE_MTR_PEAK m) = false ∧ regReset (WEAVE_MTR_PEAK m) = 0#32)
    ∧ keptReg (WEAVE_MTR_MS m) = false ∧ regReset (WEAVE_MTR_MS m) = 0#32 :=
  ⟨⟨meterPeak_kept m h, meterPeak_reset m h⟩, meterMs_kept m h, meterMs_reset m h⟩

theorem State.resetRegs_same (s : State) (p : Piece) : p.same s (s.resetRegs false) := by
  cases p <;> simp [Piece.same, State.resetRegs, State.byte]

/-- Pieces of state that the blocks at their reset change. -/
abbrev clearedPieces : List Piece :=
  [.bus, .sys, .weave, .border, .net, .streams, .pair, .supv, .matrix, .ports, .alarm, .refsel, .trust, .power]

theorem State.hubCleared_frame (s : State) (life : Life) : Frame [] clearedPieces s (s.hubCleared false life) :=
  ⟨fun _ _ => rfl, fun p hp => by cases p <;> simp_all [Piece.same, State.byte, State.hubCleared]⟩

/-- What the blocks at their reset show. -/
structure Cleared (s t : State) : Prop where
  weave : t.weave.running = false
  border : t.border.running = false
  hand : t.power.hand = none
  warden : t.power.wardenUp = false
  run : t.trust.run = none
  xo : t.alarm.xoLost = s.alarm.xoLost

theorem State.hubCleared_spec (s : State) (life : Life) : Cleared s (s.hubCleared false life) := by
  unfold State.hubCleared
  exact ⟨rfl, rfl, rfl, rfl, rfl, rfl⟩

theorem State.ramLost_spec (s : State) : Frame [] [.mem] s (s.ramLost false)
    ∧ ∀ a, a < 0x0510000000 → (s.ramLost false).byte a = s.byte a := by
  refine ⟨⟨fun _ _ => rfl, fun p hp => by cases p <;> simp_all [Piece.same, State.ramLost]⟩, fun a ha => ?_⟩
  refine mget_filter memReset s.mem fun e he => ?_
  have hlow : Nat.ble 0x0510000000 e.1 = false := by
    rw [Bool.eq_false_iff, Ne, Nat.ble_eq, he]
    omega
  rw [hlow]
  rfl

/-- The state with its registers at their reset values and every cluster without power. -/
structure Stopped (s t : State) : Prop where
  regs : ∀ a, t.reg a = if keptReg a = true then s.reg a else regReset a
  stakes : ∀ k, k < 128 → (t.stake k).run = .held ∧ (t.stake k).arch = Arch.reset
  queue : t.hoop.queue = []
  xo : t.alarm.xoLost = s.alarm.xoLost
  pieces : ∀ p ∈ [Piece.pending, .now, .skein, .link], p.same s t
  bytes : ∀ a, a < 0x0510000000 → t.byte a = s.byte a

theorem State.stopped_spec (s : State) : Stopped s ((s.timeSave.computeOff).resetRegs false) := by
  have hsave : Frame [] [.hoop] s s.timeSave := Frame.withHoop s _
  have hqueue : s.timeSave.hoop.queue = [] := rfl
  have hoff := s.timeSave.computeOff_spec
  generalize s.timeSave = v at *
  generalize v.computeOff = c at *
  have hall : Frame (PWR_STAT :: regFile CL_STAT 16) (.hoop :: offPieces) s c := (hsave.mono (by simp) (by simp)).step hoff.frame (fun _ h => h)
  have hsame := c.resetRegs_same
  have hreg := c.reg_resetRegs
  generalize c.resetRegs false = t at *
  refine ⟨fun a => ?_, fun k hk => ?_, ?_, ?_, fun p hp => ?_, fun a ha => ?_⟩
  · rw [hreg]
    by_cases hk : keptReg a = true
    · rw [if_pos hk, if_pos hk]
      refine hall.1 a fun hm => ?_
      rcases List.mem_cons.mp hm with rfl | hm
      · rw [keptReg_power.1] at hk
        exact absurd hk (by decide)
      · obtain ⟨n, hn, rfl⟩ := List.mem_map.mp hm
        rw [keptReg_power.2 n (List.mem_range.mp hn)] at hk
        exact absurd hk (by decide)
    · rw [if_neg hk, if_neg hk]
  · rw [State.stake_congr (hsame .compute)]
    exact hoff.reset k (by omega)
  · rw [show t.hoop = c.hoop from hsame .hoop, hoff.frame.2 .hoop (by simp), hqueue]
  · rw [show t.alarm = c.alarm from hsame .alarm, hall.2 .alarm (by simp)]
  · refine Piece.same_trans (hall.2 p ?_) (hsame p)
    simp only [List.mem_cons, List.not_mem_nil, or_false] at hp
    rcases hp with rfl | rfl | rfl | rfl <;> decide
  · rw [hsame .mem a, hoff.bytes a ha, hsave.2 .mem (by simp) a]

/-- What starts again after a reset of the hub. -/
def State.hubStarted (s : State) : State := ((s.weaveRestart.borderRestart).restartPlayers).trustRegs.refWake

theorem State.hubReset_stages (s : State) : s.hubReset false =
    ((((s.timeSave.computeOff).resetRegs false).hubCleared false s.lifeRim).ramLost false).hubStarted := rfl

theorem State.trustRegs_frame (s : State) : Frame [TRUST_LC, TRUST_BOOT] [] s s.trustRegs :=
  (Frame.refl _ _ s).step (Frame.setReg s TRUST_LC _) |>.step (Frame.setReg _ TRUST_BOOT _)

/-- The registers of the meters' readings. -/
abbrev meterRegs : List Nat := regFile WEAVE_MTR_PEAK 64 ++ regFile WEAVE_MTR_MS 64

/-- The blocks that start again. -/
structure Started (s t : State) : Prop where
  frame : Frame (meterRegs ++ ([TRUST_LC, TRUST_BOOT] ++ refselRegs)) [.weave, .border, .alarm, .refsel] s t
  weave : t.weave.running = s.weave.running
  border : t.border.running = s.border.running
  xo : t.alarm.xoLost = s.alarm.xoLost
  meters : ∀ m, m < 64 → t.reg (WEAVE_MTR_PEAK m) = 0#32 ∧ t.reg (WEAVE_MTR_MS m) = 0#32

theorem State.hubStarted_spec (s : State) : Started s s.hubStarted := by
  have hweave := s.weaveRestart_spec
  unfold State.hubStarted
  generalize s.weaveRestart = w at *
  obtain ⟨hborder, hborderRun⟩ := w.borderRestart_spec
  generalize w.borderRestart = b at *
  obtain ⟨hplayers, hxo⟩ := b.restartPlayers_spec
  generalize b.restartPlayers = p at *
  have htrust := p.trustRegs_frame
  generalize p.trustRegs = r at *
  have hwake := r.refWake_frame
  generalize r.refWake = t at *
  have hlast : Frame ([TRUST_LC, TRUST_BOOT] ++ refselRegs) [.border, .alarm, .refsel] w t :=
    (hborder.mono (by simp) (by simp)).step hplayers |>.step htrust |>.step hwake (fun a ha => List.mem_append_right _ ha)
  have hmeter {a : Nat} (ha : a < 0x510000) : t.reg a = w.reg a := by
    refine hlast.1 a fun hm => ?_
    rcases List.mem_append.mp hm with h | h
    · simp only [List.mem_cons, List.not_mem_nil, or_false, TRUST_LC, TRUST_BOOT] at h
      omega
    · have := ((mem_regsIn (by decide)).mp h).1
      omega
  refine ⟨?_, ?_, ?_, ?_, fun m hm => ?_⟩
  · exact (hweave.frame.mono (fun a ha => List.mem_append_left _ ha) (by simp)).step hlast (fun a ha => List.mem_append_right _ ha)
  · rw [hlast.2 .weave (by simp), hweave.running]
  · rw [hwake.2 .border (by simp), htrust.2 .border (by simp), hplayers.2 .border (by simp), hborderRun, hweave.frame.2 .border (by simp)]
  · rw [hwake.2 .alarm (by simp), htrust.2 .alarm (by simp), hxo, hborder.2 .alarm (by simp), hweave.frame.2 .alarm (by simp)]
  · rw [hmeter (by simp only [WEAVE_MTR_PEAK]; omega), hmeter (by simp only [WEAVE_MTR_MS]; omega)]
    exact hweave.meters m hm

theorem State.hubReset_spec (s : State) : HubReset s (s.hubReset false) := by
  have hstop := s.stopped_spec
  rw [State.hubReset_stages]
  generalize (s.timeSave.computeOff).resetRegs false = a at *
  have hclear := a.hubCleared_frame s.lifeRim
  have hshown := a.hubCleared_spec s.lifeRim
  generalize a.hubCleared false s.lifeRim = b at *
  obtain ⟨hram, hbytes⟩ := b.ramLost_spec
  generalize b.ramLost false = c at *
  have hstart := c.hubStarted_spec
  generalize c.hubStarted = t at *
  have hall : Frame [] (.mem :: clearedPieces) a c := (hclear.mono (by simp) (by simp)).step hram
  have hreg (x : Nat) : c.reg x = if keptReg x = true then s.reg x else regReset x := (hall.1 x (by simp)).trans (hstop.regs x)
  refine ⟨fun x hx => ?_, fun k hk => ?_, ?_, ?_, ?_, ?_, ?_, ?_, ?_, fun p hp => ?_, fun x hx hx' => ?_⟩
  · by_cases hm : x ∈ meterRegs
    · have hzero : t.reg x = 0#32 ∧ keptReg x = false ∧ regReset x = 0#32 := by
        rcases List.mem_append.mp hm with h | h
        · obtain ⟨m, hm64, rfl⟩ := List.mem_map.mp h
          have hm := List.mem_range.mp hm64
          exact ⟨(hstart.meters m hm).1, (meters_reset m hm).1⟩
        · obtain ⟨m, hm64, rfl⟩ := List.mem_map.mp h
          have hm := List.mem_range.mp hm64
          exact ⟨(hstart.meters m hm).2, (meters_reset m hm).2⟩
      rw [hzero.1, hzero.2.1, if_neg (by decide), hzero.2.2]
    · rw [hstart.frame.1 x (by rw [List.mem_append, not_or]; exact ⟨hm, hx⟩), hreg]
  · rw [hstart.frame.stake, hall.stake]
    exact hstop.stakes k hk
  · rw [hstart.weave, hram.2 .weave (by simp), hshown.weave]
  · rw [hstart.border, hram.2 .border (by simp), hshown.border]
  · rw [hstart.frame.2 .power (by simp), hram.2 .power (by simp), hshown.hand]
  · rw [hstart.frame.2 .power (by simp), hram.2 .power (by simp), hshown.warden]
  · rw [hstart.frame.2 .trust (by simp), hram.2 .trust (by simp), hshown.run]
  · rw [hstart.frame.2 .hoop (by simp), hall.2 .hoop (by simp), hstop.queue]
  · rw [hstart.xo, hram.2 .alarm (by simp), hshown.xo, hstop.xo]
  · refine Piece.same_trans (hstop.pieces p hp) (Piece.same_trans (hall.2 p ?_) (hstart.frame.2 p ?_)) <;>
      (simp only [List.mem_cons, List.not_mem_nil, or_false] at hp; rcases hp with rfl | rfl | rfl | rfl <;> decide)
  · rw [hstart.frame.2 .mem (by simp) x, hbytes x hx', hclear.2 .mem (by simp) x, hstop.bytes x hx']

/-! ### A device reset (R9, R246, R426, R474) -/

theorem State.trialFail_frame (s : State) : Frame [TRUST_SLOTS, TRUST_EVT] [] s s.trialFail := by
  have hslots (f g : RegField) (v : Nat) (hf : f.reg = TRUST_SLOTS) (hg : g.reg = TRUST_SLOTS) :
      Frame [TRUST_SLOTS, TRUST_EVT] [] s (((s.sf f 6).sf g v).raise TRUST_EVT_TRIAL_FAIL) :=
    (Frame.refl _ _ s).step (Frame.sf s f 6) (by simp [hf]) |>.step (Frame.sf _ g v) (by simp [hg]) |>.step (Frame.raise _ TRUST_EVT_TRIAL_FAIL)
  unfold State.trialFail
  dsimp only
  exact (hslots TRUST_SLOTS_SKN_A TRUST_SLOTS_SKN_B _ rfl rfl).ite ((hslots TRUST_SLOTS_SKN_B TRUST_SLOTS_SKN_A _ rfl rfl).ite (Frame.refl _ _ s))

theorem State.portReset_hand (s : State) {p : Nat} (hp : p < 35) :
    (s.portReset p).power.hand = s.power.hand ∧ (s.portReset p).power.wardenUp = s.power.wardenUp := by
  rw [(s.portReset_spec hp).2.2.2.1]
  exact ⟨rfl, rfl⟩

/-- The slots and ports after the hub's reset. -/
def State.portsAfresh (s : State) : State := (s.trialFail.portReset 3).portReset 4

/-- Registers that the slots and ports after the hub's reset may change. -/
abbrev afreshRegs : List Nat := [TRUST_SLOTS, TRUST_EVT] ++ (portRegs 3 ++ portRegs 4)

theorem State.portsAfresh_spec (s : State) : Frame afreshRegs [.power] s s.portsAfresh ∧ s.portsAfresh.power.hand = s.power.hand
    ∧ s.portsAfresh.power.wardenUp = s.power.wardenUp := by
  have htrial := s.trialFail_frame
  unfold State.portsAfresh
  generalize s.trialFail = u at *
  have h3 := (u.portReset_spec (p := 3) (by decide)).1
  obtain ⟨hhand3, hwarden3⟩ := u.portReset_hand (p := 3) (by decide)
  generalize u.portReset 3 = v at *
  have h4 := (v.portReset_spec (p := 4) (by decide)).1
  obtain ⟨hhand4, hwarden4⟩ := v.portReset_hand (p := 4) (by decide)
  have hpower := htrial.2 .power (by simp)
  refine ⟨?_, ?_, ?_⟩
  · exact (htrial.mono (fun a ha => List.mem_append_left _ ha) (by simp)).step h3
      (fun a ha => List.mem_append_right _ (List.mem_append_left _ ha)) |>.step h4 (fun a ha => List.mem_append_right _ (List.mem_append_right _ ha))
  · rw [hhand4, hhand3, hpower]
  · rw [hwarden4, hwarden3, hpower]

/-- What a device reset leaves beside `DeviceReset`. -/
structure ResetDone (s t : State) : Prop where
  done : DeviceReset s t
  xo : t.alarm.xoLost = s.alarm.xoLost

/-- The blocks whose registers a device reset may leave otherwise than at their reset values. -/
abbrev resetBlocks : List Nat := regsIn 0x510000 0x51FFFF ++ regsIn 0x700000 0x70FFFF ++ regsIn 0x30000 0x3FFFF ++ regsIn 0x50000 0x5FFFF

theorem mem_resetBlocks {a : Nat} : a ∈ resetBlocks ↔ (0x510000 ≤ a ∧ a ≤ 0x51FFFF) ∨ (0x700000 ≤ a ∧ a ≤ 0x70FFFF)
    ∨ (0x30000 ≤ a ∧ a ≤ 0x3FFFF) ∨ (0x50000 ≤ a ∧ a ≤ 0x5FFFF) := by
  rw [List.mem_append, List.mem_append, List.mem_append, mem_regsIn (by decide), mem_regsIn (by decide), mem_regsIn (by decide),
    mem_regsIn (by decide)]
  tauto

theorem portRegs_block {a p : Nat} (hp : p < 35) (h : a ∈ portRegs p) : a ∈ resetBlocks := by
  rw [mem_resetBlocks]
  simp only [portRegs, regFile, List.mem_cons, List.mem_map, List.mem_range, MATRIX_PORT_STAT, LOCK_BROKEN_LO, LOCK_BROKEN_HI,
    LOCK_EVT, LOCK_PEEK, MATRIX_EVT] at h
  obtain h | h | h | h | h | ⟨n, hn, h⟩ := h
  iterate 5 omega
  omega

theorem afreshRegs_block {a : Nat} (h : a ∈ afreshRegs) : a ∈ resetBlocks := by
  rcases List.mem_append.mp h with h | h
  · rw [mem_resetBlocks]
    simp only [List.mem_cons, List.not_mem_nil, or_false, TRUST_SLOTS, TRUST_EVT] at h
    omega
  · rcases List.mem_append.mp h with h | h
    · exact portRegs_block (by decide) h
    · exact portRegs_block (by decide) h

/-- Upsett due after a reset. -/
def State.bootDue (s : State) : State := { s with power := { s.power with boot := some 1 } }

theorem State.bootDue_spec (s : State) : Frame [] [.power] s s.bootDue ∧ s.bootDue.power.boot = some 1
    ∧ s.bootDue.power.hand = s.power.hand ∧ s.bootDue.power.wardenUp = s.power.wardenUp := ⟨Frame.power s _, rfl, rfl, rfl⟩

theorem State.deviceReset_eq (s : State) : s.deviceReset = (s.hubReset false).portsAfresh.bootDue := rfl

theorem State.deviceReset_spec (s : State) : ResetDone s s.deviceReset := by
  have hhub := s.hubReset_spec
  rw [State.deviceReset_eq]
  generalize s.hubReset false = h at *
  obtain ⟨hafresh, hhand, hwarden⟩ := h.portsAfresh_spec
  generalize h.portsAfresh = u at *
  obtain ⟨hboot, hdue, hdueHand, hdueWarden⟩ := u.bootDue_spec
  generalize u.bootDue = t at *
  have hall : Frame afreshRegs [.power] h t := hafresh.step hboot
  refine ⟨⟨fun a ha => ?_, fun k hk => ?_, ?_, ?_, ?_, ?_, ?_, ?_, ?_, fun p hp => ?_, fun a ha ha' => ?_⟩, ?_⟩
  · have hout : a ∉ [TRUST_LC, TRUST_BOOT] ++ refselRegs := fun hm => by
      refine ha (mem_resetBlocks.mpr ?_)
      rcases List.mem_append.mp hm with hm | hm
      · simp only [List.mem_cons, List.not_mem_nil, or_false, TRUST_LC, TRUST_BOOT] at hm
        omega
      · exact .inl ((mem_regsIn (by decide)).mp hm)
    rw [hall.1 a fun hm => ha (afreshRegs_block hm), hhub.regs a hout]
  · rw [hall.stake]
    exact hhub.stakes k hk
  · rw [hall.2 .weave (by simp), hhub.weave]
  · rw [hall.2 .border (by simp), hhub.border]
  · exact hdue
  · rw [hdueHand, hhand, hhub.hand]
  · rw [hdueWarden, hwarden, hhub.warden]
  · rw [hall.2 .trust (by simp), hhub.run]
  · rw [hall.2 .hoop (by simp), hhub.queue]
  · refine Piece.same_trans (hhub.pieces p hp) (hall.2 p ?_)
    simp only [List.mem_cons, List.not_mem_nil, or_false] at hp
    rcases hp with rfl | rfl | rfl | rfl <;> decide
  · rw [hall.2 .mem (by simp) a, hhub.bytes a ha ha']
  · rw [hall.2 .alarm (by simp), hhub.xo]

end Sys2Proof.Machine
end

section
/-! SUPPORT. Proofs/Resets.lean: PWR_RESET and PWR_CYCLE, the reset balls, and the loss and return of the oscillator (R373, R388,
R507, R517 to R521). -/
-- The proofs of this file are elaborated one after another: side by side their threads exceed the memory of the check.
set_option Elab.async false
namespace Sys2Proof.Machine

open Reg

variable {s t u : State} {a : Agent} {key : BitVec 8}

/-! ### Packet numbers saved before a reset (R388) -/

/-- The packet number of one association written in place of its block's top. -/
def State.pnSaved (s : State) (e : Nat × Nat) : State :=
  let v := s.pn (e.1 / 4) (e.1 % 4)
  if s.saKeyed (e.1 / 4) (e.1 % 4) && Nat.blt v e.2 then
    ({ s with net := { s.net with pnTop := mset (fun _ => 0) s.net.pnTop e.1 v } }).logRec 3 [e.1 / 4, e.1 % 4, v]
  else s

theorem State.pnSaved_frame (s : State) (e : Nat × Nat) : Frame [TRUST_EVT] [.trust, .net] s (s.pnSaved e) := by
  unfold State.pnSaved
  dsimp only
  exact Frame.ite ((Frame.refl _ _ s).step (Frame.withNet s _) |>.step (State.logRec_frame _ 3 _)) (Frame.refl _ _ s)

/-- The sealing counter written in place of its block's top. -/
def State.sealSaved (s : State) : State :=
  if s.link.sealNext < s.link.sealTop then
    ({ s with link := { s.link with sealTop := s.link.sealNext } }).logRec 3 [255, 0, s.link.sealNext]
  else s

theorem State.pnSave_eq (s : State) : s.pnSave = (s.net.pnTop.foldl State.pnSaved s).sealSaved := rfl

theorem State.sealSaved_spec (s : State) : Frame [TRUST_EVT] [.trust, .link] s s.sealSaved
    ∧ s.sealSaved.link = { s.link with sealTop := min s.link.sealTop s.link.sealNext } := by
  unfold State.sealSaved
  split
  case isTrue h =>
    have hset := Frame.withLink s { s.link with sealTop := s.link.sealNext }
    have hlog := State.logRec_frame { s with link := { s.link with sealTop := s.link.sealNext } } 3 [255, 0, s.link.sealNext]
    refine ⟨(hset.mono (by simp) (by simp)).step hlog, ?_⟩
    rw [hlog.2 .link (by simp), Nat.min_eq_right (Nat.le_of_lt h)]
  case isFalse h =>
    refine ⟨Frame.refl _ _ s, ?_⟩
    rw [Nat.min_eq_left (Nat.le_of_not_lt h)]

theorem State.pnSave_spec (s : State) : Frame [TRUST_EVT] [.trust, .net, .link] s s.pnSave
    ∧ s.pnSave.link = { s.link with sealTop := min s.link.sealTop s.link.sealNext } := by
  have hpn : Frame [TRUST_EVT] [.trust, .net] s (s.net.pnTop.foldl State.pnSaved s) :=
    (Frame.refl _ _ s).foldl fun u e _ => u.pnSaved_frame e
  rw [State.pnSave_eq]
  generalize s.net.pnTop.foldl State.pnSaved s = u at *
  obtain ⟨hseal, hlink⟩ := u.sealSaved_spec
  refine ⟨(hpn.mono (fun _ h => h) (by simp)).step hseal, ?_⟩
  rw [hlink, hpn.2 .link (by simp)]

/-! ### A device reset with the packet numbers saved -/

/-- The link as a reset that saves its numbers leaves it. -/
def State.linkSaved (s : State) : Link :=
  { s.link with sealTop := if s.power.wardenUp = true then min s.link.sealTop s.link.sealNext else s.link.sealTop }

/-- What a reset that saves its numbers leaves. -/
structure SavedReset (s t : State) : Prop where
  boot : t.power.boot = some 1
  warden : t.power.wardenUp = false
  link : t.link = s.linkSaved
  reset : s.linkSaved = s.link → DeviceReset s t
  xo : t.alarm.xoLost = s.alarm.xoLost
  stakes : ∀ k, k < 128 → (t.stake k).run = .held
  kept : ∀ a, a < 0x30000 → keptReg a = true → t.reg a = s.reg a

theorem notMem_resetBlocks {a : Nat} (h : a < 0x30000) : a ∉ resetBlocks := fun hm => by
  have := mem_resetBlocks.mp hm
  omega

/-- What is saved before the reset lies in blocks that the reset leaves as they are, or in the log. -/
theorem SavedReset.of_reset (hsave : Frame [TRUST_EVT] [.trust, .net, .link] s u) (hlink : u.link = s.linkSaved) (h : ResetDone u t) :
    SavedReset s t := by
  obtain ⟨⟨hregs, hstakes, hweave, hborder, hboot, hhand, hwarden, hrun, hqueue, hpieces, hbytes⟩, hxo⟩ := h
  have hkept : t.link = u.link := hpieces .link (by simp)
  have htrust (a : Nat) (ha : a ∉ resetBlocks) : u.reg a = s.reg a := hsave.1 a fun hm => ha (by
    rw [mem_resetBlocks]
    simp only [List.mem_cons, List.not_mem_nil, or_false, TRUST_EVT] at hm
    omega)
  refine ⟨hboot, hwarden, hkept.trans hlink, fun hsame => ⟨fun a ha => ?_, hstakes, hweave, hborder, hboot, hhand, hwarden, hrun, hqueue,
      fun p hp => ?_, fun a ha ha' => ?_⟩, ?_, fun k hk => (hstakes k hk).1, fun a ha hk => ?_⟩
  · rw [hregs a ha, htrust a ha]
  · by_cases hl : p = .link
    · subst hl
      exact hkept.trans (hlink.trans hsame)
    · refine Piece.same_trans (hsave.2 p ?_) (hpieces p hp)
      simp only [List.mem_cons, List.not_mem_nil, or_false] at hp
      rcases hp with rfl | rfl | rfl | rfl
      · decide
      · decide
      · decide
      · exact absurd rfl hl
  · rw [hbytes a ha ha', hsave.2 .mem (by simp) a]
  · rw [hxo, hsave.2 .alarm (by simp)]
  · rw [hregs a (notMem_resetBlocks ha), if_pos hk, htrust a (notMem_resetBlocks ha)]

theorem State.savedReset_spec (s : State) : SavedReset s s.savedReset := by
  unfold State.savedReset
  cases hup : s.power.wardenUp with
  | false =>
    rw [if_neg (by decide)]
    have hlink : s.link = s.linkSaved := by
      rw [State.linkSaved, hup]
      rfl
    exact SavedReset.of_reset (Frame.refl _ _ s) hlink s.deviceReset_spec
  | true =>
    rw [if_pos rfl]
    obtain ⟨hframe, hlink⟩ := s.pnSave_spec
    have hsaved : s.pnSave.link = s.linkSaved := by
      rw [hlink, State.linkSaved, hup]
      rfl
    exact SavedReset.of_reset hframe hsaved s.pnSave.deviceReset_spec

/-- A device reset is the same whatever the bus holds before and after it. -/
theorem DeviceReset.bus {s' u : State} (h : DeviceReset s' u) (hs : Frame [] [.bus] s s') (ht : Frame [] [.bus] u t) : DeviceReset s t := by
  obtain ⟨hregs, hstakes, hweave, hborder, hboot, hhand, hwarden, hrun, hqueue, hpieces, hbytes⟩ := h
  have hpower : t.power = u.power := ht.2 .power (by simp)
  refine ⟨fun a ha => ?_, fun k hk => ?_, ?_, ?_, ?_, ?_, ?_, ?_, ?_, fun p hp => ?_, fun a ha ha' => ?_⟩
  · rw [ht.1 a (by simp), hregs a ha, hs.1 a (by simp)]
  · rw [ht.stake]
    exact hstakes k hk
  · rw [ht.2 .weave (by simp), hweave]
  · rw [ht.2 .border (by simp), hborder]
  · rw [hpower, hboot]
  · rw [hpower, hhand]
  · rw [hpower, hwarden]
  · rw [ht.2 .trust (by simp), hrun]
  · rw [ht.2 .hoop (by simp), hqueue]
  · have hne : p ∉ [Piece.bus] := by
      simp only [List.mem_cons, List.not_mem_nil, or_false] at hp
      rcases hp with rfl | rfl | rfl | rfl <;> decide
    exact Piece.same_trans (Piece.same_trans (hs.2 p hne) (hpieces p hp)) (ht.2 p hne)
  · rw [ht.2 .mem (by simp) a, hbytes a ha ha', hs.2 .mem (by simp) a]

/-! ### PWR_RESET and PWR_CYCLE (R507) -/

theorem key_bits (key : BitVec 8) : bitsOf (key.setWidth 32) 7 0 = 0xA5 ↔ key = 0xA5#8 := by
  have hval : bitsOf (key.setWidth 32) 7 0 = key.toNat := by
    have hlt : key.toNat < 256 := key.isLt
    have hwide : (key.setWidth 32).toNat = key.toNat := by rw [BitVec.toNat_setWidth]; omega
    rw [bitsOf, hwide]
    exact Nat.mod_eq_of_lt hlt
  rw [hval]
  exact ⟨fun h => BitVec.eq_of_toNat_eq h, fun h => by rw [h]; rfl⟩

/-- A write of the key to either register, by an agent that may use it. -/
theorem State.keyWrite_ok (s : State) (k : Nat) (hkey : bitsOf (key.setWidth 32) 7 0 = 0xA5 ↔ key = 0xA5#8) :
    (if bitsOf (key.setWidth 32) 7 0 = 0xA5 then s.reqStep k else s).ok 0#32 = if key = 0xA5#8 then (s.reqStep k).ok 0#32 else s.ok 0#32 := by
  by_cases h : key = 0xA5#8
  · rw [if_pos h, if_pos (hkey.mpr h)]
  · rw [if_neg h, if_neg (mt hkey.mp h)]

theorem State.pwrResetWrite_eq (s : State) (ha : a.val ≤ 1) : s.pwrResetWrite a.val (key.setWidth 32) =
    if key = 0xA5#8 then (s.reqStep 5).ok 0#32 else s.ok 0#32 := by
  have hmay : ¬ 1 < a.val := by omega
  rw [State.pwrResetWrite, if_neg hmay, s.keyWrite_ok 5 (key_bits key)]

theorem State.pwrCycleWrite_eq (s : State) (ha : a.val ≤ 1) : s.pwrCycleWrite a.val (key.setWidth 32) =
    if key = 0xA5#8 then (s.reqStep 6).ok 0#32 else s.ok 0#32 := by
  have hmay : ¬ 1 < a.val := by omega
  rw [State.pwrCycleWrite, if_neg hmay, s.keyWrite_ok 6 (key_bits key)]

/-- A step that waits for a handshake in progress. -/
def State.stepWaits (s : State) (k : Nat) : State := s.updPower fun p => { p with waiting := some k }

theorem State.stepWaits_spec (s : State) (k : Nat) : Frame [] [.power] s (s.stepWaits k)
    ∧ (s.stepWaits k).power = { s.power with waiting := some k } := ⟨Frame.power s _, rfl⟩

theorem State.reqStep_waits (h : s.power.hand.isSome = true) (k : Nat) : s.reqStep k = s.stepWaits k := by
  rw [State.reqStep, if_pos h]
  rfl

theorem State.reqStep_now (h : s.power.hand = none) (k : Nat) : s.reqStep k = s.takeStep k := by
  rw [State.reqStep, if_neg (by rw [h]; decide)]

theorem State.pcyc_spec (s : State) : Frame [] [.power] s s.pcyc
    ∧ s.pcyc.power = { s.power with pcycEnd := some (s.now + (s.reg PWR_PCYC).toNat * ms1) } := ⟨Frame.power s _, rfl⟩

theorem pwrReset_claim (ha : a.val ≤ 1) (hr : s.reaches a PWR_RESET true = true) :
    (key ≠ 0xA5#8 → Does (.pwrReset a key) s [] [.bus] fun t => t.bus.err = false)
    ∧ (key = 0xA5#8 → s.power.hand.isSome = true → Does (.pwrReset a key) s [] [.power, .bus] fun t =>
        t.bus.err = false ∧ t.power = { s.power with waiting := some 5 })
    ∧ (key = 0xA5#8 → s.power.hand = none → ∃ t, exec (.pwrReset a key) s = .next t ∧ t.bus.err = false
        ∧ t.power.boot = some 1 ∧ t.power.wardenUp = false
        ∧ (t.link = { s.link with sealTop :=
            if s.power.wardenUp = true then min s.link.sealTop s.link.sealNext else s.link.sealTop })
        ∧ (s.power.wardenUp = false ∨ s.link.sealTop ≤ s.link.sealNext → DeviceReset s t)) := by
  have hok := Frame.ok s 0#32
  have hpower : (s.ok 0#32).power = s.power := hok.2 .power (by simp)
  have hwrite := (s.ok 0#32).pwrResetWrite_eq (key := key) ha
  refine ⟨fun hkey => ?_, fun hkey hhand => ?_, fun hkey hhand => ?_⟩
  · rw [if_neg hkey] at hwrite
    exact Does.of_write rfl hr hwrite rfl ((Frame.refl _ _ s).step hok |>.step (Frame.ok _ _)) rfl
  · rw [if_pos hkey, State.reqStep_waits (by rw [hpower]; exact hhand)] at hwrite
    obtain ⟨hframe, hwait⟩ := (s.ok 0#32).stepWaits_spec 5
    generalize (s.ok 0#32).stepWaits 5 = w at *
    refine Does.of_write rfl hr hwrite rfl ((Frame.refl _ _ s).step hok |>.step hframe |>.step (Frame.ok _ _)) ⟨rfl, ?_⟩
    rw [(Frame.ok w 0#32).2 .power (by simp), hwait, hpower]
  · rw [if_pos hkey, State.reqStep_now (by rw [hpower]; exact hhand)] at hwrite
    have hstep : (s.ok 0#32).takeStep 5 = (s.ok 0#32).savedReset := rfl
    rw [hstep] at hwrite
    have hsaved := (s.ok 0#32).savedReset_spec
    generalize (s.ok 0#32).savedReset = r at *
    have hdone := Frame.ok r 0#32
    have hlink : (s.ok 0#32).linkSaved = s.linkSaved := by
      rw [State.linkSaved, State.linkSaved, hpower, hok.2 .link (by simp)]
    have hexec : exec (.pwrReset a key) s = .next (r.ok 0#32) := by
      have hx : exec (.pwrReset a key) s = execPwrReset a key s := rfl
      rw [hx, execPwrReset, State.regWrite_ok hr (by rw [hwrite]; rfl), hwrite]
    refine ⟨_, hexec, rfl, ?_, ?_, ?_, fun hseal => ?_⟩
    · rw [hdone.2 .power (by simp), hsaved.boot]
    · rw [hdone.2 .power (by simp), hsaved.warden]
    · rw [hdone.2 .link (by simp), hsaved.link, hlink]
      rfl
    · refine (hsaved.reset ?_).bus hok hdone
      rw [hlink, hok.2 .link (by simp), State.linkSaved]
      rcases hseal with h | h
      · rw [h, if_neg (by decide)]
      · rw [Nat.min_eq_left h, ite_self]

theorem pwrCycle_claim (ha : a.val ≤ 1) (hr : s.reaches a PWR_CYCLE true = true) :
    (key ≠ 0xA5#8 → Does (.pwrCycle a key) s [] [.bus] fun t => t.bus.err = false)
    ∧ (key = 0xA5#8 → Does (.pwrCycle a key) s [] [.power, .bus] fun t => t.bus.err = false
        ∧ t.power = if s.power.hand.isSome then { s.power with waiting := some 6 }
            else { s.power with pcycEnd := some (s.now + (s.reg PWR_PCYC).toNat * ms1) }) := by
  have hok := Frame.ok s 0#32
  have hpower : (s.ok 0#32).power = s.power := hok.2 .power (by simp)
  have hwrite := (s.ok 0#32).pwrCycleWrite_eq (key := key) ha
  refine ⟨fun hkey => ?_, fun hkey => ?_⟩
  · rw [if_neg hkey] at hwrite
    exact Does.of_write rfl hr hwrite rfl ((Frame.refl _ _ s).step hok |>.step (Frame.ok _ _)) rfl
  · rw [if_pos hkey] at hwrite
    cases hhand : s.power.hand with
    | some h =>
      rw [State.reqStep_waits (by rw [hpower, hhand]; rfl)] at hwrite
      obtain ⟨hframe, hwait⟩ := (s.ok 0#32).stepWaits_spec 6
      generalize (s.ok 0#32).stepWaits 6 = w at *
      refine Does.of_write rfl hr hwrite rfl ((Frame.refl _ _ s).step hok |>.step hframe |>.step (Frame.ok _ _)) ⟨rfl, ?_⟩
      rw [(Frame.ok w 0#32).2 .power (by simp), hwait, hpower, Option.isSome_some, if_pos rfl]
    | none =>
      rw [State.reqStep_now (by rw [hpower, hhand])] at hwrite
      have hstep : (s.ok 0#32).takeStep 6 = (s.ok 0#32).pcyc := rfl
      rw [hstep] at hwrite
      obtain ⟨hframe, hwait⟩ := (s.ok 0#32).pcyc_spec
      generalize (s.ok 0#32).pcyc = w at *
      refine Does.of_write rfl hr hwrite rfl ((Frame.refl _ _ s).step hok |>.step hframe |>.step (Frame.ok _ _)) ⟨rfl, ?_⟩
      rw [(Frame.ok w 0#32).2 .power (by simp), hwait, hpower, hok.1 _ (by simp), hok.2 .now (by simp), Option.isSome_none, if_neg (by decide)]

theorem powerCycleFail_claim {x : Nat} (hpcyc : s.power.pcycEnd = some x) (hhand : s.power.hand.isSome = true) :
    Does .powerCycleFail s [TRUST_EVT] [.now, .power, .trust] fun t => t.now = max s.now (x + sec1)
      ∧ t.power = { s.power with pcycEnd := none, waiting := some 3 } ∧ t.trust.logSeq = s.trust.logSeq + 1 := by
  have hexec : exec .powerCycleFail s = execPowerCycleFail s := rfl
  unfold execPowerCycleFail at hexec
  rw [hpcyc] at hexec
  dsimp only at hexec
  have hmoved := Frame.moveTo s (x + sec1)
  have hnow : (s.moveTo (x + sec1)).now = max s.now (x + sec1) := rfl
  generalize s.moveTo (x + sec1) = m at *
  have hupd : Frame [] [.power] m (m.updPower fun p => { p with pcycEnd := none }) := Frame.power m _
  have hpower : (m.updPower fun p => { p with pcycEnd := none }).power = { m.power with pcycEnd := none } := rfl
  generalize m.updPower _ = u at *
  have hlog := Frame.wardenEvent u 11 []
  have hseq : (u.wardenEvent 11 []).trust.logSeq = u.trust.logSeq + 1 := congrArg Trust.logSeq (u.logRec_trust 1 _)
  generalize u.wardenEvent 11 [] = w at *
  have hwpower : w.power = { s.power with pcycEnd := none } := by rw [hlog.2 .power (by simp), hpower, hmoved.2 .power (by simp)]
  rw [State.reqStep_waits (by rw [hwpower]; exact hhand)] at hexec
  obtain ⟨hframe, hwait⟩ := w.stepWaits_spec 3
  generalize w.stepWaits 3 = t at *
  refine ⟨t, hexec, (hmoved.mono (by simp) (by simp)).step hupd |>.step hlog |>.step hframe, ?_, ?_, ?_⟩
  · rw [hframe.2 .now (by simp), hlog.2 .now (by simp), hupd.2 .now (by simp), hnow]
  · rw [hwait, hwpower]
  · rw [hframe.2 .trust (by simp), hseq, hupd.2 .trust (by simp), hmoved.2 .trust (by simp)]

/-! ### RST_N and VDD_RIM (R519) -/

/-- What a register keeps in Off. -/
abbrev offKept (a : Nat) : Bool := a == TRUST_LC || a == TRUST_SVN || a == TRUST_SLOTS || (Nat.ble 0x800200 a && Nat.ble a 0x8002FF && a % 8 == 4)

/-- The part without power. -/
def State.cutOff (s : State) (low : Bool) : State :=
  { State.reset with
    pending := s.pending, now := s.now, fv := s.fv, bus := s.bus,
    regs := s.regs.filter fun e => offKept e.1,
    mem := s.mem.filter fun e => Nat.ble 0x0400000000 e.1 && Nat.ble e.1 0x040FFFFFFF,
    net := { Net.init with pnTop := s.logTops },
    link := { Link.init with term := s.logTerm, sealNext := s.logSeal, sealTop := s.logSeal },
    trust := { s.trust with
      mark := none, comps := [], run := none, trialAt := none, flOp := none, nonceNew := false, debugged := false,
      site := none, siteNext := none, anOld := none, inPlace := none },
    power := { Power.init with
      life := s.power.life.off, rstLow := low, rtcAt := s.now, role := s.power.role, boot := if low then none else some 0,
      cycleBoots := if s.power.pcycEnd.isSome then s.power.cycleBoots ++ [s.now] else s.power.cycleBoots },
    alarm := { Alarm.init with
      loops := s.alarm.loops, keyCtr := s.logCounters false, senderCtr := s.logCounters true, xoLost := s.alarm.xoLost },
    sys := { Sys.init with roundStart := s.now },
    refsel := { RefSel.init with evalAt := s.now } }

/-- The lifecycle as it reads without power, and the time of day afresh. -/
def State.offShown (s : State) (lc : Word) : State := (s.setReg TRUST_LC (lc &&& 0xF0000000#32)).setTod 0

theorem State.powerOff_eq (s : State) (low : Bool) : s.powerOff low = (s.cutOff low).offShown (s.reg TRUST_LC) := rfl

/-- What the part without power holds. -/
structure CutOff (s t : State) (low : Bool) : Prop where
  rst : t.power.rstLow = low
  boot : t.power.boot = if low then none else some 0
  pending : t.pending = s.pending
  now : t.now = s.now
  weave : t.weave.running = false
  stakes : ∀ k, t.stake k = Stake.reset
  regs : ∀ a, t.reg a = if offKept a = true then s.reg a else regReset a
  bytes : ∀ a, t.byte a = if 0x0400000000 ≤ a ∧ a ≤ 0x040FFFFFFF then s.byte a else 0#8

theorem State.cutOff_spec (s : State) (low : Bool) : CutOff s (s.cutOff low) low := by
  refine ⟨rfl, rfl, rfl, rfl, rfl, fun k => rfl, fun a => ?_, fun a => ?_⟩
  · by_cases hk : offKept a = true
    · rw [if_pos hk]
      exact mget_filter regReset s.regs fun e he => by rw [he, hk]
    · rw [if_neg hk]
      exact mget_filter_out regReset s.regs fun e he => by rw [he, Bool.eq_false_iff.mpr hk]
  · have hflash : ((Nat.ble 0x0400000000 a && Nat.ble a 0x040FFFFFFF) = true) ↔ (0x0400000000 ≤ a ∧ a ≤ 0x040FFFFFFF) := by
      rw [Bool.and_eq_true, Nat.ble_eq, Nat.ble_eq]
    by_cases hk : 0x0400000000 ≤ a ∧ a ≤ 0x040FFFFFFF
    · rw [if_pos hk]
      exact mget_filter memReset s.mem fun e he => by rw [he, hflash.mpr hk]
    · have hgone : (s.cutOff low).byte a = memReset a :=
        mget_filter_out memReset s.mem fun e he => by rw [he, Bool.eq_false_iff, Ne, hflash]; exact hk
      rw [if_neg hk, hgone, memReset, if_neg (mt hflash.mp hk)]

theorem State.powerOff_spec (s : State) (low : Bool) : Frame [TRUST_LC] [.hoop] (s.cutOff low) (s.powerOff low) := by
  rw [State.powerOff_eq]
  exact (Frame.refl _ _ _).step (Frame.setReg _ TRUST_LC _) |>.step (State.setTod_frame _ _)

/-- No test hold. -/
def State.unheld (s : State) : State := s.updPower fun p => { p with testHold := false }

theorem State.unheld_spec (s : State) : Frame [] [.power] s s.unheld ∧ s.unheld.power.rstLow = s.power.rstLow
    ∧ s.unheld.power.boot = s.power.boot := ⟨Frame.power s _, rfl, rfl⟩

theorem rstLow_claim {i : Instr} (hi : i ∈ [Instr.rstNAssert, .vddRimLow]) :
    ∃ t, exec i s = .next t ∧ t.power.rstLow = true ∧ t.power.boot = none ∧ t.pending = s.pending ∧ t.now = s.now
      ∧ t.weave.running = false ∧ (∀ k, t.stake k = Stake.reset)
      ∧ (∀ a, a ≠ TRUST_LC → a ≠ TRUST_SVN → a ≠ TRUST_SLOTS → ¬(0x800200 ≤ a ∧ a ≤ 0x8002FF ∧ a % 8 = 4) → t.reg a = regReset a)
      ∧ t.reg TRUST_SVN = s.reg TRUST_SVN ∧ t.reg TRUST_SLOTS = s.reg TRUST_SLOTS
      ∧ ∀ a, t.byte a = if 0x0400000000 ≤ a ∧ a ≤ 0x040FFFFFFF then s.byte a else 0#8 := by
  have hexec : exec i s = .next (s.powerOff true).unheld := by
    simp only [List.mem_cons, List.not_mem_nil, or_false] at hi
    rcases hi with rfl | rfl
    · rfl
    · rfl
  have hcut := s.cutOff_spec true
  have hoff := s.powerOff_spec true
  generalize s.cutOff true = c at *
  generalize s.powerOff true = o at *
  obtain ⟨hheld, hrst, hboot⟩ := o.unheld_spec
  generalize o.unheld = t at *
  have hall : Frame [TRUST_LC] [.hoop, .power] c t := (hoff.mono (by simp) (by simp)).step hheld
  have hpower := hoff.2 .power (by simp)
  have hreg (a : Nat) (ha : a ≠ TRUST_LC) : t.reg a = if offKept a = true then s.reg a else regReset a :=
    (hall.1 a (by simpa using ha)).trans (hcut.regs a)
  refine ⟨t, hexec, ?_, ?_, ?_, ?_, ?_, fun k => ?_, fun a h1 h2 h3 h4 => ?_, hreg _ (by decide), hreg _ (by decide), fun a => ?_⟩
  · rw [hrst, hpower, hcut.rst]
  · rw [hboot, hpower, hcut.boot]
    rfl
  · rw [hall.2 .pending (by simp), hcut.pending]
  · rw [hall.2 .now (by simp), hcut.now]
  · rw [hall.2 .weave (by simp), hcut.weave]
  · rw [hall.stake, hcut.stakes]
  · rw [hreg a h1, if_neg]
    simpa [offKept, h1, h2, h3, and_assoc] using h4
  · rw [hall.2 .mem (by simp) a, hcut.bytes]

theorem rstNRelease_claim {role : Fin 4} {testEn : Bool} (hlow : s.power.rstLow = true) (hhold : s.power.testHold = false) :
    Does (.rstNRelease role testEn) s [] [.power] fun t => t.power = if testEn then { s.power with testHold := true }
      else { s.power with rstLow := false, role := role.val, boot := some 0, rtcAt := s.now } := by
  have hexec : exec (.rstNRelease role testEn) s = execRstNRelease role testEn s := rfl
  unfold execRstNRelease at hexec
  rw [hlow, hhold, if_neg (by decide)] at hexec
  cases testEn with
  | true => exact ⟨_, hexec, Frame.power s _, rfl⟩
  | false => exact ⟨_, hexec, Frame.power s _, rfl⟩

/-! ### The oscillator (R193, R215, R373) -/

/-- The oscillator noted as lost or running. -/
def State.xoNoted (s : State) (lost : Bool) : State := { s with alarm := { s.alarm with xoLost := lost } }

theorem State.xoNoted_spec (s : State) (lost : Bool) : Frame [] [.alarm] s (s.xoNoted lost)
    ∧ (s.xoNoted lost).alarm = { s.alarm with xoLost := lost } := ⟨Frame.withAlarm s _, rfl⟩

/-- A bit of the summary of faults. -/
def faultTerm (x : Bool) (n : Nat) : Nat := if x then 2 ^ n else 0

/-- The sources of a fault as ALARM_FAULT shows them. -/
def faultWord (bare store tail xo wiring wdg sw : Bool) : Nat :=
  faultTerm bare 7 + faultTerm store 6 + faultTerm tail 5 + faultTerm xo 4 + faultTerm wiring 3 + faultTerm wdg 2 + faultTerm sw 1

/-- With the oscillator lost the summary bit is set whatever the other sources are. -/
theorem bitAt_faultWord : ∀ bare store tail wiring wdg sw : Bool,
    bitAt (BitVec.ofNat 32 (faultWord bare store tail true wiring wdg sw + faultTerm (faultWord bare store tail true wiring wdg sw != 0) 0)) 0
      = true := by decide

theorem State.faultN_of_xoLost (hxo : s.alarm.xoLost = true) (hrst : s.power.rstLow = false) : s.faultN = true := by
  have hbits : s.faultBits = BitVec.ofNat 32 (faultWord (s.flag ALARM_CTL_BARE) (s.flag ALARM_FAULT_STORE) (s.flag ALARM_FAULT_TAIL)
      s.alarm.xoLost ((List.range 16).any fun i =>
        s.flag (ALARM_IN_CFG_EN i) && s.flag (ALARM_IN_CFG_FAULT_EN i) && Nat.ble inOpen (s.inState i)) (s.flag ALARM_FAULT_WDG)
      (s.reg ALARM_FAULT_SW != 0#32) + faultTerm (faultWord (s.flag ALARM_CTL_BARE) (s.flag ALARM_FAULT_STORE) (s.flag ALARM_FAULT_TAIL)
      s.alarm.xoLost ((List.range 16).any fun i =>
        s.flag (ALARM_IN_CFG_EN i) && s.flag (ALARM_IN_CFG_FAULT_EN i) && Nat.ble inOpen (s.inState i)) (s.flag ALARM_FAULT_WDG)
      (s.reg ALARM_FAULT_SW != 0#32) != 0) 0) := rfl
  rw [State.faultN, hbits, hxo, hrst, bitAt_faultWord]
  rfl

/-- The loss of the oscillator shown, and while the hub is up by the selector as well. -/
def State.xoShownLost (s : State) : State := (s.sf RIM_STAT_XO_OK 0).raise ALARM_EVT_XO_LOSS
def State.xoFailed (s : State) : State := (s.sf REFSEL_STAT_XO_OK 0).raise REFSEL_EVT_XO_FAIL

theorem State.xoShownLost_spec (s : State) : Frame [RIM_STAT, ALARM_EVT] [] s s.xoShownLost
    ∧ s.xoShownLost.flag RIM_STAT_XO_OK = false ∧ s.xoShownLost.flag ALARM_EVT_XO_LOSS = true := by
  refine ⟨(Frame.refl _ _ s).step (Frame.sf s RIM_STAT_XO_OK 0) |>.step (Frame.raise _ ALARM_EVT_XO_LOSS), ?_,
    State.flag_raise_self _ ALARM_EVT_XO_LOSS rfl (by decide)⟩
  rw [State.xoShownLost, State.flag, State.rf_congr _ (State.reg_raise_ne _ (by decide)), State.rf_sf_self _ _ _ (by decide) (by decide)]
  rfl

theorem State.xoFailed_spec (s : State) : Frame [REFSEL_STAT, REFSEL_EVT] [] s s.xoFailed
    ∧ s.xoFailed.flag REFSEL_STAT_XO_OK = false ∧ s.xoFailed.flag REFSEL_EVT_XO_FAIL = true := by
  refine ⟨(Frame.refl _ _ s).step (Frame.sf s REFSEL_STAT_XO_OK 0) |>.step (Frame.raise _ REFSEL_EVT_XO_FAIL), ?_,
    State.flag_raise_self _ REFSEL_EVT_XO_FAIL rfl (by decide)⟩
  rw [State.xoFailed, State.flag, State.rf_congr _ (State.reg_raise_ne _ (by decide)), State.rf_sf_self _ _ _ (by decide) (by decide)]
  rfl

theorem xoLoss_claim (hxo : s.alarm.xoLost = false) (hrst : s.power.rstLow = false) :
    Does .xoLoss s [RIM_STAT, REFSEL_STAT, REFSEL_EVT, ALARM_EVT] [.alarm] fun t =>
      t.alarm = { s.alarm with xoLost := true } ∧ t.flag RIM_STAT_XO_OK = false
      ∧ t.flag ALARM_EVT_XO_LOSS = true ∧ t.roundsRun = false
      ∧ t.faultN = true
      ∧ (s.hubUp = true → t.flag REFSEL_STAT_XO_OK = false ∧ t.flag REFSEL_EVT_XO_FAIL = true) := by
  have hexec : exec .xoLoss s = .next (if (s.alarm.xoLost || s.power.rstLow) = true then s else
      if (s.xoNoted true).xoShownLost.hubUp then (s.xoNoted true).xoShownLost.xoFailed else (s.xoNoted true).xoShownLost) := rfl
  obtain ⟨hnoted, halarm⟩ := s.xoNoted_spec true
  rw [hxo, hrst, if_neg (by decide)] at hexec
  generalize s.xoNoted true = n at *
  obtain ⟨hshown, hok, hloss⟩ := n.xoShownLost_spec
  generalize n.xoShownLost = m at *
  have hbase : Frame [RIM_STAT, ALARM_EVT] [.alarm] s m := (hnoted.mono (by simp) (by simp)).step hshown
  have hmalarm : m.alarm = { s.alarm with xoLost := true } := (hshown.2 .alarm (by simp)).trans halarm
  have hmpower : m.power = s.power := hbase.2 .power (by simp)
  have hfault {t : State} (ht : Frame [REFSEL_STAT, REFSEL_EVT] [] m t) : t.alarm = { s.alarm with xoLost := true } ∧
      t.roundsRun = false ∧ t.faultN = true := by
    have ha : t.alarm = { s.alarm with xoLost := true } := (ht.2 .alarm (by simp)).trans hmalarm
    have hlost : t.alarm.xoLost = true := congrArg Alarm.xoLost ha
    refine ⟨ha, ?_, State.faultN_of_xoLost hlost (by rw [ht.2 .power (by simp), hmpower, hrst])⟩
    rw [State.roundsRun, hlost, Bool.not_true, Bool.and_false]
  have hup : m.hubUp = s.hubUp := State.hubUp_congr (hbase.1 _ (by decide)) hmpower
  rw [hup] at hexec
  by_cases hs : s.hubUp = true
  · rw [if_pos hs] at hexec
    obtain ⟨hfailed, hxok, hfail⟩ := m.xoFailed_spec
    generalize m.xoFailed = t at *
    obtain ⟨ha, hrounds, hfn⟩ := hfault hfailed
    refine ⟨t, hexec, (hbase.mono (by simp) (by simp)).step hfailed, ha, ?_, ?_, hrounds, hfn, fun _ => ⟨hxok, hfail⟩⟩
    · rw [State.flag, hfailed.rf (by decide), ← State.flag, hok]
    · rw [State.flag, hfailed.rf (by decide), ← State.flag, hloss]
  · rw [if_neg hs] at hexec
    obtain ⟨ha, hrounds, hfn⟩ := hfault (Frame.refl _ _ m)
    exact ⟨m, hexec, hbase.mono (by simp) (by simp), ha, hok, hloss, hrounds, hfn, fun h => absurd h hs⟩

/-- The return of the oscillator shown. -/
def State.xoShownBack (s : State) : State := (s.sf RIM_STAT_XO_OK 1).sf REFSEL_STAT_XO_OK 1

theorem State.xoShownBack_spec (s : State) : Frame [RIM_STAT, REFSEL_STAT] [] s s.xoShownBack
    ∧ s.xoShownBack.flag RIM_STAT_XO_OK = true ∧ s.xoShownBack.flag REFSEL_STAT_XO_OK = true := by
  refine ⟨(Frame.refl _ _ s).step (Frame.sf s RIM_STAT_XO_OK 1) |>.step (Frame.sf _ REFSEL_STAT_XO_OK 1), ?_, ?_⟩
  · rw [State.xoShownBack, State.flag, State.rf_congr _ (State.reg_sf_ne _ (by decide) _), State.rf_sf_self _ _ _ (by decide) (by decide)]
    rfl
  · rw [State.xoShownBack, State.flag, State.rf_sf_self _ _ _ (by decide) (by decide)]
    rfl

theorem exec_xoReturn (hxo : s.alarm.xoLost = true) (hup : s.hubUp = true) :
    exec .xoReturn s = .next ((s.xoNoted false).xoShownBack.reqStep 3) := by
  have hexec : exec .xoReturn s = .next (if s.alarm.xoLost then
      if ((s.xoNoted false).sf RIM_STAT_XO_OK 1).hubUp then (s.xoNoted false).xoShownBack.reqStep 3 else (s.xoNoted false).sf RIM_STAT_XO_OK 1
    else s) := rfl
  obtain ⟨hnoted, -⟩ := s.xoNoted_spec false
  have hset := Frame.sf (s.xoNoted false) RIM_STAT_XO_OK 1
  have hsame : ((s.xoNoted false).sf RIM_STAT_XO_OK 1).hubUp = s.hubUp :=
    State.hubUp_congr ((hset.1 _ (by decide)).trans (hnoted.1 _ (by decide))) ((hset.2 .power (by simp)).trans (hnoted.2 .power (by simp)))
  rw [hexec, if_pos hxo, hsame, if_pos hup]

theorem State.xoBack_spec (s : State) : Frame [RIM_STAT, REFSEL_STAT] [.alarm] s (s.xoNoted false).xoShownBack
    ∧ (s.xoNoted false).xoShownBack.alarm = { s.alarm with xoLost := false }
    ∧ (s.xoNoted false).xoShownBack.flag RIM_STAT_XO_OK = true ∧ (s.xoNoted false).xoShownBack.flag REFSEL_STAT_XO_OK = true := by
  obtain ⟨hnoted, halarm⟩ := s.xoNoted_spec false
  generalize s.xoNoted false = n at *
  obtain ⟨hshown, hok, hxok⟩ := n.xoShownBack_spec
  exact ⟨(hnoted.mono (by simp) (by simp)).step hshown, (hshown.2 .alarm (by simp)).trans halarm, hok, hxok⟩

theorem xoReturn_waits (hxo : s.alarm.xoLost = true) (hup : s.hubUp = true) (hhand : s.power.hand.isSome = true) :
    Does .xoReturn s [RIM_STAT, REFSEL_STAT] [.alarm, .power] fun t =>
      t.alarm = { s.alarm with xoLost := false } ∧ t.flag RIM_STAT_XO_OK = true
      ∧ t.flag REFSEL_STAT_XO_OK = true ∧ t.power = { s.power with waiting := some 3 } := by
  have hexec := exec_xoReturn hxo hup
  obtain ⟨hback, halarm, hok, hxok⟩ := s.xoBack_spec
  generalize (s.xoNoted false).xoShownBack = b at *
  have hpower : b.power = s.power := hback.2 .power (by simp)
  rw [State.reqStep_waits (by rw [hpower]; exact hhand)] at hexec
  obtain ⟨hframe, hwait⟩ := b.stepWaits_spec 3
  generalize b.stepWaits 3 = t at *
  refine ⟨t, hexec, (hback.mono (by simp) (by simp)).step hframe, ?_, ?_, ?_, ?_⟩
  · rw [hframe.2 .alarm (by simp), halarm]
  · rw [State.flag, hframe.rf (by simp), ← State.flag, hok]
  · rw [State.flag, hframe.rf (by simp), ← State.flag, hxok]
  · rw [hwait, hpower]

/-- Step 3 counted. -/
def State.counted3 (s : State) : State := (s.updPower fun p => { p with steps3 := s.recent3 ++ [s.now] }).countUp PWR_LADDER_STEP3_CNT

theorem State.counted3_frame (s : State) : Frame [PWR_LADDER] [.power] s s.counted3 :=
  (Frame.refl _ _ s).step (Frame.power s _) |>.step (Frame.countUp _ PWR_LADDER_STEP3_CNT)

theorem State.step3_reset (hcap : s.power.capped = false) (hrecent : s.recent3.length < 3) : s.step3 = s.counted3.savedReset.ladderMark 3 := by
  have hcap' : ¬ s.power.capped = true := by rw [hcap]; decide
  have hrecent' : ¬ 3 ≤ s.recent3.length := by omega
  rw [State.step3, if_neg hcap', if_neg hrecent']
  rfl

theorem State.takeStep_three (s : State) : s.takeStep 3 = s.step3 := by rw [State.takeStep, if_pos rfl]

theorem keptReg_rim : keptReg RIM_STAT = true := by decide

theorem xoReturn_reset (hxo : s.alarm.xoLost = true) (hup : s.hubUp = true) (hhand : s.power.hand = none) (hcap : s.power.capped = false)
    (hrecent : s.recent3.length < 3) : ∃ t, exec .xoReturn s = .next t ∧ t.alarm.xoLost = false ∧ t.power.boot = some 1
      ∧ t.flag RIM_STAT_XO_OK = true ∧ ∀ k, k < 128 → (t.stake k).run = .held := by
  have hexec := exec_xoReturn hxo hup
  obtain ⟨hback, halarm, hok, -⟩ := s.xoBack_spec
  generalize (s.xoNoted false).xoShownBack = b at *
  have hpower : b.power = s.power := hback.2 .power (by simp)
  have hbrecent : b.recent3 = s.recent3 := by rw [State.recent3, State.recent3, hpower, hback.2 .now (by simp)]
  rw [State.reqStep_now (by rw [hpower]; exact hhand), State.takeStep_three, State.step3_reset (by rw [hpower, hcap]) (by rw [hbrecent]; exact hrecent)] at hexec
  have hcount := b.counted3_frame
  generalize b.counted3 = c at *
  have hsaved := c.savedReset_spec
  generalize c.savedReset = r at *
  have hmark := r.ladderMark_frame 3
  generalize r.ladderMark 3 = t at *
  refine ⟨t, hexec, ?_, ?_, ?_, fun k hk => ?_⟩
  · rw [hmark.2 .alarm (by simp), hsaved.xo, hcount.2 .alarm (by simp), halarm]
  · rw [hmark.2 .power (by simp), hsaved.boot]
  · have hreg : r.reg RIM_STAT = c.reg RIM_STAT := hsaved.kept RIM_STAT (by decide) keptReg_rim
    rw [← hok, State.flag, State.flag, hmark.rf (by decide), State.rf_congr RIM_STAT_XO_OK hreg, hcount.rf (by decide)]
  · rw [hmark.stake]
    exact hsaved.stakes k hk

/-- Settles O57: a device reset by what `deviceReset_spec` says of it, a power-off by `cutOff_spec`, and each other command by its own
rule. That RST_N and VDD_RIM low lose every register and RAM is log 93, that TEST_EN holds the part log 99, and that the sealing
counter is saved and a step waits for a handshake log 102. -/
theorem resetsAndPowerCycles : Obligations.ResetsAndPowerCycles := by
  unfold Obligations.ResetsAndPowerCycles
  refine ⟨fun a key s ha => ⟨pwrReset_claim ha, pwrCycle_claim ha⟩, fun s hnone => ?_, fun x s hpcyc hhand => powerCycleFail_claim hpcyc hhand,
    fun i s hi => rstLow_claim hi, fun role testEn s hlow hhold => rstNRelease_claim hlow hhold, fun s hxo hrst => xoLoss_claim hxo hrst,
    fun s hxo hup hhand => xoReturn_waits hxo hup hhand, fun s hxo hup hhand hcap hrecent => xoReturn_reset hxo hup hhand hcap hrecent⟩
  have hexec : exec .powerCycleFail s = execPowerCycleFail s := rfl
  rw [hexec, execPowerCycleFail, hnone]

end Sys2Proof.Machine
end

section
/-! SUPPORT. Proofs/Temps.lean: readings of the temperature sensors (R154, R494 to R496). -/
-- The proofs of this file are elaborated one after another: side by side their threads exceed the memory of the check.
set_option Elab.async false
namespace Sys2Proof.Machine

open Reg

variable {s t u : State} {r n : Nat}

/-! ### Signed bytes -/

theorem sext_range (v : Nat) : -128 ≤ sext 8 v ∧ sext 8 v < 128 := by
  unfold sext
  split <;> omega

theorem sext_of_range {x : Int} (h : -128 ≤ x) (h' : x < 128) : sext 8 ((x % 256).toNat % 256) = x := by
  unfold sext
  split <;> omega

theorem sext_low (v : Nat) : sext 8 (v % 2 ^ 8) = sext 8 v := by
  unfold sext
  rw [Nat.mod_mod]

/-! ### The hottest sensor of a region (R154) -/

theorem State.tmax_range (s : State) (r : Nat) : -128 ≤ s.tmax r ∧ s.tmax r < 128 := by
  unfold State.tmax
  refine foldl_inv (fun m : Int => -128 ≤ m ∧ m < 128) _ _ _ (by decide) fun m j _ hm => ?_
  have hj := sext_range (s.rf (HEALTH_TEMP_NOW (4 * r + j)))
  split
  · have htemp : s.temp (4 * r + j) = sext 8 (s.rf (HEALTH_TEMP_NOW (4 * r + j))) := rfl
    rw [htemp]
    omega
  · exact hm

/-- The hottest sensor is the same while no sensor's register, no power state and no supply changes. -/
theorem State.tmax_congr (hregs : ∀ a, 0x800000 ≤ a → a < 0x800180 → t.reg a = s.reg a) (hstat : t.reg PWR_STAT = s.reg PWR_STAT)
    (hlow : t.power.rstLow = s.power.rstLow) (hr : r < 4) : t.tmax r = s.tmax r := by
  have hon (i : Nat) : t.sensorOn i = s.sensorOn i := by
    have hf (f : RegField) (hf : f.reg = PWR_STAT) : t.rf f = s.rf f := State.rf_congr f (by rw [hf, hstat])
    have hdie : t.dieOn (i / 8) = s.dieOn (i / 8) := by
      unfold State.dieOn
      split <;> rw [State.flag, State.flag, hf _ rfl]
    rw [State.sensorOn, State.sensorOn, hdie, State.hubUp, State.hubUp, State.pstate, State.pstate, hf _ rfl, hlow]
  have hsensor (i : Nat) (hi : i < 16) : t.flag (HEALTH_TEMP_VALID i) = s.flag (HEALTH_TEMP_VALID i) ∧ t.temp i = s.temp i := by
    have hreg : t.reg (HEALTH_TEMP i) = s.reg (HEALTH_TEMP i) :=
      hregs _ (by simp only [HEALTH_TEMP]; omega) (by simp only [HEALTH_TEMP]; omega)
    exact ⟨by rw [State.flag, State.flag, State.rf_congr (HEALTH_TEMP_VALID i) hreg],
      by rw [State.temp, State.temp, State.rf_congr (HEALTH_TEMP_NOW i) hreg]⟩
  have hfold (l : List Nat) (m : Int) (hl : ∀ j ∈ l, j < 4) :
      l.foldl (fun m j => if t.flag (HEALTH_TEMP_VALID (4 * r + j)) && t.sensorOn (4 * r + j) then max m (t.temp (4 * r + j)) else m) m
        = l.foldl (fun m j => if s.flag (HEALTH_TEMP_VALID (4 * r + j)) && s.sensorOn (4 * r + j) then max m (s.temp (4 * r + j)) else m) m := by
    induction l generalizing m with
    | nil => rfl
    | cons j l ih =>
      obtain ⟨hvalid, htemp⟩ := hsensor (4 * r + j) (by have := hl j (by simp); omega)
      rw [List.foldl_cons, List.foldl_cons, hvalid, htemp, hon, ih _ fun k hk => hl k (by simp [hk])]
  exact hfold _ _ fun j hj => List.mem_range.mp hj

/-! ### A reading shown (R494) -/

/-- The word that a reading leaves in its register: the reading and the largest one. -/
def State.tempWord (s : State) (n : Nat) (c : BitVec 8) : Nat :=
  2 ^ 31 + ((if s.reg (HEALTH_TEMP n) = 0#32 then c.toInt else max c.toInt (sext 8 (bitsOf (s.reg (HEALTH_TEMP n)) 15 8))) % 256).toNat * 256
    + c.toNat

/-- A reading shown. -/
def State.tempShown (s : State) (n : Nat) (c : BitVec 8) : State := s.setRegN (HEALTH_TEMP n) (s.tempWord n c)

theorem State.tempShown_spec (s : State) (n : Nat) (c : BitVec 8) : Frame [HEALTH_TEMP n] [] s (s.tempShown n c)
    ∧ (s.tempShown n c).reg (HEALTH_TEMP n) = BitVec.ofNat 32 (s.tempWord n c) := ⟨Frame.setRegN s _ _, State.reg_setReg_self _ _ _⟩

/-- Since when each cluster sensor reads 115 °C, after one more reading. -/
def State.hotTimes (s : State) (n : Nat) (c : BitVec 8) : SMap Nat :=
  if 115 ≤ c.toInt then
    mput n (((s.power.hotAt.find? fun e => e.1 == n).map (·.2)).getD s.now) (mdrop n s.power.hotAt)
  else mdrop n s.power.hotAt

/-- The same kept. -/
def State.hotSince (s : State) (n : Nat) (c : BitVec 8) : State := s.updPower fun p => { p with hotAt := s.hotTimes n c }

/-- The parts of the power controller's state that a reading of a sensor leaves. -/
structure HeatKept (p q : Power) : Prop where
  hubHot : q.hubHot = p.hubHot
  hubCool : q.hubCool = p.hubCool
  hotRegions : q.hotRegions = p.hotRegions
  rstLow : q.rstLow = p.rstLow

theorem HeatKept.trans {p q x : Power} (h : HeatKept p q) (g : HeatKept q x) : HeatKept p x :=
  ⟨g.hubHot.trans h.hubHot, g.hubCool.trans h.hubCool, g.hotRegions.trans h.hotRegions, g.rstLow.trans h.rstLow⟩

theorem State.hotSince_spec (s : State) (n : Nat) (c : BitVec 8) : Frame [] [.power] s (s.hotSince n c)
    ∧ HeatKept s.power (s.hotSince n c).power := ⟨Frame.power s _, ⟨rfl, rfl, rfl, rfl⟩⟩

theorem execTempSensor_cluster {i : Fin 20} {c : BitVec 8} (hon : s.sensorOn i.val = true) (hi : i.val < 16) :
    exec (.tempSensorUpdate i c) s = .next (((s.tempShown i.val c).hotSince i.val c).regionHeat (i.val / 4)) := by
  have hup : s.hubUp = true := (Bool.and_eq_true _ _ ▸ hon).1
  have hexec : exec (.tempSensorUpdate i c) s = execTempSensorUpdate i c s := rfl
  rw [hexec]
  unfold execTempSensorUpdate
  dsimp only
  rw [hup, hon, if_neg (by decide), if_neg (by decide), if_pos hi]
  rfl

/-- A hub sensor's trip. -/
def State.hubTripped (s : State) (c : BitVec 8) : State := if 115 ≤ c.toInt then s.healthEvt HEALTH_EVT_HUB_TRIP else s

theorem execTempSensor_hub {i : Fin 20} {c : BitVec 8} (hon : s.sensorOn i.val = true) (hi : 16 ≤ i.val) :
    exec (.tempSensorUpdate i c) s = .next ((s.tempShown i.val c).hubTripped c).hubHeat := by
  have hup : s.hubUp = true := (Bool.and_eq_true _ _ ▸ hon).1
  have hexec : exec (.tempSensorUpdate i c) s = execTempSensorUpdate i c s := rfl
  rw [hexec]
  unfold execTempSensorUpdate
  dsimp only
  rw [hup, hon, if_neg (by decide), if_neg (by decide), if_neg (by omega)]
  rfl

/-! ### The hub's sensors (R495, R496) -/

theorem State.hubTripped_spec (s : State) (c : BitVec 8) : Frame [HEALTH_EVT, ALARM_FAULT_SW] [] s (s.hubTripped c)
    ∧ (s.hubTripped c).flag HEALTH_EVT_HUB_TRIP = (s.flag HEALTH_EVT_HUB_TRIP || decide (115 ≤ c.toInt)) := by
  unfold State.hubTripped
  by_cases h : 115 ≤ c.toInt
  · rw [if_pos h, decide_eq_true h, Bool.or_true]
    exact ⟨s.healthEvt_frame HEALTH_EVT_HUB_TRIP, s.flag_healthEvt _ rfl (by decide) (by decide)⟩
  · rw [if_neg h, decide_eq_false h, Bool.or_false]
    exact ⟨Frame.refl _ _ s, rfl⟩

/-- Whether every sensor of the hub is cool for a region. -/
def State.hubCold (s : State) (r : Nat) : Bool :=
  (List.range' 16 4).all fun j => s.flag (HEALTH_TEMP_VALID j) && decide (s.temp j < sext 8 (s.rf (REG_THR_TH_LO r)))

theorem State.hubHeat_none (h : s.power.hubHot = none) : s.hubHeat = s := by rw [State.hubHeat, h]

theorem State.hubHeat_some (h : s.power.hubHot = some r) : s.hubHeat =
    s.updPower fun p => { p with hubCool := if s.hubCold r then some (p.hubCool.getD s.now) else none } := by
  rw [State.hubHeat, h]
  rfl

theorem State.hubHeat_frame (s : State) : Frame [] [.power] s s.hubHeat := by
  cases h : s.power.hubHot with
  | none => rw [State.hubHeat_none h]; exact Frame.refl _ _ s
  | some r => rw [State.hubHeat_some h]; exact Frame.power s _

theorem State.hubHeat_power (h : s.power.hubHot = some r) : s.hubHeat.power =
    { s.power with hubCool := if s.hubCold r then some (s.power.hubCool.getD s.now) else none } := by
  rw [State.hubHeat_some h]
  rfl

theorem tempSensor_hub {i : Fin 20} {c : BitVec 8} (hon : s.sensorOn i.val = true) (hi : 16 ≤ i.val) :
    Does (.tempSensorUpdate i c) s [HEALTH_TEMP i.val, HEALTH_EVT, ALARM_FAULT_SW] [.power] fun t =>
      t.reg (HEALTH_TEMP i.val) = BitVec.ofNat 32 (s.tempWord i.val c)
      ∧ (s.power.hubHot = none → t.power = s.power)
      ∧ (∀ r, s.power.hubHot = some r →
          let cold := (List.range' 16 4).all fun j => t.flag (HEALTH_TEMP_VALID j) && decide (t.temp j < sext 8 (s.rf (REG_THR_TH_LO r)))
          t.power = { s.power with hubCool := if cold then some (s.power.hubCool.getD s.now) else none })
      ∧ t.flag HEALTH_EVT_HUB_TRIP = (s.flag HEALTH_EVT_HUB_TRIP || decide (115 ≤ c.toInt)) := by
  have hexec := execTempSensor_hub (c := c) hon hi
  obtain ⟨hshown, hword⟩ := s.tempShown_spec i.val c
  have hlow : HEALTH_EVT ≠ HEALTH_TEMP i.val ∧ ALARM_FAULT_SW ≠ HEALTH_TEMP i.val ∧ ∀ r, REG_THR r ≠ HEALTH_TEMP i.val := by
    simp only [HEALTH_EVT, HEALTH_TEMP, ALARM_FAULT_SW, REG_THR]
    have := i.isLt
    exact ⟨by omega, by omega, fun r => by omega⟩
  have hevt : (s.tempShown i.val c).flag HEALTH_EVT_HUB_TRIP = s.flag HEALTH_EVT_HUB_TRIP := by
    rw [State.flag, hshown.rf (by simpa using hlow.1), ← State.flag]
  generalize s.tempShown i.val c = v at *
  obtain ⟨htrip, hflag⟩ := v.hubTripped_spec c
  generalize v.hubTripped c = w at *
  have hframe := w.hubHeat_frame
  have hnone : w.power.hubHot = none → w.hubHeat = w := State.hubHeat_none
  have hsome (r : Nat) : w.power.hubHot = some r → w.hubHeat.power =
      { w.power with hubCool := if w.hubCold r then some (w.power.hubCool.getD w.now) else none } := State.hubHeat_power
  generalize w.hubHeat = t at *
  have hbase : Frame [HEALTH_TEMP i.val, HEALTH_EVT, ALARM_FAULT_SW] [] s w := (hshown.mono (by simp) (by simp)).step htrip
  have hpower : w.power = s.power := hbase.2 .power (by simp)
  rw [hpower] at hnone hsome
  refine ⟨t, hexec, (hbase.mono (fun _ h => h) (by simp)).step hframe, ?_, fun h => ?_, fun r h => ?_, ?_⟩
  · rw [hframe.1 _ (by simp), htrip.1 _ (by simpa using ⟨Ne.symm hlow.1, Ne.symm hlow.2.1⟩), hword]
  · rw [hnone h, hpower]
  · have hcold : w.hubCold r = (List.range' 16 4).all fun j => t.flag (HEALTH_TEMP_VALID j) && decide (t.temp j < sext 8 (s.rf (REG_THR_TH_LO r))) := by
      have hthr : w.rf (REG_THR_TH_LO r) = s.rf (REG_THR_TH_LO r) := hbase.rf (by
        simp only [List.mem_cons, List.not_mem_nil, or_false, not_or, REG_THR, HEALTH_TEMP, HEALTH_EVT, ALARM_FAULT_SW]
        have := i.isLt
        omega)
      have hsame (f : RegField) : t.rf f = w.rf f := hframe.rf (by simp)
      unfold State.hubCold
      simp only [State.flag, State.temp, hthr, hsame]
    dsimp only
    rw [hsome r h, hcold, hbase.2 .now (by simp)]
  · rw [State.flag, hframe.rf (by simp), ← State.flag, hflag, hevt]

/-! ### A region's share of a reading (R154, R496) -/

/-- Since when a threshold holds. -/
def heldSince (holds : Bool) (since : Option Nat) (now : Nat) : Option Nat := if holds then some (since.getD now) else none

/-- TMAX shown. -/
def State.tmaxShown (s : State) (r : Nat) : State := s.sf (REG_TEMP_TMAX r) (s.tmax r % 256).toNat

/-- The thresholds that a region holds. -/
def State.heatHeld (s : State) (r : Nat) (hot cool : Bool) : State :=
  s.setRegion r { s.region r with hot := heldSince hot (s.region r).hot s.now, cool := heldSince cool (s.region r).cool s.now }

/-- A region that is hot at its lowest operating point, noted. -/
def State.minNoted (s : State) (r : Nat) : State :=
  (s.raise (REG_EVT_AT_MIN r)).updPower fun p => { p with marks := mput 0 s.now (mdrop 0 p.marks) }

theorem State.minNoted_spec (s : State) (r : Nat) : Frame [REG_EVT r] [.power] s (s.minNoted r) ∧ HeatKept s.power (s.minNoted r).power := by
  have hraise := Frame.raise s (REG_EVT_AT_MIN r)
  unfold State.minNoted
  have hpower := hraise.2 .power (by simp)
  have hevt : Frame [REG_EVT r] [] s (s.raise (REG_EVT_AT_MIN r)) := hraise
  refine ⟨(hevt.mono (by simp) (by simp)).step (Frame.power _ _), ?_⟩
  rw [State.updPower, hpower]
  exact ⟨rfl, rfl, rfl, rfl⟩

/-- A region's critical temperature, newly reached. -/
def State.critReached (s : State) (r : Nat) : State := (s.raise (REG_EVT_CRIT r)).critical r

/-- A region's share with TMAX, the thresholds that it holds, and AT_MIN. -/
def State.heatNoted (s : State) (r : Nat) (hi lo top : Int) : State :=
  let b := (s.tmaxShown r).heatHeld r (decide (hi ≤ top)) (decide (top ≤ lo))
  if hi ≤ top ∧ ((s.tmaxShown r).region r).pend.getD (b.rf (REG_OP_OP r)) = b.rf (REG_OP_MIN_OP r) then b.minNoted r else b

theorem State.regionHeat_eq (s : State) (r : Nat) : s.regionHeat r =
    let c := s.heatNoted r (sext 8 (s.rf (REG_THR_TH_HI r))) (sext 8 (s.rf (REG_THR_TH_LO r))) (s.tmax r)
    if sext 8 (s.rf (REG_THR_TH_CRIT r)) ≤ s.tmax r ∧ c.flag (REG_EVT_CRIT r) = false then c.critReached r else c := rfl

/-- What a region's share leaves before its critical temperature is looked at. -/
structure HeatNoted (s t : State) (r : Nat) (hot cool : Bool) : Prop where
  frame : Frame [REG_TEMP r, REG_EVT r] [.power, .compute] s t
  tmax : t.rf (REG_TEMP_TMAX r) = (s.tmax r % 256).toNat % 256
  crit : t.flag (REG_EVT_CRIT r) = s.flag (REG_EVT_CRIT r)
  hotSince : (t.region r).hot = heldSince hot (s.region r).hot s.now
  coolSince : (t.region r).cool = heldSince cool (s.region r).cool s.now
  pend : (t.region r).pend = (s.region r).pend
  others : ∀ j, j ≠ r → t.region j = s.region j
  power : HeatKept s.power t.power

theorem Frame.region {R : List Nat} {P : List Piece} (h : Frame R P s t) (j : Nat) (hc : Piece.compute ∉ P := by simp) :
    t.region j = s.region j := by rw [State.region, h.2 .compute hc, State.region]

theorem State.heatHeld_spec (s : State) (r : Nat) (hot cool : Bool) : Frame [] [.compute] s (s.heatHeld r hot cool)
    ∧ (s.heatHeld r hot cool).region r =
      { s.region r with hot := heldSince hot (s.region r).hot s.now, cool := heldSince cool (s.region r).cool s.now }
    ∧ ∀ j, j ≠ r → (s.heatHeld r hot cool).region j = s.region j :=
  ⟨Frame.setRegion s r _, mget_mset_self _ _ _ _, fun _ hj => mget_mset_ne _ _ hj _⟩

theorem State.heatNoted_spec (s : State) (r : Nat) (hi lo top : Int) :
    HeatNoted s (s.heatNoted r hi lo top) r (decide (hi ≤ top)) (decide (top ≤ lo)) := by
  have hshown : Frame [REG_TEMP r] [] s (s.tmaxShown r) := Frame.sf s (REG_TEMP_TMAX r) _
  have htmax : (s.tmaxShown r).rf (REG_TEMP_TMAX r) = (s.tmax r % 256).toNat % 256 := State.rf_sf_self s _ _ (by simp) (by simp)
  unfold State.heatNoted
  dsimp only
  generalize s.tmaxShown r = a at *
  generalize decide (top ≤ lo) = cool at *
  generalize hhot : decide (hi ≤ top) = hot at *
  obtain ⟨hheld, hregion, hothers⟩ := a.heatHeld_spec r hot cool
  generalize a.heatHeld r hot cool = b at *
  have hbase : Frame [REG_TEMP r, REG_EVT r] [.power, .compute] s b := (hshown.mono (by simp) (by simp)).step hheld
  have hpower : b.power = s.power := (hheld.2 .power (by simp)).trans (hshown.2 .power (by simp))
  have hne : REG_EVT r ≠ REG_TEMP r := by simp only [REG_EVT, REG_TEMP]; omega
  have hcrit : b.flag (REG_EVT_CRIT r) = s.flag (REG_EVT_CRIT r) := by
    rw [State.flag, hheld.rf (by simp), hshown.rf (by simp), ← State.flag]
  have hnow : a.now = s.now := hshown.2 .now (by simp)
  have hplain : HeatNoted s b r hot cool := by
    refine ⟨hbase, ?_, hcrit, ?_, ?_, ?_, fun j hj => ?_, ?_⟩
    · rw [hheld.rf (by simp), htmax]
    · rw [hregion, hshown.region, hnow]
    · rw [hregion, hshown.region, hnow]
    · rw [hregion, hshown.region]
    · rw [hothers j hj, hshown.region]
    · rw [hpower]; exact ⟨rfl, rfl, rfl, rfl⟩
  split
  · obtain ⟨hmin, hkept⟩ := b.minNoted_spec r
    have hminCrit : (b.minNoted r).flag (REG_EVT_CRIT r) = b.flag (REG_EVT_CRIT r) := by
      have hupd : (b.minNoted r).flag (REG_EVT_CRIT r) = (b.raise (REG_EVT_AT_MIN r)).flag (REG_EVT_CRIT r) := rfl
      rw [hupd, State.flag, State.rf_raise_ne _ (by simp) (by simp) (by simp), ← State.flag]
    generalize b.minNoted r = t at *
    refine ⟨hbase.step hmin, ?_, hminCrit.trans hcrit, ?_, ?_, ?_, fun j hj => ?_, hplain.power.trans hkept⟩
    · rw [hmin.rf (by simp), hplain.tmax]
    · rw [hmin.region, hplain.hotSince]
    · rw [hmin.region, hplain.coolSince]
    · rw [hmin.region, hplain.pend]
    · rw [hmin.region, hplain.others j hj]
  · exact hplain

/-! ### A critical temperature, newly reached (R496) -/

/-- What a critical temperature, newly reached, leaves where no request for a power state is carried out. -/
structure CritReached (s t : State) (r : Nat) : Prop where
  frame : Frame [REG_EVT r, TRUST_EVT, PWR_TRIM_MASK] [.power, .trust] s t
  crit : t.flag (REG_EVT_CRIT r) = true
  logged : t.trust.logSeq = s.trust.logSeq + 1
  mask : t.reg PWR_TRIM_MASK = if s.skein.system.thermal = 1 then s.reg PWR_TRIM_MASK ||| BitVec.ofNat 32 (regionMask r) else s.reg PWR_TRIM_MASK
  regions : s.skein.system.thermal = 1 → t.power.hotRegions.contains r = true
  watch : s.skein.system.thermal = 2 → t.power.hubHot = some r ∧ t.power.hubCool = none
  kept : s.skein.system.thermal ≠ 2 → t.power.hubHot = s.power.hubHot
  rstLow : t.power.rstLow = s.power.rstLow

/-- CRIT set and logged. -/
def State.critLogged (s : State) (r : Nat) : State := (s.raise (REG_EVT_CRIT r)).wardenEvent 14 [r]

/-- The reason for Watch kept. -/
def State.watchWanted (s : State) (r : Nat) : State := s.updPower fun p => { p with hubHot := some r, hubCool := none }

theorem State.critReached_eq (s : State) (r : Nat) : s.critReached r =
    if (s.critLogged r).skein.system.thermal = 1 then ((s.critLogged r).heatMask r).wardenGo pTrim
    else if (s.critLogged r).skein.system.thermal = 2 then ((s.critLogged r).watchWanted r).wardenGo pWatch else s.critLogged r := rfl

theorem State.critLogged_spec (s : State) (r : Nat) : Frame [REG_EVT r, TRUST_EVT] [.trust] s (s.critLogged r)
    ∧ (s.critLogged r).flag (REG_EVT_CRIT r) = true ∧ (s.critLogged r).trust.logSeq = s.trust.logSeq + 1 := by
  have hraise : Frame [REG_EVT r] [] s (s.raise (REG_EVT_CRIT r)) := Frame.raise s (REG_EVT_CRIT r)
  have hflag := State.flag_raise_self s (REG_EVT_CRIT r) rfl (by simp)
  unfold State.critLogged
  generalize s.raise (REG_EVT_CRIT r) = u at *
  have hlog := Frame.wardenEvent u 14 [r]
  have hseq : (u.wardenEvent 14 [r]).trust.logSeq = u.trust.logSeq + 1 := congrArg Trust.logSeq (u.logRec_trust 1 _)
  refine ⟨(hraise.mono (by simp) (by simp)).step hlog, ?_, ?_⟩
  · rw [State.flag, hlog.rf (by simp only [List.mem_cons, List.not_mem_nil, or_false, REG_EVT, TRUST_EVT]; omega), ← State.flag, hflag]
  · rw [hseq, hraise.2 .trust (by simp)]

theorem State.heatMask_power (s : State) (r : Nat) : (s.heatMask r).power.hotRegions.contains r = true
    ∧ (s.heatMask r).power.hubHot = s.power.hubHot ∧ (s.heatMask r).power.rstLow = s.power.rstLow := by
  refine ⟨?_, rfl, rfl⟩
  have hregions : (s.heatMask r).power.hotRegions =
      if s.power.hotRegions.contains r then s.power.hotRegions else s.power.hotRegions ++ [r] := rfl
  rw [hregions]
  split
  · assumption
  · simp

theorem State.watchWanted_spec (s : State) (r : Nat) : Frame [] [.power] s (s.watchWanted r)
    ∧ (s.watchWanted r).power.hubHot = some r ∧ (s.watchWanted r).power.hubCool = none
    ∧ (s.watchWanted r).power.rstLow = s.power.rstLow := ⟨Frame.power s _, rfl, rfl, rfl⟩

theorem State.wardenGo_busy (h : s.flag PWR_STAT_BUSY = true) (target : Nat) : s.wardenGo target = s := by rw [State.wardenGo, if_pos h]

theorem State.critReached_spec (s : State) (r : Nat) (hbusy : s.skein.system.thermal = 0 ∨ s.flag PWR_STAT_BUSY = true) :
    CritReached s (s.critReached r) r := by
  obtain ⟨hlogged, hcrit, hseq⟩ := s.critLogged_spec r
  rw [State.critReached_eq]
  generalize s.critLogged r = l at *
  have hevt : ∀ a, a < 0x1000000 → REG_EVT r ≠ a := fun a ha => by simp only [REG_EVT]; omega
  have hstat : l.flag PWR_STAT_BUSY = s.flag PWR_STAT_BUSY := by
    rw [State.flag, hlogged.rf (by simpa using Ne.symm (hevt _ (by decide))), ← State.flag]
  have hmask : l.reg PWR_TRIM_MASK = s.reg PWR_TRIM_MASK := hlogged.1 _ (by simpa using Ne.symm (hevt _ (by decide)))
  have hpower : l.power = s.power := hlogged.2 .power (by simp)
  rw [hlogged.2 .skein (by simp)]
  by_cases h1 : s.skein.system.thermal = 1
  · have hb : l.flag PWR_STAT_BUSY = true := hstat.trans (hbusy.resolve_left (by rw [h1]; decide))
    obtain ⟨hheat, hword⟩ := l.heatMask_spec r
    obtain ⟨hin, hhot, hlow⟩ := l.heatMask_power r
    rw [if_pos h1]
    generalize l.heatMask r = m at *
    rw [State.wardenGo_busy (by rw [State.flag, hheat.rf (by decide)]; exact hb)]
    refine ⟨(hlogged.mono (by simp) (by simp)).step hheat, ?_, ?_, ?_, fun _ => hin, fun h2 => ?_, fun _ => ?_, ?_⟩
    · rw [State.flag, hheat.rf (by simpa using hevt _ (by decide)), ← State.flag, hcrit]
    · rw [hheat.2 .trust (by simp), hseq]
    · rw [if_pos h1, hword, hmask]
    · rw [h1] at h2
      exact absurd h2 (by decide)
    · rw [hhot, hpower]
    · rw [hlow, hpower]
  · rw [if_neg h1]
    by_cases h2 : s.skein.system.thermal = 2
    · have hb : l.flag PWR_STAT_BUSY = true := hstat.trans (hbusy.resolve_left (by rw [h2]; decide))
      obtain ⟨hwatch, hhot, hcool, hlow⟩ := l.watchWanted_spec r
      rw [if_pos h2]
      generalize l.watchWanted r = m at *
      rw [State.wardenGo_busy (by rw [State.flag, hwatch.rf (by simp)]; exact hb)]
      refine ⟨(hlogged.mono (by simp) (by simp)).step hwatch, ?_, ?_, ?_, fun h => absurd h h1, fun _ => ⟨hhot, hcool⟩, fun h => absurd h2 h, ?_⟩
      · rw [State.flag, hwatch.rf (by simp), ← State.flag, hcrit]
      · rw [hwatch.2 .trust (by simp), hseq]
      · rw [if_neg h1, hwatch.1 _ (by simp), hmask]
      · rw [hlow, hpower]
    · rw [if_neg h2]
      refine ⟨hlogged.mono (by simp) (by simp), hcrit, hseq, ?_, fun h => absurd h h1, fun h => absurd h h2, fun _ => ?_, ?_⟩
      · rw [if_neg h1, hmask]
      · rw [hpower]
      · rw [hpower]

/-! ### A cluster sensor's reading (R154, R496) -/

theorem tempSensor_cluster {i : Fin 20} {c : BitVec 8} (hon : s.sensorOn i.val = true) (hi : i.val < 16)
    (hquiet : s.flag (REG_EVT_CRIT (i.val / 4)) = true ∨ s.skein.system.thermal = 0 ∨ s.flag PWR_STAT_BUSY = true) :
    let r := i.val / 4
    Does (.tempSensorUpdate i c) s [HEALTH_TEMP i.val, REG_TEMP r, REG_EVT r, TRUST_EVT, PWR_TRIM_MASK] [.power, .compute, .trust] fun t =>
      let new := !s.flag (REG_EVT_CRIT r) && t.flag (REG_EVT_CRIT r)
      (t.trust.logSeq = s.trust.logSeq + if new = true then 1 else 0)
      ∧ (∀ b, b < 32 → t.bit PWR_TRIM_MASK b = (s.bit PWR_TRIM_MASK b || (new && s.skein.system.thermal == 1 && b / 4 == r)))
      ∧ (new = true → s.skein.system.thermal = 1 → t.power.hotRegions.contains r = true)
      ∧ (new = true → s.skein.system.thermal = 2 → t.power.hubHot = some r ∧ t.power.hubCool = none)
      ∧ ((new = false ∨ s.skein.system.thermal ≠ 2) → t.power.hubHot = s.power.hubHot)
      ∧ t.reg (HEALTH_TEMP i.val) = BitVec.ofNat 32 (s.tempWord i.val c) ∧ sext 8 (t.rf (REG_TEMP_TMAX r)) = t.tmax r
      ∧ ((t.region r).hot = if sext 8 (s.rf (REG_THR_TH_HI r)) ≤ t.tmax r then some ((s.region r).hot.getD s.now) else none)
      ∧ ((t.region r).cool = if t.tmax r ≤ sext 8 (s.rf (REG_THR_TH_LO r)) then some ((s.region r).cool.getD s.now) else none)
      ∧ (t.region r).pend = (s.region r).pend ∧ (∀ j, j ≠ r → t.region j = s.region j)
      ∧ t.flag (REG_EVT_CRIT r) = (s.flag (REG_EVT_CRIT r) || decide (sext 8 (s.rf (REG_THR_TH_CRIT r)) ≤ t.tmax r)) := by
  intro r
  have hr : r < 4 := by have := hi; omega
  have hexec := execTempSensor_cluster (c := c) hon hi
  obtain ⟨hshown, hword⟩ := s.tempShown_spec i.val c
  generalize s.tempShown i.val c = v at *
  obtain ⟨htimes, hkept⟩ := v.hotSince_spec i.val c
  generalize v.hotSince i.val c = w at *
  have hbase : Frame [HEALTH_TEMP i.val] [.power] s w := (hshown.mono (by simp) (by simp)).step htimes
  rw [hshown.2 .power (by simp)] at hkept
  have hnoted := w.heatNoted_spec r (sext 8 (w.rf (REG_THR_TH_HI r))) (sext 8 (w.rf (REG_THR_TH_LO r))) (w.tmax r)
  have hheat := w.regionHeat_eq r
  have hthr (f : RegField) (hf : f.reg = REG_THR r ∨ f.reg = REG_EVT r) : w.rf f = s.rf f := hbase.rf (by
    simp only [List.mem_cons, List.not_mem_nil, or_false, HEALTH_TEMP, REG_THR, REG_EVT] at hf ⊢
    omega)
  rw [hthr _ (.inl rfl), hthr _ (.inl rfl)] at hnoted hheat
  rw [hthr _ (.inl rfl)] at hheat
  dsimp only at hheat
  generalize w.heatNoted r _ _ _ = m at *
  have hcritOld : m.flag (REG_EVT_CRIT r) = s.flag (REG_EVT_CRIT r) := by
    rw [hnoted.crit, State.flag, hthr _ (.inr rfl), ← State.flag]
  have hlow : m.power.rstLow = w.power.rstLow := hnoted.power.rstLow
  have hwm : Frame [HEALTH_TEMP i.val, REG_TEMP r, REG_EVT r] [.power, .compute] s m :=
    (hbase.mono (by simp) (by simp)).step hnoted.frame
  have hpower := hkept.trans hnoted.power
  have htail {t : State} (ht : Frame [REG_EVT r, TRUST_EVT, PWR_TRIM_MASK] [.power, .trust] m t) (hrst : t.power.rstLow = m.power.rstLow) :
      t.tmax r = w.tmax r ∧ t.reg (HEALTH_TEMP i.val) = BitVec.ofNat 32 (s.tempWord i.val c) ∧ sext 8 (t.rf (REG_TEMP_TMAX r)) = w.tmax r
      ∧ (t.region r).hot = heldSince (decide (sext 8 (s.rf (REG_THR_TH_HI r)) ≤ w.tmax r)) (s.region r).hot s.now
      ∧ (t.region r).cool = heldSince (decide (w.tmax r ≤ sext 8 (s.rf (REG_THR_TH_LO r)))) (s.region r).cool s.now
      ∧ (t.region r).pend = (s.region r).pend ∧ ∀ j, j ≠ r → t.region j = s.region j := by
    have hkeep : ∀ a, (0x800000 ≤ a ∧ a < 0x800180) ∨ a = REG_TEMP r → t.reg a = m.reg a := fun a ha => ht.1 a (by
      simp only [List.mem_cons, List.not_mem_nil, or_false, REG_EVT, TRUST_EVT, PWR_TRIM_MASK, REG_TEMP] at ha ⊢
      omega)
    have hsensors : ∀ a, 0x800000 ≤ a → a < 0x800180 → m.reg a = w.reg a := fun a h h' => hnoted.frame.1 a (by
      simp only [List.mem_cons, List.not_mem_nil, or_false, REG_EVT, REG_TEMP]
      omega)
    have hstat : t.reg PWR_STAT = w.reg PWR_STAT := by
      rw [ht.1 _ (by simp only [List.mem_cons, List.not_mem_nil, or_false, REG_EVT, TRUST_EVT, PWR_TRIM_MASK, PWR_STAT]; omega),
        hnoted.frame.1 _ (by simp only [List.mem_cons, List.not_mem_nil, or_false, REG_EVT, REG_TEMP, PWR_STAT]; omega)]
    refine ⟨?_, ?_, ?_, ?_, ?_, ?_, fun j hj => ?_⟩
    · exact State.tmax_congr (fun a h h' => (hkeep a (.inl ⟨h, h'⟩)).trans (hsensors a h h')) hstat (hrst.trans hlow) hr
    · have hb : 0x800000 ≤ HEALTH_TEMP i.val ∧ HEALTH_TEMP i.val < 0x800180 := by simp only [HEALTH_TEMP]; omega
      rw [hkeep _ (.inl hb), hsensors _ hb.1 hb.2, htimes.1 _ (by simp), hword]
    · obtain ⟨hlo, hhi⟩ := w.tmax_range r
      rw [State.rf_congr _ (hkeep _ (.inr rfl)), hnoted.tmax, sext_of_range hlo hhi]
    · rw [ht.region, hnoted.hotSince, hbase.region, hbase.2 .now (by simp)]
    · rw [ht.region, hnoted.coolSince, hbase.region, hbase.2 .now (by simp)]
    · rw [ht.region, hnoted.pend, hbase.region]
    · rw [ht.region, hnoted.others j hj, hbase.region]
  have hshape {t : State} (ht : Frame [REG_EVT r, TRUST_EVT, PWR_TRIM_MASK] [.power, .trust] m t) :
      Frame [HEALTH_TEMP i.val, REG_TEMP r, REG_EVT r, TRUST_EVT, PWR_TRIM_MASK] [.power, .compute, .trust] s t :=
    (hwm.mono (by simp) (by simp)).step ht
  have hmask : m.reg PWR_TRIM_MASK = s.reg PWR_TRIM_MASK := hwm.1 _ (by
    simp only [List.mem_cons, List.not_mem_nil, or_false, REG_EVT, REG_TEMP, HEALTH_TEMP, PWR_TRIM_MASK]; omega)
  by_cases hreach : sext 8 (s.rf (REG_THR_TH_CRIT r)) ≤ w.tmax r ∧ m.flag (REG_EVT_CRIT r) = false
  · have hold : s.flag (REG_EVT_CRIT r) = false := hcritOld.symm.trans hreach.2
    have hbusy : m.skein.system.thermal = 0 ∨ m.flag PWR_STAT_BUSY = true := by
      rw [hwm.2 .skein (by simp), State.flag, hwm.rf (by
        simp only [List.mem_cons, List.not_mem_nil, or_false, REG_EVT, REG_TEMP, HEALTH_TEMP, PWR_STAT]; omega), ← State.flag]
      exact hquiet.resolve_left (by rw [hold]; decide)
    have hdone := m.critReached_spec r hbusy
    rw [if_pos hreach] at hheat
    rw [hheat] at hexec
    generalize m.critReached r = t at *
    obtain ⟨htmax, htemp, hshow, hhot, hcool, hpend, hothers⟩ := htail hdone.frame hdone.rstLow
    have hskein : m.skein = s.skein := hwm.2 .skein (by simp)
    have hnew : (!s.flag (REG_EVT_CRIT r) && t.flag (REG_EVT_CRIT r)) = true := by rw [hold, hdone.crit]; rfl
    refine ⟨t, hexec, hshape hdone.frame, ?_⟩
    dsimp only
    rw [hnew, htmax]
    refine ⟨?_, fun b hb => ?_, fun _ h1 => ?_, fun _ h2 => ?_, fun h => ?_, htemp, hshow, ?_, ?_, hpend, hothers, ?_⟩
    · rw [hdone.logged, hwm.2 .trust (by simp), if_pos rfl]
    · rw [State.bit, hdone.mask, hskein, hmask]
      by_cases h1 : s.skein.system.thermal = 1
      · rw [if_pos h1, bitAt_or, bitAt_regionMask hr hb, h1]
        rfl
      · rw [if_neg h1, beq_eq_false_iff_ne.mpr h1, Bool.and_false, Bool.false_and, Bool.or_false, State.bit]
    · exact hdone.regions (by rw [hskein, h1])
    · exact hdone.watch (by rw [hskein, h2])
    · rw [hdone.kept (by rw [hskein]; exact h.resolve_left (by decide)), hpower.hubHot]
    · rw [hhot, heldSince]
      simp only [decide_eq_true_eq]
    · rw [hcool, heldSince]
      simp only [decide_eq_true_eq]
    · rw [hold, hdone.crit, decide_eq_true hreach.1]
      rfl
  · rw [if_neg hreach] at hheat
    rw [hheat] at hexec
    obtain ⟨htmax, htemp, hshow, hhot, hcool, hpend, hothers⟩ := htail (Frame.refl _ _ m) rfl
    have hnew : (!s.flag (REG_EVT_CRIT r) && m.flag (REG_EVT_CRIT r)) = false := by rw [hcritOld, Bool.not_and_self]
    refine ⟨m, hexec, hshape (Frame.refl _ _ m), ?_⟩
    dsimp only
    rw [hnew, htmax]
    refine ⟨?_, fun b hb => ?_, nofun, nofun, fun _ => hpower.hubHot, htemp, hshow, ?_, ?_, hpend, hothers, ?_⟩
    · rw [hwm.2 .trust (by simp), if_neg (by decide)]
      rfl
    · rw [State.bit, hmask, Bool.false_and, Bool.false_and, Bool.or_false, State.bit]
    · rw [hhot, heldSince]
      simp only [decide_eq_true_eq]
    · rw [hcool, heldSince]
      simp only [decide_eq_true_eq]
    · rw [hcritOld]
      rw [hcritOld] at hreach
      cases hflag : s.flag (REG_EVT_CRIT r) with
      | true => rw [Bool.true_or]
      | false => rw [decide_eq_false fun h => hreach ⟨h, hflag⟩]; rfl

end Sys2Proof.Machine
end

section
/-! SUPPORT. Proofs/Health.lean: the other monitors, the end of life and the score (R494, R498 to R501, R523). -/
-- The proofs of this file are elaborated one after another: side by side their threads exceed the memory of the check.
set_option Elab.async false
namespace Sys2Proof.Machine

open Reg

variable {s t u : State}

/-! ### Sensors and rails without power, and rails out of their range (R494, R516) -/

theorem tempSensor_stale {i : Fin 20} {c : BitVec 8} (hup : s.hubUp = true) (hoff : s.sensorOn i.val = false) :
    Does (.tempSensorUpdate i c) s [HEALTH_TEMP i.val] [] fun t =>
      t.flag (HEALTH_TEMP_VALID i.val) = false ∧ t.rf (HEALTH_TEMP_NOW i.val) = s.rf (HEALTH_TEMP_NOW i.val) := by
  have hexec : exec (.tempSensorUpdate i c) s = execTempSensorUpdate i c s := rfl
  unfold execTempSensorUpdate at hexec
  dsimp only at hexec
  rw [hup, hoff, if_neg (by decide), if_pos (by decide)] at hexec
  refine ⟨_, hexec, Frame.sf s (HEALTH_TEMP_VALID i.val) 0, ?_, ?_⟩
  · rw [State.flag, State.rf_sf_self _ _ _ (by simp) (by simp)]
    rfl
  · exact State.rf_sf_ne _ _ (by simp) (by simp) (by simp)

/-- A health event set where a condition begins. -/
theorem State.healthEvt_when (s : State) (f : RegField) (b : Bool) (hf : f.lo = f.hi) (h32 : f.hi < 32) (hr : f.reg ≠ ALARM_FAULT_SW) :
    Frame [f.reg, ALARM_FAULT_SW] [] s (if b then s.healthEvt f else s) ∧ (if b then s.healthEvt f else s).flag f = (s.flag f || b) := by
  cases b with
  | true => exact ⟨s.healthEvt_frame f, by rw [if_pos rfl, Bool.or_true]; exact s.flag_healthEvt f hf h32 hr⟩
  | false => exact ⟨Frame.refl _ _ s, by rw [if_neg (by decide), Bool.or_false]⟩

theorem supply_claim {i : Fin 8} {mv : BitVec 16} :
    let a := HEALTH_SUPPLY i.val
    let was := bitAt (s.reg a) 31 && !railRange i.val (bitsOf (s.reg a) 15 0)
    (s.hubUp = false → exec (.supplyMonitorUpdate i mv) s = .next s)
    ∧ (s.hubUp = true → i.val < 2 → s.dieOn i.val = false → Does (.supplyMonitorUpdate i mv) s [a] [] fun t =>
        t.reg a = setBits (s.reg a) 31 31 0)
    ∧ (s.hubUp = true → ¬(i.val < 2 ∧ s.dieOn i.val = false) →
      Does (.supplyMonitorUpdate i mv) s [a, HEALTH_EVT, ALARM_FAULT_SW] [] fun t =>
        t.reg a = BitVec.ofNat 32 (2 ^ 31 + mv.toNat)
        ∧ t.flag HEALTH_EVT_SUPPLY = (s.flag HEALTH_EVT_SUPPLY || (!railRange i.val mv.toNat && !was))) := by
  intro a was
  have hexec : exec (.supplyMonitorUpdate i mv) s = execSupplyMonitorUpdate i mv s := rfl
  unfold execSupplyMonitorUpdate at hexec
  dsimp only at hexec
  refine ⟨fun hup => ?_, fun hup h2 hdie => ?_, fun hup hon => ?_⟩
  · rw [hexec, hup]
    rfl
  · rw [hup, if_neg (by decide), if_pos ⟨h2, hdie⟩] at hexec
    exact ⟨_, hexec, Frame.setReg s _ _, State.reg_setReg_self _ _ _⟩
  · rw [hup, if_neg (by decide), if_neg hon] at hexec
    have hset : Frame [a] [] s (s.setRegN a (2 ^ 31 + mv.toNat)) := Frame.setRegN s a _
    have hword : (s.setRegN a (2 ^ 31 + mv.toNat)).reg a = BitVec.ofNat 32 (2 ^ 31 + mv.toNat) := State.reg_setReg_self _ _ _
    have hcond (v : State) : (if (railRange i.val mv.toNat || was) = true then v else v.healthEvt HEALTH_EVT_SUPPLY)
        = if (!railRange i.val mv.toNat && !was) = true then v.healthEvt HEALTH_EVT_SUPPLY else v := by
      cases railRange i.val mv.toNat <;> cases was <;> rfl
    have hexec : exec (.supplyMonitorUpdate i mv) s = .next (if (railRange i.val mv.toNat || was) = true
      then s.setRegN a (2 ^ 31 + mv.toNat) else (s.setRegN a (2 ^ 31 + mv.toNat)).healthEvt HEALTH_EVT_SUPPLY) := hexec
    rw [hcond] at hexec
    have hne : HEALTH_EVT ≠ a ∧ ALARM_FAULT_SW ≠ a := by simp only [a, HEALTH_EVT, HEALTH_SUPPLY, ALARM_FAULT_SW]; omega
    generalize s.setRegN a (2 ^ 31 + mv.toNat) = v at *
    obtain ⟨hevt, hflag⟩ := v.healthEvt_when HEALTH_EVT_SUPPLY (!railRange i.val mv.toNat && !was) rfl (by decide) (by decide)
    refine ⟨_, hexec, (hset.mono (by simp) (by simp)).step hevt, ?_, ?_⟩
    · rw [hevt.1 _ (by simpa using ⟨Ne.symm hne.1, Ne.symm hne.2⟩), hword]
    · rw [hflag, State.flag, hset.rf (by simpa using hne.1), ← State.flag]

/-! ### The ageing of a cell (R498) -/

/-- Nothing changes but the ageing of cells. -/
structure AgeOnly (s t : State) : Prop where
  frame : Frame [] [.power] s t
  power : t.power = { s.power with life := t.power.life }

theorem AgeOnly.refl (s : State) : AgeOnly s s := ⟨Frame.refl _ _ s, rfl⟩

theorem AgeOnly.trans (h : AgeOnly s t) (g : AgeOnly t u) : AgeOnly s u :=
  ⟨h.frame.trans g.frame, by rw [g.power, h.power]⟩

theorem AgeOnly.setAge (s : State) (x : Nat) (c : AgeCell) : AgeOnly s (s.setAge x c) := ⟨Frame.power s _, rfl⟩

theorem State.age_setAge_self (s : State) (x : Nat) (c : AgeCell) : (s.setAge x c).age x = c := mget_mset_self _ _ _ _

theorem State.age_setAge_ne (s : State) {x y : Nat} (c : AgeCell) (h : y ≠ x) : (s.setAge x c).age y = s.age y := mget_mset_ne _ _ h _

theorem Frame.age {R : List Nat} {P : List Piece} (h : Frame R P s t) (x : Nat) (hp : Piece.power ∉ P := by simp) : t.age x = s.age x := by
  rw [State.age, h.2 .power hp, State.age]

/-- A cell as a step of its ageing leaves it. -/
def State.agedCell (s : State) (x : Nat) : AgeCell :=
  match (s.age x).last with
  | some t => if s.flag (HEALTH_TEMP_VALID (ageSensor x)) then (s.age x).add x (s.temp (ageSensor x)) (s.now - t) else s.age x
  | none => s.age x

theorem State.ageStep_eq (s : State) (x : Nat) (on : Bool) :
    s.ageStep x on = s.setAge x { s.agedCell x with last := if on then some s.now else none } := rfl

theorem State.agedCell_opened (s : State) (x : Nat) : (s.agedCell x).opened = (s.age x).opened := by
  unfold State.agedCell
  split
  · split <;> rfl
  · rfl

theorem State.agedCell_teq (s : State) (x : Nat) : ((s.age x).last = none → (s.agedCell x).teq = (s.age x).teq)
    ∧ ∀ y, (s.age x).last = some y → (s.agedCell x).teq =
      if s.flag (HEALTH_TEMP_VALID (ageSensor x)) then ((s.age x).add x (s.temp (ageSensor x)) (s.now - y)).teq else (s.age x).teq := by
  unfold State.agedCell
  refine ⟨fun h => by rw [h], fun y h => ?_⟩
  rw [h]
  dsimp only
  split <;> rfl

theorem ro_claim {j : Fin 24} {count : BitVec 20} :
    let on := Nat.ble 16 j.val || (s.dieOn (j.val / 8) && s.bit PWR_STAT j.val)
    (s.hubUp = false → exec (.roMonitorUpdate j count) s = .next s)
    ∧ (s.hubUp = true → Does (.roMonitorUpdate j count) s [HEALTH_RO j.val] [.power] fun t =>
        t.power = { s.power with life := t.power.life }
        ∧ (t.age j.val).last = (if on = true then some s.now else none)
        ∧ ((s.age j.val).last = none → (t.age j.val).teq = (s.age j.val).teq)
        ∧ (∀ x, (s.age j.val).last = some x → (t.age j.val).teq =
            if s.flag (HEALTH_TEMP_VALID (ageSensor j.val))
            then ((s.age j.val).add j.val (s.temp (ageSensor j.val)) (s.now - x)).teq else (s.age j.val).teq)
        ∧ (on = true → t.reg (HEALTH_RO j.val) = BitVec.ofNat 32 (2 ^ 31 + count.toNat))
        ∧ (on = false → t.bit (HEALTH_RO j.val) 31 = false)) := by
  intro on
  have hexec : exec (.roMonitorUpdate j count) s = .next (if (!s.hubUp) = true then s else
      if on = true then (s.ageStep j.val on).setRegN (HEALTH_RO j.val) (2 ^ 31 + count.toNat)
      else (s.ageStep j.val on).setReg (HEALTH_RO j.val) (setBits ((s.ageStep j.val on).reg (HEALTH_RO j.val)) 31 31 0)) := rfl
  refine ⟨fun hup => ?_, fun hup => ?_⟩
  · rw [hexec, hup]
    rfl
  · rw [hup, if_neg (by decide), State.ageStep_eq] at hexec
    have hset := AgeOnly.setAge s j.val { s.agedCell j.val with last := if on then some s.now else none }
    have hcell := s.age_setAge_self j.val { s.agedCell j.val with last := if on then some s.now else none }
    obtain ⟨hnone, hsome⟩ := s.agedCell_teq j.val
    generalize s.setAge j.val { s.agedCell j.val with last := if on then some s.now else none } = v at *
    have hdone {t : State} (ht : Frame [HEALTH_RO j.val] [] v t) : Frame [HEALTH_RO j.val] [.power] s t
        ∧ t.power = { s.power with life := t.power.life } ∧ t.age j.val = { s.agedCell j.val with last := if on then some s.now else none } :=
      ⟨(hset.frame.mono (by simp) (by simp)).step ht, by rw [ht.2 .power (by simp)]; exact hset.power, by rw [ht.age, hcell]⟩
    cases hon : on with
    | true =>
      rw [hon, if_pos rfl] at hexec
      obtain ⟨hframe, hpower, hage⟩ := hdone (Frame.setRegN v (HEALTH_RO j.val) (2 ^ 31 + count.toNat))
      refine ⟨_, hexec, hframe, hpower, by rw [hage, hon], fun h => by rw [hage]; exact hnone h, fun x h => by rw [hage]; exact hsome x h,
        fun _ => State.reg_setReg_self _ _ _, nofun⟩
    | false =>
      rw [hon, if_neg (by decide)] at hexec
      obtain ⟨hframe, hpower, hage⟩ := hdone (Frame.setReg v (HEALTH_RO j.val) (setBits (v.reg (HEALTH_RO j.val)) 31 31 0))
      refine ⟨_, hexec, hframe, hpower, by rw [hage, hon], fun h => by rw [hage]; exact hnone h, fun x h => by rw [hage]; exact hsome x h,
        nofun, fun _ => ?_⟩
      rw [State.bit, State.reg_setReg_self, bitAt_setBits _ _ _ _ (by decide), if_pos rfl]
      rfl

/-! ### The canaries (R499) -/

theorem AgeOnly.ageStep (s : State) (x : Nat) (on : Bool) : AgeOnly s (s.ageStep x on) := AgeOnly.setAge s x _

/-- Every canary aged. -/
def State.canariesAged (s : State) : State := (List.range 32).foldl (fun (s : State) i => s.ageStep (canary i) true) s

theorem State.canariesAged_spec (s : State) : AgeOnly s s.canariesAged ∧ ∀ x, (s.canariesAged.age x).opened = (s.age x).opened := by
  refine foldl_inv (fun u => AgeOnly s u ∧ ∀ x, (u.age x).opened = (s.age x).opened) _ _ _ ⟨AgeOnly.refl s, fun _ => rfl⟩
    fun u i _ ⟨hu, hopen⟩ => ⟨hu.trans (AgeOnly.ageStep u _ _), fun x => ?_⟩
  rw [← hopen x, State.ageStep_eq]
  by_cases hx : x = canary i
  · rw [hx, State.age_setAge_self]
    exact u.agedCell_opened _
  · rw [State.age_setAge_ne u _ hx]

/-- A canary that opens keeps its equivalent hours. -/
def State.canaryOpened (s : State) (i : Nat) : State :=
  s.setAge (canary i) { s.age (canary i) with opened := some (s.age (canary i)).teq }

theorem State.canariesOpened_spec (s : State) (l : List Nat) : AgeOnly s (l.foldl State.canaryOpened s)
    ∧ (∀ x, ((l.foldl State.canaryOpened s).age x).teq = (s.age x).teq)
    ∧ ∀ x, ((l.foldl State.canaryOpened s).age x).opened = if x ∈ l.map canary then some (s.age x).teq else (s.age x).opened := by
  induction l generalizing s with
  | nil => exact ⟨AgeOnly.refl s, fun _ => rfl, fun _ => by simp⟩
  | cons i l ih =>
    obtain ⟨honly, hteq, hopened⟩ := ih (s.canaryOpened i)
    have hone (x : Nat) : (s.canaryOpened i).age x = if x = canary i then { s.age x with opened := some (s.age x).teq } else s.age x := by
      by_cases hx : x = canary i
      · rw [if_pos hx, hx]
        exact s.age_setAge_self _ _
      · rw [if_neg hx]
        exact s.age_setAge_ne _ hx
    have hsame (x : Nat) : ((s.canaryOpened i).age x).teq = (s.age x).teq := by
      rw [hone]
      split <;> rfl
    refine ⟨(AgeOnly.setAge s _ _).trans honly, fun x => (hteq x).trans (hsame x), fun x => ?_⟩
    rw [List.foldl_cons, hopened, hsame, hone, List.map_cons]
    by_cases hl : x ∈ l.map canary
    · rw [if_pos hl, if_pos (List.mem_cons_of_mem _ hl)]
    · by_cases hx : x = canary i
      · rw [if_neg hl, if_pos hx, if_pos (hx ▸ List.mem_cons_self)]
      · rw [if_neg hl, if_neg hx, if_neg (by simp [hl, hx])]

/-- The canaries that a reading shows open for the first time. -/
def State.newlyOpen (s : State) (w : Word) : List Nat :=
  (List.range 32).filter fun i => bitAt w i && (s.age (canary i)).opened.isNone

theorem mem_newlyOpen {w : Word} {k : Nat} (hk : k < 32) :
    canary k ∈ (s.newlyOpen w).map canary ↔ (bitAt w k && (s.age (canary k)).opened.isNone) = true := by
  simp only [State.newlyOpen, List.mem_map, List.mem_filter, List.mem_range, canary]
  constructor
  · rintro ⟨i, ⟨_, hi⟩, he⟩
    obtain rfl : i = k := by omega
    exact hi
  · exact fun h => ⟨k, ⟨hk, h⟩, rfl⟩

theorem execEmCanary_eq {w : Word} (hup : s.hubUp = true) : exec (.emCanaryUpdate w) s = .next
    (let u := ((s.canariesAged.newlyOpen w).foldl State.canaryOpened s.canariesAged).setReg HEALTH_EM w
     if w &&& ~~~s.reg HEALTH_EM = 0#32 then u else u.healthEvt HEALTH_EVT_EM_OPEN) := by
  have hexec : exec (.emCanaryUpdate w) s = .next (if (!s.hubUp) = true then s else
    (let u := ((s.canariesAged.newlyOpen w).foldl State.canaryOpened s.canariesAged).setReg HEALTH_EM w
     if w &&& ~~~s.reg HEALTH_EM = 0#32 then u else u.healthEvt HEALTH_EVT_EM_OPEN)) := rfl
  rw [hexec, hup, if_neg (by decide)]

theorem emCanary_claim {w : Word} (hup : s.hubUp = true) :
    Does (.emCanaryUpdate w) s [HEALTH_EM, HEALTH_EVT, ALARM_FAULT_SW] [.power] fun t =>
      t.reg HEALTH_EM = w
      ∧ t.power = { s.power with life := t.power.life }
      ∧ (∀ k, k < 32 → (t.age (canary k)).opened =
          if bitAt w k && (s.age (canary k)).opened.isNone then some (t.age (canary k)).teq else (s.age (canary k)).opened)
      ∧ t.flag HEALTH_EVT_EM_OPEN = (s.flag HEALTH_EVT_EM_OPEN || (w &&& ~~~s.reg HEALTH_EM) != 0#32) := by
  have hexec := execEmCanary_eq (w := w) hup
  obtain ⟨haged, hopenOld⟩ := s.canariesAged_spec
  generalize s.canariesAged = v at *
  obtain ⟨hopen, hteq, hopened⟩ := v.canariesOpened_spec (v.newlyOpen w)
  have hmem (k : Nat) (hk : k < 32) := mem_newlyOpen (s := v) (w := w) hk
  generalize (v.newlyOpen w).foldl State.canaryOpened v = o at *
  have hset := Frame.setReg o HEALTH_EM w
  have hword : (o.setReg HEALTH_EM w).reg HEALTH_EM = w := State.reg_setReg_self _ _ _
  dsimp only at hexec
  generalize o.setReg HEALTH_EM w = m at *
  have hcond : (if w &&& ~~~s.reg HEALTH_EM = 0#32 then m else m.healthEvt HEALTH_EVT_EM_OPEN)
      = if ((w &&& ~~~s.reg HEALTH_EM) != 0#32) = true then m.healthEvt HEALTH_EVT_EM_OPEN else m := by
    by_cases h : w &&& ~~~s.reg HEALTH_EM = 0#32
    · rw [if_pos h, h, if_neg (by decide)]
    · rw [if_neg h, if_pos (by simpa using h)]
  rw [hcond] at hexec
  obtain ⟨hevt, hflag⟩ := m.healthEvt_when HEALTH_EVT_EM_OPEN ((w &&& ~~~s.reg HEALTH_EM) != 0#32) rfl (by decide) (by decide)
  generalize (if ((w &&& ~~~s.reg HEALTH_EM) != 0#32) = true then m.healthEvt HEALTH_EVT_EM_OPEN else m) = t at *
  have hlast : Frame [HEALTH_EM, HEALTH_EVT, ALARM_FAULT_SW] [] o t := (hset.mono (by simp) (by simp)).step hevt
  have hall := haged.trans hopen
  refine ⟨t, hexec, (hall.frame.mono (by simp) (by simp)).step hlast, ?_, ?_, fun k hk => ?_, ?_⟩
  · rw [hevt.1 _ (by decide), hword]
  · rw [hlast.2 .power (by simp)]
    exact hall.power
  · rw [hlast.age, hopened, hteq, ← hopenOld]
    exact if_congr (hmem k hk) rfl rfl
  · rw [hflag, State.flag, hset.rf (by decide), hall.frame.rf (by simp), ← State.flag]

/-! ### The end of life (R498 to R500) -/

theorem AgeOnly.lifeSample (s : State) : AgeOnly s s.lifeSample := by
  have hcells : AgeOnly s ((List.range 24 ++ (List.range 32).map canary).foldl State.ageSample s) :=
    foldl_inv (AgeOnly s) _ _ _ (AgeOnly.refl s) fun u x _ hu => hu.trans (AgeOnly.setAge u x _)
  have hlife (u : State) (l : Life) : AgeOnly u { u with power := { u.power with life := l } } := ⟨Frame.power u _, rfl⟩
  exact hcells.trans (hlife _ _)

/-- The register that shows the source of the least figure. -/
def eolSource (l : List EolSource) : Nat :=
  match l.find? fun x => x.lo == eolMin (·.lo) l with | some x => x.kind * 256 + x.index | none => 0

/-- The figures shown. -/
def State.eolShown (s : State) (l : List EolSource) : State :=
  (((((s.setRegN HEALTH_EOL_NOW (eolMin (·.now) l)).setRegN HEALTH_EOL_105 (eolMin (·.at105) l)).setRegN HEALTH_EOL_LO
    (eolMin (·.lo) l)).setRegN HEALTH_EOL_HI (eolMin (·.hi) l)).setRegN HEALTH_EOL_SRC (eolSource l)).setRegN HEALTH_TEQ s.teqMax

/-- An event of the end of life where its threshold is passed. -/
def State.eolFell (s : State) (f : RegField) (years lo : Nat) (fell : Bool) : State :=
  if fell then (s.healthEvt f).wardenEvent 13 [years, lo] else s

/-- Whether the least figure falls below a threshold. -/
def State.fellBelow (s : State) (h lo : Nat) : Bool := Nat.ble h (s.reg HEALTH_EOL_LO).toNat && Nat.blt lo h

theorem State.eolPut_eq (s : State) (l : List EolSource) : s.eolPut l =
    ((s.eolShown l).eolFell HEALTH_EVT_EOL_5Y 5 (eolMin (·.lo) l) (s.fellBelow 43800 (eolMin (·.lo) l))).eolFell HEALTH_EVT_EOL_1Y 1
      (eolMin (·.lo) l) (s.fellBelow 8760 (eolMin (·.lo) l)) := rfl

/-- The registers of the figures. -/
abbrev eolRegs : List Nat := [HEALTH_EOL_NOW, HEALTH_EOL_105, HEALTH_EOL_LO, HEALTH_EOL_HI, HEALTH_EOL_SRC, HEALTH_TEQ]

theorem State.eolShown_frame (s : State) (l : List EolSource) : Frame eolRegs [] s (s.eolShown l) :=
  (Frame.refl _ _ s).step (Frame.setRegN s HEALTH_EOL_NOW _) |>.step (Frame.setRegN _ HEALTH_EOL_105 _) |>.step (Frame.setRegN _ HEALTH_EOL_LO _)
    |>.step (Frame.setRegN _ HEALTH_EOL_HI _) |>.step (Frame.setRegN _ HEALTH_EOL_SRC _) |>.step (Frame.setRegN _ HEALTH_TEQ _)

theorem State.eolShown_reads (s : State) (l : List EolSource) :
    (s.eolShown l).reg HEALTH_EOL_NOW = BitVec.ofNat 32 (eolMin (·.now) l)
    ∧ (s.eolShown l).reg HEALTH_EOL_105 = BitVec.ofNat 32 (eolMin (·.at105) l)
    ∧ (s.eolShown l).reg HEALTH_EOL_LO = BitVec.ofNat 32 (eolMin (·.lo) l)
    ∧ (s.eolShown l).reg HEALTH_EOL_HI = BitVec.ofNat 32 (eolMin (·.hi) l)
    ∧ (s.eolShown l).reg HEALTH_EOL_SRC = BitVec.ofNat 32 (eolSource l)
    ∧ (s.eolShown l).reg HEALTH_TEQ = BitVec.ofNat 32 s.teqMax := by
  unfold State.eolShown
  simp [State.setRegN, State.reg_setReg]

theorem State.eolFell_spec (s : State) {f : RegField} (years lo : Nat) (fell : Bool) (hf : f.lo = f.hi) (h32 : f.hi < 32) (hr : f.reg = HEALTH_EVT) :
    Frame [HEALTH_EVT, ALARM_FAULT_SW, TRUST_EVT] [.trust] s (s.eolFell f years lo fell)
    ∧ (s.eolFell f years lo fell).flag f = (s.flag f || fell)
    ∧ ∀ g : RegField, g.reg = HEALTH_EVT → (g.hi < f.lo ∨ f.hi < g.lo) → (s.eolFell f years lo fell).flag g = s.flag g := by
  cases fell with
  | false => exact ⟨Frame.refl _ _ s, (Bool.or_false _).symm, fun _ _ _ => rfl⟩
  | true =>
    have heq : s.eolFell f years lo true = (s.healthEvt f).wardenEvent 13 [years, lo] := rfl
    have hevt := s.healthEvt_frame f
    have hset := s.flag_healthEvt f hf h32 (by rw [hr]; decide)
    have hother (g : RegField) (hg : g.reg = HEALTH_EVT) (hd : g.hi < f.lo ∨ f.hi < g.lo) : (s.healthEvt f).flag g = s.flag g := by
      unfold State.healthEvt
      split
      · rfl
      · rw [State.flag, (State.policyBits_frame _ _).rf (by rw [hg]; decide), State.rf_raise_ne _ (Nat.le_of_eq hf) h32 (.inr hd), ← State.flag]
    rw [hr] at hevt
    rw [heq]
    generalize s.healthEvt f = v at *
    have hlog := Frame.wardenEvent v 13 [years, lo]
    have hkeep (g : RegField) (hg : g.reg = HEALTH_EVT) : (v.wardenEvent 13 [years, lo]).flag g = v.flag g := by
      rw [State.flag, hlog.rf (by rw [hg]; decide), ← State.flag]
    refine ⟨(hevt.mono (by simp) (by simp)).step hlog, ?_, fun g hg hd => (hkeep g hg).trans (hother g hg hd)⟩
    rw [hkeep f hr, hset, Bool.or_true]

theorem execEol_eq (hup : s.hubUp = true) (hwarden : s.power.wardenUp = true) :
    exec .eolUpdate s = .next (s.lifeSample.eolPut s.lifeSample.eolSources) := by
  have hexec : exec .eolUpdate s = execEolUpdate s := rfl
  rw [hexec, execEolUpdate, hup, hwarden, if_pos (by decide)]

theorem State.fellBelow_eq (s : State) (h lo : Nat) :
    s.fellBelow h lo = (decide (h ≤ (s.reg HEALTH_EOL_LO).toNat) && decide (lo < h)) := by
  unfold State.fellBelow
  rw [Bool.eq_iff_iff, Bool.and_eq_true, Bool.and_eq_true, Nat.ble_eq, Nat.blt_eq, decide_eq_true_eq, decide_eq_true_eq]

theorem eol_claim (hup : s.hubUp = true) (hwarden : s.power.wardenUp = true) :
    let u := s.lifeSample
    let l := u.eolSources
    let lo := eolMin (·.lo) l
    Does .eolUpdate s (eolRegs ++ [HEALTH_EVT, ALARM_FAULT_SW, TRUST_EVT]) [.trust, .power] fun t =>
      t.power = u.power
      ∧ t.reg HEALTH_EOL_NOW = BitVec.ofNat 32 (eolMin (·.now) l)
      ∧ t.reg HEALTH_EOL_105 = BitVec.ofNat 32 (eolMin (·.at105) l)
      ∧ t.reg HEALTH_EOL_LO = BitVec.ofNat 32 lo ∧ t.reg HEALTH_EOL_HI = BitVec.ofNat 32 (eolMin (·.hi) l)
      ∧ t.reg HEALTH_TEQ = BitVec.ofNat 32 u.teqMax
      ∧ (∀ x, (l.find? fun x => x.lo == lo) = some x → t.reg HEALTH_EOL_SRC = BitVec.ofNat 32 (x.kind * 256 + x.index))
      ∧ t.flag HEALTH_EVT_EOL_5Y = (s.flag HEALTH_EVT_EOL_5Y
          || (decide (43800 ≤ (s.reg HEALTH_EOL_LO).toNat) && decide (lo < 43800)))
      ∧ t.flag HEALTH_EVT_EOL_1Y = (s.flag HEALTH_EVT_EOL_1Y
          || (decide (8760 ≤ (s.reg HEALTH_EOL_LO).toNat) && decide (lo < 8760))) := by
  intro u l lo
  have hexec := execEol_eq hup hwarden
  have hlife := AgeOnly.lifeSample s
  have hold (h : Nat) : s.lifeSample.fellBelow h lo = (decide (h ≤ (s.reg HEALTH_EOL_LO).toNat) && decide (lo < h)) := by
    rw [State.fellBelow_eq, hlife.frame.1 _ (by simp)]
  rw [State.eolPut_eq] at hexec
  have hshown := s.lifeSample.eolShown_frame l
  obtain ⟨hnow, h105, hlo, hhi, hsrc, hteq⟩ := s.lifeSample.eolShown_reads l
  change exec .eolUpdate s = .next (((u.eolShown l).eolFell HEALTH_EVT_EOL_5Y 5 lo (u.fellBelow 43800 lo)).eolFell HEALTH_EVT_EOL_1Y 1 lo
    (u.fellBelow 8760 lo)) at hexec
  rw [hold, hold] at hexec
  have hflag (f : RegField) (hf : f.reg = HEALTH_EVT) : (u.eolShown l).flag f = s.flag f := by
    rw [State.flag, hshown.rf (by rw [hf]; decide), hlife.frame.rf (by simp), ← State.flag]
  have hall : Frame eolRegs [.power] s (u.eolShown l) := (hlife.frame.mono (by simp) (by simp)).step hshown (fun _ h => h)
  have hpower : (u.eolShown l).power = u.power := hshown.2 .power (by simp)
  generalize u.eolShown l = v at *
  obtain ⟨hfive, hfiveSet, hfiveKeep⟩ := v.eolFell_spec (f := HEALTH_EVT_EOL_5Y) 5 lo
    (decide (43800 ≤ (s.reg HEALTH_EOL_LO).toNat) && decide (lo < 43800)) rfl (by decide) rfl
  generalize v.eolFell HEALTH_EVT_EOL_5Y 5 lo _ = w at *
  obtain ⟨hone, honeSet, honeKeep⟩ := w.eolFell_spec (f := HEALTH_EVT_EOL_1Y) 1 lo
    (decide (8760 ≤ (s.reg HEALTH_EOL_LO).toNat) && decide (lo < 8760)) rfl (by decide) rfl
  generalize w.eolFell HEALTH_EVT_EOL_1Y 1 lo _ = t at *
  have hlast := hfive.trans hone
  refine ⟨t, hexec, ?_, ?_, ?_, ?_, ?_, ?_, ?_, fun x hx => ?_, ?_, ?_⟩
  · exact (hall.mono (fun a ha => List.mem_append_left _ ha) (by simp)).step hlast (fun a ha => List.mem_append_right _ ha)
  · rw [hlast.2 .power (by simp), hpower]
  · rw [hlast.1 _ (by decide), hnow]
  · rw [hlast.1 _ (by decide), h105]
  · rw [hlast.1 _ (by decide), hlo]
  · rw [hlast.1 _ (by decide), hhi]
  · rw [hlast.1 _ (by decide), hteq]
  · have hx : (l.find? fun x => x.lo == eolMin (·.lo) l) = some x := hx
    rw [hlast.1 _ (by decide), hsrc, eolSource, hx]
  · rw [honeKeep HEALTH_EVT_EOL_5Y rfl (by decide), hfiveSet, hflag _ rfl]
  · rw [honeSet, hfiveKeep HEALTH_EVT_EOL_1Y rfl (by decide), hflag _ rfl]

/-! ### The score (R501) -/

theorem score_claim (hup : s.hubUp = true) (hwarden : s.power.wardenUp = true) : Does .healthScoreUpdate s [PAIR_HEALTH] [] fun t =>
    t.rf PAIR_HEALTH_SCORE = 255 - s.penalties := by
  have hexec : exec .healthScoreUpdate s = execHealthScoreUpdate s := rfl
  rw [execHealthScoreUpdate, hup, hwarden, if_pos (by decide)] at hexec
  refine ⟨_, hexec, Frame.sf s PAIR_HEALTH_SCORE _, ?_⟩
  dsimp only
  rw [State.rf_sf_self _ _ _ (by decide) (by decide)]
  exact Nat.mod_eq_of_lt (by show 255 - s.penalties < 2 ^ 8; omega)

theorem hubOff_claim (hup : s.hubUp = false) : (∀ w : Word, exec (.emCanaryUpdate w) s = .next s)
    ∧ exec .eolUpdate s = .next s ∧ exec .healthScoreUpdate s = .next s := by
  refine ⟨fun w => ?_, ?_, ?_⟩
  · have hexec : exec (.emCanaryUpdate w) s = execEmCanaryUpdate w s := rfl
    rw [hexec, execEmCanaryUpdate, hup]
    rfl
  · have hexec : exec .eolUpdate s = execEolUpdate s := rfl
    rw [hexec, execEolUpdate, hup]
    rfl
  · have hexec : exec .healthScoreUpdate s = execHealthScoreUpdate s := rfl
    rw [hexec, execHealthScoreUpdate, hup]
    rfl

/-- Settles O52: a region's share of a reading by `heatNoted_spec` and `critReached_spec`, the ageing of cells by what one step leaves,
and the figures of the end of life as `eolPut` shows them. The TH_LO that says when the hub is cool and the largest reading from the
first on are log 100, the arithmetic of ageing log 101. -/
theorem healthMonitors : Obligations.HealthMonitors := by
  unfold Obligations.HealthMonitors
  intro s
  refine ⟨fun i c => ⟨fun hup => ?_, fun hup hoff => tempSensor_stale hup hoff, fun hon hi => tempSensor_hub hon hi,
    fun hon hi hquiet => tempSensor_cluster hon hi hquiet⟩, fun i mv => supply_claim, fun j count => ro_claim, fun hup => hubOff_claim hup,
    fun w hup => emCanary_claim hup, fun hup hwarden => eol_claim hup hwarden, fun hup hwarden => score_claim hup hwarden⟩
  have hexec : exec (.tempSensorUpdate i c) s = execTempSensorUpdate i c s := rfl
  rw [hexec, execTempSensorUpdate, hup]
  rfl

end Sys2Proof.Machine
end

section
/-! SUPPORT. Proofs/PairLane.lean: what a frame sent on the pair link changes (R274, R276, R304, R388). -/
-- The proofs of this file are elaborated one after another: side by side their threads exceed the memory of the check.
set_option Elab.async false
namespace Sys2Proof.Machine

open Reg

variable {s t u : State}

/-! ### Free values -/

theorem State.pick_frame (s : State) (n : Nat) : Frame [] [.fv] s (s.pick n).2 := Frame.withFv s _

theorem State.pick_lt (s : State) {n : Nat} (h : 0 < n) : (s.pick n).1 < n := Nat.mod_lt _ h

/-! ### A packet number used (R276, R388) -/

theorem State.setPn_frame (s : State) (p k v : Nat) : Frame [NET_SEC_SA_PN_LO p k, NET_SEC_SA_PN_HI p k] [] s (s.setPn p k v) :=
  (Frame.refl _ _ s).step (Frame.setRegN s _ _) |>.step (Frame.setRegN _ _ _)

/-- The block of packet numbers reserved anew where it is used up. -/
def State.pnReserved (s : State) (p : Nat) : State :=
  let an := s.rf (NET_SEC_CFG_TX_AN p)
  let pn := s.pn p an
  let key := 4 * p + an
  let top := mget (fun _ => 0) s.net.pnTop key
  if pn < top then s
  else
    let t := pn + (if s.xpn p then 2 ^ 40 else 2 ^ 24)
    ({ s with net := { s.net with pnTop := mset (fun _ => 0) s.net.pnTop key t } }).logRec 3 [p, an, t]

theorem State.pnReserved_frame (s : State) (p : Nat) : Frame [TRUST_EVT] [.net, .trust] s (s.pnReserved p) := by
  unfold State.pnReserved
  dsimp only
  exact (Frame.refl _ _ s).ite ((Frame.refl _ _ s).step (Frame.withNet s _) |>.step (State.logRec_frame _ 3 _))

/-- A packet number taken, with SEC_PN at the threshold. -/
def State.pnTaken (s : State) (p an pn : Nat) : State :=
  let s := s.setPn p an (pn + 1)
  if pn + 1 = (if s.xpn p then 2 ^ 62 else 0xC0000000) then s.raise (NET_EVT_SEC_PN p) else s

theorem State.usePn_eq (s : State) (p : Nat) :
    s.usePn p = (s.pnReserved p).pnTaken p (s.rf (NET_SEC_CFG_TX_AN p)) (s.pn p (s.rf (NET_SEC_CFG_TX_AN p))) := rfl

/-- Registers and pieces that a secured frame changes as it leaves a port. -/
def secRegs (p : Nat) : List Nat :=
  [NET_EVT p, NET_COUNTERS p 14, TRUST_EVT] ++ regFile (NET_SEC_SA_PN_LO p) 4 ++ regFile (NET_SEC_SA_PN_HI p) 4

theorem State.usePn_frame (s : State) (p : Nat) : Frame (secRegs p) [.net, .trust] s (s.usePn p) := by
  have han : s.rf (NET_SEC_CFG_TX_AN p) < 4 := bitsOf_lt _ _ _
  have hres := s.pnReserved_frame p
  rw [State.usePn_eq]
  generalize s.pnReserved p = r at *
  have hset := r.setPn_frame p (s.rf (NET_SEC_CFG_TX_AN p)) (s.pn p (s.rf (NET_SEC_CFG_TX_AN p)) + 1)
  have hin : ∀ a ∈ [NET_SEC_SA_PN_LO p (s.rf (NET_SEC_CFG_TX_AN p)), NET_SEC_SA_PN_HI p (s.rf (NET_SEC_CFG_TX_AN p))], a ∈ secRegs p := by
    intro a ha
    simp only [List.mem_cons, List.not_mem_nil, or_false] at ha
    rcases ha with rfl | rfl
    · exact List.mem_append_left _ (List.mem_append_right _ (List.mem_map_of_mem (List.mem_range.mpr han)))
    · exact List.mem_append_right _ (List.mem_map_of_mem (List.mem_range.mpr han))
  have hall := (hres.mono (by simp [secRegs]) (fun _ h => h)).step hset hin
  exact (hall.step (Frame.raise _ (NET_EVT_SEC_PN p)) (by simp [secRegs])).ite hall

theorem Frame.cnt (s : State) (p k : Nat) : Frame [NET_COUNTERS p k] [] s (s.cnt p k) := Frame.setReg s _ _

theorem State.txSecure_frame (s : State) (p : Nat) : Frame (secRegs p) [.net, .trust] s (s.txSecure p).1 := by
  unfold State.txSecure
  split
  · exact s.usePn_frame p
  · exact (Frame.cnt s p cTxExh).mono (by simp [secRegs, cTxExh]) (by simp)

/-! ### The lanes (R303, R304, R305) -/

theorem State.laneTx_frame (s : State) (l : Nat) : Frame laneRegs [.net, .trust] s (s.laneTx l).1 := by
  unfold State.laneTx
  split
  · exact Frame.refl _ _ s
  · split
    · exact s.txSecure_frame 6
    · exact Frame.refl _ _ s

theorem Frame.setLane (s : State) (l : Nat) (x : Lane) : Frame [] [.pair] s (s.setLane l x) := Frame.withPair s _

theorem State.pairSend_frame (s : State) (m : PairMsg) : Frame laneRegs lanePieces s (s.pairSend m) := by
  have h0 := s.laneTx_frame 0
  have hdef : s.pairSend m = if ((s.laneTx 0).2 || ((s.laneTx 0).1.laneTx 1).2) = true then
      { ((s.laneTx 0).1.laneTx 1).1 with pair := { ((s.laneTx 0).1.laneTx 1).1.pair with
        out := (((s.laneTx 0).1.laneTx 1).1.pair.out ++ [m]).drop ((((s.laneTx 0).1.laneTx 1).1.pair.out ++ [m]).length - 32) } }
      else ((s.laneTx 0).1.laneTx 1).1 := rfl
  rw [hdef]
  generalize s.laneTx 0 = x at *
  have h1 := x.1.laneTx_frame 1
  generalize x.1.laneTx 1 = y at *
  have hboth : Frame laneRegs lanePieces s y.1 := (h0.trans h1).mono (fun _ h => h) (by simp [lanePieces])
  exact (hboth.step (Frame.withPair y.1 _) (by simp) (by simp [lanePieces])).ite hboth

theorem State.relSend_frame (s : State) (l : Nat) (m : PairMsg) : Frame laneRegs lanePieces s (s.relSend l m) := by
  unfold State.relSend
  dsimp only
  generalize (if (s.lane l).up || !(s.lane (1 - l)).up then l else 1 - l) = k
  have hset := Frame.setLane s k { s.lane k with
    next := ((s.lane k).next + 1) % 2 ^ 32,
    win := (s.lane k).win ++ [⟨(s.lane k).next, m, if Nat.blt (s.lane k).win.length 64 then 1 else 0⟩] }
  have hbase : Frame laneRegs lanePieces s _ := hset.mono (by simp) (by simp [lanePieces])
  exact (hbase.step (State.laneTx_frame _ k) (fun _ h => h) (by simp [lanePieces])).ite hbase

theorem State.ctlSend_frame (s : State) (c : PairCtl) : Frame laneRegs lanePieces s (s.ctlSend c) := s.relSend_frame 0 _

theorem State.laneFill_frame (s : State) (l : Nat) : Frame laneRegs lanePieces s (s.laneFill l) := by
  unfold State.laneFill
  dsimp only
  refine (Frame.refl _ _ s).ite ?_
  have hset : Frame laneRegs lanePieces s _ := (Frame.setLane s l { s.lane l with
    win := ((s.lane l).win.take 64).map (fun f => { f with sent := max 1 f.sent }) ++ (s.lane l).win.drop 64 }).mono (by simp) (by simp [lanePieces])
  exact hset.foldl fun u _ _ => (u.laneTx_frame l).mono (fun _ h => h) (by simp [lanePieces])

theorem State.setPair_frame (s : State) (st : Nat) : Frame (PAIR_STAT :: laneRegs) lanePieces s (s.setPair st) := by
  unfold State.setPair
  refine (Frame.refl _ _ s).ite ?_
  exact (Frame.refl _ _ s).step (Frame.sf s PAIR_STAT_STATE st) |>.step (State.ctlSend_frame _ _) (fun a ha => List.mem_cons_of_mem _ ha) (fun _ h => h)

/-- The registers that a frame sent on a lane may change. -/
theorem laneRegs_range {a : Nat} (h : a ∈ laneRegs) : a = TRUST_EVT ∨ (0x300000 ≤ a ∧ a ≤ 0x3FFFFF) := by
  simp only [laneRegs, regFile, List.mem_append, List.mem_cons, List.mem_map, List.mem_range, List.not_mem_nil, or_false,
    NET_EVT, NET_COUNTERS, NET_SEC_SA_PN_LO, NET_SEC_SA_PN_HI] at h
  rcases h with ((h | h | h) | ⟨k, hk, h⟩) | ⟨k, hk, h⟩
  · right; omega
  · right; omega
  · exact .inl h
  · right; omega
  · right; omega

end Sys2Proof.Machine
end

section
/-! SUPPORT. Proofs/RefChange.lean: what a change of the reference selector may reach (R355, R356, R358 to R369). -/
-- The proofs of this file are elaborated one after another: side by side their threads exceed the memory of the check.
set_option Elab.async false
namespace Sys2Proof.Machine

open Reg

variable {s t u : State}

/-- The pieces of state that a change of the selection may reach: its own, and free values. -/
abbrev refPieces : List Piece := [.refsel, .fv]

theorem Frame.setRef (s : State) (r : Nat) (x : RefIn) : Frame [] [.refsel] s (s.setRef r x) := Frame.withRefsel s _

/-- An update of a register of the selector. -/
theorem Frame.refStep {P : List Piece} {a : Nat} (h : Frame refselRegs P s t) (g : Frame [a] [] t u) (ha : 0x510000 ≤ a := by decide)
    (ha' : a ≤ 0x51FFFF := by decide) : Frame refselRegs P s u :=
  h.step g (List.forall_mem_singleton.mpr (mem_refselRegs ha ha'))

theorem refReg_range {r : Nat} (hr : r < 16) : (0x510000 ≤ REF_STAT r ∧ REF_STAT r ≤ 0x51FFFF) ∧ (0x510000 ≤ REF_HIST r ∧ REF_HIST r ≤ 0x51FFFF)
    ∧ (0x510000 ≤ REF_FREQ r ∧ REF_FREQ r ≤ 0x51FFFF) ∧ 0x510000 ≤ REF_PHASE r ∧ REF_PHASE r ≤ 0x51FFFF := by
  simp only [REF_STAT, REF_HIST, REF_FREQ, REF_PHASE]
  omega

theorem State.selChange_frame (s : State) (sel state : Nat) : Frame refselRegs [.refsel] s (s.selChange sel state) := by
  have h1 : Frame refselRegs [.refsel] s ((s.sf REFSEL_STAT_SEL sel).sf REFSEL_STAT_STATE state) :=
    (Frame.refl _ _ s).refStep (Frame.sf s REFSEL_STAT_SEL sel) |>.refStep (Frame.sf _ REFSEL_STAT_STATE state)
  unfold State.selChange
  dsimp only
  generalize (s.sf REFSEL_STAT_SEL sel).sf REFSEL_STAT_STATE state = m at *
  exact (h1.step (Frame.withRefsel m _)).refStep (Frame.raise _ REFSEL_EVT_SEL_CHG)

theorem State.switchTo_frame (s : State) (r : Nat) : Frame refselRegs [.refsel] s (s.switchTo r) := by
  have h := s.selChange_frame r rsSwitching
  unfold State.switchTo
  dsimp only
  generalize s.selChange r rsSwitching = m at *
  exact h.step (Frame.withRefsel m _)

theorem State.setWord48_ref (s : State) {lo hi : Nat} (x : Int) (hlo : 0x510000 ≤ lo ∧ lo ≤ 0x51FFFF) (hhi : 0x510000 ≤ hi ∧ hi ≤ 0x51FFFF) :
    Frame refselRegs [] s (s.setWord48 lo hi x) :=
  (s.setWord48_frame lo hi x).mono (by
    simp only [List.mem_cons, List.not_mem_nil, or_false, forall_eq_or_imp, forall_eq]
    exact ⟨mem_refselRegs hlo.1 hlo.2, mem_refselRegs hhi.1 hhi.2⟩) (by simp)

/-- The word that holdover keeps: the mean of the history, or the present word. -/
def State.heldWord (s : State) : State :=
  let l := s.histWords
  if l.isEmpty then (s.setWord48 REFSEL_HOLD_LO REFSEL_HOLD_HI s.nco).raise REFSEL_EVT_HOLD_SHORT
  else
    let (m, s) := s.meanOf l
    s.setWord48 REFSEL_HOLD_LO REFSEL_HOLD_HI m

theorem State.heldWord_frame (s : State) : Frame refselRegs refPieces s s.heldWord := by
  unfold State.heldWord
  dsimp only
  refine Frame.ite ?_ ?_
  · exact ((s.setWord48_ref s.nco (by decide) (by decide)).mono (fun _ h => h) (by simp)).refStep (Frame.raise _ REFSEL_EVT_HOLD_SHORT)
  · have hmean : Frame [] [.fv] s (s.meanOf s.histWords).2 := s.pick_frame 2
    generalize s.meanOf s.histWords = x at *
    exact (hmean.mono (by simp) (by simp)).step (x.2.setWord48_ref x.1 (by decide) (by decide)) (fun _ h => h)

/-- Holdover shown. -/
def State.holdoverShown (s : State) : State :=
  (if s.selRef = 15 then s.sf REFSEL_STAT_STATE rsHoldover else s.selChange 15 rsHoldover).raise REFSEL_EVT_HOLDOVER

theorem State.refHoldover_eq (s : State) : s.refHoldover = if s.selState = rsHoldover then s else s.heldWord.holdoverShown := rfl

theorem State.holdoverShown_frame (s : State) : Frame refselRegs [.refsel] s s.holdoverShown := by
  unfold State.holdoverShown
  exact (Frame.ite ((Frame.refl _ _ s).refStep (Frame.sf s REFSEL_STAT_STATE rsHoldover)) (s.selChange_frame 15 rsHoldover)).refStep
    (Frame.raise _ REFSEL_EVT_HOLDOVER)

theorem State.refHoldover_frame (s : State) : Frame refselRegs refPieces s s.refHoldover := by
  rw [State.refHoldover_eq]
  exact (Frame.refl _ _ s).ite (s.heldWord_frame.step (State.holdoverShown_frame _) (fun _ h => h))

theorem State.forceChange_frame (s : State) : Frame refselRegs refPieces s s.forceChange := by
  unfold State.forceChange
  split
  · exact (s.switchTo_frame _).mono (fun _ h => h) (by simp)
  · exact s.refHoldover_frame

/-- A reference disqualified, before a change that it forces. -/
def State.disqShown (s : State) (r : Nat) : State :=
  let s := ((s.sf (REF_STAT_QUAL r) 0).raise (REF_HIST_DISQ r)).raise REFSEL_EVT_DISQUALIFIED
  (s.sf (REF_STAT_IN_WTR r) 0).setRef r { s.ref r with again := true, off := none }

theorem State.refDisq_eq (s : State) (r : Nat) : s.refDisq r = if (!s.refQual r) = true then s else
    if (s.disqShown r).selState = rsSwitching ∧ (s.disqShown r).selRef = r ∧ (s.disqShown r).rf REFSEL_CTL_SEL_MODE = 0
      ∧ (s.disqShown r).flag REFSEL_CTL_RUN = true then (s.disqShown r).forceChange else s.disqShown r := rfl

theorem State.disqShown_frame (s : State) {r : Nat} (hr : r < 16) : Frame refselRegs [.refsel] s (s.disqShown r) := by
  obtain ⟨hstat, hhist, -⟩ := refReg_range hr
  have hqual : Frame [REF_STAT r] [] s (s.sf (REF_STAT_QUAL r) 0) := Frame.sf s (REF_STAT_QUAL r) 0
  have h : Frame refselRegs [.refsel] s (((s.sf (REF_STAT_QUAL r) 0).raise (REF_HIST_DISQ r)).raise REFSEL_EVT_DISQUALIFIED) :=
    (Frame.refl _ _ s).refStep hqual hstat.1 hstat.2 |>.refStep (Frame.raise _ (REF_HIST_DISQ r)) hhist.1 hhist.2
      |>.refStep (Frame.raise _ REFSEL_EVT_DISQUALIFIED)
  unfold State.disqShown
  dsimp only
  generalize ((s.sf (REF_STAT_QUAL r) 0).raise (REF_HIST_DISQ r)).raise REFSEL_EVT_DISQUALIFIED = m at *
  exact (h.refStep (Frame.sf m (REF_STAT_IN_WTR r) 0) hstat.1 hstat.2).step (Frame.setRef _ r _)

theorem State.refDisq_frame (s : State) {r : Nat} (hr : r < 16) : Frame refselRegs refPieces s (s.refDisq r) := by
  have h : Frame refselRegs refPieces s (s.disqShown r) := (s.disqShown_frame hr).mono (fun _ h => h) (by simp)
  rw [State.refDisq_eq]
  exact (Frame.refl _ _ s).ite ((h.step (State.forceChange_frame _) (fun _ h => h) (fun _ h => h)).ite h)

/-- A reference that is no longer present, before its phase is forgotten. -/
def State.absent (s : State) (r : Nat) : State := ((s.sf (REF_STAT_PRESENT r) 0).raise (REF_HIST_LOS r)).refDisq r

theorem State.refLost_eq (s : State) (r : Nat) : s.refLost r =
    if s.flag (REF_STAT_PRESENT r) then (s.absent r).setRef r { (s.refDisq r).ref r with phase := none } else s := rfl

theorem State.absent_frame (s : State) {r : Nat} (hr : r < 16) : Frame refselRegs refPieces s (s.absent r) := by
  obtain ⟨hstat, hhist, -⟩ := refReg_range hr
  have hoff : Frame [REF_STAT r] [] s (s.sf (REF_STAT_PRESENT r) 0) := Frame.sf s (REF_STAT_PRESENT r) 0
  exact ((Frame.refl _ _ s).refStep hoff hstat.1 hstat.2 |>.refStep (Frame.raise _ (REF_HIST_LOS r)) hhist.1 hhist.2).step
    (State.refDisq_frame _ hr) (fun _ h => h) (fun _ h => h)

theorem State.refLost_frame (s : State) {r : Nat} (hr : r < 16) : Frame refselRegs refPieces s (s.refLost r) := by
  rw [State.refLost_eq]
  exact ((s.absent_frame hr).step (Frame.setRef _ r _)).ite (Frame.refl _ _ s)

end Sys2Proof.Machine
end

section
/-! SUPPORT. Proofs/Masters.lean: the servo's state, the choice of the best master, and a master that is lost (R326, R334, R336). -/
-- The proofs of this file are elaborated one after another: side by side their threads exceed the memory of the check.
set_option Elab.async false
namespace Sys2Proof.Machine

open Reg

variable {s t u : State}

/-! ### Fields of TIME_STAT and TIME_EVT -/

/-- Of TIME_STAT and TIME_EVT a field other than those of `fs` is kept. -/
def FieldsKept (fs : List RegField) (s t : State) : Prop :=
  ∀ g : RegField, (g.reg = TIME_STAT ∨ g.reg = TIME_EVT) → (∀ f ∈ fs, g.reg ≠ f.reg ∨ g.hi < f.lo ∨ f.hi < g.lo) → t.rf g = s.rf g

theorem FieldsKept.refl (fs : List RegField) (s : State) : FieldsKept fs s s := fun _ _ _ => rfl

theorem FieldsKept.trans {fs gs : List RegField} (h : FieldsKept fs s t) (g : FieldsKept gs t u) : FieldsKept (fs ++ gs) s u :=
  fun f hf hd => (g f hf fun x hx => hd x (List.mem_append_right _ hx)).trans (h f hf fun x hx => hd x (List.mem_append_left _ hx))

theorem FieldsKept.mono {fs gs : List RegField} (h : FieldsKept fs s t) (hs : ∀ f ∈ fs, f ∈ gs) : FieldsKept gs s t :=
  fun f hf hd => h f hf fun x hx => hd x (hs x hx)

theorem FieldsKept.of_frame {R : List Nat} {P : List Piece} (h : Frame R P s t) (h1 : TIME_STAT ∉ R := by decide) (h2 : TIME_EVT ∉ R := by decide) :
    FieldsKept [] s t := fun g hg _ => h.rf (by rcases hg with hg | hg <;> rw [hg] <;> assumption)

theorem FieldsKept.sf (s : State) (f : RegField) (v : Nat) (hf : f.lo ≤ f.hi := by decide) (h32 : f.hi < 32 := by decide) :
    FieldsKept [f] s (s.sf f v) := fun _ _ hd => State.rf_sf_ne s v hf h32 (hd f (by simp))

theorem FieldsKept.raise (s : State) (f : RegField) (hf : f.lo ≤ f.hi := by decide) (h32 : f.hi < 32 := by decide) :
    FieldsKept [f] s (s.raise f) := fun _ _ hd => State.rf_raise_ne s hf h32 (hd f (by simp))

/-! ### The quality and the servo (R334, R336) -/

theorem State.setQual_spec (s : State) {q : Nat} (hq : q < 8) : (s.setQual q).qual = q
    ∧ FieldsKept [TIME_STAT_QUAL, TIME_EVT_QUAL_CHG] s (s.setQual q) := by
  unfold State.setQual
  split
  · exact ⟨by assumption, FieldsKept.refl _ s⟩
  · have hset := FieldsKept.sf s TIME_STAT_QUAL q
    have hqual : (s.sf TIME_STAT_QUAL q).qual = q := by
      rw [State.qual, State.rf_sf_self _ _ _ (by decide) (by decide)]
      exact Nat.mod_eq_of_lt hq
    generalize s.sf TIME_STAT_QUAL q = m at *
    have hevt := FieldsKept.raise m TIME_EVT_QUAL_CHG
    exact ⟨(hevt TIME_STAT_QUAL (.inl rfl) (by decide)).trans hqual, hset.trans hevt⟩

/-- The servo's entry into HOLDOVER. -/
structure Held (s t : State) : Prop where
  frame : Frame [TIME_STAT, TIME_EVT] [.hoop] s t
  servo : t.servo = svHoldover
  qual : t.qual = if s.qual = qLocked then qHoldover else s.qual
  kept : FieldsKept [TIME_STAT_SERVO, TIME_STAT_QUAL, TIME_EVT_QUAL_CHG] s t
  hoop : t.hoop = { s.hoop with holdAt := t.hoop.holdAt, good := 0, bad := 0 }

/-- The error and the instant kept for HOLDOVER. -/
def State.holdNoted (s : State) : State :=
  { s with hoop := { s.hoop with holdAt := some (s.now, (s.hoop.filt / ns16).natAbs), good := 0, bad := 0 } }

theorem State.holdNoted_spec (s : State) : Frame [] [.hoop] s s.holdNoted
    ∧ s.holdNoted.hoop = { s.hoop with holdAt := s.holdNoted.hoop.holdAt, good := 0, bad := 0 } := ⟨Frame.withHoop s _, rfl⟩

theorem State.holdover_eq (s : State) : s.holdover =
    let m := s.holdNoted.sf TIME_STAT_SERVO svHoldover
    if m.qual = qLocked then m.setQual qHoldover else m := rfl

theorem State.holdover_spec (s : State) : Held s s.holdover := by
  obtain ⟨hnoted, hhoop⟩ := s.holdNoted_spec
  rw [State.holdover_eq]
  generalize s.holdNoted = n at *
  have hset : Frame [TIME_STAT] [] n (n.sf TIME_STAT_SERVO svHoldover) := Frame.sf n TIME_STAT_SERVO svHoldover
  have hkept := (FieldsKept.of_frame hnoted).trans (FieldsKept.sf n TIME_STAT_SERVO svHoldover)
  have hservo : (n.sf TIME_STAT_SERVO svHoldover).servo = svHoldover := by
    rw [State.servo, State.rf_sf_self _ _ _ (by decide) (by decide)]
    rfl
  dsimp only
  generalize n.sf TIME_STAT_SERVO svHoldover = m at *
  have hframe : Frame [TIME_STAT, TIME_EVT] [.hoop] s m := (hnoted.mono (by simp) (by simp)).step hset
  have hqual : m.qual = s.qual := hkept TIME_STAT_QUAL (.inl rfl) (by decide)
  have hmhoop : m.hoop = { s.hoop with holdAt := m.hoop.holdAt, good := 0, bad := 0 } := by rw [hset.2 .hoop (by simp)]; exact hhoop
  rw [hqual]
  by_cases hl : s.qual = qLocked
  · have hq := m.setQual_frame qHoldover
    obtain ⟨hqh, hqk⟩ := m.setQual_spec (q := qHoldover) (by decide)
    rw [if_pos hl]
    generalize m.setQual qHoldover = t at *
    refine ⟨hframe.step hq, (hqk TIME_STAT_SERVO (.inl rfl) (by decide)).trans hservo, by rw [hqh, if_pos hl], hkept.trans hqk, ?_⟩
    rw [hq.2 .hoop (by simp)]
    exact hmhoop
  · rw [if_neg hl]
    exact ⟨hframe, hservo, by rw [hqual, if_neg hl], hkept.mono (by simp), hmhoop⟩

/-- The servo's samples forgotten. -/
structure Fresh (s t : State) : Prop where
  frame : Frame [TIME_STAT] [.hoop] s t
  kept : FieldsKept [TIME_STAT_SUSPECT] s t
  hoop : t.hoop = { s.hoop with discards := [], recent := [], good := 0, bad := 0, suspect := none, lastSync := none }

theorem State.servoFresh_spec (s : State) : Fresh s s.servoFresh := by
  have hdef : s.servoFresh = ({ s with hoop := { s.hoop with
    discards := [], recent := [], good := 0, bad := 0, suspect := none, lastSync := none } } : State).sf TIME_STAT_SUSPECT 0 := rfl
  have hset := Frame.withHoop s { s.hoop with discards := [], recent := [], good := 0, bad := 0, suspect := none, lastSync := none }
  have hhoop : ({ s with hoop := { s.hoop with discards := [], recent := [], good := 0, bad := 0, suspect := none, lastSync := none } } : State).hoop
    = { s.hoop with discards := [], recent := [], good := 0, bad := 0, suspect := none, lastSync := none } := rfl
  rw [hdef]
  generalize ({ s with hoop := _ } : State) = m at *
  have hsf : Frame [TIME_STAT] [] m (m.sf TIME_STAT_SUSPECT 0) := Frame.sf m TIME_STAT_SUSPECT 0
  exact ⟨(hset.mono (by simp) (by simp)).step hsf, (FieldsKept.of_frame hset).trans (FieldsKept.sf m TIME_STAT_SUSPECT 0),
    (hsf.2 .hoop (by simp)).trans hhoop⟩

/-! ### The best master (R325, R326) -/

theorem State.bestMaster_mem {m : Master} (h : s.bestMaster = some m) : m ∈ s.hoop.masters := by
  have hfold (l : List Master) (b : Option Master) (P : Master → Prop) (hl : ∀ x ∈ l, P x) (hb : ∀ x, b = some x → P x) :
      ∀ x, l.foldl (fun b m => match b with | some x => if lexLt m.rank x.rank then some m else some x | none => some m) b = some x → P x := by
    refine foldl_inv (fun b : Option Master => ∀ x, b = some x → P x) _ _ _ hb fun b m hm hb x hx => ?_
    cases b with
    | none => exact Option.some.inj hx ▸ hl m hm
    | some y =>
      dsimp only at hx
      split at hx
      · exact Option.some.inj hx ▸ hl m hm
      · exact hb x hx
  exact hfold _ none (· ∈ s.hoop.masters) (fun x hx => (List.mem_filter.mp hx).1) (by simp) m h

/-- The selection of the best master taken over. -/
structure Selected (s t : State) : Prop where
  frame : Frame [TIME_EVT, TIME_STAT] [.hoop] s t
  kept : FieldsKept [TIME_STAT_SUSPECT, TIME_EVT_MASTER_CHG, TIME_STAT_PTP_PORT, TIME_STAT_SERVO] s t
  masters : t.hoop.masters = s.hoop.masters
  master : t.hoop.master = (s.bestMaster.map (·.src)).orElse fun _ => s.hoop.master
  same : t.hoop.master = s.hoop.master → t = s
  chosen : t.hoop.master ≠ s.hoop.master → t.servo = svAcquiring ∧ t.hoop.lastSync = none
    ∧ t.reg TIME_EVT = s.raised TIME_EVT [TIME_EVT_MASTER_CHG]

/-- A master chosen. -/
def State.masterChosen (s : State) (m : Master) : State :=
  let s := { s.servoFresh with hoop := { s.servoFresh.hoop with master := some m.src } }
  ((s.raise TIME_EVT_MASTER_CHG).sf TIME_STAT_PTP_PORT m.port).sf TIME_STAT_SERVO svAcquiring

theorem State.selectMaster_some {m : Master} (h : s.bestMaster = some m) :
    s.selectMaster = if s.hoop.master = some m.src then s else s.masterChosen m := by
  rw [State.selectMaster, h]
  rfl

theorem State.masterShown_spec (s : State) (m : Master) :
    Frame [TIME_EVT, TIME_STAT] [] s (((s.raise TIME_EVT_MASTER_CHG).sf TIME_STAT_PTP_PORT m.port).sf TIME_STAT_SERVO svAcquiring)
    ∧ FieldsKept [TIME_EVT_MASTER_CHG, TIME_STAT_PTP_PORT, TIME_STAT_SERVO] s
        (((s.raise TIME_EVT_MASTER_CHG).sf TIME_STAT_PTP_PORT m.port).sf TIME_STAT_SERVO svAcquiring)
    ∧ (((s.raise TIME_EVT_MASTER_CHG).sf TIME_STAT_PTP_PORT m.port).sf TIME_STAT_SERVO svAcquiring).servo = svAcquiring
    ∧ (((s.raise TIME_EVT_MASTER_CHG).sf TIME_STAT_PTP_PORT m.port).sf TIME_STAT_SERVO svAcquiring).reg TIME_EVT
        = s.raised TIME_EVT [TIME_EVT_MASTER_CHG] := by
  refine ⟨(Frame.refl _ _ s).step (Frame.raise s TIME_EVT_MASTER_CHG) |>.step (Frame.sf _ TIME_STAT_PTP_PORT m.port)
    |>.step (Frame.sf _ TIME_STAT_SERVO svAcquiring), ?_, ?_, ?_⟩
  · exact (FieldsKept.raise s TIME_EVT_MASTER_CHG).trans ((FieldsKept.sf _ TIME_STAT_PTP_PORT m.port).trans (FieldsKept.sf _ TIME_STAT_SERVO svAcquiring))
  · rw [State.servo, State.rf_sf_self _ _ _ (by decide) (by decide)]
    rfl
  · rw [State.reg_sf_ne _ (by decide), State.reg_sf_ne _ (by decide)]
    exact s.reg_raise_self TIME_EVT_MASTER_CHG

/-- The samples forgotten with a new master. -/
def State.masterSet (s : State) (x : Nat) : State := { s.servoFresh with hoop := { s.servoFresh.hoop with master := some x } }

theorem State.masterSet_spec (s : State) (x : Nat) : Frame [TIME_STAT] [.hoop] s (s.masterSet x) ∧ FieldsKept [TIME_STAT_SUSPECT] s (s.masterSet x)
    ∧ (s.masterSet x).hoop.masters = s.hoop.masters ∧ (s.masterSet x).hoop.master = some x ∧ (s.masterSet x).hoop.lastSync = none := by
  have hfresh := s.servoFresh_spec
  unfold State.masterSet
  generalize s.servoFresh = f at *
  have hset := Frame.withHoop f { f.hoop with master := some x }
  refine ⟨(hfresh.frame.mono (by simp) (by simp)).step hset, hfresh.kept.trans (FieldsKept.of_frame hset) |>.mono (by simp), ?_, rfl, ?_⟩
  · show f.hoop.masters = s.hoop.masters
    rw [hfresh.hoop]
  · show f.hoop.lastSync = none
    rw [hfresh.hoop]

theorem State.selectMaster_spec (s : State) : Selected s s.selectMaster := by
  cases hb : s.bestMaster with
  | none =>
    have hsame : s.selectMaster = s := by rw [State.selectMaster, hb]
    rw [hsame]
    exact ⟨Frame.refl _ _ s, FieldsKept.refl _ s, rfl, by rw [hb]; rfl, fun _ => rfl, fun h => absurd rfl h⟩
  | some m =>
    rw [State.selectMaster_some hb]
    by_cases hm : s.hoop.master = some m.src
    · rw [if_pos hm]
      exact ⟨Frame.refl _ _ s, FieldsKept.refl _ s, rfl, by rw [hb, hm]; rfl, fun _ => rfl, fun h => absurd rfl h⟩
    · rw [if_neg hm]
      have hdef : s.masterChosen m =
          (((s.masterSet m.src).raise TIME_EVT_MASTER_CHG).sf TIME_STAT_PTP_PORT m.port).sf TIME_STAT_SERVO svAcquiring := rfl
      obtain ⟨hset, hkept, hmasters, hmaster, hsync⟩ := s.masterSet_spec m.src
      rw [hdef]
      generalize s.masterSet m.src = n at *
      obtain ⟨hshown, hshownKept, hservo, hevt⟩ := n.masterShown_spec m
      generalize ((n.raise TIME_EVT_MASTER_CHG).sf TIME_STAT_PTP_PORT m.port).sf TIME_STAT_SERVO svAcquiring = t at *
      have hhoop : t.hoop = n.hoop := hshown.2 .hoop (by simp)
      refine ⟨(hset.mono (by simp) (by simp)).step hshown, hkept.trans hshownKept, by rw [hhoop, hmasters], by rw [hhoop, hmaster, hb]; rfl, ?_, ?_⟩
      · rw [hhoop, hmaster]
        exact fun h => absurd h.symm hm
      · refine fun _ => ⟨hservo, by rw [hhoop, hsync], ?_⟩
        rw [hevt, State.raised, State.raised, hset.1 _ (by decide)]

end Sys2Proof.Machine
end

section
/-! SUPPORT. Proofs/TimeSteps.lean: a master lost, steps of time, snapshots and stamps (R326, R332, R336 to R338, R340). -/
-- The proofs of this file are elaborated one after another: side by side their threads exceed the memory of the check.
set_option Elab.async false
namespace Sys2Proof.Machine

open Reg

variable {s t u : State}

/-! ### Accesses that read -/

/-- A read that its block answers. -/
theorem Does.of_read {i : Instr} {a : Agent} {reg : Nat} {v : Word} {f : State → State} {R : List Nat} {P : List Piece} {Q : State → Prop}
    (hx : exec i s = .next (s.access a.val reg false v f)) (hr : s.reaches a reg false = true) (ht : f (s.ok 0#32) = t)
    (hok : t.bus.err = false) (hf : Frame R P s t) (hq : Q t) : Does i s R P Q := by
  subst ht
  rw [State.access_reaches hr, hok] at hx
  exact ⟨_, hx, hf, hq⟩

/-- A read that its block refuses. -/
theorem Errs.of_read {i : Instr} {a : Agent} {reg : Nat} {v : Word} {f : State → State}
    (hx : exec i s = .next (s.access a.val reg false v f)) (hr : s.reaches a reg false = true) (hf : f (s.ok 0#32) = (s.ok 0#32).err) :
    Errs i s [] fun _ => True := by
  have herr : (s.ok 0#32).err.bus.err = true := rfl
  have hrefused : Frame [] [.bus] s (s.ok 0#32).err := (Frame.ok s 0#32).step (Frame.err _)
  rw [State.access_reaches hr, hf, herr] at hx
  generalize (s.ok 0#32).err = g at *
  have hrec := State.errRec_frame g a.val .block false (errAddr a.val reg false) nofun
  exact ⟨_, hx, (hrefused.mono (by simp) (by simp)).trans (hrec.mono (by simp) (by simp)), State.errRec_bus _ _ _ _ _,
    State.flag_errRec _ _ _ _ _, trivial⟩

/-! ### A master lost (R326) -/

theorem masterLost_none (h : s.curMaster = none) : exec .masterLost s = .next s := by
  have hexec : exec .masterLost s = execMasterLost s := rfl
  rw [hexec, execMasterLost, h]

theorem State.curMaster_src {m : Master} (h : s.curMaster = some m) : s.hoop.master = some m.src := by
  unfold State.curMaster at h
  split at h
  · next x hx =>
    rw [hx, ← eq_of_beq (List.find?_some (p := fun m : Master => m.src == x) h)]
  · cases h

/-- A master taken off the list. -/
def State.masterDropped (s : State) (src : Nat) : State :=
  { s with hoop := { s.hoop with master := none, masters := s.hoop.masters.filter fun (x : Master) => x.src != src } }

theorem State.masterDropped_spec (s : State) (src : Nat) : Frame [] [.hoop] s (s.masterDropped src)
    ∧ (s.masterDropped src).hoop = { s.hoop with master := none, masters := s.hoop.masters.filter fun (x : Master) => x.src != src } :=
  ⟨Frame.withHoop s _, rfl⟩

/-- The instant at which a loss is seen. -/
def State.lossInstant (s : State) (m : Master) : State :=
  if s.masterGone m then s else s.moveTo (m.last + 3 * s.ptpInt TIME_PTP_INT_ANNOUNCE)

theorem State.lossInstant_spec (s : State) (m : Master) : Frame [] [.now] s (s.lossInstant m)
    ∧ (s.lossInstant m).now = if s.masterGone m then s.now else max s.now (m.last + 3 * s.ptpInt TIME_PTP_INT_ANNOUNCE) := by
  unfold State.lossInstant
  split
  · exact ⟨Frame.refl _ _ s, rfl⟩
  · exact ⟨Frame.moveTo s _, rfl⟩

theorem execMasterLost_some {m : Master} (h : s.curMaster = some m) : exec .masterLost s =
    .next (((((s.lossInstant m).raise TIME_EVT_MASTER_LOST).refLost 0).holdover.masterDropped m.src).servoFresh.selectMaster) := by
  have hexec : exec .masterLost s = execMasterLost s := rfl
  rw [hexec, execMasterLost, h]
  rfl

/-- The registers of the time block and of the references. -/
theorem timeRegs_sub {R : List Nat} (h : ∀ a ∈ R, 0x500000 ≤ a ∧ a ≤ 0x51FFFF) : ∀ a ∈ R, a ∈ regsIn 0x500000 0x51FFFF :=
  fun a ha => (mem_regsIn (by decide)).mpr (h a ha)

theorem refselRegs_time : ∀ a ∈ refselRegs, a ∈ regsIn 0x500000 0x51FFFF := fun a ha => by
  have := (mem_regsIn (by decide)).mp ha
  exact (mem_regsIn (by decide)).mpr (by omega)

theorem masterLost_some {m : Master} (h : s.curMaster = some m) :
    Does .masterLost s (regsIn 0x500000 0x51FFFF) [.now, .hoop, .refsel, .fv] fun t =>
      t.flag Reg.TIME_EVT_MASTER_LOST = true
      ∧ t.servo = (if t.hoop.master = none then svHoldover else svAcquiring)
      ∧ t.qual = (if s.qual = qLocked then qHoldover else s.qual) ∧ t.hoop.lastSync = none
      ∧ t.hoop.masters = s.hoop.masters.filter (fun x => x.src != m.src) ∧ t.hoop.master ≠ some m.src
      ∧ t.now = if s.masterGone m then s.now else max s.now (m.last + 3 * s.ptpInt Reg.TIME_PTP_INT_ANNOUNCE) := by
  have hexec := execMasterLost_some h
  have htime : ∀ a ∈ [TIME_EVT, TIME_STAT], a ∈ regsIn 0x500000 0x51FFFF := timeRegs_sub (by decide)
  have hnot (a : Nat) (ha : a < 0x510000) : a ∉ refselRegs := fun hm => by
    have := (mem_regsIn (by decide)).mp hm
    omega
  obtain ⟨hinst, hnow⟩ := s.lossInstant_spec m
  generalize s.lossInstant m = a at *
  have hraise := Frame.raise a TIME_EVT_MASTER_LOST
  have hlost := State.flag_raise_self a TIME_EVT_MASTER_LOST rfl (by decide)
  have hkept := (FieldsKept.of_frame hinst).trans (FieldsKept.raise a TIME_EVT_MASTER_LOST)
  have hb : Frame (regsIn 0x500000 0x51FFFF) [.now, .hoop, .refsel, .fv] s (a.raise TIME_EVT_MASTER_LOST) :=
    (hinst.mono (by simp) (by simp)).step hraise (timeRegs_sub (by decide))
  generalize a.raise TIME_EVT_MASTER_LOST = b at *
  have href := b.refLost_frame (r := 0) (by decide)
  have hkeptRef := hkept.trans (FieldsKept.of_frame href (hnot _ (by decide)) (hnot _ (by decide)))
  have hlostRef : (b.refLost 0).flag TIME_EVT_MASTER_LOST = true := by
    rw [State.flag, href.rf (hnot _ (by decide))]
    exact hlost
  have hc := hb.step href refselRegs_time (by simp)
  generalize b.refLost 0 = c at *
  have hheld := c.holdover_spec
  generalize c.holdover = d at *
  have hd := hc.step hheld.frame (timeRegs_sub (by decide)) (by simp)
  obtain ⟨hdrop, hdropHoop⟩ := d.masterDropped_spec m.src
  generalize d.masterDropped m.src = e at *
  have hfresh := e.servoFresh_spec
  generalize e.servoFresh = f at *
  have hsel := f.selectMaster_spec
  have hbest : f.bestMaster.map (·.src) ≠ some m.src := by
    intro hm
    obtain ⟨x, hx, hsrc⟩ := Option.map_eq_some_iff.mp hm
    have hmem := State.bestMaster_mem hx
    rw [hfresh.hoop, hdropHoop] at hmem
    have hne := (List.mem_filter.mp hmem).2
    simp [hsrc] at hne
  generalize f.selectMaster = g at *
  have hf : Frame (regsIn 0x500000 0x51FFFF) [.now, .hoop, .refsel, .fv] s f :=
    (hd.step hdrop (by simp) (by simp)).step hfresh.frame (timeRegs_sub (by decide)) (by simp)
  have hg := hf.step hsel.frame htime (by simp)
  have hlate : FieldsKept [TIME_STAT_SUSPECT, TIME_EVT_MASTER_CHG, TIME_STAT_PTP_PORT, TIME_STAT_SERVO] d g :=
    ((FieldsKept.of_frame hdrop).trans (hfresh.kept.trans hsel.kept)).mono (by simp)
  have hevt : g.flag TIME_EVT_MASTER_LOST = true := by
    have hd1 : d.rf TIME_EVT_MASTER_LOST = c.rf TIME_EVT_MASTER_LOST := hheld.kept _ (.inr rfl) (by decide)
    rw [State.flag, hlate _ (.inr rfl) (by decide), hd1]
    exact hlostRef
  have hqual : g.qual = if s.qual = qLocked then qHoldover else s.qual := by
    have hc1 : c.qual = s.qual := hkeptRef TIME_STAT_QUAL (.inl rfl) (by decide)
    have hg1 : g.qual = d.qual := hlate TIME_STAT_QUAL (.inl rfl) (by decide)
    rw [hg1, hheld.qual, hc1]
  have hmasterF : f.hoop.master = none := by rw [hfresh.hoop, hdropHoop]
  have hmaster : g.hoop.master = f.bestMaster.map (·.src) := by
    rw [hsel.master, hmasterF]
    cases f.bestMaster.map (·.src) <;> rfl
  have hservoF : f.servo = svHoldover :=
    (hfresh.kept TIME_STAT_SERVO (.inl rfl) (by decide)).trans ((hdrop.rf (by simp)).trans hheld.servo)
  refine ⟨g, hexec, hg, hevt, ?_, hqual, ?_, ?_, by rw [hmaster]; exact hbest, ?_⟩
  · by_cases hn : g.hoop.master = none
    · rw [if_pos hn, hsel.same (hn.trans hmasterF.symm)]
      exact hservoF
    · rw [if_neg hn]
      exact (hsel.chosen fun he => hn (he.trans hmasterF)).1
  · by_cases hn : g.hoop.master = none
    · rw [hsel.same (hn.trans hmasterF.symm), hfresh.hoop]
    · exact (hsel.chosen fun he => hn (he.trans hmasterF)).2.1
  · have hdm : d.hoop.masters = s.hoop.masters := by
      rw [hheld.hoop]
      show c.hoop.masters = _
      rw [href.2 .hoop (by simp), hraise.2 .hoop (by simp), hinst.2 .hoop (by simp)]
    rw [hsel.masters, hfresh.hoop, hdropHoop]
    show d.hoop.masters.filter _ = _
    rw [hdm]
  · rw [← hnow, hsel.frame.2 .now (by simp), hfresh.frame.2 .now (by simp), hdrop.2 .now (by simp), hheld.frame.2 .now (by simp),
      href.2 .now (by simp), hraise.2 .now (by simp)]

/-! ### A step named (R336, R337) -/

/-- The transition that a step of an offset begins. -/
def State.transOf (s : State) (ofs : Int) : Trans :=
  ⟨s.sys.roundNo + 4, max 1 (s.rf TIME_CFG2_MUTE), max 1 (s.rf TIME_CFG2_RAMP), ofs, none⟩

theorem State.nameStep_none (s : State) (a : Nat) (ofs : Int) (h : s.hoop.trans = none) :
    s.nameStep a ofs = { s with hoop := { s.hoop with trans := some ⟨a, max 1 (s.rf TIME_CFG2_MUTE), max 1 (s.rf TIME_CFG2_RAMP), ofs, none⟩ } } := by
  rw [State.nameStep, h]
  rfl

theorem notMem_laneRegs {a : Nat} (h : 0x400000 ≤ a) (hne : a ≠ TRUST_EVT) : a ∉ laneRegs := fun hm => by
  rcases laneRegs_range hm with h | h
  · exact hne h
  · omega

theorem State.callStep_spec (s : State) (ofs : Int) (h : s.hoop.trans = none) :
    Frame laneRegs (.hoop :: lanePieces) s (s.callStep ofs)
    ∧ (s.pairState ≠ 2 → Frame [] [.hoop] s (s.callStep ofs))
    ∧ (s.callStep ofs).hoop = { s.hoop with
        trans := if s.pairState = 2 ∧ s.flag PAIR_CFG_SIDE = true then none else some (s.transOf ofs) } := by
  have hnamed : Frame [] [.hoop] s (s.nameStep (s.sys.roundNo + 4) ofs) := by
    rw [State.nameStep_none s _ ofs h]
    exact Frame.withHoop s _
  have hhoop : (s.nameStep (s.sys.roundNo + 4) ofs).hoop = { s.hoop with trans := some (s.transOf ofs) } := by
    rw [State.nameStep_none s _ ofs h]
    rfl
  unfold State.callStep
  rw [h]
  dsimp only [Option.isSome]
  rw [if_neg (by decide)]
  by_cases hp : s.pairState = paPaired
  · have hp2 : s.pairState = 2 := hp
    rw [if_pos hp]
    by_cases hside : s.flag PAIR_CFG_SIDE = true
    · rw [if_pos hside, if_pos ⟨hp2, hside⟩]
      exact ⟨Frame.refl _ _ s, fun hn => absurd hp hn, by rw [← h]⟩
    · have hsend := s.ctlSend_frame (.step (s.sys.roundNo + 4) ofs)
      rw [if_neg hside, if_neg fun hn => hside hn.2]
      generalize s.ctlSend (.step (s.sys.roundNo + 4) ofs) = m at *
      have hm : m.hoop = s.hoop := hsend.2 .hoop (by simp [lanePieces])
      have hcfg : m.reg TIME_CFG2 = s.reg TIME_CFG2 := hsend.1 _ (notMem_laneRegs (by decide) (by decide))
      have hmute : m.rf TIME_CFG2_MUTE = s.rf TIME_CFG2_MUTE := State.rf_congr _ hcfg
      have hramp : m.rf TIME_CFG2_RAMP = s.rf TIME_CFG2_RAMP := State.rf_congr _ hcfg
      rw [State.nameStep_none m _ ofs (hm ▸ h), hm, hmute, hramp]
      have hset := Frame.withHoop m { s.hoop with trans := some (s.transOf ofs) }
      exact ⟨(hsend.mono (fun _ h => h) (fun _ h => List.mem_cons_of_mem _ h)).step hset, fun hn => absurd hp hn, rfl⟩
  · rw [if_neg hp, if_neg fun hn => hp hn.1]
    exact ⟨hnamed.mono (by simp) (by simp), fun _ => hnamed, hhoop⟩

/-- Whether a step is confirmed. -/
def State.stepDue (s : State) : Bool :=
  s.hoop.suspect.isSome && s.flag Reg.TIME_CFG_STEP_OK && s.hoop.trans.isNone
    && s.curMaster.any fun m => !s.hoop.masters.any fun x => x.src != m.src && s.masterOk x

theorem stepConfirm_idle (h : s.stepDue = false) : exec .stepConfirm s = .next s := by
  have hexec : exec .stepConfirm s = execStepConfirm s := rfl
  rw [hexec, execStepConfirm]
  cases hs : s.hoop.suspect with
  | none => rfl
  | some x =>
    obtain ⟨t0, o⟩ := x
    cases hm : s.curMaster with
    | none => rfl
    | some m =>
      dsimp only
      rw [if_neg]
      rintro ⟨h1, h2, h3⟩
      simp [State.stepDue, hs, hm, h1, h2, h3] at h

theorem stepConfirm_due (h : s.stepDue = true) {t0 : Nat} {o : Int × Int} (hs : s.hoop.suspect = some (t0, o)) :
    exec .stepConfirm s = .next ((s.moveTo (t0 + s.rf TIME_CFG2_CONFIRM * sec1)).callStep s.hoop.filt) ∧ s.hoop.trans = none := by
  have hexec : exec .stepConfirm s = execStepConfirm s := rfl
  simp only [State.stepDue, Bool.and_eq_true, Option.any_eq_true, Option.isNone_iff_eq_none, Bool.not_eq_true'] at h
  obtain ⟨⟨⟨_, hok⟩, htrans⟩, m, hm, hothers⟩ := h
  refine ⟨?_, htrans⟩
  rw [hexec, execStepConfirm, hs, hm]
  dsimp only
  rw [if_pos ⟨hok, htrans, hothers⟩]

theorem stepConfirm_spec (h : s.stepDue = true) {t0 : Nat} {o : Int × Int} (hs : s.hoop.suspect = some (t0, o)) :
    Does .stepConfirm s laneRegs ([.now, .hoop] ++ lanePieces) fun t =>
      t.now = max s.now (t0 + s.rf Reg.TIME_CFG2_CONFIRM * sec1)
      ∧ (s.pairState ≠ 2 → t.pair = s.pair ∧ t.net = s.net ∧ t.trust = s.trust ∧ ∀ a ∈ laneRegs, t.reg a = s.reg a)
      ∧ t.hoop = { s.hoop with trans := t.hoop.trans }
      ∧ t.hoop.trans = if s.pairState = 2 ∧ s.flag Reg.PAIR_CFG_SIDE = true then none else
          some ⟨s.sys.roundNo + 4, max 1 (s.rf Reg.TIME_CFG2_MUTE), max 1 (s.rf Reg.TIME_CFG2_RAMP), s.hoop.filt, none⟩ := by
  obtain ⟨hexec, htrans⟩ := stepConfirm_due h hs
  have hmove := Frame.moveTo s (t0 + s.rf TIME_CFG2_CONFIRM * sec1)
  have hnow : (s.moveTo (t0 + s.rf TIME_CFG2_CONFIRM * sec1)).now = max s.now (t0 + s.rf TIME_CFG2_CONFIRM * sec1) := rfl
  generalize s.moveTo (t0 + s.rf TIME_CFG2_CONFIRM * sec1) = m at *
  have hmhoop : m.hoop = s.hoop := hmove.2 .hoop (by simp)
  obtain ⟨hcall, halone, hhoop⟩ := m.callStep_spec s.hoop.filt (hmhoop ▸ htrans)
  have hreg (a : Nat) : m.reg a = s.reg a := hmove.1 a (by simp)
  have hrf (f : RegField) : m.rf f = s.rf f := State.rf_congr f (hreg f.reg)
  have hstate : m.pairState = s.pairState := hrf _
  have hside : m.flag PAIR_CFG_SIDE = s.flag PAIR_CFG_SIDE := by rw [State.flag, State.flag, hrf]
  rw [hstate] at halone hhoop
  rw [hmhoop, hside, State.transOf, hrf, hrf, show m.sys = s.sys from hmove.2 .sys (by simp)] at hhoop
  generalize m.callStep s.hoop.filt = t at *
  refine ⟨t, hexec, (hmove.mono (by simp) (by simp)).step hcall (fun _ h => h) (fun _ h => by revert h; simp [lanePieces]; tauto), ?_, ?_, ?_, ?_⟩
  · rw [← hnow]
    exact hcall.2 .now (by simp [lanePieces])
  · intro hp
    have hframe := halone hp
    have hpair : t.pair = m.pair := hframe.2 .pair (by simp)
    have hnet : t.net = m.net := hframe.2 .net (by simp)
    have htrust : t.trust = m.trust := hframe.2 .trust (by simp)
    exact ⟨hpair.trans (hmove.2 .pair (by simp)), hnet.trans (hmove.2 .net (by simp)), htrust.trans (hmove.2 .trust (by simp)),
      fun a _ => (hframe.1 a (by simp)).trans (hreg a)⟩
  · rw [hhoop]
  · rw [hhoop]

/-! ### The step of a muted transition (R337, R338) -/

theorem State.tod_congr (hnow : t.now = s.now) (hofs : t.hoop.ofs = s.hoop.ofs) (hslew : t.hoop.slew = s.hoop.slew) : t.tod = s.tod := by
  rw [State.tod, State.tod, State.slewDone, State.slewDone, hnow, hofs, hslew]

theorem State.tod_setTod (s : State) (x : Int) : (s.setTod x).tod = x := by
  have hofs : (s.setTod x).hoop.ofs = 6 * x - (s.now : Int) * 65536 := rfl
  have hslew : (s.setTod x).slewDone = 0 := rfl
  have hnow : (s.setTod x).now = s.now := rfl
  rw [State.tod, hofs, hslew, hnow]
  omega

/-- A transition abandoned. -/
structure StepDropped (x : Trans) (s t : State) : Prop where
  frame : Frame [TIME_EVT, TIME_STAT] [.hoop] s t
  trans : t.hoop.trans = none
  abandoned : t.flag TIME_EVT_STEP_ABANDONED = true
  pend : t.flag TIME_STAT_STEP_PEND = false
  servo : t.servo = svHoldover
  tod : t.tod = s.tod
  qual : t.qual = if s.qual = qLocked then qHoldover else s.qual
  ramp : t.hoop.outRamp = some (Ramp.start s.hoop.outGain unity20 (x.ramp * s.sys.n))

/-- The outputs on their way back with no transition in progress. -/
def State.transGone (s : State) (ramp : Nat) : State := ({ s with hoop := { s.hoop with trans := none } } : State).rampBack ramp

theorem State.transGone_spec (s : State) (ramp : Nat) : Frame [] [.hoop] s (s.transGone ramp)
    ∧ (s.transGone ramp).hoop = { s.hoop with trans := none, outRamp := some (Ramp.start s.hoop.outGain unity20 (ramp * s.sys.n)) } :=
  ⟨Frame.withHoop s _, rfl⟩

theorem State.stepDrop_eq (s : State) (x : Trans) :
    s.stepDrop x = (((s.transGone x.ramp).raise TIME_EVT_STEP_ABANDONED).sf TIME_STAT_STEP_PEND 0).holdover := rfl

theorem State.stepDrop_spec (s : State) (x : Trans) : StepDropped x s (s.stepDrop x) := by
  rw [State.stepDrop_eq]
  obtain ⟨hgone, hhoop⟩ := s.transGone_spec x.ramp
  generalize s.transGone x.ramp = a at *
  have hraise := Frame.raise a TIME_EVT_STEP_ABANDONED
  have hkept := (FieldsKept.of_frame hgone).trans (FieldsKept.raise a TIME_EVT_STEP_ABANDONED)
  have hflag := State.flag_raise_self a TIME_EVT_STEP_ABANDONED rfl (by decide)
  generalize a.raise TIME_EVT_STEP_ABANDONED = b at *
  have hsf := Frame.sf b TIME_STAT_STEP_PEND 0
  have hpend : (b.sf TIME_STAT_STEP_PEND 0).flag TIME_STAT_STEP_PEND = false := by
    rw [State.flag, State.rf_sf_self _ _ _ (by decide) (by decide)]
    rfl
  have hkept2 := FieldsKept.sf b TIME_STAT_STEP_PEND 0
  generalize b.sf TIME_STAT_STEP_PEND 0 = c at *
  have hheld := c.holdover_spec
  generalize c.holdover = t at *
  have hchoop : c.hoop = a.hoop := by rw [hsf.2 .hoop (by simp), hraise.2 .hoop (by simp)]
  have hcframe : Frame [TIME_EVT, TIME_STAT] [.hoop] s c := (hgone.mono (by simp) (by simp)).step hraise |>.step hsf
  have hframe : Frame [TIME_EVT, TIME_STAT] [.hoop] s t := hcframe.step hheld.frame
  have hqual : c.qual = s.qual := (hkept.trans hkept2) TIME_STAT_QUAL (.inl rfl) (by decide)
  refine ⟨hframe, ?_, ?_, ?_, hheld.servo, ?_, by rw [hheld.qual, hqual], ?_⟩
  · rw [hheld.hoop, hchoop, hhoop]
  · rw [State.flag, (hkept2.trans hheld.kept) TIME_EVT_STEP_ABANDONED (.inr rfl) (by decide)]
    exact hflag
  · rw [State.flag, hheld.kept TIME_STAT_STEP_PEND (.inl rfl) (by decide)]
    exact hpend
  · refine State.tod_congr (hframe.2 .now (by simp)) ?_ ?_ <;> rw [hheld.hoop, hchoop, hhoop]
  · rw [hheld.hoop, hchoop, hhoop]

/-- Time moved by an offset, with what waits for a boundary. -/
def State.timeMoved (s : State) (ofs : Int) : State :=
  let old := s.sys.roundNo
  let s := s.setTod (s.tod - ofs)
  let new := s.gridRound s.tod
  { s.shiftRounds old new with sys := { s.sys with roundNo := new } }

/-- The servo acquiring afresh in a transition that is stepped. -/
def State.transStepped (s : State) (x : Trans) : State :=
  { s.servoFresh with hoop := { s.servoFresh.hoop with filt := 0, holdAt := none, trans := some { x with stepped := some s.sys.roundNo } } }

/-- What TIME shows of a step. -/
def State.stepShown (s : State) : State :=
  let s := ((s.raise TIME_EVT_STEPPED).setQual qEstimated).sf TIME_STAT_SERVO svAcquiring
  (s.setReg TIME_ERR 1000#32).setReg TIME_OFS 0#32

theorem execTimeStep_some {x : Trans} (h : s.hoop.trans = some x) : exec .timeStep s = .next (
    if x.stepped.isSome || Nat.blt s.sys.roundNo x.start then s
    else if s.alarmActive then s.stepDrop x
    else if s.sys.roundNo < x.start + x.mute then s
    else ((s.timeMoved x.ofs).transStepped x).restartS.stepShown) := by
  have hexec : exec .timeStep s = execTimeStep s := rfl
  rw [hexec, execTimeStep, h]
  rfl

theorem State.timeMoved_sys (s : State) (ofs : Int) :
    (s.timeMoved ofs).sys = { s.sys with roundNo := (s.setTod (s.tod - ofs)).gridRound (s.setTod (s.tod - ofs)).tod } := rfl

theorem State.timeMoved_hoop (s : State) (ofs : Int) :
    (s.timeMoved ofs).hoop = (s.setTod (s.tod - ofs)).hoop := rfl

theorem State.timeMoved_frame (s : State) (ofs : Int) : Frame [] [.hoop, .sys, .weave, .border, .net, .ports, .pair] s (s.timeMoved ofs) := by
  refine ⟨fun _ _ => rfl, fun p hp => ?_⟩
  cases p <;> simp at hp ⊢ <;> first | rfl | exact fun _ => rfl

theorem State.timeMoved_spec (s : State) (ofs : Int) : Frame [] [.hoop, .sys, .weave, .border, .net, .ports, .pair] s (s.timeMoved ofs)
    ∧ (s.timeMoved ofs).tod = s.tod - ofs ∧ (s.timeMoved ofs).sys = { s.sys with roundNo := s.gridRound (s.tod - ofs) }
    ∧ (s.timeMoved ofs).hoop.queue = s.hoop.queue := by
  have hframe := s.timeMoved_frame ofs
  have hsys := s.timeMoved_sys ofs
  have hhoop := s.timeMoved_hoop ofs
  have hsetSys : (s.setTod (s.tod - ofs)).sys = s.sys := rfl
  have hqueue : (s.setTod (s.tod - ofs)).hoop.queue = s.hoop.queue := rfl
  generalize s.timeMoved ofs = m at *
  refine ⟨hframe, ?_, ?_, by rw [hhoop, hqueue]⟩
  · have htod : m.tod = (s.setTod (s.tod - ofs)).tod :=
      State.tod_congr (hframe.2 .now (by simp)) (congrArg Hoop.ofs hhoop) (congrArg Hoop.slew hhoop)
    exact htod.trans (s.tod_setTod _)
  · rw [hsys, State.tod_setTod, State.gridRound, State.gridRound, hsetSys]

theorem State.transStepped_spec (s : State) (x : Trans) : Frame [TIME_STAT] [.hoop] s (s.transStepped x)
    ∧ (s.transStepped x).tod = s.tod ∧ (s.transStepped x).hoop.filt = 0
    ∧ (s.transStepped x).hoop.trans = some { x with stepped := some s.sys.roundNo } ∧ (s.transStepped x).hoop.queue = s.hoop.queue := by
  have hfresh := s.servoFresh_spec
  unfold State.transStepped
  generalize s.servoFresh = f at *
  have hset := Frame.withHoop f { f.hoop with filt := 0, holdAt := none, trans := some { x with stepped := some s.sys.roundNo } }
  refine ⟨(hfresh.frame.mono (by simp) (by simp)).step hset, ?_, rfl, rfl, ?_⟩
  · refine State.tod_congr (hfresh.frame.2 .now (by simp)) ?_ ?_
    · show f.hoop.ofs = s.hoop.ofs
      rw [hfresh.hoop]
    · show f.hoop.slew = s.hoop.slew
      rw [hfresh.hoop]
  · show f.hoop.queue = s.hoop.queue
    rw [hfresh.hoop]

/-- The first round of a cluster. -/
def State.startRound (s : State) (c : Nat) : State :=
  (s.setRegN (CL_START_RND c) s.sys.roundNo).setCluster c { s.cluster c with round := s.sys.roundNo }

theorem State.startRound_spec (s : State) (c : Nat) : Frame [CL_START_RND c] [.compute] s (s.startRound c)
    ∧ (s.startRound c).reg (CL_START_RND c) = BitVec.ofNat 32 s.sys.roundNo ∧ (s.startRound c).compute.stakes = s.compute.stakes := by
  have hset := Frame.setRegN s (CL_START_RND c) s.sys.roundNo
  have hreg : (s.setRegN (CL_START_RND c) s.sys.roundNo).reg (CL_START_RND c) = BitVec.ofNat 32 s.sys.roundNo := State.reg_setReg_self _ _ _
  unfold State.startRound
  generalize s.setRegN (CL_START_RND c) s.sys.roundNo = m at *
  have hcl := Frame.setCluster m c { s.cluster c with round := s.sys.roundNo }
  obtain ⟨hstakes, _⟩ := m.setCluster_parts c { s.cluster c with round := s.sys.roundNo }
  generalize m.setCluster c { s.cluster c with round := s.sys.roundNo } = t at *
  exact ⟨(hset.mono (by simp) (by simp)).step hcl, (hcl.1 _ (by simp)).trans hreg, hstakes.trans (congrArg Compute.stakes (hset.2 .compute (by simp)))⟩

/-- The first rounds of some clusters are the present round. -/
structure RoundsStarted (l : List Nat) (s t : State) : Prop where
  frame : Frame (l.map CL_START_RND) [.compute] s t
  start : ∀ c ∈ l, t.reg (CL_START_RND c) = BitVec.ofNat 32 s.sys.roundNo
  stakes : t.compute.stakes = s.compute.stakes

theorem State.foldl_startRound_spec (l : List Nat) (s : State) : RoundsStarted l s (l.foldl State.startRound s) := by
  induction l generalizing s with
  | nil => exact ⟨Frame.refl _ _ s, by simp, rfl⟩
  | cons c l ih =>
    obtain ⟨hframe, hreg, hstakes⟩ := s.startRound_spec c
    have hrest := ih (s.startRound c)
    rw [List.foldl_cons]
    generalize s.startRound c = m at *
    generalize l.foldl State.startRound m = t at *
    have hsys : m.sys = s.sys := hframe.2 .sys (by simp)
    refine ⟨(hframe.mono (by simp) (by simp)).step hrest.frame (fun _ h => List.mem_cons_of_mem _ h), fun d hd => ?_, hrest.stakes.trans hstakes⟩
    by_cases hdl : d ∈ l
    · rw [hrest.start d hdl, hsys]
    · obtain rfl : d = c := (List.mem_cons.mp hd).resolve_right hdl
      rw [← hreg]
      refine hrest.frame.1 _ fun hm => ?_
      obtain ⟨e, he, heq⟩ := List.mem_map.mp hm
      have : e = d := by simp only [CL_START_RND] at heq; omega
      exact hdl (this ▸ he)

theorem State.restartS_spec (s : State) : RoundsStarted (List.range 16) s s.restartS := State.foldl_startRound_spec _ s

theorem State.stepShown_spec (s : State) : Frame [TIME_EVT, TIME_STAT, TIME_ERR, TIME_OFS] [] s s.stepShown
    ∧ s.stepShown.reg TIME_ERR = 1000#32 ∧ s.stepShown.reg TIME_OFS = 0#32 ∧ s.stepShown.flag TIME_EVT_STEPPED = true
    ∧ s.stepShown.qual = qEstimated ∧ s.stepShown.servo = svAcquiring := by
  have hdef : s.stepShown = ((((s.raise TIME_EVT_STEPPED).setQual qEstimated).sf TIME_STAT_SERVO svAcquiring).setReg TIME_ERR 1000#32).setReg TIME_OFS 0#32 := rfl
  rw [hdef]
  have hraise := Frame.raise s TIME_EVT_STEPPED
  have hflag := State.flag_raise_self s TIME_EVT_STEPPED rfl (by decide)
  generalize s.raise TIME_EVT_STEPPED = a at *
  have hqframe := a.setQual_frame qEstimated
  obtain ⟨hqual, hqkept⟩ := a.setQual_spec (q := qEstimated) (by decide)
  generalize a.setQual qEstimated = b at *
  have hsf := Frame.sf b TIME_STAT_SERVO svAcquiring
  have hservo : (b.sf TIME_STAT_SERVO svAcquiring).servo = svAcquiring := by
    rw [State.servo, State.rf_sf_self _ _ _ (by decide) (by decide)]
    rfl
  have hskept := FieldsKept.sf b TIME_STAT_SERVO svAcquiring
  generalize b.sf TIME_STAT_SERVO svAcquiring = c at *
  have herr := Frame.setReg c TIME_ERR 1000#32
  have herrReg := State.reg_setReg_self c TIME_ERR 1000#32
  generalize c.setReg TIME_ERR 1000#32 = d at *
  have hofs := Frame.setReg d TIME_OFS 0#32
  have hofsReg := State.reg_setReg_self d TIME_OFS 0#32
  generalize d.setReg TIME_OFS 0#32 = t at *
  have hlast : Frame [TIME_ERR, TIME_OFS] [] c t := (herr.mono (by simp) (by simp)).step hofs
  refine ⟨(hraise.mono (by decide) (by simp)).step hqframe |>.step hsf |>.step hlast, (hofs.1 _ (by decide)).trans herrReg, hofsReg, ?_, ?_,
    (hlast.rf (by decide)).trans hservo⟩
  · rw [State.flag, hlast.rf (by decide), (hqkept.trans hskept) TIME_EVT_STEPPED (.inr rfl) (by decide)]
    exact hflag
  · exact ((hlast.rf (by decide)).trans (hskept TIME_STAT_QUAL (.inl rfl) (by decide))).trans hqual

/-- A state whose time is stepped. -/
structure TimeStepped (x : Trans) (s t : State) : Prop where
  frame : Frame ([TIME_EVT, TIME_STAT, TIME_ERR, TIME_OFS] ++ regFile CL_START_RND 16)
    [.sys, .hoop, .weave, .border, .net, .ports, .pair, .compute] s t
  tod : t.tod = s.tod - x.ofs
  sys : t.sys = { s.sys with roundNo := s.gridRound (s.tod - x.ofs) }
  err : t.reg TIME_ERR = 1000#32
  ofs : t.reg TIME_OFS = 0#32
  stepped : t.flag TIME_EVT_STEPPED = true
  qual : t.qual = qEstimated
  servo : t.servo = svAcquiring
  filt : t.hoop.filt = 0
  trans : t.hoop.trans = some { x with stepped := some t.sys.roundNo }
  queue : t.hoop.queue = s.hoop.queue
  start : ∀ c, c < 16 → t.reg (CL_START_RND c) = BitVec.ofNat 32 t.sys.roundNo
  stakes : t.compute.stakes = s.compute.stakes

theorem State.timeStepped_spec (s : State) (x : Trans) : TimeStepped x s ((s.timeMoved x.ofs).transStepped x).restartS.stepShown := by
  obtain ⟨hmoved, htod, hsys, hqueue⟩ := s.timeMoved_spec x.ofs
  generalize s.timeMoved x.ofs = a at *
  obtain ⟨hstep, hstepTod, hfilt, htrans, hstepQueue⟩ := a.transStepped_spec x
  generalize a.transStepped x = b at *
  have hrest := b.restartS_spec
  generalize b.restartS = c at *
  obtain ⟨hshown, herr, hofs, hstepped, hqual, hservo⟩ := c.stepShown_spec
  generalize c.stepShown = t at *
  have hsysT : t.sys = a.sys := by rw [hshown.2 .sys (by simp), hrest.frame.2 .sys (by simp), hstep.2 .sys (by simp)]
  have hhoopT : t.hoop = b.hoop := by rw [hshown.2 .hoop (by simp), hrest.frame.2 .hoop (by simp)]
  have hnowT : t.now = b.now := by rw [hshown.2 .now (by simp), hrest.frame.2 .now (by simp)]
  have hcomputeC : c.compute.stakes = s.compute.stakes :=
    hrest.stakes.trans (congrArg Compute.stakes ((hstep.2 .compute (by simp)).trans (hmoved.2 .compute (by simp))))
  refine ⟨?_, ?_, hsysT.trans hsys, herr, hofs, hstepped, hqual, hservo, by rw [hhoopT, hfilt], by rw [hhoopT, htrans, hsysT],
    by rw [hhoopT, hstepQueue, hqueue], fun c hc => ?_, ?_⟩
  · have hb : Frame ([TIME_EVT, TIME_STAT, TIME_ERR, TIME_OFS] ++ regFile CL_START_RND 16)
        [.sys, .hoop, .weave, .border, .net, .ports, .pair, .compute] s b := (hmoved.mono (by simp) (by simp)).step hstep
    exact (hb.step hrest.frame (fun _ h => List.mem_append_right _ h) (by simp)).step hshown (fun _ h => List.mem_append_left _ h) (by simp)
  · rw [State.tod_congr hnowT (by rw [hhoopT]) (by rw [hhoopT]), hstepTod, htod]
  · have hne : CL_START_RND c ∉ [TIME_EVT, TIME_STAT, TIME_ERR, TIME_OFS] := by
      simp only [List.mem_cons, List.not_mem_nil, or_false, CL_START_RND, TIME_EVT, TIME_STAT, TIME_ERR, TIME_OFS]
      omega
    rw [hshown.1 _ hne, hrest.start c (List.mem_range.mpr hc), hsysT, hstep.2 .sys (by simp)]
  · exact (congrArg Compute.stakes (hshown.2 .compute (by simp))).trans hcomputeC

/-! ### Snapshots (R332) -/

/-- The registers of a snapshot. -/
def State.snapped (s : State) : State :=
  let t := s.tod
  let s := ((s.setRegN TIME_SNAP_SHI (todSec t / 2 ^ 32)).setRegN TIME_SNAP_SLO (todSec t)).setRegN TIME_SNAP_NS (todNs t)
  let s := s.setRegN TIME_SNAP_FRAC (todFrac t * 65536)
  (s.setRegN TIME_SNAP_RLO s.sys.roundNo).setRegN TIME_SNAP_RHI (s.sys.roundNo / 2 ^ 32 % 65536)

theorem State.snapWrite_eq (s : State) (a : Nat) : s.snapWrite a 1#32 = if (a != 0 && a != 2) = true then s.err else s.snapped.ok 0#32 := rfl

/-- A snapshot of a time and a round. -/
structure Snapped (tod : Int) (round : Nat) (t : State) : Prop where
  slo : (t.reg TIME_SNAP_SLO).toNat = todSec tod % 2 ^ 32
  shi : (t.reg TIME_SNAP_SHI).toNat = todSec tod / 2 ^ 32 % 2 ^ 32
  ns : (t.reg TIME_SNAP_NS).toNat = todNs tod
  frac : (t.reg TIME_SNAP_FRAC).toNat = todFrac tod * 65536
  rlo : (t.reg TIME_SNAP_RLO).toNat = round % 2 ^ 32
  rhi : (t.reg TIME_SNAP_RHI).toNat = round / 2 ^ 32 % 65536

theorem todNs_lt (x : Int) : todNs x < 2 ^ 32 := by
  simp only [todNs, s16, ns16]
  omega

theorem todFrac_lt (x : Int) : todFrac x * 65536 < 2 ^ 32 := by
  simp only [todFrac, ns16]
  omega

theorem State.snapped_eq (s : State) : s.snapped = (((((s.setRegN TIME_SNAP_SHI (todSec s.tod / 2 ^ 32)).setRegN TIME_SNAP_SLO (todSec s.tod)).setRegN
    TIME_SNAP_NS (todNs s.tod)).setRegN TIME_SNAP_FRAC (todFrac s.tod * 65536)).setRegN TIME_SNAP_RLO s.sys.roundNo).setRegN TIME_SNAP_RHI
      (s.sys.roundNo / 2 ^ 32 % 65536) := by
  unfold State.snapped
  dsimp only
  rw [State.setRegN_sys, State.setRegN_sys, State.setRegN_sys, State.setRegN_sys]

theorem State.snapped_frame (s : State) : Frame (regsIn TIME_SNAP_SHI TIME_SNAP_RHI) [] s s.snapped := by
  have hin : ∀ a ∈ [TIME_SNAP_SHI, TIME_SNAP_SLO, TIME_SNAP_NS, TIME_SNAP_FRAC, TIME_SNAP_RLO, TIME_SNAP_RHI], a ∈ regsIn TIME_SNAP_SHI TIME_SNAP_RHI := by
    decide
  rw [State.snapped_eq]
  have hall : Frame [TIME_SNAP_SHI, TIME_SNAP_SLO, TIME_SNAP_NS, TIME_SNAP_FRAC, TIME_SNAP_RLO, TIME_SNAP_RHI] [] s _ :=
    (Frame.refl _ _ s).step (Frame.setRegN s TIME_SNAP_SHI (todSec s.tod / 2 ^ 32)) |>.step (Frame.setRegN _ TIME_SNAP_SLO (todSec s.tod))
      |>.step (Frame.setRegN _ TIME_SNAP_NS (todNs s.tod)) |>.step (Frame.setRegN _ TIME_SNAP_FRAC (todFrac s.tod * 65536))
      |>.step (Frame.setRegN _ TIME_SNAP_RLO s.sys.roundNo) |>.step (Frame.setRegN _ TIME_SNAP_RHI (s.sys.roundNo / 2 ^ 32 % 65536))
  exact hall.mono hin (by simp)

/-- A register after a number was put there. -/
theorem State.reg_setRegN_self (s : State) (a v : Nat) : ((s.setRegN a v).reg a).toNat = v % 2 ^ 32 := by
  rw [State.setRegN, State.reg_setReg_self, BitVec.toNat_ofNat]

theorem State.reg_setRegN_ne (s : State) {a b : Nat} (v : Nat) (h : b ≠ a) : (s.setRegN a v).reg b = s.reg b := State.reg_setReg_ne s h _

theorem State.snapped_shown (s : State) : Snapped s.tod s.sys.roundNo s.snapped := by
  have hns := Nat.mod_eq_of_lt (todNs_lt s.tod)
  have hfrac := Nat.mod_eq_of_lt (todFrac_lt s.tod)
  have hrhi : s.sys.roundNo / 2 ^ 32 % 65536 % 2 ^ 32 = s.sys.roundNo / 2 ^ 32 % 65536 := Nat.mod_eq_of_lt (by omega)
  rw [State.snapped_eq]
  generalize s.tod = x at *
  generalize s.sys.roundNo = k at *
  constructor
  · rw [State.reg_setRegN_ne _ _ (by decide), State.reg_setRegN_ne _ _ (by decide), State.reg_setRegN_ne _ _ (by decide),
      State.reg_setRegN_ne _ _ (by decide), State.reg_setRegN_self]
  · rw [State.reg_setRegN_ne _ _ (by decide), State.reg_setRegN_ne _ _ (by decide), State.reg_setRegN_ne _ _ (by decide),
      State.reg_setRegN_ne _ _ (by decide), State.reg_setRegN_ne _ _ (by decide), State.reg_setRegN_self]
  · rw [State.reg_setRegN_ne _ _ (by decide), State.reg_setRegN_ne _ _ (by decide), State.reg_setRegN_ne _ _ (by decide), State.reg_setRegN_self, hns]
  · rw [State.reg_setRegN_ne _ _ (by decide), State.reg_setRegN_ne _ _ (by decide), State.reg_setRegN_self, hfrac]
  · rw [State.reg_setRegN_ne _ _ (by decide), State.reg_setRegN_self]
  · rw [State.reg_setRegN_self, hrhi]

theorem timeSnap_refused {a : Agent} (hr : s.reaches a TIME_SNAP true = true) (ha : a.val ≠ 0 ∧ a.val ≠ 2) : Errs (.timeSnap a) s [] fun _ => True := by
  have hwrite : (s.ok 0#32).snapWrite a.val 1#32 = (s.ok 0#32).err := by
    rw [State.snapWrite_eq, if_pos (by simpa using ha)]
  exact Errs.of_write (a := a) rfl hr hwrite rfl ((Frame.ok s 0#32).step (Frame.err _)) fun _ _ => trivial

theorem timeSnap_taken {a : Agent} (hr : s.reaches a TIME_SNAP true = true) (ha : a.val = 0 ∨ a.val = 2) :
    Does (.timeSnap a) s (regsIn TIME_SNAP_SHI TIME_SNAP_RHI) [.bus] fun t => t.bus.err = false ∧ Snapped s.tod s.sys.roundNo t := by
  have hok := Frame.ok s 0#32
  have hwrite : (s.ok 0#32).snapWrite a.val 1#32 = (s.ok 0#32).snapped.ok 0#32 := by
    rw [State.snapWrite_eq, if_neg (by simp only [Bool.and_eq_true, bne_iff_ne]; omega)]
  have hsame : (s.ok 0#32).tod = s.tod ∧ (s.ok 0#32).sys = s.sys := ⟨rfl, rfl⟩
  have hsnap := (s.ok 0#32).snapped_frame
  have hshown := (s.ok 0#32).snapped_shown
  rw [hsame.1, hsame.2] at hshown
  generalize (s.ok 0#32).snapped = c at *
  have hdone := Frame.ok c 0#32
  have hreg (x : Nat) : (c.ok 0#32).reg x = c.reg x := hdone.1 x (by simp)
  have hbus : (c.ok 0#32).bus.err = false := rfl
  generalize c.ok 0#32 = t at *
  refine Does.of_write (a := a) rfl hr hwrite hbus ((hok.mono (by simp) (by simp)).step hsnap (fun _ h => h) (by simp) |>.step hdone) ⟨hbus, ?_⟩
  obtain ⟨h1, h2, h3, h4, h5, h6⟩ := hshown
  constructor <;> rw [hreg] <;> assumption

/-! ### Stamps (R332) -/

theorem find?_of_filter {α : Type} {p : α → Bool} {l m : List α} {r : α} (h : l.filter p = r :: m) : l.find? p = some r := by
  rw [← List.head?_filter, h]
  rfl

theorem filter_erase_eq {α : Type} [BEq α] [LawfulBEq α] (p : α → Bool) (l : List α) (r : α) : (l.erase r).filter p = (l.filter p).erase r := by
  induction l with
  | nil => rfl
  | cons x l ih =>
    by_cases hx : x = r
    · subst hx
      cases hp : p x with
      | true => rw [List.erase_cons_head, List.filter_cons_of_pos hp, List.erase_cons_head]
      | false =>
        rw [List.erase_cons_head, List.filter_cons_of_neg (by simp [hp]), List.erase_of_not_mem]
        exact fun hm => by simp [hp] at hm
    · rw [List.erase_cons_tail (by simpa using hx)]
      cases hp : p x with
      | true => rw [List.filter_cons_of_pos hp, List.filter_cons_of_pos hp, List.erase_cons_tail (by simpa using hx), ih]
      | false => rw [List.filter_cons_of_neg (by simp [hp]), List.filter_cons_of_neg (by simp [hp]), ih]

/-- The oldest stamp of a port taken. -/
def State.tsqTaken (s : State) (p : Nat) (r : TsqRec) : State :=
  let s := { s with hoop := { s.hoop with tsq := s.hoop.tsq.erase r } }
  let n := (s.hoop.tsq.filter fun (r : TsqRec) => r.port == p).length
  let s := s.sf (TIME_TSQ_STAT_COUNT p) n
  (s.setRegN (TIME_TSQ_NS p) (todNs r.time)).setRegN (TIME_TSQ_S p) (todSec r.time)

theorem State.tsqPop_empty {a p : Nat} (ha : ¬ 2 < a) (h : (s.hoop.tsq.filter fun (r : TsqRec) => r.port == p) = []) : s.tsqPop a p = s.ok 0#32 := by
  have hfind : (s.hoop.tsq.find? fun (r : TsqRec) => r.port == p) = none := by
    rw [← List.head?_filter, h]
    rfl
  rw [State.tsqPop, if_neg (by simpa [Nat.blt_eq] using ha), hfind]

theorem State.tsqPop_some {a p : Nat} {r : TsqRec} {l : List TsqRec} (ha : ¬ 2 < a)
    (h : (s.hoop.tsq.filter fun (r : TsqRec) => r.port == p) = r :: l) :
    s.tsqPop a p = (s.tsqTaken p r).ok (BitVec.ofNat 32 (2 ^ 31 + r.seq)) := by
  rw [State.tsqPop, if_neg (by simpa [Nat.blt_eq] using ha), find?_of_filter h]
  rfl

/-- A stamp taken off the queue of a port. -/
structure TsqTaken (p : Nat) (r : TsqRec) (l : List TsqRec) (s t : State) : Prop where
  hoop : t.hoop = { s.hoop with tsq := t.hoop.tsq }
  mine : (t.hoop.tsq.filter fun r => r.port == p) = l
  others : ∀ j, j ≠ p → (t.hoop.tsq.filter fun r => r.port == j) = s.hoop.tsq.filter fun r => r.port == j
  count : t.rf (TIME_TSQ_STAT_COUNT p) = l.length % 32
  ns : t.reg (TIME_TSQ_NS p) = BitVec.ofNat 32 (todNs r.time)
  sec : t.reg (TIME_TSQ_S p) = BitVec.ofNat 32 (todSec r.time)

/-- The queue of stamps without one. -/
def State.tsqErased (s : State) (r : TsqRec) : State := { s with hoop := { s.hoop with tsq := s.hoop.tsq.erase r } }

theorem State.tsqErased_spec (s : State) (r : TsqRec) : Frame [] [.hoop] s (s.tsqErased r)
    ∧ (s.tsqErased r).hoop = { s.hoop with tsq := s.hoop.tsq.erase r } := ⟨Frame.withHoop s _, rfl⟩

theorem State.tsqTaken_eq (s : State) (p : Nat) (r : TsqRec) : s.tsqTaken p r =
    (((s.tsqErased r).sf (TIME_TSQ_STAT_COUNT p) ((s.tsqErased r).hoop.tsq.filter fun (r : TsqRec) => r.port == p).length).setRegN
      (TIME_TSQ_NS p) (todNs r.time)).setRegN (TIME_TSQ_S p) (todSec r.time) := rfl

theorem State.tsqTaken_spec {p : Nat} {r : TsqRec} {l : List TsqRec} (h : (s.hoop.tsq.filter fun (r : TsqRec) => r.port == p) = r :: l) :
    Frame [TIME_TSQ_STAT p, TIME_TSQ_NS p, TIME_TSQ_S p] [.hoop] s (s.tsqTaken p r) ∧ TsqTaken p r l s (s.tsqTaken p r) := by
  have hport : r.port = p := by
    have hm : r ∈ s.hoop.tsq.filter fun (r : TsqRec) => r.port == p := by rw [h]; exact List.mem_cons_self
    simpa using (List.mem_filter.mp hm).2
  rw [State.tsqTaken_eq]
  obtain ⟨herase, hhoop⟩ := s.tsqErased_spec r
  have hmine : ((s.tsqErased r).hoop.tsq.filter fun (r : TsqRec) => r.port == p) = l := by
    rw [hhoop]
    show (s.hoop.tsq.erase r).filter _ = l
    rw [filter_erase_eq, h, List.erase_cons_head]
  have hothers (j : Nat) (hj : j ≠ p) : ((s.tsqErased r).hoop.tsq.filter fun (r : TsqRec) => r.port == j) = s.hoop.tsq.filter fun r => r.port == j := by
    rw [hhoop]
    show (s.hoop.tsq.erase r).filter _ = _
    rw [filter_erase_eq, List.erase_of_not_mem]
    intro hm
    have hrj : r.port = j := by simpa using (List.mem_filter.mp hm).2
    exact hj (hrj.symm.trans hport)
  rw [hmine]
  generalize s.tsqErased r = a at *
  have hsf := Frame.sf a (TIME_TSQ_STAT_COUNT p) l.length
  have hcount : (a.sf (TIME_TSQ_STAT_COUNT p) l.length).rf (TIME_TSQ_STAT_COUNT p) = l.length % 32 :=
    State.rf_sf_self _ _ _ (by simp) (by simp)
  generalize a.sf (TIME_TSQ_STAT_COUNT p) l.length = b at *
  have hns := Frame.setRegN b (TIME_TSQ_NS p) (todNs r.time)
  have hnsReg : (b.setRegN (TIME_TSQ_NS p) (todNs r.time)).reg (TIME_TSQ_NS p) = BitVec.ofNat 32 (todNs r.time) := State.reg_setReg_self _ _ _
  generalize b.setRegN (TIME_TSQ_NS p) (todNs r.time) = c at *
  have hs := Frame.setRegN c (TIME_TSQ_S p) (todSec r.time)
  have hsReg : (c.setRegN (TIME_TSQ_S p) (todSec r.time)).reg (TIME_TSQ_S p) = BitVec.ofNat 32 (todSec r.time) := State.reg_setReg_self _ _ _
  generalize c.setRegN (TIME_TSQ_S p) (todSec r.time) = t at *
  have hregs : TIME_TSQ_STAT p ≠ TIME_TSQ_NS p ∧ TIME_TSQ_STAT p ≠ TIME_TSQ_S p ∧ TIME_TSQ_NS p ≠ TIME_TSQ_S p := by
    simp only [TIME_TSQ_STAT, TIME_TSQ_NS, TIME_TSQ_S]
    omega
  obtain ⟨h1, h2, h3⟩ := hregs
  have hthoop : t.hoop = a.hoop := by rw [hs.2 .hoop (by simp), hns.2 .hoop (by simp), hsf.2 .hoop (by simp)]
  refine ⟨(herase.mono (by simp) (by simp)).step hsf |>.step hns |>.step hs, by rw [hthoop, hhoop], by rw [hthoop, hmine],
    fun j hj => by rw [hthoop, hothers j hj], ?_, (hs.1 _ (by simp)).trans hnsReg, hsReg⟩
  rw [hs.rf (by simp), hns.rf (by simp)]
  exact hcount

theorem timeTsqPop_exec (a : Agent) (p : Fin 6) :
    exec (.timeTsqPop a p) s = .next (s.access a.val (TIME_TSQ_POP p.val) false 0#32 fun s => s.tsqPop a.val p.val) := rfl

theorem timeTsqPop_refused {a : Agent} {p : Fin 6} (hr : s.reaches a (TIME_TSQ_POP p.val) false = true) (ha : 2 < a.val) :
    Errs (.timeTsqPop a p) s [] fun _ => True := by
  refine Errs.of_read (timeTsqPop_exec a p) hr ?_
  rw [State.tsqPop, if_pos (by simpa [Nat.blt_eq] using ha)]

theorem timeTsqPop_empty {a : Agent} {p : Fin 6} (hr : s.reaches a (TIME_TSQ_POP p.val) false = true) (ha : a.val ≤ 2)
    (h : (s.hoop.tsq.filter fun (r : TsqRec) => r.port == p.val) = []) : Does (.timeTsqPop a p) s [] [.bus] fun t => t.bus = ⟨false, 0#32⟩ := by
  have hpop : (s.ok 0#32).tsqPop a.val p.val = (s.ok 0#32).ok 0#32 := State.tsqPop_empty (by omega) h
  exact Does.of_read (timeTsqPop_exec a p) hr hpop rfl ((Frame.ok s 0#32).step (Frame.ok _ _)) rfl

theorem timeTsqPop_taken {a : Agent} {p : Fin 6} {r : TsqRec} {l : List TsqRec} (hr : s.reaches a (TIME_TSQ_POP p.val) false = true)
    (ha : a.val ≤ 2) (h : (s.hoop.tsq.filter fun (r : TsqRec) => r.port == p.val) = r :: l) :
    Does (.timeTsqPop a p) s [TIME_TSQ_STAT p.val, TIME_TSQ_NS p.val, TIME_TSQ_S p.val] [.hoop, .bus] fun t =>
      t.bus = ⟨false, BitVec.ofNat 32 (2 ^ 31 + r.seq)⟩ ∧ TsqTaken p.val r l s t := by
  have hok := Frame.ok s 0#32
  have hpop : (s.ok 0#32).tsqPop a.val p.val = ((s.ok 0#32).tsqTaken p.val r).ok (BitVec.ofNat 32 (2 ^ 31 + r.seq)) :=
    State.tsqPop_some (by omega) h
  have hoopOk : (s.ok 0#32).hoop = s.hoop := rfl
  obtain ⟨htakenFrame, htaken⟩ := (s.ok 0#32).tsqTaken_spec (p := p.val) (r := r) (l := l) h
  generalize (s.ok 0#32).tsqTaken p.val r = b at *
  have hdone := Frame.ok b (BitVec.ofNat 32 (2 ^ 31 + r.seq))
  have hbus : (b.ok (BitVec.ofNat 32 (2 ^ 31 + r.seq))).bus = ⟨false, BitVec.ofNat 32 (2 ^ 31 + r.seq)⟩ := rfl
  generalize b.ok (BitVec.ofNat 32 (2 ^ 31 + r.seq)) = t at *
  have hhoop : t.hoop = b.hoop := hdone.2 .hoop (by simp)
  have hframe : Frame [TIME_TSQ_STAT p.val, TIME_TSQ_NS p.val, TIME_TSQ_S p.val] [.bus, .hoop] s b := (hok.mono (by simp) (by simp)).step htakenFrame
  have hreg (x : Nat) : t.reg x = b.reg x := hdone.1 x (by simp)
  refine Does.of_read (timeTsqPop_exec a p) hr hpop (by rw [hbus]) ((hframe.step hdone).mono (fun _ h => h) (by simp)) ⟨hbus, ?_⟩
  have hmine := htaken.mine
  have hothers := htaken.others
  have hset := htaken.hoop
  rw [hoopOk] at hothers hset
  exact ⟨by rw [hhoop, ← hset], by rw [hhoop, hmine], fun j hj => by rw [hhoop, hothers j hj], (hdone.rf (by simp)).trans htaken.count,
    (hreg _).trans htaken.ns, (hreg _).trans htaken.sec⟩

/-! ### The RTC period (R340) -/

theorem rtcPeriodMeasure_off {per : BitVec 48} (h : s.hubUp = false) : exec (.rtcPeriodMeasure per) s = .next s := by
  have hexec : exec (.rtcPeriodMeasure per) s = execRtcPeriodMeasure per s := rfl
  rw [hexec, execRtcPeriodMeasure, h]
  rfl

theorem rtcPeriodMeasure_on {per : BitVec 48} (h : s.hubUp = true) :
    Does (.rtcPeriodMeasure per) s [] [.hoop] fun t => t.hoop = { s.hoop with rtcPer := per.toNat } := by
  have hexec : exec (.rtcPeriodMeasure per) s = execRtcPeriodMeasure per s := rfl
  rw [execRtcPeriodMeasure, h] at hexec
  exact ⟨_, hexec, Frame.withHoop s _, rfl⟩

theorem timeStep_idle (h : s.hoop.trans = none) : exec .timeStep s = .next s := by
  have hexec : exec .timeStep s = execTimeStep s := rfl
  rw [hexec, execTimeStep, h]

/-- Settles O43: a lost master passes through HOLDOVER to the next one, a confirmed step only names a transition, and the step moves
the time and the round with it. That a master is lost after three announcement intervals is log 71 (PRESUMED); that the servo acquires
after a step or with a new master, QUAL kept with the latter, is log 146. -/
theorem timeStepsAndStamps : Obligations.TimeStepsAndStamps := by
  unfold Obligations.TimeStepsAndStamps
  intro s
  refine ⟨masterLost_none, fun m h => masterLost_some h, ⟨stepConfirm_idle, fun t0 o h hs => stepConfirm_spec h hs⟩, timeStep_idle,
    fun x hx => ?_, fun a hr => ⟨timeSnap_refused hr, fun ha => ?_⟩, fun a p hr => ⟨timeTsqPop_refused hr, timeTsqPop_empty hr,
    fun r l ha h => ?_⟩, fun per => ⟨rtcPeriodMeasure_off, rtcPeriodMeasure_on⟩⟩
  · have hexec := execTimeStep_some hx
    dsimp only
    refine ⟨fun hearly => ?_, fun hearly halarm => ?_, fun hearly halarm hmute => ?_, fun hearly halarm hmute => ?_⟩
    · rw [if_pos hearly] at hexec
      exact hexec
    · rw [if_neg (by simp [hearly]), if_pos halarm] at hexec
      obtain ⟨hf, h1, h2, h3, h4, h5, h6, h7⟩ := s.stepDrop_spec x
      exact ⟨_, hexec, hf, h1, h2, h3, h4, h5, h6, h7⟩
    · rw [if_neg (by simp [hearly]), if_neg (by simp [halarm]), if_pos hmute] at hexec
      exact hexec
    · rw [if_neg (by simp [hearly]), if_neg (by simp [halarm]), if_neg (by omega)] at hexec
      obtain ⟨hf, h1, h2, h3, h4, h5, h6, h7, h8, h9, h10, h11, h12⟩ := s.timeStepped_spec x
      exact ⟨_, hexec, hf, h1, h2, h3, h4, h5, h6, h7, h8, h9, h10, h11, h12⟩
  · obtain ⟨t, hx, hf, hok, hslo, hshi, hns, hfrac, hrlo, hrhi⟩ := timeSnap_taken hr ha
    exact ⟨t, hx, hf, hok, hslo, hshi, hns, hfrac, hrlo, hrhi⟩
  · obtain ⟨t, hx, hf, hbus, h1, h2, h3, h4, h5, h6⟩ := timeTsqPop_taken hr ha h
    exact ⟨t, hx, hf, hbus, h1, h2, h3, h4, h5, h6⟩

end Sys2Proof.Machine
end
